-- ==== Sys2Proof/Word.lean ====
section
/-! DEFINITION. The word types of the block and their plainest arithmetic (00_scope R19, R30): bytes, 32-bit registers,
64-bit point values, and the canonical sparse store every indexed table of the machine is held in. -/
namespace Sys2Proof

/-- One byte. -/
abbrev Byte := BitVec 8
/-- A byte string, lowest address first. -/
abbrev Bytes := List (BitVec 8)
/-- A 32-bit register (R19). -/
abbrev Word := BitVec 32
/-- A 64-bit point value (R30). -/
abbrev Val := BitVec 64

/-- A sparse table: pairs of key and value, keys strictly rising, no value equal to the value an unlisted key reads as
(the type's default, the reset value of one element). -/
structure SMap (α : Type) where
  entries : List (Nat × α)
  deriving DecidableEq, Repr, Inhabited

/-- The empty table: every key reads as the default. -/
def SMap.empty {α : Type} : SMap α := ⟨[]⟩

/-- Look a key up in a rising list of pairs. -/
def SMap.find {α : Type} (k : Nat) : List (Nat × α) → Option α
  | [] => none
  | (j, v) :: t => if j = k then some v else SMap.find k t

/-- The value at a key, `d` where the key is unlisted. -/
def SMap.getD {α : Type} (m : SMap α) (k : Nat) (d : α) : α := (SMap.find k m.entries).getD d

/-- The value at a key, the type's default where the key is unlisted. -/
def SMap.get {α : Type} [Inhabited α] (m : SMap α) (k : Nat) : α := m.getD k default

/-- Put a value at a key of a rising list of pairs; `none` takes the key out. -/
def SMap.put {α : Type} (k : Nat) (v : Option α) : List (Nat × α) → List (Nat × α)
  | [] => match v with | some x => [(k, x)] | none => []
  | (j, w) :: t =>
    if j < k then (j, w) :: SMap.put k v t
    else if j = k then (match v with | some x => (k, x) :: t | none => t)
    else (match v with | some x => (k, x) :: (j, w) :: t | none => (j, w) :: t)

/-- Write a key, `d` being what an unlisted key reads as: writing `d` takes the entry out. -/
def SMap.setD {α : Type} [DecidableEq α] (m : SMap α) (k : Nat) (d v : α) : SMap α :=
  ⟨SMap.put k (if v = d then none else some v) m.entries⟩

/-- Write a key of a table whose unlisted keys read as the type's default. -/
def SMap.set {α : Type} [Inhabited α] [DecidableEq α] (m : SMap α) (k : Nat) (v : α) : SMap α := m.setD k default v

/-- Change the value at a key. -/
def SMap.upd {α : Type} [Inhabited α] [DecidableEq α] (m : SMap α) (k : Nat) (f : α → α) : SMap α := m.set k (f (m.get k))

/-- Change every listed value. -/
def SMap.mapV {α : Type} [Inhabited α] [DecidableEq α] (m : SMap α) (f : Nat → α → α) : SMap α :=
  ⟨m.entries.filterMap fun e => if f e.1 e.2 = default then none else some (e.1, f e.1 e.2)⟩

/-- The canonical table that reads as `m` does. -/
def SMap.canon {α : Type} [Inhabited α] [DecidableEq α] (m : SMap α) : SMap α := m.entries.foldr (fun e a => a.set e.1 e.2) SMap.empty

/-- Keys strictly rise, every key above `lo`. -/
def SMap.rising {α : Type} (lo : Option Nat) : List (Nat × α) → Bool
  | [] => true
  | (j, _) :: t => (match lo with | some b => decide (b < j) | none => true) && SMap.rising (some j) t

/-- The canonical form, `d` being what an unlisted key reads as. -/
def SMap.wfD {α : Type} [DecidableEq α] (m : SMap α) (d : α) : Bool :=
  SMap.rising none m.entries && m.entries.all (fun e => decide (e.2 ≠ d))

/-- The canonical form of a table whose unlisted keys read as the type's default. -/
def SMap.wf {α : Type} [Inhabited α] [DecidableEq α] (m : SMap α) : Bool := m.wfD default

end Sys2Proof
end

