-- ==== Sys2Proof/Machine/StCommon.lean ====
section
/-! DEFINITION. Data types several blocks share: status codes (R26), point types (R29), launch queue entries (R57), commit
status, and what the controller sends outward. -/
namespace Sys2Proof.Machine
open Sys2Proof

/-- Completion and commit status codes (R26). -/
inductive Status where
  | ok | inProgress | badOpcode | badField | range | busy | state | noResource | checksum | version | aborted | timeout
  | faulted | denied | noTarget | staleInput
  deriving DecidableEq, Repr, Inhabited

/-- The code of a status (R26). -/
def Status.code : Status → Nat
  | .ok => 0 | .inProgress => 1 | .badOpcode => 2 | .badField => 3 | .range => 4 | .busy => 5 | .state => 6
  | .noResource => 7 | .checksum => 8 | .version => 9 | .aborted => 10 | .timeout => 11 | .faulted => 12 | .denied => 13
  | .noTarget => 14 | .staleInput => 15

/-- Point types (R29). -/
inductive PType where
  | none | bool | int32 | uint32 | int64 | uint64 | real32 | real64 | fix24 | time | enum16 | blobRef
  deriving DecidableEq, Repr, Inhabited

/-- The TYPE byte of a point type (R29). -/
def PType.code : PType → Nat
  | .none => 0 | .bool => 1 | .int32 => 2 | .uint32 => 3 | .int64 => 4 | .uint64 => 5 | .real32 => 6 | .real64 => 7
  | .fix24 => 8 | .time => 9 | .enum16 => 10 | .blobRef => 11

/-- The point type a TYPE byte names; none for the reserved codes 0x0C to 0xFF (R29). -/
def PType.ofCode : Nat → Option PType
  | 0 => some .none | 1 => some .bool | 2 => some .int32 | 3 => some .uint32 | 4 => some .int64 | 5 => some .uint64
  | 6 => some .real32 | 7 => some .real64 | 8 => some .fix24 | 9 => some .time | 10 => some .enum16 | 11 => some .blobRef
  | _ => Option.none

/-- A launch queue entry (R57), with the host command that awaits its launch, where one does. -/
structure LqEntry where
  instant : Nat
  fine : Nat
  lateRun : Bool
  action : Nat
  tag : Nat
  cmd : Option Nat
  deriving DecidableEq, Repr, Inhabited

/-- A block's COMMIT_STATUS: the status of its last commit, and whether one waits for its boundary (R12). -/
structure CommitStat where
  status : Status
  pending : Bool
  deriving DecidableEq, Repr, Inhabited

/-- What the controller sends outward: PCIe memory writes and MSI-X vectors (R103, R131), Ethernet, CAN and Walig frames,
management UART frames, and PMBus reads. -/
inductive Out where
  | host (addr : Nat) (data : Bytes)
  | irq (vector : Nat)
  | eth (port : Nat) (start : Nat) (frame : Bytes)
  | can (controller : Nat) (frame : Bytes)
  | walig (port : Nat) (msg : Bytes)
  | heartbeat (port lane : Nat) (data : Bytes)
  | uart (data : Bytes)
  | pmbus (device : Nat) (command : Nat)
  | jtag (data : Bytes)
  deriving DecidableEq, Repr

end Sys2Proof.Machine
end

