-- ==== Sys2Proof/Machine/StAnv.lean ====
section
/-! DEFINITION. State of the Anvil cores (09_anvil_core) and of the loop slots (10_loops). -/
namespace Sys2Proof.Machine
open Sys2Proof

/-- A register write on its way through the pipeline (R295): register, issue cycle, the cycle from which a class A operation that reads an
accumulator sees it, the cycle from which everyone else does. -/
structure AnvWrite where
  reg : Nat
  issue : Nat
  fast : Nat
  slow : Nat
  val : Nat
  deriving DecidableEq, Repr, Inhabited

/-- A store on its way to data memory (R295): bank (0 Left, 1 Right), address, the cycle from which a load sees it. -/
structure AnvStore where
  bank : Nat
  addr : Nat
  due : Nat
  val : Nat
  deriving DecidableEq, Repr, Inhabited

/-- A DO in progress: first and last instruction, passes left. -/
structure AnvDo where
  first : Nat
  last : Nat
  left : Nat
  deriving DecidableEq, Repr, Inhabited

/-- A code block's place on its core (R305, R307). -/
structure AnvPlace where
  words : List Nat
  entry : Nat
  scale : Nat
  budget : Nat
  base : Nat
  lbase : Nat
  lwords : Nat
  rbase : Nat
  rwords : Nat
  deriving DecidableEq, Repr, Inhabited

/-- A routine under way (R300): core slot, loop slot, start in ps, cycles used, the pc as an offset in its block, the branch in its delay
slots, the loop and return stacks, and what is in the pipeline. For a standard law only the cost is kept. -/
structure AnvRun where
  slot : Nat
  loop : Nat
  t0 : Nat
  startPs : Nat
  used : Nat
  budget : Nat
  pc : Nat
  br : Option (Nat × Nat)
  dos : List AnvDo
  rets : List Nat
  regs : SMap Nat
  writes : List AnvWrite
  stores : List AnvStore
  place : Option AnvPlace
  deriving DecidableEq, Repr, Inhabited

/-- One Anvil core (R278, R281, R312). Registers of a context are keyed 0 to 31 as MOV numbers them, 32 to 35 for A0 to A3, 36 for Z, N, E and
V, 37 LS, 38 VS, 39 SC. -/
structure AnvCore where
  retired : Bool
  selfTest : Bool
  run : Option AnvRun
  /-- ticks that wait: sample instant, core slot, loop slot (R301) -/
  pend : List (Nat × Nat × Nat)
  ctx : SMap (SMap Nat)
  pmem : SMap Nat
  left : SMap Nat
  right : SMap Nat
  lastSlot : Nat
  faultSlot : Nat
  faultCause : Nat
  faultPc : Nat
  faultAddr : Nat
  faultBank : Nat
  /-- when the core runs again after a swap (R300), and busy cycles by millisecond -/
  freePs : Nat
  busyMs : Nat
  busy : Nat
  busyLast : Nat
  deriving DecidableEq, Repr, Inhabited

/-- The state of one PID stage (R325), in units of 2^-47. -/
structure PidState where
  i : Int
  d : Int
  g : Int
  u : Int
  deriving DecidableEq, Repr, Inhabited

/-- The working store of a standard law: the two stages, the feedforward and lead-lag memories, the model (R325 to R327, R337). -/
structure LawState where
  a : PidState
  b : PidState
  ffx : Int
  ffy : Int
  llx : Int
  lly : Int
  out : Int
  /-- the effective setpoint of the last sample: the inner one of CASCADE (R335) -/
  sp : Int
  model : List Int
  /-- law outputs, newest first (R337) -/
  us : List Int
  deriving DecidableEq, Repr, Inhabited

/-- Loop modes (R331). -/
inductive LoopMode where
  | man | auto | cas
  deriving DecidableEq, Repr, Inhabited

/-- The code of a mode (R330). -/
def LoopMode.code : LoopMode → Nat
  | .man => 0 | .auto => 1 | .cas => 2

/-- The output latch of a sample (R302). -/
structure LoopLatch where
  outs : List Int
  en : Nat
  status : Nat
  deriving DecidableEq, Repr, Inhabited

/-- A sample under way (R322): its instant, inputs and IN_OK, the setpoint the law used, the injected value, whether its routine was
stopped, whether no core runs it, and what it ended with. -/
structure LoopSample where
  t0 : Nat
  ins : List Int
  okMask : Nat
  inj : Int
  injecting : Bool
  testing : Bool
  sp : Int
  u : Int
  limited : Bool
  stopped : Bool
  lost : Bool
  publish : Bool
  track : Option Int
  latch : Option LoopLatch
  deriving DecidableEq, Repr, Inhabited

/-- A mode request that waits for its sample (R333): mode (none: the manual output only), the manual output where one is given, the
instant, its command. -/
structure ModeReq where
  mode : Option LoopMode
  man : Option Int
  from' : Nat
  cmd : Option Nat
  deriving DecidableEq, Repr, Inhabited

/-- States of a tuning test (ANV_LOOP TUNE_STATE). -/
inductive TuneState where
  | none | recording | injecting | fitting | result | aborted | failed
  deriving DecidableEq, Repr, Inhabited

/-- The TUNE_STATE code. -/
def TuneState.code : TuneState → Nat
  | .none => 0 | .recording => 1 | .injecting => 2 | .fitting => 3 | .result => 4 | .aborted => 5 | .failed => 6

/-- What a fit leaves (R347, R348): the numbers as their REAL64 codes. -/
structure TuneResult where
  reason : Nat
  samples : Nat
  k : Nat
  t : Nat
  theta : Nat
  fit : Nat
  rms : Nat
  kp : Nat
  ti : Nat
  rlim : Nat
  dead : Nat
  deriving DecidableEq, Repr, Inhabited

/-- A tuning test (R344 to R349): its request, samples since its start and since injection, the fit PV at injection start, the shift
register, the records (u, PV). -/
structure Tune where
  state : TuneState
  req : Bytes
  cmd : Option Nat
  n : Nat
  pv0 : Int
  lfsr : Nat
  recs : List (Int × Int)
  applied : Option (Nat × Option Nat)
  res : Option TuneResult
  deriving DecidableEq, Repr, Inhabited

/-- What the 1 ms copy and the journal keep of a loop (R341, R343). -/
structure LoopSave where
  seq : Nat
  at' : Nat
  epoch : Nat
  mode : LoopMode
  hold : Bool
  backup : Bool
  quench : Bool
  man : Int
  ctx : SMap Nat
  law : LawState
  words : List Nat
  deriving DecidableEq, Repr, Inhabited

/-- A descriptor accepted for a loaded slot that waits for its first sample (R320): descriptor, core, core slot, place, from when. -/
structure LoopNext where
  desc : Bytes
  core : Nat
  slot : Nat
  place : Option AnvPlace
  from' : Nat
  deriving DecidableEq, Repr, Inhabited

/-- A loop slot (R313 to R351). An empty slot has no descriptor. -/
structure Loop where
  desc : Option Bytes
  core : Nat
  slot : Nat
  place : Option AnvPlace
  next : Option LoopNext
  /-- LAW NONE: the loop stops at its next sample (R320) -/
  unload : Bool
  due : Nat
  domOff : Int
  notBefore : Nat
  mode : LoopMode
  man : Int
  hold : Bool
  holdImplaus : Bool
  backup : Bool
  quench : Bool
  implaus : Bool
  /-- consecutive samples within R_LIM while implausible (R338, FLAG) -/
  good : Nat
  relocated : Bool
  resumed : Bool
  coreLost : Bool
  transfer : Bool
  /-- the next sample presets the integrator to the last output (R320, R338, R349) -/
  preset : Bool
  reqs : List ModeReq
  replies : List (Nat × Nat × Status)
  samples : Nat
  open' : List LoopSample
  held : List Int
  heldEn : Nat
  heldOk : Bool
  /-- inputs of the last sample -/
  ins : List Int
  law : LawState
  resid : Int
  count : Nat
  stops : Nat
  limited : Bool
  lastT0 : Nat
  latchHi : Nat
  tune : Tune
  copy : Option LoopSave
  deriving DecidableEq, Repr, Inhabited

/-- The Anvil array and its loops. -/
structure Anv where
  core : SMap AnvCore
  loop : SMap Loop
  memData : Nat
  memDone : Bool
  memStatus : Status
  deriving DecidableEq, Repr, Inhabited

end Sys2Proof.Machine
end

