-- ==== Sys2Proof/Machine/StCan.lean ====
section
/-! DEFINITION. State of the CAN FD controllers (16_canfd R477 to R495). -/
namespace Sys2Proof.Machine
open Sys2Proof

/-- Fault confinement of a controller (R492). -/
inductive CanState where
  | off | errorActive | errorPassive | busOff
  deriving DecidableEq, Repr, Inhabited

/-- The STATE code (CAN_CTL). -/
def CanState.code : CanState → Nat
  | .off => 0 | .errorActive => 1 | .errorPassive => 2 | .busOff => 3

/-- A frame to send (R482 to R485): its launch entry, its 80 bytes, whether it is eligible, attempts made, start of its last attempt. -/
structure CanFrame where
  e : LqEntry
  frame : Bytes
  eligible : Bool
  attempts : Nat
  sof : Option Nat
  deriving DecidableEq, Repr, Inhabited

/-- A controller. -/
structure CanCtl where
  desc : Bytes
  /-- accepted descriptors that wait for the end of the frame on the bus, with their commands (R480) -/
  next : List (Bytes × Nat)
  state : CanState
  integrating : Bool
  recovering : Bool
  lec : Nat
  tec : Nat
  recv : Nat
  tdcv : Nat
  /-- frames in order of arrival (R485), or the occupied buffers (R486) -/
  q : List CanFrame
  /-- HANDLE of the frame whose transmission is under way (R488) -/
  underway : Option Nat
  filters : List Bytes
  prod : Nat
  cons : Nat
  sinceIrq : Nat
  gap : Bool
  overflowNoted : Bool
  lastSof : Nat
  latchHi : Nat
  deriving DecidableEq, Repr, Inhabited

/-- The CAN FD controllers. -/
structure Can where
  ctl : SMap CanCtl
  deriving DecidableEq, Repr, Inhabited

end Sys2Proof.Machine
end

