-- ==== Sys2Proof/Machine/StCap.lean ====
section
/-! DEFINITION. State of the Capture Engine and of Quench (12_capture): channels with their envelopes, history, segments and missed
triggers, group fires, and the Quench pins. Instants named `q` are in quarter nanoseconds. -/
namespace Sys2Proof.Machine
open Sys2Proof

/-- A channel descriptor (R380). -/
structure CapDesc where
  source : Nat
  input : Nat
  trig : Nat
  slope : Bool
  inside : Bool
  ring : Bool
  stop : Bool
  quench : Bool
  group : Nat
  master : Bool
  pre : Nat
  seg : Nat
  count : Nat
  levelA : Int
  levelB : Int
  ref : Nat
  qch : Nat
  skew : Int
  deriving DecidableEq, Repr, Inhabited

/-- A point of an envelope (R391). -/
structure MaskPoint where
  t : Nat
  lo : Int
  hi : Int
  deriving DecidableEq, Repr, Inhabited

/-- An envelope (R391). -/
structure CapMask where
  anchor : Nat
  persist : Nat
  points : List MaskPoint
  period : Nat
  phase : Nat
  deriving DecidableEq, Repr, Inhabited

/-- States of a channel (R382). -/
inductive CapState where
  | idle | disarmed | armed | post | rearm | full | stopped | recording
  deriving DecidableEq, Repr, Inhabited

/-- The STATE code of a channel state (R382). -/
def CapState.code : CapState → Nat
  | .idle => 0 | .disarmed => 1 | .armed => 2 | .post => 3 | .rearm => 4 | .full => 5 | .stopped => 6 | .recording => 7

/-- A sample of a channel's history: stamp, stored value (R390), whether its result had OVR, its Temper generation. -/
structure CapSample where
  q : Nat
  v : Int
  ovr : Bool
  tgen : Nat
  viol : Bool
  deriving DecidableEq, Repr, Inhabited

/-- A segment (R386): `pre` and `post` samples oldest first; for a loop recorder its records in `recs`. -/
structure CapSeg where
  index : Nat
  src : Nat
  module : Nat
  trig : Nat
  pre : List CapSample
  post : List CapSample
  spacing : Nat
  epoch : Nat
  missed : Nat
  gap : Bool
  degraded : Bool
  unlocked : Bool
  mixed : Bool
  skewStale : Bool
  preReq : Nat
  viol : Option Nat
  recs : List Bytes
  deriving DecidableEq, Repr, Inhabited

/-- A missed trigger (R389). -/
structure CapMiss where
  q : Nat
  reason : Nat
  module : Nat
  src : Nat
  index : Nat
  deriving DecidableEq, Repr, Inhabited

/-- A channel (R379 to R402). -/
structure CapCh where
  state : CapState
  desc : CapDesc
  mask : Option CapMask
  /-- an accepted envelope that waits for its anchor, with the command and since when (R393) -/
  maskNext : Option (CapMask × Nat × Nat)
  vcount : Nat
  /-- stamp of the first sample of the violating run -/
  runAt : Nat
  /-- samples count as history when stamped after this (R388) -/
  since : Nat
  hist : List CapSample
  prev : Option (Nat × Int)
  cond : Bool
  /-- the next sample is the first one in ARMED -/
  first : Bool
  /-- EDGE: the stream has been on the far side of LEVEL_B since the last trigger event -/
  primed : Bool
  cur : Option CapSeg
  stopAfter : Bool
  stopSent : Bool
  rearmAt : Nat
  next : Nat
  held : List CapSeg
  missed : Nat
  miss : List CapMiss
  missNoted : Bool
  violNoted : Bool
  /-- the latest trigger stamp of a stored segment, and of a mask violation (08_recipes R250) -/
  segStamp : Option Nat
  violStamp : Option Nat
  lastTrig : Nat
  /-- the stream of the channel has been DEGRADED -/
  degraded : Bool
  latchHi : Nat
  /-- the loop whose test a recorder holds (R385) -/
  loop : Nat
  lq : List LqEntry
  deriving DecidableEq, Repr, Inhabited

/-- A group fire on its way to this module's own channels (R401): domain trigger instant, source, group, and the channel whose mask STOP it
carries. -/
structure CapFire where
  q : Int
  group : Nat
  src : Nat
  stopCh : Option Nat
  deriving DecidableEq, Repr, Inhabited

/-- A group ARM that waits for its instant on the master (R400). -/
structure GroupArm where
  channel : Nat
  instant : Nat
  cmd : Option Nat
  acked : List Nat
  deriving DecidableEq, Repr, Inhabited

/-- The Capture Engine. -/
structure Cap where
  ch : SMap CapCh
  fires : List CapFire
  arms : List GroupArm
  missData : Bytes
  deriving DecidableEq, Repr, Inhabited

/-- A Quench pin (R395 to R398): its latch, the FATAL latch, the loops that assert, since when it is active, its last assertion, and a
release that waits for MIN_ACTIVE_US. -/
structure QchPin where
  latch : Bool
  srcCap : Bool
  fatal : Bool
  anv : List Nat
  activeSince : Option Nat
  last : Nat
  latchHi : Nat
  relWait : Bool
  relRefused : Bool
  mismatch : Bool
  deriving DecidableEq, Repr, Inhabited

/-- The Quench block. -/
structure Qch where
  pin : SMap QchPin
  deriving DecidableEq, Repr, Inhabited

end Sys2Proof.Machine
end

