-- ==== Sys2Proof/Machine/StCnv.lean ====
section
/-! DEFINITION. State of the converter array (11_converter): groups with their sequences and result queues, slices with their Temper
coefficients, and the Temper generation. Instants named `q` are in quarter nanoseconds. -/
namespace Sys2Proof.Machine
open Sys2Proof

/-- A Scan sequence entry (R358). -/
structure SeqEntry where
  input : Nat
  gain : Nat
  samp : Nat
  pub : Bool
  ofs : Int
  gcorr : Nat
  point : Nat
  deriving DecidableEq, Repr, Inhabited

/-- A group's configuration (R357); `seqs` holds the entries of its four slices. -/
structure CnvCfg where
  mode : Nat
  input : Nat
  shift : Nat
  pub : Bool
  avg : Nat
  pubDiv : Nat
  point : Nat
  period : Nat
  phase : Nat
  calEvery : Nat
  seqs : List (List SeqEntry)
  deriving DecidableEq, Repr, Inhabited

/-- A result-queue entry (R362); each result with its stamp. -/
structure QEntry where
  q : Nat
  kind : Nat
  input : Nat
  entry : Nat
  ovr : Bool
  bad : Bool
  degraded : Bool
  gap : Bool
  tgen : Nat
  results : List (Nat × Int)
  slice : Nat
  deriving DecidableEq, Repr, Inhabited

/-- A group: configuration, one that awaits its boundary with its command and whether it is for the whole array, the queue (newest first), the entry being filled. -/
structure CnvGroup where
  cfg : CnvCfg
  next : Option (CnvCfg × Nat × Bool)
  queue : List QEntry
  fill : Option QEntry
  gapNext : Bool
  slices : List Nat
  stopped : Bool
  degraded : Bool
  resumeAt : Option Nat
  results : Nat
  /-- results that wait for a slot of the publisher: point, input, result, stamp, overranged (R366) -/
  pend : List (Nat × Nat × Int × Nat × Bool)
  slotAt : Nat
  passes : Nat
  deferSince : Option Nat
  lastUpdate : Nat
  /-- the generation that corrects the group's entries -/
  tgen : Nat
  lastStamp : Nat
  latchHi : Nat
  deriving DecidableEq, Repr, Inhabited

/-- A slice: why it was removed, its pass, and the corrections in force (R367). -/
structure CnvSlice where
  failed : Nat
  /-- the entry of the pass in progress that is sampled next -/
  at' : Option Nat
  sinceCal : Nat
  calDue : Bool
  offset : Int
  gain : Int
  delay : Int
  taps : List Int
  deriving DecidableEq, Repr, Inhabited

/-- A foreground calibration under way (R368, R369): its command, none at a start. -/
structure FgRun where
  cmd : Option Nat
  started : Nat
  deriving DecidableEq, Repr, Inhabited

/-- A generation saved in settings (R368): its number, the die temperature, and the corrections of each slice: offset, gain, delay, taps. -/
structure TemperSave where
  tgen : Nat
  temp : Int
  corr : List (Int × Int × Int × List Int)
  deriving DecidableEq, Repr, Inhabited

/-- The converter array. -/
structure Cnv where
  ready : Bool
  clkOk : Bool
  stale : Bool
  b1 : Bool
  fg : Option FgRun
  tgen : Nat
  group : SMap CnvGroup
  slice : SMap CnvSlice
  /-- the die temperature at the last foreground run, while the generation in force rests on one (R390) -/
  fgTemp : Option Int
  /-- the die temperature at the last applied update (R372) -/
  updTemp : Int
  /-- the generation saved in settings (R368) -/
  saved : Option TemperSave
  deriving DecidableEq, Repr, Inhabited

end Sys2Proof.Machine
end

