-- ==== Sys2Proof/Machine/StPst.lean ====
section
/-! DEFINITION. State of the Point Store (02_point_store): records, point maps, forces, tiles and views. -/
namespace Sys2Proof.Machine
open Sys2Proof

/-- A point record (R30, R79). -/
structure PointRec where
  value : Val
  stamp : Nat
  seq : BitVec 32
  qual : BitVec 16
  type : PType
  epochLo : Nat
  maxAge : Nat
  /-- bits 15:12 writer class, bits 11:0 unit -/
  writer : BitVec 16
  hclass : Nat
  deriving DecidableEq, Repr, Inhabited

/-- A write on its way to a point (R80 to R82): writer class and unit, the type the writer names (none: the point's own), the
flags it supplies, its STAMP (none: the commit), and whether it is a mirrored input. -/
structure PWrite where
  id : Nat
  value : Val
  type : Option PType
  stamp : Option Nat
  qual : BitVec 16
  cls : Nat
  unit : Nat
  mirror : Bool
  deriving DecidableEq, Repr, Inhabited

/-- A point map entry (R76). -/
structure MapEntry where
  id : Nat
  type : PType
  retain : Bool
  forceable : Bool
  hclass : Nat
  maxAge : Nat
  name : Option Bytes
  init : Val
  writers : BitVec 16
  deriving DecidableEq, Repr, Inhabited

/-- A point map (R75). -/
structure PointMap where
  version : Nat
  build : Nat
  entries : List MapEntry
  deriving DecidableEq, Repr, Inhabited

/-- A force table entry (R88): the forced value and the shadow of the point. -/
structure Force where
  id : Nat
  type : PType
  value : Val
  setAt : Nat
  shValue : Val
  shStamp : Nat
  shQual : BitVec 16
  shSeq : BitVec 32
  deriving DecidableEq, Repr, Inhabited

/-- A journalled force (R91): id, type and value. -/
structure ForceJournal where
  id : Nat
  type : PType
  value : Val
  deriving DecidableEq, Repr, Inhabited

/-- A subscribed point of a view (R95, R97): base for the GAP comparison, delivery instant of the previous record, the
pending slot's requests, and whether the present value's STALE_MARK has been queued. -/
structure Sub where
  lastSeq : BitVec 32
  lastAt : Option Nat
  change : Bool
  stale : Bool
  snap : Bool
  staleDone : Bool
  deriving DecidableEq, Repr, Inhabited

/-- States of a view (PST_VIEW_STATUS). -/
inductive ViewState where
  | closed | open | faulted
  deriving DecidableEq, Repr, Inhabited

/-- A view descriptor (R93). -/
structure ViewDesc where
  base : Nat
  records : Nat
  msix : Nat
  consAddr : Nat
  minInterval : Nat
  heartbeat : Nat
  snapshot : Nat
  irqRecords : Nat
  deriving DecidableEq, Repr, Inhabited

/-- A view (R93 to R99). -/
structure View where
  state : ViewState
  desc : ViewDesc
  ids : List Nat
  subs : SMap Sub
  prod : Nat
  cons : Nat
  lastId : Nat
  hbRecords : Nat
  hbCoalesced : Nat
  sinceIrq : Nat
  deriving DecidableEq, Repr, Inhabited

/-- The Point Store. -/
structure Pst where
  ready : Bool
  /-- a pair partner can repair tiles (PST_STATUS.PAIRED_REPAIR, R85) -/
  repairAvail : Bool
  points : SMap PointRec
  map : Option PointMap
  forces : List Force
  /-- journalled forces wait for the first map after a restart (R91) -/
  forcesWait : Bool
  /-- tiles that wait for repair (R85), with the writes that wait for them -/
  badTiles : List Nat
  tileWrites : List PWrite
  /-- what a point held before each of its commits of the last 300 ns, newest first: point, commit instant, record before (10_loops R321) -/
  recent : List (Nat × Nat × PointRec)
  badCount : Nat
  lastBad : Nat × Nat
  scrubTile : Nat
  peek : Bytes
  views : SMap View
  deriving DecidableEq, Repr, Inhabited

end Sys2Proof.Machine
end

