-- ==== Sys2Proof/Machine/StHrt.lean ====
section
/-! DEFINITION. State of Hearth (07_hearth): the ready queue, the held items, the dependency counters, the core pairs with the items
they run, the commits under way, the trace ring. -/
namespace Sys2Proof.Machine
open Sys2Proof

/-- A ready-queue descriptor (R229), with its enqueue instant and the pairs that must not take it (R232). -/
structure Desc where
  type : Nat
  source : Nat
  prio : Nat
  retry : Bool
  ref : Nat
  deadline : Nat
  limit : Nat
  context : Nat
  arg : Nat
  enqueued : Nat
  notOn : Option Nat
  deriving DecidableEq, Repr, Inhabited

/-- A staged effect of an item (R14, R165, R166, R235). -/
inductive Effect where
  | write (w : PWrite)
  | launch (src queue : Nat) (e : LqEntry) (frame : Bytes)
  | event (sev code payload : Nat)
  | alarm (sev cls item inst : Nat)
  | loopMode (slot : Nat) (auto : Option Bool) (man : Option (Val × PType))
  | axisMove (axis : Nat)
  deriving DecidableEq, Repr

/-- An item on a core pair: when it started and when its limit ends (R230), whether it is user code, its commit buffer (R235), the
instance data as it was at dispatch and the lines written (R237), and for user code its integer registers and scratch (R171, R173). -/
structure Run where
  desc : Desc
  started : Nat
  limitAt : Nat
  user : Bool
  staged : List Effect
  stampNext : Option Nat
  full : Bool
  noCredit : Bool
  undo : List (Nat × Bytes)
  lines : List Nat
  xregs : SMap (BitVec 64)
  scratch : SMap (BitVec 8)
  deriving DecidableEq, Repr, Inhabited

/-- A core pair. -/
structure Core where
  retired : Bool
  run : Option Run
  freedAt : Nat
  /-- source of the last item whose WDONE passed the compare, before another started (R238) -/
  lastSource : Option Nat
  deriving DecidableEq, Repr, Inhabited

/-- A commit under way in the commit unit (R236). -/
structure CommitJob where
  desc : Desc
  core : Nat
  effects : List Effect
  status : Nat
  /-- when its WDONE passed the compare -/
  since : Nat
  deriving DecidableEq, Repr, Inhabited

/-- A trace record (R242). -/
structure TraceRec where
  stamp : Nat
  epoch : Nat
  seq : Nat
  kind : Nat
  core : Nat
  source : Nat
  ctrl : Nat
  ref : Nat
  slack : Int
  status : Nat
  level : Nat
  deriving DecidableEq, Repr, Inhabited

/-- Hearth. -/
structure Hrt where
  ready : List Desc
  held : List Desc
  counters : SMap Nat
  cores : SMap Core
  commits : List CommitJob
  trace : List TraceRec
  traceSeq : Nat
  lastRetire : Nat × Nat × Nat
  retiredSince : Nat
  heldFirst : List Nat
  deriving DecidableEq, Repr, Inhabited

end Sys2Proof.Machine
end

