-- ==== Sys2Proof/Machine/StCyc.lean ====
section
/-! DEFINITION. State of the Cycle Engine (04_cycle_engine) and of the Weld (05_online_change): program slots with their images and instance
data, the running classes, the on-line change under way. -/
namespace Sys2Proof.Machine
open Sys2Proof

/-- A class record (R157), with its input points and output stations. -/
structure ClassRec where
  cls : Nat
  prio : Nat
  ovrLate : Bool
  domain : Bool
  wdLimit : Nat
  period : Nat
  phase : Nat
  outOfs : Nat
  firstItem : Nat
  itemCount : Nat
  inputs : List Nat
  outputs : List Nat
  deriving DecidableEq, Repr, Inhabited

/-- A user type record (R158). -/
structure TypeRec where
  entry : Nat
  wcet : Nat
  dataBytes : Nat
  stack : Nat
  deriving DecidableEq, Repr, Inhabited

/-- A work item record (R159), with its successors. -/
structure ItemRec where
  type : Nat
  cls : Nat
  firstInst : Nat
  instCount : Nat
  preds : Nat
  succs : List Nat
  deriving DecidableEq, Repr, Inhabited

/-- An instance descriptor (R160) with the instance's initial data. -/
structure InstRec where
  off : Nat
  type : Nat
  init : Bytes
  deriving DecidableEq, Repr, Inhabited

/-- A program image (R156). -/
structure Image where
  version : Nat
  ecn : Nat
  build : Nat
  mapBuild : Nat
  bytes : Nat
  persist : Bool
  classes : List ClassRec
  types : List TypeRec
  items : List ItemRec
  insts : List InstRec
  code : Bytes
  deriving DecidableEq, Repr, Inhabited

/-- A program slot: its point map, its image, its instance data by instance. -/
structure Slot where
  map : Option PointMap
  image : Option Image
  data : SMap Bytes
  deriving DecidableEq, Repr, Inhabited

/-- States of the Cycle Engine (R151). -/
inductive CycState where
  | idle | loaded | running | stopped
  deriving DecidableEq, Repr, Inhabited

/-- Stop reasons (R154). -/
inductive StopReason where
  | none | command | watchdog | poolMin | weldFail | imageFault
  deriving DecidableEq, Repr, Inhabited

/-- The code of a stop reason (R154). -/
def StopReason.code : StopReason → Nat
  | .none => 0 | .command => 1 | .watchdog => 2 | .poolMin => 3 | .weldFail => 4 | .imageFault => 5

/-- A running class: its record, launch queue (R142), the domain offset its next instant was computed with (R140), the present cycle
(instant, input image, pending items, overrun), and its counts. -/
structure ClassRun where
  active : Bool
  info : ClassRec
  lq : List LqEntry
  domOff : Int
  latched : Bool
  t0 : Nat
  image : SMap (Option PointRec)
  pending : Nat
  ovr : Bool
  wd : Nat
  execLast : Nat
  cycles : Nat
  latchHi : Nat
  deriving DecidableEq, Repr, Inhabited

/-- States of a Weld (R202). -/
inductive WeldState where
  | none | copying | waiting | switching | probation | reverting
  deriving DecidableEq, Repr, Inhabited

/-- The code of a Weld state (R202). -/
def WeldState.code : WeldState → Nat
  | .none => 0 | .copying => 1 | .waiting => 2 | .switching => 3 | .probation => 4 | .reverting => 5

/-- A carry operation (R187). -/
structure CarryOp where
  newWord : Nat
  oldWord : Nat
  op : Nat
  deriving DecidableEq, Repr, Inhabited

/-- A carry map entry (R185) with its operations; KEEP has none. -/
structure CarryEntry where
  newInst : Nat
  oldInst : Nat
  convert : Bool
  ops : List CarryOp
  deriving DecidableEq, Repr, Inhabited

/-- What triggered a revert (R197). -/
inductive WeldTrigger where
  | none | overrun | skipped | itemFault | imageFault | watchdog | command
  deriving DecidableEq, Repr, Inhabited

/-- The on-line change: state, probation cycles asked for and left, the carry map, the commands that await it, passes, the tracked
lines of old instance data, candidates deferred, W, the gap, when WAITING or REVERTING began, and the records of points
that the new map removed (R198). `inGap` is true while a revert's gap runs. -/
structure Weld where
  state : WeldState
  newSlot : Nat
  probation : Nat
  left : Nat
  carry : List CarryEntry
  cmd : Option Nat
  revertCmd : Option Nat
  passes : Nat
  dirty : List Nat
  deferred : Nat
  at' : Nat
  latchHi : Nat
  gapUs : Nat
  lastStatus : Status
  since : Nat
  trigger : WeldTrigger
  inGap : Bool
  removed : List (Nat × PointRec)
  deriving DecidableEq, Repr, Inhabited

/-- The Cycle Engine. `lastFault`: item, class, cause, status, first instance. -/
structure Cyc where
  state : CycState
  slot : Nat
  stopReason : StopReason
  slots : SMap Slot
  classes : SMap ClassRun
  stopAt : Option Nat
  startCmd : Option Nat
  stopCmd : Option Nat
  autoStarting : Bool
  lastFault : Nat × Nat × Nat × Nat × Nat
  weld : Weld
  deriving DecidableEq, Repr, Inhabited

end Sys2Proof.Machine
end

