-- ==== Sys2Proof/Machine/StFbk.lean ====
section
/-! DEFINITION. State of the Feedback Interfaces (14_feedback R430 to R448): channels with their counts, speeds, index checks and compare
lists. -/
namespace Sys2Proof.Machine
open Sys2Proof

/-- An accepted change of the raw count: its stamp, the instant it was accepted, r and P after it (R432, R435, R437). -/
structure FbkChange where
  stamp : Nat
  acc : Nat
  r : Int
  p : Int
  deriving DecidableEq, Repr, Inhabited

/-- An entry of a compare list (R442). -/
structure CmpEntry where
  pos : Int
  dir : Nat
  deriving DecidableEq, Repr, Inhabited

/-- A channel (R430 to R446). -/
structure FbkCh where
  /-- the descriptor in force; empty while OFF -/
  desc : Bytes
  /-- accepted levels of PIN_A (bit 0), PIN_B, PIN_C -/
  lv : Nat
  sector : Nat
  r : Int
  p : Int
  /-- r and P before the oldest change kept -/
  r0 : Int
  p0 : Int
  /-- the last change of P was negative (R437), the last change of r was negative (R439) -/
  neg : Bool
  rneg : Bool
  /-- changes, newest first, as far back as the speed and a latch look -/
  chg : List FbkChange
  /-- magnitude of the last computed speed (R439) -/
  vmag : Int
  /-- stamps of the counting errors of the last 1 ms, newest first -/
  errs : List Nat
  bad : Bool
  /-- consecutive SSI frames in error, and valid ones -/
  badRun : Nat
  goodRun : Nat
  ssiPrev : Option Int
  /-- instant of the SSI frame under way -/
  frame : Option Nat
  implaus : Bool
  run : Nat
  idxGood : Nat
  i0 : Option Int
  /-- r at the last index, or where the distance restarted (R440) -/
  idxR : Int
  idxAt : Nat
  idxObs : Int
  idxDev : Int
  list : List CmpEntry
  /-- the armed head fires in the negative direction -/
  armNeg : Bool
  done : Nat
  /-- end of the compare pulse in progress, the last falling edge, fires that wait for the pin (R445) -/
  pulseEnd : Option Nat
  lastFall : Option Nat
  fireWait : Nat
  lastFire : Nat
  snapP : Int
  snapV : Int
  posHi : Nat
  idxHi : Nat
  fireHi : Nat
  deriving DecidableEq, Repr, Inhabited

/-- The Feedback Interfaces. -/
structure Fbk where
  ch : SMap FbkCh
  snapAt : Nat
  snapHi : Nat
  /-- FBK_SNAP_AT_LO has not been read since the last SNAP -/
  snapUnread : Bool
  deriving DecidableEq, Repr, Inhabited

end Sys2Proof.Machine
end

