-- ==== Sys2Proof/Machine/StIle.lean ====
section
/-! DEFINITION. State of the Interlock Engine (06_interlock_engine): image, markers, timers, edge and alarm memories, output images,
fallback. -/
namespace Sys2Proof.Machine
open Sys2Proof

/-- An input table entry (R219). -/
structure IleInput where
  id : Nat
  fail : Bool
  deriving DecidableEq, Repr, Inhabited

/-- A compare table entry (R220). -/
structure IleCompare where
  id : Nat
  op : Nat
  fail : Bool
  limit : Val
  hyst : Val
  deriving DecidableEq, Repr, Inhabited

/-- An Interlock Engine image (R219): the types its points had in the map it was checked against. -/
structure IleImage where
  version : Nat
  build : Nat
  bytes : Nat
  period : Nat
  phase : Nat
  outOfs : Nat
  domain : Bool
  persist : Bool
  inputs : List IleInput
  compares : List IleCompare
  presets : List Nat
  ilkStations : List Nat
  fbStations : List Nat
  code : List Nat
  types : SMap PType
  stackMax : Nat
  deriving DecidableEq, Repr, Inhabited

/-- A timer: the ACC of its last scan, its start, and whether it runs (R210). -/
structure IleTimer where
  prev : Bool
  ts : Nat
  run : Bool
  deriving DecidableEq, Repr, Inhabited

/-- A stored point: its output image, and what was last written and when (R214). -/
structure IleOut where
  bit : Bool
  written : Option (Bool × Nat)
  deriving DecidableEq, Repr, Inhabited

/-- States of the Interlock Engine (ILE_STATUS). -/
inductive IleState where
  | empty | running | fallback | faulted
  deriving DecidableEq, Repr, Inhabited

/-- The code of a state. -/
def IleState.code : IleState → Nat
  | .empty => 0 | .running => 1 | .fallback => 2 | .faulted => 3

/-- A loaded image that awaits its switch (R222), with the command that awaits its first scan. -/
structure IleNext where
  image : IleImage
  at' : Nat
  cmd : Option Nat
  deriving DecidableEq, Repr, Inhabited

/-- The Interlock Engine. `fbFirst`: the next scan is the first of a takeover; `hand`: the first cycle instant of the program that ends
fallback (R226); `handOut`: the instant its first output set launches; `fbEnd`: FB_END was written; `skipTo`: scan instants before it are
skipped (R217). -/
structure Ile where
  state : IleState
  image : Option IleImage
  next : Option IleNext
  domOff : Int
  scanned : Bool
  lastScan : Nat
  latchScanHi : Nat
  markers : SMap Bool
  timers : SMap IleTimer
  edges : SMap (Option Bool)
  alarms : SMap Bool
  compares : SMap Bool
  outs : SMap IleOut
  fbOuts : SMap IleOut
  lost : List Nat
  fbAt : Nat
  latchFbHi : Nat
  fbReason : Nat
  fbFirst : Bool
  hand : Option Nat
  handOut : Option Nat
  fbEnd : Bool
  skipTo : Nat
  deriving DecidableEq, Repr, Inhabited

/-- An instruction's opcode (R204). -/
def ileOp (w : Nat) : Nat := w / 2 ^ 25 % 128
/-- An instruction's operand (R204). -/
def ileArg (w : Nat) : Nat := w % 2 ^ 25

/-- Instructions before FALLBACK (R205). -/
def ileMain (m : IleImage) : List Nat := m.code.takeWhile (ileOp · != 0x7C)
/-- Instructions from FALLBACK on (R205). -/
def ileFallback (m : IleImage) : List Nat := m.code.dropWhile (ileOp · != 0x7C)

/-- The points a section stores, each once, in list order. -/
def ileStores (l : List Nat) : List Nat :=
  l.foldl (fun a w => if 0x68 ≤ ileOp w ∧ ileOp w ≤ 0x6B ∧ !a.contains (ileArg w) then a ++ [ileArg w] else a) []

end Sys2Proof.Machine
end

