-- ==== Sys2Proof/Machine/StMot.lean ====
section
/-! DEFINITION. State of the Motion Engine (13_motion R408 to R429): axes with their profile buffers, motion, steps and driver power.
Positions are in units of 2^-16 count. -/
namespace Sys2Proof.Machine
open Sys2Proof

/-- States of an axis (R412). -/
inductive AxState where
  | off | disabled | standstill | moving | homing | stopping | fault | transition
  deriving DecidableEq, Repr, Inhabited

/-- The STATE code of an axis state (R412). -/
def AxState.code : AxState → Nat
  | .off => 0 | .disabled => 1 | .standstill => 2 | .moving => 3 | .homing => 4 | .stopping => 5 | .fault => 6 | .transition => 7

/-- A knot of a profile (R413): T_US, POS, VEL. -/
structure Knot where
  t : Nat
  pos : Int
  vel : Int
  deriving DecidableEq, Repr, Inhabited

/-- A loaded profile table. -/
structure Profile where
  relative : Bool
  knots : List Knot
  deriving DecidableEq, Repr, Inhabited

/-- What gives the commanded position (R414, R419, R421): rest; a profile from its start instant, its knots already absolute; or a
velocity that changes at AMAX from (instant, position, velocity) toward a target. -/
inductive Traj where
  | rest
  | profile (start : Nat) (knots : List Knot)
  | toward (t0 : Nat) (p0 v0 vt : Rat)
  deriving DecidableEq, Repr, Inhabited

/-- A homing under way (R421): method, phase (3: decelerating after the reference event), the position at the start of phase 2, consecutive
ticks at the stop, the instant of the timeout, its command. -/
structure Homing where
  method : Nat
  phase : Nat
  from' : Rat
  ticks : Nat
  due : Nat
  cmd : Option Nat
  deriving DecidableEq, Repr, Inhabited

/-- What AXIS_DRIVE 1 waits for (R423): PIN_PGOOD until an instant, the settle time, restore steps left with the next one's instant, the
1 ms after PIN_ENA. -/
inductive DriveWait where
  | none
  | pgood (until' : Nat)
  | settle (until' : Nat)
  | restore (left next : Nat)
  | enable (until' : Nat)
  deriving DecidableEq, Repr, Inhabited

/-- The journal record of an axis (R425). -/
structure AxisJournal where
  off : Bool
  homed : Bool
  phaseLost : Bool
  pos : Int
  phase : Nat
  crc : Nat
  at' : Nat
  epoch : Nat
  deriving DecidableEq, Repr, Inhabited

/-- An axis (R408 to R427). -/
structure Axis where
  /-- the descriptor in force; empty while OFF -/
  desc : Bytes
  state : AxState
  cause : Nat
  homed : Bool
  inpos : Bool
  inposSince : Option Nat
  phaseLost : Bool
  /-- commanded position and velocity -/
  pos : Int
  vel : Int
  act : Int
  /-- what is added to the feedback position: set by homing -/
  offs : Int
  fe : Int
  traj : Traj
  buf0 : Option Profile
  buf1 : Option Profile
  /-- the newest table is in buffer 1; the running move uses buffer 1 -/
  newest : Bool
  running : Option Bool
  seg : Nat
  /-- next interpolation tick -/
  tickAt : Option Nat
  /-- steps emitted, as a position in microsteps, and the microstep phase (R423) -/
  steps : Int
  phase : Nat
  /-- scheduled rising edges: instant, negative direction, moved later (R422) -/
  sched : List (Nat × Bool × Bool)
  dirNeg : Bool
  lastRise : Option Nat
  pulseEnd : Option Nat
  dirFree : Nat
  homing : Option Homing
  drive : DriveWait
  driveCmd : Option Nat
  stopCmds : List Nat
  /-- PIN_PGOOD has been active since the driver was powered -/
  pgoodSeen : Bool
  /-- input levels as last seen: LIMP, LIMN, HOME, PGOOD in bits 0 to 3 -/
  lv : Nat
  /-- the AXIS_MOVE block's view: 0 none, 1 busy, 2 done, 3 refused -/
  blk : Nat
  lq : List LqEntry
  cmdHi : Nat
  actHi : Nat
  deriving DecidableEq, Repr, Inhabited

/-- The Motion Engine. -/
structure Mot where
  ax : SMap Axis
  deriving DecidableEq, Repr, Inhabited

end Sys2Proof.Machine
end

