-- ==== Sys2Proof/Machine/StSeq.lean ====
section
/-! DEFINITION. State of the Step Sequencer (08_recipes R245 to R277): executors, and what the MRAM journal keeps of them. -/
namespace Sys2Proof.Machine
open Sys2Proof

/-- Executor states (R246). -/
inductive ExecState where
  | idle | loaded | running | held | aborting | done | aborted | resumable
  deriving DecidableEq, Repr, Inhabited

/-- The code of an executor state (R246). -/
def ExecState.code : ExecState → Nat
  | .idle => 0 | .loaded => 1 | .running => 2 | .held => 3 | .aborting => 4 | .done => 5 | .aborted => 6 | .resumable => 7

/-- A checkpoint (R265). -/
structure Checkpoint where
  state : ExecState
  step : Nat
  bseq : Nat
  b : Nat
  launched : Nat
  epoch : Nat
  entry : Nat
  loops : List (Nat × Nat)
  recipe : Nat
  deriving DecidableEq, Repr, Inhabited

/-- The journal of an executor (R266, R267): the image copy, the ring of checkpoints newest first (none: a slot that failed its verify),
and whether a failure is newer than the newest valid checkpoint. -/
structure RecipeJournal where
  image : Option Bytes
  ring : List (Option Checkpoint)
  failed : Bool
  deriving DecidableEq, Repr, Inhabited

/-- A running ramp (R258): its action's number, point, type, final value, start, duration and period in ns, start value, next tick. -/
structure Ramp where
  act : Nat
  id : Nat
  type : PType
  value : Val
  t0 : Nat
  dur : Nat
  tick : Nat
  v0 : Option Rat
  k : Nat
  deriving DecidableEq, Repr, Inhabited

/-- A decided boundary (R254, R260): its instant, the step entered (none: the recipe or the abort chain ends), ENTRY, loop counters after it,
the resume policy, the command it completes, its preparation's number and when that ended, modules whose ACK is awaited until an instant. -/
structure Bnd where
  inst : Nat
  step : Option Nat
  entry : Nat
  loops : List (Nat × Nat)
  policy : Nat
  cmd : Option Nat
  gen : Nat
  doneAt : Option Nat
  /-- a release or resume whose stations are checked again 10 µs before (R273) -/
  guarded : Bool
  waiting : List Nat
  ackDue : Nat
  sentAt : Nat
  deriving DecidableEq, Repr, Inhabited

/-- A request of an abort (R263): its instant, command, preparation. -/
structure AbortReq where
  inst : Nat
  cmd : Option Nat
  gen : Nat
  doneAt : Option Nat
  waiting : List Nat
  ackDue : Nat
  deriving DecidableEq, Repr, Inhabited

/-- An executor. -/
structure Exec where
  state : ExecState
  image : Option Bytes
  /-- current or held step; its reference instant, the instant its boundary launched (R265) -/
  step : Nat
  b : Nat
  launched : Nat
  bseq : Nat
  loops : List (Nat × Nat)
  ramps : List Ramp
  /-- OFFSET entries of the launch queue: instant and TAG (R260) -/
  lq : List (Nat × Nat)
  next : Option Bnd
  hold : Option (Nat × Option Nat)
  abort : Option AbortReq
  evalAt : Nat
  settle : Option Nat
  gen : Nat
  /-- restored from a checkpoint: L of R274, whether the restart was cold, whether only GOTO_SAFE_STEP and ABORT are accepted (R266, R268),
  and whether the checkpoint was in the abort chain -/
  lastRun : Nat
  cold : Bool
  limited : Bool
  restored : Bool
  chain : Bool
  noted : List Nat
  lastStatus : Status
  latchHi : Nat
  deriving DecidableEq, Repr, Inhabited

/-- The Step Sequencer. -/
structure Seq where
  exec : SMap Exec
  deriving DecidableEq, Repr, Inhabited

end Sys2Proof.Machine
end

