-- ==== Sys2Proof/Machine/StStn.lean ====
section
/-! DEFINITION. State of the Station Network (15_stations R449 to R476): ports, the station table, stations, discovered stations. -/
namespace Sys2Proof.Machine
open Sys2Proof

/-- An image in a port's launch queue (R452, R468). -/
structure StnOut where
  e : LqEntry
  station : Nat
  image : Bytes
  deriving DecidableEq, Repr, Inhabited

/-- Messages whose egress stamp the PTP instance keeps (01_timeline R51). -/
inductive TxKind where
  | plain | delayReq | pdelayReq | sync | pdelayResp
  deriving DecidableEq, Repr, Inhabited

/-- A frame in an egress queue (R451): its queue, its bytes without FCS, whether its wait has been counted, its PTP kind and sequence. -/
structure TxFrame where
  queue : Nat
  bytes : Bytes
  deferred : Bool
  kind : TxKind
  seq : Nat
  deriving DecidableEq, Repr, Inhabited

/-- A port (R449 to R453): the descriptor in force, link, queues, when the wire is free, and frame counts. -/
structure StnPort where
  desc : Bytes
  link : Bool
  lq : List StnOut
  q : List TxFrame
  /-- when the transmission in progress ends, and the launched frame before -/
  busy : Nat
  launched : Nat
  rx : Nat
  tx : Nat
  deriving DecidableEq, Repr, Inhabited

/-- States of a station (R464); UNUSED is a station outside the table. -/
inductive StnState where
  | unused | waitHello | configuring | run | lost | failed
  deriving DecidableEq, Repr, Inhabited

/-- The STATE code of a station state (R464). -/
def StnState.code : StnState → Nat
  | .unused => 0 | .waitHello => 1 | .configuring => 2 | .run => 3 | .lost => 4 | .failed => 5

/-- An image being reassembled (R467): IMAGE_SEQ, arrival of its first fragment, stamp it will carry, UNSYNC, fragments by index. -/
structure Reasm where
  seq : Nat
  first : Nat
  stamp : Nat
  /-- the SAMPLE_TIME its fragments carry -/
  sample : Nat
  unsync : Bool
  frags : SMap (Option Bytes)
  deriving DecidableEq, Repr, Inhabited

/-- A station of the table (R455 to R474). -/
structure Station where
  entry : Bytes
  /-- input points with the types of the layout, output points with types and SAFE_ON_INVALID, safe values -/
  ins : List (Nat × PType)
  outs : List (Nat × PType × Bool)
  safes : List Val
  state : StnState
  ver : Nat
  /-- of the latest HELLO -/
  hello : Option (Nat × Nat)
  sstate : Nat
  timedOut : Bool
  tokenConflict : Bool
  holdElapsed : Option Nat
  /-- when the latest HELLO came -/
  helloAt : Nat
  token : Nat
  /-- the latest HELLO reported HELD without TIMED_OUT and no OUTPUT has launched since (R472) -/
  held : Bool
  retries : Nat
  due : Nat
  retryAt : Nat
  wasLost : Bool
  reasm : Option Reasm
  /-- IMAGE_SEQ of the last committed image since RUN -/
  lastSeq : Option Nat
  inSeq : Nat
  lastIn : Nat
  latchHi : Nat
  unsync : Bool
  lastCommit : Nat
  /-- commit instants of the images of the last IN_PERIOD_US -/
  recent : List Nat
  dropNoted : Bool
  outSeq : Nat
  deriving DecidableEq, Repr, Inhabited

/-- A discovered station (R463). -/
structure Disc where
  mac : Bytes
  port : Nat
  verMin : Nat
  verMax : Nat
  vendor : Nat
  product : Nat
  deriving DecidableEq, Repr, Inhabited

/-- The Station Network. -/
structure Stn where
  port : SMap StnPort
  st : SMap Station
  build : Nat
  /-- the table kept in settings (R454) -/
  saved : Option Bytes
  disc : List Disc
  /-- TOKEN_EPOCH has been set since the restart, the highest epoch a HELLO reported before, a HELLO asks for a raise (R470) -/
  tokenSet : Bool
  helloMax : Nat
  raise : Bool
  deriving DecidableEq, Repr, Inhabited

end Sys2Proof.Machine
end

