-- ==== Sys2Proof/SyntaxTypes.lean ====
section
/-! DEFINITION. The types of the operands of commands that are more than numbers and byte strings. -/
namespace Sys2Proof

/-- How fetching one tile's 512 bytes went (R84 to R86). -/
inductive TileCheck where
  | good | corrected | failed | cacheCorrected | cacheCleanUncorrectable | cacheDirtyUncorrectable
  deriving DecidableEq, Repr

/-- What the ordinary RV64 code of a user item has done since its last custom instruction (07_hearth R170 to R173): integer registers written,
bytes written to its scratch (at an offset), bytes written to its instance data (instance, offset, bytes). -/
structure RvRun where
  regs : List (Nat × BitVec 64)
  scratch : List (Nat × Bytes)
  data : List (Nat × Nat × Bytes)
  deriving DecidableEq, Repr

/-- What the bytes of a region of a state transfer say in the internal layout of the firmware (18_pairing R525, R544). -/
inductive XferRegion where
  | pointStore (points : SMap Machine.PointRec)
  | forces (l : List Machine.Force)
  | programs (cyc : Machine.Cyc) (map : Option Machine.PointMap)
  | interlock (ile : Machine.Ile)
  | recipes (seq : Machine.Seq)
  | loops (anv : Machine.Anv)
  | axes (mot : Machine.Mot)
  | config (stn : Machine.Stn) (fbk : Machine.Fbk) (cnv : SMap Machine.CnvCfg) (can : Machine.Can) (cap : Machine.Cap)
  | pins (qch : Machine.Qch) (levels : Bytes)
  deriving DecidableEq, Repr

/-- What a member learns of the master's mapping beside the SYNC stamps (01_timeline R67, R69): its TAI_OFFSET, TAI_VALID, UTC_TAI, and whether
it has opened an Epoch since the last exchange. -/
structure MasterTime where
  taiOff : Int
  taiValid : Bool
  utcTai : Int
  opened : Bool
  deriving DecidableEq, Repr

/-- What a start meets outside the machine: the straps where POR_N rises (BOOT_MODE, RECOVERY_N high, PAIR_ID), which banks verify, whether the
running components pass their own start-up checks, whether the settings can be read, whether an MRAM mark and a coarse mark are readable, and
the reset time counted on the AON clock, where it is valid, whether the log region is usable, and which retired core pairs of Hearth and of the
Anvil array fail their self-test (19_hendel R559 to R561, R571, R574, 01_timeline R41, R42, 17_recorder R505,
07_hearth R240, 09_anvil_core R309). -/
structure StartIn where
  straps : Option (Nat × Bool × Bool)
  bankA : Bool
  bankB : Bool
  selfcheck : Bool
  settings : Bool
  mram : Bool
  coarse : Bool
  count : Option Nat
  logOk : Bool
  hrtFail : List Nat
  anvFail : List Nat
  deriving DecidableEq, Repr

end Sys2Proof
end

