-- ==== Sys2Proof/Syntax.lean ====
section
/-! DEFINITION. The commands of the block: one constructor for each row of spec/opcode_table.json, in the table's order, with the
row's operands: what the outside or the instant brings that the state does not already hold. -/
namespace Sys2Proof

/-- The commands of the PSC-9640, one for each row of the operation table. -/
inductive Instr where
  /-- POWER_ON_RESET (R595): POR_N low resets the whole part, Hendel and the always-on island included, and loses the last-gasp area. -/
  | powerOnReset
  /-- COLD_START (R560): The later rise of POR_N and SYS_RST_N runs the cold start sequence through to HIF_READY and the Point Store READY. `x`: what the start meets. -/
  | coldStart (x : StartIn)
  /-- WARM_RESTART (R561): A warm restart, from SYS_RST_N, BILLET_ACTIVATE, a fallback, HDL_CTRL.RESTART or a missing heartbeat, resets the control die, HBM and converter while Hendel runs. `cause`: 1 for SYS_RST_N, else the one due; `x`: what the start meets. -/
  | warmRestart (cause : Nat) (x : StartIn)
  /-- RAIL_UNDERVOLTAGE (R594): A monitored rail below 90 % of nominal holds the control and converter dies, or Hendel for VDD_AON, in reset. `aon`: the rail is VDD_AON; `t`: the instant. -/
  | railUndervoltage (aon : Bool) (t : Nat)
  /-- SUPPLY_FAULT (R563): A supply monitor outside its limits for 10 µs asserts FAULT_N and applies the fault action. `n`: the rail's sensor; `t`: the instant. -/
  | supplyFault (n t : Nat)
  /-- CLOCK_FAULT (R563): A clock absent or beyond ±1,000 ppm for 5 µs asserts FAULT_N and applies the fault action, or invalidates the warm-restart count for AON. `d`: the domain; `t`: the instant. -/
  | clockFault (d t : Nat)
  /-- TEMP_CRIT (R563): A junction above 110 °C for 10 ms asserts FAULT_N and applies the fault action. `n`: the sensor; `t`: the instant. -/
  | tempCrit (n t : Nat)
  /-- TEMP_TRIP (R563): A junction above 125 °C holds the control die in reset. `n`: the sensor; `t`: the instant. -/
  | tempTrip (n t : Nat)
  /-- TEMP_TRIP_RECOVERY (R563): Every TEMP sensor below 95 °C after a trip releases the control die into a cold start. `x`: what the start meets. -/
  | tempTripRecovery (x : StartIn)
  /-- FAULT_AUTO_RESTART (R563): With AUTO_RESTART set, a fault condition absent for 100 ms makes Hendel perform a warm restart. `t`: the instant. -/
  | faultAutoRestart (t : Nat)
  /-- SENSOR_READING (R562): Hendel reads a sensor on its period and publishes it to HDL_SENSOR and its point. `n`: the sensor; `v`: its value in the sensor's unit; `t`: the instant. -/
  | sensorReading (n : Nat) (v : Int) (t : Nat)
  /-- PMBUS_POLL (R564): Hendel reads a PMBus device's VOUT, IOUT, temperature and STATUS_WORD at its poll period. `d`: the device; `r`: the voltage, current and temperature readings and the status word, `none` where the device does not answer; `t`: the instant. -/
  | pmbusPoll (d : Nat) (r : Option (Int × Int × Int × Nat)) (t : Nat)
  /-- PMBUS_ALERT (R564): PMBUS_ALERT_N low makes Hendel read every device's STATUS_WORD within 1 ms. `words`: the status words of the configured devices, in order; `t`: the instant. -/
  | pmbusAlert (words : List (Option Nat)) (t : Nat)
  /-- HDL_WATCHDOG (R554): The 100 ms Hendel watchdog expires and restarts Hendel alone. `t`: the instant. -/
  | hdlWatchdog (t : Nat)
  /-- CONTROL_HEARTBEAT_MISSING (R561): The control firmware heartbeat missing for 100 ms with WD_RESTART set starts a warm restart. `t`: the instant. -/
  | controlHeartbeatMissing (t : Nat)
  /-- PAIR_WAIT_END (R532): The 200 ms wait for a PAIR_HELLO after a restart ends and autostart proceeds only if the module takes control. -/
  | pairWaitEnd
  /-- PROGRAM_AUTOSTART (R155): With AUTOSTART and a PERSIST image, the controller loads and starts the program at the first cycle instant after READY. `t`: the instant. -/
  | programAutostart (t : Nat)
  /-- ILE_AUTOSTART (R224): A PERSIST Interlock Engine image starts its first scan after READY and retained points are restored. `t`: the instant. -/
  | ileAutostart (t : Nat)
  /-- LOOP_PERSIST_START (R342): PERSIST loops start at their first sample after READY, resumed from the journal or in INIT_MODE. `n`: the loop slot; `t`: the instant; `bad`: how many of the newest journal copies fail their check. -/
  | loopPersistStart (n t bad : Nat)
  /-- RECIPE_AUTO_RESUME (R275): At the Cycle Engine START instant or READY, the controller issues RECIPE_RESUME with policy 0 for AUTO_RESUME executors. `t`: the instant. -/
  | recipeAutoResume (t : Nat)
  /-- TIMELINE_MARK_WRITE (R40): Every 10 ms a Timeline mark is written to the MRAM journal on both dies. `t`: the Timeline value of the mark. -/
  | timelineMarkWrite (t : Nat)
  /-- COARSE_MARK_WRITE (R40): Every 60 s Hendel writes a coarse Timeline mark to the flash time mark region. `t`: the instant. -/
  | coarseMarkWrite (t : Nat)
  /-- BOOT_BANK_WRITE_DONE (R557): Writing a PERSIST image to the boot bank completes and the new boot image takes force, or BOOT_BANK_FULL is recorded. `fits`: the bank has room for the copy; `t`: the instant. -/
  | bootBankWriteDone (fits : Bool) (t : Nat)
  /-- HOST_ACCESS_LOSS (R104): Link-down, FLR, Bus Master Enable clear, D3hot or PCIE_PERST_N disable every ring, close views and exports and return the version to 0. `link`: the link itself went down; `t`: the Timeline instant -/
  | hostAccessLoss (link : Bool) (t : Nat)
  /-- LINK_TRAINED (R105): The PCIe link trains and HIF_READY becomes 1, recording LINK_UP or LINK_DEGRADED. `speed`: the code of GLB_LINK; `width`: lanes. -/
  | linkTrained (speed width : Nat)
  /-- HIF_NEGOTIATE (R108): A write of GLB_HIF_REQ with GO negotiates the host interface version and reports it in GLB_HIF_ACT. -/
  | hifNegotiate
  /-- HIF_COMMIT (R111): A write of HIF_COMMIT checks and applies the staged ring settings. -/
  | hifCommit
  /-- SQ_ENABLE_WRITE (R112): A write of an SQ's ENABLE enables it with indices 0 or stops its fetching. -/
  | sqEnableWrite (n : Nat) (on : Bool)
  /-- CQ_ENABLE_WRITE (R112): A write of a CQ's ENABLE enables it with PHASE 1 or disables it so completions are discarded. -/
  | cqEnableWrite (n : Nat) (on : Bool)
  /-- SQ_DOORBELL (R114): A write to an SQ doorbell page sets the new tail, or halts the ring on an invalid value. `n`: the ring; `v`: the word written. -/
  | sqDoorbell (n : Nat) (v : Word)
  /-- CQ_DOORBELL (R114): A write to a CQ doorbell page returns entries up to the new head, or halts the CQ and its SQs on an invalid value. `n`: the ring; `v`: the word written. -/
  | cqDoorbell (n : Nat) (v : Word)
  /-- DESC_FETCH (R120): The controller fetches a descriptor from an SQ once credits and arbitration allow and starts the command. `n`: the submission ring; `d`: the 64 bytes of the descriptor, none where the read fails -/
  | descFetch (n : Nat) (d : Option Bytes)
  /-- COMMAND_SLICE (R123): An engine runs the next Slice of at most 20 µs of a sliced command. `h`: handle of the command; `n`: units of the Slice; `reach`: its buffers can be accessed; `torn`: the first capture segment was overwritten while copied -/
  | commandSlice (h n : Nat) (reach torn : Bool)
  /-- COMPLETION_WRITE (R122): A final completion is written to its CQ once the CQ has room, freeing the command's credit. `h`: the command's handle; `written`: the write succeeds on the link. -/
  | completionWrite (h : Nat) (written : Bool)
  /-- PROGRESS_ENTRY (R124): Every PROGRESS_MS an IN_PROGRESS entry is written for a running command with PROGRESS, or skipped. -/
  | progressEntry (h t : Nat)
  /-- CQ_IRQ_TIMER (R131): IRQ_TIME after the first unsignalled entry, the CQ raises its MSI-X vector. -/
  | cqIrqTimer (n : Nat)
  /-- REGISTER_WRITE (R25): A write to a register field without a row of its own takes effect per its access type. `a`: BAR0 address; `v`: the value written -/
  | registerWrite (a : Nat) (v : Word)
  /-- COUNTER_READ (R25): A read of an RC counter returns it and clears it to 0. `a`: BAR0 address -/
  | counterRead (a : Nat)
  /-- LO_LATCH_READ (R203): A read of a LO register latches its HI partner for a consistent 64-bit read. `a`: BAR0 address -/
  | loLatchRead (a : Nat)
  /-- TMB_NOW_READ (R34): A read of TMB_NOW_LO latches TMB_NOW_HI and TMB_NOW_FRAC from one TIME edge. -/
  | tmbNowRead
  /-- COMMIT_APPLY (R12): A pending block commit reaches its safe boundary and applies the whole staged set, reporting COMMIT_STATUS. `w`: window number; `t`: the Timeline instant of the boundary -/
  | commitApply (w t : Nat)
  /-- NOP (R127): The NOP command completes with no effect. `h`: the handle of the command in flight. -/
  | nop (h : Nat)
  /-- ABORT (R125): ABORT stops a named sliced command at its next Slice boundary. `h`: the handle of the command in flight. -/
  | abort (h : Nat)
  /-- TIME_READ (R127): TIME_READ writes the Timeline, TMB_STATUS and the current Epoch record. `h`: handle of the command; `written`: the data buffer can be written -/
  | timeRead (h : Nat) (written : Bool)
  /-- POINT_READ (R74): POINT_READ writes READ or SHADOW records of the listed points, checked for freshness. `h`: handle of the command; `data`: the ids; `fails`: tiles that fail their check when fetched for it -/
  | pointRead (h : Nat) (data : Option Bytes) (fails : List Nat)
  /-- POINT_WRITE (R129): POINT_WRITE applies write entries in order, each as its own commit group. `h`: handle of the command; `data`: the entries -/
  | pointWrite (h : Nat) (data : Option Bytes)
  /-- POINT_LOOKUP (R127): POINT_LOOKUP returns the ids of named points. `h`: handle of the command; `data`: the names -/
  | pointLookup (h : Nat) (data : Option Bytes)
  /-- MAP_LOAD (R78): MAP_LOAD checks and loads a point map into a program slot. `h`: handle of the command; `data`: the image -/
  | mapLoad (h : Nat) (data : Option Bytes)
  /-- VIEW_OPEN (R93): VIEW_OPEN opens a view with its descriptor and id list. `h`: handle of the command; `data`: the ids; `desc`: the view descriptor -/
  | viewOpen (h : Nat) (data : Option Bytes) (desc : Bytes)
  /-- VIEW_CHANGE (R93): VIEW_CHANGE replaces an open view's descriptor and ids whole. `h`: handle of the command; `data`: the ids; `desc`: the view descriptor; `cons`: the consumer index read at the CONS_ADDR of the open view -/
  | viewChange (h : Nat) (data : Option Bytes) (desc : Bytes) (cons : Option Nat)
  /-- VIEW_CLOSE (R99): VIEW_CLOSE closes a view. `h`: the handle of the command in flight. -/
  | viewClose (h : Nat)
  /-- VIEW_SNAPSHOT (R95): VIEW_SNAPSHOT queues a SNAPSHOT record for every subscribed point. `h`: the handle of the command in flight. -/
  | viewSnapshot (h : Nat)
  /-- FORCE_SET (R88): FORCE_SET forces points, saving their shadows. `h`: handle of the command; `data`: the entries -/
  | forceSet (h : Nat) (data : Option Bytes)
  /-- FORCE_CLEAR (R90): FORCE_CLEAR writes shadows back and clears forces. `h`: handle of the command; `data`: the ids -/
  | forceClear (h : Nat) (data : Option Bytes)
  /-- FORCE_LIST (R127): FORCE_LIST writes READ and SHADOW records of forced points. `h`: handle of the command -/
  | forceList (h : Nat)
  /-- PROGRAM_LOAD (R161): PROGRAM_LOAD checks and loads a program image into a slot. `h`: handle of the command; `data`: the image -/
  | programLoad (h : Nat) (data : Option Bytes)
  /-- PROGRAM_START (R152): PROGRAM_START puts the slot's map in force and starts each class at its first cycle instant. `h`: the handle of the command in flight. -/
  | programStart (h : Nat)
  /-- PROGRAM_STOP (R153): PROGRAM_STOP latches no cycle at or after its instant and stops the program. `h`: the handle of the command in flight. -/
  | programStop (h : Nat)
  /-- WELD (R182): WELD checks a carry map and begins copying for an on-line change. `h`: the handle; `data`: the carry map, none when the buffer cannot be read. -/
  | weld (h : Nat) (data : Option Bytes)
  /-- WELD_CONFIRM (R196): WELD_CONFIRM ends probation with confirmation. `h`: the handle of the command in flight. -/
  | weldConfirm (h : Nat)
  /-- WELD_REVERT (R197): WELD_REVERT abandons a Weld before W or reverts it during probation. `h`: the handle of the command in flight. -/
  | weldRevert (h : Nat)
  /-- ILE_LOAD (R221): ILE_LOAD checks an Interlock Engine image and schedules its switch. `h`: handle of the command; `data`: the image -/
  | ileLoad (h : Nat) (data : Option Bytes)
  /-- RECIPE_LOAD (R253): RECIPE_LOAD checks a recipe image, loads it and journals it. `h`: handle of the command; `data`: the image -/
  | recipeLoad (h : Nat) (data : Option Bytes)
  /-- RECIPE_START (R263): RECIPE_START sets the first boundary entering the named step. -/
  | recipeStart (h : Nat)
  /-- RECIPE_HOLD (R263): RECIPE_HOLD makes the executor enter HELD at the next boundary. -/
  | recipeHold (h : Nat)
  /-- RECIPE_RELEASE (R263): RECIPE_RELEASE meets a HOST end condition or releases a held step. -/
  | recipeRelease (h : Nat)
  /-- RECIPE_ABORT (R263): RECIPE_ABORT cancels pending boundaries and enters the abort chain or ABORTED. -/
  | recipeAbort (h : Nat)
  /-- RECIPE_RESUME (R269): RECIPE_RESUME resumes a RESUMABLE executor under a policy at R. -/
  | recipeResume (h : Nat)
  /-- LOOP_LOAD (R318): LOOP_LOAD checks, places and loads a loop descriptor. `h`: the handle; `data`: the descriptor with its code block, none when the buffer cannot be read. -/
  | loopLoad (h : Nat) (data : Option Bytes)
  /-- LOOP_MODE (R333): LOOP_MODE sets a loop's mode at the first sample at or after I. `h`: the handle of the command in flight. -/
  | loopMode (h : Nat)
  /-- LOOP_TUNE (R344): LOOP_TUNE starts a tuning test with a test signal and recording. `h`: the handle; `data`: the request, none when the buffer cannot be read. -/
  | loopTune (h : Nat) (data : Option Bytes)
  /-- LOOP_TUNE_READ (R348): LOOP_TUNE_READ returns the fit result. `h`: the handle of the command in flight. -/
  | loopTuneRead (h : Nat)
  /-- LOOP_TUNE_APPLY (R349): LOOP_TUNE_APPLY writes the proposed gains and model at a sample. `h`: the handle of the command in flight. -/
  | loopTuneApply (h : Nat)
  /-- AXIS_CONFIG (R411): AXIS_CONFIG checks and accepts an axis descriptor, claiming its pins. `h`: the handle; `data`: the descriptor, none when the buffer cannot be read. -/
  | axisConfig (h : Nat) (data : Option Bytes)
  /-- PROFILE_LOAD (R415): PROFILE_LOAD checks a segment table into the axis's free profile buffer. `h`: handle of the command; `data`: the table -/
  | profileLoad (h : Nat) (data : Option Bytes)
  /-- AXIS_MOVE (R417): AXIS_MOVE enqueues a START of the newest table at INSTANT. `lv`: the levels of LIMP, LIMN, HOME and PGOOD in bits 0 to 3. -/
  | axisMove (h lv : Nat)
  /-- AXIS_HOME (R421): AXIS_HOME starts a homing method. `lv`: the levels of the axis's inputs. -/
  | axisHome (h lv : Nat)
  /-- AXIS_STOP_CONTROLLED (R419): AXIS_STOP with A 0 decelerates the axis at AMAX to rest. `h`: the handle. -/
  | axisStopControlled (h : Nat)
  /-- AXIS_STOP_IMMEDIATE (R419): AXIS_STOP with A 1 freezes the commanded position at once. `h`: the handle. -/
  | axisStopImmediate (h : Nat)
  /-- AXIS_DRIVE_OFF (R423): AXIS_DRIVE 0 disables the driver, journals the phase and removes driver power. `h`: the handle. -/
  | axisDriveOff (h : Nat)
  /-- AXIS_DRIVE_ON (R423): AXIS_DRIVE 1 powers the driver and waits for PIN_PGOOD. `h`: the handle. -/
  | axisDriveOn (h : Nat)
  /-- FBK_CONFIG (R431): FBK_CONFIG checks and accepts a feedback channel descriptor. `data`: the descriptor; `lv`: the levels of PIN_A to PIN_C. -/
  | fbkConfig (h : Nat) (data : Option Bytes) (lv : Nat)
  /-- COMPARE_LOAD (R442): COMPARE_LOAD checks a compare list to replace or append. `data`: the list. -/
  | compareLoad (h : Nat) (data : Option Bytes)
  /-- CNV_CONFIG (R359): CNV_CONFIG checks a converter group configuration to take effect at its boundary. `h`: the handle; `data`: header and sequence, none when the buffer cannot be read. -/
  | cnvConfig (h : Nat) (data : Option Bytes)
  /-- TEMPER_RUN (R369): TEMPER_RUN starts a foreground calibration. `h`: handle of the command -/
  | temperRun (h : Nat)
  /-- CAP_CONFIG (R381): CAP_CONFIG checks and accepts a capture channel descriptor. `h`: the handle; `data`: the descriptor, none when the buffer cannot be read. -/
  | capConfig (h : Nat) (data : Option Bytes)
  /-- MASK_LOAD (R393): MASK_LOAD checks an envelope to take effect at its anchor. `h`: the handle; `data`: the envelope, none when the buffer cannot be read. -/
  | maskLoad (h : Nat) (data : Option Bytes)
  /-- CAP_ARM (R384): CAP_ARM enqueues an ARM of a channel, carried to group members. `h`: the handle of the command in flight. -/
  | capArm (h : Nat)
  /-- CAP_READ (R403): CAP_READ writes whole held segments in INDEX order. `h`: handle of the command -/
  | capRead (h : Nat)
  /-- CAN_CONFIG (R479): CAN_CONFIG checks a CAN controller descriptor. `idle`: no frame is on the bus; `cons`: the consumer index read at CONS_ADDR. -/
  | canConfig (h : Nat) (data : Option Bytes) (idle : Bool) (cons : Option Nat)
  /-- CAN_FILTER (R489): CAN_FILTER replaces a controller's filter list. `data`: the entries. -/
  | canFilter (h : Nat) (data : Option Bytes)
  /-- CAN_SEND (R484): CAN_SEND enqueues a frame eligible at I. `data`: the frame. -/
  | canSend (h : Nat) (data : Option Bytes)
  /-- CAN_CANCEL (R488): CAN_CANCEL removes a pending frame by HANDLE. `cons`: the consumer index read at CONS_ADDR. -/
  | canCancel (h : Nat) (cons : Option Nat)
  /-- STN_CONFIG (R449): STN_CONFIG sets an Ethernet port's mode and addresses. `data`: the port descriptor. -/
  | stnConfig (h : Nat) (data : Option Bytes)
  /-- STN_TABLE_LOAD (R456): STN_TABLE_LOAD checks and puts a station table in force. `h`: handle of the command; `data`: the table -/
  | stnTableLoad (h : Nat) (data : Option Bytes)
  /-- LAUNCH (R130): LAUNCH enqueues entries into a TMB, MOT or CAP launch queue. `h`: handle of the command; `data`: the entries -/
  | launch (h : Nat) (data : Option Bytes)
  /-- LOG_READ (R501): LOG_READ writes held event log records in SEQ order. `h`: handle of the command -/
  | logRead (h : Nat)
  /-- LOG_FREEZE (R502): LOG_FREEZE stops every write to the log. `h`: the handle of the command in flight. -/
  | logFreeze (h : Nat)
  /-- LOG_THAW (R502): LOG_THAW applies held counts and writes the holding queue to the log. `h`: the handle of the command in flight. -/
  | logThaw (h : Nat)
  /-- EVENT_RING_OPEN (R506): EVENT_RING_OPEN opens or replaces the host event ring. `data`: the descriptor read from host memory, none when the read fails; `cons`: the consumer index read at the CONS_ADDR of the ring already open. -/
  | eventRingOpen (h : Nat) (data : Option Bytes) (cons : Option Nat)
  /-- HISTORY_OPEN (R514): HISTORY_OPEN opens the history export ring. `data`: the descriptor; `cons`: the consumer index read at the CONS_ADDR of the export ring already open. -/
  | historyOpen (h : Nat) (data : Option Bytes) (cons : Option Nat)
  /-- HISTORY_CLOSE (R514): HISTORY_CLOSE stops the export at a block boundary. -/
  | historyClose (h : Nat)
  /-- TRACE_READ (R242): TRACE_READ returns the most recent Hearth trace records. `h`: handle of the command -/
  | traceRead (h : Nat)
  /-- PAIR_SWITCH (R543): PAIR_SWITCH plans a handover of control at instant I. -/
  | pairSwitch (h : Nat)
  /-- STATE_TRANSFER (R544): STATE_TRANSFER starts resynchronising the standby. `h`: handle of the command -/
  | stateTransfer (h : Nat)
  /-- BILLET_STAGE (R570): BILLET_STAGE writes and verifies a Billet into the spare bank. `h`: handle of the command; `data`: the Billet -/
  | billetStage (h : Nat) (data : Option Bytes)
  /-- BILLET_ACTIVATE (R571): BILLET_ACTIVATE makes the STAGED bank TRIAL and schedules a warm restart. -/
  | billetActivate (h : Nat)
  /-- BILLET_CONFIRM (R572): BILLET_CONFIRM confirms component groups and at the full set advances ARB levels and the bank. -/
  | billetConfirm (h : Nat)
  /-- ATTEST (R578): ATTEST signs a report with a new identity leaf. `data`: the operand as fetched; `written`: the answer reaches the host's memory. -/
  | attest (h : Nat) (data : Option Bytes) (written : Bool)
  /-- SENSOR_READ (R565): SENSOR_READ writes the 120 sensor records. -/
  | sensorRead (h : Nat)
  /-- HDL_LOG_READ (R566): HDL_LOG_READ reads the Hendel log. `h`: handle of the command -/
  | hdlLogRead (h : Nat)
  /-- RTV_UNLOCK (R583): RTV_UNLOCK verifies a vendor unlock and writes RETURNED to OTP. `data`: the operand as fetched. -/
  | rtvUnlock (h : Nat) (data : Option Bytes)
  /-- TMB_COMMIT (R72): A write of TMB_COMMIT schedules staged TMB fields for the next measurement boundary. -/
  | tmbCommit
  /-- TMB_WALL_APPLY (R48): A write of TMB_WALL_APPLY sets the wall clock, opening a WALL_SET Epoch, or is refused. -/
  | tmbWallApply
  /-- TMB_LQ_PUSH (R57): A write of TMB_LQ_PUSH enqueues TMB_LQ_ENTRY into the timed-pin queue. -/
  | tmbLqPush
  /-- TIO_CFG_WRITE (R63): A write of TMB_TIO_CFG sets a pin's mode, edge, idle and inversion unless the pin is claimed. `p`: the pin; `v`: the word written. -/
  | tioCfgWrite (p : Nat) (v : Word)
  /-- TIO_STAMP_POP (R66): A read of TMB_TIO_STAMP NS_LO pops the stamp FIFO and latches the rest. `p`: the pin. -/
  | tioStampPop (p : Nat)
  /-- PST_COMMIT (R101): A write of PST_COMMIT schedules staged Point Store fields. -/
  | pstCommit
  /-- PST_PEEK (R92): A write of PST_PEEK_ID reads the point into PST_PEEK_DATA. `v`: the word written to PST_PEEK_ID. -/
  | pstPeek (v : Word)
  /-- CYC_COMMIT (R181): A write of CYC_COMMIT schedules staged Cycle Engine fields. -/
  | cycCommit
  /-- HRT_COMMIT (R244): A write of HRT_COMMIT schedules staged Hearth fields. -/
  | hrtCommit
  /-- SEQ_COMMIT (R277): A write of SEQ_COMMIT schedules staged Step Sequencer fields. -/
  | seqCommit
  /-- ANV_LOOP_COMMIT (R351): A write of ANV_LOOP_COMMIT schedules staged loop fields. -/
  | anvLoopCommit
  /-- CNV_COMMIT (R378): A write of CNV_COMMIT schedules staged converter fields. -/
  | cnvCommit
  /-- CAP_COMMIT (R406): A write of CAP_COMMIT schedules staged capture fields. -/
  | capCommit
  /-- QCH_COMMIT (R407): A write of QCH_COMMIT schedules staged Quench pin fields. -/
  | qchCommit
  /-- MOT_COMMIT (R429): A write of MOT_COMMIT schedules staged motion fields. -/
  | motCommit
  /-- STN_COMMIT (R476): A write of STN_COMMIT schedules staged station network fields. -/
  | stnCommit
  /-- REC_COMMIT (R518): A write of REC_COMMIT schedules staged Recorder fields. -/
  | recCommit
  /-- WLK_COMMIT (R552): A write of WLK_COMMIT schedules staged Walig fields. -/
  | wlkCommit
  /-- PAR_COMMIT (R553): A write of PAR_COMMIT schedules staged pairing fields. -/
  | parCommit
  /-- HDL_COMMIT (R585): A write of HDL_COMMIT schedules staged Hendel fields. -/
  | hdlCommit
  /-- HDL_RESTART (R561): A write of 1 to HDL_CTRL.RESTART starts a warm restart with cause 4. -/
  | hdlRestart
  /-- FB_END (R226): A write of ILE_CTRL.FB_END ends fallback at the next scan. -/
  | fbEnd
  /-- ANV_MEM_READ (R312): A write of ANV_MEM_SEL reads an Anvil memory word into ANV_MEM_DATA between ticks. `v`: the word written. -/
  | anvMemRead (v : Word)
  /-- CAP_MISS_READ (R389): A write of CAP_MISS_SEL loads a missed-trigger entry into CAP_MISS_DATA. `v`: the word written. -/
  | capMissRead (v : Word)
  /-- QCH_FORCE_WRITE (R395): A write of QCH_FORCE asserts or removes the HOST source of Quench pins. `v`: the word written. -/
  | qchForceWrite (v : Word)
  /-- QCH_RELEASE (R397): A write of QCH_PIN RELEASE clears a pin's latch when its conditions hold, or is refused. `n`: the pin. -/
  | qchRelease (n : Nat)
  /-- FBK_SNAP (R438): A write of FBK_SNAP latches every channel's position and speed at one instant. `v`: the word written. -/
  | fbkSnap (v : Word)
  /-- CAN_RECOVER (R492): A write of CAN_CTL.RECOVER starts bus-off recovery. `c`: the controller. -/
  | canRecover (c : Nat)
  /-- PAGE_FAIL_CLEAR (R503): Writing 1 to REC_STATUS.PAGE_FAIL clears it and releases its FAULT_N assertion. -/
  | pageFailClear
  /-- MBOX_IDENTIFY (R581): Mailbox IDENTIFY writes identity, banks, OTP levels and the certificate to the window. -/
  | mboxIdentify
  /-- MBOX_STAGE_BEGIN (R581): Mailbox STAGE_BEGIN begins staging a Billet into the non-ACTIVE bank. -/
  | mboxStageBegin
  /-- MBOX_STAGE_DATA (R581): Mailbox STAGE_DATA writes window bytes at an offset of the staged Billet. -/
  | mboxStageData
  /-- MBOX_STAGE_END (R581): Mailbox STAGE_END verifies the staged Billet as R570. -/
  | mboxStageEnd
  /-- MBOX_ACTIVATE (R581): Mailbox ACTIVATE makes the staged bank TRIAL and leaves recovery into probation. -/
  | mboxActivate
  /-- MBOX_LOG_READ (R581): Mailbox LOG_READ copies Hendel log records into the window. -/
  | mboxLogRead
  /-- MBOX_SENSOR_READ (R581): Mailbox SENSOR_READ writes sensor records into the window. -/
  | mboxSensorRead
  /-- MBOX_BOOT_BANK_CLEAR (R581): Mailbox BOOT_BANK_CLEAR empties the boot bank. -/
  | mboxBootBankClear
  /-- MBOX_RESTART (R581): Mailbox RESTART performs a cold start under BOOT_MODE. -/
  | mboxRestart
  /-- MGMT_UART_FRAME (R582): A mailbox request frame on MGMT_UART is taken, or ignored for a bad CRC. `f`: the frame's bytes as received. -/
  | mgmtUartFrame (f : Bytes)
  /-- JTAG_BYPASS (R598): The BYPASS instruction, or any unlisted code, selects the bypass register. -/
  | jtagBypass
  /-- JTAG_IDCODE (R598): The IDCODE instruction reads 0x1964_054D. -/
  | jtagIdcode
  /-- JTAG_SAMPLE_PRELOAD (R598): The SAMPLE/PRELOAD instruction samples and preloads the boundary scan. -/
  | jtagSamplePreload
  /-- JTAG_EXTEST (R598): The EXTEST instruction takes the pins away from every block. -/
  | jtagExtest
  /-- JTAG_TRST (R598): TRST_N low holds the TAP in Test-Logic-Reset. -/
  | jtagTrst
  /-- PTP_SYNC_RX (R56): A PTP Sync message is stamped and used or awaits its Follow_Up. `t1`: the origin time in ns, none for two-step; `corr`: in 2^-16 ns; `raw`: the ingress stamp of the MAC in quarter ns. -/
  | ptpSyncRx (p domain seq : Nat) (t1 : Option Int) (corr raw : Int) (t : Nat)
  /-- PTP_FOLLOW_UP_RX (R56): A Follow_Up completes a two-step Sync measurement, or is discarded. `t1`: the origin time in ns. -/
  | ptpFollowUpRx (p domain seq : Nat) (t1 corr : Int) (t : Nat)
  /-- PTP_DELAY_RESP_RX (R51): A Delay_Resp completes an end-to-end delay measurement, or is discarded. `t4`: the receive time in ns. -/
  | ptpDelayRespRx (p domain seq : Nat) (t4 corr : Int) (t : Nat)
  /-- PTP_PDELAY_RX (R51): A peer delay message updates the gPTP link delay and neighbour rate ratio. `resp`: none for a request, else the turnaround in quarter ns and the rate ratio in ppt. -/
  | ptpPdelayRx (p seq : Nat) (resp : Option (Int × Int)) (raw : Int) (t : Nat)
  /-- PTP_ANNOUNCE_RX (R49): An Announce feeds the BMCA and UTC_TAI. `ds`: the data set of the best master clock algorithm, lower is better. -/
  | ptpAnnounceRx (p domain ds : Nat) (utcValid : Bool) (utc : Int) (t : Nat)
  /-- PTP_DELAY_REQ_RX (R51): A Delay_Req on a master port is answered from the Timeline. `mac`: the requester. -/
  | ptpDelayReqRx (p seq : Nat) (mac : Bytes) (raw : Int) (t : Nat)
  /-- PTP_MASTER_TX (R51): On master ports the controller sends its Sync and Announce on their intervals. `p`: the master port. -/
  | ptpMasterTx (p : Nat) (announce : Bool) (t : Nat)
  /-- PTP_DELAY_REQ_TX (R51): The slave sends its Delay_Req or peer delay request on its interval. `t`: the instant. -/
  | ptpDelayReqTx (t : Nat)
  /-- FOLLOW_UP_TIMEOUT (R56): A two-step Sync without Follow_Up within 2 Sync intervals is discarded. -/
  | followUpTimeout
  /-- PDELAY_TIMEOUT (R56): Peer delay unanswered three times makes the port not asCapable and the source invalid. `t`: the instant. -/
  | pdelayTimeout (t : Nat)
  /-- ANNOUNCE_TIMEOUT (R56): No Announce for 3 intervals invalidates the source. `t`: the instant. -/
  | announceTimeout (t : Nat)
  /-- SYNC_MISSING (R45): A measurement missing for 1.5 intervals sets the correction to 0. `t`: the instant. -/
  | syncMissing (t : Nat)
  /-- SOURCE_LOSS_TIMEOUT (R45): LOSS_MS without a valid measurement invalidates the source and selects the next. `src`: the source code; `t`: the instant. -/
  | sourceLossTimeout (src t : Nat)
  /-- RATE_SATURATION_TIMEOUT (R56): A rate held at ±200 ppm for 10 s rejects the source for 60 s. -/
  | rateSaturationTimeout
  /-- SOURCE_REJECT_EXPIRY (R56): The 60 s rejection of a source ends. `src`: the source code. -/
  | sourceRejectExpiry (src : Nat)
  /-- SOURCE_RETURN (R50): A higher-priority source valid for 10 s without a break becomes active again. `t`: the instant. -/
  | sourceReturn (t : Nat)
  /-- EPOCH_WAIT_END (R38): The 250 ms Epoch spacing ends and the waiting conditions open one Epoch. -/
  | epochWaitEnd
  /-- PPS_IN_EDGE (R52): A PPS_IN active edge gives a phase measurement and advances the TAI label. `t`: the instant of the edge; `refOk`: REF10M_IN is present and within 100 ppm. -/
  | ppsInEdge (t : Nat) (falling refOk : Bool)
  /-- PPS_MISSING (R52): No PPS_IN edge within 1,000,100 µs counts PPS_MISSING. -/
  | ppsMissing
  /-- REF10M_LOSS (R52): REF10M_IN absent or off frequency invalidates PPS_REF and REF_ONLY. -/
  | ref10mLoss
  /-- REF_ONLY_MEASUREMENT (R608): Each second under REF_ONLY, the rate f sets FREQ_EST and the state. `t`: the instant; `f`: the measured rate in ppt. -/
  | refOnlyMeasurement (t : Nat) (f : Int)
  /-- PPS_OUT_RISE (R53): PPS_OUT rises at each whole TAI second, or Timeline second without TAI. `t`: the instant. -/
  | ppsOutRise (t : Nat)
  /-- PPS_OUT_FALL (R53): PPS_OUT falls after OUT_WIDTH µs. `t`: the instant. -/
  | ppsOutFall (t : Nat)
  /-- TIO_STAMP_EDGE (R66): A selected edge on a STAMP pin is stamped into its FIFO. `p`: the pin; `q`: the instant in quarter ns; `ballFalling`: the edge at the ball. -/
  | tioStampEdge (p q : Nat) (ballFalling : Bool)
  /-- TIO_NOP (R64): A NOP timed-pin entry launches with no effect. -/
  | tioNop
  /-- SET_LOW (R64): A SET_LOW entry drives its pin low at its instant. -/
  | setLow
  /-- SET_HIGH (R64): A SET_HIGH entry drives its pin high at its instant. -/
  | setHigh
  /-- TOGGLE (R64): A TOGGLE entry inverts its pin at its instant. -/
  | toggle
  /-- PULSE (R64): A PULSE entry drives its pin high at its instant. -/
  | pulse
  /-- PULSE_TRAILING_EDGE (R65): TAG[31:8] × 4 ns after a PULSE the pin goes low unless cancelled. `p`: the pin. -/
  | pulseTrailingEdge (p : Nat)
  /-- SCRUB_STEP (R85): The scrubber fetches and verifies the next tile. `c`: how the fetch of the next tile goes. -/
  | scrubStep (c : TileCheck)
  /-- TILE_REPAIR_DONE (R85): A tile copy from the pair partner arrives and repairs the tile. `copy`: the partner's 512 bytes, none when they did not verify in time. -/
  | tileRepairDone (tile : Nat) (copy : Option Bytes)
  /-- VIEW_DELIVERY (R95): A pending view record is written to the ring once it has space. `n`: the view; `t`: the instant; `written`: the write succeeds on the link. -/
  | viewDelivery (n t : Nat) (written : Bool)
  /-- VIEW_CONS_POLL (R96): With the ring full, the consumer index at CONS_ADDR is read every 100 µs. `cons`: the consumer index read, none when the read fails. -/
  | viewConsPoll (n : Nat) (cons : Option Nat)
  /-- VIEW_HEARTBEAT (R98): Each HEARTBEAT period a heartbeat record is written if the ring has space. -/
  | viewHeartbeat (n t : Nat)
  /-- VIEW_SNAPSHOT_TIMER (R93): Each SNAPSHOT period every subscribed point is queued as SNAPSHOT. -/
  | viewSnapshotTimer (n t : Nat)
  /-- STALE_MARK_QUEUE (R97): A subscribed point passing STAMP + MAXAGE queues a STALE_MARK within 1 ms. `n`: the view; `id`: the point; `t`: the instant. -/
  | staleMarkQueue (n id t : Nat)
  /-- CYC_LATCH (R143): A class's LATCH launches at its cycle instant, latching inputs and releasing items. `c`: the class. -/
  | cycLatch (c : Nat)
  /-- CYC_DEADLINE (R147): DEADLINE launches at D and finds the cycle complete or overrun. `c`: the class. -/
  | cycDeadline (c : Nat)
  /-- CYC_START (R142): START launches at a class's first cycle instant after PROGRAM_START or a restart. `c`: the class. -/
  | cycStart (c : Nat)
  /-- CYC_STOP (R153): STOP launches at the PROGRAM_STOP instant and the state becomes STOPPED. -/
  | cycStop
  /-- WELD_COPY_PASS (R188): A copying pass ends, entering WAITING or continuing. `t`: the instant; `copied`: the tracked lines the pass has copied and that have not been written since. -/
  | weldCopyPass (t : Nat) (copied : List Nat)
  /-- WELD_WAIT_TIMEOUT (R190): No candidate accepted within 10 s abandons the Weld. -/
  | weldWaitTimeout
  /-- WELD_GAP_END (R192): The Weld gap ends, the new program runs and WELD completes. `t`: the end of the gap; `good`: copied data and new map pass their integrity checks. -/
  | weldGapEnd (t : Nat) (good : Bool)
  /-- WELD_REVERT_GAP_END (R198): The revert gap ends with the old program running again. `t`: the end of the gap; `good`: the switch completes. -/
  | weldRevertGapEnd (t : Nat) (good : Bool)
  /-- REVERT_INSTANT_TIMEOUT (R199): A revert without an instant within 100 ms stops the program with WELD_FAIL. -/
  | revertInstantTimeout
  /-- ILE_SCAN (R212): At each scan instant the Interlock Engine latches, executes, commits and enqueues frames. `dur`: ns from the scan instant to the last frame enqueued. -/
  | ileScan (dur : Nat)
  /-- ILE_SCAN_LATE (R217): A scan unfinished at its output instant minus 2 µs enqueues late frames. `dur`: ns from the scan instant to its end. -/
  | ileScanLate (dur : Nat)
  /-- ILE_FAULT (R207): An engine compare mismatch stops it FAULTED and asserts FAULT_N. `t`: the instant; `insn`: the instruction that mismatched. -/
  | ileFault (t insn : Nat)
  /-- ITEM_DISPATCH (R231): A free core pair takes the best ready item by PRIO and deadline. `core`: the free core pair; `t`: the instant. -/
  | itemDispatch (core t : Nat)
  /-- ITEM_CREDIT_RELEASE (R241): A producer holding an item enqueues it when a ready-queue credit returns. `src`: the source id of the producer. -/
  | itemCreditRelease (src : Nat)
  /-- ITEM_COMMIT_END (R236): An item's commit ends: writes visible, launches queued, events passed, successors released. `t`: the instant. -/
  | itemCommitEnd (t : Nat)
  /-- ITEM_LIMIT_TIMEOUT (R230): An item reaching LIMIT_NS is stopped with TIMEOUT and its effects discarded. `core`: the core pair. -/
  | itemLimitTimeout (core : Nat)
  /-- ITEM_FAULT (R174): A user item takes a fault and fails, its successors released. `core`: the core pair; `cause`: the CAUSE of CYC_LAST_FAULT; `p`: what the user code has done before. -/
  | itemFault (core t cause : Nat) (p : RvRun)
  /-- CORE_PAIR_MISMATCH (R238): An application core pair lockstep mismatch retires the pair and retries its item. `core`: the core pair; `t`: the instant. -/
  | corePairMismatch (core t : Nat)
  /-- PREC (R175): PREC writes a point's record to scratch. `core`: the core pair; `w`: the instruction word; `p`: what the ordinary code has done before it. -/
  | prec (core : Nat) (w : BitVec 32) (p : RvRun)
  /-- PLV (R175): PLV returns a point's VALUE. `core`: the core pair; `w`: the instruction word; `p`: what the ordinary code has done before it. -/
  | plv (core : Nat) (w : BitVec 32) (p : RvRun)
  /-- PST (R175): PST stages a point write in the commit buffer. `core`: the core pair; `w`: the instruction word; `p`: what the ordinary code has done before it. -/
  | pst (core : Nat) (w : BitVec 32) (p : RvRun)
  /-- STAMPSET (R175): STAMPSET sets the STAMP of the next PST. `core`: the core pair; `w`: the instruction word; `p`: what the ordinary code has done before it. -/
  | stampset (core : Nat) (w : BitVec 32) (p : RvRun)
  /-- TRD (R175): TRD reads the Timeline, cycle or output instant or Epoch. `core`: the core pair; `w`: the instruction word; `p`: what the ordinary code has done before it. -/
  | trd (core : Nat) (w : BitVec 32) (p : RvRun)
  /-- LREQ (R175): LREQ stages a launch request with its credit. `core`: the core pair; `w`: the instruction word; `p`: what the ordinary code has done before it. -/
  | lreq (core : Nat) (w : BitVec 32) (p : RvRun)
  /-- WDONE (R175): WDONE ends the item and commits its staged effects after the lockstep compare. `core`: the core pair; `t`: the instant its lockstep compare passes; `w`: the instruction word, of no account for an item that is not user code; `p`: what the ordinary code has done before it. -/
  | wdone (core t : Nat) (w : BitVec 32) (p : RvRun)
  /-- EVT (R175): EVT stages a program event. `core`: the core pair; `w`: the instruction word; `p`: what the ordinary code has done before it. -/
  | evt (core : Nat) (w : BitVec 32) (p : RvRun)
  /-- BOUNDARY (R260): A BOUNDARY entry launches, applying the boundary buffer and entering the step. `x`: the executor; `fails`: failed verifies of its checkpoint. -/
  | boundary (x fails : Nat)
  /-- OFFSET (R260): An OFFSET entry launches, applying a step's commit group of that offset. `x`: the executor. -/
  | offset (x : Nat)
  /-- CONDITION_EVALUATION (R254): Every 10 µs the step's end condition is evaluated and a met condition sets the next boundary. `x`: the executor. -/
  | conditionEvaluation (x : Nat)
  /-- STEP_MAX_TIMEOUT (R254): MAX_US passing with the condition unmet sets a boundary into TIMEOUT_NEXT. `x`: the executor. -/
  | stepMaxTimeout (x : Nat)
  /-- RAMP_TICK (R258): A ramp writes its target's next value at a tick, ending at VALUE. `i`: the ramp's action. -/
  | rampTick (x i : Nat)
  /-- LAUNCH_ACK_TIMEOUT (R262): A participant not acknowledging a LAUNCH within half the lead is lost to the boundary. `x`: the executor. -/
  | launchAckTimeout (x : Nat)
  /-- RESUME_PRECHECK (R273): 10 µs before R the station precondition is checked again. `x`: the executor. -/
  | resumePrecheck (x : Nat)
  /-- LOOP_SAMPLE_LAUNCH (R321): At a loop's sample instant the sampler latches its inputs into the I/O area. `n`: the loop slot. -/
  | loopSampleLaunch (n : Nat)
  /-- ANVIL_TICK_SWAP (R300): With inputs present and the core idle, the banks swap and the slot's routine starts. `c`: the core; `ps`: picoseconds from the sample instant to the first instruction. -/
  | anvilTickSwap (c ps : Nat)
  /-- ROUTINE_OVERRUN (R304): A routine exceeding its budget, or without END at its output launch, stops with OVERRUN. `c`: the core. -/
  | routineOverrun (c : Nat)
  /-- LOOP_OUTPUT_LAUNCH (R322): At T0 + OUT_DLY_NS the output latch launches and its points commit. `n`: the loop slot. -/
  | loopOutputLaunch (n : Nat)
  /-- LOOP_STATE_COPY (R341): Every 1 ms every loop's context and state are copied to HBM. `t`: the instant. -/
  | loopStateCopy (t : Nat)
  /-- LOOP_JOURNAL_WRITE (R343): Every 1 ms each RESUMABLE loop's state is written to its journal copy. `t`: the instant. -/
  | loopJournalWrite (t : Nat)
  /-- ANVIL_CORE_MISMATCH (R309): An Anvil core lockstep mismatch retires the core and holds its slots' outputs. `c`: the core; `t`: the instant. -/
  | anvilCoreMismatch (c t : Nat)
  /-- ANVIL_ECC_REWRITE (R310): Program words are rewritten from the HBM copy after an uncorrectable error. `c`: the core whose routine has read the word; `space`: 0 program, 1 Left, 2 Right; `addr`: its address; `t`: the instant. -/
  | anvilEccRewrite (c space addr t : Nat)
  /-- TUNE_FIT_DONE (R347): The tuning fit ends and the result is present. `n`: the loop slot; `t`: the instant. -/
  | tuneFitDone (n t : Nat)
  /-- ANV_NOP (R287): Class A NOP performs only its moves. `c`: the core. -/
  | anvNop (c : Nat)
  /-- MPY (R287): MPY sets AD to the doubled product. `c`: the core. -/
  | mpy (c : Nat)
  /-- MAC (R287): MAC adds the doubled product to AD. `c`: the core. -/
  | mac (c : Nat)
  /-- MSU (R287): MSU subtracts the doubled product from AD. `c`: the core. -/
  | msu (c : Nat)
  /-- LDA (R287): LDA loads an operand into AD. `c`: the core. -/
  | lda (c : Nat)
  /-- ADD (R287): ADD adds an operand to AD. `c`: the core. -/
  | add (c : Nat)
  /-- SUB (R287): SUB subtracts an operand from AD. `c`: the core. -/
  | sub (c : Nat)
  /-- ADDA (R287): ADDA adds another accumulator to AD. `c`: the core. -/
  | adda (c : Nat)
  /-- SUBA (R287): SUBA subtracts another accumulator from AD. `c`: the core. -/
  | suba (c : Nat)
  /-- CLR (R287): CLR clears AD. `c`: the core. -/
  | clr (c : Nat)
  /-- NEG (R287): NEG negates AD. `c`: the core. -/
  | neg (c : Nat)
  /-- ABS (R287): ABS takes the magnitude of AD. `c`: the core. -/
  | abs (c : Nat)
  /-- CMP (R287): CMP sets flags from AD minus an operand. `c`: the core. -/
  | cmp (c : Nat)
  /-- LDX (R288): LDX loads an immediate into an X register. `c`: the core. -/
  | ldx (c : Nat)
  /-- LDY (R288): LDY loads an immediate into a Y register. `c`: the core. -/
  | ldy (c : Nat)
  /-- LDP (R288): LDP loads a pointer, step or mode register. `c`: the core. -/
  | ldp (c : Nat)
  /-- MOV (R289): MOV copies one register to another. `c`: the core. -/
  | mov (c : Nat)
  /-- MOVA (R293): MOVA moves AD out under scaling and limiting. `c`: the core. -/
  | mova (c : Nat)
  /-- MOVAL (R288): MOVAL moves AD bits 23:0 unscaled. `c`: the core. -/
  | moval (c : Nat)
  /-- ASH (R288): ASH shifts AD arithmetically by an immediate. `c`: the core. -/
  | ash (c : Nat)
  /-- SHA (R288): SHA shifts AD by a register amount. `c`: the core. -/
  | sha (c : Nat)
  /-- NORM (R294): NORM normalises AD and writes its exponent. `c`: the core. -/
  | norm (c : Nat)
  /-- EXP (R294): EXP writes the exponent of AD. `c`: the core. -/
  | exp (c : Nat)
  /-- JMP (R297): JMP jumps after two delay slots. `c`: the core. -/
  | jmp (c : Nat)
  /-- JCC (R290): JCC jumps when its condition holds. `c`: the core. -/
  | jcc (c : Nat)
  /-- CALL (R297): CALL pushes a return address and jumps. `c`: the core. -/
  | call (c : Nat)
  /-- RET (R297): RET pops the return address and jumps. `c`: the core. -/
  | ret (c : Nat)
  /-- DO (R288): DO repeats the following instructions through LAST. `c`: the core. -/
  | doLoop (c : Nat)
  /-- END (R302): END copies outputs to the latch and saves the context. `c`: the core. -/
  | endRoutine (c : Nat)
  /-- CLRF (R288): CLRF clears sticky flags. `c`: the core. -/
  | clrf (c : Nat)
  /-- SCALE (R288): SCALE sets the output scale SC. `c`: the core. -/
  | scale (c : Nat)
  /-- CNV_RESULT_FORMED (R363): A converter result is formed from corrected samples and offered to triggers and masks. `g`: the group; `cs`: the AVG_N corrected samples; `ovr`: one was beyond full scale; `q`: stamp of the first, in quarter ns; `t`: the instant. -/
  | cnvResultFormed (g : Nat) (cs : List Int) (ovr : Bool) (q t : Nat)
  /-- SCAN_PASS_START (R361): A Scan pass starts on the slices of a group. `g`: the group; `t`: the instant. -/
  | scanPassStart (g t : Nat)
  /-- SCAN_RESULT (R364): A Scan entry is sampled and its result queued. `n`: the slice; `c`: the corrected sample; `ovr`: it was beyond full scale; `q`: its stamp, in quarter ns; `t`: the instant. -/
  | scanResult (n : Nat) (c : Int) (ovr : Bool) (q t : Nat)
  /-- CAL_SLOT (R361): After CAL_EVERY passes a calibration slot runs or is deferred. `n`: the slice; `t`: the end of its pass. -/
  | calSlot (n t : Nat)
  /-- CNV_CONFIG_BOUNDARY (R360): A group reaches its boundary and the new configuration takes effect. `g`: the group (0 for the whole array); `t`: the instant. -/
  | cnvConfigBoundary (g t : Nat)
  /-- TEMPER_BG_UPDATE (R370): Every UPDATE_MS background Temper applies a bounded new generation or skips. `idle`: bit g set where group g's stream gives no estimate; `t`: the instant. -/
  | temperBgUpdate (idle t : Nat)
  /-- TEMPER_DEFER_EXPIRY (R371): A deferral reaching HOLD_MAX_MS forces the update. `g`: the group. -/
  | temperDeferExpiry (g : Nat)
  /-- CAL_STALE_TIMEOUT (R372): 10 s without update or a 5 °C move sets CAL_STALE. `t`: the instant. -/
  | calStaleTimeout (t : Nat)
  /-- SLICE_FAILED (R373): A slice is declared failed and removed. `n`: the slice; `cause`: its CAUSE code; `t`: the instant. -/
  | sliceFailed (n cause t : Nat)
  /-- BURST_RESUME (R374): A Burst group resumes on its healthy slices after a removal. `g`: the group. -/
  | burstResume (g : Nat)
  /-- ADCCLK_LOSS (R375): ADCCLK lost for 5 µs stops every group and writes publish points BAD. `t`: the instant. -/
  | adcclkLoss (t : Nat)
  /-- ADCCLK_RETURN (R375): ADCCLK within limits for 1 ms resumes the groups. `t`: the instant. -/
  | adcclkReturn (t : Nat)
  /-- CAP_ARM_LAUNCH (R383): An ARM entry launches and the channel enters ARMED. `n`: the channel. -/
  | capArmLaunch (n : Nat)
  /-- CAP_FIRE (R383): A FIRE entry is a trigger event at its instant. `n`: the channel. -/
  | capFire (n : Nat)
  /-- CAP_STOP (R383): A STOP entry stops the channel. `n`: the channel. -/
  | capStop (n : Nat)
  /-- REARM_END (R386): 100 ns after a segment's last sample the channel rearms or stops. `n`: the channel. -/
  | rearmEnd (n : Nat)
  /-- POST_WINDOW_EXPIRY (R399): A POST segment of a stopped stream ends with GAP at its post window. `n`: the channel. -/
  | postWindowExpiry (n : Nat)
  /-- CAP_GROUP_ARM_INSTANT (R400): At I the master's group arm completes by member acknowledgements. `n`: the master channel; `members`: the modules that have members of the group. -/
  | capGroupArmInstant (n : Nat) (members : List Nat)
  /-- QCH_RELEASE_DEFERRED (R397): A release arrives at MIN_ACTIVE_US and takes effect if conditions hold. `n`: the pin. -/
  | qchReleaseDeferred (n : Nat)
  /-- QCH_READBACK_FAULT (R398): A readback mismatch for 1 µs sets FAULT and asserts FAULT_N. `n`: the pin; `t`: the instant. -/
  | qchReadbackFault (n t : Nat)
  /-- MOT_START (R417): A START entry starts the newest profile or is refused. `n`: the axis; `lv`: the levels of its inputs. -/
  | motStart (n lv : Nat)
  /-- MOT_STOP (R419): A STOP entry performs a controlled or immediate stop. `n`: the axis; `lv`: the levels of its inputs. -/
  | motStop (n lv : Nat)
  /-- MOT_HOME (R421): A HOME entry starts a homing method. `n`: the axis; `lv`: the levels of its inputs. -/
  | motHome (n lv : Nat)
  /-- STEPPER_TICK (R422): At each tick a stepper evaluates its profile and schedules steps. `n`: the axis; `lv`: the levels of its inputs. -/
  | stepperTick (n lv : Nat)
  /-- STEP_PULSE (R422): A step rising edge is emitted at its crossing instant. `n`: the axis. -/
  | stepPulse (n : Nat)
  /-- STEP_PULSE_FALL (R422): A step pulse falls after STEP_W_NS. `n`: the axis. -/
  | stepPulseFall (n : Nat)
  /-- SERVO_TICK (R426): Before each loop sample the servo axis commits its commanded position. `n`: the axis; `lv`: the levels of its inputs; `t`: the commit instant. -/
  | servoTick (n lv t : Nat)
  /-- LIMIT_SWITCH_ACTIVE (R427): A limit switch active on the side of motion faults the axis. `n`: the axis; `positive`: which switch. -/
  | limitSwitchActive (n : Nat) (positive : Bool) (t : Nat)
  /-- HOME_SWITCH_EDGE (R421): A homing input edge ends a phase or is the reference event. `which`: 0 LIMP, 1 LIMN, 2 HOME; `t`: the stamp. -/
  | homeSwitchEdge (n which : Nat) (active : Bool) (t : Nat)
  /-- HOMING_TIMEOUT (R421): HOME_TIMEOUT_MS passing fails the homing. `n`: the axis. -/
  | homingTimeout (n : Nat)
  /-- PGOOD_LOSS (R424): PIN_PGOOD inactive for 1 µs stops the axis and sets PHASE_LOST. `t`: the instant. -/
  | pgoodLoss (n t : Nat)
  /-- PGOOD_RISE (R423): PIN_PGOOD active during AXIS_DRIVE 1 starts the settle time. `t`: the instant. -/
  | pgoodRise (n t : Nat)
  /-- DRIVE_SETTLE_END (R423): SETTLE_MS passes and phase restore steps run before enabling. `n`: the axis. -/
  | driveSettleEnd (n : Nat)
  /-- DRIVE_ENABLE_DELAY (R423): 1 ms after PIN_ENA the axis becomes STANDSTILL. `n`: the axis. -/
  | driveEnableDelay (n : Nat)
  /-- PGOOD_TIMEOUT (R423): PIN_PGOOD inactive for 1 s ends AXIS_DRIVE 1 with FAULTED. `n`: the axis. -/
  | pgoodTimeout (n : Nat)
  /-- QUAD_EDGE (R433): An accepted A or B change moves the raw count. `n`: the channel; `a`, `b`: the accepted levels; `t`: the stamp. -/
  | quadEdge (n : Nat) (a b : Bool) (t : Nat)
  /-- HALL_CHANGE (R434): A Hall state change moves the raw count or is a counting error. `code`: C × 4 + B × 2 + A; `t`: the stamp. -/
  | hallChange (n code t : Nat)
  /-- SSI_FRAME_START (R435): An SSI frame starts with a clock falling edge. `n`: the channel. -/
  | ssiFrameStart (n : Nat)
  /-- SSI_FRAME_END (R435): An SSI frame ends and is decoded or counted in error. `high`: data was high at the frame start; `low`: low after the last bit; `data`: the bits read. -/
  | ssiFrameEnd (n : Nat) (high low : Bool) (data : Nat)
  /-- INDEX_EDGE (R440): An index rising edge is checked against COUNTS_REV. `t`: the stamp. -/
  | indexEdge (n t : Nat)
  /-- FBK_PUBLISH (R438): Every PUB_US the position and speed points are written. `t`: the instant. -/
  | fbkPublish (n t : Nat)
  /-- COMPARE_PULSE_END (R445): The compare pulse falls after CMP_W. `n`: the channel. -/
  | comparePulseEnd (n : Nat)
  /-- DISCOVER_TX (R463): Every DISCOVER_MS a DISCOVER is broadcast. `t`: the instant. -/
  | discoverTx (t : Nat)
  /-- WSP_HELLO_RX (R465): A HELLO is negotiated and answered with CONFIG, or listed as discovered. `mac`: the source address; `f`: the bytes after the EtherType. -/
  | wspHelloRx (p : Nat) (mac f : Bytes) (t : Nat)
  /-- WSP_CONFIG_ACK_RX (R465): A CONFIG_ACK puts the station in RUN or FAILED. `mac`: the source address; `f`: the bytes after the EtherType. -/
  | wspConfigAckRx (p : Nat) (mac f : Bytes) (t : Nat)
  /-- WSP_INPUT_RX (R467): An INPUT fragment is reassembled and a complete image committed. `raw`: the ingress stamp of the MAC in quarter ns. -/
  | wspInputRx (p : Nat) (mac f : Bytes) (raw : Int) (t : Nat)
  /-- ETH_FRAME_DISCARD (R450): A non-WSP, non-PTP or bad frame is discarded and counted. `kind`: 0 not accepted, 1 bad FCS or runt, else a WSP frame of another TYPE. -/
  | ethFrameDiscard (p kind : Nat) (mac f : Bytes) (t : Nat)
  /-- CONFIG_RETRY_TIMEOUT (R465): No CONFIG_ACK in 10 ms resends CONFIG or fails the station. `n`: the station. -/
  | configRetryTimeout (n : Nat)
  /-- REASSEMBLY_TIMEOUT (R467): An image incomplete at REASM_US is discarded. `n`: the station. -/
  | reassemblyTimeout (n : Nat)
  /-- STATION_TIMEOUT (R473): No image for TIMEOUT_US makes the station LOST. `n`: the station. -/
  | stationTimeout (n : Nat)
  /-- OUTPUT_IMAGE (R452): An OUTPUT_IMAGE entry launches a station's output frames. `p`: the port. -/
  | outputImage (p : Nat)
  /-- EGRESS_FRAME_START (R451): A queued frame starts once higher queues and the launch guard allow. `p`: the port; `t`: the earliest instant. -/
  | egressFrameStart (p t : Nat)
  /-- PORT_LINK_CHANGE (R449): An Ethernet port gains or loses link. `p`: the port. -/
  | portLinkChange (p : Nat) (up : Bool) (t : Nat)
  /-- CAN_SEND_LAUNCH (R484): A SEND entry makes a CAN frame eligible. `c`: the controller. -/
  | canSendLaunch (c : Nat)
  /-- CAN_ARBITRATION (R485): The controller offers a frame at an arbitration. `sof`: the start of the frame. -/
  | canArbitration (c sof : Nat)
  /-- CAN_TX_COMPLETE (R487): A frame ends sent, failed or aborted with its record. `sent`: false when arbitration was lost; `tdcv`: the measured loop delay. -/
  | canTxComplete (c : Nat) (sent : Bool) (tdcv cons : Option Nat) (t : Nat)
  /-- CAN_FRAME_RX (R490): A received frame is filtered into the ring or points. `sof`: the stamp of the start of frame; `f`: the frame in the layout of R482. -/
  | canFrameRx (c sof : Nat) (f : Bytes) (cons : Option Nat) (t : Nat)
  /-- CAN_BUS_ERROR (R493): A bus error sends an error frame and updates the counters. `code`: as LEC; `quiet`: the standard's exception applies. -/
  | canBusError (c code : Nat) (quiet : Bool) (tdcv cons : Option Nat) (t : Nat)
  /-- CAN_RECOVERY_DONE (R492): 128 recessive sequences end bus-off recovery. `c`: the controller. -/
  | canRecoveryDone (c t : Nat)
  /-- CAN_INTEGRATION_DONE (R480): 11 recessive bits end bus integration. `c`: the controller. -/
  | canIntegrationDone (c t : Nat)
  /-- CAN_CONFIG_EFFECT (R480): A CAN descriptor takes effect at the end of the frame on the bus. `c`: the controller. -/
  | canConfigEffect (c t : Nat)
  /-- EVENT_ACCEPT (R497): The Recorder accepts an event and assigns its SEQ. -/
  | eventAccept
  /-- LOG_WRITE_VERIFY (R503): An MRAM log write is verified, retried or its page retired. `slot`: the log slot read back; `first`, `second`: the verify succeeds; `lost`: slots of its page that cannot be read. -/
  | logWriteVerify (slot : Nat) (first second : Bool) (lost : List Nat)
  /-- FREEZE_MAX_EXPIRY (R502): A freeze lasting FREEZE_MAX_S thaws itself. -/
  | freezeMaxExpiry
  /-- EVENT_RING_DELIVERY (R507): An event record is delivered to the host ring when space allows. -/
  | eventRingDelivery (t : Nat) (cons : Option Nat) (written : Bool)
  /-- REPEAT_UPDATE_DELIVERY (R507): A REPEAT_UPDATE copy is delivered at most once per 100 ms. `q`: the record's SEQ. -/
  | repeatUpdateDelivery (q t : Nat) (cons : Option Nat) (written : Bool)
  /-- HISTORY_HOLD_RELEASE (R509): MIN_INTERVAL ends and the latest held change is recorded. -/
  | historyHoldRelease (id : Nat)
  /-- HISTORY_BLOCK_CLOSE (R511): FLUSH_MS after its first record a block closes. -/
  | historyBlockClose
  /-- HISTORY_EXPORT (R515): A closed block is exported to the host ring with STALE marking. -/
  | historyExport (t : Nat) (cons : Option Nat) (written : Bool)
  /-- WLK_HEARTBEAT_TX (R520): Every 2 µs each lane sends a heartbeat. `t`: the instant. -/
  | wlkHeartbeatTx (t : Nat)
  /-- WLK_HEARTBEAT_RX (R520): A heartbeat is received on a lane. `m`: the sender's module number; `st`: its pairing state; `n`: its count. -/
  | wlkHeartbeatRx (p lane m st n t : Nat)
  /-- WLK_LANE_LOSS (R520): No block lock or heartbeat for 2 µs loses the lane. `noLock`: the lane is without block lock. -/
  | wlkLaneLoss (p lane : Nat) (noLock : Bool) (t : Nat)
  /-- WLK_PORT_DOWN (R520): No heartbeat on any lane for 6 µs takes the port DOWN. `p`: the port; `t`: the instant. -/
  | wlkPortDown (p t : Nat)
  /-- WLK_RETRAIN_DONE (R520): 10 ms of stable lock and a LINK_HELLO bring the port UP. `p`: the port; `t`: the instant. -/
  | wlkRetrainDone (p t : Nat)
  /-- LINK_HELLO_RX (R523): A LINK_HELLO sets the port's version or leaves it DOWN. `p`: the port; `b`: the message; `t`: the arrival. -/
  | linkHelloRx (p : Nat) (b : Bytes) (t : Nat)
  /-- WLK_VERSION_RETRY (R523): Every 1 s a version-refused port retries. `p`: the port. -/
  | wlkVersionRetry (p : Nat)
  /-- ANNOUNCE_TX (R526): Every 1 ms the module broadcasts an ANNOUNCE. `t`: the instant. -/
  | announceTx (t : Nat)
  /-- ANNOUNCE_RX (R526): An ANNOUNCE updates the domain master choice and conflicts. `p`: the port; `b`: the message; `t`: the arrival. -/
  | announceRx (p : Nat) (b : Bytes) (t : Nat)
  /-- MASTER_ANNOUNCE_TIMEOUT (R526): No ANNOUNCE from the master for 3 ms changes the master. `t`: the instant. -/
  | masterAnnounceTimeout (t : Nat)
  /-- SYNC_REQ_TX (R527): Every 100 µs the master sends SYNC_REQ. `t1`: the stamp in 2^-16 ns. -/
  | syncReqTx (t1 t : Nat)
  /-- SYNC_REQ_RX (R527): A member stamps SYNC_REQ and answers SYNC_RESP. `t2`, `t3`: the stamps in 2^-16 ns. -/
  | syncReqRx (p : Nat) (b : Bytes) (t2 t3 t : Nat)
  /-- SYNC_RESP_RX (R527): The master stamps SYNC_RESP and returns SYNC_DONE. `t4`: the stamp in 2^-16 ns. -/
  | syncRespRx (p : Nat) (b : Bytes) (t4 t : Nat)
  /-- SYNC_DONE_RX (R527): A member computes its residual and steers its domain Timeline. `mt`: the master's mapping. -/
  | syncDoneRx (p : Nat) (b : Bytes) (mt : MasterTime) (t : Nat)
  /-- DOMAIN_TIME_LOSS (R56): Master TIME messages absent for 3 intervals put the member in HOLDOVER. `t`: the instant. -/
  | domainTimeLoss (t : Nat)
  /-- REPLICATION_SEND (R528): A committed write in a replicated range is sent as POINT records after coalescing. `e`: the element of WLK_REP; `ids`: the points that leave in one message. -/
  | replicationSend (e : Nat) (ids : List Nat) (t : Nat)
  /-- POINT_RECORDS_RX (R528): Replicated records are written at the destination. `p`: the port; `b`: the message; `t`: the arrival. -/
  | pointRecordsRx (p : Nat) (b : Bytes) (t : Nat)
  /-- TRIG_ARM_RX (R400): A member enqueues a group ARM. `p`: the port; `b`: the message; `t`: the arrival. -/
  | trigArmRx (p : Nat) (b : Bytes) (t : Nat)
  /-- TRIG_FIRE_RX (R401): A group fire is delivered and takes a segment. `rx`: none for the next fire of this module itself, else the port and the message of another module. -/
  | trigFireRx (rx : Option (Nat × Bytes)) (t : Nat)
  /-- TRIG_ACK_RX (R400): A member acknowledges a group ARM. `p`: the port; `b`: the message; `t`: the arrival. -/
  | trigAckRx (p : Nat) (b : Bytes) (t : Nat)
  /-- LAUNCH_BOUNDARY_RX (R261): A participant enqueues a domain boundary. `p`: the port; `b`: the message; `t`: the arrival. -/
  | launchBoundaryRx (p : Nat) (b : Bytes) (t : Nat)
  /-- LAUNCH_ACK_RX (R262): The owner receives a participant's acknowledgement. `p`: the port; `b`: the message; `t`: the arrival. -/
  | launchAckRx (p : Nat) (b : Bytes) (t : Nat)
  /-- LAUNCH_RESUME_RX (R271): A participant accepts or refuses a domain resume. `p`: the port; `b`: the message; `t`: the arrival. -/
  | launchResumeRx (p : Nat) (b : Bytes) (t : Nat)
  /-- MIRROR_INPUT_RX (R535): The standby receives a mirrored input. `b`: the message. -/
  | mirrorInputRx (b : Bytes) (t : Nat)
  /-- MIRROR_COMMIT_ORDER_RX (R535): The standby receives the commit order. `b`: the message. -/
  | mirrorCommitOrderRx (b : Bytes) (t : Nat)
  /-- MIRROR_DIGEST_RX (R536): A partner digest is compared. `b`: the message. -/
  | mirrorDigestRx (b : Bytes) (t : Nat)
  /-- MIRROR_COMMAND_RX (R525): A mirrored command fragment is assembled and applied. `b`: the message. -/
  | mirrorCommandRx (b : Bytes) (t : Nat)
  /-- MIRROR_ACK_RX (R539): The active module receives the standby's ACK and completes the command. `b`: the message. -/
  | mirrorAckRx (b : Bytes) (t : Nat)
  /-- MIRROR_GIVE_UP_RX (R541): A GIVE_UP makes a READY standby take control. `b`: the message; `planned`: the partner's heartbeats tell a planned switch. -/
  | mirrorGiveUpRx (b : Bytes) (planned : Bool) (t : Nat)
  /-- MIRROR_XFER_RX (R525): A state transfer fragment is applied. `b`: the message; `regions`: what the regions' bytes say; `snapshot`: the transfer carries the state as of C. -/
  | mirrorXferRx (b : Bytes) (regions : List XferRegion) (snapshot : Bool) (t : Nat)
  /-- MIRROR_PIN_STATE_RX (R541): Paired pin and QCH latch levels are mirrored. `b`: the message. -/
  | mirrorPinStateRx (b : Bytes) (t : Nat)
  /-- MIRROR_ACK_TIMEOUT (R538): No ACK within 1 ms makes the standby unsynchronised. -/
  | mirrorAckTimeout
  /-- STANDBY_LAG_EXCEEDED (R535): A standby lag over 100 µs leaves STANDBY_READY. `us`: the lag in µs. -/
  | standbyLagExceeded (us t : Nat)
  /-- PAIR_HELLO_TX (R531): Every 1 ms each module sends PAIR_HELLO. `t`: the instant. -/
  | pairHelloTx (t : Nat)
  /-- PAIR_HELLO_RX (R531): A PAIR_HELLO forms or refuses a pair and sets roles. `b`: the message. -/
  | pairHelloRx (b : Bytes) (t : Nat)
  /-- PAIR_ACT_IN_LOW (R541): PAIR_ACT_IN low for 200 ns makes a READY standby take control. `planned`: the partner's heartbeats tell a planned switch. -/
  | pairActInLow (planned : Bool) (t : Nat)
  /-- PAIR_ACT_IN_RISE (R543): PAIR_ACT_IN rising releases paired pins or makes the module yield. `t`: the instant. -/
  | pairActInRise (t : Nat)
  /-- PAIR_SWITCH_INSTANT (R543): At the planned instant the module gives up control. -/
  | pairSwitchInstant
  /-- AUTO_RESYNC_START (R538): Within 10 ms of unsync the active module starts a state transfer. `t`: the instant. -/
  | autoResyncStart (t : Nat)
  /-- XFER_PASS_END (R545): A transfer pass ends. `left`: bytes still to copy; `cut`: the cut instant C, where one is found. -/
  | xferPassEnd (left : Nat) (cut : Option Nat) (t : Nat)
  /-- XFER_CUT_TIMEOUT (R545): No cut within 10 s fails the transfer. `cut`: the cut instant C, where one is found. -/
  | xferCutTimeout (cut : Option Nat) (t : Nat)
  /-- XFER_CATCHUP_DONE (R546): Standby lag reaching 5 µs makes it STANDBY_READY. `t`: the instant. -/
  | xferCatchupDone (t : Nat)
  /-- CATCHUP_TIMEOUT (R546): Catch-up beyond CATCHUP_MS fails the transfer. `t`: the instant. -/
  | catchupTimeout (t : Nat)
  /-- SELFTEST_PASS (R548): A latent-fault self-test pass completes. `fails`: failed checks of the pass. -/
  | selftestPass (fails t : Nat)
  /-- SELFTEST_OVERDUE (R548): 24 h without a pass sets OVERDUE. `t`: the instant. -/
  | selftestOverdue (t : Nat)
  /-- PROBATION_TIMEOUT (R573): Probation of 60 s passes without full confirmation. -/
  | probationTimeout
  /-- BLOCK_LOCK (R523): A Walig lane gains 64b/66b block lock, so the port starts its LINK_HELLO exchange and its count of stable lock. `p`: the port; `t`: the instant. -/
  | blockLock (p lane t : Nat)
  /-- PHASE_RESTORE_STEP (R423): During AXIS_DRIVE 1 with PHASE_RESET, a phase-count restore step is emitted at RESTORE_KHZ, and after the last one PIN_ENA goes active. `n`: the axis. -/
  | phaseRestoreStep (n : Nat)
  /-- RECIPE_ABORT_INSTANT (R263): At the instant I of a RECIPE_ABORT, pending boundaries and offset groups are cancelled, ramps stop, and without an ABORT_STEP the executor becomes ABORTED. `fails`: failed verifies of its checkpoint. -/
  | recipeAbortInstant (x fails : Nat)
  /-- RAIL_RESTORED (R594): Every monitored rail returns above 90 % of nominal and the reset hold on the control and converter dies, or on Hendel, ends. -/
  | railRestored
  deriving DecidableEq, Repr

end Sys2Proof
end

