-- ==== Sys2Proof/Decode.lean ====
section
/-! DEFINITION. The words of the operation table. No row of spec/opcode_table.json gives bits: the commands are bus accesses, received messages,
pin events and instants, so no word spells one. -/
namespace Sys2Proof

/-- The command that a word of the operation table spells: none, since no row has bits. -/
def decodeTableWord (_nbits _w : Nat) : Option Instr := none

end Sys2Proof
end

