-- ==== Sys2Proof/Config.lean ====
section
/-! DEFINITION. What one part fixes and the manual does not state: opaque constants, so that no proof can see a value. -/
namespace Sys2Proof

/-- A fresh free value for each count: used wherever the manual leaves a result open (notes/assumptions/1.md). -/
opaque Config.freeValue : Nat → BitVec 64

/-- Spare pages of the MRAM log region's spare pool (17_recorder R503): the manual gives no number. -/
opaque Config.sparePages : Nat

/-- A vendor key (0 to 3) verifies a signature over a message (19_hendel R575): the keys stand in ROM and the manual does not give them. -/
opaque Config.signatureOk : Nat → Bytes → Bytes → Bool

/-- The part's own signature over a message with a leaf of its identity key (19_hendel R575 to R578). -/
opaque Config.sign : Nat → Bytes → Bytes

/-- The part's identity public key (19_hendel R576). -/
opaque Config.deviceKey : Bytes

/-- The vendor KEY_ID and signature of the device certificate (19_hendel R576). -/
opaque Config.certKeyId : Nat

/-- The vendor signature of the device certificate (19_hendel R576). -/
opaque Config.certSignature : Bytes

/-- The grade of the part, bit 16 of GLB_ID (03_host_rings R137): 0 for -C, 1 for -E. -/
opaque Config.grade : Nat

end Sys2Proof
end

