-- ==== Sys2Proof/Machine/Bits.lean ====
section
/-! DEFINITION. Bit fields, little-endian byte strings (R19, R30), CRC-32C (R84), sign extension, and the exact value of the
IEEE 754 codes of REAL32 and REAL64 (R29). -/
namespace Sys2Proof.Machine
open Sys2Proof

/-- The unsigned number a little-endian byte string spells. -/
def leNat : Bytes → Nat
  | [] => 0
  | b :: t => b.toNat + 256 * leNat t

/-- The `n` bytes of a number, little-endian. -/
def leBytes : Nat → Nat → Bytes
  | 0, _ => []
  | n + 1, v => BitVec.ofNat 8 v :: leBytes n (v / 256)

/-- `n` bytes of a byte string from offset `o`. -/
def slice (b : Bytes) (o n : Nat) : Bytes := (b.drop o).take n

/-- The little-endian number in `n` bytes at offset `o`. -/
def le (b : Bytes) (o n : Nat) : Nat := leNat (slice b o n)

/-- The number in bits `hi` to `lo` of a number. -/
def bits (v hi lo : Nat) : Nat := (v >>> lo) % 2 ^ (hi + 1 - lo)

/-- Bit `i` of a number. -/
def bit (v i : Nat) : Bool := v.testBit i

/-- 1 for true, 0 for false. -/
def b2n (b : Bool) : Nat := if b then 1 else 0

/-- The two's complement value of the low `w` bits of a number. -/
def signed (w v : Nat) : Int := (BitVec.ofNat w v).toInt

/-- The low `w` bits of a signed number, unsigned. -/
def unsigned (w : Nat) (v : Int) : Nat := (BitVec.ofInt w v).toNat

/-- The signed number in `n` bytes at offset `o`. -/
def les (b : Bytes) (o n : Nat) : Int := signed (8 * n) (le b o n)

/-- The `n` bytes of a signed number. -/
def lesBytes (n : Nat) (v : Int) : Bytes := leBytes n (unsigned (8 * n) v)

/-- Every byte of a string is zero. -/
def allZero (b : Bytes) : Bool := b.all (· == 0#8)

/-- Reserved fields of an image with this VERSION are checked: a later minor version of major 1 may use them, and they are ignored there. -/
def resChecked (v : Nat) : Bool := !(v / 256 == 1 && v % 256 != 0)

/-- `n` zero bytes. -/
def zeros (n : Nat) : Bytes := List.replicate n 0#8

/-- Cut a byte string into `k` pieces of `n` bytes. -/
def chunks (n : Nat) : Nat → Bytes → List Bytes
  | 0, _ => []
  | k + 1, b => b.take n :: chunks n k (b.drop n)

/-- One bit of the reflected CRC-32C of R84. -/
def crcBit (c : BitVec 32) : BitVec 32 := if c.getLsbD 0 then (c >>> 1) ^^^ 0x82F63B78#32 else c >>> 1

/-- One byte of the CRC-32C of R84. -/
def crcByte (c : BitVec 32) (b : Byte) : BitVec 32 :=
  let x := c ^^^ b.setWidth 32
  crcBit (crcBit (crcBit (crcBit (crcBit (crcBit (crcBit (crcBit x)))))))

/-- CRC-32C over a byte string (R84): reflected Castagnoli polynomial, initial value and final XOR all ones. -/
def crc32c (b : Bytes) : BitVec 32 := (b.foldl crcByte 0xFFFFFFFF#32) ^^^ 0xFFFFFFFF#32

/-- Clamp a signed number between two bounds. -/
def clampI (lo hi v : Int) : Int := if v < lo then lo else if hi < v then hi else v

/-- The low byte-counted ASCII codes of a four-letter magic. -/
def magic (a b c d : Char) : Bytes := [a, b, c, d].map fun x => BitVec.ofNat 8 x.toNat

/-- Division to the nearest whole number, ties to even. -/
def roundEven (n d : Nat) : Nat :=
  let q := n / d
  let r := n % d
  if 2 * r < d then q else if d < 2 * r then q + 1 else if q % 2 = 0 then q else q + 1

/-- 2 to an integer power. -/
def pow2 (e : Int) : Rat := if 0 ≤ e then ((2 ^ e.toNat : Nat) : Rat) else 1 / ((2 ^ (-e).toNat : Nat) : Rat)

/-- The exact value of an IEEE 754 code with `m` fraction and `x` exponent bits; none for an infinity or a NaN. -/
def ieeeVal (m x v : Nat) : Option Rat :=
  let frac := v % 2 ^ m
  let ex := (v >>> m) % 2 ^ x
  let bias : Int := 2 ^ (x - 1) - 1
  if ex = 2 ^ x - 1 then none
  else
    let mag : Rat := if ex = 0 then (frac : Rat) * pow2 (1 - bias - m)
      else ((2 ^ m + frac : Nat) : Rat) * pow2 ((ex : Int) - bias - m)
    some (if v.testBit (m + x) then -mag else mag)

/-- The IEEE 754 code nearest an exact value, ties to even, overflow to infinity. -/
def ieeeCode (m x : Nat) (q : Rat) : Nat :=
  let n := q.num.natAbs
  let d := q.den
  let sign := if q.num < 0 then 2 ^ (m + x) else 0
  if n = 0 then 0
  else
    let bias : Int := 2 ^ (x - 1) - 1
    let e0 : Int := (Nat.log2 n : Int) - (Nat.log2 d : Int)
    let below : Bool := if 0 ≤ e0 then decide (n < d * 2 ^ e0.toNat) else decide (n * 2 ^ (-e0).toNat < d)
    let e1 := if below then e0 - 1 else e0
    let e := if e1 < 1 - bias then 1 - bias else e1
    let sh : Int := (m : Int) - e
    let f := if 0 ≤ sh then roundEven (n * 2 ^ sh.toNat) d else roundEven n (d * 2 ^ (-sh).toNat)
    let code := (e + bias - 1).toNat * 2 ^ m + f
    let inf := (2 ^ x - 1) * 2 ^ m
    sign + (if inf ≤ code then inf else code)

/-- The value of a REAL32 code. -/
def real32Val (v : Nat) : Option Rat := ieeeVal 23 8 (v % 2 ^ 32)
/-- The value of a REAL64 code. -/
def real64Val (v : Nat) : Option Rat := ieeeVal 52 11 (v % 2 ^ 64)
/-- The REAL32 code nearest a value. -/
def real32Code (q : Rat) : Nat := ieeeCode 23 8 q
/-- The REAL64 code nearest a value. -/
def real64Code (q : Rat) : Nat := ieeeCode 52 11 q

/-- The largest whole number not above an exact value. -/
def floorQ (q : Rat) : Int := q.num / (q.den : Int)
/-- The nearest whole number, ties to even. -/
def nearestQ (q : Rat) : Int :=
  if q.num < 0 then -(roundEven q.num.natAbs q.den : Int) else (roundEven q.num.natAbs q.den : Int)
/-- Magnitude of an exact value. -/
def absQ (q : Rat) : Rat := if q.num < 0 then -q else q

/-- Replace element `i` of a list. -/
def listSet {α : Type} (l : List α) (i : Nat) (v : α) : List α := l.set i v

/-- `f` applied `n` times. -/
def iter {α : Type} (f : α → α) : Nat → α → α
  | 0, a => a
  | n + 1, a => iter f n (f a)

end Sys2Proof.Machine
end

