-- ==== Sys2Proof/Machine/RegTable.lean ====
section
/-! DEFINITION. The stored registers of BAR0 (R19, R20, R25): for each word the write masks of its access types and its reset
value, taken from the register maps of the chapters, and a handle for each writable field. Read-only fields are computed from the
blocks (Machine/Views.lean), so they are not stored here. -/
namespace Sys2Proof.Machine
open Sys2Proof

/-- One stored register word: address of element 0, stride, count, and the masks of its fields by access type (R25). -/
structure RegRow where
  base : Nat
  stride : Nat
  count : Nat
  rw : Nat
  rws : Nat
  w1c : Nat
  rc : Nat
  w1s : Nat
  reset : Nat
  deriving DecidableEq, Repr

/-- A field: address of its word, high and low bit. A handle of an array takes the number of the element modulo the count (R20). -/
structure Fld where
  addr : Nat
  hi : Nat
  lo : Nat
  deriving DecidableEq, Repr

/-- Stored registers of window 0x00. -/
def regRows00 : List RegRow :=
  [⟨0x14, 0, 1, 0xFFFF, 0x0, 0x0, 0x0, 0x80000000, 0x0⟩,
   ⟨0x24, 0, 1, 0xFFFFFFFF, 0x0, 0x0, 0x0, 0x0, 0x0⟩,
   ⟨0x28, 0, 1, 0x0, 0x0, 0xF, 0x0, 0x0, 0x0⟩]

/-- Stored registers of window 0x01. -/
def regRows01 : List RegRow :=
  [⟨0x100004, 0, 1, 0x0, 0x3FF, 0x0, 0x0, 0x0, 0x64⟩,
   ⟨0x100008, 0, 1, 0x0, 0x0, 0x0, 0x0, 0x1, 0x0⟩,
   ⟨0x100100, 4, 16, 0x0, 0x0, 0x0, 0xFFFFFFFF, 0x0, 0x0⟩,
   ⟨0x101000, 32, 64, 0x0, 0xFFFFFFFF, 0x0, 0x0, 0x0, 0x0⟩,
   ⟨0x101004, 32, 64, 0x0, 0xFFFFFFFF, 0x0, 0x0, 0x0, 0x0⟩,
   ⟨0x101008, 32, 64, 0x0, 0xFFF, 0x0, 0x0, 0x0, 0x4⟩,
   ⟨0x10100C, 32, 64, 0x0, 0x1FF01FF, 0x0, 0x0, 0x0, 0xF0000⟩,
   ⟨0x101010, 32, 64, 0x1, 0x0, 0x0, 0x0, 0x0, 0x0⟩,
   ⟨0x102000, 32, 64, 0x0, 0xFFFFFFFF, 0x0, 0x0, 0x0, 0x0⟩,
   ⟨0x102004, 32, 64, 0x0, 0xFFFFFFFF, 0x0, 0x0, 0x0, 0x0⟩,
   ⟨0x102008, 32, 64, 0x0, 0xFF1F, 0x0, 0x0, 0x0, 0x4⟩,
   ⟨0x10200C, 32, 64, 0x0, 0xFFFFFFFF, 0x0, 0x0, 0x0, 0x1⟩,
   ⟨0x102010, 32, 64, 0x1, 0x0, 0x0, 0x0, 0x0, 0x0⟩]

/-- Stored registers of window 0x02. -/
def regRows02 : List RegRow :=
  [⟨0x200040, 0, 1, 0x0, 0xFFFF, 0x0, 0x0, 0x0, 0x41⟩,
   ⟨0x200044, 0, 1, 0x0, 0xFFFFFFFF, 0x0, 0x0, 0x0, 0xF4240⟩,
   ⟨0x200048, 0, 1, 0x0, 0xFFFF, 0x0, 0x0, 0x0, 0x3608⟩,
   ⟨0x20004C, 0, 1, 0x0, 0xFFFF, 0x0, 0x0, 0x0, 0x3E8⟩,
   ⟨0x200050, 0, 1, 0x0, 0xFFFF7FF3, 0x0, 0x0, 0x0, 0xF8F80000⟩,
   ⟨0x200054, 0, 1, 0x0, 0xFFFFFF, 0x0, 0x0, 0x0, 0xFD⟩,
   ⟨0x200058, 0, 1, 0x0, 0xFF03, 0x0, 0x0, 0x0, 0x6400⟩,
   ⟨0x20005C, 0, 1, 0x0, 0xFFFFFFFF, 0x0, 0x0, 0x0, 0x0⟩,
   ⟨0x200060, 0, 1, 0x0, 0xFFFFFFFF, 0x0, 0x0, 0x0, 0x0⟩,
   ⟨0x200064, 0, 1, 0x0, 0xFF, 0x0, 0x0, 0x0, 0x25⟩,
   ⟨0x200068, 0, 1, 0x0, 0x0, 0x0, 0x0, 0x1, 0x0⟩,
   ⟨0x200070, 0, 1, 0xFFFFFFFF, 0x0, 0x0, 0x0, 0x0, 0x0⟩,
   ⟨0x200074, 0, 1, 0xFFFFFFFF, 0x0, 0x0, 0x0, 0x0, 0x0⟩,
   ⟨0x200078, 0, 1, 0xFFFFFFFF, 0x0, 0x0, 0x0, 0x0, 0x0⟩,
   ⟨0x20007C, 0, 1, 0xFFFFFFFF, 0x0, 0x0, 0x0, 0x0, 0x0⟩,
   ⟨0x200080, 0, 1, 0x0, 0x0, 0x0, 0x0, 0x1, 0x0⟩,
   ⟨0x200090, 4, 4, 0x0, 0xFFFFFFFF, 0x0, 0x0, 0x0, 0x0⟩,
   ⟨0x2000A0, 0, 1, 0xFF, 0x0, 0x0, 0x0, 0x0, 0x0⟩,
   ⟨0x200100, 4, 16, 0x0, 0x0, 0x0, 0xFFFFFFFF, 0x0, 0x0⟩,
   ⟨0x200200, 4, 4, 0xFFFFFFFF, 0x0, 0x0, 0x0, 0x0, 0x0⟩,
   ⟨0x200210, 0, 1, 0x0, 0x0, 0x0, 0x0, 0x1, 0x0⟩,
   ⟨0x201000, 4, 128, 0x3F, 0x0, 0x800000, 0x0, 0x0, 0x0⟩]

/-- Stored registers of window 0x03. -/
def regRows03 : List RegRow :=
  [⟨0x300004, 0, 1, 0x0, 0x3FFF, 0x0, 0x0, 0x0, 0x300A⟩,
   ⟨0x300020, 0, 1, 0x0, 0x0, 0x0, 0x0, 0x1, 0x0⟩,
   ⟨0x300040, 4, 8, 0x0, 0x7FFFFFFF, 0x0, 0x0, 0x0, 0x0⟩,
   ⟨0x300060, 0, 1, 0x1FFFFFF, 0x0, 0x0, 0x0, 0x0, 0x0⟩,
   ⟨0x300100, 4, 16, 0x0, 0x0, 0x0, 0xFFFFFFFF, 0x0, 0x0⟩]

/-- Stored registers of window 0x04. -/
def regRows04 : List RegRow :=
  [⟨0x400004, 0, 1, 0x0, 0x13F, 0x0, 0x0, 0x0, 0x18⟩,
   ⟨0x400008, 0, 1, 0x0, 0x0, 0x0, 0x0, 0x1, 0x0⟩,
   ⟨0x400100, 4, 16, 0x0, 0x0, 0x0, 0xFFFFFFFF, 0x0, 0x0⟩,
   ⟨0x401010, 32, 32, 0x0, 0x0, 0x0, 0xFFFFFFFF, 0x0, 0x0⟩]

/-- Stored registers of window 0x05. -/
def regRows05 : List RegRow :=
  [⟨0x500004, 0, 1, 0x0, 0x0, 0x0, 0x0, 0x1, 0x0⟩,
   ⟨0x500028, 0, 1, 0x0, 0x0, 0x0, 0xFFFFFFFF, 0x0, 0x0⟩,
   ⟨0x500100, 4, 8, 0x0, 0x0, 0x0, 0xFFFFFFFF, 0x0, 0x0⟩]

/-- Stored registers of window 0x06. -/
def regRows06 : List RegRow :=
  [⟨0x60000C, 0, 1, 0x0, 0x1FF, 0x0, 0x0, 0x0, 0xFF⟩,
   ⟨0x600010, 0, 1, 0x0, 0x0, 0x0, 0x0, 0x1, 0x0⟩,
   ⟨0x600080, 8, 8, 0x0, 0x1FFF1FFF, 0x0, 0x0, 0x0, 0x0⟩,
   ⟨0x600084, 8, 8, 0x0, 0xFFFF0007, 0x0, 0x0, 0x0, 0x27100000⟩,
   ⟨0x600100, 4, 16, 0x0, 0x0, 0x0, 0xFFFFFFFF, 0x0, 0x0⟩]

/-- Stored registers of window 0x07. -/
def regRows07 : List RegRow :=
  [⟨0x700004, 0, 1, 0x0, 0x13FFF, 0x0, 0x0, 0x0, 0x10032⟩,
   ⟨0x700008, 0, 1, 0x0, 0x0, 0x0, 0x0, 0x1, 0x0⟩,
   ⟨0x700100, 4, 16, 0x0, 0x0, 0x0, 0xFFFFFFFF, 0x0, 0x0⟩,
   ⟨0x701000, 32, 64, 0x0, 0x30, 0x1000000, 0x0, 0x0, 0x0⟩]

/-- Stored registers of window 0x08. -/
def regRows08 : List RegRow :=
  [⟨0x800010, 0, 1, 0x7FFFFF, 0x0, 0x0, 0x0, 0x0, 0x0⟩,
   ⟨0x800100, 4, 8, 0x0, 0x0, 0x0, 0xFFFFFFFF, 0x0, 0x0⟩,
   ⟨0x801010, 32, 64, 0x0, 0x0, 0x0, 0xFFFF, 0x0, 0x0⟩,
   ⟨0x818004, 0, 1, 0x0, 0xF1, 0x0, 0x0, 0x0, 0x31⟩,
   ⟨0x818008, 0, 1, 0x0, 0x0, 0x0, 0x0, 0x1, 0x0⟩,
   ⟨0x818100, 4, 16, 0x0, 0x0, 0x0, 0xFFFFFFFF, 0x0, 0x0⟩]

/-- Stored registers of window 0x09. -/
def regRows09 : List RegRow :=
  [⟨0x900004, 0, 1, 0x0, 0x3FF03FF, 0x0, 0x0, 0x0, 0x320014⟩,
   ⟨0x900008, 0, 1, 0x0, 0x0, 0x0, 0x0, 0x1, 0x0⟩,
   ⟨0x900100, 4, 16, 0x0, 0x0, 0x0, 0xFFFFFFFF, 0x0, 0x0⟩]

/-- Stored registers of window 0x0A. -/
def regRows0A : List RegRow :=
  [⟨0xA00004, 0, 1, 0x0, 0x0, 0x0, 0x0, 0x1, 0x0⟩,
   ⟨0xA00100, 4, 16, 0x0, 0x0, 0x0, 0xFFFFFFFF, 0x0, 0x0⟩,
   ⟨0xA01000, 64, 32, 0x0, 0x0, 0x10, 0x0, 0x0, 0x0⟩]

/-- Stored registers of window 0x0B. -/
def regRows0B : List RegRow :=
  [⟨0xB00004, 0, 1, 0x0, 0xFFFFFF07, 0x0, 0x0, 0x0, 0x640107⟩,
   ⟨0xB00008, 0, 1, 0x0, 0x0, 0x0, 0x0, 0x1, 0x0⟩,
   ⟨0xB00100, 4, 16, 0x0, 0x0, 0x0, 0xFFFFFFFF, 0x0, 0x0⟩,
   ⟨0xB00200, 4, 16, 0x0, 0x1, 0x100, 0x0, 0x0, 0x1⟩]

/-- Stored registers of window 0x0C. -/
def regRows0C : List RegRow :=
  [⟨0xC00004, 0, 1, 0x0, 0xF, 0x0, 0x0, 0x0, 0x4⟩,
   ⟨0xC00008, 0, 1, 0x0, 0x0, 0x0, 0x0, 0x1, 0x0⟩,
   ⟨0xC00010, 0, 1, 0x3FF000F, 0x0, 0x0, 0x0, 0x0, 0x0⟩,
   ⟨0xC00100, 4, 16, 0x0, 0x0, 0x0, 0xFFFFFFFF, 0x0, 0x0⟩]

/-- Stored registers of window 0x0D. -/
def regRows0D : List RegRow :=
  [⟨0xD00100, 4, 128, 0x0, 0x0, 0x0, 0xFFFFFFFF, 0x0, 0x0⟩,
   ⟨0xD0100C, 64, 8, 0x0, 0x0, 0x0, 0x0, 0x1, 0x0⟩]

/-- Stored registers of window 0x0E. -/
def regRows0E : List RegRow :=
  [⟨0xE00008, 0, 1, 0x0, 0x1FFFF, 0x0, 0x0, 0x0, 0x103E8⟩,
   ⟨0xE0000C, 0, 1, 0x0, 0x0, 0x0, 0x0, 0x1, 0x0⟩,
   ⟨0xE00100, 4, 32, 0x0, 0x0, 0x0, 0xFFFFFFFF, 0x0, 0x0⟩,
   ⟨0xE40018, 32, 4096, 0x0, 0x0, 0x0, 0xFFFFFFFF, 0x0, 0x0⟩]

/-- Stored registers of window 0x0F. -/
def regRows0F : List RegRow :=
  [⟨0xF00004, 0, 1, 0x0, 0xFF3F, 0x0, 0x0, 0x0, 0x8000⟩,
   ⟨0xF00008, 0, 1, 0x0, 0x0, 0x0, 0x0, 0x1, 0x0⟩,
   ⟨0xF00100, 4, 16, 0x0, 0x0, 0x0, 0xFFFFFFFF, 0x0, 0x0⟩,
   ⟨0xF01018, 32, 4, 0x0, 0x1, 0x0, 0x0, 0x0, 0x0⟩,
   ⟨0xF02000, 16, 256, 0x0, 0x81FFFFFF, 0x0, 0x0, 0x0, 0x0⟩,
   ⟨0xF02004, 16, 256, 0x0, 0x1FFFF, 0x0, 0x0, 0x0, 0x0⟩,
   ⟨0xF02008, 16, 256, 0x0, 0x1FFFFFF, 0x0, 0x0, 0x0, 0x0⟩,
   ⟨0xF0200C, 16, 256, 0x0, 0xFFFF003F, 0x0, 0x0, 0x0, 0x640000⟩]

/-- Stored registers of window 0x10. -/
def regRows10 : List RegRow :=
  [⟨0x1000004, 0, 1, 0x0, 0xFFFFFF0F, 0x0, 0x0, 0x0, 0x3E80C08⟩,
   ⟨0x1000008, 0, 1, 0x0, 0x0, 0x0, 0x0, 0x1, 0x0⟩,
   ⟨0x1000080, 4, 4, 0x0, 0xFFFFFFFF, 0x0, 0x0, 0x0, 0x0⟩,
   ⟨0x1000100, 4, 16, 0x0, 0x0, 0x0, 0xFFFFFFFF, 0x0, 0x0⟩]

/-- Stored registers of window 0x11. REC_HCLASS[0] reads 0 and ignores writes (R518). -/
def regRows11 : List RegRow :=
  [⟨0x1100000, 0, 1, 0x0, 0x0, 0x4, 0x0, 0x0, 0x0⟩,
   ⟨0x1100004, 0, 1, 0x0, 0x3FFFF07, 0x0, 0x0, 0x0, 0x643C02⟩,
   ⟨0x1100008, 0, 1, 0x0, 0x0, 0x0, 0x0, 0x1, 0x0⟩,
   ⟨0x1100100, 4, 16, 0x0, 0x0, 0x0, 0xFFFFFFFF, 0x0, 0x0⟩,
   ⟨0x1101010, 16, 255, 0x0, 0xFFFFFF03, 0x0, 0x0, 0x0, 0x2⟩,
   ⟨0x1101014, 16, 255, 0x0, 0xFFFFFFFF, 0x0, 0x0, 0x0, 0x0⟩]

/-- Stored registers of window 0x12. -/
def regRows12 : List RegRow :=
  [⟨0x1200004, 0, 1, 0x0, 0xF, 0x0, 0x0, 0x10, 0x5⟩,
   ⟨0x1200008, 0, 1, 0x0, 0x0, 0x0, 0x0, 0x1, 0x0⟩,
   ⟨0x1200100, 4, 8, 0x0, 0x0, 0x0, 0xFFFFFFFF, 0x0, 0x0⟩,
   ⟨0x1201008, 16, 120, 0x0, 0xFFFFFFFF, 0x0, 0x0, 0x0, 0x0⟩,
   ⟨0x120100C, 16, 120, 0x0, 0x1FFFFFF, 0x0, 0x0, 0x0, 0x0⟩,
   ⟨0x1202000, 8, 16, 0x0, 0x1FF, 0x0, 0x0, 0x0, 0x0⟩,
   ⟨0x1202004, 8, 16, 0x0, 0x3FF, 0x0, 0x0, 0x0, 0x64⟩,
   ⟨0x1203000, 0, 1, 0xFF, 0x0, 0x0, 0x0, 0x80000000, 0x0⟩,
   ⟨0x1203004, 0, 1, 0xFFFFFFFF, 0x0, 0x0, 0x0, 0x0, 0x0⟩,
   ⟨0x1203008, 0, 1, 0xFFFFFFFF, 0x0, 0x0, 0x0, 0x0, 0x0⟩]

/-- Stored registers of window 0x13. -/
def regRows13 : List RegRow :=
  [⟨0x1300004, 0, 1, 0xFFFF, 0x0, 0x0, 0x0, 0x0, 0x0⟩,
   ⟨0x1300008, 0, 1, 0x0, 0x0, 0x0, 0x0, 0x1, 0x0⟩,
   ⟨0x1300100, 4, 8, 0x0, 0x0, 0x0, 0xFFFFFFFF, 0x0, 0x0⟩,
   ⟨0x1301000, 16, 16, 0x0, 0xFFFF0007, 0x0, 0x0, 0x0, 0x0⟩,
   ⟨0x1301004, 16, 16, 0x0, 0x0, 0x200, 0x0, 0x10000, 0x0⟩]

/-- The stored registers of one window. -/
def regRowsOf (w : Nat) : List RegRow :=
  match w with
  | 0x00 => regRows00
  | 0x01 => regRows01
  | 0x02 => regRows02
  | 0x03 => regRows03
  | 0x04 => regRows04
  | 0x05 => regRows05
  | 0x06 => regRows06
  | 0x07 => regRows07
  | 0x08 => regRows08
  | 0x09 => regRows09
  | 0x0A => regRows0A
  | 0x0B => regRows0B
  | 0x0C => regRows0C
  | 0x0D => regRows0D
  | 0x0E => regRows0E
  | 0x0F => regRows0F
  | 0x10 => regRows10
  | 0x11 => regRows11
  | 0x12 => regRows12
  | 0x13 => regRows13
  | _ => []

/-- TMB_SRC_PRIO.SRC0 (RWS, R72). -/
def fTmbSrcPrioSrc0 : Fld := ⟨0x200040, 3, 0⟩
/-- TMB_SRC_PRIO.SRC1 (RWS, R72). -/
def fTmbSrcPrioSrc1 : Fld := ⟨0x200040, 7, 4⟩
/-- TMB_SRC_PRIO.SRC2 (RWS, R72). -/
def fTmbSrcPrioSrc2 : Fld := ⟨0x200040, 11, 8⟩
/-- TMB_SRC_PRIO.SRC3 (RWS, R72). -/
def fTmbSrcPrioSrc3 : Fld := ⟨0x200040, 15, 12⟩
/-- TMB_STEP_LIMIT.NS (RWS, R72). -/
def fTmbStepLimitNs : Fld := ⟨0x200044, 31, 0⟩
/-- TMB_SERVO.KP (RWS, R72). -/
def fTmbServoKp : Fld := ⟨0x200048, 7, 0⟩
/-- TMB_SERVO.KI_SHIFT (RWS, R72). -/
def fTmbServoKiShift : Fld := ⟨0x200048, 11, 8⟩
/-- TMB_SERVO.JUMP_CONFIRM (RWS, R72). -/
def fTmbServoJumpConfirm : Fld := ⟨0x200048, 15, 12⟩
/-- TMB_LOSS_TIMEOUT.LOSS_MS (RWS, R72). -/
def fTmbLossTimeoutLossMs : Fld := ⟨0x20004C, 15, 0⟩
/-- TMB_PTP_CFG.TIME_PORT (RWS, R72). -/
def fTmbPtpCfgTimePort : Fld := ⟨0x200050, 1, 0⟩
/-- TMB_PTP_CFG.MASTER_PORTS (RWS, R72). -/
def fTmbPtpCfgMasterPorts : Fld := ⟨0x200050, 7, 4⟩
/-- TMB_PTP_CFG.DOMAIN (RWS, R72). -/
def fTmbPtpCfgDomain : Fld := ⟨0x200050, 14, 8⟩
/-- TMB_PTP_CFG.PRIORITY1 (RWS, R72). -/
def fTmbPtpCfgPriority1 : Fld := ⟨0x200050, 23, 16⟩
/-- TMB_PTP_CFG.PRIORITY2 (RWS, R72). -/
def fTmbPtpCfgPriority2 : Fld := ⟨0x200050, 31, 24⟩
/-- TMB_PTP_INTV.LOG_SYNC (RWS, R72). -/
def fTmbPtpIntvLogSync : Fld := ⟨0x200054, 7, 0⟩
/-- TMB_PTP_INTV.LOG_ANNOUNCE (RWS, R72). -/
def fTmbPtpIntvLogAnnounce : Fld := ⟨0x200054, 15, 8⟩
/-- TMB_PTP_INTV.LOG_DELAY (RWS, R72). -/
def fTmbPtpIntvLogDelay : Fld := ⟨0x200054, 23, 16⟩
/-- TMB_PPS_CFG.IN_EDGE (RWS, R72). -/
def fTmbPpsCfgInEdge : Fld := ⟨0x200058, 0, 0⟩
/-- TMB_PPS_CFG.OUT_EN (RWS, R72). -/
def fTmbPpsCfgOutEn : Fld := ⟨0x200058, 1, 1⟩
/-- TMB_PPS_CFG.OUT_WIDTH (RWS, R72). -/
def fTmbPpsCfgOutWidth : Fld := ⟨0x200058, 15, 8⟩
/-- TMB_PPS_TAI_LO.SEC (RWS, R72). -/
def fTmbPpsTaiLoSec : Fld := ⟨0x20005C, 31, 0⟩
/-- TMB_PPS_TAI_HI.SEC (RWS, R72). -/
def fTmbPpsTaiHiSec : Fld := ⟨0x200060, 31, 0⟩
/-- TMB_UTC_TAI.SEC (RWS, R72). -/
def fTmbUtcTaiSec : Fld := ⟨0x200064, 7, 0⟩
/-- TMB_WALL_AT_LO.VALUE (RW, R72). -/
def fTmbWallAtLoValue : Fld := ⟨0x200070, 31, 0⟩
/-- TMB_WALL_AT_HI.VALUE (RW, R72). -/
def fTmbWallAtHiValue : Fld := ⟨0x200074, 31, 0⟩
/-- TMB_WALL_TAI_LO.VALUE (RW, R72). -/
def fTmbWallTaiLoValue : Fld := ⟨0x200078, 31, 0⟩
/-- TMB_WALL_TAI_HI.VALUE (RW, R72). -/
def fTmbWallTaiHiValue : Fld := ⟨0x20007C, 31, 0⟩
/-- TMB_TSCORR[4].TX (RWS, R72). -/
def fTmbTscorrTx (n : Nat) : Fld := ⟨0x200090 + 0x4 * (n % 4), 15, 0⟩
/-- TMB_TSCORR[4].RX (RWS, R72). -/
def fTmbTscorrRx (n : Nat) : Fld := ⟨0x200090 + 0x4 * (n % 4), 31, 16⟩
/-- TMB_EPOCH_SEL.BACK (RW, R72). -/
def fTmbEpochSelBack : Fld := ⟨0x2000A0, 7, 0⟩
/-- TMB_LQ_ENTRY[4].WORD (RW, R72). -/
def fTmbLqEntryWord (n : Nat) : Fld := ⟨0x200200 + 0x4 * (n % 4), 31, 0⟩
/-- TMB_TIO_CFG[128].MODE (RW, R72). -/
def fTmbTioCfgMode (n : Nat) : Fld := ⟨0x201000 + 0x4 * (n % 128), 1, 0⟩
/-- TMB_TIO_CFG[128].EDGE (RW, R72). -/
def fTmbTioCfgEdge (n : Nat) : Fld := ⟨0x201000 + 0x4 * (n % 128), 3, 2⟩
/-- TMB_TIO_CFG[128].IDLE (RW, R72). -/
def fTmbTioCfgIdle (n : Nat) : Fld := ⟨0x201000 + 0x4 * (n % 128), 4, 4⟩
/-- TMB_TIO_CFG[128].INV (RW, R72). -/
def fTmbTioCfgInv (n : Nat) : Fld := ⟨0x201000 + 0x4 * (n % 128), 5, 5⟩
/-- TMB_TIO_CFG[128].OVF (W1C, R72). -/
def fTmbTioCfgOvf (n : Nat) : Fld := ⟨0x201000 + 0x4 * (n % 128), 23, 23⟩
/-- PST_CTRL.SCRUB_S (RWS, R101). -/
def fPstCtrlScrubS : Fld := ⟨0x300004, 11, 0⟩
/-- PST_CTRL.REPAIR_EN (RWS, R101). -/
def fPstCtrlRepairEn : Fld := ⟨0x300004, 12, 12⟩
/-- PST_CTRL.FORCE_RESTORE (RWS, R101). -/
def fPstCtrlForceRestore : Fld := ⟨0x300004, 13, 13⟩
/-- PST_PIN[8].FIRST (RWS, R101). -/
def fPstPinFirst (n : Nat) : Fld := ⟨0x300040 + 0x4 * (n % 8), 20, 0⟩
/-- PST_PIN[8].COUNT (RWS, R101). -/
def fPstPinCount (n : Nat) : Fld := ⟨0x300040 + 0x4 * (n % 8), 30, 21⟩
/-- PST_PEEK_ID.ID (RW, R101). -/
def fPstPeekIdId : Fld := ⟨0x300060, 24, 0⟩
/-- GLB_HIF_REQ.VERSION (RW, R137). -/
def fGlbHifReqVersion : Fld := ⟨0x14, 15, 0⟩
/-- GLB_SCRATCH.VALUE (RW, R137). -/
def fGlbScratchValue : Fld := ⟨0x24, 31, 0⟩
/-- GLB_INT.HALT (W1C, R137). -/
def fGlbIntHalt : Fld := ⟨0x28, 0, 0⟩
/-- GLB_INT.FAULT (W1C, R137). -/
def fGlbIntFault : Fld := ⟨0x28, 1, 1⟩
/-- GLB_INT.HENDEL (W1C, R137). -/
def fGlbIntHendel : Fld := ⟨0x28, 2, 2⟩
/-- GLB_INT.STATUS (W1C, R137). -/
def fGlbIntStatus : Fld := ⟨0x28, 3, 3⟩
/-- HIF_CTRL.PROGRESS_MS (RWS, R138). -/
def fHifCtrlProgressMs : Fld := ⟨0x100004, 9, 0⟩
/-- HIF_SQ[64].BASE_LO (RWS, R138). -/
def fHifSqBaseLo (n : Nat) : Fld := ⟨0x101000 + 0x20 * (n % 64), 31, 0⟩
/-- HIF_SQ[64].BASE_HI (RWS, R138). -/
def fHifSqBaseHi (n : Nat) : Fld := ⟨0x101004 + 0x20 * (n % 64), 31, 0⟩
/-- HIF_SQ[64].SIZE_LOG2 (RWS, R138). -/
def fHifSqSizeLog2 (n : Nat) : Fld := ⟨0x101008 + 0x20 * (n % 64), 3, 0⟩
/-- HIF_SQ[64].CQ (RWS, R138). -/
def fHifSqCq (n : Nat) : Fld := ⟨0x101008 + 0x20 * (n % 64), 9, 4⟩
/-- HIF_SQ[64].PRIO (RWS, R138). -/
def fHifSqPrio (n : Nat) : Fld := ⟨0x101008 + 0x20 * (n % 64), 11, 10⟩
/-- HIF_SQ[64].CREDIT_MIN (RWS, R138). -/
def fHifSqCreditMin (n : Nat) : Fld := ⟨0x10100C + 0x20 * (n % 64), 8, 0⟩
/-- HIF_SQ[64].CREDIT_MAX (RWS, R138). -/
def fHifSqCreditMax (n : Nat) : Fld := ⟨0x10100C + 0x20 * (n % 64), 24, 16⟩
/-- HIF_SQ[64].ENABLE (RW, R138). -/
def fHifSqEnable (n : Nat) : Fld := ⟨0x101010 + 0x20 * (n % 64), 0, 0⟩
/-- HIF_CQ[64].BASE_LO (RWS, R138). -/
def fHifCqBaseLo (n : Nat) : Fld := ⟨0x102000 + 0x20 * (n % 64), 31, 0⟩
/-- HIF_CQ[64].BASE_HI (RWS, R138). -/
def fHifCqBaseHi (n : Nat) : Fld := ⟨0x102004 + 0x20 * (n % 64), 31, 0⟩
/-- HIF_CQ[64].SIZE_LOG2 (RWS, R138). -/
def fHifCqSizeLog2 (n : Nat) : Fld := ⟨0x102008 + 0x20 * (n % 64), 4, 0⟩
/-- HIF_CQ[64].VECTOR (RWS, R138). -/
def fHifCqVector (n : Nat) : Fld := ⟨0x102008 + 0x20 * (n % 64), 15, 8⟩
/-- HIF_CQ[64].IRQ_COUNT (RWS, R138). -/
def fHifCqIrqCount (n : Nat) : Fld := ⟨0x10200C + 0x20 * (n % 64), 15, 0⟩
/-- HIF_CQ[64].IRQ_TIME (RWS, R138). -/
def fHifCqIrqTime (n : Nat) : Fld := ⟨0x10200C + 0x20 * (n % 64), 31, 16⟩
/-- HIF_CQ[64].ENABLE (RW, R138). -/
def fHifCqEnable (n : Nat) : Fld := ⟨0x102010 + 0x20 * (n % 64), 0, 0⟩
/-- CYC_CTRL.POOL_MIN (RWS, R181). -/
def fCycCtrlPoolMin : Fld := ⟨0x400004, 5, 0⟩
/-- CYC_CTRL.AUTOSTART (RWS, R181). -/
def fCycCtrlAutostart : Fld := ⟨0x400004, 8, 8⟩
/-- HRT_CTRL.TRACE_MASK (RWS, R244). -/
def fHrtCtrlTraceMask : Fld := ⟨0x60000C, 7, 0⟩
/-- HRT_CTRL.TRACE_FREEZE (RWS, R244). -/
def fHrtCtrlTraceFreeze : Fld := ⟨0x60000C, 8, 8⟩
/-- HRT_SRC[8].MIN (RWS, R244). -/
def fHrtSrcMin (n : Nat) : Fld := ⟨0x600080 + 0x8 * (n % 8), 12, 0⟩
/-- HRT_SRC[8].MAX (RWS, R244). -/
def fHrtSrcMax (n : Nat) : Fld := ⟨0x600080 + 0x8 * (n % 8), 28, 16⟩
/-- HRT_SRC[8].PRIO (RWS, R244). -/
def fHrtSrcPrio (n : Nat) : Fld := ⟨0x600084 + 0x8 * (n % 8), 2, 0⟩
/-- HRT_SRC[8].SLACK_US (RWS, R244). -/
def fHrtSrcSlackUs (n : Nat) : Fld := ⟨0x600084 + 0x8 * (n % 8), 31, 16⟩
/-- SEQ_CTRL.LEAD_US (RWS, R277). -/
def fSeqCtrlLeadUs : Fld := ⟨0x700004, 13, 0⟩
/-- SEQ_CTRL.AUTO_RESUME (RWS, R277). -/
def fSeqCtrlAutoResume : Fld := ⟨0x700004, 16, 16⟩
/-- SEQ_EXEC[64].ROLE (RWS, R277). -/
def fSeqExecRole (n : Nat) : Fld := ⟨0x701000 + 0x20 * (n % 64), 5, 4⟩
/-- SEQ_EXEC[64].CKPT_FAIL (W1C, R277). -/
def fSeqExecCkptFail (n : Nat) : Fld := ⟨0x701000 + 0x20 * (n % 64), 24, 24⟩
/-- ANV_MEM_SEL.CORE (RW, R312). -/
def fAnvMemSelCore : Fld := ⟨0x800010, 5, 0⟩
/-- ANV_MEM_SEL.SPACE (RW, R312). -/
def fAnvMemSelSpace : Fld := ⟨0x800010, 7, 6⟩
/-- ANV_MEM_SEL.ADDR (RW, R312). -/
def fAnvMemSelAddr : Fld := ⟨0x800010, 22, 8⟩
/-- ANV_LOOP_CTRL.RELOC_EN (RWS, R351). -/
def fAnvLoopCtrlRelocEn : Fld := ⟨0x818004, 0, 0⟩
/-- ANV_LOOP_CTRL.STOP_LIMIT (RWS, R351). -/
def fAnvLoopCtrlStopLimit : Fld := ⟨0x818004, 7, 4⟩
/-- CNV_CTRL.BG_EN (RWS, R378). -/
def fCnvCtrlBgEn : Fld := ⟨0xB00004, 0, 0⟩
/-- CNV_CTRL.HOLD_ON_ARM (RWS, R378). -/
def fCnvCtrlHoldOnArm : Fld := ⟨0xB00004, 1, 1⟩
/-- CNV_CTRL.FAST_START (RWS, R378). -/
def fCnvCtrlFastStart : Fld := ⟨0xB00004, 2, 2⟩
/-- CNV_CTRL.UPDATE_MS (RWS, R378). -/
def fCnvCtrlUpdateMs : Fld := ⟨0xB00004, 15, 8⟩
/-- CNV_CTRL.HOLD_MAX_MS (RWS, R378). -/
def fCnvCtrlHoldMaxMs : Fld := ⟨0xB00004, 31, 16⟩
/-- CNV_AIN[16].TERM (RWS, R378). -/
def fCnvAinTerm (n : Nat) : Fld := ⟨0xB00200 + 0x4 * (n % 16), 0, 0⟩
/-- CNV_AIN[16].OVR (W1C, R378). -/
def fCnvAinOvr (n : Nat) : Fld := ⟨0xB00200 + 0x4 * (n % 16), 8, 8⟩
/-- CAP_CTRL.MEM_GIB (RWS, R406). -/
def fCapCtrlMemGib : Fld := ⟨0xC00004, 3, 0⟩
/-- CAP_MISS_SEL.CHANNEL (RW, R406). -/
def fCapMissSelChannel : Fld := ⟨0xC00010, 3, 0⟩
/-- CAP_MISS_SEL.ENTRY (RW, R406). -/
def fCapMissSelEntry : Fld := ⟨0xC00010, 25, 16⟩
/-- QCH_FORCE.FORCE (RW, R407). -/
def fQchForceForce : Fld := ⟨0x1300004, 15, 0⟩
/-- QCH_PIN[16].EN (RWS, R407). -/
def fQchPinEn (n : Nat) : Fld := ⟨0x1301000 + 0x10 * (n % 16), 0, 0⟩
/-- QCH_PIN[16].POL (RWS, R407). -/
def fQchPinPol (n : Nat) : Fld := ⟨0x1301000 + 0x10 * (n % 16), 1, 1⟩
/-- QCH_PIN[16].ON_FATAL (RWS, R407). -/
def fQchPinOnFatal (n : Nat) : Fld := ⟨0x1301000 + 0x10 * (n % 16), 2, 2⟩
/-- QCH_PIN[16].MIN_ACTIVE_US (RWS, R407). -/
def fQchPinMinActiveUs (n : Nat) : Fld := ⟨0x1301000 + 0x10 * (n % 16), 31, 16⟩
/-- QCH_PIN[16].FAULT (W1C, R407). -/
def fQchPinFault (n : Nat) : Fld := ⟨0x1301004 + 0x10 * (n % 16), 9, 9⟩
/-- MOT_CTRL.RESTORE_KHZ (RWS, R429). -/
def fMotCtrlRestoreKhz : Fld := ⟨0x900004, 9, 0⟩
/-- MOT_CTRL.SETTLE_MS (RWS, R429). -/
def fMotCtrlSettleMs : Fld := ⟨0x900004, 25, 16⟩
/-- FBK_CH[32].INDEX_MISMATCH (W1C, R448). -/
def fFbkChIndexMismatch (n : Nat) : Fld := ⟨0xA01000 + 0x40 * (n % 32), 4, 4⟩
/-- STN_CTRL.DISCOVER_MS (RWS, R476). -/
def fStnCtrlDiscoverMs : Fld := ⟨0xE00008, 15, 0⟩
/-- STN_CTRL.DISCOVER_EN (RWS, R476). -/
def fStnCtrlDiscoverEn : Fld := ⟨0xE00008, 16, 16⟩
/-- REC_STATUS.PAGE_FAIL (W1C, R518). -/
def fRecStatusPageFail : Fld := ⟨0x1100000, 2, 2⟩
/-- REC_CTRL.LOG_MIN_SEV (RWS, R518). -/
def fRecCtrlLogMinSev : Fld := ⟨0x1100004, 2, 0⟩
/-- REC_CTRL.FREEZE_MAX_S (RWS, R518). -/
def fRecCtrlFreezeMaxS : Fld := ⟨0x1100004, 15, 8⟩
/-- REC_CTRL.FLUSH_MS (RWS, R518). -/
def fRecCtrlFlushMs : Fld := ⟨0x1100004, 25, 16⟩
/-- REC_HCLASS[256].EN (RWS, R518). -/
def fRecHclassEn (n : Nat) : Fld := ⟨0x1101000 + 0x10 * (n % 256), 0, 0⟩
/-- REC_HCLASS[256].QUAL_ALWAYS (RWS, R518). -/
def fRecHclassQualAlways (n : Nat) : Fld := ⟨0x1101000 + 0x10 * (n % 256), 1, 1⟩
/-- REC_HCLASS[256].MIN_INTERVAL_US (RWS, R518). -/
def fRecHclassMinIntervalUs (n : Nat) : Fld := ⟨0x1101000 + 0x10 * (n % 256), 31, 8⟩
/-- REC_HCLASS[256].DEADBAND (RWS, R518). -/
def fRecHclassDeadband (n : Nat) : Fld := ⟨0x1101004 + 0x10 * (n % 256), 31, 0⟩
/-- WLK_CTRL.MODULE (RWS, R552). -/
def fWlkCtrlModule : Fld := ⟨0xF00004, 5, 0⟩
/-- WLK_CTRL.MASTER_PRIO (RWS, R552). -/
def fWlkCtrlMasterPrio : Fld := ⟨0xF00004, 15, 8⟩
/-- WLK_PORT[4].EN (RWS, R552). -/
def fWlkPortEn (n : Nat) : Fld := ⟨0xF01018 + 0x20 * (n % 4), 0, 0⟩
/-- WLK_REP[256].FIRST (RWS, R552). -/
def fWlkRepFirst (n : Nat) : Fld := ⟨0xF02000 + 0x10 * (n % 256), 24, 0⟩
/-- WLK_REP[256].EN (RWS, R552). -/
def fWlkRepEn (n : Nat) : Fld := ⟨0xF02000 + 0x10 * (n % 256), 31, 31⟩
/-- WLK_REP[256].COUNT (RWS, R552). -/
def fWlkRepCount (n : Nat) : Fld := ⟨0xF02004 + 0x10 * (n % 256), 16, 0⟩
/-- WLK_REP[256].DEST_FIRST (RWS, R552). -/
def fWlkRepDestFirst (n : Nat) : Fld := ⟨0xF02008 + 0x10 * (n % 256), 24, 0⟩
/-- WLK_REP[256].DEST (RWS, R552). -/
def fWlkRepDest (n : Nat) : Fld := ⟨0xF0200C + 0x10 * (n % 256), 5, 0⟩
/-- WLK_REP[256].MIN_US (RWS, R552). -/
def fWlkRepMinUs (n : Nat) : Fld := ⟨0xF0200C + 0x10 * (n % 256), 31, 16⟩
/-- PAR_CTRL.EN (RWS, R553). -/
def fParCtrlEn : Fld := ⟨0x1000004, 0, 0⟩
/-- PAR_CTRL.PORT (RWS, R553). -/
def fParCtrlPort : Fld := ⟨0x1000004, 2, 1⟩
/-- PAR_CTRL.AUTO_RESYNC (RWS, R553). -/
def fParCtrlAutoResync : Fld := ⟨0x1000004, 3, 3⟩
/-- PAR_CTRL.SELFTEST_H (RWS, R553). -/
def fParCtrlSelftestH : Fld := ⟨0x1000004, 15, 8⟩
/-- PAR_CTRL.CATCHUP_MS (RWS, R553). -/
def fParCtrlCatchupMs : Fld := ⟨0x1000004, 31, 16⟩
/-- PAR_PIN_MASK[4].MASK (RWS, R553). -/
def fParPinMaskMask (n : Nat) : Fld := ⟨0x1000080 + 0x4 * (n % 4), 31, 0⟩
/-- HDL_CTRL.FALLBACK_ON_SETTINGS (RWS, R585). -/
def fHdlCtrlFallbackOnSettings : Fld := ⟨0x1200004, 0, 0⟩
/-- HDL_CTRL.AUTO_RESTART (RWS, R585). -/
def fHdlCtrlAutoRestart : Fld := ⟨0x1200004, 1, 1⟩
/-- HDL_CTRL.WD_RESTART (RWS, R585). -/
def fHdlCtrlWdRestart : Fld := ⟨0x1200004, 2, 2⟩
/-- HDL_CTRL.PMBUS_400K (RWS, R585). -/
def fHdlCtrlPmbus400k : Fld := ⟨0x1200004, 3, 3⟩
/-- HDL_SENSOR[120].WARN_LO (RWS, R585). -/
def fHdlSensorWarnLo (n : Nat) : Fld := ⟨0x1201008 + 0x10 * (n % 120), 15, 0⟩
/-- HDL_SENSOR[120].WARN_HI (RWS, R585). -/
def fHdlSensorWarnHi (n : Nat) : Fld := ⟨0x1201008 + 0x10 * (n % 120), 31, 16⟩
/-- HDL_SENSOR[120].POINT (RWS, R585). -/
def fHdlSensorPoint (n : Nat) : Fld := ⟨0x120100C + 0x10 * (n % 120), 24, 0⟩
/-- HDL_PMBUS[16].ADDR (RWS, R585). -/
def fHdlPmbusAddr (n : Nat) : Fld := ⟨0x1202000 + 0x8 * (n % 16), 6, 0⟩
/-- HDL_PMBUS[16].PEC (RWS, R585). -/
def fHdlPmbusPec (n : Nat) : Fld := ⟨0x1202000 + 0x8 * (n % 16), 7, 7⟩
/-- HDL_PMBUS[16].EN (RWS, R585). -/
def fHdlPmbusEn (n : Nat) : Fld := ⟨0x1202000 + 0x8 * (n % 16), 8, 8⟩
/-- HDL_PMBUS[16].POLL_MS (RWS, R585). -/
def fHdlPmbusPollMs (n : Nat) : Fld := ⟨0x1202004 + 0x8 * (n % 16), 9, 0⟩
/-- HDL_MBOX.CMD (RW, R585). -/
def fHdlMboxCmd : Fld := ⟨0x1203000, 7, 0⟩
/-- HDL_MBOX.ARG0 (RW, R585). -/
def fHdlMboxArg0 : Fld := ⟨0x1203004, 31, 0⟩
/-- HDL_MBOX.ARG1 (RW, R585). -/
def fHdlMboxArg1 : Fld := ⟨0x1203008, 31, 0⟩

end Sys2Proof.Machine
end

