-- ==== Sys2Proof/Machine/Events.lean ====
section
/-! DEFINITION. The event codes (source, code, severity: R6, R31, R496 and each chapter's event table) and the addresses of the
saturating counters (each chapter's CNT register). -/
namespace Sys2Proof.Machine

/-- An event as its chapter's table names it: source id, code, severity. -/
structure EvKind where
  src : Nat
  code : Nat
  sev : Nat
  deriving DecidableEq, Repr, Inhabited

/-- EPOCH_OPEN (R71). -/
def evEpochOpen : EvKind := ⟨0x02, 0x0001, 3⟩
/-- SOURCE_CHANGE (R71). -/
def evSourceChange : EvKind := ⟨0x02, 0x0002, 3⟩
/-- HOLDOVER_ENTER (R71). -/
def evHoldoverEnter : EvKind := ⟨0x02, 0x0003, 4⟩
/-- HOLDOVER_EXIT (R71). -/
def evHoldoverExit : EvKind := ⟨0x02, 0x0004, 3⟩
/-- SOURCE_REJECTED (R71). -/
def evSourceRejected : EvKind := ⟨0x02, 0x0005, 4⟩
/-- PTP_VIOLATION (R71). -/
def evPtpViolation : EvKind := ⟨0x02, 0x0006, 4⟩
/-- PPS_FAULT (R71). -/
def evPpsFault : EvKind := ⟨0x02, 0x0007, 4⟩
/-- REF10M_LOSS (R71). -/
def evRef10mLoss : EvKind := ⟨0x02, 0x0008, 4⟩
/-- DOMAIN_UNLOCK (R71). -/
def evDomainUnlock : EvKind := ⟨0x02, 0x0009, 5⟩
/-- DOMAIN_LOCK (R71). -/
def evDomainLock : EvKind := ⟨0x02, 0x000A, 3⟩
/-- LAUNCH_LATE (R71). -/
def evLaunchLate : EvKind := ⟨0x02, 0x000B, 4⟩
/-- STAMP_LOST (R71). -/
def evStampLost : EvKind := ⟨0x02, 0x000C, 4⟩
/-- WALL_SET_REFUSED (R71). -/
def evWallSetRefused : EvKind := ⟨0x02, 0x000D, 3⟩
/-- TILE_CRC (R100). -/
def evTileCrc : EvKind := ⟨0x03, 0x0001, 5⟩
/-- TILE_REPAIRED (R100). -/
def evTileRepaired : EvKind := ⟨0x03, 0x0002, 3⟩
/-- TILE_REBUILT (R100). -/
def evTileRebuilt : EvKind := ⟨0x03, 0x0003, 5⟩
/-- CACHE_UNCORR (R100). -/
def evCacheUncorr : EvKind := ⟨0x03, 0x0004, 5⟩
/-- WRITE_DENIED (R100). -/
def evWriteDenied : EvKind := ⟨0x03, 0x0005, 4⟩
/-- FORCE_SET (R100). -/
def evForceSet : EvKind := ⟨0x03, 0x0006, 3⟩
/-- FORCE_CLEARED (R100). -/
def evForceCleared : EvKind := ⟨0x03, 0x0007, 3⟩
/-- FORCE_RESTORED (R100). -/
def evForceRestored : EvKind := ⟨0x03, 0x0008, 3⟩
/-- MAP_LOADED (R100). -/
def evMapLoaded : EvKind := ⟨0x03, 0x0009, 3⟩
/-- MAP_REJECTED (R100). -/
def evMapRejected : EvKind := ⟨0x03, 0x000A, 5⟩
/-- VIEW_OPEN (R100). -/
def evViewOpen : EvKind := ⟨0x03, 0x000B, 2⟩
/-- VIEW_CLOSED (R100). -/
def evViewClosed : EvKind := ⟨0x03, 0x000C, 2⟩
/-- VIEW_FAULT (R100). -/
def evViewFault : EvKind := ⟨0x03, 0x000D, 5⟩
/-- FORCE_DROPPED (R100). -/
def evForceDropped : EvKind := ⟨0x03, 0x000E, 4⟩
/-- VERSION_SET (R136). -/
def evVersionSet : EvKind := ⟨0x01, 0x0001, 3⟩
/-- VERSION_REFUSED (R136). -/
def evVersionRefused : EvKind := ⟨0x01, 0x0002, 4⟩
/-- RING_HALT (R136). -/
def evRingHalt : EvKind := ⟨0x01, 0x0003, 5⟩
/-- DESC_VIOLATION (R136). -/
def evDescViolation : EvKind := ⟨0x01, 0x0004, 4⟩
/-- DATA_ACCESS_FAULT (R136). -/
def evDataAccessFault : EvKind := ⟨0x01, 0x0005, 5⟩
/-- LINK_DOWN (R136). -/
def evLinkDown : EvKind := ⟨0x01, 0x0006, 4⟩
/-- LINK_UP (R136). -/
def evLinkUp : EvKind := ⟨0x01, 0x0007, 3⟩
/-- LINK_DEGRADED (R136). -/
def evLinkDegraded : EvKind := ⟨0x01, 0x0008, 4⟩
/-- CMD_ABORTED (R136). -/
def evCmdAborted : EvKind := ⟨0x01, 0x0009, 2⟩
/-- STANDBY_REFUSED (R136). -/
def evStandbyRefused : EvKind := ⟨0x01, 0x000A, 3⟩
/-- PROGRAM_LOADED (R180). -/
def evProgramLoaded : EvKind := ⟨0x04, 0x0001, 3⟩
/-- PROGRAM_REJECTED (R180). -/
def evProgramRejected : EvKind := ⟨0x04, 0x0002, 5⟩
/-- PROGRAM_STARTED (R180). -/
def evProgramStarted : EvKind := ⟨0x04, 0x0003, 3⟩
/-- PROGRAM_STOPPED (R180). -/
def evProgramStopped : EvKind := ⟨0x04, 0x0004, 0⟩
/-- CYCLE_OVERRUN (R180). -/
def evCycleOverrun : EvKind := ⟨0x04, 0x0005, 4⟩
/-- CYCLE_SKIPPED (R180). -/
def evCycleSkipped : EvKind := ⟨0x04, 0x0006, 5⟩
/-- ITEM_FAULT (R180). -/
def evItemFault : EvKind := ⟨0x04, 0x0007, 5⟩
/-- POOL_LOW (R180). -/
def evPoolLow : EvKind := ⟨0x04, 0x0008, 4⟩
/-- ALARM_CHANGE (R180). -/
def evAlarmChange : EvKind := ⟨0x04, 0x0009, 0⟩
/-- WELD_STARTED (R201). -/
def evWeldStarted : EvKind := ⟨0x04, 0x0020, 3⟩
/-- WELD_REJECTED (R201). -/
def evWeldRejected : EvKind := ⟨0x04, 0x0021, 5⟩
/-- WELD_DONE (R201). -/
def evWeldDone : EvKind := ⟨0x04, 0x0022, 3⟩
/-- WELD_ABANDONED (R201). -/
def evWeldAbandoned : EvKind := ⟨0x04, 0x0023, 4⟩
/-- WELD_CONFIRMED (R201). -/
def evWeldConfirmed : EvKind := ⟨0x04, 0x0024, 3⟩
/-- WELD_REVERTED (R201). -/
def evWeldReverted : EvKind := ⟨0x04, 0x0025, 4⟩
/-- WELD_REVERT_FAILED (R201). -/
def evWeldRevertFailed : EvKind := ⟨0x04, 0x0026, 6⟩
/-- FORCE_ORPHANED (R201). -/
def evForceOrphaned : EvKind := ⟨0x04, 0x0027, 3⟩
/-- FORCE_REMOVED (R201). -/
def evForceRemoved : EvKind := ⟨0x04, 0x0028, 4⟩
/-- ILE_LOADED (R227). -/
def evIleLoaded : EvKind := ⟨0x05, 0x0001, 3⟩
/-- ILE_REJECTED (R227). -/
def evIleRejected : EvKind := ⟨0x05, 0x0002, 5⟩
/-- FALLBACK_ENTER (R227). -/
def evFallbackEnter : EvKind := ⟨0x05, 0x0003, 6⟩
/-- FALLBACK_EXIT (R227). -/
def evFallbackExit : EvKind := ⟨0x05, 0x0004, 3⟩
/-- ILE_ALARM (R227). -/
def evIleAlarm : EvKind := ⟨0x05, 0x0005, 5⟩
/-- ILE_ALARM_CLEAR (R227). -/
def evIleAlarmClear : EvKind := ⟨0x05, 0x0006, 3⟩
/-- ILE_REF_LOST (R227). -/
def evIleRefLost : EvKind := ⟨0x05, 0x0007, 5⟩
/-- ILE_SCAN_LATE (R227). -/
def evIleScanLate : EvKind := ⟨0x05, 0x0008, 5⟩
/-- ILE_FAULT (R227). -/
def evIleFault : EvKind := ⟨0x05, 0x0009, 6⟩
/-- CORE_RETIRED (R243). -/
def evCoreRetired : EvKind := ⟨0x06, 0x0001, 5⟩
/-- ITEM_RETRIED (R243). -/
def evItemRetried : EvKind := ⟨0x06, 0x0002, 4⟩
/-- RETRY_FAILED (R243). -/
def evRetryFailed : EvKind := ⟨0x06, 0x0003, 5⟩
/-- CORE_RESTORED (R243). -/
def evCoreRestored : EvKind := ⟨0x06, 0x0004, 3⟩
/-- CREDIT_HOLD_FIRST (R243). -/
def evCreditHoldFirst : EvKind := ⟨0x06, 0x0005, 4⟩
/-- RECIPE_LOADED (R276). -/
def evRecipeLoaded : EvKind := ⟨0x07, 0x0001, 3⟩
/-- RECIPE_REJECTED (R276). -/
def evRecipeRejected : EvKind := ⟨0x07, 0x0002, 5⟩
/-- RECIPE_STARTED (R276). -/
def evRecipeStarted : EvKind := ⟨0x07, 0x0003, 3⟩
/-- RECIPE_DONE (R276). -/
def evRecipeDone : EvKind := ⟨0x07, 0x0004, 3⟩
/-- RECIPE_HELD (R276). -/
def evRecipeHeld : EvKind := ⟨0x07, 0x0005, 3⟩
/-- RECIPE_RELEASED (R276). -/
def evRecipeReleased : EvKind := ⟨0x07, 0x0006, 3⟩
/-- RECIPE_ABORTED (R276). -/
def evRecipeAborted : EvKind := ⟨0x07, 0x0007, 4⟩
/-- STEP_TIMEOUT (R276). -/
def evStepTimeout : EvKind := ⟨0x07, 0x0008, 4⟩
/-- BOUNDARY_LATE (R276). -/
def evBoundaryLate : EvKind := ⟨0x07, 0x0009, 4⟩
/-- ACTION_NO_TARGET (R276). -/
def evActionNoTarget : EvKind := ⟨0x07, 0x000A, 5⟩
/-- CHECKPOINT_FAIL (R276). -/
def evCheckpointFail : EvKind := ⟨0x07, 0x000B, 5⟩
/-- PARTICIPANT_LOST (R276). -/
def evParticipantLost : EvKind := ⟨0x07, 0x000C, 5⟩
/-- UNLOCKED_LAUNCH (R276). -/
def evUnlockedLaunch : EvKind := ⟨0x07, 0x000D, 4⟩
/-- RESUME_AVAILABLE (R276). -/
def evResumeAvailable : EvKind := ⟨0x07, 0x000E, 3⟩
/-- RECIPE_RESUMED (R276). -/
def evRecipeResumed : EvKind := ⟨0x07, 0x000F, 4⟩
/-- RESUME_REFUSED (R276). -/
def evResumeRefused : EvKind := ⟨0x07, 0x0010, 5⟩
/-- ANV_CORE_RETIRED (R311). -/
def evAnvCoreRetired : EvKind := ⟨0x08, 0x0001, 6⟩
/-- ANV_CORE_RESTORED (R311). -/
def evAnvCoreRestored : EvKind := ⟨0x08, 0x0002, 3⟩
/-- ANV_OVERRUN (R311). -/
def evAnvOverrun : EvKind := ⟨0x08, 0x0003, 5⟩
/-- ANV_MEM_FAULT (R311). -/
def evAnvMemFault : EvKind := ⟨0x08, 0x0004, 5⟩
/-- ANV_ECC_UNCORR (R311). -/
def evAnvEccUncorr : EvKind := ⟨0x08, 0x0005, 5⟩
/-- ANV_CODE_LOADED (R311). -/
def evAnvCodeLoaded : EvKind := ⟨0x08, 0x0006, 2⟩
/-- ANV_CODE_REJECTED (R311). -/
def evAnvCodeRejected : EvKind := ⟨0x08, 0x0007, 5⟩
/-- LOOP_LOADED (R350). -/
def evLoopLoaded : EvKind := ⟨0x08, 0x0020, 3⟩
/-- LOOP_REJECTED (R350). -/
def evLoopRejected : EvKind := ⟨0x08, 0x0021, 5⟩
/-- LOOP_MODE_CHANGE (R350). -/
def evLoopModeChange : EvKind := ⟨0x08, 0x0022, 2⟩
/-- LOOP_IMPLAUS (R350). -/
def evLoopImplaus : EvKind := ⟨0x08, 0x0023, 5⟩
/-- LOOP_PLAUSIBLE (R350). -/
def evLoopPlausible : EvKind := ⟨0x08, 0x0024, 3⟩
/-- LOOP_HOLD (R350). -/
def evLoopHold : EvKind := ⟨0x08, 0x0025, 6⟩
/-- LOOP_BACKUP (R350). -/
def evLoopBackup : EvKind := ⟨0x08, 0x0026, 4⟩
/-- LOOP_QUENCH (R350). -/
def evLoopQuench : EvKind := ⟨0x08, 0x0027, 6⟩
/-- LOOP_RELOCATED (R350). -/
def evLoopRelocated : EvKind := ⟨0x08, 0x0028, 4⟩
/-- LOOP_RELOC_FAIL (R350). -/
def evLoopRelocFail : EvKind := ⟨0x08, 0x0029, 6⟩
/-- LOOP_RESUMED (R350). -/
def evLoopResumed : EvKind := ⟨0x08, 0x002A, 3⟩
/-- LOOP_STATE_LOST (R350). -/
def evLoopStateLost : EvKind := ⟨0x08, 0x002B, 5⟩
/-- TUNE_STARTED (R350). -/
def evTuneStarted : EvKind := ⟨0x08, 0x002C, 2⟩
/-- TUNE_DONE (R350). -/
def evTuneDone : EvKind := ⟨0x08, 0x002D, 3⟩
/-- TUNE_ABORTED (R350). -/
def evTuneAborted : EvKind := ⟨0x08, 0x002E, 4⟩
/-- TUNE_APPLIED (R350). -/
def evTuneApplied : EvKind := ⟨0x08, 0x002F, 3⟩
/-- CNV_CONFIGURED (R377). -/
def evCnvConfigured : EvKind := ⟨0x0B, 0x0001, 2⟩
/-- CNV_REJECTED (R377). -/
def evCnvRejected : EvKind := ⟨0x0B, 0x0002, 5⟩
/-- TEMPER_DONE (R377). -/
def evTemperDone : EvKind := ⟨0x0B, 0x0003, 3⟩
/-- TEMPER_FAILED (R377). -/
def evTemperFailed : EvKind := ⟨0x0B, 0x0004, 5⟩
/-- SLICE_FAILED (R377). -/
def evSliceFailed : EvKind := ⟨0x0B, 0x0005, 5⟩
/-- TEMPER_FORCED_UPDATE (R377). -/
def evTemperForcedUpdate : EvKind := ⟨0x0B, 0x0006, 4⟩
/-- TEMPER_DRIFT (R377). -/
def evTemperDrift : EvKind := ⟨0x0B, 0x0007, 4⟩
/-- CNV_QUEUE_OVERRUN (R377). -/
def evCnvQueueOverrun : EvKind := ⟨0x0B, 0x0008, 4⟩
/-- CNV_CLOCK_LOSS (R377). -/
def evCnvClockLoss : EvKind := ⟨0x0B, 0x0009, 6⟩
/-- CAP_CONFIGURED (R404). -/
def evCapConfigured : EvKind := ⟨0x0C, 0x0001, 2⟩
/-- CAP_REJECTED (R404). -/
def evCapRejected : EvKind := ⟨0x0C, 0x0002, 5⟩
/-- CAP_ARMED (R404). -/
def evCapArmed : EvKind := ⟨0x0C, 0x0003, 2⟩
/-- CAP_FULL (R404). -/
def evCapFull : EvKind := ⟨0x0C, 0x0004, 3⟩
/-- CAP_STOPPED (R404). -/
def evCapStopped : EvKind := ⟨0x0C, 0x0005, 3⟩
/-- CAP_MASK_VIOLATION (R404). -/
def evCapMaskViolation : EvKind := ⟨0x0C, 0x0006, 4⟩
/-- CAP_TRIGGER_MISSED (R404). -/
def evCapTriggerMissed : EvKind := ⟨0x0C, 0x0007, 4⟩
/-- CAP_MEMBER_LOST (R404). -/
def evCapMemberLost : EvKind := ⟨0x0C, 0x0008, 5⟩
/-- CAP_FIRE_LATE (R404). -/
def evCapFireLate : EvKind := ⟨0x0C, 0x0009, 4⟩
/-- CAP_MASK_LOADED (R404). -/
def evCapMaskLoaded : EvKind := ⟨0x0C, 0x000A, 2⟩
/-- CAP_MASK_REJECTED (R404). -/
def evCapMaskRejected : EvKind := ⟨0x0C, 0x000B, 5⟩
/-- CAP_UNLOCKED_FIRE (R404). -/
def evCapUnlockedFire : EvKind := ⟨0x0C, 0x000C, 4⟩
/-- QCH_ASSERT (R405). -/
def evQchAssert : EvKind := ⟨0x13, 0x0001, 6⟩
/-- QCH_RELEASED (R405). -/
def evQchReleased : EvKind := ⟨0x13, 0x0002, 3⟩
/-- QCH_RELEASE_REFUSED (R405). -/
def evQchReleaseRefused : EvKind := ⟨0x13, 0x0003, 4⟩
/-- QCH_PIN_FAULT (R405). -/
def evQchPinFault : EvKind := ⟨0x13, 0x0004, 6⟩
/-- AXIS_CONFIGURED (R428). -/
def evAxisConfigured : EvKind := ⟨0x09, 0x0001, 2⟩
/-- AXIS_REJECTED (R428). -/
def evAxisRejected : EvKind := ⟨0x09, 0x0002, 5⟩
/-- PROFILE_LOADED (R428). -/
def evProfileLoaded : EvKind := ⟨0x09, 0x0003, 2⟩
/-- PROFILE_REJECTED (R428). -/
def evProfileRejected : EvKind := ⟨0x09, 0x0004, 5⟩
/-- MOVE_REFUSED (R428). -/
def evMoveRefused : EvKind := ⟨0x09, 0x0005, 4⟩
/-- FOLLOWING_ERROR (R428). -/
def evFollowingError : EvKind := ⟨0x09, 0x0006, 5⟩
/-- HARD_LIMIT (R428). -/
def evHardLimit : EvKind := ⟨0x09, 0x0007, 5⟩
/-- SOFT_LIMIT (R428). -/
def evSoftLimit : EvKind := ⟨0x09, 0x0008, 5⟩
/-- HOMED (R428). -/
def evHomed : EvKind := ⟨0x09, 0x0009, 3⟩
/-- HOMING_FAILED (R428). -/
def evHomingFailed : EvKind := ⟨0x09, 0x000A, 5⟩
/-- PHASE_LOST (R428). -/
def evPhaseLost : EvKind := ⟨0x09, 0x000B, 5⟩
/-- DRIVE_ON (R428). -/
def evDriveOn : EvKind := ⟨0x09, 0x000C, 2⟩
/-- DRIVE_OFF (R428). -/
def evDriveOff : EvKind := ⟨0x09, 0x000D, 2⟩
/-- AXIS_RESTORED (R428). -/
def evAxisRestored : EvKind := ⟨0x09, 0x000E, 3⟩
/-- AXIS_FEEDBACK_FAULT (R428). -/
def evAxisFeedbackFault : EvKind := ⟨0x09, 0x000F, 5⟩
/-- AXIS_LOOP_FAULT (R428). -/
def evAxisLoopFault : EvKind := ⟨0x09, 0x0010, 5⟩
/-- FBK_CONFIGURED (R447). -/
def evFbkConfigured : EvKind := ⟨0x0A, 0x0001, 2⟩
/-- FBK_REJECTED (R447). -/
def evFbkRejected : EvKind := ⟨0x0A, 0x0002, 5⟩
/-- FBK_BAD (R447). -/
def evFbkBad : EvKind := ⟨0x0A, 0x0003, 5⟩
/-- INDEX_MISMATCH (R447). -/
def evIndexMismatch : EvKind := ⟨0x0A, 0x0004, 4⟩
/-- INDEX_CORRECTED (R447). -/
def evIndexCorrected : EvKind := ⟨0x0A, 0x0005, 3⟩
/-- FBK_IMPLAUS (R447). -/
def evFbkImplaus : EvKind := ⟨0x0A, 0x0006, 5⟩
/-- FBK_PLAUSIBLE (R447). -/
def evFbkPlausible : EvKind := ⟨0x0A, 0x0007, 3⟩
/-- COMPARE_LOADED (R447). -/
def evCompareLoaded : EvKind := ⟨0x0A, 0x0008, 2⟩
/-- COMPARE_REJECTED (R447). -/
def evCompareRejected : EvKind := ⟨0x0A, 0x0009, 5⟩
/-- COMPARE_MISSED (R447). -/
def evCompareMissed : EvKind := ⟨0x0A, 0x000A, 4⟩
/-- PORT_UP (R475). -/
def evPortUp : EvKind := ⟨0x0E, 0x0001, 3⟩
/-- PORT_DOWN (R475). -/
def evPortDown : EvKind := ⟨0x0E, 0x0002, 4⟩
/-- STATION_DISCOVERED (R475). -/
def evStationDiscovered : EvKind := ⟨0x0E, 0x0003, 2⟩
/-- STATION_CONFIGURED (R475). -/
def evStationConfigured : EvKind := ⟨0x0E, 0x0004, 3⟩
/-- STATION_LOST (R475). -/
def evStationLost : EvKind := ⟨0x0E, 0x0005, 5⟩
/-- STATION_RETURNED (R475). -/
def evStationReturned : EvKind := ⟨0x0E, 0x0006, 3⟩
/-- STATION_VERSION (R475). -/
def evStationVersion : EvKind := ⟨0x0E, 0x0007, 5⟩
/-- STATION_CONFIG_FAIL (R475). -/
def evStationConfigFail : EvKind := ⟨0x0E, 0x0008, 5⟩
/-- STATION_RESTARTED (R475). -/
def evStationRestarted : EvKind := ⟨0x0E, 0x0009, 4⟩
/-- WSP_VIOLATION (R475). -/
def evWspViolation : EvKind := ⟨0x0E, 0x000A, 4⟩
/-- IMAGE_DROPPED (R475). -/
def evImageDropped : EvKind := ⟨0x0E, 0x000B, 4⟩
/-- TABLE_LOADED (R475). -/
def evTableLoaded : EvKind := ⟨0x0E, 0x000C, 3⟩
/-- TABLE_REJECTED (R475). -/
def evTableRejected : EvKind := ⟨0x0E, 0x000D, 5⟩
/-- TOKEN_CONFLICT (R475). -/
def evTokenConflict : EvKind := ⟨0x0E, 0x000E, 5⟩
/-- STATION_SAFE (R475). -/
def evStationSafe : EvKind := ⟨0x0E, 0x000F, 5⟩
/-- CAN_CONFIGURED (R494). -/
def evCanConfigured : EvKind := ⟨0x0D, 0x0001, 2⟩
/-- CAN_REJECTED (R494). -/
def evCanRejected : EvKind := ⟨0x0D, 0x0002, 5⟩
/-- CAN_ERROR_PASSIVE (R494). -/
def evCanErrorPassive : EvKind := ⟨0x0D, 0x0003, 4⟩
/-- CAN_ERROR_ACTIVE (R494). -/
def evCanErrorActive : EvKind := ⟨0x0D, 0x0004, 3⟩
/-- CAN_BUS_OFF (R494). -/
def evCanBusOff : EvKind := ⟨0x0D, 0x0005, 5⟩
/-- CAN_RECOVERED (R494). -/
def evCanRecovered : EvKind := ⟨0x0D, 0x0006, 3⟩
/-- CAN_TX_FAILED (R494). -/
def evCanTxFailed : EvKind := ⟨0x0D, 0x0007, 4⟩
/-- CAN_RX_OVERFLOW (R494). -/
def evCanRxOverflow : EvKind := ⟨0x0D, 0x0008, 4⟩
/-- CAN_FILTER_LOADED (R494). -/
def evCanFilterLoaded : EvKind := ⟨0x0D, 0x0009, 2⟩
/-- LOG_PAGE_RETIRED (R517). -/
def evLogPageRetired : EvKind := ⟨0x11, 0x0001, 5⟩
/-- SPARES_EXHAUSTED (R517). -/
def evSparesExhausted : EvKind := ⟨0x11, 0x0002, 6⟩
/-- LOG_VOLATILE (R517). -/
def evLogVolatile : EvKind := ⟨0x11, 0x0003, 6⟩
/-- LOG_FROZEN (R517). -/
def evLogFrozen : EvKind := ⟨0x11, 0x0004, 2⟩
/-- LOG_THAWED (R517). -/
def evLogThawed : EvKind := ⟨0x11, 0x0005, 2⟩
/-- LOG_THAW_AUTO (R517). -/
def evLogThawAuto : EvKind := ⟨0x11, 0x0006, 4⟩
/-- EVENT_RING_OPENED (R517). -/
def evEventRingOpened : EvKind := ⟨0x11, 0x0007, 2⟩
/-- HISTORY_OPENED (R517). -/
def evHistoryOpened : EvKind := ⟨0x11, 0x0008, 2⟩
/-- HISTORY_CLOSED (R517). -/
def evHistoryClosed : EvKind := ⟨0x11, 0x0009, 2⟩
/-- HISTORY_GAP (R517). -/
def evHistoryGap : EvKind := ⟨0x11, 0x000A, 4⟩
/-- HISTORY_OVERLOAD (R517). -/
def evHistoryOverload : EvKind := ⟨0x11, 0x000B, 4⟩
/-- EVENT_OVERLOAD (R517). -/
def evEventOverload : EvKind := ⟨0x11, 0x000C, 4⟩
/-- EVENT_RING_FAULT (R517). -/
def evEventRingFault : EvKind := ⟨0x11, 0x000D, 5⟩
/-- HISTORY_FAULT (R517). -/
def evHistoryFault : EvKind := ⟨0x11, 0x000E, 5⟩
/-- WLK_PORT_UP (R550). -/
def evWlkPortUp : EvKind := ⟨0x0F, 0x0001, 3⟩
/-- WLK_PORT_DOWN (R550). -/
def evWlkPortDown : EvKind := ⟨0x0F, 0x0002, 4⟩
/-- WLK_LANE_LOST (R550). -/
def evWlkLaneLost : EvKind := ⟨0x0F, 0x0003, 4⟩
/-- WLK_VERSION (R550). -/
def evWlkVersion : EvKind := ⟨0x0F, 0x0004, 5⟩
/-- WLK_VIOLATION (R550). -/
def evWlkViolation : EvKind := ⟨0x0F, 0x0005, 4⟩
/-- MODULE_CONFLICT (R550). -/
def evModuleConflict : EvKind := ⟨0x0F, 0x0006, 5⟩
/-- MASTER_CHANGE (R550). -/
def evMasterChange : EvKind := ⟨0x0F, 0x0007, 3⟩
/-- REP_DENIED (R550). -/
def evRepDenied : EvKind := ⟨0x0F, 0x0008, 4⟩
/-- PAIR_FORMED (R551). -/
def evPairFormed : EvKind := ⟨0x10, 0x0001, 3⟩
/-- PAIR_LOST (R551). -/
def evPairLost : EvKind := ⟨0x10, 0x0002, 4⟩
/-- PAIR_READY (R551). -/
def evPairReady : EvKind := ⟨0x10, 0x0003, 3⟩
/-- PAIR_UNSYNC (R551). -/
def evPairUnsync : EvKind := ⟨0x10, 0x0004, 4⟩
/-- DIGEST_MISMATCH (R551). -/
def evDigestMismatch : EvKind := ⟨0x10, 0x0005, 5⟩
/-- PAIR_GAVE_UP (R551). -/
def evPairGaveUp : EvKind := ⟨0x10, 0x0006, 7⟩
/-- PAIR_TOOK_OVER (R551). -/
def evPairTookOver : EvKind := ⟨0x10, 0x0007, 5⟩
/-- PAIR_SWITCHED (R551). -/
def evPairSwitched : EvKind := ⟨0x10, 0x0008, 3⟩
/-- PAIR_CONFLICT (R551). -/
def evPairConflict : EvKind := ⟨0x10, 0x0009, 6⟩
/-- XFER_DONE (R551). -/
def evXferDone : EvKind := ⟨0x10, 0x000A, 3⟩
/-- XFER_FAILED (R551). -/
def evXferFailed : EvKind := ⟨0x10, 0x000B, 5⟩
/-- INPUT_DIFFER (R551). -/
def evInputDiffer : EvKind := ⟨0x10, 0x000C, 4⟩
/-- MIRROR_OVERLOAD (R551). -/
def evMirrorOverload : EvKind := ⟨0x10, 0x000D, 5⟩
/-- SELFTEST_FAILED (R551). -/
def evSelftestFailed : EvKind := ⟨0x10, 0x000E, 6⟩
/-- SELFTEST_OVERDUE (R551). -/
def evSelftestOverdue : EvKind := ⟨0x10, 0x000F, 4⟩
/-- PAIR_REFUSED (R551). -/
def evPairRefused : EvKind := ⟨0x10, 0x0010, 5⟩
/-- BOOT (R584). -/
def evBoot : EvKind := ⟨0x12, 0x0001, 3⟩
/-- BOOT_FALLBACK (R584). -/
def evBootFallback : EvKind := ⟨0x12, 0x0002, 5⟩
/-- RECOVERY_ENTERED (R584). -/
def evRecoveryEntered : EvKind := ⟨0x12, 0x0003, 6⟩
/-- BILLET_STAGED (R584). -/
def evBilletStaged : EvKind := ⟨0x12, 0x0004, 3⟩
/-- BILLET_REJECTED (R584). -/
def evBilletRejected : EvKind := ⟨0x12, 0x0005, 5⟩
/-- BILLET_ACTIVATED (R584). -/
def evBilletActivated : EvKind := ⟨0x12, 0x0006, 3⟩
/-- BILLET_CONFIRMED (R584). -/
def evBilletConfirmed : EvKind := ⟨0x12, 0x0007, 3⟩
/-- FW_FALLBACK (R584). -/
def evFwFallback : EvKind := ⟨0x12, 0x0008, 5⟩
/-- SETTINGS_CONVERTED (R584). -/
def evSettingsConverted : EvKind := ⟨0x12, 0x0009, 3⟩
/-- SETTINGS_UNREADABLE (R584). -/
def evSettingsUnreadable : EvKind := ⟨0x12, 0x000A, 5⟩
/-- ARB_ADVANCED (R584). -/
def evArbAdvanced : EvKind := ⟨0x12, 0x000B, 3⟩
/-- SENSOR_WARN (R584). -/
def evSensorWarn : EvKind := ⟨0x12, 0x000C, 4⟩
/-- SUPPLY_FAULT (R584). -/
def evSupplyFault : EvKind := ⟨0x12, 0x000D, 7⟩
/-- CLOCK_FAULT (R584). -/
def evClockFault : EvKind := ⟨0x12, 0x000E, 7⟩
/-- TEMP_CRIT (R584). -/
def evTempCrit : EvKind := ⟨0x12, 0x000F, 7⟩
/-- TEMP_TRIP (R584). -/
def evTempTrip : EvKind := ⟨0x12, 0x0010, 7⟩
/-- PMBUS_FAULT (R584). -/
def evPmbusFault : EvKind := ⟨0x12, 0x0011, 4⟩
/-- PMBUS_ALERT (R584). -/
def evPmbusAlert : EvKind := ⟨0x12, 0x0012, 4⟩
/-- ATTESTED (R584). -/
def evAttested : EvKind := ⟨0x12, 0x0013, 2⟩
/-- ATTEST_REFUSED (R584). -/
def evAttestRefused : EvKind := ⟨0x12, 0x0014, 4⟩
/-- RTV_ENTERED (R584). -/
def evRtvEntered : EvKind := ⟨0x12, 0x0015, 6⟩
/-- BOOT_BANK_FULL (R584). -/
def evBootBankFull : EvKind := ⟨0x12, 0x0016, 5⟩
/-- HDL_WATCHDOG (R584). -/
def evHdlWatchdog : EvKind := ⟨0x12, 0x0017, 5⟩

/-- TMB_CNT[16]: EPOCH_OPENED. -/
def cTmbEpochOpened : Nat := 0x200100
/-- TMB_CNT[16]: JUMP_CONFIRMED. -/
def cTmbJumpConfirmed : Nat := 0x200104
/-- TMB_CNT[16]: JUMP_REJECTED. -/
def cTmbJumpRejected : Nat := 0x200108
/-- TMB_CNT[16]: HOLDOVER_ENTERED. -/
def cTmbHoldoverEntered : Nat := 0x20010C
/-- TMB_CNT[16]: PTP_RX_BAD. -/
def cTmbPtpRxBad : Nat := 0x200110
/-- TMB_CNT[16]: PTP_SEQ_GAP. -/
def cTmbPtpSeqGap : Nat := 0x200114
/-- TMB_CNT[16]: ANNOUNCE_TIMEOUT. -/
def cTmbAnnounceTimeout : Nat := 0x200118
/-- TMB_CNT[16]: SRC_REJECTED. -/
def cTmbSrcRejected : Nat := 0x20011C
/-- TMB_CNT[16]: PPS_MISSING. -/
def cTmbPpsMissing : Nat := 0x200120
/-- TMB_CNT[16]: REF10M_LOSS. -/
def cTmbRef10mLoss : Nat := 0x200124
/-- TMB_CNT[16]: DOMAIN_UNLOCK. -/
def cTmbDomainUnlock : Nat := 0x200128
/-- TMB_CNT[16]: LAUNCH_LATE_RUN. -/
def cTmbLaunchLateRun : Nat := 0x20012C
/-- TMB_CNT[16]: LAUNCH_LATE_DROP. -/
def cTmbLaunchLateDrop : Nat := 0x200130
/-- TMB_CNT[16]: LAUNCH_SUPERSEDED. -/
def cTmbLaunchSuperseded : Nat := 0x200134
/-- TMB_CNT[16]: STAMP_LOST. -/
def cTmbStampLost : Nat := 0x200138
/-- TMB_CNT[16]: WALL_SET_REFUSED. -/
def cTmbWallSetRefused : Nat := 0x20013C
/-- PST_CNT[16]: TILE_CRC_FAIL. -/
def cPstTileCrcFail : Nat := 0x300100
/-- PST_CNT[16]: HBM_CORR. -/
def cPstHbmCorr : Nat := 0x300104
/-- PST_CNT[16]: CACHE_CORR. -/
def cPstCacheCorr : Nat := 0x300108
/-- PST_CNT[16]: CACHE_UNCORR. -/
def cPstCacheUncorr : Nat := 0x30010C
/-- PST_CNT[16]: TILE_REPAIRED. -/
def cPstTileRepaired : Nat := 0x300110
/-- PST_CNT[16]: TILE_REBUILT. -/
def cPstTileRebuilt : Nat := 0x300114
/-- PST_CNT[16]: ORDER_DROP. -/
def cPstOrderDrop : Nat := 0x300118
/-- PST_CNT[16]: PERM_DENY. -/
def cPstPermDeny : Nat := 0x30011C
/-- PST_CNT[16]: TYPE_MISMATCH. -/
def cPstTypeMismatch : Nat := 0x300120
/-- PST_CNT[16]: NO_TARGET_WRITE. -/
def cPstNoTargetWrite : Nat := 0x300124
/-- PST_CNT[16]: FORCE_REFUSED. -/
def cPstForceRefused : Nat := 0x300128
/-- PST_CNT[16]: VIEW_COALESCED. -/
def cPstViewCoalesced : Nat := 0x30012C
/-- PST_CNT[16]: STALE_DELIVERED. -/
def cPstStaleDelivered : Nat := 0x300130
/-- PST_CNT[16]: VIEW_RECORDS. -/
def cPstViewRecords : Nat := 0x300134
/-- PST_CNT[16]: SCRUB_PASSES. -/
def cPstScrubPasses : Nat := 0x300138
/-- PST_CNT[16]: MAP_REJECTED. -/
def cPstMapRejected : Nat := 0x30013C
/-- HIF_CNT[16]: CMD_FETCHED. -/
def cHifCmdFetched : Nat := 0x100100
/-- HIF_CNT[16]: CMD_COMPLETED. -/
def cHifCmdCompleted : Nat := 0x100104
/-- HIF_CNT[16]: CMD_FAILED. -/
def cHifCmdFailed : Nat := 0x100108
/-- HIF_CNT[16]: BAD_OPCODE. -/
def cHifBadOpcode : Nat := 0x10010C
/-- HIF_CNT[16]: BAD_DESC. -/
def cHifBadDesc : Nat := 0x100110
/-- HIF_CNT[16]: DB_INVALID. -/
def cHifDbInvalid : Nat := 0x100114
/-- HIF_CNT[16]: DB_DISABLED. -/
def cHifDbDisabled : Nat := 0x100118
/-- HIF_CNT[16]: DATA_FAULT. -/
def cHifDataFault : Nat := 0x10011C
/-- HIF_CNT[16]: CQ_WRITE_FAULT. -/
def cHifCqWriteFault : Nat := 0x100120
/-- HIF_CNT[16]: RING_HALTS. -/
def cHifRingHalts : Nat := 0x100124
/-- HIF_CNT[16]: SLICES. -/
def cHifSlices : Nat := 0x100128
/-- HIF_CNT[16]: PROGRESS_SKIPPED. -/
def cHifProgressSkipped : Nat := 0x10012C
/-- HIF_CNT[16]: CREDIT_STALL. -/
def cHifCreditStall : Nat := 0x100130
/-- HIF_CNT[16]: CQ_FULL_STALL. -/
def cHifCqFullStall : Nat := 0x100134
/-- HIF_CNT[16]: LINK_DOWN. -/
def cHifLinkDown : Nat := 0x100138
/-- HIF_CNT[16]: ABORTS. -/
def cHifAborts : Nat := 0x10013C
/-- CYC_CNT[16]: CYCLES. -/
def cCycCycles : Nat := 0x400100
/-- CYC_CNT[16]: OVERRUN. -/
def cCycOverrun : Nat := 0x400104
/-- CYC_CNT[16]: CYCLE_SKIP. -/
def cCycCycleSkip : Nat := 0x400108
/-- CYC_CNT[16]: WATCHDOG_STOPS. -/
def cCycWatchdogStops : Nat := 0x40010C
/-- CYC_CNT[16]: ITEM_FAULT. -/
def cCycItemFault : Nat := 0x400110
/-- CYC_CNT[16]: ITEM_TIMEOUT. -/
def cCycItemTimeout : Nat := 0x400114
/-- CYC_CNT[16]: ITEMS_RUN. -/
def cCycItemsRun : Nat := 0x400118
/-- CYC_CNT[16]: OUT_NO_TARGET. -/
def cCycOutNoTarget : Nat := 0x40011C
/-- CYC_CNT[16]: OUT_DROPPED. -/
def cCycOutDropped : Nat := 0x400120
/-- CYC_CNT[16]: OUT_LATE. -/
def cCycOutLate : Nat := 0x400124
/-- CYC_CNT[16]: LATCH_STALE. -/
def cCycLatchStale : Nat := 0x400128
/-- CYC_CNT[16]: SHADOW_WRITES. -/
def cCycShadowWrites : Nat := 0x40012C
/-- CYC_CNT[16]: COMMIT_FULL. -/
def cCycCommitFull : Nat := 0x400130
/-- CYC_CNT[16]: PROGRAM_REJECTED. -/
def cCycProgramRejected : Nat := 0x400134
/-- CYC_CNT[16]: DOMAIN_REALIGN. -/
def cCycDomainRealign : Nat := 0x400138
/-- ILE_CNT[8]: SCANS. -/
def cIleScans : Nat := 0x500100
/-- ILE_CNT[8]: FALLBACK_ENTRIES. -/
def cIleFallbackEntries : Nat := 0x500104
/-- ILE_CNT[8]: CYC_WRITE_BLOCKED. -/
def cIleCycWriteBlocked : Nat := 0x500108
/-- ILE_CNT[8]: OUT_WRITES. -/
def cIleOutWrites : Nat := 0x50010C
/-- ILE_CNT[8]: UNUSABLE_INPUTS. -/
def cIleUnusableInputs : Nat := 0x500110
/-- ILE_CNT[8]: REF_LOST_STORES. -/
def cIleRefLostStores : Nat := 0x500114
/-- ILE_CNT[8]: SCAN_LATE. -/
def cIleScanLate : Nat := 0x500118
/-- HRT_CNT[16]: ENQUEUED. -/
def cHrtEnqueued : Nat := 0x600100
/-- HRT_CNT[16]: DISPATCHED. -/
def cHrtDispatched : Nat := 0x600104
/-- HRT_CNT[16]: COMPLETED. -/
def cHrtCompleted : Nat := 0x600108
/-- HRT_CNT[16]: FAILED. -/
def cHrtFailed : Nat := 0x60010C
/-- HRT_CNT[16]: TIMEOUTS. -/
def cHrtTimeouts : Nat := 0x600110
/-- HRT_CNT[16]: COMMIT_FULL. -/
def cHrtCommitFull : Nat := 0x600114
/-- HRT_CNT[16]: NO_CREDIT. -/
def cHrtNoCredit : Nat := 0x600118
/-- HRT_CNT[16]: RETRIES. -/
def cHrtRetries : Nat := 0x60011C
/-- HRT_CNT[16]: RETRY_FAILED. -/
def cHrtRetryFailed : Nat := 0x600120
/-- HRT_CNT[16]: RETIREMENTS. -/
def cHrtRetirements : Nat := 0x600124
/-- HRT_CNT[16]: CREDIT_HOLD. -/
def cHrtCreditHold : Nat := 0x600128
/-- HRT_CNT[16]: UNDO_LINES. -/
def cHrtUndoLines : Nat := 0x60012C
/-- HRT_CNT[16]: COMMIT_WAIT_NS. -/
def cHrtCommitWaitNs : Nat := 0x600130
/-- HRT_CNT[16]: TRACE_DROPPED. -/
def cHrtTraceDropped : Nat := 0x600134
/-- HRT_CNT[16]: DISPATCH_MAX_NS. -/
def cHrtDispatchMaxNs : Nat := 0x600138
/-- SEQ_CNT[16]: BOUNDARIES. -/
def cSeqBoundaries : Nat := 0x700100
/-- SEQ_CNT[16]: BOUNDARY_LATE. -/
def cSeqBoundaryLate : Nat := 0x700104
/-- SEQ_CNT[16]: ACTIONS. -/
def cSeqActions : Nat := 0x700108
/-- SEQ_CNT[16]: ACTION_NO_TARGET. -/
def cSeqActionNoTarget : Nat := 0x70010C
/-- SEQ_CNT[16]: ACTION_CANCELLED. -/
def cSeqActionCancelled : Nat := 0x700110
/-- SEQ_CNT[16]: COND_UNUSABLE. -/
def cSeqCondUnusable : Nat := 0x700114
/-- SEQ_CNT[16]: CHECKPOINTS. -/
def cSeqCheckpoints : Nat := 0x700118
/-- SEQ_CNT[16]: CHECKPOINT_FAIL. -/
def cSeqCheckpointFail : Nat := 0x70011C
/-- SEQ_CNT[16]: UNLOCKED_LAUNCH. -/
def cSeqUnlockedLaunch : Nat := 0x700120
/-- SEQ_CNT[16]: PARTICIPANT_LOST. -/
def cSeqParticipantLost : Nat := 0x700124
/-- SEQ_CNT[16]: RESUMES. -/
def cSeqResumes : Nat := 0x700128
/-- SEQ_CNT[16]: RESUME_REFUSED. -/
def cSeqResumeRefused : Nat := 0x70012C
/-- SEQ_CNT[16]: HOLDS. -/
def cSeqHolds : Nat := 0x700130
/-- SEQ_CNT[16]: ABORTS. -/
def cSeqAborts : Nat := 0x700134
/-- SEQ_CNT[16]: RAMP_WRITES. -/
def cSeqRampWrites : Nat := 0x700138
/-- ANV_CNT[8]: TICKS. -/
def cAnvTicks : Nat := 0x800100
/-- ANV_CNT[8]: TICK_DELAYED. -/
def cAnvTickDelayed : Nat := 0x800104
/-- ANV_CNT[8]: OVERRUNS. -/
def cAnvOverruns : Nat := 0x800108
/-- ANV_CNT[8]: MEM_FAULTS. -/
def cAnvMemFaults : Nat := 0x80010C
/-- ANV_CNT[8]: LIMITS. -/
def cAnvLimits : Nat := 0x800110
/-- ANV_CNT[8]: ECC_CORR. -/
def cAnvEccCorr : Nat := 0x800114
/-- ANV_CNT[8]: ECC_UNCORR. -/
def cAnvEccUncorr : Nat := 0x800118
/-- ANV_CNT[8]: CODE_LOADS. -/
def cAnvCodeLoads : Nat := 0x80011C
/-- ANV_LOOP_CNT[16]: SAMPLES. -/
def cLoopSamples : Nat := 0x818100
/-- ANV_LOOP_CNT[16]: PUBLISHES. -/
def cLoopPublishes : Nat := 0x818104
/-- ANV_LOOP_CNT[16]: INPUT_UNUSABLE. -/
def cLoopInputUnusable : Nat := 0x818108
/-- ANV_LOOP_CNT[16]: RESIDUAL_EXCEED. -/
def cLoopResidualExceed : Nat := 0x81810C
/-- ANV_LOOP_CNT[16]: IMPLAUS_DECLARED. -/
def cLoopImplausDeclared : Nat := 0x818110
/-- ANV_LOOP_CNT[16]: HOLDS. -/
def cLoopHolds : Nat := 0x818114
/-- ANV_LOOP_CNT[16]: BACKUPS. -/
def cLoopBackups : Nat := 0x818118
/-- ANV_LOOP_CNT[16]: QUENCHES. -/
def cLoopQuenches : Nat := 0x81811C
/-- ANV_LOOP_CNT[16]: RELOCATIONS. -/
def cLoopRelocations : Nat := 0x818120
/-- ANV_LOOP_CNT[16]: RELOC_FAILS. -/
def cLoopRelocFails : Nat := 0x818124
/-- ANV_LOOP_CNT[16]: MODE_CHANGES. -/
def cLoopModeChanges : Nat := 0x818128
/-- ANV_LOOP_CNT[16]: OUT_LIMITED. -/
def cLoopOutLimited : Nat := 0x81812C
/-- ANV_LOOP_CNT[16]: STOPPED_SAMPLES. -/
def cLoopStoppedSamples : Nat := 0x818130
/-- ANV_LOOP_CNT[16]: TUNE_TESTS. -/
def cLoopTuneTests : Nat := 0x818134
/-- ANV_LOOP_CNT[16]: TUNE_ABORTS. -/
def cLoopTuneAborts : Nat := 0x818138
/-- ANV_LOOP_CNT[16]: LOAD_REJECTED. -/
def cLoopLoadRejected : Nat := 0x81813C
/-- CNV_CNT[16]: ENTRIES. -/
def cCnvEntries : Nat := 0xB00100
/-- CNV_CNT[16]: OVERRANGE. -/
def cCnvOverrange : Nat := 0xB00104
/-- CNV_CNT[16]: QUEUE_OVERRUN. -/
def cCnvQueueOverrun : Nat := 0xB00108
/-- CNV_CNT[16]: TEMPER_UPDATES. -/
def cCnvTemperUpdates : Nat := 0xB0010C
/-- CNV_CNT[16]: TEMPER_DEFERRED. -/
def cCnvTemperDeferred : Nat := 0xB00110
/-- CNV_CNT[16]: TEMPER_FORCED. -/
def cCnvTemperForced : Nat := 0xB00114
/-- CNV_CNT[16]: TEMPER_IDLE. -/
def cCnvTemperIdle : Nat := 0xB00118
/-- CNV_CNT[16]: SLICE_FAILS. -/
def cCnvSliceFails : Nat := 0xB0011C
/-- CNV_CNT[16]: CLOCK_LOSS. -/
def cCnvClockLoss : Nat := 0xB00120
/-- CNV_CNT[16]: PUB_WRITES. -/
def cCnvPubWrites : Nat := 0xB00124
/-- CNV_CNT[16]: PUB_COALESCED. -/
def cCnvPubCoalesced : Nat := 0xB00128
/-- CNV_CNT[16]: CAL_SLOTS. -/
def cCnvCalSlots : Nat := 0xB0012C
/-- CNV_CNT[16]: CAL_SLOTS_SKIPPED. -/
def cCnvCalSlotsSkipped : Nat := 0xB00130
/-- CNV_CNT[16]: CONFIG_REJECTED. -/
def cCnvConfigRejected : Nat := 0xB00134
/-- CNV_CNT[16]: FG_RUNS. -/
def cCnvFgRuns : Nat := 0xB00138
/-- CAP_CNT[16]: TRIGGERS. -/
def cCapTriggers : Nat := 0xC00100
/-- CAP_CNT[16]: SEGMENTS. -/
def cCapSegments : Nat := 0xC00104
/-- CAP_CNT[16]: MISSED_REARM. -/
def cCapMissedRearm : Nat := 0xC00108
/-- CAP_CNT[16]: MISSED_POST. -/
def cCapMissedPost : Nat := 0xC0010C
/-- CAP_CNT[16]: MISSED_LATE. -/
def cCapMissedLate : Nat := 0xC00110
/-- CAP_CNT[16]: MISSED_LOST. -/
def cCapMissedLost : Nat := 0xC00114
/-- CAP_CNT[16]: MASK_VIOLATIONS. -/
def cCapMaskViolations : Nat := 0xC00118
/-- CAP_CNT[16]: FIRES_SENT. -/
def cCapFiresSent : Nat := 0xC0011C
/-- CAP_CNT[16]: FIRES_RECEIVED. -/
def cCapFiresReceived : Nat := 0xC00120
/-- CAP_CNT[16]: UNLOCKED_FIRES. -/
def cCapUnlockedFires : Nat := 0xC00124
/-- CAP_CNT[16]: READ_TORN. -/
def cCapReadTorn : Nat := 0xC00128
/-- CAP_CNT[16]: GAP_SEGMENTS. -/
def cCapGapSegments : Nat := 0xC0012C
/-- CAP_CNT[16]: FIRE_IGNORED. -/
def cCapFireIgnored : Nat := 0xC00130
/-- CAP_CNT[16]: CONFIG_REJECTED. -/
def cCapConfigRejected : Nat := 0xC00134
/-- CAP_CNT[16]: SEGMENTS_READ. -/
def cCapSegmentsRead : Nat := 0xC00138
/-- QCH_CNT[8]: ASSERTIONS. -/
def cQchAssertions : Nat := 0x1300100
/-- QCH_CNT[8]: CAP_REQUESTS. -/
def cQchCapRequests : Nat := 0x1300104
/-- QCH_CNT[8]: ANV_REQUESTS. -/
def cQchAnvRequests : Nat := 0x1300108
/-- QCH_CNT[8]: FATAL_REQUESTS. -/
def cQchFatalRequests : Nat := 0x130010C
/-- QCH_CNT[8]: RELEASES. -/
def cQchReleases : Nat := 0x1300110
/-- QCH_CNT[8]: RELEASE_REFUSED. -/
def cQchReleaseRefused : Nat := 0x1300114
/-- QCH_CNT[8]: PIN_FAULTS. -/
def cQchPinFaults : Nat := 0x1300118
/-- QCH_CNT[8]: LATENCY_MAX_NS. -/
def cQchLatencyMaxNs : Nat := 0x130011C
/-- MOT_CNT[16]: MOVES. -/
def cMotMoves : Nat := 0x900100
/-- MOT_CNT[16]: MOVES_REFUSED. -/
def cMotMovesRefused : Nat := 0x900104
/-- MOT_CNT[16]: STEPS. -/
def cMotSteps : Nat := 0x900108
/-- MOT_CNT[16]: STEP_DELAYED. -/
def cMotStepDelayed : Nat := 0x90010C
/-- MOT_CNT[16]: FOLLOWING_ERRORS. -/
def cMotFollowingErrors : Nat := 0x900110
/-- MOT_CNT[16]: HARD_LIMITS. -/
def cMotHardLimits : Nat := 0x900114
/-- MOT_CNT[16]: SOFT_LIMITS. -/
def cMotSoftLimits : Nat := 0x900118
/-- MOT_CNT[16]: HOMINGS. -/
def cMotHomings : Nat := 0x90011C
/-- MOT_CNT[16]: HOMING_FAILS. -/
def cMotHomingFails : Nat := 0x900120
/-- MOT_CNT[16]: PHASE_LOSSES. -/
def cMotPhaseLosses : Nat := 0x900124
/-- MOT_CNT[16]: PHASE_RESTORES. -/
def cMotPhaseRestores : Nat := 0x900128
/-- MOT_CNT[16]: PROFILE_REJECTED. -/
def cMotProfileRejected : Nat := 0x90012C
/-- MOT_CNT[16]: CONFIG_REJECTED. -/
def cMotConfigRejected : Nat := 0x900130
/-- MOT_CNT[16]: STOPS. -/
def cMotStops : Nat := 0x900134
/-- MOT_CNT[16]: RESTORES. -/
def cMotRestores : Nat := 0x900138
/-- FBK_CNT[16]: COUNT_ERRORS. -/
def cFbkCountErrors : Nat := 0xA00100
/-- FBK_CNT[16]: SSI_FRAMES. -/
def cFbkSsiFrames : Nat := 0xA00104
/-- FBK_CNT[16]: SSI_FRAME_ERRORS. -/
def cFbkSsiFrameErrors : Nat := 0xA00108
/-- FBK_CNT[16]: INDEXES. -/
def cFbkIndexes : Nat := 0xA0010C
/-- FBK_CNT[16]: INDEX_MISMATCHES. -/
def cFbkIndexMismatches : Nat := 0xA00110
/-- FBK_CNT[16]: INDEX_MISSING. -/
def cFbkIndexMissing : Nat := 0xA00114
/-- FBK_CNT[16]: INDEX_CORRECTIONS. -/
def cFbkIndexCorrections : Nat := 0xA00118
/-- FBK_CNT[16]: IMPLAUS_DECLARED. -/
def cFbkImplausDeclared : Nat := 0xA0011C
/-- FBK_CNT[16]: BAD_DECLARED. -/
def cFbkBadDeclared : Nat := 0xA00120
/-- FBK_CNT[16]: COMPARE_FIRED. -/
def cFbkCompareFired : Nat := 0xA00124
/-- FBK_CNT[16]: COMPARE_MISSED. -/
def cFbkCompareMissed : Nat := 0xA00128
/-- FBK_CNT[16]: CMP_DELAYED. -/
def cFbkCmpDelayed : Nat := 0xA0012C
/-- FBK_CNT[16]: PUB_WRITES. -/
def cFbkPubWrites : Nat := 0xA00130
/-- FBK_CNT[16]: CONFIG_REJECTED. -/
def cFbkConfigRejected : Nat := 0xA00134
/-- FBK_CNT[16]: COMPARE_REJECTED. -/
def cFbkCompareRejected : Nat := 0xA00138
/-- STN_CNT[32]: RX_FRAMES. -/
def cStnRxFrames : Nat := 0xE00100
/-- STN_CNT[32]: TX_FRAMES. -/
def cStnTxFrames : Nat := 0xE00104
/-- STN_CNT[32]: RX_FCS. -/
def cStnRxFcs : Nat := 0xE00108
/-- STN_CNT[32]: RX_OTHER. -/
def cStnRxOther : Nat := 0xE0010C
/-- STN_CNT[32]: RX_MALFORMED. -/
def cStnRxMalformed : Nat := 0xE00110
/-- STN_CNT[32]: RX_UNKNOWN. -/
def cStnRxUnknown : Nat := 0xE00114
/-- STN_CNT[32]: RX_VERSION. -/
def cStnRxVersion : Nat := 0xE00118
/-- STN_CNT[32]: RX_LAYOUT. -/
def cStnRxLayout : Nat := 0xE0011C
/-- STN_CNT[32]: RX_DUPLICATE. -/
def cStnRxDuplicate : Nat := 0xE00120
/-- STN_CNT[32]: RX_OLD. -/
def cStnRxOld : Nat := 0xE00124
/-- STN_CNT[32]: RX_FUTURE. -/
def cStnRxFuture : Nat := 0xE00128
/-- STN_CNT[32]: RX_RATE. -/
def cStnRxRate : Nat := 0xE0012C
/-- STN_CNT[32]: RX_CHANNEL_BAD. -/
def cStnRxChannelBad : Nat := 0xE00130
/-- STN_CNT[32]: IMAGE_INCOMPLETE. -/
def cStnImageIncomplete : Nat := 0xE00134
/-- STN_CNT[32]: IMAGES_IN. -/
def cStnImagesIn : Nat := 0xE00138
/-- STN_CNT[32]: IMAGES_OUT. -/
def cStnImagesOut : Nat := 0xE0013C
/-- STN_CNT[32]: OUT_NO_TARGET. -/
def cStnOutNoTarget : Nat := 0xE00140
/-- STN_CNT[32]: LAUNCH_BUMPED. -/
def cStnLaunchBumped : Nat := 0xE00144
/-- STN_CNT[32]: STATION_TIMEOUT. -/
def cStnStationTimeout : Nat := 0xE00148
/-- STN_CNT[32]: NEGOTIATION_FAILED. -/
def cStnNegotiationFailed : Nat := 0xE0014C
/-- STN_CNT[32]: CONFIG_TIMEOUT. -/
def cStnConfigTimeout : Nat := 0xE00150
/-- STN_CNT[32]: STATION_RESTART. -/
def cStnStationRestart : Nat := 0xE00154
/-- STN_CNT[32]: UNSYNC_INPUTS. -/
def cStnUnsyncInputs : Nat := 0xE00158
/-- STN_CNT[32]: TOKEN_CONFLICTS. -/
def cStnTokenConflicts : Nat := 0xE0015C
/-- STN_CNT[32]: GUARD_DEFER. -/
def cStnGuardDefer : Nat := 0xE00160
/-- STN_CNT[32]: TABLE_REJECTED. -/
def cStnTableRejected : Nat := 0xE00164
/-- STN_CNT[32]: RX_NOT_RUN. -/
def cStnRxNotRun : Nat := 0xE00168
/-- REC_CNT[16]: EVENTS. -/
def cRecEvents : Nat := 0x1100100
/-- REC_CNT[16]: FOLDED. -/
def cRecFolded : Nat := 0x1100104
/-- REC_CNT[16]: LOG_DISCARDED. -/
def cRecLogDiscarded : Nat := 0x1100108
/-- REC_CNT[16]: FREEZE_LOST. -/
def cRecFreezeLost : Nat := 0x110010C
/-- REC_CNT[16]: RECORDS_LOST. -/
def cRecRecordsLost : Nat := 0x1100110
/-- REC_CNT[16]: PAGES_RETIRED. -/
def cRecPagesRetired : Nat := 0x1100114
/-- REC_CNT[16]: EVRING_LOST. -/
def cRecEvringLost : Nat := 0x1100118
/-- REC_CNT[16]: EVRING_RECORDS. -/
def cRecEvringRecords : Nat := 0x110011C
/-- REC_CNT[16]: HIST_CHANGES. -/
def cRecHistChanges : Nat := 0x1100120
/-- REC_CNT[16]: HIST_FILTERED. -/
def cRecHistFiltered : Nat := 0x1100124
/-- REC_CNT[16]: HIST_OVERLOAD. -/
def cRecHistOverload : Nat := 0x1100128
/-- REC_CNT[16]: HIST_BLOCKS. -/
def cRecHistBlocks : Nat := 0x110012C
/-- REC_CNT[16]: HIST_BLOCKS_LOST. -/
def cRecHistBlocksLost : Nat := 0x1100130
/-- REC_CNT[16]: HIST_EXPORTED. -/
def cRecHistExported : Nat := 0x1100134
/-- REC_CNT[16]: VERIFY_RETRIES. -/
def cRecVerifyRetries : Nat := 0x1100138
/-- REC_CNT[16]: EVENTS_DROPPED. -/
def cRecEventsDropped : Nat := 0x110013C
/-- WLK_CNT[16]: RX_MSG. -/
def cWlkRxMsg : Nat := 0xF00100
/-- WLK_CNT[16]: TX_MSG. -/
def cWlkTxMsg : Nat := 0xF00104
/-- WLK_CNT[16]: RX_CRC. -/
def cWlkRxCrc : Nat := 0xF00108
/-- WLK_CNT[16]: RX_MALFORMED. -/
def cWlkRxMalformed : Nat := 0xF0010C
/-- WLK_CNT[16]: RX_VERSION. -/
def cWlkRxVersion : Nat := 0xF00110
/-- WLK_CNT[16]: HOPS_EXPIRED. -/
def cWlkHopsExpired : Nat := 0xF00114
/-- WLK_CNT[16]: DUPLICATES. -/
def cWlkDuplicates : Nat := 0xF00118
/-- WLK_CNT[16]: HB_MISSED. -/
def cWlkHbMissed : Nat := 0xF0011C
/-- WLK_CNT[16]: LANE_LOSSES. -/
def cWlkLaneLosses : Nat := 0xF00120
/-- WLK_CNT[16]: LINK_DOWNS. -/
def cWlkLinkDowns : Nat := 0xF00124
/-- WLK_CNT[16]: MODULE_CONFLICTS. -/
def cWlkModuleConflicts : Nat := 0xF00128
/-- WLK_CNT[16]: MASTER_CHANGES. -/
def cWlkMasterChanges : Nat := 0xF0012C
/-- WLK_CNT[16]: REP_SENT. -/
def cWlkRepSent : Nat := 0xF00130
/-- WLK_CNT[16]: REP_DENIED. -/
def cWlkRepDenied : Nat := 0xF00134
/-- WLK_CNT[16]: REP_COALESCED. -/
def cWlkRepCoalesced : Nat := 0xF00138
/-- WLK_CNT[16]: CLASS_DROPPED. -/
def cWlkClassDropped : Nat := 0xF0013C
/-- PAR_CNT[16]: MIRROR_SENT. -/
def cParMirrorSent : Nat := 0x1000100
/-- PAR_CNT[16]: MIRROR_RECEIVED. -/
def cParMirrorReceived : Nat := 0x1000104
/-- PAR_CNT[16]: DIGESTS. -/
def cParDigests : Nat := 0x1000108
/-- PAR_CNT[16]: DIGEST_MISMATCHES. -/
def cParDigestMismatches : Nat := 0x100010C
/-- PAR_CNT[16]: TAKEOVERS. -/
def cParTakeovers : Nat := 0x1000110
/-- PAR_CNT[16]: GIVE_UPS. -/
def cParGiveUps : Nat := 0x1000114
/-- PAR_CNT[16]: SWITCHES. -/
def cParSwitches : Nat := 0x1000118
/-- PAR_CNT[16]: TRANSFERS. -/
def cParTransfers : Nat := 0x100011C
/-- PAR_CNT[16]: TRANSFER_FAILS. -/
def cParTransferFails : Nat := 0x1000120
/-- PAR_CNT[16]: INPUT_DIFFER. -/
def cParInputDiffer : Nat := 0x1000124
/-- PAR_CNT[16]: CMD_ACK_TIMEOUT. -/
def cParCmdAckTimeout : Nat := 0x1000128
/-- PAR_CNT[16]: TAKEOVER_SKIPPED. -/
def cParTakeoverSkipped : Nat := 0x100012C
/-- PAR_CNT[16]: CONFLICTS. -/
def cParConflicts : Nat := 0x1000130
/-- PAR_CNT[16]: MIRROR_OVERLOAD. -/
def cParMirrorOverload : Nat := 0x1000134
/-- PAR_CNT[16]: SELFTEST_PASSES. -/
def cParSelftestPasses : Nat := 0x1000138
/-- PAR_CNT[16]: SELFTEST_FAILS. -/
def cParSelftestFails : Nat := 0x100013C
/-- HDL_CNT[8]: BILLETS_STAGED. -/
def cHdlBilletsStaged : Nat := 0x1200100
/-- HDL_CNT[8]: BILLETS_REJECTED. -/
def cHdlBilletsRejected : Nat := 0x1200104
/-- HDL_CNT[8]: FALLBACKS. -/
def cHdlFallbacks : Nat := 0x1200108
/-- HDL_CNT[8]: ATTESTATIONS. -/
def cHdlAttestations : Nat := 0x120010C
/-- HDL_CNT[8]: ATTEST_REFUSED. -/
def cHdlAttestRefused : Nat := 0x1200110
/-- HDL_CNT[8]: PMBUS_ERRORS. -/
def cHdlPmbusErrors : Nat := 0x1200114
/-- HDL_CNT[8]: SENSOR_WARNINGS. -/
def cHdlSensorWarnings : Nat := 0x1200118
/-- HDL_CNT[8]: HENDEL_WATCHDOGS. -/
def cHdlHendelWatchdogs : Nat := 0x120011C

end Sys2Proof.Machine
end

