-- ==== Sys2Proof/Machine/StTmb.lean ====
section
/-! DEFINITION. State of the Timeline block (01_timeline): the counter, the servo, the Epoch records, the time sources, the
launch queue of the timed pins, and the pins. -/
namespace Sys2Proof.Machine
open Sys2Proof

/-- Timeline states (R44). -/
inductive TimeState where
  | free | acquiring | locked | confirming | holdover
  deriving DecidableEq, Repr, Inhabited

/-- The STATE code of a Timeline state (R44). -/
def TimeState.code : TimeState → Nat
  | .free => 0 | .acquiring => 1 | .locked => 2 | .confirming => 3 | .holdover => 4

/-- Epoch reasons (R36). -/
inductive EpochReason where
  | start | acquire | masterJump | wallSet | leap | domainJoin | domainEpoch
  deriving DecidableEq, Repr, Inhabited

/-- The REASON code of an Epoch reason (R36). -/
def EpochReason.code : EpochReason → Nat
  | .start => 0 | .acquire => 1 | .masterJump => 2 | .wallSet => 3 | .leap => 4 | .domainJoin => 5 | .domainEpoch => 6

/-- An Epoch record (R35). -/
structure Epoch where
  number : Nat
  reason : EpochReason
  source : Nat
  taiValid : Bool
  domain : Bool
  markLost : Bool
  timelineReset : Bool
  utcTai : Int
  tStart : Nat
  taiOff : Int
  domOff : Int
  deriving DecidableEq, Repr, Inhabited

/-- The conditions gathered during an Epoch wait (R38): the latest of each kind, and the reason of the latest of all. -/
structure EpochWait where
  reason : EpochReason
  taiOff : Option Int
  taiValid : Option Bool
  utcTai : Option Int
  domOff : Option Int
  deriving DecidableEq, Repr, Inhabited

/-- A Timeline mark (R40): Timeline value, Epoch number, FREQ_EST in ppt. -/
structure Mark where
  value : Nat
  epoch : Nat
  freqEst : Int
  deriving DecidableEq, Repr, Inhabited

/-- A coarse mark of the flash region, with its sequence number (R40). -/
structure CoarseMark where
  mark : Mark
  seq : Nat
  deriving DecidableEq, Repr, Inhabited

/-- A time source (R45, R50, R56): whether it is valid, since when without a break, until when it is rejected, and the
instant of its last valid measurement. -/
structure TimeSource where
  valid : Bool
  since : Nat
  rejectedUntil : Nat
  lastMeas : Nat
  deriving DecidableEq, Repr, Inhabited

/-- The PTP instance (R51, R56). -/
structure Ptp where
  syncSeq : Option Nat
  /-- a two-step Sync awaiting its Follow_Up: sequenceId and ingress stamp (quarter ns) -/
  awaiting : Option (Nat × Int)
  /-- a Delay_Req awaiting its Delay_Resp: sequenceId and egress stamp -/
  delayReq : Option (Nat × Int)
  /-- a Pdelay_Req awaiting its response -/
  pdelayReq : Option (Nat × Int)
  reqSeq : Nat
  pathDelay : Int
  lastSync : Option (Int × Int)
  asCapable : Bool
  pdelayMiss : Nat
  announceAt : Nat
  announceMaster : Option Nat
  utcValid : Bool
  utcOffset : Int
  masterSeq : Nat
  deriving DecidableEq, Repr, Inhabited

/-- One stamp of a timed pin (R66). -/
structure Stamp where
  ns : Nat
  quarter : Nat
  falling : Bool
  epochLo : Nat
  deriving DecidableEq, Repr, Inhabited

/-- A timed pin (R63 to R66): the driven ball level (none: high-impedance), the trailing edge due, the last action's
instant in quarter ns with what it replaced, the last stamped edge, the stamp FIFO and the popped stamp's latch, and the block
that claims the pin. -/
structure TioPin where
  level : Option Bool
  trailing : Option Nat
  lastAction : Option Nat
  lastStamp : Option Nat
  fifo : List Stamp
  latch : Option Stamp
  claimed : Option Nat
  deriving DecidableEq, Repr, Inhabited

/-- The Timeline block. -/
structure Tmb where
  /-- the Timeline, ns (R32) -/
  now : Nat
  /-- its 32-bit binary fraction -/
  frac : Nat
  /-- what is left below the fraction, in units of 2^-32 ns / 10^12 -/
  resid : Nat
  latchHi : Nat
  latchFrac : Nat
  rate : Int
  freqEst : Int
  state : TimeState
  source : Nat
  offset : Int
  domOff : Int
  domResid : Int
  domLock : Bool
  domRun : Nat
  joined : Bool
  epochs : List Epoch
  lastOpen : Option Nat
  wait : Option EpochWait
  lockRun : Nat
  gathered : List Int
  lastF : Option Int
  satSince : Option Nat
  sources : SMap TimeSource
  ptp : Ptp
  ppsLabel : Nat
  ppsLast : Option Nat
  /-- the edge after `ppsLast` has been counted as missing (R52) -/
  ppsMissed : Bool
  ppsOut : Bool
  /-- instant of the last rise of PPS_OUT (R53) -/
  ppsRise : Nat
  ref10m : Bool
  wallStatus : Status
  lq : List LqEntry
  lqLast : Status
  tio : SMap TioPin
  deriving DecidableEq, Repr, Inhabited

end Sys2Proof.Machine
end

