-- ==== Sys2Proof/Machine/StHdl.lean ====
section
/-! DEFINITION. State of Hendel (19_hendel R554 to R585): firmware banks, settings, boot bank, OTP, sensors, PMBus, probation, attestation, and
the recovery mailbox. -/
namespace Sys2Proof.Machine
open Sys2Proof

/-- States of a firmware bank (R556). -/
inductive BankState where
  | empty | staging | staged | trial | active | old | failed
  deriving DecidableEq, Repr, Inhabited

/-- The code of a bank's state (R556). -/
def BankState.code : BankState → Nat
  | .empty => 0 | .staging => 1 | .staged => 2 | .trial => 3 | .active => 4 | .old => 5 | .failed => 6

/-- A firmware bank: its state and the Billet in it (R555 to R568). -/
structure Bank where
  state : BankState
  billet : Bytes
  deriving DecidableEq, Repr, Inhabited

/-- A PERSIST item on its way to the boot bank (R557); a loop without a descriptor leaves the boot bank. -/
inductive BootItem where
  | program (image : Image) (map : Option PointMap)
  | interlock (image : IleImage)
  | loop (n : Nat) (desc : Option Bytes)
  deriving DecidableEq, Repr

/-- The boot bank (R555, R557). -/
structure BootBank where
  program : Option (Image × Option PointMap)
  interlock : Option IleImage
  loops : SMap (Option Bytes)
  deriving DecidableEq, Repr, Inhabited

/-- A settings slot (R558): format, write generation, the settings registers' committed values, the PERSIST station table, the saved
Temper generation. -/
structure Settings where
  format : Nat
  gen : Nat
  regs : List (Nat × Word)
  stn : Option Bytes
  temper : Option TemperSave
  deriving DecidableEq, Repr, Inhabited

/-- One-time programmable memory (R569, R575, R576, R583). -/
structure Otp where
  serial : Nat
  /-- level of each group: the set bits of its thermometer -/
  levels : SMap Nat
  /-- revocation bits of the vendor keys -/
  revoked : Nat
  returned : Bool
  deriving DecidableEq, Repr, Inhabited

/-- A sensor (R562, R565, R585): VALUE in the register's units, the flags, the reading's instant, when its point was last written. -/
structure Sensor where
  value : Int
  valid : Bool
  warn : Bool
  fault : Bool
  bad : Bool
  stamp : Nat
  pointAt : Option Nat
  deriving DecidableEq, Repr, Inhabited

/-- The recovery mailbox (R581): status, DONE, BYTES, the data window, and the Billet that is being staged (its bytes, declared length). -/
structure Mbox where
  status : Status
  done : Bool
  bytes : Nat
  window : Bytes
  stage : Option Nat
  deriving DecidableEq, Repr, Inhabited

/-- Hendel. -/
structure Hdl where
  bank : SMap Bank
  /-- the bank that runs: 0 A, 1 B -/
  running : Nat
  otp : Otp
  boot : BootBank
  writes : List BootItem
  /-- coarse marks of the flash region, newest first (R40) -/
  coarse : List CoarseMark
  /-- format and write generation of the running bank's settings slot (R558) -/
  format : Nat
  gen : Nat
  /-- the previous bank's slot during a trial, and the own slot as the trial began (R573, R574) -/
  oldSlot : Option Settings
  baseSlot : Option Settings
  /-- when probation began, the groups confirmed (R572) -/
  probation : Option Nat
  confirmed : Nat
  lastReason : Nat
  lastLost : Nat
  recovery : Bool
  sensor : SMap Sensor
  /-- consecutive failures of a PMBus device (R564) -/
  pmFails : SMap Nat
  /-- the next leaf of the identity key, in MRAM (R577), and the instants of the signatures of the last hour (R579) -/
  leaf : Nat
  signed : List Nat
  mbox : Mbox
  deriving DecidableEq, Repr, Inhabited

end Sys2Proof.Machine
end

