-- ==== Sys2Proof/Machine/StHif.lean ====
section
/-! DEFINITION. State of the host interface (03_host_rings): rings, the commands in flight, version, link. -/
namespace Sys2Proof.Machine
open Sys2Proof

/-- Halt reasons of a ring (R135). -/
inductive HaltReason where
  | none | dbRange | descFetch | cqWrite | cqHead | cqHalted
  deriving DecidableEq, Repr, Inhabited

/-- The code of a halt reason (R135). -/
def HaltReason.code : HaltReason → Nat
  | .none => 0 | .dbRange => 1 | .descFetch => 2 | .cqWrite => 3 | .cqHead => 4 | .cqHalted => 5

/-- A submission ring's indices (R112, R114) and what is left of its round (R121). -/
structure Sq where
  head : Nat
  tail : Nat
  halt : HaltReason
  left : Nat
  deriving DecidableEq, Repr, Inhabited

/-- A completion ring's indices (R113), its interrupt accumulator (R131); `phase0` is true while PHASE is 0. -/
structure Cq where
  tail : Nat
  head : Nat
  phase0 : Bool
  halt : HaltReason
  sinceIrq : Nat
  firstUnsig : Option Nat
  deriving DecidableEq, Repr, Inhabited

/-- The end of a command: status, result, units done, the instant (R116). -/
structure CmdEnd where
  status : Status
  result : Nat
  done : Nat
  stamp : Nat
  deriving DecidableEq, Repr, Inhabited

/-- A command in flight (R115): its descriptor, where it stands, and the host data read for it. -/
structure Cmd where
  handle : Nat
  sq : Nat
  cq : Nat
  tag : Nat
  opcode : Nat
  fence : Bool
  progress : Bool
  unit : Nat
  arg : Nat
  arg2 : Nat
  dataAddr : Nat
  dataLen : Nat
  addr2 : Nat
  instant : Nat
  started : Bool
  /-- the ABORT commands that stop it at its next Slice boundary and end with it (R125) -/
  abortBy : List Nat
  /-- handles of the waiting commands to be served before its next Slice (R123) -/
  owed : List Nat
  /-- status of its Slice's item where that failed on Hearth (07_hearth R230, R239, R240) -/
  failed : Option Status
  /-- the standby has acknowledged the mirrored command, or none is needed (R119) -/
  acked : Bool
  data : Bytes
  data2 : Bytes
  done : Nat
  total : Nat
  /-- first failure of a list command: status and entry index (R129) -/
  firstBad : Option (Status × Nat)
  count : Nat
  /-- where a sliced readout stands, and where it stops -/
  pos : Nat
  lim : Nat
  lastProgress : Nat
  ended : Option CmdEnd
  deriving DecidableEq, Repr, Inhabited

/-- The host interface. -/
structure Hif where
  ready : Bool
  version : Nat
  actStatus : Status
  actDone : Bool
  linkSpeed : Nat
  linkWidth : Nat
  commitRing : Nat
  sq : SMap Sq
  cq : SMap Cq
  cmds : List Cmd
  nextHandle : Nat
  deriving DecidableEq, Repr, Inhabited

end Sys2Proof.Machine
end

