-- ==== Sys2Proof/Machine/StPar.lean ====
section
/-! DEFINITION. State of the Walig Link (18_pairing R519 to R528, R550, R552) and of pairing (R529 to R548, R551, R553). -/
namespace Sys2Proof.Machine
open Sys2Proof

/-! ### The Walig Link -/

/-- States of a Walig port (WLK_PORT STATE). -/
inductive PortState where
  | down | training | up | degraded
  deriving DecidableEq, Repr, Inhabited

/-- The STATE code of a port. -/
def PortState.code : PortState → Nat
  | .down => 0 | .training => 1 | .up => 2 | .degraded => 3

/-- A lane (R520): block lock, when its last heartbeat came or its lock began, and whether it works. -/
structure Lane where
  lock : Bool
  hb : Nat
  works : Bool
  deriving DecidableEq, Repr, Inhabited

/-- A Walig port (R519, R520, R523, WLK_PORT). -/
structure WPort where
  state : PortState
  lane0 : Lane
  lane1 : Lane
  /-- since when block lock is stable, and whether LINK_HELLO has been exchanged since then -/
  stable : Option Nat
  hello : Bool
  /-- a partner of another major version: when the port retries (R523) -/
  retryAt : Option Nat
  peer : Nat
  ver : Nat
  peerVer : Nat
  rtt : Nat
  hbCount : Nat
  rx : Nat
  tx : Nat
  deriving DecidableEq, Repr, Inhabited

/-- What an ANNOUNCE has told of a module (R526). -/
structure ModInfo where
  prio : Nat
  serial : Nat
  state : Nat
  at' : Nat
  deriving DecidableEq, Repr, Inhabited

/-- A SYNC exchange of a member (R527): t1 and the CORR of the request, t2, t3, in 2^-16 ns. -/
structure SyncX where
  t1 : Nat
  corr : Nat
  t2 : Nat
  t3 : Nat
  deriving DecidableEq, Repr, Inhabited

/-- A point of a replication element (R528): when it was last sent, and the SEQ of the record sent. -/
structure RepPoint where
  at' : Nat
  seq : BitVec 32
  deriving DecidableEq, Repr, Inhabited

/-- The Walig Link. -/
structure Walig where
  port : SMap WPort
  /-- the next SEQ of each class -/
  seq : SMap Nat
  /-- messages forwarded or taken within the last 1 ms: SRC, CLASS, SEQ, instant (R524) -/
  recent : List (Nat × Nat × Nat × Nat)
  mods : SMap (Option ModInfo)
  master : Option Nat
  conflict : Bool
  /-- the count of the heartbeats sent (R520) -/
  hbSent : Nat
  sync : Option SyncX
  /-- replication: state of each point of each element, by element × 2^25 + point -/
  rep : SMap (Option RepPoint)
  /-- source module × 2^25 + point of the records whose refusal has been recorded (R528) -/
  repDenied : List Nat
  deriving DecidableEq, Repr, Inhabited

/-! ### Pairing -/

/-- Pairing states (R530). -/
inductive PairState where
  | disabled | alone | forming | active | standbyUnsync | standbyReady | gaveUp
  deriving DecidableEq, Repr, Inhabited

/-- The code of a pairing state (R530). -/
def PairState.code : PairState → Nat
  | .disabled => 0 | .alone => 1 | .forming => 2 | .active => 3 | .standbyUnsync => 4 | .standbyReady => 5 | .gaveUp => 6

/-- States of a transfer (PAR_XFER STATE). -/
inductive XferState where
  | none | copying | cut | catchup | done | failed
  deriving DecidableEq, Repr, Inhabited

/-- The code of a transfer's state. -/
def XferState.code : XferState → Nat
  | .none => 0 | .copying => 1 | .cut => 2 | .catchup => 3 | .done => 4 | .failed => 5

/-- Fragments being put together (R525): ID, class SEQ of the last one, REGION, bytes so far. -/
structure Frags where
  id : Nat
  seq : Nat
  region : Nat
  data : Bytes
  deriving DecidableEq, Repr, Inhabited

/-- A mirrored command that awaits its ACK (R119, R538): transfer number, the command, when it is overdue. -/
structure AckWait where
  id : Nat
  cmd : Nat
  due : Nat
  deriving DecidableEq, Repr, Inhabited

/-- A digest (R536): kind, index, instant, value. -/
structure Digest where
  kind : Nat
  index : Nat
  inst : Nat
  value : Nat
  deriving DecidableEq, Repr, Inhabited

/-- Pairing. -/
structure Par where
  state : PairState
  /-- PAIR_HELLO of the partner: FW_ECN, serial, state, last mirrored or announced TOKEN_EPOCH -/
  partnerEcn : Nat
  partnerSerial : Nat
  partnerState : Nat
  partnerToken : Nat
  refusedNoted : Bool
  /-- the end of the wait after a restart (R532) -/
  waitEnd : Option Nat
  actIn : Bool
  actOut : Bool
  /-- the module in control mirrors to its partner, which is READY or catches up (R534, R539, R546) -/
  follow : Bool
  /-- bytes mirrored in the 100 µs that began at an instant (R534) -/
  mirWin : Nat × Nat
  lag : Nat
  /-- S of a control given up (R540), and the entries from S to A + 12 µs that are not executed (R542) -/
  gaveAt : Option Nat
  skip : Option (Nat × Nat)
  takeAt : Nat
  latchHi : Nat
  /-- PAR_SELFTEST_AT_HI as the last read of LO latched it -/
  selfHi : Nat
  takeCause : Nat
  skipped : Nat
  /-- a planned switch: its instant and its command (R543) -/
  switch : Option (Nat × Nat)
  xfer : XferState
  passes : Nat
  xferStatus : Status
  dirty : Nat
  xferCmd : Option Nat
  xferAt : Nat
  cutFrom : Option Nat
  /-- COMMAND and XFER numbers sent, and what is being received (R525) -/
  nextId : Nat
  cmdFrags : Option Frags
  xferFrags : Option Frags
  acks : List AckWait
  /-- regions of the transfer that have arrived -/
  regions : SMap Bytes
  /-- effects in the order the module in control reported (R535) -/
  order : List (Nat × Nat)
  /-- what the digests of a cycle, sample or scan cover so far (R536), own digests, and those of the partner -/
  acc : SMap Bytes
  digests : List Digest
  digestsIn : List Digest
  digKind : Nat
  digIndex : Nat
  /-- levels of the paired pins and QCH latches last mirrored (PIN_STATE) -/
  pins : Bytes
  /-- mirrored inputs of the sources that the standby compares (R537), and those whose difference has been recorded -/
  inputs : SMap (List (Nat × Bytes))
  differNoted : List Nat
  /-- when the module in control began to owe a resynchronisation (R538) -/
  resync : Option Nat
  /-- the latent-fault self-test (R548) -/
  selfProgress : Nat
  selfFails : Nat
  overdue : Bool
  selfAt : Nat
  deriving DecidableEq, Repr, Inhabited

/-- This module is in a formed pair (R530: states 3 to 5). -/
def Par.formed (p : Par) : Bool := p.state == .active || p.state == .standbyUnsync || p.state == .standbyReady

/-- This module is the standby of its pair (R530). -/
def Par.standby (p : Par) : Bool := p.state == .standbyUnsync || p.state == .standbyReady

/-- This module is a standby in step, or catching up: it lives on mirrored inputs (R535, R546). -/
def Par.inStep (p : Par) : Bool := p.state == .standbyReady || (p.state == .standbyUnsync && p.xfer == .catchup)

/-- Nothing reaches outside the module: it is a standby (R537) or gave control up (R530). -/
def Par.mute (p : Par) : Bool := p.standby || p.state == .gaveUp

/-- This module holds control (R530): alone, in control of a pair, or without pairing. -/
def Par.holds (p : Par) : Bool := p.state == .disabled || p.state == .alone || p.state == .active

end Sys2Proof.Machine
end

