-- ==== Sys2Proof/Machine/StRec.lean ====
section
/-! DEFINITION. State of the Recorder (17_recorder): event log, freeze, last-gasp area, event ring, signal history. -/
namespace Sys2Proof.Machine
open Sys2Proof

/-- An event on its way to the Recorder (R497). -/
structure EventIn where
  stamp : Nat
  epoch : Nat
  src : Nat
  sev : Nat
  code : Nat
  key : Nat
  payload : Bytes
  fromItem : Bool
  deriving DecidableEq, Repr, Inhabited

/-- An event record (R496). -/
structure EventRec where
  stamp : Nat
  epoch : Nat
  seq : Nat
  src : Nat
  sev : Nat
  code : Nat
  gap : Bool
  repeatUpdate : Bool
  lastGasp : Bool
  volatile : Bool
  rep : Nat
  key : Nat
  lastStamp : Nat
  payload : Bytes
  deriving DecidableEq, Repr, Inhabited

/-- A fold table entry (R498): the combination, the SEQ of its record, and the occurrences held during a freeze (R502). -/
structure FoldEntry where
  src : Nat
  code : Nat
  sev : Nat
  key : Nat
  seq : Nat
  held : Nat
  heldStamp : Nat
  deriving DecidableEq, Repr, Inhabited

/-- A delivered record whose REPEAT has changed (R507): whether a copy is due, when the last copy was delivered, and whether an
occurrence of the freeze in force has folded into it, so that one more copy is due at the thaw. -/
structure UpdateDue where
  seq : Nat
  due : Bool
  last : Option Nat
  again : Bool
  deriving DecidableEq, Repr, Inhabited

/-- The event ring: its descriptor (R506), indices, backlog and repeat updates (R507). -/
structure EvRing where
  base : Nat
  records : Nat
  msix : Nat
  consAddr : Nat
  minSev : Nat
  irqRecords : Nat
  prod : Nat
  cons : Nat
  sinceIrq : Nat
  backlog : List EventRec
  gap : Bool
  /-- delivered records whose REPEAT changed (R507) -/
  updates : List UpdateDue
  /-- SEQ of the records this ring has received that can still fold: those of the fold table (R498, R507) -/
  got : List Nat
  deriving DecidableEq, Repr, Inhabited

/-- A recorded change waiting in or written to a block (R509, R513). -/
structure HistRec where
  id : Nat
  value : Val
  stamp : Nat
  qual : BitVec 16
  gap : Bool
  maxAge : Nat
  deriving DecidableEq, Repr, Inhabited

/-- A closed history block (R512). -/
structure HistBlock where
  seq : Nat
  epoch : Nat
  partialBlock : Bool
  mapBuild : Nat
  recs : List HistRec
  deriving DecidableEq, Repr, Inhabited

/-- What the history keeps per point: the last recorded value, stamp and quality, the held change, lost changes (R509, R510). -/
structure HistPoint where
  last : Option HistRec
  held : Option HistRec
  lost : Bool
  deriving DecidableEq, Repr, Inhabited

/-- The export descriptor (R514). -/
structure HistExport where
  base : Nat
  blocks : Nat
  msix : Nat
  consAddr : Nat
  irqBlocks : Nat
  prod : Nat
  cons : Nat
  sinceIrq : Nat
  deriving DecidableEq, Repr, Inhabited

/-- What the export's next gap marker describes (R516): first lost block, its first STAMP, the last lost STAMP, and the lost
blocks and records. -/
structure GapMark where
  seq : Nat
  firstStamp : Nat
  lastStamp : Nat
  blocks : Nat
  records : Nat
  epoch : Nat
  deriving DecidableEq, Repr, Inhabited

/-- A log page: slots 64n to 64n+63; `gone` when no spare replaced it (R503). -/
structure LogPage where
  retired : Bool
  gone : Bool
  deriving DecidableEq, Repr, Inhabited

/-- The MRAM event log (R499, R503): slots, pages, spares used, next SEQ at a start. -/
structure EventLog where
  slots : SMap (Option EventRec)
  pages : SMap LogPage
  retired : Nat
  sparesUsed : Nat
  deriving DecidableEq, Repr, Inhabited

/-- The Hendel log (R566): its records oldest first, its own SEQ series, whether its region is unusable. -/
structure HendelLog where
  recs : List EventRec
  nextSeq : Nat
  volatile : Bool
  deriving DecidableEq, Repr, Inhabited

/-- The Recorder. -/
structure Recd where
  input : List EventIn
  dropped : Bool
  dropSec : Option Nat
  overloadDue : Bool
  nextSeq : Nat
  fold : List FoldEntry
  volatile : Bool
  /-- REC_STATUS.SPARES_OUT: a retirement has found no spare page (R503) -/
  sparesOut : Bool
  frozen : Option Nat
  holding : List EventRec
  retireTimes : List Nat
  evRing : Option EvRing
  hist : SMap HistPoint
  block : List HistRec
  blockFirst : Nat
  ring : List HistBlock
  nextBlock : Nat
  expCursor : Nat
  exp : Option HistExport
  histSec : Nat
  histCount : Nat
  gapMark : Option GapMark
  /-- LOST of the first real block after a gap marker (R516) -/
  expLost : Option Nat
  histOver : Option Nat
  latchNextHi : Nat
  latchExpHi : Nat
  deriving DecidableEq, Repr, Inhabited

end Sys2Proof.Machine
end

