-- ==== Sys2Proof/Machine/StPwr.lean ====
section
/-! DEFINITION. State of the always-on island and of the package: what asserts FAULT_N, what holds the part in reset, the restart that is due,
straps, fault conditions, the JTAG port (17_recorder R504, 19_hendel R559 to R563, 20_package_power R589 to R598). -/
namespace Sys2Proof.Machine
open Sys2Proof

/-- What asserts FAULT_N (R589): each block's own condition. -/
inductive FaultSrc where
  | interlock | qchPin (n : Nat) | pageFail | logVolatile | selftest | supply | clock | aonClock | tempCrit | watchdog | recovery
  deriving DecidableEq, Repr

/-- What holds the control die in reset: POR_N low, SYS_RST_N low, a rail below 90 %, VDD_AON below 90 % (Hendel too), a thermal trip. -/
inductive Hold where
  | por | sysRst | rail | aonRail | trip
  deriving DecidableEq, Repr

/-- JTAG instructions (R598). -/
inductive Jtag where
  | reset | bypass | idcode | sample | extest
  deriving DecidableEq, Repr, Inhabited

/-- The always-on island. -/
structure Aon where
  lastGasp : List EventRec
  deriving DecidableEq, Repr, Inhabited

/-- Power and reset. -/
structure Pwr where
  faults : List FaultSrc
  /-- the die temperature as last measured, in thousandths of a degree Celsius (19_hendel) -/
  dieTemp : Int
  /-- straps sampled at the rise of POR_N (R597) -/
  pairId : Bool
  bootMode : Nat
  recoveryPin : Bool
  /-- the control die runs: a start has completed -/
  up : Bool
  holds : List Hold
  /-- a warm restart that is due, by its cause (R561) -/
  due : Option Nat
  /-- GLB_STATUS.RESTART and HDL_STATUS.BOOT_CAUSE -/
  restart : Nat
  cause : Nat
  /-- every launch is stopped until a restart (R563) -/
  stopped : Bool
  /-- fault conditions present: supply, clock, junction (R563); since when none is -/
  supplyBad : Bool
  clockBad : Bool
  hot : Bool
  /-- the AON clock has failed: the warm-restart count is not valid (R42) -/
  aonBad : Bool
  jtag : Jtag
  deriving DecidableEq, Repr, Inhabited

end Sys2Proof.Machine
end

