-- ==== Sys2Proof/Machine/State.lean ====
section
/-! DEFINITION. The machine's state, as plain data: every register, store, queue and mode the spec gives the block, and the
queue of the commands that wait; the stops; and the state right after reset. -/
namespace Sys2Proof.Machine
open Sys2Proof

/-- What MRAM keeps through every restart (R40, R83, R91, R606). -/
structure Mram where
  mark : Option Mark
  epochs : List Epoch
  retained : SMap (Option PointRec)
  forces : List ForceJournal
  log : EventLog
  hlog : HendelLog
  /-- the two journal copies of RESUMABLE loops, newer first (R343) -/
  journal : SMap (List LoopSave)
  /-- the journal records of the axes (R425) -/
  axes : SMap (Option AxisJournal)
  /-- recipe images and checkpoints (R265 to R267) -/
  recipes : SMap RecipeJournal
  /-- TOKEN_EPOCH, in the pairing and identity state (R470, R533) -/
  token : Nat
  deriving DecidableEq, Repr, Inhabited

/-- The machine. -/
structure State where
  /-- stored registers of BAR0 whose value is not their reset value, by address (R19, R25) -/
  regs : SMap (Option Word)
  /-- staged values that wait for their block's commit, by address (R12) -/
  staged : SMap (Option Word)
  /-- COMMIT_STATUS of each window (R12) -/
  commits : SMap CommitStat
  tmb : Tmb
  pst : Pst
  hif : Hif
  recd : Recd
  cyc : Cyc
  hrt : Hrt
  ile : Ile
  cnv : Cnv
  anv : Anv
  cap : Cap
  qch : Qch
  fbk : Fbk
  mot : Mot
  stn : Stn
  seq : Seq
  can : Can
  wlk : Walig
  par : Par
  mram : Mram
  aon : Aon
  pwr : Pwr
  hdl : Hdl
  /-- the data of the last register read (R25): the model's own record of what the read returned -/
  rdata : Word
  /-- what the controller has sent outward, oldest first: the model's own record -/
  out : List Out
  /-- how many free values have been drawn: the model's own field -/
  freeCtr : Nat
  /-- the commands that wait, first in, first out -/
  pending : List Instr
  deriving DecidableEq, Repr, Inhabited

/-- The machine right after power-on reset (R595), POR_N still low: every register at its reset value, every store empty, bank A of the flash
ACTIVE (notes/assumptions/2.md), the Timeline at 0, the part held in reset until a COLD_START. -/
def State.reset : State :=
  { (default : State) with
    hdl := { (default : Hdl) with bank := SMap.set SMap.empty 0 ⟨BankState.active, []⟩ }
    pwr := { (default : Pwr) with holds := [Hold.por] } }

/-- The stops of the machine: the manual gives every command its effect, and none stops the block. -/
inductive Fault where
  deriving DecidableEq, Repr

/-- The refusals of the machine. -/
inductive Refusal where
  /-- Raised by the arm of `exec` of a command that has no meaning yet. Safe: nothing is claimed about it. -/
  | notModelled (mnemonic : String)
  deriving DecidableEq, Repr

end Sys2Proof.Machine
end

