-- ==== Sys2Proof/Machine/Regs.lean ====
section
/-! DEFINITION. The named operations over the stored registers, the staged values, the saturating counters, the output record
and the free values (00_scope R12, R19 to R25). -/
namespace Sys2Proof.Machine
open Sys2Proof

/-- The next state of a step that completes. -/
abbrev Res := Host.Outcome State Fault Refusal

/-- Element number of an address in a register row, where it is one. -/
def rowIndex (r : RegRow) (a : Nat) : Option Nat :=
  if a < r.base then none
  else if r.stride = 0 then (if a = r.base then some 0 else none)
  else
    let d := a - r.base
    if d % r.stride = 0 ∧ d / r.stride < r.count then some (d / r.stride) else none

/-- The row and element of a stored register. -/
def findRow (a : Nat) : List RegRow → Option (RegRow × Nat)
  | [] => none
  | r :: t => match rowIndex r a with
    | some n => some (r, n)
    | none => findRow a t

/-- The row and element of an address of BAR0. -/
def rowOf (a : Nat) : Option (RegRow × Nat) := findRow a (regRowsOf (a / 0x100000))

/-- Reset MIN, MAX and PRIO of the Hearth sources, by source (07_hearth R241). -/
def hrtSrcReset : Nat → Nat × Nat × Nat
  | 0 => (2048, 4096, 0) | 1 => (256, 1024, 6) | 2 => (256, 1024, 1) | 3 => (128, 512, 2)
  | 4 => (128, 512, 1) | 5 => (32, 256, 0) | _ => (0, 0, 0)

/-- Nominal voltages of the VOLT sensors 24 to 41 in mV (19_hendel R562, 20_package_power R592). -/
def voltNominal (n : Nat) : Nat :=
  [750, 750, 750, 750, 750, 750, 850, 800, 1100, 1100, 400, 400, 1800, 1800, 1000, 900, 1800, 3300].getD (n - 24) 0

/-- Reset WARN_LO and WARN_HI of a sensor (19_hendel R585): TEMP, VOLT; 0 where the manual gives none. -/
def warnReset (n : Nat) : Nat :=
  if n < 24 then unsigned 16 (-320) + 800 * 2 ^ 16
  else if n < 42 then voltNominal n * 97 / 100 + (voltNominal n * 103 + 99) / 100 * 2 ^ 16
  else 0

/-- The reset value of an element of a stored register (R21). -/
def regResetOf (r : RegRow) (n : Nat) : Nat :=
  if r.base = 0x102008 then r.reset ||| (n <<< 8)                         -- HIF_CQ[n].VECTOR resets to n
  else if r.base = 0x600080 then (hrtSrcReset n).1 ||| ((hrtSrcReset n).2.1 <<< 16)
  else if r.base = 0x600084 then r.reset ||| (hrtSrcReset n).2.2
  else if r.base = 0x1201008 then warnReset n
  else r.reset

/-- The reset value of an address of BAR0: 0 where nothing is stored. -/
def regReset (a : Nat) : Word :=
  match rowOf a with
  | some (r, n) => BitVec.ofNat 32 (regResetOf r n)
  | none => 0

/-- The value a stored register holds. -/
def stored (s : State) (a : Nat) : Word := (s.regs.get a).getD (regReset a)

/-- Store a register. -/
def setStored (s : State) (a : Nat) (v : Word) : State :=
  { s with regs := s.regs.set a (if v = regReset a then none else some v) }

/-- The staged bits of a register's word (R25). -/
def rwsMask (a : Nat) : Word := match rowOf a with | some (r, _) => BitVec.ofNat 32 r.rws | none => 0

/-- The staged value of a register: what was written to its staged fields and waits for the commit, else the value in force (R25). -/
def stagedOf (s : State) (a : Nat) : Word :=
  match s.staged.get a with
  | some v => (stored s a &&& ~~~rwsMask a) ||| (v &&& rwsMask a)
  | none => stored s a

/-- Stage a register (R12). -/
def setStaged (s : State) (a : Nat) (v : Word) : State :=
  { s with staged := s.staged.set a (some v) }

/-- A field of a stored register. -/
def fld (s : State) (f : Fld) : Nat := bits (stored s f.addr).toNat f.hi f.lo

/-- A field's staged value. -/
def sfld (s : State) (f : Fld) : Nat := bits (stagedOf s f.addr).toNat f.hi f.lo

/-- A flag of a stored register. -/
def flag (s : State) (f : Fld) : Bool := fld s f == 1

/-- Bits `hi` to `lo` of a number replaced. -/
def setBits (v hi lo x : Nat) : Nat :=
  v - (bits v hi lo) * 2 ^ lo + (x % 2 ^ (hi + 1 - lo)) * 2 ^ lo

/-- Write a field of a stored register. -/
def setFld (s : State) (f : Fld) (x : Nat) : State :=
  setStored s f.addr (BitVec.ofNat 32 (setBits (stored s f.addr).toNat f.hi f.lo x))

/-- Add to a saturating counter. -/
def bumpN (s : State) (a n : Nat) : State :=
  setStored s a (BitVec.ofNat 32 (min ((stored s a).toNat + n) 0xFFFFFFFF))

/-- Count one (each chapter's CNT register: saturating). -/
def bump (s : State) (a : Nat) : State := bumpN s a 1

/-- Raise a counter that keeps the largest value since its last read. -/
def bumpMax (s : State) (a n : Nat) : State :=
  if (stored s a).toNat < n then setStored s a (BitVec.ofNat 32 (min n 0xFFFFFFFF)) else s

/-- Send something outward. -/
def send (s : State) (o : Out) : State := { s with out := s.out ++ [o] }

/-- Send several things outward. -/
def sendAll (s : State) (l : List Out) : State := { s with out := s.out ++ l }

/-- Set a window's commit status (R12). -/
def setCommit (s : State) (w : Nat) (st : Status) (p : Bool) : State := { s with commits := s.commits.set w ⟨st, p⟩ }

/-- Drop the staged values of one window that have come into force. -/
def clearStaged (m : SMap (Option Word)) (w : Nat) : SMap (Option Word) := ⟨m.entries.filter (fun e => e.1 / 0x100000 != w)⟩

/-- The staged addresses of a window. -/
def stagedIn (s : State) (w : Nat) : List (Nat × Word) :=
  s.staged.entries.filterMap fun e => if e.1 / 0x100000 = w then e.2.map (fun v => (e.1, v)) else none

/-- Put every staged value of a window into force (R12). -/
def applyStaged (s : State) (w : Nat) : State :=
  { (stagedIn s w).foldl (fun t e => setStored t e.1 (stagedOf s e.1)) s with staged := clearStaged s.staged w }

/-- A free value below `n` (an opaque function of a counter the machine keeps), and the state that has drawn it. -/
def drawFree (s : State) : BitVec 64 × State := (Config.freeValue s.freeCtr, { s with freeCtr := s.freeCtr + 1 })

end Sys2Proof.Machine
end

