-- ==== Sys2Proof/Machine/EventOps.lean ====
section
/-! DEFINITION. Raising an event (17_recorder R496 to R498, R607): the input queue, the fold into a held record. -/
namespace Sys2Proof.Machine
open Sys2Proof

/-- The number of the current Epoch. -/
def curEpoch (s : State) : Nat := (s.tmb.epochs.headD default).number

/-- The Epoch a Timeline value belongs to: the largest T_START not above it (R37); the records run newest first. -/
def epochOfStamp (s : State) (t : Nat) : Epoch :=
  ((s.tmb.epochs.find? (fun e => decide (e.tStart ≤ t))).getD (s.tmb.epochs.getLastD default))

/-- The payload of an event: its items packed without padding, 16 bytes in all (R607). -/
def packItems (items : List (Nat × Int)) : Bytes :=
  ((items.flatMap fun i => lesBytes i.1 i.2) ++ zeros 16).take 16

/-- KEY: bits 31:0 of the first item (R607). -/
def keyOf (items : List (Nat × Int)) : Nat := match items with
  | [] => 0
  | i :: _ => unsigned 32 (if i.1 < 4 then (unsigned (8 * i.1) i.2 : Int) else i.2)

/-- The held log record with a SEQ, with its slot. -/
def logFind (l : EventLog) (q : Nat) : Option (Nat × EventRec) :=
  l.slots.entries.findSome? fun e => match e.2 with
    | some r => if r.seq = q then some (e.1, r) else none
    | none => none

/-- The fold table entry an event matches (R498). -/
def foldFind (f : List FoldEntry) (e : EventIn) : Option FoldEntry :=
  f.find? fun x => x.src == e.src && x.code == e.code && x.sev == e.sev && x.key == e.key

/-- Move a fold table entry to the front: the table holds the 1,024 most recently used combinations (R498). -/
def foldUse (f : List FoldEntry) (x : FoldEntry) : List FoldEntry :=
  (x :: f.filter (fun y => !(y.src == x.src && y.code == x.code && y.key == x.key))).take 1024

/-- One more occurrence on a record (R498). -/
def foldInto (r : EventRec) (n stamp : Nat) : EventRec :=
  { r with rep := min (r.rep + n) 0xFFFFFFFF, lastStamp := stamp }

/-- REPEAT of a record has changed (R507). A record that waits in the backlog is delivered as it now is; of one that the open ring
has received a copy is due, and one more at the thaw if a freeze is in force. -/
def noteUpdate (d : Recd) (r : EventRec) : Recd :=
  match d.evRing with
  | none => d
  | some g =>
    let fz := d.frozen.isSome
    let g := { g with backlog := g.backlog.map fun b => if b.seq = r.seq then { b with rep := r.rep, lastStamp := r.lastStamp } else b }
    { d with evRing := some (
      if !g.got.contains r.seq then g
      else if g.updates.any (·.seq == r.seq) then
        { g with updates := g.updates.map fun u => if u.seq = r.seq then { u with due := true, again := u.again || fz } else u }
      else { g with updates := g.updates ++ [⟨r.seq, true, none, fz⟩] }) }

/-- Fold an occurrence, where all conditions of R498 hold; during a freeze, into the queued record or into the held count of
its fold table entry (R502). -/
def foldTry (s : State) (e : EventIn) : Option State :=
  match foldFind s.recd.fold e with
  | none => none
  | some x =>
    match s.recd.holding.find? (fun r => r.seq == x.seq && r.epoch == e.epoch) with
    | some r =>
      let r := foldInto r 1 e.stamp
      some (bump { s with recd := noteUpdate { s.recd with
        holding := s.recd.holding.map (fun y => if y.seq = x.seq then r else y),
        fold := foldUse s.recd.fold x } r } cRecFolded)
    | none =>
      match logFind s.mram.log x.seq with
      | none => none
      | some (slot, r) =>
        if r.epoch ≠ e.epoch then none
        else if s.recd.frozen.isSome then
          some (bump { s with recd := { s.recd with
            fold := foldUse s.recd.fold { x with held := x.held + 1, heldStamp := e.stamp } } } cRecFolded)
        else
          some (bump { s with
            recd := noteUpdate { s.recd with fold := foldUse s.recd.fold x } (foldInto r 1 e.stamp)
            mram := { s.mram with log := { s.mram.log with
              slots := s.mram.log.slots.set slot (some (foldInto r 1 e.stamp)) } } } cRecFolded)

/-- Entries of the Recorder's input queue (R497). -/
def recQueueMax : Nat := 16384

/-- The lowest severity below `v` among the queued events that may be replaced (not those of work items). -/
def lowestBelow (q : List EventIn) (v : Nat) : Option Nat :=
  q.foldl (fun a e => if e.sev < v && !e.fromItem then some (match a with | some b => min b e.sev | none => e.sev) else a) none

/-- Replace the newest queued event of severity `m` (the list runs oldest first). -/
def replaceNewest (q : List EventIn) (m : Nat) (e : EventIn) : List EventIn :=
  match q.reverse.findIdx? (fun x => x.sev == m && !x.fromItem) with
  | some i => (q.reverse.eraseIdx i).reverse ++ [e]
  | none => q

/-- A drop at the Recorder's input (R497): counted, the next accepted record carries GAP, EVENT_OVERLOAD is due once a second. -/
def noteDrop (s : State) : State :=
  let sec := s.tmb.now / 1000000000
  let s := { s with recd := { s.recd with
    dropped := true
    overloadDue := s.recd.overloadDue || (s.recd.dropSec != some sec)
    dropSec := some sec } }
  bump s cRecEventsDropped

/-- An event reaches the Recorder (R497): it folds, or takes a queue entry, or replaces one, or is dropped. -/
def recArrive (s : State) (e : EventIn) : State :=
  match foldTry s e with
  | some t => t
  | none =>
    if e.fromItem || decide (s.recd.input.length < recQueueMax) then
      { s with recd := { s.recd with input := s.recd.input ++ [e] } }
    else match lowestBelow s.recd.input e.sev with
      | some m => noteDrop { s with recd := { s.recd with input := replaceNewest s.recd.input m e } }
      | none => noteDrop s

/-- Record an event of the controller's own, at the present instant. -/
def event (s : State) (k : EvKind) (items : List (Nat × Int)) : State :=
  recArrive s ⟨s.tmb.now, curEpoch s, k.src, k.sev, k.code, keyOf items, packItems items, false⟩

/-- An event a work item or a recipe step staged: a 64-bit payload, KEY 0 (R607). -/
def eventStaged (s : State) (src sev code : Nat) (payload : Nat) (item : Bool) : State :=
  recArrive s ⟨s.tmb.now, curEpoch s, src, sev, code, 0, (leBytes 8 payload ++ zeros 8).take 16, item⟩

/-- Count and record in one. -/
def note (s : State) (c : Nat) (k : EvKind) (items : List (Nat × Int)) : State := event (bump s c) k items

/-- Set a GLB_INT cause and raise its vector (R132). -/
def glbInt (s : State) (f : Fld) (vector : Nat) : State := send (setFld s f 1) (.irq vector)

/-- GLB_STATUS has changed (R132). -/
def statusChanged (s : State) : State := glbInt s fGlbIntStatus 255

/-- The settings slot of the running bank is written (00_scope R21, 19_hendel R558). -/
def settingsWritten (s : State) : State := { s with hdl := { s.hdl with gen := s.hdl.gen + 1 } }

/-- A PERSIST item goes to the boot bank in Slices (R557). -/
def bootPend (s : State) (x : BootItem) : State := { s with hdl := { s.hdl with writes := s.hdl.writes ++ [x] } }

/-- Autostarts may take place (R532, 19_hendel R559, R583): the Point Store is READY, the pair wait is over with this module in control, the mode is
not NO_AUTOSTART, the part is not marked RETURNED. -/
def autostarts (s : State) : Bool :=
  s.pst.ready && s.par.waitEnd.isNone && s.par.holds && s.pwr.bootMode != 1 && !s.hdl.otp.returned

/-- A window of BAR0 answers (03_host_rings R105, 19_hendel R580): GLB always, every other one while HIF_READY is 1; in recovery GLB and HDL
only. -/
def windowOpen (s : State) (w : Nat) : Bool :=
  w == 0 || (if s.hdl.recovery then w == 0x12 else s.hif.ready)

/-- The Timeline has reached `t`: it never runs backward (R33). -/
def advance (s : State) (t : Nat) : State :=
  if s.tmb.now < t then { s with tmb := { s.tmb with now := t, frac := 0, resid := 0 } } else s

/-- The command with a handle. -/
def cmdFind (s : State) (h : Nat) : Option Cmd := s.hif.cmds.find? (fun c => c.handle == h)

/-- Units done of a command in flight (R116). -/
def cmdDone (s : State) (h : Nat) : Nat := match cmdFind s h with | some c => c.done | none => 0

/-- Change a command in flight. -/
def cmdUpd (s : State) (h : Nat) (f : Cmd → Cmd) : State :=
  { s with hif := { s.hif with cmds := s.hif.cmds.map (fun c => if c.handle = h then f c else c) } }

/-- A command ends: its completion is written by COMPLETION_WRITE (R116, R118). An ABORT that waits for it ends with it: OK when it ended ABORTED,
else NO_TARGET (R125). -/
def endCmd (s : State) (h : Nat) (st : Status) (result done : Nat) : State :=
  match cmdFind s h with
  | none => s
  | some x =>
    if x.ended.isSome then s
    else { s with hif := { s.hif with cmds := s.hif.cmds.map (fun c =>
      if c.ended.isSome then c
      else if c.handle = h then { c with ended := some ⟨st, result, done, s.tmb.now⟩ }
      else if x.abortBy.contains c.handle then { c with ended := some ⟨if st == Status.aborted then Status.ok else Status.noTarget, 0, 0, s.tmb.now⟩ }
      else c) } }

/-- The first failing check of a list. -/
def firstFail : List (Bool × Status × Nat) → Option (Status × Nat)
  | [] => none
  | (c, st, o) :: t => if c then some (st, o) else firstFail t

end Sys2Proof.Machine
end

