-- ==== Sys2Proof/Machine/ParOps.lean ====
section
/-! DEFINITION. Sending over the Walig Link (18_pairing R521 to R525), mirroring an input (R534), and whether an entry that reaches outside
the module launches in a pair (R537, R540, R542). -/
namespace Sys2Proof.Machine
open Sys2Proof

/-- A Walig port. -/
def wPort (s : State) (p : Nat) : WPort := s.wlk.port.get p
/-- Change a Walig port. -/
def wPortUpd (s : State) (p : Nat) (f : WPort → WPort) : State := { s with wlk := { s.wlk with port := s.wlk.port.upd p f } }
/-- A port carries messages: UP or DEGRADED (R519). -/
def wPortUp (s : State) (p : Nat) : Bool := (wPort s p).state == .up || (wPort s p).state == .degraded
/-- The ports. -/
def wPorts : List Nat := [0, 1, 2, 3]
/-- This module's number (R526). -/
def moduleNo (s : State) : Nat := fld s fWlkCtrlModule
/-- Pairing is enabled. -/
def parEn (s : State) : Bool := flag s fParCtrlEn
/-- The pair port. -/
def pairPort (s : State) : Nat := fld s fParCtrlPort

/-- Classes (R522). -/
def clsTIME : Nat := 1
/-- Class MIRROR. -/ def clsMIRROR : Nat := 2
/-- Class TRIG. -/ def clsTRIG : Nat := 3
/-- Class LAUNCH. -/ def clsLAUNCH : Nat := 4
/-- Class POINT. -/ def clsPOINT : Nat := 5
/-- Class MGMT. -/ def clsMGMT : Nat := 6

/-- A Walig message (R521): the CRC covers bytes 0 to 11 and the payload. -/
def waligMsg (cls typ src dst hops flags seq : Nat) (payload : Bytes) : Bytes :=
  let h := leBytes 1 cls ++ leBytes 1 typ ++ leBytes 2 payload.length ++ leBytes 1 src ++ leBytes 1 dst ++ leBytes 1 hops ++
    leBytes 1 flags ++ leBytes 4 seq
  h ++ leBytes 4 (crc32c (h ++ payload)).toNat ++ payload ++ zeros ((8 - payload.length % 8) % 8)

/-- A port may carry a class (R523, R526, R529): the pair port carries TIME, MIRROR and MGMT only, and only it carries MIRROR; a module in
conflict carries TIME and MGMT. -/
def classOn (s : State) (p cls : Nat) : Bool :=
  let pair := parEn s && p == pairPort s
  (if pair then cls == clsTIME || cls == clsMIRROR || cls == clsMGMT else cls != clsMIRROR) &&
    (!s.wlk.conflict || cls == clsTIME || cls == clsMGMT || (pair && cls == clsMIRROR))

/-- A message leaves through one port; a port of version 1.0 drops the POINT class (R523). -/
def waligPut (s : State) (p cls : Nat) (msg : Bytes) : State :=
  if !wPortUp s p ∨ !classOn s p cls then s
  else if cls = clsPOINT ∧ (wPort s p).ver = 0x0100 then bump s cWlkClassDropped
  else send (wPortUpd (bump s cWlkTxMsg) p fun x => { x with tx := (x.tx + 1) % 2 ^ 32 }) (.walig p msg)

/-- Send a message through every UP port of a list, with the class's next SEQ (R521, R524). -/
def waligSend (s : State) (ports : List Nat) (cls typ dst : Nat) (ack : Bool) (payload : Bytes) : State :=
  let q := s.wlk.seq.get cls
  let msg := waligMsg cls typ (moduleNo s) dst 63 (b2n ack) q payload
  let s := { s with wlk := { s.wlk with
    seq := s.wlk.seq.set cls ((q + 1) % 2 ^ 32)
    recent := (moduleNo s, cls, q, s.tmb.now) :: s.wlk.recent.filter (fun e => decide (s.tmb.now < e.2.2.2 + 1000000)) } }
  ports.foldl (fun s p => waligPut s p cls msg) s

/-- Send a message to a module, or to every module (0xFF), through every port. -/
def waligAll (s : State) (cls typ dst : Nat) (ack : Bool) (payload : Bytes) : State := waligSend s wPorts cls typ dst ack payload

/-- A received message (R521). -/
structure WMsg where
  cls : Nat
  typ : Nat
  src : Nat
  dst : Nat
  hops : Nat
  flags : Nat
  seq : Nat
  payload : Bytes
  deriving DecidableEq, Repr

/-- The fields of a message (R521). -/
def wParse (b : Bytes) : WMsg := ⟨le b 0 1, le b 1 1, le b 4 1, le b 5 1, le b 6 1, le b 7 1, le b 8 4, slice b 16 (le b 2 2)⟩

/-- Types of a class (R522). -/
def wTypes : Nat → Nat
  | 1 => 3 | 2 => 8 | 3 => 3 | 4 => 3 | 5 => 1 | 6 => 3 | _ => 0

/-- A reserved CLASS, TYPE or field, or a LENGTH beyond the message (R549). -/
def wMalformed (b : Bytes) : Bool :=
  let m := wParse b
  let n := le b 2 2
  decide (b.length < 16) || decide (2048 < n) || decide (b.length < 16 + (n + 7) / 8 * 8) || m.typ == 0 || decide (wTypes m.cls < m.typ) ||
    decide (1 < m.flags) || decide (63 < m.src) || (decide (63 < m.dst) && m.dst != 0xFF)

/-- The CRC of a message holds (R521). -/
def wCrcOk (b : Bytes) : Bool := (crc32c (b.take 12 ++ slice b 16 (le b 2 2))).toNat == le b 12 4

/-- An event of the Walig Link: port, lane, module number, version (R550). -/
def wlkEvent (s : State) (k : EvKind) (port lane module ver : Nat) : State :=
  event s k [(2, port), (2, lane), (2, module), (2, ver)]

/-- The port joins the two partners of a pair (R529). -/
def isPairPort (s : State) (p : Nat) : Bool := parEn s && p == pairPort s

/-- A message is for this module (R524, R529): of a pair, for the module that holds control, unless it comes through the pair port. -/
def wForMe (s : State) (p : Nat) (m : WMsg) : Bool :=
  m.dst == 0xFF || (m.dst == moduleNo s && (s.par.holds || isPairPort s p))

/-- A TIME request or response that is forwarded gains its residence time in CORR (R527): bytes 10 to 19 and 30 to 39 of the payload hold CORR. -/
def wResidence (m : WMsg) (r : Nat) : Bytes :=
  let o := if m.typ = 1 then 10 else 30
  m.payload.take o ++ leBytes 10 (le m.payload o 10 + r) ++ m.payload.drop (o + 10)

/-- Forward a message out of each other UP port (R524): HOPS falls; at 0 the message is discarded. -/
def wForward (s : State) (p : Nat) (m : WMsg) : State :=
  let ports := wPorts.filter fun k => k != p && !isPairPort s k && wPortUp s k
  if ports.isEmpty ∨ isPairPort s p ∨ (m.dst = moduleNo s) then s
  else if m.hops ≤ 1 then bump s cWlkHopsExpired
  else
    let time : Bool := m.cls == clsTIME && m.typ != 3
    let (f, s) := if time then drawFree s else (0, s)
    let pay := if time then wResidence m (f.toNat % 2 ^ 32) else m.payload
    ports.foldl (fun s k => waligPut s k m.cls (waligMsg m.cls m.typ m.src m.dst (m.hops - 1) m.flags m.seq pay)) s

/-- A message of class `cls` and type `typ` arrives at Timeline `t` through port `p` (R521, R524, R549): checked, forwarded, and taken by `k` when it is
for this module. A message of another kind is another row's. -/
def waligRx (s : State) (p cls typ : Nat) (b : Bytes) (t : Nat) (k : State → WMsg → State) : State :=
  let m := wParse b
  let bad := wMalformed b
  if 4 ≤ p ∨ !wPortUp s p ∨ (!bad ∧ (m.cls ≠ cls ∨ m.typ ≠ typ ∨ !classOn s p cls)) then s
  else
    let s := advance s t
    let s := wPortUpd (bump s cWlkRxMsg) p fun x => { x with rx := (x.rx + 1) % 2 ^ 32 }
    if bad then wlkEvent (bump s cWlkRxMalformed) evWlkViolation p 0 m.src 0
    else if !wCrcOk b then bump s cWlkRxCrc
    else
      let pair := isPairPort s p
      let seen : Bool := s.wlk.recent.any fun e => e.1 == m.src && e.2.1 == m.cls && e.2.2.1 == m.seq && decide (s.tmb.now < e.2.2.2 + 1000000)
      if !pair && seen then bump s cWlkDuplicates
      else
        let s := if pair then s else { s with wlk := { s.wlk with
          recent := (m.src, m.cls, m.seq, s.tmb.now) :: s.wlk.recent.filter (fun e => decide (s.tmb.now < e.2.2.2 + 1000000)) } }
        let s := wForward s p m
        if wForMe s p m then k s m else s

/-- Send a MIRROR message to the partner (R529). -/
def mirrorSend (s : State) (typ : Nat) (payload : Bytes) : State :=
  if !wPortUp s (pairPort s) then s
  else waligSend (bump s cParMirrorSent) [pairPort s] clsMIRROR typ (moduleNo s) false payload

/-- An event of pairing: cause, S or A, epoch, digest kind, digest index (R551). -/
def parEvent (s : State) (k : EvKind) (cause at' epoch kind index : Nat) : State :=
  event s k [(1, cause), (8, at'), (4, epoch), (1, kind), (2, index)]

/-- Bytes that may be mirrored in 100 µs: 40 Gb/s (R534). -/
def mirrorLimit : Nat := 500000

/-- Mirror an input at the moment it commits or is taken (R534): source kind, unit, record. Beyond 40 Gb/s the standby is lost. -/
def mirrorInput (s : State) (kind unit : Nat) (rec : Bytes) : State :=
  if s.par.state ≠ .active ∨ !s.par.follow then s
  else
    let n := 16 + 4 + rec.length
    let (start, used) := s.par.mirWin
    let win := if start + 100000 ≤ s.tmb.now then (s.tmb.now, n) else (start, used + n)
    if mirrorLimit < win.2 then
      let s := { s with par := { s.par with follow := false, resync := some s.tmb.now, partnerState := PairState.standbyUnsync.code, mirWin := win } }
      parEvent (bump s cParMirrorOverload) evMirrorOverload 0 0 0 0 0
    else mirrorSend { s with par := { s.par with mirWin := win } } 1 (leBytes 1 kind ++ leBytes 1 0 ++ leBytes 2 unit ++ rec)

/-- A POINT, LAUNCH or TRIG message for the pair (R534): the module in control mirrors it before it takes it. -/
def pairRx (s : State) (p cls typ : Nat) (b : Bytes) (t : Nat) (k : State → Nat → Bytes → State) : State :=
  waligRx s p cls typ b t fun s m => k (mirrorInput s (0x40 + cls) typ (leBytes 1 m.src ++ m.payload)) m.src m.payload

/-! ### Being in step (R534 to R538) -/

/-- A standby that is in step falls out of step (R538), or fails its transfer while it catches up (R546); causes are the model's. -/
def parUnsync (s : State) (cause : Nat) : State :=
  if s.par.state ≠ .standbyReady ∧ !(s.par.state == .standbyUnsync && s.par.xfer == .catchup) then s
  else
    let was := s.par.state
    let s := { s with par := { s.par with state := .standbyUnsync, xfer := if s.par.xfer = .catchup then .failed else s.par.xfer } }
    if was = .standbyReady then parEvent s evPairUnsync cause 0 s.mram.token 0 0
    else parEvent (bump s cParTransferFails) evXferFailed cause 0 s.mram.token 0 0

/-- The module in control learns that its standby is out of step (R538): it mirrors no more, and owes a resynchronisation. -/
def parLost (s : State) : State :=
  if s.par.state ≠ .active ∨ s.par.partnerState ≠ PairState.standbyReady.code then { s with par := { s.par with follow := false } }
  else { s with par := { s.par with
    follow := false
    partnerState := PairState.standbyUnsync.code
    resync := some s.tmb.now } }

/-- The module in control of a pair gives up control at this instant for a fault (R540); a standby with such a fault falls out of step (R538). -/
def pairGiveUp (s : State) (cause : Nat) : State :=
  if s.par.state = .active then
    let s := mirrorSend s 6 (leBytes 8 s.tmb.now ++ leBytes 4 s.mram.token)
    let s := parEvent (bump s cParGiveUps) evPairGaveUp cause s.tmb.now s.mram.token 0 0
    statusChanged { s with par := { s.par with
      state := .gaveUp
      actOut := false
      follow := false
      gaveAt := some s.tmb.now } }
  else parUnsync s 4

/-- This module is in control of a formed pair. -/
def pairActive (s : State) : Bool := s.par.state == .active

/-- One bit of the CRC-64 of R536. -/
def crc64Bit (c : BitVec 64) : BitVec 64 := if c.getLsbD 63 then (c <<< 1) ^^^ 0x42F0E1EBA9EA3693#64 else c <<< 1

/-- One byte of the CRC-64 of R536. -/
def crc64Byte (c : BitVec 64) (b : Byte) : BitVec 64 := iter crc64Bit 8 (c ^^^ (b.setWidth 64 <<< 56))

/-- The digest (R536): polynomial 0x42F0E1EBA9EA3693, initial value and final XOR all ones. -/
def crc64 (b : Bytes) : BitVec 64 := (b.foldl crc64Byte 0xFFFFFFFFFFFFFFFF#64) ^^^ 0xFFFFFFFFFFFFFFFF#64

/-- What a digest covers grows (R536): kind 0 a cycle class, 1 a loop slot, 2 the Interlock Engine. -/
def digAdd (s : State) (kind index : Nat) (b : Bytes) : State :=
  if !s.par.formed then s
  else { s with par := { s.par with acc := s.par.acc.upd (kind * 65536 + index) (· ++ b) } }

/-- The committed record of a point as a digest covers it (R536): id, VALUE, STAMP, QUAL. -/
def digPoint (s : State) (kind index id : Nat) : State :=
  let r := s.pst.points.get id
  digAdd s kind index (leBytes 4 id ++ leBytes 8 r.value.toNat ++ leBytes 8 r.stamp ++ leBytes 2 r.qual.toNat)

/-- Two digests of one cycle, sample or scan differ. -/
def digDiffers (l : List Digest) (d : Digest) : Bool :=
  l.any fun x => x.kind == d.kind && x.index == d.index && x.inst == d.inst && x.value != d.value

/-- A mismatch (R536): the standby records it and falls out of step; the module in control keeps control. -/
def digMismatch (s : State) (d : Digest) : State :=
  let s := bump s cParDigestMismatches
  if s.par.standby then
    let s := { s with par := { s.par with digKind := d.kind, digIndex := d.index } }
    parUnsync (parEvent s evDigestMismatch 0 d.inst s.mram.token d.kind d.index) 3
  else s

/-- A cycle, sample or scan ends: its digest goes to the partner and is compared (R536). -/
def digEnd (s : State) (kind index inst : Nat) : State :=
  if !s.par.formed then s
  else
    let k := kind * 65536 + index
    let d : Digest := ⟨kind, index, inst, (crc64 (s.par.acc.get k)).toNat⟩
    let s := { s with par := { s.par with acc := s.par.acc.set k [], digests := (d :: s.par.digests).take 64 } }
    let s := mirrorSend (bump s cParDigests) 3 (leBytes 1 kind ++ leBytes 1 0 ++ leBytes 2 index ++ zeros 4 ++ leBytes 8 inst ++ leBytes 8 d.value)
    if digDiffers s.par.digestsIn d then digMismatch s d else s

/-- What the partner's mirrored inputs hold of a source at a key (R534). -/
def mirrored (s : State) (kind unit key : Nat) : Option Bytes :=
  ((s.par.inputs.get ((kind * 65536 + unit) * 2)).find? (·.1 == key)).map (·.2)

/-- Remember an input of a source, own or mirrored. -/
def inputKeep (s : State) (own : Bool) (kind unit key : Nat) (b : Bytes) : State :=
  { s with par := { s.par with inputs := s.par.inputs.upd ((kind * 65536 + unit) * 2 + b2n own) fun l => ((key, b) :: l).take 8 } }

/-- An entry with this INSTANT launches: none does from S on in a module that gave up control (R530, R540) or was stopped by a fault (R563), nor
from S to A + 12 µs of a takeover, which counts (R542). The second part says so. -/
def launches (s : State) (inst : Nat) : State × Bool :=
  if s.par.state = .gaveUp ∨ s.pwr.stopped then (s, false)
  else match s.par.skip with
    | some (a, b) =>
      if a ≤ inst ∧ inst < b then
        (bump { s with par := { s.par with skipped := min (s.par.skipped + 1) 255 } } cParTakeoverSkipped, false)
      else (s, true)
    | none => (s, true)

/-- An entry with this INSTANT acts outside the module: as above, and never on a standby (R537). -/
def outward (s : State) (inst : Nat) : State × Bool := if s.par.standby then (s, false) else launches s inst

/-! ### Points that are replicated (R528) -/

/-- A point lies in the range of an element. -/
def repCovers (s : State) (e id : Nat) : Bool :=
  flag s (fWlkRepEn e) && decide (fld s (fWlkRepFirst e) ≤ id) && decide (id < fld s (fWlkRepFirst e) + fld s (fWlkRepCount e))

/-- The points of a list start in the elements `fresh` names with the records they have: only writes from then on are sent (R528). -/
def repAnew (s : State) (ids : List Nat) (fresh : Nat → Nat → Bool) : State :=
  let els := (List.range 256).filter fun e => flag s (fWlkRepEn e)
  { s with wlk := { s.wlk with
    rep := els.foldl (fun m e => ids.foldl (fun m id =>
      if repCovers s e id && fresh e id then m.set (e * 2 ^ 25 + id) (some ⟨0, (s.pst.points.get id).seq⟩) else m) m) s.wlk.rep } }

end Sys2Proof.Machine
end

