-- ==== Sys2Proof/Machine/QchOps.lean ====
section
/-! DEFINITION. The Quench pins' shared operations (12_capture R395 to R398): when a pin is active, how a source sets its latch or asserts,
and what an assertion records. -/
namespace Sys2Proof.Machine
open Sys2Proof

/-- The HOST source of a pin (R395). -/
def qchHost (s : State) (n : Nat) : Bool := bit (fld s fQchForceForce) n

/-- The loops of this module assert a pin (R395); on a standby they drive none (R398). -/
def qchAnv (s : State) (n : Nat) : Bool := !(s.qch.pin.get n).anv.isEmpty && !s.par.standby

/-- A pin is active (R395). -/
def qchActive (s : State) (n : Nat) : Bool := (s.qch.pin.get n).latch || qchAnv s n || qchHost s n

/-- An event of Quench: pin, source, channel or loop slot (R405). The manual gives the source no codes: the byte is free. -/
def qchEvent (s : State) (k : EvKind) (n unit : Nat) : State :=
  let (f, s) := drawFree s
  event s k [(2, n), (1, (f.toNat % 256 : Nat)), (2, unit)]

/-- TIO pins named in PAR_PIN_MASK (R529). -/
def pairedPin (s : State) (p : Nat) : Bool := bit (fld s (fParPinMaskMask (p / 32))) (p % 32)

/-- PIN_STATE (R522): which paired pins are driven, their levels, the QCH latches: a bit each. -/
def pinBytes (s : State) : Bytes :=
  let b (f : Nat → Bool) (n : Nat) : Nat := ((List.range n).map fun i => b2n (f i) * 2 ^ i).sum
  leBytes 16 (b (fun p => pairedPin s p && (s.tmb.tio.get p).level.isSome) 128) ++
  leBytes 16 (b (fun p => pairedPin s p && (s.tmb.tio.get p).level == some true) 128) ++
  leBytes 2 (b (fun n => (s.qch.pin.get n).latch) 16)

/-- The module in control mirrors its paired pins and its QCH latches when they change (R541). -/
def pinState (s : State) : State :=
  if s.par.state ≠ .active ∨ !s.par.follow then s
  else
    let b := pinBytes s
    if b = s.par.pins then s else mirrorSend { s with par := { s.par with pins := b } } 8 b

/-- Change a pin; when that makes it active, the assertion reaches the ball of a driven pin and is recorded (R395, R396). -/
def qchChange (s : State) (n unit : Nat) (f : State → State) : State :=
  let was := qchActive s n
  let s := pinState (f s)
  if qchActive s n then
    if was then s
    else
      let s := { s with qch := { s.qch with pin := s.qch.pin.upd n (fun p => { p with activeSince := some s.tmb.now, relWait := false }) } }
      if flag s (fQchPinEn n) then
        let s := { s with qch := { s.qch with pin := s.qch.pin.upd n (fun p => { p with last := s.tmb.now }) } }
        qchEvent (bump s cQchAssertions) evQchAssert n unit
      else s
  else { s with qch := { s.qch with pin := s.qch.pin.upd n (fun p => { p with activeSince := none }) } }

/-- Change a pin's record. -/
def qchUpd (n : Nat) (f : QchPin → QchPin) (s : State) : State := { s with qch := { s.qch with pin := s.qch.pin.upd n f } }

/-- The pins a mask of 16 bits names. -/
def qchPins (m : Nat) : List Nat := (List.range 16).filter (fun n => bit m n)

/-- A violation event of a channel with QUENCH (R394, R395): every latch of QCH_MASK is set; `at'` is the deciding sample's stamp. -/
def qchFromCap (s : State) (ch mask at' : Nat) : State :=
  if s.par.standby then s
  else (qchPins mask).foldl (fun s n =>
    let was := qchActive s n
    let s := qchChange (bump s cQchCapRequests) n ch (qchUpd n fun p => { p with latch := true, srcCap := true })
    if was then s else bumpMax s cQchLatencyMaxNs (s.tmb.now - at')) s

/-- A loop enters its Quench state (R338, R395): the latches are set and the loop asserts while the state stays latched. -/
def qchFromLoop (s : State) (slot mask : Nat) : State :=
  (qchPins mask).foldl (fun s n =>
    qchChange (bump s cQchAnvRequests) n slot (qchUpd n fun p => { p with
      latch := p.latch || !s.par.standby
      srcCap := if s.par.standby then p.srcCap else false
      anv := if p.anv.contains slot then p.anv else p.anv ++ [slot] })) s

/-- A loop leaves its Quench state (R339): it asserts no pin any more. -/
def qchLoopEnds (s : State) (slot : Nat) : State :=
  (List.range 16).foldl (fun s n =>
    if (s.qch.pin.get n).anv.contains slot then qchChange s n slot (qchUpd n fun p => { p with anv := p.anv.filter (· != slot) })
    else s) s

/-- The module records a FATAL event (R395): the latches of the pins with ON_FATAL. -/
def qchFatal (s : State) : State :=
  (List.range 16).foldl (fun s n =>
    if flag s (fQchPinOnFatal n) then
      qchChange (bump s cQchFatalRequests) n 0 (qchUpd n fun p => { p with latch := true, srcCap := false, fatal := true })
    else s) s

end Sys2Proof.Machine
end

