-- ==== Sys2Proof/Machine/CapOps.lean ====
section
/-! DEFINITION. The Capture Engine's shared operations (12_capture R382 to R402): trigger events, missed triggers, taking and completing a
segment, group fires, the envelope test. Commits of points and stamps of pins reach it too (R387), so that it stands before them. -/
namespace Sys2Proof.Machine
open Sys2Proof

/-- A channel. -/
def capCh (s : State) (n : Nat) : CapCh := s.cap.ch.get n

/-- Change a channel. -/
def capUpd (s : State) (n : Nat) (f : CapCh → CapCh) : State := { s with cap := { s.cap with ch := s.cap.ch.upd n f } }

/-- An event of the Capture Engine: channel, INDEX, module, byte offset (R404). -/
def capEvent (s : State) (k : EvKind) (n index module off : Nat) : State :=
  event s k [(2, n), (4, index), (2, module), (4, off)]

/-- This module alone, or the firing module of a local trigger (R386). -/
def localModule : Nat := 0xFF

/-- 100 ns and 1.25 µs, in quarter ns. -/
def q100ns : Nat := 400

/-- Skew calibration is valid (R390). -/
def skewValid (s : State) : Bool :=
  match s.cnv.fgTemp with
  | some t => decide ((s.pwr.dieTemp - t).natAbs ≤ 10000)
  | none => false

/-- Samples of a channel's history that count as pre-trigger samples (R388), newest first. -/
def capEligible (c : CapCh) : List CapSample := c.hist.filter (fun x => decide (c.since < x.q))

/-- A trigger that takes no segment (R389). -/
def capMissed (s : State) (n reason q module src : Nat) : State :=
  let c := capCh s n
  let idx := match c.cur with | some g => g.index | none => c.next - 1
  if 1024 ≤ c.miss.length then capUpd (bump s cCapMissedLost) n fun c => { c with missed := c.missed + 1 }
  else
    let s := bump s (if reason = 1 then cCapMissedRearm else if reason = 2 then cCapMissedPost else cCapMissedLate)
    let s := if c.missNoted then s else capEvent s evCapTriggerMissed n idx module 0
    capUpd s n fun c => { c with
      missed := c.missed + 1
      missNoted := true
      miss := c.miss ++ [⟨q, reason, module, src, idx⟩] }

/-- An accepted envelope of ANCHOR `a` comes into force, and its MASK_LOAD completes (R393). -/
def maskTakes (s : State) (n a : Nat) : State :=
  match (capCh s n).maskNext with
  | some (m, h, _) =>
    if m.anchor = a then
      endCmd (capUpd s n fun c => { c with mask := some m, maskNext := none }) h .ok m.points.length 0
    else s
  | none => s

/-- An envelope that waits comes into force at once: the channel no longer captures (R393). -/
def maskNow (s : State) (n : Nat) : State :=
  match (capCh s n).maskNext with
  | some (m, _, _) => maskTakes s n m.anchor
  | none => s

/-- A segment ends and is stored (R386, R399): the channel rearms, or stops. -/
def capStore (s : State) (n : Nat) (g : CapSeg) : State :=
  let c := capCh s n
  let last := match g.post.getLast? with | some x => x.q | none => s.tmb.now * 4
  let s := bump (if g.gap then bump s cCapGapSegments else s) cCapSegments
  let stops := c.stopSent || c.stopAfter
  let s := capUpd s n fun c => { c with
    cur := none
    next := c.next + 1
    held := if c.desc.ring then (c.held ++ [g]).drop (c.held.length + 1 - c.desc.count) else c.held ++ [g]
    segStamp := some (max (g.trig / 4) (c.segStamp.getD 0))
    rearmAt := last + q100ns
    stopSent := false
    stopAfter := false
    state := if stops then .stopped else .rearm }
  if stops then capEvent (maskNow s n) evCapStopped n g.index 0 0 else s

/-- The segment in progress completes when its last sample is stored (R386). -/
def capCheckDone (s : State) (n : Nat) : State :=
  let c := capCh s n
  match c.cur with
  | some g => if c.desc.seg - c.desc.pre ≤ g.post.length then capStore s n g else s
  | none => s

/-- A segment starts at trigger instant `q` (R386, R388): samples before the trigger sample from the history, later ones as they come. -/
def capTake (s : State) (n q src module : Nat) (unlocked stop : Bool) (spacing : Nat) : State :=
  let s := maskTakes s n 0
  let c := capCh s n
  let g : CapSeg := {
    index := c.next
    src := src
    module := module
    trig := q
    pre := (((capEligible c).filter (fun x => decide (x.q < q))).take c.desc.pre).reverse
    post := ((capEligible c).filter (fun x => decide (q ≤ x.q))).reverse.take (c.desc.seg - c.desc.pre)
    spacing := spacing
    epoch := (epochOfStamp s (q / 4)).number
    missed := c.missed
    gap := false
    degraded := c.degraded
    unlocked := unlocked
    mixed := false
    skewStale := !skewValid s
    preReq := c.desc.pre
    viol := none
    recs := [] }
  let s := capUpd s n fun c => { c with
    state := .post
    cur := some g
    missed := 0
    lastTrig := q
    stopAfter := c.stopAfter || stop }
  capCheckDone s n

/-- The sample spacing of a channel's stream, in ps, as its converter group runs now; 0 while no Burst group samples its input. -/
def capSpacing (s : State) (n : Nat) : Nat :=
  match (List.range 4).find? fun g => let k := s.cnv.group.get g
      (k.cfg.mode == 1 || k.cfg.mode == 2) && k.cfg.input == (capCh s n).desc.input && !k.slices.isEmpty with
  | some g => let k := s.cnv.group.get g
    8000 / k.slices.length * k.cfg.avg
  | none => 0

/-- A trigger instant is judged against the channel's segments (R389): it takes a segment, or is missed, or has no effect. -/
def capJudge (s : State) (n q src module : Nat) (unlocked stop : Bool) : State :=
  let c := capCh s n
  let s := capUpd s n fun c => { c with lastTrig := q }
  match c.state with
  | .armed =>
    if c.since < q ∨ c.next = 0 then capTake s n q src module unlocked stop (capSpacing s n)
    else capMissed s n (if c.rearmAt ≤ q + q100ns then 1 else 2) q module src
  | .post => capMissed s n 2 q module src
  | .rearm => capMissed s n (if c.rearmAt ≤ q + q100ns then 1 else 2) q module src
  | .idle | .disarmed | .full | .stopped | .recording => bump s cCapFireIgnored

/-- A domain instant in local quarter ns (01_timeline R70). -/
def localQ (s : State) (q : Int) : Nat := (q - 4 * (if s.tmb.joined then s.tmb.domOff else 0)).toNat

/-- A trigger event of a channel (R387): a segment of its own, or a fire of its group (R401). -/
def capTrigger (s : State) (n q src : Nat) (stop : Bool) : State :=
  let c := capCh s n
  let s := bump s cCapTriggers
  let live : Bool := match c.state with | .armed | .post | .rearm => true | _ => false
  if c.desc.group = 0 ∨ !live then capJudge s n q src localModule false stop
  else
    let dq : Int := q + 4 * (if s.tmb.joined then s.tmb.domOff else 0)
    let f : CapFire := ⟨dq, c.desc.group, src, if stop then some n else none⟩
    let s := bump { s with cap := { s.cap with
      fires := s.cap.fires.filter (fun x => decide (x.q ≤ dq)) ++ f :: s.cap.fires.filter (fun x => decide (dq < x.q)) } } cCapFiresSent
    if s.tmb.joined then waligAll s clsTRIG 2 0xFF false (leBytes 1 c.desc.group ++ lesBytes 8 dq ++ leBytes 1 src) else s

/-- The commit of a point reaches the channels whose trigger it is (R387): a BOOL point that changes from 0 to 1. -/
def capPointEdge (s : State) (id : Nat) (t : PType) (old new : Val) : State :=
  if t ≠ .bool ∨ old ≠ 0 ∨ new = 0 then s
  else (List.range 16).foldl (fun s n =>
    let c := capCh s n
    let live : Bool := match c.state with | .armed | .post | .rearm | .full | .stopped => true | _ => false
    if c.desc.source = 1 ∧ c.desc.trig = 5 ∧ c.desc.ref = id ∧ live then capTrigger s n (s.tmb.now * 4) 5 false else s) s

/-- An edge stamped on a pin reaches the channels whose trigger it is (R387). -/
def capPinEdge (s : State) (pin q : Nat) : State :=
  (List.range 16).foldl (fun s n =>
    let c := capCh s n
    let live : Bool := match c.state with | .armed | .post | .rearm | .full | .stopped => true | _ => false
    if c.desc.source = 1 ∧ c.desc.trig = 6 ∧ c.desc.ref = pin ∧ live then capTrigger s n q 6 false else s) s

/-! ### One sample -/

/-- LO and HI of an envelope at an offset in quarter ns, interpolated (R392); none past the last point of ANCHOR TRIGGER. -/
def maskAt (m : CapMask) (off : Nat) : List MaskPoint → Option (Rat × Rat)
  | [] => none
  | [p] => if m.anchor = 0 ∧ p.t * 4 < off then none else some (p.lo, p.hi)
  | a :: b :: t =>
    if off < b.t * 4 then
      let f : Rat := ((off : Rat) - 4 * a.t) / (4 * b.t - 4 * a.t)
      some (a.lo + f * (b.lo - a.lo), a.hi + f * (b.hi - a.hi))
    else maskAt m off (b :: t)

/-- A result lies outside the envelope (R392); none where it is not tested. -/
def maskOut (m : CapMask) (cur : Option CapSeg) (q : Nat) (r : Int) : Option Bool :=
  let off : Option Nat := match m.anchor with
    | 0 => match cur with
      | some g => if g.trig ≤ q then some (q - g.trig) else none
      | none => none
    | 1 => some ((q + 4 * m.period - 4 * m.phase) % (4 * m.period))
    | _ => some 0
  match off with
  | none => none
  | some o => (maskAt m o m.points).map fun b => decide ((r : Rat) < b.1) || decide (b.2 < (r : Rat))

/-- Mark the first sample of a violating run. -/
def capMark (l : List CapSample) (q : Nat) : List CapSample := l.map fun x => if x.q = q then { x with viol := true } else x

/-- A violation event (R394). -/
def capViolation (s : State) (n q : Nat) : State :=
  let c := capCh s n
  let s := bump s cCapMaskViolations
  let s := if c.violNoted then s else capEvent s evCapMaskViolation n (match c.cur with | some g => g.index | none => c.next) 0 0
  let s := capUpd s n fun c => { c with
    violNoted := true
    violStamp := some (max (c.runAt / 4) (c.violStamp.getD 0))
    hist := capMark c.hist c.runAt
    cur := c.cur.map (fun g => { g with pre := capMark g.pre c.runAt, post := capMark g.post c.runAt }) }
  let s := if c.desc.quench then qchFromCap s n c.desc.qch (q / 4) else s
  if c.state = .armed ∧ (c.desc.stop ∨ c.desc.trig = 4) then capTrigger s n c.runAt 4 c.desc.stop
  else
    let s := if c.desc.trig = 4 then capTrigger s n c.runAt 4 false else s
    if c.desc.stop then capUpd s n fun c => { c with stopAfter := true } else s

/-- The envelope test of a result (R392, R394). -/
def capMaskTest (s : State) (n q : Nat) (r : Int) : State :=
  let c := capCh s n
  let live : Bool := match c.state with | .armed | .post | .rearm => true | _ => false
  match c.mask with
  | none => s
  | some m =>
    if !live then s
    else match maskOut m c.cur q r with
      | none => s
      | some false => capUpd s n fun c => { c with vcount := 0 }
      | some true =>
        let s := capUpd s n fun c => { c with
          vcount := min (c.vcount + 1) 255
          runAt := if c.vcount = 0 then q else c.runAt }
        if c.vcount + 1 = m.persist then capViolation s n q else s

/-- The instant at which the line between two samples crosses a level, truncated to 0.25 ns (R387). -/
def crossing (q0 : Nat) (v0 : Int) (q1 : Nat) (v1 level : Int) : Nat :=
  if v0 = v1 then q1
  else (floorQ ((q0 : Rat) + ((q1 : Rat) - q0) * (level - v0) / (v1 - v0))).toNat

/-- The condition of LEVEL and WINDOW (R387). -/
def capCond (d : CapDesc) (r : Int) : Bool :=
  if d.trig = 1 then (if d.slope then decide (r ≤ d.levelA) else decide (d.levelA ≤ r))
  else
    let inside := decide (d.levelB ≤ r) && decide (r ≤ d.levelA)
    if d.inside then inside else !inside

/-- The level a result has crossed (R387). -/
def capLevel (d : CapDesc) (v0 r : Int) : Int :=
  if d.trig = 1 ∨ d.trig = 2 then d.levelA
  else if d.inside then (if d.levelA < v0 then d.levelA else d.levelB)
  else if d.levelA < r then d.levelA else d.levelB

/-- The trigger conditions of the stream itself: LEVEL, EDGE and WINDOW (R387). -/
def capCondition (s : State) (n q : Nat) (r : Int) : State :=
  let c := capCh s n
  let d := c.desc
  let instant (fresh : Bool) : Nat := match c.prev with
    | some (q0, v0) => if fresh then q else crossing q0 v0 q r (capLevel d v0 r)
    | none => q
  match d.trig with
  | 1 | 3 =>
    let now := capCond d r
    let fresh := c.first && c.state == .armed
    let s := capUpd s n fun c => { c with cond := now }
    if now && (!c.cond || fresh) then capTrigger s n (instant fresh) d.trig false else s
  | 2 =>
    let far := if d.slope then decide (d.levelB ≤ r) else decide (r ≤ d.levelB)
    let hit := if d.slope then decide (r ≤ d.levelA) else decide (d.levelA ≤ r)
    if hit && c.primed then capTrigger (capUpd s n fun c => { c with primed := false }) n (instant (c.first && c.state == .armed)) d.trig false
    else if far then capUpd s n fun c => { c with primed := true } else s
  | _ => s

/-- The stream of a channel breaks off (R399): a segment in POST ends with GAP, the history restarts. -/
def capGap (s : State) (n : Nat) : State :=
  let c := capCh s n
  let s := match c.state, c.cur with
    | .post, some g => capStore s n { g with gap := true }
    | _, _ => s
  capUpd s n fun c => { c with hist := [], prev := none }

/-- Samples a history ring holds: PRE_SAMPLES and those of 1.25 µs (R381). -/
def capRing (c : CapCh) (spacing : Nat) : Nat := c.desc.pre + (1250000 + spacing - 1) / (max spacing 1)

/-- A result of a Burst stream reaches a channel that reads it (R386 to R394, R399): `gap` and `degraded` mark its entry. -/
def capSample (s : State) (n q : Nat) (r : Int) (ovr gap degraded : Bool) (spacing tgen : Nat) : State :=
  let c0 := capCh s n
  let live : Bool := match c0.state with | .armed | .post | .rearm | .full | .stopped => true | _ => false
  if !live then s
  else
    let s := if gap ∨ (degraded ∧ !c0.degraded) then capGap s n else s
    let s := maskTakes s n 2
    let s := match (capCh s n).maskNext with
      | some (m, _, t) => if m.anchor = 1 ∧ (t + m.period - 1 - m.phase) / m.period * m.period + m.phase ≤ q / 4 then maskTakes s n 1 else s
      | none => s
    let (f, s) := drawFree s
    let x : CapSample := ⟨q, signed 24 f.toNat, ovr, tgen, false⟩
    let s := capUpd s n fun c => { c with
      degraded := degraded
      hist := (x :: c.hist).take (capRing c spacing)
      cur := c.cur.map (fun g =>
        if q < g.trig then { g with pre := ((g.pre ++ [x]).drop (g.pre.length + 1 - c.desc.pre)) } else { g with post := g.post ++ [x] }) }
    let s := capMaskTest s n q r
    let s := capCondition s n q r
    let s := capUpd s n fun c => { c with prev := some (q, r), first := false }
    capCheckDone s n

end Sys2Proof.Machine
end

