-- ==== Sys2Proof/Machine/History.lean ====
section
/-! DEFINITION. Point values as numbers (R29) and the signal history's encoder (17_recorder R509 to R513): which changes are
recorded, how a record is coded, when a block closes. -/
namespace Sys2Proof.Machine
open Sys2Proof

/-- The exact number a point value of a type stands for; none for an infinity, a NaN, NONE and BLOB_REF (R29). -/
def valNum (t : PType) (v : Val) : Option Rat :=
  match t with
  | .bool => some ((v.toNat % 2 : Nat) : Rat)
  | .int32 => some ((signed 32 v.toNat : Int) : Rat)
  | .uint32 => some ((v.toNat % 2 ^ 32 : Nat) : Rat)
  | .int64 => some ((v.toInt : Int) : Rat)
  | .uint64 | .time => some ((v.toNat : Nat) : Rat)
  | .real32 => real32Val v.toNat
  | .real64 => real64Val v.toNat
  | .fix24 => some (((signed 24 v.toNat : Int) : Rat) / 8388608)
  | .enum16 => some ((v.toNat % 2 ^ 16 : Nat) : Rat)
  | .none | .blobRef => Option.none

/-- The types whose VALUE is a quantity, to which a deadband applies (R509). -/
def PType.numeric : PType → Bool
  | .int32 | .uint32 | .int64 | .uint64 | .real32 | .real64 | .fix24 | .time => true
  | _ => false

/-- VALUE in the layout of its TYPE: unused high bits 0 for unsigned and BOOL types, a sign extension for signed ones (R79). -/
def normVal (t : PType) (v : Val) : Val :=
  match t with
  | .none => 0
  | .bool => v &&& 1
  | .int32 => (v.setWidth 32).signExtend 64
  | .uint32 | .real32 => (v.setWidth 32).setWidth 64
  | .fix24 => (v.setWidth 24).signExtend 64
  | .enum16 => (v.setWidth 16).setWidth 64
  | .int64 | .uint64 | .real64 | .time | .blobRef => v

/-- Zigzag code of a signed number (R513). -/
def zigzag (v : Int) : Nat := if v < 0 then (-v).toNat * 2 - 1 else v.toNat * 2

/-- Unsigned LEB128 of at most `n` bytes (R513). -/
def varint : Nat → Nat → Bytes
  | 0, _ => []
  | n + 1, v => if v < 128 ∨ n = 0 then [BitVec.ofNat 8 (v % 128)] else BitVec.ofNat 8 (v % 128 + 128) :: varint n (v / 128)

/-- The fewest low bytes that hold a value. -/
def lowLen (v : Nat) : Nat := if v = 0 then 1 else (Nat.log2 v) / 8 + 1

/-- The fewest low bytes that hold a value by sign extension. -/
def signLen (v : Val) : Nat :=
  (([1, 2, 3, 4, 5, 6, 7].find? fun l => (BitVec.ofInt 64 (signed (8 * l) v.toNat)) == v).getD 8)

/-- The fewest high bytes that hold a value. -/
def highLen (v : Nat) : Nat := (([1, 2, 3, 4, 5, 6, 7].find? fun l => v % 2 ^ (64 - 8 * l) == 0).getD 8)

/-- The value field: mode and bytes, the shortest of the modes of R513 (ties in the order LOW, SIGNED, HIGH). -/
def encVal (v : Val) : Nat × Bytes :=
  if v = 0 then (0, [])
  else
    let l := lowLen v.toNat
    let g := signLen v
    let h := highLen v.toNat
    if l ≤ g ∧ l ≤ h then (1, BitVec.ofNat 8 l :: leBytes l v.toNat)
    else if g ≤ h then (2, BitVec.ofNat 8 g :: leBytes g v.toNat)
    else (3, BitVec.ofNat 8 h :: leBytes h (v.toNat >>> (64 - 8 * h)))

/-- The id field: mode and bytes. -/
def encId (prev id : Nat) : Nat × Bytes :=
  if id = prev + 1 then (0, [])
  else
    let d := varint 10 (zigzag ((id : Int) - prev))
    if d.length ≤ 4 then (1, d) else (2, leBytes 4 id)

/-- One history record after the record `prev` of the same block (R513); `stale` is set at export (R515). -/
def encRec (prevId prevStamp : Nat) (r : HistRec) (stale : Bool) : Bytes :=
  let i := encId prevId r.id
  let v := encVal r.value
  let q := r.qual != 1#16
  let tag := i.1 + 4 * v.1 + 16 * b2n q + 64 * b2n stale + 128 * b2n r.gap
  BitVec.ofNat 8 tag :: i.2 ++ varint 10 (zigzag ((r.stamp : Int) - prevStamp)) ++ v.2 ++ (if q then leBytes 2 r.qual.toNat else [])

/-- The records of a block in order. -/
def encRecs (stale : HistRec → Bool) : Nat → Nat → List HistRec → Bytes
  | _, _, [] => []
  | pid, pst, r :: t => encRec pid pst r (stale r) ++ encRecs stale r.id r.stamp t

/-- The payload of a block whose first record gives BASE_STAMP. -/
def encBlock (stale : HistRec → Bool) (l : List HistRec) : Bytes := encRecs stale 0 (l.headD default).stamp l

/-- Blocks the history ring holds (R511). -/
def histRingMax : Nat := 5242880

/-- The oldest block leaves the ring; one not exported is described in the next gap marker (R516). -/
def histDropOldest (d : Recd) : Recd :=
  match d.ring with
  | [] => d
  | b :: t =>
    if b.seq < d.expCursor then { d with ring := t }
    else
      let g := d.gapMark.getD ⟨b.seq, (b.recs.headD default).stamp, 0, 0, 0, b.epoch⟩
      { d with
        ring := t
        expCursor := b.seq + 1
        gapMark := some { g with
          lastStamp := (b.recs.getLastD default).stamp
          blocks := g.blocks + 1
          records := g.records + b.recs.length } }

/-- Close the current block (R511): `partialBlock` unless it is full. -/
def histClose (s : State) (partialBlock : Bool) : State :=
  if s.recd.block = [] then s
  else
    let b : HistBlock := ⟨s.recd.nextBlock, curEpoch s, partialBlock,
      (s.pst.map.getD default).build, s.recd.block⟩
    let d := if s.recd.ring.length < histRingMax then s.recd else histDropOldest s.recd
    bump { s with recd := { d with ring := d.ring ++ [b], block := [], nextBlock := d.nextBlock + 1 } } cRecHistBlocks

/-- Put a recorded change into the current block, closing it first when it is full (R511). -/
def histPut (s : State) (r : HistRec) : State :=
  let full := decide (2016 ≤ s.recd.block.length) ||
    decide (4032 < (encBlock (fun _ => false) (s.recd.block ++ [r])).length)
  let s := if full then histClose s false else s
  let s := { s with recd := { s.recd with
    block := s.recd.block ++ [r]
    blockFirst := if s.recd.block = [] then s.tmb.now else s.recd.blockFirst
    hist := s.recd.hist.upd r.id (fun h => { h with last := some r, held := none, lost := false }) } }
  bump s cRecHistChanges

/-- The history encoder's limit of 200,000,000 changes a second (R510), counted over the seconds of the Timeline. -/
def histOffer (s : State) (r : HistRec) : State :=
  let sec := s.tmb.now / 1000000000
  let n := if s.recd.histSec = sec then s.recd.histCount else 0
  if n < 200000000 then
    histPut { s with recd := { s.recd with histSec := sec, histCount := n + 1 } } { r with gap := (s.recd.hist.get r.id).lost }
  else
    let first := s.recd.histOver != some sec
    let s := bump { s with recd := { s.recd with
      histOver := some sec
      hist := s.recd.hist.upd r.id (fun h => { h with lost := true }) } } cRecHistOverload
    if first then event s evHistoryOverload [(4, 0), (8, (s.recd.nextBlock : Int)), (4, 1)] else s

/-- A change within the deadband of the point's last recorded value (R509). -/
def inDeadband (t : PType) (deadband : Nat) (a b : Val) : Bool :=
  t.numeric && match valNum t a, valNum t b, real32Val deadband with
    | some x, some y, some d => decide (absQ (x - y) ≤ d)
    | _, _, _ => false

/-- An accepted change of a point reaches the history (R509): its class filters it by deadband and minimum interval. -/
def histChange (s : State) (id : Nat) (p : PointRec) : State :=
  let c := p.hclass % 256
  if c = 0 ∨ fld s (fRecHclassEn c) = 0 then s
  else
    let r : HistRec := ⟨id, p.value, p.stamp, p.qual, false, p.maxAge⟩
    let h := s.recd.hist.get id
    match h.last with
    | none => histOffer s r
    | some l =>
      let qualChange := l.qual != p.qual && flag s (fRecHclassQualAlways c)
      if inDeadband p.type (fld s (fRecHclassDeadband c)) p.value l.value && !qualChange then bump s cRecHistFiltered
      else if p.stamp < l.stamp + fld s (fRecHclassMinIntervalUs c) * 1000 then
        let s := if h.held.isSome then bump s cRecHistFiltered else s
        { s with recd := { s.recd with hist := s.recd.hist.upd id (fun h => { h with held := some r }) } }
      else histOffer s r

end Sys2Proof.Machine
end

