-- ==== Sys2Proof/Machine/PstOps.lean ====
section
/-! DEFINITION. The Point Store's shared operations (02_point_store): reading a point under R92, an accepted write and its
consequences (R79 to R83, R89), the delivered record (R94), putting a point map into force. -/
namespace Sys2Proof.Machine
open Sys2Proof

/-- VALID (R27). -/ def qVALID : BitVec 16 := 0x0001
/-- STALE (R27). -/ def qSTALE : BitVec 16 := 0x0002
/-- FORCED (R27). -/ def qFORCED : BitVec 16 := 0x0004
/-- SUBST (R27). -/ def qSUBST : BitVec 16 := 0x0008
/-- HELD (R27). -/ def qHELD : BitVec 16 := 0x0010
/-- OVER (R27). -/ def qOVER : BitVec 16 := 0x0020
/-- UNDER (R27). -/ def qUNDER : BitVec 16 := 0x0040
/-- BAD (R27). -/ def qBAD : BitVec 16 := 0x0080
/-- INIT (R27). -/ def qINIT : BitVec 16 := 0x0100
/-- ORPHAN (R27). -/ def qORPHAN : BitVec 16 := 0x0200
/-- IMPLAUS (R27). -/ def qIMPLAUS : BitVec 16 := 0x0400
/-- MIRROR (R27). -/ def qMIRROR : BitVec 16 := 0x0800
/-- RESUMED (R27). -/ def qRESUMED : BitVec 16 := 0x1000
/-- GAP (R27). -/ def qGAP : BitVec 16 := 0x2000

/-- A flag is set. -/
def hasQ (q f : BitVec 16) : Bool := q &&& f != 0

/-- Writer classes (R79). -/
def wINIT : Nat := 0
/-- Writer class HOST. -/ def wHOST : Nat := 1
/-- Writer class CYC. -/ def wCYC : Nat := 2
/-- Writer class ILE. -/ def wILE : Nat := 3
/-- Writer class ANV. -/ def wANV : Nat := 4
/-- Writer class SEQ. -/ def wSEQ : Nat := 5
/-- Writer class MOT. -/ def wMOT : Nat := 6
/-- Writer class FBK. -/ def wFBK : Nat := 7
/-- Writer class CNV. -/ def wCNV : Nat := 8
/-- Writer class CAP. -/ def wCAP : Nat := 9
/-- Writer class CAN. -/ def wCAN : Nat := 10
/-- Writer class STN. -/ def wSTN : Nat := 11
/-- Writer class WALIG. -/ def wWALIG : Nat := 12
/-- Writer class RESTORE. -/ def wRESTORE : Nat := 13
/-- Writer class PST. -/ def wPST : Nat := 14
/-- Writer class HDL. -/ def wHDL : Nat := 15

/-- The WRITER field of a class and a unit (R79). -/
def writerOf (cls unit : Nat) : BitVec 16 := BitVec.ofNat 16 (cls * 4096 + unit % 4096)

/-- The map entry of an id in the map in force (R74). -/
def mapFind (m : Option PointMap) (id : Nat) : Option MapEntry :=
  match m with
  | some p => p.entries.find? (fun e => e.id == id)
  | none => none

/-- An id is mapped (R74). -/
def mapped (s : State) (id : Nat) : Bool := (mapFind s.pst.map id).isSome

/-- The tile of an id. -/
def tileOf (id : Nat) : Nat := id / 16

/-- The force table entry of an id (R88). -/
def forceFind (s : State) (id : Nat) : Option Force := s.pst.forces.find? (fun f => f.id == id)

/-- BAD and VALID are never set together (R28). -/
def badClear (q : BitVec 16) : BitVec 16 := if hasQ q qBAD then q &&& ~~~qVALID else q

/-- A record that comes from outside the store, with VALID clear where it has BAD (R28; notes/assumptions/107.md). -/
def goodRec (r : PointRec) : PointRec := { r with qual := badClear r.qual }

/-- The record a reader gets at an instant (R73, R74, R85, R89), STALE not yet computed. -/
def recordAt (s : State) (id at' : Nat) : PointRec :=
  if id = 0 ∨ !mapped s id then default
  else
    let r := s.pst.points.get id
    let r := if s.pst.badTiles.contains (tileOf id) then { r with qual := (r.qual ||| qBAD) &&& ~~~qVALID } else r
    if (forceFind s id).isSome then { r with stamp := at' } else r

/-- STALE at an instant: MAXAGE is not 0 and the age is above it (R92). -/
def isStale (r : PointRec) (at' : Nat) : Bool := r.maxAge != 0 && decide (r.stamp + r.maxAge * 1000 < at')

/-- A read of a point at an instant, STALE computed (R92); with BAD set it reads with VALID clear (R28). -/
def readPoint (s : State) (id at' : Nat) : PointRec :=
  let r := recordAt s id at'
  { r with qual := (badClear r.qual &&& ~~~(qSTALE ||| qGAP)) ||| (if isStale r at' then qSTALE else 0) }

/-- The shadow of a forced point as a record (R89). -/
def readShadow (s : State) (f : Force) (at' : Nat) : PointRec :=
  let r : PointRec := { s.pst.points.get f.id with value := f.shValue, stamp := f.shStamp, seq := f.shSeq, qual := f.shQual }
  { r with qual := (badClear r.qual &&& ~~~(qSTALE ||| qGAP)) ||| (if isStale r at' then qSTALE else 0) }

/-- A record as it leaves the controller (R94). -/
def deliver (rtype id : Nat) (r : PointRec) (at' : Nat) : Bytes :=
  leBytes 4 (id % 2 ^ 25 + rtype * 2 ^ 28) ++ leBytes 4 r.seq.toNat ++ leBytes 8 r.value.toNat ++ leBytes 8 r.stamp ++
  leBytes 2 r.qual.toNat ++ leBytes 1 r.type.code ++ leBytes 1 r.epochLo ++ leBytes 4 (min ((at' - r.stamp) / 1000) 0xFFFFFFFF)

/-- A record of RTYPE READ or SHADOW for an unmapped id: the id, TYPE NONE and zeros (R74). -/
def deliverNone (rtype id : Nat) : Bytes := leBytes 4 (id % 2 ^ 25 + rtype * 2 ^ 28) ++ zeros 28

/-- The record of a read of an id, as delivered (R73, R74, R92). -/
def deliverRead (s : State) (id at' : Nat) : Bytes :=
  if id = 0 ∨ !mapped s id then deliverNone 3 id else deliver 3 id (readPoint s id at') at'

/-- The 32-byte stored record (R30). -/
def recBytes (r : PointRec) : Bytes :=
  leBytes 8 r.value.toNat ++ leBytes 8 r.stamp ++ leBytes 4 r.seq.toNat ++ leBytes 2 (r.qual &&& ~~~(qSTALE ||| qGAP)).toNat ++
  leBytes 1 r.type.code ++ leBytes 1 r.epochLo ++ leBytes 4 r.maxAge ++ leBytes 2 r.writer.toNat ++ leBytes 2 (r.hclass % 256)

/-- The 512 bytes of a tile (R84). -/
def tileBytes (s : State) (t : Nat) : Bytes :=
  (List.range 16).flatMap fun k =>
    if mapped s (16 * t + k) then recBytes (s.pst.points.get (16 * t + k)) else zeros 32

/-- The checksum array's word of a tile (R84). -/
def tileCrc (s : State) (t : Nat) : BitVec 32 := crc32c (tileBytes s t)

/-- The flags a writer of a class may supply (R81): IMPLAUS for loop and feedback supervision only. -/
def allowedQ (cls : Nat) : BitVec 16 :=
  qVALID ||| qSUBST ||| qHELD ||| qOVER ||| qUNDER ||| qBAD ||| (if cls = wANV ∨ cls = wFBK then qIMPLAUS else 0)

/-- QUAL after an accepted write (R81): the writer's flags; IMPLAUS and ORPHAN stay unless their own block clears them; INIT and
RESUMED fall; MIRROR stands on a mirrored input only; BAD clears VALID (R28). -/
def newQual (old given : BitVec 16) (cls : Nat) (mirror : Bool) : BitVec 16 :=
  let keep := if cls = wANV ∨ cls = wFBK then qORPHAN else qORPHAN ||| qIMPLAUS
  badClear ((given &&& allowedQ cls) ||| (old &&& keep) ||| (if mirror then qMIRROR else 0))

/-- Mark a changed point in every open view that subscribes it (R95). -/
def markViews (m : SMap View) (id : Nat) : SMap View :=
  m.mapV fun _ v =>
    if v.state = .open ∧ v.ids.contains id then
      { v with subs := v.subs.upd id (fun u => { u with change := true, staleDone := false }) }
    else v

/-- Put a new record into the store: views, the history, the capture triggers and the journal see it (R83, R95, R509). -/
def commitPoint (s : State) (id : Nat) (r : PointRec) : State :=
  let old := s.pst.points.get id
  let s := { s with pst := { s.pst with
    points := s.pst.points.set id r
    views := markViews s.pst.views id
    recent := (id, s.tmb.now, old) :: s.pst.recent.filter (fun e => decide (s.tmb.now < e.2.1 + 300)) } }
  let s := capPointEdge s id r.type old.value r.value
  let s := match mapFind s.pst.map id with
    | some e => if e.retain && (forceFind s id).isNone then
        { s with mram := { s.mram with retained := s.mram.retained.set id (some r) } } else s
    | none => s
  histChange s id r

/-- Writes of class CYC to a point are refused while fallback drives it: from the stop to the first cycle instant of the program that ends
fallback (06_interlock_engine R225, R226). -/
def cycBlocked (s : State) (id : Nat) : Bool :=
  s.ile.state == .fallback && (match s.ile.hand with | some f => decide (s.tmb.now < f) | none => true) &&
    (match s.ile.image with | some m => (ileStores (ileFallback m)).contains id | none => false)

/-- What became of a write: its status and whether it was applied (R82, R128). -/
structure WriteRes where
  status : Status
  applied : Bool
  deriving DecidableEq, Repr, Inhabited

/-- A write to a point (R73, R74, R80 to R82, R85, R89): refused, discarded, taken by the shadow of a force, held until its tile is
repaired, or applied. -/
def writePoint (s : State) (w : PWrite) : State × WriteRes :=
  if w.id = 0 then (s, ⟨.ok, true⟩)
  else match mapFind s.pst.map w.id with
  | none => (bump s cPstNoTargetWrite, ⟨.noTarget, false⟩)
  | some e =>
    if !e.writers.getLsbD w.cls then
      (event (bump s cPstPermDeny) evWriteDenied [(4, w.id)], ⟨.denied, false⟩)
    else if w.cls = wCYC ∧ cycBlocked s w.id then (bump s cIleCycWriteBlocked, ⟨.denied, false⟩)
    else if (match w.type with | some t => t != e.type | none => false) then (bump s cPstTypeMismatch, ⟨.badField, false⟩)
    else
      let stamp := w.stamp.getD s.tmb.now
      if s.tmb.now < stamp then (s, ⟨.range, false⟩)
      else if s.pst.badTiles.contains (tileOf w.id) then
        ({ s with pst := { s.pst with tileWrites := s.pst.tileWrites ++ [{ w with stamp := some stamp }] } }, ⟨.ok, true⟩)
      else
        let r := s.pst.points.get w.id
        match forceFind s w.id with
        | some f =>
          if stamp < f.shStamp then (bump s cPstOrderDrop, ⟨.ok, false⟩)
          else
            let f' := { f with shValue := normVal e.type w.value, shStamp := stamp, shQual := newQual f.shQual w.qual w.cls w.mirror }
            ({ s with pst := { s.pst with forces := s.pst.forces.map (fun g => if g.id = w.id then f' else g) } }, ⟨.ok, true⟩)
        | none =>
          if stamp < r.stamp then (bump s cPstOrderDrop, ⟨.ok, false⟩)
          else
            (commitPoint s w.id { r with
              value := normVal e.type w.value
              stamp := stamp
              seq := r.seq + 1
              qual := newQual r.qual w.qual w.cls w.mirror
              epochLo := (epochOfStamp s stamp).number % 256
              writer := writerOf w.cls w.unit }, ⟨.ok, true⟩)

/-- A write by one of the controller's own blocks, at its commit or with a STAMP, in the point's own type. -/
def blockWrite (s : State) (cls unit id : Nat) (v : Val) (stamp : Option Nat) (q : BitVec 16) : State :=
  (writePoint s ⟨id, v, none, stamp, q, cls, unit, false⟩).1

/-- A commit group: its writes become visible together, in their order (R83). -/
def writeGroup (s : State) (l : List PWrite) : State := l.foldl (fun t w => (writePoint t w).1) s

/-- The record of a point at start: INIT_VALUE, QUAL INIT, WRITER class INIT (R83). -/
def initRec (s : State) (e : MapEntry) : PointRec :=
  ⟨e.init, s.tmb.now, 0, qINIT, e.type, curEpoch s % 256, e.maxAge, writerOf wINIT 0, e.hclass⟩

/-- The record of a point at start, a RETAIN point from its journal (R83). -/
def startRec (s : State) (e : MapEntry) : PointRec :=
  match e.retain, s.mram.retained.get e.id with
  | true, some j =>
    if j.type = e.type then { j with
      qual := badClear j.qual ||| qRESUMED, writer := writerOf wRESTORE 0, maxAge := e.maxAge, hclass := e.hclass }
    else initRec s e
  | _, _ => initRec s e

/-- The numeric value of a point's record (R29). -/
def recNum (r : PointRec) : Option Rat := valNum r.type r.value

end Sys2Proof.Machine
end

