-- ==== Sys2Proof/Machine/PairIn.lean ====
section
/-! DEFINITION. Inputs of a pair (18_pairing R534, R537): an input's writes are mirrored by the module in control and compared by the
standby. -/
namespace Sys2Proof.Machine
open Sys2Proof

/-- A write as a mirrored record carries it. -/
def writeBytes (s : State) (w : PWrite) : Bytes :=
  leBytes 4 w.id ++ leBytes 8 w.value.toNat ++ leBytes 8 (w.stamp.getD s.tmb.now) ++ leBytes 2 w.qual.toNat ++ leBytes 1 w.cls ++ leBytes 2 w.unit

/-- A mirrored write. -/
def writeOf (b : Bytes) : PWrite :=
  ⟨le b 0 4, BitVec.ofNat 64 (le b 4 8), none, some (le b 12 8), BitVec.ofNat 16 (le b 20 2), le b 22 1, le b 23 2, true⟩

/-- The observed numbers of two records differ by more than `tol` (R537). -/
def obsDiffer (tol : Nat) (a b : Bytes) : Bool :=
  let n := le a 0 1
  n != le b 0 1 || (List.range n).any fun i => decide (tol < (les a (1 + 8 * i) 8 - les b (1 + 8 * i) 8).natAbs)

/-- Compare what this standby received with what was mirrored (R537): each difference counts, and is recorded once for each source. -/
def inputCompare (s : State) (kind unit tol : Nat) (a b : Bytes) : State :=
  if !obsDiffer tol a b then s
  else
    let s := bump s cParInputDiffer
    let k := kind * 65536 + unit
    if s.par.differNoted.contains k then s
    else parEvent { s with par := { s.par with differNoted := k :: s.par.differNoted } } evInputDiffer kind 0 s.mram.token 0 unit

/-- The tolerance of a kind: converter results 64 LSB, feedback 2 counts (R537). -/
def inputTol (kind : Nat) : Nat := if kind = 0x0B then 64 else if kind = 0x0A then 2 else 0

/-- An input of source `kind` and `unit` is taken at `key` with observed numbers `obs` (R534, R537): its writes commit and are mirrored; a standby
compares it with the mirrored one. -/
def inputGroup (s : State) (kind unit key : Nat) (obs : List Int) (ws : List PWrite) : State :=
  let b := leBytes 1 obs.length ++ obs.flatMap (lesBytes 8)
  if s.par.standby then
    let s := inputKeep (if s.par.inStep then s else writeGroup s ws) true kind unit key b
    match mirrored s kind unit key with
    | some m => inputCompare s kind unit (inputTol kind) b m
    | none => s
  else mirrorInput (writeGroup s ws) kind unit (leBytes 8 key ++ b ++ ws.flatMap (writeBytes s))

/-- The inputs of a loop sample (R534, R535): the module in control mirrors them, a standby in step takes the mirrored ones. -/
def loopIns (s : State) (n t0 : Nat) (raw : List (Int × Bool)) : List (Int × Bool) × State :=
  if s.par.inStep then
    match mirrored s 0x08 n t0 with
    | some b => ((List.range 8).map fun i => (les b (9 * i) 8, bit (le b (9 * i + 8) 1) 0), s)
    | none => (raw, s)
  else (raw, mirrorInput s 0x08 n (leBytes 8 t0 ++ (List.range 8).flatMap fun i =>
    lesBytes 8 (raw.getD i (0, false)).1 ++ leBytes 1 (b2n (raw.getD i (0, false)).2)))

/-- A mirrored input of writes reaches the standby (R535): it commits, and is compared with the own one. -/
def inputMirrored (s : State) (kind unit : Nat) (rec : Bytes) : State :=
  let key := le rec 0 8
  let n := le rec 8 1
  let b := slice rec 8 (1 + 8 * n)
  let w := rec.drop (9 + 8 * n)
  let s := writeGroup s ((chunks 25 (w.length / 25) w).map writeOf)
  let s := inputKeep s false kind unit key b
  match ((s.par.inputs.get ((kind * 65536 + unit) * 2 + 1)).find? (·.1 == key)).map (·.2) with
  | some o => inputCompare s kind unit (inputTol kind) o b
  | none => s

end Sys2Proof.Machine
end

