-- ==== Sys2Proof/Machine/TimeOps.lean ====
section
/-! DEFINITION. The Timeline's shared operations (01_timeline): time passing, opening an Epoch, entering a launch queue; and the end
of a host command (03_host_rings R116, R118). -/
namespace Sys2Proof.Machine
open Sys2Proof

/-- Units of the counter's least residue in one nanosecond: 2^32 binary fractions, each of 10^12 (ppt). -/
def tickUnit : Nat := 2 ^ 32 * 10 ^ 12

/-- One 4 ns edge of the TIME clock at the applied rate, resolved to 1 ppt (R32). -/
def tickTimeline (b : Tmb) : Tmb :=
  let total := (b.now * 2 ^ 32 + b.frac) * 10 ^ 12 + b.resid + (4 * 2 ^ 32 * (10 ^ 12 + b.rate)).toNat
  { b with now := total / tickUnit, frac := (total / 10 ^ 12) % 2 ^ 32, resid := total % 10 ^ 12 }

/-- The block idles: one edge of the TIME clock, where the control die runs (R32, R561). -/
def idle (s : State) : State := if s.pwr.up then { s with tmb := tickTimeline s.tmb } else s

/-- An event of the Timeline block: Epoch, offset, source code, pin (R71). -/
def tmbEvent (s : State) (k : EvKind) (e : Int) (src pin : Nat) : State :=
  event s k [(4, curEpoch s), (8, e), (1, src), (2, pin)]

/-- Write a Timeline mark to the journal (R40). -/
def writeMark (s : State) : State :=
  { s with mram := { s.mram with
    mark := some ⟨s.tmb.now, curEpoch s, s.tmb.freqEst⟩
    epochs := s.tmb.epochs } }

/-- Open an Epoch now (R35, R38 to R40): its mark is journalled, the history block closes (R511), EPOCH_OPEN is recorded. -/
def openNow (s : State) (w : EpochWait) : State :=
  let s := histClose s true
  let c := s.tmb.epochs.headD default
  let e : Epoch := { c with
    number := c.number + 1
    reason := w.reason
    source := s.tmb.source
    taiValid := w.taiValid.getD c.taiValid
    domain := s.tmb.joined
    markLost := false
    timelineReset := false
    utcTai := w.utcTai.getD c.utcTai
    tStart := s.tmb.now
    taiOff := w.taiOff.getD c.taiOff
    domOff := w.domOff.getD c.domOff }
  let s := { s with tmb := { s.tmb with
    epochs := (e :: s.tmb.epochs).take 256
    lastOpen := some s.tmb.now
    wait := none
    domOff := e.domOff } }
  let s := writeMark s
  tmbEvent (bump s cTmbEpochOpened) evEpochOpen s.tmb.offset s.tmb.source 0

/-- The shortest time between two openings (R38). -/
def epochSpacing : Nat := 250000000

/-- A condition opens an Epoch, at once or at the end of the 250 ms wait, during which the Timeline runs at FREQ_EST (R38). -/
def openEpoch (s : State) (w : EpochWait) : State :=
  let early := match s.tmb.lastOpen with | some t => decide (s.tmb.now < t + epochSpacing) | none => false
  if s.tmb.wait.isSome || early then
    let p := s.tmb.wait.getD ⟨w.reason, none, none, none, none⟩
    { s with tmb := { s.tmb with
      rate := s.tmb.freqEst
      wait := some ⟨w.reason, w.taiOff <|> p.taiOff, w.taiValid <|> p.taiValid, w.utcTai <|> p.utcTai, w.domOff <|> p.domOff⟩ } }
  else openNow s w

/-- The TAI rendering of an instant in the current Epoch (R37). -/
def taiOf (s : State) (t : Int) : Int := t + (s.tmb.epochs.headD default).taiOff

/-- Enter a launch queue in order of INSTANT, after the entries of equal INSTANT (R59). -/
def lqInsert (e : LqEntry) : List LqEntry → List LqEntry
  | [] => [e]
  | h :: t => if h.instant ≤ e.instant then h :: lqInsert e t else e :: h :: t

/-- How an entry reaches its queue (R60). -/
inductive Arrival where
  | onTime | lateRun | lateDrop
  deriving DecidableEq, Repr

/-- Late: less than the block's minimum lead before its INSTANT, or after it (R60). -/
def arrival (s : State) (lead : Nat) (e : LqEntry) : Arrival :=
  if e.instant < s.tmb.now + lead then (if e.lateRun then .lateRun else .lateDrop) else .onTime

/-- Count and record a late entry of a block's queue (R60, R71). -/
def noteLate (s : State) (a : Arrival) (block queue : Nat) : State :=
  match a with
  | .onTime => s
  | .lateRun => tmbEvent (bump s cTmbLaunchLateRun) evLaunchLate 0 block queue
  | .lateDrop => tmbEvent (bump s cTmbLaunchLateDrop) evLaunchLate 0 block queue

/-- A launch queue entry as bytes lay it out; none when FINE or FLAGS holds a reserved bit (R57). -/
def lqParse (b : Bytes) : Option LqEntry :=
  let fine := le b 8 1
  let flags := le b 9 1
  if fine / 4 ≠ 0 ∨ flags / 2 ≠ 0 then none
  else some ⟨le b 0 8, fine, flags == 1, le b 10 2, le b 12 4, none⟩

/-- The command that awaits a launch ends. -/
def endLaunch (s : State) (e : LqEntry) (st : Status) (result : Nat) : State :=
  match e.cmd with
  | some h => endCmd s h st result 0
  | none => s

/-- A completed step. -/
def ok (s : State) : Res := .next s

/-- A write to a register of window `w` (R105): no effect while the window does not answer. -/
def regCmd (s : State) (w : Nat) (k : State → State) : Res := ok (if windowOpen s w then k s else s)

end Sys2Proof.Machine
end

