-- ==== Sys2Proof/Machine/Timeline.lean ====
section
/-! DEFINITION. The Timeline block's commands (01_timeline R32 to R66, R72, R608): the servo and its sources, Epochs, the wall clock,
PPS, the launch queue of the timed pins and the pins. -/
namespace Sys2Proof.Machine
open Sys2Proof

/-- ±200 ppm in ppt (R33). -/
def rateMax : Int := 200000000

/-- Whole-number division by 2^k, rounded down or up as a free value says: the manual states no rounding of FREQ_EST (R43). -/
def shiftFree (s : State) (v : Int) (k : Nat) : Int × State :=
  let d : Int := (2 ^ k : Nat)
  if v % d = 0 then (v / d, s)
  else
    let (f, s) := drawFree s
    (v / d + (if f.getLsbD 0 then 1 else 0), s)

/-- The source codes of TMB_SRC_PRIO in order, up to NONE (R50). -/
def srcList (s : State) : List Nat :=
  [fld s fTmbSrcPrioSrc0, fld s fTmbSrcPrioSrc1, fld s fTmbSrcPrioSrc2, fld s fTmbSrcPrioSrc3].takeWhile (· != 0)

/-- A source of the list that may be used: valid and not rejected (R50, R56). -/
def srcUsable (s : State) (c : Nat) : Bool :=
  (s.tmb.sources.get c).valid && decide ((s.tmb.sources.get c).rejectedUntil ≤ s.tmb.now)

/-- Make a source the active one, 0 for none (R45, R50). -/
def setSource (s : State) (c : Nat) : State :=
  if c = s.tmb.source then s
  else
    let s := { s with tmb := { s.tmb with
      source := c
      lockRun := 0
      gathered := []
      lastF := none
      satSince := none
      state := if s.tmb.state = .confirming then .acquiring else s.tmb.state } }
    let s := tmbEvent s evSourceChange 0 c 0
    if c ≠ 0 then s
    else
      let s := { s with tmb := { s.tmb with state := .holdover, rate := s.tmb.freqEst } }
      tmbEvent (bump s cTmbHoldoverEntered) evHoldoverEnter s.tmb.offset 0 0

/-- Ten seconds, in ns (R50, R56). -/
def tenSeconds : Nat := 10000000000

/-- Choose the active source (R50): the first valid one after a loss; a higher-priority one once it has been valid for 10 s. -/
def reselect (s : State) : State :=
  let l := srcList s
  if s.tmb.source ≠ 0 ∧ l.contains s.tmb.source ∧ srcUsable s s.tmb.source then
    match (l.takeWhile (· != s.tmb.source)).find? (fun c => srcUsable s c &&
        decide (max (s.tmb.sources.get c).since (s.tmb.sources.get c).rejectedUntil + tenSeconds ≤ s.tmb.now)) with
    | some c => setSource s c
    | none => s
  else setSource s ((l.find? (srcUsable s)).getD 0)

/-- A valid measurement keeps its source valid (R45, R50). -/
def sourceSeen (s : State) (c : Nat) : State :=
  { s with tmb := { s.tmb with sources := s.tmb.sources.upd c (fun x => { x with
    valid := true
    since := if x.valid then x.since else s.tmb.now
    lastMeas := s.tmb.now }) } }

/-- A source becomes invalid (R45). -/
def sourceLost (s : State) (c : Nat) : State :=
  reselect { s with tmb := { s.tmb with sources := s.tmb.sources.upd c (fun x => { x with valid := false }) } }

/-- Set the applied rate, and watch for it to be held at the limit (R43, R56). -/
def setRate (s : State) (r : Int) : State :=
  let r := clampI (-rateMax) rateMax r
  { s with tmb := { s.tmb with
    rate := r
    satSince := if r = rateMax ∨ r = -rateMax then some (s.tmb.satSince.getD s.tmb.now) else none } }

/-- The gathered outliers are discarded (R46). -/
def dropGathered (s : State) : State :=
  let s := bumpN s cTmbJumpRejected s.tmb.gathered.length
  { s with tmb := { s.tmb with gathered := [] } }

/-- A first valid measurement ends HOLDOVER (R45). -/
def leaveHoldover (s : State) (e : Int) : State :=
  if s.tmb.state = .holdover then
    tmbEvent { s with tmb := { s.tmb with state := .acquiring, lockRun := 0, gathered := [] } } evHoldoverExit e s.tmb.source 0
  else s

/-- A measurement within STEP_LIMIT (R43, R44) that corrects the rate by `c` ppt. -/
def steerBy (s : State) (e c : Int) : State :=
  let run := if e.natAbs ≤ 1000 then s.tmb.lockRun + 1 else 0
  let st : TimeState :=
    if s.tmb.state = .locked then (if 10000 < e.natAbs then .acquiring else .locked)
    else if 4 ≤ run then .locked else .acquiring
  let s := { s with tmb := { s.tmb with lockRun := run, state := st } }
  let s := setRate s (s.tmb.freqEst - c)
  if st = .locked then
    let (d, s) := shiftFree s (s.tmb.rate - s.tmb.freqEst) (fld s fTmbServoKiShift)
    { s with tmb := { s.tmb with freqEst := s.tmb.freqEst + d } }
  else s

/-- A measurement within STEP_LIMIT in an Epoch with TAI_VALID (R43). -/
def steer (s : State) (e : Int) : State := steerBy s e ((fld s fTmbServoKp : Int) * 250 * e)

/-- A measurement beyond STEP_LIMIT (R46): gathered, and confirmed by JUMP_CONFIRM that agree. -/
def offLimit (s : State) (e : Int) (lim : Nat) : State :=
  let s := if s.tmb.gathered.all (fun g => decide ((g - e).natAbs ≤ lim)) then s else dropGathered s
  let s := { s with tmb := { s.tmb with
    state := .confirming
    rate := s.tmb.freqEst
    satSince := none
    lockRun := 0
    gathered := s.tmb.gathered ++ [e] } }
  if fld s fTmbServoJumpConfirm ≤ s.tmb.gathered.length then
    let c := s.tmb.epochs.headD default
    let s := bump { s with tmb := { s.tmb with gathered := [], state := .acquiring } } cTmbJumpConfirmed
    openEpoch s ⟨if c.taiValid then .masterJump else .acquire, some (c.taiOff - e), some true, none, none⟩
  else s

/-- A valid measurement of offset `e` from a source (R43 to R46): it keeps the source valid, and steers when the source is the
active one. While an Epoch waits to open, the Timeline runs at FREQ_EST (R38). -/
def measure (s : State) (src : Nat) (e : Int) : State :=
  if s.tmb.now < (s.tmb.sources.get src).rejectedUntil then s
  else
    let s := sourceSeen s src
    let s := if s.tmb.source = 0 then reselect s else s
    if s.tmb.source ≠ src then s
    else
      let s := { s with tmb := { s.tmb with offset := e } }
      let s := leaveHoldover s e
      if s.tmb.wait.isSome then s
      else
        let lim := fld s fTmbStepLimitNs
        if lim < e.natAbs then offLimit s e lim
        else
          let s := if s.tmb.state = .confirming then dropGathered { s with tmb := { s.tmb with state := .acquiring } } else s
          let c := s.tmb.epochs.headD default
          if c.taiValid then steer s e
          else
            openEpoch { s with tmb := { s.tmb with state := .acquiring, lockRun := 0 } }
              ⟨.acquire, some (c.taiOff - e), some true, none, none⟩

/-- The measurement interval of a source, in ns (R45, R50). -/
def measInterval (s : State) (src : Nat) : Nat :=
  match src with
  | 1 | 2 =>
    let l := signed 8 (fld s fTmbPtpIntvLogSync)
    if l < 0 then 1000000000 / 2 ^ (-l).toNat else 1000000000 * 2 ^ l.toNat
  | 3 => 100000
  | _ => 1000000000

/-! ### Commands of time and Epochs -/

/-- TIMELINE_MARK_WRITE (R40): the 10 ms mark, at Timeline `t`. -/
def execTimelineMarkWrite (t : Nat) (s : State) : Res := ok (writeMark (advance s t))

/-- A read of TMB_NOW_LO (R34): a snapshot 0 ns to 12 ns old (the lag is a free value), HI and FRAC latched from the same edge. -/
def tmbNowRead (s : State) : State :=
  let (f, s) := drawFree s
  let total := s.tmb.now * 2 ^ 32 + s.tmb.frac
  let snap := total - f.toNat % (12 * 2 ^ 32 + 1)
  { s with
    tmb := { s.tmb with latchHi := snap / 2 ^ 64 % 2 ^ 32, latchFrac := snap % 2 ^ 32 }
    rdata := BitVec.ofNat 32 (snap / 2 ^ 32) }

/-- TMB_NOW_READ (R34). -/
def execTmbNowRead (s : State) : Res := ok (if windowOpen s 2 then tmbNowRead s else { s with rdata := 0 })

/-- TMB_WALL_APPLY (R48). -/
def wallApply (s : State) : State :=
  if s.tmb.state = .free ∨ s.tmb.state = .holdover ∨ s.tmb.source = 6 then
    let at' : Nat := fld s fTmbWallAtLoValue + fld s fTmbWallAtHiValue * 2 ^ 32
    let tai : Nat := fld s fTmbWallTaiLoValue + fld s fTmbWallTaiHiValue * 2 ^ 32
    openEpoch { s with tmb := { s.tmb with wallStatus := .ok } } ⟨.wallSet, some ((tai : Int) - at'), some true, none, none⟩
  else
    tmbEvent (bump { s with tmb := { s.tmb with wallStatus := .state } } cTmbWallSetRefused) evWallSetRefused 0 s.tmb.source 0

/-- TMB_WALL_APPLY (R48). -/
def execTmbWallApply (s : State) : Res := regCmd s 2 wallApply

/-- EPOCH_WAIT_END (R38): 250 ms after the last opening the waiting conditions open one Epoch. -/
def execEpochWaitEnd (s : State) : Res :=
  match s.tmb.wait with
  | none => ok s
  | some w =>
    let s := advance s (s.tmb.lastOpen.getD 0 + epochSpacing)
    ok (openNow s w)

/-- SYNC_MISSING (R45): no scheduled measurement for 1.5 intervals; the correction becomes 0. -/
def execSyncMissing (t : Nat) (s : State) : Res :=
  let s := advance s t
  if s.tmb.source ≠ 0 ∧ (s.tmb.sources.get s.tmb.source).lastMeas + measInterval s s.tmb.source * 3 / 2 ≤ s.tmb.now then
    ok { s with tmb := { s.tmb with rate := s.tmb.freqEst, satSince := none } }
  else ok s

/-- SOURCE_LOSS_TIMEOUT (R45): LOSS_MS without a valid measurement from a source. -/
def execSourceLossTimeout (src t : Nat) (s : State) : Res :=
  let s := advance s t
  let x := s.tmb.sources.get src
  if x.valid ∧ x.lastMeas + fld s fTmbLossTimeoutLossMs * 1000000 ≤ s.tmb.now then ok (sourceLost s src) else ok s

/-- RATE_SATURATION_TIMEOUT (R56): the rate held at ±200 ppm for 10 s rejects the source for 60 s. -/
def execRateSaturationTimeout (s : State) : Res :=
  match s.tmb.satSince with
  | none => ok s
  | some t0 =>
    let c := s.tmb.source
    if c = 0 then ok s
    else
      let s := advance s (t0 + tenSeconds)
      let s := { s with tmb := { s.tmb with sources := s.tmb.sources.upd c (fun x => { x with rejectedUntil := s.tmb.now + 60000000000 }) } }
      ok (reselect (tmbEvent (bump s cTmbSrcRejected) evSourceRejected s.tmb.offset c 0))

/-- SOURCE_REJECT_EXPIRY (R56): the 60 s of a rejection end. -/
def execSourceRejectExpiry (src : Nat) (s : State) : Res :=
  let x := s.tmb.sources.get src
  if x.rejectedUntil = 0 then ok s
  else
    let s := advance s x.rejectedUntil
    ok (reselect { s with tmb := { s.tmb with sources := s.tmb.sources.upd src (fun x => { x with
      since := x.rejectedUntil, rejectedUntil := 0 }) } })

/-- SOURCE_RETURN (R50): a higher-priority source has been valid for 10 s. -/
def execSourceReturn (t : Nat) (s : State) : Res := ok (reselect (advance s t))

/-- An edge of PPS_IN is missing (R52, R56): counted and recorded once. -/
def ppsMiss (s : State) : State :=
  if s.tmb.ppsMissed then s
  else tmbEvent (bump { s with tmb := { s.tmb with ppsMissed := true } } cTmbPpsMissing) evPpsFault 0 s.tmb.source 0

/-- PPS_IN_EDGE (R52): an edge of PPS_IN at Timeline `t`; `refOk`: REF10M_IN is present and within 100 ppm. -/
def execPpsInEdge (t : Nat) (falling refOk : Bool) (s : State) : Res :=
  let s := advance s t
  if falling != flag s fTmbPpsCfgInEdge then ok s
  else if (match s.tmb.ppsLast with | some l => decide (t < l + 999900000) | none => false) then ok s
  else
    let late : Bool := match s.tmb.ppsLast with | some l => decide (l + 1000100000 < t) | none => false
    let s := if late then ppsMiss s else s
    let e := taiOf s t - (s.tmb.ppsLabel : Int) * 1000000000
    let s := { s with tmb := { s.tmb with ppsLast := some t, ppsMissed := false, ppsLabel := (s.tmb.ppsLabel + 1) % 2 ^ 64, ref10m := refOk } }
    let s := if refOk then measure s 4 e else s
    ok (measure s 5 e)

/-- PPS_MISSING (R52, R56): no edge within 1,000,100 µs of the previous one. -/
def execPpsMissing (s : State) : Res :=
  match s.tmb.ppsLast with
  | none => ok s
  | some l => ok (ppsMiss (advance s (l + 1000100000)))

/-- REF10M_LOSS (R52, R56): REF10M_IN absent or off frequency. -/
def execRef10mLoss (s : State) : Res :=
  let s := { s with tmb := { s.tmb with ref10m := false } }
  let s := tmbEvent (bump s cTmbRef10mLoss) evRef10mLoss 0 s.tmb.source 0
  let s := { s with tmb := { s.tmb with
    sources := (s.tmb.sources.upd 4 (fun x => { x with valid := false })).upd 6 (fun x => { x with valid := false }) } }
  ok (reselect s)

/-- REF_ONLY_MEASUREMENT (R608): `f` ppt, the Timeline's rate against REF10M_IN. -/
def execRefOnlyMeasurement (t : Nat) (f : Int) (s : State) : Res :=
  let s := advance s t
  if s.tmb.now < (s.tmb.sources.get 6).rejectedUntil then ok s
  else
    let s := sourceSeen { s with tmb := { s.tmb with ref10m := true } } 6
    let s := if s.tmb.source = 0 then reselect s else s
    if s.tmb.source ≠ 6 then ok s
    else
      let first : Bool := decide (s.tmb.state = .free ∨ s.tmb.state = .holdover)
      let s := if s.tmb.state = .holdover then tmbEvent s evHoldoverExit 0 6 0 else s
      let near : Bool := match s.tmb.lastF with | some p => decide ((f - p).natAbs ≤ 10000) | none => false
      let far : Bool := match s.tmb.lastF with | some p => decide (100000 < (f - p).natAbs) | none => false
      let run := if near then s.tmb.lockRun + 1 else 0
      let st : TimeState :=
        if first || far then .acquiring
        else if s.tmb.state = .locked then .locked
        else if 4 ≤ run then .locked else .acquiring
      let r := clampI (-rateMax) rateMax f
      ok { s with tmb := { s.tmb with
        lockRun := if first then 0 else run
        lastF := some f
        state := st
        rate := r
        freqEst := r
        satSince := none } }

/-- PPS_OUT_RISE (R53): at an instant whose rendering is a whole TAI second, or a whole second of the Timeline without TAI. -/
def execPpsOutRise (t : Nat) (s : State) : Res :=
  let s := advance s t
  let whole : Bool := if (s.tmb.epochs.headD default).taiValid then decide (taiOf s s.tmb.now % 1000000000 = 0)
    else decide (s.tmb.now % 1000000000 = 0)
  if flag s fTmbPpsCfgOutEn && whole then ok { s with tmb := { s.tmb with ppsOut := true, ppsRise := s.tmb.now } } else ok s

/-- PPS_OUT_FALL (R53): OUT_WIDTH × 1 µs after the rise. -/
def execPpsOutFall (t : Nat) (s : State) : Res :=
  let s := advance s t
  if s.tmb.ppsRise + fld s fTmbPpsCfgOutWidth * 1000 ≤ s.tmb.now then ok { s with tmb := { s.tmb with ppsOut := false } } else ok s

/-! ### Timed pins -/

/-- The minimum lead of the timed-pin queue, ns (R58). -/
def tmbLead : Nat := 100

/-- The action codes and TAG rules of the timed-pin queue (R64). -/
def tioEntryOk (e : LqEntry) : Bool :=
  decide (e.action ≤ 4) && !bit e.tag 7 && !(e.action == 4 && decide (e.tag / 256 = 0))

/-- The pin an entry names (R64). -/
def tioPinOf (e : LqEntry) : Nat := e.tag % 128

/-- Drive a pin to a logical level; INV inverts it at the ball (R65). A standby drives none (R537). -/
def tioDrive (s : State) (p : Nat) (logical : Bool) : State :=
  if s.par.standby then s
  else pinState { s with tmb := { s.tmb with tio := s.tmb.tio.upd p (fun x => { x with level := some (logical != flag s (fTmbTioCfgInv p)) }) } }

/-- Another action of the queue on the same pin supersedes this one: later by less than 2.5 ns (R65); quarter ns. -/
def supersededBy (l : List LqEntry) (p q : Nat) : Bool :=
  l.any fun x => x.action != 0 && tioPinOf x == p && decide (q ≤ x.instant * 4 + x.fine) && decide (x.instant * 4 + x.fine < q + 10)

/-- An action launches on its pin at quarter-ns instant `q` (R64, R65). -/
def tioAct (s : State) (e : LqEntry) (q : Nat) : State :=
  if e.action = 0 then s
  else
    let p := tioPinOf e
    let x := s.tmb.tio.get p
    let early : Bool := match x.lastAction with | some a => decide (q < a ∧ a < q + 10) | none => false
    if fld s (fTmbTioCfgMode p) ≠ 1 ∨ supersededBy s.tmb.lq p q ∨ early then bump s cTmbLaunchSuperseded
    else
      let s := { s with tmb := { s.tmb with tio := s.tmb.tio.upd p (fun x => { x with trailing := none, lastAction := some q }) } }
      match e.action with
      | 1 => tioDrive s p false
      | 2 => tioDrive s p true
      | 3 => pinState { s with tmb := { s.tmb with tio := s.tmb.tio.upd p (fun x => { x with level := x.level.map (!·) }) } }
      | _ =>
        let s := tioDrive s p true
        { s with tmb := { s.tmb with tio := s.tmb.tio.upd p (fun x => { x with trailing := some (q + e.tag / 256 * 16) }) } }

/-- Enter an entry into the timed-pin queue (R57, R60, R61, R64): its status. A late entry runs at once or is discarded. -/
def tioEnqueue (s : State) (e : LqEntry) : State × Status :=
  if !tioEntryOk e then (s, .badField)
  else
    let a := arrival s tmbLead e
    let s := noteLate s a 2 0
    match a with
    | .onTime =>
      if 4096 ≤ s.tmb.lq.length then (s, .noResource)
      else ({ s with tmb := { s.tmb with lq := lqInsert e s.tmb.lq } }, .ok)
    | .lateRun => let (s, go) := outward s s.tmb.now; (if go then tioAct s e (s.tmb.now * 4 + e.fine) else s, .ok)
    | .lateDrop => (s, .timeout)

/-- TMB_LQ_PUSH (R57): enqueue the entry of TMB_LQ_ENTRY; the status goes to TMB_LQ_STATUS.LAST. -/
def lqPush (s : State) : State :=
  let b := (List.range 4).flatMap fun i => leBytes 4 (fld s (fTmbLqEntryWord i))
  match lqParse b with
  | none => { s with tmb := { s.tmb with lqLast := .badField } }
  | some e =>
    let (s, st) := tioEnqueue s e
    { s with tmb := { s.tmb with lqLast := st } }

/-- TMB_LQ_PUSH (R57). -/
def execTmbLqPush (s : State) : Res := regCmd s 2 lqPush

/-- The front entry of the timed-pin queue launches, when its action is `a` (R58, R59, R64). -/
def tioLaunch (a : Nat) (s : State) : State :=
  match s.tmb.lq with
  | [] => s
  | e :: t =>
    if e.action ≠ a then s
    else
      let s := advance { s with tmb := { s.tmb with lq := t } } e.instant
      let (s, go) := outward s e.instant
      endLaunch (if go then tioAct s e (e.instant * 4 + e.fine) else s) e .ok 0

/-- TIO_NOP (R64): no effect on any pin. -/
def execTioNop (s : State) : Res := ok (tioLaunch 0 s)
/-- SET_LOW (R64). -/
def execSetLow (s : State) : Res := ok (tioLaunch 1 s)
/-- SET_HIGH (R64). -/
def execSetHigh (s : State) : Res := ok (tioLaunch 2 s)
/-- TOGGLE (R64). -/
def execToggle (s : State) : Res := ok (tioLaunch 3 s)
/-- PULSE (R64). -/
def execPulse (s : State) : Res := ok (tioLaunch 4 s)

/-- PULSE_TRAILING_EDGE (R65): the pin goes to its low level, unless the edge was cancelled or is superseded. -/
def execPulseTrailingEdge (p : Nat) (s : State) : Res :=
  match (s.tmb.tio.get p).trailing with
  | none => ok s
  | some q =>
    let s := advance s (q / 4)
    let s := { s with tmb := { s.tmb with tio := s.tmb.tio.upd p (fun x => { x with trailing := none }) } }
    if fld s (fTmbTioCfgMode p) ≠ 1 ∨ supersededBy s.tmb.lq p q then ok (bump s cTmbLaunchSuperseded)
    else ok (tioDrive s p false)

/-- TIO_CFG_WRITE (R63, TMB_TIO_CFG): a write of a pin's configuration word. -/
def tioCfgWrite (p : Nat) (v : Word) (s : State) : State :=
  let n := v.toNat
  let old := fld s (fTmbTioCfgMode p)
  let inv := flag s (fTmbTioCfgInv p)
  let want := n % 4
  let claimed := (s.tmb.tio.get p).claimed.isSome
  let mode := if want = 3 then old else if claimed ∧ want ≠ 0 then old else want
  let s := setFld s (fTmbTioCfgMode p) mode
  let s := setFld s (fTmbTioCfgEdge p) (bits n 3 2)
  let s := setFld s (fTmbTioCfgIdle p) (bits n 4 4)
  let s := setFld s (fTmbTioCfgInv p) (bits n 5 5)
  let s := if bit n 23 then setFld s (fTmbTioCfgOvf p) 0 else s
  if mode = 1 ∧ old ≠ 1 then tioDrive s p (flag s (fTmbTioCfgIdle p))
  else if mode ≠ 1 ∧ old = 1 then
    pinState { s with tmb := { s.tmb with tio := s.tmb.tio.upd p (fun x => { x with level := none }) } }
  else if mode = 1 ∧ flag s (fTmbTioCfgInv p) ≠ inv then
    pinState { s with tmb := { s.tmb with tio := s.tmb.tio.upd p (fun x => { x with level := x.level.map (!·) }) } }
  else s

/-- TIO_CFG_WRITE (R63). -/
def execTioCfgWrite (p : Nat) (v : Word) (s : State) : Res :=
  if p < 128 then regCmd s 2 (tioCfgWrite p v) else ok s

/-- An edge on a STAMP pin that cannot be stamped (R66). -/
def stampLost (s : State) (p : Nat) : State :=
  setFld (tmbEvent (bump s cTmbStampLost) evStampLost 0 0 p) (fTmbTioCfgOvf p) 1

/-- A logical edge of a pin is stamped (R66), and mirrored in a pair (R534). -/
def stampTake (s : State) (p q : Nat) (falling : Bool) : State :=
  let x := s.tmb.tio.get p
  let close : Bool := match x.lastStamp with | some l => decide (q < l + 40) | none => false
  if close ∨ 64 ≤ x.fifo.length then stampLost s p
  else
    let s := { s with tmb := { s.tmb with tio := s.tmb.tio.upd p (fun x => { x with
      lastStamp := some q
      fifo := x.fifo ++ [⟨q / 4, q % 4, falling, curEpoch s % 256⟩] }) } }
    capPinEdge (mirrorInput s 0x02 p (leBytes 8 q ++ leBytes 1 (b2n falling))) p q

/-- TIO_STAMP_EDGE (R66): an edge at the ball of pin `p` at `q` quarter ns; INV makes the logical edge. -/
def tioStampEdge (p q : Nat) (ballFalling : Bool) (s : State) : State :=
  let s := advance s (q / 4)
  let falling := ballFalling != flag s (fTmbTioCfgInv p)
  let sel := fld s (fTmbTioCfgEdge p)
  if s.par.inStep ∨ fld s (fTmbTioCfgMode p) ≠ 2 ∨ !(if falling then bit sel 1 else bit sel 0) then s
  else stampTake s p q falling

/-- TIO_STAMP_EDGE (R66). -/
def execTioStampEdge (p q : Nat) (ballFalling : Bool) (s : State) : Res := if p < 128 then ok (tioStampEdge p q ballFalling s) else ok s

/-- A read of NS_LO (TMB_TIO_STAMP) pops the FIFO and latches the rest. -/
def tioStampPop (p : Nat) (s : State) : State :=
  let x := s.tmb.tio.get p
  match x.fifo with
  | [] => { s with tmb := { s.tmb with tio := s.tmb.tio.upd p (fun x => { x with latch := none }) }, rdata := 0 }
  | h :: t => { s with
      tmb := { s.tmb with tio := s.tmb.tio.upd p (fun x => { x with fifo := t, latch := some h }) }
      rdata := BitVec.ofNat 32 h.ns }

/-- TIO_STAMP_POP (TMB_TIO_STAMP). -/
def execTioStampPop (p : Nat) (s : State) : Res :=
  ok (if windowOpen s 2 && decide (p < 128) then tioStampPop p s else { s with rdata := 0 })

/-! ### The commit -/

/-- The checks of a TMB commit: reserved source codes, and the stated limits of each field (R24, R72). -/
def tmbCommitCheck (s : State) : Status :=
  let codes := [sfld s fTmbSrcPrioSrc0, sfld s fTmbSrcPrioSrc1, sfld s fTmbSrcPrioSrc2, sfld s fTmbSrcPrioSrc3]
  let ls := signed 8 (sfld s fTmbPtpIntvLogSync)
  let la := signed 8 (sfld s fTmbPtpIntvLogAnnounce)
  let ld := signed 8 (sfld s fTmbPtpIntvLogDelay)
  if codes.any (fun c => decide (6 < c)) then .badField
  else if sfld s fTmbStepLimitNs < 1000 ∨ 1000000000 < sfld s fTmbStepLimitNs then .range
  else if sfld s fTmbServoKp = 0 ∨ sfld s fTmbServoKiShift = 0 ∨ sfld s fTmbServoJumpConfirm = 0 then .range
  else if sfld s fTmbLossTimeoutLossMs < 10 ∨ 60000 < sfld s fTmbLossTimeoutLossMs then .range
  else if ls < -7 ∨ 0 < ls ∨ la < -3 ∨ 4 < la ∨ ld < -4 ∨ 4 < ld then .range
  else if sfld s fTmbPpsCfgOutWidth = 0 then .range
  else .ok

/-- UTC_TAI comes from the PTP master: its Announce states a valid currentUtcOffset (R49). -/
def utcFromPtp (s : State) : Bool := (s.tmb.source == 1 || s.tmb.source == 2) && s.tmb.ptp.announceMaster.isSome && s.tmb.ptp.utcValid

/-- What a TMB commit does beside putting the staged fields into force: the PPS label (R52), UTC_TAI (R49), the source (R50). -/
def tmbCommitApply (s : State) : State :=
  let label := (s.staged.get fTmbPpsTaiLoSec.addr).isSome || (s.staged.get fTmbPpsTaiHiSec.addr).isSome
  let s := applyStaged s 2
  let s := if label then
    { s with tmb := { s.tmb with ppsLabel := fld s fTmbPpsTaiLoSec + fld s fTmbPpsTaiHiSec * 2 ^ 32 } } else s
  let utc := signed 8 (fld s fTmbUtcTaiSec)
  let s := if utc ≠ (s.tmb.epochs.headD default).utcTai ∧ !utcFromPtp s then
    openEpoch s ⟨.leap, none, none, some utc, none⟩ else s
  reselect s

end Sys2Proof.Machine
end

