-- ==== Sys2Proof/Machine/HostIf.lean ====
section
/-! DEFINITION. The host interface (03_host_rings R102 to R138): opcode table, descriptor checks, rings, fetch, completions, version
negotiation, interrupts, and how an opcode's command starts and ends. -/
namespace Sys2Proof.Machine
open Sys2Proof

/-- What an opcode's data buffer must measure (R127): none, exactly `n`, `n` for each of ARG entries, at least `n`, any length above 0. -/
inductive DataRule where
  | none | exact (n : Nat) | perArg (n : Nat) | atLeast (n : Nat) | any
  deriving DecidableEq, Repr

/-- An opcode (R127): the first version that has it, whether it is sliced, the parameters it uses (UNIT, ARG, ARG2, ADDR2, INSTANT),
its data rule, the highest UNIT, and whether it is mirrored in a pair (R119). -/
structure OpInfo where
  since : Nat
  sliced : Bool
  useU : Bool
  useA : Bool
  useA2 : Bool
  useX : Bool
  useI : Bool
  data : DataRule
  unitMax : Nat
  deriving DecidableEq, Repr

/-- The opcode table (R127). -/
def opInfo : Nat → Option OpInfo
  | 0x00 => some ⟨0x0100, false, false, false, false, false, false, .none, 0⟩
  | 0x01 => some ⟨0x0100, false, true, true, true, false, false, .none, 0xFFFFFFFF⟩
  | 0x02 => some ⟨0x0100, false, false, false, false, false, false, .atLeast 48, 0⟩
  | 0x10 => some ⟨0x0100, true, false, true, true, true, false, .perArg 4, 0⟩
  | 0x11 => some ⟨0x0100, true, false, true, false, false, false, .perArg 32, 0⟩
  | 0x12 => some ⟨0x0100, true, false, true, false, true, false, .perArg 64, 0⟩
  | 0x13 => some ⟨0x0100, true, true, false, false, false, false, .any, 1⟩
  | 0x14 => some ⟨0x0100, true, true, true, false, true, false, .perArg 4, 127⟩
  | 0x15 => some ⟨0x0100, true, true, true, false, true, false, .perArg 4, 127⟩
  | 0x16 => some ⟨0x0100, false, true, false, false, false, false, .none, 127⟩
  | 0x17 => some ⟨0x0101, false, true, false, false, false, false, .none, 127⟩
  | 0x18 => some ⟨0x0100, true, false, true, false, false, false, .perArg 32, 0⟩
  | 0x19 => some ⟨0x0100, true, false, true, true, false, false, .perArg 4, 0⟩
  | 0x1A => some ⟨0x0100, true, false, false, false, true, false, .atLeast 0, 0⟩
  | 0x20 => some ⟨0x0100, true, true, false, false, false, false, .any, 1⟩
  | 0x21 => some ⟨0x0100, false, true, false, false, false, true, .none, 1⟩
  | 0x22 => some ⟨0x0100, false, false, false, false, false, true, .none, 0⟩
  | 0x23 => some ⟨0x0100, false, true, true, false, false, false, .any, 1⟩
  | 0x24 => some ⟨0x0100, false, false, false, false, false, false, .none, 0⟩
  | 0x25 => some ⟨0x0100, false, false, false, false, false, false, .none, 0⟩
  | 0x26 => some ⟨0x0100, true, false, false, false, false, false, .any, 0⟩
  | 0x30 => some ⟨0x0100, true, true, false, false, false, false, .any, 63⟩
  | 0x31 => some ⟨0x0100, false, true, true, false, false, true, .none, 63⟩
  | 0x32 => some ⟨0x0100, false, true, false, false, false, true, .none, 63⟩
  | 0x33 => some ⟨0x0100, false, true, true, false, false, false, .none, 63⟩
  | 0x34 => some ⟨0x0100, false, true, false, false, false, true, .none, 63⟩
  | 0x35 => some ⟨0x0100, false, true, true, false, false, false, .none, 63⟩
  | 0x38 => some ⟨0x0100, false, true, false, false, false, false, .any, 1023⟩
  | 0x39 => some ⟨0x0100, false, true, true, true, false, true, .none, 1023⟩
  | 0x3A => some ⟨0x0101, false, true, false, false, false, false, .exact 64, 1023⟩
  | 0x3B => some ⟨0x0101, false, true, false, false, false, false, .atLeast 96, 1023⟩
  | 0x3C => some ⟨0x0101, false, true, false, false, false, true, .none, 1023⟩
  | 0x40 => some ⟨0x0100, false, true, false, false, false, false, .exact 128, 63⟩
  | 0x41 => some ⟨0x0100, true, true, false, false, false, false, .any, 63⟩
  | 0x42 => some ⟨0x0100, false, true, false, false, false, true, .none, 63⟩
  | 0x43 => some ⟨0x0100, false, true, true, false, false, false, .none, 63⟩
  | 0x44 => some ⟨0x0100, false, true, true, false, false, false, .none, 63⟩
  | 0x45 => some ⟨0x0100, false, true, true, false, false, false, .none, 63⟩
  | 0x46 => some ⟨0x0100, false, true, false, false, false, false, .exact 64, 31⟩
  | 0x47 => some ⟨0x0100, false, true, false, false, false, false, .any, 31⟩
  | 0x48 => some ⟨0x0100, false, true, false, false, false, false, .any, 0xFFFFFFFF⟩
  | 0x49 => some ⟨0x0100, true, false, true, false, false, false, .none, 0⟩
  | 0x4A => some ⟨0x0100, false, true, false, false, false, false, .exact 64, 15⟩
  | 0x4B => some ⟨0x0101, false, true, false, false, false, false, .any, 15⟩
  | 0x4C => some ⟨0x0100, false, true, false, false, false, true, .none, 15⟩
  | 0x4D => some ⟨0x0100, true, true, true, true, false, false, .atLeast 0, 15⟩
  | 0x50 => some ⟨0x0100, false, true, false, false, false, false, .exact 64, 7⟩
  | 0x51 => some ⟨0x0100, false, true, false, false, false, false, .any, 7⟩
  | 0x52 => some ⟨0x0100, false, true, false, false, false, true, .exact 80, 7⟩
  | 0x53 => some ⟨0x0100, false, true, true, false, false, false, .none, 7⟩
  | 0x54 => some ⟨0x0100, false, true, false, false, false, false, .exact 32, 3⟩
  | 0x55 => some ⟨0x0100, true, false, false, false, false, false, .any, 0⟩
  | 0x58 => some ⟨0x0100, false, true, true, true, false, false, .perArg 16, 0xFFFFFFFF⟩
  | 0x60 => some ⟨0x0100, true, false, true, true, false, false, .atLeast 0, 0⟩
  | 0x61 => some ⟨0x0100, false, false, false, false, false, false, .none, 0⟩
  | 0x62 => some ⟨0x0100, false, false, false, false, false, false, .none, 0⟩
  | 0x63 => some ⟨0x0100, false, false, false, false, false, false, .exact 64, 0⟩
  | 0x64 => some ⟨0x0100, false, false, false, false, false, false, .exact 64, 0⟩
  | 0x65 => some ⟨0x0100, false, false, false, false, false, false, .none, 0⟩
  | 0x66 => some ⟨0x0101, true, false, false, true, false, false, .atLeast 0, 0⟩
  | 0x68 => some ⟨0x0200, false, false, false, false, false, true, .none, 0⟩
  | 0x69 => some ⟨0x0200, true, false, false, false, false, false, .none, 0⟩
  | 0x70 => some ⟨0x0100, true, false, false, false, false, false, .any, 0⟩
  | 0x71 => some ⟨0x0100, false, false, false, false, false, false, .none, 0⟩
  | 0x72 => some ⟨0x0100, false, false, true, false, false, false, .none, 0⟩
  | 0x73 => some ⟨0x0200, false, false, true, false, true, false, .exact 32, 0⟩
  | 0x74 => some ⟨0x0100, false, false, false, false, false, false, .atLeast 1920, 0⟩
  | 0x75 => some ⟨0x0100, true, false, true, true, false, false, .atLeast 0, 0⟩
  | 0x76 => some ⟨0x0100, false, false, false, false, false, false, .exact 2852, 0⟩
  | _ => Option.none

/-- The mirrored opcodes (R119): 0x11, 0x13, 0x18, 0x19, and 0x20 to 0x5F but LOOP_TUNE_READ and CAP_READ. -/
def opMirrored (op : Nat) : Bool :=
  [0x11, 0x13, 0x18, 0x19].contains op || (decide (0x20 ≤ op) && decide (op ≤ 0x5F) && op != 0x3B && op != 0x4D)

/-- The unit group a sliced opcode occupies (R126): a group number and whether UNIT selects within it. -/
def opOccupies : Nat → Option (Nat × Bool)
  | 0x13 | 0x20 => some (1, true)
  | 0x14 | 0x15 => some (2, true)
  | 0x26 => some (3, false)
  | 0x30 => some (4, true)
  | 0x41 => some (5, true)
  | 0x55 => some (6, false)
  | 0x49 => some (7, false)
  | 0x69 => some (8, false)
  | 0x70 => some (9, false)
  | _ => none

/-- The group on which an opcode is refused with BUSY (R126). -/
def opRefusedOn : Nat → Option (Nat × Bool)
  | 0x13 | 0x20 => some (1, true)
  | 0x14 | 0x15 | 0x16 | 0x17 => some (2, true)
  | 0x26 => some (3, false)
  | 0x30 | 0x31 | 0x32 | 0x33 | 0x34 | 0x35 => some (4, true)
  | 0x41 | 0x40 => some (5, true)
  | 0x55 => some (6, false)
  | 0x49 | 0x48 => some (7, false)
  | 0x69 => some (8, false)
  | 0x71 => some (9, false)
  | _ => none

/-- Size of a submission ring. -/
def sqSize (s : State) (n : Nat) : Nat := 2 ^ fld s (fHifSqSizeLog2 n)
/-- Size of a completion ring. -/
def cqSize (s : State) (n : Nat) : Nat := 2 ^ fld s (fHifCqSizeLog2 n)
/-- Commands of an SQ in flight. -/
def sqInflight (s : State) (n : Nat) : Nat := (s.hif.cmds.filter (fun c => c.sq == n)).length
/-- Commands bound to a CQ in flight. -/
def cqInflight (s : State) (n : Nat) : Nat := (s.hif.cmds.filter (fun c => c.cq == n)).length
/-- An SQ is empty (R111). -/
def sqEmpty (s : State) (n : Nat) : Bool := (s.hif.sq.get n).head == (s.hif.sq.get n).tail && sqInflight s n == 0
/-- A CQ is empty (R111). -/
def cqEmpty (s : State) (n : Nat) : Bool := (s.hif.cq.get n).head == (s.hif.cq.get n).tail && cqInflight s n == 0
/-- A CQ is full: the entry after TAIL is HEAD. -/
def cqFull (s : State) (n : Nat) : Bool := ((s.hif.cq.get n).tail + 1) % cqSize s n == (s.hif.cq.get n).head
/-- The SQs bound to a CQ. -/
def sqsOf (s : State) (q : Nat) : List Nat := (List.range 64).filter (fun n => fld s (fHifSqCq n) == q)

/-- An event of the host interface: ring, TAG, opcode (R136); its link state is 0. -/
def hifEvent (s : State) (k : EvKind) (ring tag op : Nat) : State := event s k [(2, ring), (8, tag), (1, op), (1, 0)]

/-- An event of the link: its link state (R136, R607). -/
def linkEvent (s : State) (k : EvKind) (link : Nat) : State := event s k [(2, 0), (8, 0), (1, 0), (1, link)]

/-- Halt an SQ (R134, R135). -/
def haltSq (s : State) (n : Nat) (r : HaltReason) : State :=
  let s := { s with hif := { s.hif with sq := s.hif.sq.upd n (fun q => { q with halt := r }) } }
  glbInt (hifEvent (bump s cHifRingHalts) evRingHalt n 0 0) fGlbIntHalt 252

/-- Halt a CQ and every enabled SQ bound to it (R134, R135). -/
def haltCq (s : State) (n : Nat) (r : HaltReason) : State :=
  let s := { s with hif := { s.hif with cq := s.hif.cq.upd n (fun q => { q with halt := r }) } }
  let s := glbInt (hifEvent (bump s cHifRingHalts) evRingHalt (64 + n) 0 0) fGlbIntHalt 252
  ((sqsOf s n).filter (fun k => flag s (fHifSqEnable k) && (s.hif.sq.get k).halt == .none)).foldl
    (fun t k => haltSq t k .cqHalted) s

/-! ### Rings -/

/-- SQ_DOORBELL (R106, R114, R134): a write to the doorbell word of SQ `n`. -/
def sqDoorbell (n : Nat) (v : Word) (s : State) : State :=
  if !s.hif.ready then s
  else if 64 ≤ n ∨ !flag s (fHifSqEnable n) then bump s cHifDbDisabled
  else if (s.hif.sq.get n).halt ≠ .none then s
  else if sqSize s n ≤ v.toNat then haltSq (bump s cHifDbInvalid) n .dbRange
  else { s with hif := { s.hif with sq := s.hif.sq.upd n (fun q => { q with tail := v.toNat }) } }

/-- SQ_DOORBELL (R114). -/
def execSqDoorbell (n : Nat) (v : Word) (s : State) : Res := ok (sqDoorbell n v s)

/-- CQ_DOORBELL (R106, R114, R134): a head beyond the last written entry halts the ring. -/
def cqDoorbell (n : Nat) (v : Word) (s : State) : State :=
  if !s.hif.ready then s
  else if 64 ≤ n ∨ !flag s (fHifCqEnable n) then bump s cHifDbDisabled
  else if (s.hif.cq.get n).halt ≠ .none then s
  else
    let q := s.hif.cq.get n
    let size := cqSize s n
    if size ≤ v.toNat ∨ (q.tail + size - q.head) % size < (v.toNat + size - q.head) % size then
      haltCq (bump s cHifDbInvalid) n .cqHead
    else { s with hif := { s.hif with cq := s.hif.cq.upd n (fun q => { q with head := v.toNat }) } }

/-- CQ_DOORBELL (R114). -/
def execCqDoorbell (n : Nat) (v : Word) (s : State) : Res := ok (cqDoorbell n v s)

/-- The sizing check of R111 for CQ `q`, over the enabled SQs and `extra`, with the given reader of the ring fields. -/
def sizingOk (s : State) (rd : Fld → Nat) (q : Nat) (extra : Option Nat) : Bool :=
  let sum := (((List.range 64).filter fun n => (flag s (fHifSqEnable n) || extra == some n) && rd (fHifSqCq n) == q).map
    (fun n => rd (fHifSqCreditMax n))).foldl (· + ·) 0
  decide (sum ≤ 2 ^ rd (fHifCqSizeLog2 q) - 1)

/-- SQ_ENABLE_WRITE (R112). -/
def sqEnableWrite (n : Nat) (on : Bool) (s : State) : State :=
  if on then
    if flag s (fHifSqEnable n) then s
    else
      let q := fld s (fHifSqCq n)
      if !flag s (fHifCqEnable q) ∨ s.hif.version = 0 ∨ !sizingOk s (fld s) q (some n) then s
      else setFld { s with hif := { s.hif with sq := s.hif.sq.set n ⟨0, 0, .none, 0⟩ } } (fHifSqEnable n) 1
  else setFld s (fHifSqEnable n) 0

/-- SQ_ENABLE_WRITE (R112). -/
def execSqEnableWrite (n : Nat) (on : Bool) (s : State) : Res := if n < 64 then regCmd s 1 (sqEnableWrite n on) else ok s

/-- CQ_ENABLE_WRITE (R112). -/
def cqEnableWrite (n : Nat) (on : Bool) (s : State) : State :=
  if on then
    if flag s (fHifCqEnable n) ∨ s.hif.version = 0 then s
    else setFld { s with hif := { s.hif with cq := s.hif.cq.set n ⟨0, 0, false, .none, 0, none⟩ } } (fHifCqEnable n) 1
  else setFld s (fHifCqEnable n) 0

/-- CQ_ENABLE_WRITE (R112). -/
def execCqEnableWrite (n : Nat) (on : Bool) (s : State) : Res := if n < 64 then regCmd s 1 (cqEnableWrite n on) else ok s

/-! ### Fetch -/

/-- Credits allow a fetch from SQ `n` (R120). -/
def creditOk (s : State) (n : Nat) : Bool :=
  let inflight := sqInflight s n
  let free := 256 - s.hif.cmds.length
  let owed := (((List.range 64).filter (· != n)).map fun m => fld s (fHifSqCreditMin m) - sqInflight s m).foldl (· + ·) 0
  decide (inflight < fld s (fHifSqCreditMax n)) && decide (0 < free) &&
    (decide (inflight < fld s (fHifSqCreditMin n)) || decide (owed < free))

/-- An SQ that has a descriptor to fetch. -/
def sqWaiting (s : State) (n : Nat) : Bool :=
  s.hif.ready && flag s (fHifSqEnable n) && (s.hif.sq.get n).halt == .none && (s.hif.sq.get n).head != (s.hif.sq.get n).tail

/-- Descriptors an SQ may fetch in a round (R121). -/
def prioShare (s : State) (n : Nat) : Nat := 2 ^ fld s (fHifSqPrio n)

/-- It is SQ `n`'s turn (R121): it has descriptors left in the round, or nobody who may fetch has. -/
def sqTurn (s : State) (n : Nat) : Bool :=
  decide (0 < (s.hif.sq.get n).left) ||
    (List.range 64).all fun m => !(sqWaiting s m && creditOk s m && decide (0 < (s.hif.sq.get m).left))

/-- Use one descriptor of the round, opening a new round where none is left. -/
def sqUseTurn (s : State) (n : Nat) : State :=
  let s := if 0 < (s.hif.sq.get n).left then s
    else { s with hif := { s.hif with
      sq := (List.range 64).foldl (fun m k => m.upd k (fun q => { q with left := prioShare s k })) s.hif.sq } }
  { s with hif := { s.hif with sq := s.hif.sq.upd n (fun q => { q with left := q.left - 1 }) } }

/-- A command's data length is as its opcode requires (R127, R134). -/
def dataOk (i : OpInfo) (c : Cmd) : Bool :=
  match i.data with
  | .none => c.dataLen == 0 && c.dataAddr == 0
  | .exact n => c.dataLen == n
  | .perArg n => c.dataLen == n * c.arg
  | .atLeast n => decide (n ≤ c.dataLen)
  | .any => decide (0 < c.dataLen)

/-- The descriptor's parameter fields are as the opcode uses them (R115, R134). -/
def fieldsOk (i : OpInfo) (c : Cmd) (version : Nat) (d : Bytes) : Bool :=
  decide (le d 1 1 / 4 = 0) && decide (le d 2 2 = 0) && decide (le d 20 4 = 0) && decide (le d 28 4 = 0) &&
  (version == 0x0200 || decide (le d 24 4 = 0)) &&
  (i.useU || c.unit == 0) && (i.useA || c.arg == 0) && (i.useA2 || c.arg2 == 0) && (i.useX || c.addr2 == 0) &&
  (i.useI || c.instant == 0) && decide (c.dataAddr % 64 = 0) && decide (c.addr2 % 64 = 0) && dataOk i c &&
  (!i.useU || decide (c.unit ≤ i.unitMax)) && (!([0x10, 0x19].contains c.opcode) || decide (c.arg2 < 2)) && (c.opcode != 0x49 || decide (c.arg < 2)) &&
  (c.opcode != 0x01 || decide (c.arg2 < if version = 0x0200 then 2 ^ 32 else 1))

/-- The command a descriptor spells (R115). -/
def cmdOf (s : State) (n : Nat) (d : Bytes) : Cmd :=
  { (default : Cmd) with
    handle := s.hif.nextHandle
    sq := n
    cq := fld s (fHifSqCq n)
    tag := le d 4 4 + (if s.hif.version = 0x0200 then le d 24 4 * 2 ^ 32 else 0)
    opcode := le d 0 1
    fence := bit (le d 1 1) 0
    progress := bit (le d 1 1) 1 && decide (0x0101 ≤ s.hif.version)
    unit := le d 32 4
    arg := le d 36 4
    arg2 := le d 56 8
    dataAddr := le d 8 8
    dataLen := le d 16 4
    addr2 := le d 40 8
    instant := le d 48 8
    acked := true
    lastProgress := s.tmb.now }

/-- The checks of a fetched descriptor, in the order of R134, and the status that ends it at once. -/
def fetchCheck (s : State) (standby : Bool) (c : Cmd) (d : Bytes) : State × Option Status :=
  match opInfo c.opcode with
  | none => (hifEvent (bump s cHifBadOpcode) evDescViolation c.sq c.tag c.opcode, some .badOpcode)
  | some i =>
    if s.hif.version < i.since then (hifEvent (bump s cHifBadOpcode) evDescViolation c.sq c.tag c.opcode, some .badOpcode)
    else if !fieldsOk i c s.hif.version d then (hifEvent (bump s cHifBadDesc) evDescViolation c.sq c.tag c.opcode, some .badField)
    else if standby ∧ opMirrored c.opcode then (hifEvent (bump s cHifBadDesc) evStandbyRefused c.sq c.tag c.opcode, some .state)
    else (s, none)

/-- An earlier command of the same SQ has not ended (R115 FENCE, R117). -/
def earlierOpen (s : State) (c : Cmd) : Bool :=
  s.hif.cmds.any fun x => x.sq == c.sq && decide (x.handle < c.handle) && x.ended.isNone

/-- Every earlier command of the SQ has been started (R117: started in ring order). -/
def orderOk (s : State) (c : Cmd) : Bool :=
  s.hif.cmds.all fun x => !(x.sq == c.sq && decide (x.handle < c.handle)) || x.started || x.ended.isSome

/-- The unit a command is addressed to is occupied by a sliced command fetched before it, from that fetch until its final completion (R126). A FENCE
makes the command wait for the end of an earlier one of its own SQ, which then does not refuse it (R115); nor does one that was itself refused. -/
def unitTaken (s : State) (c : Cmd) : Bool :=
  match opRefusedOn c.opcode with
  | none => false
  | some g => s.hif.cmds.any fun x => decide (x.handle < c.handle) && (match opOccupies x.opcode with
    | some o => o.1 == g.1 && (!g.2 || x.unit == c.unit)
    | none => false) && (x.ended.isNone || (x.started && !(c.fence && x.sq == c.sq)))

/-- The SQ number that stands for a mirrored command on the standby (18_pairing R525, R538): it has come from no ring. -/
def mirrorSq : Nat := 64

/-- The block that runs an opcode: the engine of R123. -/
def engineOf (op : Nat) : Nat :=
  if op < 0x10 then 0x01 else if op < 0x20 then 0x03 else if op < 0x26 then 0x04 else if op = 0x26 then 0x05
  else if op < 0x38 then 0x07 else if op < 0x40 then 0x08 else if op < 0x46 then 0x09 else if op < 0x48 then 0x0A
  else if op < 0x4A then 0x0B else if op < 0x50 then 0x0C else if op < 0x54 then 0x0D else if op < 0x58 then 0x0E
  else if op < 0x60 then 0x01 else if op = 0x66 then 0x06 else if op < 0x68 then 0x11 else if op < 0x70 then 0x10 else 0x12

/-- The opcode is sliced (R127). -/
def opSliced (op : Nat) : Bool := match opInfo op with | some i => i.sliced | none => false

/-- A command of another SQ waits for the engine of `c` (R123): to start, or at a Slice boundary. -/
def waitsBeside (s : State) (c x : Cmd) : Bool :=
  x.sq != c.sq && x.ended.isNone && engineOf x.opcode == engineOf c.opcode &&
    (if x.started then opSliced x.opcode else orderOk s x && !(x.fence && earlierOpen s x))

/-- A command's SQ has the higher PRIO of two (R123). -/
def sqAbove (s : State) (x c : Cmd) : Bool := decide (fld s (fHifSqPrio c.sq) < fld s (fHifSqPrio x.sq))

/-- A sliced command may run its next Slice (R123): no command of an SQ of higher PRIO waits to start, and none that is owed a turn waits. -/
def sliceTurn (s : State) (c : Cmd) : Bool :=
  s.hif.cmds.all fun x => !(waitsBeside s c x && ((!x.started && sqAbove s x c) || c.owed.contains x.handle))

/-- After a Slice, every waiting command of an SQ of higher PRIO and the first one of each other SQ are owed a turn (R123). -/
def sliceOwe (s : State) (h : Nat) : State :=
  cmdUpd s h fun c =>
    let w := s.hif.cmds.filter (waitsBeside s c)
    { c with owed := (w.filter fun x => sqAbove s x c || (w.find? fun y => y.sq == x.sq).map (·.handle) == some x.handle).map (·.handle) }

/-- A command has started or run a Slice: the sliced commands of its engine owe it no turn, nor another of its SQ unless that is of higher PRIO. -/
def sliceServed (s : State) (c : Cmd) : State :=
  let pays (x : Cmd) (h : Nat) : Bool := h == c.handle || (!sqAbove s c x && (match cmdFind s h with | some y => y.sq == c.sq | none => true))
  let served (x : Cmd) : Cmd := if engineOf x.opcode = engineOf c.opcode then { x with owed := x.owed.filter fun h => !pays x h } else x
  { s with hif := { s.hif with cmds := s.hif.cmds.map served } }

/-- The 64-byte descriptor of a command (R115). -/
def descBytes (c : Cmd) : Bytes :=
  leBytes 1 c.opcode ++ leBytes 1 (b2n c.fence + 2 * b2n c.progress) ++ zeros 2 ++ leBytes 4 c.tag ++ leBytes 8 c.dataAddr ++
  leBytes 4 c.dataLen ++ zeros 4 ++ leBytes 4 (c.tag / 2 ^ 32) ++ zeros 4 ++ leBytes 4 c.unit ++ leBytes 4 c.arg ++ leBytes 8 c.addr2 ++
  leBytes 8 c.instant ++ leBytes 8 c.arg2

/-- A mirrored command goes to the standby in fragments before it executes, and its completion follows the ACK (R119, 18_pairing R525, R538). -/
def mirrorStart (s : State) (c : Cmd) : State :=
  if s.par.state ≠ .active ∨ !s.par.follow ∨ !opMirrored c.opcode ∨ c.sq = mirrorSq then s
  else
    let b := descBytes c ++ c.data
    let n := (b.length + 2031) / 2032
    let id := s.par.nextId
    let s := { s with par := { s.par with
      nextId := (id + 1) % 2 ^ 32
      acks := s.par.acks ++ [⟨id, c.handle, s.tmb.now + 1000000⟩] } }
    let s := cmdUpd s c.handle fun x => { x with acked := false }
    (List.range n).foldl (fun s i =>
      let p := slice b (2032 * i) 2032
      mirrorSend s 4 (leBytes 4 id ++ zeros 1 ++ leBytes 1 (b2n (i == 0) + 2 * b2n (i + 1 == n)) ++ leBytes 2 p.length ++ leBytes 8 (2032 * i) ++ p)) s

/-- An opcode's command starts (R117, R134): `k` is its effect. One addressed to an occupied unit ends BUSY (R126). A data buffer that cannot be read or written ends it ABORTED. -/
def startCmd (s : State) (h op : Nat) (dataRead : Option Bytes) (k : State → Cmd → State) : State :=
  match cmdFind s h with
  | none => s
  | some c =>
    if c.opcode ≠ op ∨ c.started ∨ c.ended.isSome ∨ !orderOk s c ∨ (c.fence ∧ earlierOpen s c) then s
    else if c.sq ≠ mirrorSq ∧ unitTaken s c then endCmd (sliceServed s c) h .busy 0 0
    else match (if c.sq = mirrorSq then some c.data else dataRead) with
      | none =>
        let s := cmdUpd s h fun x => { x with started := true }
        endCmd (hifEvent (bump s cHifDataFault) evDataAccessFault c.sq c.tag c.opcode) h .aborted 0 0
      | some d =>
        let c := { c with started := true, data := d }
        let s := sliceServed (cmdUpd s h fun _ => c) c
        k (mirrorStart s c) c

/-! ### Completion -/

/-- Raise a CQ's vector (R131). -/
def cqIrq (s : State) (n : Nat) : State :=
  let s := { s with hif := { s.hif with cq := s.hif.cq.upd n (fun q => { q with sinceIrq := 0, firstUnsig := none }) } }
  send s (.irq (fld s (fHifCqVector n)))

/-- The bytes of a completion entry (R116). -/
def complEntry (s : State) (c : Cmd) (st : Status) (result : Nat) (final : Bool) (stamp done : Nat) : Bytes :=
  let q := s.hif.cq.get c.cq
  leBytes 4 c.tag ++ leBytes 2 (s.hif.sq.get c.sq).head ++ leBytes 1 c.sq ++ leBytes 1 st.code ++ leBytes 4 result ++ zeros 3 ++
  leBytes 1 (b2n (!q.phase0) + 2 * b2n final) ++
  (if s.hif.version = 0x0100 then [] else
    leBytes 8 stamp ++ leBytes 4 done ++ leBytes 4 (if s.hif.version = 0x0200 then c.tag / 2 ^ 32 else 0))

/-- Write an entry into a CQ and count it towards its interrupt (R113, R116, R131). -/
def cqWrite (s : State) (n : Nat) (entry : Bytes) : State :=
  let q := s.hif.cq.get n
  let base := fld s (fHifCqBaseLo n) + fld s (fHifCqBaseHi n) * 2 ^ 32
  let s := send s (.host (base + q.tail * entry.length) entry)
  let wrap := (q.tail + 1) % cqSize s n == 0
  let s := { s with hif := { s.hif with cq := s.hif.cq.set n { q with
    tail := (q.tail + 1) % cqSize s n
    phase0 := if wrap then !q.phase0 else q.phase0
    sinceIrq := q.sinceIrq + 1
    firstUnsig := some (q.firstUnsig.getD s.tmb.now) } } }
  let count := fld s (fHifCqIrqCount n)
  if count ≠ 0 ∧ count ≤ q.sinceIrq + 1 then cqIrq s n else s

/-- Take a command out of flight. -/
def cmdDrop (s : State) (h : Nat) : State := { s with hif := { s.hif with cmds := s.hif.cmds.filter (fun c => c.handle != h) } }

/-- COMPLETION_WRITE (R112, R116, R118, R119, R122, R134, R135): the final entry of an ended command; `written` says whether the
write succeeds on the link. -/
def completionWrite (h : Nat) (written : Bool) (s : State) : State :=
  match cmdFind s h with
  | none => s
  | some c => match c.ended with
    | none => s
    | some e =>
      if !c.acked then s
      else if c.sq = mirrorSq then mirrorSend (cmdDrop s h) 5 (leBytes 4 c.tag)
      else if !flag s (fHifCqEnable c.cq) ∨ (s.hif.cq.get c.cq).halt ≠ .none then cmdDrop (bump s cHifCqWriteFault) h
      else if cqFull s c.cq then bump s cHifCqFullStall
      else if !written then haltCq (cmdDrop (bump s cHifCqWriteFault) h) c.cq .cqWrite
      else
        let s := bump s (if e.status = .ok then cHifCmdCompleted else cHifCmdFailed)
        cmdDrop (cqWrite s c.cq (complEntry s c e.status e.result true e.stamp e.done)) h

/-- COMPLETION_WRITE (R122). -/
def execCompletionWrite (h : Nat) (written : Bool) (s : State) : Res := ok (completionWrite h written s)

/-- PROGRESS_ENTRY (R124): the IN_PROGRESS entry of a command at Timeline `t`. -/
def progressEntry (h t : Nat) (s : State) : State :=
  let s := advance s t
  match cmdFind s h with
  | none => s
  | some c =>
    if !c.progress ∨ c.ended.isSome ∨ !c.started ∨ s.tmb.now < c.lastProgress + fld s fHifCtrlProgressMs * 1000000 then s
    else
      let s := cmdUpd s h fun x => { x with lastProgress := s.tmb.now }
      let q := s.hif.cq.get c.cq
      let size := cqSize s c.cq
      let free := size - 1 - (q.tail + size - q.head) % size
      if !flag s (fHifCqEnable c.cq) ∨ q.halt ≠ .none then s
      else if free ≤ cqInflight s c.cq then bump s cHifProgressSkipped
      else cqWrite s c.cq (complEntry s c .inProgress c.total false s.tmb.now c.done)

/-- PROGRESS_ENTRY (R124). -/
def execProgressEntry (h t : Nat) (s : State) : Res := ok (progressEntry h t s)

/-- CQ_IRQ_TIMER (R131): IRQ_TIME µs after the first entry not yet signalled. -/
def execCqIrqTimer (n : Nat) (s : State) : Res :=
  match (s.hif.cq.get n).firstUnsig with
  | none => ok s
  | some t =>
    if fld s (fHifCqIrqTime n) = 0 ∨ fld s (fHifCqIrqCount n) = 0 then ok s
    else ok (cqIrq (advance s (t + fld s (fHifCqIrqTime n) * 1000)) n)

/-! ### Version, commit, link -/

/-- The answer to a requested version (R108). -/
def negotiated (v : Nat) : Option Nat :=
  if v / 256 = 1 then some (if v % 256 = 0 then 0x0100 else 0x0101)
  else if v / 256 = 2 then some 0x0200
  else none

/-- HIF_NEGOTIATE (R108): GO with the VERSION of GLB_HIF_REQ; in recovery it is answered with STATE (19_hendel R580). -/
def hifNegotiate (s : State) : State :=
  let anyOn := (List.range 64).any fun n => flag s (fHifSqEnable n) || flag s (fHifCqEnable n)
  if anyOn || s.hdl.recovery then
    hifEvent { s with hif := { s.hif with actStatus := .state, actDone := true } } evVersionRefused 0 0 0
  else match negotiated (fld s fGlbHifReqVersion) with
    | some v => hifEvent { s with hif := { s.hif with version := v, actStatus := .ok, actDone := true } } evVersionSet 0 0 0
    | none => hifEvent { s with hif := { s.hif with version := 0, actStatus := .version, actDone := true } } evVersionRefused 0 0 0

/-- HIF_NEGOTIATE (R108). -/
def execHifNegotiate (s : State) : Res := ok (hifNegotiate s)

/-- The checks of a HIF commit in the order of R111: status and the ring concerned. -/
def hifCommitCheck (s : State) : Status × Nat :=
  let rs := List.range 64
  let changed (f : Fld) : Bool := sfld s f != fld s f
  match rs.find? (fun n => sfld s (fHifSqBaseLo n) % 4096 != 0) with
  | some n => (.badField, n)
  | none => match rs.find? (fun n => sfld s (fHifCqBaseLo n) % 4096 != 0) with
  | some n => (.badField, 64 + n)
  | none => match rs.find? (fun n => decide (sfld s (fHifSqSizeLog2 n) < 4 ∨ 12 < sfld s (fHifSqSizeLog2 n) ∨
      sfld s (fHifSqCreditMax n) = 0 ∨ 256 < sfld s (fHifSqCreditMax n) ∨
      sfld s (fHifSqCreditMax n) < sfld s (fHifSqCreditMin n))) with
  | some n => (.range, n)
  | none => match rs.find? (fun n => decide (sfld s (fHifCqSizeLog2 n) < 4 ∨ 16 < sfld s (fHifCqSizeLog2 n))) with
  | some n => (.range, 64 + n)
  | none =>
    if sfld s fHifCtrlProgressMs = 0 ∨ 1000 < sfld s fHifCtrlProgressMs then (.range, 0)
    else match rs.find? (fun n => decide (256 < ((List.range (n + 1)).map (fun m => sfld s (fHifSqCreditMin m))).foldl (· + ·) 0)) with
  | some n => (.noResource, n)
  | none => match rs.find? (fun n => flag s (fHifCqEnable n) && !sizingOk s (sfld s) n none) with
  | some n => (.noResource, 64 + n)
  | none => match rs.find? (fun n => flag s (fHifSqEnable n) && !sqEmpty s n &&
      (changed (fHifSqBaseLo n) || changed (fHifSqBaseHi n) || changed (fHifSqSizeLog2 n))) with
  | some n => (.state, n)
  | none => match rs.find? (fun n => flag s (fHifCqEnable n) && !cqEmpty s n &&
      (changed (fHifCqBaseLo n) || changed (fHifCqBaseHi n) || changed (fHifCqSizeLog2 n))) with
  | some n => (.state, 64 + n)
  | none => (.ok, 0)

/-- HIF_COMMIT (R111): a changed base or size of an enabled, empty ring starts its indices again. -/
def hifCommit (s : State) : State :=
  match hifCommitCheck s with
  | (.ok, _) =>
    let rs := List.range 64
    let sqs := rs.filter fun n => sfld s (fHifSqBaseLo n) != fld s (fHifSqBaseLo n) || sfld s (fHifSqBaseHi n) != fld s (fHifSqBaseHi n) ||
      sfld s (fHifSqSizeLog2 n) != fld s (fHifSqSizeLog2 n)
    let cqs := rs.filter fun n => sfld s (fHifCqBaseLo n) != fld s (fHifCqBaseLo n) || sfld s (fHifCqBaseHi n) != fld s (fHifCqBaseHi n) ||
      sfld s (fHifCqSizeLog2 n) != fld s (fHifCqSizeLog2 n)
    let s := applyStaged s 1
    let s := { s with hif := { s.hif with
      sq := sqs.foldl (fun m n => m.upd n (fun q => { q with head := 0, tail := 0 })) s.hif.sq
      cq := cqs.foldl (fun m n => m.upd n (fun q => { q with head := 0, tail := 0, phase0 := false })) s.hif.cq
      commitRing := 0 } }
    setCommit s 1 .ok false
  | (st, r) => setCommit { s with hif := { s.hif with commitRing := r } } 1 st false

/-- HIF_COMMIT (R111). -/
def execHifCommit (s : State) : Res := regCmd s 1 hifCommit

/-- LINK_TRAINED (R102, R105): the link comes up at a speed code and width; HIF_READY follows. -/
def linkTrained (speed width : Nat) (s : State) : State :=
  let s := { s with hif := { s.hif with linkSpeed := speed, linkWidth := width, ready := true } }
  let st := speed + 16 * Nat.log2 width
  let s := linkEvent s evLinkUp st
  let s := if speed < 5 ∨ width < 8 then linkEvent s evLinkDegraded st else s
  statusChanged s

/-- LINK_TRAINED (R105). -/
def execLinkTrained (speed width : Nat) (s : State) : Res := ok (if s.pwr.up then linkTrained speed width s else s)

/-- NOP (R127). -/
def execNop (h : Nat) (s : State) : Res := ok (startCmd s h 0x00 (some []) fun s _ => endCmd s h .ok 0 0)

/-- ABORT (R125): the target is the command of SQ UNIT with TAG ARG. -/
def abortCmd (s : State) (c : Cmd) : State :=
  let tag := c.arg + (if s.hif.version = 0x0200 then c.arg2 * 2 ^ 32 else 0)
  let hit (x : Cmd) : Bool := decide (c.unit < 64) && x.sq == c.unit && x.tag == tag && x.handle != c.handle
  match (s.hif.cmds.find? fun x => hit x && x.ended.isNone) <|> s.hif.cmds.find? hit with
  | none => endCmd s c.handle .noTarget 0 0
  | some x =>
    let sliced := match opInfo x.opcode with | some i => i.sliced | none => false
    if !sliced ∧ x.started then endCmd s c.handle .busy 0 0
    else if x.ended.isSome then endCmd s c.handle .noTarget 0 0
    else if !x.started then
      let s := hifEvent (bump s cHifAborts) evCmdAborted x.sq x.tag x.opcode
      endCmd (endCmd s x.handle .aborted 0 0) c.handle .ok 0 0
    else cmdUpd s x.handle fun y => { y with abortBy := y.abortBy ++ [c.handle] }

/-- ABORT (R125). -/
def execAbort (h : Nat) (s : State) : Res := ok (startCmd s h 0x01 (some []) abortCmd)

end Sys2Proof.Machine
end

