-- ==== Sys2Proof/Machine/PointStore.lean ====
section
/-! DEFINITION. The Point Store's commands (02_point_store R73 to R101, 03_host_rings R127 to R129): host reads and writes, forces, point
maps, tiles, views. -/
namespace Sys2Proof.Machine
open Sys2Proof

/-! ### Tiles (R84 to R86) -/

/-- A tile fails its check when fetched: counted, recorded, and left waiting for its repair (R85 step 1). -/
def tileFail (s : State) (t : Nat) : State :=
  let s := { s with pst := { s.pst with
    badTiles := if s.pst.badTiles.contains t then s.pst.badTiles else s.pst.badTiles ++ [t]
    badCount := min (s.pst.badCount + 1) 65535
    lastBad := (t, 3) } }
  event (bump s cPstTileCrcFail) evTileCrc [(4, 0), (4, t)]

/-- Writes that waited for a tile are applied to what it became (R85). -/
def tileRelease (s : State) (t : Nat) : State :=
  let mine := s.pst.tileWrites.filter fun w => tileOf w.id == t
  let s := { s with pst := { s.pst with
    badTiles := s.pst.badTiles.filter (· != t)
    tileWrites := s.pst.tileWrites.filter fun w => tileOf w.id != t } }
  writeGroup s mine

/-- A forced point of a repaired or rebuilt tile takes its forced value from the force table (R85). -/
def reforce (s : State) (id : Nat) (r : PointRec) : PointRec :=
  match forceFind s id with
  | some f => { r with value := f.value, stamp := s.tmb.now, qual := qVALID ||| qFORCED }
  | none => r

/-- A failed tile without repair is rebuilt from the point map (R85 step 3). -/
def tileRebuild (s : State) (t : Nat) : State :=
  let pts := (List.range 16).foldl (fun m k =>
    let id := 16 * t + k
    match mapFind s.pst.map id with
    | some e => m.set id (reforce s id ⟨e.init, s.tmb.now, 0, qBAD, e.type, curEpoch s % 256, e.maxAge, writerOf wPST 0, e.hclass⟩)
    | none => m) s.pst.points
  let s := { s with pst := { s.pst with points := pts, lastBad := (t, 2) } }
  tileRelease (event (bump s cPstTileRebuilt) evTileRebuilt [(4, 0), (4, t)]) t

/-- The repair of a tile by the pair partner is available (R85). -/
def repairReady (s : State) : Bool := s.pst.repairAvail && flag s fPstCtrlRepairEn

/-- A stored record from its 32 bytes (R30). -/
def recParse (b : Bytes) : PointRec :=
  { value := BitVec.ofNat 64 (le b 0 8)
    stamp := le b 8 8
    seq := BitVec.ofNat 32 (le b 16 4)
    qual := BitVec.ofNat 16 (le b 20 2)
    type := (PType.ofCode (le b 22 1)).getD .none
    epochLo := le b 23 1
    maxAge := le b 24 4
    writer := BitVec.ofNat 16 (le b 28 2)
    hclass := le b 30 2 }

/-- The partner's copy of a tile repairs it (R85 step 2): MIRROR on every point the partner holds without BAD. -/
def tileRepair (s : State) (t : Nat) (copy : Bytes) : State :=
  let pts := (List.range 16).foldl (fun m k =>
    let id := 16 * t + k
    match mapFind s.pst.map id with
    | some _ =>
      let r := goodRec (recParse (slice copy (32 * k) 32))
      let r := if hasQ r.qual qBAD then r else { r with qual := r.qual ||| qMIRROR, writer := writerOf wPST 1 }
      m.set id (reforce s id r)
    | none => m) s.pst.points
  let s := { s with pst := { s.pst with points := pts, lastBad := (t, 1) } }
  tileRelease (event (bump s cPstTileRepaired) evTileRepaired [(4, 0), (4, t)]) t

/-- A fetched tile fails (R85): it waits for the partner's copy, where there may be one, else it is rebuilt. -/
def tileFetchFails (s : State) (t : Nat) : State := let s := tileFail s t; if repairReady s then s else tileRebuild s t

/-- SCRUB_STEP (R85, R86): the scrubber fetches the next tile, with the outcome `c`. -/
def scrubStep (c : TileCheck) (s : State) : State :=
  let t := s.pst.scrubTile
  let s := { s with pst := { s.pst with scrubTile := (t + 1) % 2097152 } }
  let s := if t + 1 = 2097152 then bump s cPstScrubPasses else s
  match c with
  | .good | .cacheCleanUncorrectable => s
  | .corrected => bump s cPstHbmCorr
  | .cacheCorrected => bump s cPstCacheCorr
  | .failed => tileFetchFails s t
  | .cacheDirtyUncorrectable => tileFetchFails (event (bump s cPstCacheUncorr) evCacheUncorr [(4, 0), (4, t)]) t

/-- SCRUB_STEP (R85). -/
def execScrubStep (c : TileCheck) (s : State) : Res := ok (scrubStep c s)

/-- TILE_REPAIR_DONE (R85): the partner's copy of a waiting tile, or none when it did not verify within 50 µs. -/
def execTileRepairDone (t : Nat) (copy : Option Bytes) (s : State) : Res :=
  if !s.pst.badTiles.contains t then ok s
  else match copy with
    | some b => ok (tileRepair s t b)
    | none => ok (tileRebuild s t)

/-! ### Forces (R88 to R91) -/

/-- The journal's copy of a force (R91). -/
def journalForce (s : State) (id : Nat) (j : Option ForceJournal) : State :=
  let l := s.mram.forces.filter (fun f => f.id != id)
  { s with mram := { s.mram with forces := match j with | some f => l ++ [f] | none => l } }

/-- Put a force on a point (R88): the table entry with the shadow, the forced record with SEQ + 1, the event. -/
def forceApply (s : State) (e : MapEntry) (v : Val) : State :=
  let r := s.pst.points.get e.id
  let s := match forceFind s e.id with
    | some _ => { s with pst := { s.pst with
        forces := s.pst.forces.map fun f => if f.id = e.id then { f with value := normVal e.type v, setAt := s.tmb.now } else f } }
    | none => { s with pst := { s.pst with
        forces := s.pst.forces ++ [⟨e.id, e.type, normVal e.type v, s.tmb.now, r.value, r.stamp, r.qual, r.seq⟩] } }
  let s := commitPoint s e.id { r with
    value := normVal e.type v
    stamp := s.tmb.now
    seq := r.seq + 1
    qual := qVALID ||| qFORCED
    epochLo := curEpoch s % 256
    writer := writerOf wPST 2 }
  journalForce (event s evForceSet [(4, e.id)]) e.id (some ⟨e.id, e.type, normVal e.type v⟩)

/-- One FORCE_SET entry (R88, R128). -/
def forceSetEntry (s : State) (b : Bytes) : State × WriteRes :=
  let id := le b 0 4
  let refuse (st : Status) : State × WriteRes := (bump s cPstForceRefused, ⟨st, false⟩)
  if 2 ^ 25 ≤ id ∨ !allZero (slice b 25 7) then refuse .badField
  else match mapFind s.pst.map id with
    | none => refuse .noTarget
    | some e =>
      if !e.forceable then refuse .denied
      else if le b 6 1 ≠ e.type.code then refuse .badField
      else if le b 4 2 ≠ 0 ∨ le b 16 8 ≠ 0 then refuse .badField
      else if (forceFind s id).isNone ∧ 65536 ≤ s.pst.forces.length then refuse .noResource
      else (forceApply s e (BitVec.ofNat 64 (le b 8 8)), ⟨.ok, true⟩)

/-- Clear a force (R90): the shadow's VALUE, STAMP and QUAL return with SEQ + 1. -/
def forceClear (s : State) (f : Force) : State :=
  let r := s.pst.points.get f.id
  let s := { s with pst := { s.pst with forces := s.pst.forces.filter (fun g => g.id != f.id) } }
  let s := commitPoint s f.id { r with
    value := f.shValue
    stamp := f.shStamp
    seq := r.seq + 1
    qual := badClear f.shQual &&& ~~~qFORCED
    epochLo := (epochOfStamp s f.shStamp).number % 256 }
  journalForce (event s evForceCleared [(4, f.id)]) f.id none

/-! ### Host reads and writes (R74, R127 to R129) -/

/-- One POINT_WRITE entry from submission ring `ring` (R82, R128, R133). -/
def pointWriteEntry (s : State) (ring : Nat) (b : Bytes) : State × WriteRes :=
  let id := le b 0 4
  if 2 ^ 25 ≤ id ∨ !allZero (slice b 25 7) then (s, ⟨.badField, false⟩)
  else match PType.ofCode (le b 6 1) with
    | none => if id = 0 then (s, ⟨.badField, false⟩) else
        writePoint s ⟨id, BitVec.ofNat 64 (le b 8 8), some .none, some (le b 16 8), BitVec.ofNat 16 (le b 4 2), wHOST, ring, false⟩
    | some t =>
      let st := le b 16 8
      writePoint s ⟨id, BitVec.ofNat 64 (le b 8 8), some t, if st = 0 then none else some st, BitVec.ofNat 16 (le b 4 2), wHOST, ring, false⟩

/-- An entry's STATUS and APPLIED bytes go back to host memory (R128). -/
def entryBack (s : State) (addr : Nat) (r : WriteRes) : State :=
  sendAll s [.host (addr + 7) (leBytes 1 r.status.code), .host (addr + 24) (leBytes 1 (b2n r.applied))]

/-- Run entries `i` to `i + n - 1` of a list command, each through `f`, keeping the first failure (R129). -/
def runEntries (f : State → Bytes → State × WriteRes) (addr : Option Nat) (data : Bytes) : Nat → Nat → Option (Status × Nat) → State →
    State × Option (Status × Nat)
  | 0, _, bad, s => (s, bad)
  | n + 1, i, bad, s =>
    let (s, r) := f s (slice data (32 * i) 32)
    let s := match addr with | some a => entryBack s (a + 32 * i) r | none => s
    let bad := match bad with
      | some b => some b
      | none => if r.status = .ok then none else some (r.status, i)
    runEntries f addr data n (i + 1) bad s

/-- A name as the lookup and the map give it: the bytes before the first zero (R77). -/
def nameAt (b : Bytes) : Bytes := b.takeWhile (· != 0#8)

/-- A legal byte of a name (R77). -/
def nameByte (b : Byte) : Bool :=
  let n := b.toNat
  (decide (65 ≤ n) && decide (n ≤ 90)) || (decide (97 ≤ n) && decide (n ≤ 122)) || (decide (48 ≤ n) && decide (n ≤ 57)) || n == 95 || n == 46

/-- The id a name stands for, 0 where none (R77, R127). -/
def lookupName (s : State) (name : Bytes) : Nat :=
  match s.pst.map with
  | none => 0
  | some m => match m.entries.find? (fun e => e.name == some name) with
    | some e => e.id
    | none => 0

/-- The READ or SHADOW record of an id for POINT_READ (R74, R89). -/
def hostRead (s : State) (id : Nat) (shadow : Bool) : Bytes :=
  match shadow, forceFind s id with
  | true, some f => deliver 4 id (readShadow s f s.tmb.now) s.tmb.now
  | _, _ => deliverRead s (id % 2 ^ 25) s.tmb.now

/-! ### Point maps (R75 to R78) -/

/-- A map entry from its 32 bytes, with the name table (R76, R77). -/
def mapEntryParse (names b : Bytes) : MapEntry :=
  let off := le b 12 4
  { id := le b 0 4 % 2 ^ 25
    type := (PType.ofCode (le b 4 1)).getD .none
    retain := bit (le b 5 1) 0
    forceable := bit (le b 5 1) 1
    hclass := le b 6 1
    maxAge := le b 8 4
    name := if off = 0xFFFFFFFF then none else some (nameAt (names.drop off))
    init := normVal ((PType.ofCode (le b 4 1)).getD .none) (BitVec.ofNat 64 (le b 16 8))
    writers := BitVec.ofNat 16 (le b 24 2) }

/-- Ids ascending, unique, non-zero, reserved bits 0 where `res` (R78): the index of the first entry that fails. -/
def mapIdsBad (res : Bool) (ents : List Bytes) : Nat → Nat → Option Nat
  | prev, i => match ents with
    | [] => none
    | b :: t =>
      let id := le b 0 4 % 2 ^ 25
      if id = 0 ∨ id ≤ prev ∨ (res ∧ (2 ^ 25 ≤ le b 0 4 ∨ bits (le b 5 1) 7 2 ≠ 0 ∨ 256 ≤ le b 6 2 ∨ !allZero (slice b 26 6))) then some i
      else mapIdsBad res t id (i + 1)

/-- A name lies inside the table, is legal and ends in a zero byte (R77, R78). -/
def nameOk (names : Bytes) (off : Nat) : Bool :=
  off == 0xFFFFFFFF || (decide (off < names.length) &&
    (let n := nameAt (names.drop off)
     decide (1 ≤ n.length) && decide (n.length ≤ 63) && n.all nameByte && decide (off + n.length < names.length)))

/-- A list of optional names holds no name twice: the index of the first repeat. -/
def nameRepeat : List (Option Bytes) → List Bytes → Nat → Option Nat
  | [], _, _ => none
  | none :: t, seen, i => nameRepeat t seen (i + 1)
  | some n :: t, seen, i => if seen.contains n then some i else nameRepeat t (n :: seen) (i + 1)

/-- The checks of a point map image after the slot's state, in the order of R78: the map, or the status and the failing entry. -/
def mapCheck (b : Bytes) : Except (Status × Nat) PointMap :=
  if b.length < 64 ∨ slice b 0 4 ≠ magic 'P' 'S' 'M' 'P' then .error (.badField, 0)
  else if le b 5 1 ≠ 1 then .error (.version, 0)
  else
    let n := le b 8 4
    let nb := le b 12 4
    if n = 0 ∨ 33554431 < n ∨ 268435456 < nb ∨ b.length ≠ 64 + 32 * n + nb then .error (.badField, 0)
    else
      let entB := slice b 64 (32 * n)
      let names := slice b (64 + 32 * n) nb
      if (crc32c entB).toNat ≠ le b 24 4 ∨ (crc32c names).toNat ≠ le b 28 4 then .error (.checksum, 0)
      else
        let ents := chunks 32 n entB
        match mapIdsBad (resChecked (le b 4 2)) ents 0 0 with
        | some i => .error (.badField, i)
        | none => match ents.findIdx? (fun e => decide (le e 4 1 = 0 ∨ 11 < le e 4 1)) with
          | some i => .error (.badField, i)
          | none => match ents.findIdx? (fun e => !nameOk names (le e 12 4)) with
            | some i => .error (.badField, i)
            | none =>
              let es := ents.map (mapEntryParse names)
              match nameRepeat (es.map (·.name)) [] 0 with
              | some i => .error (.badField, i)
              | none => .ok ⟨le b 4 2, le b 16 8, es⟩

/-! ### Views (R93 to R99) -/

/-- A power of two between two bounds. -/
def pow2In (v lo hi : Nat) : Bool := decide (lo ≤ v) && decide (v ≤ hi) && 2 ^ Nat.log2 v == v

/-- A view descriptor from its 64 bytes, or the status that refuses it (R93). -/
def viewDescParse (b : Bytes) : Except Status ViewDesc :=
  let hb := le b 28 4
  let sn := le b 32 4
  if le b 0 8 % 4096 ≠ 0 ∨ le b 16 8 % 4 ≠ 0 ∨ !allZero (slice b 40 24) then .error .badField
  else if !pow2In (le b 8 4) 64 1048576 ∨ 255 < le b 12 4 ∨ 10000000 < le b 24 4 ∨
      (hb ≠ 0 ∧ (hb < 10000 ∨ 10000000 < hb)) ∨ (sn ≠ 0 ∧ (sn < 100000 ∨ 3600000000 < sn)) ∨
      le b 36 4 = 0 ∨ 65536 < le b 36 4 then .error .range
  else .ok ⟨le b 0 8, le b 8 4, le b 12 4, le b 16 8, le b 24 4, if hb = 0 then 100000 else hb, sn, le b 36 4⟩

/-- Insert an id into an ascending list without repeats. -/
def idInsert (id : Nat) : List Nat → List Nat
  | [] => [id]
  | h :: t => if h < id then h :: idInsert id t else if h = id then h :: t else id :: h :: t

/-- Subscribed points of all open views but one (R93). -/
def subsOther (s : State) (n : Nat) : Nat :=
  (s.pst.views.entries.map fun e => if e.1 = n then 0 else e.2.ids.length).foldl (· + ·) 0

/-- A new subscription: its base is the point's SEQ now (R95). -/
def newSub (s : State) (id : Nat) : Sub := { (default : Sub) with lastSeq := (s.pst.points.get id).seq }

/-- VIEW_OPEN and VIEW_CHANGE take effect whole (R12, R13, R93): the status. -/
def viewSet (s : State) (n : Nat) (change : Bool) (desc ids : Bytes) (count : Nat) : State × Status :=
  let v := s.pst.views.get n
  if (v.state == .open) != change then (s, .state)
  else match viewDescParse desc with
    | .error st => (s, st)
    | .ok d =>
      if count = 0 ∨ 1048576 < count then (s, .range)
      else
        let raw := (chunks 4 count ids).map leNat
        if raw.any (fun i => decide (2 ^ 25 ≤ i)) then (s, .badField)
        else
          let l := raw.foldl (fun a i => idInsert i a) []
          if 4194304 < subsOther s n + l.length then (s, .noResource)
          else
            let moved := !change || d.base != v.desc.base || d.records != v.desc.records
            if change ∧ moved ∧ v.prod ≠ v.cons then (s, .state)
            else
              let subs := l.foldl (fun m i => m.set i (if change && v.ids.contains i then v.subs.get i else newSub s i)) SMap.empty
              let w : View := { v with
                state := .open
                desc := d
                ids := l
                subs := subs
                prod := if moved then 0 else v.prod
                cons := if moved then 0 else v.cons
                lastId := if change then v.lastId else 0
                hbRecords := if change then v.hbRecords else 0
                hbCoalesced := if change then v.hbCoalesced else 0
                sinceIrq := if change then v.sinceIrq else 0 }
              let s := { s with pst := { s.pst with views := s.pst.views.set n w } }
              (if change then s else event s evViewOpen [(4, 0), (4, 0), (2, n)], .ok)

/-- Close a view: VIEW_CLOSED is recorded (R99, R104). -/
def viewClose (s : State) (n : Nat) : State :=
  event { s with pst := { s.pst with views := s.pst.views.set n default } } evViewClosed [(4, 0), (4, 0), (2, n)]

/-- A failed access of a view's ring or CONS_ADDR closes it as FAULTED (R99). -/
def viewFault (s : State) (n : Nat) : State :=
  let v := s.pst.views.get n
  let s := { s with pst := { s.pst with views := s.pst.views.upd n (fun v => { v with state := .faulted }) } }
  send (event s evViewFault [(4, 0), (4, 0), (2, n)]) (.irq v.desc.msix)

/-- The ring of a view has space (R94). -/
def viewSpace (v : View) : Bool :=
  v.desc.records != 0 && decide ((v.prod + v.desc.records - v.cons) % v.desc.records < v.desc.records - 1)

/-- A pending slot is deliverable now (R95): STALE_MARK and SNAPSHOT do not wait for MIN_INTERVAL. -/
def subReady (s : State) (v : View) (u : Sub) : Bool :=
  u.stale || u.snap || (u.change && (match u.lastAt with
    | some t => decide (t + v.desc.minInterval * 1000 ≤ s.tmb.now)
    | none => true))

/-- The next pending id after the last one delivered, in ascending order (R96). -/
def viewNext (s : State) (v : View) : Option Nat :=
  let ready := v.ids.filter fun i => subReady s v (v.subs.get i)
  match ready.find? (fun i => decide (v.lastId < i)) with
  | some i => some i
  | none => ready.head?

/-- Write a record at a view's producer index (R94, R131): it counts towards the view's interrupt. -/
def viewWrite (s : State) (n : Nat) (b : Bytes) : State :=
  let v := s.pst.views.get n
  let s := send s (.host (v.desc.base + 32 * v.prod) b)
  let irq := decide (v.desc.irqRecords ≤ v.sinceIrq + 1)
  let s := { s with pst := { s.pst with views := s.pst.views.set n { v with
    prod := (v.prod + 1) % v.desc.records
    sinceIrq := if irq then 0 else v.sinceIrq + 1
    hbRecords := v.hbRecords + 1 } } }
  let s := bump s cPstViewRecords
  if irq then send s (.irq v.desc.msix) else s

/-- The record a pending slot delivers (R94, R95): its type, and how many changes it skips. -/
def viewRecord (s : State) (id : Nat) (u : Sub) : Bytes × Nat × Bool :=
  let r := readPoint s id s.tmb.now
  let adv := (r.seq - u.lastSeq).toNat
  let skipped := adv - 1
  let q := r.qual ||| (if 1 < adv then qGAP else 0)
  let rtype := if u.change then 1 else if u.stale then 5 else 6
  (deliver rtype id { r with qual := q } s.tmb.now, skipped, hasQ q qSTALE)

/-- VIEW_DELIVERY (R95, R96): one pending record of view `n` at Timeline `t`. -/
def viewDelivery (n t : Nat) (written : Bool) (s : State) : State :=
  let s := advance s t
  let v := s.pst.views.get n
  if v.state ≠ .open ∨ !viewSpace v then s
  else match viewNext s v with
    | none => s
    | some id =>
      if !written then viewFault s n
      else
        let u := v.subs.get id
        let (b, skipped, stale) := viewRecord s id u
        let s := { s with pst := { s.pst with views := s.pst.views.upd n (fun v => { v with
          lastId := id
          hbCoalesced := v.hbCoalesced + skipped
          subs := v.subs.set id ⟨(s.pst.points.get id).seq, some s.tmb.now, false, false, false, u.staleDone⟩ }) } }
        let s := bumpN s cPstViewCoalesced skipped
        let s := if stale then bump s cPstStaleDelivered else s
        viewWrite s n b

/-- VIEW_DELIVERY (R95). -/
def execViewDelivery (n t : Nat) (written : Bool) (s : State) : Res := ok (viewDelivery n t written s)

/-- VIEW_CONS_POLL (R96, R99): the consumer index read at CONS_ADDR, none when the read fails. -/
def execViewConsPoll (n : Nat) (cons : Option Nat) (s : State) : Res :=
  let v := s.pst.views.get n
  if v.state ≠ .open then ok s
  else match cons with
    | none => ok (viewFault s n)
    | some c => ok { s with pst := { s.pst with views := s.pst.views.set n { v with cons := c % v.desc.records } } }

/-- The number of pending points of a view (R98). -/
def viewPending (v : View) : Nat := (v.ids.filter fun i => (v.subs.get i).change || (v.subs.get i).stale || (v.subs.get i).snap).length

/-- VIEW_HEARTBEAT (R98): one HEARTBEAT record, if the ring has space. -/
def viewHeartbeat (n t : Nat) (s : State) : State :=
  let s := advance s t
  let v := s.pst.views.get n
  if v.state ≠ .open ∨ !viewSpace v then s
  else
    let b := leBytes 4 (2 * 2 ^ 28) ++ leBytes 4 v.hbRecords ++ leBytes 8 s.tmb.now ++ leBytes 4 (curEpoch s) ++
      leBytes 4 v.hbCoalesced ++ leBytes 4 (viewPending v) ++ zeros 4
    let s := viewWrite s n b
    { s with pst := { s.pst with views := s.pst.views.upd n (fun v => { v with hbRecords := 0, hbCoalesced := 0 }) } }

/-- VIEW_HEARTBEAT (R98). -/
def execViewHeartbeat (n t : Nat) (s : State) : Res := ok (viewHeartbeat n t s)

/-- Queue a SNAPSHOT for every subscribed point (R95). -/
def viewSnapshot (s : State) (n : Nat) : State :=
  { s with pst := { s.pst with views := s.pst.views.upd n (fun v => { v with
    subs := v.ids.foldl (fun m i => m.upd i (fun u => { u with snap := true })) v.subs }) } }

/-- VIEW_SNAPSHOT_TIMER (R93): the snapshot period of view `n` ends. -/
def execViewSnapshotTimer (n t : Nat) (s : State) : Res :=
  let s := advance s t
  let v := s.pst.views.get n
  if v.state = .open ∧ v.desc.snapshot ≠ 0 then ok (viewSnapshot s n) else ok s

/-- STALE_MARK_QUEUE (R97): a subscribed point has passed STAMP + MAXAGE without a newer write. -/
def execStaleMarkQueue (n id t : Nat) (s : State) : Res :=
  let s := advance s t
  let v := s.pst.views.get n
  let u := v.subs.get id
  if v.state = .open ∧ v.ids.contains id ∧ mapped s id ∧ !u.staleDone ∧ isStale (recordAt s id s.tmb.now) s.tmb.now then
    ok { s with pst := { s.pst with views := s.pst.views.set n { v with subs := v.subs.set id { u with stale := true, staleDone := true } } } }
  else ok s

/-- VIEW_CLOSE (R99). -/
def execViewClose (h : Nat) (s : State) : Res :=
  ok (startCmd s h 0x16 (some []) fun s c =>
    if (s.pst.views.get c.unit).state = .closed then endCmd s h .state 0 0
    else endCmd (viewClose s c.unit) h .ok 0 0)

/-- VIEW_SNAPSHOT (R95, R127). -/
def execViewSnapshot (h : Nat) (s : State) : Res :=
  ok (startCmd s h 0x17 (some []) fun s c =>
    if (s.pst.views.get c.unit).state ≠ .open then endCmd s h .state 0 0
    else endCmd (viewSnapshot s c.unit) h .ok (s.pst.views.get c.unit).ids.length 0)

/-! ### Registers -/

/-- PST_PEEK (R92): a write of PST_PEEK_ID reads the point into PST_PEEK_DATA. -/
def pstPeek (v : Word) (s : State) : State :=
  let id := v.toNat % 2 ^ 25
  setFld { s with pst := { s.pst with peek := deliverRead s id s.tmb.now } } fPstPeekIdId id

/-- PST_PEEK (R92). -/
def execPstPeek (v : Word) (s : State) : Res := regCmd s 3 (pstPeek v)

/-- The checks of a PST commit (R86, R101). -/
def pstCommitCheck (s : State) : Status :=
  let n := sfld s fPstCtrlScrubS
  if n = 0 ∨ 3600 < n then .range
  else if 8192 < ((List.range 8).map fun i => 8 * sfld s (fPstPinCount i)).foldl (· + ·) 0 then .noResource
  else .ok

end Sys2Proof.Machine
end

