-- ==== Sys2Proof/Machine/Recorder.lean ====
section
/-! DEFINITION. The Recorder's commands (17_recorder R496 to R518): accepting events, the log and its freeze, page retirement, the
event ring, and the export of the signal history; and FAULT_N (20_package_power R589). -/
namespace Sys2Proof.Machine
open Sys2Proof

/-- FAULT_N is asserted (R589): through every start, and while a block asserts it. -/
def faultN (s : State) : Bool := !s.hif.ready || !s.pwr.faults.isEmpty

/-- FAULT_N has changed between two states: vectors 253 and 255 (R132). -/
def faultEdge (a b : State) : State :=
  if faultN a != faultN b then statusChanged (glbInt b fGlbIntFault 253) else b

/-- A block asserts FAULT_N. -/
def assertFault (s : State) (f : FaultSrc) : State :=
  faultEdge s { s with pwr := { s.pwr with faults := if s.pwr.faults.contains f then s.pwr.faults else s.pwr.faults ++ [f] } }

/-- A block's condition on FAULT_N ends. -/
def releaseFault (s : State) (f : FaultSrc) : State :=
  faultEdge s { s with pwr := { s.pwr with faults := s.pwr.faults.filter (· != f) } }

/-- The 64 bytes of an event record, with its CRC (R496). -/
def evBytes (r : EventRec) : Bytes :=
  let b := leBytes 8 r.stamp ++ leBytes 4 r.epoch ++ leBytes 4 r.seq ++ leBytes 1 r.src ++ leBytes 1 (r.sev % 8) ++ leBytes 2 r.code ++
    leBytes 1 (b2n r.gap + 2 * b2n r.repeatUpdate + 4 * b2n r.lastGasp + 8 * b2n r.volatile) ++ zeros 3 ++ leBytes 4 r.rep ++
    leBytes 4 r.key ++ leBytes 8 r.lastStamp ++ (r.payload ++ zeros 16).take 16 ++ zeros 4
  b ++ leBytes 4 (crc32c b).toNat

/-! ### The log (R499, R500) -/

/-- The log's records in slot order. -/
def logRecs (l : EventLog) : List EventRec := l.slots.entries.filterMap (·.2)

/-- Slots the log has: 1,048,576 less 64 for each page removed (R499, R503). -/
def logCapacity (l : EventLog) : Nat := 1048576 - 64 * (l.pages.entries.filter (·.2.gone)).length

/-- Skip the slots of removed pages. -/
def skipGone (n : Nat) : List (Nat × LogPage) → Nat
  | [] => n
  | (p, x) :: t => skipGone (if x.gone ∧ n / 64 = p then (p + 1) * 64 else n) t

/-- The lowest free slot from `n` on, among slots in rising order. -/
def freeSlot (pages : List (Nat × LogPage)) (n : Nat) : List (Nat × Option EventRec) → Nat
  | [] => skipGone n pages
  | (k, _) :: t => let m := skipGone n pages; if m < k then m else freeSlot pages (max m (k + 1)) t

/-- The record of the lowest severity held, and of the lowest SEQ (oldest) within it, by slot. -/
def logVictim (next : Nat) (l : List (Nat × Option EventRec)) : Option (Nat × EventRec) :=
  l.foldl (fun a e => match e.2, a with
    | none, _ => a
    | some r, none => some (e.1, r)
    | some r, some (k, b) =>
      let age (x : EventRec) := (next + 2 ^ 32 - x.seq) % 2 ^ 32
      if r.sev < b.sev ∨ (r.sev = b.sev ∧ age b < age r) then some (e.1, r) else some (k, b)) none

/-- A record goes to the log, unless the log is full of records of higher severity (R500): whether it is written. -/
def logTake (s : State) (r : EventRec) : State × Bool :=
  let l := s.mram.log
  let put (k : Nat) : State := { s with mram := { s.mram with log := { l with slots := l.slots.set k (some r) } } }
  if (logRecs l).length < logCapacity l then (put (freeSlot l.pages.entries 0 l.slots.entries), true)
  else match logVictim s.recd.nextSeq l.slots.entries with
    | some (k, v) => if v.sev ≤ r.sev then (put k, true) else (bump s cRecLogDiscarded, false)
    | none => (bump s cRecLogDiscarded, false)

/-- The queue of a freeze goes to the log in SEQ order (R502): how many records are written. -/
def logTakeAll (s : State) (q : List EventRec) : State × Nat :=
  q.foldl (fun p r => let w := logTake p.1 r; (w.1, p.2 + b2n w.2)) (s, 0)

/-- A record waits in the holding queue of a freeze (R502): whether it takes a place. -/
def holdRecord (s : State) (r : EventRec) : State × Bool :=
  let q := s.recd.holding
  if q.length < 4096 then ({ s with recd := { s.recd with holding := q ++ [r] } }, true)
  else
    let low := q.foldl (fun a e => if e.sev < r.sev then some (match a with | some b => min b e.sev | none => e.sev) else a) (none : Option Nat)
    match low with
    | none => (bump s cRecFreezeLost, false)
    | some m => match q.reverse.findIdx? (fun x => x.sev == m) with
      | some i => (bump { s with recd := { s.recd with holding := (q.reverse.eraseIdx i).reverse ++ [r] } } cRecFreezeLost, true)
      | none => (bump s cRecFreezeLost, false)

/-- A record goes to the event ring's backlog (R507): a full backlog drops its oldest record. -/
def ringOffer (s : State) (r : EventRec) : State :=
  match s.recd.evRing with
  | none => s
  | some g =>
    if r.sev < g.minSev then s
    else if g.backlog.length < 65536 then { s with recd := { s.recd with evRing := some { g with backlog := g.backlog ++ [r] } } }
    else bump { s with recd := { s.recd with evRing := some { g with backlog := g.backlog.tail ++ [r], gap := true } } } cRecEvringLost

/-- A record goes to the last-gasp ring of 256 (R504). -/
def lastGaspPut (s : State) (r : EventRec) : State :=
  { s with aon := { s.aon with lastGasp := (s.aon.lastGasp ++ [{ r with lastGasp := true }]).drop (s.aon.lastGasp.length + 1 - 256) } }

/-- A record goes to the Hendel log, in its own SEQ series (R566). -/
def hendelLogPut (s : State) (r : EventRec) : State :=
  let h := s.mram.hlog
  if h.volatile then ringOffer (lastGaspPut s r) r
  else { s with mram := { s.mram with hlog := { h with
    recs := (h.recs ++ [{ r with seq := h.nextSeq }]).drop (h.recs.length + 1 - 65536)
    nextSeq := (h.nextSeq + 1) % 2 ^ 32 } } }

/-- A new record takes its SEQ and goes where its severity sends it (R497 to R507, R566). -/
def recAssign (s : State) (e : EventIn) : State :=
  let toLog := decide (fld s fRecCtrlLogMinSev ≤ e.sev) && !s.recd.volatile
  let r : EventRec := ⟨e.stamp, e.epoch, s.recd.nextSeq, e.src, e.sev, e.code, s.recd.dropped, false, false, !toLog, 0, e.key,
    e.stamp, e.payload⟩
  let s := bump { s with recd := { s.recd with
    nextSeq := (s.recd.nextSeq + 1) % 2 ^ 32
    dropped := false
    fold := foldUse s.recd.fold ⟨e.src, e.code, e.sev, e.key, s.recd.nextSeq, 0, 0⟩ } } cRecEvents
  let (s, kept) := if !toLog then (s, false) else if s.recd.frozen.isSome then holdRecord s r else logTake s r
  let r := { r with volatile := !kept }
  let s := ringOffer s r
  let s := if 6 ≤ e.sev ∨ s.recd.volatile then lastGaspPut s r else s
  if e.src = 0x12 ∨ 6 ≤ e.sev then hendelLogPut s r else s

/-- EVENT_ACCEPT (R497, R498): the Recorder takes the oldest event of its input queue. -/
def eventAccept (s : State) : State :=
  match s.recd.input with
  | [] => s
  | e :: t =>
    let s := { s with recd := { s.recd with input := t } }
    let s := match foldTry s e with | some u => u | none => recAssign s e
    let s := if e.sev = 7 then qchFatal s else s
    if s.recd.overloadDue then
      event { s with recd := { s.recd with overloadDue := false } } evEventOverload [(4, 0), (8, 0), (4, (stored s cRecEventsDropped).toNat)]
    else s

/-- EVENT_ACCEPT (R497). -/
def execEventAccept (s : State) : Res := ok (eventAccept s)

/-! ### Page retirement (R503, R505) -/

/-- The Recorder declares the log memory failed (R505). -/
def logFail (s : State) : State :=
  if s.recd.volatile then s
  else assertFault (event { s with recd := { s.recd with volatile := true } } evLogVolatile []) .logVolatile

/-- The record of an event as another log keeps a copy of it. -/
def recCopy (s : State) (k : EvKind) (items : List (Nat × Int)) : EventRec :=
  ⟨s.tmb.now, curEpoch s, s.recd.nextSeq, k.src, k.sev, k.code, false, false, false, false, 0, keyOf items, s.tmb.now, packItems items⟩

/-- A record that R266 also sends to the Hendel log, beside its event. -/
def hendelCopy (s : State) (k : EvKind) (items : List (Nat × Int)) : State := event (hendelLogPut s (recCopy s k items)) k items

/-- A record that R503 also sends to the Hendel log and the last-gasp area, beside its event. -/
def copyOut (s : State) (k : EvKind) (items : List (Nat × Int)) : State :=
  let r := recCopy s k items
  event (lastGaspPut (hendelLogPut s r) r) k items

/-- Retire the page of a slot whose record failed its verify twice (R503); `lost`: the page's slots that cannot be read. -/
def retirePage (s : State) (slot : Nat) (lost : List Nat) : State :=
  let p := slot / 64
  let l := s.mram.log
  let spare := decide (l.sparesUsed < Config.sparePages)
  let gone := l.slots.entries.filter fun e => e.1 / 64 == p && e.2.isSome && (!spare || (lost.contains e.1 && e.1 != slot))
  let slots := gone.foldl (fun m e => m.set e.1 none) l.slots
  let s := { s with mram := { s.mram with log := { l with
    slots := slots
    pages := l.pages.set p ⟨true, !spare⟩
    retired := l.retired + 1
    sparesUsed := if spare then l.sparesUsed + 1 else l.sparesUsed } } }
  let s := bumpN (bump s cRecPagesRetired) cRecRecordsLost gone.length
  let s := copyOut s evLogPageRetired [(4, p), (8, 0), (4, gone.length)]
  let s := assertFault (setFld s fRecStatusPageFail 1) .pageFail
  let s := if spare then s else event { s with recd := { s.recd with sparesOut := true } } evSparesExhausted [(4, p)]
  let times := (s.recd.retireTimes ++ [s.tmb.now]).filter fun t => decide (s.tmb.now < t + 1000000000)
  let s := { s with recd := { s.recd with retireTimes := times } }
  if 16 ≤ times.length then logFail s else s

/-- LOG_WRITE_VERIFY (R503): the read-back of the record in `slot`, first and second; `lost`: slots of its page that cannot be read. -/
def execLogWriteVerify (slot : Nat) (first second : Bool) (lost : List Nat) (s : State) : Res :=
  if (s.mram.log.slots.get slot).isNone ∨ first then ok s
  else
    let s := bump s cRecVerifyRetries
    if second then ok s else ok (retirePage s slot lost)

/-- PAGE_FAIL_CLEAR (R503): host software clears PAGE_FAIL, which releases FAULT_N. -/
def pageFailClear (s : State) : State := releaseFault (setFld s fRecStatusPageFail 0) .pageFail

/-- PAGE_FAIL_CLEAR (R503). -/
def execPageFailClear (s : State) : Res := regCmd s 0x11 pageFailClear

/-! ### Freeze (R502) -/

/-- The thaw: held counts are applied, then the queue is written in SEQ order; how many of its records are written (R502). Of a
record that the freeze's occurrences folded into, one more copy is due to the event ring, at once (R507). -/
def thaw (s : State) : State × Nat :=
  let held := s.recd.fold.filter (fun x => x.held != 0)
  let s := held.foldl (fun t x => match logFind t.mram.log x.seq with
    | some (k, r) =>
      let r := foldInto r x.held x.heldStamp
      { t with
        mram := { t.mram with log := { t.mram.log with slots := t.mram.log.slots.set k (some r) } }
        recd := noteUpdate t.recd r }
    | none => t) s
  let q := s.recd.holding
  let s := { s with recd := { s.recd with
    frozen := none
    holding := []
    fold := s.recd.fold.map fun x => { x with held := 0 }
    evRing := s.recd.evRing.map fun g => { g with updates := g.updates.map fun u =>
      if u.again then { u with due := true, last := none, again := false } else u } } }
  logTakeAll s q

/-- LOG_FREEZE (R502). -/
def execLogFreeze (h : Nat) (s : State) : Res :=
  ok (startCmd s h 0x61 (some []) fun s _ =>
    let again := s.recd.frozen.isSome
    let s := { s with recd := { s.recd with frozen := some s.tmb.now } }
    endCmd (if again then s else event s evLogFrozen []) h .ok 0 0)

/-- LOG_THAW (R502): RESULT is the number of queued records written. -/
def execLogThaw (h : Nat) (s : State) : Res :=
  ok (startCmd s h 0x62 (some []) fun s _ =>
    if s.recd.frozen.isNone then endCmd s h .state 0 0
    else
      let (s, n) := thaw s
      endCmd (event s evLogThawed [(4, 0), (8, 0), (4, n)]) h .ok n 0)

/-- FREEZE_MAX_EXPIRY (R502): a freeze of FREEZE_MAX_S thaws by itself. -/
def execFreezeMaxExpiry (s : State) : Res :=
  match s.recd.frozen with
  | none => ok s
  | some t =>
    let s := advance s (t + fld s fRecCtrlFreezeMaxS * 1000000000)
    let (s, n) := thaw s
    ok (event s evLogThawAuto [(4, 0), (8, 0), (4, n)])

/-! ### Reading the log (R501) -/

/-- The SEQ of the oldest record of a list. -/
def oldestSeq (next : Nat) (l : List EventRec) : Option Nat :=
  (l.foldl (fun a r => let g := (next + 2 ^ 32 - r.seq) % 2 ^ 32
    match a with | some (b, _) => if b < g then some (g, r.seq) else a | none => some (g, r.seq)) (none : Option (Nat × Nat))).map (·.2)

/-- The next record to read: the least SEQ at or after `pos`, counted from the oldest held (R501). -/
def nextRec (old pos : Nat) (l : List EventRec) : Option EventRec :=
  let off (q : Nat) := (q + 2 ^ 32 - old) % 2 ^ 32
  l.foldl (fun a r => if off r.seq < off pos then a else match a with
    | some b => if off r.seq < off b.seq then some r else some b
    | none => some r) none

/-- One Slice of a log readout: up to `n` records (R17, R501). -/
def readRecs (l : List EventRec) (next : Nat) (lim : Nat) : Nat → Cmd → State → State × Cmd × Bool
  | 0, c, s => (s, c, false)
  | n + 1, c, s =>
    if c.total ≤ c.count ∨ c.dataLen < 64 * (c.count + 1) then (s, c, true)
    else match oldestSeq next l with
      | none => (s, c, true)
      | some old =>
        match nextRec old c.pos l with
        | none => (s, c, true)
        | some r =>
          let off (q : Nat) := (q + 2 ^ 32 - old) % 2 ^ 32
          if off lim ≤ off r.seq ∧ lim ≠ old then (s, c, true)
          else
            let s := send s (.host (c.dataAddr + 64 * c.count) (evBytes r))
            readRecs l next lim n { c with count := c.count + 1, done := 64 * (c.count + 1), pos := (r.seq + 1) % 2 ^ 32 } s

/-! ### The event ring (R506 to R508) -/

/-- The event ring's descriptor, or the status that refuses it (R506). -/
def evRingParse (b : Bytes) : Except Status (EvRing × Nat) :=
  if le b 0 8 % 4096 ≠ 0 ∨ le b 16 8 % 4 ≠ 0 ∨ !allZero (slice b 25 3) ∨ !allZero (slice b 36 28) then .error .badField
  else if !pow2In (le b 8 4) 64 1048576 ∨ 255 < le b 12 4 ∨ 7 < le b 24 1 ∨ le b 32 4 = 0 ∨ 65536 < le b 32 4 then .error .range
  else .ok (⟨le b 0 8, le b 8 4, le b 12 4, le b 16 8, le b 24 1, le b 32 4, 0, 0, 0, [], false, [], []⟩, le b 28 4)

/-- The held log records from a SEQ on, in SEQ order. -/
def heldFrom (s : State) (start : Nat) : List EventRec :=
  let l := logRecs s.mram.log
  match oldestSeq s.recd.nextSeq l with
  | none => []
  | some old =>
    let off (q : Nat) := (q + 2 ^ 32 - old) % 2 ^ 32
    (l.filter fun r => decide (off start ≤ off r.seq)).mergeSort (fun a b => decide (off a.seq ≤ off b.seq))

/-- EVENT_RING_OPEN (R506): a second open replaces the first, and its base and size obey R13: another place only once the ring
is empty, by the consumer index `cons` read at the old CONS_ADDR. A ring that keeps its place has received what it had received. -/
def evRingOpen (s : State) (b : Bytes) (cons : Option Nat) : State × Status :=
  match evRingParse b with
  | .error st => (s, st)
  | .ok (g, start) =>
    let old := s.recd.evRing.map fun o => { o with cons := match cons with | some c => c % o.records | none => o.cons }
    let same : Bool := match old with | some o => o.base == g.base && o.records == g.records | none => false
    let busy : Bool := match old with | some o => o.prod != o.cons | none => false
    if busy ∧ !same then (s, .state)
    else
      let g := match old with
        | some o => if same then { g with prod := o.prod, cons := o.cons, gap := o.gap, updates := o.updates, got := o.got } else { g with gap := o.gap }
        | none => g
      let s := { s with recd := { s.recd with evRing := some g } }
      let s := if start = 0xFFFFFFFF then s else (heldFrom s start).foldl ringOffer s
      (event s evEventRingOpened [], .ok)

/-- EVENT_RING_OPEN (R506). -/
def execEventRingOpen (h : Nat) (data : Option Bytes) (cons : Option Nat) (s : State) : Res :=
  ok (startCmd s h 0x63 data fun s c => let (s, st) := evRingOpen s c.data cons; endCmd s h st 0 0)

/-- A failed access closes the event ring (R508). -/
def evRingFault (s : State) (msix : Nat) : State :=
  event (send { s with recd := { s.recd with evRing := none } } (.irq msix)) evEventRingFault []

/-- A ring of `records` slots has space (R94). -/
def ringSpace (prod cons records : Nat) : Bool := decide ((prod + records - cons) % records < records - 1)

/-- Write a record into the event ring; it counts towards the interrupt, and carries GAP after a dropped record (R507). -/
def evRingWrite (s : State) (g : EvRing) (r : EventRec) : State :=
  let s := send s (.host (g.base + 64 * g.prod) (evBytes { r with gap := r.gap || g.gap }))
  let irq := decide (g.irqRecords ≤ g.sinceIrq + 1)
  let s := bump { s with recd := { s.recd with evRing := some { g with
    prod := (g.prod + 1) % g.records
    gap := false
    sinceIrq := if irq then 0 else g.sinceIrq + 1
    got := (r.seq :: g.got).filter fun q => s.recd.fold.any fun x => x.seq == q } } } cRecEvringRecords
  if irq then send s (.irq g.msix) else s

/-- Use the event ring: `cons` is what a read of the consumer index gives, made before a burst of records, and always when the ring
appears full (R96, R507); a full ring whose index cannot be read is a failed access. -/
def withEvRing (s : State) (cons : Option Nat) (written : Bool) (k : State → EvRing → State) : State :=
  match s.recd.evRing with
  | none => s
  | some g =>
    let full := !ringSpace g.prod g.cons g.records
    if full ∧ cons = none then evRingFault s g.msix
    else
      let g := { g with cons := match cons with | some c => c % g.records | none => g.cons }
      let s := { s with recd := { s.recd with evRing := some g } }
      if !ringSpace g.prod g.cons g.records then s else if written then k s g else evRingFault s g.msix

/-- EVENT_RING_DELIVERY (R507): the oldest record of the backlog, at Timeline `t`. -/
def execEventRingDelivery (t : Nat) (cons : Option Nat) (written : Bool) (s : State) : Res :=
  let s := advance s t
  match s.recd.evRing with
  | none => ok s
  | some g =>
    if g.backlog = [] then ok s
    else ok (withEvRing s cons written fun s g =>
      match g.backlog with
      | [] => s
      | r :: l => evRingWrite s { g with backlog := l } r)

/-- A record as it now is, in the log or in the holding queue of a freeze. -/
def recordNow (s : State) (q : Nat) : Option EventRec :=
  match logFind s.mram.log q with
  | some (_, r) => some r
  | none => s.recd.holding.find? fun r => r.seq == q

/-- REPEAT_UPDATE_DELIVERY (R507): a copy of the record of a SEQ with its new REPEAT, at most once in 100 ms. -/
def execRepeatUpdateDelivery (q t : Nat) (cons : Option Nat) (written : Bool) (s : State) : Res :=
  let s := advance s t
  match s.recd.evRing with
  | none => ok s
  | some g => match g.updates.find? (fun u => u.seq == q && u.due), recordNow s q with
    | some u, some r =>
      if match u.last with | some l => decide (s.tmb.now < l + 100000000) | none => false then ok s
      else ok (withEvRing s cons written fun s g =>
        evRingWrite s { g with updates := g.updates.map fun x => if x.seq = q then { x with due := false, last := some s.tmb.now } else x }
          { r with repeatUpdate := true })
    | _, _ => ok s

/-! ### Signal history (R509 to R516) -/

/-- HISTORY_HOLD_RELEASE (R509): the minimum interval of a point's held change ends. -/
def execHistoryHoldRelease (id : Nat) (s : State) : Res :=
  let h := s.recd.hist.get id
  match h.held, h.last with
  | some r, some l =>
    let c := (s.pst.points.get id).hclass % 256
    let s := advance s (l.stamp + fld s (fRecHclassMinIntervalUs c) * 1000)
    ok (histOffer { s with recd := { s.recd with hist := s.recd.hist.upd id (fun h => { h with held := none }) } } r)
  | _, _ => ok s

/-- HISTORY_BLOCK_CLOSE (R511): FLUSH_MS after the block's first record. -/
def execHistoryBlockClose (s : State) : Res :=
  if s.recd.block = [] then ok s
  else ok (histClose (advance s (s.recd.blockFirst + fld s fRecCtrlFlushMs * 1000000)) true)

/-- The header and payload of a block as exported (R512, R515). -/
def blockBytes (b : HistBlock) (at' : Nat) (lost : Option Nat) : Bytes :=
  let stale (r : HistRec) : Bool := r.maxAge != 0 && decide (r.stamp + r.maxAge * 1000 < at')
  let pay := encBlock stale b.recs
  let head := magic 'P' 'S' 'H' 'B' ++ leBytes 2 0x0100 ++ leBytes 1 (b2n lost.isSome + 2 * b2n b.partialBlock) ++ zeros 1 ++ leBytes 8 b.seq ++
    leBytes 8 (b.recs.headD default).stamp ++ leBytes 4 b.epoch ++ leBytes 2 b.recs.length ++ leBytes 2 pay.length ++ leBytes 8 at' ++
    leBytes 8 b.mapBuild ++ leBytes 8 (b.recs.getLastD default).stamp ++ leBytes 4 (min (lost.getD 0) 0xFFFFFFFF)
  head ++ leBytes 4 (crc32c (head ++ pay)).toNat ++ pay

/-- A gap marker (R516). -/
def markerBytes (g : GapMark) (at' build : Nat) : Bytes :=
  let head := magic 'P' 'S' 'H' 'B' ++ leBytes 2 0x0100 ++ leBytes 1 5 ++ zeros 1 ++ leBytes 8 g.seq ++ leBytes 8 g.firstStamp ++
    leBytes 4 g.epoch ++ zeros 4 ++ leBytes 8 at' ++ leBytes 8 build ++ leBytes 8 g.lastStamp ++ leBytes 4 (min g.records 0xFFFFFFFF)
  head ++ leBytes 4 (crc32c head).toNat

/-- The export descriptor and START, or the status that refuses it (R514). -/
def histExportParse (b : Bytes) : Except Status (HistExport × Nat) :=
  if le b 0 8 % 4096 ≠ 0 ∨ le b 16 8 % 4 ≠ 0 ∨ !allZero (slice b 25 3) ∨ !allZero (slice b 32 32) ∨ 2 < le b 24 1 then .error .badField
  else if !pow2In (le b 8 4) 16 1048576 ∨ 255 < le b 12 4 ∨ le b 28 4 = 0 ∨ 65536 < le b 28 4 then .error .range
  else .ok (⟨le b 0 8, le b 8 4, le b 12 4, le b 16 8, le b 28 4, 0, 0, 0⟩, le b 24 1)

/-- HISTORY_OPEN (R514, R516): `cons` is the consumer index read at the CONS_ADDR of an export ring already open. -/
def historyOpen (s : State) (b : Bytes) (cons : Option Nat) : State × Status :=
  match histExportParse b with
  | .error st => (s, st)
  | .ok (x, start) =>
    let old := s.recd.exp.map fun o => { o with cons := match cons with | some c => c % o.blocks | none => o.cons }
    let same : Bool := match old with | some o => o.base == x.base && o.blocks == x.blocks | none => false
    let busy : Bool := match old with | some o => o.prod != o.cons | none => false
    if busy ∧ !same then (s, .state)
    else
      let x := match old with | some o => if same then { x with prod := o.prod, cons := o.cons } else x | none => x
      let oldest := match s.recd.ring with | b :: _ => b.seq | [] => s.recd.nextBlock
      let s := { s with recd := { s.recd with
        exp := some x
        expCursor := if start = 0 then oldest else if start = 1 then s.recd.expCursor else s.recd.nextBlock
        gapMark := if start = 2 then none else s.recd.gapMark
        expLost := none } }
      (event s evHistoryOpened [(4, 0), (8, (s.recd.expCursor : Int))], .ok)

/-- HISTORY_OPEN (R514). -/
def execHistoryOpen (h : Nat) (data : Option Bytes) (cons : Option Nat) (s : State) : Res :=
  ok (startCmd s h 0x64 data fun s c => let (s, st) := historyOpen s c.data cons; endCmd s h st 0 0)

/-- HISTORY_CLOSE (R514): the export stops at a block boundary and its cursor stays. -/
def execHistoryClose (h : Nat) (s : State) : Res :=
  ok (startCmd s h 0x65 (some []) fun s _ =>
    if s.recd.exp.isNone then endCmd s h .state 0 0
    else endCmd (event { s with recd := { s.recd with exp := none } } evHistoryClosed [(4, 0), (8, (s.recd.expCursor : Int))]) h .ok 0 0)

/-- A failed access closes the export (R508). -/
def historyFault (s : State) (msix : Nat) : State :=
  event (send { s with recd := { s.recd with exp := none } } (.irq msix)) evHistoryFault [(4, 0), (8, (s.recd.expCursor : Int))]

/-- Write one slot of the export ring (R514). -/
def exportWrite (s : State) (x : HistExport) (b : Bytes) : State :=
  let s := send s (.host (x.base + 4096 * x.prod) b)
  let irq := decide (x.irqBlocks ≤ x.sinceIrq + 1)
  let s := { s with recd := { s.recd with exp := some { x with
    prod := (x.prod + 1) % x.blocks
    sinceIrq := if irq then 0 else x.sinceIrq + 1 } } }
  if irq then send s (.irq x.msix) else s

/-- One block, or the gap marker before it, goes to the host (R515, R516). -/
def exportNext (s : State) (x : HistExport) : State :=
  match s.recd.gapMark with
  | some g =>
    let s := exportWrite s x (markerBytes g s.tmb.now (s.pst.map.getD default).build)
    let s := { s with recd := { s.recd with gapMark := none, expLost := some g.records } }
    event (bumpN s cRecHistBlocksLost g.blocks) evHistoryGap [(4, 0), (8, (g.seq : Int)), (4, g.records)]
  | none => match s.recd.ring.find? (fun b => b.seq == s.recd.expCursor) with
    | none => s
    | some b =>
      let s := exportWrite s x (blockBytes b s.tmb.now s.recd.expLost)
      bump { s with recd := { s.recd with expCursor := s.recd.expCursor + 1, expLost := none } } cRecHistExported

/-- HISTORY_EXPORT (R515): at Timeline `t`; `cons` is what a read of the consumer index gives, always made when the ring appears full. -/
def execHistoryExport (t : Nat) (cons : Option Nat) (written : Bool) (s : State) : Res :=
  let s := advance s t
  match s.recd.exp with
  | none => ok s
  | some x =>
    if s.recd.gapMark.isNone ∧ (s.recd.ring.find? (fun b => b.seq == s.recd.expCursor)).isNone then ok s
    else if !ringSpace x.prod x.cons x.blocks ∧ cons = none then ok (historyFault s x.msix)
    else
      let x := { x with cons := match cons with | some c => c % x.blocks | none => x.cons }
      let s := { s with recd := { s.recd with exp := some x } }
      if !ringSpace x.prod x.cons x.blocks then ok s
      else ok (if written then exportNext s x else historyFault s x.msix)

/-- The checks of a REC commit (R518). -/
def recCommitCheck (s : State) : Status :=
  if sfld s fRecCtrlFreezeMaxS = 0 then .range
  else if sfld s fRecCtrlFlushMs = 0 ∨ 1000 < sfld s fRecCtrlFlushMs then .range
  else if (List.range 256).any (fun n => let d := sfld s (fRecHclassDeadband n); decide (2 ^ 31 < d)) then .range
  else .ok

end Sys2Proof.Machine
end

