-- ==== Sys2Proof/Machine/Capture.lean ====
section
/-! DEFINITION. The Capture Engine's and Quench's commands (12_capture R380 to R407). -/
namespace Sys2Proof.Machine
open Sys2Proof

/-! ### Configuration (R380, R381) -/

/-- The 24-bit number in a descriptor word, whose bits 31:24 are reserved. -/
def fix24At (b : Bytes) (o : Nat) : Int := signed 24 (le b o 3)

/-- A channel descriptor (R380). -/
def capParse (b : Bytes) : CapDesc where
  source := le b 0 1
  input := le b 1 1
  trig := le b 2 1
  slope := bit (le b 3 1) 0
  inside := bit (le b 3 1) 1
  ring := le b 4 1 == 1
  stop := bit (le b 5 1) 0
  quench := bit (le b 5 1) 1
  group := le b 6 1
  master := le b 7 1 == 1
  pre := le b 8 4
  seg := le b 12 4
  count := le b 16 4
  levelA := fix24At b 20
  levelB := fix24At b 24
  ref := le b 28 4
  qch := le b 32 2
  skew := les b 34 2

/-- Tongs memory a channel occupies (R381). -/
def capBytes (d : CapDesc) : Nat :=
  d.count * (if d.source = 2 then 64 + d.seg * 32 else if d.source = 1 then 64 + (d.seg * 3 + 63) / 64 * 64 else 0)

/-- Memory of all configured channels but one. -/
def capOthers (s : State) (n : Nat) : Nat :=
  (List.range 16).foldl (fun a k => if k = n then a else a + capBytes (capCh s k).desc) 0

/-- The first failing check of a channel descriptor with its offset (R381). -/
def capCheck (s : State) (n : Nat) (b : Bytes) : Option (Status × Nat) :=
  let d := capParse b
  let c := capCh s n
  let cnv := decide (d.source = 1)
  if !(match c.state with | .idle | .disarmed | .full | .stopped => true | _ => false) then some (.state, 0)
  else if d.source = 0 then none
  else if 2 < d.source then some (.badField, 0)
  else if !cnv ∧ d.input ≠ 0 then some (.badField, 1)
  else if 6 < d.trig ∨ (!cnv ∧ d.trig ≠ 0) then some (.badField, 2)
  else if 3 < le b 3 1 then some (.badField, 3)
  else if 1 < le b 4 1 then some (.badField, 4)
  else if 3 < le b 5 1 ∨ (!cnv ∧ le b 5 1 ≠ 0) then some (.badField, 5)
  else if !cnv ∧ d.group ≠ 0 then some (.badField, 6)
  else if 1 < le b 7 1 ∨ (d.group = 0 ∧ le b 7 1 ≠ 0) then some (.badField, 7)
  else if le b 23 1 ≠ 0 then some (.badField, 20)
  else if le b 27 1 ≠ 0 then some (.badField, 24)
  else if d.trig ≠ 5 ∧ d.trig ≠ 6 ∧ d.ref ≠ 0 then some (.badField, 28)
  else if !allZero (b.drop 36) then some (.badField, 36)
  else if cnv ∧ 15 < d.input then some (.range, 1)
  else if 15 < d.group then some (.range, 6)
  else if !(if cnv then decide (16 ≤ d.seg ∧ d.seg ≤ 16777216 ∧ d.seg % 16 = 0) else decide (16 ≤ d.seg ∧ d.seg ≤ 4194304)) then
    some (.range, 12)
  else if (if cnv then d.seg - 16 else 0) < d.pre then some (.range, 8)
  else if d.count = 0 ∨ (if cnv then 65536 else 1) < d.count then some (.range, 16)
  else if (d.trig = 2 ∧ !(if d.slope then decide (d.levelA < d.levelB) else decide (d.levelB < d.levelA))) ∨
      (d.trig = 3 ∧ d.levelA ≤ d.levelB) then some (.range, 24)
  else if d.trig = 6 ∧ 127 < d.ref then some (.range, 28)
  else if d.skew < -2000 ∨ 2000 < d.skew then some (.range, 34)
  else if d.master ∧ (List.range 16).any (fun k => k != n && (capCh s k).desc.source == 1 && (capCh s k).desc.master &&
      (capCh s k).desc.group == d.group) then some (.state, 7)
  else if fld s fCapCtrlMemGib * 2 ^ 30 < capOthers s n + capBytes d then some (.noResource, 16)
  else if d.trig = 5 then
    match mapFind s.pst.map d.ref with
    | none => some (.noTarget, 28)
    | some e => if e.type = .bool then none else some (.badField, 28)
  else if d.trig = 6 ∧ fld s (fTmbTioCfgMode d.ref) ≠ 2 then some (.state, 28)
  else none

/-- CAP_CONFIG (R380, R381). -/
def capConfig (s : State) (c : Cmd) : State :=
  let n := c.unit
  match capCheck s n c.data with
  | some (st, off) => endCmd (capEvent (bump s cCapConfigRejected) evCapRejected n 0 0 off) c.handle st 0 0
  | none =>
    let d := capParse c.data
    let s := capUpd s n fun old => { (default : CapCh) with
      state := if d.source = 0 then .idle else .disarmed
      desc := if d.source = 0 then default else d
      lq := old.lq
      segStamp := old.segStamp
      violStamp := old.violStamp }
    endCmd (capEvent s evCapConfigured n 0 0 0) c.handle .ok 0 0

/-- CAP_CONFIG (R380, R381). -/
def execCapConfig (h : Nat) (data : Option Bytes) (s : State) : Res := ok (startCmd s h 0x4A data capConfig)

/-! ### Envelopes (R391 to R393) -/

/-- The points of an envelope. -/
def maskPoints (b : Bytes) : List MaskPoint :=
  (chunks 16 ((b.length - 32) / 16) (b.drop 32)).map fun p => ⟨le p 0 4, fix24At p 4, fix24At p 8⟩

/-- T_NS rises strictly from 0. -/
def maskRises : List MaskPoint → Bool
  | a :: b :: t => decide (a.t < b.t) && maskRises (b :: t)
  | _ => true

/-- The first failing check of an envelope (R393), with its offset. -/
def maskCheck (s : State) (n : Nat) (b : Bytes) : Option (Status × Nat) :=
  let c := capCh s n
  let anchor := le b 6 1
  let count := le b 8 4
  let pts := maskPoints b
  if c.state = .idle ∨ c.desc.source = 2 then some (.state, 0)
  else if slice b 0 4 ≠ magic 'P' 'S' 'M' 'K' then some (.badField, 0)
  else if 2 < anchor then some (.badField, 6)
  else if !allZero (slice b 24 8) ∧ resChecked (le b 4 2) then some (.badField, 24)
  else if pts.any (fun p => decide (p.hi ≤ p.lo)) ∨ !maskRises pts ∨ (pts.headD default).t ≠ 0 then some (.badField, 32)
  else if (chunks 16 ((b.length - 32) / 16) (b.drop 32)).any (fun p => resChecked (le b 4 2) &&
      (le p 7 1 != 0 || le p 11 1 != 0 || le p 12 4 != 0)) then some (.badField, 32)
  else if anchor = 0 ∧ c.desc.trig = 4 then some (.badField, 6)
  else if le b 5 1 ≠ 1 then some (.version, 4)
  else if (crc32c (b.drop 32)).toNat ≠ le b 20 4 then some (.checksum, 20)
  else if le b 7 1 = 0 then some (.range, 7)
  else if count = 0 ∨ 4096 < count ∨ (anchor = 2 ∧ count ≠ 1) ∨ b.length ≠ 32 + 16 * count then some (.range, 8)
  else if (anchor = 1 ∧ (le b 12 4 < 1000 ∨ 4000000000 < le b 12 4)) ∨ (anchor ≠ 1 ∧ le b 12 4 ≠ 0) then some (.range, 12)
  else if (anchor = 1 ∧ le b 12 4 ≤ le b 16 4) ∨ (anchor ≠ 1 ∧ le b 16 4 ≠ 0) then some (.range, 16)
  else none

/-- MASK_LOAD (R391, R393): in force at once, or on an armed channel at its anchor. -/
def maskLoad (s : State) (c : Cmd) : State :=
  let n := c.unit
  match maskCheck s n c.data with
  | some (st, off) => endCmd (capEvent s evCapMaskRejected n 0 0 off) c.handle st 0 0
  | none =>
    let b := c.data
    let m : CapMask := ⟨le b 6 1, le b 7 1, maskPoints b, le b 12 4, le b 16 4⟩
    let s := capEvent (maskNow s n) evCapMaskLoaded n 0 0 0
    let live : Bool := match (capCh s n).state with | .armed | .post | .rearm => true | _ => false
    if live then capUpd s n fun x => { x with maskNext := some (m, c.handle, s.tmb.now) }
    else endCmd (capUpd s n fun x => { x with mask := some m }) c.handle .ok m.points.length 0

/-- MASK_LOAD (R393). -/
def execMaskLoad (h : Nat) (data : Option Bytes) (s : State) : Res := ok (startCmd s h 0x4B data maskLoad)

/-! ### Arming, firing and stopping (R382 to R384) -/

/-- A converter group runs a Burst mode on an input (R384). -/
def burstOn (s : State) (input : Nat) : Bool :=
  (List.range 4).any fun g => let k := s.cnv.group.get g
    (k.cfg.mode == 1 || k.cfg.mode == 2) && k.cfg.input == input

/-- A channel can be armed (R383, R384). -/
def capArmable (s : State) (n : Nat) : Bool :=
  let c := capCh s n
  (match c.state with | .disarmed | .full | .stopped => true | _ => false) && c.desc.source == 1 &&
    !(c.desc.trig == 4 && c.mask.isNone) && burstOn s c.desc.input

/-- An ARM launches (R383, R384): held segments and missed triggers are discarded, numbering restarts. -/
def capArm (s : State) (n : Nat) : State :=
  let s := capUpd s n fun c => { c with
    state := .armed
    vcount := 0
    since := s.tmb.now * 4
    hist := []
    prev := none
    cond := false
    first := true
    primed := false
    cur := none
    stopAfter := false
    stopSent := false
    next := 0
    held := []
    missed := 0
    miss := []
    missNoted := false
    violNoted := false }
  capEvent s evCapArmed n 0 0 0

/-- STOP of a channel (R383). -/
def capStop (s : State) (n : Nat) : State :=
  match (capCh s n).state with
  | .armed | .rearm =>
    capEvent (maskNow (capUpd s n fun c => { c with state := .stopped }) n) evCapStopped n ((capCh s n).next - 1) 0 0
  | .post => capUpd s n fun c => { c with stopSent := true }
  | _ => bump s cCapFireIgnored

/-- The ARM of a master fails: the CAP_ARM of its group ends with its status (R384, R400). -/
def groupArmFails (s : State) (n inst : Nat) (st : Status) : State :=
  match s.cap.arms.find? fun a => a.channel == n && a.instant == inst with
  | some a => endLaunch { s with cap := { s.cap with arms := s.cap.arms.erase a } } ⟨inst, 0, false, 1, 0, a.cmd⟩ st 0
  | none => s

/-- An entry of a channel's launch queue acts at its launch (R383). -/
def capAct (s : State) (n : Nat) (e : LqEntry) : State :=
  match e.action with
  | 1 => if capArmable s n then endLaunch (capArm s n) e .ok 0 else groupArmFails (endLaunch s e .state 0) n e.instant .state
  | 2 => endLaunch (capTrigger s n (s.tmb.now * 4) 8 false) e .ok 0
  | _ => endLaunch (capStop s n) e .ok 0

/-- An entry reaches a channel's launch queue (R57 to R61, R383). -/
def capEnqueue (s : State) (n : Nat) (e : LqEntry) : State × Status :=
  if e.action = 0 ∨ 3 < e.action ∨ e.tag ≠ 0 then (s, .badField)
  else
    let a := arrival s 200 e
    let s := noteLate s a 0x0C n
    match a with
    | .lateRun => (capAct s n e, .ok)
    | .lateDrop => (s, .timeout)
    | .onTime =>
      if 16 ≤ (capCh s n).lq.length then (s, .noResource)
      else (capUpd s n fun c => { c with lq := lqInsert e c.lq }, .ok)

/-- The front entry of a channel's queue launches, when its action is `a`. -/
def capLaunch (a n : Nat) (s : State) : State :=
  match (capCh s n).lq with
  | [] => s
  | e :: t =>
    if e.action ≠ a then s
    else capAct (capUpd (advance s e.instant) n fun c => { c with lq := t }) n e

/-- CAP_ARM_LAUNCH (R383, R384). -/
def execCapArmLaunch (n : Nat) (s : State) : Res := ok (capLaunch 1 n s)
/-- CAP_FIRE (R383, R387). -/
def execCapFire (n : Nat) (s : State) : Res := ok (capLaunch 2 n s)
/-- CAP_STOP (R383). -/
def execCapStop (n : Nat) (s : State) : Res := ok (capLaunch 3 n s)

/-- The other channels of a group on this module. -/
def groupMembers (s : State) (g : Nat) : List Nat :=
  (List.range 16).filter fun k => (capCh s k).desc.source == 1 && (capCh s k).desc.group == g && !(capCh s k).desc.master

/-- ARM one channel, by its instant; 0 arms at once. -/
def capArmAt (s : State) (n inst : Nat) (late : Bool) (cmd : Option Nat) : State :=
  let e : LqEntry := ⟨inst, 0, late, 1, 0, cmd⟩
  if inst = 0 then capAct s n e
  else
    let (t, st) := capEnqueue s n e
    if st = .ok then t else endLaunch t e st 0

/-- CAP_ARM (R384, R400): one channel, or the whole group of a MASTER. -/
def capArmCmd (s : State) (n inst : Nat) (cmd : Option Nat) : State :=
  let c := capCh s n
  let e : LqEntry := ⟨inst, 0, false, 1, 0, cmd⟩
  if c.state = .idle ∨ c.desc.source = 2 ∨ (c.desc.group ≠ 0 ∧ !c.desc.master) then endLaunch s e .state 0
  else if c.desc.group = 0 then capArmAt s n inst false cmd
  else
    let i := if inst = 0 then s.tmb.now + 10000 else inst
    let (s, st) := capEnqueue { s with cap := { s.cap with arms := s.cap.arms ++ [⟨n, i, cmd, []⟩] } } n ⟨i, 0, false, 1, 0, none⟩
    let s := if st = .ok then s else groupArmFails s n i st
    let s := if s.cap.arms.any fun a => a.channel == n && a.instant == i then
        (groupMembers s c.desc.group).foldl (fun s k => capArmAt s k i false none) s
      else s
    if s.tmb.joined && s.cap.arms.any fun a => a.channel == n && a.instant == i then waligAll s clsTRIG 1 0xFF true (leBytes 1 c.desc.group ++ lesBytes 8 (i + s.tmb.domOff)) else s

/-- CAP_ARM (R384, R400). -/
def execCapArm (h : Nat) (s : State) : Res :=
  ok (startCmd s h 0x4C (some []) fun s c => capArmCmd s c.unit c.instant (some c.handle))

/-- CAP_GROUP_ARM_INSTANT (R400): at I the master's command completes; `members` are the modules that have members of the group. -/
def execCapGroupArmInstant (n : Nat) (members : List Nat) (s : State) : Res :=
  match s.cap.arms.find? (·.channel == n) with
  | none => ok s
  | some a =>
    let s := advance s a.instant
    let s := { s with cap := { s.cap with arms := s.cap.arms.erase a } }
    let lost := if s.tmb.joined then members.filter (fun m => !a.acked.contains m) else []
    let s := lost.foldl (fun s m => capEvent s evCapMemberLost n 0 m 0) s
    let e : LqEntry := ⟨a.instant, 0, false, 1, 0, a.cmd⟩
    let waits := (capCh s n).lq.any fun x => x.action == 1 && x.instant == a.instant
    ok (endLaunch s e (if waits && !capArmable s n then .state else if lost.isEmpty then .ok else .noTarget) 0)

/-- A member enqueues the ARM of its group at the domain instant and acknowledges it (R400, R70): group, instant. -/
def trigArm (s : State) (src : Nat) (b : Bytes) : State :=
  let group := le b 0 1
  if !s.tmb.joined then s
  else
    let i := (les b 1 8 - s.tmb.domOff).toNat
    let l := groupMembers s group
    if group = 0 ∨ l.isEmpty then s
    else
      let s := l.foldl (fun s n => (capEnqueue s n ⟨i, 0, false, 1, 0, none⟩).1) s
      waligAll s clsTRIG 3 src false (leBytes 1 group)

/-- TRIG_ARM_RX (R400, R70): the message `b` at port `p`. -/
def execTrigArmRx (p : Nat) (b : Bytes) (t : Nat) (s : State) : Res := ok (pairRx s p clsTRIG 1 b t trigArm)

/-- A member acknowledged before I (R400): group. -/
def trigAck (s : State) (src : Nat) (b : Bytes) : State :=
  { s with cap := { s.cap with arms := s.cap.arms.map fun a =>
    if (capCh s a.channel).desc.group = le b 0 1 ∧ s.tmb.now < a.instant then { a with acked := a.acked ++ [src] } else a } }

/-- TRIG_ACK_RX (R400): the message `b` at port `p`. -/
def execTrigAckRx (p : Nat) (b : Bytes) (t : Nat) (s : State) : Res := ok (pairRx s p clsTRIG 3 b t trigAck)

/-! ### Group fires (R401, R402) -/

/-- The history ring of a channel holds the trigger sample of an instant (R402). -/
def capHolds (c : CapCh) (q : Nat) : Bool := (capEligible c).any (fun x => decide (q ≤ x.q)) && (capEligible c).any (fun x => decide (x.q < q))

/-- A fire reaches one channel of its group (R401, R402); `local'`: it came from this module. -/
def capFireOn (s : State) (n q src module : Nat) (late stop : Bool) : State :=
  let s := bump s cCapFiresReceived
  let unlocked := s.tmb.joined && !s.tmb.domLock
  let s := if unlocked then capEvent (bump s cCapUnlockedFires) evCapUnlockedFire n (capCh s n).next module 0 else s
  if !late then capJudge s n q src module unlocked stop
  else
    let s := capEvent s evCapFireLate n (capCh s n).next module 0
    let c := capCh s n
    if c.state = .armed ∧ !capHolds c q then capMissed s n 3 q module src
    else capJudge s n q src module unlocked stop

/-- A fire of another module reaches the channels of its group (R402): group, domain instant in quarter ns. -/
def trigFire (s : State) (src : Nat) (b : Bytes) : State :=
  let g := le b 0 1
  if g = 0 ∨ !s.tmb.joined then s
  else
    let q := localQ s (les b 1 8)
    let late := decide (q + 4800 < 4 * s.tmb.now)
    (List.range 16).foldl (fun s n =>
      if (capCh s n).desc.source = 1 ∧ (capCh s n).desc.group = g then capFireOn s n q 7 src late false else s) s

/-- TRIG_FIRE_RX (R401, R402): a fire is delivered to the channels of its group, one of this module's own 1.2 µs after its instant (none), or
one from another module (port and message) at Timeline `t`. -/
def execTrigFireRx (rx : Option (Nat × Bytes)) (t : Nat) (s : State) : Res :=
  match rx with
  | none =>
    match s.cap.fires with
    | [] => ok s
    | f :: rest =>
      let q := localQ s f.q
      let s := advance { s with cap := { s.cap with fires := rest } } ((q + 4800 + 3) / 4)
      ok ((List.range 16).foldl (fun s n =>
        if (capCh s n).desc.source = 1 ∧ (capCh s n).desc.group = f.group then
          capFireOn s n q f.src localModule false (f.stopCh == some n) else s) s)
  | some (p, b) => ok (pairRx s p clsTRIG 2 b t trigFire)

/-! ### The end of a segment (R386, R399) -/

/-- REARM_END (R386, R394): 100 ns after a segment's last sample the channel rearms, is full, or stops. -/
def execRearmEnd (n : Nat) (s : State) : Res :=
  let c := capCh s n
  if c.state ≠ .rearm then ok s
  else
    let s := advance s ((c.rearmAt + 3) / 4)
    if c.stopAfter then
      ok (capEvent (maskNow (capUpd s n fun c => { c with state := .stopped, stopAfter := false }) n) evCapStopped n (c.next - 1) 0 0)
    else if !c.desc.ring ∧ c.desc.count ≤ c.next then
      ok (capEvent (maskNow (capUpd s n fun c => { c with state := .full }) n) evCapFull n (c.next - 1) 0 0)
    else ok (capUpd s n fun c => { c with state := .armed, since := c.rearmAt, first := true })

/-- POST_WINDOW_EXPIRY (R399): the post window of a segment whose stream has stopped has passed. -/
def execPostWindowExpiry (n : Nat) (s : State) : Res :=
  let c := capCh s n
  match c.state, c.cur with
  | .post, some g => ok (capGap (advance s ((g.trig * 250 + (c.desc.seg - c.desc.pre) * g.spacing + 999) / 1000)) n)
  | _, _ => ok s

/-! ### Loop recorders (R385) -/

/-- A loop recorder is free for a test of `count` records (R385). -/
def recorderFree (s : State) (n count : Nat) : Bool :=
  let c := capCh s n
  decide (n < 16) && c.desc.source == 2 && c.state == .disarmed && decide (count ≤ c.desc.seg)

/-- A test takes its recorder (R385). -/
def recorderStart (s : State) (n loop pre : Nat) : State :=
  capUpd s n fun c => { c with
    state := .recording
    loop := loop
    held := []
    next := 0
    cur := some { (default : CapSeg) with module := localModule, preReq := pre, skewStale := !skewValid s } }

/-- One record of a loop under test (R385). -/
def recorderPut (s : State) (n : Nat) (r : Bytes) : State :=
  capUpd s n fun c => { c with cur := c.cur.map (fun g => { g with recs := g.recs ++ [r] }) }

/-- The injection starts: TRIG_STAMP of the recorder's segment (R385). -/
def recorderTrig (s : State) (n at' : Nat) : State :=
  capUpd s n fun c => { c with
    lastTrig := at' * 4
    cur := c.cur.map (fun g => { g with trig := at' * 4, epoch := (epochOfStamp s at').number }) }

/-- The test ends or is aborted: the segment is stored, the recorder is DISARMED again (R385). -/
def recorderEnd (s : State) (n : Nat) : State :=
  let c := capCh s n
  match c.state, c.cur with
  | .recording, some g => bump (capUpd s n fun c => { c with state := .disarmed, cur := none, held := [g], next := 1 }) cCapSegments
  | _, _ => s

/-! ### Readout (R386, R389, R403) -/

/-- The data of a segment, padded to 64 bytes (R386). -/
def segData (g : CapSeg) : Bytes :=
  let d := if g.recs.isEmpty then (g.pre ++ g.post).flatMap (fun x => lesBytes 3 x.v) else g.recs.flatMap id
  d ++ zeros ((64 - d.length % 64) % 64)

/-- FLAGS of a segment header (R386). -/
def segFlags (g : CapSeg) : Nat :=
  let l := g.pre ++ g.post
  b2n (g.recs.isEmpty && decide (g.pre.length < g.preReq)) + 2 * b2n (l.any (·.viol)) + 4 * b2n g.gap + 8 * b2n g.degraded + 16 * b2n g.unlocked +
  32 * b2n (l.any (·.ovr)) + 64 * b2n g.mixed + 128 * b2n g.skewStale

/-- The header and data of a segment (R386), with its CRC; INDEX can be overridden for a torn slot (R403). -/
def segBytes (g : CapSeg) (ch : Nat) : Bytes :=
  let l := g.pre ++ g.post
  let first := match l with
    | x :: _ => x.q
    | [] => 4 * (match g.recs with | r :: _ => le r 0 8 | [] => 0)
  let tgen := match g.post with | x :: _ => x.tgen | [] => 0
  let viol := match l.findIdx? (·.viol) with | some i => i | none => 0xFFFFFFFF
  let h := leBytes 4 g.index ++ leBytes 1 ch ++ leBytes 1 g.src ++ leBytes 1 g.module ++ leBytes 1 (segFlags g) ++ leBytes 8 (g.trig / 4) ++
    leBytes 1 (g.trig % 4) ++ zeros 3 ++ leBytes 4 (if g.recs.isEmpty then g.pre.length else g.preReq) ++
    leBytes 4 (if g.recs.isEmpty then l.length else g.recs.length) ++ leBytes 4 g.spacing ++ leBytes 8 (first / 4) ++ leBytes 1 (first % 4) ++
    zeros 1 ++ leBytes 2 tgen ++ leBytes 4 g.epoch ++ leBytes 4 viol ++ leBytes 4 g.missed ++ zeros 4
  let d := segData g
  h ++ leBytes 4 (crc32c (h ++ d)).toNat ++ d

/-- The 16 bytes of a missed-list entry (R389). -/
def missBytes (m : CapMiss) : Bytes :=
  leBytes 8 (m.q / 4) ++ leBytes 1 (m.q % 4) ++ leBytes 1 m.reason ++ leBytes 1 m.module ++ leBytes 1 m.src ++ leBytes 4 m.index

/-- CAP_MISS_READ (R389): a write of CAP_MISS_SEL loads CAP_MISS_DATA. -/
def capMissRead (v : Word) (s : State) : State :=
  let n := v.toNat
  let s := setFld (setFld s fCapMissSelChannel (bits n 3 0)) fCapMissSelEntry (bits n 25 16)
  let m := (capCh s (bits n 3 0)).miss[bits n 25 16]?
  { s with cap := { s.cap with missData := match m with | some x => missBytes x | none => [] } }

/-- CAP_MISS_READ (R389). -/
def execCapMissRead (v : Word) (s : State) : Res := regCmd s 0x0C (capMissRead v)

/-! ### Quench (R395 to R398) -/

/-- A write of QCH_FORCE (R395). -/
def qchForceWrite (v : Word) (s : State) : State :=
  (List.range 16).foldl (fun s n =>
    qchChange s n 0 fun s => setFld s fQchForceForce (setBits (fld s fQchForceForce) n n (bits v.toNat n n))) s

/-- QCH_FORCE_WRITE (R395). -/
def execQchForceWrite (v : Word) (s : State) : Res := regCmd s 0x13 (qchForceWrite v)

/-- A release is decided (R397): the latch of the pin clears, or the release is refused. -/
def qchReleaseNow (s : State) (n : Nat) : State :=
  if qchAnv s n ∨ qchHost s n ∨ (s.qch.pin.get n).fatal then
    qchEvent (bump (qchUpd n (fun p => { p with relWait := false, relRefused := true }) s) cQchReleaseRefused) evQchReleaseRefused n 0
  else
    let s := qchChange s n 0 (qchUpd n fun p => { p with latch := false, relWait := false, relRefused := false })
    qchEvent (bump s cQchReleases) evQchReleased n 0

/-- The instant at which a pin has been active for MIN_ACTIVE_US (R397). -/
def qchMinAt (s : State) (n : Nat) : Nat :=
  match (s.qch.pin.get n).activeSince with
  | some t => t + 1000 * fld s (fQchPinMinActiveUs n)
  | none => s.tmb.now

/-- A write of 1 to QCH_PIN RELEASE (R397). -/
def qchRelease (n : Nat) (s : State) : State :=
  if s.tmb.now < qchMinAt s n ∧ !(qchAnv s n || qchHost s n || (s.qch.pin.get n).fatal) then qchUpd n (fun p => { p with relWait := true }) s
  else qchReleaseNow s n

/-- QCH_RELEASE (R397). -/
def execQchRelease (n : Nat) (s : State) : Res := if n < 16 then regCmd s 0x13 (qchRelease n) else ok s

/-- QCH_RELEASE_DEFERRED (R397): MIN_ACTIVE_US has passed. -/
def execQchReleaseDeferred (n : Nat) (s : State) : Res :=
  if (s.qch.pin.get n).relWait then ok (qchReleaseNow (advance s (qchMinAt s n)) n) else ok s

/-- QCH_READBACK_FAULT (R398): the level of an enabled pin differed from the driven one for 1 µs. -/
def execQchReadbackFault (n t : Nat) (s : State) : Res :=
  let s := advance s t
  if n < 16 ∧ flag s (fQchPinEn n) then
    let s := setFld (qchUpd n (fun p => { p with mismatch := true }) s) (fQchPinFault n) 1
    ok (qchEvent (bump (assertFault s (.qchPin n)) cQchPinFaults) evQchPinFault n 0)
  else ok s

/-! ### The commits (R406, R407) -/

/-- The checks of a CAP commit. -/
def capCommitCheck (s : State) : Status :=
  let n := sfld s fCapCtrlMemGib
  if n = 0 ∨ 8 < n then .range
  else if n ≠ fld s fCapCtrlMemGib ∧ (List.range 16).any (fun k => let st := (capCh s k).state; st != .idle && st != .disarmed) then .state
  else if n * 2 ^ 30 < capOthers s 16 then .noResource
  else .ok

/-- The checks of a QCH commit. -/
def qchCommitCheck (s : State) : Status :=
  if (List.range 16).any (fun n => qchActive s n && (sfld s (fQchPinEn n) != fld s (fQchPinEn n) || sfld s (fQchPinPol n) != fld s (fQchPinPol n)))
  then .state else .ok

end Sys2Proof.Machine
end

