-- ==== Sys2Proof/Machine/CnvOps.lean ====
section
/-! DEFINITION. The converter array's shared operations (11_converter R353 to R367): slices and rates, results, the result queue, the
publisher, Temper generations, and what a loop input reads (10_loops R321). -/
namespace Sys2Proof.Machine
open Sys2Proof

/-- A group. -/
def cnvG (s : State) (g : Nat) : CnvGroup := s.cnv.group.get g
/-- A slice. -/
def cnvS (s : State) (n : Nat) : CnvSlice := s.cnv.slice.get n
/-- Change a group. -/
def cnvUpd (s : State) (g : Nat) (f : CnvGroup → CnvGroup) : State := { s with cnv := { s.cnv with group := s.cnv.group.upd g f } }
/-- Change a slice. -/
def sliceUpd (s : State) (n : Nat) (f : CnvSlice → CnvSlice) : State := { s with cnv := { s.cnv with slice := s.cnv.slice.upd n f } }

/-- An event of the converter: group, slice, input, consumer, TGEN (R377). -/
def cnvEvent (s : State) (k : EvKind) (g slice input : Nat) : State :=
  event s k [(2, g), (2, slice), (2, input), (2, 0), (4, s.cnv.tgen)]

/-- The mode runs a Burst stream (R354). -/
def isBurst (m : Nat) : Bool := m == 1 || m == 2

/-- The slices a group may draw from in a mode (R354, R374). -/
def sliceSet (g mode : Nat) : List Nat :=
  if mode = 1 then (if g = 0 then List.range 16 else []) else (List.range 4).map (4 * g + ·)

/-- The healthy slices a Burst group uses (R374): the largest power of two of them. -/
def burstSlices (s : State) (g mode : Nat) : List Nat :=
  let l := (sliceSet g mode).filter fun n => (cnvS s n).failed == 0
  if l.isEmpty then [] else l.take (2 ^ Nat.log2 l.length)

/-- Slices a group uses under its configuration. -/
def slicesFor (s : State) (g : Nat) (c : CnvCfg) : List Nat :=
  if isBurst c.mode then burstSlices s g c.mode
  else if c.mode = 3 then (sliceSet g 3).filter fun n => (cnvS s n).failed == 0 && !(c.seqs.getD (n % 4) []).isEmpty
  else []

/-- The FIX24 range (R363, R364). -/
def satFix24 (v : Int) : Int × Bool :=
  let c := clampI (-(2 ^ 23)) (2 ^ 23 - 1) v
  (c, c != v)

/-- A Burst result (R363). -/
def burstResult (cs : List Int) (shift : Nat) : Int × Bool := satFix24 ((cs.foldl (· + ·) 0) * 16 / (2 ^ shift : Nat))

/-- A Scan result (R364). -/
def scanResult (c ofs : Int) (gcorr : Nat) : Int × Bool := satFix24 ((c * 16 - ofs) * gcorr / 4194304)

/-- The value a point of a type takes from a result (R366). -/
def cnvValue (t : PType) (r : Int) : Val :=
  if t = .real32 then BitVec.ofNat 64 (real32Code ((r : Rat) / 8388608)) else BitVec.ofInt 64 r

/-- The type of a mapped point. -/
def pointType (s : State) (id : Nat) : PType := match mapFind s.pst.map id with | some e => e.type | none => .none

/-- The publisher writes one result (R366, R353). -/
def cnvPublish (s : State) (p : Nat × Nat × Int × Nat × Bool) : State :=
  let (id, input, r, q, ovr) := p
  let flags : BitVec 16 := if ovr then (if r < 0 then qUNDER else qOVER) else 0
  inputGroup (bump s cCnvPubWrites) 0x0B input (q / 4) [r]
    [⟨id, cnvValue (pointType s id) r, none, some (q / 4), qVALID ||| flags, wCNV, input, false⟩]

/-- A publish point is written once with BAD, VALID clear, its value unchanged (R369, R374, R375). -/
def badPoint (s : State) (cls unit id : Nat) : State :=
  if id = 0 then s else blockWrite s cls unit id (s.pst.points.get id).value none qBAD

/-- The publisher's turn: it writes at most one value a microsecond for each group (R366). -/
def pubTurn (s : State) (g : Nat) : State :=
  let k := cnvG s g
  match k.pend with
  | [] => s
  | p :: t =>
    if s.tmb.now < k.slotAt then s
    else cnvPublish (cnvUpd s g fun k => { k with pend := t, slotAt := max k.slotAt (s.tmb.now - 999) + 1000 }) p

/-- A result goes to the publisher: a faster one of the same point replaces the waiting one (R366). -/
def pubOffer (s : State) (g : Nat) (p : Nat × Nat × Int × Nat × Bool) : State :=
  let k := cnvG s g
  let dup := k.pend.any (·.1 == p.1)
  let s := if dup then bump s cCnvPubCoalesced else s
  pubTurn (cnvUpd s g fun k => { k with pend := k.pend.filter (·.1 != p.1) ++ [p] }) g

/-- Entries a queue holds (R362). -/
def cnvQueueMax : Nat := 8192

/-- An entry is released to the group's queue (R362, R365). -/
def cnvRelease (s : State) (g : Nat) (e : QEntry) : State :=
  bump (cnvUpd s g fun k => { k with queue := (e :: k.queue).take cnvQueueMax, lastStamp := e.q / 4 }) cCnvEntries

/-- An input has overranged (R353). -/
def cnvOver (s : State) (input : Nat) : State := setFld (bump s cCnvOverrange) (fCnvAinOvr input) 1

/-- A group produces results now. -/
def cnvRuns (s : State) (g : Nat) : Bool :=
  let k := cnvG s g
  s.cnv.clkOk && s.cnv.fg.isNone && !k.stopped && !k.slices.isEmpty

/-- A capture channel fed by a group is armed (R359, R371). -/
def capArmedOn (s : State) (g : Nat) : Bool :=
  let k := cnvG s g
  isBurst k.cfg.mode && (List.range 16).any fun n =>
    let c := capCh s n
    c.desc.source == 1 && c.desc.input == k.cfg.input && (match c.state with | .armed | .post | .rearm => true | _ => false)

/-- The group whose Burst stream of an input the consumers read. -/
def burstGroupOf (s : State) (input : Nat) : Option Nat :=
  (List.range 4).find? fun g => isBurst (cnvG s g).cfg.mode && (cnvG s g).cfg.input == input && !(cnvG s g).slices.isEmpty

/-- The points a group publishes to, with their inputs. -/
def cnvPoints (k : CnvGroup) : List (Nat × Nat) :=
  if isBurst k.cfg.mode then (if k.cfg.pub then [(k.cfg.point, k.cfg.input)] else [])
  else if k.cfg.mode = 3 then (k.cfg.seqs.flatMap id).filterMap fun e => if e.pub then some (e.point, e.input) else none
  else []

/-- Every publish point of a group is written once with BAD. -/
def cnvAllBad (s : State) (g : Nat) : State := (cnvPoints (cnvG s g)).foldl (fun s p => badPoint s wCNV p.2 p.1) s

/-- The capture channels see that a group's stream breaks off or goes on elsewhere; its entry being filled is lost. -/
def cnvStop (s : State) (g : Nat) : State :=
  let s := cnvUpd s g fun k => { k with stopped := true, fill := none, gapNext := true, pend := [] }
  (sliceSet g 3).foldl (fun s n => sliceUpd s n fun x => { x with at' := none }) s

/-! ### What a loop reads (10_loops R321, R366) -/

/-- The latest result of a list of entries (newest first) stamped at or before `t` ns. -/
def latestIn (t : Nat) : List QEntry → Option (Nat × Int × Bool)
  | [] => none
  | e :: rest => match e.results.reverse.find? (fun r => decide (r.1 ≤ 4 * t)) with
    | some r => some (r.1, r.2, e.bad)
    | none => latestIn t rest

/-- The latest result of an input's Burst stream (`sub` 0xFF) or Scan entry stamped at or before `t`: stamp in quarter ns, result, BAD. -/
def cnvLatest (s : State) (input sub t : Nat) : Option (Nat × Int × Bool) :=
  let of (g : Nat) : Option (Nat × Int × Bool) :=
    let k := cnvG s g
    latestIn t ((k.fill.toList ++ k.queue).filter fun e =>
      e.input == input && (if sub = 0xFF then e.kind == 1 else e.kind == 2 && e.entry == sub))
  (List.range 4).foldl (fun a g => match a, of g with
    | none, b => b
    | some x, some y => if x.1 < y.1 then some y else some x
    | some x, none => some x) none

/-! ### Temper generations (R367 to R371) -/

/-- A bounded change of one coefficient: at most `n` units of its register either way, which the manual leaves to the measurement. -/
def nudge (s : State) (n : Nat) : Int × State :=
  let (f, s) := drawFree s
  ((f.toNat % (2 * n + 1) : Nat) - (n : Int), s)

/-- Background Temper moves a slice's coefficients by no more than R370 allows. -/
def sliceNudge (s : State) (n : Nat) : State :=
  let (a, s) := nudge s 1
  let (b, s) := nudge s 4
  let (c, s) := nudge s 1
  let (d, s) := nudge s 1
  sliceUpd s n fun x => { x with
    offset := x.offset + a
    gain := clampI (-419430) 419430 (x.gain + b)
    delay := clampI (-1000) 1000 (x.delay + c)
    taps := x.taps.map (· + d) }

/-- A foreground run measures a slice's coefficients afresh, within the correction range of R367. -/
def sliceMeasure (s : State) (n : Nat) : State :=
  let (a, s) := drawFree s
  let (b, s) := nudge s 419430
  let (c, s) := nudge s 1000
  let (d, s) := drawFree s
  sliceUpd s n fun x => { x with
    offset := signed 24 a.toNat
    gain := b
    delay := c
    taps := (List.range 4).map fun i => signed 16 (d.toNat >>> (16 * i)) }

/-- A new Temper generation is applied to the groups of a list (R367, R371). -/
def cnvGeneration (s : State) (gs : List Nat) : State :=
  let t := (s.cnv.tgen + 1) % 2 ^ 32
  let s := { s with cnv := { s.cnv with tgen := t, stale := false, updTemp := s.pwr.dieTemp } }
  gs.foldl (fun s g => cnvUpd s g fun k => { k with tgen := t, lastUpdate := s.tmb.now, deferSince := none }) s

/-- A foreground calibration completes (R368): one new generation, saved to settings; the first entry of every group carries GAP. -/
def fgDone (s : State) : State :=
  let s := (List.range 16).foldl sliceMeasure s
  let s := cnvGeneration s [0, 1, 2, 3]
  let s := (List.range 4).foldl (fun s g => cnvUpd s g fun k => { k with gapNext := true }) s
  let s := { s with cnv := { s.cnv with
    fg := none
    ready := true
    fgTemp := some s.pwr.dieTemp
    saved := some ⟨s.cnv.tgen, s.pwr.dieTemp, (List.range 16).map fun n =>
      let x := s.cnv.slice.get n
      (x.offset, x.gain, x.delay, x.taps)⟩ } }
  cnvEvent (settingsWritten s) evTemperDone 0 0 0

end Sys2Proof.Machine
end

