-- ==== Sys2Proof/Machine/Anvil.lean ====
section
/-! DEFINITION. The Anvil core's instruction set (09_anvil_core R278 to R304): the exposed pipeline, moves, addressing, arithmetic, moves
out, control flow, and how a routine stops. -/
namespace Sys2Proof.Machine
open Sys2Proof

/-- An Anvil core. -/
def anvC (s : State) (k : Nat) : AnvCore := s.anv.core.get k
/-- Change an Anvil core. -/
def anvUpd (s : State) (k : Nat) (f : AnvCore → AnvCore) : State := { s with anv := { s.anv with core := s.anv.core.upd k f } }
/-- A loop slot. -/
def loopOf (s : State) (n : Nat) : Loop := s.anv.loop.get n
/-- Change a loop slot. -/
def loopUpd (s : State) (n : Nat) (f : Loop → Loop) : State := { s with anv := { s.anv with loop := s.anv.loop.upd n f } }

/-- An event of the Anvil array: core, slot, cause, PC, data address (R311). -/
def anvEvent (s : State) (k : EvKind) (core slot cause pc addr : Nat) : State :=
  event s k [(2, core), (2, slot), (1, cause), (2, pc), (2, addr)]

/-! ### Registers of the pipeline (R278, R280, R295, R296) -/

/-- Register keys: X0, Y0, P0, N0, K0 as MOV numbers them (R289); the accumulators and the parts of FLG. -/
def kX : Nat := 0
/-- Y0. -/ def kY : Nat := 4
/-- P0. -/ def kP : Nat := 8
/-- N0. -/ def kN : Nat := 16
/-- K0. -/ def kK : Nat := 24
/-- A0. -/ def kA : Nat := 32
/-- Z, N, E and V of FLG, in bits 0 to 3. -/ def kZ : Nat := 36
/-- LS. -/ def kLS : Nat := 37
/-- VS. -/ def kVS : Nat := 38
/-- SC. -/ def kSC : Nat := 39

/-- Of two writes that have taken effect, the one that stands: the later effect, at one cycle the later issue (R296). -/
def laterWrite (fast : Bool) (a b : AnvWrite) : AnvWrite :=
  let ea := if fast then a.fast else a.slow
  let eb := if fast then b.fast else b.slow
  if ea < eb ∨ (ea = eb ∧ a.issue ≤ b.issue) then b else a

/-- A register as a consumer issued at cycle `c` sees it (R295): a class A operation that reads an accumulator sees fast results. -/
def regRd (r : AnvRun) (reg c : Nat) (fast : Bool) : Nat :=
  let l := r.writes.filter fun w => w.reg == reg && decide ((if fast then w.fast else w.slow) ≤ c)
  match l with
  | [] => r.regs.get reg
  | w :: t => (t.foldl (laterWrite fast) w).val

/-- A write issued now, visible `fast` and `slow` cycles later (R295). -/
def regWr (r : AnvRun) (reg fast slow val : Nat) : AnvRun :=
  { r with writes := r.writes ++ [⟨reg, r.used, r.used + fast, r.used + slow, val⟩] }

/-- Every write in the pipeline takes effect (a routine's end). -/
def regDrain (r : AnvRun) : SMap Nat :=
  (r.writes.map (·.reg)).foldl (fun m g => m.set g (regRd r g (r.used + 8) false)) r.regs

/-- The writes whose effect every consumer sees by cycle `c` leave the pipeline (it holds none older than three cycles). -/
def regSettle (r : AnvRun) (c : Nat) : AnvRun :=
  let old := r.writes.filter fun w => decide (w.slow ≤ c)
  { r with
    regs := (old.map (·.reg)).foldl (fun m g => m.set g (regRd { r with writes := old } g c false)) r.regs
    writes := r.writes.filter fun w => decide (c < w.slow) }

/-- A 56-bit accumulator as a signed number. -/
def accInt (v : Nat) : Int := signed 56 v
/-- A 24-bit operand as a signed fraction's numerator. -/
def op24 (v : Nat) : Int := signed 24 v

/-! ### Data memory (R281, R282, R295) -/

/-- A data word as a load issued at cycle `c` sees it. -/
def memRd (k : AnvCore) (r : AnvRun) (bank addr c : Nat) : Nat :=
  match (r.stores.filter fun w => w.bank == bank && w.addr == addr && decide (w.due ≤ c)).getLast? with
  | some w => w.val
  | none => (if bank = 0 then k.left else k.right).get addr

/-- Stores that every load sees leave the pipeline. -/
def memSettle (k : AnvCore) (r : AnvRun) (c : Nat) : AnvCore × AnvRun :=
  let old := r.stores.filter fun w => decide (w.due ≤ c)
  (old.foldl (fun k w => if w.bank = 0 then { k with left := k.left.set w.addr w.val } else { k with right := k.right.set w.addr w.val }) k,
   { r with stores := r.stores.filter fun w => decide (c < w.due) })

/-- First word of a slot's I/O area (R281). -/
def ioBase (slot : Nat) : Nat := 0x7E00 + slot * 32

/-- A word a routine may access (R282). -/
def memAllowed (r : AnvRun) (bank addr : Nat) : Bool :=
  match r.place with
  | none => true
  | some p =>
    if bank = 0 then (decide (p.lbase ≤ addr) && decide (addr < p.lbase + p.lwords)) ||
      (decide (ioBase r.slot ≤ addr) && decide (addr < ioBase r.slot + 32))
    else decide (p.rbase ≤ addr) && decide (addr < p.rbase + p.rwords)

/-! ### Addressing (R283, R284) -/

/-- The lowest `k` bits reversed. -/
def revBits (k v : Nat) : Nat := (List.range k).foldl (fun a i => if v.testBit i then a + 2 ^ (k - 1 - i) else a) 0

/-- The smallest m with 2^m not below L. -/
def ceilLog2 (l : Nat) : Nat := if l ≤ 1 then 0 else Nat.log2 (l - 1) + 1

/-- The new pointer value under the mode in K (R284). -/
def postMod (p kv : Nat) (d : Int) : Nat :=
  if kv / 0x8000 % 2 = 0 then
    if kv = 0 then (((p : Int) + d) % 32768).toNat
    else
      let l := kv % 0x8000 + 1
      let m := ceilLog2 l
      let b := p / 2 ^ m * 2 ^ m
      (b + (((p : Int) - b + d) % l).toNat) % 32768
  else
    let k := kv % 16
    if k = 0 then (((p : Int) + d) % 32768).toNat
    else
      let pl := p % 2 ^ k
      let dl := unsigned k d
      p / 2 ^ k * 2 ^ k + revBits k ((revBits k pl + revBits k dl) % 2 ^ k)

/-- The distance of a MOD code (R283). -/
def modDist (m : Nat) (n : Int) : Int :=
  match m with | 1 => 1 | 2 => -1 | 3 => n | 4 => -n | _ => 0

/-! ### Arithmetic and moves out (R279, R280, R291 to R294) -/

/-- The result wraps to 56 bits (R279). -/
def wrap56 (v : Int) : Nat := unsigned 56 v

/-- Z, N, E and V of a result (R280). -/
def flagsOf (exact : Int) : Nat :=
  let v := wrap56 exact
  let top := v / 2 ^ 47
  b2n (v == 0) + 2 * b2n (v.testBit 55) + 4 * b2n (top != 0 && top != 511) + 8 * b2n (decide (accInt v ≠ exact))

/-- The flags of a result enter the pipeline; VS is sticky (R280, R295). -/
def setFlags (r : AnvRun) (exact : Int) : AnvRun :=
  let f := flagsOf exact
  let r := regWr r kZ 2 2 f
  if f.testBit 3 then regWr r kVS 2 2 1 else r

/-- A move out of an accumulator (R293): the 24-bit result, and whether it was limited. -/
def moveOut (a : Nat) (sc : Int) : Nat × Bool :=
  let v : Rat := (accInt a : Rat) * pow2 sc
  if (2 : Rat) ^ 47 ≤ v then (0x7FFFFF, true)
  else if v < -((2 : Rat) ^ 47) then (0x800000, true)
  else (unsigned 24 (floorQ (v / 16777216)), false)

/-- EXP of an accumulator (R294). -/
def expOf (a : Nat) : Int :=
  let neg := a.testBit 55
  (((List.range 56).takeWhile fun i => a.testBit (55 - i) == neg).length : Int) - 9

/-- Shift by a signed amount, left exactly, right truncating toward minus infinity (R292). -/
def shiftInt (v : Int) (n : Int) : Int := if 0 ≤ n then v * 2 ^ n.toNat else v / (2 ^ (-n).toNat : Nat)

/-- The limited-output flag enters the pipeline and LIMITS counts (R293). -/
def noteLimit (lim : Bool) (s : State) (r : AnvRun) : State × AnvRun :=
  if lim then (bump s cAnvLimits, regWr r kLS 2 2 1) else (s, r)

/-! ### Running and stopping (R300 to R304) -/

/-- The Timeline instant of a cycle of a routine (1.2 GHz). -/
def cycleNs (r : AnvRun) (c : Nat) : Nat := (r.startPs + c * 2500 / 3) / 1000

/-- Busy cycles of a routine are added up for UTIL (ANV_CORE). -/
def addBusy (k : AnvCore) (now n : Nat) : AnvCore :=
  let ms := now / 1000000
  if k.busyMs = ms then { k with busy := k.busy + n }
  else { k with busyMs := ms, busyLast := if k.busyMs + 1 = ms then k.busy else 0, busy := n }

/-- The routine of a core ends: the core is idle; its longest run is kept (ANV_CORE RUN_MAX). -/
def runEnds (s : State) (c : Nat) (r : AnvRun) : State :=
  let s := anvUpd s c fun k => { addBusy k s.tmb.now r.used with run := none, freePs := r.startPs + r.used * 2500 / 3 }
  let a := 0x801010 + 0x20 * (c % 64)
  setStored s a (BitVec.ofNat 32 (max (stored s a).toNat (min r.used 0xFFFF)))

/-- Mark the sample a routine belongs to. -/
def sampleUpd (s : State) (n t0 : Nat) (f : LoopSample → LoopSample) : State :=
  loopUpd s n fun l => { l with open' := l.open'.map (fun x => if x.t0 = t0 then f x else x) }

/-- A routine stops (R304): its sample produces no outputs, nothing of its context is saved, its stores to data memory stand. -/
def anvStop (s : State) (c cause addr bank : Nat) : State :=
  match (anvC s c).run with
  | none => s
  | some r =>
    let pc := match r.place with | some p => (p.base + r.pc) % 32768 | none => 0x4000
    let s := anvUpd s c fun k =>
      let k := (memSettle k r (r.used + 8)).1
      { k with
        faultSlot := r.slot
        faultCause := cause
        faultPc := pc
        faultAddr := if cause = 2 ∨ cause = 4 then addr else k.faultAddr
        faultBank := if cause = 2 ∨ cause = 4 then bank else k.faultBank }
    let s := runEnds s c r
    let s := sampleUpd s r.loop r.t0 fun x => { x with stopped := true }
    match cause with
    | 1 => anvEvent (bump s cAnvOverruns) evAnvOverrun c r.slot 1 pc 0
    | 4 => anvEvent (bump s cAnvEccUncorr) evAnvEccUncorr c r.slot 4 pc addr
    | _ => anvEvent (bump s cAnvMemFaults) evAnvMemFault c r.slot cause pc addr

/-- The next pc once the instruction at `r.pc` is done: a branch whose delay slots have passed, else the loop stack, else the next word
(R288, R297). -/
def nextPc (r : AnvRun) : AnvRun :=
  match r.br with
  | some (t, 0) =>
    { r with
      br := none
      pc := t
      dos := match r.dos with
        | d :: rest => if r.pc = d.last ∧ (t < d.first ∨ d.last < t) then rest else r.dos
        | [] => [] }
  | _ =>
    match r.dos with
    | d :: rest =>
      if r.pc = d.last then
        if 1 < d.left then { r with pc := d.first, dos := { d with left := d.left - 1 } :: rest }
        else { r with pc := r.pc + 1, dos := rest }
      else { r with pc := r.pc + 1 }
    | [] => { r with pc := r.pc + 1 }

/-- The cycle of an instruction is over: delay slots count down, the pc moves, writes and stores that everyone sees settle. -/
def cycleEnds (s : State) (c : Nat) (r : AnvRun) (branch : Option Nat) : State :=
  let r := match r.br with
    | some (t, n + 1) => { r with br := some (t, n) }
    | _ => r
  let r := nextPc r
  let r := match branch with | some t => { r with br := some (t, 2) } | none => r
  let r := regSettle { r with used := r.used + 1 } (r.used + 1)
  let (k, r) := memSettle (anvC s c) r r.used
  advance (anvUpd s c fun _ => { k with run := some r }) (cycleNs r r.used)

/-- The word a running user routine fetches; none outside its block (R304). -/
def anvFetch (r : AnvRun) : Option Nat := match r.place with | some p => p.words[r.pc]? | none => none

/-- Run one instruction of a core, when the word fetched has class bit `cls` and operation `op` (R285): with the budget used up nothing runs,
a fetch outside the block stops the routine. -/
def anvRow (s : State) (c cls op : Nat) (cost : Nat) (f : State → AnvRun → Nat → State) : State :=
  match (anvC s c).run with
  | none => s
  | some r =>
    if r.place.isNone ∨ r.budget < r.used + cost then s
    else match anvFetch r with
      | none => anvStop s c 3 0 0
      | some w => if bits w 31 31 = cls ∧ bits w 30 26 = op then f s r w else s

/-! ### Class A (R285 to R287) -/

/-- A move of a class A instruction, its address, and its post-modification (R286). -/
structure AnvMove where
  kind : Nat
  reg : Nat
  ptr : Nat
  mod : Nat
  deriving DecidableEq, Repr, Inhabited

/-- A move field (R286). -/
def moveOf (v : Nat) : AnvMove := ⟨bits v 8 7, bits v 6 5, bits v 4 3, bits v 2 0⟩

/-- The pointer register of a move: P0 to P3 in the Left bank, P4 to P7 in the Right bank. -/
def movePtr (bank : Nat) (m : AnvMove) : Nat := 4 * bank + m.ptr

/-- The address a move uses: the pointer before any post-modification (R282). -/
def moveAddr (r : AnvRun) (bank : Nat) (m : AnvMove) : Nat := regRd r (kP + movePtr bank m) r.used false

/-- A move may take place (R282). -/
def moveOk (r : AnvRun) (bank : Nat) (m : AnvMove) : Bool := m.kind == 0 || memAllowed r bank (moveAddr r bank m)

/-- Run a move: the load, store or move out, then the post-modification; values are those before the instruction (`r0`). -/
def runMove (s : State) (c : Nat) (r0 r : AnvRun) (bank : Nat) (m : AnvMove) : State × AnvRun :=
  if m.kind = 0 then (s, r)
  else
    let a := moveAddr r0 bank m
    let reg := (if bank = 0 then kX else kY) + m.reg
    let (s, r) := match m.kind with
      | 1 => (s, regWr r reg 2 2 (memRd (anvC s c) r0 bank a r0.used))
      | 2 => (s, { r with stores := r.stores ++ [⟨bank, a, r0.used + 2, regRd r0 reg r0.used false⟩] })
      | _ =>
        let (v, lim) := moveOut (regRd r0 (kA + m.reg) r0.used false) (signed 3 (regRd r0 kSC r0.used false))
        let (s, r) := noteLimit lim s r
        (s, { r with stores := r.stores ++ [⟨bank, a, r0.used + 2, v⟩] })
    if m.mod = 0 then (s, r)
    else
      let p := movePtr bank m
      let d := modDist m.mod (signed 16 (regRd r0 (kN + p) r0.used false))
      (s, regWr r (kP + p) 1 1 (postMod a (regRd r0 (kK + p) r0.used false) d))

/-- What a class A operation does to its accumulator: the exact result its flags describe, and whether it is written (R287). -/
abbrev AluOp := Int → Int → Int → Int → Option (Int × Bool)

/-- A class A instruction (R285 to R287): `f acc s1 s2 other` is its operation, `other` the accumulator S1 names. -/
def anvClassA (s : State) (c op : Nat) (f : AluOp) : State :=
  anvRow s c 0 op 1 fun s r0 w =>
    let l := moveOf (bits w 17 9)
    let m := moveOf (bits w 8 0)
    if !moveOk r0 0 l then anvStop s c 2 (moveAddr r0 0 l) 0
    else if !moveOk r0 1 m then anvStop s c 2 (moveAddr r0 1 m) 1
    else
      let ad := bits w 25 24
      let acc := accInt (regRd r0 (kA + ad) r0.used true)
      let s1 := op24 (regRd r0 (bits w 23 21) r0.used false)
      let s2 := op24 (regRd r0 (bits w 20 18) r0.used false)
      let other := accInt (regRd r0 (kA + bits w 22 21) r0.used true)
      let r := match f acc s1 s2 other with
        | none => r0
        | some (v, wr) =>
          let r := setFlags r0 v
          if wr then regWr r (kA + ad) 1 2 (wrap56 v) else r
      let (s, r) := runMove s c r0 r 0 l
      let (s, r) := runMove s c r0 r 1 m
      cycleEnds s c r none

/-- An operand placed in bits 47:24 (R287). -/
def high (v : Int) : Int := v * 16777216

/-- ANV_NOP (R287): the moves only. -/
def execAnvNop (c : Nat) (s : State) : Res := ok (anvClassA s c 0x00 fun _ _ _ _ => none)
/-- MPY (R287, R291): AD ← 2 × S1 × S2. -/
def execMpy (c : Nat) (s : State) : Res := ok (anvClassA s c 0x01 fun _ a b _ => some (2 * a * b, true))
/-- MAC (R287, R291): AD ← AD + 2 × S1 × S2. -/
def execMac (c : Nat) (s : State) : Res := ok (anvClassA s c 0x02 fun d a b _ => some (d + 2 * a * b, true))
/-- MSU (R287, R291): AD ← AD − 2 × S1 × S2. -/
def execMsu (c : Nat) (s : State) : Res := ok (anvClassA s c 0x03 fun d a b _ => some (d - 2 * a * b, true))
/-- LDA (R287): AD ← S1 × 2^24. -/
def execLda (c : Nat) (s : State) : Res := ok (anvClassA s c 0x04 fun _ a _ _ => some (high a, true))
/-- ADD (R287): AD ← AD + S1 × 2^24. -/
def execAdd (c : Nat) (s : State) : Res := ok (anvClassA s c 0x05 fun d a _ _ => some (d + high a, true))
/-- SUB (R287): AD ← AD − S1 × 2^24. -/
def execSub (c : Nat) (s : State) : Res := ok (anvClassA s c 0x06 fun d a _ _ => some (d - high a, true))
/-- ADDA (R287): AD ← AD + A(S1[1:0]). -/
def execAdda (c : Nat) (s : State) : Res := ok (anvClassA s c 0x07 fun d _ _ o => some (d + o, true))
/-- SUBA (R287): AD ← AD − A(S1[1:0]). -/
def execSuba (c : Nat) (s : State) : Res := ok (anvClassA s c 0x08 fun d _ _ o => some (d - o, true))
/-- CLR (R287): AD ← 0. -/
def execClr (c : Nat) (s : State) : Res := ok (anvClassA s c 0x09 fun _ _ _ _ => some (0, true))
/-- NEG (R287): AD ← −AD. -/
def execNeg (c : Nat) (s : State) : Res := ok (anvClassA s c 0x0A fun d _ _ _ => some (-d, true))
/-- ABS (R287): AD ← the magnitude of AD. -/
def execAbs (c : Nat) (s : State) : Res := ok (anvClassA s c 0x0B fun d _ _ _ => some ((d.natAbs : Int), true))
/-- CMP (R287): the flags of AD − S1 × 2^24. -/
def execCmp (c : Nat) (s : State) : Res := ok (anvClassA s c 0x0C fun d a _ _ => some (d - high a, false))

/-! ### Class B (R288 to R290, R294, R297) -/

/-- A class B instruction that writes registers only. -/
def anvClassB (s : State) (c op : Nat) (f : AnvRun → Nat → AnvRun) : State :=
  anvRow s c 1 op 1 fun s r w => cycleEnds s c (f r w) none

/-- The accumulator an instruction names, as its class B readers see it. -/
def adOf (r : AnvRun) (w : Nat) : Nat := regRd r (kA + bits w 25 24) r.used false

/-- LDX (R288). -/
def execLdx (c : Nat) (s : State) : Res := ok (anvClassB s c 0x00 fun r w => regWr r (kX + bits w 25 24) 1 1 (bits w 23 0))
/-- LDY (R288). -/
def execLdy (c : Nat) (s : State) : Res := ok (anvClassB s c 0x01 fun r w => regWr r (kY + bits w 25 24) 1 1 (bits w 23 0))

/-- LDP (R288): a pointer, step or mode register; with REL the slot's region base is added. -/
def execLdp (c : Nat) (s : State) : Res :=
  ok (anvClassB s c 0x02 fun r w =>
    let t := bits w 25 21
    let base := match r.place with
      | some p => if bit w 20 then (if t < 4 then p.lbase else p.rbase) else 0
      | none => 0
    let v := if bit w 20 then (bits w 15 0 + base) % 32768 else bits w 15 0
    regWr r (kP + t) 3 3 v)

/-- The value a MOV takes from its source (R289), as a signed number. -/
def movValue (src v : Nat) : Int :=
  if src < 8 then op24 v else if src < 16 then (v : Int) else if src < 24 then signed 16 v else (v : Int)

/-- MOV (R289). -/
def execMov (c : Nat) (s : State) : Res :=
  ok (anvClassB s c 0x03 fun r w =>
    let d := bits w 25 21
    let x := bits w 20 16
    let v := movValue x (regRd r x r.used false)
    if d < 8 then regWr r d 1 1 (unsigned 24 v)
    else if d < 16 then regWr r d 3 3 (unsigned 15 v)
    else regWr r d 3 3 (unsigned 16 v))

/-- MOVA (R293). -/
def execMova (c : Nat) (s : State) : Res :=
  ok (anvRow s c 1 0x04 1 fun s r w =>
    let (v, lim) := moveOut (adOf r w) (signed 3 (regRd r kSC r.used false))
    let (s, r) := noteLimit lim s r
    cycleEnds s c (regWr r (bits w 23 21) 2 2 v) none)

/-- MOVAL (R288). -/
def execMoval (c : Nat) (s : State) : Res := ok (anvClassB s c 0x05 fun r w => regWr r (bits w 23 21) 2 2 (adOf r w % 2 ^ 24))

/-- A shift of an accumulator, with its flags. -/
def shiftAcc (r : AnvRun) (w : Nat) (n : Int) : AnvRun :=
  let v := shiftInt (accInt (adOf r w)) n
  regWr (setFlags r v) (kA + bits w 25 24) 2 2 (wrap56 v)

/-- ASH (R288): by the immediate. -/
def execAsh (c : Nat) (s : State) : Res := ok (anvClassB s c 0x06 fun r w => shiftAcc r w (signed 7 (bits w 6 0)))

/-- SHA (R288): by the signed integer in a register, clamped. -/
def execSha (c : Nat) (s : State) : Res :=
  ok (anvClassB s c 0x07 fun r w => shiftAcc r w (clampI (-56) 55 (op24 (regRd r (bits w 23 21) r.used false))))

/-- NORM (R294). -/
def execNorm (c : Nat) (s : State) : Res :=
  ok (anvClassB s c 0x08 fun r w =>
    let e := expOf (adOf r w)
    regWr (shiftAcc r w e) (bits w 23 21) 2 2 (unsigned 24 e))

/-- EXP (R294). -/
def execExp (c : Nat) (s : State) : Res := ok (anvClassB s c 0x09 fun r w => regWr r (bits w 23 21) 2 2 (unsigned 24 (expOf (adOf r w))))

/-- JMP (R288, R297). -/
def execJmp (c : Nat) (s : State) : Res := ok (anvRow s c 1 0x0A 1 fun s r w => cycleEnds s c r (some (bits w 13 0)))

/-- A condition holds (R290). -/
def anvCond (r : AnvRun) (cc : Nat) : Bool :=
  let f := regRd r kZ r.used false
  let z := f.testBit 0
  let n := f.testBit 1
  let e := f.testBit 2
  match cc with
  | 0 => true | 1 => z | 2 => !z | 3 => n | 4 => !n | 5 => !z && !n | 6 => z || n | 7 => e | 8 => !e
  | 9 => regRd r kLS r.used false == 1
  | 10 => regRd r kVS r.used false == 1
  | _ => false

/-- JCC (R290, R297). -/
def execJcc (c : Nat) (s : State) : Res :=
  ok (anvRow s c 1 0x0B 1 fun s r w => cycleEnds s c r (if anvCond r (bits w 25 22) then some (bits w 13 0) else none))

/-- CALL (R288, R297): the return address is the instruction after the second delay slot. -/
def execCall (c : Nat) (s : State) : Res :=
  ok (anvRow s c 1 0x0C 1 fun s r w => cycleEnds s c { r with rets := (r.pc + 3) :: r.rets } (some (bits w 13 0)))

/-- RET (R288, R297). -/
def execRet (c : Nat) (s : State) : Res :=
  ok (anvRow s c 1 0x0D 1 fun s r _ => cycleEnds s c { r with rets := r.rets.tail } r.rets.head?)

/-- DO (R288, R297): the next instruction through LAST, count times. -/
def execDo (c : Nat) (s : State) : Res :=
  ok (anvRow s c 1 0x0E 1 fun s r w =>
    let s' := cycleEnds s c r none
    anvUpd s' c fun k => { k with run := k.run.map (fun x => { x with dos := ⟨r.pc + 1, bits w 13 0, bits w 25 14 + 1⟩ :: x.dos }) })

/-- CLRF (R288). -/
def execClrf (c : Nat) (s : State) : Res :=
  ok (anvClassB s c 0x10 fun r w =>
    let r := if bit w 0 then regWr r kLS 1 1 0 else r
    if bit w 1 then regWr r kVS 1 1 0 else r)

/-- SCALE (R288). -/
def execScale (c : Nat) (s : State) : Res := ok (anvClassB s c 0x11 fun r w => regWr r kSC 1 1 (bits w 2 0))

/-! ### END (R288, R302) -/

/-- A user routine's END completes three cycles after its issue: OUT0 to OUT7, OUT_EN and STATUS go to the output latch, LS and VS into STATUS,
the context is saved. -/
def endUser (s : State) (c : Nat) (r : AnvRun) : State :=
  let r := { r with used := r.used + 3 }
  let regs := regDrain r
  let s := anvUpd s c fun k => (memSettle k r (r.used + 8)).1
  let io := ioBase r.slot
  let k := anvC s c
  let st := k.left.get (io + 25)
  let st := setBits (setBits st 0 0 (regs.get kLS)) 1 1 (regs.get kVS)
  let latch : LoopLatch := ⟨(List.range 8).map (fun i => op24 (k.left.get (io + 16 + i))), k.left.get (io + 24), st⟩
  let s := anvUpd s c fun k => { k with
    left := k.left.set (io + 25) st
    ctx := k.ctx.set r.slot regs }
  let s := runEnds (advance s (cycleNs r r.used)) c r
  sampleUpd s r.loop r.t0 fun x => { x with latch := some latch, u := latch.outs.headD 0 * 16777216 }

/-- ROUTINE_OVERRUN (R304): the routine has run its budget without END. -/
def execRoutineOverrun (c : Nat) (s : State) : Res :=
  match (anvC s c).run with
  | none => ok s
  | some r =>
    let isEnd : Bool := match anvFetch r with | some w => bits w 31 26 == 0x2F | none => false
    if r.place.isSome ∧ r.budget < r.used + (if isEnd then 3 else 1) then ok (anvStop s c 1 0 0) else ok s

end Sys2Proof.Machine
end

