-- ==== Sys2Proof/Machine/CanOps.lean ====
section
/-! DEFINITION. The CAN FD controllers' shared operations (16_canfd R478 to R493): frames and their checks, the queue, receive records, the
ends of a frame, error counters, bus-off. -/
namespace Sys2Proof.Machine
open Sys2Proof

/-- A controller. -/
def canC (s : State) (c : Nat) : CanCtl := s.can.ctl.get c
/-- Change a controller. -/
def canUpd (s : State) (c : Nat) (f : CanCtl → CanCtl) : State := { s with can := { s.can with ctl := s.can.ctl.upd c f } }
/-- Address of CAN_CNT of a controller (R495): k as the register map names it. -/
def cCan (c k : Nat) : Nat := 0xD00100 + 4 * (16 * (c % 8) + k % 16)
/-- An event of the CAN controllers: controller, error counters, last error code, HANDLE, byte offset (R494). -/
def canEvent (s : State) (k : EvKind) (c handle off : Nat) : State :=
  let x := canC s c
  event s k [(2, c), (4, x.tec + 65536 * x.recv), (1, x.lec), (4, handle), (4, off)]

/-- MODE: 0 OFF, 1 NORMAL, 2 LISTEN (R478). -/
def cdMode (d : Bytes) : Nat := le d 0 1
/-- A bit of FLAGS: 0 FD_EN, 1 TDC_EN, 2 AUTO_RECOVER, 3 COMPAT, 4 COMPAT_BYNUM, 5 ACCEPT_ALL, 6 FLUSH_ON_BUSOFF. -/
def cdFlag (d : Bytes) (i : Nat) : Bool := bit (le d 1 1) i
/-- RETRY; 0 for no limit. -/
def cdRetry (d : Bytes) : Nat := le d 2 1
/-- The bit timing of a descriptor. -/
def cdTiming (d : Bytes) : Bytes := slice d 3 11
/-- RX_BASE. -/
def cdRxBase (d : Bytes) : Nat := le d 16 8
/-- RX_RECORDS. -/
def cdRxRecords (d : Bytes) : Nat := le d 24 4

/-! ### Frames (R482, R483) -/

/-- HANDLE. -/
def cfHandle (f : Bytes) : Nat := le f 8 4
/-- IDE. -/
def cfIde (f : Bytes) : Bool := bit (le f 0 4) 29
/-- RTR. -/
def cfRtr (f : Bytes) : Bool := bit (le f 0 4) 30
/-- The identifier. -/
def cfId (f : Bytes) : Nat := bits (le f 0 4) 28 0
/-- FDF. -/
def cfFdf (f : Bytes) : Bool := bit (le f 5 1) 0
/-- BRS. -/
def cfBrs (f : Bytes) : Bool := bit (le f 5 1) 1
/-- ECHO. -/
def cfEcho (f : Bytes) : Bool := bit (le f 5 1) 3
/-- BUFFER. -/
def cfBuffer (f : Bytes) : Nat := le f 6 1

/-- Data bytes of a DLC (R482). -/
def dlcBytes (fdf : Bool) (dlc : Nat) : Nat :=
  if dlc ≤ 8 then dlc
  else if !fdf then 8
  else match dlc with
    | 9 => 12 | 10 => 16 | 11 => 20 | 12 => 24 | 13 => 32 | 14 => 48 | _ => 64

/-- Data bytes of a frame; a remote frame has none. -/
def cfLen (f : Bytes) : Nat := if cfRtr f then 0 else dlcBytes (cfFdf f) (le f 4 1)

/-- The frame as it goes onto the bus or into a record: unused data bytes 0. -/
def cfClean (f : Bytes) : Bytes := f.take (16 + cfLen f) ++ zeros (64 - cfLen f)

/-- A frame is refused with BAD_FIELD (R483). -/
def cfBad (s : State) (c : Nat) (f : Bytes) : Bool :=
  let x := canC s c
  f.length != 80 || bit (le f 0 4) 31 || decide (15 < le f 4 1) || bit (le f 5 1) 2 || decide (15 < le f 5 1) ||
  (if cdFlag x.desc 3 then decide (2 < cfBuffer f) else cfBuffer f != 0) || le f 7 1 != 0 || le f 12 4 != 0 ||
  (!cfIde f && decide (2047 < cfId f)) || (cfRtr f && cfFdf f) || (cfBrs f && !cfFdf f) || (cfFdf f && !cdFlag x.desc 0) ||
  cfHandle f == 0 || x.q.any (fun y => cfHandle y.frame == cfHandle f) || cdMode x.desc != 1

/-- No room for a frame: the queue holds 64 (R485), or its buffer is occupied (R486); `staged` are the frames other staged items reserved. -/
def canFull (s : State) (c : Nat) (f : Bytes) (staged : List Bytes) : Bool :=
  let x := canC s c
  if cdFlag x.desc 3 then x.q.any (fun y => cfBuffer y.frame == cfBuffer f) || staged.any (fun g => cfBuffer g == cfBuffer f)
  else decide (64 ≤ x.q.length + staged.length)

/-- Minimum lead of the transmit queue, ns (R58). -/
def canLead : Nat := 1000

/-- Enqueue a frame (R484): the second part is whether it waits for its INSTANT. -/
def canEnqueue (s : State) (c : Nat) (e : LqEntry) (f : Bytes) (now : Bool) : State × Arrival :=
  let a := if now then .lateRun else arrival s canLead e
  let s := if now then s else noteLate s a 0x0D c
  match a with
  | .onTime => (canUpd s c fun x => { x with q := x.q ++ [⟨e, f, false, 0, none⟩] }, a)
  | .lateRun =>
    let (s, go) := outward s s.tmb.now
    (if go then canUpd s c fun x => { x with q := x.q ++ [⟨e, f, true, 0, none⟩] } else s, a)
  | .lateDrop => (s, a)

/-- The frame offered at an arbitration (R485, R486): the earliest-arrived eligible frame; under COMPAT the buffer of lowest identifier, or of
lowest number. -/
def canOffer (d : Bytes) (q : List CanFrame) : Option CanFrame :=
  let l := q.filter (·.eligible)
  if !cdFlag d 3 then l.head?
  else
    let rank (x : CanFrame) : Nat := if cfIde x.frame then cfId x.frame else cfId x.frame * 2 ^ 18
    let key (x : CanFrame) : Nat := if cdFlag d 4 then cfBuffer x.frame else rank x * 4 + cfBuffer x.frame
    l.foldl (fun a x => match a with | some b => if key x < key b then some x else a | none => some x) none

/-! ### The receive ring (R490) -/

/-- Write or discard a receive record (R490); `cons` is the consumer index, read when the ring appears full. -/
def rxRecord (s : State) (c : Nat) (cons : Option Nat) (kind filter stamp : Nat) (f : Bytes) : State :=
  let x := canC s c
  let n := cdRxRecords x.desc
  if n = 0 then s
  else
    let space (k : Nat) : Bool := decide ((x.prod + n - k) % n < n - 1)
    let k := if space x.cons then x.cons else match cons with | some k => k % n | none => x.cons
    let s := canUpd s c fun x => { x with cons := k }
    if !space k then
      let s := bump s (cCan c 10)
      let s := if x.overflowNoted then s else canEvent s evCanRxOverflow c 0 0
      canUpd s c fun x => { x with gap := true, overflowNoted := true }
    else
      let r := leBytes 8 stamp ++ leBytes 4 (epochOfStamp s stamp).number ++ leBytes 1 kind ++ leBytes 1 filter ++ leBytes 1 (b2n x.gap) ++
        zeros 1 ++ f
      let irq := decide (le x.desc 40 4 ≤ x.sinceIrq + 1)
      let s := send s (.host (cdRxBase x.desc + 96 * x.prod) r)
      let s := canUpd s c fun x => { x with
        prod := (x.prod + 1) % n
        sinceIrq := if irq then 0 else x.sinceIrq + 1
        gap := false
        overflowNoted := false }
      if irq then send s (.irq (le x.desc 28 4)) else s

/-! ### The ends of a frame (R487, R488) -/

/-- Take a frame out of the queue. -/
def canDrop (s : State) (c h : Nat) : State :=
  canUpd s c fun x => { x with
    q := x.q.filter (fun y => cfHandle y.frame != h)
    underway := if x.underway = some h then none else x.underway }

/-- A frame ends with its record (R487): kind 2 ECHO, 3 TX_FAILED, 4 TX_ABORTED. -/
def canEnds (s : State) (c : Nat) (cons : Option Nat) (f : CanFrame) (kind : Nat) : State :=
  let s := canDrop s c (cfHandle f.frame)
  let s := if f.eligible then s else endLaunch s f.e .aborted 0
  if cfEcho f.frame then rxRecord s c cons kind 0xFF (f.sof.getD s.tmb.now) f.frame else s

/-- An attempt ended in lost arbitration or error (R485, R487): the frame is pending again, or RETRY attempts are exhausted. -/
def canAttemptFails (s : State) (c : Nat) (cons : Option Nat) (h : Nat) : State :=
  let s := canUpd s c fun x => { x with
    underway := none
    q := x.q.map fun y => if cfHandle y.frame = h then { y with attempts := y.attempts + 1 } else y }
  match (canC s c).q.find? (fun y => cfHandle y.frame == h) with
  | none => s
  | some y =>
    let r := cdRetry (canC s c).desc
    if r = 0 ∨ y.attempts < r then s
    else
      let s := canEvent (bump s (cCan c 12)) evCanTxFailed c h 0
      canEnds s c cons y 3

/-! ### Fault confinement (R492) -/

/-- BUS_OFF is entered (R492). -/
def canBusOff (s : State) (c : Nat) (cons : Option Nat) : State :=
  let s := canUpd s c fun x => { x with state := .busOff, tec := 256, underway := none, recovering := cdFlag x.desc 2 }
  let s := canEvent (bump s (cCan c 8)) evCanBusOff c 0 0
  if cdFlag (canC s c).desc 6 then (canC s c).q.foldl (fun s y => canEnds (bump s (cCan c 14)) c cons y 4) s else s

/-- The state follows the error counters (R492, R493). -/
def canConfine (s : State) (c : Nat) (cons : Option Nat) : State :=
  let x := canC s c
  match x.state with
  | .errorActive =>
    if 255 < x.tec then canBusOff s c cons
    else if 127 < x.tec ∨ 127 < x.recv then canEvent (canUpd s c fun x => { x with state := .errorPassive }) evCanErrorPassive c 0 0
    else s
  | .errorPassive =>
    if 255 < x.tec then canBusOff s c cons
    else if x.tec ≤ 127 ∧ x.recv ≤ 127 then canEvent (canUpd s c fun x => { x with state := .errorActive }) evCanErrorActive c 0 0
    else s
  | _ => s

/-- The controller takes part in the bus (R478, R480, R492). -/
def canOnBus (x : CanCtl) : Bool := cdMode x.desc != 0 && x.desc != [] && !x.integrating && x.state != .busOff

/-- The counter of an error code of LEC: 1 stuff, 2 form, 3 acknowledge, 4 and 5 bit, 6 CRC. -/
def errCounter : Nat → Nat
  | 1 => 3 | 2 => 4 | 3 => 5 | 6 => 7 | _ => 6

/-- A bus error with its code (R493): its counter, LEC, and TEC or REC as the fault confinement of the standard counts; `quiet` is the
standard's exception: an acknowledge error of an error-passive transmitter counts nothing, a receiver's dominant bit after its error flag counts 8. -/
def canError (s : State) (c : Nat) (cons : Option Nat) (code : Nat) (quiet : Bool) : State :=
  let tx := (canC s c).underway
  let s := bump s (cCan c (errCounter code))
  let s := canUpd s c fun x => { x with
    lec := code
    tec := if tx.isSome && !(quiet && code == 3 && x.state == .errorPassive) then min (x.tec + 8) 256 else x.tec
    recv := if tx.isNone then min (x.recv + (if quiet then 8 else 1)) 255 else x.recv }
  let s := match tx with | some h => canAttemptFails s c cons h | none => s
  canConfine s c cons

end Sys2Proof.Machine
end

