-- ==== Sys2Proof/Machine/Can.lean ====
section
/-! DEFINITION. The CAN FD controllers' commands (16_canfd R477 to R495): configuration, filters, sending, reception, errors. -/
namespace Sys2Proof.Machine
open Sys2Proof

/-! ### Configuration (R478 to R480) -/

/-- Reserved fields and undefined codes of a descriptor: condition and byte offset (R479). -/
def canField (d : Bytes) : List (Bool × Nat) :=
  [(decide (2 < cdMode d), 0), (cdFlag d 7 || (cdFlag d 4 && !cdFlag d 3), 1), (le d 14 2 != 0, 14), (decide (cdRxBase d % 4096 ≠ 0), 16),
   (decide (le d 32 8 % 4 ≠ 0), 32), (!allZero (slice d 44 20), 44)]

/-- A number lies outside two bounds. -/
def outside (v lo hi : Nat) : Bool := decide (v < lo) || decide (hi < v)

/-- Bit time in 80 MHz clocks: prescaler, segment 1, segment 2 (R478). -/
def bitClocks (brp seg1 seg2 : Nat) : Nat := brp * (1 + seg1 + seg2)

/-- Nominal bit time of a descriptor. -/
def nomClocks (d : Bytes) : Nat := bitClocks (le d 4 2) (le d 6 2) (le d 8 1)
/-- Data bit time of a descriptor. -/
def dataClocks (d : Bytes) : Nat := bitClocks (le d 10 1) (le d 11 1) (le d 12 1)

/-- Fields outside their ranges (R478, R479). -/
def canRange (d : Bytes) : List (Bool × Nat) :=
  [(decide (127 < le d 3 1), 3), (outside (le d 4 2) 1 32, 4), (outside (le d 6 2) 2 256, 6), (outside (le d 8 1) 1 128, 8),
   (outside (le d 9 1) 1 (le d 8 1), 9), (outside (le d 10 1) 1 32, 10), (outside (le d 11 1) 1 32, 11), (outside (le d 12 1) 1 16, 12),
   (outside (le d 13 1) 1 (le d 12 1), 13), (!pow2Of (cdRxRecords d) 64 65536, 24), (decide (255 < le d 28 4), 28),
   (outside (le d 40 4) 1 65536, 40), (decide (nomClocks d < 80), 4),
   (cdFlag d 0 && (decide (dataClocks d < 10) || decide (nomClocks d < dataClocks d)), 10)]
where
  /-- A power of two between two bounds. -/
  pow2Of (v lo hi : Nat) : Bool := decide (lo ≤ v) && decide (v ≤ hi) && 2 ^ Nat.log2 v == v

/-- The checks of CAN_CONFIG in the order of R479: status and failing byte offset. -/
def canCheck (s : State) (c : Nat) (d : Bytes) : Option (Status × Nat) :=
  let x := canC s c
  let old := (x.next.getLast?.map (·.1)).getD x.desc
  match (canField d).find? (·.1), (canRange d).find? (·.1) with
  | some e, _ => some (.badField, e.2)
  | none, some e => some (.range, e.2)
  | none, none =>
    if cdFlag d 0 && decide (dataClocks d < 80) && !cdFlag d 1 then some (.badField, 1)
    else if cdFlag d 3 != cdFlag old 3 && !x.q.isEmpty then some (.state, 1)
    else if (cdRxBase d != cdRxBase old || cdRxRecords d != cdRxRecords old) && x.prod != x.cons then some (.state, 16)
    else none

/-- A descriptor takes effect (R480): another bit timing or MODE takes the controller through bus integration; only MODE OFF resets the error
counters. -/
def canTake (s : State) (c : Nat) (d : Bytes) (h : Nat) : State :=
  let old := (canC s c).desc
  let s := canUpd s c fun x =>
    let moved := cdRxBase d != cdRxBase old || cdRxRecords d != cdRxRecords old
    let x := { x with
      desc := d
      integrating := if cdMode d = 0 then false else x.integrating || cdTiming d != cdTiming old || cdMode d != cdMode old
      prod := if moved then 0 else x.prod
      cons := if moved then 0 else x.cons }
    if cdMode d = 0 then { x with
      state := .off
      recovering := false
      tec := 0
      recv := 0
      underway := none }
    else if x.state = .off then { x with state := .errorActive } else x
  endCmd (canEvent s evCanConfigured c 0 0) h .ok 0 0

/-- CAN_CONFIG (R478 to R480): `idle`: no frame is on the bus; `cons`: the consumer index of the ring in force. -/
def canConfig (idle : Bool) (cons : Option Nat) (s : State) (k : Cmd) : State :=
  let c := k.unit
  let s := canUpd s c fun x => { x with cons := match cons with
    | some v => if cdRxRecords x.desc = 0 then x.cons else v % cdRxRecords x.desc
    | none => x.cons }
  match canCheck s c k.data with
  | some (st, o) => endCmd (canEvent s evCanRejected c 0 o) k.handle st 0 0
  | none =>
    let x := canC s c
    if x.underway.isNone && x.next.isEmpty && (idle || cdMode x.desc == 0) then canTake s c k.data k.handle
    else canUpd s c fun x => { x with next := x.next ++ [(k.data, k.handle)] }

/-- CAN_CONFIG (R479). -/
def execCanConfig (h : Nat) (data : Option Bytes) (idle : Bool) (cons : Option Nat) (s : State) : Res :=
  ok (startCmd s h 0x50 data (canConfig idle cons))

/-- The accepted descriptors take effect, in order. -/
def canTakeAll (s : State) (c : Nat) : State :=
  let l := (canC s c).next
  l.foldl (fun s e => canTake s c e.1 e.2) (canUpd s c fun x => { x with next := [] })

/-- CAN_CONFIG_EFFECT (R480): the frame on the bus has ended at `t`. -/
def execCanConfigEffect (c t : Nat) (s : State) : Res :=
  if 8 ≤ c ∨ (canC s c).underway.isSome then ok s else ok (canTakeAll (advance s t) c)

/-- CAN_INTEGRATION_DONE (R480): 11 consecutive recessive bits. -/
def execCanIntegrationDone (c t : Nat) (s : State) : Res :=
  if 8 ≤ c ∨ !(canC s c).integrating then ok s else ok (canUpd (advance s t) c fun x => { x with integrating := false })

/-! ### Filters (R489) -/

/-- A filter entry holds a reserved bit, or a POINT_BASE that nothing uses. -/
def filterBad (e : Bytes) : Bool :=
  bits (le e 0 4) 31 29 != 0 || bits (le e 4 4) 31 29 != 0 || decide (7 < le e 8 1) || le e 9 3 != 0 ||
  (!bit (le e 8 1) 1 && !bit (le e 8 1) 2 && le e 12 4 != 0)

/-- The points a POINT entry writes. -/
def filterPoints (e : Bytes) : List Nat := if bit (le e 8 1) 2 then (List.range 9).map (le e 12 4 + ·) else []

/-- CAN_FILTER (R489): the controller's list is replaced whole. -/
def canFilter (s : State) (k : Cmd) : State :=
  let n := k.data.length / 16
  let l := chunks 16 n k.data
  let pts := l.flatMap filterPoints
  let entry (i : Nat) : Option MapEntry := mapFind s.pst.map i
  let no (p : MapEntry → Bool) : Bool := pts.any fun i => match entry i with | some e => p e | none => false
  let st : Status :=
    if n = 0 ∨ 128 < n ∨ k.data.length % 16 ≠ 0 ∨ l.any filterBad then .badField
    else if pts.any fun i => (entry i).isNone then .noTarget
    else if no fun e => e.type != .uint64 then .badField
    else if no fun e => !e.writers.getLsbD wCAN then .denied
    else .ok
  if st ≠ .ok then endCmd s k.handle st 0 0
  else endCmd (canEvent (canUpd s k.unit fun x => { x with filters := l }) evCanFilterLoaded k.unit 0 0) k.handle .ok n 0

/-- CAN_FILTER (R489). -/
def execCanFilter (h : Nat) (data : Option Bytes) (s : State) : Res := ok (startCmd s h 0x51 data canFilter)

/-! ### Sending (R483 to R488) -/

/-- CAN_SEND (R483, R484, R486): the frame is eligible at INSTANT, or at once when INSTANT is 0. -/
def canSend (s : State) (k : Cmd) : State :=
  let c := k.unit
  let f := k.data
  if cfBad s c f then endCmd s k.handle .badField 0 0
  else if canFull s c f [] then endCmd s k.handle .noResource 0 0
  else
    let (s, a) := canEnqueue s c ⟨k.instant, 0, false, 1, 0, some k.handle⟩ (cfClean f) (k.instant == 0)
    match a with
    | .onTime => s
    | .lateRun => endCmd s k.handle .ok (cfHandle f) 0
    | .lateDrop => endCmd s k.handle .timeout 0 0

/-- CAN_SEND (R484). -/
def execCanSend (h : Nat) (data : Option Bytes) (s : State) : Res := ok (startCmd s h 0x52 data canSend)

/-- The next frame that waits for its INSTANT: the earliest, in order of arrival among equals (R59). -/
def canDue (q : List CanFrame) : Option CanFrame :=
  q.foldl (fun a x => if x.eligible then a else match a with
    | some b => if x.e.instant < b.e.instant then some x else a
    | none => some x) none

/-- CAN_SEND_LAUNCH (R484): the next frame becomes eligible at its INSTANT; its CAN_SEND completes. -/
def execCanSendLaunch (c : Nat) (s : State) : Res :=
  match canDue (canC s c).q with
  | none => ok s
  | some x =>
    let h := cfHandle x.frame
    let s := advance s x.e.instant
    let (s, go) := outward s x.e.instant
    let s := if go then canUpd s c fun k => { k with q := k.q.map fun y => if cfHandle y.frame = h then { y with eligible := true } else y }
      else canDrop s c h
    ok (endLaunch s x.e .ok h)

/-- CAN_ARBITRATION (R485, R486): at the start of frame `sof` the controller offers one frame. -/
def execCanArbitration (c sof : Nat) (s : State) : Res :=
  let x := canC s c
  if 8 ≤ c ∨ cdMode x.desc ≠ 1 ∨ !canOnBus x ∨ x.underway.isSome ∨ s.par.mute ∨ s.pwr.stopped then ok s
  else match canOffer x.desc x.q with
    | none => ok s
    | some y =>
      let h := cfHandle y.frame
      let s := canUpd (advance s sof) c fun k => { k with
        underway := some h
        lastSof := sof
        q := k.q.map fun z => if cfHandle z.frame = h then { z with sof := some sof } else z }
      ok (send s (.can c y.frame))

/-- The frame under way of a controller. -/
def canFlying (x : CanCtl) : Option CanFrame := match x.underway with
  | some h => x.q.find? fun y => cfHandle y.frame == h
  | none => none

/-- The loop delay measured on a frame under way that carries BRS (R481): whether it lies beyond the range. -/
def tdcMeasure (s : State) (c : Nat) (tdcv : Option Nat) : State × Bool :=
  let x := canC s c
  match canFlying x, tdcv with
  | some y, some v =>
    if cdFlag x.desc 1 && cfBrs y.frame then
      let s := canUpd s c fun x => { x with tdcv := v % 128 }
      if 127 < v + le x.desc 3 1 then (bump s (cCan c 15), true) else (s, false)
    else (s, false)
  | _, _ => (s, false)

/-- CAN_TX_COMPLETE (R485, R487): the frame under way was sent, or lost its arbitration, at `t`. -/
def execCanTxComplete (c : Nat) (sent : Bool) (tdcv cons : Option Nat) (t : Nat) (s : State) : Res :=
  match canFlying (canC s c) with
  | none => ok s
  | some y =>
    let s := advance s t
    if !sent then ok (canAttemptFails (bump s (cCan c 2)) c cons (cfHandle y.frame))
    else
      let (s, beyond) := tdcMeasure s c tdcv
      if beyond then ok (canError s c cons 4 false)
      else
        let s := canUpd (bump s (cCan c 0)) c fun x => { x with tec := x.tec - 1 }
        ok (canConfine (canEnds s c cons y 2) c cons)

/-- CAN_CANCEL (R488). -/
def canCancel (cons : Option Nat) (s : State) (k : Cmd) : State :=
  let c := k.unit
  match (canC s c).q.find? (fun y => cfHandle y.frame == k.arg) with
  | none => endCmd s k.handle .noTarget 0 0
  | some y =>
    if (canC s c).underway = some k.arg then endCmd s k.handle .busy 0 0
    else endCmd (canEnds (bump s (cCan c 13)) c cons y 4) k.handle .ok 0 0

/-- CAN_CANCEL (R488). -/
def execCanCancel (h : Nat) (cons : Option Nat) (s : State) : Res := ok (startCmd s h 0x53 (some []) (canCancel cons))

/-! ### Reception (R489 to R491) -/

/-- A received frame matches a filter entry (R489). -/
def filterMatch (f e : Bytes) : Bool :=
  cfIde f == bit (le e 8 1) 0 && (cfId f ^^^ le e 0 4) &&& le e 4 4 == 0

/-- The writes of a POINT match (R491). -/
def filterWrites (c sof : Nat) (f e : Bytes) : List PWrite :=
  let b := le e 12 4
  let w (i v : Nat) : PWrite := ⟨b + i, BitVec.ofNat 64 v, none, some sof, qVALID, wCAN, c, false⟩
  w 0 (cfId f + 2 ^ 29 * b2n (cfIde f) + 2 ^ 30 * b2n (cfFdf f) + 2 ^ 31 * b2n (cfBrs f) + 2 ^ 32 * le f 4 1) ::
    (List.range ((cfLen f + 7) / 8)).map fun i => w (i + 1) (le f (16 + 8 * i) 8)

/-- A write would be refused under R82. -/
def writeRefused (s : State) (w : PWrite) : Bool := let r := (writePoint s w).2; r.status != .ok

/-- A frame is accepted (R489 to R491), received here or mirrored. -/
def canAccept (s : State) (c sof : Nat) (f : Bytes) (cons : Option Nat) : State :=
  let f := cfClean (f.take 8 ++ zeros 8 ++ f.drop 16)
  let s := bump s (cCan c 1)
  let l := (canC s c).filters
  match l.findIdx? (filterMatch f) with
  | none => if cdFlag (canC s c).desc 5 then rxRecord s c cons 1 0xFF sof f else bump s (cCan c 9)
  | some i =>
    let e := l.getD i []
    let s := if bit (le e 8 1) 2 then
        let ws := filterWrites c sof f e
        if ws.any (writeRefused s) then bump s (cCan c 11) else writeGroup s ws
      else s
    if bit (le e 8 1) 1 then rxRecord s c cons 1 i sof f else s

/-- CAN_FRAME_RX (R489 to R491, R493): a frame `f` ended well at `t`; an FDF frame with FD disabled is a protocol exception. -/
def execCanFrameRx (c sof : Nat) (f : Bytes) (cons : Option Nat) (t : Nat) (s : State) : Res :=
  let x := canC s c
  if 8 ≤ c ∨ !canOnBus x ∨ x.underway.isSome ∨ f.length ≠ 80 then ok s
  else
    let s := canUpd (advance s t) c fun x => { x with lastSof := sof }
    if cfFdf f && !cdFlag x.desc 0 then ok (canUpd (bump s (cCan c 4)) c fun x => { x with integrating := true })
    else
      let (v, s) := drawFree s
      let s := canUpd s c fun x => { x with recv := if 127 < x.recv then 119 + v.toNat % 9 else x.recv - 1 }
      let s := canConfine s c cons
      if s.par.inStep then ok s
      else ok (canAccept (mirrorInput s 0x0D c (leBytes 8 sof ++ f)) c sof f cons)

/-! ### Errors (R481, R492, R493) -/

/-- CAN_BUS_ERROR (R493): an error of `code` (LEC: 1 stuff, 2 form, 3 acknowledge, 4 bit 1, 5 bit 0, 6 CRC) at `t`. -/
def execCanBusError (c code : Nat) (quiet : Bool) (tdcv cons : Option Nat) (t : Nat) (s : State) : Res :=
  if 8 ≤ c ∨ code = 0 ∨ 6 < code ∨ !canOnBus (canC s c) then ok s
  else
    let s := advance s t
    let (s, beyond) := tdcMeasure s c tdcv
    ok (canError s c cons (if beyond then 4 else code) quiet)

/-- A write of CAN_CTL.RECOVER (R492): outside BUS_OFF no effect. -/
def canRecover (s : State) (c : Nat) : State :=
  if (canC s c).state = .busOff then canUpd s c fun x => { x with recovering := true } else s

/-- CAN_RECOVER (R492). -/
def execCanRecover (c : Nat) (s : State) : Res := if 8 ≤ c then ok s else regCmd s 0x0D (fun s => canRecover s c)

/-- CAN_RECOVERY_DONE (R492): 128 occurrences of 11 consecutive recessive bits. -/
def execCanRecoveryDone (c t : Nat) (s : State) : Res :=
  let x := canC s c
  if 8 ≤ c ∨ x.state ≠ .busOff ∨ !x.recovering then ok s
  else
    let s := canUpd (advance s t) c fun x => { x with
      state := .errorActive
      recovering := false
      tec := 0
      recv := 0 }
    ok (canEvent s evCanRecovered c 0 0)

end Sys2Proof.Machine
end

