-- ==== Sys2Proof/Machine/Converter.lean ====
section
/-! DEFINITION. The converter array's commands (11_converter R352 to R378). -/
namespace Sys2Proof.Machine
open Sys2Proof

/-! ### Configuration (R357 to R360) -/

/-- A sequence entry (R358). -/
def seqParse (b : Bytes) : SeqEntry :=
  ⟨le b 0 1, le b 1 1, le b 2 2, bit (le b 4 1) 0, fix24At b 8, le b 12 3, le b 16 4⟩

/-- The 32 bytes of entry `i` of slice `k`. -/
def seqBytes (b : Bytes) (k i : Nat) : Bytes := slice b (64 + 32 * (16 * k + i)) 32

/-- A configuration (R357). -/
def cnvParse (b : Bytes) : CnvCfg where
  mode := le b 0 1
  input := le b 1 1
  shift := le b 2 1
  pub := bit (le b 3 1) 0
  avg := le b 4 2
  pubDiv := le b 6 2
  point := le b 8 4
  period := le b 12 4
  phase := le b 16 4
  calEvery := if le b 20 4 = 0 then 1024 else le b 20 4
  seqs := if le b 0 1 = 3 then (List.range 4).map fun k => (List.range (min 16 (le b (24 + k) 1))).map fun i => seqParse (seqBytes b k i) else []

/-- The entries of the 64 slots with their offsets and whether the sequence uses them. -/
def seqSlots (b : Bytes) : List (Nat × Bytes × Bool) :=
  (List.range 64).map fun n => (64 + 32 * n, seqBytes b (n / 16) (n % 16), decide (n % 16 < le b (24 + n / 16) 1))

/-- Reserved fields and undefined codes of the sequence (R358). -/
def seqField (b : Bytes) : List (Bool × Status × Nat) :=
  (seqSlots b).map fun (o, e, used) =>
    (if used then decide (3 < le e 1 1) || decide (1 < le e 4 1) || !allZero (slice e 5 3) || le e 11 1 != 0 || le e 15 1 != 0 ||
        !allZero (e.drop 20)
      else !allZero e, .badField, o)

/-- Ranges of the sequence (R358). -/
def seqRange (b : Bytes) : List (Bool × Status × Nat) :=
  (seqSlots b).map fun (o, e, used) =>
    (used && (decide (15 < le e 0 1) || le e 2 2 == 0 || decide (4096 < le e 2 2) || (!bit (le e 4 1) 0 && le e 16 4 != 0)), .range, o)

/-- Checks of one publish point (R359). -/
def pubCheck (s : State) (id o : Nat) : List (Bool × Status × Nat) :=
  let e := mapFind s.pst.map id
  [(e.isNone, .noTarget, o),
   (match e with | some x => x.type != .fix24 && x.type != .real32 | none => false, .badField, o),
   (match e with | some x => !x.writers.getLsbD wCNV | none => false, .denied, o)]

/-- A CNV_CONFIG of a group awaits its boundary, or one of the whole array does. -/
def cnvAwaits (s : State) (u : Nat) : Bool :=
  (List.range 4).any fun g => match (cnvG s g).next with
    | some (_, _, all) => all || u == 4 || u == g
    | none => false

/-- The checks of CNV_CONFIG in their order (R359). -/
def cnvCheck (s : State) (u : Nat) (b : Bytes) : Option (Status × Nat) :=
  let c := cnvParse b
  let burst := isBurst c.mode
  let scan := c.mode == 3
  let groups := if u = 4 then [0, 1, 2, 3] else [u]
  let pubs : List (Nat × Nat) := if burst then (if c.pub then [(c.point, 8)] else [])
    else if scan then (seqSlots b).filterMap (fun (o, e, used) => if used && bit (le e 4 1) 0 then some (le e 16 4, o + 16) else none) else []
  let checks (f : Nat) : List (Bool × Status × Nat) := (pubs.flatMap fun p => (pubCheck s p.1 p.2)[f]?.toList)
  firstFail <|
    [(s.cnv.fg.isSome || cnvAwaits s u, .busy, 0),
     (decide (4 < u) || b.length != (if scan then 2112 else 64), .badField, 0),
     (decide (3 < c.mode) || (c.mode == 1 && u != 4) || ((c.mode == 2 || scan) && u == 4), .badField, 0),
     (decide (1 < le b 3 1), .badField, 3),
     (!allZero (slice b 28 36), .badField, 28)] ++
    (if scan then seqField b else []) ++
    [((u != 4 && s.cnv.b1) || (u == 4 && c.mode == 1 && (List.range 4).any (fun g => (cnvG s g).cfg.mode == 2 || (cnvG s g).cfg.mode == 3)),
      .state, 0),
     (groups.any (fun g => capArmedOn s g && ((cnvG s g).cfg.mode != c.mode || (cnvG s g).cfg.input != c.input)), .busy, 0),
     (c.input != 0 && (!burst || decide (15 < c.input)) && c.mode != 0, .range, 1),
     ((burst && decide (8 < c.shift)) || (scan && c.shift != 0), .range, 2),
     ((burst && (c.avg == 0 || decide (256 < c.avg))) || (scan && c.avg != 0), .range, 4),
     ((burst && c.pub && c.pubDiv == 0) || (!(burst && c.pub) && c.pubDiv != 0), .range, 6),
     (!(burst && c.pub) && c.point != 0, .range, 8),
     (if scan then decide (10000000 < c.period) else c.period != 0, .range, 12),
     (if c.period = 0 then c.phase != 0 else decide (c.period ≤ c.phase), .range, 16),
     (scan && le b 20 4 != 0 && (decide (le b 20 4 < 16) || decide (65536 < le b 20 4)), .range, 20),
     (scan && (List.range 4).any (fun k => decide (16 < le b (24 + k) 1)), .range, 24)] ++
    (if scan then seqRange b else []) ++
    [(scan && c.period != 0 && c.seqs.any (fun l => decide (c.period * 1000 < (l.foldl (fun a e => a + e.samp * 8) 0))), .range, 12)] ++
    checks 0 ++ checks 1 ++ checks 2 ++ [(!s.cnv.clkOk, .state, 0)]

/-- CNV_CONFIG (R359): checked now, in force at the boundary. -/
def cnvConfig (s : State) (c : Cmd) : State :=
  match cnvCheck s c.unit c.data with
  | some (st, off) => endCmd (event (bump s cCnvConfigRejected) evCnvRejected [(2, c.unit), (2, 0), (2, 0), (2, 0), (4, s.cnv.tgen), (4, off)]) c.handle st 0 0
  | none =>
    let all := c.unit == 4
    cnvUpd s (if all then 0 else c.unit) fun k => { k with next := some (cnvParse c.data, c.handle, all) }

/-- CNV_CONFIG (R359). -/
def execCnvConfig (h : Nat) (data : Option Bytes) (s : State) : Res := ok (startCmd s h 0x48 data cnvConfig)

/-- A group has reached its boundary (R360): no entry is being filled, no pass is in progress. -/
def atBoundary (s : State) (g : Nat) : Bool :=
  let k := cnvG s g
  k.stopped || k.cfg.mode == 0 || (if isBurst k.cfg.mode then k.fill.isNone else (sliceSet g 3).all fun n => (cnvS s n).at'.isNone)

/-- One group takes a configuration (R360). -/
def cnvTake (s : State) (c : CnvCfg) (g : Nat) : State :=
  let s := (sliceSet g 3).foldl (fun s n => sliceUpd s n fun x => { x with at' := none, sinceCal := 0, calDue := false }) s
  let sl := slicesFor s g c
  cnvUpd s g fun k => { k with
    cfg := c
    next := none
    fill := none
    gapNext := true
    slices := sl
    stopped := false
    degraded := isBurst c.mode && decide (sl.length < (sliceSet g c.mode).length)
    resumeAt := none
    results := 0
    pend := []
    deferSince := none
    tgen := s.cnv.tgen
    lastUpdate := s.tmb.now }

/-- CNV_CONFIG_BOUNDARY (R360): at `t` a group reaches its boundary, the configuration takes effect, the command completes. -/
def execCnvConfigBoundary (g t : Nat) (s : State) : Res :=
  match (cnvG s g).next with
  | none => ok s
  | some (c, h, all) =>
    let gs := if all then [0, 1, 2, 3] else [g]
    if !gs.all (atBoundary s) then ok s
    else
      let s := gs.foldl (fun s k => cnvTake s c k) (advance s t)
      let s := { s with cnv := { s.cnv with b1 := (cnvG s 0).cfg.mode == 1 } }
      ok (endCmd (cnvEvent s evCnvConfigured (if all then 4 else g) 0 c.input) h .ok 0 0)

/-! ### Burst results (R362, R363, R366) -/

/-- CNV_RESULT_FORMED (R363): a Burst result of group `g` from AVG_N corrected samples `cs`, the first stamped `q`, at Timeline `t`; `ovr`: an
input sample was beyond full scale. -/
def execCnvResultFormed (g : Nat) (cs : List Int) (ovr : Bool) (q t : Nat) (s : State) : Res :=
  let k := cnvG s g
  if !cnvRuns s g ∨ !isBurst k.cfg.mode ∨ cs.length ≠ k.cfg.avg then ok s
  else
    let s := advance s t
    let (r, sat) := burstResult cs k.cfg.shift
    let s := if ovr then cnvOver s k.cfg.input else s
    let fresh := k.fill.isNone
    let e : QEntry := k.fill.getD ⟨q, 1, k.cfg.input, 0, false, false, k.degraded, k.gapNext, k.tgen, [], 0xFF⟩
    let e := { e with ovr := e.ovr || ovr || sat, results := e.results ++ [(q, r)] }
    let n := k.results + 1
    let s := cnvUpd s g fun k => { k with fill := some e, gapNext := false, results := n }
    let s := if e.results.length = 16 then cnvRelease (cnvUpd s g fun k => { k with fill := none }) g e else s
    let s := if k.cfg.pub ∧ n % k.cfg.pubDiv = 0 then pubOffer s g (k.cfg.point, k.cfg.input, r, q, ovr || sat) else pubTurn s g
    if burstGroupOf s k.cfg.input ≠ some g then ok s
    else ok ((List.range 16).foldl (fun s n =>
      if (capCh s n).desc.source = 1 ∧ (capCh s n).desc.input = k.cfg.input then
        capSample s n q r (ovr || sat) (fresh && e.gap) e.degraded (8000 / k.slices.length * k.cfg.avg) e.tgen
      else s) s)

/-! ### Scan passes (R361, R364) -/

/-- SCAN_PASS_START (R361): a pass starts at `t` on every idle slice of a group that has a sequence. -/
def execScanPassStart (g t : Nat) (s : State) : Res :=
  let k := cnvG s g
  if !cnvRuns s g ∨ k.cfg.mode ≠ 3 ∨ k.next.isSome then ok s
  else ok (k.slices.foldl (fun s n => sliceUpd s n fun x => { x with at' := some (x.at'.getD 0) }) (advance s t))

/-- SCAN_RESULT (R361, R364): slice `n` has sampled its next entry: corrected sample `c`, stamp `q`, at Timeline `t`. -/
def execScanResult (n : Nat) (c : Int) (ovr : Bool) (q t : Nat) (s : State) : Res :=
  let g := n / 4
  let k := cnvG s g
  match (cnvS s n).at' with
  | none => ok s
  | some i =>
    let l := k.cfg.seqs.getD (n % 4) []
    if !cnvRuns s g ∨ k.cfg.mode ≠ 3 ∨ !k.slices.contains n then ok s
    else match l[i]? with
      | none => ok s
      | some e =>
        let s := advance s t
        let (r, sat) := scanResult c e.ofs e.gcorr
        let s := if ovr then cnvOver s e.input else s
        let s := cnvRelease (cnvUpd s g fun k => { k with gapNext := false }) g
          ⟨q, 2, e.input, i, ovr || sat, false, k.degraded, k.gapNext, k.tgen, [(q, r)], n⟩
        let s := if e.pub then pubOffer s g (e.point, e.input, r, q, ovr || sat) else pubTurn s g
        if i + 1 < l.length then ok (sliceUpd s n fun x => { x with at' := some (i + 1) })
        else
          let s := cnvUpd s g fun k => { k with passes := (k.passes + 1) % 2 ^ 32 }
          ok (sliceUpd s n fun x => { x with
            at' := none
            sinceCal := x.sinceCal + 1
            calDue := x.calDue || decide (k.cfg.calEvery ≤ x.sinceCal + 1) })

/-- CAL_SLOT (R361): after CAL_EVERY passes the calibration slot of a slice runs at the end of its pass, at `t`, or is deferred. -/
def execCalSlot (n t : Nat) (s : State) : Res :=
  let k := cnvG s (n / 4)
  let x := cnvS s n
  if !cnvRuns s (n / 4) ∨ k.cfg.mode ≠ 3 ∨ !x.calDue ∨ x.at'.isSome then ok s
  else
    let s := advance s t
    let p := k.cfg.period * 1000
    let f := k.cfg.phase * 1000
    let next := if s.tmb.now < f then f else (s.tmb.now - f) / p * p + p + f
    if k.cfg.period ≠ 0 ∧ next < s.tmb.now + 136 then ok (bump s cCnvCalSlotsSkipped)
    else ok (bump (sliceUpd s n fun x => { x with sinceCal := 0, calDue := false }) cCnvCalSlots)

/-! ### Temper (R368 to R372) -/

/-- TEMPER_RUN starts (R369); the state it needs ends it at once, otherwise it goes on in Slices. -/
def temperRun (s : State) (c : Cmd) (loopReads : Bool) : State :=
  let armed := (List.range 4).any (capArmedOn s)
  if !s.cnv.clkOk then endCmd s c.handle .state 0 0
  else if (List.range 4).any (fun g => (cnvG s g).next.isSome) ∨ s.cnv.fg.isSome then endCmd s c.handle .busy 0 0
  else if !bit c.arg 0 ∧ (armed ∨ loopReads) then endCmd s c.handle .busy 0 0
  else
    let s := (List.range 4).foldl (fun s g => cnvUpd (cnvAllBad s g) g fun k => { k with fill := none, pend := [] }) s
    let s := (List.range 16).foldl (fun s n => sliceUpd s n fun x => { x with at' := none }) s
    bump { s with cnv := { s.cnv with fg := some ⟨some c.handle, s.tmb.now⟩ } } cCnvFgRuns

/-- The last Slice of TEMPER_RUN (R369). -/
def temperDone (s : State) : State :=
  match s.cnv.fg with
  | some f => match f.cmd with
    | some h => endCmd (fgDone s) h .ok 0 0
    | none => fgDone s
  | none => s

/-- A foreground run ends without a generation (R369, R125). -/
def temperFail (s : State) : State :=
  match s.cnv.fg with
  | some _ =>
    let s := (List.range 4).foldl (fun s g => cnvUpd s g fun k => { k with gapNext := true }) s
    cnvEvent { s with cnv := { s.cnv with fg := none } } evTemperFailed 0 0 0
  | none => s

/-- TEMPER_BG_UPDATE (R370, R371): every UPDATE_MS, at `t`; bit g of `idle`: group g's stream gives no estimate. -/
def execTemperBgUpdate (idle t : Nat) (s : State) : Res :=
  if !flag s fCnvCtrlBgEn ∨ !s.cnv.clkOk ∨ s.cnv.fg.isSome then ok s
  else
    let s := advance s t
    let on := (List.range 4).filter fun g => (cnvG s g).cfg.mode != 0 && !(cnvG s g).slices.isEmpty
    let held := on.filter fun g => flag s fCnvCtrlHoldOnArm && capArmedOn s g
    let quiet := (on.filter (fun g => !held.contains g)).filter fun g => isBurst (cnvG s g).cfg.mode && bit idle g
    let go := on.filter fun g => !held.contains g && !quiet.contains g
    let s := held.foldl (fun s g => cnvUpd s g fun k => { k with deferSince := some (k.deferSince.getD s.tmb.now) }) s
    let s := bumpN (bumpN s cCnvTemperDeferred held.length) cCnvTemperIdle quiet.length
    if go.isEmpty then ok s
    else
      let s := (go.flatMap fun g => (cnvG s g).slices).foldl sliceNudge s
      ok (bump (cnvGeneration s go) cCnvTemperUpdates)

/-- TEMPER_DEFER_EXPIRY (R371): a deferral reaches HOLD_MAX_MS. -/
def execTemperDeferExpiry (g : Nat) (s : State) : Res :=
  match (cnvG s g).deferSince with
  | none => ok s
  | some t =>
    let s := advance s (t + 1000000 * fld s fCnvCtrlHoldMaxMs)
    let s := (cnvG s g).slices.foldl sliceNudge s
    let s := bump (bump (cnvGeneration s [g]) cCnvTemperForced) cCnvTemperUpdates
    let s := (List.range 16).foldl (fun s n =>
      if (capCh s n).desc.source = 1 ∧ (capCh s n).desc.input = (cnvG s g).cfg.input then
        capUpd s n fun c => { c with cur := c.cur.map (fun x => { x with mixed := true }) } else s) s
    ok (cnvEvent s evTemperForcedUpdate g 0 0)

/-- CAL_STALE_TIMEOUT (R372), at `t`. -/
def execCalStaleTimeout (t : Nat) (s : State) : Res :=
  let s := advance s t
  let late := flag s fCnvCtrlBgEn && (List.range 4).any fun g =>
    (cnvG s g).cfg.mode != 0 && decide ((cnvG s g).lastUpdate + 10000000000 ≤ s.tmb.now)
  let warm := decide (5000 < (s.pwr.dieTemp - s.cnv.updTemp).natAbs)
  if (late ∨ warm) ∧ !s.cnv.stale then ok (cnvEvent { s with cnv := { s.cnv with stale := true } } evTemperDrift 0 0 0) else ok s

/-! ### Failed slices and the clock (R373 to R375) -/

/-- A slice is removed (R373, R374). -/
def sliceFail (s : State) (n cause : Nat) : State :=
  if (cnvS s n).failed ≠ 0 then s
  else
    let s := sliceUpd s n fun x => { x with failed := cause, at' := none }
    let g := if s.cnv.b1 then 0 else n / 4
    let k := cnvG s g
    let s := cnvEvent (bump s cCnvSliceFails) evSliceFailed g n 0
    let s := match s.cnv.fg with
      | some f => match f.cmd with
        | some h => endCmd (temperFail s) h .faulted 0 0
        | none => s
      | none => s
    if !k.slices.contains n then s
    else if isBurst k.cfg.mode then
      let s := cnvUpd (cnvStop s g) g fun k => { k with resumeAt := some (s.tmb.now + 2000) }
      if (burstSlices s g k.cfg.mode).isEmpty then
        cnvUpd (cnvAllBad s g) g fun k => { k with slices := [], degraded := true, resumeAt := none }
      else s
    else
      let s := cnvUpd s g fun k => { k with slices := k.slices.filter (· != n) }
      (k.cfg.seqs.getD (n % 4) []).foldl (fun s e => if e.pub then badPoint s wCNV e.input e.point else s) s

/-- SLICE_FAILED (R373): cause 1 self-check, 2 out of correction range, 3 stuck output. -/
def execSliceFailed (n cause t : Nat) (s : State) : Res :=
  if n < 16 ∧ 1 ≤ cause ∧ cause ≤ 3 then ok (sliceFail (advance s t) n cause) else ok s

/-- BURST_RESUME (R374): 2 µs after the removal the group runs on its healthy slices. -/
def execBurstResume (g : Nat) (s : State) : Res :=
  match (cnvG s g).resumeAt with
  | none => ok s
  | some t =>
    let s := advance s t
    let sl := burstSlices s g (cnvG s g).cfg.mode
    ok (cnvUpd s g fun k => { k with
      slices := sl
      stopped := !s.cnv.clkOk
      resumeAt := none
      degraded := true
      gapNext := true })

/-- ADCCLK_LOSS (R375). -/
def execAdcclkLoss (t : Nat) (s : State) : Res :=
  if !s.cnv.clkOk then ok s
  else
    let s := advance s t
    let s := { s with cnv := { s.cnv with clkOk := false } }
    let s := (List.range 4).foldl (fun s g => cnvStop (cnvAllBad s g) g) s
    ok (cnvEvent (bump s cCnvClockLoss) evCnvClockLoss 0 0 0)

/-- ADCCLK_RETURN (R375): the clock has been within limits for 1 ms. -/
def execAdcclkReturn (t : Nat) (s : State) : Res :=
  if s.cnv.clkOk then ok s
  else
    let s := advance s t
    let s := { s with cnv := { s.cnv with clkOk := true } }
    ok ((List.range 4).foldl (fun s g => cnvUpd s g fun k => { k with
      stopped := k.slices.isEmpty && k.cfg.mode != 0
      gapNext := true }) s)

/-- The checks of a CNV commit (R378). -/
def cnvCommitCheck (s : State) : Status :=
  let u := sfld s fCnvCtrlUpdateMs
  let h := sfld s fCnvCtrlHoldMaxMs
  if u = 0 ∨ 100 < u ∨ h = 0 ∨ 10000 < h then .range else .ok

end Sys2Proof.Machine
end

