-- ==== Sys2Proof/Machine/StnOps.lean ====
section
/-! DEFINITION. The Station Network's shared operations (15_stations R449 to R473): ports and their queues, the layout of frames and images,
tokens, CONFIG, an output image from its enqueue to its launch. -/
namespace Sys2Proof.Machine
open Sys2Proof

/-! ### Ports (R449, R451, R54) -/

/-- A port. -/
def stnPort (s : State) (p : Nat) : StnPort := s.stn.port.get p
/-- Change a port. -/
def portUpd (s : State) (p : Nat) (f : StnPort → StnPort) : State := { s with stn := { s.stn with port := s.stn.port.upd p f } }
/-- A station. -/
def stOf (s : State) (n : Nat) : Station := s.stn.st.get n
/-- Change a station. -/
def stUpd (s : State) (n : Nat) (f : Station → Station) : State := { s with stn := { s.stn with st := s.stn.st.upd n f } }
/-- MODE of a port. -/
def portMode (d : Bytes) : Nat := le d 0 1
/-- A port's MAC. -/
def portMac (d : Bytes) : Bytes := slice d 4 6
/-- The port can carry frames. -/
def portUp (s : State) (p : Nat) : Bool := portMode (stnPort s p).desc != 0 && (stnPort s p).link

/-- Time of one byte on the wire in a mode, in ps (R449). -/
def bytePs : Nat → Nat
  | 1 | 2 => 320 | 3 => 800 | 4 | 5 => 8000 | 6 => 80000 | 7 => 800000 | _ => 0

/-- Time of a frame on the wire, its FCS and preamble included, in ns. -/
def frameNs (mode len : Nat) : Nat := ((max len 60 + 12) * bytePs mode + 999) / 1000

/-- The minimum inter-frame gap of 12 bytes, in ns. -/
def gapNs (mode : Nat) : Nat := (12 * bytePs mode + 999) / 1000

/-- TX and RX corrections of a mode in quarter ns (R54). -/
def txCorr : Nat → Int
  | 1 => 168 | 2 => 246 | 3 => 248 | 4 => 592 | 5 => 656 | 6 => 1712 | 7 => 14560 | _ => 0
/-- RX correction. -/
def rxCorr : Nat → Int
  | 1 => 234 | 2 => 1084 | 3 => 350 | 4 => 784 | 5 => 912 | 6 => 4720 | 7 => 42400 | _ => 0

/-- An ingress stamp at the ball, in quarter ns (R54). -/
def ingress (s : State) (p : Nat) (raw : Int) : Int :=
  raw - rxCorr (portMode (stnPort s p).desc) - signed 16 (fld s (fTmbTscorrRx p))

/-- An egress stamp at the ball, in quarter ns (R54). -/
def egress (s : State) (p : Nat) (raw : Int) : Int :=
  raw + txCorr (portMode (stnPort s p).desc) + signed 16 (fld s (fTmbTscorrTx p))

/-- An event of the Station Network: port, station, MAC, version, index (R475). -/
def stnEvent (s : State) (k : EvKind) (port station : Nat) (mac : Bytes) (ver index : Nat) : State :=
  event s k [(2, port), (2, station), (6, leNat mac), (2, ver), (4, index)]

/-! ### Frames (R449, R459) -/

/-- An Ethernet frame without FCS, padded to its minimum (R449). -/
def ethFrame (d dst : Bytes) (etype : Nat) (payload : Bytes) : Bytes :=
  let be (v : Nat) : Bytes := [BitVec.ofNat 8 (v / 256), BitVec.ofNat 8 v]
  let tag := if bit (le d 1 1) 0 ∧ etype = 0x88B5 then be 0x8100 ++ be (bits (le d 10 2) 14 12 * 8192 + bits (le d 10 2) 11 0) else []
  let f := dst ++ portMac d ++ tag ++ be etype ++ payload
  f ++ zeros (60 - f.length)

/-- A WSP frame's bytes after the EtherType (R459). -/
def wspFrame (ver type station : Nat) (body : Bytes) : Bytes :=
  [BitVec.ofNat 8 ver, BitVec.ofNat 8 type] ++ leBytes 2 station ++ leBytes 2 body.length ++ zeros 2 ++ body

/-- Put a frame into an egress queue (R451). -/
def egressPut (s : State) (p : Nat) (f : TxFrame) : State := portUpd s p fun x => { x with q := x.q ++ [f] }

/-- Queue a plain frame. -/
def egressPlain (s : State) (p queue : Nat) (b : Bytes) : State := egressPut s p ⟨queue, b, false, .plain, 0⟩

/-- A frame leaves at `start` (R451, R58). -/
def frameOut (s : State) (p start : Nat) (b : Bytes) : State :=
  let m := portMode (stnPort s p).desc
  let s := portUpd (bump s cStnTxFrames) p fun x => { x with busy := start + frameNs m b.length, tx := (x.tx + 1) % 2 ^ 32 }
  send s (.eth p start b)

/-! ### The station table (R455, R458) -/

/-- STATION of an entry. -/
def enStation (e : Bytes) : Nat := le e 0 2
/-- PORT of an entry. -/
def enPort (e : Bytes) : Nat := le e 2 1
/-- MAC of an entry. -/
def enMac (e : Bytes) : Bytes := slice e 4 6
/-- IN_PERIOD_US in ns. -/
def enPeriod (e : Bytes) : Nat := 1000 * le e 28 4
/-- TIMEOUT_US in ns; 0 selects 3 × IN_PERIOD_US. -/
def enTimeout (e : Bytes) : Nat := if le e 36 4 = 0 then 3 * enPeriod e else 1000 * le e 36 4
/-- HOLD_MS; 0 selects 5,000 ms. -/
def enHold (e : Bytes) : Nat := if le e 40 4 = 0 then 5000 else le e 40 4
/-- REASM_US in ns; 0 selects 200 µs. -/
def enReasm (e : Bytes) : Nat := if le e 52 4 = 0 then 200000 else 1000 * le e 52 4

/-- Bytes of a channel of a type (R458). -/
def chanBytes : PType → Nat
  | .bool => 1 | .enum16 => 2 | .int32 | .uint32 | .real32 | .fix24 => 4 | .int64 | .uint64 | .real64 | .time => 8
  | .none | .blobRef => 0

/-- Bytes of an image: a status byte for each channel, then the values (R458). -/
def imageBytes (l : List PType) : Nat := l.foldl (fun a t => a + 1 + chanBytes t) 0

/-- LAYOUT_ID (R458). -/
def layoutId (x : Station) : Nat :=
  let it := x.ins.map fun c => BitVec.ofNat 8 c.2.code
  let ot := x.outs.map fun c => BitVec.ofNat 8 c.2.1.code
  (crc32c (leBytes 2 it.length ++ leBytes 2 ot.length ++ it ++ ot)).toNat % 65536

/-- Cut an image into fragments of at most `n` bytes; an empty image is one empty fragment (R460). -/
def fragsOf (n : Nat) (b : Bytes) : List Bytes := if b.isEmpty then [[]] else chunks n ((b.length + n - 1) / n) b

/-- Fragments an image of a size takes. -/
def fragCount (n size : Nat) : Nat := if size = 0 then 1 else (size + n - 1) / n

/-! ### The token (R470, R533) -/

/-- TOKEN_MODULE: the PAIR_ID strap (R470). -/
def tokenModule (s : State) : Nat := b2n s.pwr.pairId

/-- This module launches OUTPUT frames (R468, R533). -/
def stnHolder (s : State) : Bool := s.par.holds && !s.pwr.stopped

/-- TOKEN_EPOCH rises above every value seen (R470). -/
def tokenRaise (s : State) : State :=
  { s with
    mram := { s.mram with token := (max s.mram.token s.stn.helloMax + 1) % 2 ^ 32 }
    stn := { s.stn with tokenSet := true, raise := false } }

/-- Before the first CONFIG of a start (R470); a formed pair keeps its own rule (R533). -/
def tokenStart (s : State) : State := if s.stn.tokenSet ∨ s.par.formed then s else tokenRaise s

/-! ### CONFIG (R460, R462, R465) -/

/-- The versions of R462 that remain, highest first. -/
def versionsFor (x : Station) (lo hi : Nat) : List Nat :=
  let big := decide (1476 < imageBytes (x.ins.map (·.2))) || decide (1468 < imageBytes (x.outs.map (·.2.1)))
  [3, 2, 1].filter fun v => decide (lo ≤ v) && decide (v ≤ hi) && decide (le x.entry 10 1 ≤ v) && decide (v ≤ le x.entry 11 1) && !(v == 1 && big)

/-- The CONFIG frames of a station (R460). -/
def configFrames (s : State) (n : Nat) : List Bytes :=
  let x := stOf s n
  let d := (stnPort s (enPort x.entry)).desc
  let dest := if allZero (slice x.entry 56 6) then portMac d else slice x.entry 56 6
  let body := x.ins.map (fun c => BitVec.ofNat 8 c.2.code) ++ x.outs.map (fun c => BitVec.ofNat 8 c.2.1.code) ++
    x.outs.map (fun c => BitVec.ofNat 8 (b2n c.2.2)) ++
    (x.outs.zip x.safes).flatMap (fun c => leBytes (chanBytes c.1.2.1) c.2.toNat)
  let fs := fragsOf 1448 body
  (List.range fs.length).map fun i =>
    ethFrame d (enMac x.entry) 0x88B5 (wspFrame x.ver 3 n (
      leBytes 2 (layoutId x) ++ leBytes 2 x.ins.length ++ leBytes 2 x.outs.length ++ leBytes 1 (i + 16 * (fs.length - 1)) ++ zeros 1 ++
      leBytes 4 (le x.entry 28 4) ++ leBytes 4 (le x.entry 32 4) ++ leBytes 4 (enHold x.entry) ++ leBytes 4 (le x.entry 44 4) ++
      leBytes 4 (le x.entry 48 4) ++ dest ++ zeros 2 ++ leBytes 4 s.mram.token ++ leBytes 1 (tokenModule s) ++ zeros 3 ++ fs.getD i []))

/-- CONFIG goes out, and CONFIG_ACK is awaited for 10 ms (R465). -/
def configSend (s : State) (n : Nat) : State :=
  let s := tokenStart s
  let p := enPort (stOf s n).entry
  let s := (configFrames s n).foldl (fun s f => egressPlain s p (le (stnPort s p).desc 3 1) f) s
  stUpd s n fun x => { x with state := .configuring, due := s.tmb.now + 10000000 }

/-- Negotiate a version from the latest HELLO and send CONFIG (R462, R465). -/
def stnNegotiate (s : State) (n : Nat) : State :=
  let x := stOf s n
  match x.hello with
  | none => stUpd s n fun x => { x with state := .waitHello }
  | some (lo, hi) =>
    match versionsFor x lo hi with
    | v :: _ => configSend (stUpd s n fun x => { x with ver := v, retries := 0, reasm := none }) n
    | [] =>
      let s := stUpd (bump s cStnNegotiationFailed) n fun x => { x with state := .failed, ver := 0, retryAt := s.tmb.now + 1000000000 }
      stnEvent s evStationVersion (enPort x.entry) n (enMac x.entry) hi 0

/-! ### Output images (R451, R452, R468) -/

/-- Address of STN_ST[n] + 0x18. -/
def aStnDrop (n : Nat) : Nat := 0xE40018 + 0x20 * (n % 4096)

/-- Frames and images of a station discarded (STN_ST RX_DROPPED). -/
def dropBump (s : State) (n : Nat) : State :=
  let v := (stored s (aStnDrop n)).toNat
  if v % 65536 = 65535 then s else setStored s (aStnDrop n) (BitVec.ofNat 32 (v + 1))

/-- Output images of a station refused (STN_ST OUT_NO_TARGET). -/
def noTargetBump (s : State) (n : Nat) : State :=
  let v := (stored s (aStnDrop n)).toNat
  let s := bump s cStnOutNoTarget
  if v / 65536 = 65535 then s else setStored s (aStnDrop n) (BitVec.ofNat 32 (v + 65536))

/-- Status and value of one output channel, from a read now (R457, R468). -/
def outChannel (s : State) (c : Nat × PType × Bool) : Byte × Bytes :=
  let here : Bool := match mapFind s.pst.map c.1 with | some e => e.type == c.2.1 | none => false
  if !here then (0, zeros (chanBytes c.2.1))
  else
    let r := readPoint s c.1 s.tmb.now
    let valid := hasQ r.qual qVALID && !hasQ r.qual qBAD && !hasQ r.qual qSTALE
    (BitVec.ofNat 8 (b2n valid + 2 * b2n (hasQ r.qual qFORCED)), leBytes (chanBytes c.2.1) r.value.toNat)

/-- The output image of a station as it is now (R458, R468). -/
def outImage (s : State) (n : Nat) : Bytes :=
  let l := (stOf s n).outs.map (outChannel s)
  l.map (·.1) ++ l.flatMap (·.2)

/-- The fragments of an image leave back to back from `start` (R452, R460). -/
def launchFrames (s : State) (p start : Nat) : List Bytes → State
  | [] => s
  | f :: t =>
    let s := frameOut s p start f
    launchFrames s p ((stnPort s p).busy + gapNs (portMode (stnPort s p).desc)) t

/-- An OUTPUT_IMAGE entry launches (R451, R452, R468, R470): nothing leaves a module that does not hold control, nor a port without link. -/
def imageLaunch (s : State) (p : Nat) (o : StnOut) (inst : Nat) : State :=
  let x := stOf s o.station
  let (s, go) := outward s inst
  if !go ∨ !stnHolder s ∨ !portUp s p ∨ x.state = .unused then s
  else
    let s := if s.stn.raise && !s.par.formed then tokenRaise s else s
    let g := gapNs (portMode (stnPort s p).desc)
    let late := decide (inst < (stnPort s p).busy) && decide (inst < (stnPort s p).launched)
    let s := if late then bump s cStnLaunchBumped else s
    let start := if inst < (stnPort s p).busy then (stnPort s p).busy + g else inst
    let seq := (x.outSeq + 1) % 2 ^ 32
    let fs := fragsOf 1468 o.image
    let d := (stnPort s p).desc
    let frames := (List.range fs.length).map fun i =>
      ethFrame d (enMac x.entry) 0x88B5 (wspFrame x.ver 6 o.station (
        leBytes 4 seq ++ leBytes 1 (i + 16 * (fs.length - 1)) ++ zeros 1 ++ leBytes 2 (layoutId x) ++ leBytes 8 inst ++
        leBytes 4 s.mram.token ++ leBytes 1 (tokenModule s) ++ zeros 3 ++ fs.getD i []))
    let s := launchFrames s p start frames
    let s := portUpd s p fun y => { y with launched := y.busy }
    stUpd (bump s cStnImagesOut) o.station fun x => { x with outSeq := seq, held := false }

/-- Put an image into a port's launch queue in order of INSTANT (R59). -/
def stnInsert (o : StnOut) : List StnOut → List StnOut
  | [] => [o]
  | h :: t => if h.e.instant ≤ o.e.instant then h :: stnInsert o t else o :: h :: t

/-- A class (its number) or the Interlock Engine (0x20) enqueues a station's frame for `inst` (R145, R216, R468): the image is built now; a
station not in RUN refuses it. The second part is whether it was taken. -/
def stnOutput (s : State) (cls n inst : Nat) (late : Bool) : State × Bool :=
  let x := stOf s n
  if x.state ≠ .run then (noTargetBump s n, false)
  else
    let p := enPort x.entry
    let e : LqEntry := ⟨inst, 0, late, 1, n, none⟩
    let o : StnOut := ⟨e, n, outImage s n⟩
    let a := arrival s 2000 e
    let s := noteLate s a 0x0E p
    let s := if cls = 0x20 then digAdd s 2 0 o.image else digAdd s 0 cls o.image
    match a with
    | .lateRun => (imageLaunch s p o s.tmb.now, true)
    | .lateDrop => (s, true)
    | .onTime => (portUpd s p fun y => { y with lq := stnInsert o y.lq }, true)

/-- A station of the table (R223). -/
def stnConfigured (s : State) (n : Nat) : Bool := (stOf s n).state != .unused

end Sys2Proof.Machine
end

