-- ==== Sys2Proof/Machine/Stations.lean ====
section
/-! DEFINITION. The Station Network's commands (15_stations R449 to R476). -/
namespace Sys2Proof.Machine
open Sys2Proof

/-! ### Ports (R449 to R451) -/

/-- STN_CONFIG (R449): the first failing check. -/
def portCheck (d : Bytes) : Option (Status × Nat) :=
  firstFail [(decide (7 < portMode d), .badField, 0),
    (decide (3 < le d 1 1), .badField, 1),
    (decide (6 < le d 2 1), .range, 2),
    (decide (6 < le d 3 1), .range, 3),
    (bit (le d 4 1) 0, .badField, 4),
    (bit (le d 10 2) 15, .badField, 10),
    (!allZero (d.drop 12), .badField, 12)]

/-- Link of a port goes up or down (R449, R475). -/
def portLink (s : State) (p : Nat) (up : Bool) : State :=
  if (stnPort s p).link = up then s
  else
    let s := portUpd s p fun x => { x with link := up, q := if up then x.q else [] }
    stnEvent s (if up then evPortUp else evPortDown) p 0 (portMac (stnPort s p).desc) 0 0

/-- STN_CONFIG (R449): a change of MODE drops the link. -/
def stnConfig (s : State) (c : Cmd) : State :=
  let p := c.unit
  match portCheck c.data with
  | some (st, _) => endCmd s c.handle st 0 0
  | none =>
    let s := if portMode (stnPort s p).desc ≠ portMode c.data then portLink s p false else s
    endCmd (portUpd s p fun x => { x with desc := c.data }) c.handle .ok 0 0

/-- STN_CONFIG (R449). -/
def execStnConfig (h : Nat) (data : Option Bytes) (s : State) : Res := ok (startCmd s h 0x54 data stnConfig)

/-- PORT_LINK_CHANGE (R449). -/
def execPortLinkChange (p : Nat) (up : Bool) (t : Nat) (s : State) : Res :=
  let s := advance s t
  if 4 ≤ p ∨ (up ∧ portMode (stnPort s p).desc = 0) then ok s else ok (portLink s p up)

/-- The next INSTANT in a port's launch queue (R451). -/
def nextLaunch (s : State) (p : Nat) : Option Nat := (stnPort s p).lq.head?.map (·.e.instant)

/-- The highest queue that holds a frame. -/
def topQueue (q : List TxFrame) : Option Nat := q.foldl (fun a f => match a with | some b => some (max b f.queue) | none => some f.queue) none

/-- The PTP instance keeps the egress stamp of its event messages (01_timeline R51, R54). -/
def ptpSent (s : State) (p start : Nat) (f : TxFrame) : State :=
  let st := egress s p (4 * start)
  match f.kind with
  | .plain => s
  | .delayReq => { s with tmb := { s.tmb with ptp := { s.tmb.ptp with delayReq := some (f.seq, st) } } }
  | .pdelayReq => { s with tmb := { s.tmb with ptp := { s.tmb.ptp with pdelayReq := some (f.seq, st) } } }
  | .sync => egressPlain s p (le (stnPort s p).desc 3 1) (ethFrame (stnPort s p).desc
      [0x01, 0x1B, 0x19, 0, 0, 0] 0x88F7 ([0x08] ++ leBytes 2 f.seq ++ lesBytes 8 (st / 4)))
  | .pdelayResp => egressPlain s p (le (stnPort s p).desc 3 1) (ethFrame (stnPort s p).desc
      [0x01, 0x80, 0xC2, 0, 0, 0x0E] 0x88F7 ([0x0A] ++ leBytes 2 f.seq ++ lesBytes 8 (st / 4)))

/-- EGRESS_FRAME_START (R451): at `t`, or when the wire is free, the first frame of the highest queue starts, unless its end would come
within 100 ns of the next INSTANT of the launch queue. -/
def execEgressFrameStart (p t : Nat) (s : State) : Res :=
  let x := stnPort s p
  match topQueue x.q with
  | none => ok s
  | some k =>
    match x.q.find? (·.queue == k) with
    | none => ok s
    | some f =>
      let m := portMode x.desc
      let s := advance s (max t (if x.busy = 0 then 0 else x.busy + gapNs m))
      if !portUp s p then ok s
      else
        let fits : Bool := match nextLaunch s p with | some i => decide (s.tmb.now + frameNs m f.bytes.length + 100 ≤ i) | none => true
        if fits then
          let s := portUpd s p fun x => { x with q := x.q.erase f }
          let start := s.tmb.now
          ok (ptpSent (frameOut s p start f.bytes) p start f)
        else if f.deferred then ok s
        else
          ok (portUpd (bump s cStnGuardDefer) p fun x => { x with q := x.q.map fun g => if g = f then { g with deferred := true } else g })

/-- OUTPUT_IMAGE (R452): the front entry of a port's launch queue. -/
def execOutputImage (p : Nat) (s : State) : Res :=
  match (stnPort s p).lq with
  | [] => ok s
  | o :: t => ok (imageLaunch (portUpd (advance s o.e.instant) p fun x => { x with lq := t }) p o o.e.instant)

/-- A frame reaches a MAC: it is counted (R476). -/
def rxCount (s : State) (p : Nat) : State := portUpd (bump s cStnRxFrames) p fun x => { x with rx := (x.rx + 1) % 2 ^ 32 }

/-! ### The station table (R454 to R457) -/

/-- The channel words, entries and safe values of a table. -/
def tableEntries (b : Bytes) : List Bytes := chunks 64 (le b 6 2) (b.drop 64)
/-- Channel words. -/
def tableWords (b : Bytes) : List Nat := (chunks 4 (le b 8 4) (b.drop (64 + 64 * le b 6 2))).map leNat
/-- Safe values. -/
def tableSafes (b : Bytes) : List Val :=
  (chunks 8 (le b 12 4) (b.drop (64 + 64 * le b 6 2 + 4 * le b 8 4))).map fun v => BitVec.ofNat 64 (leNat v)

/-- Words `first` to `first + count`. -/
def wordsAt (ws : List Nat) (first count : Nat) : List Nat := (ws.drop first).take count

/-- The type of a point in the map in force. -/
def stnType (s : State) (id : Nat) : PType := match mapFind s.pst.map id with | some e => e.type | none => .none

/-- The station an entry describes, its layout resolved. -/
def stationOf (s : State) (e : Bytes) (ws : List Nat) (ss : List Val) : Station :=
  { (default : Station) with
    entry := e
    ins := (wordsAt ws (le e 16 4) (le e 12 2)).map fun w => (w % 2 ^ 25, stnType s (w % 2 ^ 25))
    outs := (wordsAt ws (le e 20 4) (le e 14 2)).map fun w => (w % 2 ^ 25, stnType s (w % 2 ^ 25), bit w 31)
    safes := (ss.drop (le e 24 4)).take (le e 14 2)
    state := .waitHello }

/-- An entry's fields lie in their ranges (R455). -/
def entryRange (b e : Bytes) : Bool :=
  let per := le e 28 4
  let tmo := le e 36 4
  let hold := le e 40 4
  let rs := le e 52 4
  decide (enStation e ≤ 4095) && decide (enPort e ≤ 3) && decide (1 ≤ le e 10 1) && decide (le e 10 1 ≤ le e 11 1) && decide (le e 11 1 ≤ 3) &&
  decide (le e 12 2 ≤ 1024) && decide (le e 14 2 ≤ 1024) && decide (le e 16 4 + le e 12 2 ≤ le b 8 4) &&
  decide (le e 20 4 + le e 14 2 ≤ le b 8 4) && decide (le e 24 4 + le e 14 2 ≤ le b 12 4) &&
  decide (100 ≤ per) && decide (per ≤ 1000000) && decide (le e 32 4 < per) &&
  (tmo == 0 || (decide (per ≤ tmo) && decide (tmo ≤ 60000000))) && (hold == 0 || (decide (10 ≤ hold) && decide (hold ≤ 60000))) &&
  decide (100 ≤ le e 44 4) && decide (le e 44 4 ≤ 1000000) && decide (le e 48 4 ≤ 10000) && (rs == 0 || (decide (10 ≤ rs) && decide (rs ≤ 10000)))

/-- An entry occurs earlier with the same STATION or MAC (R455). -/
def entryDup (l : List Bytes) (i : Nat) : Bool :=
  let e := l.getD i []
  (l.take i).any fun x => enStation x == enStation e || enMac x == enMac e

/-- The first failing check of a table, with the index of the entry or channel word (R456). -/
def tableCheck (s : State) (b : Bytes) : Option (Status × Nat) :=
  let es := tableEntries b
  let ws := tableWords b
  let inUse (f : Nat × PType → Bool) : Option Nat := es.findSome? fun e =>
    ((wordsAt ws (le e 16 4) (le e 12 2)).findIdx? fun w => f (w % 2 ^ 25, stnType s (w % 2 ^ 25))).map (· + le e 16 4)
  let outUse (f : Nat × PType → Bool) : Option Nat := es.findSome? fun e =>
    ((wordsAt ws (le e 20 4) (le e 14 2)).findIdx? fun w => f (w % 2 ^ 25, stnType s (w % 2 ^ 25))).map (· + le e 20 4)
  let res := resChecked (le b 4 2)
  let reserved : Option Nat :=
    (es.findIdx? fun e => res && (le e 3 1 != 0 || le e 62 2 != 0)) <|>
    ((List.range es.length).find? (entryDup es)) <|>
    (ws.findIdx? fun w => res && bits w 30 25 != 0) <|>
    (es.findSome? fun e => ((wordsAt ws (le e 16 4) (le e 12 2)).findIdx? fun w => bit w 31).map (· + le e 16 4))
  let bad (o : Option Nat) (st : Status) (k : Option (Status × Nat)) : Option (Status × Nat) := match o with | some i => some (st, i) | none => k
  if slice b 0 4 ≠ magic 'P' 'S' 'S' 'T' ∨ (res ∧ (1 < le b 28 1 ∨ !allZero (slice b 29 35))) then some (.badField, 0)
  else bad reserved .badField <|
    if le b 5 1 ≠ 1 then some (.version, 0)
    else if (crc32c (b.drop 64)).toNat ≠ le b 24 4 then some (.checksum, 0)
    else if 4096 < le b 6 2 ∨ 8388608 < le b 8 4 ∨ 4194304 < le b 12 4 ∨ b.length ≠ 64 + 64 * le b 6 2 + 4 * le b 8 4 + 8 * le b 12 4 then
      some (.range, 0)
    else bad (es.findIdx? fun e => !entryRange b e) .range <|
      bad (inUse (fun c => !mapped s c.1) <|> outUse (fun c => !mapped s c.1)) .noTarget <|
      bad (inUse (fun c => c.2 == .none || c.2 == .blobRef) <|> outUse (fun c => c.2 == .none || c.2 == .blobRef)) .badField <|
      bad (inUse fun c => match mapFind s.pst.map c.1 with | some e => !e.writers.getLsbD wSTN | none => true) .denied <|
      bad (es.findIdx? fun e =>
        let x := stationOf s e ws []
        le e 10 1 == 1 && (decide (1476 < imageBytes (x.ins.map (·.2))) || decide (1468 < imageBytes (x.outs.map (·.2.1))))) .range none

/-- A table comes into force (R457): a station with an unchanged entry keeps running, a changed one is configured again. -/
def tableTakes (s : State) (b : Bytes) : State :=
  let ws := tableWords b
  let ss := tableSafes b
  let old := s.stn.st
  let s := if bit (le b 28 1) 0 then settingsWritten s else s
  let s := { s with stn := { s.stn with
    st := SMap.empty
    build := le b 16 8
    disc := []
    saved := if bit (le b 28 1) 0 then some b else none } }
  (tableEntries b).foldl (fun s e =>
    let n := enStation e
    let x := old.get n
    let y := stationOf s e ws ss
    if x.state ≠ .unused ∧ x.entry = e then
      { s with stn := { s.stn with st := s.stn.st.set n { x with ins := y.ins, outs := y.outs, safes := y.safes } } }
    else
      let again : Bool := x.state != .unused && enMac x.entry == enMac e
      let y := if again then { y with hello := x.hello, sstate := x.sstate, timedOut := x.timedOut, holdElapsed := x.holdElapsed, helloAt := x.helloAt,
                                      token := x.token, tokenConflict := x.tokenConflict } else y
      let s := { s with stn := { s.stn with st := s.stn.st.set n y } }
      if again then stnNegotiate s n else s) s

/-- STN_TABLE_LOAD, once its last Slice has run (R456, R457). -/
def stnTableLoad (s : State) (b : Bytes) : State × Status × Nat :=
  match tableCheck s b with
  | some (st, i) => (stnEvent (bump s cStnTableRejected) evTableRejected 0 0 [] 0 i, st, 0)
  | none => (stnEvent (tableTakes s b) evTableLoaded 0 0 [] 0 0, .ok, le b 6 2)

/-! ### Joining (R463, R465, R470, R472) -/

/-- DISCOVER_TX (R463): a DISCOVER on every enabled port. -/
def execDiscoverTx (t : Nat) (s : State) : Res :=
  let s := advance s t
  if !flag s fStnCtrlDiscoverEn then ok s
  else ok ((List.range 4).foldl (fun s p =>
    if portUp s p then
      egressPlain s p (le (stnPort s p).desc 3 1) (ethFrame (stnPort s p).desc (List.replicate 6 0xFF) 0x88B5
        (wspFrame 1 1 0xFFFF ([1, 3] ++ zeros 6)))
    else s) s)

/-- The station a source address belongs to. -/
def stationByMac (s : State) (mac : Bytes) : Option Nat :=
  (s.stn.st.entries.find? fun e => e.2.state != .unused && enMac e.2.entry == mac).map (·.1)

/-- A violation of a station (R474). -/
def wspViolation (s : State) (p n : Nat) (mac : Bytes) (ver : Nat) : State := stnEvent s evWspViolation p n mac ver 0

/-- A discarded frame of a station (R474). -/
def rxDrop (s : State) (p n : Nat) (mac : Bytes) (ver cnt : Nat) (violation : Bool) : State :=
  let s := dropBump (bump s cnt) n
  if violation then wspViolation s p n mac ver else s

/-- A WSP frame's header is not as R459 has it: LENGTH beyond the frame, or a reserved field not 0. -/
def wspMalformed (f : Bytes) : Bool :=
  decide (f.length < 8 + le f 4 2) || le f 6 2 != 0 || (le f 2 2 != 0xFFFF && decide (0xFFF < le f 2 2))

/-- Common checks of a WSP frame (R474): the station it is from, or what became of it. -/
def wspFrom (s : State) (p : Nat) (mac f : Bytes) (min' : Nat) (reserved : Bool) : State × Option Nat :=
  let n := stationByMac s mac
  if wspMalformed f ∨ le f 4 2 < min' ∨ reserved then
    match n with
    | some n => (rxDrop s p n mac (le f 0 1) cStnRxMalformed true, none)
    | none => (wspViolation (bump s cStnRxMalformed) p (le f 2 2) mac (le f 0 1), none)
  else match n with
    | none => (bump s cStnRxUnknown, none)
    | some n =>
      if le f 2 2 ≠ n ∧ !(le f 1 1 = 2 ∧ le f 2 2 = 0xFFFF) then (dropBump (bump s cStnRxUnknown) n, none)
      else (s, some n)

/-- A HELLO is listed (R463): once per address, a new one replacing the oldest of 64. -/
def discList (s : State) (p : Nat) (mac f : Bytes) : State :=
  let d : Disc := ⟨mac, p, le f 8 1, le f 9 1, le f 32 4, le f 36 4⟩
  if s.stn.disc.any (·.mac == mac) then
    { s with stn := { s.stn with disc := s.stn.disc.map fun x => if x.mac = mac then d else x } }
  else
    let l := if 64 ≤ s.stn.disc.length then s.stn.disc.drop 1 else s.stn.disc
    stnEvent { s with stn := { s.stn with disc := l ++ [d] } } evStationDiscovered p 0xFFFF mac d.verMax 0

/-- A HELLO of a station of the table (R462, R465, R470, R472, R474). -/
def stnHello (s : State) (p n : Nat) (mac f : Bytes) : State :=
  let ss := le f 10 1
  let fl := le f 11 1
  let el := le f 20 4
  let ep := le f 24 4
  let s := stUpd s n fun x => { x with
    hello := some (le f 8 1, le f 9 1)
    sstate := ss
    timedOut := bit fl 0
    tokenConflict := bit fl 1
    holdElapsed := if el = 0xFFFFFFFF then none else some el
    helloAt := s.tmb.now
    token := ep
    held := ss == 2 && !bit fl 0 }
  let s := { s with stn := { s.stn with
    helloMax := max s.stn.helloMax ep
    raise := s.stn.raise || (s.stn.tokenSet && decide (s.mram.token ≤ ep)) } }
  let s := if bit fl 1 then stnEvent (bump s cStnTokenConflicts) evTokenConflict p n mac 0 0 else s
  let s := if ss = 3 ∧ bit fl 0 then stnEvent s evStationSafe p n mac 0 0 else s
  let x := stOf s n
  match x.state with
  | .unused | .configuring => s
  | .waitHello => stnNegotiate s n
  | .lost => stnNegotiate (stUpd s n fun x => { x with wasLost := true }) n
  | .failed => if s.tmb.now < x.retryAt then s else stnNegotiate s n
  | .run => stnNegotiate (stnEvent (bump s cStnStationRestart) evStationRestarted p n mac x.ver 0) n

/-- WSP_HELLO_RX (R463, R465): `f`: the bytes after the EtherType. -/
def execWspHelloRx (p : Nat) (mac f : Bytes) (t : Nat) (s : State) : Res :=
  let s := advance s t
  if !portUp s p then ok s
  else
    let s := rxCount s p
    let (s, n) := wspFrom s p mac f 40 (le f 18 2 != 0 || !allZero (slice f 29 3) || decide (7 < le f 11 1) || decide (3 < le f 10 1))
    match n with
    | some n => if le f 0 1 ≠ 1 then ok (rxDrop s p n mac (le f 0 1) cStnRxVersion true) else ok (stnHello s p n mac f)
    | none =>
      if wspMalformed f ∨ le f 4 2 < 40 ∨ le f 0 1 ≠ 1 then ok s else ok (discList s p mac f)

/-- The station is FAILED (R465, R474). -/
def configFail (s : State) (n : Nat) : State :=
  let x := stOf s n
  stnEvent (stUpd (bump s cStnConfigTimeout) n fun x => { x with state := .failed }) evStationConfigFail (enPort x.entry) n (enMac x.entry) x.ver 0

/-- WSP_CONFIG_ACK_RX (R465). -/
def execWspConfigAckRx (p : Nat) (mac f : Bytes) (t : Nat) (s : State) : Res :=
  let s := advance s t
  if !portUp s p then ok s
  else
    let (s, n) := wspFrom (rxCount s p) p mac f 4 false
    match n with
    | none => ok s
    | some n =>
      let x := stOf s n
      if x.state ≠ .configuring then ok s
      else if le f 0 1 ≠ x.ver then ok (rxDrop s p n mac (le f 0 1) cStnRxVersion true)
      else if le f 10 1 ≠ 0 then ok (configFail s n)
      else if le f 8 2 ≠ layoutId x then ok (configSend (rxDrop s p n mac x.ver cStnRxLayout true) n)
      else
        let s := stUpd s n fun x => { x with
          state := .run
          lastCommit := s.tmb.now
          lastSeq := none
          reasm := none
          recent := []
          wasLost := false }
        ok (stnEvent s (if x.wasLost then evStationReturned else evStationConfigured) p n mac x.ver 0)

/-- CONFIG_RETRY_TIMEOUT (R465): CONFIG again, at most three times. -/
def execConfigRetryTimeout (n : Nat) (s : State) : Res :=
  let x := stOf s n
  if x.state ≠ .configuring then ok s
  else
    let s := advance s x.due
    if x.retries < 3 then ok (configSend (stUpd s n fun x => { x with retries := x.retries + 1 }) n) else ok (configFail s n)

/-! ### Inputs (R466, R467, R473) -/

/-- The QUAL bits of an input status byte (R467). -/
def inQual (b : Nat) : BitVec 16 :=
  (if bit b 0 then qVALID else 0) ||| (if bit b 1 then qBAD else 0) ||| (if bit b 2 then qOVER else 0) |||
  (if bit b 3 then qUNDER else 0) ||| (if bit b 4 then qSUBST else 0) ||| (if bit b 5 then qHELD else 0)

/-- An incomplete image is discarded (R467). -/
def imageDrop (s : State) (n : Nat) : State :=
  let x := stOf s n
  let s := dropBump (bump (stUpd s n fun x => { x with reasm := none, dropNoted := true }) cStnImageIncomplete) n
  if x.dropNoted then s else stnEvent s evImageDropped (enPort x.entry) n (enMac x.entry) x.ver 0

/-- The writes of a complete image: for each channel its point, type, status byte and value bytes. -/
def inChannels (x : Station) (b : Bytes) : List (Nat × PType × Nat × Bytes) :=
  let k := x.ins.length
  ((x.ins.zip (b.take k)).foldl (fun (a : List (Nat × PType × Nat × Bytes) × Nat) c =>
    (a.1 ++ [(c.1.1, c.1.2, c.2.toNat, slice b a.2 (chanBytes c.1.2))], a.2 + chanBytes c.1.2)) ([], k)).1

/-- A channel's status byte or BOOL value is not one the protocol has (R474). -/
def chanBad (c : Nat × PType × Nat × Bytes) : Bool :=
  (bit c.2.2.1 0 && bit c.2.2.1 1) || decide (63 < c.2.2.1) || (c.2.1 == .bool && decide (1 < leNat c.2.2.2))

/-- A complete image commits as one group (R467, R474); on the standby of a pair its points carry MIRROR. -/
def imageCommit (s : State) (p n : Nat) (mac : Bytes) (r : Reasm) (b : Bytes) : State :=
  let x := stOf s n
  let recent := x.recent.filter fun t => decide (s.tmb.now < t + enPeriod x.entry)
  let s := stUpd s n fun x => { x with reasm := none }
  if 2 ≤ recent.length then rxDrop s p n mac x.ver cStnRxRate true
  else if s.tmb.now < r.stamp then rxDrop s p n mac x.ver cStnRxFuture true
  else
    let cs := inChannels x b
    let here (c : Nat × PType × Nat × Bytes) : Bool := match mapFind s.pst.map c.1 with | some e => e.type == c.2.1 | none => false
    let bad := cs.filter fun c => chanBad c
    let s := bumpN s cStnRxChannelBad (bad.length + (cs.filter fun c => !here c).length)
    let s := if bad.isEmpty then s else wspViolation s p n mac x.ver
    let ws : List PWrite := (cs.filter here).map fun c =>
      ⟨c.1, normVal c.2.1 (BitVec.ofNat 64 (leNat c.2.2.2)), none, some r.stamp, if chanBad c then qBAD else inQual c.2.2.1, wSTN, n, false⟩
    let s := inputGroup s 0x0E n r.seq [((crc32c b).toNat : Int)] ws
    let s := if r.unsync then bump s cStnUnsyncInputs else s
    stUpd (bump s cStnImagesIn) n fun x => { x with
      lastSeq := some r.seq
      inSeq := r.seq
      lastIn := r.sample
      unsync := r.unsync
      lastCommit := s.tmb.now
      recent := s.tmb.now :: recent
      dropNoted := false }

/-- A fragment joins its image (R467); a complete image commits. -/
def fragTake (s : State) (p n : Nat) (mac f : Bytes) (raw : Int) : State :=
  let x := stOf s n
  let seq := le f 8 4
  let idx := le f 12 1 % 16
  let size := imageBytes (x.ins.map (·.2))
  let count := fragCount 1476 size
  let part := slice f 24 (le f 4 2 - 16)
  let unsync := bit (le f 13 1) 0
  let stamp := if unsync then (ingress s p raw / 4).toNat else le f 16 8
  let newer (a b : Nat) : Bool := let k := (a + 2 ^ 32 - b) % 2 ^ 32
    decide (0 < k ∧ k < 2 ^ 31)
  let old : Bool := match x.lastSeq with | some q => !newer seq q | none => false
  if old then dropBump (bump s cStnRxOld) n
  else
    let late : Bool := match x.reasm with | some r => decide (r.first + enReasm x.entry < s.tmb.now) | none => false
    let s := if late then imageDrop s n else s
    let x := stOf s n
    let fresh : Reasm := ⟨seq, s.tmb.now, stamp, le f 16 8, unsync, SMap.empty⟩
    let go (s : State) (r : Reasm) : State :=
      let r := { r with frags := r.frags.set idx (some part) }
      if r.frags.entries.length = count then
        imageCommit s p n mac r ((List.range count).flatMap fun i => (r.frags.get i).getD [])
      else stUpd s n fun x => { x with reasm := some r }
    match x.reasm with
    | none => go s fresh
    | some r =>
      if r.seq = seq then (if (r.frags.get idx).isSome then bump s cStnRxDuplicate else go s r)
      else if newer seq r.seq then go (imageDrop s n) fresh
      else dropBump (bump s cStnRxOld) n

/-- WSP_INPUT_RX (R466, R467, R474): `raw`: the MAC's ingress stamp in quarter ns; it reaches the controller at `t`. -/
def execWspInputRx (p : Nat) (mac f : Bytes) (raw : Int) (t : Nat) (s : State) : Res :=
  let s := advance s t
  if !portUp s p then ok s
  else
    let cnt := le f 12 1 / 16 + 1
    let idx := le f 12 1 % 16
    let sized : Bool := match stationByMac s mac with
      | some n =>
        let size := imageBytes ((stOf s n).ins.map (·.2))
        let want := fragCount 1476 size
        le f 2 2 != n || (stOf s n).state != .run || le f 14 2 != layoutId (stOf s n) ||
          (cnt == want && le f 4 2 == 16 + (if idx + 1 = want then size - 1476 * idx else 1476))
      | none => true
    let (s, n) := wspFrom (rxCount s p) p mac f 16 (decide (1 < le f 13 1) || decide (cnt ≤ idx) || decide (8 < cnt) || !sized)
    match n with
    | none => ok s
    | some n =>
      let x := stOf s n
      if x.state ≠ .run then ok (rxDrop s p n mac x.ver cStnRxNotRun false)
      else if le f 0 1 ≠ x.ver then ok (rxDrop s p n mac (le f 0 1) cStnRxVersion true)
      else if le f 14 2 ≠ layoutId x then
        ok (configSend (stUpd (rxDrop s p n mac x.ver cStnRxLayout true) n fun x => { x with retries := 0 }) n)
      else ok (fragTake s p n mac f raw)

/-- REASSEMBLY_TIMEOUT (R467). -/
def execReassemblyTimeout (n : Nat) (s : State) : Res :=
  let x := stOf s n
  match x.reasm with
  | none => ok s
  | some r => ok (imageDrop (advance s (r.first + enReasm x.entry)) n)

/-- STATION_TIMEOUT (R473): the station becomes LOST. -/
def execStationTimeout (n : Nat) (s : State) : Res :=
  let x := stOf s n
  if x.state ≠ .run then ok s
  else
    let s := advance s (x.lastCommit + enTimeout x.entry)
    let s := stUpd (bump s cStnStationTimeout) n fun x => { x with state := .lost, reasm := none }
    ok (stnEvent s evStationLost (enPort x.entry) n (enMac x.entry) x.ver 0)

/-- ETH_FRAME_DISCARD (R450, R474): `kind` 0 a frame the port does not accept, 1 a bad FCS or a runt, else a WSP frame of a TYPE that the
controller does not receive. -/
def execEthFrameDiscard (p kind : Nat) (mac f : Bytes) (t : Nat) (s : State) : Res :=
  let s := advance s t
  if !portUp s p then ok s
  else
    let s := rxCount s p
    match kind with
    | 0 => ok (bump s cStnRxOther)
    | 1 => ok (bump s cStnRxFcs)
    | _ => ok (wspFrom s p mac f 0 true).1

/-- The checks of a STN commit (R476). -/
def stnCommitCheck (s : State) : Status :=
  if sfld s fStnCtrlDiscoverMs < 10 ∨ 60000 < sfld s fStnCtrlDiscoverMs then .range else .ok

end Sys2Proof.Machine
end

