-- ==== Sys2Proof/Machine/Numeric.lean ====
section
/-! DEFINITION. The arithmetic of built-in blocks (04_cycle_engine R609): exact integers with saturation, FIX24 in units of 2^-23, and
IEEE 754 with one rounding a step. -/
namespace Sys2Proof.Machine
open Sys2Proof

/-- An IEEE 754 datum. -/
inductive Fp where
  | nan
  | inf (neg : Bool)
  | fin (neg : Bool) (mag : Rat)
  deriving DecidableEq, Repr

/-- The datum of a code with `m` fraction and `x` exponent bits. -/
def fpOf (m x v : Nat) : Fp :=
  match ieeeVal m x v with
  | some q => .fin (v.testBit (m + x)) (absQ q)
  | none => if v % 2 ^ m = 0 then .inf (v.testBit (m + x)) else .nan

/-- The code of a datum; the payload of a NaN is left open (R609). -/
def fpCode (m x nan : Nat) : Fp → Nat
  | .nan => (2 ^ x - 1) * 2 ^ m + 2 ^ (m - 1) + nan % 2 ^ (m - 1)
  | .inf n => (if n then 2 ^ (m + x) else 0) + (2 ^ x - 1) * 2 ^ m
  | .fin n q => (if n then 2 ^ (m + x) else 0) + ieeeCode m x q

/-- Rounded to the format. -/
def fpRound (m x : Nat) (f : Fp) : Fp :=
  match f with
  | .fin _ _ => fpOf m x (fpCode m x 0 f)
  | _ => f

/-- A signed exact value as a datum; a zero takes the sign given. -/
def fpSigned (z : Bool) (q : Rat) : Fp := if q = 0 then .fin z 0 else .fin (decide (q < 0)) (absQ q)

/-- The exact value of a finite datum. -/
def fpRat : Fp → Option Rat
  | .fin n q => some (if n then -q else q)
  | _ => none

/-- Negated. -/
def fpNeg : Fp → Fp
  | .nan => .nan
  | .inf n => .inf (!n)
  | .fin n q => .fin (!n) q

/-- Sum before rounding. -/
def fpAdd : Fp → Fp → Fp
  | .nan, _ => .nan
  | _, .nan => .nan
  | .inf a, .inf b => if a = b then .inf a else .nan
  | .inf a, _ => .inf a
  | _, .inf b => .inf b
  | .fin a p, .fin b q => fpSigned (a && b) ((if a then -p else p) + (if b then -q else q))

/-- Product before rounding. -/
def fpMul : Fp → Fp → Fp
  | .nan, _ => .nan
  | _, .nan => .nan
  | .inf a, .inf b => .inf (a != b)
  | .inf a, .fin b q => if q = 0 then .nan else .inf (a != b)
  | .fin a p, .inf b => if p = 0 then .nan else .inf (a != b)
  | .fin a p, .fin b q => .fin (a != b) (p * q)

/-- Quotient before rounding. -/
def fpDiv : Fp → Fp → Fp
  | .nan, _ => .nan
  | _, .nan => .nan
  | .inf _, .inf _ => .nan
  | .inf a, .fin b _ => .inf (a != b)
  | .fin a _, .inf b => .fin (a != b) 0
  | .fin a p, .fin b q => if q = 0 then (if p = 0 then .nan else .inf (a != b)) else .fin (a != b) (p / q)

/-- Less than, false where either is a NaN. -/
def fpLt : Fp → Fp → Bool
  | .nan, _ => false
  | _, .nan => false
  | .inf a, .inf b => a && !b
  | .inf a, _ => a
  | _, .inf b => !b
  | .fin a p, .fin b q => decide ((if a then -p else p) < (if b then -q else q))

/-- Equal, false where either is a NaN; zeros are equal. -/
def fpEq : Fp → Fp → Bool
  | .nan, _ => false
  | _, .nan => false
  | a, b => !fpLt a b && !fpLt b a

/-- Fraction and exponent bits of a REAL type. -/
def realFmt : PType → Option (Nat × Nat)
  | .real32 => some (23, 8)
  | .real64 => some (52, 11)
  | _ => none

/-- A result: its VALUE, beyond the type's limits above or below, a NaN (R609). -/
structure OutV where
  val : Val
  ovr : Bool
  under : Bool
  nan : Bool
  deriving DecidableEq, Repr, Inhabited

/-- A result without flags. -/
def plainV (v : Val) : OutV := ⟨v, false, false, false⟩

/-- A BOOL result. -/
def boolV (b : Bool) : OutV := plainV (BitVec.ofNat 64 (b2n b))

/-- Whole numbers behind an integer, FIX24 or TIME value. -/
def rawInt (t : PType) (v : Val) : Int :=
  match t with
  | .int32 => signed 32 v.toNat
  | .int64 => v.toInt
  | .fix24 => signed 24 v.toNat
  | .uint32 => (v.toNat % 2 ^ 32 : Nat)
  | .enum16 => (v.toNat % 2 ^ 16 : Nat)
  | .bool => (v.toNat % 2 : Nat)
  | _ => (v.toNat : Nat)

/-- Limits of the raw whole numbers of a type. -/
def rawLimits : PType → Int × Int
  | .int32 => (-(2 ^ 31), 2 ^ 31 - 1)
  | .int64 => (-(2 ^ 63), 2 ^ 63 - 1)
  | .fix24 => (-(2 ^ 23), 2 ^ 23 - 1)
  | .uint32 => (0, 2 ^ 32 - 1)
  | .enum16 => (0, 2 ^ 16 - 1)
  | .bool => (0, 1)
  | _ => (0, 2 ^ 64 - 1)

/-- A whole number saturated into a type (R609). -/
def satV (t : PType) (v : Int) : OutV :=
  let (lo, hi) := rawLimits t
  ⟨BitVec.ofInt 64 (clampI lo hi v), decide (hi < v), decide (v < lo), false⟩

/-- Truncated toward zero. -/
def truncQ (q : Rat) : Int := if q < 0 then -(floorQ (-q)) else floorQ q

/-- A datum as a result, `ov` telling that it overflowed. -/
def fpV (m x nan : Nat) (ov : Bool) (f : Fp) : OutV :=
  let c := BitVec.ofNat 64 (fpCode m x nan f)
  match f with
  | .nan => ⟨c, false, false, true⟩
  | .inf n => ⟨c, ov && !n, ov && n, false⟩
  | .fin _ _ => ⟨c, false, false, false⟩

/-- A chain of REAL operations, rounded after each: the datum, and whether an operation on finite data overflowed. -/
structure FpAcc where
  f : Fp
  ov : Bool
  deriving DecidableEq, Repr

/-- One operation of a chain. -/
def fpStep (m x : Nat) (op : Fp → Fp → Fp) (a b : FpAcc) : FpAcc :=
  let r := fpRound m x (op a.f b.f)
  let fin := match a.f, b.f with | .fin _ _, .fin _ _ => true | _, _ => false
  let isInf := match r with | .inf _ => true | _ => false
  ⟨r, (fin && isInf) || a.ov || b.ov⟩

/-- The kinds of n-ary arithmetic. -/
inductive Arith where
  | add | sub | mul | div
  deriving DecidableEq, Repr

/-- One datum operation. -/
def Arith.fp : Arith → Fp → Fp → Fp
  | .add => fpAdd
  | .sub => fun a b => fpAdd a (fpNeg b)
  | .mul => fpMul
  | .div => fpDiv

/-- One whole-number operation; FIX24 products and quotients are truncated (R609). -/
def Arith.int (t : PType) : Arith → Int → Int → Int
  | .add, a, b => a + b
  | .sub, a, b => a - b
  | .mul, a, b => if t = .fix24 then (a * b).tdiv 8388608 else a * b
  | .div, a, b => if t = .fix24 then (a * 8388608).tdiv b else a.tdiv b

/-- An operation over inputs in order, left to right (R609). -/
def arith (t : PType) (op : Arith) (nan : Nat) : List Val → OutV
  | [] => plainV 0
  | v :: l =>
    match realFmt t with
    | some (m, x) =>
      let r := l.foldl (fun a b => fpStep m x op.fp a ⟨fpOf m x b.toNat, false⟩) ⟨fpOf m x v.toNat, false⟩
      fpV m x nan r.ov r.f
    | none => satV t (l.foldl (fun a b => op.int t a (rawInt t b)) (rawInt t v))

/-- A value below another of one type. -/
def ltV (t : PType) (a b : Val) : Bool :=
  match realFmt t with
  | some (m, x) => fpLt (fpOf m x a.toNat) (fpOf m x b.toNat)
  | none => decide (rawInt t a < rawInt t b)

/-- Two values of one type equal. -/
def eqV (t : PType) (a b : Val) : Bool :=
  match realFmt t with
  | some (m, x) => fpEq (fpOf m x a.toNat) (fpOf m x b.toNat)
  | none => decide (rawInt t a = rawInt t b)

/-- A NaN of a REAL type. -/
def isNanV (t : PType) (v : Val) : Bool :=
  match realFmt t with
  | some (m, x) => (match fpOf m x v.toNat with | .nan => true | _ => false)
  | none => false

/-- A selected value as a result: a NaN stays one (R609). -/
def selV (t : PType) (v : Val) : OutV := ⟨v, false, false, isNanV t v⟩

/-- Y0 + (V - X0) × (Y1 - Y0) / (X1 - X0) in that order of operations (R609 SCALE_LIN). -/
def lerpV (t : PType) (nan : Nat) (v x0 x1 y0 y1 : Val) : OutV :=
  match realFmt t with
  | some (m, x) =>
    let g (w : Val) : FpAcc := ⟨fpOf m x w.toNat, false⟩
    let sub := fpStep m x Arith.sub.fp
    let r := fpStep m x fpAdd (g y0)
      (fpStep m x fpDiv (fpStep m x fpMul (sub (g v) (g x0)) (sub (g y1) (g y0))) (sub (g x1) (g x0)))
    fpV m x nan r.ov r.f
  | none =>
    let i := rawInt t
    satV t (truncQ ((i y0 : Rat) + ((i v - i x0 : Int) : Rat) * ((i y1 - i y0 : Int) : Rat) / ((i x1 - i x0 : Int) : Rat)))

/-- An exact value in the layout of a numeric type: truncated toward zero, saturated; REAL rounded to nearest even. -/
def numTo (t : PType) (q : Rat) : OutV :=
  match realFmt t with
  | some (m, x) => fpV m x 0 true (fpRound m x (fpSigned false q))
  | none => if t = .fix24 then satV t (truncQ (q * 8388608)) else satV t (truncQ q)

end Sys2Proof.Machine
end

