-- ==== Sys2Proof/Machine/Blocks.lean ====
section
/-! DEFINITION. The built-in block types (04_cycle_engine R163 to R169, R609, R610): signatures, instance layout, parameter rules, costs and
the results of one scan. -/
namespace Sys2Proof.Machine
open Sys2Proof

/-- What an input or output of a block must be: BOOL, the block's numeric type, UINT32, elapsed time, an index, the counter's type, any
type shared with the input of the same place, any numeric type. -/
inductive SigK where
  | b | n | u | t | i | c | m | l
  deriving DecidableEq, Repr

/-- The inputs of a built-in type for `k` inputs; none when it takes no such number (R164). -/
def sigIn (code k : Nat) : Option (List SigK) :=
  let many (lo hi : Nat) (x : SigK) : Option (List SigK) := if lo ≤ k ∧ k ≤ hi then some (List.replicate k x) else none
  let fixed (l : List SigK) : Option (List SigK) := if l.length = k then some l else none
  match code with
  | 0x01 | 0x02 | 0x03 => many 2 16 .b
  | 0x04 | 0x10 | 0x11 | 0x12 | 0x18 | 0x19 | 0x48 => fixed [.b]
  | 0x05 | 0x06 | 0x14 | 0x15 => fixed [.b, .b]
  | 0x16 => fixed [.b, .b, .b, .b]
  | 0x20 => many 1 16 .m
  | 0x21 | 0x23 => many 2 8 .n
  | 0x22 | 0x24 | 0x25 => fixed [.n, .n]
  | 0x28 | 0x29 | 0x2A | 0x2B | 0x38 => fixed [.n]
  | 0x30 => fixed [.b, .n, .n]
  | 0x31 => if 3 ≤ k ∧ k ≤ 17 then some (.u :: List.replicate (k - 1) .n) else none
  | 0x32 | 0x33 => many 2 16 .n
  | 0x34 => fixed [.n, .n, .n]
  | 0x35 => many 2 4 .n
  | 0x40 => fixed [.l]
  | 0x41 => fixed [.b, .l]
  | 0x42 | 0x49 => fixed []
  | _ => none

/-- The outputs of a built-in type with `k` inputs (R164). -/
def sigOut (code k : Nat) : List SigK :=
  match code with
  | 0x10 | 0x11 | 0x12 => [.b, .t]
  | 0x14 | 0x15 => [.b, .c]
  | 0x16 => [.b, .b, .c]
  | 0x20 => List.replicate k .m
  | 0x25 | 0x48 => [.b, .b, .b]
  | 0x21 | 0x22 | 0x23 | 0x24 | 0x28 | 0x29 | 0x2A | 0x2B | 0x30 | 0x31 | 0x32 | 0x33 | 0x34 => [.n]
  | 0x35 => [.n, .i]
  | 0x38 => [.b, .b, .b, .b]
  | 0x40 | 0x41 => []
  | 0x42 | 0x49 => [.l, .l, .b, .b]
  | _ => [.b]

/-- A built-in type exists (R164). -/
def builtinCode (code : Nat) : Bool := (List.range 18).any fun k => (sigIn code k).isSome

/-- A point type fits a place. -/
def SigK.fits (k : SigK) (t : PType) : Bool :=
  match k with
  | .b => t == .bool
  | .n | .l => t.numeric
  | .u => t == .uint32
  | .t => t == .time || t == .int64 || t == .uint64
  | .i => t == .int32 || t == .uint32 || t == .int64 || t == .uint64
  | .c => t == .int32 || t == .uint32 || t == .int64 || t == .uint64
  | .m => true

/-- What a parameter or state word holds: a value of the block's type, unsigned µs or ns, a BOOL, two BOOLs, a slot, an axis, a severity,
a phase. -/
inductive WordK where
  | v | us | ns | b | bb | slot | axis | sev | phase | count
  deriving DecidableEq, Repr

/-- The parameter words of a type; SCALE_TABLE takes 1 + 2N with the N given (R164). -/
def paramWords (code n : Nat) : List WordK :=
  match code with
  | 0x10 | 0x11 | 0x12 => [.us]
  | 0x14 | 0x15 | 0x16 => [.v]
  | 0x28 => [.v, .v, .v, .v]
  | 0x29 => .count :: List.replicate (2 * n) .v
  | 0x2A => [.v, .v]
  | 0x2B => [.v]
  | 0x38 => [.v, .v, .v, .v, .v, .us, .sev]
  | 0x40 | 0x41 | 0x42 => [.slot]
  | 0x48 | 0x49 => [.axis]
  | _ => []

/-- The state words of a type (R164). -/
def stateWords (code : Nat) : List WordK :=
  match code with
  | 0x05 | 0x06 => [.b]
  | 0x10 | 0x11 => [.ns, .b]
  | 0x12 => [.ns, .b, .b]
  | 0x14 | 0x15 => [.b, .v]
  | 0x16 => [.bb, .v]
  | 0x18 | 0x19 | 0x41 => [.b]
  | 0x2B => [.v]
  | 0x38 => [.ns, .b, .ns, .b, .ns, .b, .ns, .b]
  | 0x48 => [.b, .phase]
  | _ => []

/-- A word is a value in the layout its kind asks for, `t` being the block's type (R161). -/
def WordK.fits (k : WordK) (t : PType) (w : Nat) : Bool :=
  match k with
  | .v => normVal t (BitVec.ofNat 64 w) == BitVec.ofNat 64 w
  | .us | .ns => true
  | .b => decide (w < 2)
  | .bb | .phase => decide (w < 4)
  | .slot => decide (w < 1024)
  | .axis => decide (w < 64)
  | .sev => decide (w < 8)
  | .count => decide (2 ≤ w ∧ w ≤ 32)

/-- Cost in ns of an instance with `k` inputs and a table of `n` (R164). -/
def blockCost (code k n : Nat) : Nat :=
  match code with
  | 0x01 | 0x02 | 0x03 | 0x32 | 0x33 => 6 + k
  | 0x04 | 0x18 | 0x19 => 5
  | 0x05 | 0x06 | 0x30 => 6
  | 0x10 | 0x11 | 0x24 => if code = 0x24 then 24 else 10
  | 0x12 => 11
  | 0x14 | 0x15 | 0x34 => 9
  | 0x16 | 0x28 | 0x40 | 0x49 => 12
  | 0x20 => 4 + 2 * k
  | 0x21 => 8 + 2 * k
  | 0x23 => 10 + 3 * k
  | 0x22 | 0x25 | 0x2A | 0x2B => 8
  | 0x29 => 10 + 2 * n
  | 0x31 => 7
  | 0x35 => 10
  | 0x38 => 20
  | 0x41 | 0x42 => 14
  | 0x48 => 16
  | _ => 0

/-- A built-in instance's data, laid out as R163 has it. -/
structure BlkData where
  type : Nat
  nin : Nat
  nout : Nat
  qpol : Nat
  subst : Val
  ins : List Nat
  outs : List Nat
  par : List Nat
  st : List Nat
  deriving DecidableEq, Repr, Inhabited

/-- Bytes up to the parameter words. -/
def blkParOff (nin nout : Nat) : Nat := 16 + (4 * (nin + nout) + 7) / 8 * 8

/-- The number of pairs of a SCALE_TABLE, 0 for other types. -/
def blkTableN (b : Bytes) : Nat := if le b 0 2 = 0x29 then le b (blkParOff (le b 2 1) (le b 3 1)) 8 else 0

/-- Parameter words of an instance. -/
def blkPars (b : Bytes) : List WordK := paramWords (le b 0 2) (min (blkTableN b) 32)

/-- Where the state words begin. -/
def blkStOff (b : Bytes) : Nat := blkParOff (le b 2 1) (le b 3 1) + 8 * (blkPars b).length

/-- Bytes of a built-in instance's data. -/
def blkSize (b : Bytes) : Nat := blkStOff b + 8 * (stateWords (le b 0 2)).length

/-- Read a built-in instance's data (R163). -/
def blkParse (b : Bytes) : BlkData :=
  let nin := le b 2 1
  let nout := le b 3 1
  { type := le b 0 2
    nin := nin
    nout := nout
    qpol := le b 4 1
    subst := BitVec.ofNat 64 (le b 8 8)
    ins := (List.range nin).map fun i => le b (16 + 4 * i) 4
    outs := (List.range nout).map fun i => le b (16 + 4 * (nin + i)) 4
    par := (List.range (blkPars b).length).map fun i => le b (blkParOff nin nout + 8 * i) 8
    st := (List.range (stateWords (le b 0 2)).length).map fun i => le b (blkStOff b + 8 * i) 8 }

/-- Write bytes into a byte string at an offset. -/
def bytesPut (b : Bytes) (o : Nat) (x : Bytes) : Bytes := b.take o ++ x ++ b.drop (o + x.length)

/-- A block's type: the type of its first numeric or counter place, BOOL for a type that has none (R164). -/
def blkType (code : Nat) (tin tout : List (Option PType)) : PType :=
  let ki := (sigIn code tin.length).getD []
  let pick (ks : List SigK) (ts : List (Option PType)) : Option PType :=
    (ks.zip ts).findSome? fun e => if e.1 = .n ∨ e.1 = .c ∨ e.1 = .l ∨ e.1 = .m then e.2 else none
  match pick ki tin <|> pick (sigOut code tin.length) tout with
  | some t => t
  | none => if (sigOut code tin.length).contains .c then .int64 else .bool

/-- Point types match a block's inputs and outputs (R161, R164); none is an output that goes nowhere. -/
def blkTypesOk (code : Nat) (tin tout : List (Option PType)) : Bool :=
  let t := blkType code tin tout
  let okPlace (e : SigK × Option PType) : Bool :=
    match e.2 with
    | none => true
    | some p => e.1.fits p && (if e.1 = .n ∨ e.1 = .c then p == t else true)
  ((sigIn code tin.length).getD []).zip tin |>.all okPlace |> (· &&
    ((sigOut code tin.length).zip tout).all okPlace &&
    (code != 0x20 || (tin.zip tout).all fun e => e.2.isNone || e.1 == e.2))

/-- Parameter rules of R610, each word already in its layout. -/
def blkParamsOk (code : Nat) (t : PType) (par : List Nat) : Bool :=
  let v (i : Nat) : Val := BitVec.ofNat 64 (par.getD i 0)
  match code with
  | 0x28 => !eqV t (v 0) (v 1)
  | 0x29 => (List.range (par.getD 0 0 - 1)).all fun i => ltV t (v (1 + 2 * i)) (v (3 + 2 * i))
  | 0x2A => !ltV t (v 1) (v 0)
  | 0x2B => !ltV t (v 0) 0
  | 0x38 => !ltV t (v 4) 0
  | _ => true

/-! ### One scan -/

/-- What a scan gives: the outputs (none: not written), the state words, the STATUS byte, and the limits of an ALARM_HL that changed. -/
structure Scan where
  outs : List (Option OutV)
  st : List Nat
  status : Status
  changes : List Nat
  deriving DecidableEq, Repr, Inhabited

/-- A scan that writes its outputs. -/
def scanOf (outs : List OutV) (st : List Nat) : Scan := ⟨outs.map some, st, .ok, []⟩

/-- A timer's outputs: Q, and ET limited to PT (R168). -/
def timerOut (q : Bool) (et pt : Nat) : List OutV := [boolV q, plainV (BitVec.ofNat 64 (min et pt))]

/-- TON, TOF and TP at cycle instant `tc`, `pt` in ns (R168). -/
def timerScan (code : Nat) (tc pt : Nat) (x : Bool) (st : List Nat) : Scan :=
  let start := st.getD 0 0
  let run := st.getD 1 0 == 1
  match code with
  | 0x10 =>
    if !x then scanOf (timerOut false 0 pt) [start, 0]
    else
      let s0 := if run then start else tc
      scanOf (timerOut (decide (pt ≤ tc - s0)) (tc - s0) pt) [s0, 1]
  | 0x11 =>
    if x then scanOf (timerOut true 0 pt) [0, 1]
    else if !run then scanOf (timerOut false (if start = 0 then 0 else pt) pt) [start, 0]
    else
      let s0 := if start = 0 then tc else start
      if pt ≤ tc - s0 then scanOf (timerOut false pt pt) [s0, 0] else scanOf (timerOut true (tc - s0) pt) [s0, 1]
  | _ =>
    let prev := st.getD 2 0 == 1
    let ended := run && decide (pt ≤ tc - start)
    let run := run && !ended
    let rise := x && !prev && !run
    let s0 := if rise then tc else start
    let run := run || rise
    if run ∧ tc - s0 < pt then scanOf (timerOut true (tc - s0) pt) [s0, 1, b2n x]
    else scanOf (timerOut false (if x then pt else if ended || run then pt else 0) pt) [s0, 0, b2n x]

/-- A counter's new CV within its type (R609). -/
def countTo (t : PType) (v : Int) : Val :=
  let (lo, hi) := rawLimits t
  BitVec.ofInt 64 (clampI lo hi v)

/-- CTU, CTD and CTUD (R169). -/
def counterScan (code : Nat) (t : PType) (pv : Val) (x : List Bool) (st : List Nat) : Scan :=
  let prev := st.getD 0 0
  let cv := rawInt t (BitVec.ofNat 64 (st.getD 1 0))
  let g (i : Nat) : Bool := x.getD i false
  match code with
  | 0x14 =>
    let c := if g 1 then 0 else countTo t (cv + b2n (g 0 && prev % 2 == 0))
    scanOf [boolV (!ltV t c pv), plainV c] [b2n (g 0), c.toNat]
  | 0x15 =>
    let c := if g 1 then pv else countTo t (cv - b2n (g 0 && prev % 2 == 0))
    scanOf [boolV (!ltV t 0 c), plainV c] [b2n (g 0), c.toNat]
  | _ =>
    let up := b2n (g 0 && prev % 2 == 0)
    let dn := b2n (g 1 && prev / 2 == 0)
    let c := if g 2 then 0 else if g 3 then pv else countTo t (cv + up - dn)
    scanOf [boolV (!ltV t c pv), boolV (!ltV t 0 c), plainV c] [b2n (g 0) + 2 * b2n (g 1), c.toNat]

/-- One limit of ALARM_HL (R165): START (0 while the input is not beyond) and STATE. -/
def alarmLimit (t : PType) (tc delay : Nat) (high : Bool) (lim db x : Val) (start state : Nat) : Nat × Nat :=
  let beyond := if high then ltV t lim x else ltV t x lim
  if beyond then
    let s0 := if start = 0 then tc else start
    (s0, if state = 1 ∨ delay * 1000 ≤ tc - s0 then 1 else 0)
  else
    let edge := arith t (if high then .sub else .add) 0 [lim, db]
    let back := if high then ltV t x edge.val else ltV t edge.val x
    (0, if state = 1 ∧ !back then 1 else 0)

/-- ALARM_HL: outputs HH, H, L, LL (R165). -/
def alarmScan (t : PType) (tc : Nat) (par : List Nat) (x : Val) (st : List Nat) : Scan :=
  let v (i : Nat) : Val := BitVec.ofNat 64 (par.getD i 0)
  let r := (List.range 4).map fun k => alarmLimit t tc (par.getD 5 0) (decide (k < 2)) (v k) (v 4) x (st.getD (2 * k) 0) (st.getD (2 * k + 1) 0)
  { outs := r.map fun e => some (boolV (e.2 == 1))
    st := r.flatMap fun e => [e.1, e.2]
    status := .ok
    changes := (List.range 4).filter fun k => (r.getD k (0, 0)).2 != st.getD (2 * k + 1) 0 }

/-- The segment of a SCALE_TABLE that holds a value, clamped at the ends. -/
def tableScan (t : PType) (nan : Nat) (par : List Nat) (x : Val) : OutV :=
  let v (i : Nat) : Val := BitVec.ofNat 64 (par.getD i 0)
  let n := par.getD 0 0
  let px (i : Nat) : Val := v (1 + 2 * i)
  let py (i : Nat) : Val := v (2 + 2 * i)
  if isNanV t x then selV t x
  else if !ltV t (px 0) x then selV t (py 0)
  else if !ltV t x (px (n - 1)) then selV t (py (n - 1))
  else match (List.range (n - 1)).find? (fun i => ltV t x (px (i + 1))) with
    | some i => lerpV t nan x (px i) (px (i + 1)) (py i) (py (i + 1))
    | none => selV t (py (n - 1))

/-- The larger (or smaller) of two values; the first of two equal ones. -/
def pickV (t : PType) (big : Bool) (a b : Val) : Val := if (if big then ltV t a b else ltV t b a) then b else a

/-- The median of three values. -/
def median (t : PType) (a b c : Val) : Val :=
  let lo := pickV t false a b
  let hi := pickV t true a b
  if ltV t c lo then lo else if ltV t hi c then hi else c

/-- One scan of a built-in block whose result does not touch a loop or an axis: type code, block type, cycle instant, input values,
parameter and state words (R164, R168, R169, R609). -/
def blockScan (code : Nat) (t : PType) (tc nan : Nat) (x : List Val) (par st : List Nat) : Scan :=
  let v (i : Nat) : Val := x.getD i 0
  let b (i : Nat) : Bool := (v i).getLsbD 0
  let p (i : Nat) : Val := BitVec.ofNat 64 (par.getD i 0)
  match code with
  | 0x01 => scanOf [boolV (x.all (·.getLsbD 0))] []
  | 0x02 => scanOf [boolV (x.any (·.getLsbD 0))] []
  | 0x03 => scanOf [boolV (x.foldl (fun a w => a != w.getLsbD 0) false)] []
  | 0x04 => scanOf [boolV (!b 0)] []
  | 0x05 => let q := b 0 || (!b 1 && st.getD 0 0 == 1); scanOf [boolV q] [b2n q]
  | 0x06 => let q := !b 1 && (b 0 || st.getD 0 0 == 1); scanOf [boolV q] [b2n q]
  | 0x10 | 0x11 | 0x12 => timerScan code tc (par.getD 0 0 * 1000) (b 0) st
  | 0x14 | 0x15 | 0x16 => counterScan code t (p 0) (x.map (·.getLsbD 0)) st
  | 0x18 => scanOf [boolV (b 0 && st.getD 0 0 == 0)] [b2n (b 0)]
  | 0x19 => scanOf [boolV (!b 0 && st.getD 0 0 == 1)] [b2n (b 0)]
  | 0x20 => scanOf (x.map (selV t)) []
  | 0x21 => scanOf [arith t .add nan x] []
  | 0x22 => scanOf [arith t .sub nan x] []
  | 0x23 => scanOf [arith t .mul nan x] []
  | 0x24 => if eqV t (v 1) 0 then ⟨[none], [], .range, []⟩ else scanOf [arith t .div nan x] []
  | 0x25 => scanOf [boolV (ltV t (v 0) (v 1)), boolV (eqV t (v 0) (v 1)), boolV (ltV t (v 1) (v 0))] []
  | 0x28 =>
    let lo := pickV t false (p 0) (p 1)
    let hi := pickV t true (p 0) (p 1)
    let r := lerpV t nan (v 0) (p 0) (p 1) (p 2) (p 3)
    scanOf [{ r with ovr := r.ovr || ltV t hi (v 0), under := r.under || ltV t (v 0) lo }] []
  | 0x29 => scanOf [tableScan t nan par (v 0)] []
  | 0x2A =>
    if ltV t (p 1) (v 0) then scanOf [{ plainV (p 1) with ovr := true }] []
    else if ltV t (v 0) (p 0) then scanOf [{ plainV (p 0) with under := true }] []
    else scanOf [selV t (v 0)] []
  | 0x2B =>
    let last : Val := BitVec.ofNat 64 (st.getD 0 0)
    let d := if ltV t (v 0) last then arith t .sub nan [last, v 0] else arith t .sub nan [v 0, last]
    let wide := match realFmt t with
      | some _ => ltV t (p 0) d.val
      | none => decide (rawInt t (p 0) < (rawInt t (v 0) - rawInt t last).natAbs)
    let o := if wide || isNanV t (v 0) then v 0 else last
    scanOf [selV t o] [o.toNat]
  | 0x30 => scanOf [selV t (if b 0 then v 2 else v 1)] []
  | 0x31 => if x.length - 1 ≤ (v 0).toNat then ⟨[none], [], .range, []⟩ else scanOf [selV t (v ((v 0).toNat + 1))] []
  | 0x32 => scanOf [selV t (x.tail.foldl (pickV t true) (v 0))] []
  | 0x33 => scanOf [selV t (x.tail.foldl (pickV t false) (v 0))] []
  | 0x34 => scanOf [selV t (median t (v 0) (v 1) (v 2))] []
  | 0x38 => alarmScan t tc par (v 0) st
  | _ => ⟨[], st, .ok, []⟩

/-- An input is unusable: STALE or BAD, or not VALID (R167). -/
def unusable (q : BitVec 16) : Bool := hasQ q (qSTALE ||| qBAD) || !hasQ q qVALID

end Sys2Proof.Machine
end

