-- ==== Sys2Proof/Machine/MapSwitch.lean ====
section
/-! DEFINITION. Putting a point map into force (02_point_store R83, R91; 05_online_change R193 to R195; 04_cycle_engine R611): every mapped
point starts when no map was in force, and points and forces pass from the old map to the new one when there was. -/
namespace Sys2Proof.Machine
open Sys2Proof

/-- Reapply one journalled force against the map that takes effect (R91); the count of those reapplied. -/
def forceRestore (s : State) (n : Nat) (j : ForceJournal) : State × Nat :=
  match mapFind s.pst.map j.id with
  | some e =>
    if e.type = j.type ∧ e.forceable then
      let r := s.pst.points.get j.id
      ({ s with pst := { s.pst with
          forces := s.pst.forces ++ [⟨j.id, j.type, j.value, s.tmb.now, r.value, r.stamp, r.qual, r.seq⟩]
          points := s.pst.points.set j.id { r with
            value := j.value
            stamp := s.tmb.now
            seq := r.seq + 1
            qual := qVALID ||| qFORCED
            epochLo := curEpoch s % 256
            writer := writerOf wPST 2 } } }, n + 1)
    else (event (journalForce s j.id none) evForceDropped [(4, j.id)], n)
  | none => (event (journalForce s j.id none) evForceDropped [(4, j.id)], n)

/-- The journalled forces are decided against the first map that takes effect after a restart (R91). -/
def forcesRestore (s : State) : State :=
  if !s.pst.forcesWait then s
  else
    let s := { s with pst := { s.pst with forcesWait := false } }
    if flag s fPstCtrlForceRestore then
      let (s, n) := s.mram.forces.foldl (fun a j => forceRestore a.1 a.2 j) (s, 0)
      event s evForceRestored [(4, n)]
    else event { s with mram := { s.mram with forces := [] } } evForceRestored [(4, 0)]

/-- Put the first map into force: every mapped point starts (R83). -/
def mapStart (s : State) (m : PointMap) : State :=
  let pts := m.entries.foldl (fun p e => p.set e.id (startRec s e)) s.pst.points
  forcesRestore (repAnew { s with pst := { s.pst with map := some m, points := pts } } (m.entries.map (·.id)) fun _ _ => true)

/-- A force goes with its shadow (R193): out of the table and the journal, FORCE_REMOVED recorded; a kept record loses FORCED. -/
def forceRemove (s : State) (id : Nat) : State :=
  match forceFind s id with
  | none => s
  | some _ =>
    let s := { s with pst := { s.pst with
      forces := s.pst.forces.filter (fun f => f.id != id)
      points := s.pst.points.upd id (fun r => { r with qual := r.qual &&& ~~~(qFORCED ||| qORPHAN) }) } }
    event (journalForce s id none) evForceRemoved [(2, s.cyc.slot), (8, s.cyc.weld.at'), (4, id)]

/-- Every open view that subscribes a point gets one CHANGE record for it, without GAP (R195). -/
def markFresh (m : SMap View) (id : Nat) : SMap View :=
  m.mapV fun _ v =>
    if v.state = .open ∧ v.ids.contains id then
      { v with subs := v.subs.upd id (fun u => { u with change := true, staleDone := false, lastSeq := 0xFFFFFFFF }) }
    else v

/-- The program writes the point: its WRITERS include class CYC (R193). -/
def byProgram (e : MapEntry) : Bool := e.writers.getLsbD wCYC

/-- A point that is in both maps (R193, R194). -/
def switchKept (s : State) (o n : MapEntry) : State :=
  if o.type ≠ n.type then
    let s := forceRemove s n.id
    { s with pst := { s.pst with points := s.pst.points.set n.id (initRec s n), views := markFresh s.pst.views n.id } }
  else
    let s := { s with pst := { s.pst with
      points := s.pst.points.upd n.id (fun r => { r with maxAge := n.maxAge, hclass := n.hclass }) } }
    if (forceFind s n.id).isNone then s
    else if !n.forceable then forceRemove s n.id
    else if byProgram n then
      { s with pst := { s.pst with points := s.pst.points.upd n.id (fun r => { r with qual := r.qual &&& ~~~qORPHAN }) } }
    else if byProgram o then
      event { s with pst := { s.pst with points := s.pst.points.upd n.id (fun r => { r with qual := r.qual ||| qORPHAN }) } }
        evForceOrphaned [(2, s.cyc.slot), (8, s.cyc.weld.at'), (4, n.id)]
    else s

/-- A point only the old map has becomes unmapped (R193, R195). -/
def switchGone (s : State) (o : MapEntry) : State :=
  let s := forceRemove s o.id
  { s with pst := { s.pst with points := s.pst.points.set o.id default, views := markFresh s.pst.views o.id } }

/-- The Point Store passes from map `o` to map `n` (R193); `back` holds records that points new to the map return with (R198). -/
def mapSwitch (s : State) (o n : PointMap) (back : List (Nat × PointRec)) : State :=
  let s := o.entries.foldl (fun t e => if n.entries.any (·.id == e.id) then t else switchGone t e) s
  let s := n.entries.foldl (fun t e => match mapFind (some o) e.id with
    | some f => switchKept t f e
    | none =>
      let r := match back.find? (fun b => b.1 == e.id) with
        | some b => { goodRec b.2 with maxAge := e.maxAge, hclass := e.hclass }
        | none => startRec t e
      { t with pst := { t.pst with points := t.pst.points.set e.id r } }) s
  repAnew { s with pst := { s.pst with map := some n } } ((n.entries.filter fun e => (mapFind (some o) e.id).isNone).map (·.id)) fun _ _ => true

/-- A map comes into force at a PROGRAM_START (R152, R611). -/
def mapIntoForce (s : State) (n : PointMap) : State :=
  match s.pst.map with
  | none => mapStart s n
  | some o => forcesRestore (mapSwitch s o n [])

end Sys2Proof.Machine
end

