-- ==== Sys2Proof/Machine/IleOps.lean ====
section
/-! DEFINITION. How the Cycle Engine's stops and starts reach the Interlock Engine (06_interlock_engine R225, R226). -/
namespace Sys2Proof.Machine
open Sys2Proof

/-- Event of the Interlock Engine: alarm index, point id, stop reason, instruction index (R227). -/
def ileEvent (s : State) (k : EvKind) (alarm id reason insn : Nat) : State := event s k [(2, alarm), (4, id), (1, reason), (4, insn)]

/-- Fallback starts (R225): with a running image, at a stop that `reason` names; `givesUp` is true on the active module of a formed pair
for a stop that makes it give up control. -/
def ileEnter (s : State) (reason : Nat) (givesUp : Bool) : State :=
  if givesUp ∨ s.ile.state = .faulted ∨ s.ile.state = .empty then s
  else
    let s := { s with ile := { s.ile with
      state := .fallback
      fbAt := s.tmb.now
      fbReason := reason
      fbFirst := true
      fbEnd := false
      hand := none
      handOut := none } }
    ileEvent (bump s cIleFallbackEntries) evFallbackEnter 0 0 reason 0

/-- An accepted PROGRAM_START ends fallback from its first cycle instant on (R226). -/
def ileProgramStarted (s : State) (first : Nat) : State :=
  if s.ile.state = .fallback then { s with ile := { s.ile with hand := some first, handOut := none } } else s

/-- An output set of a class launches at an instant: the first one lets fallback end (R226). -/
def ileOutputSet (s : State) (inst : Nat) : State :=
  if s.ile.state = .fallback ∧ s.ile.hand.isSome ∧ s.ile.handOut.isNone then
    { s with ile := { s.ile with handOut := some inst } }
  else s

/-- The map in force no longer names a referenced point as the image does (R223). -/
def ileGone (s : State) (m : IleImage) (id : Nat) : Bool :=
  match mapFind s.pst.map id with
  | some e => e.type != m.types.get id
  | none => true

/-- The points an image refers to: inputs, compares, stores. -/
def ileRefs (m : IleImage) : List Nat := (m.inputs.map (·.id) ++ m.compares.map (·.id) ++ ileStores m.code).eraseDups

/-- ILE_REF_LOST is recorded once per referenced point that the map in force has lost (R223). -/
def ileRefsNote (s : State) : State :=
  match s.ile.image with
  | none => s
  | some m =>
    let gone := (ileRefs m).filter (ileGone s m)
    let new := gone.filter fun id => !s.ile.lost.contains id
    new.foldl (fun s id => ileEvent s evIleRefLost 0 id 0 0) { s with ile := { s.ile with lost := gone } }

end Sys2Proof.Machine
end

