-- ==== Sys2Proof/Machine/FbkOps.lean ====
section
/-! DEFINITION. The Feedback Interfaces' shared operations (14_feedback R432 to R445): pins of other blocks, latching a position and a
speed, moving the count, the compare list, becoming BAD. -/
namespace Sys2Proof.Machine
open Sys2Proof

/-! ### Pins that another block claims (01_timeline R63) -/

/-- The name of a claim: the source id of the block and its unit. -/
def claimOf (block unit : Nat) : Nat := block * 256 + unit

/-- A block claims `pins` and releases what it held and no longer names (R63, R411, R431). -/
def claimPins (s : State) (who : Nat) (pins : List Nat) : State :=
  (List.range 128).foldl (fun s p =>
    let c := (s.tmb.tio.get p).claimed
    if pins.contains p then { s with tmb := { s.tmb with tio := s.tmb.tio.upd p (fun x => { x with claimed := some who }) } }
    else if c = some who then
      { s with tmb := { s.tmb with tio := s.tmb.tio.upd p (fun x => { x with claimed := none, level := none }) } }
    else s) s

/-- The pins cannot be claimed (R411, R431): one is named twice, or is held by another unit, or by TMB_TIO_CFG in OUT or STAMP. -/
def pinTaken (s : State) (who : Nat) (pins : List Nat) (p : Nat) : Bool :=
  decide (1 < pins.count p) || (match (s.tmb.tio.get p).claimed with | some w => w != who | none => false) ||
    fld s (fTmbTioCfgMode p) == 1 || fld s (fTmbTioCfgMode p) == 2

/-- Drive a claimed pin; on the standby of a pair it stays high-impedance (R427, R446). -/
def pinDrive (s : State) (p : Nat) (level : Bool) : State :=
  if p = 0xFF then s
  else if s.par.standby then
    { s with tmb := { s.tmb with tio := s.tmb.tio.upd p (fun x => { x with level := none }) } }
  else tioDrive s p level

/-! ### The descriptor (R430) -/

/-- A channel. -/
def fbkCh (s : State) (n : Nat) : FbkCh := s.fbk.ch.get n
/-- Change a channel. -/
def fbkUpd (s : State) (n : Nat) (f : FbkCh → FbkCh) : State := { s with fbk := { s.fbk with ch := s.fbk.ch.upd n f } }
/-- MODE: 0 OFF, 1 QUAD, 2 SSI, 3 HALL. -/
def fbMode (d : Bytes) : Nat := le d 0 1
/-- A bit of FLAGS. -/
def fbFlag (d : Bytes) (i : Nat) : Bool := bit (le d 1 1) i
/-- FILTER, in ns (R432). -/
def fbFilter (d : Bytes) : Nat := 5 * le d 9 1
/-- SPEED_US, in ns. -/
def fbSpeed (d : Bytes) : Nat := 1000 * le d 20 4
/-- STOP_US, in ns. -/
def fbStop (d : Bytes) : Nat := 1000 * le d 24 4
/-- SSI_POS_BITS. -/
def fbPosBits (d : Bytes) : Nat := le d 29 1
/-- Duration of an SSI frame's clocked bits, and of the whole frame, in ns (R435). -/
def fbClocked (d : Bytes) : Nat := (le d 28 1 + 1) * 1000000 / le d 32 4
/-- The whole frame in ns. -/
def fbFrame (d : Bytes) : Nat := fbClocked d + 1000 * le d 44 4

/-- An event of the Feedback Interfaces: channel, deviation, entry index, byte offset (R447). -/
def fbkEvent (s : State) (k : EvKind) (n : Nat) (dev : Int) (entry off : Nat) : State :=
  event s k [(2, n), (4, dev), (4, entry), (4, off)]

/-! ### Position and speed at an instant (R438, R439) -/

/-- The speed at `t` from the changes up to it (R439), in 2^-16 count/s; `vmag` is its previous magnitude. -/
def fbkSpeed (d : Bytes) (chg : List FbkChange) (vmag : Int) (rneg : Bool) (t : Nat) : Int :=
  match chg with
  | [] => 0
  | l :: _ =>
    let w := chg.filter fun c => decide (t < c.stamp + fbSpeed d)
    let f := w.getLastD l
    if 2 ≤ w.length ∧ f.stamp < l.stamp then
      nearestQ (((l.r - f.r : Int) : Rat) * 65536000000000 / ((l.stamp - f.stamp : Nat) : Rat))
    else if fbStop d < t - l.stamp then 0
    else
      let m := if t = l.stamp then vmag else min vmag (65536000000000 / ((t - l.stamp : Nat) : Int))
      if rneg then -m else m

/-- Which changes a value latched at `t` includes (R438): every one accepted by t − 40 ns − FILTER, none after `t`; how far between them is
free. -/
def fbkCut (s : State) (n t : Nat) : List FbkChange × State :=
  let c := fbkCh s n
  let w := 40 + 2 * fbFilter c.desc
  if c.chg.any (fun x => decide (t < x.acc + w) && decide (x.stamp ≤ t)) then
    let (f, s) := drawFree s
    (c.chg.filter (fun x => decide (x.acc + f.toNat % (w + 1) ≤ t) && decide (x.stamp ≤ t)), s)
  else (c.chg.filter (fun x => decide (x.stamp ≤ t) && decide (x.acc ≤ t)), s)

/-- Position and speed of a channel latched at `t` (R438): P in counts, v in 2^-16 count/s. -/
def fbkLatch (s : State) (n t : Nat) : (Int × Int) × State :=
  let (l, s) := fbkCut s n t
  let c := fbkCh s n
  let rneg : Bool := match l with
    | a :: b :: _ => decide (a.r < b.r)
    | [a] => decide (a.r < c.r0)
    | [] => c.rneg
  let v := fbkSpeed c.desc l c.vmag rneg t
  let p := match l with | a :: _ => a.p | [] => if c.chg.isEmpty then c.p else c.p0
  ((p, v), fbkUpd s n fun c => { c with vmag := v.natAbs })

/-- A channel is configured. -/
def fbkOn (s : State) (n : Nat) : Bool := fbMode (fbkCh s n).desc != 0

/-- A loop's feedback input at `t` (10_loops R321): its value in counts or counts/s, and whether it is usable. -/
def fbkRead (s : State) (n t : Nat) (vel : Bool) : (Rat × Bool) × State :=
  let ((p, v), s) := fbkLatch s n t
  let c := fbkCh s n
  (((if vel then (v : Rat) / 65536 else (p : Rat)), fbkOn s n && !c.bad && !c.implaus), s)

/-! ### The compare list (R444, R445) -/

/-- The direction required of an entry (R442): negative or not. -/
def cmpNeg (c : FbkCh) (now : Nat) (e : CmpEntry) : Bool :=
  match e.dir with
  | 1 => false
  | 2 => true
  | _ =>
    let rest : Bool := match c.chg with | [] => true | l :: _ => decide (fbStop c.desc < now - l.stamp)
    if rest then decide (e.pos < c.p) else c.neg

/-- An entry is MISSED at arming (R444). -/
def cmpPassed (neg : Bool) (p pos : Int) : Bool := if neg then decide (p ≤ pos) else decide (pos ≤ p)

/-- Arm the head of the list, passing over the entries that are MISSED (R444). -/
def cmpArm (n : Nat) : List CmpEntry → State → State
  | [], s => fbkUpd s n fun c => { c with list := [] }
  | e :: t, s =>
    let c := fbkCh s n
    let neg := cmpNeg c s.tmb.now e
    if cmpPassed neg c.p e.pos then
      let s := fbkEvent (bump s cFbkCompareMissed) evCompareMissed n 0 c.done 0
      cmpArm n t (fbkUpd s n fun c => { c with done := c.done + 1 })
    else fbkUpd s n fun c => { c with list := e :: t, armNeg := neg }

/-- The head is judged as at arming; while the channel is BAD it waits (R444). -/
def cmpJudge (s : State) (n : Nat) : State := if (fbkCh s n).bad then s else cmpArm n (fbkCh s n).list s

/-- A fire drives CMP_PIN (R445): the edge follows by a time that is free within its limit; one that comes while the pin is high, or within
10 ns of its falling edge, waits. -/
def cmpFire (s : State) (n : Nat) : State :=
  let s := bump s cFbkCompareFired
  let c := fbkCh s n
  let w := 5 * le c.desc 12 2
  match c.pulseEnd with
  | some _ => fbkUpd (bump s cFbkCmpDelayed) n fun c => { c with fireWait := c.fireWait + 1 }
  | none =>
    let (f, s) := drawFree s
    let at' := s.tmb.now + f.toNat % ((if fbMode c.desc = 2 then 100 else 40 + fbFilter c.desc) + 1)
    let close : Bool := match c.lastFall with | some q => decide (at' < q + 10) | none => false
    let s := if close then bump s cFbkCmpDelayed else s
    let rise := match c.lastFall with | some q => max at' (q + 10) | none => at'
    pinDrive (fbkUpd s n fun c => { c with pulseEnd := some (rise + w), lastFire := rise }) (le c.desc 8 1) true

/-- P has moved: an armed head that it reaches or crosses fires (R444). -/
def cmpMoved (s : State) (n : Nat) : State :=
  let c := fbkCh s n
  match c.list with
  | [] => s
  | e :: t =>
    if !c.bad ∧ cmpPassed c.armNeg c.p e.pos then
      let s := cmpFire s n
      cmpArm n t (fbkUpd s n fun c => { c with done := c.done + 1 })
    else s

/-! ### Moving the count (R433 to R437) -/

/-- P follows r with a hysteresis of one count (R437). -/
def hystP (off : Bool) (r p : Int) : Int := if off then r else if p < r then r else if r < p - 1 then r + 1 else p

/-- Keep the changes that a speed or a latch can still reach. -/
def pruneChg (keep now : Nat) : List FbkChange → List FbkChange
  | [] => []
  | c :: t => if c.stamp + keep < now then [c] else c :: pruneChg keep now t

/-- P is brought to r (R437), unless the channel is BAD and holds its position (R436); the compare unit sees the change. -/
def fbkFollow (s : State) (n : Nat) : State :=
  let c := fbkCh s n
  let p := if c.bad then c.p else hystP (fbFlag c.desc 3) c.r c.p
  if p = c.p then s
  else cmpMoved (fbkUpd s n fun c => { c with neg := decide (p < c.p), p := p }) n

/-- r moves by `dr`, stamped `t` (R433 to R437). -/
def fbkMove (s : State) (n t : Nat) (dr : Int) : State :=
  if dr = 0 then s
  else
    let c := fbkCh s n
    let r := c.r + dr
    let p := if c.bad then c.p else hystP (fbFlag c.desc 3) r c.p
    let all := (⟨t, s.tmb.now, r, p⟩ : FbkChange) :: c.chg
    let kept := pruneChg (fbSpeed c.desc + 10000000) t all
    let lost := (all.drop kept.length).head?
    let v := fbkSpeed c.desc kept c.vmag (decide (dr < 0)) t
    fbkFollow (fbkUpd s n fun c => { c with
      r := r
      rneg := decide (dr < 0)
      chg := kept
      r0 := match lost with | some x => x.r | none => c.r0
      p0 := match lost with | some x => x.p | none => c.p0
      vmag := v.natAbs }) n

end Sys2Proof.Machine
end

