-- ==== Sys2Proof/Machine/LoopMath.lean ====
section
/-! DEFINITION. Numbers of the loop laws (10_loops R317, R324, R345, R347): coefficients in fixed point, exponential, logarithm, square
root and sine to well beyond the width they are rounded to. -/
namespace Sys2Proof.Machine
open Sys2Proof

/-- Working precision of the series below, in binary places. -/
def prec : Nat := 160

/-- A coefficient in fixed point (R324): value = m × 2^(s − 23). -/
structure Coef where
  m : Int
  s : Int
  deriving DecidableEq, Repr, Inhabited

/-- The mantissa and shift of a coefficient (R324): the mantissa as large as possible, nearest, ties to even; none at a magnitude of 256 or
more. -/
def coefAt (v : Rat) : Nat → Coef
  | 0 => ⟨clampI (-8388608) 8388607 (nearestQ (v * pow2 15)), 8⟩
  | n + 1 =>
    let s : Int := 7 - n
    let m := nearestQ (v * pow2 (23 - s))
    if -8388608 ≤ m ∧ m ≤ 8388607 then ⟨m, s⟩ else coefAt v n

/-- A coefficient of a law (R324): the smallest shift that holds it. -/
def coefOf (v : Rat) : Coef := coefAt v 16

/-- A coefficient the array can hold (R324). -/
def coefFits (v : Rat) : Bool := decide (absQ v < 256)

/-- A product of a coefficient and a state in units of 2^-47: a 24 × 24 multiply, every dropped bit truncated (R324, R291, R292). -/
def mulC (c : Coef) (x : Int) : Int :=
  let p := 2 * c.m * (x / 16777216)
  if 0 ≤ c.s then p * 2 ^ c.s.toNat else p / (2 ^ (-c.s).toNat : Nat)

/-- A FIX24 number in units of 2^-47. -/
def fx (v : Int) : Int := v * 16777216

/-- A value in units of 2^-47 as FIX24, truncated and limited (R293). -/
def toFix24 (v : Int) : Int := clampI (-8388608) 8388607 (v / 16777216)

/-- Exact value of a REAL64 code, 0 for an infinity or a NaN. -/
def r64 (b : Bytes) (o : Nat) : Rat := (real64Val (le b o 8)).getD 0
/-- A REAL64 field holds a number. -/
def r64ok (b : Bytes) (o : Nat) : Bool := (real64Val (le b o 8)).isSome
/-- Exact value of a REAL32 code. -/
def r32 (b : Bytes) (o : Nat) : Rat := (real32Val (le b o 4)).getD 0

/-- Fixed-point number of `prec` places nearest below a value. -/
def toPrec (q : Rat) : Int := floorQ (q * pow2 prec)

/-- Terms of the exponential series of a number between 0 and 1, in `prec` places. -/
def expTerms (x : Int) : Nat → Int → Int → Int
  | 0, _, a => a
  | n + 1, t, a =>
    let k : Int := 60 - (n : Int)
    let t := t * x / (2 ^ prec : Nat) / k
    expTerms x n t (a + t)

/-- Square a `prec`-place number `n` times. -/
def sqTimes : Nat → Int → Int
  | 0, v => v
  | n + 1, v => sqTimes n (v * v / (2 ^ prec : Nat))

/-- e^q, in `prec` places; q up to a few thousand either way. -/
def expQ (q : Rat) : Rat :=
  if q < -100 then 0
  else
    let n := Nat.log2 (absQ q).num.natAbs + 2 - Nat.log2 (absQ q).den
    let n := if absQ q < 1 then 0 else n
    let x := toPrec (absQ q / ((2 ^ n : Nat) : Rat))
    let e := sqTimes n (expTerms x 60 ((2 ^ prec : Nat) : Int) ((2 ^ prec : Nat) : Int))
    let v : Rat := (e : Rat) / ((2 ^ prec : Nat) : Rat)
    if q < 0 then 1 / v else v

/-- The series 2 (z + z^3/3 + z^5/5 + …), in `prec` places. -/
def atanhTerms (z2 : Int) : Nat → Int → Int → Int → Int
  | 0, _, _, a => a
  | n + 1, p, k, a => atanhTerms z2 n (p * z2 / (2 ^ prec : Nat)) (k + 2) (a + 2 * p / k)

/-- ln of a number between 1/2 and 2. -/
def lnNear (q : Rat) : Rat :=
  let z := toPrec ((q - 1) / (q + 1))
  (atanhTerms (z * z / (2 ^ prec : Nat)) 120 z 1 0 : Rat) / ((2 ^ prec : Nat) : Rat)

/-- ln q of a positive number. -/
def lnQ (q : Rat) : Rat :=
  let e : Int := (Nat.log2 q.num.natAbs : Int) - (Nat.log2 q.den : Int)
  lnNear (q / pow2 e) + (e : Rat) * lnNear 2

/-- Square root of a non-negative number, rounded down at `prec` places. -/
def sqrtQ (q : Rat) : Rat := ((Nat.sqrt (floorQ (q * pow2 (2 * prec))).toNat : Nat) : Rat) / ((2 ^ prec : Nat) : Rat)

/-- π in 128 binary places. -/
def piQ : Rat := 0x3243F6A8885A308D313198A2E03707344 / ((2 ^ 128 : Nat) : Rat)

/-- Terms of the sine series of a number up to π in magnitude, in `prec` places. -/
def sinTerms (x2 : Int) : Nat → Int → Int → Int → Int
  | 0, _, _, a => a
  | n + 1, t, k, a =>
    let t := -(t * x2 / (2 ^ prec : Nat)) / ((k + 1) * (k + 2))
    sinTerms x2 n t (k + 2) (a + t)

/-- sin of 2π × turns. -/
def sinTurns (turns : Rat) : Rat :=
  let f := turns - (floorQ (turns + 1 / 2) : Int)
  let x := toPrec (2 * piQ * f)
  (sinTerms (x * x / (2 ^ prec : Nat)) 40 x 1 x : Rat) / ((2 ^ prec : Nat) : Rat)

end Sys2Proof.Machine
end

