-- ==== Sys2Proof/Machine/LoopLaw.lean ====
section
/-! DEFINITION. What a loop computes (10_loops R313 to R317, R324 to R332, R336, R337, R345): the descriptor's fields, the standard laws in
fixed point, the models, the test signals, the least-squares fit (R347). Numbers of the laws are in units of 2^-47. -/
namespace Sys2Proof.Machine
open Sys2Proof

/-! ### The descriptor (R313 to R316, R336) -/

/-- An input entry (R315). -/
structure LoopIn where
  kind : Nat
  sub : Nat
  ref : Nat
  zero : Rat
  span : Rat
  deriving DecidableEq, Repr, Inhabited

/-- An output entry (R316). -/
structure LoopOut where
  kind : Nat
  id : Nat
  zero : Rat
  span : Rat
  deriving DecidableEq, Repr, Inhabited

/-- LAW (R314). -/ def ldLaw (d : Bytes) : Nat := le d 16 1
/-- An OPTIONS bit: 0 FF, 1 SPLIT, 2 PERSIST, 3 RESUMABLE, 4 SP_TRACK, 5 DOMAIN (R313). -/ def ldOpt (d : Bytes) (i : Nat) : Bool := bit (le d 17 1) i
/-- HOME_CORE. -/ def ldHome (d : Bytes) : Nat := le d 18 1
/-- FALLBACK_CORE. -/ def ldFallback (d : Bytes) : Nat := le d 19 1
/-- PERIOD_US. -/ def ldPeriod (d : Bytes) : Nat := le d 20 4
/-- PHASE_US. -/ def ldPhase (d : Bytes) : Nat := le d 24 4
/-- OUT_DLY_NS. -/ def ldDelay (d : Bytes) : Nat := le d 28 4
/-- PUB_DIV. -/ def ldPubDiv (d : Bytes) : Nat := le d 32 2
/-- INIT_MODE. -/ def ldInitMode (d : Bytes) : Nat := le d 34 1
/-- RES_WORDS. -/ def ldResWords (d : Bytes) : Nat := le d 40 4
/-- MAN_INIT. -/ def ldManInit (d : Bytes) : Int := signed 24 (le d 44 3)

/-- INPUT[n] (R315). -/
def ldIn (d : Bytes) (n : Nat) : LoopIn :=
  let o := 64 + 16 * n
  ⟨le d o 1, le d (o + 1) 1, le d (o + 4) 4, r32 d (o + 8), r32 d (o + 12)⟩

/-- OUTPUT[n] (R316). -/
def ldOut (d : Bytes) (n : Nat) : LoopOut :=
  let o := 192 + 16 * n
  ⟨le d o 1, le d (o + 4) 4, r32 d (o + 8), r32 d (o + 12)⟩

/-- PUBLISH: PV, SP, OUT, STAT (R313). -/
def ldPub (d : Bytes) (n : Nat) : Nat := le d (320 + 4 * n) 4

/-- MODEL (R336). -/ def ldModel (d : Bytes) : Nat := le d 544 1
/-- NSTATES. -/ def ldStates (d : Bytes) : Nat := le d 545 1
/-- PERSIST. -/ def ldPersist (d : Bytes) : Nat := le d 546 1
/-- ACTION. -/ def ldAction (d : Bytes) : Nat := le d 547 1
/-- DEAD. -/ def ldDead (d : Bytes) : Nat := le d 548 2
/-- QCH_MASK. -/ def ldQch (d : Bytes) : Nat := le d 550 2
/-- Model parameter `i`. -/ def ldPar (d : Bytes) (i : Nat) : Rat := r64 d (576 + 8 * i)

/-- The loop period in seconds. -/
def ldTs (d : Bytes) : Rat := (ldPeriod d : Rat) / 1000000

/-- A standard law that takes a setpoint from another source in CAS (R331, R333). -/
def ldHasCas (d : Bytes) : Bool :=
  match ldLaw d with
  | 1 | 4 => (ldIn d 3).kind != 0
  | 3 | 0x80 => true
  | _ => false

/-- The first sample instant at or after `t`: k × P + PHASE, on the domain Timeline with DOMAIN (R313, R140). -/
def loopInstant (d : Bytes) (off : Int) (t : Nat) : Nat :=
  let p : Int := ldPeriod d * 1000
  let x : Int := (t : Int) + off - ldPhase d * 1000
  ((t : Int) + (-x) % (if p = 0 then 1 else p)).toNat

/-! ### PID (R317, R324, R325, R332) -/

/-- The derived coefficients of a gain set (R324). -/
structure PidC where
  kp : Coef
  ki : Coef
  kt : Coef
  ad : Coef
  kd : Coef
  beta : Coef
  gamma : Coef
  du : Int
  lo : Int
  hi : Int
  deriving DecidableEq, Repr, Inhabited

/-- The exact derived coefficients of the gain set at offset `o` (R324): kp, ki, kt, ad, kd, beta, gamma, du, lo, hi. -/
def pidExact (d : Bytes) (o : Nat) : List Rat :=
  let ts := ldTs d
  let kp := r64 d o
  let ti := r64 d (o + 8)
  let td := r64 d (o + 16)
  let tf := r64 d (o + 24)
  let tt := if r64 d (o + 48) = 0 then ti else r64 d (o + 48)
  [kp, if ti = 0 then 0 else kp * ts / ti, if tt = 0 then 0 else ts / tt, tf / (tf + ts), kp * td / (tf + ts), r64 d (o + 32), r64 d (o + 40),
    r64 d (o + 72) * ts, r64 d (o + 56), r64 d (o + 64)]

/-- A coefficient as a number in units of 2^-47. -/
def coefInt (c : Coef) : Int := shiftInt c.m (24 + c.s)

/-- The coefficients as the array holds them (R324). -/
def pidCoefs (d : Bytes) (o : Nat) : PidC :=
  let l := (pidExact d o).map coefOf
  let g (i : Nat) : Coef := l.getD i default
  ⟨g 0, g 1, g 2, g 3, g 4, g 5, g 6, coefInt (g 7), coefInt (g 8), coefInt (g 9)⟩

/-- The output limits, then the rate limit (R325, R331). -/
def pidLimit (c : PidC) (prev v : Int) : Int :=
  let u := clampI c.lo c.hi v
  if c.du = 0 then u else clampI (prev - c.du) (prev + c.du) u

/-- One sample of a PID (R325). `track` is the output the integrator is preset to (R332); `inj` a test value added before the limits. -/
def pidStep (c : PidC) (st : PidState) (r y f inj : Int) (track : Option Int) : PidState × Bool :=
  let p := mulC c.kp (mulC c.beta r - y)
  let g := mulC c.gamma r - y
  match track with
  | some t =>
    let u := pidLimit c st.u t
    (⟨u - p - f, 0, g, u⟩, decide (u ≠ t))
  | none =>
    let d := mulC c.ad st.d + mulC c.kd (g - st.g)
    let v := p + st.i + d + f + inj
    let u := pidLimit c st.u v
    let inc := mulC c.ki (r - y)
    let inc := if u ≠ v ∧ inc.sign = (v - u).sign then 0 else inc
    (⟨clampI c.lo c.hi (st.i + inc + mulC c.kt (u - v)), d, g, u⟩, decide (u ≠ v))

/-- The lead-lag of R327: a, b0 and b1. -/
def leadLagCoefs (d : Bytes) : Coef × Coef × Coef :=
  let ts := ldTs d
  let k := r64 d 496
  let t1 := r64 d 504
  let t2 := r64 d 512
  (coefOf ((2 * t2 - ts) / (2 * t2 + ts)), coefOf (k * (2 * t1 + ts) / (2 * t2 + ts)), coefOf (k * (ts - 2 * t1) / (2 * t2 + ts)))

/-- y = a y' + b0 x + b1 x' (R327). -/
def leadLag (d : Bytes) (x x' y' : Int) : Int :=
  let (a, b0, b1) := leadLagCoefs d
  mulC a y' + mulC b0 x + mulC b1 x'

/-! ### The standard laws (R326 to R332) -/

/-- What a law answers: its store, u, the setpoint published, and whether u met a limit. -/
structure LawOut where
  st : LawState
  u : Int
  sp : Int
  limited : Bool
  deriving DecidableEq, Repr, Inhabited

/-- One sample of a standard law: mode, HOLD, the manual output, the inputs in FIX24, the injected value and whether it goes to the setpoint. -/
def lawStep (d : Bytes) (st : LawState) (mode : LoopMode) (hold : Bool) (man : Int) (ins : List Int) (inj : Int) (atSp : Bool) : LawOut :=
  let x (n : Nat) : Int := fx (ins.getD n 0)
  let injS := if atSp then fx inj else 0
  let injU := if atSp then 0 else fx inj
  let ff := if ldOpt d 0 then leadLag d (x 2) st.ffx st.ffy else 0
  let st := { st with ffx := x 2, ffy := ff }
  let track : Option Int := if hold then some st.out else if mode = .man then some (fx man + injU) else none
  match ldLaw d with
  | 2 =>
    let c := pidCoefs d 336
    let raw := leadLag d (x 0) st.llx st.lly + injU
    let v := track.getD raw
    let u := pidLimit c st.out v
    ⟨{ st with llx := x 0, lly := clampI c.lo c.hi (raw - injU), out := u, sp := x 1 }, u, x 1, decide (u ≠ v)⟩
  | 3 =>
    let ca := pidCoefs d 336
    let cb := pidCoefs d 416
    let acts := decide (mode = .cas) && !hold
    let (a, _) := pidStep ca st.a (x 1) (x 0) 0 0 (if acts then none else some (if mode = .cas then st.a.u else x 4))
    let rin := (if mode = .cas then a.u else x 4) + injS
    let (b, lim) := pidStep cb { st.b with u := st.out } rin (x 3) ff injU track
    ⟨{ st with a := a, b := b, out := b.u, sp := rin }, b.u, x 1, lim⟩
  | _ =>
    let c := pidCoefs d 336
    let loc := if ldLaw d = 4 then
        fx (clampI (-8388608) 8388607 (mulC (coefOf (r64 d 520)) (fx (x 1 / 16777216 * (x 2 / 16777216) / 8388608)) / 16777216))
      else x 1
    let r := (if mode = .cas then x 3 else loc) + injS
    let (a, lim) := pidStep c { st.a with u := st.out } r (x 0) ff injU track
    ⟨{ st with a := a, out := a.u, sp := r }, a.u, r, lim⟩

/-- The outputs of a standard law (R328). -/
def lawOuts (d : Bytes) (u : Int) : List Int :=
  if ldOpt d 1 then
    let o (g c : Nat) : Int := toFix24 (mulC (coefOf (r32 d g)) (u - coefInt (coefOf (r32 d c))))
    [o 528 532, o 536 540]
  else [toFix24 u]

/-! ### Models (R337) -/

/-- A dot product of coefficients and states. -/
def dotC : List Rat → List Int → Int
  | c :: cs, x :: xs => mulC (coefOf c) x + dotC cs xs
  | _, _ => 0

/-- The model's prediction from its states and the law outputs, newest first (R337), with the states before correction. -/
def modelStep (d : Bytes) (m us : List Int) : Int × List Int :=
  let dead := ldDead d
  let u1 := us.getD dead 0
  let u2 := us.getD (dead + 1) 0
  match ldModel d with
  | 1 =>
    let a := expQ (-(ldTs d) / ldPar d 1)
    let y := mulC (coefOf a) (m.getD 0 0) + mulC (coefOf ((1 - a) * ldPar d 0)) u1
    (y, [y])
  | 2 =>
    let y := mulC (coefOf (-(ldPar d 0))) (m.getD 0 0) + mulC (coefOf (-(ldPar d 1))) (m.getD 1 0) + mulC (coefOf (ldPar d 2)) u1 +
      mulC (coefOf (ldPar d 3)) u2
    (y, [y, m.getD 0 0])
  | 3 =>
    let n := ldStates d
    let x := (List.range n).map fun i =>
      dotC ((List.range n).map fun j => ldPar d (n * i + j)) ((List.range n).map fun j => m.getD j 0) + mulC (coefOf (ldPar d (n * n + i))) u1
    (dotC ((List.range n).map fun i => ldPar d (n * n + n + i)) x, x)
  | _ => (0, [])

/-- The residual corrects the model (R337). -/
def modelFix (d : Bytes) (m : List Int) (rho : Int) : List Int :=
  match ldModel d with
  | 1 | 2 => match m with
    | y :: t => (y + mulC (coefOf (r64 d 560)) rho) :: t
    | [] => []
  | 3 =>
    let n := ldStates d
    m.mapIdx fun i x => x + mulC (coefOf (ldPar d (n * n + 2 * n + i))) rho
  | _ => []

/-! ### Test signals (R345) -/

/-- The taps of a PRBS order (R345). -/
def prbsTaps : Nat → List Nat
  | 7 => [7, 6] | 8 => [8, 6, 5, 4] | 9 => [9, 5] | 10 => [10, 7] | 11 => [11, 9] | 12 => [12, 11, 10, 4] | 13 => [13, 12, 11, 8]
  | 14 => [14, 13, 12, 2] | 15 => [15, 14] | _ => []

/-- One shift of the register. -/
def prbsShift (order v : Nat) : Nat :=
  let f := ((prbsTaps order).filter fun t => v.testBit (t - 1)).length % 2
  (v * 2 + f) % 2 ^ order

/-- The samples of a request's signal (R345). -/
def signalLen (q : Bytes) (ts : Rat) : Nat :=
  let hold := le q 4 4
  match le q 0 1 with
  | 1 => hold
  | 2 => 2 * hold
  | 3 => (2 ^ le q 2 1 - 1) * hold
  | _ => (-(floorQ (-(r64 q 40 / ts)))).toNat

/-- The exact phase of a chirp at `t`, in turns (R345). -/
def chirpTurns (q : Bytes) (t : Rat) : Rat :=
  let f0 := r64 q 24
  let f1 := r64 q 32
  let dur := r64 q 40
  if le q 0 1 = 4 then f0 * t + (f1 - f0) * t * t / (2 * dur)
  else
    let l := lnQ (f1 / f0)
    f0 * dur / l * (expQ (t * l / dur) - 1)

/-- The injected value at sample `k` of the signal, in FIX24 (R345); a chirp's error of up to 4 least significant bits is free. -/
def signalAt (s : State) (q : Bytes) (ts : Rat) (k lfsr : Nat) : Int × State :=
  let a := signed 24 (le q 20 3)
  let hold := le q 4 4
  match le q 0 1 with
  | 1 => (a, s)
  | 2 => (if k < hold then a else -a, s)
  | 3 => (if lfsr.testBit (le q 2 1 - 1) then a else -a, s)
  | _ =>
    let (e, s) := nudge s 4
    (clampI (-8388608) 8388607 (nearestQ ((a : Rat) * sinTurns (chirpTurns q ((k : Rat) * ts))) + e), s)

/-! ### The fit (R347) -/

/-- Sums of the normal equations of y = a y1 + b u + c over a list of rows (y, y1, u). -/
structure FitSums where
  n : Rat
  y : Rat
  y1 : Rat
  u : Rat
  yy : Rat
  y1y1 : Rat
  uu : Rat
  yy1 : Rat
  yu : Rat
  y1u : Rat
  deriving DecidableEq, Repr, Inhabited

/-- Add one row. -/
def FitSums.add (f : FitSums) (r : Int × Int × Int) : FitSums :=
  let y : Rat := r.1
  let p : Rat := r.2.1
  let u : Rat := r.2.2
  ⟨f.n + 1, f.y + y, f.y1 + p, f.u + u, f.yy + y * y, f.y1y1 + p * p, f.uu + u * u, f.yy1 + y * p, f.yu + y * u, f.y1u + p * u⟩

/-- Least squares of y = a y1 + b u + c: a, b, c and the sum of squared residuals; none where the equations have no single solution. -/
def FitSums.solve (f : FitSums) : Option (Rat × Rat × Rat × Rat) :=
  let pp := f.n * f.y1y1 - f.y1 * f.y1
  let uu := f.n * f.uu - f.u * f.u
  let pu := f.n * f.y1u - f.y1 * f.u
  let py := f.n * f.yy1 - f.y1 * f.y
  let uy := f.n * f.yu - f.u * f.y
  let det := pp * uu - pu * pu
  if det = 0 ∨ f.n = 0 then none
  else
    let a := (py * uu - uy * pu) / det
    let b := (uy * pp - py * pu) / det
    let c := (f.y - a * f.y1 - b * f.u) / f.n
    some (a, b, c, f.yy - a * f.yy1 - b * f.yu - c * f.y)

/-- The rows of a dead time `dead` over the records (u, y), oldest first: y_k, y_(k-1), u_(k-1-dead). -/
def fitRows (recs : List (Int × Int)) (dead : Nat) : List (Int × Int × Int) :=
  ((recs.drop (dead + 1)).zip ((recs.drop dead).zip recs)).map fun r => (r.1.2, r.2.1.2, r.2.2.1)

/-- The best dead time (R347): the smallest sum of squares, the first of equal ones. -/
def fitBest (recs : List (Int × Int)) (n : Nat) : Option (Nat × FitSums × Rat × Rat × Rat × Rat) :=
  (List.range (n + 1)).foldl (fun best d =>
    let f := (fitRows recs d).foldl FitSums.add default
    match f.solve with
    | none => best
    | some (a, b, c, e) => match best with
      | some (_, _, _, _, _, e0) => if e < e0 then some (d, f, a, b, c, e) else best
      | none => some (d, f, a, b, c, e)) none

/-- The result of a test (R347, R348), its numbers rounded to the nearest REAL64. -/
def tuneFit (d q : Bytes) (recs : List (Int × Int)) : TuneResult :=
  let bound := min 256 (recs.length / 4)
  let blank : TuneResult := { (default : TuneResult) with reason := 1, samples := recs.length }
  match recs, fitBest recs bound with
  | r :: _, some (dd, f, a, b, _, ssr) =>
    if recs.all (fun x => x.1 == r.1) then blank
    else if a ≤ 0 ∨ 1 ≤ a then { blank with reason := 2, dead := dd }
    else
      let ts := ldTs d
      let unit : Rat := 8388608
      let k := b / (1 - a)
      let t := -ts / lnQ a
      let theta := (dd : Rat) * ts
      let var := f.yy - f.y * f.y / f.n
      let fit := if var = 0 then 0 else 1 - sqrtQ (ssr / var)
      let tauC := if 0 < r64 q 56 then r64 q 56 else max theta ts
      let rms := sqrtQ (ssr / f.n) / unit
      ⟨if dd = bound then 4 else if fit < 1 / 2 then 3 else 0, recs.length, real64Code k, real64Code t, real64Code theta, real64Code fit,
        real64Code rms, if k = 0 then 0 else real64Code (t / (k * (tauC + theta))), real64Code (min t (4 * (tauC + theta))),
        real64Code (4 * rms), dd⟩
  | _, _ => blank

/-- The 96 bytes of LOOP_TUNE_READ (R348). -/
def tuneBytes (r : TuneResult) : Bytes :=
  leBytes 1 r.reason ++ zeros 3 ++ leBytes 4 r.samples ++ leBytes 8 r.k ++ leBytes 8 r.t ++ leBytes 8 r.theta ++ leBytes 8 r.fit ++
  leBytes 8 r.rms ++ leBytes 8 r.kp ++ leBytes 8 r.ti ++ zeros 8 ++ leBytes 8 r.rlim ++ leBytes 2 r.dead ++ zeros 14

end Sys2Proof.Machine
end

