-- ==== Sys2Proof/Machine/LoopLoad.lean ====
section
/-! DEFINITION. Loading a loop (10_loops R318 to R320) and its Anvil code block (09_anvil_core R298, R305 to R308): the checks, placement by
cost, program and data memory. -/
namespace Sys2Proof.Machine
open Sys2Proof

/-! ### The checks of instruction words (R285 to R290) -/

/-- A move field is legal (R286, R283). -/
def moveLegal (v : Nat) : Bool :=
  let m := moveOf v
  if m.kind = 0 then v == 0 else decide (m.mod ≤ 4)

/-- Operand fields a class A operation uses (R287): S1, S2, AD; S1 without bit 2 for ADDA and SUBA. -/
def classAUses : Nat → Bool × Bool × Bool
  | 0x00 => (false, false, false)
  | 0x01 | 0x02 | 0x03 => (true, true, true)
  | 0x09 | 0x0A | 0x0B => (false, false, true)
  | _ => (true, false, true)

/-- Bits a class B operation names (R288). -/
def classBMask : Nat → Nat
  | 0x00 | 0x01 => 0x03FFFFFF
  | 0x02 => 0x03F0FFFF
  | 0x03 => 0x03FF0000
  | 0x04 | 0x05 | 0x07 | 0x08 | 0x09 => 0x03E00000
  | 0x06 => 0x0300007F
  | 0x0A | 0x0C => 0x00003FFF
  | 0x0B => 0x03C03FFF
  | 0x0D | 0x0F => 0
  | 0x0E => 0x03FFFFFF
  | 0x10 => 3
  | _ => 7

/-- An instruction word passes the checks of its own fields in a block of `n` words (R283 to R290). -/
def wordLegal (n w : Nat) : Bool :=
  let op := bits w 30 26
  if !bit w 31 then
    let u := classAUses op
    decide (op ≤ 0x0C) && moveLegal (bits w 17 9) && moveLegal (bits w 8 0) && (u.1 || bits w 23 21 == 0) && (u.2.1 || bits w 20 18 == 0) &&
      (u.2.2 || bits w 25 24 == 0) && !((op == 7 || op == 8) && bit w 23)
  else
    decide (op ≤ 0x11) && (w &&& (0x03FFFFFF ^^^ classBMask op)) == 0 &&
    match op with
    | 0x02 =>
      let t := bits w 25 21
      decide (t < 24) && !(bit w 20 && decide (8 ≤ t)) && !(decide (t < 8) && bit w 15) && !(decide (16 ≤ t) && bit w 15 && bits w 14 4 != 0)
    | 0x06 => decide (-56 ≤ signed 7 (bits w 6 0)) && decide (signed 7 (bits w 6 0) ≤ 55)
    | 0x0A | 0x0C => decide (bits w 13 0 < n)
    | 0x0B => decide (bits w 13 0 < n) && decide (bits w 25 22 ≤ 10)
    | 0x0E => decide (bits w 13 0 < n)
    | _ => true

/-! ### The checks of control structure (R298) -/

/-- Kinds of control word: a branch (JMP, JCC, CALL, RET), DO, END, anything else. -/
inductive Flow where
  | plain | jmp (t : Nat) | jcc (t : Nat) | call (t : Nat) | ret | loop (last : Nat) | fin
  deriving DecidableEq, Repr, Inhabited

/-- The control kind of a word. -/
def flowOf (w : Nat) : Flow :=
  match bits w 31 26 with
  | 0x2A => .jmp (bits w 13 0)
  | 0x2B => if bits w 25 22 = 0 then .jmp (bits w 13 0) else .jcc (bits w 13 0)
  | 0x2C => .call (bits w 13 0)
  | 0x2D => .ret
  | 0x2E => .loop (bits w 13 0)
  | 0x2F => .fin
  | _ => .plain

/-- Words reached from a work list; `calls`: paths into called routines are followed too. -/
def flowReach (ws : List Nat) (calls : Bool) : Nat → List Nat → List Nat → List Nat
  | 0, _, seen => seen
  | _ + 1, [], seen => seen
  | n + 1, p :: t, seen =>
    if seen.contains p then flowReach ws calls n t seen
    else match ws[p]? with
      | none => flowReach ws calls n t seen
      | some w =>
        let next := match flowOf w with
          | .plain | .loop _ => [p + 1]
          | .jmp x => [x]
          | .jcc x => [x, p + 3]
          | .call x => if calls then [x, p + 3] else [p + 3]
          | .ret | .fin => []
        let slots := match flowOf w with
          | .jmp _ | .jcc _ | .call _ | .ret => [p + 1, p + 2]
          | _ => []
        flowReach ws calls n (next ++ t) (p :: (slots.filter (fun x => !seen.contains x && decide (x < ws.length)) ++ seen))

/-- Everything reached from a word. -/
def reachFrom (ws : List Nat) (calls : Bool) (p : Nat) : List Nat := flowReach ws calls (4 * ws.length + 4) [p] []

/-- The call graph below a routine's entry is free of cycles and no deeper than `n`, and no END is reached before its RET (R298). -/
def callsOk (ws : List Nat) : Nat → Bool → Nat → Bool
  | 0, _, _ => false
  | n + 1, top, p =>
    let r := reachFrom ws false p
    (top || r.all fun x => flowOf (ws.getD x 0) != .fin) &&
    r.all fun x => match flowOf (ws.getD x 0) with
      | .call t => callsOk ws n false t
      | _ => true

/-- The control structure of a block (R298), on every path from ENTRY. -/
def structureOk (ws : List Nat) (entry : Nat) : Bool :=
  let r := reachFrom ws true entry
  let f (p : Nat) : Flow := flowOf (ws.getD p 0)
  let isBranch (p : Nat) : Bool := match f p with | .jmp _ | .jcc _ | .call _ | .ret => true | _ => false
  let isCtl (p : Nat) : Bool := f p != .plain
  let dos := r.filterMap fun p => match f p with | .loop l => some (p + 1, l) | _ => none
  let inside (d : Nat × Nat) (p : Nat) : Bool := decide (d.1 ≤ p) && decide (p ≤ d.2)
  r.all (fun p => !isBranch p || (!isCtl (p + 1) && !isCtl (p + 2))) &&
  dos.all (fun d => decide (d.1 ≤ d.2) && !isCtl d.2 && (d.2 == d.1 || !isCtl (d.2 - 1))) &&
  dos.all (fun d => dos.all fun e => !(inside d (e.1 - 1) && decide (d.2 ≤ e.2))) &&
  dos.all (fun d => decide ((dos.filter fun e => inside e (d.1 - 1)).length < 4)) &&
  r.all (fun p => match f p with
    | .jmp t | .jcc t => dos.all fun d => inside d t == inside d p || (inside d p && p + 2 == d.2)
    | .fin => dos.all fun d => !inside d p
    | _ => true) &&
  callsOk ws 5 true entry

/-! ### The code block (R305, R306) -/

/-- The program words of a code block. -/
def cbWords (b : Bytes) : List Nat := (chunks 4 (le b 8 2) (b.drop 32)).map fun w => leNat w
/-- The Left data words. -/
def cbLeft (b : Bytes) : List Nat := (chunks 4 (le b 12 2) (b.drop (32 + 4 * le b 8 2))).map fun w => leNat w
/-- The Right data words. -/
def cbRight (b : Bytes) : List Nat := (chunks 4 (le b 14 2) (b.drop (32 + 4 * (le b 8 2 + le b 12 2)))).map fun w => leNat w

/-- The checks of a code block but the last (R306): status and failing word index. -/
def codeCheck (b : Bytes) : Option (Status × Nat) :=
  let n := le b 8 2
  let ws := cbWords b
  let v10 := resChecked (le b 4 2)
  if slice b 0 4 ≠ magic 'P' 'S' 'A' 'V' then some (.badField, 0)
  else if v10 ∧ (le b 6 2 ≠ 0 ∨ le b 19 1 ≠ 0 ∨ le b 22 2 ≠ 0 ∨ le b 28 4 ≠ 0 ∨ le b 18 1 / 8 ≠ 0) then some (.badField, 0)
  else if le b 5 1 ≠ 1 then some (.version, 0)
  else if (crc32c (b.drop 32)).toNat ≠ le b 24 4 then some (.checksum, 0)
  else if n = 0 ∨ 16384 < n ∨ n ≤ le b 10 2 ∨ 30720 < le b 12 2 ∨ 30720 < le b 14 2 ∨ le b 16 1 < 6 ∨ 12 < le b 16 1 ∨ le b 17 1 < 6 ∨
      12 < le b 17 1 ∨ le b 20 2 < 4 ∨ b.length ≠ 32 + 4 * (n + le b 12 2 + le b 14 2) then some (.range, 0)
  else match ws.findIdx? (fun w => !wordLegal n w) with
    | some i => some (.badField, i)
    | none =>
      match (cbLeft b ++ cbRight b).findIdx? (fun w => decide (16777216 ≤ w)) with
      | some i => some (.badField, n + i)
      | none => if structureOk ws (le b 10 2) then none else some (.badField, le b 10 2)

/-! ### Placement (R307, R319) -/

/-- Cycles of a standard law's tick (R319), without a tuning test. -/
def lawCost (d : Bytes) : Nat :=
  (match ldLaw d with | 2 => 22 | 3 => 96 | 4 => 58 | _ => 48) + (if ldOpt d 0 then 26 else 0) + (if ldOpt d 1 then 14 else 0) +
  (match ldModel d, ldStates d with
    | 1, _ => 34 | 2, _ => 40 | 3, 1 => 30 | 3, 2 => 44 | 3, 3 => 62 | 3, _ => 84 | _, _ => 0)

/-- Extra cycles of a running test (R319). -/
def tuneCost (q : Bytes) : Nat := if 4 ≤ le q 0 1 then 30 else 12

/-- A test runs on a loop (R344). -/
def tuneRuns (l : Loop) : Bool := l.tune.state == .recording || l.tune.state == .injecting

/-- Cost c of a loop with a descriptor (R319). -/
def loopCost (d : Bytes) (test : Nat) : Nat := if ldLaw d = 0x80 then le d (1024 + 20) 2 else lawCost d + test

/-- The loops on a core but one: cost, period, delay; each where its descriptor in force or awaited stands. -/
def coreLoops (s : State) (core but : Nat) : List (Nat × Nat × Nat × Nat) :=
  s.anv.loop.entries.flatMap fun e =>
    if e.1 = but then []
    else
      let l := e.2
      let a := match l.desc with
        | some d => if l.core = core ∧ !l.coreLost then
            [(l.slot, loopCost d (if tuneRuns l then tuneCost l.tune.req else 0), ldPeriod d, ldDelay d)] else []
        | none => []
      let b := match l.next with
        | some n => if n.core = core then [(n.slot, loopCost n.desc 0, ldPeriod n.desc, ldDelay n.desc)] else []
        | none => []
      a ++ b

/-- A core with these loops is admissible (R319). -/
def admissible (l : List (Nat × Nat × Nat)) : Bool :=
  let util : Rat := (l.map fun x => ((x.1 + 49 : Nat) : Rat) / ((x.2.1 * 1200 : Nat) : Rat)).foldl (· + ·) 0
  let total : Rat := (l.map fun x => ((x.1 + 49 : Nat) : Rat) / ((12 : Rat) / 10)).foldl (· + ·) 0
  decide (util ≤ 9 / 10) && l.all (fun x => decide (141 + total ≤ (x.2.2 : Rat))) &&
    (!l.any (fun x => decide (x.2.1 < 20)) || decide (l.length ≤ 4))

/-- The core slot a loop gets on a core (R319): the lowest free one, where the core stays admissible. -/
def placeOn (s : State) (core but : Nat) (d : Bytes) (test : Nat) : Option Nat :=
  if 64 ≤ core ∨ (anvC s core).retired then none
  else
    let l := coreLoops s core but
    if admissible ((loopCost d test, ldPeriod d, ldDelay d) :: l.map (·.2)) then (List.range 16).find? fun k => !l.any (·.1 == k) else none

/-- Places in use on a core, of every loop but one: program run, Left and Right regions as (first, length). -/
def usedRuns (s : State) (core but : Nat) : List AnvPlace :=
  s.anv.loop.entries.flatMap fun e =>
    let a := if e.2.desc.isSome && e.2.core == core && e.1 != but then e.2.place.toList else []
    let b := match e.2.next with | some n => if n.core = core ∧ e.1 ≠ but then n.place.toList else [] | none => []
    a ++ b

/-- The lowest aligned run of `n` words free of the runs `used` (first, length), below `top`. -/
def freeRun (used : List (Nat × Nat)) (align n top : Nat) : Nat → Nat → Option Nat
  | 0, _ => none
  | fuel + 1, p =>
    if top < p + n then none
    else match used.find? (fun u => decide (0 < u.2) && decide (p < u.1 + u.2) && decide (u.1 < p + n)) with
      | some u => freeRun used align n top fuel ((u.1 + u.2 + align - 1) / align * align)
      | none => some p

/-- A code block's place on a core (R306, R307): a resident block of the same bytes is shared. -/
def placeCode (s : State) (core but : Nat) (b : Bytes) : Option AnvPlace :=
  let us := usedRuns s core but
  let ws := cbWords b
  let prog := match us.find? (fun p => p.words == ws) with
    | some p => some p.base
    | none => freeRun (us.map fun p => (p.base, p.words.length)) 1 ws.length 16384 (us.length + 1) 0
  let l := freeRun (us.map fun p => (p.lbase, p.lwords)) (2 ^ le b 16 1) (le b 12 2) 30720 (us.length + 1) 0
  let r := freeRun (us.map fun p => (p.rbase, p.rwords)) (2 ^ le b 17 1) (le b 14 2) 30720 (us.length + 1) 0
  match prog, l, r with
  | some p, some l, some r => some ⟨ws, le b 10 2, le b 18 1 % 8, le b 20 2, p, l, le b 12 2, r, le b 14 2⟩
  | _, _, _ => none

/-- Write a list of words from an address. -/
def writeWords (m : SMap Nat) : Nat → List Nat → SMap Nat
  | _, [] => m
  | a, w :: t => writeWords (m.set a w) (a + 1) t

/-- The code and initial data of a block are written to its core (R307). -/
def writeCode (s : State) (core : Nat) (p : AnvPlace) (b : Bytes) : State :=
  anvUpd s core fun k => { k with
    pmem := writeWords k.pmem p.base p.words
    left := writeWords k.left p.lbase (cbLeft b)
    right := writeWords k.right p.rbase (cbRight b) }

/-- A fresh context (R299): zero but for SC. -/
def freshCtx (p : Option AnvPlace) : SMap Nat := match p with | some x => (SMap.empty : SMap Nat).set kSC x.scale | none => SMap.empty

/-- Mask of the outputs whose KIND is POINT (R303). -/
def outMask (d : Bytes) : Nat := (List.range 8).foldl (fun a n => if (ldOut d n).kind = 1 then a + 2 ^ n else a) 0

/-- The outgoing words of a slot's I/O area when a loop is loaded or a block takes effect (R303). -/
def resetIo (s : State) (core slot : Nat) (d : Bytes) : State :=
  anvUpd s core fun k => { k with
    left := ((writeWords k.left (ioBase slot + 16) (List.replicate 8 0)).set (ioBase slot + 24) (outMask d)).set (ioBase slot + 25) 0 }

/-! ### The descriptor's checks (R318) -/

/-- An event of the loops: loop slot, mode, action, core, reason, and a byte offset where one belongs to it (R350). -/
def loopEvent (s : State) (k : EvKind) (n mode action core reason : Nat) : State :=
  event s k [(2, n), (1, mode), (1, action), (2, core), (1, reason)]

/-- Offsets of the inputs a law and its options need (R314, R318). -/
def needIns (d : Bytes) : List Nat :=
  (match ldLaw d with
    | 1 => [0, 1] | 2 => [0] | 3 => [0, 1, 3, 4] | 4 => [0, 1, 2] | _ => []) ++ (if ldOpt d 0 ∧ ldLaw d ≠ 0x80 then [2] else [])

/-- A gain set's ranges (R317, R324). -/
def gainRange (d : Bytes) (o : Nat) : Option Nat :=
  let v (i : Nat) : Rat := r64 d (o + 8 * i)
  let bad (i : Nat) (c : Bool) : Option Nat := if c then some (o + 8 * i) else none
  (List.range 10).findSome? (fun i => bad i (!r64ok d (o + 8 * i))) <|>
  bad 1 (decide (v 1 < 0)) <|> bad 2 (decide (v 2 < 0)) <|> bad 3 (decide (v 3 < 0) || (decide (0 < v 2) && v 3 == 0)) <|>
  bad 4 (decide (v 4 < 0) || decide (1 < v 4)) <|> bad 5 (decide (v 5 < 0) || decide (1 < v 5)) <|> bad 6 (decide (v 6 < 0)) <|>
  bad 7 (decide (v 7 < -1)) <|> bad 8 (decide (v 8 ≤ v 7) || decide (1 ≤ v 8)) <|> bad 9 (decide (v 9 < 0)) <|>
  (if (pidExact d o).any (fun q => !coefFits q) then some o else none)

/-- Number of model parameters in use (R337). -/
def parCount (d : Bytes) : Nat :=
  match ldModel d with
  | 1 => 2 | 2 => 4 | 3 => ldStates d * ldStates d + 3 * ldStates d | _ => 0

/-- Ranges of the supervision fields (R336, R337). -/
def superRange (d : Bytes) : Option Nat :=
  let n := ldStates d
  if (if ldModel d = 3 then n = 0 ∨ 4 < n else n ≠ 0) then some 545
  else if ldPersist d = 0 then some 546
  else if 256 < ldDead d then some 548
  else if !r64ok d 552 ∨ r64 d 552 ≤ 0 then some 552
  else if !r64ok d 560 ∨ r64 d 560 < 0 ∨ 1 < r64 d 560 then some 560
  else match (List.range 28).find? (fun i => !r64ok d (576 + 8 * i) ||
      (if i < parCount d then !coefFits (ldPar d i) else ldModel d == 3 && ldPar d i != 0)) with
    | some i => some (576 + 8 * i)
    | none => if ldModel d = 1 ∧ (ldPar d 1 ≤ 0 ∨ !coefFits (ldPar d 0)) then some 584 else none

/-- Ranges of the whole descriptor (R313, R317, R336). -/
def loopRange (d : Bytes) : Option Nat :=
  let p := ldPeriod d
  let std := decide (ldLaw d ≠ 0x80)
  let bad (o : Nat) (c : Bool) : Option Nat := if c then some o else none
  let first : Option Nat :=
    bad 8 (le d 8 4 != d.length || (std && d.length != 1024) || (!std && decide (d.length ≤ 1056))) <|>
    bad 18 (decide (63 < ldHome d)) <|> bad 19 (decide (63 < ldFallback d) && ldFallback d != 0xFF) <|>
    bad 20 (decide (p < 10) || decide (10000000 < p)) <|> bad 24 (decide (p ≤ ldPhase d)) <|>
    bad 28 (decide (ldDelay d < 500) || decide (min (p * 1000) 1000000000 < ldDelay d)) <|>
    bad 32 (ldPubDiv d == 0) <|> bad 34 (decide (2 < ldInitMode d)) <|>
    bad 36 (le d 36 4 != (if std then 0 else 1024)) <|> bad 40 (decide ((if std then 0 else 472) < ldResWords d)) <|>
    ((List.range 8).findSome? fun n =>
      bad (64 + 16 * n) ((ldIn d n).kind != 0 && ((real32Val (le d (64 + 16 * n + 8) 4)).isNone || (ldIn d n).span == 0))) <|>
    ((List.range 8).findSome? fun n => bad (192 + 16 * n) ((ldOut d n).kind != 0 &&
      ((real32Val (le d (192 + 16 * n + 8) 4)).isNone || (real32Val (le d (192 + 16 * n + 12) 4)).isNone)))
  let dyn : Option Nat :=
    if ldOpt d 0 ∨ ldLaw d = 2 then
      bad 496 (!r64ok d 496 || !r64ok d 504 || !r64ok d 512) <|> bad 504 (decide (r64 d 504 < 0)) <|> bad 512 (decide (r64 d 512 < 0)) <|>
      bad 496 (!coefFits (r64 d 496 * (2 * r64 d 504 + ldTs d) / (2 * r64 d 512 + ldTs d)) ||
        !coefFits (r64 d 496 * (ldTs d - 2 * r64 d 504) / (2 * r64 d 512 + ldTs d)))
    else none
  let split : Option Nat :=
    if ldOpt d 1 then (List.range 4).findSome? fun i => bad (528 + 4 * i) ((real32Val (le d (528 + 4 * i) 4)).isNone ||
      !coefFits (r32 d (528 + 4 * i))) else none
  first <|> (if std then gainRange d 336 else none) <|> (if ldLaw d = 3 then gainRange d 416 else none) <|> (if std then dyn else none) <|>
    (if ldLaw d = 4 then bad 520 (!r64ok d 520 || !coefFits (r64 d 520)) else none) <|> (if std then split else none) <|> superRange d

/-- Reserved fields and undefined codes (R313 to R316, R336). -/
def loopField (d : Bytes) : Option Nat :=
  let v10 := resChecked (le d 4 2)
  let bad (o : Nat) (c : Bool) : Option Nat := if c then some o else none
  bad 0 (slice d 0 4 != magic 'P' 'S' 'L' 'P' || decide (d.length < 1024)) <|>
  bad 16 (!([1, 2, 3, 4, 0x80].contains (ldLaw d))) <|>
  bad 6 (v10 && le d 6 2 != 0) <|> bad 17 (v10 && decide (63 < le d 17 1)) <|> bad 35 (v10 && le d 35 1 != 0) <|>
  bad 47 (v10 && le d 47 1 != 0) <|> bad 48 (v10 && !allZero (slice d 48 16)) <|>
  ((List.range 8).findSome? fun n =>
    let i := ldIn d n
    let o := 64 + 16 * n
    bad o (decide (4 < i.kind)) <|> bad (o + 1) (if i.kind = 2 then decide (15 < i.sub) && i.sub != 0xFF else i.sub != 0) <|>
      bad (o + 2) (v10 && le d (o + 2) 2 != 0)) <|>
  ((List.range 8).findSome? fun n =>
    let o := 192 + 16 * n
    bad o (decide (1 < (ldOut d n).kind)) <|> bad (o + 1) (v10 && !allZero (slice d (o + 1) 3))) <|>
  bad 416 (ldLaw d != 3 && ldLaw d != 0x80 && !allZero (slice d 416 80)) <|>
  bad 544 (decide (3 < ldModel d)) <|> bad 547 (decide (3 < ldAction d)) <|> bad 568 (v10 && !allZero (slice d 568 8)) <|>
  bad 800 (v10 && !allZero (slice d 800 224))

/-- Types and presence of inputs and outputs (R315, R316, R318). -/
def loopTypes (s : State) (d : Bytes) : Option Nat :=
  let inT (t : PType) : Bool := [PType.int32, .uint32, .int64, .real32, .real64, .fix24].contains t
  let outT (t : PType) : Bool := [PType.int32, .real32, .real64, .fix24].contains t
  ((needIns d).find? fun n => (ldIn d n).kind == 0).map (64 + 16 * ·) <|>
  (List.range 8).findSome? (fun n => let i := ldIn d n
    if i.kind = 1 ∧ mapped s i.ref ∧ !inT (pointType s i.ref) then some (64 + 16 * n) else none) <|>
  (List.range 8).findSome? (fun n => let o := ldOut d n
    if o.kind = 1 ∧ mapped s o.id ∧ !outT (pointType s o.id) then some (192 + 16 * n) else none) <|>
  (List.range 4).findSome? (fun n => let id := ldPub d n
    if id ≠ 0 ∧ mapped s id ∧ !(if n = 3 then pointType s id == .uint32 else outT (pointType s id)) then some (320 + 4 * n) else none)

/-- The references exist (R318). -/
def loopTargets (s : State) (d : Bytes) : Option Nat :=
  (List.range 8).findSome? (fun n => let i := ldIn d n
    let ok : Bool := match i.kind with
      | 1 => mapped s i.ref
      | 2 => decide (i.ref < 16)
      | 3 | 4 => decide (i.ref < 32)
      | _ => true
    if ok then none else some (64 + 16 * n + 4)) <|>
  (List.range 8).findSome? (fun n => let o := ldOut d n; if o.kind = 1 ∧ !mapped s o.id then some (192 + 16 * n + 4) else none) <|>
  (List.range 4).findSome? (fun n => let id := ldPub d n; if id ≠ 0 ∧ !mapped s id then some (320 + 4 * n) else none)

/-- Class ANV may write the output and publish points (R318). -/
def loopWriters (s : State) (d : Bytes) : Option Nat :=
  let no (id : Nat) : Bool := match mapFind s.pst.map id with | some e => !e.writers.getLsbD wANV | none => false
  (List.range 8).findSome? (fun n => let o := ldOut d n; if o.kind = 1 ∧ no o.id then some (192 + 16 * n + 4) else none) <|>
  (List.range 4).findSome? (fun n => let id := ldPub d n; if id ≠ 0 ∧ no id then some (320 + 4 * n) else none)

/-- A loop descriptor that may be loaded: its core, its core slot, its code's place (R318 to R320). -/
def loopAdmit (s : State) (n : Nat) (d : Bytes) : Except (Status × Nat × Option Nat) (Nat × Nat × Option AnvPlace) :=
  let fail (st : Status) (o : Nat) : Except (Status × Nat × Option Nat) (Nat × Nat × Option AnvPlace) := .error (st, o, none)
  match loopField d with
  | some o => fail .badField o
  | none =>
    if le d 5 1 ≠ 1 then fail .version 4
    else if (crc32c (d.drop 16)).toNat ≠ le d 12 4 then fail .checksum 12
    else match loopRange d, loopTypes s d, loopTargets s d, loopWriters s d with
      | some o, _, _, _ => fail .range o
      | none, some o, _, _ => fail .badField o
      | none, none, some o, _ => fail .noTarget o
      | none, none, none, some o => fail .denied o
      | none, none, none, none =>
        match placeOn s (ldHome d) n d 0 with
        | none => fail .noResource 18
        | some k =>
          if ldLaw d ≠ 0x80 then .ok (ldHome d, k, none)
          else
            let b := d.drop 1024
            match codeCheck b with
            | some (st, i) => .error (st, 1024, some i)
            | none => match placeCode s (ldHome d) n b with
              | none => .error (.noResource, 1024, some 0)
              | some p => .ok (ldHome d, k, some p)

end Sys2Proof.Machine
end

