-- ==== Sys2Proof/Machine/LoopOps.lean ====
section
/-! DEFINITION. A loop's sample and its outputs (10_loops R315, R320 to R323, R330 to R346): reading inputs, mode changes, supervision, tuning
tests, what a launch writes. -/
namespace Sys2Proof.Machine
open Sys2Proof

/-- The descriptor of a loaded loop. -/
def ldesc (l : Loop) : Bytes := l.desc.getD []

/-! ### Inputs (R315, R321) -/

/-- A point as it stood at T0 − 0.3 µs (R321). -/
def pointBefore (s : State) (id t0 : Nat) : PointRec :=
  match (s.pst.recent.filter fun e => e.1 == id && decide (t0 < e.2.1 + 300)).getLast? with
  | some e => e.2.2
  | none => recordAt s id t0

/-- A raw value normalised and saturated, as FIX24 (R315). -/
def normIn (i : LoopIn) (v : Rat) : Int := clampI (-8388608) 8388607 (floorQ ((v - i.zero) / i.span * 8388608))

/-- One input at T0 (R321): its FIX24 value and whether it is usable. A value the sources do not give is free. -/
def readIn (s : State) (period t0 : Nat) (i : LoopIn) : (Int × Bool) × State :=
  let free (s : State) (usable : Bool) : (Int × Bool) × State :=
    let (f, s) := drawFree s
    ((signed 24 f.toNat, usable), s)
  match i.kind with
  | 1 =>
    let r := pointBefore s i.ref t0
    let usable := mapped s i.ref && !unusable r.qual && !isStale r t0
    match recNum r with
    | some v => ((normIn i v, usable), s)
    | none => free s usable
  | 2 =>
    match cnvLatest s i.ref i.sub t0 with
    | some (q, r, bad) => ((normIn i ((r : Rat) / 8388608), !bad && decide (4 * t0 ≤ q + 8000 * period)), s)
    | none => free s false
  | 3 | 4 =>
    let ((v, usable), s) := fbkRead s i.ref t0 (i.kind == 4)
    ((normIn i v, usable), s)
  | _ => ((0, false), s)

/-- The eight inputs of a loop at T0. -/
def readIns (s : State) (d : Bytes) (t0 : Nat) : List (Int × Bool) × State :=
  (List.range 8).foldl (fun (a : List (Int × Bool) × State) n =>
    let (x, s) := readIn a.2 (ldPeriod d) t0 (ldIn d n)
    (a.1 ++ [x], s)) ([], s)

/-! ### Tuning tests (R344 to R346) -/

/-- The PV a test fits: IN0, or IN3 for CASCADE (R345). -/
def fitPv (d : Bytes) (ins : List Int) : Int := ins.getD (if ldLaw d = 3 then 3 else 0) 0

/-- A test is aborted (R346). -/
def tuneAbort (s : State) (n : Nat) : State :=
  let l := loopOf s n
  if !tuneRuns l then s
  else
    let s := loopUpd s n fun l => { l with tune := { l.tune with state := .aborted, cmd := none } }
    let s := recorderEnd s (le l.tune.req 3 1)
    let s := match l.tune.cmd with | some h => endCmd s h .aborted 0 0 | none => s
    loopEvent (bump s cLoopTuneAborts) evTuneAborted n l.mode.code 0 l.core 0

/-- A test's value for a sample (R344 to R346): injection starts after PRE_SAMPLES, and ends with the signal. -/
def tuneSample (s : State) (n : Nat) (ins : List Int) : (Int × Bool) × State :=
  let l := loopOf s n
  let d := ldesc l
  let q := l.tune.req
  let pre := le q 8 4
  let pv := fitPv d ins
  if !tuneRuns l then ((0, false), s)
  else if l.tune.state = .injecting ∧ signed 24 (le q 48 3) < (pv - l.tune.pv0).natAbs then ((0, false), tuneAbort s n)
  else
    let s := if l.tune.state = .recording ∧ l.tune.n = pre then
        let s := loopUpd s n fun l => { l with tune := { l.tune with state := .injecting, pv0 := pv, cmd := none } }
        let s := recorderTrig s (le q 3 1) s.tmb.now
        match l.tune.cmd with | some h => endCmd s h .ok 0 0 | none => s
      else s
    if l.tune.n < pre ∨ pre + signalLen q (ldTs d) ≤ l.tune.n then ((0, false), s)
    else
      let k := l.tune.n - pre
      let (v, s) := signalAt s q (ldTs d) k l.tune.lfsr
      let s := if le q 0 1 = 3 ∧ (k + 1) % le q 4 4 = 0 then
          loopUpd s n fun l => { l with tune := { l.tune with lfsr := prbsShift (le q 2 1) l.tune.lfsr } } else s
      ((v, true), s)

/-- A test records a sample and, after the last one, goes to its fit (R345, R347). -/
def tuneRecord (s : State) (n : Nat) (x : LoopSample) (usable : Bool) : State :=
  let l := loopOf s n
  if !tuneRuns l ∨ !x.testing then s
  else
    let q := l.tune.req
    let ch := le q 3 1
    let pv := fitPv (ldesc l) x.ins
    let s := recorderPut s ch (leBytes 8 x.t0 ++ leBytes 4 (unsigned 24 (toFix24 x.u)) ++ leBytes 4 (unsigned 24 pv) ++
      leBytes 4 (unsigned 24 x.inj) ++ leBytes 1 (b2n usable + 2 * b2n x.limited + 4 * b2n x.injecting) ++ zeros 11)
    let s := loopUpd s n fun l => { l with tune := { l.tune with n := l.tune.n + 1, recs := l.tune.recs ++ [(toFix24 x.u, pv)] } }
    if le q 8 4 + signalLen q (ldTs (ldesc l)) + le q 12 4 ≤ l.tune.n + 1 then
      recorderEnd (loopUpd s n fun l => { l with tune := { l.tune with state := .fitting } }) ch
    else s

/-! ### Holding, backing up, quenching (R338, R339) -/

/-- HOLD latches (R339); `sup`: supervision caused it. -/
def loopHold (s : State) (n : Nat) (sup : Bool) (action : Nat) : State :=
  let l := loopOf s n
  if l.hold then s
  else
    let s := loopUpd s n fun l => { l with hold := true, holdImplaus := sup }
    loopEvent (bump s cLoopHolds) evLoopHold n l.mode.code action l.core 0

/-- A loop becomes implausible (R338): IMPLAUS, its count and event, and ACTION. -/
def loopImplaus (s : State) (n : Nat) : State :=
  let l := loopOf s n
  let d := ldesc l
  if l.implaus ∨ l.desc.isNone then s
  else
    let s := tuneAbort s n
    let s := loopUpd s n fun l => { l with implaus := true, good := 0 }
    let s := loopEvent (bump s cLoopImplausDeclared) evLoopImplaus n l.mode.code (ldAction d) l.core 0
    match ldAction d with
    | 1 => loopHold s n true 1
    | 2 =>
      if l.backup ∨ (ldIn d 7).kind = 0 ∨ !((l.open'.headD default).okMask.testBit 7) then loopHold s n true 2
      else
        let s := loopUpd s n fun l => { l with backup := true, transfer := true, preset := true }
        loopEvent (bump s cLoopBackups) evLoopBackup n l.mode.code 2 l.core 0
    | 3 =>
      let s := loopHold s n true 3
      let s := loopUpd s n fun l => { l with quench := true }
      let s := loopEvent (bump s cLoopQuenches) evLoopQuench n l.mode.code 3 l.core 0
      qchFromLoop s n (ldQch d)
    | _ => s

/-- Supervision of a sample with law output u (R336 to R338). -/
def loopSupervise (s : State) (n : Nat) (x : LoopSample) : State :=
  let l := loopOf s n
  let d := ldesc l
  let y := fx (x.ins.getD 0 0)
  let usable := x.okMask.testBit 0
  let (yh, m) := modelStep d l.law.model l.law.us
  let rho := if ldModel d = 0 then 0 else y - yh
  let ovr := ldModel d != 0 && decide (r64 d 552 < absQ ((rho : Rat) / ((2 ^ 47 : Nat) : Rat)))
  let bad := ovr || !usable
  let s := if ovr then bump s cLoopResidualExceed else s
  let s := loopUpd s n fun l => { l with
    law := { l.law with model := modelFix d m rho, us := (x.u :: l.law.us).take (ldDead d + 3) }
    resid := toFix24 rho
    count := if bad then min (l.count + 1) 255 else 0
    good := if l.implaus && !bad then l.good + 1 else 0 }
  let l := loopOf s n
  if !l.implaus then (if ldPersist d ≤ l.count then loopImplaus s n else s)
  else if ldAction d = 0 ∧ ldPersist d ≤ l.good then
    loopEvent (loopUpd s n fun l => { l with implaus := false, good := 0 }) evLoopPlausible n l.mode.code 0 l.core 0
  else s

/-! ### Mode requests (R331 to R335, R339) -/

/-- A request is taken at a sample (R333): `usable` tells IN0 and IN7 apart from unusable ones. -/
def modeTake (s : State) (n t0 : Nat) (usable : Bool) (r : ModeReq) : State :=
  let l := loopOf s n
  let d := ldesc l
  let reply (s : State) (st : Status) : State := match r.cmd with
    | some h => loopUpd s n fun l => { l with replies := l.replies ++ [(t0, h, st)] }
    | none => s
  match r.mode with
  | none => loopUpd s n fun l => { l with man := r.man.getD l.man }
  | some m =>
    if m ≠ .man ∧ !usable then reply s .staleInput
    else
      let latched := l.hold || l.backup || l.quench
      let changed := decide (m ≠ l.mode)
      let s := if changed then tuneAbort s n else s
      let s := if l.quench then qchLoopEnds s n else s
      let track := ldOpt d 4 && l.mode == .cas && m == .auto
      let s := loopUpd s n fun l => { l with
        mode := m
        man := r.man.getD (if m = .man ∧ l.mode ≠ .man then toFix24 l.law.out else l.man)
        hold := l.coreLost
        holdImplaus := l.coreLost
        backup := false
        quench := false
        implaus := l.implaus && !latched
        count := if latched then 0 else l.count
        good := if latched then 0 else l.good
        stops := if latched then 0 else l.stops
        transfer := l.transfer || changed }
      let s := if track then loopUpd s n fun l => { l with open' := l.open'.map (fun x => if x.t0 = t0 then { x with track := some l.law.sp } else x) }
        else s
      reply (if changed then loopEvent (bump s cLoopModeChanges) evLoopModeChange n m.code 0 l.core 0 else s) .ok

/-! ### Unloading and switching descriptors (R320) -/

/-- The value a point of a type takes from an output of an entry's scaling (R316). -/
def outValue (s : State) (id : Nat) (zero span : Rat) (q : Int) : Val :=
  (numTo (pointType s id) (zero + span * ((q : Rat) / 8388608))).val

/-- A write of a loop (R322). -/
def loopWrite (n id t0 : Nat) (v : Val) (q : BitVec 16) : PWrite := ⟨id, v, none, some t0, q, wANV, n, false⟩

/-- LAW NONE takes effect (R320): each output point once with its last value and HELD; the core slot is free. -/
def loopUnload (s : State) (n t0 : Nat) : State :=
  let l := loopOf s n
  let d := ldesc l
  let ws := (List.range 8).filterMap fun i =>
    let o := ldOut d i
    if o.kind = 1 then some (loopWrite n o.id t0 (s.pst.points.get o.id).value (qVALID ||| qHELD)) else none
  let s := if l.quench then qchLoopEnds s n else s
  let s := writeGroup s ws
  let s := l.replies.foldl (fun s r => endCmd s r.2.1 r.2.2 0 0) s
  let s := l.reqs.foldl (fun s r => match r.cmd with | some h => endCmd s h .state 0 0 | none => s) s
  { s with
    anv := { s.anv with loop := s.anv.loop.set n default }
    hdl := { s.hdl with writes := s.hdl.writes ++ [.loop n none] } }

/-- A descriptor that waits takes effect (R320): mode and manual output carry over, a standard law keeps its output. -/
def loopSwitch (s : State) (n : Nat) (x : LoopNext) : State :=
  let s := anvUpd s x.core fun k => { k with ctx := k.ctx.set x.slot (freshCtx x.place) }
  let s := resetIo s x.core x.slot x.desc
  loopUpd s n fun l => { l with
    desc := some x.desc
    core := x.core
    slot := x.slot
    place := x.place
    next := none
    relocated := false
    coreLost := false
    transfer := true
    preset := true
    count := 0
    good := 0
    implaus := false
    resid := 0
    law := { (default : LawState) with
      out := l.law.out
      sp := l.law.sp
      a := { (default : PidState) with u := l.law.sp }
      b := { (default : PidState) with u := l.law.out } }
    tune := default }

end Sys2Proof.Machine
end

