-- ==== Sys2Proof/Machine/MotOps.lean ====
section
/-! DEFINITION. The Motion Engine's shared operations (13_motion R408 to R427): the commanded position, faults and rest, the reference event
of homing, step schedules, the checks of a tick. -/
namespace Sys2Proof.Machine
open Sys2Proof

/-! ### The descriptor (R410) -/

/-- An axis. -/
def axOf (s : State) (n : Nat) : Axis := s.mot.ax.get n
/-- Change an axis. -/
def axUpd (s : State) (n : Nat) (f : Axis → Axis) : State := { s with mot := { s.mot with ax := s.mot.ax.upd n f } }
/-- KIND: 0 OFF, 1 STEPPER, 2 SERVO (R409). -/
def adKind (d : Bytes) : Nat := le d 0 1
/-- A bit of FLAGS. -/
def adFlag (d : Bytes) (i : Nat) : Bool := bit (le d 1 1) i
/-- FBK. -/
def adFbk (d : Bytes) : Nat := le d 3 1
/-- LOOP. -/
def adLoop (d : Bytes) : Nat := le d 4 2
/-- STEP_W_NS. -/
def adWidth (d : Bytes) : Nat := le d 6 2
/-- PIN_STEP, PIN_DIR, PIN_ENA, PIN_PWR, PIN_PGOOD, PIN_LIMP, PIN_LIMN, PIN_HOME, numbered 0 to 7. -/
def adPin (d : Bytes) (k : Nat) : Nat := le d (8 + k) 1
/-- TICK_US, in ns. -/
def adTick (d : Bytes) : Nat := 1000 * le d 16 4
/-- DIR_SETUP_NS. -/
def adSetup (d : Bytes) : Nat := le d 20 4
/-- POS_MIN. -/
def adMin (d : Bytes) : Int := les d 24 8
/-- POS_MAX. -/
def adMax (d : Bytes) : Int := les d 32 8
/-- VMAX. -/
def adVmax (d : Bytes) : Int := les d 40 8
/-- AMAX. -/
def adAmax (d : Bytes) : Nat := le d 48 8
/-- FE_LIMIT. -/
def adFeLimit (d : Bytes) : Int := les d 64 8
/-- HOME_POS. -/
def adHomePos (d : Bytes) : Int := les d 100 8
/-- Steps of a full phase cycle: 4 × 2^USTEP_LOG2 (R423). -/
def adCycle (d : Bytes) : Nat := 4 * 2 ^ le d 2 1
/-- The actual position is the feedback position (R418). -/
def adUsesFbk (d : Bytes) : Bool := adKind d == 2 || (adKind d == 1 && adFlag d 1)

/-- An event of the Motion Engine: axis, cause, knot index, method (R428). -/
def motEvent (s : State) (k : EvKind) (n cause knot method : Nat) : State :=
  event s k [(2, n), (1, cause), (4, knot), (1, method)]

/-! ### The commanded position (R414, R419, R421) -/

/-- Position and velocity within a segment of a profile, `t` ns after its first knot (R414). -/
def hermite (a b : Knot) (t : Nat) : Rat × Rat :=
  let h : Rat := ((b.t - a.t : Nat) : Rat) / 1000000
  let x : Rat := (t : Rat) / (1000 * ((b.t - a.t : Nat) : Rat))
  let p0 : Rat := (a.pos : Rat)
  let p1 : Rat := (b.pos : Rat)
  let v0 : Rat := (a.vel : Rat)
  let v1 : Rat := (b.vel : Rat)
  ((2 * x * x * x - 3 * x * x + 1) * p0 + (x * x * x - 2 * x * x + x) * h * v0 + (3 * x * x - 2 * x * x * x) * p1 +
      (x * x * x - x * x) * h * v1,
    (6 * x * x - 6 * x) / h * p0 + (3 * x * x - 4 * x + 1) * v0 + (6 * x - 6 * x * x) / h * p1 + (3 * x * x - 2 * x) * v1)

/-- Position, velocity and segment of a profile `dt` ns after its start; the final knot holds (R414). -/
def profileAt : Nat → List Knot → Nat → Rat × Rat × Nat
  | k, a :: b :: t, dt =>
    if dt < 1000 * b.t then
      let (p, v) := hermite a b (dt - 1000 * a.t)
      (p, v, k)
    else profileAt (k + 1) (b :: t) dt
  | k, [a], _ => ((a.pos : Rat), 0, k - 1)
  | _, [], _ => (0, 0, 0)

/-- Time a change of velocity takes at AMAX, in seconds. -/
def rampTime (amax : Nat) (v0 vt : Rat) : Rat := absQ (vt - v0) / (max amax 1 : Nat)

/-- Commanded position and velocity of an axis at `t`, with the segment of its profile. -/
def axAt (x : Axis) (t : Nat) : Rat × Rat × Nat :=
  match x.traj with
  | .rest => ((x.pos : Rat), 0, x.seg)
  | .profile st ks => profileAt 0 ks (t - st)
  | .toward t0 p0 v0 vt =>
    let dt : Rat := ((t - t0 : Nat) : Rat) / 1000000000
    let a : Rat := ((adAmax x.desc : Nat) : Rat)
    let a : Rat := if vt < v0 then -a else a
    let ta := rampTime (adAmax x.desc) v0 vt
    if dt < ta then (p0 + v0 * dt + a * dt * dt / 2, v0 + a * dt, x.seg)
    else (p0 + (v0 + vt) / 2 * ta + vt * (dt - ta), vt, x.seg)

/-- The motion of an axis is over at `t`: its final knot has passed, or its velocity has fallen to 0. -/
def axDone (x : Axis) (t : Nat) : Bool :=
  match x.traj with
  | .rest => true
  | .profile st ks => decide (st + 1000 * (ks.getLastD default).t ≤ t)
  | .toward t0 _ v0 vt => vt == 0 && decide (rampTime (adAmax x.desc) v0 vt ≤ ((t - t0 : Nat) : Rat) / 1000000000)

/-- The axis accepts motion faults: its driver is on (R427). -/
def axLive (x : Axis) : Bool := match x.state with | .standstill | .moving | .homing | .stopping => true | _ => false

/-- A profile, a homing or a stop runs. -/
def axMoving (x : Axis) : Bool := match x.state with | .moving | .homing | .stopping => true | _ => false

/-- The commanded position and velocity are brought to `t`. -/
def axBring (s : State) (n t : Nat) : State :=
  let (p, v, k) := axAt (axOf s n) t
  axUpd s n fun x => { x with pos := nearestQ p, vel := nearestQ v, seg := k }

/-- Commands that wait for rest complete (R419). -/
def axStopsEnd (s : State) (n : Nat) : State :=
  let l := (axOf s n).stopCmds
  l.foldl (fun s h => endCmd s h .ok 0 0) (axUpd s n fun x => { x with stopCmds := [] })

/-- The commanded position freezes (R419): no further step after a pulse in progress. -/
def axFreeze (s : State) (n : Nat) : State :=
  axUpd (axBring s n s.tmb.now) n fun x => { x with
    vel := 0
    traj := .rest
    sched := []
    running := none }

/-- A homing ends without its reference (R419, R421). -/
def homeEnds (s : State) (n : Nat) (st : Status) : State :=
  match (axOf s n).homing with
  | none => s
  | some h =>
    let s := axUpd s n fun x => { x with homing := none, homed := false }
    match h.cmd with
    | some c => endCmd s c st 0 0
    | none => s

/-- A fault of an axis (R420, R421, R424, R427): an immediate stop and FAULT with its cause. -/
def axFault (s : State) (n cause : Nat) (k : EvKind) : State :=
  let m := match (axOf s n).homing with | some h => h.method | none => 0
  let s := axFreeze s n
  let s := axUpd s n fun x => { x with state := .fault, cause := cause, blk := if x.blk = 1 then 0 else x.blk }
  let s := homeEnds s n .faulted
  axStopsEnd (motEvent s k n cause 0 m) n

/-- Homing fails (R421). -/
def homeFail (s : State) (n : Nat) (st : Status) : State :=
  let s := homeEnds (axFreeze s n) n st
  axFault (bump s cMotHomingFails) n 6 evHomingFailed

/-- Faults of a servo axis, or of a stepper with FBK_CHECK, that do not wait for a tick: its channel and its loop (R427). -/
def axLinks (s : State) (n : Nat) : State :=
  let x := axOf s n
  let d := x.desc
  let c := fbkCh s (adFbk d)
  if !axLive x then s
  else if adUsesFbk d ∧ (c.bad ∨ c.implaus) then axFault s n 5 evAxisFeedbackFault
  else if adKind d = 2 ∧ axMoving x then
    let l := loopOf s (adLoop d)
    if l.desc.isNone ∨ l.hold ∨ l.mode = .man then axFault s n 7 evAxisLoopFault else s
  else s

/-- A channel has become BAD or implausible: the axes on it (R427). -/
def axOnFbk (s : State) (ch : Nat) : State :=
  (List.range 64).foldl (fun s n => if adUsesFbk (axOf s n).desc ∧ adFbk (axOf s n).desc = ch then axLinks s n else s) s

/-- A loop has changed: the servo axes it closes (R427). -/
def axOnLoop (s : State) (slot : Nat) : State :=
  (List.range 64).foldl (fun s n => if adKind (axOf s n).desc = 2 ∧ adLoop (axOf s n).desc = slot then axLinks s n else s) s

/-! ### Actual position, following error, in position (R418, R427) -/

/-- Write a point of an axis as a REAL64 in counts (R410, R426). -/
def axPoint (s : State) (n id : Nat) (v : Int) (q : BitVec 16) : State :=
  if id = 0 then s else blockWrite s wMOT n id (BitVec.ofNat 64 (real64Code ((v : Rat) / 65536))) none q

/-- The actual position at a tick at `t` (R418). -/
def axActual (s : State) (n t : Nat) : Int × State :=
  let x := axOf s n
  if adUsesFbk x.desc then
    let ((p, _), s) := fbkLatch s (adFbk x.desc) t
    (p * 65536 + x.offs, s)
  else (x.steps * 65536, s)

/-- INPOS at a tick (R418). -/
def axInpos (s : State) (n t : Nat) : State :=
  let x := axOf s n
  let within := !axMoving x && decide (((x.pos - x.act).natAbs : Int) ≤ les x.desc 72 8)
  if !within then axUpd s n fun x => { x with inpos := false, inposSince := none }
  else
    let since := x.inposSince.getD t
    let now := decide (since + 1000 * le x.desc 80 4 ≤ t)
    axUpd s n fun x => { x with
      inposSince := some since
      inpos := now
      blk := if now && x.blk == 1 then 2 else x.blk }

/-- A homing by method 3 or 4 runs: its own limit switch is no fault (R421, R427). -/
def ownLimits (x : Axis) : Bool := match x.homing with | some h => h.method == 3 || h.method == 4 | none => false

/-- What a tick looks at once the commanded position is known: the actual position, the following error, the limit switch on the side of
motion, in position (R418, R427). -/
def axChecks (s : State) (n t : Nat) : State :=
  let (a, s) := axActual s n t
  let s := axUpd s n fun x => { x with act := a, fe := x.pos - a }
  let x := axOf s n
  let s := axPoint s n (le x.desc 120 4) a qVALID
  if !axLive x then axInpos s n t
  else if adUsesFbk x.desc ∧ adFeLimit x.desc < (x.fe.natAbs : Int) then axFault (bump s cMotFollowingErrors) n 1 evFollowingError
  else if axMoving x ∧ !ownLimits x ∧ ((0 < x.vel ∧ bit x.lv 0) ∨ (x.vel < 0 ∧ bit x.lv 1)) then
    axFault (bump s cMotHardLimits) n 2 evHardLimit
  else axInpos (axLinks s n) n t

/-! ### Homing (R421) -/

/-- The input that ends phase 1 of a method: 0 LIMP, 1 LIMN, 2 HOME. -/
def homeInput : Nat → Option Nat
  | 1 | 2 | 5 | 6 => some 2
  | 3 => some 0
  | 4 => some 1
  | _ => none

/-- Head for a velocity from the present motion, at AMAX. -/
def axToward (s : State) (n : Nat) (vt : Rat) : State :=
  let (p, v, _) := axAt (axOf s n) s.tmb.now
  axUpd s n fun x => { x with traj := .toward s.tmb.now p v vt, sched := [] }

/-- HOME_SLOW, with its sign in phase 2 of a method. -/
def homeSlow (d : Bytes) (m : Nat) : Rat :=
  let v : Rat := ((les d 92 8 : Int) : Rat)
  if m = 1 ∨ m = 3 ∨ m = 6 then -v else v

/-- HOME_VEL with its sign in phase 1 of a method; HARD_STOP_NEG searches at HOME_SLOW. -/
def homeVel (d : Bytes) (m : Nat) : Rat :=
  if m = 7 then -((les d 92 8 : Int) : Rat)
  else if m = 1 ∨ m = 3 ∨ m = 5 then ((les d 84 8 : Int) : Rat) else -((les d 84 8 : Int) : Rat)

/-- Phase 2 starts. -/
def homePhase2 (s : State) (n : Nat) (h : Homing) : State :=
  let s := axToward s n (homeSlow (axOf s n).desc h.method)
  let p := (axAt (axOf s n) s.tmb.now).1
  axUpd s n fun x => { x with homing := some { h with phase := 2, from' := p } }

/-- The reference event: the position `at'` becomes HOME_POS; the axis decelerates to rest. -/
def homeReference (s : State) (n : Nat) (h : Homing) (at' : Rat) : State :=
  let s := axToward s n 0
  let x := axOf s n
  let dq : Rat := (adHomePos x.desc : Rat) - at'
  axUpd s n fun x => { x with
    homing := some { h with phase := 3 }
    traj := match x.traj with | .toward t0 p0 v0 vt => .toward t0 (p0 + dq) v0 vt | y => y
    offs := x.offs + nearestQ dq
    steps := floorQ (((axAt x s.tmb.now).1 + dq) / 65536 + 1 / 2) }

/-- The position at the stamp of an event (R421): the feedback position for a servo axis, else the commanded one. -/
def axPosAt (s : State) (n t : Nat) : Rat × State :=
  let x := axOf s n
  if adKind x.desc = 2 then
    let ((p, _), s) := fbkLatch s (adFbk x.desc) t
    (((p * 65536 + x.offs : Int) : Rat), s)
  else ((axAt x t).1, s)

/-- An edge of a homing input (R421): it ends phase 1, is the reference event, or is a limit switch that fails the homing. -/
def homeEdge (s : State) (n which : Nat) (active : Bool) (t : Nat) : State :=
  match (axOf s n).homing with
  | none => s
  | some h =>
    if homeInput h.method = some which then
      if h.phase = 1 ∧ active then homePhase2 s n h
      else if h.phase = 2 ∧ !active ∧ h.method ≤ 4 then
        let (p, s) := axPosAt s n t
        homeReference s n h p
      else s
    else if which < 2 ∧ active then homeFail s n .faulted
    else s

/-- An index of a channel (R421): the reference event of methods 5 and 6; `r` is the index count. -/
def homeIndex (s : State) (ch t : Nat) (r : Int) : State :=
  (List.range 64).foldl (fun s n =>
    let x := axOf s n
    match x.homing with
    | some h =>
      if adFbk x.desc = ch ∧ (h.method = 5 ∨ h.method = 6) ∧ h.phase = 2 then
        homeReference s n h (if adKind x.desc = 2 then ((r * 65536 + x.offs : Int) : Rat) else (axAt x t).1)
      else s
    | none => s) s

/-- The homing is done (R421). -/
def homeDone (s : State) (n : Nat) (h : Homing) : State :=
  let s := axUpd s n fun x => { x with homing := none, homed := true, state := .standstill, traj := .rest, vel := 0 }
  let s := motEvent s evHomed n 0 0 h.method
  match h.cmd with
  | some c => endCmd s c .ok 0 0
  | none => s

/-- HARD_STOP_NEG at a tick of a servo axis (R421). -/
def homeHardStop (s : State) (n : Nat) (h : Homing) : State :=
  let x := axOf s n
  let lim := adFeLimit x.desc
  if h.method ≠ 7 then s
  else if h.phase = 1 then
    let k := if lim ≤ 4 * (x.fe.natAbs : Int) then h.ticks + 1 else 0
    if 20 ≤ k then homePhase2 s n { h with ticks := 0 } else axUpd s n fun x => { x with homing := some { h with ticks := k } }
  else if h.phase = 2 ∧ h.from' + (lim : Rat) / 2 ≤ (axAt x s.tmb.now).1 then homeReference s n h (h.from' + (lim : Rat) / 2)
  else s

/-! ### The end of motion, soft limits (R418 to R420) -/

/-- The commanded position at a tick would pass a soft limit of a homed axis (R420). -/
def axSoft (s : State) (n : Nat) : State :=
  let x := axOf s n
  if !x.homed ∨ !axMoving x ∨ (adMin x.desc ≤ x.pos ∧ x.pos ≤ adMax x.desc) then s
  else
    let lim := if x.pos < adMin x.desc then adMin x.desc else adMax x.desc
    let s := axUpd s n fun x => { x with pos := lim, traj := .rest }
    axFault (bump s cMotSoftLimits) n 3 evSoftLimit

/-- A motion that is over at `t` leaves the axis at rest (R418, R419, R421). -/
def axEnd (s : State) (n t : Nat) : State :=
  let x := axOf s n
  if !axDone x t then s
  else match x.state with
  | .moving => axUpd s n fun x => { x with state := .standstill, traj := .rest, vel := 0, running := none }
  | .stopping => axStopsEnd (axUpd s n fun x => { x with state := .standstill, traj := .rest, vel := 0, running := none }) n
  | .homing => match x.homing with
    | some h => if h.phase = 3 then homeDone s n h else s
    | none => s
  | _ => s

/-! ### Steps (R422) -/

/-- The steps from `cur` over `k` half-microstep boundaries, with the earliest instants the pulse rules allow; the schedule runs oldest
first. `cross` gives the crossing instant of a boundary. -/
def stepTimes (d : Bytes) (neg : Bool) (cross : Int → Nat) :
    Nat → Int → Option Nat → Bool → Nat → List (Nat × Bool × Bool)
  | 0, _, _, _, _ => []
  | k + 1, cur, rise, dir, dirFree =>
    let w := adWidth d
    let want := cross (if neg then 2 * cur - 1 else 2 * cur + 1) / 5 * 5
    let first : Nat := match rise with
      | some r => if dir = neg then max (r + 2 * w) (dirFree + adSetup d) else max (r + 2 * w) (max (r + w) dirFree + adSetup d)
      | none => dirFree + adSetup d
    let at' := if want < first then (first + 4) / 5 * 5 else want
    (at', neg, decide (want < first)) :: stepTimes d neg cross k (if neg then cur - 1 else cur + 1) (some at') neg dirFree

/-- DIR follows the next scheduled step, once no pulse is high (R422). -/
def stepDir (s : State) (n : Nat) : State :=
  let x := axOf s n
  match x.sched, x.pulseEnd with
  | (_, neg, _) :: _, none =>
    if neg = x.dirNeg then s
    else pinDrive (axUpd s n fun x => { x with dirNeg := neg }) (adPin x.desc 1) (neg != adFlag x.desc 0)
  | _, _ => s

/-- Schedule the steps of a stepper from `a` to `b`, the position interpolated between them (R422). -/
def stepPlan (s : State) (n a b : Nat) : State :=
  let x := axOf s n
  let p0 : Rat := ((nearestQ (axAt x a).1 : Int) : Rat)
  let p1 : Rat := ((nearestQ (axAt x b).1 : Int) : Rat)
  let p1 := if x.homed then (if p1 < (adMin x.desc : Rat) then (adMin x.desc : Rat) else if (adMax x.desc : Rat) < p1 then (adMax x.desc : Rat) else p1)
    else p1
  let cur := x.sched.foldl (fun c e => if e.2.1 then c - 1 else c + 1) x.steps
  let goal := floorQ (p1 / 65536 + 1 / 2)
  let neg := decide (goal < cur)
  let cross (twice : Int) : Nat :=
    let q : Rat := ((twice * 32768 : Int) : Rat)
    if p0 = p1 then a
    else
      let f : Rat := (q - p0) / (p1 - p0)
      if f < 0 then a else min b (a + (floorQ (f * ((b - a : Nat) : Rat))).toNat)
  let last := match x.sched.getLast? with | some e => (some e.1, e.2.1) | none => (x.lastRise, x.dirNeg)
  let l := stepTimes x.desc neg cross (goal - cur).natAbs cur last.1 last.2 x.dirFree
  stepDir (axUpd s n fun x => { x with sched := x.sched ++ l }) n

/-- A trajectory that changes between two ticks: a stepper's steps up to the next tick are planned again. -/
def axReplan (s : State) (n : Nat) : State :=
  let x := axOf s n
  match adKind x.desc, x.tickAt with
  | 1, some b => if s.tmb.now < b ∧ axMoving x then stepPlan (axUpd s n fun x => { x with sched := [] }) n s.tmb.now b else s
  | _, _ => s

end Sys2Proof.Machine
end

