-- ==== Sys2Proof/Machine/Loops.lean ====
section
/-! DEFINITION. The loops' and the Anvil array's commands (10_loops R318 to R351, 09_anvil_core R300 to R312). -/
namespace Sys2Proof.Machine
open Sys2Proof

/-! ### Loading (R318 to R320) -/

/-- 20 µs, from the check of a descriptor to its first sample (R320). -/
def loadLead : Nat := 20000

/-- The mode a code names. -/
def modeOf : Nat → LoopMode
  | 1 => .auto | 2 => .cas | _ => .man

/-- The grid offset of a loop: the domain's for DOMAIN (R313, R140). -/
def loopOff (s : State) (d : Bytes) : Int := if ldOpt d 5 ∧ s.tmb.joined then s.tmb.domOff else 0

/-- A loop as it starts in an empty slot, in INIT_MODE with MAN_INIT (R313, R333, R342). -/
def loopFresh (s : State) (d : Bytes) (core slot : Nat) (p : Option AnvPlace) (from' : Nat) : Loop :=
  { (default : Loop) with
    desc := some d
    core := core
    slot := slot
    place := p
    due := loopInstant d (loopOff s d) from'
    domOff := loopOff s d
    mode := modeOf (ldInitMode d)
    man := ldManInit d
    transfer := true
    law := { (default : LawState) with out := fx (ldManInit d), a := { (default : PidState) with u := fx (ldManInit d) } } }

/-- Put a fresh loop into its slot, with a fresh context and I/O area (R299, R303). -/
def loopInstall (s : State) (n : Nat) (l : Loop) : State :=
  let s := anvUpd s l.core fun k => { k with ctx := k.ctx.set l.slot (freshCtx l.place) }
  { resetIo s l.core l.slot (ldesc l) with anv := { (resetIo s l.core l.slot (ldesc l)).anv with
    loop := (resetIo s l.core l.slot (ldesc l)).anv.loop.set n l } }

/-- A refused LOOP_LOAD (R318, R306). -/
def loopReject (s : State) (c : Cmd) (st : Status) (off : Nat) (word : Option Nat) : State :=
  let core := if 18 < c.data.length then ldHome c.data else 0
  let s := match word with
    | some i => event s evAnvCodeRejected [(2, core), (2, 0), (1, st.code), (2, 0), (2, 0), (4, i)]
    | none => s
  let s := event (bump s cLoopLoadRejected) evLoopRejected [(2, c.unit), (1, 0), (1, 0), (2, core), (1, st.code), (4, off)]
  endCmd s c.handle st 0 0

/-- The checks LAW NONE has to pass. -/
def unloadCheck (d : Bytes) : Option (Status × Nat) :=
  if slice d 0 4 ≠ magic 'P' 'S' 'L' 'P' ∨ d.length < 1024 then some (.badField, 0)
  else if le d 5 1 ≠ 1 then some (.version, 4)
  else if (crc32c (d.drop 16)).toNat ≠ le d 12 4 then some (.checksum, 12)
  else none

/-- LOOP_LOAD (R318 to R320). -/
def loopLoad (s : State) (c : Cmd) : State :=
  let n := c.unit
  let d := c.data
  let l := loopOf s n
  if tuneRuns l then loopReject s c .busy 0 none
  else if ldLaw d = 0 then
    match unloadCheck d with
    | some (st, o) => loopReject s c st o none
    | none => endCmd (loopUpd s n fun l => { l with unload := l.desc.isSome, next := none }) c.handle .ok 0 0
  else match loopAdmit s n d with
    | .error (st, o, w) => loopReject s c st o w
    | .ok (core, slot, place) =>
      let code := d.drop 1024
      let s := match place with
        | some p => anvEvent (bump (writeCode s core p code) cAnvCodeLoads) evAnvCodeLoaded core slot 0 p.base 0
        | none => s
      let s := if l.desc.isSome then
          loopUpd s n fun l => { l with next := some ⟨d, core, slot, place, s.tmb.now + loadLead⟩, unload := false }
        else loopInstall s n (loopFresh s d core slot place (s.tmb.now + loadLead))
      let s := if ldOpt d 2 ∨ (s.hdl.boot.loops.get n).isSome then bootPend s (.loop n (if ldOpt d 2 then some d else none)) else s
      endCmd (loopEvent s evLoopLoaded n (loopOf s n).mode.code 0 core 0) c.handle .ok 0 0

/-- LOOP_LOAD (R318). -/
def execLoopLoad (h : Nat) (data : Option Bytes) (s : State) : Res := ok (startCmd s h 0x38 data loopLoad)

/-! ### Modes (R333, R334) -/

/-- LOOP_MODE (R333). -/
def loopModeCmd (s : State) (c : Cmd) : State :=
  let l := loopOf s c.unit
  if l.desc.isNone then endCmd s c.handle .state 0 0
  else if 3 ≤ c.arg then endCmd s c.handle .range 0 0
  else if c.arg = 2 ∧ !ldHasCas (ldesc l) then endCmd s c.handle .state 0 0
  else loopUpd s c.unit fun l => { l with reqs := l.reqs ++
    [⟨some (modeOf c.arg), if bit c.arg2 31 then some (signed 24 c.arg2) else none, max c.instant s.tmb.now, some c.handle⟩] }

/-- LOOP_MODE (R333). -/
def execLoopMode (h : Nat) (s : State) : Res := ok (startCmd s h 0x39 (some []) loopModeCmd)

/-- The block LOOP_MODE_REQ at its item's commit (R334): a mode where AUTO has changed, and MANOUT while AUTO is 0. -/
def loopModeReq (s : State) (n : Nat) (auto : Option Bool) (man : Option (Val × PType)) : State :=
  let l := loopOf s n
  if l.desc.isNone then s
  else
    let m : Option Int := man.bind fun x => (valNum x.2 x.1).map fun q => clampI (-8388608) 8388607 (floorQ (q * 8388608))
    let r : ModeReq := ⟨auto.map fun a => if a then .auto else .man, m, s.tmb.now, none⟩
    if r.mode.isNone ∧ r.man.isNone then s else loopUpd s n fun l => { l with reqs := l.reqs ++ [r] }

/-- The point LOOP_SP writes: the one named by IN1 of its slot (R334). -/
def loopSpPoint (s : State) (n : Nat) : Option Nat :=
  match (loopOf s n).desc with
  | some d => if (ldIn d 1).kind = 1 then some (ldIn d 1).ref else none
  | none => none

/-- What LOOP_STATUS shows of a slot: PV and OUT in the scaling of their points, AUTO, IMPLAUS (04_cycle_engine R166). -/
def loopLook (s : State) (n : Nat) : Rat × Rat × Bool × Bool :=
  let l := loopOf s n
  match l.desc with
  | none => (0, 0, false, false)
  | some d =>
    let i := ldIn d 0
    let o := ldOut d 0
    (i.zero + i.span * ((l.ins.headD 0 : Int) : Rat) / 8388608, o.zero + o.span * ((toFix24 l.law.out : Int) : Rat) / 8388608,
      decide (l.mode ≠ .man), l.implaus)

/-! ### Tuning (R344, R348, R349) -/

/-- The fields of a tuning request are within its table (R344): BAD_FIELD or RANGE otherwise. -/
def tuneField (q : Bytes) (ts : Rat) : Option Status :=
  let sig := le q 0 1
  let chirp := decide (4 ≤ sig)
  if sig = 0 ∨ 5 < sig ∨ 1 < le q 1 1 ∨ le q 16 4 ≠ 0 ∨ le q 23 1 ≠ 0 ∨ le q 51 1 ≠ 0 ∨ le q 52 4 ≠ 0 then some .badField
  else if (if sig = 3 then le q 2 1 < 7 ∨ 15 < le q 2 1 else le q 2 1 ≠ 0) ∨ 15 < le q 3 1 then some .range
  else if (!chirp ∧ (le q 4 4 = 0 ∨ 1048576 < le q 4 4)) ∨ 1048576 < le q 8 4 ∨ 1048576 < le q 12 4 then some .range
  else if le q 20 3 = 0 ∨ signed 24 (le q 48 3) ≤ 0 ∨ !r64ok q 56 ∨ r64 q 56 < 0 then some .range
  else if chirp ∧ (!r64ok q 24 ∨ !r64ok q 32 ∨ !r64ok q 40 ∨ r64 q 24 < 0 ∨ (sig = 5 ∧ r64 q 24 = 0) ∨ r64 q 32 ≤ r64 q 24 ∨
      1 / (4 * ts) < r64 q 32 ∨ r64 q 40 ≤ 0) then some .range
  else none

/-- LOOP_TUNE (R344). -/
def loopTune (s : State) (c : Cmd) : State :=
  let n := c.unit
  let l := loopOf s n
  let d := ldesc l
  let q := c.data
  if tuneRuns l then endCmd s c.handle .busy 0 0
  else if l.desc.isNone ∨ l.hold ∨ (if le q 1 1 = 0 then l.mode = .man else l.mode = .cas) then endCmd s c.handle .state 0 0
  else match tuneField q (ldTs d) with
    | some st => endCmd s c.handle st 0 0
    | none =>
      let count := le q 8 4 + signalLen q (ldTs d) + le q 12 4
      if !recorderFree s (le q 3 1) count ∨
          !admissible ((loopCost d (tuneCost q), ldPeriod d, ldDelay d) :: (coreLoops s l.core n).map (·.2)) then endCmd s c.handle .noResource 0 0
      else
        let s := recorderStart s (le q 3 1) n (le q 8 4)
        let s := loopUpd s n fun l => { l with tune := { (default : Tune) with
          state := .recording
          req := q
          cmd := some c.handle
          lfsr := 2 ^ le q 2 1 - 1 } }
        loopEvent (bump s cLoopTuneTests) evTuneStarted n l.mode.code 0 l.core 0

/-- LOOP_TUNE (R344). -/
def execLoopTune (h : Nat) (data : Option Bytes) (s : State) : Res := ok (startCmd s h 0x3A data loopTune)

/-- LOOP_TUNE_READ (R348). -/
def loopTuneRead (s : State) (c : Cmd) : State :=
  let t := (loopOf s c.unit).tune
  match t.state with
  | .none => endCmd s c.handle .state 0 0
  | .recording | .injecting | .fitting => endCmd s c.handle .ok 1 0
  | .aborted => endCmd s c.handle .aborted 0 0
  | .result => endCmd (send s (.host c.dataAddr (tuneBytes (t.res.getD default)))) c.handle .ok 0 96
  | .failed => endCmd (send s (.host c.dataAddr (tuneBytes (t.res.getD default)))) c.handle .range 0 96

/-- LOOP_TUNE_READ (R348). -/
def execLoopTuneRead (h : Nat) (s : State) : Res := ok (startCmd s h 0x3B (some []) loopTuneRead)

/-- LOOP_TUNE_APPLY (R349): at the first sample at or after I. -/
def loopTuneApply (s : State) (c : Cmd) : State :=
  let l := loopOf s c.unit
  if l.tune.state = .result ∧ (l.tune.res.map (·.reason)) = some 0 then
    loopUpd s c.unit fun l => { l with tune := { l.tune with applied := some (max c.instant s.tmb.now, some c.handle) } }
  else endCmd s c.handle .state 0 0

/-- LOOP_TUNE_APPLY (R349). -/
def execLoopTuneApply (h : Nat) (s : State) : Res := ok (startCmd s h 0x3C (some []) loopTuneApply)

/-- Bytes put into a descriptor at an offset. -/
def putBytes (d : Bytes) (o : Nat) (b : Bytes) : Bytes := d.take o ++ b ++ d.drop (o + b.length)

/-- A descriptor with the proposed gains and model (R349). -/
def tuneApplied (d : Bytes) (r : TuneResult) : Bytes :=
  let o := if ldLaw d = 3 then 416 else 336
  let d := if ldLaw d = 0x80 then d else putBytes d o (leBytes 8 r.kp ++ leBytes 8 r.ti ++ zeros 8)
  let d := putBytes (putBytes d 544 [1, 0]) 548 (leBytes 2 r.dead)
  putBytes (putBytes d 552 (leBytes 8 r.rlim)) 576 (leBytes 8 r.k ++ leBytes 8 r.t)

/-- The sample at which LOOP_TUNE_APPLY writes (R349). -/
def tuneApplyAt (s : State) (n t0 : Nat) : State :=
  let l := loopOf s n
  match l.tune.applied, l.tune.res with
  | some (i, h), some r =>
    if t0 < i then s
    else
      let s := loopUpd s n fun l => { l with
        desc := l.desc.map (tuneApplied · r)
        tune := { l.tune with applied := none }
        preset := true
        law := { l.law with model := [] } }
      let s := loopEvent s evTuneApplied n l.mode.code 0 l.core 0
      match h with | some h => endCmd s h .ok 0 0 | none => s
  | _, _ => s

/-- TUNE_FIT_DONE (R347): at `t` the fit ends. -/
def execTuneFitDone (n t : Nat) (s : State) : Res :=
  let l := loopOf s n
  if l.tune.state ≠ .fitting then ok s
  else
    let s := advance s t
    let r := tuneFit (ldesc l) l.tune.req l.tune.recs
    let s := loopUpd s n fun l => { l with tune := { l.tune with
      state := if r.reason = 0 then .result else .failed
      res := some r
      recs := [] } }
    ok (loopEvent s evTuneDone n l.mode.code 0 l.core r.reason)

/-! ### The sample launch (R321, R322, R301) -/

/-- Ticks wait in the order of sample instant, then core slot (R301). -/
def tickInsert (x : Nat × Nat × Nat) : List (Nat × Nat × Nat) → List (Nat × Nat × Nat)
  | [] => [x]
  | y :: t => if x.1 < y.1 ∨ (x.1 = y.1 ∧ x.2.1 < y.2.1) then x :: y :: t else y :: tickInsert x t

/-- The next sample instant after `t0` (R313, R140). -/
def loopNextDue (s : State) (d : Bytes) (oldOff : Int) (t0 : Nat) : Nat :=
  let off := loopOff s d
  let n := loopInstant d off (t0 + 1)
  if off ≠ oldOff ∧ n < t0 + ldPeriod d * 500 then loopInstant d off (n + 1) else n

/-- The inbound words of a slot's I/O area (R303, R330). -/
def writeIo (s : State) (l : Loop) (t0 : Nat) (ins : List Int) (okMask mode : Nat) : State :=
  anvUpd s l.core fun k => { k with
    left := writeWords k.left (ioBase l.slot)
      (ins.map (unsigned 24) ++ [okMask, mode, t0 % 2 ^ 24, t0 / 2 ^ 24 % 2 ^ 24, t0 / 2 ^ 48]) }

/-- The MODE word (R330). -/
def modeWord (l : Loop) (injecting : Bool) : Nat :=
  l.mode.code + 4 * b2n l.transfer + 8 * b2n l.hold + 16 * b2n l.backup + 32 * b2n injecting + 64 * b2n (l.resumed && l.samples == 0) +
  128 * b2n l.relocated

/-- LOOP_SAMPLE_LAUNCH (R321): at the loop's sample instant the sampler latches its sources, mode requests apply, the tick waits. -/
def loopSample (s : State) (n : Nat) : State :=
  let l := loopOf s n
  let t0 := l.due
  let s := advance s t0
  if l.unload then
    let s := anvUpd s l.core fun k => { k with pend := k.pend.filter (·.2.2 != n) }
    loopUnload s n t0
  else
    let s := match l.next with
      | some x => if x.from' ≤ t0 then loopSwitch s n x else s
      | none => s
    let s := tuneApplyAt s n t0
    let d := ldesc (loopOf s n)
    let (raw, s) := readIns s d t0
    let (raw, s) := loopIns s n t0 raw
    let ok (i : Nat) : Bool := (raw.getD i (0, false)).2
    let x : LoopSample := { (default : LoopSample) with t0 := t0 }
    let s := loopUpd s n fun l => { l with open' := l.open' ++ [x] }
    let due := (loopOf s n).reqs.filter fun r => decide (r.from' ≤ t0)
    let s := loopUpd s n fun l => { l with reqs := l.reqs.filter fun r => decide (t0 < r.from') }
    let s := due.foldl (fun s r => modeTake s n t0 (ok 0 || ((ldIn d 7).kind != 0 && ok 7)) r) s
    let back := (loopOf s n).backup
    let vals := raw.map (·.1)
    let vals := if back then vals.set 0 (vals.getD 7 0) else vals
    let mask := (List.range 8).foldl (fun a i => if (if i = 0 ∧ back then ok 7 else ok i) then a + 2 ^ i else a) 0
    let testing := tuneRuns (loopOf s n)
    let ((inj, injecting), s) := tuneSample s n vals
    let testing := testing && tuneRuns (loopOf s n)
    let l := loopOf s n
    let user := decide (ldLaw d = 0x80)
    let atSp := le l.tune.req 1 1 == 0
    let vals := if user ∧ injecting ∧ atSp then vals.set 1 (clampI (-8388608) 8388607 (vals.getD 1 0 + inj)) else vals
    let lost := l.coreLost || decide (t0 < l.notBefore)
    let s := sampleUpd s n t0 fun x => { x with
      ins := vals
      okMask := mask
      inj := inj
      injecting := injecting
      testing := testing
      sp := fx (vals.getD 1 0)
      lost := lost
      publish := (l.samples + 1) % ldPubDiv d == 0 }
    let s := if lost then s
      else anvUpd (writeIo s l t0 vals mask (modeWord l injecting)) l.core fun k => { k with pend := tickInsert (t0, l.slot, n) k.pend }
    let bad := ((List.range 8).filter fun i => (ldIn d i).kind != 0 && !ok i).length
    let s := bumpN (bump s cLoopSamples) cLoopInputUnusable bad
    loopUpd s n fun l => { l with
      samples := l.samples + 1
      transfer := false
      ins := vals
      lastT0 := t0
      due := loopNextDue s d l.domOff t0
      domOff := loopOff s d }

/-- The servo axes a loop closes take the feedback position of its sample (13_motion R426, R427). -/
def axSampled (s : State) (slot t0 : Nat) : State :=
  (List.range 64).foldl (fun s n =>
    if adKind (axOf s n).desc = 2 ∧ adLoop (axOf s n).desc = slot then axChecks s n t0 else s) s

/-- LOOP_SAMPLE_LAUNCH (R321). -/
def execLoopSampleLaunch (n : Nat) (s : State) : Res :=
  if (loopOf s n).desc.isSome then ok (axSampled (loopSample s n) n (loopOf s n).due) else ok s

/-! ### The tick (R299 to R302) -/

/-- 40.833 ns, in ps: the earliest first instruction after T0 (R300, R301). -/
def tickLead : Nat := 40833

/-- ANVIL_TICK_SWAP (R300, R301): the banks swap, the first instruction of the next pending tick issues `ps` picoseconds after T0. -/
def execAnvilTickSwap (c ps : Nat) (s : State) : Res :=
  let k := anvC s c
  match k.run, k.pend with
  | none, (t0, slot, n) :: rest =>
    let start := t0 * 1000 + ps
    let l := loopOf s n
    if k.retired ∨ ps < tickLead ∨ start < k.freePs ∨ l.desc.isNone then ok s
    else
      let d := ldesc l
      let run : AnvRun := { (default : AnvRun) with
        slot := slot
        loop := n
        t0 := t0
        startPs := start
        pc := match l.place with | some p => p.entry | none => 0
        regs := k.ctx.get slot
        budget := match l.place with
          | some p => p.budget
          | none => lawCost d + (if tuneRuns l then tuneCost l.tune.req else 0)
        place := l.place }
      let s := advance s (start / 1000)
      let s := anvUpd s c fun k => { k with run := some run, pend := rest, lastSlot := slot }
      let s := if tickLead < ps then bump s cAnvTickDelayed else s
      ok (bump s cAnvTicks)
  | _, _ => ok s

/-- A standard law's END (R302, R324 to R332): the law runs on its sample. -/
def endLaw (s : State) (c : Nat) (r : AnvRun) : State :=
  let r := { r with used := r.budget }
  let s := runEnds (advance s (cycleNs r r.used)) c r
  let l := loopOf s r.loop
  let d := ldesc l
  match l.open'.find? (·.t0 == r.t0) with
  | none => s
  | some x =>
    let atSp := le l.tune.req 1 1 == 0
    let st := if l.preset then
        let p := (lawStep d l.law l.mode true l.man x.ins 0 false).st
        { p with ffx := l.law.ffx, ffy := l.law.ffy, llx := l.law.llx, lly := l.law.lly }
      else l.law
    let o := lawStep d st l.mode l.hold l.man x.ins x.inj atSp
    let s := loopUpd s r.loop fun l => { l with law := o.st, preset := false }
    sampleUpd s r.loop r.t0 fun x => { x with
      latch := some ⟨lawOuts d o.u, outMask d, 0⟩
      u := o.u
      sp := o.sp
      limited := o.limited }

/-- END (R288, R302): of the user routine that has reached it, or of a standard law whose cost has passed. -/
def execEnd (c : Nat) (s : State) : Res :=
  match (anvC s c).run with
  | none => ok s
  | some r =>
    if r.place.isSome then ok (anvRow s c 1 0x0F 3 fun s r _ => endUser s c r)
    else ok (endLaw s c r)

/-! ### The output launch (R322, R323, R330, R338 to R340) -/

/-- STAT (R323). -/
def statWord (l : Loop) (status : Nat) : Nat :=
  l.mode.code + 4 * b2n l.hold + 8 * b2n l.backup + 16 * b2n l.implaus + 32 * b2n l.limited + 64 * b2n (tuneRuns l) + 128 * b2n l.relocated +
  256 * (l.count % 256) + 65536 * bits status 23 8

/-- The writes of a sample's outputs and publish points (R322). -/
def loopWrites (s : State) (n : Nat) (x : LoopSample) (outs : List Int) (en : Nat) (held : Bool) (status : Nat) : List PWrite :=
  let l := loopOf s n
  let d := ldesc l
  let qo : BitVec 16 := qVALID ||| (if held then qHELD else 0) ||| (if held && (l.holdImplaus || l.coreLost) then qIMPLAUS else 0)
  let qp : BitVec 16 := qVALID ||| (if l.implaus then qIMPLAUS else 0)
  let outW := (List.range 8).filterMap fun i =>
    let o := ldOut d i
    if o.kind = 1 ∧ bit en i then some (loopWrite n o.id x.t0 (outValue s o.id o.zero o.span (outs.getD i 0)) qo) else none
  let i0 := ldIn d 0
  let o0 := ldOut d 0
  let pub (k : Nat) (v : Val) (q : BitVec 16) : List PWrite := if ldPub d k = 0 then [] else [loopWrite n (ldPub d k) x.t0 v q]
  let pubW := if x.publish then
      pub 0 (outValue s (ldPub d 0) i0.zero i0.span (x.ins.getD 0 0)) qp ++ pub 1 (outValue s (ldPub d 1) i0.zero i0.span (toFix24 x.sp)) qp ++
      pub 2 (outValue s (ldPub d 2) o0.zero o0.span (toFix24 l.law.out)) qp ++ pub 3 (BitVec.ofNat 64 (statWord l status)) qVALID
    else []
  let trackW := match x.track with
    | some v =>
      let i := ldIn d (if ldLaw d = 3 then 4 else 1)
      if i.kind = 1 then [loopWrite n i.ref x.t0 (outValue s i.ref i.zero i.span (toFix24 v)) qVALID] else []
    | none => []
  outW ++ pubW ++ trackW

/-- A sample that has not ended when its outputs launch stops with OVERRUN (R304, R322). -/
def sampleOverrun (s : State) (n : Nat) (x : LoopSample) : State :=
  let l := loopOf s n
  match (anvC s l.core).run with
  | some r =>
    if r.loop = n ∧ r.t0 = x.t0 then anvStop s l.core 1 0 0 else s
  | none => s

/-- LOOP_OUTPUT_LAUNCH (R322): supervision decides, the latch launches, the outputs and publish points commit as one group. -/
def loopOutput (s : State) (n : Nat) : State :=
  match (loopOf s n).open' with
  | [] => s
  | x :: _ =>
    let d := ldesc (loopOf s n)
    let s := advance s (x.t0 + ldDelay d)
    let pendingTick := (anvC s (loopOf s n).core).pend.any fun p => p.1 == x.t0 && p.2.2 == n
    let s := if x.latch.isNone && !x.stopped && !x.lost then
        let s := sampleOverrun s n x
        let s := anvUpd s (loopOf s n).core fun k => { k with pend := k.pend.filter fun p => !(p.1 == x.t0 && p.2.2 == n) }
        let s := if pendingTick then
            anvEvent (bump s cAnvOverruns) evAnvOverrun (loopOf s n).core (loopOf s n).slot 1 0 0 else s
        sampleUpd s n x.t0 fun x => { x with stopped := true }
      else s
    let l := loopOf s n
    let x := l.open'.headD default
    let dead := x.stopped || x.lost
    let user := decide (ldLaw d = 0x80)
    let raw := (x.latch.getD default).outs
    let raw := if user ∧ l.mode = .man then raw.set 0 l.man else raw
    let raw := if user ∧ x.injecting ∧ le l.tune.req 1 1 = 1 then raw.set 0 (clampI (-8388608) 8388607 (raw.getD 0 0 + x.inj)) else raw
    let x := if user then { x with u := fx (if l.hold then l.held.getD 0 0 else raw.getD 0 0) } else x
    let s := if dead then s
      else
        let s := loopUpd s n fun l => { l with
          stops := 0
          limited := x.limited
          law := if user then { l.law with out := x.u } else l.law }
        let s := if x.limited then bump s cLoopOutLimited else s
        tuneRecord (loopSupervise s n x) n x (x.okMask.testBit 0)
    let s := if x.stopped then
        let s := loopUpd (bump s cLoopStoppedSamples) n fun l => { l with stops := l.stops + 1 }
        if fld s fAnvLoopCtrlStopLimit ≤ (loopOf s n).stops then loopHold s n true 0 else s
      else s
    let l := loopOf s n
    let held := l.hold || dead
    let outs := if held then l.held else raw
    let en := if dead then l.heldEn else (x.latch.getD default).en
    let en := if held && !l.heldOk then 0 else en
    let s := advance s (x.t0 + ldDelay d + 100)
    let (s, go) := launches s (x.t0 + ldDelay d)
    let s := if go then writeGroup s (loopWrites s n x outs en held (x.latch.getD default).status) else s
    let s := if x.publish then bump s cLoopPublishes else s
    let s := digAdd s 1 n (((List.range 8).flatMap fun i => lesBytes 4 (outs.getD i 0)) ++ leBytes 1 en ++ leBytes 4 (x.latch.getD default).status)
    let s := digEnd s 1 n x.t0
    let mine := l.replies.filter (·.1 == x.t0)
    let s := loopUpd s n fun l => { l with
      open' := l.open'.tail
      held := outs
      heldEn := if dead then l.heldEn else en
      heldOk := l.heldOk || !held
      replies := l.replies.filter (·.1 != x.t0) }
    mine.foldl (fun s r => endCmd s r.2.1 r.2.2 0 0) s

/-- LOOP_OUTPUT_LAUNCH (R322). -/
def execLoopOutputLaunch (n : Nat) (s : State) : Res := ok (axOnLoop (loopOutput s n) n)

/-! ### Copies, the journal, restart (R341 to R343) -/

/-- What a copy keeps of a loop (R341, R343). -/
def loopSave (s : State) (l : Loop) (seq : Nat) : LoopSave :=
  let k := anvC s l.core
  ⟨seq, l.lastT0, curEpoch s, l.mode, l.hold, l.backup, l.quench, l.man, k.ctx.get l.slot, l.law,
    match l.place with
    | some p => (List.range (ldResWords (ldesc l))).map fun i => k.right.get (p.rbase + i)
    | none => []⟩

/-- LOOP_STATE_COPY (R341): every 1 ms, at `t`, the context and state of every loop are copied to HBM. -/
def execLoopStateCopy (t : Nat) (s : State) : Res :=
  let s := advance s t
  ok ((s.anv.loop.entries.map (·.1)).foldl (fun s n =>
    let l := loopOf s n
    if l.desc.isSome ∧ !l.coreLost then loopUpd s n fun l => { l with copy := some (loopSave s l ((l.copy.map (·.seq)).getD 0 + 1)) } else s) s)

/-- LOOP_JOURNAL_WRITE (R343): every 1 ms, at `t`, the state of every RESUMABLE loop goes to the older of its two copies. -/
def execLoopJournalWrite (t : Nat) (s : State) : Res :=
  let s := advance s t
  ok ((s.anv.loop.entries.map (·.1)).foldl (fun s n =>
    let l := loopOf s n
    if l.desc.isSome ∧ ldOpt (ldesc l) 3 then
      let j := s.mram.journal.get n
      let q := ((j.head?.map (·.seq)).getD 0 + 1) % 2 ^ 32
      { s with mram := { s.mram with journal := s.mram.journal.set n ((loopSave s l q :: j).take 2) } }
    else s) s)

/-- A saved state put back on a core slot (R341, R342). -/
def loopRestore (s : State) (n : Nat) (v : LoopSave) : State :=
  let l := loopOf s n
  let s := anvUpd s l.core fun k => { k with
    ctx := k.ctx.set l.slot v.ctx
    right := match l.place with | some p => writeWords k.right p.rbase v.words | none => k.right }
  loopUpd s n fun l => { l with
    mode := v.mode
    man := v.man
    law := v.law
    transfer := true }

/-- LOOP_PERSIST_START (R342): after READY, at `t`, the loop of a PERSIST descriptor starts; `bad` newest journal copies are not valid. -/
def execLoopPersistStart (n t bad : Nat) (s : State) : Res :=
  match s.hdl.boot.loops.get n with
  | none => ok s
  | some d =>
    if (loopOf s n).desc.isSome ∨ !autostarts s then ok s
    else
      let s := advance s t
      match placeOn s (ldHome d) n d 0, (if ldLaw d = 0x80 then placeCode s (ldHome d) n (d.drop 1024) else some default) with
      | some k, some p =>
        let place := if ldLaw d = 0x80 then some p else none
        let s := match place with | some p => writeCode s (ldHome d) p (d.drop 1024) | none => s
        let s := loopInstall s n (loopFresh s d (ldHome d) k place s.tmb.now)
        if !ldOpt d 3 then ok s
        else match ((s.mram.journal.get n).drop bad).head? with
          | none => ok (loopEvent s evLoopStateLost n (loopOf s n).mode.code 0 (ldHome d) 0)
          | some v =>
            let s := loopRestore s n v
            let s := loopUpd s n fun l => { l with
              resumed := true
              hold := v.hold
              holdImplaus := v.hold
              backup := v.backup
              quench := v.quench }
            let s := if v.quench then qchFromLoop s n (ldQch d) else s
            ok (loopEvent s evLoopResumed n v.mode.code 0 (ldHome d) 0)
      | _, _ => ok s

/-! ### Memory errors and diagnosis (R310, R312) -/

/-- ANVIL_ECC_REWRITE (R310): the running routine of a core has read an uncorrectable word: `space` 0 program, 1 Left, 2 Right; it stops, and
the word is rewritten: program words from the HBM copy, a data word as 0. -/
def execAnvilEccRewrite (c space addr t : Nat) (s : State) : Res :=
  match (anvC s c).run with
  | none => ok s
  | some _ =>
    let s := anvStop (advance s t) c 4 addr (if space = 2 then 1 else 0)
    if space = 1 then ok (anvUpd s c fun k => { k with left := k.left.set addr 0 })
    else if space = 2 then ok (anvUpd s c fun k => { k with right := k.right.set addr 0 })
    else ok s

/-- ANV_MEM_READ (R312): a write of ANV_MEM_SEL reads a word; ROM and the working store of the standard laws hold what no rule gives. -/
def anvMemRead (v : Word) (s : State) : State :=
  let n := v.toNat
  let s := setFld (setFld (setFld s fAnvMemSelCore (bits n 5 0)) fAnvMemSelSpace (bits n 7 6)) fAnvMemSelAddr (bits n 22 8)
  let k := anvC s (bits n 5 0)
  let a := bits n 22 8
  let done (s : State) (st : Status) (w : Nat) : State :=
    { s with anv := { s.anv with memData := w, memDone := true, memStatus := st } }
  if k.retired then done s .faulted 0
  else match bits n 7 6 with
    | 0 =>
      if 0x6000 ≤ a then done s .range 0
      else if 0x4000 ≤ a then let (f, s) := drawFree s; done s .ok (f.toNat % 2 ^ 32)
      else done s .ok (k.pmem.get a)
    | 1 => if 0x7800 ≤ a ∧ a < 0x7E00 then let (f, s) := drawFree s; done s .ok (f.toNat % 2 ^ 24) else done s .ok (k.left.get a)
    | 2 => if 0x7800 ≤ a then let (f, s) := drawFree s; done s .ok (f.toNat % 2 ^ 24) else done s .ok (k.right.get a)
    | _ => done s .range 0

/-- ANV_MEM_READ (R312). -/
def execAnvMemRead (v : Word) (s : State) : Res := regCmd s 8 (anvMemRead v)

/-- The checks of an ANV_LOOP commit (R351). -/
def anvCommitCheck (s : State) : Status := if sfld s fAnvLoopCtrlStopLimit = 0 then .range else .ok

/-! ### A core fails (R309, R341) -/

/-- A loop of a retired core moves to its fallback core, or is lost (R341). -/
def loopRelocate (s : State) (n : Nat) : State :=
  let l := loopOf s n
  let d := ldesc l
  let core := ldFallback d
  let slot := if core = 0xFF then none else placeOn s core n d 0
  let place := if ldLaw d = 0x80 then (placeCode s core n (d.drop 1024)).map some else some none
  match slot, place with
  | some k, some p =>
    let s := tuneAbort s n
    let s := match p with | some p => writeCode s core p (d.drop 1024) | none => s
    let s := loopUpd s n fun l => { l with
      core := core
      slot := k
      place := p
      coreLost := false
      relocated := true
      notBefore := s.tmb.now + 200000 }
    let s := resetIo (anvUpd s core fun c => { c with ctx := c.ctx.set k (freshCtx p) }) core k d
    let s := match l.copy with | some v => loopRestore s n { v with mode := l.mode, man := l.man } | none => s
    loopEvent (bump (loopUpd s n fun l => { l with transfer := true }) cLoopRelocations) evLoopRelocated n l.mode.code 0 core 0
  | _, _ =>
    let s := loopUpd (tuneAbort s n) n fun l => { l with hold := true, holdImplaus := true }
    loopEvent (bump s cLoopRelocFails) evLoopRelocFail n l.mode.code 0 l.core 0

/-- A core retires (R309): its outputs hold, and on a module alone with RELOC_EN its loops move, in ascending order. -/
def coreRetire (s : State) (c : Nat) (relocate : Bool) : State :=
  let s := anvUpd s c fun k => { k with retired := true, run := none, pend := [] }
  let s := anvEvent s evAnvCoreRetired c 0 0 0 0
  let mine := s.anv.loop.entries.filterMap fun e => if e.2.desc.isSome ∧ e.2.core = c ∧ !e.2.coreLost then some e.1 else none
  let s := mine.foldl (fun s n => loopUpd s n fun l => { l with
    coreLost := true
    open' := l.open'.map fun x => { x with lost := true } }) s
  if relocate then mine.foldl loopRelocate s else s

/-- ANVIL_CORE_MISMATCH (R309, R341): the core retires at `t`; in control of a pair the module gives up control, and in a formed pair no loop
moves. -/
def execAnvilCoreMismatch (c t : Nat) (s : State) : Res :=
  if 64 ≤ c ∨ (anvC s c).retired then ok s
  else
    let s := advance s t
    let s := coreRetire s c (flag s fAnvLoopCtrlRelocEn && !s.par.formed)
    ok (if s.par.formed then pairGiveUp s 9 else s)

end Sys2Proof.Machine
end

