-- ==== Sys2Proof/Machine/Motion.lean ====
section
/-! DEFINITION. The Motion Engine's commands (13_motion R408 to R429). -/
namespace Sys2Proof.Machine
open Sys2Proof

/-! ### Configuration (R410, R411, R425) -/

/-- Offsets of the eight pin fields. -/
def axPinOffs : List Nat := (List.range 8).map (· + 8)

/-- The pins a descriptor names. -/
def axPins (d : Bytes) : List Nat := ((List.range 8).map (adPin d)).filter (· != 0xFF)

/-- Reserved fields, undefined codes, fields that KIND requires or excludes (R411). -/
def axField (d : Bytes) : List (Bool × Status × Nat) :=
  let st := adKind d == 1
  let sv := adKind d == 2
  [(decide (2 < adKind d), .badField, 0),
   (decide (7 < le d 1 1), .badField, 1),
   (sv && le d 2 1 != 0, .badField, 2),
   (adFbk d == 0xFF && (sv || adFlag d 1), .badField, 3),
   (if sv then adLoop d == 0xFFFF else adLoop d != 0xFFFF, .badField, 4),
   (sv && adWidth d != 0, .badField, 6),
   (if st then adPin d 0 == 0xFF else adPin d 0 != 0xFF, .badField, 8),
   (if st then adPin d 1 == 0xFF else adPin d 1 != 0xFF, .badField, 9),
   (sv && le d 16 4 != 0, .badField, 16),
   (sv && adSetup d != 0, .badField, 20),
   (sv && le d 112 4 == 0, .badField, 112),
   (!allZero (slice d 124 4), .badField, 124)]

/-- Fields outside their ranges (R410, R411). -/
def axRange (d : Bytes) : List (Bool × Status × Nat) :=
  let st := adKind d == 1
  let w := adWidth d
  [(decide (8 < le d 2 1), .range, 2),
   (adFbk d != 0xFF && decide (31 < adFbk d), .range, 3),
   (adKind d == 2 && decide (1023 < adLoop d), .range, 4),
   (st && (decide (w < 25) || decide (1275 < w) || w % 5 != 0), .range, 6)] ++
  axPinOffs.map (fun o => (le d o 1 != 0xFF && decide (127 < le d o 1), .range, o)) ++
  [(st && (decide (le d 16 4 < 10) || decide (1000 < le d 16 4)), .range, 16),
   (st && (decide (adSetup d < 20) || decide (10000 < adSetup d)), .range, 20),
   (decide (adMax d ≤ adMin d), .range, 32),
   (decide (adVmax d ≤ 0), .range, 40),
   (adAmax d == 0, .range, 48),
   (decide (adFeLimit d ≤ 0), .range, 64),
   (decide (les d 72 8 < 0), .range, 72),
   (decide (10000000 < le d 80 4), .range, 80),
   (decide (les d 84 8 ≤ 0) || decide (adVmax d < les d 84 8), .range, 84),
   (decide (les d 92 8 ≤ 0) || decide (les d 84 8 < les d 92 8), .range, 92),
   (decide (le d 108 4 < 100) || decide (600000 < le d 108 4), .range, 108),
   (st && (decide (8000000 * 65536 < adVmax d) || decide (1000000000 * 65536 < adVmax d * (2 * w : Nat))), .range, 40)]

/-- The first failing check of an axis descriptor (R411). -/
def axCheck (s : State) (n : Nat) (d : Bytes) : Option (Status × Nat) :=
  let x := axOf s n
  let who := claimOf 0x09 n
  let pts := [112, 116, 120].filter fun o => le d o 4 != 0
  let entry (o : Nat) := mapFind s.pst.map (le d o 4)
  let l := loopOf s (adLoop d)
  let ld := l.desc.getD []
  if x.state ≠ .off ∧ x.state ≠ .disabled then some (.state, 0)
  else if adKind d = 0 then none
  else firstFail <|
    axField d ++ axRange d ++
    axPinOffs.map (fun o => (le d o 1 != 0xFF && pinTaken s who (axPins d) (le d o 1), .state, o)) ++
    [(adFbk d != 0xFF && !fbkOn s (adFbk d), .noTarget, 3),
     (adKind d == 2 && l.desc.isNone, .noTarget, 4)] ++
    pts.map (fun o => ((entry o).isNone, .noTarget, o)) ++
    pts.map (fun o => ((match entry o with | some e => e.type != .real64 | none => false), .badField, o)) ++
    pts.map (fun o => ((match entry o with | some e => !e.writers.getLsbD wMOT | none => false), .denied, o)) ++
    [(adKind d == 2 && (!((ldIn ld 0).kind == 3 && (ldIn ld 0).ref == adFbk d) ||
        !((ldIn ld 1).kind == 1 && (ldIn ld 1).ref == le d 112 4)), .badField, 4)]

/-- Write an axis's journal record (R423 to R425). -/
def axJournal (s : State) (n : Nat) (off : Bool) : State :=
  let x := axOf s n
  { s with mram := { s.mram with
    axes := s.mram.axes.set n (some ⟨off, x.homed, x.phaseLost, x.pos, x.phase, (crc32c x.desc).toNat, s.tmb.now, curEpoch s⟩) } }

/-- AXIS_CONFIG (R410, R411, R425). -/
def axisConfig (s : State) (c : Cmd) : State :=
  let n := c.unit
  let d := c.data
  match axCheck s n d with
  | some (st, off) =>
    endCmd (event (bump s cMotConfigRejected) evAxisRejected [(2, n), (1, 0), (4, off), (1, 0)]) c.handle st 0 0
  | none =>
    let who := claimOf 0x09 n
    if adKind d = 0 then
      let s := claimPins s who []
      endCmd (motEvent { s with mot := { s.mot with ax := s.mot.ax.set n { (default : Axis) with lq := (axOf s n).lq } } }
        evAxisConfigured n 0 0 0) c.handle .ok 0 0
    else
      let s := claimPins s who (axPins d)
      let j := match s.mram.axes.get n with
        | some j =>
          let fits := j.crc = (crc32c d).toNat
          let may := if adKind d = 1 then j.off && !j.phaseLost else fbMode (fbkCh s (adFbk d)).desc == 2
          if fits ∧ may then some j else none
        | none => none
      let x : Axis := { (default : Axis) with
        desc := d
        state := .disabled
        lq := (axOf s n).lq
        lv := (axOf s n).lv }
      let x := match j with
        | some j => { x with pos := j.pos, phase := j.phase, homed := j.homed, steps := floorQ ((j.pos : Rat) / 65536 + 1 / 2) }
        | none => x
      let s := { s with mot := { s.mot with ax := s.mot.ax.set n x } }
      let s := [adPin d 0, adPin d 1, adPin d 2, adPin d 3].foldl (fun s p => pinDrive s p false) s
      let s := motEvent s evAxisConfigured n 0 0 0
      let s := if j.isSome then motEvent (bump s cMotRestores) evAxisRestored n 0 0 0 else s
      endCmd s c.handle .ok 0 0

/-- AXIS_CONFIG (R410, R411). -/
def execAxisConfig (h : Nat) (data : Option Bytes) (s : State) : Res := ok (startCmd s h 0x40 data axisConfig)

/-! ### Profile tables (R413 to R416) -/

/-- The knots of a table. -/
def profileKnots (b : Bytes) : List Knot :=
  (chunks 24 (le b 8 4) (b.drop 32)).map fun k => ⟨le k 0 4, les k 8 8, les k 16 8⟩

/-- The sign of a + b√D, D not negative. -/
def surdSign (a b D : Rat) : Int :=
  let sq := b * b * D
  if b = 0 ∨ D = 0 then (if a < 0 then -1 else if a = 0 then 0 else 1)
  else if 0 < b then (if 0 ≤ a then 1 else if a * a < sq then 1 else if a * a = sq then 0 else -1)
  else if a ≤ 0 then -1 else if sq < a * a then 1 else if sq = a * a then 0 else -1

/-- The cubic p0 + c1 x + c2 x² + c3 x³ leaves [lo, hi] at a point inside (0, 1) where its slope is 0 (R415). -/
def cubicLeaves (p0 c1 c2 c3 lo hi : Rat) : Bool :=
  if c3 = 0 then
    if c2 = 0 then false
    else
      let x := -c1 / (2 * c2)
      let p := p0 + c1 * x + c2 * x * x
      decide (0 < x ∧ x < 1 ∧ (p < lo ∨ hi < p))
  else
    let D := c2 * c2 - 3 * c1 * c3
    if D < 0 then false
    else [(1 : Rat), -1].any fun sg =>
      let xa := -c2 / (3 * c3)
      let xb := sg / (3 * c3)
      let k1 := 2 * c1 / 3 - 2 * c2 * c2 / (9 * c3)
      let k0 := p0 - c1 * c2 / (9 * c3)
      let pa := k0 + k1 * xa
      let pb := k1 * xb
      decide (surdSign xa xb D = 1) && decide (surdSign (1 - xa) (-xb) D = 1) &&
        (decide (surdSign (lo - pa) (-pb) D = 1) || decide (surdSign (pa - hi) pb D = 1))

/-- A segment passes the limits of velocity, acceleration and jerk (R415). -/
def segLimits (d : Bytes) (a b : Knot) : Bool :=
  let h : Rat := ((b.t - a.t : Nat) : Rat) / 1000000
  let dp : Rat := ((b.pos - a.pos : Int) : Rat)
  let v0 : Rat := (a.vel : Rat)
  let v1 : Rat := (b.vel : Rat)
  let a0 := (6 * dp - h * (4 * v0 + 2 * v1)) / (h * h)
  let a1 := (-6 * dp + h * (2 * v0 + 4 * v1)) / (h * h)
  let j := (-12 * dp + 6 * h * (v0 + v1)) / (h * h * h)
  let vmax : Rat := (adVmax d : Rat)
  let amax : Rat := ((adAmax d : Nat) : Rat)
  let jmax : Rat := ((le d 56 8 : Nat) : Rat)
  let x := a0 / (a0 - a1)
  let inner : Bool := a0 != a1 && decide (0 < x) && decide (x < 1) && decide (vmax < absQ (v0 + h * (a0 * x + (a1 - a0) * x * x / 2)))
  !(decide (vmax < absQ v0) || decide (vmax < absQ v1) || inner || decide (amax < absQ a0) || decide (amax < absQ a1) ||
    (jmax != 0 && decide (jmax < absQ j)))

/-- A segment stays within a range (R415, R417). -/
def segWithin (lo hi : Int) (a b : Knot) : Bool :=
  let h : Rat := ((b.t - a.t : Nat) : Rat) / 1000000
  let p0 : Rat := (a.pos : Rat)
  let dp : Rat := ((b.pos - a.pos : Int) : Rat)
  let u0 : Rat := h * (a.vel : Rat)
  let u1 : Rat := h * (b.vel : Rat)
  decide (lo ≤ a.pos) && decide (a.pos ≤ hi) && decide (lo ≤ b.pos) && decide (b.pos ≤ hi) &&
    !cubicLeaves p0 u0 (3 * dp - 2 * u0 - u1) (u0 + u1 - 2 * dp) (lo : Rat) (hi : Rat)

/-- The index of the first segment that fails a test, counted from `k`. -/
def segFails (f : Knot → Knot → Bool) : Nat → List Knot → Option Nat
  | k, a :: b :: t => if f a b then segFails f (k + 1) (b :: t) else some k
  | _, _ => none

/-- The interpolation tick of an axis, in µs: TICK_US, or the period of a servo's loop (R410). -/
def axTickUs (s : State) (d : Bytes) : Nat := if adKind d = 1 then le d 16 4 else ldPeriod ((loopOf s (adLoop d)).desc.getD [])

/-- The first failing check of a table, with the knot index (R415). -/
def profileCheck (s : State) (n : Nat) (b : Bytes) : Option (Status × Nat) :=
  let x := axOf s n
  let d := x.desc
  let ks := profileKnots b
  let count := le b 8 4
  if x.state = .off then some (.state, 0)
  else if slice b 0 4 ≠ magic 'P' 'S' 'P' 'F' ∨ 1 < le b 4 1 ∨ !allZero (slice b 5 3) ∨ !allZero (slice b 16 16) then some (.badField, 0)
  else match (chunks 24 count (b.drop 32)).findIdx? (fun k => !allZero (slice k 4 4)) with
  | some i => some (.badField, i)
  | none =>
    if (crc32c (b.drop 32)).toNat ≠ le b 12 4 then some (.checksum, 0)
    else if count < 2 ∨ 65537 < count ∨ b.length ≠ 32 + 24 * count ∨ (ks.headD default).t ≠ 0 then some (.range, 0)
    else match segFails (fun a b => decide (a.t < b.t) && decide (axTickUs s d ≤ b.t - a.t)) 0 ks with
    | some i => some (.range, i)
    | none =>
      if (ks.headD default).vel ≠ 0 then some (.badField, 0)
      else if (ks.getLastD default).vel ≠ 0 then some (.badField, count - 1)
      else match segFails (segLimits d) 0 ks with
      | some i => some (.range, i)
      | none =>
        if bit (le b 4 1) 0 then none
        else (segFails (segWithin (adMin d) (adMax d)) 0 ks).map fun i => (.range, i)

/-- PROFILE_LOAD, once its last Slice has run (R415, R416): the table becomes the newest. -/
def profileLoad (s : State) (n : Nat) (b : Bytes) : State × Status × Nat :=
  match profileCheck s n b with
  | some (st, i) => (motEvent (bump s cMotProfileRejected) evProfileRejected n 0 i 0, st, 0)
  | none =>
    let x := axOf s n
    let into := match x.running with | some k => !k | none => !x.newest
    let p : Profile := ⟨bit (le b 4 1) 0, profileKnots b⟩
    let s := axUpd s n fun x => { x with
      newest := into
      buf0 := if into then x.buf0 else some p
      buf1 := if into then some p else x.buf1 }
    (motEvent s evProfileLoaded n 0 0 0, .ok, le b 8 4 - 1)

/-! ### Starting, stopping and homing (R417 to R421) -/

/-- Input levels of an axis as they are now. -/
def axLevels (s : State) (n lv : Nat) : State := axUpd s n fun x => { x with lv := lv % 16 }

/-- The direction of a profile's first motion: 1, -1, or 0 for none. -/
def firstMotion : List Knot → Int
  | a :: b :: t =>
    let h : Rat := ((b.t - a.t : Nat) : Rat) / 1000000
    let dp : Rat := ((b.pos - a.pos : Int) : Rat)
    let a0 := 6 * dp - h * (4 * (a.vel : Rat) + 2 * (b.vel : Rat))
    let j := -12 * dp + 6 * h * ((a.vel : Rat) + (b.vel : Rat))
    if a.vel ≠ 0 then (if a.vel < 0 then -1 else 1)
    else if a0 ≠ 0 then (if a0 < 0 then -1 else 1)
    else if j ≠ 0 then (if j < 0 then -1 else 1)
    else firstMotion (b :: t)
  | _ => 0

/-- Why a START is refused, or the knots it runs, absolute (R417). -/
def startCheck (s : State) (n : Nat) : Except Status (List Knot) :=
  let x := axOf s n
  let d := x.desc
  let l := loopOf s (adLoop d)
  match x.state with
  | .moving | .homing | .stopping | .transition => .error .busy
  | .off | .disabled | .fault => .error .state
  | .standstill =>
    match if x.newest then x.buf1 else x.buf0 with
    | none => .error .state
    | some p =>
      let ks := if p.relative then p.knots.map (fun k => { k with pos := k.pos + x.pos }) else p.knots
      let dir := firstMotion ks
      if !p.relative ∧ (!x.homed ∨ (ks.headD default).pos ≠ x.pos) then .error .state
      else if adKind d = 2 ∧ (l.desc.isNone ∨ l.mode ≠ .auto ∨ l.hold) then .error .state
      else if p.relative ∧ (segFails (segWithin (adMin d) (adMax d)) 0 ks).isSome then .error .range
      else if (0 < dir ∧ bit x.lv 0) ∨ (dir < 0 ∧ bit x.lv 1) then .error .state
      else .ok ks

/-- A stepper's DIR for a motion that starts, and its first tick (R422). -/
def stepsBegin (s : State) (n : Nat) (neg : Bool) : State :=
  let x := axOf s n
  if adKind x.desc ≠ 1 then s
  else
    let s := axUpd s n fun x => { x with dirFree := s.tmb.now, sched := [], tickAt := some s.tmb.now }
    if neg = x.dirNeg ∨ x.pulseEnd.isSome then s
    else pinDrive (axUpd s n fun x => { x with dirNeg := neg }) (adPin x.desc 1) (neg != adFlag x.desc 0)

/-- START (R417). -/
def axStart (s : State) (n : Nat) : State × Status :=
  match startCheck s n with
  | .error st =>
    let s := motEvent (bump s cMotMovesRefused) evMoveRefused n 0 0 0
    (axUpd s n fun x => { x with blk := if x.blk = 1 then 3 else x.blk }, st)
  | .ok ks =>
    let s := axUpd (bump s cMotMoves) n fun x => { x with
      state := .moving
      traj := .profile s.tmb.now ks
      running := some x.newest
      seg := 0
      inpos := false
      inposSince := none }
    (stepsBegin s n (decide (firstMotion ks < 0)), .ok)

/-- The cause of a fault no longer persists (R419). -/
def causeGone (s : State) (n : Nat) : Bool :=
  let x := axOf s n
  match x.cause with
  | 1 => decide (((x.pos - x.act).natAbs : Int) ≤ adFeLimit x.desc)
  | 4 => false
  | 5 => let c := fbkCh s (adFbk x.desc)
    !c.bad && !c.implaus
  | _ => true

/-- STOP (R419): controlled or immediate; `cmd` completes when the axis is at rest. -/
def axStop (s : State) (n : Nat) (now : Bool) (cmd : Option Nat) : State :=
  let x := axOf s n
  let wait (s : State) : State := match cmd with
    | some h => axUpd s n fun x => { x with stopCmds := x.stopCmds ++ [h] }
    | none => s
  let rest (s : State) : State := axStopsEnd (wait s) n
  match x.state with
  | .fault =>
    if causeGone s n then rest (axUpd (bump s cMotStops) n fun x => { x with state := .standstill, cause := 0 }) else rest s
  | .moving | .homing | .stopping =>
    let s := homeEnds (bump s cMotStops) n .aborted
    let s := axUpd s n fun x => { x with blk := if x.blk = 1 then 0 else x.blk }
    if now then rest (axUpd (axFreeze s n) n fun x => { x with state := .standstill })
    else
      let s := axToward (axBring s n s.tmb.now) n 0
      let s := axUpd s n fun x => { x with state := .stopping, running := none, dirFree := s.tmb.now }
      wait (axReplan s n)
  | _ => rest s

/-- HOME (R421): refused, done at once, or started. -/
def axHome (s : State) (n method : Nat) (cmd : Option Nat) : State × Option Status :=
  let x := axOf s n
  let d := x.desc
  let absent : Bool := match method with
    | 1 | 2 => adPin d 7 == 0xFF
    | 3 => adPin d 5 == 0xFF
    | 4 => adPin d 6 == 0xFF
    | 5 | 6 => adPin d 7 == 0xFF || adFbk d == 0xFF
    | 7 => adKind d != 2
    | 8 => false
    | _ => true
  if x.state ≠ .standstill then (s, some .state)
  else if absent then (s, some .badField)
  else
    let s := axUpd (bump s cMotHomings) n fun x => { x with homed := false, inpos := false, inposSince := none }
    let h : Homing := ⟨method, 1, 0, 0, s.tmb.now + 1000000 * le d 108 4, cmd⟩
    if method = 8 then
      let (p, s) := axPosAt s n s.tmb.now
      let dq := adHomePos d - nearestQ p
      let s := axUpd s n fun x => { x with
        pos := x.pos + dq
        offs := x.offs + dq
        steps := floorQ (((x.pos + dq : Int) : Rat) / 65536 + 1 / 2)
        homing := some h }
      (homeDone s n h, none)
    else
      let s := axUpd s n fun x => { x with state := .homing, homing := some h }
      let skip : Bool := match homeInput method with | some i => bit x.lv i | none => false
      let s := if skip then homePhase2 s n h else axToward s n (homeVel d method)
      let v := if skip then homeSlow d method else homeVel d method
      (stepsBegin s n (decide (v < 0)), none)

/-- An entry of an axis's queue acts at its launch (R417). -/
def motAct (s : State) (n : Nat) (e : LqEntry) : State :=
  match e.action with
  | 1 =>
    let (s, st) := axStart s n
    endLaunch s e st 0
  | 2 => axStop s n (e.tag == 1) e.cmd
  | _ =>
    let (s, st) := axHome s n e.tag e.cmd
    match st with
    | some x => endLaunch s e x 0
    | none => s

/-- An entry reaches an axis's launch queue (R57 to R61, R417). -/
def motEnqueue (s : State) (n : Nat) (e : LqEntry) : State × Status :=
  let legal : Bool := match e.action with
    | 1 => e.tag == 0
    | 2 => decide (e.tag ≤ 1)
    | 3 => decide (1 ≤ e.tag) && decide (e.tag ≤ 8)
    | _ => false
  if !legal ∨ 64 ≤ n then (s, .badField)
  else
    let a := arrival s 200 e
    let s := noteLate s a 0x09 n
    match a with
    | .lateRun => (motAct s n e, .ok)
    | .lateDrop => (s, .timeout)
    | .onTime =>
      if 16 ≤ (axOf s n).lq.length then (s, .noResource)
      else (axUpd s n fun x => { x with lq := lqInsert e x.lq }, .ok)

/-- AXIS_MOVE (R417): a START of the newest table at INSTANT, or as soon as possible; `lv`: the levels of the axis's inputs. -/
def execAxisMove (h lv : Nat) (s : State) : Res :=
  ok (startCmd s h 0x42 (some []) fun s c =>
    let e : LqEntry := ⟨c.instant, 0, false, 1, 0, some c.handle⟩
    if c.instant = 0 then motAct (axLevels s c.unit lv) c.unit e
    else
      let (s, st) := motEnqueue s c.unit e
      if st = .ok then s else endCmd s c.handle st 0 0)

/-- AXIS_HOME (R421). -/
def execAxisHome (h lv : Nat) (s : State) : Res :=
  ok (startCmd s h 0x43 (some []) fun s c =>
    let (s, st) := axHome (axLevels s c.unit lv) c.unit c.arg (some c.handle)
    match st with
    | some x => endCmd s c.handle x 0 0
    | none => s)

/-- The command with a handle has an ARG. -/
def argIs (s : State) (h : Nat) (p : Nat → Bool) : Bool := match cmdFind s h with | some c => p c.arg | none => false

/-- AXIS_STOP_CONTROLLED (R419); an A above 1 is no stop of the table. -/
def execAxisStopControlled (h : Nat) (s : State) : Res :=
  if argIs s h (· == 1) then ok s
  else ok (startCmd s h 0x44 (some []) fun s c => if c.arg = 0 then axStop s c.unit false (some c.handle) else endCmd s c.handle .badField 0 0)

/-- AXIS_STOP_IMMEDIATE (R419). -/
def execAxisStopImmediate (h : Nat) (s : State) : Res :=
  if argIs s h (· == 1) then ok (startCmd s h 0x44 (some []) fun s c => axStop s c.unit true (some c.handle)) else ok s

/-- The front entry of an axis's queue launches, when its action is `a`. -/
def motLaunch (a n lv : Nat) (s : State) : State :=
  match (axOf s n).lq with
  | [] => s
  | e :: t =>
    if e.action ≠ a then s
    else motAct (axUpd (axLevels (advance s e.instant) n lv) n fun x => { x with lq := t }) n e

/-- MOT_START (R417). -/
def execMotStart (n lv : Nat) (s : State) : Res := ok (motLaunch 1 n lv s)
/-- MOT_STOP (R419). -/
def execMotStop (n lv : Nat) (s : State) : Res := ok (motLaunch 2 n lv s)
/-- MOT_HOME (R421). -/
def execMotHome (n lv : Nat) (s : State) : Res := ok (motLaunch 3 n lv s)

/-- An AXIS_MOVE block's start (04_cycle_engine R166), at its item's commit. -/
def axisMoveReq (s : State) (n : Nat) : State :=
  if n < 64 then (axStart (axUpd s n fun x => { x with blk := 1 }) n).1 else s

/-- What AXIS_STATUS shows (04_cycle_engine R166): position and velocity in counts, INPOS, HOMED. -/
def axisLook (s : State) (n : Nat) : Rat × Rat × Bool × Bool :=
  let x := axOf s n
  let (p, v, _) := axAt x s.tmb.now
  (p / 65536, v / 65536, x.inpos, x.homed)

/-- What an AXIS_MOVE block shows: BUSY, DONE, ERR (R417, R418). -/
def axisMoveLook (s : State) (n : Nat) : Bool × Bool × Bool :=
  let b := (axOf s n).blk
  (b == 1, b == 2, b == 3)

/-! ### Ticks and steps (R422, R426) -/

/-- STEPPER_TICK (R422): the profile is evaluated, the checks of the tick run, the steps up to the next tick are scheduled. -/
def execStepperTick (n lv : Nat) (s : State) : Res :=
  let x := axOf s n
  match x.tickAt with
  | none => ok s
  | some t =>
    if adKind x.desc ≠ 1 then ok s
    else
      let s := axBring (axLevels (advance s t) n lv) n t
      let s := axEnd (axSoft s n) n t
      let s := axPoint s n (le x.desc 112 4) (axOf s n).pos qVALID
      let s := axPoint s n (le x.desc 116 4) (axOf s n).vel qVALID
      let s := axChecks s n t
      let next := t + adTick x.desc
      let s := axUpd s n fun x => { x with tickAt := if x.state = .off ∨ x.state = .disabled then none else some next }
      ok (if axMoving (axOf s n) then stepPlan s n t next else s)

/-- STEP_PULSE (R422): the next scheduled rising edge. -/
def execStepPulse (n : Nat) (s : State) : Res :=
  let x := axOf s n
  match x.sched, x.pulseEnd with
  | (t, neg, late) :: rest, none =>
    let s := advance s t
    let s := if late then bump s cMotStepDelayed else s
    let m := adCycle x.desc
    let s := axUpd (bump s cMotSteps) n fun x => { x with
      sched := rest
      steps := if neg then x.steps - 1 else x.steps + 1
      phase := if neg then (x.phase + m - 1) % m else (x.phase + 1) % m
      lastRise := some t
      pulseEnd := some (t + adWidth x.desc) }
    ok (pinDrive s (adPin x.desc 0) true)
  | _, _ => ok s

/-- STEP_PULSE_FALL (R422). -/
def execStepPulseFall (n : Nat) (s : State) : Res :=
  let x := axOf s n
  match x.pulseEnd with
  | none => ok s
  | some t =>
    let s := axUpd (advance s t) n fun x => { x with pulseEnd := none }
    ok (stepDir (pinDrive s (adPin x.desc 0) false) n)

/-- SERVO_TICK (R426): at `t` the commanded position and velocity of the next sample instant at least 1 µs later are committed. -/
def execServoTick (n lv t : Nat) (s : State) : Res :=
  let x := axOf s n
  let d := x.desc
  let l := loopOf s (adLoop d)
  if adKind d ≠ 2 ∨ l.desc.isNone then ok s
  else
    let s := axLevels (advance s t) n lv
    let at' := if s.tmb.now + 1000 ≤ l.due then l.due else loopInstant (l.desc.getD []) l.domOff (s.tmb.now + 1000)
    let s := axBring s n at'
    let s := axEnd (axSoft s n) n s.tmb.now
    let s := match (axOf s n).homing with | some h => homeHardStop s n h | none => s
    let x := axOf s n
    ok (axLinks (writeGroup s ([(112, x.pos), (116, x.vel)].filterMap fun e =>
      if le d e.1 4 = 0 then none
      else some ⟨le d e.1 4, BitVec.ofNat 64 (real64Code ((e.2 : Rat) / 65536)), none, none, qVALID, wMOT, n, false⟩)) n)

/-! ### Inputs (R421, R424, R427) -/

/-- LIMIT_SWITCH_ACTIVE (R421, R427): a limit switch of an axis becomes active. -/
def execLimitSwitchActive (n : Nat) (positive : Bool) (t : Nat) (s : State) : Res :=
  let x := axOf s n
  if adPin x.desc (if positive then 5 else 6) = 0xFF ∨ x.desc = [] then ok s
  else
    let s := advance s t
    let s := axUpd s n fun x => { x with lv := if positive then x.lv ||| 1 else x.lv ||| 2 }
    if x.homing.isSome then ok (axReplan (homeEdge s n (if positive then 0 else 1) true t) n)
    else
      let v := (axAt (axOf s n) s.tmb.now).2.1
      if axMoving x ∧ (if positive then 0 < v else v < 0) then ok (axFault (bump s cMotHardLimits) n 2 evHardLimit) else ok s

/-- HOME_SWITCH_EDGE (R421): an edge of PIN_HOME (2), PIN_LIMP (0) or PIN_LIMN (1). -/
def execHomeSwitchEdge (n which : Nat) (active : Bool) (t : Nat) (s : State) : Res :=
  let x := axOf s n
  let pin := match which with | 0 => 5 | 1 => 6 | _ => 7
  if adPin x.desc pin = 0xFF ∨ x.desc = [] ∨ 2 < which then ok s
  else
    let s := advance s t
    let s := axUpd s n fun x => { x with lv := if active then x.lv ||| 2 ^ which else x.lv &&& (15 - 2 ^ which) }
    ok (axReplan (homeEdge s n which active t) n)

/-- HOMING_TIMEOUT (R421). -/
def execHomingTimeout (n : Nat) (s : State) : Res :=
  match (axOf s n).homing with
  | some h => ok (homeFail (advance s h.due) n .timeout)
  | none => ok s

/-- PGOOD_LOSS (R424): PIN_PGOOD inactive for 1 µs at `t`. -/
def execPgoodLoss (n t : Nat) (s : State) : Res :=
  let x := axOf s n
  let on : Bool := axLive x || (x.state == .fault && x.cause != 4) || (x.state == .transition && x.pgoodSeen)
  if adPin x.desc 4 = 0xFF ∨ x.desc = [] ∨ !on then ok s
  else
    let s := advance s t
    let s := pinDrive s (adPin x.desc 2) false
    let s := axUpd s n fun x => { x with phaseLost := true, homed := false, drive := .none, driveCmd := none, lv := x.lv &&& 7 }
    let s := axFault (bump s cMotPhaseLosses) n 4 evPhaseLost
    let s := axUpd s n fun x => { x with homed := false }
    let s := match x.driveCmd with | some h => endCmd s h .faulted 0 0 | none => s
    ok (axJournal s n false)

/-! ### Driver power (R423) -/

/-- AXIS_DRIVE 0 (R423). -/
def driveOff (s : State) (c : Cmd) : State :=
  let n := c.unit
  let x := axOf s n
  if x.state ≠ .standstill ∧ x.state ≠ .fault then endCmd s c.handle .state 0 0
  else
    let s := pinDrive s (adPin x.desc 2) false
    let s := axJournal s n true
    let s := pinDrive s (adPin x.desc 3) false
    let s := axUpd s n fun x => { x with state := .disabled, cause := 0, tickAt := none }
    endCmd (motEvent s evDriveOff n 0 0 0) c.handle .ok 0 0

/-- AXIS_DRIVE_OFF (R423); an A above 1 is no switching of the table. -/
def execAxisDriveOff (h : Nat) (s : State) : Res :=
  if argIs s h (· == 1) then ok s
  else ok (startCmd s h 0x45 (some []) fun s c => if c.arg = 0 then driveOff s c else endCmd s c.handle .badField 0 0)

/-- PIN_ENA goes active; 1 ms later the axis is STANDSTILL (R423). -/
def driveEnable (s : State) (n : Nat) : State :=
  axUpd (pinDrive s (adPin (axOf s n).desc 2) true) n fun x => { x with drive := .enable (s.tmb.now + 1000000) }

/-- The settle time starts (R423). -/
def driveSettle (s : State) (n : Nat) : State :=
  axUpd s n fun x => { x with drive := .settle (s.tmb.now + 1000000 * fld s fMotCtrlSettleMs) }

/-- AXIS_DRIVE 1 (R423): in DISABLED, or out of a PGOOD fault (R424). -/
def driveOn (s : State) (c : Cmd) : State :=
  let n := c.unit
  let x := axOf s n
  if x.state ≠ .disabled ∧ !(x.state = .fault ∧ x.cause = 4) then endCmd s c.handle .state 0 0
  else
    let s := pinDrive s (adPin x.desc 3) true
    let s := axUpd s n fun x => { x with state := .transition, cause := 0, driveCmd := some c.handle, pgoodSeen := false }
    if adPin x.desc 4 = 0xFF then driveSettle s n
    else axUpd s n fun x => { x with drive := .pgood (s.tmb.now + 1000000000) }

/-- AXIS_DRIVE_ON (R423). -/
def execAxisDriveOn (h : Nat) (s : State) : Res :=
  if argIs s h (· == 1) then ok (startCmd s h 0x45 (some []) driveOn) else ok s

/-- PGOOD_RISE (R423). -/
def execPgoodRise (n t : Nat) (s : State) : Res :=
  match (axOf s n).drive with
  | .pgood _ => ok (driveSettle (axUpd (advance s t) n fun x => { x with pgoodSeen := true, lv := x.lv ||| 8 }) n)
  | _ => ok s

/-- DRIVE_SETTLE_END (R423): restore steps when the driver's phase has to be restored, else PIN_ENA. -/
def execDriveSettleEnd (n : Nat) (s : State) : Res :=
  let x := axOf s n
  match x.drive with
  | .settle t =>
    let s := advance s t
    if adKind x.desc = 1 ∧ adFlag x.desc 2 ∧ adPin x.desc 3 ≠ 0xFF ∧ !x.phaseLost ∧ x.phase ≠ 0 then
      let s := pinDrive s (adPin x.desc 1) (adFlag x.desc 0)
      ok (axUpd s n fun x => { x with dirNeg := false, drive := .restore x.phase s.tmb.now })
    else ok (driveEnable s n)
  | _ => ok s

/-- PHASE_RESTORE_STEP (R423): one step with DIR positive, which does not change the position; after the last one PIN_ENA goes active. -/
def execPhaseRestoreStep (n : Nat) (s : State) : Res :=
  let x := axOf s n
  match x.drive with
  | .restore (k + 1) t =>
    let s := advance s t
    let s := pinDrive s (adPin x.desc 0) true
    let s := axUpd (bump s cMotPhaseRestores) n fun x => { x with
      lastRise := some t
      pulseEnd := some (t + adWidth x.desc)
      drive := .restore k (t + 1000000 / max 1 (fld s fMotCtrlRestoreKhz)) }
    ok (if k = 0 then driveEnable s n else s)
  | _ => ok s

/-- DRIVE_ENABLE_DELAY (R423). -/
def execDriveEnableDelay (n : Nat) (s : State) : Res :=
  let x := axOf s n
  match x.drive with
  | .enable t =>
    let s := advance s t
    let s := axUpd s n fun x => { x with
      state := .standstill
      drive := .none
      driveCmd := none
      tickAt := if adKind x.desc = 1 then some s.tmb.now else none }
    let s := motEvent s evDriveOn n 0 0 0
    ok (match x.driveCmd with | some h => endCmd s h .ok 0 0 | none => s)
  | _ => ok s

/-- PGOOD_TIMEOUT (R423): AXIS_DRIVE 1 ends with FAULTED. -/
def execPgoodTimeout (n : Nat) (s : State) : Res :=
  let x := axOf s n
  match x.drive with
  | .pgood t =>
    let s := pinDrive (advance s t) (adPin x.desc 3) false
    let s := axUpd s n fun x => { x with state := .disabled, drive := .none, driveCmd := none }
    ok (match x.driveCmd with | some h => endCmd s h .faulted 0 0 | none => s)
  | _ => ok s

/-- The checks of a MOT commit (R429). -/
def motCommitCheck (s : State) : Status :=
  if sfld s fMotCtrlRestoreKhz = 0 ∨ 1000 < sfld s fMotCtrlRestoreKhz ∨ 1000 < sfld s fMotCtrlSettleMs then .range else .ok

end Sys2Proof.Machine
end

