-- ==== Sys2Proof/Machine/Links.lean ====
section
/-! DEFINITION. Launch requests of work items (04_cycle_engine R175, 07_hearth R235, R236): the queues an item may address, what they accept, and
entering them at the item's commit; fallback at a Cycle Engine stop; the boot program. -/
namespace Sys2Proof.Machine
open Sys2Proof

/-- A queue an LREQ may name exists (R58, R175). -/
def lqKnown (src q : Nat) : Bool :=
  match src with
  | 0x02 => q == 0
  | 0x09 => decide (q < 64)
  | 0x0C => decide (q < 16)
  | 0x0D => decide (q < 8)
  | _ => false

/-- An entry, with its CAN frame, is one its queue accepts (R64, R425, R400, R483); `staged` are the frames other items have staged for it. -/
def lqLegal (s : State) (src q : Nat) (e : LqEntry) (frame : Bytes) (staged : List Bytes) : Bool :=
  match src with
  | 0x02 => tioEntryOk e
  | 0x09 => (e.action == 1 && e.tag == 0) || (e.action == 2 && decide (e.tag ≤ 1)) || (e.action == 3 && decide (1 ≤ e.tag) && decide (e.tag ≤ 8))
  | 0x0C => decide (1 ≤ e.action) && decide (e.action ≤ 3) && e.tag == 0
  | _ => e.action == 1 && e.tag == 0 && !cfBad s q frame && !staged.any (fun f => cfHandle f == cfHandle frame)

/-- A queue grants no credit beyond what is reserved (R61, R235, R486). -/
def lqFull (s : State) (src q : Nat) (frame : Bytes) (staged : List Bytes) : Bool :=
  match src with
  | 0x02 => decide (4096 ≤ s.tmb.lq.length + staged.length)
  | 0x09 => decide (16 ≤ (axOf s q).lq.length + staged.length)
  | 0x0C => decide (16 ≤ (capCh s q).lq.length + staged.length)
  | _ => canFull s q frame staged

/-- A committed launch request enters its queue (R236). -/
def lqEnter (s : State) (src q : Nat) (e : LqEntry) (frame : Bytes) : State :=
  match src with
  | 0x02 => (tioEnqueue s e).1
  | 0x09 => (motEnqueue s q e).1
  | 0x0C => (capEnqueue s q e).1
  | _ => (canEnqueue s q e (cfClean frame) false).1

/-- Fallback at a Cycle Engine stop (R225). -/
def ileFallbackEnter (s : State) (reason : Nat) : State := ileEnter s reason (pairActive s && (reason == 2 || reason == 3))

/-- A PERSIST image becomes the boot program (19_hendel R557). -/
def bootProgram (s : State) (slot : Nat) : State :=
  match (s.cyc.slots.get slot).image with
  | some m =>
    let p := (s.cyc.slots.get slot).map
    if s.hdl.boot.program = some (m, p) then s else bootPend s (.program m p)
  | none => s

end Sys2Proof.Machine
end

