-- ==== Sys2Proof/Machine/HearthOps.lean ====
section
/-! DEFINITION. Hearth's shared operations (07_hearth R229 to R242): the trace, credits, enqueueing, the choice of the next item, launch
credits, instance data writes. -/
namespace Sys2Proof.Machine
open Sys2Proof

/-- The HRT_SRC element of a source id (R241). -/
def srcElem : Nat → Nat
  | 0x04 => 0 | 0x07 => 1 | 0x01 => 2 | 0x03 => 3 | 0x11 => 4 | 0x08 => 5 | _ => 7

/-- Core pairs of the pool. -/
def poolSize : Nat := 32

/-- Core pairs not retired (HRT_POOL_STATUS.AVAILABLE). -/
def hrtAvailable (s : State) : Nat := ((List.range poolSize).filter fun c => !(s.hrt.cores.get c).retired).length

/-- Event of Hearth: core pair, source, REF, status (R243). -/
def hrtEvent (s : State) (k : EvKind) (core src ref status : Nat) : State :=
  event s k [(2, core), (1, src), (4, ref), (1, status)]

/-- Records the trace ring holds (R242). -/
def traceMax : Nat := 1048576

/-- Write a trace record of KIND `kind` (R242); a freeze counts it instead. -/
def hrtTrace (s : State) (kind core : Nat) (d : Desc) (status : Nat) : State :=
  if !bit (fld s fHrtCtrlTraceMask) (kind - 1) then s
  else if flag s fHrtCtrlTraceFreeze then bump s cHrtTraceDropped
  else
    let q := (s.hrt.traceSeq + 1) % 2 ^ 32
    let r : TraceRec := ⟨s.tmb.now, curEpoch s, q, kind, core, d.source, d.prio + 8 * b2n d.retry, d.ref,
      clampI (-2147483647) 2147483647 ((d.deadline : Int) - s.tmb.now), status, s.hrt.ready.length⟩
    let l := if s.hrt.trace.length < traceMax then s.hrt.trace else s.hrt.trace.tail
    { s with hrt := { s.hrt with trace := l ++ [r], traceSeq := q } }

/-- A trace record as TRACE_READ returns it (R242). -/
def traceBytes (r : TraceRec) : Bytes :=
  leBytes 8 r.stamp ++ leBytes 4 r.epoch ++ leBytes 4 r.seq ++ leBytes 1 r.kind ++ leBytes 1 r.core ++ leBytes 1 r.source ++
  leBytes 1 r.ctrl ++ leBytes 4 r.ref ++ lesBytes 4 r.slack ++ leBytes 1 r.status ++ zeros 1 ++ leBytes 2 r.level

/-- Ready entries a source holds. -/
def entriesHeld (s : State) (src : Nat) : Nat := (s.hrt.ready.filter (·.source == src)).length

/-- The sources of HRT_SRC elements 0 to 5. -/
def hrtSources : List Nat := [0x04, 0x07, 0x01, 0x03, 0x11, 0x08]

/-- A source may enqueue (R241). -/
def hrtCredit (s : State) (src : Nat) : Bool :=
  let held := entriesHeld s src
  let free := 4096 - s.hrt.ready.length
  let owed := ((hrtSources.filter (· != src)).map fun o => fld s (fHrtSrcMin (srcElem o)) - entriesHeld s o).foldl (· + ·) 0
  decide (held < fld s (fHrtSrcMax (srcElem src))) && (decide (held < fld s (fHrtSrcMin (srcElem src))) || decide (owed < free))

/-- Put an item into the ready queue. -/
def readyPush (s : State) (d : Desc) : State :=
  let d := { d with enqueued := s.tmb.now }
  hrtTrace (bump { s with hrt := { s.hrt with ready := s.hrt.ready ++ [d] } } cHrtEnqueued) 1 0xFF d 0

/-- Keep held items ordered by DEADLINE (R241). -/
def heldInsert (d : Desc) : List Desc → List Desc
  | [] => [d]
  | h :: t => if h.deadline ≤ d.deadline then h :: heldInsert d t else d :: h :: t

/-- A producer enqueues an item, or holds it until a credit returns (R241). -/
def hrtEnqueue (s : State) (d : Desc) : State :=
  if hrtCredit s d.source ∧ !s.hrt.held.any (·.source == d.source) then readyPush s d
  else
    let s := bump { s with hrt := { s.hrt with held := heldInsert d s.hrt.held } } cHrtCreditHold
    let s := if s.hrt.heldFirst.contains d.source then s
      else hrtEvent { s with hrt := { s.hrt with heldFirst := d.source :: s.hrt.heldFirst } } evCreditHoldFirst 0 d.source d.ref 0
    hrtTrace s 7 0xFF d 0

/-- A firmware item of a source (R229, R230, R233): its PRIO and SLACK_US from HRT_SRC, LIMIT_NS 20,000. -/
def hrtFirmware (s : State) (src type ref context arg : Nat) : State :=
  let e := srcElem src
  hrtEnqueue s { (default : Desc) with
    type := type
    source := src
    prio := fld s (fHrtSrcPrio e)
    ref := ref
    deadline := s.tmb.now + fld s (fHrtSrcSlackUs e) * 1000
    limit := 20000
    context := context
    arg := arg }

/-- An item goes before another (R231): higher PRIO, then a retry at the head of its PRIO (R238), then the earlier DEADLINE. -/
def goesBefore (a b : Desc) : Bool :=
  if a.prio ≠ b.prio then decide (b.prio < a.prio)
  else if a.retry ≠ b.retry then a.retry
  else !a.retry && decide (a.deadline < b.deadline)

/-- The item a core pair takes next; between equals the one enqueued first (R231, R232). -/
def nextItem (core : Nat) (l : List Desc) : Option Desc :=
  (l.filter (fun d => d.notOn != some core)).foldl (fun a d => match a with
    | none => some d
    | some b => if goesBefore d b then some d else some b) none

/-- Take an item out of the ready queue. -/
def readyDrop (l : List Desc) (d : Desc) : List Desc := l.erase d

/-- Launch requests staged or committing towards a queue, by their frames: their credits are reserved (R235). -/
def lqReserved (s : State) (src q : Nat) : List Bytes :=
  let of' (l : List Effect) : List Bytes := l.filterMap fun e => match e with
    | .launch a b _ f => if a = src ∧ b = q then some f else none
    | _ => none
  (s.hrt.cores.entries.flatMap fun c => match c.2.run with | some r => of' r.staged | none => []) ++ s.hrt.commits.flatMap fun j => of' j.effects

/-- Change a core pair. -/
def coreUpd (s : State) (c : Nat) (f : Core → Core) : State := { s with hrt := { s.hrt with cores := s.hrt.cores.upd c f } }

/-- The image of a slot. -/
def slotImage (s : State) (n : Nat) : Image := ((s.cyc.slots.get n).image).getD default

/-- The item record behind a Cycle Engine descriptor. -/
def itemOf (s : State) (d : Desc) : ItemRec := (slotImage s (d.context / 256 % 2)).items.getD d.ref default

/-- Lines of 64 bytes that `n` bytes at offset `o` of the instance area touch (R188, R237). -/
def linesOf (o n : Nat) : List Nat := if n = 0 then [] else (List.range ((o + n - 1) / 64 - o / 64 + 1)).map (· + o / 64)

/-- Elements of a list not yet in another, added. -/
def listUnion (l x : List Nat) : List Nat := x.foldl (fun a v => if a.contains v then a else a ++ [v]) l

/-- Write instance data in place (R237); a Weld tracks the lines of the old instances its carry map names (R188). -/
def instWrite (s : State) (slot inst o : Nat) (b : Bytes) : State :=
  let sl := s.cyc.slots.get slot
  let w := s.cyc.weld
  let off := ((slotImage s slot).insts.getD inst default).off
  let tracked := (w.state == .copying || w.state == .waiting) && slot != w.newSlot && w.carry.any (·.oldInst == inst)
  { s with cyc := { s.cyc with
    slots := s.cyc.slots.set slot { sl with data := sl.data.upd inst (fun d => bytesPut d o b) }
    weld := if tracked then { w with dirty := listUnion w.dirty (linesOf (off + o) b.length) } else w } }

/-- Source id of the Cycle Engine (R31). -/
def srcCYC : Nat := 0x04

end Sys2Proof.Machine
end

