-- ==== Sys2Proof/Machine/SeqOps.lean ====
section
/-! DEFINITION. The Step Sequencer's shared operations (08_recipes R245 to R274): the image's records, deciding a boundary, actions and ramps,
entering a step, checkpoints, abort. -/
namespace Sys2Proof.Machine
open Sys2Proof

/-! ### The image (R248 to R252) -/

/-- An executor. -/
def seqX (s : State) (x : Nat) : Exec := s.seq.exec.get x
/-- Change an executor. -/
def seqUpd (s : State) (x : Nat) (f : Exec → Exec) : State := { s with seq := { s.seq with exec := s.seq.exec.upd x f } }
/-- Its image. -/
def seqImg (e : Exec) : Bytes := e.image.getD []

/-- RECIPE_ID. -/
def riId (m : Bytes) : Nat := le m 8 8
/-- STEP_COUNT. -/
def riSteps (m : Bytes) : Nat := le m 32 2
/-- ABORT_STEP; none for 0xFFFF. -/
def riAbort (m : Bytes) : Option Nat := if le m 34 2 = 0xFFFF then none else some (le m 34 2)
/-- A bit of the header's FLAGS: 0 DOMAIN, 1 AUTO_RESUME, 2 ABORT_ON_LOST. -/
def riFlag (m : Bytes) (i : Nat) : Bool := bit (le m 39 1) i
/-- The station list. -/
def riStations (m : Bytes) : List Nat := (List.range (le m 56 2)).map fun i => le m (le m 52 4 + 4 * i) 4
/-- CONTEXT. -/
def riContext (m : Bytes) : Nat := le m 58 1
/-- A step record. -/
def riStep (m : Bytes) (n : Nat) : Bytes := slice m (le m 44 4 + 64 * n) 64
/-- An action record. -/
def riAction (m : Bytes) (i : Nat) : Bytes := slice m (le m 48 4 + 32 * i) 32

/-- END. -/
def stEnd (t : Bytes) : Nat := le t 0 1
/-- NEXT. -/
def stNext (t : Bytes) : Nat := le t 2 2
/-- DURATION in ns. -/
def stDur (t : Bytes) : Nat := 1000 * le t 4 4
/-- MAX in ns. -/
def stMax (t : Bytes) : Nat := 1000 * le t 8 4
/-- TIMEOUT_NEXT. -/
def stTimeout (t : Bytes) : Nat := le t 12 2
/-- LOOP_TO. -/
def stLoopTo (t : Bytes) : Nat := le t 14 2
/-- LOOP_COUNT. -/
def stLoopCount (t : Bytes) : Nat := le t 16 2
/-- COND_REF. -/
def stRef (t : Bytes) : Nat := le t 28 4
/-- COND_OP. -/
def stOp (t : Bytes) : Nat := le t 32 1

/-- The actions of a step, by number. -/
def stepActions (m : Bytes) (n : Nat) : List (Nat × Bytes) :=
  let t := riStep m n
  (List.range (le t 24 2)).map fun i => (le t 20 4 + i, riAction m (le t 20 4 + i))

/-- KIND. -/
def acKind (a : Bytes) : Nat := le a 0 1
/-- OFFSET_US. -/
def acOffset (a : Bytes) : Nat := le a 4 4
/-- TARGET. -/
def acTarget (a : Bytes) : Nat := le a 8 4

/-- The default lead or the image's own, in ns (R248). -/
def seqLead (s : State) (m : Bytes) : Nat := 1000 * (if le m 60 4 = 0 then fld s fSeqCtrlLeadUs else le m 60 4)

/-- The recipe runs across the modules of a domain (R247, R261). -/
def seqDomain (s : State) (m : Bytes) : Bool := riFlag m 0 && s.tmb.joined

/-- This module follows the boundaries of an owner (R247). -/
def seqFollower (s : State) (x : Nat) : Bool := fld s (fSeqExecRole x) == 1 && s.tmb.joined

/-- This module executes an action (R261). -/
def acMine (s : State) (x : Nat) (a : Bytes) : Bool := le a 2 1 == moduleNo s || (le a 2 1 == 0xFF && !seqFollower s x)

/-- The actions of a step that this module executes. -/
def myActions (s : State) (x n : Nat) : List (Nat × Bytes) := (stepActions (seqImg (seqX s x)) n).filter fun a => acMine s x a.2

/-- Items of an event of the Step Sequencer: executor, step, BSEQ, module, policy (R276). -/
def seqItems (s : State) (x module policy : Nat) : List (Nat × Int) :=
  let e := seqX s x
  [(2, x), (2, e.step), (4, e.bseq), (2, module), (1, policy)]

/-- The Step Sequencer records an event (R276). -/
def seqEvent (s : State) (k : EvKind) (x module policy : Nat) : State := event s k (seqItems s x module policy)

/-- A command to an executor ends. -/
def seqEnd (s : State) (x : Nat) (cmd : Option Nat) (st : Status) (result : Nat) : State :=
  match cmd with
  | some h => endCmd (seqUpd s x fun e => { e with lastStatus := st }) h st result 0
  | none => s

/-- An executor is active: it counts against the one of its context (R245). -/
def seqActive (e : Exec) : Bool :=
  match e.state with
  | .running | .held | .aborting | .resumable => true
  | _ => e.next.isSome

/-- Another executor of the same context is active (R245). -/
def contextTaken (s : State) (x : Nat) : Bool :=
  s.seq.exec.entries.any fun e => e.1 != x && seqActive e.2 && riContext (seqImg e.2) == riContext (seqImg (seqX s x))

/-! ### Checkpoints (R265, R266) -/

/-- Write a checkpoint after `fails` failed verifies (R265, R266); a failure is written to the Hendel log as well. -/
def checkpoint (s : State) (x entry fails : Nat) : State :=
  let e := seqX s x
  let q := (e.bseq + 1) % 2 ^ 32
  let s := seqUpd (bump s cSeqCheckpoints) x fun e => { e with bseq := q }
  let c : Checkpoint := ⟨e.state, e.step, q, e.b, e.launched, (epochOfStamp s e.launched).number, entry, e.loops, riId (seqImg e)⟩
  let bad := decide (3 ≤ fails)
  let j := s.mram.recipes.get x
  let ring := (if bad then [] else [some c]) ++ List.replicate (min fails 3) none ++ j.ring
  let s := { s with mram := { s.mram with recipes := s.mram.recipes.set x { j with
    ring := ring.take 256
    failed := bad } } }
  if bad then hendelCopy (setFld (bump s cSeqCheckpointFail) (fSeqExecCkptFail x) 1) evCheckpointFail (seqItems s x 0 0) else s

/-! ### Deciding a boundary (R254, R256, R260, R261) -/

/-- Rounded up to a whole µs of the Timeline, the domain's for a domain recipe. -/
def ceilUs (s : State) (m : Bytes) (t : Nat) : Nat :=
  let off : Int := if seqDomain s m then s.tmb.domOff else 0
  let d : Int := (t : Int) + off
  (d + (-d) % 1000 - off).toNat

/-- Loop counters after entering a step: a counter whose range [LOOP_TO, loop step] does not hold the step is dropped (R257). -/
def loopsAt (m : Bytes) (n : Nat) (l : List (Nat × Nat)) : List (Nat × Nat) :=
  l.filter fun c => decide (stLoopTo (riStep m c.1) ≤ n) && decide (n ≤ c.1)

/-- The step after a normal end (R256): step (none: the end), ENTRY, counters. -/
def nextStep (e : Exec) : Option Nat × Nat × List (Nat × Nat) :=
  let m := seqImg e
  let t := riStep m e.step
  let c := ((e.loops.find? (·.1 == e.step)).map (·.2)).getD 0
  let rest := e.loops.filter (·.1 != e.step)
  if stLoopCount t ≠ 0 ∧ c < stLoopCount t then (some (stLoopTo t), 2, loopsAt m (stLoopTo t) ((e.step, c + 1) :: rest))
  else if stNext t = 0xFFFF then (none, 1, rest)
  else (some (stNext t), 1, loopsAt m (stNext t) rest)

/-- Modules that take part in a step's boundary (R261). -/
def partners (s : State) (m : Bytes) (n : Nat) : List Nat :=
  ((stepActions m n).map fun a => le a.2 2 1).eraseDups.filter fun k => k != 0xFF && k != moduleNo s

/-- The owner carries a boundary to modules in LAUNCH messages (R261): executor, step, BSEQ, domain instant. -/
def carryBoundary (s : State) (x step inst : Nat) (mods : List Nat) : State :=
  mods.foldl (fun s k => waligAll s clsLAUNCH 1 k true
    (leBytes 2 x ++ leBytes 2 step ++ leBytes 4 (((seqX s x).bseq + 1) % 2 ^ 32) ++ lesBytes 8 ((inst : Int) + s.tmb.domOff))) s

/-- A boundary is decided (R254, R260): a late one is moved, its preparation starts, the owner of a domain recipe carries it to the modules. -/
def seqDecide (s : State) (x : Nat) (b : Bnd) : State :=
  let e := seqX s x
  let m := seqImg e
  let late := decide (b.inst < s.tmb.now + 200)
  let s := if late then noteLate s .lateRun 0x07 x else s
  let g := e.gen + 1
  let mods := match b.step with
    | some n => if seqDomain s m && !seqFollower s x && b.policy == 0 then partners s m n else []
    | none => []
  let inst := if late then max b.inst s.tmb.now else b.inst
  let s := seqUpd s x fun e => { e with
    gen := g
    next := some { b with
      inst := inst
      gen := g
      doneAt := none
      waiting := mods
      sentAt := s.tmb.now
      ackDue := s.tmb.now + seqLead s m / 2 } }
  let s := carryBoundary s x (b.step.getD 0xFFFF) inst mods
  hrtFirmware s 0x07 0 x 0 g

/-- A plain boundary. -/
def bndOf (inst : Nat) (step : Option Nat) (entry : Nat) (loops : List (Nat × Nat)) (cmd : Option Nat) : Bnd :=
  ⟨inst, step, entry, loops, 0, cmd, 0, none, false, [], 0, 0⟩

/-- The step's normal end is decided for `inst`. -/
def decideNormal (s : State) (x inst : Nat) (cmd : Option Nat) (release : Bool) : State :=
  let (n, entry, l) := nextStep (seqX s x)
  seqDecide s x (bndOf inst n (if release then 4 else entry) l cmd)

/-- A request to abort at `inst` (R263): its boundary is prepared. -/
def abortAt (s : State) (x inst : Nat) (cmd : Option Nat) : State :=
  let g := (seqX s x).gen + 1
  let m := seqImg (seqX s x)
  let mods := match riAbort m with
    | some n => if seqDomain s m && !seqFollower s x then partners s m n else []
    | none => []
  let s := seqUpd s x fun e => { e with gen := g, abort := some ⟨inst, cmd, g, none, mods, s.tmb.now + seqLead s m / 2⟩ }
  hrtFirmware (carryBoundary s x ((riAbort m).getD 0xFFFF) inst mods) 0x07 0 x 0 g

/-- The preparation of a boundary has completed (R260); one that failed is prepared again. -/
def seqItemDone (s : State) (x g status : Nat) : State :=
  let e := seqX s x
  let mine : Bool := (match e.next with | some b => b.gen == g | none => false) || (match e.abort with | some a => a.gen == g | none => false)
  if !mine then s
  else if status ≠ 0 then hrtFirmware s 0x07 0 x 0 g
  else seqUpd s x fun e => { e with
    next := e.next.map fun b => if b.gen = g then { b with doneAt := some s.tmb.now } else b
    abort := e.abort.map fun a => if a.gen = g then { a with doneAt := some s.tmb.now } else a }

/-! ### Actions and ramps (R252, R258, R259) -/

/-- A point is still there with the type an action names (R259). -/
def targetOk (s : State) (id code : Nat) : Bool := match mapFind s.pst.map id with | some e => e.type.code == code | none => false

/-- A write of an executor at an instant. -/
def seqWrite (s : State) (x id : Nat) (v : Val) (t : Nat) : State := blockWrite s wSEQ x id v (some t) qVALID

/-- The value of a ramp at an instant (R258); a start value that is no number leaves it free. -/
def rampValue (s : State) (r : Ramp) (t : Nat) : Val × State :=
  match r.v0, valNum r.type r.value with
  | some a, some b => ((numTo r.type (a + (b - a) * ((t - r.t0 : Nat) : Rat) / (r.dur : Nat))).val, s)
  | _, _ => drawFree s

/-- The next tick of a ramp. -/
def rampDue (r : Ramp) : Nat := r.t0 + r.k * r.tick

/-- An action whose target is gone is skipped (R259): counted, and recorded once for each action. -/
def actionMissing (s : State) (x i : Nat) : State :=
  let s := bump s cSeqActionNoTarget
  if (seqX s x).noted.contains i then s
  else seqEvent (seqUpd s x fun e => { e with noted := i :: e.noted }) evActionNoTarget x 0 0

/-- A ramp's write, or what becomes of it when the target is gone (R258, R259). -/
def rampWrite (s : State) (x : Nat) (r : Ramp) (v : Val) (t : Nat) : State :=
  if targetOk s r.id r.type.code then seqWrite (bump s cSeqRampWrites) x r.id v t else actionMissing s x r.act

/-- One tick of a ramp (R258): the tick at or after its end writes VALUE and ends it. -/
def rampTick (s : State) (x : Nat) (r : Ramp) : State :=
  let t := rampDue r
  let rest := (seqX s x).ramps.filter (·.act != r.act)
  if r.t0 + r.dur ≤ t then rampWrite (seqUpd s x fun e => { e with ramps := rest }) x r r.value t
  else
    let (v, s) := rampValue s r t
    rampWrite (seqUpd s x fun e => { e with ramps := rest ++ [{ r with k := r.k + 1 }] }) x r v t

/-- The ramp of action `i` starts at `t` (R258): its first tick writes the start value. -/
def rampStart (s : State) (x i id code : Nat) (v : Val) (t dur tick : Nat) : State :=
  let ty := (PType.ofCode code).getD .none
  let r : Ramp := ⟨i, id, ty, normVal ty v, t, dur, tick, recNum (readPoint s id t), 0⟩
  rampTick (seqUpd s x fun e => { e with ramps := e.ramps.filter (·.act != i) ++ [r] }) x r

/-- Execute one action at `t` (R252, R259). -/
def runAction (s : State) (x t : Nat) (a : Nat × Bytes) : State :=
  let s := bump s cSeqActions
  let b := a.2
  let k := acTarget b
  let v : Val := BitVec.ofNat 64 (le b 16 8)
  match acKind b with
  | 1 => if targetOk s k (le b 3 1) then seqWrite s x k v t else actionMissing s x a.1
  | 2 => if targetOk s k (le b 3 1) then rampStart s x a.1 k (le b 3 1) v t (1000 * le b 12 4) (1000 * le b 24 4) else actionMissing s x a.1
  | 3 => (axStart s k).1
  | 4 => if (capCh s k).desc.group = 0 then capAct s k ⟨t, 0, true, 1, 0, none⟩ else capArmCmd s k 0 none
  | _ => eventStaged s 0x07 (bits (le b 12 4) 18 16) (bits (le b 12 4) 15 0) (le b 16 8) false

/-- Execute the actions of one offset of a step (R259). -/
def runGroup (s : State) (x n off t : Nat) : State :=
  ((myActions s x n).filter fun a => acOffset a.2 == off).foldl (fun s a => runAction s x t a) s

/-- The offsets of a step above a bound, in rising order, each once. -/
def stepOffsets (s : State) (x n lo : Nat) : List Nat :=
  (((myActions s x n).map fun a => acOffset a.2).filter fun o => decide (lo < o)).foldl (fun l o => idInsert o l) []

/-- Pending offset groups are cancelled (R259, R263). -/
def cancelOffsets (s : State) (x : Nat) : State :=
  let e := seqX s x
  let n := (e.lq.map fun o => ((myActions s x e.step).filter fun a => acOffset a.2 == o.2).length).foldl (· + ·) 0
  bumpN (seqUpd s x fun e => { e with lq := [] }) cSeqActionCancelled n

/-! ### Entering a step (R254, R265, R274) -/

/-- After a step is entered its own end is decided where that is a time (R254); other ends are evaluated from now. -/
def planStep (s : State) (x t : Nat) : State :=
  let e := seqX s x
  let r := riStep (seqImg e) e.step
  let s := seqUpd s x fun e => { e with evalAt := t, settle := none }
  if seqFollower s x ∨ stEnd r ≠ 0 then s else decideNormal s x (max t (e.b + stDur r)) none false

/-- Enter step `n` at `t`, reference instant `b`, with its offset-0 group and its later groups (R259, R260). -/
def enterStep (s : State) (x n b t : Nat) (loops : List (Nat × Nat)) (state : ExecState) : State :=
  let s := seqUpd s x fun e => { e with
    state := state
    step := n
    b := b
    launched := t
    loops := loops
    next := none
    restored := false }
  let s := runGroup s x n 0 t
  seqUpd s x fun e => { e with lq := (stepOffsets s x n 0).map fun o => (b + 1000 * o, o) }

/-- H of R274: the time from L, warm; the largest hold elapsed time a station of the list reports plus the time since, cold. -/
def heldFor (s : State) (e : Exec) (r : Nat) : Option Nat :=
  if !e.cold then some (r - e.lastRun)
  else (riStations (seqImg e)).foldl (fun a n => match (stOf s n).holdElapsed, a with
    | some h, some b => some (max b (1000 * h + (r - (stOf s n).helloAt)))
    | some h, none => some (1000 * h + (r - (stOf s n).helloAt))
    | none, a => a) none

/-- RESUME_REMAINING at R (R274): the step goes on as if entered at R − E. -/
def resumeRemaining (s : State) (x r : Nat) (state : ExecState) : State :=
  let e := seqX s x
  let m := seqImg e
  let run := e.lastRun - e.b
  let el := run + (if bit (le (riStep m e.step) 1 1) 0 then (heldFor s e r).getD 0 else 0)
  let b := r - el
  let s := seqUpd s x fun e => { e with
    state := state
    b := b
    launched := r
    next := none
    restored := false }
  let acts := myActions s x e.step
  let done := acts.filter fun a => decide (1000 * acOffset a.2 ≤ el)
  let s := (done.filter fun a => acKind a.2 == 1).foldl (fun s a => runAction s x r a) s
  let open' := done.filter fun a => acKind a.2 == 2 && decide (el < 1000 * acOffset a.2 + 1000 * le a.2 12 4)
  let s := open'.foldl (fun s a =>
    if targetOk s (acTarget a.2) (le a.2 3 1) then
      rampStart s x a.1 (acTarget a.2) (le a.2 3 1) (BitVec.ofNat 64 (le a.2 16 8)) r (1000 * acOffset a.2 + 1000 * le a.2 12 4 - el) (1000 * le a.2 24 4)
    else actionMissing s x a.1) s
  seqUpd s x fun e => { e with lq := (stepOffsets s x e.step (el / 1000)).map fun o => (b + 1000 * o, o) }

/-- Commands that a later decision overtakes end with a status. -/
def dropCmds (s : State) (x : Nat) (st : Status) : State :=
  let e := seqX s x
  let s := match e.next with | some b => seqEnd s x b.cmd st 0 | none => s
  let s := match e.hold with | some h => seqEnd s x h.2 st 0 | none => s
  seqUpd s x fun e => { e with next := none, hold := none }

/-- The recipe ends, or the abort chain does (R256, R264). -/
def seqFinish (s : State) (x t fails : Nat) (aborted : Bool) : State :=
  let s := dropCmds s x .state
  let s := seqUpd s x fun e => { e with
    state := if aborted then .aborted else .done
    launched := t
    b := t
    loops := []
    ramps := [] }
  let s := checkpoint s x (if aborted then 5 else 1) fails
  if aborted then seqEvent s evRecipeAborted x 0 0 else seqEvent s evRecipeDone x 0 0

/-- The stations of the recipe meet the precondition of R273: each reports HELD and not timed out (R472). -/
def stationsHeld (s : State) (m : Bytes) : Bool := (riStations m).all fun n => (stOf s n).held

/-- SAFE_STEP of a step, else of the header (R269). -/
def safeStep (m : Bytes) (n : Nat) : Option Nat :=
  let a := le (riStep m n) 18 2
  if a ≠ 0xFFFF then some a else if le m 36 2 ≠ 0xFFFF then some (le m 36 2) else none

/-- The resume policy 0 stands for (R269). -/
def imagePolicy (m : Bytes) (n : Nat) : Nat := let p := le (riStep m n) 26 1; if p = 0 then le m 38 1 else p

/-- A resume under a policy from 1 to 4 is set for `r` (R269, R270): the boundary, or an abort. -/
def resumeAt (s : State) (x r policy : Nat) (cmd : Option Nat) : State :=
  let e := seqX s x
  let m := seqImg e
  match policy with
  | 1 | 2 => seqDecide s x { bndOf r (some e.step) 6 e.loops cmd with policy := policy, guarded := true }
  | 3 => match safeStep m e.step with
    | some n => seqDecide s x { bndOf r (some n) 6 (loopsAt m n e.loops) cmd with policy := 3 }
    | none => abortAt s x r cmd
  | _ => abortAt s x r cmd

/-- Only GOTO_SAFE_STEP and ABORT are accepted (R266), or RECIPE_ABORT (R268): a checkpoint failed, or an executor restored from one has an image
made for another map than the one in force. -/
def seqLimited (s : State) (e : Exec) : Bool :=
  e.limited || ((e.restored || e.state == .resumable) && !(match s.pst.map with | some p => p.build == le (seqImg e) 16 8 | none => false))

/-- The checks of a resume (R245, R269, R273, R472): the policy in force, or the refusal. -/
def resumeCheck (s : State) (x policy : Nat) : Except Status Nat :=
  let e := seqX s x
  let m := seqImg e
  if e.state ≠ .resumable then .error .state
  else if 4 < policy then .error .badField
  else if e.next.isSome ∨ e.abort.isSome then .error .busy
  else if contextTaken s x then .error .state
  else
    let p := if policy = 0 then imagePolicy m e.step else policy
    if seqLimited s e ∧ p ≤ 2 then .error .state
    else if p ≤ 2 ∧ !stationsHeld s m then .error .staleInput
    else if p = 1 ∧ e.cold ∧ bit (le (riStep m e.step) 1 1) 0 ∧ (heldFor s e s.tmb.now).isNone then .error .staleInput
    else .ok p

/-- Modules that take part in a recipe. -/
def recipeModules (s : State) (m : Bytes) : List Nat :=
  ((List.range (le m 40 4)).map fun i => le (riAction m i) 2 1).eraseDups.filter fun k => k != 0xFF && k != moduleNo s

/-- RECIPE_RESUME (R269 to R273); on the owner of a domain recipe R and the policy go to each participant (R271). -/
def seqResume (s : State) (x policy : Nat) (cmd : Option Nat) : State :=
  match resumeCheck s x policy with
  | .error st =>
    let s := if st = .staleInput then bump s cSeqResumeRefused else s
    seqEnd s x cmd st 0
  | .ok p =>
    let m := seqImg (seqX s x)
    let r := ceilUs s m (s.tmb.now + seqLead s m)
    let s := resumeAt s x r p cmd
    if seqDomain s m && !seqFollower s x then
      let mods := recipeModules s m
      let s := seqUpd s x fun e => { e with next := e.next.map fun b => { b with
        waiting := mods
        ackDue := s.tmb.now + seqLead s m / 2 } }
      mods.foldl (fun s k => waligAll s clsLAUNCH 3 k true 
        (leBytes 2 x ++ leBytes 1 p ++ zeros 1 ++ leBytes 4 (seqX s x).step ++ lesBytes 8 ((r : Int) + s.tmb.domOff) ++ leBytes 8 (riId m))) s
    else s

/-- The automatic resumes of R275. -/
def seqAutoResume (s : State) : State :=
  if !flag s fSeqCtrlAutoResume then s
  else (s.seq.exec.entries.map (·.1)).foldl (fun s x =>
    let e := seqX s x
    if e.state = .resumable ∧ riFlag (seqImg e) 1 ∧ e.next.isNone ∧ e.abort.isNone then seqResume s x 0 none else s) s

/-- The boot program stands in slot 0 with its map and autostarts (R155). -/
def programAutostarts (s : State) : Bool :=
  let sl := s.cyc.slots.get 0
  let boot : Bool := match s.hdl.boot.program with
    | some (m, some p) => sl.image == some m && sl.map == some p
    | _ => false
  autostarts s && flag s fCycCtrlAutostart && boot && s.cyc.state == .idle

/-- The Cycle Engine's START instant (R155, R275). -/
def seqAutostartInstant (s : State) (t : Nat) : State := seqAutoResume (advance s t)

end Sys2Proof.Machine
end

