-- ==== Sys2Proof/Machine/CycleOps.lean ====
section
/-! DEFINITION. The Cycle Engine's shared operations (04_cycle_engine R139 to R155, 05_online_change R189 to R200): cycle instants, item
enqueueing and release, the end of a cycle, stops, how a Weld is triggered, abandoned and confirmed. -/
namespace Sys2Proof.Machine
open Sys2Proof

/-- Event of the Cycle Engine: class, item, instance, slot (R180). -/
def cycEvent (s : State) (k : EvKind) (cls item inst slot : Nat) : State := event s k [(2, cls), (4, item), (4, inst), (2, slot)]

/-- Event of on-line change: slot, W, point id, trigger (R201). -/
def weldEvent (s : State) (k : EvKind) (trigger : Nat) : State :=
  event s k [(2, s.cyc.weld.newSlot), (8, s.cyc.weld.at'), (4, 0), (1, trigger)]

/-- Change the Weld. -/
def weldUpd (s : State) (f : Weld → Weld) : State := { s with cyc := { s.cyc with weld := f s.cyc.weld } }

/-- Change a running class. -/
def clsUpd (s : State) (c : Nat) (f : ClassRun → ClassRun) : State :=
  { s with cyc := { s.cyc with classes := s.cyc.classes.upd c f } }

/-- The domain offset a class computes its instants with (R140). -/
def gridOffset (s : State) (r : ClassRec) : Int := if r.domain ∧ s.tmb.joined then s.tmb.domOff else 0

/-- The first cycle instant at or after `t` of a class: Timeline t with t + offset = k × P + φ (R139, R140). -/
def instantFrom (r : ClassRec) (off : Int) (t : Nat) : Nat :=
  let p : Int := r.period * 1000
  let x : Int := (t : Int) + off - r.phase * 1000
  ((t : Int) + (-x) % (if p = 0 then 1 else p)).toNat

/-- Commit deadline of the cycle at T0 (R139). -/
def deadlineOf (r : ClassRec) (t0 : Nat) : Nat := t0 + r.outOfs * 1000 - 3000

/-- Output instant of the cycle at T0 (R139). -/
def outputOf (r : ClassRec) (t0 : Nat) : Nat := t0 + r.outOfs * 1000

/-- A Cycle Engine launch entry (R142). -/
def cycEntry (instant action cls : Nat) : LqEntry := ⟨instant, 0, true, action, cls, none⟩

/-- A class starts with its first cycle instant: the START and LATCH entries, or the LATCH alone after a Weld. -/
def classInit (s : State) (r : ClassRec) (first : Nat) (start : Bool) : ClassRun :=
  { (default : ClassRun) with
    active := !start
    info := r
    domOff := gridOffset s r
    lq := (if start then [cycEntry first 3 r.cls] else []) ++ [cycEntry first 1 r.cls] }

/-- The active classes. -/
def runningClasses (s : State) : List ClassRun := (s.cyc.classes.entries.map (·.2)).filter (·.active)

/-- The pace class of a list: the shortest period, the lowest number (R190). -/
def paceOf (l : List ClassRec) : Option ClassRec :=
  l.foldl (fun a r => match a with
    | none => some r
    | some b => if r.period < b.period ∨ (r.period = b.period ∧ r.cls < b.cls) then some r else some b) none

/-- A class is the pace class of the running program. -/
def isPace (s : State) (c : Nat) : Bool :=
  match paceOf (slotImage s s.cyc.slot).classes with
  | some r => r.cls == c
  | none => false

/-- Some class has items pending. -/
def anyPending (s : State) : Bool := s.cyc.classes.entries.any fun e => decide (0 < e.2.pending)

/-- Cost in ns of a work item (R161, R230): its instances, without the 90 ns of the path. -/
def itemCost (m : Image) (data : Nat → Bytes) (it : ItemRec) : Nat :=
  if it.type < 0x100 then
    ((List.range it.instCount).map fun i => let b := data (it.firstInst + i); blockCost it.type (le b 2 1) (blkTableN b)).foldl (· + ·) 0
  else (m.types.getD (it.type - 0x100) default).wcet * it.instCount

/-- Enqueue an item of a class's cycle (R141, R229, R230, R234). -/
def enqueueItem (s : State) (c item : Nat) : State :=
  let cr := s.cyc.classes.get c
  let sl := s.cyc.slots.get s.cyc.slot
  let m := slotImage s s.cyc.slot
  let it := m.items.getD item default
  hrtEnqueue s { (default : Desc) with
    type := it.type
    source := srcCYC
    prio := cr.info.prio
    ref := item
    deadline := deadlineOf cr.info cr.t0
    limit := min (4 * itemCost m (fun i => sl.data.get i) it) 0xFFFFFFFF
    context := c + 256 * s.cyc.slot
    arg := 0x2000000000 + (m.insts.getD it.firstInst default).off }

/-- The sequence of a fallback stop hands over to the Interlock Engine (R154, R225). -/
def stopFallback : StopReason → Bool
  | .watchdog | .poolMin | .weldFail | .imageFault => true
  | _ => false

/-- A Weld ends before its switch (R189, R197, R199, R200). -/
def weldAbandon (s : State) (st : Status) : State :=
  let s := weldEvent s evWeldAbandoned 0
  let s := match s.cyc.weld.cmd with | some h => endCmd s h st 0 0 | none => s
  weldUpd s fun w => { w with state := .none, cmd := none, lastStatus := st, dirty := [], inGap := false }

/-- Initial instance data of an image. -/
def initialData (m : Image) : SMap Bytes :=
  (m.insts.foldl (fun (a : SMap Bytes × Nat) r => (a.1.set a.2 r.init, a.2 + 1)) (SMap.empty, 0)).1

/-- Probation ends without a revert: the old instance data is discarded (R196, R200). -/
def probationEnd (s : State) (st : Status) : State :=
  let old := 1 - s.cyc.weld.newSlot
  let s := { s with cyc := { s.cyc with slots := s.cyc.slots.upd old (fun x => { x with data := initialData (x.image.getD default) }) } }
  let s := match s.cyc.weld.revertCmd with | some h => endCmd s h .aborted 0 0 | none => s
  weldUpd s fun w => { w with state := .none, lastStatus := st, left := 0, revertCmd := none, removed := [], inGap := false }

/-- The Weld is confirmed (R196): the new image becomes the boot image when it carries PERSIST. -/
def weldConfirm (s : State) : State :=
  let n := s.cyc.weld.newSlot
  let s := probationEnd (weldEvent s evWeldConfirmed 0) .ok
  if (slotImage s n).persist then bootProgram s n else s

/-- A Weld under way before W (R197, R200). -/
def weldBefore (s : State) : Bool := [WeldState.copying, .waiting, .switching].contains s.cyc.weld.state

/-- A probation or the revert it led to is under way (R196, R198). -/
def weldAfter (s : State) : Bool := [WeldState.probation, .reverting].contains s.cyc.weld.state

/-- The Cycle Engine stops (R153, R154): an on-line change ends, no class latches any more, PROGRAM_STOPPED is recorded, a fallback stop
hands over to the Interlock Engine, and a WATCHDOG or POOL_MIN stop makes the active module of a pair give up control. -/
def cycStop (s : State) (r : StopReason) : State :=
  let s := if weldBefore s then weldAbandon s .aborted else if weldAfter s then probationEnd s .aborted else s
  let s := { s with cyc := { s.cyc with
    state := .stopped
    stopReason := r
    stopAt := none
    classes := s.cyc.classes.mapV fun _ r => { r with active := false, lq := r.lq.filter (·.action == 2) } } }
  let s := recArrive s ⟨s.tmb.now, curEpoch s, 4, if r = .command then 3 else 6, evProgramStopped.code, 0,
    packItems [(2, 0), (4, 0), (4, 0), (2, s.cyc.slot)], false⟩
  let s := statusChanged s
  let s := match s.cyc.startCmd with | some h => endCmd s h .aborted 0 0 | none => s
  let s := match s.cyc.stopCmd with | some h => endCmd s h .ok 0 0 | none => s
  let s := { s with cyc := { s.cyc with startCmd := none, stopCmd := none } }
  let s := if r = .watchdog then bump s cCycWatchdogStops else s
  let s := if stopFallback r then ileFallbackEnter s r.code else s
  if r = .watchdog ∨ r = .poolMin then pairGiveUp s r.code else s

/-- A trigger of R197 during probation: a revert begins. -/
def weldTrigger (s : State) (t : WeldTrigger) : State :=
  if s.cyc.weld.state = .probation then
    weldUpd s fun w => { w with state := .reverting, trigger := t, since := s.tmb.now, deferred := 0, inGap := false }
  else s

/-- A cycle overran or was skipped (R149): at WD_LIMIT the program stops, or a revert begins during probation (R197). -/
def watchCycle (s : State) (c : Nat) : State :=
  let s := clsUpd s c fun r => { r with wd := min (r.wd + 1) 255 }
  let r := s.cyc.classes.get c
  if r.wd < r.info.wdLimit then s
  else if weldAfter s then weldTrigger s .watchdog
  else cycStop s .watchdog

/-- One frame of an output set (R145, R147, R150). -/
def outFrame (c inst : Nat) (late : Bool) (s : State) (st : Nat) : State :=
  let (s, sent) := stnOutput s c st inst late
  if sent then s else bump s cCycOutNoTarget

/-- A class's output set is enqueued at graph completion (R145). -/
def outputSet (s : State) (c : Nat) (late : Bool) : State :=
  let r := s.cyc.classes.get c
  let s := r.info.outputs.foldl (outFrame c (outputOf r.info r.t0) late) s
  ileOutputSet s (if late then s.tmb.now else outputOf r.info r.t0)

/-- A completed cycle counts towards the probation (R196). -/
def probationCount (s : State) (c : Nat) : State :=
  if s.cyc.weld.state = .probation ∧ isPace s c then
    let s := weldUpd s fun w => { w with left := w.left - 1 }
    if s.cyc.weld.left = 0 then weldConfirm s else s
  else s

/-- Address of CYC_CLASS[c].EXEC_MAX_NS. -/
def aExecMax (c : Nat) : Nat := 0x401010 + 0x20 * (c % 32)

/-- The last item of a cycle has completed (R145, R147, R149). -/
def cycleDone (s : State) (c : Nat) : State :=
  let r := s.cyc.classes.get c
  let t := s.tmb.now - r.t0
  let late := r.ovr || decide (deadlineOf r.info r.t0 < s.tmb.now)
  let s := clsUpd s c fun r => { r with
    execLast := min t 0xFFFFFFFF
    cycles := (r.cycles + 1) % 2 ^ 32
    wd := if late then r.wd else 0 }
  let s := bump (bumpMax s (aExecMax c) t) cCycCycles
  let s := if !r.ovr then outputSet s c false
    else if r.info.ovrLate then outputSet (bump s cCycOutLate) c true
    else bump s cCycOutDropped
  probationCount (digEnd s 0 c r.t0) c

/-- One successor's counter falls; at 0 it is enqueued (R234). -/
def releaseOne (c : Nat) (s : State) (i : Nat) : State :=
  let n := s.hrt.counters.get i
  let s := { s with hrt := { s.hrt with counters := s.hrt.counters.set i (n - 1) } }
  if n = 1 then enqueueItem s c i else s

/-- An item of a class's cycle has completed or failed: its successors are released (R174, R234, R236). -/
def cycItemDone (s : State) (d : Desc) : State :=
  let c := d.context % 32
  let r := s.cyc.classes.get c
  if r.pending = 0 then s
  else
    let s := (itemOf s d).succs.foldl (releaseOne c) s
    let s := clsUpd s c fun r => { r with pending := r.pending - 1 }
    let s := bump s cCycItemsRun
    if r.pending = 1 then cycleDone s c else s

/-- An item fault (R174, R176, R235): counted, recorded, in CYC_LAST_FAULT; during probation it triggers a revert (R197). -/
def itemFaultNote (s : State) (d : Desc) (cause status : Nat) : State :=
  let c := d.context % 32
  let it := itemOf s d
  let s := bump s (if cause = 2 then cCycItemTimeout else cCycItemFault)
  let s := { s with cyc := { s.cyc with lastFault := (d.ref, c, cause, status, it.firstInst) } }
  weldTrigger (cycEvent s evItemFault c d.ref it.firstInst (d.context / 256 % 2)) .itemFault

end Sys2Proof.Machine
end

