-- ==== Sys2Proof/Machine/Hearth.lean ====
section
/-! DEFINITION. Hearth's commands (07_hearth R229 to R244) and the custom instructions of user items (04_cycle_engine R173 to R178): dispatch,
the scan of built-in items, staging, completion, faults and core-pair failures. -/
namespace Sys2Proof.Machine
open Sys2Proof

/-! ### Slices of host commands (R229, R240) -/

/-- Source id of the host interface. -/
def srcHIF : Nat := 0x01

/-- The item is a Slice of the command with handle `h`: its CONTEXT, which the source defines, is the handle. -/
def isSlice (h : Nat) (d : Desc) : Bool := d.source == srcHIF && d.context == h

/-- The core pair that runs the Slice of a command. -/
def sliceCore (s : State) (h : Nat) : Option Nat :=
  (s.hrt.cores.entries.find? fun e => match e.2.run with | some r => isSlice h r.desc | none => false).map (·.1)

/-- A Slice of the command is with Hearth: ready, held for a credit, or on a core pair. -/
def sliceOut (s : State) (h : Nat) : Bool :=
  s.hrt.ready.any (isSlice h) || s.hrt.held.any (isSlice h) || (sliceCore s h).isSome

/-- A sliced command runs. -/
def sliceRunning (c : Cmd) : Bool := c.started && c.ended.isNone && opSliced c.opcode

/-- A command has a Slice to run: STATE_TRANSFER has rows of its own, and an ILE_LOAD that was read waits for its image to take effect. -/
def sliceLeft (c : Cmd) : Bool :=
  sliceRunning c && c.abortBy.isEmpty && c.failed.isNone && c.opcode != 0x69 && !(c.opcode == 0x26 && c.count == 1)

/-- The engine of a command has a Slice with Hearth. -/
def engineBusy (s : State) (c : Cmd) : Bool := s.hif.cmds.any fun x => engineOf x.opcode == engineOf c.opcode && sliceOut s x.handle

/-- Each free engine passes its next Slice to Hearth as an item of source HIF (R123, R229); its REF, a firmware reference, is free. -/
def slicePass (s : State) : State :=
  s.hif.cmds.foldl (fun s c =>
    if !sliceLeft c || engineBusy s c || !sliceTurn s c then s
    else
      let (f, s) := drawFree s
      hrtFirmware s srcHIF c.opcode (f.toNat % 2 ^ 32) c.handle 0) s

/-- The Slices of a command leave the queues of Hearth. -/
def sliceDrop (s : State) (h : Nat) : State :=
  { s with hrt := { s.hrt with
    ready := s.hrt.ready.filter fun d => !isSlice h d
    held := s.hrt.held.filter fun d => !isSlice h d } }

/-- A Slice's item completes: its effects are the command's, and the core pair is free (R236). -/
def sliceItemEnd (s : State) (core : Nat) : State :=
  match (s.hrt.cores.get core).run with
  | none => s
  | some r =>
    let s := coreUpd s core fun k => { k with run := none, freedAt := s.tmb.now, lastSource := some r.desc.source }
    hrtTrace (bump s cHrtCompleted) 3 core r.desc 0

/-! ### Built-in items -/

/-- A point as an item of class `c` reads it: its input image entry, else live (R143, R176). -/
def itemRead (s : State) (c id : Nat) : PointRec :=
  match (s.cyc.classes.get c).image.get id with
  | some r => r
  | none => readPoint s id s.tmb.now

/-- Stage an effect; the commit buffer holds 64 writes, requests and events (R235). -/
def stage (r : Run) (e : Effect) : Run :=
  let takes := match e with | .loopMode .. | .axisMove .. => false | _ => true
  let used := (r.staged.filter fun x => match x with | .loopMode .. | .axisMove .. => false | _ => true).length
  if takes && decide (64 ≤ used) then { r with full := true } else { r with staged := r.staged ++ [e] }

/-- QUAL of an output of a built-in block (R167, R609). -/
def outQual (o : OutV) (bad : Bool) : BitVec 16 :=
  if o.nan then qBAD ||| (if o.ovr then qOVER else 0) ||| (if o.under then qUNDER else 0)
  else qVALID ||| (if o.ovr then qOVER else 0) ||| (if o.under then qUNDER else 0) ||| (if bad then qBAD else 0)

/-- Stage the outputs of a scan. -/
def stageOuts (c : Nat) (bad : Bool) (r : Run) : List (Nat × Option OutV) → Run
  | [] => r
  | (id, some o) :: t => stageOuts c bad (stage r (.write ⟨id, o.val, none, none, outQual o bad, wCYC, c, false⟩)) t
  | (_, none) :: t => stageOuts c bad r t

/-- The scan of a block that reads or drives a loop or an axis (R166), else the pure one. -/
def scanAny (s : State) (c : Nat) (b : BlkData) (t : PType) (tout : List (Option PType)) (tc nan : Nat) (x : List Val) : Scan × List Effect :=
  let unit := b.par.getD 0 0
  let bit0 (i : Nat) : Bool := (x.getD i 0).getLsbD 0
  let num (i : Nat) (q : Rat) : OutV := numTo ((tout.getD i none).getD .real64) q
  match b.type with
  | 0x40 => (⟨[], b.st, .ok, []⟩, match loopSpPoint s unit with
    | some p => [.write ⟨p, x.getD 0 0, some t, none, qVALID, wCYC, c, false⟩]
    | none => [])
  | 0x41 =>
    (⟨[], [b2n (bit0 0)], .ok, []⟩,
      [.loopMode unit (if b2n (bit0 0) = b.st.getD 0 0 then none else some (bit0 0)) (if bit0 0 then none else some (x.getD 1 0, t))])
  | 0x42 => let l := loopLook s unit; (scanOf [num 0 l.1, num 1 l.2.1, boolV l.2.2.1, boolV l.2.2.2] [], [])
  | 0x48 =>
    let rise := bit0 0 && b.st.getD 0 0 == 0
    let m := axisMoveLook s unit
    (⟨[some (boolV (m.1 || rise)), some (boolV (m.2.1 && !rise)), some (boolV (m.2.2 && !rise))], [b2n (bit0 0),
      if rise then 1 else if m.2.2 then 3 else if m.2.1 then 2 else b.st.getD 1 0], .ok, []⟩, if rise then [.axisMove unit] else [])
  | 0x49 => let l := axisLook s unit; (scanOf [num 0 l.1, num 1 l.2.1, boolV l.2.2.1, boolV l.2.2.2] [], [])
  | 0x20 => (scanOf ((x.zip tout).map fun e => selV (e.2.getD .none) e.1) [], [])
  | 0x35 => (blockScan 0x35 t tc nan x b.par b.st, [])
  | _ => (blockScan b.type t tc nan x b.par b.st, [])

/-- SEL_GOOD: the first usable input and its index; the first input where none is usable (R164, R167). -/
def selGood (t : PType) (recs : List PointRec) : Scan :=
  let i := (recs.findIdx? (fun r => !unusable r.qual)).getD 0
  scanOf [selV t (recs.getD i default).value, plainV (BitVec.ofNat 64 i)] []

/-- Where STATUS stands in an instance's data (R163). -/
def blkStatusOff : Nat := 5

/-- One instance of a built-in item is scanned (R163, R167): its STATUS, state words and staged outputs. -/
def scanInst (d : Desc) (acc : State × Run) (inst : Nat) : State × Run :=
  let (s, r) := acc
  let slot := d.context / 256 % 2
  let c := d.context % 32
  let data := (s.cyc.slots.get slot).data.get inst
  let b := blkParse data
  let recs := b.ins.map (itemRead s c)
  let tin := b.ins.map fun i => (mapFind s.pst.map i).map (·.type)
  let tout := b.outs.map fun i => (mapFind s.pst.map i).map (·.type)
  let t := blkType b.type tin tout
  let tc := (s.cyc.classes.get c).t0
  let stale := if b.type = 0x35 then recs.all (fun x => unusable x.qual) else recs.any (fun x => unusable x.qual)
  let off := ((slotImage s slot).insts.getD inst default).off
  let put (s : State) (st : Status) : State := instWrite s slot inst blkStatusOff (leBytes 1 st.code)
  let lines0 := linesOf (off + blkStatusOff) 1
  if stale ∧ b.qpol = 1 then (put s .staleInput, { r with lines := listUnion r.lines lines0 })
  else if stale ∧ b.qpol = 2 then
    let w := b.outs.map fun i => Effect.write ⟨i, b.subst, none, none, qVALID ||| qSUBST, wCYC, c, false⟩
    (put s .staleInput, { w.foldl stage r with lines := listUnion r.lines lines0 })
  else
    let (f, s) := drawFree s
    let (sc, eff) := if b.type = 0x35 then (selGood t recs, []) else scanAny s c b t tout tc f.toNat (recs.map (·.value))
    let bad := stale && recs.any (fun x => hasQ x.qual qBAD)
    let r := stageOuts c bad r (b.outs.zip sc.outs)
    let r := eff.foldl stage r
    let r := if sc.changes.isEmpty then r else
      sc.changes.foldl (fun r _ => stage r (.alarm (b.par.getD 6 0) c d.ref inst)) r
    let s := put s (if stale then .staleInput else sc.status)
    let o := blkStOff data
    let s := if sc.st.isEmpty then s else instWrite s slot inst o (sc.st.flatMap (leBytes 8))
    (s, { r with lines := listUnion (listUnion r.lines lines0) (linesOf (off + o) (8 * sc.st.length)) })

/-! ### Dispatch -/

/-- Base of the item scratch (R171). -/
def scratchBase : Nat := 0x10000000
/-- Size of the item scratch. -/
def scratchSize : Nat := 16384
/-- Base of the instance data window (R171). -/
def instBase : Nat := 0x2000000000

/-- The integer registers of a user item at its entry (R173). -/
def entryRegs (d : Desc) (it : ItemRec) (t : TypeRec) : SMap (BitVec 64) :=
  let v (n : Nat) : BitVec 64 := BitVec.ofNat 64 n
  (((SMap.empty.set 10 (v d.arg)).set 11 (v it.instCount)).set 12 (v t.dataBytes)).set 2 (v (scratchBase + scratchSize))

/-- When the limit timer of a Cycle Engine item ends: the cost limit, or D where that comes first (R174, R230). -/
def limitEnd (d : Desc) (t : Nat) : Nat :=
  if d.source = srcCYC ∧ t < d.deadline then min (t + d.limit) d.deadline else t + d.limit

/-- An item starts on a core pair (R231, R237): a built-in item is scanned, a user item entered. -/
def dispatchTo (s : State) (core : Nat) (d : Desc) : State :=
  let k := s.hrt.cores.get core
  let s := bumpMax s cHrtDispatchMaxNs (s.tmb.now - max d.enqueued k.freedAt)
  let s := bump { s with hrt := { s.hrt with ready := readyDrop s.hrt.ready d } } cHrtDispatched
  let s := hrtTrace s 2 core d 0
  let cyc := d.source == srcCYC
  let it := itemOf s d
  let slot := d.context / 256 % 2
  let insts := if cyc then (List.range it.instCount).map (· + it.firstInst) else []
  let user := cyc && decide (0x100 ≤ it.type)
  let r : Run := { (default : Run) with
    desc := d
    started := s.tmb.now
    limitAt := limitEnd d s.tmb.now
    user := user
    undo := insts.map fun i => (i, (s.cyc.slots.get slot).data.get i)
    xregs := if user then entryRegs d it ((slotImage s slot).types.getD (it.type - 0x100) default) else SMap.empty }
  let (s, r) := if cyc && !user then insts.foldl (scanInst d) (s, r) else (s, r)
  coreUpd s core fun k => { k with run := some r, lastSource := none }

/-- ITEM_DISPATCH (R231, R232): core pair `core`, free, takes the best ready item at Timeline `t`. -/
def execItemDispatch (core t : Nat) (s : State) : Res :=
  let s := slicePass (advance s t)
  let k := s.hrt.cores.get core
  if poolSize ≤ core ∨ k.retired ∨ k.run.isSome then ok s
  else match nextItem core s.hrt.ready with
    | none => ok s
    | some d => ok (dispatchTo s core d)

/-- ITEM_CREDIT_RELEASE (R241): the first item a source holds enters the ready queue as a credit returns. -/
def execItemCreditRelease (src : Nat) (s : State) : Res :=
  match s.hrt.held.find? (·.source == src) with
  | none => ok s
  | some d =>
    if !hrtCredit s src then ok s
    else
      let s := { s with hrt := { s.hrt with held := s.hrt.held.erase d } }
      ok (hrtTrace (readyPush s d) 8 0xFF d 0)

/-! ### Completion -/

/-- An item's producer learns of its end: the Cycle Engine releases successors, the Step Sequencer its preparation (R229). -/
def itemEnded (s : State) (d : Desc) (status : Nat) : State :=
  if d.source = srcCYC then cycItemDone s d
  else if d.source = 0x07 then seqItemDone s d.ref d.arg status
  else if d.source = srcHIF ∧ status ≠ 0 then cmdUpd s d.context fun c => { c with failed := some (if status = Status.timeout.code then .timeout else .faulted) }
  else s

/-- An item fails without a commit (R174, R235, R239): its effects are discarded, its reserved credits return. -/
def itemFail (s : State) (core : Nat) (d : Desc) (status : Status) : State :=
  let s := coreUpd s core fun k => { k with run := none, freedAt := s.tmb.now }
  hrtTrace (bump s cHrtFailed) 4 core d status.code

/-- A Cycle Engine or firmware item fails with a cause of CYC_LAST_FAULT (R174). -/
def itemFaulted (s : State) (core : Nat) (r : Run) (cause : Nat) (status : Status) : State :=
  let s := itemFail s core r.desc status
  let s := if r.desc.source = srcCYC then itemFaultNote s r.desc cause status.code else s
  itemEnded s r.desc status.code

/-- Apply one staged effect of a commit (R236); the writes have gone before. -/
def applyEffect (s : State) (e : Effect) : State :=
  match e with
  | .launch src q l f => lqEnter s src q l f
  | .event sev code payload => eventStaged s 0x04 sev code payload true
  | .alarm sev c item inst => recArrive s ⟨s.tmb.now, curEpoch s, 4, sev, evAlarmChange.code, keyOf [(2, (c : Int))],
      packItems [(2, c), (4, item), (4, inst), (2, 0)], true⟩
  | .loopMode slot a m => loopModeReq s slot a m
  | .axisMove x => axisMoveReq s x
  | .write _ => s

/-- One point write of a commit group; a write that a force's shadow takes counts (R178). -/
def commitWrite (s : State) (w : PWrite) : State :=
  let forced := (forceFind s w.id).isSome
  let (s, r) := writePoint s w
  if forced && r.applied then bump s cCycShadowWrites else s

/-- The writes of a commit buffer. -/
def effectWrites (l : List Effect) : List PWrite := l.filterMap fun e => match e with | .write w => some w | _ => none

/-- Order of a commit (R236): point writes, launch requests, events; hand-offs take effect with it (R166). -/
def effectRank : Effect → Nat
  | .write _ => 0 | .loopMode .. | .axisMove .. => 1 | .launch .. => 2 | .event .. | .alarm .. => 3

/-- Carry a commit buffer out (R236). -/
def carryOut (s : State) (l : List Effect) : State :=
  let s := (effectWrites l).foldl commitWrite s
  let step (k : Nat) (s : State) : State := (l.filter (fun e => effectRank e == k)).foldl applyEffect s
  step 3 (step 2 (step 1 s))

/-- What COMMIT_ORDER names an item by (18_pairing R522, R535): source, context and item. -/
def commitKey (d : Desc) : Nat := d.source % 256 + d.context % 65536 * 2 ^ 16 + d.ref % 2 ^ 32 * 2 ^ 32

/-- Writes that carry the commit instant carry that of the module in control (R535). -/
def stampEffects (i : Nat) (l : List Effect) : List Effect := l.map fun e => match e with
  | .write w => .write { w with stamp := some (w.stamp.getD i) }
  | e => e

/-- ITEM_COMMIT_END (R236): the oldest commit under way ends at Timeline `t`, and its item completes. A standby in step commits in the order the
module in control reports, with its commit instants (R535). -/
def itemCommitEnd (t : Nat) (s : State) : State :=
  let pick : Option (CommitJob × Option Nat) :=
    if s.par.inStep then
      match s.par.order.head? with
      | some o => (s.hrt.commits.find? fun j => commitKey j.desc == o.1).map fun j => (j, some o.2)
      | none => none
    else s.hrt.commits.head?.map fun j => (j, none)
  match pick with
  | none => s
  | some (j, i) =>
    let s := advance s t
    let s := { s with
      hrt := { s.hrt with commits := s.hrt.commits.erase j }
      par := { s.par with order := if i.isSome then s.par.order.tail else s.par.order } }
    let s := if s.par.state = .active ∧ s.par.follow then mirrorSend s 2 (leBytes 8 (commitKey j.desc) ++ leBytes 8 s.tmb.now) else s
    let s := carryOut s (match i with | some i => stampEffects i j.effects | none => j.effects)
    let s := if j.desc.source = srcCYC then
        (effectWrites j.effects).foldl (fun s w => digPoint s 0 (j.desc.context % 32) w.id) s
      else s
    let s := bumpN s cHrtCommitWaitNs (s.tmb.now - (j.since + 40 + 5 * j.effects.length))
    let s := hrtTrace (bump s cHrtCompleted) 3 j.core j.desc j.status
    let s := if j.desc.source = srcCYC ∧ j.status ≠ 0 then itemFaultNote s j.desc 6 j.status else s
    itemEnded s j.desc j.status

/-- ITEM_COMMIT_END (R236). -/
def execItemCommitEnd (t : Nat) (s : State) : Res := ok (itemCommitEnd t s)

/-- An item's WDONE passes the lockstep compare (R235, R236): its commit begins, or it fails with NO_RESOURCE. -/
def itemDone (s : State) (core : Nat) (r : Run) (status : Nat) : State :=
  if r.full ∨ r.noCredit then
    let s := if r.full then bump (bump s cHrtCommitFull) cCycCommitFull else s
    let s := if r.noCredit then bump s cHrtNoCredit else s
    itemFaulted s core r 5 .noResource
  else
    let s := { s with hrt := { s.hrt with commits := s.hrt.commits ++ [⟨r.desc, core, r.staged, status, s.tmb.now⟩] } }
    coreUpd s core fun k => { k with run := none, freedAt := s.tmb.now, lastSource := some r.desc.source }

/-- ITEM_LIMIT_TIMEOUT (R230, R174): the limit timer of a core pair stops its item. -/
def itemLimitTimeout (core : Nat) (s : State) : State :=
  match (s.hrt.cores.get core).run with
  | none => s
  | some r =>
    let s := advance s r.limitAt
    itemFaulted (bump s cHrtTimeouts) core r 2 .timeout

/-! ### User items -/

/-- What ordinary RV64 code has done since the last custom instruction: registers, scratch, instance data (R171, R237). -/
def rvApply (s : State) (r : Run) (p : RvRun) : State × Run :=
  let slot := r.desc.context / 256 % 2
  let m := slotImage s slot
  let it := itemOf s r.desc
  let mine (i : Nat) : Bool := decide (it.firstInst ≤ i) && decide (i < it.firstInst + it.instCount)
  let db := (m.types.getD (it.type - 0x100) default).dataBytes
  let wr := p.data.filter fun w => mine w.1 && decide (w.2.1 + w.2.2.length ≤ db)
  let sc := p.scratch.filter fun w => decide (w.1 + w.2.length ≤ scratchSize)
  let r := { r with
    xregs := p.regs.foldl (fun x e => if e.1 % 32 = 0 then x else x.set (e.1 % 32) e.2) r.xregs
    scratch := sc.foldl (fun m w => (w.2.foldl (fun (a : SMap (BitVec 8) × Nat) b => (a.1.set a.2 b, a.2 + 1)) (m, w.1)).1) r.scratch
    lines := wr.foldl (fun l w => listUnion l (linesOf ((m.insts.getD w.1 default).off + w.2.1) w.2.2.length)) r.lines }
  (wr.foldl (fun t w => instWrite t slot w.1 w.2.1 w.2.2) s, r)

/-- The custom-0 instruction of the name `funct3` on a core pair that runs a user item, with its effect `k`; a field that must be 0 and is
not raises an illegal instruction exception (R174, R175). `z` says the fields are as the encoding asks. -/
def customInsn (core : Nat) (w : Word) (p : RvRun) (f3 : Nat) (z : Nat → Bool) (s : State)
    (k : State → Run → BitVec 64 → BitVec 64 → State) : State :=
  match (s.hrt.cores.get core).run with
  | none => s
  | some r =>
    let n := w.toNat
    if !r.user ∨ bits n 6 0 ≠ 0x0B ∨ bits n 14 12 ≠ f3 then s
    else
      let (s, r) := rvApply s r p
      let s := coreUpd s core fun k => { k with run := some r }
      if !z n then itemFaulted s core r 1 .faulted
      else k s r (r.xregs.get (bits n 19 15)) (r.xregs.get (bits n 24 20))

/-- Put a result into rd; x0 stays 0. -/
def setRd (r : Run) (w : Word) (v : BitVec 64) : Run :=
  let rd := bits w.toNat 11 7
  if rd = 0 then r else { r with xregs := r.xregs.set rd v }

/-- The item goes on with a changed run. -/
def runPut (s : State) (core : Nat) (r : Run) : State := coreUpd s core fun k => { k with run := some r }

/-- A status as a register value. -/
def stReg (st : Status) : BitVec 64 := BitVec.ofNat 64 st.code

/-- Write bytes into scratch at an offset. -/
def scratchPut (r : Run) (o : Nat) (b : Bytes) : Run :=
  { r with scratch := (b.foldl (fun (a : SMap (BitVec 8) × Nat) x => (a.1.set a.2 x, a.2 + 1)) (r.scratch, o)).1 }

/-- Bytes of scratch. -/
def scratchGet (r : Run) (o n : Nat) : Bytes := (List.range n).map fun i => r.scratch.get (o + i)

/-- PREC (R175, R176): rs1 names the point, rs2 the scratch address; LIVE is funct7 bit 0, SHADOW bit 1. -/
def precK (core : Nat) (w : Word) (s : State) (r : Run) (a b : BitVec 64) : State :=
  let f7 := bits w.toNat 31 25
  let id := a.toNat % 2 ^ 25
  let o := b.toNat - scratchBase
  if b.toNat < scratchBase ∨ scratchSize < o + 32 then itemFaulted s core r 0 .faulted
  else if o % 32 ≠ 0 then itemFaulted s core r 4 .faulted
  else if id = 0 ∨ !mapped s id then
    runPut s core (setRd (scratchPut r o (deliverNone (if bit f7 1 then 4 else 3) id)) w (stReg .noTarget))
  else if bit f7 1 then
    match forceFind s id with
    | none => runPut s core (setRd r w (stReg .state))
    | some f => runPut s core (setRd (scratchPut r o (deliver 4 id (readShadow s f s.tmb.now) s.tmb.now)) w (stReg .ok))
  else
    let c := r.desc.context % 32
    let cr := s.cyc.classes.get c
    let (x, at') := match cr.image.get id with
      | some q => if bit f7 0 then (readPoint s id s.tmb.now, s.tmb.now) else (q, cr.t0)
      | none => (readPoint s id s.tmb.now, s.tmb.now)
    runPut s core (setRd (scratchPut r o (deliver 3 id x at')) w (stReg .ok))

/-- PREC (R175). -/
def execPrec (core : Nat) (w : Word) (p : RvRun) (s : State) : Res :=
  ok (customInsn core w p 0 (fun n => decide (bits n 31 25 < 4)) s (precK core w))

/-- PLV (R175, R176): the VALUE of a point, 0 for an unmapped one. -/
def execPlv (core : Nat) (w : Word) (p : RvRun) (s : State) : Res :=
  ok (customInsn core w p 1 (fun n => decide (bits n 31 25 < 2) && bits n 24 20 == 0) s fun s r a _ =>
    let id := a.toNat % 2 ^ 25
    let x := if id = 0 ∨ !mapped s id then default
      else if bit w.toNat 25 then readPoint s id s.tmb.now else itemRead s (r.desc.context % 32) id
    runPut s core (setRd r w x.value))

/-- A staging instruction's result: OK, or NO_RESOURCE when the commit buffer is full (R235). -/
def stageRd (s : State) (core : Nat) (w : Word) (r : Run) (e : Effect) : State :=
  let q := stage r e
  runPut s core (setRd q w (stReg (if q.staged.length = r.staged.length then .noResource else .ok)))

/-- PST (R175, R235): stages a point write. -/
def execPst (core : Nat) (w : Word) (p : RvRun) (s : State) : Res :=
  ok (customInsn core w p 2 (fun n => bits n 31 25 == 0) s fun s r a b =>
    let n := a.toNat
    let e : PWrite := ⟨bits n 24 0, b, some ((PType.ofCode (bits n 55 48)).getD .none), r.stampNext, BitVec.ofNat 16 (bits n 47 32), wCYC,
      r.desc.context % 32, false⟩
    stageRd s core w { r with stampNext := none } (.write e))

/-- STAMPSET (R175): the STAMP of the next PST. -/
def execStampset (core : Nat) (w : Word) (p : RvRun) (s : State) : Res :=
  ok (customInsn core w p 3 (fun n => bits n 31 20 == 0 && bits n 11 7 == 0) s fun s r a _ =>
    runPut s core { r with stampNext := some a.toNat })

/-- TRD (R175): Timeline now, cycle instant, output instant, Epoch number. -/
def execTrd (core : Nat) (w : Word) (p : RvRun) (s : State) : Res :=
  ok (customInsn core w p 4 (fun n => decide (bits n 31 25 < 4) && bits n 24 15 == 0) s fun s r _ _ =>
    let c := s.cyc.classes.get (r.desc.context % 32)
    let v := match bits w.toNat 31 25 with
      | 0 => s.tmb.now
      | 1 => c.t0
      | 2 => outputOf c.info c.t0
      | _ => curEpoch s
    runPut s core (setRd r w (BitVec.ofNat 64 v)))

/-- Source ids an LREQ may address (R175). -/
def lreqSources : List Nat := [0x02, 0x09, 0x0C, 0x0D]

/-- LREQ (R175, R235): stages a launch request and reserves its credit. -/
def lreqK (core : Nat) (w : Word) (s : State) (r : Run) (a b : BitVec 64) : State :=
  let n := b.toNat
  let src := bits n 7 0
  let q := bits n 23 8
  let o := a.toNat - scratchBase
  let len := if src = 0x0D then 80 else 0
  let rd (st : Status) : State := runPut s core (setRd r w (stReg st))
  if n / 2 ^ 24 ≠ 0 ∨ !lreqSources.contains src ∨ !lqKnown src q ∨ a.toNat < scratchBase ∨ o % 16 ≠ 0 ∨ scratchSize < o + 16 then rd .badField
  else match lqParse (scratchGet r o 16) with
    | none => rd .badField
    | some e =>
      let frame := scratchGet r (o + 16) (min len (scratchSize - o - 16))
      let staged := lqReserved s src q
      if !lqLegal s src q e frame staged then rd .badField
      else if lqFull s src q frame staged then runPut s core (setRd { r with noCredit := true } w (stReg .noResource))
      else stageRd s core w r (.launch src q e frame)

/-- LREQ (R175). -/
def execLreq (core : Nat) (w : Word) (p : RvRun) (s : State) : Res :=
  ok (customInsn core w p 5 (fun n => bits n 31 25 == 0) s (lreqK core w))

/-- WDONE (R175, R235, R236): ends the item on a core pair at Timeline `t`; a built-in or firmware item ends here too, but for the Slice of a
running command, which ends as COMMAND_SLICE. -/
def wdone (core t : Nat) (w : Word) (p : RvRun) (s : State) : State :=
  let s := advance s t
  match (s.hrt.cores.get core).run with
  | none => s
  | some r =>
    if !r.user then
      if r.desc.source == srcHIF && s.hif.cmds.any (fun c => c.handle == r.desc.context && sliceRunning c) then s else itemDone s core r 0
    else customInsn core w p 6 (fun n => bits n 31 20 == 0 && bits n 11 7 == 0) s fun s r a _ => itemDone s core r (a.toNat % 256)

/-- WDONE (R175). -/
def execWdone (core t : Nat) (w : Word) (p : RvRun) (s : State) : Res := ok (wdone core t w p s)

/-- EVT (R175): stages an event of source id 0x04; of a code outside 0x8000 to 0xFFFF the manual gives no status. -/
def execEvt (core : Nat) (w : Word) (p : RvRun) (s : State) : Res :=
  ok (customInsn core w p 7 (fun n => bits n 31 25 == 0) s fun s r a b =>
    let code := bits a.toNat 15 0
    if code < 0x8000 then
      let (f, s) := drawFree s
      runPut s core (setRd r w f)
    else stageRd s core w r (.event (bits a.toNat 18 16) code b.toNat))

/-- ITEM_FAULT (R174): a user item on a core pair takes a fault of the cause of CYC_LAST_FAULT: 0 access, 1 illegal instruction, 3 ECALL,
EBREAK or WFI, 4 misaligned. -/
def execItemFault (core t cause : Nat) (p : RvRun) (s : State) : Res :=
  let s := advance s t
  match (s.hrt.cores.get core).run with
  | none => ok s
  | some r =>
    if !r.user ∨ !([0, 1, 3, 4].contains cause) then ok s
    else
      let (s, r) := rvApply s r p
      ok (itemFaulted (runPut s core r) core r cause .faulted)

/-! ### Core pair failures -/

/-- Retire a core pair (R238, R240): CORE_RETIRED, and POOL_LOW when the pool falls to POOL_MIN (R180). -/
def retireCore (s : State) (core src ref outcome : Nat) : State :=
  let s := coreUpd s core fun k => { k with retired := true, run := none, lastSource := none }
  let s := { s with hrt := { s.hrt with lastRetire := (core, src, outcome), retiredSince := s.hrt.retiredSince + 1 } }
  let s := hrtEvent (bump s cHrtRetirements) evCoreRetired core src ref 0
  if hrtAvailable s = fld s fCycCtrlPoolMin then cycEvent s evPoolLow 0 0 0 s.cyc.slot else s

/-- Restore a run's journalled instance data (R237, R238). -/
def undoRun (s : State) (r : Run) : State :=
  let slot := r.desc.context / 256 % 2
  let s := r.undo.foldl (fun t u => instWrite t slot u.1 0 u.2) s
  bumpN s cHrtUndoLines r.lines.length

/-- CORE_PAIR_MISMATCH (R238, R239) at Timeline `t`. -/
def corePairMismatch (core t : Nat) (s : State) : State :=
  let s := advance s t
  let k := s.hrt.cores.get core
  if poolSize ≤ core ∨ k.retired then s
  else match k.run with
    | none =>
      let s := match k.lastSource with
        | some src => retireCore s core src 0 2
        | none => retireCore s core 0 0 0
      hrtTrace s 6 core default 0
    | some r =>
      let d := r.desc
      if d.retry then
        let s := retireCore (undoRun s r) core d.source d.ref 3
        let s := hrtTrace s 6 core d 0
        let s := hrtEvent (bump (bump s cHrtRetryFailed) cHrtFailed) evRetryFailed core d.source d.ref Status.faulted.code
        itemEnded (hrtTrace s 4 core d Status.faulted.code) d Status.faulted.code
      else
        let s := retireCore (undoRun s r) core d.source d.ref 1
        let s := hrtTrace s 6 core d 0
        let e := { d with retry := true, notOn := some core, enqueued := s.tmb.now }
        let s := { s with hrt := { s.hrt with ready := e :: s.hrt.ready } }
        hrtTrace (hrtEvent (bump s cHrtRetries) evItemRetried core d.source d.ref 0) 5 0xFF e 0

/-- The checks of a Hearth commit (R244). -/
def hrtCommitCheck (s : State) : Status :=
  let el := List.range 8
  if el.any (fun n => decide (sfld s (fHrtSrcMax n) < sfld s (fHrtSrcMin n))) ∨ sfld s (fHrtSrcMax 0) = 0 then .range
  else if 4096 < (el.map fun n => sfld s (fHrtSrcMin n)).foldl (· + ·) 0 then .noResource
  else .ok

end Sys2Proof.Machine
end

