-- ==== Sys2Proof/Machine/Cycle.lean ====
section
/-! DEFINITION. The Cycle Engine's commands (04_cycle_engine R139 to R155, R181): starting and stopping the program, the launches of a class. -/
namespace Sys2Proof.Machine
open Sys2Proof

/-- A program begins (R152, R155, R611): the slot's map takes effect, each class starts at its first cycle instant at or after `from'`. -/
def cycBegin (s : State) (slot from' : Nat) (cmd : Option Nat) (auto : Bool) : State :=
  let sl := s.cyc.slots.get slot
  let m := slotImage s slot
  let s := match sl.map with | some n => ileRefsNote (mapIntoForce s n) | none => s
  let cls := m.classes.foldl (fun a r => a.set r.cls (classInit s r (instantFrom r (gridOffset s r) from') true)) (SMap.empty : SMap ClassRun)
  let s := { s with cyc := { s.cyc with
    state := .running
    slot := slot
    stopReason := .none
    stopAt := none
    classes := cls
    startCmd := cmd
    autoStarting := auto
    weld := { s.cyc.weld with state := .none, removed := [] } } }
  let s := statusChanged (cycEvent s evProgramStarted 0 0 0 slot)
  let s := if m.persist then bootProgram s slot else s
  ileProgramStarted s (m.classes.foldl (fun a r => min a (instantFrom r (gridOffset s r) from')) (2 ^ 64 - 1))

/-- PROGRAM_START (R152): refused with STATE while a slot runs, without an image, or with a map of another build. -/
def programStart (s : State) (c : Cmd) : State :=
  let sl := s.cyc.slots.get c.unit
  if s.hdl.otp.returned then endCmd s c.handle .denied 0 0
  else if s.cyc.state = .running ∨ anyPending s then endCmd s c.handle .state 0 0
  else match sl.image, sl.map with
    | some m, some p =>
      if p.build ≠ m.mapBuild then endCmd s c.handle .state 0 0
      else
        let soon := s.tmb.now + 200000
        cycBegin s c.unit (max soon c.instant) (some c.handle) false
    | _, _ => endCmd s c.handle .state 0 0

/-- PROGRAM_START (R152). -/
def execProgramStart (h : Nat) (s : State) : Res := ok (startCmd s h 0x21 (some []) programStart)

/-- PROGRAM_STOP (R153, R200): no cycle instant at or after I latches; a Weld before W is abandoned. -/
def programStop (s : State) (c : Cmd) : State :=
  if s.cyc.state ≠ .running then endCmd s c.handle .state 0 0
  else
    let i := max c.instant s.tmb.now
    let s := if weldBefore s then weldAbandon s .aborted else s
    { s with cyc := { s.cyc with
      stopAt := some i
      stopCmd := some c.handle
      classes := s.cyc.classes.mapV fun n r => { r with
        lq := lqInsert (cycEntry i 4 n) (r.lq.filter fun x => x.action == 2 || decide (x.instant < i)) } } }

/-- PROGRAM_STOP (R153). -/
def execProgramStop (h : Nat) (s : State) : Res := ok (startCmd s h 0x22 (some []) programStop)

/-- CYC_STOP (R153): the STOP entries launch at the instant of PROGRAM_STOP. -/
def execCycStop (s : State) : Res :=
  match s.cyc.stopAt with
  | none => ok s
  | some i => if s.cyc.state = .running then ok (cycStop (advance s i) .command) else ok s

/-- CYC_START (R142): the START entry of class `c` launches. -/
def execCycStart (c : Nat) (s : State) : Res :=
  match (s.cyc.classes.get c).lq with
  | [] => ok s
  | e :: t =>
    if e.action ≠ 3 ∨ s.cyc.state ≠ .running then ok s
    else
      let s := clsUpd (advance s e.instant) c fun r => { r with lq := t, active := true }
      if s.cyc.autoStarting then
        ok (seqAutostartInstant { s with cyc := { s.cyc with autoStarting := false } } e.instant)
      else ok s

/-- The next LATCH entry after an instant, unless it falls at or after the instant of a PROGRAM_STOP (R153). -/
def pushLatch (s : State) (c t : Nat) : State :=
  let r := s.cyc.classes.get c
  let off := gridOffset s r.info
  let n := instantFrom r.info off (t + 1)
  let stop : Bool := match s.cyc.stopAt with | some i => decide (i ≤ n) | none => false
  clsUpd s c fun r => { r with
    domOff := off
    lq := if stop then r.lq else lqInsert (cycEntry n 1 c) r.lq }

/-- A class's LATCH entry moves to the new grid when DOMAIN_OFFSET has changed (R140): an instant less than P/2 after the last latched
one is skipped. -/
def regrid (s : State) (c : Nat) : State :=
  let r := s.cyc.classes.get c
  let off := gridOffset s r.info
  if off = r.domOff ∨ !(r.lq.any (·.action == 1)) then s
  else
    let after := max s.tmb.now (if r.latched then r.t0 + 1 else 0)
    let n := instantFrom r.info off after
    let near := r.latched && decide (n < r.t0 + r.info.period * 500)
    let n := if near then instantFrom r.info off (n + 1) else n
    let s := if near then bump s cCycDomainRealign else s
    clsUpd s c fun r => { r with domOff := off, lq := lqInsert (cycEntry n 1 c) (r.lq.filter (·.action != 1)) }

/-- The LATCH entry of a class, its START having launched. -/
def latchEntry (r : ClassRun) : Option LqEntry :=
  if r.lq.any (·.action == 3) then none else r.lq.find? (·.action == 1)

/-- The input latch at T0 (R143, R144, R234): the input image, the dependency counters, the items without predecessors. -/
def latchClass (s : State) (c t0 : Nat) : State :=
  let r := s.cyc.classes.get c
  let img := r.info.inputs.foldl (fun m id => m.set id (some (readPoint s id t0))) (SMap.empty : SMap (Option PointRec))
  let stale := (r.info.inputs.filter fun id => hasQ (readPoint s id t0).qual qSTALE).length
  let items := (List.range r.info.itemCount).map (· + r.info.firstItem)
  let m := slotImage s s.cyc.slot
  let s := bumpN s cCycLatchStale stale
  let s := clsUpd s c fun r => { r with
    latched := true
    t0 := t0
    image := img
    pending := r.info.itemCount
    ovr := false
    lq := lqInsert (cycEntry (deadlineOf r.info t0) 2 c) r.lq }
  let s := { s with hrt := { s.hrt with
    counters := items.foldl (fun k i => k.set i (m.items.getD i default).preds) s.hrt.counters } }
  let s := (items.filter fun i => (m.items.getD i default).preds == 0).foldl (fun t i => enqueueItem t c i) s
  match s.cyc.startCmd with
  | some h => endCmd { s with cyc := { s.cyc with startCmd := none } } h .ok 0 0
  | none => s

/-- A candidate for W or for the instant of a revert (R190, R198): accepted when no class has an item pending. -/
def weldCandidate (s : State) (c t0 : Nat) : Option State :=
  let w := s.cyc.weld
  let seeking := w.state == .waiting || (w.state == .reverting && !w.inGap)
  if !seeking ∨ !isPace s c then none
  else if anyPending s then none
  else some (weldUpd s fun w => { w with
    at' := t0
    inGap := true
    state := if w.state = .waiting then .switching else w.state })

/-- A candidate that was passed counts (R190). -/
def weldDeferred (s : State) (c : Nat) : State :=
  let w := s.cyc.weld
  if (w.state == .waiting || (w.state == .reverting && !w.inGap)) && isPace s c then
    weldUpd s fun w => { w with deferred := min (w.deferred + 1) 65535 }
  else s

/-- A gap of a Weld or a revert runs: no class latches (R191). -/
def inGap (s : State) : Bool := s.cyc.weld.state == .switching || (s.cyc.weld.state == .reverting && s.cyc.weld.inGap)

/-- CYC_LATCH (R143, R148, R149, R154, R190): the cycle instant of class `c`. -/
def cycLatch (c : Nat) (s : State) : State :=
  if s.cyc.state ≠ .running ∨ inGap s then s
  else
    let s := regrid s c
    let r := s.cyc.classes.get c
    match latchEntry r with
    | none => s
    | some e =>
      let s := advance s e.instant
      if hrtAvailable s < fld s fCycCtrlPoolMin then cycStop s .poolMin
      else match weldCandidate s c e.instant with
        | some t => t
        | none =>
          let s := weldDeferred s c
          let s := clsUpd s c fun r => { r with lq := r.lq.erase e }
          let s := pushLatch s c e.instant
          if 0 < r.pending then
            let s := cycEvent (bump s cCycCycleSkip) evCycleSkipped c 0 0 s.cyc.slot
            watchCycle (weldTrigger s .skipped) c
          else latchClass s c e.instant

/-- CYC_LATCH (R143). -/
def execCycLatch (c : Nat) (s : State) : Res := ok (cycLatch c s)

/-- CYC_DEADLINE (R147, R149): D of class `c`'s cycle; with items pending the cycle has overrun. -/
def cycDeadline (c : Nat) (s : State) : State :=
  let r := s.cyc.classes.get c
  match r.lq.find? (·.action == 2) with
  | none => s
  | some e =>
    let s := advance s e.instant
    let s := clsUpd s c fun r => { r with lq := r.lq.erase e }
    if r.pending = 0 ∨ e.instant ≠ deadlineOf r.info r.t0 then s
    else
      let s := clsUpd s c fun r => { r with ovr := true }
      let s := cycEvent (bump s cCycOverrun) evCycleOverrun c 0 0 s.cyc.slot
      let s := weldTrigger s .overrun
      if s.cyc.state = .running then watchCycle s c else s

/-- CYC_DEADLINE (R147). -/
def execCycDeadline (c : Nat) (s : State) : Res := ok (cycDeadline c s)

/-- The checks of a Cycle Engine commit (R181). -/
def cycCommitCheck (s : State) : Status :=
  if sfld s fCycCtrlPoolMin = 0 ∨ 32 < sfld s fCycCtrlPoolMin then .range else .ok

end Sys2Proof.Machine
end

