-- ==== Sys2Proof/Machine/Keccak.lean ====
section
/-! DEFINITION. SHAKE256 (19_hendel R568 names it; FIPS 202 defines it). PRESUMED: the algorithm is FIPS 202's. -/
namespace Sys2Proof.Machine
open Sys2Proof

/-- Rotation offsets of the lanes, at x + 5y. -/
def keccakRot : List Nat :=
  [0, 1, 62, 28, 27, 36, 44, 6, 55, 20, 3, 10, 43, 25, 39, 41, 45, 15, 21, 8, 18, 2, 61, 56, 14]

/-- Round constants. -/
def keccakRc : List (BitVec 64) :=
  [0x0000000000000001, 0x0000000000008082, 0x800000000000808A, 0x8000000080008000, 0x000000000000808B, 0x0000000080000001,
   0x8000000080008081, 0x8000000000008009, 0x000000000000008A, 0x0000000000000088, 0x0000000080008009, 0x000000008000000A,
   0x000000008000808B, 0x800000000000008B, 0x8000000000008089, 0x8000000000008003, 0x8000000000008002, 0x8000000000000080,
   0x000000000000800A, 0x800000008000000A, 0x8000000080008081, 0x8000000000008080, 0x0000000080000001, 0x8000000080008008]

/-- One round of the permutation on 25 lanes. -/
def keccakRound (a : List (BitVec 64)) (rc : BitVec 64) : List (BitVec 64) :=
  let at' (l : List (BitVec 64)) (x y : Nat) : BitVec 64 := l.getD (x % 5 + 5 * (y % 5)) 0
  let c := (List.range 5).map fun x => at' a x 0 ^^^ at' a x 1 ^^^ at' a x 2 ^^^ at' a x 3 ^^^ at' a x 4
  let d := (List.range 5).map fun x => c.getD ((x + 4) % 5) 0 ^^^ (c.getD ((x + 1) % 5) 0).rotateLeft 1
  let e := (List.range 25).map fun i => (a.getD i 0 ^^^ d.getD (i % 5) 0).rotateLeft (keccakRot.getD i 0)
  let b := (List.range 25).map fun i => at' e (i % 5 + 3 * (i / 5)) (i % 5)
  (List.range 25).map fun i =>
    let x := i % 5
    let y := i / 5
    at' b x y ^^^ (~~~(at' b (x + 1) y) &&& at' b (x + 2) y) ^^^ (if i = 0 then rc else 0)

/-- The permutation of 24 rounds. -/
def keccakF (a : List (BitVec 64)) : List (BitVec 64) := keccakRc.foldl keccakRound a

/-- Absorb one block of 136 bytes. -/
def keccakAbsorb (a : List (BitVec 64)) (b : Bytes) : List (BitVec 64) :=
  keccakF ((List.range 25).map fun i => a.getD i 0 ^^^ (if i < 17 then BitVec.ofNat 64 (le b (8 * i) 8) else 0))

/-- The 256-bit output of SHAKE256 over a byte string. -/
def shake256 (b : Bytes) : Bytes :=
  let n := b.length / 136 + 1
  let p := b ++ [0x1F#8] ++ zeros (136 * n - b.length - 1)
  let p := p.take (136 * n - 1) ++ [(p.getLastD 0) ||| 0x80#8]
  let a := (chunks 136 n p).foldl keccakAbsorb (List.replicate 25 0)
  ((List.range 4).flatMap fun i => leBytes 8 (a.getD i 0).toNat)

end Sys2Proof.Machine
end

