-- ==== Sys2Proof/Machine/Interlock.lean ====
section
/-! DEFINITION. The Interlock Engine (06_interlock_engine R204 to R228): its instruction set, a scan, image load and switch, faults. -/
namespace Sys2Proof.Machine
open Sys2Proof

/-! ### The list -/

/-- Where the list stands: ACC, the branch stack (saved ACC, 0 AND, 1 OR, 2 XOR), bit image, output images, events to record. -/
structure IleRun where
  acc : Bool
  stack : List (Bool × Nat)
  bits : SMap Bool
  ile : Ile
  events : List (Bool × Nat)
  lost : List Nat
  deriving DecidableEq, Repr

/-- The eight bit operations (R208). -/
def ileBit (k : Nat) (acc b : Bool) : Bool :=
  match k with
  | 0 => b | 1 => !b | 2 => acc && b | 3 => acc && !b | 4 => acc || b | 5 => acc || !b | 6 => acc != b | _ => acc == b

/-- A timer's scan: its state and Q (R210), at scan instant `tc` with `preset` in ns. -/
def ileTimer (op tc preset : Nat) (acc : Bool) (t : IleTimer) : IleTimer × Bool :=
  match op with
  | 0x70 =>
    let ts := if acc && !t.prev then tc else t.ts
    (⟨acc, ts, acc⟩, acc && decide (preset ≤ tc - ts))
  | 0x71 =>
    if acc then (⟨true, t.ts, true⟩, true)
    else
      let ts := if t.prev then tc else t.ts
      let run := t.run && decide (tc - ts < preset)
      (⟨false, ts, run⟩, run)
  | _ =>
    let run := t.run && decide (tc - t.ts < preset)
    let start := acc && !t.prev && !run
    (⟨acc, if start then tc else t.ts, run || start⟩, run || start)

/-- A store to a point's output image (R208, R212, R215); `fb` tells the fallback section, `live` that its stores update the bit image. A
store to a point lost from the map is discarded (R223). -/
def ileStore (fb live : Bool) (gone : Nat → Bool) (r : IleRun) (id : Nat) (v : Bool) : IleRun :=
  if gone id then { r with lost := r.lost ++ [id] }
  else
    let r := if fb then { r with ile := { r.ile with fbOuts := r.ile.fbOuts.upd id (fun o => { o with bit := v }) } }
      else { r with ile := { r.ile with outs := r.ile.outs.upd id (fun o => { o with bit := v }) } }
    if fb && !live then r else { r with bits := r.bits.set id v }

/-- One instruction (R208): `okBit` tells which points' latched records are usable. -/
def ileInsn (tc : Nat) (presets : List Nat) (okBit : Nat → Bool) (live : Bool) (gone : Nat → Bool) (a : IleRun × Bool) (w : Nat) :
    IleRun × Bool :=
  let (r, fb) := a
  let op := ileOp w
  let x := ileArg w
  let acc (v : Bool) : IleRun × Bool := ({ r with acc := v }, fb)
  let mark (v : Bool) : IleRun × Bool := ({ r with ile := { r.ile with markers := r.ile.markers.set x v } }, fb)
  if op < 0x08 then acc (ileBit op r.acc (r.bits.get x))
  else if op = 0x08 then acc (okBit x)
  else if 0x20 ≤ op ∧ op ≤ 0x27 then acc (ileBit (op - 0x20) r.acc (r.ile.markers.get x))
  else if 0x40 ≤ op ∧ op ≤ 0x47 then acc (ileBit (op - 0x40) r.acc (r.ile.compares.get x))
  else match op with
  | 0x61 => acc true
  | 0x62 => acc false
  | 0x63 => acc (!r.acc)
  | 0x64 | 0x65 | 0x66 => ({ r with stack := (r.acc, op - 0x64) :: r.stack }, fb)
  | 0x67 => match r.stack with
    | [] => (r, fb)
    | (v, k) :: t => ({ r with stack := t, acc := ileBit (2 + 2 * k) v r.acc }, fb)
  | 0x68 => (ileStore fb live gone r x r.acc, fb)
  | 0x69 => (ileStore fb live gone r x (!r.acc), fb)
  | 0x6A => if r.acc then (ileStore fb live gone r x true, fb) else (r, fb)
  | 0x6B => if r.acc then (ileStore fb live gone r x false, fb) else (r, fb)
  | 0x6C => mark r.acc
  | 0x6D => if r.acc then mark true else (r, fb)
  | 0x6E => if r.acc then mark false else (r, fb)
  | 0x70 | 0x71 | 0x72 =>
    let (t, q) := ileTimer op tc (presets.getD x 0 * 1000) r.acc (r.ile.timers.get x)
    ({ r with acc := q, ile := { r.ile with timers := r.ile.timers.set x t } }, fb)
  | 0x74 =>
    let q := match r.ile.edges.get x with | some e => r.acc && !e | none => false
    ({ r with acc := q, ile := { r.ile with edges := r.ile.edges.set x (some r.acc) } }, fb)
  | 0x75 =>
    let q := match r.ile.edges.get x with | some e => !r.acc && e | none => false
    ({ r with acc := q, ile := { r.ile with edges := r.ile.edges.set x (some r.acc) } }, fb)
  | 0x78 =>
    if r.acc = r.ile.alarms.get x then (r, fb)
    else ({ r with ile := { r.ile with alarms := r.ile.alarms.set x r.acc }, events := r.events ++ [(r.acc, x)] }, fb)
  | 0x7C => ({ r with acc := false }, true)
  | _ => (r, fb)

/-! ### A scan -/

/-- The record of a referenced point at the latch (R212, R223): unusable when the map in force lost or retyped it. -/
def ileRecord (s : State) (m : IleImage) (id at' : Nat) : PointRec × Bool :=
  let r := readPoint s id at'
  let same := match mapFind s.pst.map id with | some e => e.type == m.types.get id | none => false
  (r, same && !unusable r.qual)

/-- A compare's sticky result (R220). -/
def ileCompare (t : PType) (c : IleCompare) (v : Val) (was : Bool) : Bool :=
  match c.op with
  | 0 => if was then !ltV t v (arith t .sub 0 [c.limit, c.hyst]).val else ltV t c.limit v
  | 1 => if was then !ltV t (arith t .add 0 [c.limit, c.hyst]).val v else ltV t v c.limit
  | 2 => eqV t v c.limit
  | _ => !eqV t v c.limit

/-- Latch and compares (R212 steps 1 to 3): the bit image, and what the loads of LDOK see. -/
def ileLatch (s : State) (m : IleImage) (at' : Nat) : State × SMap Bool × (Nat → Bool) :=
  let recs := m.inputs.map fun i => (i, ileRecord s m i.id at')
  let bad := (recs.filter fun e => !e.2.2).length
  let img := recs.foldl (fun b e => b.set e.1.id (if e.2.2 then e.2.1.value.getLsbD 0 else e.1.fail)) (SMap.empty : SMap Bool)
  let cmp := (List.range m.compares.length).foldl (fun (a : SMap Bool) i =>
    let c := m.compares.getD i default
    let (r, good) := ileRecord s m c.id at'
    a.set i (if good then ileCompare (m.types.get c.id) c r.value (s.ile.compares.get i) else c.fail)) SMap.empty
  let s := bumpN s cIleUnusableInputs bad
  ({ s with ile := { s.ile with compares := cmp } }, img, fun id => recs.any fun e => e.1.id == id && e.2.2)

/-- A stored point's output image at the first scan comes from the store, or its latched bit (R214). -/
def ileSeed (s : State) (m : IleImage) (img : SMap Bool) : State :=
  let start (o : SMap IleOut) (l : List Nat) : SMap IleOut := l.foldl (fun o id => o.set id
    ⟨if m.inputs.any (·.id == id) then img.get id else (s.pst.points.get id).value.getLsbD 0, none⟩) o
  { s with ile := { s.ile with
    outs := start s.ile.outs (ileStores (ileMain m))
    fbOuts := start s.ile.fbOuts (ileStores (ileFallback m)) } }

/-- An output is due to be written (R214). -/
def ileDue (s : State) (id at' : Nat) (o : IleOut) : Bool :=
  match o.written with
  | none => true
  | some (b, t) =>
    let age := ((mapFind s.pst.map id).map (·.maxAge)).getD 0
    b != o.bit || (age != 0 && decide (t + age * 500 ≤ at'))

/-- Write the outputs of a section that are due (R214, R225). -/
def ileWrite (fb all : Bool) (m : IleImage) (at' : Nat) (s : State) (id : Nat) : State :=
  let o := if fb then s.ile.fbOuts.get id else s.ile.outs.get id
  if ileGone s m id then s
  else if !all ∧ !ileDue s id at' o then s
  else
    let s := (writePoint s ⟨id, BitVec.ofNat 64 (b2n o.bit), none, some at', qVALID, wILE, 0, false⟩).1
    let s := bump s cIleOutWrites
    let o := { o with written := some (o.bit, at') }
    if fb then { s with ile := { s.ile with fbOuts := s.ile.fbOuts.set id o } }
    else { s with ile := { s.ile with outs := s.ile.outs.set id o } }

/-- Frames to a list of stations (R216). -/
def ileFrames (l : List Nat) (inst : Nat) (late : Bool) (s : State) : State :=
  l.foldl (fun t n => (stnOutput t 0x20 n inst late).1) s

/-- Fallback ends and FALLBACK_EXIT is recorded (R226). -/
def fallbackExit (s : State) : State :=
  ileEvent { s with ile := { s.ile with state := .running, fbEnd := false, hand := none, handOut := none, fbFirst := false } }
    evFallbackExit 0 0 s.ile.fbReason 0

/-- Fallback ends at this scan: FB_END was written, or the program's first output set has launched (R226). -/
def fallbackOver (s : State) (at' : Nat) : Bool :=
  s.ile.state == .fallback && (s.ile.fbEnd || (match s.ile.hand, s.ile.handOut with
    | some f, some o => decide (f ≤ at') && decide (o ≤ at')
    | _, _ => false))

/-- The engine still writes the fallback points at this scan: until the first cycle instant of the program (R226). -/
def fallbackWrites (s : State) (at' : Nat) : Bool :=
  s.ile.state == .fallback && (match s.ile.hand with | some f => decide (at' < f) | none => true)

/-- A scan of the running image at `at'` (R212 to R216, R225): `late` gives its frames LATE_RUN, `dur` is the time to the last frame. -/
def ileScanAt (at' dur : Nat) (late : Bool) (s : State) : State :=
  match s.ile.image with
  | none => s
  | some m =>
    let s := advance s at'
    let s := if fallbackOver s at' then fallbackExit s else s
    let fbOn := fallbackWrites s at'
    let (s, img, okBit) := ileLatch s m at'
    let s := if s.ile.scanned then s else ileSeed s m img
    let r0 : IleRun := ⟨false, [], img, s.ile, [], []⟩
    let r := (m.code.foldl (ileInsn at' m.presets okBit fbOn (ileGone s m)) (r0, false)).1
    let s := { s with ile := { r.ile with scanned := true, lastScan := at' } }
    let s := bumpN s cIleRefLostStores r.lost.length
    let s := (ileStores (ileMain m)).foldl (ileWrite false false m at') s
    let s := if fbOn then (ileStores (ileFallback m)).foldl (ileWrite true s.ile.fbFirst m at') s else s
    let s := { s with ile := { s.ile with fbFirst := s.ile.fbFirst && !fbOn } }
    let s := r.events.foldl (fun t e => ileEvent t (if e.1 then evIleAlarm else evIleAlarmClear) e.2 0 0 0) s
    let s := if late then advance s (at' + dur) else s
    let inst := at' + m.outOfs * 1000
    let mine := ileStores (ileMain m) ++ (if fbOn then ileStores (ileFallback m) else [])
    let s := mine.foldl (fun s id => if (s.pst.points.get id).stamp = at' then digPoint s 2 0 id else s) s
    let s := ileFrames m.ilkStations inst late s
    let s := if s.ile.state = .fallback then ileFrames m.fbStations inst late s else s
    let s := digEnd s 2 0 at'
    bumpMax (bump s cIleScans) 0x500028 dur

/-- The first scan instant of an image at or after `t` (R219). -/
def ileInstant (s : State) (m : IleImage) (t : Nat) : Nat :=
  instantFrom { (default : ClassRec) with period := m.period, phase := m.phase } (if m.domain ∧ s.tmb.joined then s.tmb.domOff else 0) t

/-- The running image's next scan instant (R217, R219): after the last scan, on the present grid; near the last scan when the domain
offset has changed it is skipped (R140). -/
def ileNextScan (s : State) (m : IleImage) : Nat :=
  let off : Int := if m.domain ∧ s.tmb.joined then s.tmb.domOff else 0
  let from' := max (if s.ile.scanned then s.ile.lastScan + 1 else 0) (max s.ile.skipTo (if off = s.ile.domOff then 0 else s.tmb.now))
  let n := ileInstant s m from'
  if off ≠ s.ile.domOff ∧ s.ile.scanned ∧ n < s.ile.lastScan + m.period * 500 then ileInstant s m (n + 1) else n

/-- The memories whose index both images use (R222). -/
def ileKeep {α : Type} (t : SMap α) (a b : List Nat) (ops : List Nat) : SMap α :=
  let uses (l : List Nat) (i : Nat) : Bool := l.any fun w => ops.contains (ileOp w) && ileArg w == i
  ⟨t.entries.filter fun e => uses a e.1 && uses b e.1⟩

/-- The opcodes that use a marker. -/
def ileMarkOps : List Nat := [0x20, 0x21, 0x22, 0x23, 0x24, 0x25, 0x26, 0x27, 0x6C, 0x6D, 0x6E]

/-- A loaded image replaces the running one (R222); a PERSIST image becomes the boot image (R224, 19_hendel R557). -/
def ileSwitch (s : State) (n : IleNext) : State :=
  let old := match s.ile.image with | some m => m.code | none => []
  let new := n.image.code
  let i := s.ile
  let s := if n.image.persist ∧ s.hdl.boot.interlock ≠ some n.image then bootPend s (.interlock n.image) else s
  ileRefsNote { s with ile := { i with
    state := if i.state = .empty then .running else i.state
    image := some n.image
    next := none
    scanned := false
    skipTo := n.at'
    markers := ileKeep i.markers old new ileMarkOps
    timers := ileKeep i.timers old new [0x70, 0x71, 0x72]
    edges := ileKeep i.edges old new [0x74, 0x75]
    alarms := ileKeep i.alarms old new [0x78]
    compares := SMap.empty
    outs := SMap.empty
    fbOuts := SMap.empty
    lost := [] } }

/-- After the first scan of a new image ILE_LOAD completes (R222). -/
def ileLoadDone (s : State) (n : IleNext) : State :=
  match n.cmd with
  | some h => endCmd s h .ok n.image.code.length 0
  | none => s

/-- The offset the instants are computed with becomes the present one. -/
def ileSettle (s : State) : State :=
  match s.ile.image with
  | some m => { s with ile := { s.ile with domOff := if m.domain ∧ s.tmb.joined then s.tmb.domOff else 0 } }
  | none => s

/-- The next scan: of the loaded image at its first instant, else of the running one. -/
def ileScanNext (dur : Nat) (late : Bool) (s : State) : State :=
  if s.ile.state = .faulted then s
  else
    let run (s : State) : State := match s.ile.image with
      | some m => ileSettle (ileScanAt (ileNextScan s m) dur late s)
      | none => s
    match s.ile.next with
    | some n =>
      let due := match s.ile.image with | some m => decide (n.at' ≤ ileNextScan s m) | none => true
      if due then ileLoadDone (ileSettle (ileScanAt n.at' dur late (ileSwitch s n))) n else run s
    | none => run s

/-- ILE_SCAN (R212): `dur` is the time from the scan instant to the last frame enqueued. -/
def execIleScan (dur : Nat) (s : State) : Res := ok (ileScanNext dur false s)

/-- ILE_SCAN_LATE (R217): the scan is unfinished 2 µs before its output instant; it ends after `dur`, and a scan instant that has passed by
then is skipped. -/
def ileScanLate (dur : Nat) (s : State) : State :=
  if s.ile.state = .faulted ∨ (s.ile.image.isNone ∧ s.ile.next.isNone) then s
  else
    let s := ileScanNext dur true s
    let s := ileEvent (bump s cIleScanLate) evIleScanLate 0 0 0 0
    { s with ile := { s.ile with skipTo := s.tmb.now } }

/-- ILE_SCAN_LATE (R217). -/
def execIleScanLate (dur : Nat) (s : State) : Res := ok (ileScanLate dur s)

/-- ILE_FAULT (R207): a compare mismatch at instruction `insn`. -/
def execIleFault (t insn : Nat) (s : State) : Res :=
  if s.ile.state = .faulted then ok s
  else
    let s := advance s t
    let s := match s.ile.next with | some n => (match n.cmd with | some h => endCmd s h .faulted 0 0 | none => s) | none => s
    let s := { s with ile := { s.ile with state := .faulted, next := none } }
    let s := ileEvent (assertFault s .interlock) evIleFault 0 0 0 insn
    ok (pairGiveUp s 7)

/-- A write of 1 to FB_END (R226, R228): no effect outside FALLBACK. -/
def fbEnd (s : State) : State := if s.ile.state = .fallback then { s with ile := { s.ile with fbEnd := true } } else s

/-- FB_END (R226, R228). -/
def execFbEnd (s : State) : Res := regCmd s 5 fbEnd

/-! ### Load -/

/-- Opcode classes: operand a point, marker, compare, timer, edge, alarm, or none (R208). -/
def ileArgOk (m : IleImage) (w : Nat) : Bool :=
  let op := ileOp w
  let x := ileArg w
  if op ≤ 0x08 ∨ (0x68 ≤ op ∧ op ≤ 0x6B) then true
  else if (0x20 ≤ op ∧ op ≤ 0x27) ∨ (0x6C ≤ op ∧ op ≤ 0x6E) then decide (x < 4096)
  else if 0x40 ≤ op ∧ op ≤ 0x47 then decide (x < m.compares.length)
  else if 0x70 ≤ op ∧ op ≤ 0x72 then decide (x < m.presets.length)
  else if op = 0x74 ∨ op = 0x75 then decide (x < 4096)
  else if op = 0x78 then decide (x < 1024)
  else ((decide (0x60 ≤ op) && decide (op ≤ 0x67)) || op == 0x7C || op == 0x7F) && x == 0

/-- Instructions that may follow BAND, BOR or BXOR (R209). -/
def ileOpensOk (op : Nat) : Bool := [0x00, 0x01, 0x08, 0x20, 0x21, 0x40, 0x41, 0x61, 0x62].contains op

/-- The deepest nesting of a list, none where branch use breaks R209. -/
def ileDepth : Nat → Nat → List Nat → Option Nat
  | _, mx, [] => some mx
  | d, mx, w :: t =>
    let op := ileOp w
    if 0x64 ≤ op ∧ op ≤ 0x66 then
      if 32 ≤ d ∨ !(match t with | v :: _ => ileOpensOk (ileOp v) | [] => false) then none else ileDepth (d + 1) (max mx (d + 1)) t
    else if op = 0x67 then (if d = 0 then none else ileDepth (d - 1) mx t)
    else if (op = 0x7C ∨ op = 0x7F) ∧ d ≠ 0 then none
    else ileDepth d mx t

/-- No index used by two instructions among some opcodes (R211). -/
def ileUnique (code ops : List Nat) : Bool :=
  let l := (code.filter fun w => ops.contains (ileOp w)).map ileArg
  l.eraseDups.length == l.length

/-- Points that instructions load (R221). -/
def ileLoads (code : List Nat) : List Nat := (code.filter fun w => decide (ileOp w ≤ 0x08)).map ileArg

/-- A table region inside the image. -/
def ileRegion (b : Bytes) (off n : Nat) : Bool := off % 8 == 0 && decide (96 ≤ off) && decide (off + n ≤ le b 16 4)

/-- Header values and table sizes within their ranges (R219). -/
def ileHeaderOk (b : Bytes) : Bool :=
  let p := le b 24 4
  decide (104 ≤ le b 16 4) && decide (le b 16 4 ≤ 4194304) && decide (le b 16 4 ≤ b.length) && decide (50 ≤ p) && decide (p ≤ 10000) &&
  decide (le b 28 4 < p) && decide (10 ≤ le b 32 4) && decide (le b 32 4 ≤ p) && decide (2 ≤ le b 36 4) && decide (le b 36 4 ≤ 65536) &&
  decide (le b 40 2 ≤ 16384) && decide (le b 42 2 ≤ 1024) && decide (le b 44 2 ≤ 256) &&
  ileRegion b (le b 52 4) (8 * le b 40 2) && ileRegion b (le b 56 4) (24 * le b 42 2) && ileRegion b (le b 60 4) (8 * le b 44 2) &&
  ileRegion b (le b 64 4) (4 * (le b 46 1 + le b 47 1)) && ileRegion b (le b 68 4) (4 * le b 36 4) &&
  (List.range (le b 44 2)).all fun i => decide (1 ≤ le b (le b 60 4 + 8 * i) 4)

/-- Reserved fields hold 0 where the minor version is the one this stepping writes (R219, R220). -/
def ileReserved (b : Bytes) : Bool :=
  le b 4 1 != 0 ||
  (le b 6 2 == 0 && decide (le b 48 4 < 4) && allZero (slice b 72 24) &&
   (List.range (le b 40 2)).all (fun i => let o := le b 52 4 + 8 * i; bits (le b o 4) 30 25 == 0 && le b (o + 4) 4 == 0) &&
   (List.range (le b 42 2)).all (fun i => let o := le b 56 4 + 24 * i
     decide (le b o 4 < 2 ^ 25) && decide (le b (o + 5) 1 < 2) && le b (o + 6) 2 == 0) &&
   (List.range (le b 44 2)).all (fun i => le b (le b 60 4 + 8 * i + 4) 4 == 0) &&
   (List.range (le b 46 1 + le b 47 1)).all (fun i => decide (le b (le b 64 4 + 4 * i) 4 < 4096)))

/-- The tables and the list of an image (R219). -/
def ileParse (b : Bytes) : IleImage :=
  let st (i : Nat) : Nat := le b (le b 64 4 + 4 * i) 4 % 4096
  { (default : IleImage) with
    version := le b 4 2
    build := le b 8 8
    bytes := le b 16 4
    period := le b 24 4
    phase := le b 28 4
    outOfs := le b 32 4
    domain := bit (le b 48 4) 0
    persist := bit (le b 48 4) 1
    inputs := (List.range (le b 40 2)).map fun i => let w := le b (le b 52 4 + 8 * i) 4; ⟨w % 2 ^ 25, bit w 31⟩
    compares := (List.range (le b 42 2)).map fun i =>
      let o := le b 56 4 + 24 * i
      ⟨le b o 4 % 2 ^ 25, le b (o + 4) 1, bit (le b (o + 5) 1) 0, BitVec.ofNat 64 (le b (o + 8) 8), BitVec.ofNat 64 (le b (o + 16) 8)⟩
    presets := (List.range (le b 44 2)).map fun i => le b (le b 60 4 + 8 * i) 4
    ilkStations := (List.range (le b 46 1)).map st
    fbStations := (List.range (le b 47 1)).map fun i => st (le b 46 1 + i)
    code := (List.range (le b 36 4)).map fun i => le b (le b 68 4 + 4 * i) 4 }

/-- A compare entry is allowed for its point's type (R220, R221). -/
def ileCompareOk (t : PType) (c : IleCompare) : Bool :=
  match t with
  | .int32 | .uint32 | .int64 | .uint64 | .real32 | .real64 | .fix24 => !ltV t c.hyst 0
  | .enum16 => decide (2 ≤ c.op)
  | _ => false

/-- The checks of ILE_LOAD in the order of R221. -/
def ileCheck (s : State) (b : Bytes) : Except (Status × Nat) IleImage := do
  let fail (c : Bool) (st : Status) (i : Nat) : Except (Status × Nat) Unit := if c then .error (st, i) else .ok ()
  let first (l : List Nat) (p : Nat → Bool) (st : Status) : Except (Status × Nat) Unit :=
    match l.findIdx? (fun x => !p x) with | some i => .error (st, i) | none => .ok ()
  fail (s.ile.state == .fallback || s.ile.state == .faulted || s.pst.map.isNone) .state 0
  fail (b.take 4 != magic 'P' 'S' 'I' 'L') .badField 0
  fail (le b 5 1 != 1) .version 0
  fail (le b 20 4 != (crc32c (slice b 24 (le b 16 4 - 24))).toNat) .checksum 0
  fail (!ileHeaderOk b) .range 0
  let m := ileParse b
  first m.code (ileArgOk m) .badField
  fail (m.code.filter (ileOp · == 0x7F) != (m.code.getLast?.toList.filter (ileOp · == 0x7F)) || ileOp (m.code.getLast?.getD 0) != 0x7F)
    .badField (m.code.length - 1)
  fail (decide (1 < (m.code.filter (ileOp · == 0x7C)).length)) .badField 0
  let depth ← match ileDepth 0 0 m.code with | some d => .ok d | none => .error (.badField, 0)
  fail (!(ileUnique m.code [0x70, 0x71, 0x72] && ileUnique m.code [0x74, 0x75] && ileUnique m.code [0x78])) .badField 0
  first (ileLoads m.code) (fun id => m.inputs.any (·.id == id)) .badField
  fail (m.compares.any fun c => decide (3 < c.op)) .badField 0
  fail (!ileReserved b) .badField 0
  let main := ileStores (ileMain m)
  let fb := ileStores (ileFallback m)
  let ids := m.inputs.map (·.id) ++ m.compares.map (·.id) ++ main ++ fb
  first ids (mapped s) .noTarget
  first (m.ilkStations ++ m.fbStations) (stnConfigured s) .noTarget
  let ty (id : Nat) : PType := ((mapFind s.pst.map id).map (·.type)).getD .none
  first (ileLoads m.code ++ main ++ fb) (fun id => ty id == .bool) .badField
  first (List.range m.compares.length) (fun i => let c := m.compares.getD i default; ileCompareOk (ty c.id) c) .badField
  first fb (fun id => !main.contains id) .badField
  let wr (id : Nat) : BitVec 16 := ((mapFind s.pst.map id).map (·.writers)).getD 0
  first main (fun id => (wr id).getLsbD wILE && !(wr id).getLsbD wCYC) .denied
  first fb (fun id => (wr id).getLsbD wILE) .denied
  let ns := 300 + 16 * (m.inputs.length + m.compares.length) + 2 * m.code.length + 200 + 4 * (main.length + fb.length) + 100 +
    50 * (m.ilkStations.length + m.fbStations.length) + 2000
  fail (decide (m.outOfs * 1000 < ns)) .range 0
  .ok { m with types := ids.foldl (fun t id => t.set id (ty id)) SMap.empty, stackMax := depth }

/-- ILE_LOAD once all its Slices have run (R221, R222): the switch is due at the first scan instant 10 µs or more later. -/
def ileLoad (s : State) (h : Nat) (b : Bytes) : State :=
  match ileCheck s b with
  | .error (st, i) => endCmd (ileEvent s evIleRejected 0 0 0 i) h st 0 0
  | .ok m =>
    let s := { s with ile := { s.ile with next := some ⟨m, ileInstant s m (s.tmb.now + 10000), some h⟩ } }
    ileEvent s evIleLoaded 0 0 0 0

end Sys2Proof.Machine
end

