-- ==== Sys2Proof/Machine/Sequencer.lean ====
section
/-! DEFINITION. The Step Sequencer's commands (08_recipes R253 to R275): loading a recipe, its commands, boundaries, offsets, conditions, ramps,
participants. -/
namespace Sys2Proof.Machine
open Sys2Proof

/-! ### RECIPE_LOAD (R253) -/

/-- Loop ranges of an image: LOOP_TO and loop step. -/
def riLoops (m : Bytes) : List (Nat × Nat) :=
  (List.range (riSteps m)).filterMap fun n => if stLoopCount (riStep m n) = 0 then none else some (stLoopTo (riStep m n), n)

/-- Two loop ranges nest or are disjoint (R257). -/
def loopsNest (a b : Nat × Nat) : Bool :=
  decide (a.2 < b.1) || decide (b.2 < a.1) || (decide (a.1 ≤ b.1) && decide (b.2 ≤ a.2)) || (decide (b.1 ≤ a.1) && decide (a.2 ≤ b.2))

/-- Loop ranges that hold a step. -/
def loopDepth (l : List (Nat × Nat)) (n : Nat) : Nat := (l.filter fun r => decide (r.1 ≤ n) && decide (n ≤ r.2)).length

/-- A step number inside the image, or the one code that stands for none. -/
def stepRef (m : Bytes) (v code : Nat) : Bool := v == code || decide (v < riSteps m)

/-- The sizes of an image are out of range (R253). -/
def riSizesBad (m : Bytes) : Bool :=
  let n := le m 24 4
  let region (off size : Nat) : Bool := off % 8 != 0 || decide (n < off + size)
  decide (n < 128) || decide (1048576 < n) || m.length != n || riSteps m == 0 || decide (4096 < riSteps m) || decide (32768 < le m 40 4) ||
  decide (4096 < le m 56 2) || decide (63 < riContext m) || region (le m 44 4) (64 * riSteps m) || region (le m 48 4) (32 * le m 40 4) ||
  region (le m 52 4) (4 * le m 56 2) || (le m 60 4 != 0 && (decide (le m 60 4 < 10) || decide (10000 < le m 60 4)))

/-- A step's times and counts are out of range (R249, R251, R253). -/
def stepRangeBad (m : Bytes) (n : Nat) : Bool :=
  let t := riStep m n
  decide (le t 4 4 < 100) || (le t 8 4 != 0 && decide (le t 8 4 < le t 4 4)) || decide (256 < le t 24 2) ||
  decide (le m 40 4 < le t 20 4 + le t 24 2) ||
  (stEnd t == 0 && (stepActions m n).any fun a => decide (le t 4 4 ≤ acOffset a.2))

/-- An action's times are out of range (R251). -/
def actionRangeBad (a : Bytes) : Bool :=
  acKind a == 2 && (decide (le a 12 4 < 100) || decide (le a 24 4 < 100) || decide (1000000 < le a 24 4))

/-- A header holds an undefined code or a reserved bit; `res`: reserved fields are checked (an image of version 1.0). -/
def headerBad (m : Bytes) (res : Bool) : Bool :=
  let r := le m 38 1
  r == 0 || decide (4 < r) || (res && (decide (7 < le m 39 1) || le m 6 2 != 0 || le m 59 1 != 0 || !allZero (slice m 64 64))) ||
  !stepRef m (le m 34 2) 0xFFFF || !stepRef m (le m 36 2) 0xFFFF || (res && (riStations m).any fun v => decide (4095 < v)) ||
  (riLoops m).any (fun a => (riLoops m).any fun b => !loopsNest a b)

/-- A step holds an undefined code, a reserved bit or a bad reference (R249, R250, R253). -/
def stepBad (m : Bytes) (res : Bool) (n : Nat) : Bool :=
  let t := riStep m n
  let cond0 := le t 28 4 == 0 && stOp t == 0 && le t 36 4 == 0 && le t 40 8 == 0
  let condOk : Bool := match stEnd t with
    | 0 => cond0
    | 1 => decide (stOp t ≤ 3) && le t 36 4 == 0
    | 2 => decide (stOp t ≤ 1) && le t 36 4 == 0 && le t 40 8 == 0
    | 3 => stOp t == 0 && (real64Val (le t 40 8)).isSome
    | 4 => stOp t == 0 && le t 36 4 == 0 && le t 40 8 == 0
    | 5 => stRef t != 0 && stOp t == 0 && le t 36 4 == 0 && le t 40 8 == 0
    | _ => false
  !condOk || (res && (decide (3 < le t 1 1) || le t 27 1 != 0 || le t 33 3 != 0 || !allZero (slice t 48 16))) ||
  !stepRef m (stNext t) 0xFFFF || !stepRef m (stTimeout t) 0xFFFE || !stepRef m (le t 18 2) 0xFFFF || decide (4 < le t 26 1) ||
  (stLoopCount t != 0 && decide (n < stLoopTo t)) || decide (16 < loopDepth (riLoops m) n) ||
  decide (255 < ((stepActions m n).map fun a => acOffset a.2).eraseDups.length)

/-- An action holds an undefined code or a reserved bit (R251, R252). -/
def actionBad (res : Bool) (a : Bytes) : Bool :=
  let z (o n : Nat) : Bool := allZero (slice a o n)
  let kindOk : Bool := match acKind a with
    | 1 => (PType.ofCode (le a 3 1)).isSome && z 12 4 && z 24 4
    | 2 => [2, 6, 7, 8].contains (le a 3 1)
    | 3 | 4 => z 3 1 && z 12 4 && z 16 8 && z 24 4
    | 5 => z 3 1 && decide (0x8000 ≤ bits (le a 12 4) 15 0) && bits (le a 12 4) 31 19 == 0 && z 24 4
    | _ => false
  !kindOk || (decide (63 < le a 2 1) && le a 2 1 != 0xFF) || (res && (!z 1 1 || !z 28 4))

/-- The point an END of kind POINT reads. -/
def condPoint (t : Bytes) : Option Nat := if stEnd t = 1 then some (stRef t) else none

/-- Something an image references does not exist (R253). -/
def stepMissing (s : State) (t : Bytes) : Bool :=
  match stEnd t with
  | 1 => stRef t == 0 || !mapped s (stRef t)
  | 2 => decide (15 < stRef t)
  | 3 => decide (1023 < stRef t)
  | 4 => decide (63 < stRef t)
  | _ => false

/-- The same of an action. -/
def actionMissingRef (s : State) (a : Bytes) : Bool :=
  match acKind a with
  | 1 | 2 => acTarget a == 0 || !mapped s (acTarget a)
  | 3 => decide (63 < acTarget a)
  | 4 => decide (15 < acTarget a)
  | _ => false

/-- A condition's type is not one of R220. -/
def condTypeBad (s : State) (t : Bytes) : Bool :=
  match condPoint t with
  | none => false
  | some id => match mapFind s.pst.map id with
    | none => false
    | some e => match e.type with
      | .int32 | .uint32 | .int64 | .uint64 | .real32 | .real64 | .fix24 => false
      | .enum16 => decide (stOp t < 2)
      | _ => true

/-- The checks of RECIPE_LOAD in the order of R253: status and failing step or action. -/
def recipeCheck (s : State) (x : Nat) (m : Bytes) : Option (Status × Nat) :=
  let e := seqX s x
  let idleLike : Bool := match e.state with | .idle | .loaded | .done | .aborted => true | _ => false
  let res := le m 4 1 == 0
  let steps := List.range (riSteps m)
  let acts := List.range (le m 40 4)
  let lead := if le m 60 4 = 0 then fld s fSeqCtrlLeadUs else le m 60 4
  if !idleLike || e.next.isSome then some (.state, 0)
  else if m.length < 128 ∨ slice m 0 4 ≠ magic 'P' 'S' 'R' 'C' then some (.badField, 0)
  else if le m 5 1 ≠ 1 then some (.version, 0)
  else if (crc32c (slice m 32 (le m 24 4 - 32))).toNat ≠ le m 28 4 then some (.checksum, 0)
  else if riSizesBad m then some (.range, 0)
  else match steps.find? (stepRangeBad m), acts.find? (fun i => actionRangeBad (riAction m i)) with
  | some n, _ => some (.range, n)
  | none, some i => some (.range, i)
  | none, none =>
    if riFlag m 0 ∧ lead < 20 then some (.range, 0)
    else if headerBad m res then some (.badField, 0)
    else match steps.find? (stepBad m res), acts.find? (fun i => actionBad res (riAction m i)) with
    | some n, _ => some (.badField, n)
    | none, some i => some (.badField, i)
    | none, none =>
      if (match s.pst.map with | some p => p.build != le m 16 8 | none => true) then some (.state, 0)
      else match steps.find? (fun n => stepMissing s (riStep m n)), acts.find? (fun i => actionMissingRef s (riAction m i)) with
      | some n, _ => some (.noTarget, n)
      | none, some i => some (.noTarget, i)
      | none, none =>
        if (riStations m).any fun n => !stnConfigured s n then some (.noTarget, 0)
        else
          let writes (i : Nat) : Bool := let k := acKind (riAction m i); k == 1 || k == 2
          match steps.find? (fun n => condTypeBad s (riStep m n)),
            acts.find? (fun i => writes i && !targetOk s (acTarget (riAction m i)) (le (riAction m i) 3 1)) with
          | some n, _ => some (.badField, n)
          | none, some i => some (.badField, i)
          | none, none =>
            match acts.find? (fun i => writes i && (match mapFind s.pst.map (acTarget (riAction m i)) with
              | some e => !e.writers.getLsbD wSEQ
              | none => false)) with
            | some i => some (.denied, i)
            | none => none

/-- A recipe image is loaded (R253, R265): the journal holds a copy and a checkpoint LOADED. -/
def recipeLoad (s : State) (x : Nat) (b : Bytes) : State × Status × Nat :=
  match recipeCheck s x b with
  | some (st, i) =>
    let e := seqX s x
    (event (seqUpd s x fun e => { e with lastStatus := st }) evRecipeRejected [(2, x), (2, i), (4, e.bseq), (2, 0), (1, 0)], st, i)
  | none =>
    let s := seqUpd s x fun e => { (default : Exec) with
      state := .loaded
      image := some b
      bseq := e.bseq
      gen := e.gen
      lastStatus := .ok }
    let j := s.mram.recipes.get x
    let s := { s with mram := { s.mram with recipes := s.mram.recipes.set x { j with image := some b } } }
    (seqEvent (checkpoint s x 0 0) evRecipeLoaded x 0 0, .ok, 0)

/-! ### Commands (R263, R264, R269) -/

/-- The instant of a command: I, or the present instant plus the lead. -/
def seqInstant (s : State) (x i : Nat) : Nat :=
  let m := seqImg (seqX s x)
  if i = 0 then ceilUs s m (s.tmb.now + seqLead s m) else i

/-- RECIPE_START (R245, R263). -/
def recipeStart (s : State) (c : Cmd) : State :=
  let x := c.unit
  let e := seqX s x
  let startable : Bool := match e.state with | .loaded | .done | .aborted => true | _ => false
  if !startable || e.next.isSome || contextTaken s x then seqEnd s x (some c.handle) .state 0
  else if riSteps (seqImg e) ≤ c.arg then seqEnd s x (some c.handle) .range 0
  else seqDecide s x (bndOf (seqInstant s x c.instant) (some c.arg) 0 [] (some c.handle))

/-- RECIPE_START (R263). -/
def execRecipeStart (h : Nat) (s : State) : Res := ok (startCmd s h 0x31 (some []) recipeStart)

/-- RECIPE_HOLD (R263, R264). -/
def recipeHold (s : State) (c : Cmd) : State :=
  let x := c.unit
  let e := seqX s x
  if seqFollower s x then seqEnd s x (some c.handle) .state 0
  else match e.state with
    | .held => seqEnd s x (some c.handle) .ok e.step
    | .running =>
      if e.hold.isSome then seqEnd s x (some c.handle) .busy 0
      else seqUpd s x fun e => { e with hold := some (seqInstant s x c.instant, some c.handle) }
    | _ => seqEnd s x (some c.handle) .state 0

/-- RECIPE_HOLD (R263). -/
def execRecipeHold (h : Nat) (s : State) : Res := ok (startCmd s h 0x32 (some []) recipeHold)

/-- RECIPE_RELEASE (R263, R269, R273): meets a HOST condition, or releases a held step. -/
def recipeRelease (s : State) (c : Cmd) : State :=
  let x := c.unit
  let e := seqX s x
  let m := seqImg e
  let t := riStep m e.step
  let stop (st : Status) : State := seqEnd s x (some c.handle) st 0
  if seqFollower s x then stop .state
  else match e.state with
    | .running =>
      if stEnd t ≠ 5 ∨ stRef t ≠ c.arg then stop .noTarget
      else if e.next.isSome then stop .state
      else decideNormal s x (ceilUs s m (max (e.b + stDur t) (s.tmb.now + seqLead s m))) (some c.handle) true
    | .held =>
      if seqLimited s e || e.next.isSome || e.abort.isSome then stop .state
      else if e.restored && !stationsHeld s m then
        seqEnd (bump s cSeqResumeRefused) x (some c.handle) .staleInput 0
      else seqDecide s x { bndOf (ceilUs s m (s.tmb.now + seqLead s m)) (some e.step) 4 e.loops (some c.handle) with guarded := e.restored }
    | _ => stop .state

/-- RECIPE_RELEASE (R263). -/
def execRecipeRelease (h : Nat) (s : State) : Res := ok (startCmd s h 0x33 (some []) recipeRelease)

/-- RECIPE_ABORT (R263, R264). -/
def recipeAbort (s : State) (c : Cmd) : State :=
  let x := c.unit
  let e := seqX s x
  if seqFollower s x ∨ e.abort.isSome then seqEnd s x (some c.handle) .state 0
  else match e.state with
    | .running | .held => abortAt s x (max (seqInstant s x c.instant) s.tmb.now) (some c.handle)
    | .resumable => abortAt s x (ceilUs s (seqImg e) (s.tmb.now + seqLead s (seqImg e))) (some c.handle)
    | _ => seqEnd s x (some c.handle) .state 0

/-- RECIPE_ABORT (R263). -/
def execRecipeAbort (h : Nat) (s : State) : Res := ok (startCmd s h 0x34 (some []) recipeAbort)

/-- RECIPE_RESUME (R269). -/
def execRecipeResume (h : Nat) (s : State) : Res :=
  ok (startCmd s h 0x35 (some []) fun s c => seqResume s c.unit c.arg (some c.handle))

/-- RECIPE_AUTO_RESUME (R275): at the Point Store's READY at `t`; where a program autostarts, its START does it (CYC_START). -/
def execRecipeAutoResume (t : Nat) (s : State) : Res :=
  if autostarts s && !programAutostarts s && !s.cyc.autoStarting then ok (seqAutostartInstant s t) else ok s

/-! ### Boundaries (R256 to R260, R264, R270) -/

/-- The final writes of ramps under COMPLETE_RAMPS, then no ramp runs (R258). -/
def endRamps (s : State) (x t : Nat) : State :=
  let e := seqX s x
  let s := seqUpd s x fun e => { e with ramps := [] }
  if bit (le (riStep (seqImg e) e.step) 1 1) 1 then
    e.ramps.foldl (fun s r => rampWrite s x r r.value t) s
  else s

/-- A boundary enters its step at `t` (R256, R260, R269, R274). -/
def boundaryEnter (s : State) (x n t fails : Nat) (b : Bnd) : State :=
  let e := seqX s x
  let chain := b.entry == 5 || (e.state == .aborting) || (e.state == .resumable && e.chain && decide (b.policy ≤ 2))
  let st : ExecState := if chain then .aborting else .running
  let s := if b.policy = 1 then resumeRemaining s x t st else enterStep s x n t t b.loops st
  let s := checkpoint s x b.entry fails
  let s := if b.policy ≠ 0 then seqEvent (bump s cSeqResumes) evRecipeResumed x 0 b.policy
    else if b.entry = 0 then seqEvent s evRecipeStarted x 0 0
    else if b.entry = 4 then seqEvent s evRecipeReleased x 0 0 else s
  planStep (seqEnd s x b.cmd .ok n) x t

/-- BOUNDARY (R260): the prepared boundary of executor `x` launches; its checkpoint meets `fails` failed verifies. -/
def seqBoundary (x fails : Nat) (s : State) : State :=
  let e := seqX s x
  match e.next with
  | none => s
  | some b =>
    match b.doneAt with
    | none => s
    | some dn =>
      let t := max b.inst dn
      if (match e.abort with | some a => decide (a.inst ≤ t) | none => false) then s
      else
        let s := advance s t
        let (s, go) := launches s t
        if !go then s
        else
          let s := if b.inst < dn + 2000 then seqEvent (bump s cSeqBoundaryLate) evBoundaryLate x 0 0 else s
          let s := bump s cSeqBoundaries
          let active : Bool := e.state == .running || e.state == .aborting
          let s := if active then cancelOffsets (endRamps s x t) x else s
          let s := seqUpd s x fun e => { e with next := none }
          match b.step with
          | none => seqFinish s x t fails (e.state == .aborting)
          | some n =>
            match e.hold with
            | some (i, cmd) =>
              if e.state = .running ∧ i ≤ b.inst then
                let s := seqUpd (bump s cSeqHolds) x fun e => { e with
                  state := .held
                  step := n
                  b := t
                  launched := t
                  loops := b.loops
                  hold := none }
                let s := checkpoint s x b.entry fails
                seqEnd (seqEnd (seqEvent s evRecipeHeld x 0 0) x cmd .ok n) x b.cmd .ok n
              else boundaryEnter s x n t fails b
            | none => boundaryEnter s x n t fails b

/-- BOUNDARY (R260). -/
def execBoundary (x fails : Nat) (s : State) : Res := ok (seqBoundary x fails s)

/-- OFFSET (R259, R260): the next offset group of the current step launches. -/
def execOffset (x : Nat) (s : State) : Res :=
  let e := seqX s x
  match e.lq with
  | [] => ok s
  | (t, o) :: rest =>
    if (match e.next with | some b => decide (b.inst ≤ t) | none => false) then ok s
    else
      let s := advance s t
      let (s, go) := launches s t
      let s := seqUpd s x fun e => { e with lq := rest }
      ok (if go then runGroup s x e.step o t else s)

/-- RAMP_TICK (R258): the next tick of the ramp of action `i`. -/
def execRampTick (x i : Nat) (s : State) : Res :=
  match (seqX s x).ramps.find? (·.act == i) with
  | none => ok s
  | some r => ok (rampTick (advance s (rampDue r)) x r)

/-- RECIPE_ABORT_INSTANT (R263): at I pending boundaries and offset groups are cancelled and ramps stop; ABORT_STEP's boundary falls now. -/
def execRecipeAbortInstant (x fails : Nat) (s : State) : Res :=
  let e := seqX s x
  match e.abort with
  | none => ok s
  | some a =>
    let s := advance s a.inst
    let s := seqUpd (cancelOffsets (dropCmds s x .aborted) x) x fun e => { e with ramps := [], abort := none }
    let s := bump s cSeqAborts
    match riAbort (seqImg e) with
    | none => ok (seqEnd (seqFinish s x a.inst fails true) x a.cmd .ok 0xFFFF)
    | some n => ok (seqUpd s x fun e => { e with next := some ⟨a.inst, some n, 5, loopsAt (seqImg e) n e.loops, 0, a.cmd, a.gen, a.doneAt, false,
        a.waiting, a.ackDue, a.inst⟩ })

/-! ### Conditions (R250, R254, R255) -/

/-- A usable value of a point at an instant. -/
def condValue (s : State) (id t : Nat) : Option PointRec :=
  let r := readPoint s id t
  if id = 0 ∨ !mapped s id ∨ unusable r.qual then none else some r

/-- One evaluation of a step's condition (R250, R255): none where a read is unusable; the settle time's start after it. -/
def condEval (s : State) (e : Exec) (t : Nat) : Option (Bool × Option Nat) :=
  let r := riStep (seqImg e) e.step
  let k := stRef r
  match stEnd r with
  | 1 => (condValue s k t).map fun p =>
      let a : Val := BitVec.ofNat 64 (le r 40 8)
      (match stOp r with
        | 0 => ltV p.type a p.value
        | 1 => ltV p.type p.value a
        | 2 => eqV p.type p.value a
        | _ => !eqV p.type p.value a && !isNanV p.type p.value, none)
  | 2 =>
    let c := capCh s k
    let at' := if stOp r = 0 then c.segStamp else c.violStamp
    some (match at' with | some v => decide (e.launched ≤ v) | none => false, none)
  | 3 =>
    let d := ldesc (loopOf s k)
    match condValue s (ldPub d 0) t, condValue s (ldPub d 1) t with
    | some pv, some sp =>
      match recNum pv, recNum sp, real64Val (le r 40 8) with
      | some a, some b, some lim =>
        if absQ (b - a) ≤ lim then
          let since := e.settle.getD t
          some (decide (since + 1000 * le r 36 4 ≤ t), some since)
        else some (false, none)
      | _, _, _ => some (false, none)
    | _, _ => none
  | 4 => some ((axOf s k).inpos, none)
  | _ => some (false, none)

/-- CONDITION_EVALUATION (R254, R255): the next evaluation, every 10 µs from the boundary. -/
def execConditionEvaluation (x : Nat) (s : State) : Res :=
  let e := seqX s x
  let m := seqImg e
  let r := riStep m e.step
  let active : Bool := e.state == .running || e.state == .aborting
  if !active || seqFollower s x || e.next.isSome || stEnd r == 0 || stEnd r == 5 then ok s
  else
    let t := e.evalAt
    let s := advance s t
    let s := seqUpd s x fun e => { e with evalAt := t + 10000 }
    match condEval s e t with
    | none => ok (bump (seqUpd s x fun e => { e with settle := none }) cSeqCondUnusable)
    | some (met, since) =>
      let s := seqUpd s x fun e => { e with settle := since }
      if met then ok (decideNormal s x (ceilUs s m (max (e.b + stDur r) (t + seqLead s m))) none false) else ok s

/-- STEP_MAX_TIMEOUT (R254, R264): MAX_US passes with the condition unmet. -/
def execStepMaxTimeout (x : Nat) (s : State) : Res :=
  let e := seqX s x
  let m := seqImg e
  let r := riStep m e.step
  let active : Bool := e.state == .running || e.state == .aborting
  if !active || seqFollower s x || e.next.isSome || e.abort.isSome || stEnd r == 0 || stMax r == 0 then ok s
  else
    let t := e.b + stMax r
    let s := seqEvent (advance s t) evStepTimeout x 0 0
    let i := t + seqLead s m
    let n := stTimeout r
    if n ≠ 0xFFFE then ok (seqDecide s x (bndOf i (some n) 3 (loopsAt m n (e.loops.filter (·.1 != e.step))) none))
    else if e.state = .aborting then ok (seqDecide s x (bndOf i none 3 [] none))
    else ok (abortAt s x i none)

/-! ### Resume checks and modules (R261, R262, R271 to R273) -/

/-- RESUME_PRECHECK (R273): 10 µs before R the stations are checked again, once. -/
def execResumePrecheck (x : Nat) (s : State) : Res :=
  let e := seqX s x
  match e.next with
  | none => ok s
  | some b =>
    if !b.guarded then ok s
    else
      let s := advance s (b.inst - 10000)
      if stationsHeld s (seqImg e) then ok (seqUpd s x fun e => { e with next := some { b with guarded := false } })
      else ok (seqEnd (bump (seqUpd s x fun e => { e with next := none }) cSeqResumeRefused) x b.cmd .staleInput 0)

/-- Modules lost to a boundary (R262). -/
def modulesLost (s : State) (x : Nat) (l : List Nat) : State :=
  l.foldl (fun s k => seqEvent (bump s cSeqParticipantLost) evParticipantLost x k 0) s

/-- LAUNCH_ACK_TIMEOUT (R262): half the lead after a LAUNCH message, modules that have not acknowledged are lost to the boundary; with
ABORT_ON_LOST the owner aborts at the next whole µs after the lead. -/
def execLaunchAckTimeout (x : Nat) (s : State) : Res :=
  let e := seqX s x
  let m := seqImg e
  match e.next, e.abort with
  | some b, none =>
    if b.waiting.isEmpty then ok s
    else
      let s := advance s b.ackDue
      let s := modulesLost (seqUpd s x fun e => { e with next := some { b with waiting := [] } }) x b.waiting
      if riFlag m 2 ∧ e.state = .running then ok (abortAt s x (ceilUs s m (b.sentAt + seqLead s m + 1)) none) else ok s
  | _, some a =>
    if a.waiting.isEmpty then ok s
    else
      let s := advance s a.ackDue
      ok (modulesLost (seqUpd s x fun e => { e with abort := some { a with waiting := [] } }) x a.waiting)
  | none, none => ok s

/-- A module's answer to a LAUNCH message: executor, BSEQ, accepted. -/
def launchAck (s : State) (src x bseq : Nat) (accept : Bool) : State :=
  waligAll s clsLAUNCH 2 src false (leBytes 2 x ++ leBytes 2 (b2n accept) ++ leBytes 4 bseq)

/-- A participant enqueues a boundary of its owner `src` (R70, R261, R262, R272): executor, step, BSEQ, domain instant. -/
def boundaryRx (s : State) (src : Nat) (b : Bytes) : State :=
  let x := le b 0 2
  let step := le b 2 2
  let e := seqX s x
  if 64 ≤ x ∨ !seqFollower s x ∨ e.image.isNone ∨ riSteps (seqImg e) ≤ step then s
  else
    let s := if s.tmb.domLock then s else seqEvent (bump s cSeqUnlockedLaunch) evUnlockedLaunch x 0 0
    let i := (les b 8 8 - s.tmb.domOff).toNat
    let pol := if e.state = .resumable then 2 else 0
    let entry := if e.state = .resumable then 6 else if e.state = .running ∨ e.state = .aborting ∨ e.state = .held then 1 else 0
    let s := seqDecide s x { bndOf i (some step) entry (loopsAt (seqImg e) step e.loops) none with policy := pol }
    launchAck s src x (le b 4 4) true

/-- LAUNCH_BOUNDARY_RX (R261): the message `b` at port `p`. -/
def execLaunchBoundaryRx (p : Nat) (b : Bytes) (t : Nat) (s : State) : Res := ok (pairRx s p clsLAUNCH 1 b t boundaryRx)

/-- A module answers (R262, R271): executor, acceptance, BSEQ; a refused resume launches nothing. -/
def launchAckRx (s : State) (src : Nat) (b : Bytes) : State :=
  let x := le b 0 2
  let e := seqX s x
  let resume : Bool := match e.next with | some n => n.policy != 0 | none => false
  if 64 ≤ x then s
  else if le b 2 2 ≠ 0 ∨ !resume then seqUpd s x fun e => { e with
    next := e.next.map fun n => { n with waiting := n.waiting.filter (· != src) }
    abort := e.abort.map fun a => { a with waiting := a.waiting.filter (· != src) } }
  else
    let s := seqUpd s x fun e => { e with next := none }
    match e.next with | some n => seqEnd s x n.cmd .state 0 | none => s

/-- LAUNCH_ACK_RX (R262): the message `b` at port `p`. -/
def execLaunchAckRx (p : Nat) (b : Bytes) (t : Nat) (s : State) : Res := ok (pairRx s p clsLAUNCH 2 b t launchAckRx)

/-- A participant accepts the resume of its owner `src` if it is RESUMABLE, or RUNNING in the same step, under the same RECIPE_ID (R271):
executor, policy, step, R on the domain Timeline, RECIPE_ID. -/
def resumeRx (s : State) (src : Nat) (b : Bytes) : State :=
  let x := le b 0 2
  let e := seqX s x
  if 64 ≤ x ∨ !seqFollower s x then s
  else
    let same := riId (seqImg e) == le b 16 8 && e.image.isSome
    if same ∧ e.state = .running ∧ e.step = le b 4 4 then launchAck s src x 0 true
    else match resumeCheck s x (le b 2 1) with
      | .ok q => if same then launchAck (resumeAt s x (les b 8 8 - s.tmb.domOff).toNat q none) src x 0 true else launchAck s src x 0 false
      | .error _ => launchAck s src x 0 false

/-- LAUNCH_RESUME_RX (R271): the message `b` at port `p`. -/
def execLaunchResumeRx (p : Nat) (b : Bytes) (t : Nat) (s : State) : Res := ok (pairRx s p clsLAUNCH 3 b t resumeRx)

/-- The checks of a SEQ commit (R277): LEAD_US, reserved roles, a ROLE change of an executor in use. -/
def seqCommitCheck (s : State) : Status :=
  let xs := List.range 64
  let free (e : Exec) : Bool := match e.state with | .idle | .loaded | .done | .aborted => true | _ => false
  if xs.any fun x => decide (1 < sfld s (fSeqExecRole x)) then .badField
  else if sfld s fSeqCtrlLeadUs < 10 ∨ 10000 < sfld s fSeqCtrlLeadUs then .range
  else if xs.any fun x => sfld s (fSeqExecRole x) != fld s (fSeqExecRole x) && !free (seqX s x) then .state
  else .ok

/-! ### Restart (R266, R268) -/

/-- An executor after a restart (R268): `l`: L of R274; `cold`: the restart was cold. -/
def seqRestore (s : State) (x l : Nat) (cold : Bool) : State :=
  let j := s.mram.recipes.get x
  let clear (s : State) : State := { s with seq := { s.seq with exec := s.seq.exec.set x default } }
  match j.ring.findSome? id with
  | none => clear s
  | some c =>
    match j.image with
    | some m =>
      if (crc32c (slice m 32 (le m 24 4 - 32))).toNat ≠ le m 28 4 ∨ riId m ≠ c.recipe then
        seqEvent (clear s) evResumeRefused x 0 0
      else
        let active : Bool := c.state == .running || c.state == .aborting
        let st : ExecState := if active then .resumable else c.state
        let s := { s with seq := { s.seq with exec := s.seq.exec.set x { (default : Exec) with
          state := st
          image := some m
          step := c.step
          b := c.b
          launched := c.launched
          bseq := c.bseq
          loops := c.loops
          lastRun := l
          cold := cold
          limited := j.failed && active
          restored := c.state == .held
          chain := c.state == .aborting } } }
        if active ∨ c.state = .held then seqEvent s evResumeAvailable x 0 0 else s
    | none => seqEvent (clear s) evResumeRefused x 0 0

end Sys2Proof.Machine
end

