-- ==== Sys2Proof/Machine/Walig.lean ====
section
/-! DEFINITION. The Walig Link's commands (18_pairing R519 to R528, R549, R550, R552; 01_timeline R67 to R70): lanes and ports, versions, module
numbers and the domain master, time across the domain, point replication. -/
namespace Sys2Proof.Machine
open Sys2Proof

/-! ### Lanes and ports (R519, R520, R523) -/

/-- A lane of a port. -/
def laneOf (x : WPort) (l : Nat) : Lane := if l = 0 then x.lane0 else x.lane1
/-- Change a lane of a port. -/
def laneUpd (x : WPort) (l : Nat) (f : Lane → Lane) : WPort :=
  if l = 0 then { x with lane0 := f x.lane0 } else { x with lane1 := f x.lane1 }
/-- The port is enabled. -/
def wPortEn (s : State) (p : Nat) : Bool := flag s (fWlkPortEn p)
/-- The pairing state as this module tells it. -/
def parCode (s : State) : Nat := s.par.state.code

/-- WLK_HEARTBEAT_TX (R520): every 2 µs each lane of an enabled port sends a heartbeat: block type, module number, pairing state, count. -/
def execWlkHeartbeatTx (t : Nat) (s : State) : Res :=
  let s := advance s t
  let b := leBytes 1 0x4B ++ leBytes 1 (moduleNo s) ++ leBytes 1 (parCode s) ++ leBytes 2 s.wlk.hbSent
  let l := (wPorts.filter (wPortEn s)).flatMap fun p => [.heartbeat p 0 b, .heartbeat p 1 b]
  ok (sendAll { s with wlk := { s.wlk with hbSent := (s.wlk.hbSent + 1) % 65536 } } l)

/-- What the partner's pairing state tells (R530, R538, R546): the module in control learns that its standby fell out of step, or caught up. -/
def partnerSays (s : State) (st : Nat) : State :=
  let s := if s.par.state = .active ∧ s.par.partnerState = PairState.standbyReady.code ∧ st = PairState.standbyUnsync.code then parLost s else s
  { s with par := { s.par with partnerState := st } }

/-- A port is UP with both lanes working, DEGRADED with one (R519). -/
def lanesState (x : WPort) : PortState := if x.lane0.works && x.lane1.works then .up else .degraded

/-- WLK_HEARTBEAT_RX (R520): a heartbeat of module `m`, pairing state `st`, count `n` on a lane; a lost lane with block lock works again. -/
def execWlkHeartbeatRx (p lane m st n t : Nat) (s : State) : Res :=
  if 4 ≤ p ∨ 2 ≤ lane ∨ !wPortEn s p ∨ !(laneOf (wPort s p) lane).lock then ok s
  else
    let s := advance s t
    let was := (wPort s p).state
    let s := wPortUpd s p fun x =>
      let x := laneUpd { x with hbCount := n % 65536, peer := m % 64 } lane fun l => { l with
        hb := s.tmb.now
        works := l.works || wPortUp s p }
      if wPortUp s p then { x with state := lanesState x } else x
    let s := if was = .degraded ∧ (wPort s p).state = .up then wlkEvent s evWlkPortUp p 0 (m % 64) (wPort s p).ver else s
    ok (if isPairPort s p ∧ s.par.formed then partnerSays s (st % 8) else s)

/-- A lane is lost: no block lock, or no heartbeat for 2 µs (R520). -/
def laneLost (s : State) (p lane : Nat) (noLock : Bool) : State :=
  let s := wPortUpd s p fun x =>
    let x := laneUpd x lane fun l => { l with works := false, lock := l.lock && !noLock }
    { x with state := lanesState x }
  let s := if noLock then s else bump s cWlkHbMissed
  wlkEvent (bump s cWlkLaneLosses) evWlkLaneLost p lane (wPort s p).peer 0

/-- A lane loses its block lock while the port trains (R520): the stable lock begins anew on the other lane, or waits for a lock. -/
def trainUnlock (s : State) (p lane : Nat) : State :=
  wPortUpd s p fun x =>
    let x := laneUpd x lane fun l => { l with lock := false }
    if (laneOf x (1 - lane)).lock then { x with stable := some s.tmb.now } else { x with state := .down, stable := none, hello := false }

/-- WLK_LANE_LOSS (R520): `noLock`: the lane has been without block lock for 2 µs. -/
def execWlkLaneLoss (p lane : Nat) (noLock : Bool) (t : Nat) (s : State) : Res :=
  let l := laneOf (wPort s p) lane
  if p < 4 ∧ lane < 2 ∧ (wPort s p).state = .training ∧ noLock ∧ l.lock then ok (trainUnlock (advance s t) p lane)
  else if 4 ≤ p ∨ 2 ≤ lane ∨ !wPortUp s p ∨ !l.works ∨ (!noLock ∧ t < l.hb + 2000) then ok s
  else ok (laneLost (advance s t) p lane noLock)

/-- The pair port goes DOWN (R538, R543): with PAIR_ACT_IN high the standby records PAIR_LOST and is out of step; the module in control records it and
continues. -/
def pairPortDown (s : State) : State :=
  if s.par.state = .active then parEvent (parLost s) evPairLost 1 0 s.mram.token 0 0
  else if s.par.standby ∧ s.par.actIn then parUnsync (parEvent s evPairLost 1 0 s.mram.token 0 0) 1
  else s

/-- A port goes DOWN (R520). -/
def portDown (s : State) (p : Nat) : State :=
  let s := wPortUpd s p fun x => { x with
    state := .down
    lane0 := { x.lane0 with works := false }
    lane1 := { x.lane1 with works := false }
    stable := none
    hello := false }
  let s := wlkEvent (bump s cWlkLinkDowns) evWlkPortDown p 0 (wPort s p).peer 0
  if isPairPort s p then pairPortDown s else s

/-- WLK_PORT_DOWN (R520): no heartbeat on any lane for 6 µs. -/
def execWlkPortDown (p t : Nat) (s : State) : Res :=
  let x := wPort s p
  if 4 ≤ p ∨ !wPortUp s p ∨ t < x.lane0.hb + 6000 ∨ t < x.lane1.hb + 6000 then ok s
  else ok (portDown (bump (advance s t) cWlkHbMissed) p)

/-- The LINK_HELLO of this module (R523): version, module number, pairing state, serial. -/
def linkHello (s : State) : Bytes :=
  leBytes 2 0x0101 ++ leBytes 1 (moduleNo s) ++ leBytes 1 (parCode s) ++ leBytes 8 s.hdl.otp.serial

/-- Send a LINK_HELLO through a port that trains. -/
def sendHello (s : State) (p : Nat) : State :=
  let q := s.wlk.seq.get clsMGMT
  let s := { s with wlk := { s.wlk with seq := s.wlk.seq.set clsMGMT ((q + 1) % 2 ^ 32) } }
  send (wPortUpd (bump s cWlkTxMsg) p fun x => { x with tx := (x.tx + 1) % 2 ^ 32 })
    (.walig p (waligMsg clsMGMT 1 (moduleNo s) 0xFF 63 0 q (linkHello s)))

/-- A port with block lock trains: its count of stable lock and its LINK_HELLO exchange start (R520, R523). -/
def portTrain (s : State) (p : Nat) : State :=
  sendHello (wPortUpd s p fun x => { x with
    state := .training
    stable := some s.tmb.now
    hello := false
    retryAt := none }) p

/-- BLOCK_LOCK (R520, R523): a lane gains block lock. -/
def execBlockLock (p lane t : Nat) (s : State) : Res :=
  if 4 ≤ p ∨ 2 ≤ lane ∨ !wPortEn s p then ok s
  else
    let s := advance s t
    let s := wPortUpd s p fun x => laneUpd x lane fun l => { l with lock := true, hb := s.tmb.now }
    let x := wPort s p
    ok (if x.state = .down ∧ x.retryAt.isNone then portTrain s p else s)

/-- LINK_HELLO_RX (R523): a LINK_HELLO message `b` at a port with block lock. -/
def execLinkHelloRx (p : Nat) (b : Bytes) (t : Nat) (s : State) : Res :=
  let m := wParse b
  let x := wPort s p
  let bad := wMalformed b
  if 4 ≤ p ∨ !wPortEn s p ∨ !(x.lane0.lock || x.lane1.lock) ∨ (!bad ∧ (m.cls ≠ clsMGMT ∨ m.typ ≠ 1)) then ok s
  else
    let s := advance s t
    let s := wPortUpd (bump s cWlkRxMsg) p fun x => { x with rx := (x.rx + 1) % 2 ^ 32 }
    if bad then ok (wlkEvent (bump s cWlkRxMalformed) evWlkViolation p 0 m.src 0)
    else if !wCrcOk b then ok (bump s cWlkRxCrc)
    else
      let v := le m.payload 0 2
      let s := wPortUpd s p fun x => { x with peer := le m.payload 2 1 % 64, peerVer := v }
      if v / 256 ≠ 1 then
        let s := if wPortUp s p then portDown s p else s
        let s := wPortUpd s p fun x => { x with
          state := .down
          stable := none
          retryAt := some (s.tmb.now + 1000000000) }
        ok (wlkEvent (bump s cWlkRxVersion) evWlkVersion p 0 m.src v)
      else ok (wPortUpd s p fun x => { x with hello := true, ver := min v 0x0101 })

/-- WLK_VERSION_RETRY (R523): 1 s after a refused version the port trains again. -/
def execWlkVersionRetry (p : Nat) (s : State) : Res :=
  match (wPort s p).retryAt with
  | none => ok s
  | some t => if 4 ≤ p ∨ !wPortEn s p then ok s else ok (portTrain (advance s t) p)

/-- WLK_RETRAIN_DONE (R520): 10 ms of stable block lock and a LINK_HELLO exchange bring the port UP. -/
def execWlkRetrainDone (p t : Nat) (s : State) : Res :=
  let x := wPort s p
  match x.stable with
  | none => ok s
  | some t0 =>
    if 4 ≤ p ∨ x.state ≠ .training ∨ !x.hello ∨ t < t0 + 10000000 then ok s
    else
      let s := advance s t
      let s := wPortUpd s p fun x =>
        let x := { x with
          lane0 := { x.lane0 with works := x.lane0.lock, hb := s.tmb.now }
          lane1 := { x.lane1 with works := x.lane1.lock, hb := s.tmb.now } }
        { x with state := lanesState x }
      ok (wlkEvent s evWlkPortUp p 0 x.peer x.ver)

/-! ### Module numbers and the domain master (R526) -/

/-- Modules announced within the last 3 ms: number and what they announced. -/
def modsFresh (s : State) : List (Nat × ModInfo) :=
  s.wlk.mods.entries.filterMap fun e => match e.2 with
    | some i => if s.tmb.now < i.at' + 3000000 then some (e.1, i) else none
    | none => none

/-- The better claim of two: the lower MASTER_PRIO, then the lower number. -/
def claimLt (a b : Nat × Nat) : Bool := decide (a.1 < b.1) || (a.1 == b.1 && decide (a.2 < b.2))

/-- The module with the best claim (R526): priority 255 has none. -/
def masterBest (s : State) : Option Nat :=
  let l := ((fld s fWlkCtrlMasterPrio, moduleNo s) :: (modsFresh s).map fun e => (e.2.prio, e.1)).filter (·.1 != 255)
  (l.foldl (fun a e => match a with | some b => if claimLt e b then some e else a | none => some e) (none : Option (Nat × Nat))).map (·.2)

/-- The master follows the best claim (R526); as master this module's own Timeline is the domain's. -/
def masterChoose (s : State) : State :=
  let best := masterBest s
  let s := if best = s.wlk.master then s
    else
      let s := wlkEvent (bump s cWlkMasterChanges) evMasterChange 0 0 (best.getD 0) 0
      { s with wlk := { s.wlk with master := best, sync := none } }
  if best = some (moduleNo s) then
    let s := { s with tmb := { s.tmb with joined := !(modsFresh s).isEmpty, domOff := 0 } }
    if (s.tmb.sources.get 3).valid then sourceLost s 3 else s
  else s

/-- ANNOUNCE_TX (R526): every 1 ms: number, MASTER_PRIO, serial, pairing state. -/
def execAnnounceTx (t : Nat) (s : State) : Res :=
  if !wPorts.any (wPortEn s) then ok s
  else
    let s := advance s t
    ok (waligAll (masterChoose s) clsMGMT 2 0xFF false
      (leBytes 1 (moduleNo s) ++ leBytes 1 (fld s fWlkCtrlMasterPrio) ++ leBytes 8 s.hdl.otp.serial ++ leBytes 1 (parCode s)))

/-- A module of this module's number and another serial that is not the partner (R526): a conflict, once for each. -/
def numberConflict (s : State) (n serial : Nat) : State :=
  let known : Bool := match s.wlk.mods.get n with | some i => i.serial == serial | none => false
  if n ≠ moduleNo s ∨ serial = s.hdl.otp.serial ∨ (parEn s ∧ serial = s.par.partnerSerial) then s
  else
    let s := if known then s else wlkEvent (bump s cWlkModuleConflicts) evModuleConflict 0 0 n 0
    if serial < s.hdl.otp.serial then { s with wlk := { s.wlk with conflict := true } } else s

/-- An ANNOUNCE is taken (R526). -/
def announceTake (s : State) (m : WMsg) : State :=
  let n := le m.payload 0 1 % 64
  let serial := le m.payload 2 8
  let s := numberConflict s n serial
  let s := { s with wlk := { s.wlk with mods := s.wlk.mods.set n (some ⟨le m.payload 1 1, serial, le m.payload 10 1, s.tmb.now⟩) } }
  masterChoose s

/-- ANNOUNCE_RX (R526): the message `b` at port `p`. -/
def execAnnounceRx (p : Nat) (b : Bytes) (t : Nat) (s : State) : Res := ok (waligRx s p clsMGMT 2 b t announceTake)

/-- MASTER_ANNOUNCE_TIMEOUT (R526): 3 ms without an ANNOUNCE of the master. -/
def execMasterAnnounceTimeout (t : Nat) (s : State) : Res :=
  match s.wlk.master with
  | none => ok s
  | some m =>
    match s.wlk.mods.get m with
    | none => ok s
    | some i => if m = moduleNo s ∨ t < i.at' + 3000000 then ok s else ok (masterChoose (advance s t))

/-! ### Time across the domain (R67 to R69, R527) -/

/-- SYNC_REQ_TX (R527): every 100 µs the master sends SYNC_REQ; `t1`: its stamp in 2^-16 ns. -/
def execSyncReqTx (t1 t : Nat) (s : State) : Res :=
  if s.wlk.master ≠ some (moduleNo s) then ok s
  else ok (waligAll (advance s t) clsTIME 1 0xFF false (leBytes 10 t1 ++ zeros 10))

/-- SYNC_REQ_RX (R527): a member stamps the arrival `t2`, and the sending of its answer `t3`, in 2^-16 ns; an exchange not done is discarded. -/
def execSyncReqRx (p : Nat) (b : Bytes) (t2 t3 t : Nat) (s : State) : Res :=
  ok (waligRx s p clsTIME 1 b t fun s m =>
    if s.wlk.master ≠ some m.src ∨ m.src = moduleNo s then s
    else
      let t1 := le m.payload 0 10
      let s := { s with wlk := { s.wlk with sync := some ⟨t1, le m.payload 10 10, t2, t3⟩ } }
      waligAll s clsTIME 2 m.src false (leBytes 10 t1 ++ leBytes 10 t2 ++ leBytes 10 t3 ++ zeros 10))

/-- SYNC_RESP_RX (R527): the master stamps the arrival `t4` and returns t1, t4 and CORR to the member. -/
def execSyncRespRx (p : Nat) (b : Bytes) (t4 t : Nat) (s : State) : Res :=
  ok (waligRx s p clsTIME 2 b t fun s m =>
    if s.wlk.master ≠ some (moduleNo s) then s
    else waligAll s clsTIME 3 m.src false (slice m.payload 0 10 ++ leBytes 10 t4 ++ slice m.payload 30 10))

/-- The residual of an exchange in 2^-16 ns (R527), on the member's domain Timeline with DOMAIN_OFFSET `off`, and the round trip. -/
def syncResid (x : SyncX) (off : Int) (t4 corrResp : Nat) : Int × Int :=
  let d1 : Int := (x.t2 + off * 65536 - x.t1) - x.corr
  let d2 : Int := (t4 - (x.t3 + off * 65536)) - corrResp
  ((d1 - d2) / 2, d1 + d2)

/-- A member joins, or realigns beyond STEP_LIMIT (R67, R69): a new DOMAIN_OFFSET and an Epoch. -/
def domainJoin (s : State) (off : Int) (mt : MasterTime) : State :=
  let s := { s with tmb := { s.tmb with
    joined := true
    domOff := off
    state := .acquiring
    lockRun := 0 } }
  openEpoch s ⟨.domainJoin, some (mt.taiOff + off), some mt.taiValid, some mt.utcTai, some off⟩

/-- DOMAIN_LOCK after a residual (R68): set by 16 consecutive ones within 2 ns, cleared by one beyond. -/
def domainLock (s : State) (resid : Int) : State :=
  let near := decide (resid.natAbs ≤ 2 * 65536)
  let run := if near then s.tmb.domRun + 1 else 0
  let s := { s with tmb := { s.tmb with domRun := run } }
  if 16 ≤ run ∧ !s.tmb.domLock then tmbEvent { s with tmb := { s.tmb with domLock := true } } evDomainLock 0 3 0
  else if !near ∧ s.tmb.domLock then tmbEvent (bump { s with tmb := { s.tmb with domLock := false } } cTmbDomainUnlock) evDomainUnlock 0 3 0
  else s

/-- A residual steers a member whose source is the Walig Link (R67 to R69): the correction removes it within 10 ms. -/
def domainMeasure (s : State) (resid : Int) (mt : MasterTime) : State :=
  if s.tmb.now < (s.tmb.sources.get 3).rejectedUntil then s
  else
    let s := sourceSeen { s with tmb := { s.tmb with domResid := resid * 1000 / 65536 } } 3
    let s := if s.tmb.source = 0 then reselect s else s
    if s.tmb.source ≠ 3 then s
    else
      let e := (resid + 32768) / 65536
      let s := leaveHoldover s e
      if !s.tmb.joined then domainJoin s (-e) mt
      else
        let s := domainLock s resid
        let s := if mt.opened then
            openEpoch s ⟨.domainEpoch, some (mt.taiOff + s.tmb.domOff), some mt.taiValid, some mt.utcTai, none⟩
          else s
        if s.tmb.wait.isSome then s
        else if fld s fTmbStepLimitNs < e.natAbs then domainJoin s (s.tmb.domOff - e) mt
        else
          let (c, s) := shiftFree s (resid * 100000) 16
          steerBy s e c

/-- SYNC_DONE_RX (R527, R67 to R69): the exchange of the last SYNC_REQ ends; `mt`: the master's mapping. -/
def execSyncDoneRx (p : Nat) (b : Bytes) (mt : MasterTime) (t : Nat) (s : State) : Res :=
  ok (waligRx s p clsTIME 3 b t fun s m =>
    match s.wlk.sync with
    | none => s
    | some x =>
      if x.t1 ≠ le m.payload 0 10 ∨ s.wlk.master ≠ some m.src then s
      else
        let off : Int := if s.tmb.joined then s.tmb.domOff else 0
        let (resid, rtt) := syncResid x off (le m.payload 10 10) (le m.payload 20 10)
        let s := wPortUpd s p fun y => { y with rtt := (rtt / 65536).toNat % 65536 }
        domainMeasure { s with wlk := { s.wlk with sync := none } } resid mt)

/-- DOMAIN_TIME_LOSS (R56, R69): the master's TIME messages absent for 3 intervals. -/
def execDomainTimeLoss (t : Nat) (s : State) : Res :=
  if s.tmb.source ≠ 3 ∨ t < (s.tmb.sources.get 3).lastMeas + 300000 then ok s
  else
    let s := advance s t
    let s := { s with tmb := { s.tmb with
      domLock := false
      domRun := 0
      sources := s.tmb.sources.upd 3 fun x => { x with valid := false } } }
    let s := { s with wlk := { s.wlk with sync := none } }
    ok (setSource (tmbEvent (bump s cTmbDomainUnlock) evDomainUnlock 0 3 0) 0)

/-! ### Point replication (R528) -/

/-- A point of an element is due: written since it was last sent, and not within MIN_US of that. -/
def repDue (s : State) (e id : Nat) : Bool :=
  let r := s.pst.points.get id
  repCovers s e id && mapped s id && (match s.wlk.rep.get (e * 2 ^ 25 + id) with
    | some x => r.seq != x.seq && decide (x.at' + fld s (fWlkRepMinUs e) * 1000 ≤ s.tmb.now)
    | none => r.seq != 0)

/-- A point of an element is sent: the writes coalesced since the last sending count. -/
def repSent (s : State) (e id : Nat) : State :=
  let r := s.pst.points.get id
  let k := e * 2 ^ 25 + id
  let n := match s.wlk.rep.get k with | some x => (r.seq - x.seq).toNat - 1 | none => r.seq.toNat - 1
  let s := bump (bumpN s cWlkRepCoalesced n) cWlkRepSent
  { s with wlk := { s.wlk with rep := s.wlk.rep.set k (some ⟨s.tmb.now, r.seq⟩) } }

/-- REPLICATION_SEND (R528): points `ids` of element `e`, at most 56, leave in one POINT message. -/
def execReplicationSend (e : Nat) (ids : List Nat) (t : Nat) (s : State) : Res :=
  let s := advance s t
  let l := (ids.filter (repDue s e)).take 56
  if 256 ≤ e ∨ l.isEmpty ∨ s.par.mute ∨ s.pwr.stopped then ok s
  else
    let body := l.flatMap fun id => leBytes 4 (fld s (fWlkRepDestFirst e) + (id - fld s (fWlkRepFirst e))) ++ deliver 3 id (readPoint s id s.tmb.now) s.tmb.now
    ok (waligAll (l.foldl (fun s id => repSent s e id) s) clsPOINT 1 (fld s (fWlkRepDest e)) false body)

/-- A replicated record is written (R528): a refusal counts, and is recorded once for each source and point. -/
def repWrite (s : State) (src : Nat) (b : Bytes) : State :=
  let id := le b 0 4
  let w : PWrite := ⟨id, BitVec.ofNat 64 (le b 12 8), PType.ofCode (le b 30 1), some (le b 20 8), BitVec.ofNat 16 (le b 28 2), wWALIG, src, false⟩
  let (s, r) := writePoint s w
  if r.status = .ok then s
  else
    let s := bump s cWlkRepDenied
    let k := src * 2 ^ 25 + id
    if s.wlk.repDenied.contains k then s
    else wlkEvent { s with wlk := { s.wlk with repDenied := k :: s.wlk.repDenied } } evRepDenied 0 0 src 0

/-- The records of a POINT message (R522, R528). -/
def repTake (s : State) (src : Nat) (b : Bytes) : State := (chunks 36 (b.length / 36) b).foldl (fun s e => repWrite s src e) s

/-- POINT_RECORDS_RX (R528): the message `b` at port `p`. -/
def execPointRecordsRx (p : Nat) (b : Bytes) (t : Nat) (s : State) : Res := ok (pairRx s p clsPOINT 1 b t repTake)

/-! ### The commit (R552) -/

/-- The checks of a WLK commit: the ranges of COUNT and MIN_US. -/
def wlkCommitCheck (s : State) : Status :=
  if (List.range 256).any fun n => sfld s (fWlkRepEn n) == 1 &&
      (sfld s (fWlkRepCount n) == 0 || decide (65536 < sfld s (fWlkRepCount n))) || decide (sfld s (fWlkRepMinUs n) < 10) then .range
  else .ok

/-- A WLK commit takes effect: a port disabled goes DOWN, a new module number ends a conflict, elements forget the points that leave their range. -/
def wlkCommitApply (s : State) : State :=
  let a := s
  let off := wPorts.filter fun p => wPortEn s p && sfld s (fWlkPortEn p) == 0
  let moved := sfld s fWlkCtrlModule != moduleNo s
  let s := off.foldl (fun s p => if wPortUp s p then portDown s p else wPortUpd s p fun x => { x with state := .down, stable := none }) s
  let s := applyStaged s 15
  let s := { s with wlk := { s.wlk with
    conflict := s.wlk.conflict && !moved
    rep := ⟨s.wlk.rep.entries.filter fun e => repCovers s (e.1 / 2 ^ 25) (e.1 % 2 ^ 25)⟩ } }
  let s := repAnew s (s.pst.points.entries.map (·.1)) fun e id => !repCovers a e id
  off.foldl (fun s p => wPortUpd s p fun x => { x with lane0 := default, lane1 := default, retryAt := none }) s

end Sys2Proof.Machine
end

