-- ==== Sys2Proof/Machine/Pairing.lean ====
section
/-! DEFINITION. Pairing (18_pairing R525, R529 to R548, R551, R553): forming a pair, the mirror, giving up and taking control, planned switches, state
transfer, the latent-fault self-test. -/
namespace Sys2Proof.Machine
open Sys2Proof

/-! ### Roles (R530 to R533) -/

/-- GLB_STATUS.PAIRED or ACTIVE has changed between two states (R132, R530). -/
def parStatus (a b : State) : State :=
  if a.par.formed != b.par.formed || a.par.holds != b.par.holds then statusChanged b else b

/-- TOKEN_EPOCH of a module that takes control (R533): above the stored one, the last mirrored one and every one a HELLO reported. -/
def parToken (s : State) : State :=
  { s with
    mram := { s.mram with token := (max (max s.mram.token s.stn.helloMax) s.par.partnerToken + 1) % 2 ^ 32 }
    stn := { s.stn with tokenSet := true, raise := false } }

/-- A module takes control without a running partner's token (R531, R532). -/
def parControl (s : State) (st : PairState) : State :=
  let s := parToken s
  { s with par := { s.par with
    state := st
    actOut := true
    waitEnd := none } }

/-- The paired pins go to high impedance (R540). -/
def pinsRelease (s : State) : State :=
  { s with tmb := { s.tmb with tio := s.tmb.tio.mapV fun n p => if pairedPin s n then { p with level := none } else p } }

/-- A module becomes a standby out of step: it drives nothing any more (R531, R537). -/
def parStandby (s : State) : State :=
  let s := { s with par := { s.par with
    state := .standbyUnsync
    actOut := false
    follow := false
    waitEnd := none
    xfer := .none
    resync := none } }
  { s with tmb := { s.tmb with tio := (List.range 128).foldl (fun m p => m.upd p fun x => { x with level := none, trailing := none }) s.tmb.tio } }

/-- A module in control yields at once (R531, R543): PAIR_CONFLICT is recorded. -/
def parYield (s : State) : State :=
  let s := parStandby s
  let s := { s with par := { s.par with takeCause := 4 } }
  parEvent (bump s cParConflicts) evPairConflict 4 s.tmb.now s.mram.token 0 0

/-- FW_ECN of a Billet (R567). -/
def billetEcn (b : Bytes) : Nat := le b 24 2

/-- The bank that runs. -/
def runBank (s : State) : Bank := s.hdl.bank.get s.hdl.running

/-- FW_ECN of the running firmware (R531). -/
def fwEcn (s : State) : Nat := billetEcn (runBank s).billet

/-- BUILD_IDs of the running program and Interlock Engine images (R531). -/
def runningBuilds (s : State) : Bytes :=
  leBytes 8 (match (s.cyc.slots.get s.cyc.slot).image with | some m => m.build | none => 0) ++
  leBytes 8 (match s.ile.image with | some m => m.build | none => 0)

/-- PAIR_HELLO_TX (R531): every 1 ms with the pair port UP: PAIR_ID, pairing state, FW_ECN, TOKEN_EPOCH, serial, BUILD_IDs. -/
def execPairHelloTx (t : Nat) (s : State) : Res :=
  if !parEn s ∨ !wPortUp s (pairPort s) then ok s
  else
    let s := advance s t
    ok (waligSend s [pairPort s] clsMGMT 3 (moduleNo s) false
      (leBytes 1 (b2n s.pwr.pairId) ++ leBytes 1 (parCode s) ++ leBytes 2 (fwEcn s) ++ leBytes 4 s.mram.token ++ leBytes 8 s.hdl.otp.serial ++
        runningBuilds s))

/-- A pairing state holds control (R530). -/
def codeHolds (c : Nat) : Bool := c == 1 || c == 3

/-- The roles of a pair (R531): `was`: PAIR_FORMED has been recorded for this partner already. -/
def parRoles (s : State) (ps token : Nat) : State :=
  let mine := codeHolds (parCode s)
  let theirs := codeHolds ps
  let formed := s.par.formed && (ps == 3 || ps == 4 || ps == 5)
  let up (s : State) (st : PairState) : State := { s with par := { s.par with state := st, actOut := true, waitEnd := none } }
  let s :=
    if s.par.state = .gaveUp ∨ s.par.state = .disabled ∨ ps = 6 ∨ ps = 0 then s
    else if mine ∧ theirs then
      if token < s.mram.token ∨ (token = s.mram.token ∧ !s.pwr.pairId) then up s .active else parYield s
    else if mine then up s .active
    else if theirs then (if s.par.standby then s else parStandby s)
    else if s.pwr.pairId then (if s.par.standby then s else parStandby s)
    else parControl s .active
  if s.par.formed ∧ !formed then parEvent s evPairFormed 0 0 s.mram.token 0 0 else s

/-- A PAIR_HELLO is taken (R531): the pair is refused, or the roles are set. -/
def pairHello (s : State) (b : Bytes) : State :=
  let id := bit (le b 0 1) 0
  let ps := le b 1 1 % 8
  let token := le b 4 4
  let s0 := s
  let s := { s with par := { s.par with
    partnerEcn := le b 2 2
    partnerSerial := le b 8 8
    partnerToken := max s.par.partnerToken token } }
  if id = s.pwr.pairId ∨ le b 2 2 ≠ fwEcn s then
    if s.par.refusedNoted then s
    else parEvent { s with par := { s.par with refusedNoted := true } } evPairRefused 0 0 token 0 0
  else
    let s := { s with par := { s.par with refusedNoted := false } }
    parStatus s0 (partnerSays (parRoles s ps token) ps)

/-- PAIR_HELLO_RX (R531): the message `b` at the pair port. -/
def execPairHelloRx (b : Bytes) (t : Nat) (s : State) : Res :=
  if !parEn s then ok s else ok (waligRx s (pairPort s) clsMGMT 3 b t fun s m => pairHello s m.payload)

/-- PAIR_WAIT_END (R532): 200 ms after a restart without a partner the module takes control. -/
def execPairWaitEnd (s : State) : Res :=
  match s.par.waitEnd with
  | none => ok s
  | some t =>
    let a := s
    let s := advance s t
    ok (if s.par.state = .forming then parStatus a (parControl s .alone) else { s with par := { s.par with waitEnd := none } })

/-! ### The mirror, received (R534 to R537) -/

/-- A MIRROR message reaches a standby. -/
def mirrorRx (s : State) (typ : Nat) (b : Bytes) (t : Nat) (k : State → Bytes → State) : State :=
  if !parEn s then s else waligRx s (pairPort s) clsMIRROR typ b t fun s m => k (bump s cParMirrorReceived) m.payload

/-- A mirrored input acts on a standby in step (R534, R535): source kind, unit, record. -/
def mirrorTake (s : State) (b : Bytes) : State :=
  let kind := le b 0 1
  let unit := le b 2 2
  let r := b.drop 4
  if !s.par.inStep then s
  else match kind with
  | 0x02 => if unit < 128 then stampTake s unit (le r 0 8) (bit (le r 8 1) 0) else s
  | 0x08 => inputKeep s false 0x08 unit (le r 0 8) (r.drop 8)
  | 0x0D => canAccept s unit (le r 0 8) (r.drop 8) none
  | 0x43 => match unit with
    | 1 => trigArm s (le r 0 1) (r.drop 1)
    | 2 => trigFire s (le r 0 1) (r.drop 1)
    | _ => trigAck s (le r 0 1) (r.drop 1)
  | 0x44 => match unit with
    | 1 => boundaryRx s (le r 0 1) (r.drop 1)
    | 2 => launchAckRx s (le r 0 1) (r.drop 1)
    | _ => resumeRx s (le r 0 1) (r.drop 1)
  | 0x45 => repTake s (le r 0 1) (r.drop 1)
  | _ => inputMirrored s kind unit r

/-- MIRROR_INPUT_RX (R535). -/
def execMirrorInputRx (b : Bytes) (t : Nat) (s : State) : Res := ok (mirrorRx s 1 b t mirrorTake)

/-- MIRROR_COMMIT_ORDER_RX (R535): item, commit instant. -/
def execMirrorCommitOrderRx (b : Bytes) (t : Nat) (s : State) : Res :=
  ok (mirrorRx s 2 b t fun s r =>
    if s.par.inStep then { s with par := { s.par with order := s.par.order ++ [(le r 0 8, le r 8 8)] } } else s)

/-- A digest of the partner is compared (R536). -/
def digestTake (s : State) (r : Bytes) : State :=
  let d : Digest := ⟨le r 0 1, le r 2 2, le r 8 8, le r 16 8⟩
  if s.par.state ≠ .active ∧ s.par.state ≠ .standbyReady then s
  else
    let s := { s with par := { s.par with digestsIn := (d :: s.par.digestsIn).take 64 } }
    if digDiffers s.par.digests d then digMismatch s d else s

/-- MIRROR_DIGEST_RX (R536). -/
def execMirrorDigestRx (b : Bytes) (t : Nat) (s : State) : Res := ok (mirrorRx s 3 b t digestTake)

/-- STANDBY_LAG_EXCEEDED (R535): the standby runs `us` µs behind. -/
def execStandbyLagExceeded (us t : Nat) (s : State) : Res :=
  if !s.par.standby ∨ us ≤ 100 then ok s
  else
    let s := advance s t
    ok (if s.par.state = .standbyReady then parUnsync { s with par := { s.par with lag := min us 255 } } 2
      else { s with par := { s.par with lag := min us 255 } })

/-! ### Commands and transfers in fragments (R525) -/

/-- A fragment continues what is being received (R525): class SEQ, OFFSET within the command or region. -/
def fragNext (f : Option Frags) (seq : Nat) (r : Bytes) : Option Frags :=
  let id := le r 0 4
  let region := le r 4 1
  let content := slice r 16 (le r 6 2)
  let ofs := le r 8 8
  if bit (le r 5 1) 0 then (if ofs = 0 then some ⟨id, seq, region, content⟩ else none)
  else match f with
    | none => none
    | some g =>
      if g.id ≠ id ∨ seq ≠ (g.seq + 1) % 2 ^ 32 then none
      else if g.region = region then (if ofs = g.data.length then some ⟨id, seq, region, g.data ++ content⟩ else none)
      else if ofs = 0 then some ⟨id, seq, region, content⟩ else none

/-- A mirrored command that has arrived whole goes to the standby's commands (R525, R535): it comes from no ring. -/
def mirrorCommand (s : State) (id : Nat) (d : Bytes) : State :=
  let c := cmdOf s 0 (d.take 64)
  let c := { c with
    handle := s.hif.nextHandle
    sq := mirrorSq
    cq := 0
    tag := id
    data := d.drop 64 }
  { s with hif := { s.hif with cmds := s.hif.cmds ++ [c], nextHandle := s.hif.nextHandle + 1 } }

/-- MIRROR_COMMAND_RX (R525, R538): a fragment of a mirrored command. -/
def execMirrorCommandRx (b : Bytes) (t : Nat) (s : State) : Res :=
  ok (mirrorRx s 4 b t fun s r =>
    if !s.par.inStep then s
    else
      let f := fragNext s.par.cmdFrags (wParse b).seq r
      let s := { s with par := { s.par with cmdFrags := f } }
      match f with
      | none => s
      | some g => if bit (le r 5 1) 1 then mirrorCommand { s with par := { s.par with cmdFrags := none } } g.id g.data else s)

/-- MIRROR_ACK_RX (R539): the standby has applied command `ID`. -/
def execMirrorAckRx (b : Bytes) (t : Nat) (s : State) : Res :=
  ok (mirrorRx s 5 b t fun s r =>
    match s.par.acks.find? (·.id == le r 0 4) with
    | none => s
    | some a =>
      let s := { s with par := { s.par with acks := s.par.acks.erase a } }
      cmdUpd s a.cmd fun c => { c with acked := true })

/-- MIRROR_ACK_TIMEOUT (R538, R539): no ACK 1 ms after the last fragment. -/
def execMirrorAckTimeout (s : State) : Res :=
  match s.par.acks with
  | [] => ok s
  | a :: rest =>
    let s := advance s a.due
    let s := { s with par := { s.par with acks := rest } }
    let s := cmdUpd s a.cmd fun c => { c with acked := true }
    let s := parEvent (bump s cParCmdAckTimeout) evPairUnsync 5 0 s.mram.token 0 0
    ok (parLost s)

/-- What a region of a transfer says takes the place of the standby's own (R544, R546). -/
def xferApply (s : State) (x : XferRegion) : State :=
  match x with
  | .pointStore p => { s with pst := { s.pst with points := p.canon.mapV fun _ r => goodRec r } }
  | .forces l => { s with pst := { s.pst with forces := l } }
  | .programs c m => { s with
      cyc := { c with slots := c.slots.canon, classes := c.classes.canon }
      pst := { s.pst with map := m } }
  | .interlock i => { s with ile := { i with
      markers := i.markers.canon
      timers := i.timers.canon
      edges := i.edges.canon
      alarms := i.alarms.canon
      compares := i.compares.canon
      outs := i.outs.canon
      fbOuts := i.fbOuts.canon } }
  | .recipes q => { s with seq := { q with exec := q.exec.canon } }
  | .loops a => { s with anv := { a with core := a.core.canon, loop := a.loop.canon } }
  | .axes m => { s with mot := { m with ax := m.ax.canon } }
  | .config n f v c p => { s with
      stn := { s.stn with st := n.st.canon, build := n.build }
      fbk := { f with ch := f.ch.canon }
      cnv := { s.cnv with group := (List.range 16).foldl (fun m g => m.upd g fun x => { x with cfg := v.get g }) s.cnv.group }
      can := { s.can with ctl := (List.range 8).foldl (fun m k => m.upd k fun x => { x with
        desc := (c.ctl.get k).desc
        filters := (c.ctl.get k).filters }) s.can.ctl }
      cap := { s.cap with ch := (List.range 16).foldl (fun m k => m.upd k fun x => { x with
        desc := (p.ch.get k).desc
        mask := (p.ch.get k).mask }) s.cap.ch } }
  | .pins q l => { s with qch := ⟨q.pin.canon⟩, par := { s.par with pins := l } }

/-- A transfer fails (R545, R546). -/
def xferFail (s : State) (st : Status) : State :=
  let s := match s.par.xferCmd with | some h => endCmd s h st 0 (cmdDone s h) | none => s
  let s := { s with par := { s.par with
    xfer := .failed
    xferStatus := st
    xferCmd := none
    xferFrags := none
    follow := false
    resync := if s.par.state = .active then some s.tmb.now else s.par.resync } }
  parEvent (bump s cParTransferFails) evXferFailed st.code 0 s.mram.token 0 0

/-- MIRROR_XFER_RX (R525, R546): a fragment of a transfer; with its last one the standby takes what the regions say, `snapshot` being the state as
of C. -/
def execMirrorXferRx (b : Bytes) (regions : List XferRegion) (snapshot : Bool) (t : Nat) (s : State) : Res :=
  ok (mirrorRx s 7 b t fun s r =>
    if s.par.state ≠ .standbyUnsync then s
    else
      let f := fragNext s.par.xferFrags (wParse b).seq r
      let bad := le r 4 1 == 0 || decide (9 < le r 4 1)
      match f with
      | none => xferFail s .checksum
      | some g =>
        if bad then xferFail s .checksum
        else
          let s := { s with par := { s.par with
            xfer := .copying
            xferFrags := some g
            regions := s.par.regions.set g.region g.data } }
          if !bit (le r 5 1) 1 then s
          else
            let s := regions.foldl xferApply { s with par := { s.par with xferFrags := none, regions := SMap.empty } }
            if snapshot then { s with par := { s.par with
              xfer := .catchup
              xferAt := s.tmb.now
              order := []
              inputs := SMap.empty
              acc := SMap.empty } }
            else s)

/-- MIRROR_PIN_STATE_RX (R541): levels of the paired pins and QCH latches. -/
def execMirrorPinStateRx (b : Bytes) (t : Nat) (s : State) : Res :=
  ok (mirrorRx s 8 b t fun s r => if s.par.standby then { s with par := { s.par with pins := r } } else s)

/-! ### Giving up and taking over (R540 to R543) -/

/-- The paired pins are driven at the levels last mirrored, and the QCH latches are set as mirrored (R541). -/
def pinsTake (s : State) : State :=
  let driven := le s.par.pins 0 16
  let level := le s.par.pins 16 16
  let latch := le s.par.pins 32 2
  let s := { s with tmb := { s.tmb with tio := (List.range 128).foldl (fun m p =>
    if pairedPin s p && bit driven p then m.upd p fun x => { x with level := some (bit level p) } else m) s.tmb.tio } }
  (qchPins latch).foldl (fun s n => qchChange s n 0 (qchUpd n fun p => { p with latch := true })) s

/-- A STANDBY_READY module takes control now (R533, R541, R542): `from'`: S where it is known. -/
def parTakeover (s : State) (from' cause : Nat) : State :=
  let a := s
  let s := parToken s
  let s := { s with par := { s.par with
    state := .active
    actOut := true
    lag := 0
    order := []
    takeAt := s.tmb.now
    takeCause := cause
    skipped := 0
    skip := some (from', s.tmb.now + 12000)
    follow := cause == 3
    partnerState := if cause = 3 then PairState.standbyReady.code else PairState.gaveUp.code } }
  let s := pinsTake s
  let s := parEvent (bump s cParTakeovers) evPairTookOver cause s.tmb.now s.mram.token 0 0
  let s := if cause = 3 then parEvent (bump s cParSwitches) evPairSwitched cause s.tmb.now s.mram.token 0 0 else s
  parStatus a s

/-- MIRROR_GIVE_UP_RX (R541, R543): S and TOKEN_EPOCH; `planned`: the partner's heartbeats tell a planned switch. -/
def execMirrorGiveUpRx (b : Bytes) (planned : Bool) (t : Nat) (s : State) : Res :=
  ok (mirrorRx s 6 b t fun s r =>
    let s := { s with par := { s.par with partnerToken := max s.par.partnerToken (le r 8 4) } }
    if s.par.state = .standbyReady then parTakeover s (le r 0 8) (if planned then 3 else 1) else s)

/-- PAIR_ACT_IN_LOW (R541): PAIR_ACT_IN has been low for 200 ns at `t`. -/
def execPairActInLow (planned : Bool) (t : Nat) (s : State) : Res :=
  let s := advance s t
  let s := { s with par := { s.par with actIn := false } }
  if s.par.state = .standbyReady then ok (parTakeover s 0 (if planned then 3 else 2)) else ok s

/-- PAIR_ACT_IN_RISE (R540, R543): the partner has taken control: a module that gave up releases its paired pins, a planned switch is complete, a module
that still holds control yields. -/
def execPairActInRise (t : Nat) (s : State) : Res :=
  let s := advance s t
  let s := { s with par := { s.par with actIn := true } }
  match s.par.state with
  | .gaveUp => ok (pinsRelease s)
  | .standbyReady =>
    let s := pinsRelease s
    match s.par.switch with
    | some (_, h) => ok (endCmd { s with par := { s.par with switch := none } } h .ok 0 0)
    | none => ok s
  | .alone => ok (parStatus s (parYield s))
  | .active => ok (parStatus s (parYield s))
  | _ => ok s

/-- PAIR_SWITCH (R543): only on the module in control, with a READY partner and INSTANT at least 1 ms ahead. -/
def execPairSwitch (h : Nat) (s : State) : Res :=
  ok (startCmd s h 0x68 (some []) fun s c =>
    if s.par.state ≠ .active ∨ s.par.partnerState ≠ PairState.standbyReady.code ∨ c.instant < s.tmb.now + 1000000 ∨ s.par.switch.isSome then
      endCmd s h .state 0 0
    else { s with par := { s.par with switch := some (c.instant, h) } })

/-- PAIR_SWITCH_INSTANT (R543): at S = I the module gives up control and follows the new one; without a READY partner the switch fails. -/
def execPairSwitchInstant (s : State) : Res :=
  match s.par.switch with
  | none => ok s
  | some (i, h) =>
    let a := s
    let s := advance s i
    if s.par.state ≠ .active ∨ s.par.partnerState ≠ PairState.standbyReady.code then
      ok (endCmd { s with par := { s.par with switch := none } } h .state 0 0)
    else
      let s := mirrorSend s 6 (leBytes 8 i ++ leBytes 4 s.mram.token)
      let s := parEvent (bump s cParSwitches) evPairSwitched 3 i s.mram.token 0 0
      ok (parStatus a { s with par := { s.par with
        state := .standbyReady
        actOut := false
        follow := false
        partnerToken := max s.par.partnerToken s.mram.token
        gaveAt := some i } })

/-! ### State transfer (R544 to R546) -/

/-- A transfer to the standby starts (R545). -/
def xferStart (s : State) (cmd : Option Nat) : State :=
  bump { s with par := { s.par with
    xfer := .copying
    passes := 0
    dirty := 0
    xferStatus := .inProgress
    xferCmd := cmd
    xferAt := s.tmb.now
    cutFrom := none
    resync := none } } cParTransfers

/-- AUTO_RESYNC_START (R538): within 10 ms of the standby's falling out of step. -/
def execAutoResyncStart (t : Nat) (s : State) : Res :=
  let s := advance s t
  if s.par.state ≠ .active ∨ s.par.resync.isNone ∨ !flag s fParCtrlAutoResync ∨ !wPortUp s (pairPort s) ∨
      s.par.partnerState ≠ PairState.standbyUnsync.code ∨ s.par.xfer = .copying ∨ s.par.xfer = .cut ∨ s.par.xfer = .catchup then ok s
  else ok (xferStart s none)

/-- Fragments of a transfer (R525): content of one region in messages of at most 2,032 bytes. -/
def xferFrags (s : State) (id region : Nat) (content : Bytes) (first last : Bool) : State :=
  let n := (content.length + 2031) / 2032
  (List.range n).foldl (fun s i =>
    let c := slice content (2032 * i) 2032
    let fl := b2n (first && i == 0) + 2 * b2n (last && i + 1 == n)
    mirrorSend s 7 (leBytes 4 id ++ leBytes 1 region ++ leBytes 1 fl ++ leBytes 2 c.length ++ leBytes 8 (2032 * i) ++ c)) s

/-- No item of any class is pending (R190, R545). -/
def noItems (s : State) : Bool := s.hrt.ready.isEmpty && s.hrt.commits.isEmpty && s.hrt.cores.entries.all (fun e => e.2.run.isNone)

/-- The cut at instant C (R545): the snapshot leaves, mirroring begins, the standby catches up. The regions in the firmware's own layout are free. -/
def xferCut (s : State) (c : Nat) : State :=
  let s := advance s c
  let id := s.par.nextId
  let tiles := ((s.pst.points.entries.map fun e => tileOf e.1).eraseDups).flatMap (tileBytes s)
  let s := { s with par := { s.par with nextId := (id + 1) % 2 ^ 32 } }
  let s := xferFrags s id 1 (if tiles.isEmpty then zeros 512 else tiles) true false
  let s := (List.range 8).foldl (fun s k =>
    let (f, s) := drawFree s
    xferFrags s id (k + 2) (leBytes 8 f.toNat) false (k == 7)) s
  let s := match s.par.xferCmd with
    | some h => cmdUpd s h fun x => { x with done := (if tiles.isEmpty then 512 else tiles.length) + 64 }
    | none => s
  { s with par := { s.par with
    xfer := .catchup
    cutFrom := some c
    xferAt := c
    follow := true
    acc := SMap.empty } }

/-- XFER_PASS_END (R545): a pass ends with `left` bytes to copy; `cut`: a cycle instant of the pace class at which nothing is pending. -/
def execXferPassEnd (left : Nat) (cut : Option Nat) (t : Nat) (s : State) : Res :=
  if s.par.state ≠ .active ∨ s.par.xfer ≠ .copying then ok s
  else
    let s := advance s t
    let s := { s with par := { s.par with passes := s.par.passes + 1, dirty := (left + 1023) / 1024 } }
    if left ≤ 16777216 then
      let s := { s with par := { s.par with xfer := .cut, xferAt := s.tmb.now } }
      match cut with
      | some c => if noItems s then ok (xferCut s c) else ok s
      | none => ok s
    else if 32 ≤ s.par.passes then ok (xferFail s .timeout)
    else ok s

/-- XFER_CUT_TIMEOUT (R545): a cut is found, or 10 s pass without one. -/
def execXferCutTimeout (cut : Option Nat) (t : Nat) (s : State) : Res :=
  if s.par.state ≠ .active ∨ s.par.xfer ≠ .cut then ok s
  else match cut with
    | some c => if c ≤ s.par.xferAt + 10000000000 ∧ noItems s then ok (xferCut s c) else ok s
    | none => if t < s.par.xferAt + 10000000000 then ok s else ok (xferFail (advance s t) .timeout)

/-- XFER_CATCHUP_DONE (R546): the standby's lag has reached 5 µs: it is STANDBY_READY; both modules record it. -/
def execXferCatchupDone (t : Nat) (s : State) : Res :=
  if s.par.xfer ≠ .catchup then ok s
  else
    let s := advance s t
    let done (s : State) : State := parEvent (parEvent s evXferDone 0 0 s.mram.token 0 0) evPairReady 0 0 s.mram.token 0 0
    if s.par.state = .standbyUnsync then
      ok (done { s with par := { s.par with state := .standbyReady, xfer := .done, xferStatus := .ok, lag := 5 } })
    else if s.par.state = .active then
      let s := match s.par.xferCmd with
        | some h =>
          let n := cmdDone s h
          endCmd s h .ok n n
        | none => s
      ok (done { s with par := { s.par with
        partnerState := PairState.standbyReady.code
        xfer := .done
        xferStatus := .ok
        xferCmd := none } })
    else ok s

/-- CATCHUP_TIMEOUT (R546): catch-up beyond CATCHUP_MS. -/
def execCatchupTimeout (t : Nat) (s : State) : Res :=
  if s.par.xfer ≠ .catchup ∨ t < s.par.xferAt + fld s fParCtrlCatchupMs * 1000000 then ok s
  else ok (xferFail (advance s t) .timeout)

/-! ### The latent-fault self-test (R548) -/

/-- SELFTEST_PASS (R548): a pass completes with `fails` failed checks. -/
def execSelftestPass (fails t : Nat) (s : State) : Res :=
  let s := advance s t
  let s := bump { s with par := { s.par with
    selfProgress := 100
    selfFails := min (s.par.selfFails + fails) 255
    overdue := false
    selfAt := s.tmb.now } } cParSelftestPasses
  if fails = 0 then ok s
  else
    let s := parEvent (bumpN s cParSelftestFails fails) evSelftestFailed 0 0 s.mram.token 0 0
    ok (pairGiveUp (assertFault s .selftest) 8)

/-- SELFTEST_OVERDUE (R548): 24 h without a complete pass. -/
def execSelftestOverdue (t : Nat) (s : State) : Res :=
  if s.par.overdue ∨ t < s.par.selfAt + 86400000000000 then ok s
  else
    let s := advance s t
    ok (parEvent { s with par := { s.par with overdue := true } } evSelftestOverdue 0 0 s.mram.token 0 0)

/-! ### The commit (R553) -/

/-- The checks of a PAR commit: EN or PORT changed in a formed pair, SELFTEST_H and CATCHUP_MS. -/
def parCommitCheck (s : State) : Status :=
  if sfld s fParCtrlSelftestH = 0 ∨ 24 < sfld s fParCtrlSelftestH ∨ sfld s fParCtrlCatchupMs < 10 ∨ 10000 < sfld s fParCtrlCatchupMs then .range
  else if s.par.formed ∧ (sfld s fParCtrlEn ≠ fld s fParCtrlEn ∨ sfld s fParCtrlPort ≠ fld s fParCtrlPort) then .state
  else .ok

/-- A PAR commit takes effect: EN makes a module alone ALONE, and takes it back (R530). -/
def parCommitApply (s : State) : State :=
  let a := s
  let s := applyStaged s 16
  let s := match s.par.state, parEn s with
    | .disabled, true => { s with par := { s.par with state := .alone, actOut := true } }
    | .alone, false => { s with par := { s.par with state := .disabled, actOut := false } }
    | .forming, false => { s with par := { s.par with state := .disabled, waitEnd := none } }
    | _, _ => s
  parStatus a s

end Sys2Proof.Machine
end

