-- ==== Sys2Proof/Machine/Hendel.lean ====
section
/-! DEFINITION. Hendel's commands (19_hendel R554 to R585): sensors and their limits, PMBus, the boot bank, Billets, probation, attestation, recovery
mailbox, return to vendor. -/
namespace Sys2Proof.Machine
open Sys2Proof

/-- An event of Hendel (R584): bank, group, sensor, reason, cause of a restart, leaf index. -/
def hdlEvent (s : State) (k : EvKind) (bank group sensor reason cause leaf : Nat) : State :=
  event s k [(2, bank), (2, group), (2, sensor), (1, reason), (1, cause), (4, leaf)]

/-- A change of bank state, probation or recovery raises vector 254 (R584). -/
def hdlChanged (s : State) : State := glbInt s fGlbIntHendel 254

/-- A byte string cut or filled with zeros to a length. -/
def fit (n : Nat) (b : Bytes) : Bytes := (b ++ zeros n).take n

/-- Change a sensor. -/
def sensorUpd (s : State) (n : Nat) (f : Sensor → Sensor) : State := { s with hdl := { s.hdl with sensor := s.hdl.sensor.upd n f } }

/-! ### Sensors (R562, R563) -/

/-- KIND of a sensor (R562, R565). -/
def sensorKind (n : Nat) : Nat := if n < 24 then 0 else if n < 42 then 1 else if n < 56 then 2 else 3

/-- A reading in °C, V, A or ppm (R562, R585). -/
def sensorValue (n : Nat) (v : Int) : Rat :=
  if n < 24 then (v : Rat) / 8
  else if n < 42 then (v : Rat) / 1000
  else if n < 56 then (v : Rat)
  else match (n - 56) % 4 with
    | 0 => (v : Rat) / 1000
    | 1 => (v : Rat) / 1000
    | 2 => (v : Rat) / 8
    | _ => (v : Rat)

/-- The sensor's point is written at a new reading, at most every 10 ms (R562). -/
def sensorPoint (s : State) (n : Nat) (q : BitVec 16) : State :=
  let id := fld s (fHdlSensorPoint n)
  let x := s.hdl.sensor.get n
  let soon : Bool := match x.pointAt with | some t => decide (s.tmb.now < t + 10000000) | none => false
  if id = 0 ∨ soon then s
  else
    let v := BitVec.ofNat 64 (real32Code (sensorValue n x.value))
    let s := (writePoint s ⟨id, v, some .real32, some s.tmb.now, q, wHDL, n, false⟩).1
    sensorUpd s n fun x => { x with pointAt := some s.tmb.now }

/-- A reading beyond WARN_LO or WARN_HI sets the warning; 3 units inside both it falls (R563). -/
def sensorWarn (s : State) (n : Nat) : State :=
  let x := s.hdl.sensor.get n
  let lo := signed 16 (fld s (fHdlSensorWarnLo n))
  let hi := signed 16 (fld s (fHdlSensorWarnHi n))
  if x.value < lo ∨ hi < x.value then
    if x.warn then s
    else hdlEvent (bump (sensorUpd s n fun x => { x with warn := true }) cHdlSensorWarnings) evSensorWarn 0 0 n 0 0 0
  else if lo + 3 ≤ x.value ∧ x.value ≤ hi - 3 then sensorUpd s n fun x => { x with warn := false }
  else s

/-- A new reading of a sensor (R562). -/
def sensorRead (s : State) (n : Nat) (v : Int) : State :=
  let s := sensorUpd s n fun x => { x with
    value := v
    valid := true
    bad := false
    stamp := s.tmb.now }
  let s := if n = 16 then { s with pwr := { s.pwr with dieTemp := v * 125 } } else s
  sensorPoint (sensorWarn s n) n qVALID

/-- SENSOR_READING (R562): Hendel reads sensor `n`, 0 to 55, at `t`; `v` is in the units of HDL_SENSOR. -/
def execSensorReading (n : Nat) (v : Int) (t : Nat) (s : State) : Res :=
  if 56 ≤ n then ok s else ok (sensorRead (advance s t) n v)

/-- The fault action (R547, R563): a module in control gives up control, and every launch of a module stops until a restart; a standby falls out
of step. -/
def faultAction (s : State) (cause : Nat) : State :=
  let a := s
  let s := if s.par.state = .alone then
      let s := parEvent (bump s cParGiveUps) evPairGaveUp cause s.tmb.now s.mram.token 0 0
      parStatus a { s with par := { s.par with state := .gaveUp, actOut := false, gaveAt := some s.tmb.now } }
    else pairGiveUp s cause
  { s with pwr := { s.pwr with stopped := true } }

/-- SUPPLY_FAULT (R563): supply sensor `n` outside its limits for 10 µs. -/
def execSupplyFault (n t : Nat) (s : State) : Res :=
  if n < 24 ∨ 42 ≤ n then ok s
  else
    let s := advance s t
    let s := sensorUpd { s with pwr := { s.pwr with supplyBad := true } } n fun x => { x with fault := true }
    ok (faultAction (hdlEvent (assertFault s .supply) evSupplyFault 0 0 n 0 0 0) 10)

/-- CLOCK_FAULT (R563): clock domain `d` of R600 absent or off by more than 1,000 ppm for 5 µs; the ADC clock is ADCCLK_LOSS; without the AON clock the
warm-restart count is not valid. -/
def execClockFault (d t : Nat) (s : State) : Res :=
  if 14 ≤ d ∨ d = 7 then ok s
  else
    let s := sensorUpd (advance s t) (42 + d) fun x => { x with fault := true }
    if d = 13 then
      ok (hdlEvent (assertFault { s with pwr := { s.pwr with aonBad := true } } .aonClock) evClockFault 0 0 (42 + d) 0 0 0)
    else
      let s := { s with pwr := { s.pwr with clockBad := true } }
      ok (faultAction (hdlEvent (assertFault s .clock) evClockFault 0 0 (42 + d) 0 0 0) 11)

/-- TEMP_CRIT (R563): a junction above 110 °C for 10 ms at sensor `n`. -/
def execTempCrit (n t : Nat) (s : State) : Res :=
  if 24 ≤ n then ok s
  else
    let s := sensorUpd { (advance s t) with pwr := { s.pwr with hot := true } } n fun x => { x with fault := true }
    ok (faultAction (hdlEvent (assertFault s .tempCrit) evTempCrit 0 0 n 0 0 0) 12)

/-- FAULT_AUTO_RESTART (R563): with AUTO_RESTART, a fault condition absent for 100 ms: a warm restart is due; the manual gives it no cause code. -/
def execFaultAutoRestart (t : Nat) (s : State) : Res :=
  if !flag s fHdlCtrlAutoRestart ∨ !(s.pwr.supplyBad || s.pwr.clockBad || s.pwr.hot) then ok s
  else
    let (f, s) := drawFree (advance s t)
    ok { s with pwr := { s.pwr with due := some (f.toNat % 8) } }

/-! ### PMBus (R564) -/

/-- Sensors of a PMBus device. -/
def pmSensor (d k : Nat) : Nat := 56 + 4 * d + k

/-- A NAK or a PEC failure of device `d` (R564): the third in a row makes its sensors BAD. -/
def pmFail (s : State) (d : Nat) : State :=
  let n := s.hdl.pmFails.get d + 1
  let s := bump { s with hdl := { s.hdl with pmFails := s.hdl.pmFails.set d n } } cHdlPmbusErrors
  if n ≠ 3 then s
  else
    let s := (List.range 4).foldl (fun s k =>
      let s := sensorUpd s (pmSensor d k) fun x => { x with bad := true, valid := false, stamp := s.tmb.now, pointAt := none }
      sensorPoint s (pmSensor d k) qBAD) s
    hdlEvent s evPmbusFault 0 0 (pmSensor d 0) 0 0 0

/-- PMBUS_POLL (R564): device `d` answers VOUT (mV), IOUT (mA), temperature (1/8 °C) and STATUS_WORD, or not (NAK or PEC failure). -/
def execPmbusPoll (d : Nat) (r : Option (Int × Int × Int × Nat)) (t : Nat) (s : State) : Res :=
  if 16 ≤ d ∨ !flag s (fHdlPmbusEn d) then ok s
  else
    let s := sendAll (advance s t) ([0x20, 0x8B, 0x8C, 0x8D, 0x79].map fun c => .pmbus d c)
    match r with
    | some (v, i, c, w) =>
      let s := { s with hdl := { s.hdl with pmFails := s.hdl.pmFails.set d 0 } }
      ok (sensorRead (sensorRead (sensorRead (sensorRead s (pmSensor d 0) v) (pmSensor d 1) i) (pmSensor d 2) c) (pmSensor d 3) w)
    | none => ok (pmFail s d)

/-- PMBUS_ALERT (R564): Hendel reads the STATUS_WORD of every device; `words` gives each device's answer, none for a NAK or a PEC failure. -/
def execPmbusAlert (words : List (Option Nat)) (t : Nat) (s : State) : Res :=
  let s := hdlEvent (advance s t) evPmbusAlert 0 0 0 0 0 0
  ok ((List.range 16).foldl (fun s d =>
    if flag s (fHdlPmbusEn d) then
      let s := send s (.pmbus d 0x79)
      match words.getD d none with
      | some w => sensorRead { s with hdl := { s.hdl with pmFails := s.hdl.pmFails.set d 0 } } (pmSensor d 3) w
      | none => pmFail s d
    else s) s)

/-- HDL_WATCHDOG (R554): Hendel alone restarts; control continues. -/
def execHdlWatchdog (t : Nat) (s : State) : Res := ok (hdlEvent (bump (advance s t) cHdlHendelWatchdogs) evHdlWatchdog 0 0 0 0 0 0)

/-- CONTROL_HEARTBEAT_MISSING (R561): the control firmware silent for 100 ms: with WD_RESTART a warm restart of cause 5 is due. -/
def execControlHeartbeatMissing (t : Nat) (s : State) : Res :=
  if flag s fHdlCtrlWdRestart ∧ s.pwr.up then ok { (advance s t) with pwr := { s.pwr with due := some 5 } } else ok s

/-- A write of HDL_CTRL.RESTART (R561, R585): a warm restart of cause 4 is due. -/
def hdlRestart (s : State) : State := { s with pwr := { s.pwr with due := some 4 } }

/-- HDL_RESTART (R561). -/
def execHdlRestart (s : State) : Res := if s.pwr.up then regCmd s 0x12 hdlRestart else ok s

/-- COARSE_MARK_WRITE (R40): every 60 s, to the next slot of 16,384. -/
def execCoarseMarkWrite (t : Nat) (s : State) : Res :=
  let s := advance s t
  let q := match s.hdl.coarse.head? with | some m => (m.seq + 1) % 2 ^ 32 | none => 0
  let m : CoarseMark := ⟨⟨s.tmb.now, curEpoch s, s.tmb.freqEst⟩, q⟩
  ok { s with hdl := { s.hdl with coarse := (m :: s.hdl.coarse).take 16384 } }

/-- A PERSIST item takes force in the boot bank (R557). -/
def bootTake (b : BootBank) (x : BootItem) : BootBank :=
  match x with
  | .program i m => { b with program := some (i, m) }
  | .interlock i => { b with interlock := some i }
  | .loop n d => { b with loops := b.loops.set n d }

/-- BOOT_BANK_WRITE_DONE (R557): the oldest item is written and verified, or does not fit. -/
def execBootBankWriteDone (fits : Bool) (t : Nat) (s : State) : Res :=
  match s.hdl.writes with
  | [] => ok s
  | x :: rest =>
    let s := advance s t
    let s := { s with hdl := { s.hdl with writes := rest } }
    if fits then ok { s with hdl := { s.hdl with boot := bootTake s.hdl.boot x } } else ok (hdlEvent s evBootBankFull 0 0 0 0 0 0)

/-! ### Billets (R567 to R574) -/

/-- A component entry (R568). -/
def bComp (b : Bytes) (i : Nat) : Bytes := slice b (64 + 64 * i) 64
/-- FW_VERSION of a Billet. -/
def billetVersion (b : Bytes) : Nat := le b 20 4
/-- SETTINGS_FORMAT of a Billet. -/
def billetFormat (b : Bytes) : Nat := le b 26 2
/-- The component of a group, 0 to 4. -/
def compOf (b : Bytes) (g : Nat) : Bytes := (((List.range 5).map (bComp b)).find? fun c => le c 0 1 == g).getD []

/-- Reserved fields of a manifest with their offsets (R567, R568); a later minor version may use them. -/
def billetReserved (b : Bytes) : List (Bool × Nat) :=
  if !resChecked (le b 4 2) then []
  else [(decide (le b 36 1 / 16 ≠ 0), 36), (!allZero (slice b 37 27), 37)] ++
    (List.range 5).flatMap fun i => [(le (bComp b i) 2 2 != 0, 66 + 64 * i), (!allZero (slice (bComp b i) 12 20), 76 + 64 * i)]

/-- Offsets and sizes of the components, and the size stated (R567, R568). -/
def billetBounds (b : Bytes) : List (Bool × Nat) :=
  (decide (b.length < 4096 ∨ le b 16 4 ≠ b.length), 16) :: (List.range 5).map fun i =>
    let c := bComp b i
    (decide (le c 4 4 % 4096 ≠ 0 ∨ le c 4 4 < 4096 ∨ b.length < le c 4 4 + le c 8 4), 68 + 64 * i)

/-- The checks of R570 on a whole Billet, in order: status and failing offset. -/
def billetCheck (s : State) (b : Bytes) : Option (Status × Nat) :=
  let groups := (List.range 5).map fun i => le (bComp b i) 0 1
  let key := le b 31 1
  let bad := [(slice b 0 4 != magic 'P' 'S' 'B' 'M', 0)] ++ billetReserved b ++ [(le b 6 2 != 5, 6),
    ((List.range 5).any (fun g => !groups.contains g), 64)] ++ billetBounds b
  match bad.find? (·.1) with
  | some e => some (.badField, e.2)
  | none =>
    if le b 4 2 / 256 ≠ 1 then some (.version, 4)
    else if le b 28 2 ≠ 0x9640 then some (.badField, 28)
    else if 0x11 < le b 30 1 then some (.badField, 30)
    else if 3 < key ∨ bit s.hdl.otp.revoked key then some (.denied, 31)
    else if !Config.signatureOk key (slice b 0 384) (slice b 384 2820) then some (.denied, 384)
    else match (List.range 5).find? fun i => let c := bComp b i; shake256 (slice b (le c 4 4) (le c 8 4)) != slice c 32 32 with
      | some i => some (.checksum, 96 + 64 * i)
      | none => match (List.range 5).find? fun i => decide (le (bComp b i) 1 1 < s.hdl.otp.levels.get (le (bComp b i) 0 1)) with
        | some i => some (.denied, 65 + 64 * i)
        | none => none

/-- Change a bank. -/
def bankUpd (s : State) (n : Nat) (f : Bank → Bank) : State := { s with hdl := { s.hdl with bank := s.hdl.bank.upd n f } }
/-- A bank in a state. -/
def bankIn (s : State) (st : BankState) : Option Nat := [0, 1].find? fun n => (s.hdl.bank.get n).state == st
/-- The bank that is neither ACTIVE nor TRIAL (R570). -/
def spareBank (s : State) : Nat :=
  let used (n : Nat) : Bool := match (s.hdl.bank.get n).state with | .active | .trial => true | _ => false
  if used (1 - s.hdl.running) then s.hdl.running else 1 - s.hdl.running

/-- Staging begins: the spare bank is STAGING (R570). -/
def stageBegin (s : State) : State := hdlChanged (bankUpd s (spareBank s) fun _ => ⟨.staging, []⟩)

/-- Staging ends with a whole Billet (R570): status and failing offset. -/
def stageEnd (s : State) (n : Nat) (b : Bytes) : State × Status × Nat :=
  match billetCheck s b with
  | some (st, o) =>
    (hdlChanged (event (bump (bankUpd s n fun _ => ⟨.empty, []⟩) cHdlBilletsRejected) evBilletRejected
      [(2, n), (2, 0), (2, 0), (1, st.code), (1, 0), (4, o)]), st, o)
  | none => (hdlChanged (hdlEvent (bump (bankUpd s n fun _ => ⟨.staged, b⟩) cHdlBilletsStaged) evBilletStaged n 0 0 0 0 0), .ok, le b 16 4)

/-- The staged bank becomes TRIAL, and a warm restart of cause 2 is due (R571). -/
def activate (s : State) (n : Nat) : State :=
  let s := hdlChanged (hdlEvent (bankUpd s n fun b => { b with state := .trial }) evBilletActivated n 0 0 0 0 0)
  { s with pwr := { s.pwr with due := some 2 } }

/-- BILLET_ACTIVATE (R571). -/
def execBilletActivate (h : Nat) (s : State) : Res :=
  ok (startCmd s h 0x71 (some []) fun s _ =>
    let running (op : Nat) : Bool := s.hif.cmds.any fun c => c.opcode == op && c.ended.isNone
    match bankIn s .staged with
    | none => endCmd s h .state 0 0
    | some n =>
      if s.par.state = .active then endCmd s h .state 0 0
      else if running 0x69 || running 0x70 || s.cyc.weld.state != .none then endCmd s h .busy 0 0
      else endCmd (activate s n) h .ok 0 0)

/-- All groups are confirmed (R572): OTP levels, revocations, bank states, the old settings slot. -/
def confirmAll (s : State) : State :=
  let n := s.hdl.running
  let b := (s.hdl.bank.get n).billet
  let s := (List.range 5).foldl (fun s g =>
    let l := le (compOf b g) 1 1
    if s.hdl.otp.levels.get g < l then
      hdlEvent { s with hdl := { s.hdl with otp := { s.hdl.otp with levels := s.hdl.otp.levels.set g l } } } evArbAdvanced n g 0 0 0 0
    else s) s
  let rev := (List.range 4).filter fun k => bit (le b 36 1) k && k != le b 31 1
  let s := { s with hdl := { s.hdl with otp := { s.hdl.otp with revoked := rev.foldl (fun m k => m ||| 2 ^ k) s.hdl.otp.revoked } } }
  let s := bankUpd (bankUpd s n fun x => { x with state := .active }) (1 - n) fun x => if x.state = .active then { x with state := .old } else x
  let s := { s with hdl := { s.hdl with
    probation := none
    oldSlot := none
    baseSlot := none } }
  hdlChanged (hdlEvent s evBilletConfirmed n 0 0 0 0 0)

/-- BILLET_CONFIRM (R572): A is the group mask. -/
def execBilletConfirm (h : Nat) (s : State) : Res :=
  ok (startCmd s h 0x72 (some []) fun s c =>
    if s.hdl.probation.isNone then endCmd s h .state 0 0
    else if c.arg / 32 ≠ 0 then endCmd s h .badField 0 0
    else
      let s := { s with hdl := { s.hdl with confirmed := s.hdl.confirmed ||| c.arg } }
      endCmd (if s.hdl.confirmed = 31 then confirmAll s else s) h .ok 0 0)

/-! ### Settings (R21, R558, R573, R574) -/

/-- The settings registers with their fields (R21): address and mask. -/
def settingsMask : List (Nat × Nat) := 
  [(0x400004, 0x13F), (0x300004, 0x3FFF), (0x700004, 0x13FFF), (0xB00004, 0xFFFFFF07), (0x818004, 0xF1), 
   (0xF00004, 0xFF3F), (0xF01018, 0x1), (0xF01038, 0x1), (0xF01058, 0x1), (0xF01078, 0x1), (0x1000004, 0xFFFFFF0F), (0x1000080, 0xFFFFFFFF), (0x1000084, 0xFFFFFFFF), (0x1000088, 0xFFFFFFFF), (0x100008C, 0xFFFFFFFF), (0x1200004, 0xF)] ++
  (List.range 120).flatMap (fun n => [(0x1201008 + 16 * n, 0xFFFFFFFF), (0x120100C + 16 * n, 0x1FFFFFF)]) ++
  (List.range 16).flatMap (fun n => [(0x1202000 + 8 * n, 0x1FF), (0x1202004 + 8 * n, 0x3FF)])

/-- The settings in force as a slot holds them. -/
def settingsNow (s : State) : Settings :=
  ⟨s.hdl.format, s.hdl.gen, settingsMask.map fun e => (e.1, stored s e.1 &&& BitVec.ofNat 32 e.2), s.stn.saved, s.cnv.saved⟩

/-- Put a slot's settings into force. -/
def settingsLoad (s : State) (x : Settings) : State :=
  let s := x.regs.foldl (fun s e =>
    let m := BitVec.ofNat 32 (((settingsMask.find? fun k => k.1 == e.1).map (·.2)).getD 0)
    setStored s e.1 ((stored s e.1 &&& ~~~m) ||| (e.2 &&& m))) s
  { s with
    stn := { s.stn with saved := x.stn }
    cnv := { s.cnv with saved := x.temper }
    hdl := { s.hdl with format := x.format, gen := x.gen } }

/-- The settings as defaults (R574): every settings field at its Reset column, no table, no saved generation. -/
def settingsDefault (s : State) (format : Nat) : Settings :=
  ⟨format, s.hdl.gen, settingsMask.map fun e => (e.1, regReset e.1 &&& BitVec.ofNat 32 e.2), none, none⟩

/-- Settings items that differ between two slots, and their kinds: bit 0 registers, bit 1 station table, bit 2 Temper generation (R573). -/
def settingsDiff (a b : Settings) : Nat × Nat :=
  let r := ((List.range a.regs.length).filter fun i => a.regs.getD i default != b.regs.getD i default).length
  let n := r + b2n (a.stn != b.stn) + b2n (a.temper != b.temper)
  (n, b2n (r != 0) + 2 * b2n (a.stn != b.stn) + 4 * b2n (a.temper != b.temper))

/-- A fallback (R573): the TRIAL bank is FAILED; a warm restart of cause 3 is due, into the previous bank with its settings slot as it was; in control
of a pair the module gives up control as for a fault. -/
def fallback (s : State) (reason : Nat) : State :=
  match bankIn s .trial with
  | none => s
  | some n =>
    let (lost, kinds) := match s.hdl.baseSlot with | some x => settingsDiff (settingsNow s) x | none => (0, 0)
    let s := bankUpd s n fun b => { b with state := .failed }
    let s := match s.hdl.oldSlot with | some x => settingsLoad s x | none => s
    let s := { s with hdl := { s.hdl with
      probation := none
      confirmed := 0
      oldSlot := none
      baseSlot := none
      lastReason := reason
      lastLost := min lost 65535 } }
    let s := event (bump s cHdlFallbacks) evFwFallback [(2, n), (2, 0), (2, 0), (1, reason), (1, 0), (4, 0), (2, lost), (2, kinds)]
    pairGiveUp (hdlChanged { s with pwr := { s.pwr with due := some 3 } }) 13

/-- PROBATION_TIMEOUT (R573): 60 s without full confirmation. -/
def execProbationTimeout (s : State) : Res :=
  match s.hdl.probation with
  | none => ok s
  | some t => ok (fallback (advance s (t + 60000000000)) 1)

/-! ### Identity and attestation (R575 to R579) -/

/-- The device certificate (R576). -/
def deviceCert (s : State) : Bytes :=
  magic 'P' 'S' 'D' 'C' ++ leBytes 2 0x0100 ++ zeros 2 ++ leBytes 8 s.hdl.otp.serial ++ leBytes 2 0x9640 ++ leBytes 1 Config.certKeyId ++ zeros 13 ++
  fit 68 Config.deviceKey ++ zeros 28 ++ fit 2820 Config.certSignature

/-- OTP levels of groups 0 to 7, one byte each (R578). -/
def otpLevels (s : State) : Bytes := (List.range 8).flatMap fun g => leBytes 1 (min (s.hdl.otp.levels.get g) 255)

/-- Bytes 0 to 311 of a report (R578). -/
def reportBody (s : State) (nonce : Bytes) : Bytes :=
  let b := (runBank s).billet
  magic 'P' 'S' 'A' 'T' ++ leBytes 2 0x0100 ++ zeros 2 ++ leBytes 8 s.hdl.otp.serial ++ fit 32 nonce ++ leBytes 8 s.tmb.now ++ leBytes 4 (curEpoch s) ++
  leBytes 4 s.hdl.leaf ++ leBytes 4 (billetVersion b) ++ leBytes 1 s.hdl.running ++
  leBytes 1 (b2n s.hdl.otp.returned + 2 * b2n ((runBank s).state == .trial)) ++ zeros 2 ++ otpLevels s ++
  ((List.range 5).flatMap fun g => fit 32 (slice (compOf b g) 32 32)) ++ fit 68 Config.deviceKey ++ zeros 4

/-- Leaves left. -/
def leavesLeft (s : State) : Nat := 1048576 - s.hdl.leaf

/-- Signatures made within the last 3,600 s (R579). -/
def signedRecent (s : State) : List Nat := s.hdl.signed.filter fun t => decide (s.tmb.now < t + 3600000000000)

/-- ATTEST (R577 to R579): `stored'`: the next index can be written and verified. -/
def execAttest (h : Nat) (data : Option Bytes) (stored' : Bool) (s : State) : Res :=
  ok (startCmd s h 0x73 data fun s c =>
    if s.hdl.leaf ≥ 1048576 ∨ 4 ≤ (signedRecent s).length then
      endCmd (hdlEvent (bump s cHdlAttestRefused) evAttestRefused 0 0 0 0 0 s.hdl.leaf) h .denied 0 0
    else if !stored' then endCmd s h .faulted 0 0
    else
      let i := s.hdl.leaf
      let body := reportBody s c.data
      let s := { s with hdl := { s.hdl with leaf := i + 1, signed := s.tmb.now :: signedRecent s } }
      let report := body ++ fit 2820 (Config.sign i body)
      let s := send s (.host c.addr2 (report ++ (if bit c.arg 0 then deviceCert s else [])))
      endCmd (hdlEvent (bump s cHdlAttestations) evAttested s.hdl.running 0 0 0 0 i) h .ok (leavesLeft s) 0)

/-! ### Reading the sensors and the log (R565, R566) -/

/-- The 16 bytes of a sensor's record (R565). -/
def sensorRec (s : State) (n : Nat) : Bytes :=
  let x := s.hdl.sensor.get n
  leBytes 2 n ++ leBytes 1 (sensorKind n) ++ leBytes 1 (b2n x.valid + 2 * b2n x.warn + 4 * b2n x.fault + 8 * b2n x.bad) ++
  lesBytes 4 x.value ++ leBytes 8 x.stamp

/-- The records of all sensors. -/
def sensorRecs (s : State) : Bytes := (List.range 120).flatMap (sensorRec s)

/-- SENSOR_READ (R565). -/
def execSensorRead (h : Nat) (s : State) : Res :=
  ok (startCmd s h 0x74 (some []) fun s c => endCmd (send s (.host c.dataAddr (sensorRecs s))) h .ok 120 0)

/-- Hendel log records from SEQ `first` on, at most `count` (R566, R501). -/
def hlogFrom (s : State) (first count : Nat) : List EventRec :=
  let l := s.mram.hlog.recs
  let base := match l.head? with | some r => r.seq | none => 0
  (l.filter fun r => decide ((first + 2 ^ 32 - base) % 2 ^ 32 ≤ (r.seq + 2 ^ 32 - base) % 2 ^ 32)).take count

/-! ### The recovery mailbox (R580 to R582) -/

/-- Change the mailbox. -/
def mboxUpd (s : State) (f : Mbox → Mbox) : State := { s with hdl := { s.hdl with mbox := f s.hdl.mbox } }

/-- A mailbox command ends. -/
def mboxEnd (s : State) (st : Status) (n : Nat) : State := mboxUpd s fun m => { m with status := st, done := true, bytes := n }

/-- A mailbox command ends with data in the window. -/
def mboxData (s : State) (b : Bytes) : State := mboxEnd (mboxUpd s fun m => { m with window := b ++ m.window.drop b.length }) .ok b.length

/-- What IDENTIFY writes (R581): the manual names the items and not their layout. -/
def identifyBytes (s : State) (rom : Nat) : Bytes :=
  leBytes 8 s.hdl.otp.serial ++ leBytes 4 0x01109640 ++ leBytes 4 rom ++
  ([0, 1].flatMap fun n => leBytes 1 (s.hdl.bank.get n).state.code ++ leBytes 3 (billetVersion (s.hdl.bank.get n).billet)) ++ otpLevels s ++
  leBytes 1 (b2n s.hdl.otp.returned) ++ deviceCert s

/-- A byte string written into another at an offset. -/
def overlay (b : Bytes) (o : Nat) (d : Bytes) : Bytes := fit o b ++ d ++ b.drop (o + d.length)

/-- A mailbox command starts with its two arguments (R581); outside recovery it ends with STATE. -/
def mboxRun (s : State) (cmd a0 a1 : Nat) : State :=
  let s := mboxUpd s fun m => { m with done := false, bytes := 0 }
  if !s.hdl.recovery then mboxEnd s .state 0
  else match cmd with
  | 1 =>
    let (f, s) := drawFree s
    mboxData s (identifyBytes s (f.toNat % 2 ^ 32))
  | 2 =>
    if (bankIn s .trial).isSome ∨ (bankIn s .staging).isSome then mboxEnd s .state 0
    else if 134217728 < a0 then mboxEnd s .noResource 0
    else mboxEnd (mboxUpd (stageBegin s) fun m => { m with stage := some a0 }) .ok 0
  | 3 => match bankIn s .staging, s.hdl.mbox.stage with
    | some n, some total =>
      if a1 = 0 ∨ 65536 < a1 then mboxEnd s .badField 0
      else if total < a0 + a1 then mboxEnd s .range 0
      else mboxEnd (bankUpd s n fun b => { b with billet := overlay b.billet a0 (fit a1 s.hdl.mbox.window) }) .ok 0
    | _, _ => mboxEnd s .state 0
  | 4 => match bankIn s .staging, s.hdl.mbox.stage with
    | some n, some total =>
      let (s, st, _) := stageEnd (mboxUpd s fun m => { m with stage := none }) n (fit total (s.hdl.bank.get n).billet)
      mboxEnd s st 0
    | _, _ => mboxEnd s .state 0
  | 5 => match bankIn s .staged with
    | some n => mboxEnd (activate s n) .ok 0
    | none => mboxEnd s .state 0
  | 6 => mboxData s ((hlogFrom s a0 (min a1 1024)).flatMap evBytes)
  | 7 => mboxData s (sensorRecs s)
  | 8 => mboxEnd { s with hdl := { s.hdl with boot := ⟨none, none, SMap.empty⟩, writes := [] } } .ok 0
  | 9 => mboxEnd { s with pwr := { s.pwr with up := false, restart := 0 }, hif := { s.hif with ready := false } } .ok 0
  | _ => mboxEnd s .badOpcode 0

/-- GO with a command code: the arguments stand in HDL_MBOX (R581). -/
def mboxGo (s : State) (cmd : Nat) : State := mboxRun (setFld s fHdlMboxCmd cmd) cmd (fld s fHdlMboxArg0) (fld s fHdlMboxArg1)

/-- MBOX_IDENTIFY (R581). -/
def execMboxIdentify (s : State) : Res := regCmd s 0x12 (fun s => mboxGo s 1)
/-- MBOX_STAGE_BEGIN (R581). -/
def execMboxStageBegin (s : State) : Res := regCmd s 0x12 (fun s => mboxGo s 2)
/-- MBOX_STAGE_DATA (R581). -/
def execMboxStageData (s : State) : Res := regCmd s 0x12 (fun s => mboxGo s 3)
/-- MBOX_STAGE_END (R581). -/
def execMboxStageEnd (s : State) : Res := regCmd s 0x12 (fun s => mboxGo s 4)
/-- MBOX_ACTIVATE (R581). -/
def execMboxActivate (s : State) : Res := regCmd s 0x12 (fun s => mboxGo s 5)
/-- MBOX_LOG_READ (R581). -/
def execMboxLogRead (s : State) : Res := regCmd s 0x12 (fun s => mboxGo s 6)
/-- MBOX_SENSOR_READ (R581). -/
def execMboxSensorRead (s : State) : Res := regCmd s 0x12 (fun s => mboxGo s 7)
/-- MBOX_BOOT_BANK_CLEAR (R581). -/
def execMboxBootBankClear (s : State) : Res := regCmd s 0x12 (fun s => mboxGo s 8)
/-- MBOX_RESTART (R581). -/
def execMboxRestart (s : State) : Res := regCmd s 0x12 (fun s => mboxGo s 9)

/-- MGMT_UART_FRAME (R582): a request frame; its reply has STATUS in the place of CMD, and the bytes written to the window as data. -/
def execMgmtUartFrame (f : Bytes) (s : State) : Res :=
  let n := le f 10 4
  let body := slice f 1 (13 + n)
  if f.head? ≠ some 0xA5 ∨ f.length ≠ 18 + n ∨ (crc32c body).toNat ≠ le f (14 + n) 4 then ok s
  else
    let a0 := le f 2 4
    let a1 := le f 6 4
    let s := mboxUpd s fun m => { m with window := slice f 14 (min n 65536) ++ m.window.drop n }
    let s := mboxRun s (le f 1 1) a0 a1
    let m := s.hdl.mbox
    let r := leBytes 1 m.status.code ++ leBytes 4 a0 ++ leBytes 4 a1 ++ leBytes 4 m.bytes ++ fit m.bytes m.window
    ok (send s (.uart (leBytes 1 0xA5 ++ r ++ leBytes 4 (crc32c r).toNat)))

/-! ### Return to vendor (R583) -/

/-- The reserved bytes of an unlock. -/
def unlockReserved (b : Bytes) : Bool := le b 6 2 != 0 || !allZero (slice b 19 13)

/-- RTV_UNLOCK (R583). -/
def execRtvUnlock (h : Nat) (data : Option Bytes) (s : State) : Res :=
  ok (startCmd s h 0x76 data fun s c =>
    let b := c.data
    let key := le b 18 1
    let busy := s.cyc.state == .running ||
      s.seq.exec.entries.any fun e => match e.2.state with | .running | .held => true | _ => false
    if busy then endCmd s h .state 0 0
    else if slice b 0 4 ≠ magic 'P' 'S' 'R' 'V' ∨ unlockReserved b ∨ le b 16 2 ≠ 0x9640 then endCmd s h .badField 0 0
    else if le b 4 2 ≠ 0x0100 then endCmd s h .version 0 0
    else if le b 8 8 ≠ s.hdl.otp.serial ∨ 3 < key ∨ bit s.hdl.otp.revoked key ∨ !Config.signatureOk key (slice b 0 32) (slice b 32 2820) then
      endCmd s h .denied 0 0
    else
      let s := { s with hdl := { s.hdl with otp := { s.hdl.otp with returned := true } } }
      endCmd (statusChanged (hdlEvent s evRtvEntered 0 0 0 0 0 0)) h .ok 0 0)

/-! ### The commit (R585) -/

/-- The checks of an HDL commit: POLL_MS. -/
def hdlCommitCheck (s : State) : Status :=
  if (List.range 16).any fun d => decide (sfld s (fHdlPmbusPollMs d) < 10) || decide (1000 < sfld s (fHdlPmbusPollMs d)) then .range else .ok

end Sys2Proof.Machine
end

