-- ==== Sys2Proof/Machine/Restart.lean ====
section
/-! DEFINITION. Resets and starts (19_hendel R559 to R563, R571 to R574, R580; 20_package_power R589 to R598; 01_timeline R41, R42), autostarts
(04_cycle_engine R155, 06_interlock_engine R224), the JTAG port. -/
namespace Sys2Proof.Machine
open Sys2Proof

/-! ### Reset -/

/-- QCH_FORCE and QCH_PIN lie in the always-on island (12_capture R398); FAULT is no part of what R398 keeps. -/
def qchRegsKept (s : State) : SMap (Option Word) :=
  let kept (a : Nat) : Bool := a == 0x1300004 || (decide (0x1301000 ≤ a) && decide (a < 0x1301100))
  (List.range 16).foldl (fun m n =>
    let a := 0x1301004 + 16 * n
    let v := (m.get a).getD (regReset a) &&& ~~~(0x200 : Word)
    m.set a (if v = regReset a then none else some v)) ⟨s.regs.entries.filter fun e => kept e.1⟩

/-- What a reset of the control die leaves of the registers: the fields of the settings registers (R21), and Quench's (R398). -/
def regsKept (s : State) (qch : SMap (Option Word)) : SMap (Option Word) :=
  settingsMask.foldl (fun m e =>
    let k := BitVec.ofNat 32 e.2
    let r := regReset e.1
    let v := (r &&& ~~~k) ||| (stored s e.1 &&& k)
    m.set e.1 (if v = r then none else some v)) qch

/-- A Quench pin through a reset of the control die (R398). -/
def pinKept (p : QchPin) : QchPin :=
  { p with
    fatal := false
    anv := []
    latchHi := 0
    relWait := false
    relRefused := false
    mismatch := false }

/-- Retired Hearth pairs stay retired until their self-test (R240). -/
def coresKept (m : SMap Core) : SMap Core :=
  m.entries.foldl (fun a e => if e.2.retired then a.set e.1 { (default : Core) with retired := true } else a) SMap.empty

/-- Retired Anvil cores stay retired until their self-test (R309). -/
def anvKept (m : SMap AnvCore) : SMap AnvCore :=
  m.entries.foldl (fun a e => if e.2.retired then a.set e.1 { (default : AnvCore) with retired := true } else a) SMap.empty

/-- A slice keeps its corrections (R368); its removal ends (R373). -/
def slicesKept (m : SMap CnvSlice) : SMap CnvSlice :=
  m.entries.foldl (fun a e => a.set e.1 { (default : CnvSlice) with
    offset := e.2.offset
    gain := e.2.gain
    delay := e.2.delay
    taps := e.2.taps }) SMap.empty

/-- The control die, the HBM and the converter die are reset (R561, R594); Hendel, the always-on island, MRAM and the flash are not. -/
def dieReset (s : State) : State :=
  { s with
    regs := regsKept s (qchRegsKept s)
    staged := SMap.empty
    commits := SMap.empty
    tmb := { (default : Tmb) with
      now := s.tmb.now
      epochs := s.tmb.epochs
      lastOpen := s.tmb.lastOpen
      freqEst := s.tmb.freqEst
      rate := s.tmb.freqEst }
    pst := default
    hif := default
    recd := { (default : Recd) with nextSeq := s.recd.nextSeq, volatile := s.recd.volatile }
    cyc := default
    hrt := { (default : Hrt) with cores := coresKept s.hrt.cores }
    ile := default
    cnv := { (default : Cnv) with
      tgen := s.cnv.tgen
      fgTemp := s.cnv.fgTemp
      updTemp := s.cnv.updTemp
      saved := s.cnv.saved
      slice := slicesKept s.cnv.slice }
    anv := { (default : Anv) with core := anvKept s.anv.core }
    cap := default
    qch := ⟨s.qch.pin.mapV fun _ p => pinKept p⟩
    fbk := default
    mot := default
    stn := { (default : Stn) with saved := s.stn.saved }
    seq := default
    can := default
    wlk := default
    par := default
    pwr := { s.pwr with
      faults := s.pwr.faults.filter (· == .aonClock)
      up := false
      due := none
      stopped := false
      supplyBad := false
      clockBad := false
      hot := false }
    hdl := { s.hdl with
      recovery := false
      mbox := default
      sensor := s.hdl.sensor.mapV fun n x => if n = 55 then x else { x with fault := false } } }

/-- Hendel is reset too (R594, R595). -/
def hendelReset (s : State) : State := { s with hdl := { s.hdl with sensor := SMap.empty, pmFails := SMap.empty } }

/-- Something holds the control die and the converter die in reset (R594, R595, R563). -/
def hold (s : State) (h : Hold) : State :=
  let s := dieReset s
  { s with pwr := { s.pwr with holds := if s.pwr.holds.contains h then s.pwr.holds else s.pwr.holds ++ [h] } }

/-- POWER_ON_RESET (R595): POR_N low resets the whole part. -/
def powerOnReset (s : State) : State :=
  let s := hendelReset (hold s .por)
  { s with
    regs := regsKept s SMap.empty
    qch := default
    aon := default
    pwr := { s.pwr with aonBad := false, faults := [], jtag := .reset } }

/-- POWER_ON_RESET (R595). -/
def execPowerOnReset (s : State) : Res := ok (powerOnReset s)

/-! ### The Timeline at a start -/

/-- What the MRAM journal held is discarded at a start with TIMELINE_RESET (R41). -/
def journalDrop (s : State) : State :=
  { s with mram := { s.mram with
    mark := none
    epochs := []
    retained := SMap.empty
    forces := []
    journal := SMap.empty
    axes := SMap.empty
    recipes := SMap.empty } }

/-- The START Epoch opens at the Timeline's first value (R35, R39 to R41); the manual gives its TAI_OFFSET no value. -/
def startEpoch (s : State) (value number : Nat) (freq : Int) (held : List Epoch) (lost none' : Bool) : State :=
  let s := if none' then journalDrop s else s
  let (o, s) := drawFree s
  let e : Epoch := ⟨number, .start, 0, false, false, lost, none', signed 8 (fld s fTmbUtcTaiSec), value, o.toInt, 0⟩
  let s := { s with tmb := { s.tmb with
    now := value
    frac := 0
    resid := 0
    freqEst := freq
    rate := freq
    epochs := (e :: held).take 256
    lastOpen := some value
    domOff := 0 } }
  tmbEvent (bump (writeMark s) cTmbEpochOpened) evEpochOpen 0 0 0

/-- The Timeline at a cold start (R41). -/
def timeCold (s : State) (x : StartIn) : State :=
  match (if x.mram then s.mram.mark else none) with
  | some m => startEpoch s (m.value + 1000000000) (m.epoch + 1) m.freqEst s.mram.epochs false false
  | none => match (if x.coarse then s.hdl.coarse.head? else none) with
    | some c => startEpoch s (c.mark.value + 62000000000) (c.mark.epoch + 245) c.mark.freqEst [] true false
    | none => startEpoch s 0 0 0 [] true true

/-- The Timeline at a warm restart (R42): `s.tmb.now` is the value latched at entry. -/
def timeWarm (s : State) (x : StartIn) : State :=
  match (if s.pwr.aonBad then none else x.count) with
  | some n => { s with tmb := { s.tmb with now := s.tmb.now + n, frac := 0, resid := 0 } }
  | none => startEpoch s (s.tmb.now + 1000000000) (curEpoch s + 1) s.tmb.freqEst s.mram.epochs false false

/-! ### The boot -/

/-- Levels of a Billet's components are not below the OTP levels (R569). -/
def levelsOk (s : State) (b : Bytes) : Bool :=
  (List.range 5).all fun i => decide (s.hdl.otp.levels.get (le (bComp b i) 0 1) ≤ le (bComp b i) 1 1)

/-- A TRIAL bank that has run before this start falls back with RESTART (R573). -/
def trialRan (s : State) : State × Bool :=
  match bankIn s .trial with
  | some n => if s.hdl.running = n then (fallback s 4, true) else (s, false)
  | none => (s, false)

/-- A TRIAL bank that fails verification or its start-up checks falls back with SELFCHECK (R571, R573). -/
def trialCheck (s : State) (ver : Nat → Bool) (selfcheck : Bool) : State × Bool :=
  match bankIn s .trial with
  | some n => if !ver n ∨ !selfcheck then (fallback s 2, true) else (s, false)
  | none => (s, false)

/-- The bank that boots (R559): the TRIAL or the ACTIVE one, else the OLD one with BOOT_FALLBACK, else none: recovery. -/
def bootBank (s : State) (ver : Nat → Bool) : State × Option Nat :=
  match bankIn s .trial with
  | some n => (s, some n)
  | none =>
    let old (s : State) : State × Option Nat := match bankIn s .old with
      | some n => if ver n ∧ levelsOk s (s.hdl.bank.get n).billet then (hdlEvent s evBootFallback n 0 0 0 0 0, some n) else (s, none)
      | none => (s, none)
    match bankIn s .active with
    | some n => if ver n then (s, some n) else old (hdlChanged (bankUpd s n fun b => { b with state := .failed }))
    | none => old s

/-- Recovery (R580): from Hendel ROM alone. -/
def enterRecovery (s : State) : State :=
  let s := { s with
    hdl := { s.hdl with recovery := true }
    hif := { s.hif with ready := true }
    pwr := { s.pwr with up := true, restart := 2, faults := s.pwr.faults ++ [.recovery] } }
  statusChanged (hdlChanged (hdlEvent s evRecoveryEntered 0 0 0 0 0 0))

/-- The settings at a start of bank `n` (R558, R574); `first`: the first start of a TRIAL bank, which converts the previous bank's slot. The flag
tells that the start ends in a fallback. -/
def settingsStart (s : State) (n : Nat) (first readable : Bool) : State × Bool :=
  let f := billetFormat (s.hdl.bank.get n).billet
  let old := settingsNow s
  let fb := flag s fHdlCtrlFallbackOnSettings
  let s := if readable then
      (if first then hdlEvent { s with hdl := { s.hdl with format := f } } evSettingsConverted n 0 0 0 0 0 else s)
    else hdlEvent (settingsLoad s (settingsDefault s f)) evSettingsUnreadable n 0 0 0 0 0
  if !first then (s, false)
  else
    let s := { s with hdl := { s.hdl with oldSlot := some old, baseSlot := some (settingsNow s) } }
    if !readable && fb then (fallback s 3, true) else (s, false)

/-- Retired core pairs of Hearth that pass their self-test rejoin the pool (R240). -/
def hrtRejoin (s : State) (fail : List Nat) : State :=
  s.hrt.cores.entries.foldl (fun s e =>
    if e.2.retired && !fail.contains e.1 then hrtEvent (coreUpd s e.1 fun _ => default) evCoreRestored e.1 0 0 0 else s) s

/-- Retired Anvil cores that pass their self-test rejoin (R309). -/
def anvRejoin (s : State) (fail : List Nat) : State :=
  s.anv.core.entries.foldl (fun s e =>
    if e.2.retired && !fail.contains e.1 then anvEvent (anvUpd s e.1 fun _ => default) evAnvCoreRestored e.1 0 0 0 0 else s) s

/-- The event log at a start (R505). -/
def logStart (s : State) (usable : Bool) : State :=
  if usable then { s with recd := { s.recd with volatile := false } }
  else if s.recd.volatile then { s with pwr := { s.pwr with faults := s.pwr.faults ++ [.logVolatile] } }
  else logFail s

/-- The generation saved in settings comes into force (R368). -/
def temperFast (s : State) (x : TemperSave) : State :=
  let s := { s with cnv := { s.cnv with tgen := x.tgen, fgTemp := none, updTemp := s.pwr.dieTemp, ready := true, clkOk := true } }
  let s := (List.range 4).foldl (fun s g => cnvUpd s g fun k => { k with tgen := x.tgen }) s
  (List.range 16).foldl (fun s n => match x.corr[n]? with
    | some c => sliceUpd s n fun k => { k with offset := c.1, gain := c.2.1, delay := c.2.2.1, taps := c.2.2.2 }
    | none => s) s

/-- The converter at a start (R368): a warm restart keeps the generation in force; a cold one takes the saved one under FAST_START, within 10 °C,
else calibrates. -/
def cnvStart (s : State) (cold : Bool) : State :=
  let s := { s with cnv := { s.cnv with clkOk := true } }
  let near (t : Int) : Bool := decide (s.pwr.dieTemp - t ≤ 10000) && decide (t - s.pwr.dieTemp ≤ 10000)
  if !cold then (List.range 4).foldl (fun s g => cnvUpd s g fun k => { k with tgen := s.cnv.tgen }) { s with cnv := { s.cnv with ready := true } }
  else match s.cnv.saved with
    | some x => if flag s fCnvCtrlFastStart && near x.temp then temperFast s x else fgDone s
    | none => fgDone s

/-- Autostarts of this start are not shut out (R559, R583). -/
def mayAutostart (s : State) : Bool := s.pwr.bootMode != 1 && !s.hdl.otp.returned

/-- The boot program goes to slot 0 with its map, and the points of the map start (R83, R155). -/
def programStart0 (s : State) : State :=
  match s.hdl.boot.program with
  | some (m, some p) =>
    if flag s fCycCtrlAutostart && mayAutostart s then
      let s := { s with cyc := { s.cyc with slots := s.cyc.slots.set 0 ⟨some p, some m, SMap.empty⟩ } }
      { s with pst := { s.pst with
        map := some p
        points := p.entries.foldl (fun a e => a.set e.id (startRec s e)) s.pst.points } }
    else s
  | _ => s

/-- The station table of settings is loaded again (R454, R456). -/
def stnStart (s : State) : State :=
  match s.stn.saved with
  | some b => if (tableCheck s b).isNone then stnEvent (tableTakes s b) evTableLoaded 0 0 [] 0 0 else s
  | none => s

/-- Pairing at a start (R532): with EN the module waits for a PAIR_HELLO, else it runs alone. -/
def parStart (s : State) : State :=
  if flag s fParCtrlEn then { s with par := { s.par with state := .forming, waitEnd := some (s.tmb.now + 200000000) } }
  else { s with par := { s.par with state := .disabled } }

/-- The firmware of bank `n` runs (R560, R561): HIF_READY, self-tests, log, Point Store READY, Temper, station table, executors, pairing; `l`: the last
instant a recipe is known to have run (R274). -/
def firmwareUp (s : State) (n l : Nat) (cold : Bool) (cause : Nat) (x : StartIn) : State :=
  let trial : Bool := match (s.hdl.bank.get n).state with | .trial => true | _ => false
  let s := { s with
    hif := { s.hif with ready := true }
    pst := { s.pst with ready := true, forcesWait := true }
    pwr := { s.pwr with up := true, restart := if cold then 0 else 1, cause := cause }
    hdl := { s.hdl with running := n } }
  let s := hdlEvent s evBoot n 0 0 0 cause 0
  let s := if trial then hdlChanged { s with hdl := { s.hdl with probation := some s.tmb.now, confirmed := 0 } } else s
  let s := logStart (anvRejoin (hrtRejoin s x.hrtFail) x.anvFail) x.logOk
  let s := stnStart (programStart0 (cnvStart s cold))
  let s := (List.range 64).foldl (fun s i => seqRestore s i l cold) s
  statusChanged (parStart s)

/-- A start (R559 to R561, R571 to R574, R580): the bank is chosen, the settings are read, and the firmware runs or recovery is entered. -/
def boot (s : State) (l : Nat) (cold : Bool) (cause : Nat) (x : StartIn) : State :=
  let ver (n : Nat) : Bool := if n = 0 then x.bankA else x.bankB
  let (s, ran) := trialRan s
  let s := { s with pwr := { s.pwr with due := none } }
  if 2 ≤ s.pwr.bootMode ∨ !s.pwr.recoveryPin then enterRecovery s
  else
    let (s, failed) := trialCheck s ver x.selfcheck
    let s := { s with pwr := { s.pwr with due := none } }
    let cause := if (ran || failed) && !cold then 3 else cause
    let (s, b) := bootBank s ver
    match b with
    | none => enterRecovery s
    | some n =>
      let trial : Bool := match (s.hdl.bank.get n).state with | .trial => true | _ => false
      let (s, fell) := settingsStart s n trial x.settings
      if fell then s else firmwareUp s n l cold cause x

/-- A cold start (R560): straps are sampled where POR_N rises (R597). -/
def coldStart (s : State) (x : StartIn) : State :=
  let s := if s.pwr.holds.contains .por then
      (match x.straps with
      | some (m, r, p) => { s with pwr := { s.pwr with bootMode := m % 4, recoveryPin := r, pairId := p } }
      | none => s)
    else s
  let l := match s.mram.mark with | some m => m.value | none => 0
  let s := timeCold (dieReset { s with pwr := { s.pwr with holds := [] } }) x
  boot s l true 0 x

/-- COLD_START (R560, R595): POR_N and SYS_RST_N have risen, every rail is in range, no trip holds. -/
def execColdStart (x : StartIn) (s : State) : Res :=
  if s.pwr.up || s.pwr.holds.any fun h => h == .rail || h == .aonRail || h == .trip then ok s else ok (coldStart s x)

/-- WARM_RESTART (R561, R596): cause 1 is SYS_RST_N low for at least 10 µs; the others are due. -/
def execWarmRestart (cause : Nat) (x : StartIn) (s : State) : Res :=
  if s.pwr.holds.isEmpty && ((cause == 1 && s.pwr.up) || s.pwr.due == some cause) then
    let l := s.tmb.now
    ok (boot (timeWarm (dieReset s) x) l false cause x)
  else ok s

/-! ### Rails and the thermal trip -/

/-- RAIL_UNDERVOLTAGE (R594): a monitored rail below 90 % at `t`; `aon`: VDD_AON, which holds Hendel as well. -/
def execRailUndervoltage (aon : Bool) (t : Nat) (s : State) : Res :=
  let s := hold (advance s t) .rail
  ok (if aon then hendelReset (hold s .aonRail) else s)

/-- RAIL_RESTORED (R594): every rail is above 90 % again. -/
def execRailRestored (s : State) : Res :=
  ok { s with pwr := { s.pwr with holds := s.pwr.holds.filter fun h => h != .rail && h != .aonRail } }

/-- TEMP_TRIP (R563): a junction above 125 °C at sensor `n`; Hendel records it, and the control die is held in reset. -/
def execTempTrip (n t : Nat) (s : State) : Res :=
  if 24 ≤ n then ok s
  else
    let s := advance s t
    let items : List (Nat × Int) := [(2, 0), (2, 0), (2, n), (1, 0), (1, 0), (4, 0)]
    let e : EventIn := ⟨s.tmb.now, curEpoch s, evTempTrip.src, evTempTrip.sev, evTempTrip.code, keyOf items, packItems items, false⟩
    ok (hold (qchFatal (recAssign s e)) .trip)

/-- TEMP_TRIP_RECOVERY (R563): after a trip every TEMP sensor reads below 95 °C: a cold start. -/
def execTempTripRecovery (x : StartIn) (s : State) : Res :=
  let cool := (List.range 24).all fun n => decide ((s.hdl.sensor.get n).value < 760)
  if s.pwr.holds == [.trip] && cool then ok (coldStart s x) else ok s

/-! ### Autostarts -/

/-- PROGRAM_AUTOSTART (R155): the boot program in slot 0 starts at its first cycle instant after `t`. -/
def execProgramAutostart (t : Nat) (s : State) : Res :=
  if programAutostarts s then
    let s := advance s t
    ok (cycBegin s 0 s.tmb.now none true)
  else ok s

/-- ILE_AUTOSTART (R224): the boot bank's image makes its first scan at its first scan instant after `t`. -/
def execIleAutostart (t : Nat) (s : State) : Res :=
  match s.hdl.boot.interlock with
  | none => ok s
  | some m =>
    if autostarts s && s.ile.state == .empty && s.ile.next.isNone then
      let s := advance s t
      ok { s with ile := { s.ile with next := some ⟨m, ileInstant s m s.tmb.now, none⟩ } }
    else ok s

/-! ### The JTAG port (R598) -/

/-- An instruction is in force in the TAP. -/
def jtagSet (s : State) (j : Jtag) : State := { s with pwr := { s.pwr with jtag := j } }
/-- JTAG_BYPASS (R598). -/
def execJtagBypass (s : State) : Res := ok (jtagSet s .bypass)
/-- JTAG_IDCODE (R598). -/
def execJtagIdcode (s : State) : Res := ok (send (jtagSet s .idcode) (.jtag (leBytes 4 0x1964054D)))
/-- JTAG_SAMPLE_PRELOAD (R598). -/
def execJtagSamplePreload (s : State) : Res := ok (jtagSet s .sample)
/-- JTAG_EXTEST (R598). -/
def execJtagExtest (s : State) : Res := ok (jtagSet s .extest)
/-- JTAG_TRST (R598): TRST_N low holds the TAP in Test-Logic-Reset. -/
def execJtagTrst (s : State) : Res := ok (jtagSet s .reset)

end Sys2Proof.Machine
end

