-- ==== Sys2Proof/Machine/Views.lean ====
section
/-! DEFINITION. What the read-only fields of the registers show (00_scope R25 and the register map of each chapter), computed from the blocks;
the value a read of BAR0 returns. -/
namespace Sys2Proof.Machine
open Sys2Proof

/-- A value in bits `hi` to `lo` of a word. -/
def put (hi lo v : Nat) : Nat := v % 2 ^ (hi + 1 - lo) * 2 ^ lo

/-- A flag in bit `i` of a word. -/
def putB (i : Nat) (b : Bool) : Nat := b2n b * 2 ^ i

/-- Bits 31:0 of a number. -/
def lo32 (v : Nat) : Nat := v % 2 ^ 32
/-- Bits 63:32 of a number. -/
def hi32 (v : Nat) : Nat := v / 2 ^ 32 % 2 ^ 32
/-- Bits 31:0 of a signed number. -/
def loI (v : Int) : Nat := lo32 (unsigned 64 v)
/-- Bits 63:32 of a signed number. -/
def hiI (v : Int) : Nat := hi32 (unsigned 64 v)
/-- A signed number in 32 bits, saturated. -/
def satI (v : Int) : Nat := unsigned 32 (clampI (-2147483648) 2147483647 v)
/-- Entries of a table whose value meets a condition. -/
def countIn {α : Type} (m : SMap α) (f : α → Bool) : Nat := (m.entries.filter fun e => f e.2).length
/-- Element and offset in the element of a register array. -/
def elem (o base stride count : Nat) : Option (Nat × Nat) :=
  if o < base ∨ base + stride * count ≤ o then none else some ((o - base) / stride, (o - base) % stride)

/-- GLB_STATUS (03_host_rings R137): HIF_READY, RUN, PAIRED, ACTIVE, FAULT, RETURNED, RESTART. -/
def glbStatus (s : State) : Nat :=
  putB 0 s.hif.ready + putB 1 (s.cyc.state == .running) + putB 2 s.par.formed + putB 3 s.par.holds + putB 4 (faultN s) +
  putB 5 s.hdl.otp.returned + put 7 6 s.pwr.restart

/-- The GLB window (R137). -/
def viewGlb (s : State) (o : Nat) : Nat :=
  match o with
  | 0x00 => 0x9640 + put 16 16 Config.grade + put 23 20 1 + put 27 24 1
  | 0x04 => lo32 s.hdl.otp.serial
  | 0x08 => hi32 s.hdl.otp.serial
  | 0x0C => billetVersion (runBank s).billet % 2 ^ 24
  | 0x10 => 7 + put 31 16 0x0200
  | 0x18 => put 15 0 s.hif.version + put 23 16 s.hif.actStatus.code + putB 24 s.hif.actDone
  | 0x1C => glbStatus s
  | 0x20 => if s.hif.ready then put 3 0 s.hif.linkSpeed + put 9 4 s.hif.linkWidth else 0
  | _ => 0

/-- The HIF window (R138). -/
def viewHif (s : State) (o : Nat) : Nat :=
  if o = 0 then
    put 8 0 s.hif.cmds.length +
    put 23 16 (countIn s.hif.sq (fun q => q.halt != .none) + countIn s.hif.cq (fun q => q.halt != .none))
  else if o = 0x0C then put 22 16 s.hif.commitRing
  else match elem o 0x1000 32 64 with
  | some (n, 0x14) =>
    let q := s.hif.sq.get n
    put 11 0 q.head + putB 12 (sqEmpty s n) + putB 13 (q.halt != .none) + put 18 16 q.halt.code + put 28 20 (sqInflight s n)
  | some (n, 0x18) => put 11 0 (s.hif.sq.get n).tail
  | some _ => 0
  | none => match elem o 0x2000 32 64 with
    | some (n, 0x14) =>
      let q := s.hif.cq.get n
      put 15 0 q.tail + putB 16 (!q.phase0) + putB 17 (q.halt != .none) + put 20 18 q.halt.code
    | some (n, 0x18) => put 15 0 (s.hif.cq.get n).head
    | _ => 0

/-- The 32 bytes of an Epoch record (01_timeline R35). -/
def epochBytes (e : Epoch) : Bytes :=
  leBytes 4 e.number ++ leBytes 1 e.reason.code ++ leBytes 1 e.source ++
  leBytes 1 (b2n e.taiValid + 2 * b2n e.domain + 4 * b2n e.markLost + 8 * b2n e.timelineReset) ++ lesBytes 1 e.utcTai ++ leBytes 8 e.tStart ++
  lesBytes 8 e.taiOff ++ lesBytes 8 e.domOff

/-- TMB_STATUS (01_timeline R72). -/
def tmbStatus (s : State) : Nat :=
  put 2 0 s.tmb.state.code + putB 3 (s.tmb.state == .holdover) + putB 4 (s.tmb.epochs.headD default).taiValid +
  putB 5 s.tmb.domLock + put 11 8 s.tmb.source

/-- The TMB window (R72). -/
def viewTmb (s : State) (o : Nat) : Nat :=
  match o with
  | 0x00 => tmbStatus s
  | 0x08 => lo32 s.tmb.now
  | 0x0C => s.tmb.latchHi
  | 0x10 => s.tmb.latchFrac
  | 0x14 => curEpoch s
  | 0x18 => satI s.tmb.rate
  | 0x1C => satI s.tmb.freqEst
  | 0x20 => loI s.tmb.offset
  | 0x24 => hiI s.tmb.offset
  | 0x28 => loI s.tmb.domOff
  | 0x2C => hiI s.tmb.domOff
  | 0x30 => satI s.tmb.domResid
  | 0x84 => s.tmb.wallStatus.code
  | 0x214 => put 12 0 s.tmb.lq.length + put 23 16 s.tmb.lqLast.code
  | _ =>
    match elem o 0xC0 4 8 with
    | some (n, _) => match s.tmb.epochs[fld s fTmbEpochSelBack]? with
      | some e => le (epochBytes e) (4 * n) 4
      | none => 0
    | none => match elem o 0x1000 4 128 with
      | some (p, _) => put 22 16 (s.tmb.tio.get p).fifo.length + putB 31 (s.tmb.tio.get p).claimed.isSome
      | none => match elem o 0x2000 16 128 with
        | some (p, w) => match (s.tmb.tio.get p).latch, w with
          | some x, 0x0 => lo32 x.ns
          | some x, 0x4 => hi32 x.ns
          | some x, 0x8 => put 1 0 x.quarter + putB 2 x.falling + put 15 8 x.epochLo + putB 31 true
          | _, _ => 0
        | none => 0

/-- The PST window (02_point_store R101). -/
def viewPst (s : State) (o : Nat) : Nat :=
  match o with
  | 0x00 => putB 0 s.pst.ready + putB 1 s.pst.map.isSome + putB 2 s.pst.repairAvail + put 31 16 (min s.pst.badCount 65535)
  | 0x08 => match s.pst.map with | some m => put 15 0 m.version | none => 0
  | 0x0C => match s.pst.map with | some m => put 24 0 m.entries.length | none => 0
  | 0x10 => match s.pst.map with | some m => lo32 m.build | none => 0
  | 0x14 => match s.pst.map with | some m => hi32 m.build | none => 0
  | 0x18 => put 16 0 s.pst.forces.length
  | 0x1C => put 20 0 s.pst.lastBad.1 + put 22 21 s.pst.lastBad.2
  | _ => match elem o 0x80 4 8 with
    | some (n, _) => le s.pst.peek (4 * n) 4
    | none => match elem o 0x400 4 128 with
      | some (n, _) =>
        let v := s.pst.views.get n
        put 1 0 (match v.state with | .closed => 0 | .open => 1 | .faulted => 2) + putB 2 (v.state == .open && !viewSpace v) +
        put 31 12 (min (viewPending v) 1048575)
      | none => 0

/-- The CYC window (04_cycle_engine R181, 05_online_change R203). -/
def viewCyc (s : State) (o : Nat) : Nat :=
  let y := s.cyc
  let w := y.weld
  match o with
  | 0x00 => put 2 0 (match y.state with | .idle => 0 | .loaded => 1 | .running => 2 | .stopped => 3) + put 3 3 y.slot +
      put 11 8 y.stopReason.code + put 21 16 (runningClasses s).length + put 29 24 (hrtAvailable s)
  | 0x30 => put 2 0 w.state.code + put 23 8 w.left + put 31 24 w.lastStatus.code
  | 0x34 => lo32 w.at'
  | 0x38 => w.latchHi
  | 0x3C => put 7 0 w.gapUs + put 12 8 w.passes + put 31 16 (min w.deferred 65535)
  | 0x40 => let (i, c, k, st, _) := y.lastFault; put 15 0 i + put 20 16 c + put 23 21 k + put 31 24 st
  | 0x44 => let (_, _, _, _, n) := y.lastFault; put 19 0 n
  | _ => match elem o 0x10 16 2 with
    | some (n, k) => match (y.slots.get n).image, k with
      | some m, 0x0 =>
        let st := if y.state = .running ∧ y.slot = n then (if w.state = .probation then 3 else 2) else 1
        put 1 0 st + put 31 16 m.version
      | some m, 0x4 => lo32 m.build
      | some m, 0x8 => hi32 m.build
      | some m, 0xC => put 15 0 m.ecn
      | _, _ => 0
    | none => match elem o 0x1000 32 32 with
      | some (n, k) =>
        let c := y.classes.get n
        match k with
        | 0x00 => if c.active then put 23 0 c.info.period else 0
        | 0x04 => put 23 0 c.info.outOfs
        | 0x08 => lo32 c.t0
        | 0x0C => c.latchHi
        | 0x14 => lo32 c.execLast
        | 0x18 => put 7 0 (min c.wd 255) + put 10 8 c.info.prio + putB 31 c.active
        | 0x1C => lo32 c.cycles
        | _ => 0
      | none => 0

/-- The ILE window (06_interlock_engine R228). -/
def viewIle (s : State) (o : Nat) : Nat :=
  let e := s.ile
  let loading := e.next.isSome || s.hif.cmds.any fun c => c.opcode == 0x26 && c.started && c.ended.isNone
  match o with
  | 0x00 => put 1 0 e.state.code + putB 2 loading + put 13 8 ((e.image.map (·.stackMax)).getD 0)
  | 0x20 => lo32 e.lastScan
  | 0x24 => e.latchScanHi
  | 0x30 => lo32 e.fbAt
  | 0x34 => e.latchFbHi
  | 0x38 => put 3 0 e.fbReason + put 31 16 (match e.image with | some m => (ileStores (ileFallback m)).length | none => 0)
  | _ => match elem o 0x1000 4 128 with
    | some (n, _) => (List.range 32).foldl (fun a k => a + putB k (e.markers.get (32 * n + k))) 0
    | none => match e.image, o with
      | some m, 0x08 => put 15 0 m.version
      | some m, 0x0C => lo32 m.build
      | some m, 0x10 => hi32 m.build
      | some m, 0x14 => put 13 0 m.period + put 29 16 m.outOfs
      | some m, 0x18 => put 16 0 m.code.length
      | _, _ => 0

/-- The HRT window (07_hearth R244). -/
def viewHrt (s : State) (o : Nat) : Nat :=
  let x := s.hrt
  let cores := List.range poolSize
  match o with
  | 0x00 => put 12 0 x.ready.length + put 21 16 (cores.filter fun c => (x.cores.get c).run.isSome).length
  | 0x04 => put 5 0 (hrtAvailable s) + put 21 16 x.retiredSince
  | 0x08 => cores.foldl (fun a c => a + putB c (x.cores.get c).retired) 0
  | 0x18 => let (c, src, out) := x.lastRetire; put 4 0 c + put 15 8 src + put 17 16 out
  | 0x1C => lo32 x.traceSeq
  | _ => match elem o 0x40 4 8 with
    | some (n, _) => put 12 0 (x.ready.filter fun d => d.prio == n).length
    | none => match elem o 0x80 8 8 with
      | some (n, 4) => match hrtSources[n]? with
        | some src => put 15 3 (entriesHeld s src)
        | none => 0
      | some _ => 0
      | none => match elem o 0x1000 4 32 with
        | some (n, _) =>
          let k := x.cores.get n
          if k.retired then 2 else match k.run with
            | some r => 1 + put 15 8 r.desc.source + put 18 16 r.desc.prio + putB 19 r.desc.retry
            | none => 0
        | none => 0

/-- µs to the next TIME boundary of an executor; 0 for other kinds and when not RUNNING (08_recipes R277). -/
def seqRemain (s : State) (e : Exec) : Nat :=
  if e.state ≠ .running then 0
  else match e.image with
    | none => 0
    | some b =>
      let st := riStep b e.step
      if stEnd st ≠ 0 then 0 else ((match e.next with | some n => n.inst | none => e.b + stDur st) - s.tmb.now) / 1000

/-- The SEQ window (08_recipes R277). -/
def viewSeq (s : State) (o : Nat) : Nat :=
  let cnt (f : Exec → Bool) : Nat := countIn s.seq.exec f
  if o = 0 then
    put 6 0 (cnt fun e => e.state == .running || e.state == .aborting) + put 14 8 (cnt fun e => e.state == .held) +
    put 22 16 (cnt fun e => e.state == .resumable)
  else match elem o 0x1000 32 64 with
  | none => 0
  | some (n, k) =>
    let e := s.seq.exec.get n
    match k with
    | 0x00 => put 2 0 e.state.code + put 13 8 (match e.image with | some b => riContext b | none => 0) + put 20 16 e.loops.length
    | 0x04 => put 11 0 e.step + put 23 16 e.lastStatus.code
    | 0x08 => lo32 e.launched
    | 0x0C => e.latchHi
    | 0x10 => match e.image with | some b => lo32 (riId b) | none => 0
    | 0x14 => match e.image with | some b => hi32 (riId b) | none => 0
    | 0x18 => lo32 e.bseq
    | 0x1C => lo32 (seqRemain s e)
    | _ => 0

/-- The largest run free of the runs `used` (first, length), below `top`. -/
def largestRun (used : List (Nat × Nat)) (top : Nat) : Nat :=
  let used := used.filter fun u => decide (0 < u.2)
  (0 :: used.map fun u => u.1 + u.2).foldl (fun a p =>
    if used.any (fun u => decide (u.1 ≤ p) && decide (p < u.1 + u.2)) then a
    else max a (used.foldl (fun e u => if p ≤ u.1 then min e u.1 else e) top - p)) 0

/-- The ANV window (09_anvil_core R312, 10_loops R351). -/
def viewAnv (s : State) (o : Nat) : Nat :=
  let x := s.anv
  match o with
  | 0x00 => put 6 0 ((List.range 64).filter fun c => !(x.core.get c).retired).length + put 26 16 (countIn x.loop fun l => l.desc.isSome)
  | 0x04 => (List.range 32).foldl (fun a c => a + putB c (x.core.get c).retired) 0
  | 0x08 => (List.range 32).foldl (fun a c => a + putB c (x.core.get (32 + c)).retired) 0
  | 0x14 => lo32 x.memData
  | 0x18 => putB 0 x.memDone + put 15 8 x.memStatus.code
  | 0x18000 => put 10 0 (countIn x.loop fun l => l.desc.isSome) + put 26 16 (countIn x.loop fun l => l.desc.isSome && l.hold)
  | _ => match elem o 0x1000 32 64 with
    | some (n, k) =>
      let c := x.core.get n
      let us := usedRuns s n 1024
      match k with
      | 0x00 => put 1 0 (if c.retired then 2 else if c.selfTest then 3 else if c.run.isSome then 1 else 0) +
          put 11 8 (match c.run with | some r => r.slot | none => c.lastSlot) +
          put 20 16 (countIn x.loop fun l => l.desc.isSome && l.core == n)
      | 0x04 => put 14 0 (largestRun (us.map fun p => (p.base, p.words.length)) 16384)
      | 0x08 => put 15 0 (largestRun (us.map fun p => (p.lbase, p.lwords)) 30720) + put 31 16 (largestRun (us.map fun p => (p.rbase, p.rwords)) 30720)
      | 0x0C => put 10 0 (min ((if c.busyMs = s.tmb.now / 1000000 then c.busyLast
          else if c.busyMs + 1 = s.tmb.now / 1000000 then c.busy else 0) * 1024 / 1200000) 1024)
      | 0x14 => put 3 0 c.faultSlot + put 7 4 c.faultCause + put 22 8 c.faultPc
      | 0x18 => put 14 0 c.faultAddr + put 16 16 c.faultBank
      | _ => 0
    | none => match elem o 0x10000 32 1024 with
      | none => 0
      | some (n, k) =>
        let l := x.loop.get n
        match k with
        | 0x00 =>
          if l.desc.isNone then 0
          else put 1 0 (if l.coreLost then 3 else if l.hold then 2 else 1) + put 3 2 l.mode.code + putB 4 l.implaus + putB 5 l.backup +
            putB 6 (tuneRuns l) + putB 7 l.relocated + putB 8 l.limited + putB 9 l.resumed + put 21 16 l.core + put 27 24 l.slot
        | 0x04 => put 7 0 l.count + put 15 8 (match l.desc with | some d => ldLaw d | none => 0) + put 18 16 l.tune.state.code
        | 0x08 => match l.desc with | some d => put 23 0 (ldPeriod d) | none => 0
        | 0x0C => unsigned 24 (l.held.getD 0 0)
        | 0x10 => unsigned 24 (l.ins.getD 0 0)
        | 0x14 => unsigned 24 (clampI (-8388608) 8388607 l.resid)
        | 0x18 => lo32 l.lastT0
        | 0x1C => l.latchHi
        | _ => 0

/-- The MOT window (13_motion R429). -/
def viewMot (s : State) (o : Nat) : Nat :=
  let cnt (f : AxState → Bool) : Nat := countIn s.mot.ax fun a => f a.state
  if o = 0 then put 6 0 (cnt (· != .off)) + put 14 8 (cnt fun x => x == .moving || x == .homing || x == .stopping) + put 22 16 (cnt (· == .fault))
  else match elem o 0x1000 32 64 with
  | none => 0
  | some (n, k) =>
    let a := s.mot.ax.get n
    match k with
    | 0x00 => put 2 0 a.state.code + put 5 4 (if a.state = .off then 0 else adKind a.desc) + putB 8 a.homed + putB 9 a.inpos + putB 10 a.phaseLost +
        putB 11 a.newest + put 18 16 a.cause
    | 0x04 => loI a.pos
    | 0x08 => a.cmdHi
    | 0x0C => loI a.act
    | 0x10 => a.actHi
    | 0x14 => satI (a.vel / 65536)
    | 0x18 => put 9 0 a.phase + put 31 16 (min a.seg 65535)
    | 0x1C => satI (a.fe / 65536)
    | _ => 0

/-- The FBK window (14_feedback R448). -/
def viewFbk (s : State) (o : Nat) : Nat :=
  match o with
  | 0x00 => put 5 0 (countIn s.fbk.ch fun c => fbMode c.desc != 0) + put 13 8 (countIn s.fbk.ch (·.bad)) + put 21 16 (countIn s.fbk.ch (·.implaus))
  | 0x08 => lo32 s.fbk.snapAt
  | 0x0C => s.fbk.snapHi
  | _ => match elem o 0x1000 64 32 with
    | none => 0
    | some (n, k) =>
      let c := s.fbk.ch.get n
      let live := fbkSpeed c.desc c.chg c.vmag c.rneg s.tmb.now
      match k with
      | 0x00 => put 1 0 (fbMode c.desc) + putB 2 c.bad + putB 3 c.implaus + putB 5 c.i0.isSome + putB 6 c.neg + put 10 8 c.sector + put 13 12 c.run
      | 0x04 => loI (if s.fbk.snapUnread then c.snapP else c.p)
      | 0x08 => c.posHi
      | 0x0C => satI ((if s.fbk.snapUnread then c.snapV else live) / 65536)
      | 0x10 => loI c.idxObs
      | 0x14 => satI c.idxDev
      | 0x18 => lo32 c.idxAt
      | 0x1C => c.idxHi
      | 0x20 => lo32 c.lastFire
      | 0x24 => c.fireHi
      | 0x28 => put 10 0 c.list.length + put 31 16 (min c.done 65535)
      | 0x2C => put 15 0 (c.errs.filter fun t => decide (s.tmb.now < t + 1000000)).length
      | _ => 0

/-- Samples per µs of a group's bursts: 0 for OFF and SCAN (11_converter R378). -/
def cnvRate (k : CnvGroup) : Nat := if isBurst k.cfg.mode then 125 * k.slices.length else 0

/-- The CNV window (11_converter R378). The queue's consumers take every entry at once, so LEVEL is 0. -/
def viewCnv (s : State) (o : Nat) : Nat :=
  let ns := List.range 16
  match o with
  | 0x00 => putB 0 s.cnv.ready + putB 1 s.cnv.clkOk + putB 2 s.cnv.fg.isSome + putB 3 s.cnv.stale + putB 4 s.cnv.b1 +
      put 20 16 (ns.filter fun n => (s.cnv.slice.get n).failed == 0).length
  | 0x10 => ns.foldl (fun a n => a + putB n ((s.cnv.slice.get n).failed != 0)) 0
  | 0x14 => lo32 s.cnv.tgen
  | _ => match elem o 0x1000 32 4 with
    | some (n, k) =>
      let g := s.cnv.group.get n
      match k with
      | 0x00 => put 1 0 g.cfg.mode + put 7 4 g.cfg.input + putB 8 g.degraded + putB 9 g.deferSince.isSome
      | 0x04 => put 10 0 (cnvRate g)
      | 0x0C => put 8 0 g.cfg.avg + put 19 16 g.cfg.shift
      | 0x10 => lo32 g.lastStamp
      | 0x14 => g.latchHi
      | 0x18 => lo32 g.passes
      | _ => 0
    | none => match elem o 0x2000 16 16 with
      | none => 0
      | some (n, k) =>
        let x := s.cnv.slice.get n
        let g := s.cnv.group.get (n / 4)
        match k with
        | 0x0 =>
          let used := (List.range 4).any fun q => (s.cnv.group.get q).slices.contains n
          put 1 0 (if x.failed ≠ 0 then 2 else if used then 1 else if isBurst g.cfg.mode then 3 else 0) + put 7 4 x.failed
        | 0x4 => unsigned 24 x.offset
        | 0x8 => unsigned 24 x.gain
        | 0xC => unsigned 16 x.delay
        | _ => 0

/-- The CAP window (12_capture R406). -/
def viewCap (s : State) (o : Nat) : Nat :=
  match o with
  | 0x00 => put 4 0 (countIn s.cap.ch fun c => c.state == .armed || c.state == .post || c.state == .rearm) + putB 8 (skewValid s) +
      put 19 16 (fld s fCapCtrlMemGib)
  | _ => match elem o 0x20 4 4 with
    | some (n, _) => le s.cap.missData (4 * n) 4
    | none => match elem o 0x1000 32 16 with
      | none => 0
      | some (n, k) =>
        let c := s.cap.ch.get n
        match k with
        | 0x00 => put 2 0 c.state.code + put 5 4 c.desc.source + put 10 8 c.desc.trig + putB 11 c.mask.isSome + put 19 12 (min c.vcount 255)
        | 0x04 => lo32 c.next
        | 0x08 => put 16 0 c.held.length
        | 0x0C => put 10 0 c.miss.length
        | 0x10 => lo32 c.lastTrig
        | 0x14 => c.latchHi
        | 0x18 => put 24 0 (capEligible c).length
        | _ => 0

/-- The level of a Quench pin as the ball reads back (12_capture R398): the driven level, the other one while a mismatch is present. -/
def qchLevel (s : State) (n : Nat) : Bool :=
  let a := (s.qch.pin.get n).activeSince.isSome
  let drive := if flag s (fQchPinPol n) then a else !a
  if (s.qch.pin.get n).mismatch then !drive else drive

/-- The QCH window (R407). -/
def viewQch (s : State) (o : Nat) : Nat :=
  let act (n : Nat) : Bool := (s.qch.pin.get n).activeSince.isSome
  if o = 0 then (List.range 16).foldl (fun a n => a + putB n (act n) + putB (16 + n) (flag s (fQchPinFault n))) 0
  else match elem o 0x1000 16 16 with
  | none => 0
  | some (n, k) =>
    let p := s.qch.pin.get n
    match k with
    | 0x4 => putB 0 (act n) + putB 1 p.latch + putB 4 p.srcCap + putB 5 (!p.anv.isEmpty) + putB 6 (bit (fld s fQchForceForce) n) + putB 7 p.fatal +
        putB 8 (qchLevel s n) + putB 17 p.relRefused
    | 0x8 => lo32 p.last
    | 0xC => p.latchHi
    | _ => 0

/-- The CAN window (16_canfd R495). -/
def viewCan (s : State) (o : Nat) : Nat :=
  let c8 := List.range 8
  if o = 0 then
    c8.foldl (fun a n => a + putB n ((canC s n).state != .off) + putB (8 + n) ((canC s n).state == .errorPassive) +
      putB (16 + n) ((canC s n).state == .busOff)) 0
  else match elem o 0x1000 64 8 with
  | none => 0
  | some (n, k) =>
    let x := canC s n
    match k with
    | 0x00 => put 1 0 x.state.code + put 3 2 (cdMode x.desc) + putB 4 (cdFlag x.desc 0) + putB 5 (x.integrating || x.recovering) + put 10 8 x.lec
    | 0x04 => put 8 0 x.tec + put 23 16 x.recv
    | 0x08 => put 6 0 x.q.length + (if cdFlag x.desc 0 then (List.range 3).foldl (fun a b => a + putB (8 + b) (x.q.any fun f => cfBuffer f.frame == b)) 0 else 0) +
        put 22 16 x.tdcv
    | 0x10 => lo32 x.lastSof
    | 0x14 => x.latchHi
    | 0x18 => lo32 x.prod
    | _ => 0

/-- The STN window (15_stations R476). -/
def viewStn (s : State) (o : Nat) : Nat :=
  let cnt (f : StnState → Bool) : Nat := countIn s.stn.st fun x => f x.state
  match o with
  | 0x00 => (List.range 4).foldl (fun a p => a + putB p (stnPort s p).link) 0 + put 20 8 (cnt (· == .run))
  | 0x04 => put 12 0 (cnt (· != .unused)) + put 28 16 (cnt fun x => x == .lost || x == .failed)
  | 0x18 => lo32 s.stn.build
  | 0x1C => hi32 s.stn.build
  | 0x20 => lo32 s.mram.token
  | 0x24 => put 7 0 (tokenModule s) + putB 31 s.par.holds
  | 0x28 => put 6 0 s.stn.disc.length
  | _ => match elem o 0x1000 64 4 with
    | some (n, k) =>
      let p := stnPort s n
      match k with
      | 0x00 => put 2 0 (le p.desc 0 1) + putB 4 p.link
      | 0x04 => put 10 0 p.lq.length
      | 0x08 => le (portMac p.desc) 0 4
      | 0x0C => le (portMac p.desc) 4 2
      | 0x10 => lo32 p.rx
      | 0x14 => lo32 p.tx
      | _ => 0
    | none => match elem o 0x2000 16 64 with
      | some (n, k) => match s.stn.disc[n]?, k with
        | some d, 0x0 => le d.mac 0 4
        | some d, 0x4 => le d.mac 4 2 + put 17 16 d.port + put 23 20 d.verMin + put 27 24 d.verMax
        | some d, 0x8 => lo32 d.vendor
        | some d, 0xC => lo32 d.product
        | _, _ => 0
      | none => match elem o 0x40000 32 4096 with
        | none => 0
        | some (n, k) =>
          let x := s.stn.st.get n
          match k with
          | 0x00 => put 2 0 x.state.code + put 5 4 (if x.state = .unused then 0 else enPort x.entry) + put 9 8 x.ver + put 13 12 x.sstate +
              putB 16 x.timedOut + putB 17 x.unsync + putB 18 x.tokenConflict
          | 0x04 => lo32 x.lastIn
          | 0x08 => x.latchHi
          | 0x0C => lo32 x.inSeq
          | 0x10 => match x.holdElapsed with | some t => lo32 t | none => 0xFFFFFFFF
          | 0x14 => lo32 x.token
          | 0x1C => if x.state = .unused then 0 else put 15 0 (layoutId x)
          | _ => 0

/-- The WLK window (18_pairing R552). -/
def viewWlk (s : State) (o : Nat) : Nat :=
  let w := s.wlk
  match o with
  | 0x00 => put 5 0 (moduleNo s) + putB 6 (w.master == some (moduleNo s)) + putB 7 w.conflict + put 13 8 (w.master.getD 0) +
      put 22 16 (countIn w.mods (·.isSome))
  | 0x10 => 0x0101
  | _ => match elem o 0x1000 32 4 with
    | none => 0
    | some (n, k) =>
      let p := wPort s n
      match k with
      | 0x00 => put 1 0 p.state.code + putB 2 p.lane0.works + putB 3 p.lane1.works + put 13 8 p.peer
      | 0x04 => put 15 0 p.ver + put 31 16 p.peerVer
      | 0x08 => put 15 0 p.rtt
      | 0x0C => put 15 0 p.hbCount
      | 0x10 => lo32 p.rx
      | 0x14 => lo32 p.tx
      | _ => 0

/-- The PAR window (18_pairing R553). -/
def viewPar (s : State) (o : Nat) : Nat :=
  let p := s.par
  match o with
  | 0x00 => put 2 0 p.state.code + putB 3 s.pwr.pairId + putB 4 p.actIn + putB 5 p.actOut + putB 6 p.formed + put 23 16 (min p.lag 255)
  | 0x10 => lo32 s.mram.token
  | 0x14 => put 15 0 (fwEcn s) + put 31 16 p.partnerEcn
  | 0x18 => lo32 p.partnerSerial
  | 0x1C => hi32 p.partnerSerial
  | 0x20 => put 2 0 p.xfer.code + put 13 8 p.passes + put 31 24 p.xferStatus.code
  | 0x24 => lo32 p.dirty
  | 0x28 => lo32 p.takeAt
  | 0x2C => p.latchHi
  | 0x30 => put 2 0 p.takeCause + put 15 8 (min p.skipped 255)
  | 0x34 => put 1 0 p.digKind + put 13 4 p.digIndex
  | 0x40 => put 6 0 p.selfProgress + put 15 8 p.selfFails + putB 16 p.overdue
  | 0x44 => lo32 p.selfAt
  | 0x48 => p.selfHi
  | _ => 0

/-- The REC window (17_recorder R518). -/
def viewRec (s : State) (o : Nat) : Nat :=
  let d := s.recd
  let l := logRecs s.mram.log
  match o with
  | 0x00 => putB 0 d.frozen.isSome + putB 1 d.volatile + putB 3 d.sparesOut + putB 4 d.evRing.isSome +
      putB 5 d.exp.isSome + put 31 19 d.holding.length
  | 0x10 => lo32 ((oldestSeq d.nextSeq l).getD d.nextSeq)
  | 0x14 => lo32 d.nextSeq
  | 0x18 => l.length
  | 0x1C => put 14 0 s.mram.log.retired + put 31 16 (min (Config.sparePages - s.mram.log.sparesUsed) 65535)
  | 0x20 => lo32 d.nextBlock
  | 0x24 => d.latchNextHi
  | 0x28 => lo32 d.expCursor
  | 0x2C => d.latchExpHi
  | _ => match elem o 0x40 4 8 with
    | some (n, _) => put 20 0 (l.filter fun r => r.sev == n).length
    | none => 0

/-- Seconds until ATTEST is allowed (19_hendel R579): the fourth newest signature leaves the hour. -/
def attestWait (s : State) : Nat :=
  match (signedRecent s)[3]? with
  | some t => (t + 3600000000000 - s.tmb.now + 999999999) / 1000000000
  | none => 0

/-- The HDL window (19_hendel R585). -/
def viewHdl (s : State) (o : Nat) : Nat :=
  let h := s.hdl
  match o with
  | 0x00 => put 0 0 h.running + putB 1 h.probation.isSome + putB 2 h.recovery + putB 3 h.otp.returned + putB 4 s.pwr.supplyBad +
      putB 5 s.pwr.clockBad + put 7 6 (if s.pwr.hot then 2 else if (List.range 24).any (fun n => (h.sensor.get n).warn) then 1 else 0) +
      putB 8 s.mram.hlog.volatile + put 11 9 s.pwr.cause
  | 0x20 => put 4 0 h.confirmed + put 15 8 (match h.probation with
      | some t => min ((t + 60000000000 - s.tmb.now + 999999999) / 1000000000) 60
      | none => 0)
  | 0x24 => le (otpLevels s) 0 4
  | 0x28 => le (otpLevels s) 4 4
  | 0x2C => put 20 0 (leavesLeft s)
  | 0x30 => put 11 0 (attestWait s)
  | 0x34 => lo32 s.mram.hlog.nextSeq
  | 0x38 => s.mram.hlog.recs.length
  | 0x3C => put 2 0 h.lastReason + put 31 16 h.lastLost
  | 0x300C => put 7 0 h.mbox.status.code + putB 8 h.mbox.done + put 31 16 h.mbox.bytes
  | _ => match elem o 0x10 8 2 with
    | some (n, k) =>
      let b := h.bank.get n
      if k = 0 then billetVersion b.billet % 2 ^ 24 + put 26 24 b.state.code
      else put 15 0 (billetEcn b.billet) + put 31 16 (billetFormat b.billet)
    | none => match elem o 0x1000 16 120 with
      | some (n, 0) => satI (h.sensor.get n).value
      | some (n, 4) => put 3 0 (le (sensorRec s n) 3 1) + put 9 8 (sensorKind n)
      | some _ => 0
      | none => match elem o 0x10000 4 16384 with
        | some (n, _) => if h.recovery then le h.mbox.window (4 * n) 4 else 0
        | none => 0

/-- COMMIT_STATUS of each window that has one (R12): its offset. -/
def commitStatusOff : Nat → Option Nat
  | 0x01 => some 0x0C | 0x02 => some 0x6C | 0x03 => some 0x24 | 0x04 => some 0x0C | 0x06 => some 0x14 | 0x07 => some 0x0C
  | 0x08 => some 0x1800C | 0x09 => some 0x0C | 0x0B => some 0x0C | 0x0C => some 0x0C | 0x0E => some 0x10 | 0x0F => some 0x0C
  | 0x10 => some 0x0C | 0x11 => some 0x0C | 0x12 => some 0x0C | 0x13 => some 0x0C
  | _ => none

/-- The read-only fields of the word at an address. -/
def viewOf (s : State) (a : Nat) : Nat :=
  let o := a % 0x100000
  let w := a / 0x100000
  let c := if commitStatusOff w = some o then put 7 0 (s.commits.get w).status.code + putB 8 (s.commits.get w).pending else 0
  c + (match w with
    | 0x00 => viewGlb s o | 0x01 => viewHif s o | 0x02 => viewTmb s o | 0x03 => viewPst s o | 0x04 => viewCyc s o | 0x05 => viewIle s o
    | 0x06 => viewHrt s o | 0x07 => viewSeq s o | 0x08 => viewAnv s o | 0x09 => viewMot s o | 0x0A => viewFbk s o | 0x0B => viewCnv s o
    | 0x0C => viewCap s o | 0x0D => viewCan s o | 0x0E => viewStn s o | 0x0F => viewWlk s o | 0x10 => viewPar s o | 0x11 => viewRec s o
    | 0x12 => viewHdl s o | 0x13 => viewQch s o | _ => 0)

/-- What a 32-bit read of BAR0 returns (R19, R22 to R25): stored and staged fields, read-only fields; 0 for a closed window or an offset that no
chapter assigns. -/
def regRead (s : State) (a : Nat) : Word :=
  if a % 4 ≠ 0 ∨ !windowOpen s (a / 0x100000) then 0
  else stagedOf s a ||| BitVec.ofNat 32 (viewOf s a)

end Sys2Proof.Machine
end

