-- ==== Sys2Proof/Machine/Program.lean ====
section
/-! DEFINITION. The program image and its checks (04_cycle_engine R156 to R162, R183). -/
namespace Sys2Proof.Machine
open Sys2Proof

/-- A result of the image checks: the failing status with the failing record's index, or a value (R161). -/
abbrev Chk (α : Type) := Except (Status × Nat) α

/-- One check. -/
def need (c : Bool) (st : Status) (i : Nat) : Chk Unit := if c then .ok () else .error (st, i)

/-- The first record of `n` that a test refuses. -/
def needAll (n : Nat) (p : Nat → Bool) (st : Status) : Chk Unit :=
  match (List.range n).find? (fun i => !p i) with
  | some i => .error (st, i)
  | none => .ok ()

/-- The class record with an index (R157). -/
def classRecAt (b : Bytes) (i : Nat) : ClassRec :=
  let r := slice b (le b 48 4 + 48 * i) 48
  let list (first n : Nat) : List Nat := (List.range n).map fun k => le b (le b 64 4 + 4 * (first + k)) 4
  { cls := le r 0 1
    prio := le r 1 1
    ovrLate := bit (le r 2 1) 0
    domain := bit (le r 2 1) 1
    wdLimit := if le r 3 1 = 0 then 3 else le r 3 1
    period := le r 4 4
    phase := le r 8 4
    outOfs := le r 12 4
    firstItem := le r 16 4
    itemCount := le r 20 4
    inputs := list (le r 24 4) (le r 28 4)
    outputs := list (le r 32 4) (le r 36 4) }

/-- The user type record with an index (R158). -/
def typeRecAt (b : Bytes) (i : Nat) : TypeRec :=
  let o := le b 52 4 + 32 * i
  ⟨le b o 4, le b (o + 4) 4, le b (o + 8) 4, le b (o + 12) 4⟩

/-- The work item record with an index (R159). -/
def itemRecAt (b : Bytes) (i : Nat) : ItemRec :=
  let o := le b 56 4 + 32 * i
  { type := le b o 2
    cls := le b (o + 2) 1
    firstInst := le b (o + 4) 4
    instCount := le b (o + 8) 4
    preds := le b (o + 12) 4
    succs := (List.range (le b (o + 20) 4)).map fun k => le b (le b 60 4 + 4 * (le b (o + 16) 4 + k)) 4 }

/-- The instance with an index: its descriptor and initial data (R160). -/
def instRecAt (b : Bytes) (types : List TypeRec) (i : Nat) : InstRec :=
  let io := le b 68 4
  let o := le b (io + 8 * i) 4
  let t := le b (io + 8 * i + 4) 2
  let n := if t < 0x100 then blkSize (slice b (io + o) (le b 72 4 - o)) else (types.getD (t - 0x100) default).dataBytes
  ⟨o, t, slice b (io + o) n⟩

/-- A region lies inside the image. -/
def regionOk (total off n : Nat) : Bool := off % 64 == 0 && decide (128 ≤ off) && decide (off + n ≤ total)

/-- Header counts and offsets within their ranges (R156). -/
def headerRanges (b : Bytes) : Bool :=
  let total := le b 24 4
  decide (128 ≤ total) && decide (total ≤ 1073741824) && decide (total ≤ b.length) &&
  decide (1 ≤ le b 32 2) && decide (le b 32 2 ≤ 32) && decide (le b 34 2 ≤ 4096) &&
  decide (1 ≤ le b 36 4) && decide (le b 36 4 ≤ 65536) && decide (1 ≤ le b 40 4) && decide (le b 40 4 ≤ 1048576) &&
  regionOk total (le b 48 4) (48 * le b 32 2) && regionOk total (le b 52 4) (32 * le b 34 2) &&
  regionOk total (le b 56 4) (32 * le b 36 4) && regionOk total (le b 60 4) 0 && regionOk total (le b 64 4) 0 &&
  regionOk total (le b 68 4) (8 * le b 40 4)

/-- A class record's fields within their ranges (R139, R157). -/
def classRanges (b : Bytes) (i : Nat) : Bool :=
  let r := classRecAt b i
  let total := le b 24 4
  let o := le b 48 4 + 48 * i
  decide (r.cls < 32) && decide (r.prio < 8) && decide (100 ≤ r.period) && decide (r.period ≤ 10000000) && decide (r.phase < r.period) &&
  decide (10 ≤ r.outOfs) && decide (r.outOfs ≤ r.period) && decide (1 ≤ r.itemCount) && decide (r.firstItem + r.itemCount ≤ le b 36 4) &&
  decide (le b (o + 28) 4 ≤ 262144) && decide (le b (o + 36) 4 ≤ 4096) &&
  decide (le b 64 4 + 4 * (le b (o + 24) 4 + le b (o + 28) 4) ≤ total) &&
  decide (le b 64 4 + 4 * (le b (o + 32) 4 + le b (o + 36) 4) ≤ total)

/-- A user type record's fields within their ranges (R158). -/
def typeRanges (b : Bytes) (i : Nat) : Bool :=
  let t := typeRecAt b i
  t.entry % 4 == 0 && decide (t.entry < le b 80 4) && decide (1 ≤ t.wcet) && decide (t.wcet ≤ 1000000) && decide (16 ≤ t.dataBytes) &&
  decide (t.dataBytes ≤ 65536) && t.dataBytes % 16 == 0 && decide (t.stack ≤ 16384)

/-- An item record's fields within their ranges (R159). -/
def itemRanges (b : Bytes) (i : Nat) : Bool :=
  let o := le b 56 4 + 32 * i
  let it := itemRecAt b i
  decide (it.cls < 32) && decide (1 ≤ it.instCount) && decide (it.instCount ≤ 4096) && decide (it.firstInst + it.instCount ≤ le b 40 4) &&
  decide (it.preds ≤ 65535) && decide (le b (o + 20) 4 ≤ 65535) &&
  decide (le b 60 4 + 4 * (le b (o + 16) 4 + le b (o + 20) 4) ≤ le b 24 4) && it.succs.all (fun j => decide (j < le b 36 4))

/-- Data an instance takes, in multiples of 16 (R160). -/
def pad16 (n : Nat) : Nat := (n + 15) / 16 * 16

/-- An instance's place, and for a built-in type its NIN, NOUT and words (R160, R161, R163, R164). -/
def instRanges (b : Bytes) (types : List TypeRec) (i : Nat) : Bool :=
  let x := instRecAt b types i
  let nin := le x.init 2 1
  x.off % 16 == 0 && decide (8 * le b 40 4 ≤ x.off) && decide (x.off + x.init.length ≤ le b 72 4) &&
  (decide (0x100 ≤ x.type) || !builtinCode x.type ||
    (decide (16 ≤ x.init.length) && (sigIn (le x.init 0 2) nin).isSome && le x.init 3 1 == (sigOut (le x.init 0 2) nin).length &&
      decide (x.init.length = blkSize x.init) && (le x.init 0 2 != 0x29 || (decide (2 ≤ blkTableN x.init) && decide (blkTableN x.init ≤ 32)))))

/-- The instances of an item have contiguous data in order (R160). -/
def itemContiguous (it : ItemRec) (insts : List InstRec) : Bool :=
  (List.range (it.instCount - 1)).all fun k =>
    let a := insts.getD (it.firstInst + k) default
    let c := insts.getD (it.firstInst + k + 1) default
    c.off == a.off + pad16 a.init.length

/-- A block type code is defined (R158, R164). -/
def typeDefined (b : Bytes) (t : Nat) : Bool := if t < 0x100 then builtinCode t else decide (t < 0x100 + le b 34 2)

/-- Reserved fields hold 0, where the minor version is the one this stepping writes (R156 to R163). -/
def reservedZero (b : Bytes) (m : Image) : Bool :=
  le b 4 1 != 0 ||
  (allZero (slice b 84 44) && decide (le b 44 4 < 2) &&
   (List.range (le b 32 2)).all (fun i => let o := le b 48 4 + 48 * i; allZero (slice b (o + 40) 8) && decide (le b (o + 2) 1 < 4)) &&
   (List.range (le b 34 2)).all (fun i => allZero (slice b (le b 52 4 + 32 * i + 16) 16)) &&
   (List.range (le b 36 4)).all (fun i => let o := le b 56 4 + 32 * i; allZero (slice b (o + 24) 8) && le b (o + 3) 1 == 0) &&
   (List.range (le b 40 4)).all (fun i => le b (le b 68 4 + 8 * i + 6) 2 == 0) &&
   m.classes.all (fun r => r.outputs.all fun s => decide (s < 4096)) &&
   m.insts.all (fun x => decide (0x100 ≤ x.type) || le x.init 6 2 == 0))

/-- Work out path costs in topological order: ready items, counters left, cost of the costliest path to each item, items seen. -/
def pathWalk (items : List ItemRec) (cost : Nat → Nat) : Nat → List Nat → SMap Nat → SMap Nat → Nat → SMap Nat × Nat
  | 0, _, _, dist, n => (dist, n)
  | _ + 1, [], _, dist, n => (dist, n)
  | f + 1, i :: rest, cnt, dist, n =>
    let d := dist.get i + cost i
    let (ready, cnt, dist) := (items.getD i default).succs.foldl (fun (a : List Nat × SMap Nat × SMap Nat) j =>
      let k := a.2.1.get j - 1
      (if k = 0 then a.1 ++ [j] else a.1, a.2.1.set j k, a.2.2.set j (max (a.2.2.get j) d))) (rest, cnt, dist)
    pathWalk items cost f ready cnt dist (n + 1)

/-- The costliest path of a class in ns, with the number of its items that a topological order reaches (R161). -/
def classPath (m : Image) (r : ClassRec) : Nat × Nat :=
  let mine := (List.range r.itemCount).map (· + r.firstItem)
  let data (i : Nat) : Bytes := (m.insts.getD i default).init
  let cost (i : Nat) : Nat := 90 + itemCost m data (m.items.getD i default)
  let cnt := mine.foldl (fun k i => k.set i (m.items.getD i default).preds) (SMap.empty : SMap Nat)
  let (dist, n) := pathWalk m.items cost r.itemCount (mine.filter fun i => (m.items.getD i default).preds == 0) cnt SMap.empty 0
  ((mine.map fun i => dist.get i + cost i).foldl max 0, n)

/-- Latch span of a class in half nanoseconds (R143). -/
def latchSpan2 (r : ClassRec) : Nat := 800 + 5 * r.inputs.length

/-- The latch span plus the costliest path plus `extra` ns ends 3 µs before OUT_OFS (R161, R182). -/
def spanOk (m : Image) (extra : Nat) (r : ClassRec) : Bool :=
  decide (latchSpan2 r + 2 * ((classPath m r).1 + extra) + 6000 ≤ 2000 * r.outOfs)

/-- Items point at successors of their own class, with PREDS as many as point at each (R161). -/
def graphOk (m : Image) : Bool :=
  let naming := m.items.foldl (fun k it => it.succs.foldl (fun k j => k.upd j (· + 1)) k) (SMap.empty : SMap Nat)
  (List.range m.items.length).all (fun i =>
    let it := m.items.getD i default
    naming.get i == it.preds && it.succs.all (fun j => (m.items.getD j default).cls == it.cls)) &&
  m.classes.all (fun r => (classPath m r).2 == r.itemCount)

/-- Every item lies in the range of exactly one class, whose number it carries (R161). -/
def itemsOwned (m : Image) : Bool :=
  (List.range m.items.length).all fun i =>
    match m.classes.filter (fun r => decide (r.firstItem ≤ i) && decide (i < r.firstItem + r.itemCount)) with
    | [r] => r.cls == (m.items.getD i default).cls
    | _ => false

/-- No class number twice (R157). -/
def classesUnique (m : Image) : Bool := (m.classes.map (·.cls)).eraseDups.length == m.classes.length

/-- Types of an instance's ids in a map; none for id 0 or an unmapped id. -/
def idTypes (p : PointMap) (l : List Nat) : List (Option PType) := l.map fun i => (mapFind (some p) i).map (·.type)

/-- An instance's words are values in their layout and meet R610 (R161). -/
def instWordsOk (p : PointMap) (x : InstRec) : Bool :=
  let b := blkParse x.init
  let t := blkType b.type (idTypes p b.ins) (idTypes p b.outs)
  ((blkPars x.init).zip b.par).all (fun e => e.1.fits t e.2) && ((stateWords b.type).zip b.st).all (fun e => e.1.fits t e.2) &&
  normVal t b.subst == b.subst && blkParamsOk b.type t b.par

/-- The checks of a program image in the order of R161, for a slot with map `map`. -/
def programCheck (s : State) (slot : Nat) (b : Bytes) : Chk Image := do
  let busy : Bool := (s.cyc.slot == slot && (s.cyc.state == .running || anyPending s)) || s.cyc.weld.state != .none
  need (!busy) .state 0
  need (decide (b.take 4 ≠ magic 'P' '7' '2' 'G')) .version 0
  need (decide (b.take 4 = magic 'P' 'S' 'C' 'G')) .badField 0
  need (le b 5 1 == 1) .version 0
  need (le b 28 4 == (crc32c (slice b 32 (le b 24 4 - 32))).toNat) .checksum 0
  need (headerRanges b) .range 0
  needAll (le b 32 2) (classRanges b) .range
  needAll (le b 34 2) (typeRanges b) .range
  needAll (le b 36 4) (itemRanges b) .range
  let types := (List.range (le b 34 2)).map (typeRecAt b)
  needAll (le b 40 4) (instRanges b types) .range
  let m : Image := {
    version := le b 4 2
    ecn := le b 6 2
    build := le b 8 8
    mapBuild := le b 16 8
    bytes := le b 24 4
    persist := bit (le b 44 4) 0
    classes := (List.range (le b 32 2)).map (classRecAt b)
    types := types
    items := (List.range (le b 36 4)).map (itemRecAt b)
    insts := (List.range (le b 40 4)).map (instRecAt b types)
    code := slice b (le b 76 4) (le b 80 4) }
  needAll m.items.length (fun i => itemContiguous (m.items.getD i default) m.insts) .range
  need (decide (le b 72 4 ≤ 536870912) && decide (le b 80 4 ≤ 4194304) &&
    decide ((m.classes.map (·.inputs.length)).foldl (· + ·) 0 ≤ 1048576)) .noResource 0
  need (regionOk (le b 24 4) (le b 68 4) (le b 72 4) && regionOk (le b 24 4) (le b 76 4) (le b 80 4)) .range 0
  needAll m.insts.length (fun i => typeDefined b (m.insts.getD i default).type) .badField
  needAll m.items.length (fun i => let it := m.items.getD i default
    typeDefined b it.type && (List.range it.instCount).all fun k => (m.insts.getD (it.firstInst + k) default).type == it.type) .badField
  needAll m.insts.length (fun i => let x := m.insts.getD i default
    decide (0x100 ≤ x.type) || (le x.init 0 2 == x.type && decide (le x.init 4 1 < 3))) .badField
  need (reservedZero b m) .badField 0
  need (classesUnique m && itemsOwned m && graphOk m) .badField 0
  match (s.cyc.slots.get slot).map with
  | none => .error (.state, 0)
  | some p =>
    need (m.mapBuild == p.build) .state 0
    let has (i : Nat) : Bool := i != 0 && (mapFind (some p) i).isSome
    needAll m.classes.length (fun i => (m.classes.getD i default).inputs.all has) .noTarget
    let blk (i : Nat) : Bool := decide ((m.insts.getD i default).type < 0x100)
    let parsed (i : Nat) : BlkData := blkParse (m.insts.getD i default).init
    needAll m.insts.length (fun i => !blk i || ((parsed i).ins.all has && (parsed i).outs.all fun o => o == 0 || has o)) .noTarget
    needAll m.insts.length (fun i => !blk i || blkTypesOk (parsed i).type (idTypes p (parsed i).ins) (idTypes p (parsed i).outs)) .badField
    needAll m.insts.length (fun i => !blk i || instWordsOk p (m.insts.getD i default)) .range
    needAll m.insts.length (fun i => !blk i || (parsed i).outs.all fun o => match mapFind (some p) o with
      | some e => byProgram e
      | none => true) .denied
    needAll m.classes.length (fun i => spanOk m 0 (m.classes.getD i default)) .range
    .ok m

/-- PROGRAM_LOAD's effect once all its Slices have run (R161, R183): the result is the image's size. -/
def programLoad (s : State) (slot : Nat) (b : Bytes) : State × Status × Nat :=
  match programCheck s slot b with
  | .error (st, i) => (cycEvent (bump s cCycProgramRejected) evProgramRejected 0 i 0 slot, st, 0)
  | .ok m =>
    let s := { s with cyc := { s.cyc with
      state := if s.cyc.state = .idle then .loaded else s.cyc.state
      slots := s.cyc.slots.upd slot (fun x => { x with image := some m, data := initialData m }) } }
    (cycEvent s evProgramLoaded 0 0 0 slot, .ok, m.bytes)

end Sys2Proof.Machine
end

