-- ==== Sys2Proof/Machine/WeldOps.lean ====
section
/-! DEFINITION. On-line change (05_online_change R182 to R203): the carry map, the copy, the Weld and its gap, probation and revert. -/
namespace Sys2Proof.Machine
open Sys2Proof

/-- Words of 8 bytes of an instance's data. -/
def dataWords (b : Bytes) : Nat := b.length / 8

/-- The carry operation with an index (R187). -/
def carryOpAt (b : Bytes) (i : Nat) : CarryOp :=
  let o := 48 + 16 * le b 24 4 + 8 * i
  ⟨le b o 2, le b (o + 2) 2, le b (o + 4) 1⟩

/-- The carry map entry with an index (R185). -/
def carryEntryAt (b : Bytes) (i : Nat) : CarryEntry :=
  let o := 48 + 16 * i
  ⟨le b o 4, le b (o + 4) 4, le b (o + 8) 1 == 2, (List.range (le b (o + 10) 2)).map fun k => carryOpAt b (le b (o + 12) 4 + k)⟩

/-- An entry's own fields (R185): its rule, counts, and reserved bytes where the map's minor version is 0. -/
def carryEntryOk (b : Bytes) (i : Nat) : Bool :=
  let o := 48 + 16 * i
  let rule := le b (o + 8) 1
  let n := le b (o + 10) 2
  let first := le b (o + 12) 4
  (rule == 1 && n == 0 && first == 0 || rule == 2 && decide (1 ≤ n) && decide (n ≤ 8192) && decide (first + n ≤ le b 28 4)) &&
  (le b 4 1 != 0 || le b (o + 9) 1 == 0) && (i == 0 || decide (le b (48 + 16 * (i - 1)) 4 < le b o 4))

/-- The carry map's header, entries and operations are as R184 to R187 state, MAGIC first. -/
def carryFormOk (b : Bytes) : Bool :=
  decide (48 + 16 * le b 24 4 + 8 * le b 28 4 ≤ b.length) && decide (le b 24 4 ≤ 1048576) && decide (le b 28 4 ≤ 16777216) &&
  (le b 4 1 != 0 || (le b 6 2 == 0 && allZero (slice b 36 12))) &&
  (List.range (le b 24 4)).all (carryEntryOk b) &&
  (List.range (le b 28 4)).all fun i => decide ((carryOpAt b i).op < 8) && (le b 4 1 != 0 || allZero (slice b (53 + 16 * le b 24 4 + 8 * i) 3))

/-- A KEEP entry's two instances agree (R185). -/
def keepOk (o n : InstRec) : Bool :=
  if n.type < 0x100 then o.type == n.type && le o.init 2 2 == le n.init 2 2 else decide (0x100 ≤ o.type) && o.init.length == n.init.length

/-- A CONVERT entry's words lie inside the instances, for a built-in type in its state words (R182, R185). -/
def convertOk (o n : InstRec) (ops : List CarryOp) : Bool :=
  ops.all fun p => decide (p.newWord < dataWords n.init) && decide (p.oldWord < dataWords o.init) &&
    (decide (0x100 ≤ n.type) || decide (blkStOff n.init ≤ 8 * p.newWord))

/-- The signed 64-bit value nearest zero of a REAL64 code, saturated; a NaN gives 0 (R187). -/
def r64ToI64 (v : Nat) : Int :=
  match fpOf 52 11 v with
  | .nan => 0
  | .inf n => if n then -(2 ^ 63) else 2 ^ 63 - 1
  | .fin n q => clampI (-(2 ^ 63)) (2 ^ 63 - 1) (truncQ (if n then -q else q))

/-- A carried word (R187); a NaN's payload is left open. -/
def carryWord (op nan v : Nat) : Nat :=
  match op with
  | 1 => unsigned 64 (signed 32 v)
  | 2 => v % 2 ^ 32
  | 3 => fpCode 52 11 0 (fpSigned false ((signed 64 v : Int) : Rat))
  | 4 => unsigned 64 (r64ToI64 v)
  | 5 => fpCode 52 11 nan (fpOf 23 8 (v % 2 ^ 32))
  | 6 => fpCode 23 8 nan (fpOf 52 11 v)
  | 7 => min (v * 1000) (2 ^ 64 - 1)
  | _ => v

/-- The data a carried instance starts with (R185). -/
def carryData (nan : Nat) (e : CarryEntry) (old : Bytes) (n : InstRec) : Bytes :=
  if e.convert then
    e.ops.foldl (fun d p => bytesPut d (8 * p.newWord) (leBytes 8 (carryWord p.op nan (le old (8 * p.oldWord) 8)))) n.init
  else if n.type < 0x100 then n.init.take (blkStOff n.init) ++ slice old (blkStOff n.init) (n.init.length - blkStOff n.init)
  else old

/-- Copy every carried instance from the old program's data into the new slot (R186, R188). -/
def carryAll (s : State) : State :=
  let w := s.cyc.weld
  let old := s.cyc.slots.get (1 - w.newSlot)
  let m := slotImage s w.newSlot
  let (f, s) := drawFree s
  let d := w.carry.foldl (fun d e => d.set e.newInst (carryData f.toNat e (old.data.get e.oldInst) (m.insts.getD e.newInst default)))
    (s.cyc.slots.get w.newSlot).data
  { s with cyc := { s.cyc with slots := s.cyc.slots.upd w.newSlot (fun x => { x with data := d }) } }

/-- Lines of old instance data that the carry map names (R188). -/
def carryLines (m : Image) (l : List CarryEntry) : List Nat :=
  l.foldl (fun a e => let x := m.insts.getD e.oldInst default; listUnion a (linesOf x.off x.init.length)) []

/-- The checks of a WELD in the order of R182, past the standby check. -/
def weldCheck (s : State) (c : Cmd) (b : Bytes) : Status :=
  let o := slotImage s s.cyc.slot
  let nslot := s.cyc.slots.get c.unit
  let n := slotImage s c.unit
  let ents := (List.range (le b 24 4)).map (carryEntryAt b)
  if s.cyc.weld.state ≠ .none then .busy
  else if s.cyc.state ≠ .running ∨ c.unit = s.cyc.slot ∨ nslot.image.isNone then .state
  else if (match nslot.map with | some p => p.build != n.mapBuild | none => true) then .state
  else if 65535 < c.arg then .range
  else if b.take 4 ≠ magic 'P' 'S' 'C' 'W' then .badField
  else if le b 5 1 = 1 ∧ !carryFormOk b then .badField
  else if le b 5 1 ≠ 1 then .version
  else if le b 32 4 ≠ (crc32c (b.drop 48)).toNat then .checksum
  else if le b 8 8 ≠ o.build ∨ le b 16 8 ≠ n.build then .state
  else if ents.any (fun e => decide (n.insts.length ≤ e.newInst) || decide (o.insts.length ≤ e.oldInst) ||
      (e.convert && !convertOk (o.insts.getD e.oldInst default) (n.insts.getD e.newInst default) e.ops)) then .range
  else if ents.any (fun e => !e.convert && !keepOk (o.insts.getD e.oldInst default) (n.insts.getD e.newInst default)) then .badField
  else if n.classes.any (fun r => !spanOk n 50000 r) then .range
  else .ok

/-- WELD (R182, R188): accepted, it copies. -/
def weldStart (s : State) (c : Cmd) : State :=
  match weldCheck s c c.data with
  | .ok =>
    let b := c.data
    let ents := (List.range (le b 24 4)).map (carryEntryAt b)
    let s := weldUpd s fun w => { w with
      state := .copying
      newSlot := c.unit
      probation := if c.arg = 0 then 100 else c.arg
      left := 0
      carry := ents
      cmd := some c.handle
      revertCmd := none
      passes := 0
      dirty := carryLines (slotImage s s.cyc.slot) ents
      deferred := 0
      since := s.tmb.now
      trigger := .none
      inGap := false
      removed := [] }
    weldEvent s evWeldStarted 0
  | st => endCmd (event s evWeldRejected [(2, c.unit), (8, 0), (4, 0), (1, 0)]) c.handle st 0 0

/-- WELD (R182). -/
def execWeld (h : Nat) (data : Option Bytes) (s : State) : Res := ok (startCmd s h 0x23 data weldStart)

/-- Bytes of tracked lines a pass may leave (R189). -/
def weldLimit : Nat := 262144

/-- WELD_COPY_PASS (R188, R189): a pass that began with the tracked lines `copied` ends at Timeline `t`; the lines written since remain. -/
def weldCopyPass (t : Nat) (copied : List Nat) (s : State) : State :=
  let w := s.cyc.weld
  if w.state ≠ .copying ∧ (w.state ≠ .waiting ∨ 64 * w.dirty.length ≤ weldLimit) then s
  else
    let s := carryAll (advance s t)
    let left := w.dirty.filter fun l => !copied.contains l
    let n := w.passes + 1
    let s := weldUpd s fun w => { w with passes := n, dirty := left }
    if 64 * left.length ≤ weldLimit then
      weldUpd s fun w => { w with state := .waiting, since := if w.state = .waiting then w.since else s.tmb.now }
    else if 16 ≤ n then weldAbandon s .timeout
    else s

/-- WELD_COPY_PASS (R188). -/
def execWeldCopyPass (t : Nat) (copied : List Nat) (s : State) : Res := ok (weldCopyPass t copied s)

/-- WELD_WAIT_TIMEOUT (R190): 10 s without a candidate. -/
def execWeldWaitTimeout (s : State) : Res :=
  if s.cyc.weld.state = .waiting then ok (weldAbandon (advance s (s.cyc.weld.since + 10000000000)) .timeout) else ok s

/-- The classes of a program from W on (R192): each latches at its first instant at or after W on its own grid. -/
def classesAt (s : State) (m : Image) (w : Nat) : SMap ClassRun :=
  m.classes.foldl (fun a r => a.set r.cls (classInit s r (instantFrom r (gridOffset s r) w) false)) (SMap.empty : SMap ClassRun)

/-- The Point Store and the instance descriptors pass to another slot's program at W (R191 to R193). -/
def switchTo (s : State) (slot w : Nat) (back : List (Nat × PointRec)) : State :=
  let s := match s.pst.map, (s.cyc.slots.get slot).map with
    | some o, some n => ileRefsNote (mapSwitch s o n back)
    | _, _ => s
  { s with cyc := { s.cyc with slot := slot, classes := classesAt s (slotImage s slot) w } }

/-- The length of a gap in whole µs (R191). -/
def gapUs (w t : Nat) : Nat := min ((t - w + 999) / 1000) 255

/-- Records of the points a map names and another does not (R198). -/
def removedRecs (s : State) (o n : Option PointMap) : List (Nat × PointRec) :=
  match o with
  | none => []
  | some m => m.entries.filterMap fun e => if (mapFind n e.id).isSome then none else some (e.id, s.pst.points.get e.id)

/-- WELD_GAP_END (R191, R192, R199): the gap ends at Timeline `t`; `good` says the copied data and the new map passed their checks. -/
def weldGapEnd (t : Nat) (good : Bool) (s : State) : State :=
  let w := s.cyc.weld
  if w.state ≠ .switching then s
  else
    let s := advance s t
    let s := weldUpd s fun x => { x with gapUs := gapUs w.at' t, inGap := false }
    if !good then weldAbandon s .faulted
    else
      let s := carryAll s
      let recs := removedRecs s s.pst.map (s.cyc.slots.get w.newSlot).map
      let pace := (paceOf (slotImage s s.cyc.slot).classes).getD default
      let p := pace.period * 1000
      let n := ((w.at' : Int) + gridOffset s pace - pace.phase * 1000) / (if p = 0 then 1 else p)
      let s := switchTo s w.newSlot w.at' []
      let s := weldUpd s fun x => { x with state := .probation, left := x.probation, dirty := [], cmd := none, lastStatus := .ok, removed := recs }
      let s := weldEvent s evWeldDone 0
      match w.cmd with
      | some h => endCmd s h .ok (unsigned 32 n) 0
      | none => s

/-- WELD_GAP_END (R192). -/
def execWeldGapEnd (t : Nat) (good : Bool) (s : State) : Res := ok (weldGapEnd t good s)

/-- WELD_CONFIRM (R196, R197). -/
def execWeldConfirm (h : Nat) (s : State) : Res :=
  ok (startCmd s h 0x24 (some []) fun s c =>
    if s.cyc.weld.state = .probation then endCmd (weldConfirm s) c.handle .ok 0 0 else endCmd s c.handle .state 0 0)

/-- WELD_REVERT (R197): abandons a Weld before W, reverts one in probation. -/
def weldRevert (s : State) (c : Cmd) : State :=
  match s.cyc.weld.state with
  | .copying | .waiting => endCmd (weldAbandon s .aborted) c.handle .ok 0 0
  | .probation => weldUpd (weldTrigger s .command) fun w => { w with revertCmd := some c.handle }
  | _ => endCmd s c.handle .state 0 0

/-- WELD_REVERT (R197). -/
def execWeldRevert (h : Nat) (s : State) : Res := ok (startCmd s h 0x25 (some []) weldRevert)

/-- A free code for a trigger: R201 has the trigger in the payload and gives its codes no numbers. -/
def triggerEvent (s : State) (k : EvKind) : State :=
  let (f, s) := drawFree s
  weldEvent s k (f.toNat % 256)

/-- A revert fails (R199): the Cycle Engine stops with WELD_FAIL. -/
def revertFail (s : State) : State :=
  let s := triggerEvent s evWeldRevertFailed
  let s := match s.cyc.weld.revertCmd with | some h => endCmd s h .faulted 0 0 | none => s
  let s := cycStop (weldUpd s fun w => { w with revertCmd := none }) .weldFail
  weldUpd s fun w => { w with lastStatus := .faulted }

/-- WELD_REVERT_GAP_END (R198, R199): the revert's gap ends at Timeline `t` with the old program running again. -/
def weldRevertGapEnd (t : Nat) (good : Bool) (s : State) : State :=
  let w := s.cyc.weld
  if w.state ≠ .reverting ∨ !w.inGap then s
  else
    let s := advance s t
    let s := weldUpd s fun x => { x with gapUs := gapUs w.at' t }
    if !good then revertFail s
    else
      let s := switchTo s (1 - w.newSlot) w.at' w.removed
      let s := triggerEvent s evWeldReverted
      let s := match w.revertCmd with | some h => endCmd s h .ok 0 0 | none => s
      weldUpd s fun x => { x with state := .none, lastStatus := .ok, left := 0, revertCmd := none, removed := [], inGap := false }

/-- WELD_REVERT_GAP_END (R198). -/
def execWeldRevertGapEnd (t : Nat) (good : Bool) (s : State) : Res := ok (weldRevertGapEnd t good s)

/-- REVERT_INSTANT_TIMEOUT (R199): a revert finds no instant within 100 ms. -/
def execRevertInstantTimeout (s : State) : Res :=
  if s.cyc.weld.state = .reverting ∧ !s.cyc.weld.inGap then ok (revertFail (advance s (s.cyc.weld.since + 100000000))) else ok s

end Sys2Proof.Machine
end

