-- ==== Sys2Proof/Machine/Commands.lean ====
section
/-! DEFINITION. Fetching a descriptor, the loss of the host's access, the sliced commands and their Slices (03_host_rings R104, R120 to R130), and
the commands that serve several blocks: TIME_READ and LAUNCH. -/
namespace Sys2Proof.Machine
open Sys2Proof

/-! ### Fetch and loss of access -/

/-- DESC_FETCH (R117, R120, R121, R134): SQ `n` fetches its next descriptor; `d`: its bytes, none where the read fails on the link. -/
def descFetch (n : Nat) (d : Option Bytes) (s : State) : State :=
  if 64 ≤ n ∨ !sqWaiting s n then s
  else if !creditOk s n then bump s cHifCreditStall
  else if !sqTurn s n then s
  else
    let s := sqUseTurn s n
    match d with
    | none => haltSq (bump s cHifDataFault) n .descFetch
    | some b =>
      let c := cmdOf s n b
      let s := { bump s cHifCmdFetched with hif := { s.hif with
        sq := s.hif.sq.upd n (fun q => { q with head := (q.head + 1) % sqSize s n })
        nextHandle := s.hif.nextHandle + 1
        cmds := s.hif.cmds ++ [c] } }
      let (s, st) := fetchCheck s s.par.standby c b
      match st with
      | some x => endCmd s c.handle x 0 0
      | none => s

/-- DESC_FETCH (R120). -/
def execDescFetch (n : Nat) (d : Option Bytes) (s : State) : Res := ok (descFetch n d s)

/-- What a sliced command leaves behind when it stops before its end (R125). -/
def sliceStop (s : State) (c : Cmd) : State :=
  match c.opcode with
  | 0x26 => match s.ile.next with
    | some n => if n.cmd = some c.handle then { s with ile := { s.ile with next := none } } else s
    | none => s
  | 0x49 => match s.cnv.fg with
    | some f => if f.cmd = some c.handle then temperFail s else s
    | none => s
  | 0x69 => if s.par.xferCmd = some c.handle then xferFail s .aborted else s
  | 0x70 => match bankIn s .staging with
    | some n => hdlChanged (bankUpd s n fun _ => ⟨.empty, []⟩)
    | none => s
  | _ => s

/-- HOST_ACCESS_LOSS (R104, R105): link-down, reset, loss of Bus Master Enable or D3hot at `t`; `link`: the link itself went down. -/
def hostAccessLoss (link : Bool) (t : Nat) (s : State) : State :=
  let s := advance s t
  let s := (List.range 64).foldl (fun s n => setFld (setFld s (fHifSqEnable n) 0) (fHifCqEnable n) 0) s
  let s := (s.pst.views.entries.filter fun e => e.2.state != .closed).foldl (fun s e => viewClose s e.1) s
  let s := { s with
    recd := { s.recd with evRing := none, exp := none }
    hif := { s.hif with version := 0, ready := s.hif.ready && !link } }
  let own := s.hif.cmds.filter fun c => c.sq != mirrorSq
  let s := (own.filter fun c => c.started && c.ended.isNone && opSliced c.opcode).foldl (fun s c =>
    endCmd (sliceStop (sliceDrop s c.handle) c) c.handle .aborted 0 c.done) s
  let s := { s with hif := { s.hif with cmds := s.hif.cmds.filter fun c => c.sq == mirrorSq || c.started } }
  statusChanged (linkEvent (bump s cHifLinkDown) evLinkDown (if s.hif.ready then s.hif.linkSpeed + 16 * Nat.log2 s.hif.linkWidth else 0))

/-- HOST_ACCESS_LOSS (R104). -/
def execHostAccessLoss (link : Bool) (t : Nat) (s : State) : Res := ok (hostAccessLoss link t s)

/-! ### Starts of the sliced commands -/

/-- A sliced command has `n` units to do: its first Slice goes to Hearth. -/
def sliceTotal (s : State) (h n : Nat) : State := slicePass (cmdUpd s h fun c => { c with total := n })

/-- POINT_READ starts (R74, R89): units are points. Of the tiles its points lie in, `fails` fail their check when fetched for it (R84, R85). -/
def execPointRead (h : Nat) (data : Option Bytes) (fails : List Nat) (s : State) : Res :=
  ok (startCmd s h 0x10 data fun s c =>
    let reads (t : Nat) : Bool := (List.range c.arg).any fun i => tileOf (le c.data (4 * i) 4) == t
    sliceTotal ((fails.eraseDups.filter fun t => reads t && !s.pst.badTiles.contains t).foldl tileFetchFails s) h c.arg)

/-- POINT_WRITE starts (R128, R129): units are entries. -/
def execPointWrite (h : Nat) (data : Option Bytes) (s : State) : Res :=
  ok (startCmd s h 0x11 data fun s c => sliceTotal s h c.arg)

/-- POINT_LOOKUP starts (R77, R127): units are names. -/
def execPointLookup (h : Nat) (data : Option Bytes) (s : State) : Res :=
  ok (startCmd s h 0x12 data fun s c => sliceTotal s h c.arg)

/-- MAP_LOAD starts (R78): units are bytes. -/
def execMapLoad (h : Nat) (data : Option Bytes) (s : State) : Res :=
  ok (startCmd s h 0x13 data fun s c => sliceTotal s h c.data.length)

/-- VIEW_OPEN starts (R93): units are ids; `desc`: the 64-byte view descriptor at ADDR2. -/
def execViewOpen (h : Nat) (data : Option Bytes) (desc : Bytes) (s : State) : Res :=
  ok (startCmd s h 0x14 data fun s c => sliceTotal (cmdUpd s h fun x => { x with data2 := desc }) h c.arg)

/-- VIEW_CHANGE starts (R93); `cons`: the consumer index at the view's CONS_ADDR, which shows whether its ring is empty (R13). -/
def execViewChange (h : Nat) (data : Option Bytes) (desc : Bytes) (cons : Option Nat) (s : State) : Res :=
  ok (startCmd s h 0x15 data fun s c =>
    let s := match cons with
      | some k => { s with pst := { s.pst with views := s.pst.views.upd c.unit fun v =>
          if v.state = .open then { v with cons := k % v.desc.records } else v } }
      | none => s
    sliceTotal (cmdUpd s h fun x => { x with data2 := desc }) h c.arg)

/-- FORCE_SET starts (R88, R128): units are entries. -/
def execForceSet (h : Nat) (data : Option Bytes) (s : State) : Res :=
  ok (startCmd s h 0x18 data fun s c => sliceTotal s h c.arg)

/-- FORCE_CLEAR starts (R90): units are ids, or with ARG2 bit 0 the forces of the table. -/
def execForceClear (h : Nat) (data : Option Bytes) (s : State) : Res :=
  ok (startCmd s h 0x19 data fun s c => sliceTotal s h (if bit c.arg2 0 then s.pst.forces.length else c.arg))

/-- FORCE_LIST starts (R127): units are forced points that the buffer holds. -/
def execForceList (h : Nat) (s : State) : Res :=
  ok (startCmd s h 0x1A (some []) fun s c => sliceTotal s h (min s.pst.forces.length (c.dataLen / 32)))

/-- A load is refused because the part is marked RETURNED (19_hendel R583). -/
def loadStart (op h : Nat) (data : Option Bytes) (s : State) : State :=
  startCmd s h op data fun s c =>
    if s.hdl.otp.returned then endCmd s h .denied 0 0 else sliceTotal s h c.data.length

/-- PROGRAM_LOAD starts (R161): units are bytes. -/
def execProgramLoad (h : Nat) (data : Option Bytes) (s : State) : Res := ok (loadStart 0x20 h data s)

/-- ILE_LOAD starts (R221). -/
def execIleLoad (h : Nat) (data : Option Bytes) (s : State) : Res := ok (loadStart 0x26 h data s)

/-- RECIPE_LOAD starts (R253). -/
def execRecipeLoad (h : Nat) (data : Option Bytes) (s : State) : Res := ok (loadStart 0x30 h data s)

/-- PROFILE_LOAD starts (R415). -/
def execProfileLoad (h : Nat) (data : Option Bytes) (s : State) : Res :=
  ok (startCmd s h 0x41 data fun s c => sliceTotal s h c.data.length)

/-- STN_TABLE_LOAD starts (R456). -/
def execStnTableLoad (h : Nat) (data : Option Bytes) (s : State) : Res :=
  ok (startCmd s h 0x55 data fun s c => sliceTotal s h c.data.length)

/-- TEMPER_RUN starts (R369): units are the slices of the converter; `loopReads`: a loaded loop has a CNV input. -/
def execTemperRun (h : Nat) (s : State) : Res :=
  ok (startCmd s h 0x49 (some []) fun s c =>
    let reads : Bool := s.anv.loop.entries.any fun e => match e.2.desc with
      | some d => (List.range 8).any fun i => (ldIn d i).kind == 2
      | none => false
    sliceTotal (temperRun s c reads) h 16)

/-- CAP_READ starts (R403): units are bytes. -/
def execCapRead (h : Nat) (s : State) : Res :=
  ok (startCmd s h 0x4D (some []) fun s c =>
    if c.dataLen % 64 ≠ 0 then endCmd s h .badField 0 0
    else if !(capCh s c.unit).held.any (fun g => g.index == c.arg) then endCmd s h .noTarget 0 0
    else sliceTotal s h c.dataLen)

/-- A log readout starts (R501): ARG the first SEQ, ARG2 the count, up to the newest record held now. -/
def logReadStart (s : State) (c : Cmd) (volatile : Bool) (next : Nat) : State :=
  if volatile then endCmd s c.handle .faulted 0 0
  else if c.arg2 = 0 ∨ 1048576 < c.arg2 then endCmd s c.handle .range 0 0
  else sliceTotal (cmdUpd s c.handle fun x => { x with pos := c.arg, lim := next }) c.handle c.arg2

/-- LOG_READ starts (R501). -/
def execLogRead (h : Nat) (s : State) : Res :=
  ok (startCmd s h 0x60 (some []) fun s c => logReadStart s c s.recd.volatile s.recd.nextSeq)

/-- HDL_LOG_READ starts (R566). -/
def execHdlLogRead (h : Nat) (s : State) : Res :=
  ok (startCmd s h 0x75 (some []) fun s c => logReadStart s c s.mram.hlog.volatile s.mram.hlog.nextSeq)

/-- TRACE_READ starts (R242): the most recent ARG2 records, oldest first. -/
def execTraceRead (h : Nat) (s : State) : Res :=
  ok (startCmd s h 0x66 (some []) fun s c =>
    let n := min (min c.arg2 traceMax) s.hrt.trace.length
    sliceTotal (cmdUpd s h fun x => { x with
      pos := (s.hrt.traceSeq + 2 ^ 32 + 1 - n) % 2 ^ 32
      lim := (s.hrt.traceSeq + 1) % 2 ^ 32 }) h n)

/-- STATE_TRANSFER starts (18_pairing R544): its passes are the rows of the transfer. -/
def execStateTransfer (h : Nat) (s : State) : Res :=
  ok (startCmd s h 0x69 (some []) fun s _ =>
    let ecn := fwEcn s
    let foreign (x : Option Image) : Bool := match x with | some m => m.ecn != 0 && m.ecn != ecn | none => false
    if s.par.standby then endCmd s h .state 0 0
    else if s.par.state ≠ .active ∨ s.par.partnerState = 0 then endCmd s h .noTarget 0 0
    else if s.par.partnerState ≠ PairState.standbyUnsync.code then endCmd s h .state 0 0
    else if s.par.partnerEcn ≠ ecn ∨ (s.cyc.state = .running ∧ foreign (s.cyc.slots.get s.cyc.slot).image) then endCmd s h .version 0 0
    else if s.par.xfer = .copying ∨ s.par.xfer = .cut ∨ s.par.xfer = .catchup then endCmd s h .busy 0 0
    else xferStart s (some h))

/-- BILLET_STAGE starts (19_hendel R570): units are bytes. -/
def execBilletStage (h : Nat) (data : Option Bytes) (s : State) : Res :=
  ok (startCmd s h 0x70 data fun s c =>
    let reject (s : State) (st : Status) : State :=
      endCmd (event (bump s cHdlBilletsRejected) evBilletRejected [(2, 0), (2, 0), (2, 0), (1, st.code), (1, 0), (4, 0)]) h st 0 0
    if (bankIn s .trial).isSome ∨ (bankIn s .staging).isSome then reject s .state
    else if 134217728 < c.dataLen then reject (hdlChanged (bankUpd s (spareBank s) fun _ => ⟨.empty, []⟩)) .noResource
    else sliceTotal (stageBegin s) h c.data.length)

/-! ### One Slice -/

/-- A map image is put into its slot (R78, R183): the result is its ENTRY_COUNT. -/
def mapLoad (s : State) (slot : Nat) (b : Bytes) : State × Status × Nat :=
  let reject (st : Status) (i : Nat) : State × Status × Nat :=
    (event (bump s cPstMapRejected) evMapRejected [(4, 0), (4, 0), (2, 0), (4, i)], st, 0)
  if (s.cyc.slot == slot && (s.cyc.state == .running || anyPending s)) || s.cyc.weld.state != .none then reject .state 0
  else match mapCheck b with
  | .error (st, i) => reject st i
  | .ok m =>
    let s := { s with cyc := { s.cyc with slots := s.cyc.slots.upd slot (fun x => { x with map := some m }) } }
    (event s evMapLoaded [(4, 0), (4, 0), (2, 0)], .ok, m.entries.length)

/-- The effect of a load whose last Slice has run: status and result. -/
def loadDone (s : State) (c : Cmd) : State × Status × Nat :=
  match c.opcode with
  | 0x13 => mapLoad s c.unit c.data
  | 0x14 => let (s, st) := viewSet s c.unit false c.data2 c.data c.arg; (s, st, 0)
  | 0x15 => let (s, st) := viewSet s c.unit true c.data2 c.data c.arg; (s, st, 0)
  | 0x20 => programLoad s c.unit c.data
  | 0x30 =>
    let (s, st, r) := recipeLoad s c.unit c.data
    (s, st, if st = .ok then riSteps c.data else r)
  | 0x41 => profileLoad s c.unit c.data
  | 0x55 => stnTableLoad s c.data
  | _ => match bankIn s .staging with
    | some n => stageEnd s n c.data
    | none => (s, .aborted, 0)

/-- One Slice of a load: `n` bytes or ids; with the last one its effect (R123, R125). -/
def loadSlice (s : State) (c : Cmd) (n : Nat) : State :=
  let d := min c.total (c.done + n)
  let s := cmdUpd s c.handle fun x => { x with done := d }
  if d < c.total then s
  else if c.opcode = 0x26 then (if c.count = 1 then s else ileLoad (cmdUpd s c.handle fun x => { x with count := 1 }) c.handle c.data)
  else
    let (s, st, r) := loadDone s { c with done := d }
    endCmd s c.handle st r d

/-- The units of a list readout from `i` on: `f` sends one and says whether it counts. -/
def readUnits (f : State → Nat → State × Bool) : Nat → Nat → Nat → State → State × Nat
  | 0, _, k, s => (s, k)
  | n + 1, i, k, s =>
    let (s, hit) := f s i
    readUnits f n (i + 1) (if hit then k + 1 else k) s

/-- A list command has done `n` more units, of which `k` in all count; with the last one it ends with that count. -/
def listDone (s : State) (c : Cmd) (n k : Nat) : State :=
  let d := c.done + n
  let s := cmdUpd s c.handle fun x => { x with done := d, count := k }
  if d < c.total then s else endCmd s c.handle .ok k d

/-- Clear forces one at a time (R90): the ids of the command, or the first of the table. -/
def clearUnit (c : Cmd) (s : State) (i : Nat) : State × Bool :=
  let f := if bit c.arg2 0 then s.pst.forces.head?
    else match forceFind s (le c.data (4 * i) 4) with
      | some f => if (mapFind s.pst.map f.id).isSome then some f else none
      | none => none
  match f with
  | some f => (forceClear s f, true)
  | none => (s, false)

/-- The forced point with the least id above `p` (R127). -/
def forceNext (s : State) (p : Nat) : Option Force :=
  s.pst.forces.foldl (fun a f => if f.id ≤ p then a else match a with
    | some g => if f.id < g.id then some f else some g
    | none => some f) none

/-- One Slice of FORCE_LIST: up to `n` records of each kind (R94, R127). -/
def forceListSlice : Nat → Cmd → State → State × Cmd × Bool
  | 0, c, s => (s, c, decide (c.total ≤ c.count))
  | n + 1, c, s =>
    if c.total ≤ c.count then (s, c, true)
    else match forceNext s c.pos with
      | none => (s, c, true)
      | some f =>
        let s := send s (.host (c.dataAddr + 32 * c.count) (hostRead s f.id false))
        let s := send s (.host (c.addr2 + 32 * c.count) (hostRead s f.id true))
        forceListSlice n { c with count := c.count + 1, done := c.count + 1, pos := f.id } s

/-- One Slice of CAP_READ (R403): up to `n` segments; `torn`: the first one was overwritten while it was copied. -/
def capSlice : Nat → Bool → Cmd → State → State × Cmd × Bool
  | 0, _, c, s => (s, c, false)
  | n + 1, torn, c, s =>
    if c.arg2 ≤ c.count then (s, c, true)
    else match (capCh s c.unit).held.find? (fun g => g.index == (c.arg + c.count) % 2 ^ 32) with
      | none => (s, c, true)
      | some g =>
        let tear : Bool := torn && (capCh s c.unit).desc.ring
        let b := segBytes g c.unit
        let b := if tear then leBytes 4 0xFFFFFFFF ++ (b.take 64).drop 4 else b
        if c.dataLen < c.done + b.length then (s, c, true)
        else
          let s := send (bump s (if tear then cCapReadTorn else cCapSegmentsRead)) (.host (c.dataAddr + c.done) b)
          capSlice n false { c with count := c.count + 1, done := c.done + b.length } s

/-- One Slice of TRACE_READ (R242): up to `n` records that are still held, oldest first. -/
def traceSlice (n : Nat) (c : Cmd) (s : State) : State × Cmd × Bool :=
  let off (q : Nat) : Nat := (q + 2 ^ 32 - c.pos) % 2 ^ 32
  let span := if c.total = 0 then 0 else off c.lim
  let l := (s.hrt.trace.filter fun r => decide (off r.seq < span)).take (min n (c.dataLen / 32 - c.count))
  let s := (List.range l.length).foldl (fun s i => send s (.host (c.dataAddr + 32 * (c.count + i)) (traceBytes (l.getD i default)))) s
  let c := { c with
    count := c.count + l.length
    done := c.count + l.length
    pos := match l.getLast? with | some r => (r.seq + 1) % 2 ^ 32 | none => c.pos }
  (s, c, decide (l.length < n) || c.pos == c.lim || decide (c.dataLen < 32 * (c.count + 1)))

/-- A readout's Slice ends: where it stands is kept, and at its end the command ends with the records written. -/
def readoutDone (r : State × Cmd × Bool) : State :=
  let (s, c, stop) := r
  let s := cmdUpd s c.handle fun x => { x with done := c.done, count := c.count, pos := c.pos }
  if stop then endCmd s c.handle .ok c.count c.done else s

/-- The effect of a Slice of `n` units (R123). -/
def sliceRun (s : State) (c : Cmd) (n : Nat) (torn : Bool) : State :=
  let k := min n (c.total - c.done)
  match c.opcode with
  | 0x10 =>
    let (s, m) := readUnits (fun s i => (send s (.host (c.addr2 + 32 * i) (hostRead s (le c.data (4 * i) 4) (bit c.arg2 0))), true)) k c.done c.count s
    listDone s c k m
  | 0x12 =>
    let (s, m) := readUnits (fun s i =>
      let id := lookupName s (nameAt (slice c.data (64 * i) 64))
      (send s (.host (c.addr2 + 4 * i) (leBytes 4 id)), id != 0)) k c.done c.count s
    listDone s c k m
  | 0x19 =>
    let (s, m) := readUnits (clearUnit c) k c.done c.count s
    listDone s c k m
  | 0x11 | 0x18 =>
    let f := if c.opcode = 0x11 then (fun s b => pointWriteEntry s (c.sq % 64) b) else forceSetEntry
    let (s, bad) := runEntries f (if c.sq = mirrorSq then none else some c.dataAddr) c.data k c.done c.firstBad s
    let d := c.done + k
    let s := cmdUpd s c.handle fun x => { x with done := d, firstBad := bad }
    if d < c.total then s
    else match bad with
      | some (st, i) => endCmd s c.handle st i d
      | none => endCmd s c.handle .ok c.total d
  | 0x1A => readoutDone (forceListSlice n c s)
  | 0x4D => readoutDone (capSlice n torn c s)
  | 0x60 => readoutDone (readRecs (logRecs s.mram.log) s.recd.nextSeq c.lim n c s)
  | 0x75 => readoutDone (readRecs s.mram.hlog.recs s.mram.hlog.nextSeq c.lim n c s)
  | 0x66 => readoutDone (traceSlice n c s)
  | 0x49 =>
    let s := cmdUpd s c.handle fun x => { x with done := c.done + k }
    if c.done + k < c.total then s else temperDone s
  | 0x69 => s
  | _ => loadSlice s c n

/-- A sliced command stops at a Slice boundary, asked by ABORT (R125). -/
def sliceAborted (s : State) (c : Cmd) : State :=
  endCmd (sliceStop (hifEvent (bump s cHifAborts) evCmdAborted c.sq c.tag c.opcode) c) c.handle .aborted 0 c.done

/-- COMMAND_SLICE (R123, R125, R134): the Slice of the command with handle `h` runs on its core pair, `n` units; `reach`: its data buffer can be
read or written; `torn`: the first capture segment it copies was overwritten meanwhile. A command that an ABORT stops ends at the boundary, without
a Slice that no core pair has begun. -/
def commandSlice (h n : Nat) (reach torn : Bool) (s : State) : State :=
  match cmdFind s h with
  | none => s
  | some c =>
    if !sliceRunning c then s
    else match sliceCore s h with
      | none => if c.abortBy.isEmpty then s else slicePass (sliceAborted (sliceDrop s h) c)
      | some core =>
        if !sliceTurn s c then s
        else
          let s := sliceItemEnd s core
          let s := if !reach then
              endCmd (sliceStop (hifEvent (bump s cHifDataFault) evDataAccessFault c.sq c.tag c.opcode) c) h .aborted 0 c.done
            else sliceOwe (sliceServed (sliceRun (bump s cHifSlices) c n torn) c) h
          let s := match cmdFind s h with
            | some c => if sliceRunning c && !c.abortBy.isEmpty then sliceAborted s c else s
            | none => s
          slicePass s

/-- COMMAND_SLICE (R123). -/
def execCommandSlice (h n : Nat) (reach torn : Bool) (s : State) : Res := ok (commandSlice h n reach torn s)

/-- A command whose Slice failed on Hearth ends with that status (07_hearth R230, R239, R240), and leaves what an abort leaves. -/
def slicesFailed (s : State) : State :=
  s.hif.cmds.foldl (fun s c => match c.failed with
    | some st => if sliceRunning c then endCmd (sliceStop s c) c.handle st 0 c.done else s
    | none => s) s

/-- ITEM_LIMIT_TIMEOUT (07_hearth R230). -/
def execItemLimitTimeout (core : Nat) (s : State) : Res := ok (slicesFailed (itemLimitTimeout core s))

/-- CORE_PAIR_MISMATCH (07_hearth R238). -/
def execCorePairMismatch (core t : Nat) (s : State) : Res := ok (slicesFailed (corePairMismatch core t s))

/-! ### TIME_READ and LAUNCH -/

/-- What TIME_READ writes (R127): the Timeline, TMB_STATUS, 4 reserved bytes, the current Epoch record. -/
def timeBytes (s : State) : Bytes :=
  leBytes 8 s.tmb.now ++ leBytes 4 (tmbStatus s) ++ zeros 4 ++ epochBytes (s.tmb.epochs.headD default)

/-- TIME_READ (R127). -/
def execTimeRead (h : Nat) (written : Bool) (s : State) : Res :=
  ok (startCmd s h 0x02 (if written then some [] else none) fun s c => endCmd (send s (.host c.dataAddr (timeBytes s))) h .ok (curEpoch s) 0)

/-- The queue a LAUNCH names (R130): how an entry enters it; none for a block or index that takes none. -/
def launchQueue (unit a2 : Nat) : Option (State → LqEntry → State × Status) :=
  if unit = 0x02 ∧ a2 = 0 then some tioEnqueue
  else if unit = 0x09 ∧ a2 < 64 then some (fun s e => motEnqueue s a2 e)
  else if unit = 0x0C ∧ a2 < 16 then some (fun s e => capEnqueue s a2 e)
  else none

/-- Enqueue `n` entries from entry `i` on (R57, R130): the first that is refused ends the run. -/
def launchEntries (f : State → LqEntry → State × Status) (data : Bytes) : Nat → Nat → State → State × Status × Nat
  | 0, i, s => (s, .ok, i)
  | n + 1, i, s =>
    match lqParse (slice data (16 * i) 16) with
    | none => (s, .badField, i)
    | some e =>
      let (s, st) := f s e
      if st = .ok then launchEntries f data n (i + 1) s else (s, st, i)

/-- LAUNCH (R130). -/
def execLaunch (h : Nat) (data : Option Bytes) (s : State) : Res :=
  ok (startCmd s h 0x58 data fun s c =>
    match launchQueue c.unit c.arg2 with
    | none => endCmd (hifEvent (bump s cHifBadDesc) evDescViolation c.sq c.tag c.opcode) h .badField 0 0
    | some f =>
      let (s, st, n) := launchEntries f c.data c.arg 0 s
      endCmd s h st n 0)

end Sys2Proof.Machine
end

