-- ==== Sys2Proof/Machine/Feedback.lean ====
section
/-! DEFINITION. The Feedback Interfaces' commands (14_feedback R430 to R448). -/
namespace Sys2Proof.Machine
open Sys2Proof

/-! ### Configuration (R430, R431) -/

/-- Offsets of the pin fields: PIN_A, PIN_B, PIN_C, PASS_A, PASS_B, PASS_C, CMP_PIN. -/
def fbkPinOffs : List Nat := [2, 3, 4, 5, 6, 7, 8]

/-- The pins a descriptor names. -/
def fbkPins (d : Bytes) : List Nat := (fbkPinOffs.map fun o => le d o 1).filter (· != 0xFF)

/-- Reserved fields, undefined codes, pins that MODE and FLAGS require or exclude (R431). -/
def fbkField (d : Bytes) : List (Bool × Status × Nat) :=
  let m := fbMode d
  let ssi := m == 2
  let c := le d 4 1
  [(decide (3 < m), .badField, 0),
   (fbFlag d 7 || (!ssi && (fbFlag d 5 || fbFlag d 6)) || (ssi && fbFlag d 4), .badField, 1),
   (le d 2 1 == 0xFF, .badField, 2),
   (le d 3 1 == 0xFF, .badField, 3),
   (if m = 1 then (c == 0xFF) == fbFlag d 1 else if m = 3 then c == 0xFF else c != 0xFF, .badField, 4),
   (le d 11 1 != 0, .badField, 11),
   (le d 14 2 != 0, .badField, 14),
   (!ssi && !allZero (slice d 28 3), .badField, 28),
   (le d 31 1 != 0, .badField, 31),
   (!ssi && !allZero (slice d 32 20), .badField, 32)]

/-- Fields outside their ranges (R430, R435). -/
def fbkRange (d : Bytes) : List (Bool × Status × Nat) :=
  let ssi := fbMode d == 2
  let nb := le d 28 1
  let pb := fbPosBits d
  let khz := le d 32 4
  let out (v lo hi : Nat) : Bool := decide (v < lo) || decide (hi < v)
  fbkPinOffs.map (fun o => (le d o 1 != 0xFF && decide (127 < le d o 1), .range, o)) ++
  [(decide (15 < le d 9 1), .range, 9),
   (le d 10 1 == 0, .range, 10),
   (decide (le d 12 2 < 2), .range, 12),
   (if fbFlag d 1 then out (le d 16 4) 8 2147483647 else le d 16 4 != 0, .range, 16),
   (out (le d 20 4) 1 10000, .range, 20),
   (out (le d 24 4) (le d 20 4) 1000000, .range, 24),
   (ssi && out nb 8 48, .range, 28),
   (ssi && (out pb 8 40 || decide (nb < pb) || decide (8 < nb - pb)), .range, 29),
   (ssi && out khz 100 10000, .range, 32),
   (ssi && out (le d 36 4) 5 10000, .range, 36),
   (ssi && decide (le d 36 4 ≤ le d 40 4), .range, 40),
   (ssi && out (le d 44 4) 1 64, .range, 44),
   (le d 60 4 != 0 && out (le d 60 4) 100 1000000, .range, 60),
   (ssi && decide (le d 36 4 * khz < (nb + 1) * 1000 + le d 44 4 * khz), .range, 36)]

/-- A loop has a feedback input on a channel. -/
def loopReadsFbk (d : Bytes) (n : Nat) : Bool :=
  (List.range 8).any fun i => ((ldIn d i).kind == 3 || (ldIn d i).kind == 4) && (ldIn d i).ref == n

/-- An axis or a loaded loop uses the channel (R431). -/
def fbkBusy (s : State) (n : Nat) : Bool :=
  (List.range 64).any (fun k => let x := axOf s k
    adFbk x.desc == n && x.state != .off && x.state != .disabled) ||
  s.anv.loop.entries.any fun e => match e.2.desc with | some d => loopReadsFbk d n | none => false

/-- The first failing check of a channel descriptor (R431). -/
def fbkCheck (s : State) (n : Nat) (d : Bytes) : Option (Status × Nat) :=
  let who := claimOf 0x0A n
  let pts := [52, 56].filter fun o => le d o 4 != 0
  let entry (o : Nat) := mapFind s.pst.map (le d o 4)
  if fbkBusy s n then some (.busy, 0)
  else if fbMode d = 0 then none
  else firstFail <|
    fbkField d ++ fbkRange d ++
    fbkPinOffs.map (fun o => (le d o 1 != 0xFF && pinTaken s who (fbkPins d) (le d o 1), .state, o)) ++
    pts.map (fun o => ((entry o).isNone, .noTarget, o)) ++
    pts.map (fun o => ((match entry o with | some e => e.type != (if o = 52 then .int64 else .real64) | none => false), .badField, o)) ++
    pts.map (fun o => ((match entry o with | some e => !e.writers.getLsbD wFBK | none => false), .denied, o))

/-- Pass-through outputs follow the filtered levels (R446). -/
def fbkPass (s : State) (n : Nat) : State :=
  let c := fbkCh s n
  if fbFlag c.desc 4 then [0, 1, 2].foldl (fun s i => pinDrive s (le c.desc (5 + i) 1) (bit c.lv i)) s else s

/-- The place of a Hall state in the positive sequence (R434). -/
def hallSector : Nat → Option Nat
  | 1 => some 0 | 3 => some 1 | 2 => some 2 | 6 => some 3 | 4 => some 4 | 5 => some 5 | _ => none

/-- FBK_CONFIG (R430, R431); `lv`: the levels of PIN_A to PIN_C. -/
def fbkConfig (lv : Nat) (s : State) (c : Cmd) : State :=
  let n := c.unit
  let d := c.data
  match fbkCheck s n d with
  | some (st, off) => endCmd (fbkEvent (bump s cFbkConfigRejected) evFbkRejected n 0 0 off) c.handle st 0 0
  | none =>
    let off := fbMode d == 0
    let s := claimPins s (claimOf 0x0A n) (if off then [] else fbkPins d)
    let ch : FbkCh := if off then default else { (default : FbkCh) with
      desc := d
      lv := lv % 8
      sector := (hallSector (lv % 8)).getD 0 }
    let s := { s with fbk := { s.fbk with ch := s.fbk.ch.set n ch } }
    let s := if off then s else pinDrive (fbkPass s n) (le d 8 1) false
    let s := if fbMode d = 2 then pinDrive s (le d 3 1) true else s
    endCmd (fbkEvent s evFbkConfigured n 0 0 0) c.handle .ok 0 0

/-- FBK_CONFIG (R431). -/
def execFbkConfig (h : Nat) (data : Option Bytes) (lv : Nat) (s : State) : Res := ok (startCmd s h 0x46 data (fbkConfig lv))

/-! ### Compare lists (R442, R443) -/

/-- The first failing check of a compare list with its offset (R442). -/
def compareCheck (s : State) (n : Nat) (b : Bytes) : Option (Status × Nat) :=
  let c := fbkCh s n
  let count := le b 4 4
  let es := chunks 16 ((b.length - 16) / 16) (b.drop 16)
  if fbMode c.desc = 0 ∨ le c.desc 8 1 = 0xFF then some (.state, 0)
  else if slice b 0 4 ≠ magic 'P' 'S' 'C' 'M' then some (.badField, 0)
  else if 1 < le b 8 1 then some (.badField, 8)
  else if !allZero (slice b 9 3) then some (.badField, 9)
  else match es.findIdx? (fun e => decide (2 < le e 8 1)) with
  | some i => some (.badField, 16 + 16 * i + 8)
  | none => match es.findIdx? (fun e => !allZero (slice e 9 7)) with
    | some i => some (.badField, 16 + 16 * i + 9)
    | none =>
      if (crc32c (b.drop 16)).toNat ≠ le b 12 4 then some (.checksum, 12)
      else if 1024 < count ∨ b.length ≠ 16 + 16 * count then some (.range, 4)
      else if bit (le b 8 1) 0 ∧ 1024 < c.list.length + count then some (.noResource, 4)
      else none

/-- COMPARE_LOAD (R442 to R444). -/
def compareLoad (s : State) (c : Cmd) : State :=
  let n := c.unit
  let b := c.data
  match compareCheck s n b with
  | some (st, off) => endCmd (fbkEvent (bump s cFbkCompareRejected) evCompareRejected n 0 0 off) c.handle st 0 0
  | none =>
    let l : List CmpEntry := (chunks 16 (le b 4 4) (b.drop 16)).map fun e => ⟨les e 0 8, le e 8 1⟩
    let s := fbkEvent s evCompareLoaded n 0 0 0
    let s :=
      if bit (le b 8 1) 0 then
        let old := (fbkCh s n).list
        if old.isEmpty then cmpJudge (fbkUpd s n fun x => { x with list := l }) n
        else fbkUpd s n fun x => { x with list := old ++ l }
      else cmpJudge (fbkUpd s n fun x => { x with list := l, done := 0 }) n
    endCmd s c.handle .ok (fbkCh s n).list.length 0

/-- COMPARE_LOAD (R442). -/
def execCompareLoad (h : Nat) (data : Option Bytes) (s : State) : Res := ok (startCmd s h 0x47 data compareLoad)

/-- COMPARE_PULSE_END (R445): the pin falls; a fire that waits is emitted 10 ns later. -/
def execComparePulseEnd (n : Nat) (s : State) : Res :=
  let c := fbkCh s n
  match c.pulseEnd with
  | none => ok s
  | some t =>
    let s := advance s t
    let w := 5 * le c.desc 12 2
    if c.fireWait = 0 then
      ok (pinDrive (fbkUpd s n fun c => { c with pulseEnd := none, lastFall := some t }) (le c.desc 8 1) false)
    else
      ok (pinDrive (fbkUpd s n fun c => { c with
        pulseEnd := some (t + 10 + w)
        lastFall := some t
        lastFire := t + 10
        fireWait := c.fireWait - 1 }) (le c.desc 8 1) true)

/-! ### Errors (R436, R440) -/

/-- The channel becomes BAD (R436). -/
def fbkBad (s : State) (n : Nat) : State :=
  if (fbkCh s n).bad then s
  else axOnFbk (fbkEvent (bump (fbkUpd s n fun c => { c with bad := true }) cFbkBadDeclared) evFbkBad n 0 0 0) n

/-- A counting error at `t` (R433, R434, R436). -/
def fbkError (s : State) (n t : Nat) : State :=
  let s := bump s cFbkCountErrors
  let s := fbkUpd s n fun c => { c with errs := t :: c.errs.filter (fun e => decide (t < e + 1000000)) }
  let c := fbkCh s n
  if le c.desc 10 1 ≤ c.errs.length then fbkBad s n else s

/-- The channel declares itself implausible (R440): the loops that read it and the axes on it follow at once. -/
def fbkImplaus (s : State) (n : Nat) : State :=
  let s := fbkEvent (bump (fbkUpd s n fun c => { c with implaus := true, idxGood := 0 }) cFbkImplausDeclared) evFbkImplaus n 0 0 0
  let s := s.anv.loop.entries.foldl (fun s e => match e.2.desc with
    | some d => if loopReadsFbk d n then axOnLoop (loopImplaus s e.1) e.1 else s
    | none => s) s
  axOnFbk s n

/-- An index check has failed (R440). -/
def fbkMismatch (s : State) (n : Nat) (d : Int) : State :=
  let s := fbkEvent s evIndexMismatch n d 0 0
  let s := fbkUpd s n fun c => { c with run := min (c.run + 1) 3, idxGood := 0, idxDev := d }
  if (fbkCh s n).run = 3 ∧ !(fbkCh s n).implaus then fbkImplaus s n else s

/-- The count has moved too far from the last index (R440). -/
def indexMissing (s : State) (n : Nat) : State :=
  let c := fbkCh s n
  if fbFlag c.desc 1 ∧ fbMode c.desc = 1 ∧ c.i0.isSome ∧ le c.desc 16 4 + 3 ≤ (c.r - c.idxR).natAbs then
    fbkMismatch (bump (fbkUpd s n fun c => { c with idxR := c.r }) cFbkIndexMissing) n 0x7FFFFFFF
  else s

/-! ### Edges and frames (R432 to R435, R440, R441) -/

/-- Place of the levels of A and B in the cycle that A leading B runs through. -/
def quadPhase (a b : Bool) : Nat := match a, b with | false, false => 0 | true, false => 1 | true, true => 2 | false, true => 3

/-- QUAD_EDGE (R433): the levels of A and B accepted with stamp `t`. -/
def execQuadEdge (n : Nat) (a b : Bool) (t : Nat) (s : State) : Res :=
  let c := fbkCh s n
  if fbMode c.desc ≠ 1 then ok s
  else
    let a0 := bit c.lv 0
    let b0 := bit c.lv 1
    if a = a0 ∧ b = b0 then ok s
    else
      let s := advance s (t + fbFilter c.desc)
      let s := fbkPass (fbkUpd s n fun c => { c with lv := b2n a + 2 * b2n b + 4 * b2n (bit c.lv 2) }) n
      if a ≠ a0 ∧ b ≠ b0 then ok (fbkError s n t)
      else
        let up := (quadPhase a0 b0 + 1) % 4 == quadPhase a b
        ok (indexMissing (fbkMove s n t (if up != fbFlag c.desc 0 then 1 else -1)) n)

/-- HALL_CHANGE (R434): the state C × 4 + B × 2 + A accepted with stamp `t`. -/
def execHallChange (n code t : Nat) (s : State) : Res :=
  let c := fbkCh s n
  if fbMode c.desc ≠ 3 ∨ code % 8 = c.lv then ok s
  else
    let s := advance s (t + fbFilter c.desc)
    let s := fbkPass (fbkUpd s n fun c => { c with lv := code % 8 }) n
    match hallSector (code % 8) with
    | none => ok (fbkError s n t)
    | some k =>
      let s := fbkUpd s n fun c => { c with sector := k }
      if k = c.sector then ok s
      else if k = (c.sector + 1) % 6 then ok (fbkMove s n t (if fbFlag c.desc 0 then -1 else 1))
      else if c.sector = (k + 1) % 6 then ok (fbkMove s n t (if fbFlag c.desc 0 then 1 else -1))
      else ok (fbkError s n t)

/-- SSI_FRAME_START (R435): at the next instant k × SSI_FRAME_US + SSI_PHASE_US the clock falls. -/
def execSsiFrameStart (n : Nat) (s : State) : Res :=
  let c := fbkCh s n
  let f := 1000 * le c.desc 36 4
  let p := 1000 * le c.desc 40 4
  if fbMode c.desc ≠ 2 ∨ c.frame.isSome then ok s
  else
    let at' := if s.tmb.now ≤ p then p else p + (s.tmb.now - p + f - 1) / f * f
    let s := fbkUpd (advance s at') n fun c => { c with frame := some at' }
    ok (pinDrive s (le c.desc 3 1) false)

/-- Gray code to binary, over at most `n` bits. -/
def grayTo : Nat → Nat → Nat
  | 0, _ => 0
  | n + 1, v => v ^^^ grayTo n (v / 2)

/-- The position an SSI word holds (R435). -/
def ssiDecode (d : Bytes) (data : Nat) : Int :=
  let pb := fbPosBits d
  let v := data / 2 ^ (le d 28 1 - pb) % 2 ^ pb
  let v := if fbFlag d 5 then grayTo pb v else v
  if fbFlag d 6 then signed pb v else (v : Int)

/-- SSI_FRAME_END (R435, R436): data high at the frame start, low after the last bit, and the bits read, the first one highest. -/
def execSsiFrameEnd (n : Nat) (high low : Bool) (data : Nat) (s : State) : Res :=
  let c := fbkCh s n
  match c.frame with
  | none => ok s
  | some t =>
    let d := c.desc
    let s := advance s (t + fbClocked d)
    let s := pinDrive (bump (fbkUpd s n fun c => { c with frame := none }) cFbkSsiFrames) (le d 3 1) true
    let pb := fbPosBits d
    let v := ssiDecode d data
    let errBits := data % 2 ^ (le d 28 1 - pb) &&& le d 30 1
    let step := match c.ssiPrev with
      | some p => signed pb (unsigned pb (v - p))
      | none => 0
    let lim := le d 48 4
    if !high ∨ !low ∨ errBits ≠ 0 ∨ (lim ≠ 0 ∧ lim < step.natAbs) then
      let s := bump (fbkUpd s n fun c => { c with badRun := min (c.badRun + 1) 3, goodRun := 0 }) cFbkSsiFrameErrors
      ok (if (fbkCh s n).badRun = 3 then fbkBad s n else s)
    else
      let s := fbkUpd s n fun c => { c with badRun := 0, goodRun := min (c.goodRun + 1) 3, ssiPrev := some v }
      let s := fbkMove s n t (match c.ssiPrev with | some _ => step | none => v - c.r)
      ok (if (fbkCh s n).bad ∧ (fbkCh s n).goodRun = 3 then fbkFollow (fbkUpd s n fun c => { c with bad := false }) n else s)

/-- A correction (R441): no travel, so that nothing fires and the direction stays; the head is judged again. -/
def indexCorrect (s : State) (n : Nat) (d : Int) : State :=
  let s := fbkEvent (bump s cFbkIndexCorrections) evIndexCorrected n d 0 0
  cmpJudge (fbkUpd s n fun c => { c with
    r := c.r - d
    p := c.p - d
    r0 := c.r0 - d
    p0 := c.p0 - d
    idxR := c.idxR - d
    chg := c.chg.map fun x => { x with r := x.r - d, p := x.p - d } }) n

/-- INDEX_EDGE (R440, R441): a rising edge of Z accepted with stamp `t`. -/
def execIndexEdge (n t : Nat) (s : State) : Res :=
  let c := fbkCh s n
  if fbMode c.desc ≠ 1 ∨ !fbFlag c.desc 1 then ok s
  else
    let s := bump (advance s (t + fbFilter c.desc)) cFbkIndexes
    let i := c.r
    let s := fbkUpd s n fun c => { c with idxR := i, idxAt := t }
    let s := match c.i0 with
      | none => fbkUpd s n fun c => { c with i0 := some i }
      | some i0 =>
        let rev : Int := (le c.desc 16 4 : Int)
        let m := (i - i0) % rev
        let d := if rev < 2 * m then m - rev else m
        let s :=
          if d.natAbs ≤ 2 then
            let s := fbkUpd s n fun c => { c with run := 0, idxGood := c.idxGood + 1, idxDev := d }
            if (fbkCh s n).implaus ∧ 3 ≤ (fbkCh s n).idxGood then
              fbkEvent (fbkUpd s n fun c => { c with implaus := false }) evFbkPlausible n d 0 0
            else s
          else
            let s := setFld s (fFbkChIndexMismatch n) 1
            fbkMismatch (bump (fbkUpd s n fun c => { c with idxObs := i }) cFbkIndexMismatches) n d
        if fbFlag c.desc 2 ∧ d ≠ 0 then indexCorrect s n d else s
    ok (homeIndex s n t (fbkCh s n).r)

/-! ### Latching and publishing (R438) -/

/-- A write of FBK_SNAP (R438, R448): position and speed of every channel at one instant. -/
def fbkSnap (v : Word) (s : State) : State :=
  if v.getLsbD 0 then
    let t := s.tmb.now
    let s := (List.range 32).foldl (fun s n =>
      if fbkOn s n then
        let ((p, w), s) := fbkLatch s n t
        fbkUpd s n fun c => { c with snapP := p, snapV := w }
      else s) s
    { s with fbk := { s.fbk with snapAt := t, snapUnread := true } }
  else s

/-- FBK_SNAP (R438). -/
def execFbkSnap (v : Word) (s : State) : Res := regCmd s 0x0A (fbkSnap v)

/-- FBK_PUBLISH (R438): the position and speed points are written with the latch instant as their STAMP. -/
def execFbkPublish (n t : Nat) (s : State) : Res :=
  let d := (fbkCh s n).desc
  if fbMode d = 0 ∨ le d 60 4 = 0 then ok s
  else
    let s := advance s t
    let ((p, v), s) := fbkLatch s n s.tmb.now
    let c := fbkCh s n
    let q := qVALID ||| (if c.bad then qBAD else 0) ||| (if c.implaus then qIMPLAUS else 0)
    let ws : List (Nat × Nat) := [(le d 52 4, unsigned 64 p), (le d 56 4, real64Code ((v : Rat) / 65536))]
    let ws := ws.filter (·.1 != 0)
    ok (bumpN (inputGroup s 0x0A n s.tmb.now [p, v]
      (ws.map fun w => ⟨w.1, BitVec.ofNat 64 w.2, none, some s.tmb.now, q, wFBK, n, false⟩)) cFbkPubWrites ws.length)

end Sys2Proof.Machine
end

