-- ==== Sys2Proof/Machine/Ptp.lean ====
section
/-! DEFINITION. The PTP instance (01_timeline R49, R51, R54, R56; 15_stations R453): a slave on TIME_PORT, a master on MASTER_PORTS. Stamps
are in quarter ns, corrections in units of 2^-16 ns, origin times in ns. -/
namespace Sys2Proof.Machine
open Sys2Proof

/-- Change the PTP instance. -/
def ptpUpd (s : State) (f : Ptp → Ptp) : State := { s with tmb := { s.tmb with ptp := f s.tmb.ptp } }

/-- TIME_PORT (R51). -/
def timePort (s : State) : Nat := fld s fTmbPtpCfgTimePort

/-- The port is a master port (R51): its TIME_PORT bit is ignored. -/
def masterPort (s : State) (p : Nat) : Bool := bit (fld s fTmbPtpCfgMasterPorts) p && p != timePort s

/-- The PTP profile in use: the first of GPTP (1) and PTP_L2 (2) in the source list, 0 for none (R50, R51). -/
def ptpSrc (s : State) : Nat := ((srcList s).find? fun c => c == 1 || c == 2).getD 0

/-- A PTP violation (R56). -/
def ptpBad (s : State) (p : Nat) : State := tmbEvent (bump s cTmbPtpRxBad) evPtpViolation 0 (ptpSrc s) p

/-- A stamp's TAI in quarter ns. -/
def taiQ (s : State) (q : Int) : Int := q + 4 * (s.tmb.epochs.headD default).taiOff

/-- A Sync measurement is complete (R43, R51): origin time, correction, ingress stamp at the ball. -/
def ptpMeasure (s : State) (t1 corr rx : Int) : State :=
  let src := ptpSrc s
  let s := ptpUpd s fun x => { x with lastSync := some (4 * t1 + corr / 16384, rx), awaiting := none }
  if src = 0 ∨ (src = 1 ∧ !s.tmb.ptp.asCapable) then s
  else measure s src ((taiQ s rx - (4 * t1 + corr / 16384) - s.tmb.ptp.pathDelay) / 4)

/-- PTP_SYNC_RX (R51, R56): on TIME_PORT in the instance's domain; `t1` none for a two-step Sync; `raw`: the MAC's ingress stamp. -/
def execPtpSyncRx (p domain seq : Nat) (t1 : Option Int) (corr raw : Int) (t : Nat) (s : State) : Res :=
  let s := advance s t
  if p ≠ timePort s ∨ domain ≠ fld s fTmbPtpCfgDomain ∨ !portUp s p then ok s
  else
    let gap : Bool := match s.tmb.ptp.syncSeq with | some q => (q + 1) % 65536 != seq % 65536 | none => false
    let s := if gap then bump s cTmbPtpSeqGap else s
    let rx := ingress s p raw
    let s := ptpUpd (rxCount s p) fun x => { x with syncSeq := some (seq % 65536) }
    match t1 with
    | some o => ok (ptpMeasure s o corr rx)
    | none => ok (ptpUpd s fun x => { x with awaiting := some (seq % 65536, rx) })

/-- PTP_FOLLOW_UP_RX (R56). -/
def execPtpFollowUpRx (p domain seq : Nat) (t1 corr : Int) (t : Nat) (s : State) : Res :=
  let s := advance s t
  if p ≠ timePort s ∨ domain ≠ fld s fTmbPtpCfgDomain ∨ !portUp s p then ok s
  else match s.tmb.ptp.awaiting with
    | some (q, rx) => if q = seq % 65536 then ok (ptpMeasure (rxCount s p) t1 corr rx) else ok (ptpBad (rxCount s p) p)
    | none => ok (ptpBad (rxCount s p) p)

/-- FOLLOW_UP_TIMEOUT (R56): two Sync intervals without a Follow_Up. -/
def execFollowUpTimeout (s : State) : Res :=
  match s.tmb.ptp.awaiting with
  | none => ok s
  | some (_, rx) =>
    let s := advance s ((rx / 4).toNat + 2 * measInterval s 1)
    ok (ptpBad (ptpUpd s fun x => { x with awaiting := none }) (timePort s))

/-- PTP_DELAY_RESP_RX (R51, R56): end to end, with the stamps of the last Sync. -/
def execPtpDelayRespRx (p domain seq : Nat) (t4 corr : Int) (t : Nat) (s : State) : Res :=
  let s := advance s t
  if p ≠ timePort s ∨ domain ≠ fld s fTmbPtpCfgDomain ∨ !portUp s p then ok s
  else
    let s := rxCount s p
    match s.tmb.ptp.delayReq, s.tmb.ptp.lastSync with
    | some (q, t3), some (t1, t2) =>
      if q ≠ seq % 65536 then ok (ptpBad s p)
      else ok (ptpUpd s fun x => { x with delayReq := none, pathDelay := ((taiQ s t2 - t1) + (4 * t4 - corr / 16384 - taiQ s t3)) / 2 })
    | some (q, _), none => if q ≠ seq % 65536 then ok (ptpBad s p) else ok (ptpUpd s fun x => { x with delayReq := none })
    | none, _ => ok (ptpBad s p)

/-- The port is not asCapable; the source is invalid (R56). -/
def notCapable (s : State) (p : Nat) : State :=
  sourceLost (tmbEvent (bump (ptpUpd s fun x => { x with asCapable := false }) cTmbAnnounceTimeout) evPtpViolation 0 1 p) 1

/-- PTP_PDELAY_RX (R51, R56): a peer delay request (none), which is answered, or a completed response: the peer's turnaround time in
quarter ns and the neighbour rate ratio's distance from 1 in ppt. -/
def execPtpPdelayRx (p seq : Nat) (resp : Option (Int × Int)) (raw : Int) (t : Nat) (s : State) : Res :=
  let s := advance s t
  if p ≠ timePort s ∨ ptpSrc s ≠ 1 ∨ !portUp s p then ok s
  else
    let s := rxCount s p
    let rx := ingress s p raw
    match resp with
    | none => ok (egressPut s p ⟨7, ethFrame (stnPort s p).desc [0x01, 0x80, 0xC2, 0, 0, 0x0E] 0x88F7
        ([0x03] ++ leBytes 2 seq ++ lesBytes 8 (rx / 4)), false, .pdelayResp, seq % 65536⟩)
    | some (turn, ratio) =>
      match s.tmb.ptp.pdelayReq with
      | none => ok s
      | some (q, tx) =>
        if q ≠ seq % 65536 then ok s
        else if ratio.natAbs > 200000000 then ok (notCapable s p)
        else ok (ptpUpd s fun x => { x with pdelayReq := none, pdelayMiss := 0, asCapable := true, pathDelay := (rx - tx - turn) / 2 })

/-- PDELAY_TIMEOUT (R56): a peer delay request stays unanswered; the third one in a row makes the port not asCapable. -/
def execPdelayTimeout (t : Nat) (s : State) : Res :=
  let s := advance s t
  if s.tmb.ptp.pdelayReq.isNone then ok s
  else
    let s := ptpUpd s fun x => { x with pdelayReq := none, pdelayMiss := x.pdelayMiss + 1 }
    if 3 ≤ s.tmb.ptp.pdelayMiss then ok (notCapable (ptpUpd s fun x => { x with pdelayMiss := 0 }) (timePort s)) else ok s

/-- The Announce interval in ns (TMB_PTP_INTV). -/
def announceNs (s : State) : Nat :=
  let l := signed 8 (fld s fTmbPtpIntvLogAnnounce)
  if l < 0 then 1000000000 / 2 ^ (-l).toNat else 1000000000 * 2 ^ l.toNat

/-- PTP_ANNOUNCE_RX (R49, R51): `ds` is the data set the best master clock algorithm compares, the lower the better; UTC_TAI follows the
master that is taken. -/
def execPtpAnnounceRx (p domain ds : Nat) (utcValid : Bool) (utc : Int) (t : Nat) (s : State) : Res :=
  let s := advance s t
  if p ≠ timePort s ∨ domain ≠ fld s fTmbPtpCfgDomain ∨ !portUp s p then ok s
  else
    let s := rxCount s p
    let best : Bool := match s.tmb.ptp.announceMaster with | some m => decide (ds ≤ m) | none => true
    if !best then ok s
    else
      let s := ptpUpd s fun x => { x with announceMaster := some ds, announceAt := s.tmb.now, utcValid := utcValid, utcOffset := utc }
      if utcFromPtp s ∧ utc ≠ (s.tmb.epochs.headD default).utcTai then ok (openEpoch s ⟨.leap, none, none, some utc, none⟩) else ok s

/-- ANNOUNCE_TIMEOUT (R56): three Announce intervals without an Announce invalidate the source. -/
def execAnnounceTimeout (t : Nat) (s : State) : Res :=
  let s := advance s t
  if s.tmb.ptp.announceMaster.isSome ∧ s.tmb.ptp.announceAt + 3 * announceNs s ≤ s.tmb.now then
    ok (sourceLost (bump (ptpUpd s fun x => { x with announceMaster := none }) cTmbAnnounceTimeout) (ptpSrc s))
  else ok s

/-- PTP_DELAY_REQ_RX (R51): answered on a master port with the Timeline of its ingress. -/
def execPtpDelayReqRx (p seq : Nat) (mac : Bytes) (raw : Int) (t : Nat) (s : State) : Res :=
  let s := advance s t
  if !masterPort s p ∨ !portUp s p then ok s
  else
    let s := rxCount s p
    ok (egressPlain s p (le (stnPort s p).desc 3 1) (ethFrame (stnPort s p).desc [0x01, 0x1B, 0x19, 0, 0, 0] 0x88F7
      ([0x09] ++ leBytes 2 seq ++ lesBytes 8 (ingress s p raw / 4) ++ mac)))

/-- PTP_MASTER_TX (R51, R453): a two-step Sync or an Announce on a master port. -/
def execPtpMasterTx (p : Nat) (announce : Bool) (t : Nat) (s : State) : Res :=
  let s := advance s t
  if !masterPort s p ∨ !portUp s p then ok s
  else
    let seq := s.tmb.ptp.masterSeq
    let s := ptpUpd s fun x => { x with masterSeq := (x.masterSeq + 1) % 65536 }
    let d := (stnPort s p).desc
    let body (kind : Byte) : Bytes := ethFrame d [0x01, 0x1B, 0x19, 0, 0, 0] 0x88F7 ([kind] ++ leBytes 2 seq ++
      leBytes 1 (fld s fTmbPtpCfgPriority1) ++ leBytes 1 (fld s fTmbPtpCfgPriority2))
    if announce then ok (egressPlain s p (le d 3 1) (body 0x0B))
    else ok (egressPut s p ⟨7, body 0x00, false, .sync, seq⟩)

/-- PTP_DELAY_REQ_TX (R51): the slave's Delay_Req, or its peer delay request under GPTP. -/
def execPtpDelayReqTx (t : Nat) (s : State) : Res :=
  let s := advance s t
  let p := timePort s
  if ptpSrc s = 0 ∨ !portUp s p then ok s
  else
    let seq := s.tmb.ptp.reqSeq
    let s := ptpUpd s fun x => { x with reqSeq := (x.reqSeq + 1) % 65536 }
    let g := decide (ptpSrc s = 1)
    let dst : Bytes := if g then [0x01, 0x80, 0xC2, 0, 0, 0x0E] else [0x01, 0x1B, 0x19, 0, 0, 0]
    ok (egressPut s p ⟨7, ethFrame (stnPort s p).desc dst 0x88F7 ([if g then 0x02 else 0x01] ++ leBytes 2 seq), false,
      if g then .pdelayReq else .delayReq, seq⟩)

end Sys2Proof.Machine
end

