-- ==== Sys2Proof/Machine/RegAccess.lean ====
section
/-! DEFINITION. Accesses of the host to the registers of BAR0 (00_scope R12, R19 to R25): writes by access type, commits, reads that clear or
latch. -/
namespace Sys2Proof.Machine
open Sys2Proof

/-! ### Commits (R12) -/

/-- The checks of a window's commit: the status it ends with. -/
def commitCheck (s : State) : Nat → Status
  | 0x02 => tmbCommitCheck s | 0x03 => pstCommitCheck s | 0x04 => cycCommitCheck s | 0x06 => hrtCommitCheck s | 0x07 => seqCommitCheck s
  | 0x08 => anvCommitCheck s | 0x09 => motCommitCheck s | 0x0B => cnvCommitCheck s | 0x0C => capCommitCheck s | 0x0E => stnCommitCheck s
  | 0x0F => wlkCommitCheck s | 0x10 => parCommitCheck s | 0x11 => recCommitCheck s | 0x12 => hdlCommitCheck s | 0x13 => qchCommitCheck s
  | _ => .ok

/-- The whole staged set of a window comes into force. -/
def commitTakes (s : State) (w : Nat) : State :=
  match w with
  | 0x02 => tmbCommitApply s
  | 0x0F => wlkCommitApply s
  | 0x10 => parCommitApply s
  | _ => applyStaged s w

/-- A commit of a window changes settings registers (R21). -/
def commitsSettings (s : State) (w : Nat) : Bool := (stagedIn s w).any fun e => settingsMask.any fun m => m.1 == e.1

/-- A write of 1 to a window's COMMIT (R12): the commit waits for its boundary. -/
def commitWrite1 (w : Nat) (s : State) : State :=
  if (s.commits.get w).pending then s else setCommit s w (s.commits.get w).status true

/-- COMMIT_APPLY (R12, R21): the pending commit of window `w` reaches its boundary at `t`: the whole staged set, or nothing of it. -/
def commitApply (w t : Nat) (s : State) : State :=
  if !(s.commits.get w).pending then s
  else
    let s := advance s t
    match commitCheck s w with
    | .ok =>
      let changed := commitsSettings s w
      let s := commitTakes s w
      setCommit (if changed then settingsWritten s else s) w .ok false
    | st => setCommit s w st false

/-- COMMIT_APPLY (R12). -/
def execCommitApply (w t : Nat) (s : State) : Res := ok (commitApply w t s)

/-- TMB_COMMIT (01_timeline R72). -/
def execTmbCommit (s : State) : Res := regCmd s 0x02 (commitWrite1 0x02)
/-- PST_COMMIT (02_point_store R101). -/
def execPstCommit (s : State) : Res := regCmd s 0x03 (commitWrite1 0x03)
/-- CYC_COMMIT (04_cycle_engine R181). -/
def execCycCommit (s : State) : Res := regCmd s 0x04 (commitWrite1 0x04)
/-- HRT_COMMIT (07_hearth R244). -/
def execHrtCommit (s : State) : Res := regCmd s 0x06 (commitWrite1 0x06)
/-- SEQ_COMMIT (08_recipes R277). -/
def execSeqCommit (s : State) : Res := regCmd s 0x07 (commitWrite1 0x07)
/-- ANV_LOOP_COMMIT (10_loops R351). -/
def execAnvLoopCommit (s : State) : Res := regCmd s 0x08 (commitWrite1 0x08)
/-- MOT_COMMIT (13_motion R429). -/
def execMotCommit (s : State) : Res := regCmd s 0x09 (commitWrite1 0x09)
/-- CNV_COMMIT (11_converter R378). -/
def execCnvCommit (s : State) : Res := regCmd s 0x0B (commitWrite1 0x0B)
/-- CAP_COMMIT (12_capture R406). -/
def execCapCommit (s : State) : Res := regCmd s 0x0C (commitWrite1 0x0C)
/-- QCH_COMMIT (12_capture R407). -/
def execQchCommit (s : State) : Res := regCmd s 0x13 (commitWrite1 0x13)
/-- STN_COMMIT (15_stations R476). -/
def execStnCommit (s : State) : Res := regCmd s 0x0E (commitWrite1 0x0E)
/-- REC_COMMIT (17_recorder R518). -/
def execRecCommit (s : State) : Res := regCmd s 0x11 (commitWrite1 0x11)
/-- WLK_COMMIT (18_pairing R552). -/
def execWlkCommit (s : State) : Res := regCmd s 0x0F (commitWrite1 0x0F)
/-- PAR_COMMIT (18_pairing R553). -/
def execParCommit (s : State) : Res := regCmd s 0x10 (commitWrite1 0x10)
/-- HDL_COMMIT (19_hendel R585). -/
def execHdlCommit (s : State) : Res := regCmd s 0x12 (commitWrite1 0x12)

/-- Where the COMMIT bits are: a window's offset. -/
def commitOff : Nat → Option Nat
  | 0x02 => some 0x68 | 0x03 => some 0x20 | 0x06 => some 0x10 | 0x08 => some 0x18008 | 0x0E => some 0x0C
  | 0x04 | 0x07 | 0x09 | 0x0B | 0x0C | 0x0F | 0x10 | 0x11 | 0x12 | 0x13 => some 0x08
  | _ => none

/-! ### Writes -/

/-- A write by the access types of a stored word (R25): RW takes the value, RWS is staged, W1C clears what is written as 1. -/
def storeWrite (a : Nat) (v : Word) (s : State) : State :=
  match rowOf a with
  | none => s
  | some (r, _) =>
    let rw := BitVec.ofNat 32 r.rw
    let w1c := BitVec.ofNat 32 r.w1c
    let s := setStored s a ((stored s a &&& ~~~rw &&& ~~~(v &&& w1c)) ||| (v &&& rw))
    if r.rws = 0 then s else setStaged s a ((stored s a &&& ~~~rwsMask a) ||| (v &&& rwsMask a))

/-- FAULT of a Quench pin is cleared (12_capture R398): the pin asserts FAULT_N no more. -/
def qchFaultClear (s : State) (n : Nat) : State :=
  releaseFault (setFld (qchUpd n (fun p => { p with mismatch := false }) s) (fQchPinFault n) 0) (.qchPin n)

/-- A write to the data window of the recovery mailbox (19_hendel R581). -/
def mboxWindowWrite (o : Nat) (v : Word) (s : State) : State :=
  if s.hdl.recovery then mboxUpd s fun m => { m with window := overlay m.window o (leBytes 4 v.toNat) } else s

/-- A 32-bit write to an aligned address of BAR0 (R19, R22 to R25). Fields with an effect of their own take it; the rest go by their type. -/
def busWrite (a : Nat) (v : Word) (s : State) : State :=
  let w := a / 0x100000
  let o := a % 0x100000
  if a % 4 ≠ 0 ∨ !windowOpen s w then s
  else if commitOff w = some o then (if v.getLsbD 0 then commitWrite1 w s else s)
  else match a with
  | 0x000014 =>
    let s := storeWrite a v s
    if v.getLsbD 31 then hifNegotiate { s with hif := { s.hif with actDone := false } } else s
  | 0x100008 => if v.getLsbD 0 then hifCommit s else s
  | 0x200080 => if v.getLsbD 0 then wallApply s else s
  | 0x200210 => if v.getLsbD 0 then lqPush s else s
  | 0x300060 => pstPeek v s
  | 0x500004 => if v.getLsbD 0 then fbEnd s else s
  | 0x800010 => anvMemRead v s
  | 0xA00004 => fbkSnap v s
  | 0xC00010 => capMissRead v s
  | 0x1300004 => qchForceWrite v s
  | 0x1100000 => if v.getLsbD 2 then pageFailClear s else s
  | 0x1200004 => let s := storeWrite a v s; if v.getLsbD 4 then hdlRestart s else s
  | 0x1203000 => let s := storeWrite a v s; if v.getLsbD 31 then mboxGo s (fld s fHdlMboxCmd) else s
  | _ =>
    match elem a 0x201000 4 128, elem a 0x101000 32 64, elem a 0x102000 32 64, elem a 0xD01000 64 8, elem a 0x1301000 16 16, elem a 0x1210000 4 16384 with
    | some (p, _), _, _, _, _, _ => tioCfgWrite p v s
    | _, some (n, 0x10), _, _, _, _ => sqEnableWrite n (v.getLsbD 0) s
    | _, _, some (n, 0x10), _, _, _ => cqEnableWrite n (v.getLsbD 0) s
    | _, _, _, some (c, 0x0C), _, _ => if v.getLsbD 0 then canRecover s c else s
    | _, _, _, _, some (n, 0x4), _ =>
      let s := if v.getLsbD 9 then qchFaultClear s n else s
      if v.getLsbD 16 then qchRelease n s else s
    | _, _, _, _, _, some (n, _) => mboxWindowWrite (4 * n) v s
    | _, _, _, _, _, _ => storeWrite a v s

/-- REGISTER_WRITE (R25). -/
def execRegisterWrite (a : Nat) (v : Word) (s : State) : Res := ok (busWrite a v s)

/-! ### Reads -/

/-- Bits of a word that a read clears (R25). -/
def rcMask (a : Nat) : Word := match rowOf a with | some (r, _) => BitVec.ofNat 32 r.rc | none => 0

/-- A read of a LO register latches its HI partner (the register maps: a read of LO latches HI). -/
def loLatch (a : Nat) (s : State) : State :=
  match a with
  | 0x400034 => weldUpd s fun w => { w with latchHi := hi32 w.at' }
  | 0x500020 => { s with ile := { s.ile with latchScanHi := hi32 s.ile.lastScan } }
  | 0x500030 => { s with ile := { s.ile with latchFbHi := hi32 s.ile.fbAt } }
  | 0xA00008 => { s with fbk := { s.fbk with snapHi := hi32 s.fbk.snapAt, snapUnread := false } }
  | 0x1000028 => { s with par := { s.par with latchHi := hi32 s.par.takeAt } }
  | 0x1000044 => { s with par := { s.par with selfHi := hi32 s.par.selfAt } }
  | 0x1100020 => { s with recd := { s.recd with latchNextHi := hi32 s.recd.nextBlock } }
  | 0x1100028 => { s with recd := { s.recd with latchExpHi := hi32 s.recd.expCursor } }
  | _ =>
    match a / 0x100000 with
    | 0x04 => match elem a 0x401000 32 32 with
      | some (n, 0x08) => clsUpd s n fun c => { c with latchHi := hi32 c.t0 }
      | _ => s
    | 0x07 => match elem a 0x701000 32 64 with
      | some (n, 0x08) => seqUpd s n fun e => { e with latchHi := hi32 e.launched }
      | _ => s
    | 0x08 => match elem a 0x810000 32 1024 with
      | some (n, 0x18) => loopUpd s n fun l => { l with latchHi := hi32 l.lastT0 }
      | _ => s
    | 0x09 => match elem a 0x901000 32 64 with
      | some (n, 0x04) => axUpd s n fun x => { x with cmdHi := hiI x.pos }
      | some (n, 0x0C) => axUpd s n fun x => { x with actHi := hiI x.act }
      | _ => s
    | 0x0A => match elem a 0xA01000 64 32 with
      | some (n, 0x04) => fbkUpd s n fun c => { c with posHi := hiI (if s.fbk.snapUnread then c.snapP else c.p) }
      | some (n, 0x18) => fbkUpd s n fun c => { c with idxHi := hi32 c.idxAt }
      | some (n, 0x20) => fbkUpd s n fun c => { c with fireHi := hi32 c.lastFire }
      | _ => s
    | 0x0B => match elem a 0xB01000 32 4 with
      | some (n, 0x10) => cnvUpd s n fun g => { g with latchHi := hi32 g.lastStamp }
      | _ => s
    | 0x0C => match elem a 0xC01000 32 16 with
      | some (n, 0x10) => capUpd s n fun c => { c with latchHi := hi32 c.lastTrig }
      | _ => s
    | 0x0D => match elem a 0xD01000 64 8 with
      | some (n, 0x10) => canUpd s n fun x => { x with latchHi := hi32 x.lastSof }
      | _ => s
    | 0x0E => match elem a 0xE40000 32 4096 with
      | some (n, 0x04) => stUpd s n fun x => { x with latchHi := hi32 x.lastIn }
      | _ => s
    | 0x13 => match elem a 0x1301000 16 16 with
      | some (n, 0x8) => qchUpd n (fun p => { p with latchHi := hi32 p.last }) s
      | _ => s
    | _ => s

/-- A 32-bit read of BAR0 (R19, R22, R23, R25): the data it returns, and what the read does. -/
def busRead (a : Nat) (s : State) : State :=
  if a % 4 ≠ 0 ∨ !windowOpen s (a / 0x100000) then { s with rdata := 0 }
  else if a = 0x200008 then tmbNowRead s
  else match elem a 0x202000 16 128 with
    | some (p, 0) => tioStampPop p s
    | _ =>
      let v := regRead s a
      let s := loLatch a s
      let s := if rcMask a = 0 then s else setStored s a (stored s a &&& ~~~rcMask a)
      { s with rdata := v }

/-- COUNTER_READ (R25): a read of an RC register. -/
def execCounterRead (a : Nat) (s : State) : Res := ok (busRead a s)

/-- LO_LATCH_READ (05_online_change R203 and the other LO and HI pairs): a read of a LO register. -/
def execLoLatchRead (a : Nat) (s : State) : Res := ok (busRead a s)

end Sys2Proof.Machine
end

