-- ==== Sys2Proof/Machine/Dispatch.lean ====
section
/-! DEFINITION. The meaning of each command: one arm for each constructor of Instr. -/
namespace Sys2Proof.Machine
open Sys2Proof

/-- The effect of a command on everything but the queue. -/
def exec (i : Instr) (s : State) : Host.Outcome State Fault Refusal :=
  match i with
  | .powerOnReset => Sys2Proof.Machine.execPowerOnReset s
  | .coldStart x => Sys2Proof.Machine.execColdStart x s
  | .warmRestart cause x => Sys2Proof.Machine.execWarmRestart cause x s
  | .railUndervoltage aon t => Sys2Proof.Machine.execRailUndervoltage aon t s
  | .supplyFault n t => Sys2Proof.Machine.execSupplyFault n t s
  | .clockFault d t => Sys2Proof.Machine.execClockFault d t s
  | .tempCrit n t => Sys2Proof.Machine.execTempCrit n t s
  | .tempTrip n t => Sys2Proof.Machine.execTempTrip n t s
  | .tempTripRecovery x => Sys2Proof.Machine.execTempTripRecovery x s
  | .faultAutoRestart t => Sys2Proof.Machine.execFaultAutoRestart t s
  | .sensorReading n v t => Sys2Proof.Machine.execSensorReading n v t s
  | .pmbusPoll d r t => Sys2Proof.Machine.execPmbusPoll d r t s
  | .pmbusAlert words t => Sys2Proof.Machine.execPmbusAlert words t s
  | .hdlWatchdog t => Sys2Proof.Machine.execHdlWatchdog t s
  | .controlHeartbeatMissing t => Sys2Proof.Machine.execControlHeartbeatMissing t s
  | .pairWaitEnd => Sys2Proof.Machine.execPairWaitEnd s
  | .programAutostart t => Sys2Proof.Machine.execProgramAutostart t s
  | .ileAutostart t => Sys2Proof.Machine.execIleAutostart t s
  | .loopPersistStart n t bad => Sys2Proof.Machine.execLoopPersistStart n t bad s
  | .recipeAutoResume t => Sys2Proof.Machine.execRecipeAutoResume t s
  | .timelineMarkWrite t => Sys2Proof.Machine.execTimelineMarkWrite t s
  | .coarseMarkWrite t => Sys2Proof.Machine.execCoarseMarkWrite t s
  | .bootBankWriteDone fits t => Sys2Proof.Machine.execBootBankWriteDone fits t s
  | .hostAccessLoss link t => Sys2Proof.Machine.execHostAccessLoss link t s
  | .linkTrained speed width => Sys2Proof.Machine.execLinkTrained speed width s
  | .hifNegotiate => Sys2Proof.Machine.execHifNegotiate s
  | .hifCommit => Sys2Proof.Machine.execHifCommit s
  | .sqEnableWrite n on => Sys2Proof.Machine.execSqEnableWrite n on s
  | .cqEnableWrite n on => Sys2Proof.Machine.execCqEnableWrite n on s
  | .sqDoorbell n v => Sys2Proof.Machine.execSqDoorbell n v s
  | .cqDoorbell n v => Sys2Proof.Machine.execCqDoorbell n v s
  | .descFetch n d => Sys2Proof.Machine.execDescFetch n d s
  | .commandSlice h n reach torn => Sys2Proof.Machine.execCommandSlice h n reach torn s
  | .completionWrite h written => Sys2Proof.Machine.execCompletionWrite h written s
  | .progressEntry h t => Sys2Proof.Machine.execProgressEntry h t s
  | .cqIrqTimer n => Sys2Proof.Machine.execCqIrqTimer n s
  | .registerWrite a v => Sys2Proof.Machine.execRegisterWrite a v s
  | .counterRead a => Sys2Proof.Machine.execCounterRead a s
  | .loLatchRead a => Sys2Proof.Machine.execLoLatchRead a s
  | .tmbNowRead => Sys2Proof.Machine.execTmbNowRead s
  | .commitApply w t => Sys2Proof.Machine.execCommitApply w t s
  | .nop h => Sys2Proof.Machine.execNop h s
  | .abort h => Sys2Proof.Machine.execAbort h s
  | .timeRead h written => Sys2Proof.Machine.execTimeRead h written s
  | .pointRead h data fails => Sys2Proof.Machine.execPointRead h data fails s
  | .pointWrite h data => Sys2Proof.Machine.execPointWrite h data s
  | .pointLookup h data => Sys2Proof.Machine.execPointLookup h data s
  | .mapLoad h data => Sys2Proof.Machine.execMapLoad h data s
  | .viewOpen h data desc => Sys2Proof.Machine.execViewOpen h data desc s
  | .viewChange h data desc cons => Sys2Proof.Machine.execViewChange h data desc cons s
  | .viewClose h => Sys2Proof.Machine.execViewClose h s
  | .viewSnapshot h => Sys2Proof.Machine.execViewSnapshot h s
  | .forceSet h data => Sys2Proof.Machine.execForceSet h data s
  | .forceClear h data => Sys2Proof.Machine.execForceClear h data s
  | .forceList h => Sys2Proof.Machine.execForceList h s
  | .programLoad h data => Sys2Proof.Machine.execProgramLoad h data s
  | .programStart h => Sys2Proof.Machine.execProgramStart h s
  | .programStop h => Sys2Proof.Machine.execProgramStop h s
  | .weld h data => Sys2Proof.Machine.execWeld h data s
  | .weldConfirm h => Sys2Proof.Machine.execWeldConfirm h s
  | .weldRevert h => Sys2Proof.Machine.execWeldRevert h s
  | .ileLoad h data => Sys2Proof.Machine.execIleLoad h data s
  | .recipeLoad h data => Sys2Proof.Machine.execRecipeLoad h data s
  | .recipeStart h => Sys2Proof.Machine.execRecipeStart h s
  | .recipeHold h => Sys2Proof.Machine.execRecipeHold h s
  | .recipeRelease h => Sys2Proof.Machine.execRecipeRelease h s
  | .recipeAbort h => Sys2Proof.Machine.execRecipeAbort h s
  | .recipeResume h => Sys2Proof.Machine.execRecipeResume h s
  | .loopLoad h data => Sys2Proof.Machine.execLoopLoad h data s
  | .loopMode h => Sys2Proof.Machine.execLoopMode h s
  | .loopTune h data => Sys2Proof.Machine.execLoopTune h data s
  | .loopTuneRead h => Sys2Proof.Machine.execLoopTuneRead h s
  | .loopTuneApply h => Sys2Proof.Machine.execLoopTuneApply h s
  | .axisConfig h data => Sys2Proof.Machine.execAxisConfig h data s
  | .profileLoad h data => Sys2Proof.Machine.execProfileLoad h data s
  | .axisMove h lv => Sys2Proof.Machine.execAxisMove h lv s
  | .axisHome h lv => Sys2Proof.Machine.execAxisHome h lv s
  | .axisStopControlled h => Sys2Proof.Machine.execAxisStopControlled h s
  | .axisStopImmediate h => Sys2Proof.Machine.execAxisStopImmediate h s
  | .axisDriveOff h => Sys2Proof.Machine.execAxisDriveOff h s
  | .axisDriveOn h => Sys2Proof.Machine.execAxisDriveOn h s
  | .fbkConfig h data lv => Sys2Proof.Machine.execFbkConfig h data lv s
  | .compareLoad h data => Sys2Proof.Machine.execCompareLoad h data s
  | .cnvConfig h data => Sys2Proof.Machine.execCnvConfig h data s
  | .temperRun h => Sys2Proof.Machine.execTemperRun h s
  | .capConfig h data => Sys2Proof.Machine.execCapConfig h data s
  | .maskLoad h data => Sys2Proof.Machine.execMaskLoad h data s
  | .capArm h => Sys2Proof.Machine.execCapArm h s
  | .capRead h => Sys2Proof.Machine.execCapRead h s
  | .canConfig h data idle cons => Sys2Proof.Machine.execCanConfig h data idle cons s
  | .canFilter h data => Sys2Proof.Machine.execCanFilter h data s
  | .canSend h data => Sys2Proof.Machine.execCanSend h data s
  | .canCancel h cons => Sys2Proof.Machine.execCanCancel h cons s
  | .stnConfig h data => Sys2Proof.Machine.execStnConfig h data s
  | .stnTableLoad h data => Sys2Proof.Machine.execStnTableLoad h data s
  | .launch h data => Sys2Proof.Machine.execLaunch h data s
  | .logRead h => Sys2Proof.Machine.execLogRead h s
  | .logFreeze h => Sys2Proof.Machine.execLogFreeze h s
  | .logThaw h => Sys2Proof.Machine.execLogThaw h s
  | .eventRingOpen h data cons => Sys2Proof.Machine.execEventRingOpen h data cons s
  | .historyOpen h data cons => Sys2Proof.Machine.execHistoryOpen h data cons s
  | .historyClose h => Sys2Proof.Machine.execHistoryClose h s
  | .traceRead h => Sys2Proof.Machine.execTraceRead h s
  | .pairSwitch h => Sys2Proof.Machine.execPairSwitch h s
  | .stateTransfer h => Sys2Proof.Machine.execStateTransfer h s
  | .billetStage h data => Sys2Proof.Machine.execBilletStage h data s
  | .billetActivate h => Sys2Proof.Machine.execBilletActivate h s
  | .billetConfirm h => Sys2Proof.Machine.execBilletConfirm h s
  | .attest h data written => Sys2Proof.Machine.execAttest h data written s
  | .sensorRead h => Sys2Proof.Machine.execSensorRead h s
  | .hdlLogRead h => Sys2Proof.Machine.execHdlLogRead h s
  | .rtvUnlock h data => Sys2Proof.Machine.execRtvUnlock h data s
  | .tmbCommit => Sys2Proof.Machine.execTmbCommit s
  | .tmbWallApply => Sys2Proof.Machine.execTmbWallApply s
  | .tmbLqPush => Sys2Proof.Machine.execTmbLqPush s
  | .tioCfgWrite p v => Sys2Proof.Machine.execTioCfgWrite p v s
  | .tioStampPop p => Sys2Proof.Machine.execTioStampPop p s
  | .pstCommit => Sys2Proof.Machine.execPstCommit s
  | .pstPeek v => Sys2Proof.Machine.execPstPeek v s
  | .cycCommit => Sys2Proof.Machine.execCycCommit s
  | .hrtCommit => Sys2Proof.Machine.execHrtCommit s
  | .seqCommit => Sys2Proof.Machine.execSeqCommit s
  | .anvLoopCommit => Sys2Proof.Machine.execAnvLoopCommit s
  | .cnvCommit => Sys2Proof.Machine.execCnvCommit s
  | .capCommit => Sys2Proof.Machine.execCapCommit s
  | .qchCommit => Sys2Proof.Machine.execQchCommit s
  | .motCommit => Sys2Proof.Machine.execMotCommit s
  | .stnCommit => Sys2Proof.Machine.execStnCommit s
  | .recCommit => Sys2Proof.Machine.execRecCommit s
  | .wlkCommit => Sys2Proof.Machine.execWlkCommit s
  | .parCommit => Sys2Proof.Machine.execParCommit s
  | .hdlCommit => Sys2Proof.Machine.execHdlCommit s
  | .hdlRestart => Sys2Proof.Machine.execHdlRestart s
  | .fbEnd => Sys2Proof.Machine.execFbEnd s
  | .anvMemRead v => Sys2Proof.Machine.execAnvMemRead v s
  | .capMissRead v => Sys2Proof.Machine.execCapMissRead v s
  | .qchForceWrite v => Sys2Proof.Machine.execQchForceWrite v s
  | .qchRelease n => Sys2Proof.Machine.execQchRelease n s
  | .fbkSnap v => Sys2Proof.Machine.execFbkSnap v s
  | .canRecover c => Sys2Proof.Machine.execCanRecover c s
  | .pageFailClear => Sys2Proof.Machine.execPageFailClear s
  | .mboxIdentify => Sys2Proof.Machine.execMboxIdentify s
  | .mboxStageBegin => Sys2Proof.Machine.execMboxStageBegin s
  | .mboxStageData => Sys2Proof.Machine.execMboxStageData s
  | .mboxStageEnd => Sys2Proof.Machine.execMboxStageEnd s
  | .mboxActivate => Sys2Proof.Machine.execMboxActivate s
  | .mboxLogRead => Sys2Proof.Machine.execMboxLogRead s
  | .mboxSensorRead => Sys2Proof.Machine.execMboxSensorRead s
  | .mboxBootBankClear => Sys2Proof.Machine.execMboxBootBankClear s
  | .mboxRestart => Sys2Proof.Machine.execMboxRestart s
  | .mgmtUartFrame f => Sys2Proof.Machine.execMgmtUartFrame f s
  | .jtagBypass => Sys2Proof.Machine.execJtagBypass s
  | .jtagIdcode => Sys2Proof.Machine.execJtagIdcode s
  | .jtagSamplePreload => Sys2Proof.Machine.execJtagSamplePreload s
  | .jtagExtest => Sys2Proof.Machine.execJtagExtest s
  | .jtagTrst => Sys2Proof.Machine.execJtagTrst s
  | .ptpSyncRx p domain seq t1 corr raw t => Sys2Proof.Machine.execPtpSyncRx p domain seq t1 corr raw t s
  | .ptpFollowUpRx p domain seq t1 corr t => Sys2Proof.Machine.execPtpFollowUpRx p domain seq t1 corr t s
  | .ptpDelayRespRx p domain seq t4 corr t => Sys2Proof.Machine.execPtpDelayRespRx p domain seq t4 corr t s
  | .ptpPdelayRx p seq resp raw t => Sys2Proof.Machine.execPtpPdelayRx p seq resp raw t s
  | .ptpAnnounceRx p domain ds utcValid utc t => Sys2Proof.Machine.execPtpAnnounceRx p domain ds utcValid utc t s
  | .ptpDelayReqRx p seq mac raw t => Sys2Proof.Machine.execPtpDelayReqRx p seq mac raw t s
  | .ptpMasterTx p announce t => Sys2Proof.Machine.execPtpMasterTx p announce t s
  | .ptpDelayReqTx t => Sys2Proof.Machine.execPtpDelayReqTx t s
  | .followUpTimeout => Sys2Proof.Machine.execFollowUpTimeout s
  | .pdelayTimeout t => Sys2Proof.Machine.execPdelayTimeout t s
  | .announceTimeout t => Sys2Proof.Machine.execAnnounceTimeout t s
  | .syncMissing t => Sys2Proof.Machine.execSyncMissing t s
  | .sourceLossTimeout src t => Sys2Proof.Machine.execSourceLossTimeout src t s
  | .rateSaturationTimeout => Sys2Proof.Machine.execRateSaturationTimeout s
  | .sourceRejectExpiry src => Sys2Proof.Machine.execSourceRejectExpiry src s
  | .sourceReturn t => Sys2Proof.Machine.execSourceReturn t s
  | .epochWaitEnd => Sys2Proof.Machine.execEpochWaitEnd s
  | .ppsInEdge t falling refOk => Sys2Proof.Machine.execPpsInEdge t falling refOk s
  | .ppsMissing => Sys2Proof.Machine.execPpsMissing s
  | .ref10mLoss => Sys2Proof.Machine.execRef10mLoss s
  | .refOnlyMeasurement t f => Sys2Proof.Machine.execRefOnlyMeasurement t f s
  | .ppsOutRise t => Sys2Proof.Machine.execPpsOutRise t s
  | .ppsOutFall t => Sys2Proof.Machine.execPpsOutFall t s
  | .tioStampEdge p q ballFalling => Sys2Proof.Machine.execTioStampEdge p q ballFalling s
  | .tioNop => Sys2Proof.Machine.execTioNop s
  | .setLow => Sys2Proof.Machine.execSetLow s
  | .setHigh => Sys2Proof.Machine.execSetHigh s
  | .toggle => Sys2Proof.Machine.execToggle s
  | .pulse => Sys2Proof.Machine.execPulse s
  | .pulseTrailingEdge p => Sys2Proof.Machine.execPulseTrailingEdge p s
  | .scrubStep c => Sys2Proof.Machine.execScrubStep c s
  | .tileRepairDone tile copy => Sys2Proof.Machine.execTileRepairDone tile copy s
  | .viewDelivery n t written => Sys2Proof.Machine.execViewDelivery n t written s
  | .viewConsPoll n cons => Sys2Proof.Machine.execViewConsPoll n cons s
  | .viewHeartbeat n t => Sys2Proof.Machine.execViewHeartbeat n t s
  | .viewSnapshotTimer n t => Sys2Proof.Machine.execViewSnapshotTimer n t s
  | .staleMarkQueue n id t => Sys2Proof.Machine.execStaleMarkQueue n id t s
  | .cycLatch c => Sys2Proof.Machine.execCycLatch c s
  | .cycDeadline c => Sys2Proof.Machine.execCycDeadline c s
  | .cycStart c => Sys2Proof.Machine.execCycStart c s
  | .cycStop => Sys2Proof.Machine.execCycStop s
  | .weldCopyPass t copied => Sys2Proof.Machine.execWeldCopyPass t copied s
  | .weldWaitTimeout => Sys2Proof.Machine.execWeldWaitTimeout s
  | .weldGapEnd t good => Sys2Proof.Machine.execWeldGapEnd t good s
  | .weldRevertGapEnd t good => Sys2Proof.Machine.execWeldRevertGapEnd t good s
  | .revertInstantTimeout => Sys2Proof.Machine.execRevertInstantTimeout s
  | .ileScan dur => Sys2Proof.Machine.execIleScan dur s
  | .ileScanLate dur => Sys2Proof.Machine.execIleScanLate dur s
  | .ileFault t insn => Sys2Proof.Machine.execIleFault t insn s
  | .itemDispatch core t => Sys2Proof.Machine.execItemDispatch core t s
  | .itemCreditRelease src => Sys2Proof.Machine.execItemCreditRelease src s
  | .itemCommitEnd t => Sys2Proof.Machine.execItemCommitEnd t s
  | .itemLimitTimeout core => Sys2Proof.Machine.execItemLimitTimeout core s
  | .itemFault core t cause p => Sys2Proof.Machine.execItemFault core t cause p s
  | .corePairMismatch core t => Sys2Proof.Machine.execCorePairMismatch core t s
  | .prec core w p => Sys2Proof.Machine.execPrec core w p s
  | .plv core w p => Sys2Proof.Machine.execPlv core w p s
  | .pst core w p => Sys2Proof.Machine.execPst core w p s
  | .stampset core w p => Sys2Proof.Machine.execStampset core w p s
  | .trd core w p => Sys2Proof.Machine.execTrd core w p s
  | .lreq core w p => Sys2Proof.Machine.execLreq core w p s
  | .wdone core t w p => Sys2Proof.Machine.execWdone core t w p s
  | .evt core w p => Sys2Proof.Machine.execEvt core w p s
  | .boundary x fails => Sys2Proof.Machine.execBoundary x fails s
  | .offset x => Sys2Proof.Machine.execOffset x s
  | .conditionEvaluation x => Sys2Proof.Machine.execConditionEvaluation x s
  | .stepMaxTimeout x => Sys2Proof.Machine.execStepMaxTimeout x s
  | .rampTick x rid => Sys2Proof.Machine.execRampTick x rid s
  | .launchAckTimeout x => Sys2Proof.Machine.execLaunchAckTimeout x s
  | .resumePrecheck x => Sys2Proof.Machine.execResumePrecheck x s
  | .loopSampleLaunch n => Sys2Proof.Machine.execLoopSampleLaunch n s
  | .anvilTickSwap c ps => Sys2Proof.Machine.execAnvilTickSwap c ps s
  | .routineOverrun c => Sys2Proof.Machine.execRoutineOverrun c s
  | .loopOutputLaunch n => Sys2Proof.Machine.execLoopOutputLaunch n s
  | .loopStateCopy t => Sys2Proof.Machine.execLoopStateCopy t s
  | .loopJournalWrite t => Sys2Proof.Machine.execLoopJournalWrite t s
  | .anvilCoreMismatch c t => Sys2Proof.Machine.execAnvilCoreMismatch c t s
  | .anvilEccRewrite c space addr t => Sys2Proof.Machine.execAnvilEccRewrite c space addr t s
  | .tuneFitDone n t => Sys2Proof.Machine.execTuneFitDone n t s
  | .anvNop c => Sys2Proof.Machine.execAnvNop c s
  | .mpy c => Sys2Proof.Machine.execMpy c s
  | .mac c => Sys2Proof.Machine.execMac c s
  | .msu c => Sys2Proof.Machine.execMsu c s
  | .lda c => Sys2Proof.Machine.execLda c s
  | .add c => Sys2Proof.Machine.execAdd c s
  | .sub c => Sys2Proof.Machine.execSub c s
  | .adda c => Sys2Proof.Machine.execAdda c s
  | .suba c => Sys2Proof.Machine.execSuba c s
  | .clr c => Sys2Proof.Machine.execClr c s
  | .neg c => Sys2Proof.Machine.execNeg c s
  | .abs c => Sys2Proof.Machine.execAbs c s
  | .cmp c => Sys2Proof.Machine.execCmp c s
  | .ldx c => Sys2Proof.Machine.execLdx c s
  | .ldy c => Sys2Proof.Machine.execLdy c s
  | .ldp c => Sys2Proof.Machine.execLdp c s
  | .mov c => Sys2Proof.Machine.execMov c s
  | .mova c => Sys2Proof.Machine.execMova c s
  | .moval c => Sys2Proof.Machine.execMoval c s
  | .ash c => Sys2Proof.Machine.execAsh c s
  | .sha c => Sys2Proof.Machine.execSha c s
  | .norm c => Sys2Proof.Machine.execNorm c s
  | .exp c => Sys2Proof.Machine.execExp c s
  | .jmp c => Sys2Proof.Machine.execJmp c s
  | .jcc c => Sys2Proof.Machine.execJcc c s
  | .call c => Sys2Proof.Machine.execCall c s
  | .ret c => Sys2Proof.Machine.execRet c s
  | .doLoop c => Sys2Proof.Machine.execDo c s
  | .endRoutine c => Sys2Proof.Machine.execEnd c s
  | .clrf c => Sys2Proof.Machine.execClrf c s
  | .scale c => Sys2Proof.Machine.execScale c s
  | .cnvResultFormed g cs ovr q t => Sys2Proof.Machine.execCnvResultFormed g cs ovr q t s
  | .scanPassStart g t => Sys2Proof.Machine.execScanPassStart g t s
  | .scanResult n c ovr q t => Sys2Proof.Machine.execScanResult n c ovr q t s
  | .calSlot n t => Sys2Proof.Machine.execCalSlot n t s
  | .cnvConfigBoundary g t => Sys2Proof.Machine.execCnvConfigBoundary g t s
  | .temperBgUpdate idle t => Sys2Proof.Machine.execTemperBgUpdate idle t s
  | .temperDeferExpiry g => Sys2Proof.Machine.execTemperDeferExpiry g s
  | .calStaleTimeout t => Sys2Proof.Machine.execCalStaleTimeout t s
  | .sliceFailed n cause t => Sys2Proof.Machine.execSliceFailed n cause t s
  | .burstResume g => Sys2Proof.Machine.execBurstResume g s
  | .adcclkLoss t => Sys2Proof.Machine.execAdcclkLoss t s
  | .adcclkReturn t => Sys2Proof.Machine.execAdcclkReturn t s
  | .capArmLaunch n => Sys2Proof.Machine.execCapArmLaunch n s
  | .capFire n => Sys2Proof.Machine.execCapFire n s
  | .capStop n => Sys2Proof.Machine.execCapStop n s
  | .rearmEnd n => Sys2Proof.Machine.execRearmEnd n s
  | .postWindowExpiry n => Sys2Proof.Machine.execPostWindowExpiry n s
  | .capGroupArmInstant n members => Sys2Proof.Machine.execCapGroupArmInstant n members s
  | .qchReleaseDeferred n => Sys2Proof.Machine.execQchReleaseDeferred n s
  | .qchReadbackFault n t => Sys2Proof.Machine.execQchReadbackFault n t s
  | .motStart n lv => Sys2Proof.Machine.execMotStart n lv s
  | .motStop n lv => Sys2Proof.Machine.execMotStop n lv s
  | .motHome n lv => Sys2Proof.Machine.execMotHome n lv s
  | .stepperTick n lv => Sys2Proof.Machine.execStepperTick n lv s
  | .stepPulse n => Sys2Proof.Machine.execStepPulse n s
  | .stepPulseFall n => Sys2Proof.Machine.execStepPulseFall n s
  | .servoTick n lv t => Sys2Proof.Machine.execServoTick n lv t s
  | .limitSwitchActive n positive t => Sys2Proof.Machine.execLimitSwitchActive n positive t s
  | .homeSwitchEdge n which active t => Sys2Proof.Machine.execHomeSwitchEdge n which active t s
  | .homingTimeout n => Sys2Proof.Machine.execHomingTimeout n s
  | .pgoodLoss n t => Sys2Proof.Machine.execPgoodLoss n t s
  | .pgoodRise n t => Sys2Proof.Machine.execPgoodRise n t s
  | .driveSettleEnd n => Sys2Proof.Machine.execDriveSettleEnd n s
  | .driveEnableDelay n => Sys2Proof.Machine.execDriveEnableDelay n s
  | .pgoodTimeout n => Sys2Proof.Machine.execPgoodTimeout n s
  | .quadEdge n a b t => Sys2Proof.Machine.execQuadEdge n a b t s
  | .hallChange n code t => Sys2Proof.Machine.execHallChange n code t s
  | .ssiFrameStart n => Sys2Proof.Machine.execSsiFrameStart n s
  | .ssiFrameEnd n high low data => Sys2Proof.Machine.execSsiFrameEnd n high low data s
  | .indexEdge n t => Sys2Proof.Machine.execIndexEdge n t s
  | .fbkPublish n t => Sys2Proof.Machine.execFbkPublish n t s
  | .comparePulseEnd n => Sys2Proof.Machine.execComparePulseEnd n s
  | .discoverTx t => Sys2Proof.Machine.execDiscoverTx t s
  | .wspHelloRx p mac f t => Sys2Proof.Machine.execWspHelloRx p mac f t s
  | .wspConfigAckRx p mac f t => Sys2Proof.Machine.execWspConfigAckRx p mac f t s
  | .wspInputRx p mac f raw t => Sys2Proof.Machine.execWspInputRx p mac f raw t s
  | .ethFrameDiscard p kind mac f t => Sys2Proof.Machine.execEthFrameDiscard p kind mac f t s
  | .configRetryTimeout n => Sys2Proof.Machine.execConfigRetryTimeout n s
  | .reassemblyTimeout n => Sys2Proof.Machine.execReassemblyTimeout n s
  | .stationTimeout n => Sys2Proof.Machine.execStationTimeout n s
  | .outputImage p => Sys2Proof.Machine.execOutputImage p s
  | .egressFrameStart p t => Sys2Proof.Machine.execEgressFrameStart p t s
  | .portLinkChange p up t => Sys2Proof.Machine.execPortLinkChange p up t s
  | .canSendLaunch c => Sys2Proof.Machine.execCanSendLaunch c s
  | .canArbitration c sof => Sys2Proof.Machine.execCanArbitration c sof s
  | .canTxComplete c sent tdcv cons t => Sys2Proof.Machine.execCanTxComplete c sent tdcv cons t s
  | .canFrameRx c sof f cons t => Sys2Proof.Machine.execCanFrameRx c sof f cons t s
  | .canBusError c code quiet tdcv cons t => Sys2Proof.Machine.execCanBusError c code quiet tdcv cons t s
  | .canRecoveryDone c t => Sys2Proof.Machine.execCanRecoveryDone c t s
  | .canIntegrationDone c t => Sys2Proof.Machine.execCanIntegrationDone c t s
  | .canConfigEffect c t => Sys2Proof.Machine.execCanConfigEffect c t s
  | .eventAccept => Sys2Proof.Machine.execEventAccept s
  | .logWriteVerify slot first second lost => Sys2Proof.Machine.execLogWriteVerify slot first second lost s
  | .freezeMaxExpiry => Sys2Proof.Machine.execFreezeMaxExpiry s
  | .eventRingDelivery t cons written => Sys2Proof.Machine.execEventRingDelivery t cons written s
  | .repeatUpdateDelivery q t cons written => Sys2Proof.Machine.execRepeatUpdateDelivery q t cons written s
  | .historyHoldRelease id => Sys2Proof.Machine.execHistoryHoldRelease id s
  | .historyBlockClose => Sys2Proof.Machine.execHistoryBlockClose s
  | .historyExport t cons written => Sys2Proof.Machine.execHistoryExport t cons written s
  | .wlkHeartbeatTx t => Sys2Proof.Machine.execWlkHeartbeatTx t s
  | .wlkHeartbeatRx p lane m st n t => Sys2Proof.Machine.execWlkHeartbeatRx p lane m st n t s
  | .wlkLaneLoss p lane noLock t => Sys2Proof.Machine.execWlkLaneLoss p lane noLock t s
  | .wlkPortDown p t => Sys2Proof.Machine.execWlkPortDown p t s
  | .wlkRetrainDone p t => Sys2Proof.Machine.execWlkRetrainDone p t s
  | .linkHelloRx p b t => Sys2Proof.Machine.execLinkHelloRx p b t s
  | .wlkVersionRetry p => Sys2Proof.Machine.execWlkVersionRetry p s
  | .announceTx t => Sys2Proof.Machine.execAnnounceTx t s
  | .announceRx p b t => Sys2Proof.Machine.execAnnounceRx p b t s
  | .masterAnnounceTimeout t => Sys2Proof.Machine.execMasterAnnounceTimeout t s
  | .syncReqTx t1 t => Sys2Proof.Machine.execSyncReqTx t1 t s
  | .syncReqRx p b t2 t3 t => Sys2Proof.Machine.execSyncReqRx p b t2 t3 t s
  | .syncRespRx p b t4 t => Sys2Proof.Machine.execSyncRespRx p b t4 t s
  | .syncDoneRx p b mt t => Sys2Proof.Machine.execSyncDoneRx p b mt t s
  | .domainTimeLoss t => Sys2Proof.Machine.execDomainTimeLoss t s
  | .replicationSend e ids t => Sys2Proof.Machine.execReplicationSend e ids t s
  | .pointRecordsRx p b t => Sys2Proof.Machine.execPointRecordsRx p b t s
  | .trigArmRx p b t => Sys2Proof.Machine.execTrigArmRx p b t s
  | .trigFireRx rx t => Sys2Proof.Machine.execTrigFireRx rx t s
  | .trigAckRx p b t => Sys2Proof.Machine.execTrigAckRx p b t s
  | .launchBoundaryRx p b t => Sys2Proof.Machine.execLaunchBoundaryRx p b t s
  | .launchAckRx p b t => Sys2Proof.Machine.execLaunchAckRx p b t s
  | .launchResumeRx p b t => Sys2Proof.Machine.execLaunchResumeRx p b t s
  | .mirrorInputRx b t => Sys2Proof.Machine.execMirrorInputRx b t s
  | .mirrorCommitOrderRx b t => Sys2Proof.Machine.execMirrorCommitOrderRx b t s
  | .mirrorDigestRx b t => Sys2Proof.Machine.execMirrorDigestRx b t s
  | .mirrorCommandRx b t => Sys2Proof.Machine.execMirrorCommandRx b t s
  | .mirrorAckRx b t => Sys2Proof.Machine.execMirrorAckRx b t s
  | .mirrorGiveUpRx b planned t => Sys2Proof.Machine.execMirrorGiveUpRx b planned t s
  | .mirrorXferRx b regions snapshot t => Sys2Proof.Machine.execMirrorXferRx b regions snapshot t s
  | .mirrorPinStateRx b t => Sys2Proof.Machine.execMirrorPinStateRx b t s
  | .mirrorAckTimeout => Sys2Proof.Machine.execMirrorAckTimeout s
  | .standbyLagExceeded us t => Sys2Proof.Machine.execStandbyLagExceeded us t s
  | .pairHelloTx t => Sys2Proof.Machine.execPairHelloTx t s
  | .pairHelloRx b t => Sys2Proof.Machine.execPairHelloRx b t s
  | .pairActInLow planned t => Sys2Proof.Machine.execPairActInLow planned t s
  | .pairActInRise t => Sys2Proof.Machine.execPairActInRise t s
  | .pairSwitchInstant => Sys2Proof.Machine.execPairSwitchInstant s
  | .autoResyncStart t => Sys2Proof.Machine.execAutoResyncStart t s
  | .xferPassEnd left cut t => Sys2Proof.Machine.execXferPassEnd left cut t s
  | .xferCutTimeout cut t => Sys2Proof.Machine.execXferCutTimeout cut t s
  | .xferCatchupDone t => Sys2Proof.Machine.execXferCatchupDone t s
  | .catchupTimeout t => Sys2Proof.Machine.execCatchupTimeout t s
  | .selftestPass fails t => Sys2Proof.Machine.execSelftestPass fails t s
  | .selftestOverdue t => Sys2Proof.Machine.execSelftestOverdue t s
  | .probationTimeout => Sys2Proof.Machine.execProbationTimeout s
  | .blockLock p lane t => Sys2Proof.Machine.execBlockLock p lane t s
  | .phaseRestoreStep n => Sys2Proof.Machine.execPhaseRestoreStep n s
  | .recipeAbortInstant x fails => Sys2Proof.Machine.execRecipeAbortInstant x fails s
  | .railRestored => Sys2Proof.Machine.execRailRestored s

end Sys2Proof.Machine
end

