-- ==== Sys2Proof/WellFormed.lean ====
section
/-! DEFINITION. Which commands are well formed: the number of a unit lies in the range the manual gives it, an address is one of BAR0's words, a
descriptor, a tile, a frame and a MAC address have their length. -/
namespace Sys2Proof

/-- The bytes, where there are any, have a length. -/
def bytesAre (n : Nat) : Option Bytes → Bool
  | some b => decide (b.length = n)
  | none => true

/-- A command is well formed. -/
def wellFormed : Instr → Bool
  | .powerOnReset => true
  | .coldStart _ => true
  | .warmRestart _ _ => true
  | .railUndervoltage _ _ => true
  | .supplyFault n _ => decide (24 ≤ n) && decide (n < 42)
  | .clockFault d _ => decide (d < 14)
  | .tempCrit n _ => decide (n < 24)
  | .tempTrip n _ => decide (n < 24)
  | .tempTripRecovery _ => true
  | .faultAutoRestart _ => true
  | .sensorReading n _ _ => decide (n < 120)
  | .pmbusPoll d _ _ => decide (d < 16)
  | .pmbusAlert words _ => decide (words.length ≤ 16)
  | .hdlWatchdog _ => true
  | .controlHeartbeatMissing _ => true
  | .pairWaitEnd => true
  | .programAutostart _ => true
  | .ileAutostart _ => true
  | .loopPersistStart n _ bad => decide (n < 1024) && decide (bad ≤ 2)
  | .recipeAutoResume _ => true
  | .timelineMarkWrite _ => true
  | .coarseMarkWrite _ => true
  | .bootBankWriteDone _ _ => true
  | .hostAccessLoss _ _ => true
  | .linkTrained speed width => decide (speed < 16) && decide (width < 64)
  | .hifNegotiate => true
  | .hifCommit => true
  | .sqEnableWrite n _ => decide (n < 64)
  | .cqEnableWrite n _ => decide (n < 64)
  | .sqDoorbell n _ => decide (n < 64)
  | .cqDoorbell n _ => decide (n < 64)
  | .descFetch n d => decide (n < 64) && bytesAre 64 d
  | .commandSlice _ _ _ _ => true
  | .completionWrite _ _ => true
  | .progressEntry _ _ => true
  | .cqIrqTimer n => decide (n < 64)
  | .registerWrite a _ => decide (a % 4 = 0) && decide (a < 0x2000000)
  | .counterRead a => decide (a % 4 = 0) && decide (a < 0x2000000)
  | .loLatchRead a => decide (a % 4 = 0) && decide (a < 0x2000000)
  | .tmbNowRead => true
  | .commitApply w _ => decide (w < 32)
  | .nop _ => true
  | .abort _ => true
  | .timeRead _ _ => true
  | .pointRead _ _ _ => true
  | .pointWrite _ _ => true
  | .pointLookup _ _ => true
  | .mapLoad _ _ => true
  | .viewOpen _ _ desc => decide (desc.length = 64)
  | .viewChange _ _ desc _ => decide (desc.length = 64)
  | .viewClose _ => true
  | .viewSnapshot _ => true
  | .forceSet _ _ => true
  | .forceClear _ _ => true
  | .forceList _ => true
  | .programLoad _ _ => true
  | .programStart _ => true
  | .programStop _ => true
  | .weld _ _ => true
  | .weldConfirm _ => true
  | .weldRevert _ => true
  | .ileLoad _ _ => true
  | .recipeLoad _ _ => true
  | .recipeStart _ => true
  | .recipeHold _ => true
  | .recipeRelease _ => true
  | .recipeAbort _ => true
  | .recipeResume _ => true
  | .loopLoad _ _ => true
  | .loopMode _ => true
  | .loopTune _ _ => true
  | .loopTuneRead _ => true
  | .loopTuneApply _ => true
  | .axisConfig _ _ => true
  | .profileLoad _ _ => true
  | .axisMove _ lv => decide (lv < 16)
  | .axisHome _ lv => decide (lv < 16)
  | .axisStopControlled _ => true
  | .axisStopImmediate _ => true
  | .axisDriveOff _ => true
  | .axisDriveOn _ => true
  | .fbkConfig _ _ lv => decide (lv < 8)
  | .compareLoad _ _ => true
  | .cnvConfig _ _ => true
  | .temperRun _ => true
  | .capConfig _ _ => true
  | .maskLoad _ _ => true
  | .capArm _ => true
  | .capRead _ => true
  | .canConfig _ _ _ _ => true
  | .canFilter _ _ => true
  | .canSend _ _ => true
  | .canCancel _ _ => true
  | .stnConfig _ _ => true
  | .stnTableLoad _ _ => true
  | .launch _ _ => true
  | .logRead _ => true
  | .logFreeze _ => true
  | .logThaw _ => true
  | .eventRingOpen _ _ _ => true
  | .historyOpen _ _ _ => true
  | .historyClose _ => true
  | .traceRead _ => true
  | .pairSwitch _ => true
  | .stateTransfer _ => true
  | .billetStage _ _ => true
  | .billetActivate _ => true
  | .billetConfirm _ => true
  | .attest _ _ _ => true
  | .sensorRead _ => true
  | .hdlLogRead _ => true
  | .rtvUnlock _ _ => true
  | .tmbCommit => true
  | .tmbWallApply => true
  | .tmbLqPush => true
  | .tioCfgWrite p _ => decide (p < 128)
  | .tioStampPop p => decide (p < 128)
  | .pstCommit => true
  | .pstPeek _ => true
  | .cycCommit => true
  | .hrtCommit => true
  | .seqCommit => true
  | .anvLoopCommit => true
  | .cnvCommit => true
  | .capCommit => true
  | .qchCommit => true
  | .motCommit => true
  | .stnCommit => true
  | .recCommit => true
  | .wlkCommit => true
  | .parCommit => true
  | .hdlCommit => true
  | .hdlRestart => true
  | .fbEnd => true
  | .anvMemRead _ => true
  | .capMissRead _ => true
  | .qchForceWrite _ => true
  | .qchRelease n => decide (n < 16)
  | .fbkSnap _ => true
  | .canRecover c => decide (c < 8)
  | .pageFailClear => true
  | .mboxIdentify => true
  | .mboxStageBegin => true
  | .mboxStageData => true
  | .mboxStageEnd => true
  | .mboxActivate => true
  | .mboxLogRead => true
  | .mboxSensorRead => true
  | .mboxBootBankClear => true
  | .mboxRestart => true
  | .mgmtUartFrame _ => true
  | .jtagBypass => true
  | .jtagIdcode => true
  | .jtagSamplePreload => true
  | .jtagExtest => true
  | .jtagTrst => true
  | .ptpSyncRx p domain seq _ _ _ _ => decide (p < 4) && decide (domain < 256) && decide (seq < 0x10000)
  | .ptpFollowUpRx p domain seq _ _ _ => decide (p < 4) && decide (domain < 256) && decide (seq < 0x10000)
  | .ptpDelayRespRx p domain seq _ _ _ => decide (p < 4) && decide (domain < 256) && decide (seq < 0x10000)
  | .ptpPdelayRx p seq _ _ _ => decide (p < 4) && decide (seq < 0x10000)
  | .ptpAnnounceRx p domain _ _ _ _ => decide (p < 4) && decide (domain < 256)
  | .ptpDelayReqRx p seq mac _ _ => decide (p < 4) && decide (seq < 0x10000) && decide (mac.length = 6)
  | .ptpMasterTx p _ _ => decide (p < 4)
  | .ptpDelayReqTx _ => true
  | .followUpTimeout => true
  | .pdelayTimeout _ => true
  | .announceTimeout _ => true
  | .syncMissing _ => true
  | .sourceLossTimeout src _ => decide (src < 16)
  | .rateSaturationTimeout => true
  | .sourceRejectExpiry src => decide (src < 16)
  | .sourceReturn _ => true
  | .epochWaitEnd => true
  | .ppsInEdge _ _ _ => true
  | .ppsMissing => true
  | .ref10mLoss => true
  | .refOnlyMeasurement _ _ => true
  | .ppsOutRise _ => true
  | .ppsOutFall _ => true
  | .tioStampEdge p _ _ => decide (p < 128)
  | .tioNop => true
  | .setLow => true
  | .setHigh => true
  | .toggle => true
  | .pulse => true
  | .pulseTrailingEdge p => decide (p < 128)
  | .scrubStep _ => true
  | .tileRepairDone _ copy => bytesAre 512 copy
  | .viewDelivery n _ _ => decide (n < 128)
  | .viewConsPoll n _ => decide (n < 128)
  | .viewHeartbeat n _ => decide (n < 128)
  | .viewSnapshotTimer n _ => decide (n < 128)
  | .staleMarkQueue n id _ => decide (n < 128) && decide (id < 0x2000000)
  | .cycLatch c => decide (c < 32)
  | .cycDeadline c => decide (c < 32)
  | .cycStart c => decide (c < 32)
  | .cycStop => true
  | .weldCopyPass _ _ => true
  | .weldWaitTimeout => true
  | .weldGapEnd _ _ => true
  | .weldRevertGapEnd _ _ => true
  | .revertInstantTimeout => true
  | .ileScan _ => true
  | .ileScanLate _ => true
  | .ileFault _ _ => true
  | .itemDispatch core _ => decide (core < 32)
  | .itemCreditRelease src => decide (src < 8)
  | .itemCommitEnd _ => true
  | .itemLimitTimeout core => decide (core < 32)
  | .itemFault core _ _ _ => decide (core < 32)
  | .corePairMismatch core _ => decide (core < 32)
  | .prec core _ _ => decide (core < 32)
  | .plv core _ _ => decide (core < 32)
  | .pst core _ _ => decide (core < 32)
  | .stampset core _ _ => decide (core < 32)
  | .trd core _ _ => decide (core < 32)
  | .lreq core _ _ => decide (core < 32)
  | .wdone core _ _ _ => decide (core < 32)
  | .evt core _ _ => decide (core < 32)
  | .boundary x _ => decide (x < 64)
  | .offset x => decide (x < 64)
  | .conditionEvaluation x => decide (x < 64)
  | .stepMaxTimeout x => decide (x < 64)
  | .rampTick x i => decide (x < 64) && decide (i < 32768)
  | .launchAckTimeout x => decide (x < 64)
  | .resumePrecheck x => decide (x < 64)
  | .loopSampleLaunch n => decide (n < 1024)
  | .anvilTickSwap c _ => decide (c < 64)
  | .routineOverrun c => decide (c < 64)
  | .loopOutputLaunch n => decide (n < 1024)
  | .loopStateCopy _ => true
  | .loopJournalWrite _ => true
  | .anvilCoreMismatch c _ => decide (c < 64)
  | .anvilEccRewrite c space _ _ => decide (c < 64) && decide (space < 3)
  | .tuneFitDone n _ => decide (n < 1024)
  | .anvNop c => decide (c < 64)
  | .mpy c => decide (c < 64)
  | .mac c => decide (c < 64)
  | .msu c => decide (c < 64)
  | .lda c => decide (c < 64)
  | .add c => decide (c < 64)
  | .sub c => decide (c < 64)
  | .adda c => decide (c < 64)
  | .suba c => decide (c < 64)
  | .clr c => decide (c < 64)
  | .neg c => decide (c < 64)
  | .abs c => decide (c < 64)
  | .cmp c => decide (c < 64)
  | .ldx c => decide (c < 64)
  | .ldy c => decide (c < 64)
  | .ldp c => decide (c < 64)
  | .mov c => decide (c < 64)
  | .mova c => decide (c < 64)
  | .moval c => decide (c < 64)
  | .ash c => decide (c < 64)
  | .sha c => decide (c < 64)
  | .norm c => decide (c < 64)
  | .exp c => decide (c < 64)
  | .jmp c => decide (c < 64)
  | .jcc c => decide (c < 64)
  | .call c => decide (c < 64)
  | .ret c => decide (c < 64)
  | .doLoop c => decide (c < 64)
  | .endRoutine c => decide (c < 64)
  | .clrf c => decide (c < 64)
  | .scale c => decide (c < 64)
  | .cnvResultFormed g _ _ _ _ => decide (g < 4)
  | .scanPassStart g _ => decide (g < 4)
  | .scanResult n _ _ _ _ => decide (n < 16)
  | .calSlot n _ => decide (n < 16)
  | .cnvConfigBoundary g _ => decide (g < 4)
  | .temperBgUpdate idle _ => decide (idle < 16)
  | .temperDeferExpiry g => decide (g < 4)
  | .calStaleTimeout _ => true
  | .sliceFailed n _ _ => decide (n < 16)
  | .burstResume g => decide (g < 4)
  | .adcclkLoss _ => true
  | .adcclkReturn _ => true
  | .capArmLaunch n => decide (n < 16)
  | .capFire n => decide (n < 16)
  | .capStop n => decide (n < 16)
  | .rearmEnd n => decide (n < 16)
  | .postWindowExpiry n => decide (n < 16)
  | .capGroupArmInstant n _ => decide (n < 16)
  | .qchReleaseDeferred n => decide (n < 16)
  | .qchReadbackFault n _ => decide (n < 16)
  | .motStart n lv => decide (lv < 16) && decide (n < 64)
  | .motStop n lv => decide (lv < 16) && decide (n < 64)
  | .motHome n lv => decide (lv < 16) && decide (n < 64)
  | .stepperTick n lv => decide (lv < 16) && decide (n < 64)
  | .stepPulse n => decide (n < 64)
  | .stepPulseFall n => decide (n < 64)
  | .servoTick n lv _ => decide (lv < 16) && decide (n < 64)
  | .limitSwitchActive n _ _ => decide (n < 64)
  | .homeSwitchEdge n which _ _ => decide (n < 64) && decide (which < 3)
  | .homingTimeout n => decide (n < 64)
  | .pgoodLoss n _ => decide (n < 64)
  | .pgoodRise n _ => decide (n < 64)
  | .driveSettleEnd n => decide (n < 64)
  | .driveEnableDelay n => decide (n < 64)
  | .pgoodTimeout n => decide (n < 64)
  | .quadEdge n _ _ _ => decide (n < 32)
  | .hallChange n code _ => decide (n < 32) && decide (code < 8)
  | .ssiFrameStart n => decide (n < 32)
  | .ssiFrameEnd n _ _ _ => decide (n < 32)
  | .indexEdge n _ => decide (n < 32)
  | .fbkPublish n _ => decide (n < 32)
  | .comparePulseEnd n => decide (n < 32)
  | .discoverTx _ => true
  | .wspHelloRx p mac _ _ => decide (mac.length = 6) && decide (p < 4)
  | .wspConfigAckRx p mac _ _ => decide (mac.length = 6) && decide (p < 4)
  | .wspInputRx p mac _ _ _ => decide (mac.length = 6) && decide (p < 4)
  | .ethFrameDiscard p _ mac _ _ => decide (mac.length = 6) && decide (p < 4)
  | .configRetryTimeout n => decide (n < 4096)
  | .reassemblyTimeout n => decide (n < 4096)
  | .stationTimeout n => decide (n < 4096)
  | .outputImage p => decide (p < 4)
  | .egressFrameStart p _ => decide (p < 4)
  | .portLinkChange p _ _ => decide (p < 4)
  | .canSendLaunch c => decide (c < 8)
  | .canArbitration c _ => decide (c < 8)
  | .canTxComplete c _ _ _ _ => decide (c < 8)
  | .canFrameRx c _ f _ _ => decide (c < 8) && decide (f.length = 80)
  | .canBusError c code _ _ _ _ => decide (c < 8) && decide (code < 8)
  | .canRecoveryDone c _ => decide (c < 8)
  | .canIntegrationDone c _ => decide (c < 8)
  | .canConfigEffect c _ => decide (c < 8)
  | .eventAccept => true
  | .logWriteVerify slot _ _ _ => decide (slot < 1048576)
  | .freezeMaxExpiry => true
  | .eventRingDelivery _ _ _ => true
  | .repeatUpdateDelivery _ _ _ _ => true
  | .historyHoldRelease id => decide (id < 0x2000000)
  | .historyBlockClose => true
  | .historyExport _ _ _ => true
  | .wlkHeartbeatTx _ => true
  | .wlkHeartbeatRx p lane m st _ _ => decide (p < 4) && decide (lane < 2) && decide (m < 256) && decide (st < 8)
  | .wlkLaneLoss p lane _ _ => decide (p < 4) && decide (lane < 2)
  | .wlkPortDown p _ => decide (p < 4)
  | .wlkRetrainDone p _ => decide (p < 4)
  | .linkHelloRx p _ _ => decide (p < 4)
  | .wlkVersionRetry p => decide (p < 4)
  | .announceTx _ => true
  | .announceRx p _ _ => decide (p < 4)
  | .masterAnnounceTimeout _ => true
  | .syncReqTx _ _ => true
  | .syncReqRx p _ _ _ _ => decide (p < 4)
  | .syncRespRx p _ _ _ => decide (p < 4)
  | .syncDoneRx p _ _ _ => decide (p < 4)
  | .domainTimeLoss _ => true
  | .replicationSend e _ _ => decide (e < 256)
  | .pointRecordsRx p _ _ => decide (p < 4)
  | .trigArmRx p _ _ => decide (p < 4)
  | .trigFireRx _ _ => true
  | .trigAckRx p _ _ => decide (p < 4)
  | .launchBoundaryRx p _ _ => decide (p < 4)
  | .launchAckRx p _ _ => decide (p < 4)
  | .launchResumeRx p _ _ => decide (p < 4)
  | .mirrorInputRx _ _ => true
  | .mirrorCommitOrderRx _ _ => true
  | .mirrorDigestRx _ _ => true
  | .mirrorCommandRx _ _ => true
  | .mirrorAckRx _ _ => true
  | .mirrorGiveUpRx _ _ _ => true
  | .mirrorXferRx _ _ _ _ => true
  | .mirrorPinStateRx _ _ => true
  | .mirrorAckTimeout => true
  | .standbyLagExceeded _ _ => true
  | .pairHelloTx _ => true
  | .pairHelloRx _ _ => true
  | .pairActInLow _ _ => true
  | .pairActInRise _ => true
  | .pairSwitchInstant => true
  | .autoResyncStart _ => true
  | .xferPassEnd _ _ _ => true
  | .xferCutTimeout _ _ => true
  | .xferCatchupDone _ => true
  | .catchupTimeout _ => true
  | .selftestPass _ _ => true
  | .selftestOverdue _ => true
  | .probationTimeout => true
  | .blockLock p lane _ => decide (p < 4) && decide (lane < 2)
  | .phaseRestoreStep n => decide (n < 64)
  | .recipeAbortInstant x _ => decide (x < 64)
  | .railRestored => true

end Sys2Proof
end

