-- ==== Sys2Proof/Safety.lean ====
section
/-! DEFINITION. The terms the statements use: what a command answers, which parts of the state it may change, the canonical form of the tables,
and what one-time programmable memory may do. -/
namespace Sys2Proof.Machine
open Sys2Proof

/-- A command answers a next state, of which `P` holds. -/
def Answers (c : Instr) (s : State) (P : State → Prop) : Prop := ∃ r, exec c s = .next r ∧ P r

/-- A host command stands in flight under its handle, may start (R115, R117) on a unit no earlier command occupies (R126), and is not one to be
mirrored (R119). -/
abbrev CanStart (s : State) (h op : Nat) (c : Cmd) : Prop :=
  cmdFind s h = some c ∧ c.opcode = op ∧ c.started = false ∧ c.ended = none ∧ orderOk s c = true ∧ (c.fence && earlierOpen s c) = false ∧
    unitTaken s c = false ∧ c.sq ≠ mirrorSq ∧ (s.par.state ≠ .active ∨ opMirrored op = false)

/-- Launches act: the module is no standby, holds or never gave up control, no fault action stopped it, and no takeover skips (R530, R537, R542, R563). -/
abbrev Acts (s : State) : Prop := s.par.standby = false ∧ s.par.state ≠ .gaveUp ∧ s.pwr.stopped = false ∧ s.par.skip = none

/-- Core pair `core` runs a user item `x` whose custom instruction of the name `f3` is `w` (R175); `q` is the item after the ordinary code `p` before it. -/
abbrev RunsInsn (s : State) (core : Nat) (w : Word) (p : RvRun) (f3 : Nat) (x q : Run) : Prop :=
  (s.hrt.cores.get core).run = some x ∧ x.user = true ∧ bits w.toNat 6 0 = 0x0B ∧ bits w.toNat 14 12 = f3 ∧ (rvApply s x p).2 = q

/-- The commit buffer of an item takes one more effect (R235). -/
abbrev bufferRoom (q : Run) : Prop := (q.staged.filter fun e => match e with | .loopMode .. | .axisMove .. => false | _ => true).length < 64

/-- Core `c` runs a routine `x` of a code block; its next word is `w`, of a class and operation, and `cost` cycles of its budget are left (R285, R304). What
is in its pipeline was issued before. -/
abbrev AnvRuns (s : State) (c : Nat) (x : AnvRun) (w cls op cost : Nat) : Prop :=
  (anvC s c).run = some x ∧ x.place.isSome = true ∧ x.used + cost ≤ x.budget ∧ anvFetch x = some w ∧ bits w 31 31 = cls ∧ bits w 30 26 = op ∧
    (∀ v ∈ x.writes, v.issue ≤ x.used) ∧ x.regs.wf = true

/-- A register of the routine of core `c` as a consumer issued `n` cycles from now sees it (R295). -/
def anvSees (s : State) (c reg n : Nat) (fast : Bool) : Nat :=
  match (anvC s c).run with
  | some x => regRd x reg (x.used + n) fast
  | none => 0

/-- The cycles the routine of core `c` has used. -/
def anvUsed (s : State) (c : Nat) : Option Nat := (anvC s c).run.map (·.used)

/-- The message `b` that arrives at port `p` is whole, of a class and type, new, and for this module (R521, R524, R549). -/
abbrev Receives (s : State) (p cls typ : Nat) (b : Bytes) (t : Nat) : Prop :=
  p < 4 ∧ wPortUp s p = true ∧ wMalformed b = false ∧ (wParse b).cls = cls ∧ (wParse b).typ = typ ∧ classOn s p cls = true ∧ wCrcOk b = true ∧
    (isPairPort s p || !(s.wlk.recent.any fun e => e.1 == (wParse b).src && e.2.1 == cls && e.2.2.1 == (wParse b).seq &&
      decide (max s.tmb.now t < e.2.2.2 + 1000000))) = true ∧ wForMe s p (wParse b) = true

/-- The status a command in flight has ended with. -/
def endStatus (s : State) (h : Nat) : Option Status := (cmdFind s h).bind fun c => c.ended.map (·.status)

/-- The result a command in flight has ended with. -/
def endResult (s : State) (h : Nat) : Option Nat := (cmdFind s h).bind fun c => c.ended.map (·.result)

/-- A command in flight has started and not ended. -/
def running (s : State) (h : Nat) : Bool := match cmdFind s h with | some c => c.started && c.ended.isNone | none => false

/-- The parts of the state: one for each block, for the registers and for the model's own records. -/
inductive Part where
  | regs | staged | commits | tmb | pst | hif | recd | cyc | hrt | ile | cnv | anv | cap | qch | fbk | mot | stn | seq | can | wlk | par | mram | aon | pwr | hdl | rdata | out | freeCtr | pending
  deriving DecidableEq, Repr

/-- A part is the same in two states. -/
def samePart (s t : State) : Part → Prop
  | .regs => t.regs = s.regs
  | .staged => t.staged = s.staged
  | .commits => t.commits = s.commits
  | .tmb => t.tmb = s.tmb
  | .pst => t.pst = s.pst
  | .hif => t.hif = s.hif
  | .recd => t.recd = s.recd
  | .cyc => t.cyc = s.cyc
  | .hrt => t.hrt = s.hrt
  | .ile => t.ile = s.ile
  | .cnv => t.cnv = s.cnv
  | .anv => t.anv = s.anv
  | .cap => t.cap = s.cap
  | .qch => t.qch = s.qch
  | .fbk => t.fbk = s.fbk
  | .mot => t.mot = s.mot
  | .stn => t.stn = s.stn
  | .seq => t.seq = s.seq
  | .can => t.can = s.can
  | .wlk => t.wlk = s.wlk
  | .par => t.par = s.par
  | .mram => t.mram = s.mram
  | .aon => t.aon = s.aon
  | .pwr => t.pwr = s.pwr
  | .hdl => t.hdl = s.hdl
  | .rdata => t.rdata = s.rdata
  | .out => t.out = s.out
  | .freeCtr => t.freeCtr = s.freeCtr
  | .pending => t.pending = s.pending

/-- Every part is the same in two states but those of a list. -/
def unchangedBut (l : List Part) (s t : State) : Prop := ∀ p, p ∉ l → samePart s t p

/-- The parts of the state that a command may change. -/
def mayChange : Instr → List Part
  | .powerOnReset =>
    [.regs, .staged, .commits, .tmb, .pst, .hif, .recd, .cyc, .hrt, .ile, .cnv, .anv, .cap, .qch, .fbk, .mot, .stn, .seq, .can, .wlk, .par,
    .mram, .aon, .pwr, .hdl, .out]
  | .coldStart _ | .warmRestart _ _ | .tempTripRecovery _ =>
    [.regs, .staged, .commits, .tmb, .pst, .hif, .recd, .cyc, .hrt, .ile, .cnv, .anv, .cap, .qch, .fbk, .mot, .stn, .seq, .can, .wlk, .par,
    .mram, .pwr, .hdl, .out, .freeCtr]
  | .railUndervoltage _ _ =>
    [.regs, .staged, .commits, .tmb, .pst, .hif, .recd, .cyc, .hrt, .ile, .cnv, .anv, .cap, .qch, .fbk, .mot, .stn, .seq, .can, .wlk, .par,
    .mram, .pwr, .hdl, .out]
  | .supplyFault _ _ | .clockFault _ _ | .tempCrit _ _ =>
    [.regs, .tmb, .recd, .wlk, .par, .mram, .pwr, .hdl, .out]
  | .tempTrip _ _ =>
    [.regs, .staged, .commits, .tmb, .pst, .hif, .recd, .cyc, .hrt, .ile, .cnv, .anv, .cap, .qch, .fbk, .mot, .stn, .seq, .can, .wlk, .par,
    .mram, .aon, .pwr, .hdl, .out, .freeCtr]
  | .faultAutoRestart _ =>
    [.tmb, .pwr, .freeCtr]
  | .sensorReading _ _ _ | .pmbusPoll _ _ _ | .pmbusAlert _ _ =>
    [.regs, .tmb, .pst, .hif, .recd, .cap, .wlk, .mram, .pwr, .hdl, .out]
  | .hdlWatchdog _ | .tmbWallApply | .followUpTimeout | .pdelayTimeout _ | .announceTimeout _ | .sourceLossTimeout _ _ |
  .rateSaturationTimeout | .sourceRejectExpiry _ | .sourceReturn _ | .epochWaitEnd | .ppsMissing | .ref10mLoss | .refOnlyMeasurement _ _ |
  .freezeMaxExpiry | .historyHoldRelease _ =>
    [.regs, .tmb, .recd, .mram]
  | .controlHeartbeatMissing _ =>
    [.tmb, .pwr]
  | .pairWaitEnd | .outputImage _ =>
    [.regs, .tmb, .stn, .par, .mram, .out]
  | .programAutostart _ =>
    [.regs, .tmb, .pst, .recd, .cyc, .ile, .wlk, .mram, .hdl, .out]
  | .ileAutostart _ =>
    [.tmb, .ile]
  | .loopPersistStart _ _ _ =>
    [.regs, .tmb, .recd, .anv, .qch, .wlk, .par, .mram, .out, .freeCtr]
  | .recipeAutoResume _ =>
    [.regs, .tmb, .hif, .recd, .hrt, .seq, .wlk, .mram, .out]
  | .timelineMarkWrite _ | .loopJournalWrite _ =>
    [.tmb, .mram]
  | .coarseMarkWrite _ =>
    [.tmb, .hdl]
  | .bootBankWriteDone _ _ =>
    [.regs, .tmb, .recd, .mram, .hdl]
  | .hostAccessLoss _ _ =>
    [.regs, .tmb, .pst, .hif, .recd, .hrt, .ile, .cnv, .par, .mram, .hdl, .out]
  | .linkTrained _ _ | .sqDoorbell _ _ | .cqDoorbell _ _ | .descFetch _ _ =>
    [.regs, .hif, .recd, .mram, .out]
  | .hifNegotiate =>
    [.regs, .hif, .recd, .mram]
  | .hifCommit =>
    [.regs, .staged, .commits, .hif]
  | .sqEnableWrite _ _ | .cqEnableWrite _ _ =>
    [.regs, .hif]
  | .commandSlice _ _ _ _ =>
    [.regs, .pst, .hif, .recd, .cyc, .hrt, .ile, .cnv, .cap, .mot, .stn, .seq, .wlk, .par, .mram, .aon, .hdl, .out, .freeCtr]
  | .completionWrite _ _ =>
    [.regs, .hif, .recd, .wlk, .mram, .out]
  | .progressEntry _ _ =>
    [.regs, .tmb, .hif, .out]
  | .cqIrqTimer _ =>
    [.tmb, .hif, .out]
  | .registerWrite _ _ =>
    [.regs, .staged, .commits, .tmb, .pst, .hif, .recd, .ile, .anv, .cap, .qch, .fbk, .can, .wlk, .par, .mram, .pwr, .hdl, .out, .freeCtr]
  | .counterRead _ | .loLatchRead _ =>
    [.regs, .tmb, .recd, .cyc, .ile, .cnv, .anv, .cap, .qch, .fbk, .mot, .stn, .seq, .can, .par, .rdata, .freeCtr]
  | .tmbNowRead =>
    [.tmb, .rdata, .freeCtr]
  | .commitApply _ _ =>
    [.regs, .staged, .commits, .tmb, .recd, .wlk, .par, .mram, .hdl, .out]
  | .nop _ | .abort _ | .timeRead _ _ | .loopTuneRead _ | .logFreeze _ | .logThaw _ | .eventRingOpen _ _ _ | .historyOpen _ _ _ |
  .historyClose _ | .pairSwitch _ | .stateTransfer _ | .sensorRead _ =>
    [.regs, .hif, .recd, .wlk, .par, .mram, .out]
  | .pointRead _ _ _ =>
    [.regs, .pst, .hif, .recd, .hrt, .cap, .wlk, .par, .mram, .out, .freeCtr]
  | .pointWrite _ _ | .pointLookup _ _ | .mapLoad _ _ | .viewOpen _ _ _ | .forceSet _ _ | .forceClear _ _ | .forceList _ | .programLoad _ _
  | .ileLoad _ _ | .recipeLoad _ _ | .profileLoad _ _ | .capRead _ | .stnTableLoad _ _ | .logRead _ | .traceRead _ | .hdlLogRead _ =>
    [.regs, .hif, .recd, .hrt, .wlk, .par, .mram, .out, .freeCtr]
  | .viewChange _ _ _ _ =>
    [.regs, .pst, .hif, .recd, .hrt, .wlk, .par, .mram, .out, .freeCtr]
  | .viewClose _ | .viewSnapshot _ =>
    [.regs, .pst, .hif, .recd, .wlk, .par, .mram, .out]
  | .programStart _ =>
    [.regs, .pst, .hif, .recd, .cyc, .ile, .wlk, .par, .mram, .hdl, .out]
  | .programStop _ | .weld _ _ | .weldRevert _ =>
    [.regs, .hif, .recd, .cyc, .wlk, .par, .mram, .out]
  | .weldConfirm _ =>
    [.regs, .hif, .recd, .cyc, .wlk, .par, .mram, .hdl, .out]
  | .recipeStart _ | .recipeRelease _ | .recipeAbort _ | .recipeResume _ =>
    [.regs, .hif, .recd, .hrt, .seq, .wlk, .par, .mram, .out]
  | .recipeHold _ =>
    [.regs, .hif, .recd, .seq, .wlk, .par, .mram, .out]
  | .loopLoad _ _ =>
    [.regs, .hif, .recd, .anv, .wlk, .par, .mram, .hdl, .out]
  | .loopMode _ | .loopTuneApply _ =>
    [.regs, .hif, .recd, .anv, .wlk, .par, .mram, .out]
  | .loopTune _ _ =>
    [.regs, .hif, .recd, .anv, .cap, .wlk, .par, .mram, .out]
  | .axisConfig _ _ | .axisStopControlled _ | .axisStopImmediate _ | .axisDriveOff _ | .axisDriveOn _ | .pgoodLoss _ _ =>
    [.regs, .tmb, .hif, .recd, .mot, .wlk, .par, .mram, .out]
  | .axisMove _ _ | .axisHome _ _ | .motStart _ _ | .motStop _ _ | .motHome _ _ | .limitSwitchActive _ _ _ | .homeSwitchEdge _ _ _ _ |
  .hallChange _ _ _ | .ssiFrameEnd _ _ _ _ =>
    [.regs, .tmb, .hif, .recd, .fbk, .mot, .wlk, .par, .mram, .out, .freeCtr]
  | .fbkConfig _ _ _ =>
    [.regs, .tmb, .hif, .recd, .fbk, .wlk, .par, .mram, .out]
  | .compareLoad _ _ =>
    [.regs, .hif, .recd, .fbk, .wlk, .par, .mram, .out]
  | .cnvConfig _ _ =>
    [.regs, .hif, .recd, .cnv, .wlk, .par, .mram, .out]
  | .temperRun _ =>
    [.regs, .pst, .hif, .recd, .hrt, .cnv, .cap, .wlk, .par, .mram, .out, .freeCtr]
  | .capConfig _ _ | .maskLoad _ _ | .capArm _ =>
    [.regs, .hif, .recd, .cap, .wlk, .par, .mram, .out]
  | .canConfig _ _ _ _ | .canFilter _ _ | .canSend _ _ | .canCancel _ _ =>
    [.regs, .hif, .recd, .can, .wlk, .par, .mram, .out]
  | .stnConfig _ _ =>
    [.regs, .hif, .recd, .stn, .wlk, .par, .mram, .out]
  | .launch _ _ =>
    [.regs, .tmb, .hif, .recd, .cap, .fbk, .mot, .wlk, .par, .mram, .out, .freeCtr]
  | .billetStage _ _ =>
    [.regs, .hif, .recd, .hrt, .wlk, .par, .mram, .hdl, .out, .freeCtr]
  | .billetActivate _ =>
    [.regs, .hif, .recd, .wlk, .par, .mram, .pwr, .hdl, .out]
  | .billetConfirm _ | .attest _ _ _ | .rtvUnlock _ _ =>
    [.regs, .hif, .recd, .wlk, .par, .mram, .hdl, .out]
  | .tmbCommit | .pstCommit | .cycCommit | .hrtCommit | .seqCommit | .anvLoopCommit | .cnvCommit | .capCommit | .qchCommit | .motCommit |
  .stnCommit | .recCommit | .wlkCommit | .parCommit | .hdlCommit =>
    [.commits]
  | .tmbLqPush =>
    [.regs, .tmb, .recd, .wlk, .par, .mram, .out]
  | .tioCfgWrite _ _ | .pulseTrailingEdge _ =>
    [.regs, .tmb, .wlk, .par, .out]
  | .tioStampPop _ =>
    [.tmb, .rdata]
  | .pstPeek _ =>
    [.regs, .pst]
  | .hdlRestart | .jtagBypass | .jtagSamplePreload | .jtagExtest | .jtagTrst =>
    [.pwr]
  | .fbEnd =>
    [.ile]
  | .anvMemRead _ =>
    [.regs, .anv, .freeCtr]
  | .capMissRead _ =>
    [.regs, .cap]
  | .qchForceWrite _ | .qchRelease _ =>
    [.regs, .recd, .qch, .wlk, .par, .mram, .out, .freeCtr]
  | .fbkSnap _ =>
    [.fbk, .freeCtr]
  | .canRecover _ =>
    [.can]
  | .pageFailClear =>
    [.regs, .pwr, .out]
  | .mboxIdentify | .mboxStageBegin | .mboxStageData | .mboxStageEnd | .mboxActivate | .mboxLogRead | .mboxSensorRead | .mboxBootBankClear |
  .mboxRestart | .mgmtUartFrame _ =>
    [.regs, .hif, .recd, .mram, .pwr, .hdl, .out, .freeCtr]
  | .jtagIdcode =>
    [.pwr, .out]
  | .ptpSyncRx _ _ _ _ _ _ _ | .ptpFollowUpRx _ _ _ _ _ _ =>
    [.regs, .tmb, .recd, .stn, .mram, .freeCtr]
  | .ptpDelayRespRx _ _ _ _ _ _ | .ptpPdelayRx _ _ _ _ _ | .ptpAnnounceRx _ _ _ _ _ _ | .wspHelloRx _ _ _ _ | .wspConfigAckRx _ _ _ _ |
  .ethFrameDiscard _ _ _ _ _ | .configRetryTimeout _ | .reassemblyTimeout _ | .stationTimeout _ | .portLinkChange _ _ _ =>
    [.regs, .tmb, .recd, .stn, .mram]
  | .ptpDelayReqRx _ _ _ _ _ =>
    [.regs, .tmb, .stn]
  | .ptpMasterTx _ _ _ | .ptpDelayReqTx _ | .discoverTx _ =>
    [.tmb, .stn]
  | .syncMissing _ | .ppsOutRise _ | .ppsOutFall _ =>
    [.tmb]
  | .ppsInEdge _ _ _ =>
    [.regs, .tmb, .recd, .mram, .freeCtr]
  | .tioStampEdge _ _ _ =>
    [.regs, .tmb, .hif, .recd, .cap, .wlk, .par, .mram, .out]
  | .tioNop | .setLow | .setHigh | .toggle | .pulse =>
    [.regs, .tmb, .hif, .wlk, .par, .out]
  | .scrubStep _ | .tileRepairDone _ _ =>
    [.regs, .pst, .hif, .recd, .cap, .wlk, .mram, .out]
  | .viewDelivery _ _ _ =>
    [.regs, .tmb, .pst, .recd, .mram, .out]
  | .viewConsPoll _ _ =>
    [.regs, .pst, .recd, .mram, .out]
  | .viewHeartbeat _ _ =>
    [.regs, .tmb, .pst, .out]
  | .viewSnapshotTimer _ _ | .staleMarkQueue _ _ _ =>
    [.tmb, .pst]
  | .cycLatch _ =>
    [.regs, .tmb, .hif, .recd, .cyc, .hrt, .ile, .wlk, .par, .mram, .out]
  | .cycDeadline _ | .cycStop =>
    [.regs, .tmb, .hif, .recd, .cyc, .ile, .wlk, .par, .mram, .out]
  | .cycStart _ =>
    [.regs, .tmb, .hif, .recd, .cyc, .hrt, .seq, .wlk, .mram, .out]
  | .weldCopyPass _ _ =>
    [.regs, .tmb, .hif, .recd, .cyc, .mram, .freeCtr]
  | .weldWaitTimeout =>
    [.regs, .tmb, .hif, .recd, .cyc, .mram]
  | .weldGapEnd _ _ =>
    [.regs, .tmb, .pst, .hif, .recd, .cyc, .ile, .wlk, .mram, .freeCtr]
  | .weldRevertGapEnd _ _ =>
    [.regs, .tmb, .pst, .hif, .recd, .cyc, .ile, .wlk, .par, .mram, .out, .freeCtr]
  | .revertInstantTimeout =>
    [.regs, .tmb, .hif, .recd, .cyc, .ile, .wlk, .par, .mram, .out, .freeCtr]
  | .ileScan _ | .ileScanLate _ =>
    [.regs, .tmb, .pst, .hif, .recd, .ile, .cap, .stn, .wlk, .par, .mram, .hdl, .out]
  | .ileFault _ _ =>
    [.regs, .tmb, .hif, .recd, .ile, .wlk, .par, .mram, .pwr, .out]
  | .itemDispatch _ _ =>
    [.regs, .tmb, .recd, .cyc, .hrt, .mram, .freeCtr]
  | .itemCreditRelease _ =>
    [.regs, .hrt]
  | .itemCommitEnd _ =>
    [.regs, .tmb, .pst, .hif, .recd, .cyc, .hrt, .ile, .anv, .cap, .fbk, .mot, .stn, .seq, .can, .wlk, .par, .mram, .hdl, .out, .freeCtr]
  | .itemLimitTimeout _ | .corePairMismatch _ _ =>
    [.regs, .tmb, .hif, .recd, .cyc, .hrt, .ile, .cnv, .stn, .seq, .wlk, .par, .mram, .hdl, .out]
  | .itemFault _ _ _ _ | .wdone _ _ _ _ =>
    [.regs, .tmb, .hif, .recd, .cyc, .hrt, .ile, .stn, .seq, .wlk, .par, .mram, .hdl, .out]
  | .prec _ _ _ | .plv _ _ _ | .pst _ _ _ | .stampset _ _ _ | .trd _ _ _ | .lreq _ _ _ =>
    [.regs, .hif, .recd, .cyc, .hrt, .ile, .stn, .seq, .wlk, .par, .mram, .hdl, .out]
  | .evt _ _ _ =>
    [.regs, .hif, .recd, .cyc, .hrt, .ile, .stn, .seq, .wlk, .par, .mram, .hdl, .out, .freeCtr]
  | .boundary _ _ =>
    [.regs, .tmb, .pst, .hif, .recd, .hrt, .cap, .mot, .seq, .wlk, .par, .mram, .aon, .out, .freeCtr]
  | .offset _ =>
    [.regs, .tmb, .pst, .hif, .recd, .cap, .mot, .seq, .wlk, .par, .mram, .out, .freeCtr]
  | .conditionEvaluation _ | .stepMaxTimeout _ | .launchAckTimeout _ =>
    [.regs, .tmb, .recd, .hrt, .seq, .wlk, .mram, .out]
  | .rampTick _ _ =>
    [.regs, .tmb, .pst, .hif, .recd, .cap, .seq, .wlk, .mram, .out, .freeCtr]
  | .resumePrecheck _ =>
    [.regs, .tmb, .hif, .seq]
  | .loopSampleLaunch _ =>
    [.regs, .tmb, .pst, .hif, .recd, .anv, .cap, .qch, .fbk, .mot, .wlk, .par, .mram, .hdl, .out, .freeCtr]
  | .anvilTickSwap _ _ =>
    [.regs, .tmb, .anv]
  | .routineOverrun _ =>
    [.regs, .recd, .anv, .mram]
  | .loopOutputLaunch _ =>
    [.regs, .tmb, .pst, .hif, .recd, .anv, .cap, .qch, .mot, .wlk, .par, .mram, .out, .freeCtr]
  | .loopStateCopy _ =>
    [.tmb, .anv]
  | .anvilCoreMismatch _ _ =>
    [.regs, .tmb, .hif, .recd, .anv, .cap, .wlk, .par, .mram, .out]
  | .anvilEccRewrite _ _ _ _ | .tuneFitDone _ _ | .anvNop _ | .mpy _ | .mac _ | .msu _ | .lda _ | .add _ | .sub _ | .adda _ | .suba _ |
  .clr _ | .neg _ | .abs _ | .cmp _ | .ldx _ | .ldy _ | .ldp _ | .mov _ | .mova _ | .moval _ | .ash _ | .sha _ | .norm _ | .exp _ | .jmp _ |
  .jcc _ | .call _ | .ret _ | .doLoop _ | .endRoutine _ | .clrf _ | .scale _ =>
    [.regs, .tmb, .recd, .anv, .mram]
  | .cnvResultFormed _ _ _ _ _ =>
    [.regs, .tmb, .pst, .hif, .recd, .cnv, .cap, .qch, .wlk, .par, .mram, .out, .freeCtr]
  | .scanPassStart _ _ | .burstResume _ | .adcclkReturn _ =>
    [.tmb, .cnv]
  | .scanResult _ _ _ _ _ =>
    [.regs, .tmb, .pst, .hif, .recd, .cnv, .cap, .wlk, .par, .mram, .out]
  | .calSlot _ _ =>
    [.regs, .tmb, .cnv]
  | .cnvConfigBoundary _ _ =>
    [.regs, .tmb, .hif, .recd, .cnv, .mram]
  | .temperBgUpdate _ _ =>
    [.regs, .tmb, .cnv, .freeCtr]
  | .temperDeferExpiry _ =>
    [.regs, .tmb, .recd, .cnv, .cap, .mram, .freeCtr]
  | .calStaleTimeout _ =>
    [.regs, .tmb, .recd, .cnv, .mram]
  | .sliceFailed _ _ _ | .adcclkLoss _ =>
    [.regs, .tmb, .pst, .hif, .recd, .cnv, .cap, .wlk, .mram, .out]
  | .capArmLaunch _ | .capFire _ | .capStop _ =>
    [.regs, .tmb, .hif, .recd, .cap, .wlk, .mram, .out]
  | .rearmEnd _ | .postWindowExpiry _ | .capGroupArmInstant _ _ =>
    [.regs, .tmb, .hif, .recd, .cap, .mram]
  | .qchReleaseDeferred _ =>
    [.regs, .tmb, .recd, .qch, .wlk, .par, .mram, .out, .freeCtr]
  | .qchReadbackFault _ _ =>
    [.regs, .tmb, .recd, .qch, .mram, .pwr, .out, .freeCtr]
  | .stepperTick _ _ =>
    [.regs, .tmb, .pst, .hif, .recd, .cap, .fbk, .mot, .wlk, .par, .mram, .out, .freeCtr]
  | .stepPulse _ | .stepPulseFall _ | .driveSettleEnd _ | .phaseRestoreStep _ =>
    [.regs, .tmb, .mot, .wlk, .par, .out]
  | .servoTick _ _ _ =>
    [.regs, .tmb, .pst, .hif, .recd, .cap, .mot, .wlk, .mram, .out]
  | .homingTimeout _ | .driveEnableDelay _ =>
    [.regs, .tmb, .hif, .recd, .mot, .mram]
  | .pgoodRise _ _ =>
    [.tmb, .mot]
  | .pgoodTimeout _ =>
    [.regs, .tmb, .hif, .mot, .wlk, .par, .out]
  | .quadEdge _ _ _ _ | .indexEdge _ _ =>
    [.regs, .tmb, .hif, .recd, .anv, .cap, .qch, .fbk, .mot, .wlk, .par, .mram, .out, .freeCtr]
  | .ssiFrameStart _ | .comparePulseEnd _ =>
    [.regs, .tmb, .fbk, .wlk, .par, .out]
  | .fbkPublish _ _ =>
    [.regs, .tmb, .pst, .hif, .recd, .cap, .fbk, .wlk, .par, .mram, .out, .freeCtr]
  | .wspInputRx _ _ _ _ _ =>
    [.regs, .tmb, .pst, .hif, .recd, .cap, .stn, .wlk, .par, .mram, .out]
  | .egressFrameStart _ _ =>
    [.regs, .tmb, .stn, .out]
  | .canSendLaunch _ =>
    [.regs, .tmb, .hif, .can, .par]
  | .canArbitration _ _ =>
    [.tmb, .can, .out]
  | .canTxComplete _ _ _ _ _ | .canBusError _ _ _ _ _ _ =>
    [.regs, .tmb, .hif, .recd, .can, .mram, .out]
  | .canFrameRx _ _ _ _ _ =>
    [.regs, .tmb, .pst, .hif, .recd, .cap, .can, .wlk, .par, .mram, .out, .freeCtr]
  | .canRecoveryDone _ _ =>
    [.regs, .tmb, .recd, .can, .mram]
  | .canIntegrationDone _ _ =>
    [.tmb, .can]
  | .canConfigEffect _ _ =>
    [.regs, .tmb, .hif, .recd, .can, .mram]
  | .eventAccept =>
    [.regs, .recd, .qch, .wlk, .par, .mram, .aon, .out, .freeCtr]
  | .logWriteVerify _ _ _ _ =>
    [.regs, .recd, .mram, .aon, .pwr, .out]
  | .eventRingDelivery _ _ _ | .repeatUpdateDelivery _ _ _ _ | .historyExport _ _ _ =>
    [.regs, .tmb, .recd, .mram, .out]
  | .historyBlockClose =>
    [.regs, .tmb, .recd]
  | .wlkHeartbeatTx _ =>
    [.tmb, .wlk, .out]
  | .wlkHeartbeatRx _ _ _ _ _ _ | .wlkPortDown _ _ | .linkHelloRx _ _ _ =>
    [.regs, .tmb, .recd, .wlk, .par, .mram]
  | .wlkLaneLoss _ _ _ _ | .wlkRetrainDone _ _ | .masterAnnounceTimeout _ | .domainTimeLoss _ =>
    [.regs, .tmb, .recd, .wlk, .mram]
  | .wlkVersionRetry _ | .syncReqTx _ _ | .replicationSend _ _ _ | .pairHelloTx _ | .blockLock _ _ _ =>
    [.regs, .tmb, .wlk, .out]
  | .announceTx _ =>
    [.regs, .tmb, .recd, .wlk, .mram, .out]
  | .announceRx _ _ _ | .syncReqRx _ _ _ _ _ | .syncRespRx _ _ _ _ | .syncDoneRx _ _ _ _ =>
    [.regs, .tmb, .recd, .wlk, .mram, .out, .freeCtr]
  | .pointRecordsRx _ _ _ =>
    [.regs, .tmb, .pst, .hif, .recd, .cap, .wlk, .par, .mram, .out, .freeCtr]
  | .trigArmRx _ _ _ | .trigFireRx _ _ =>
    [.regs, .tmb, .hif, .recd, .cap, .wlk, .par, .mram, .out, .freeCtr]
  | .trigAckRx _ _ _ =>
    [.regs, .tmb, .recd, .cap, .wlk, .par, .mram, .out, .freeCtr]
  | .launchBoundaryRx _ _ _ | .launchResumeRx _ _ _ =>
    [.regs, .tmb, .recd, .hrt, .seq, .wlk, .par, .mram, .out, .freeCtr]
  | .launchAckRx _ _ _ =>
    [.regs, .tmb, .hif, .recd, .seq, .wlk, .par, .mram, .out, .freeCtr]
  | .mirrorInputRx _ _ =>
    [.regs, .tmb, .pst, .hif, .recd, .hrt, .cap, .seq, .can, .wlk, .par, .mram, .out, .freeCtr]
  | .mirrorCommitOrderRx _ _ | .mirrorDigestRx _ _ | .mirrorPinStateRx _ _ =>
    [.regs, .tmb, .recd, .wlk, .par, .mram, .out, .freeCtr]
  | .mirrorCommandRx _ _ | .mirrorAckRx _ _ | .xferPassEnd _ _ _ | .xferCutTimeout _ _ =>
    [.regs, .tmb, .hif, .recd, .wlk, .par, .mram, .out, .freeCtr]
  | .mirrorGiveUpRx _ _ _ | .pairActInLow _ _ =>
    [.regs, .tmb, .recd, .qch, .stn, .wlk, .par, .mram, .out, .freeCtr]
  | .mirrorXferRx _ _ _ _ =>
    [.regs, .tmb, .pst, .hif, .recd, .cyc, .ile, .cnv, .anv, .cap, .qch, .fbk, .mot, .stn, .seq, .can, .wlk, .par, .mram, .out, .freeCtr]
  | .mirrorAckTimeout | .xferCatchupDone _ | .catchupTimeout _ =>
    [.regs, .tmb, .hif, .recd, .par, .mram]
  | .standbyLagExceeded _ _ | .selftestOverdue _ =>
    [.regs, .tmb, .recd, .par, .mram]
  | .pairHelloRx _ _ =>
    [.regs, .tmb, .recd, .stn, .wlk, .par, .mram, .out, .freeCtr]
  | .pairActInRise _ =>
    [.regs, .tmb, .hif, .recd, .par, .mram, .out]
  | .pairSwitchInstant =>
    [.regs, .tmb, .hif, .recd, .wlk, .par, .mram, .out]
  | .autoResyncStart _ =>
    [.regs, .tmb, .par]
  | .selftestPass _ _ =>
    [.regs, .tmb, .recd, .wlk, .par, .mram, .pwr, .out]
  | .probationTimeout =>
    [.regs, .tmb, .recd, .cnv, .stn, .wlk, .par, .mram, .pwr, .hdl, .out]
  | .recipeAbortInstant _ _ =>
    [.regs, .tmb, .hif, .recd, .seq, .mram, .aon]
  | .railRestored =>
    [.regs, .staged, .commits, .tmb, .pst, .hif, .recd, .cyc, .hrt, .ile, .cnv, .anv, .cap, .qch, .fbk, .mot, .stn, .seq, .can, .wlk, .par,
    .pwr, .hdl]

/-- The chapter of the manual that a command stands in. -/
def chapter : Instr → Nat
  | .registerWrite _ _ | .counterRead _ | .commitApply _ _ => 0
  | .timelineMarkWrite _ | .coarseMarkWrite _ | .tmbNowRead | .tmbCommit | .tmbWallApply | .tmbLqPush | .tioCfgWrite _ _ | .tioStampPop _ |
  .ptpSyncRx _ _ _ _ _ _ _ | .ptpFollowUpRx _ _ _ _ _ _ | .ptpDelayRespRx _ _ _ _ _ _ | .ptpPdelayRx _ _ _ _ _ | .ptpAnnounceRx _ _ _ _ _ _
  | .ptpDelayReqRx _ _ _ _ _ | .ptpMasterTx _ _ _ | .ptpDelayReqTx _ | .followUpTimeout | .pdelayTimeout _ | .announceTimeout _ |
  .syncMissing _ | .sourceLossTimeout _ _ | .rateSaturationTimeout | .sourceRejectExpiry _ | .sourceReturn _ | .epochWaitEnd |
  .ppsInEdge _ _ _ | .ppsMissing | .ref10mLoss | .refOnlyMeasurement _ _ | .ppsOutRise _ | .ppsOutFall _ | .tioStampEdge _ _ _ | .tioNop |
  .setLow | .setHigh | .toggle | .pulse | .pulseTrailingEdge _ | .domainTimeLoss _ => 1
  | .pointRead _ _ _ | .mapLoad _ _ | .viewOpen _ _ _ | .viewChange _ _ _ _ | .viewClose _ | .viewSnapshot _ | .forceSet _ _ |
  .forceClear _ _ | .pstCommit | .pstPeek _ | .scrubStep _ | .tileRepairDone _ _ | .viewDelivery _ _ _ | .viewConsPoll _ _ |
  .viewHeartbeat _ _ | .viewSnapshotTimer _ _ | .staleMarkQueue _ _ _ => 2
  | .hostAccessLoss _ _ | .linkTrained _ _ | .hifNegotiate | .hifCommit | .sqEnableWrite _ _ | .cqEnableWrite _ _ | .sqDoorbell _ _ |
  .cqDoorbell _ _ | .descFetch _ _ | .commandSlice _ _ _ _ | .completionWrite _ _ | .progressEntry _ _ | .cqIrqTimer _ | .nop _ | .abort _ |
  .timeRead _ _ | .pointWrite _ _ | .pointLookup _ _ | .forceList _ | .launch _ _ => 3
  | .programAutostart _ | .programLoad _ _ | .programStart _ | .programStop _ | .cycCommit | .cycLatch _ | .cycDeadline _ | .cycStart _ |
  .cycStop | .itemFault _ _ _ _ | .prec _ _ _ | .plv _ _ _ | .pst _ _ _ | .stampset _ _ _ | .trd _ _ _ | .lreq _ _ _ | .wdone _ _ _ _ |
  .evt _ _ _ => 4
  | .loLatchRead _ | .weld _ _ | .weldConfirm _ | .weldRevert _ | .weldCopyPass _ _ | .weldWaitTimeout | .weldGapEnd _ _ |
  .weldRevertGapEnd _ _ | .revertInstantTimeout => 5
  | .ileAutostart _ | .ileLoad _ _ | .fbEnd | .ileScan _ | .ileScanLate _ | .ileFault _ _ => 6
  | .traceRead _ | .hrtCommit | .itemDispatch _ _ | .itemCreditRelease _ | .itemCommitEnd _ | .itemLimitTimeout _ | .corePairMismatch _ _ =>
  7
  | .recipeAutoResume _ | .recipeLoad _ _ | .recipeStart _ | .recipeHold _ | .recipeRelease _ | .recipeAbort _ | .recipeResume _ |
  .seqCommit | .boundary _ _ | .offset _ | .conditionEvaluation _ | .stepMaxTimeout _ | .rampTick _ _ | .launchAckTimeout _ |
  .resumePrecheck _ | .launchBoundaryRx _ _ _ | .launchAckRx _ _ _ | .launchResumeRx _ _ _ | .recipeAbortInstant _ _ => 8
  | .anvMemRead _ | .anvilTickSwap _ _ | .routineOverrun _ | .anvilCoreMismatch _ _ | .anvilEccRewrite _ _ _ _ | .anvNop _ | .mpy _ | .mac _
  | .msu _ | .lda _ | .add _ | .sub _ | .adda _ | .suba _ | .clr _ | .neg _ | .abs _ | .cmp _ | .ldx _ | .ldy _ | .ldp _ | .mov _ | .mova _
  | .moval _ | .ash _ | .sha _ | .norm _ | .exp _ | .jmp _ | .jcc _ | .call _ | .ret _ | .doLoop _ | .endRoutine _ | .clrf _ | .scale _ => 9
  | .loopPersistStart _ _ _ | .loopLoad _ _ | .loopMode _ | .loopTune _ _ | .loopTuneRead _ | .loopTuneApply _ | .anvLoopCommit |
  .loopSampleLaunch _ | .loopOutputLaunch _ | .loopStateCopy _ | .loopJournalWrite _ | .tuneFitDone _ _ => 10
  | .cnvConfig _ _ | .temperRun _ | .cnvCommit | .cnvResultFormed _ _ _ _ _ | .scanPassStart _ _ | .scanResult _ _ _ _ _ | .calSlot _ _ |
  .cnvConfigBoundary _ _ | .temperBgUpdate _ _ | .temperDeferExpiry _ | .calStaleTimeout _ | .sliceFailed _ _ _ | .burstResume _ |
  .adcclkLoss _ | .adcclkReturn _ => 11
  | .capConfig _ _ | .maskLoad _ _ | .capArm _ | .capRead _ | .capCommit | .qchCommit | .capMissRead _ | .qchForceWrite _ | .qchRelease _ |
  .capArmLaunch _ | .capFire _ | .capStop _ | .rearmEnd _ | .postWindowExpiry _ | .capGroupArmInstant _ _ | .qchReleaseDeferred _ |
  .qchReadbackFault _ _ | .trigArmRx _ _ _ | .trigFireRx _ _ | .trigAckRx _ _ _ => 12
  | .axisConfig _ _ | .profileLoad _ _ | .axisMove _ _ | .axisHome _ _ | .axisStopControlled _ | .axisStopImmediate _ | .axisDriveOff _ |
  .axisDriveOn _ | .motCommit | .motStart _ _ | .motStop _ _ | .motHome _ _ | .stepperTick _ _ | .stepPulse _ | .stepPulseFall _ |
  .servoTick _ _ _ | .limitSwitchActive _ _ _ | .homeSwitchEdge _ _ _ _ | .homingTimeout _ | .pgoodLoss _ _ | .pgoodRise _ _ |
  .driveSettleEnd _ | .driveEnableDelay _ | .pgoodTimeout _ | .phaseRestoreStep _ => 13
  | .fbkConfig _ _ _ | .compareLoad _ _ | .fbkSnap _ | .quadEdge _ _ _ _ | .hallChange _ _ _ | .ssiFrameStart _ | .ssiFrameEnd _ _ _ _ |
  .indexEdge _ _ | .fbkPublish _ _ | .comparePulseEnd _ => 14
  | .stnConfig _ _ | .stnTableLoad _ _ | .stnCommit | .discoverTx _ | .wspHelloRx _ _ _ _ | .wspConfigAckRx _ _ _ _ | .wspInputRx _ _ _ _ _
  | .ethFrameDiscard _ _ _ _ _ | .configRetryTimeout _ | .reassemblyTimeout _ | .stationTimeout _ | .outputImage _ | .egressFrameStart _ _ |
  .portLinkChange _ _ _ => 15
  | .canConfig _ _ _ _ | .canFilter _ _ | .canSend _ _ | .canCancel _ _ | .canRecover _ | .canSendLaunch _ | .canArbitration _ _ |
  .canTxComplete _ _ _ _ _ | .canFrameRx _ _ _ _ _ | .canBusError _ _ _ _ _ _ | .canRecoveryDone _ _ | .canIntegrationDone _ _ |
  .canConfigEffect _ _ => 16
  | .logRead _ | .logFreeze _ | .logThaw _ | .eventRingOpen _ _ _ | .historyOpen _ _ _ | .historyClose _ | .recCommit | .pageFailClear |
  .eventAccept | .logWriteVerify _ _ _ _ | .freezeMaxExpiry | .eventRingDelivery _ _ _ | .repeatUpdateDelivery _ _ _ _ |
  .historyHoldRelease _ | .historyBlockClose | .historyExport _ _ _ => 17
  | .pairWaitEnd | .pairSwitch _ | .stateTransfer _ | .wlkCommit | .parCommit | .wlkHeartbeatTx _ | .wlkHeartbeatRx _ _ _ _ _ _ |
  .wlkLaneLoss _ _ _ _ | .wlkPortDown _ _ | .wlkRetrainDone _ _ | .linkHelloRx _ _ _ | .wlkVersionRetry _ | .announceTx _ |
  .announceRx _ _ _ | .masterAnnounceTimeout _ | .syncReqTx _ _ | .syncReqRx _ _ _ _ _ | .syncRespRx _ _ _ _ | .syncDoneRx _ _ _ _ |
  .replicationSend _ _ _ | .pointRecordsRx _ _ _ | .mirrorInputRx _ _ | .mirrorCommitOrderRx _ _ | .mirrorDigestRx _ _ |
  .mirrorCommandRx _ _ | .mirrorAckRx _ _ | .mirrorGiveUpRx _ _ _ | .mirrorXferRx _ _ _ _ | .mirrorPinStateRx _ _ | .mirrorAckTimeout |
  .standbyLagExceeded _ _ | .pairHelloTx _ | .pairHelloRx _ _ | .pairActInLow _ _ | .pairActInRise _ | .pairSwitchInstant |
  .autoResyncStart _ | .xferPassEnd _ _ _ | .xferCutTimeout _ _ | .xferCatchupDone _ | .catchupTimeout _ | .selftestPass _ _ |
  .selftestOverdue _ | .blockLock _ _ _ => 18
  | .coldStart _ | .warmRestart _ _ | .supplyFault _ _ | .clockFault _ _ | .tempCrit _ _ | .tempTrip _ _ | .tempTripRecovery _ |
  .faultAutoRestart _ | .sensorReading _ _ _ | .pmbusPoll _ _ _ | .pmbusAlert _ _ | .hdlWatchdog _ | .controlHeartbeatMissing _ |
  .bootBankWriteDone _ _ | .billetStage _ _ | .billetActivate _ | .billetConfirm _ | .attest _ _ _ | .sensorRead _ | .hdlLogRead _ |
  .rtvUnlock _ _ | .hdlCommit | .hdlRestart | .mboxIdentify | .mboxStageBegin | .mboxStageData | .mboxStageEnd | .mboxActivate |
  .mboxLogRead | .mboxSensorRead | .mboxBootBankClear | .mboxRestart | .mgmtUartFrame _ | .probationTimeout => 19
  | .powerOnReset | .railUndervoltage _ _ | .jtagBypass | .jtagIdcode | .jtagSamplePreload | .jtagExtest | .jtagTrst | .railRestored => 20

/-- The command resets or starts the control die, or falls back to other firmware (R41, R42, R561, R572, R594, R595). -/
def restarts : Instr → Bool
  | .powerOnReset | .coldStart _ | .warmRestart _ _ | .tempTripRecovery _ | .railUndervoltage _ _ | .railRestored | .tempTrip _ _ | .probationTimeout => true
  | _ => false

/-- The command is a start (R41, R42). -/
def startsTimeline : Instr → Bool
  | .coldStart _ | .warmRestart _ _ | .tempTripRecovery _ => true
  | _ => false

/-- Staged values may come into force with the command (R12, R21): a commit reaches its boundary, or the part starts. -/
def takesStaged : Instr → Bool
  | .hifCommit | .commitApply _ _ => true
  | .registerWrite a _ => a == 0x100008
  | c => restarts c

/-- The axis a command of the Motion Engine names (R409). -/
def rowAxis : Instr → Option Nat
  | .motStart n _ | .motStop n _ | .motHome n _ | .stepperTick n _ | .stepPulse n | .stepPulseFall n | .servoTick n _ _ | .limitSwitchActive n _ _
  | .homeSwitchEdge n _ _ _ | .homingTimeout n | .pgoodLoss n _ | .pgoodRise n _ | .driveSettleEnd n | .driveEnableDelay n | .pgoodTimeout n
  | .phaseRestoreStep n => some n
  | _ => none

/-- The feedback channel a command of the Feedback Interfaces names (R430). -/
def rowChannel : Instr → Option Nat
  | .quadEdge n _ _ _ | .hallChange n _ _ | .ssiFrameStart n | .ssiFrameEnd n _ _ _ | .indexEdge n _ | .fbkPublish n _ | .comparePulseEnd n => some n
  | _ => none

/-- The CAN FD controller a command names (R478). -/
def rowController : Instr → Option Nat
  | .canRecover c | .canSendLaunch c | .canArbitration c _ | .canTxComplete c _ _ _ _ | .canFrameRx c _ _ _ _ | .canBusError c _ _ _ _ _
  | .canRecoveryDone c _ | .canIntegrationDone c _ | .canConfigEffect c _ => some c
  | _ => none

/-- The Hearth core pair a command names (R228). -/
def rowCorePair : Instr → Option Nat
  | .itemDispatch c _ | .itemLimitTimeout c | .itemFault c _ _ _ | .corePairMismatch c _ | .prec c _ _ | .plv c _ _ | .pst c _ _ | .stampset c _ _
  | .trd c _ _ | .lreq c _ _ | .wdone c _ _ _ | .evt c _ _ => some c
  | _ => none

/-- The Anvil core a command names: the instructions, and what happens to one core's routine (R278, R303, R304). -/
def rowAnvilCore : Instr → Option Nat
  | .anvNop c | .mpy c | .mac c | .msu c | .lda c | .add c | .sub c | .adda c | .suba c | .clr c | .neg c | .abs c | .cmp c | .ldx c | .ldy c | .ldp c
  | .mov c | .mova c | .moval c | .ash c | .sha c | .norm c | .exp c | .jmp c | .jcc c | .call c | .ret c | .doLoop c | .endRoutine c | .clrf c | .scale c
  | .anvilTickSwap c _ | .routineOverrun c | .anvilEccRewrite c _ _ _ => some c
  | _ => none

/-- The Quench pin a command names (R393). -/
def rowQuenchPin : Instr → Option Nat
  | .qchRelease n | .qchReleaseDeferred n | .qchReadbackFault n _ => some n
  | _ => none

/-- The timed pin a command acts on: the one it names, or that of the entry at the head of the queue (R63 to R66). -/
def rowTimedPin (s : State) : Instr → Option Nat
  | .setLow | .setHigh | .toggle | .pulse | .tioNop => s.tmb.lq.head?.map tioPinOf
  | .pulseTrailingEdge p | .tioCfgWrite p _ | .tioStampEdge p _ _ | .tioStampPop p => some p
  | _ => none

/-- VALID and BAD stand together in no stored point (R28). -/
def validOrBad (s : State) : Prop := ∀ id, hasQ (s.pst.points.get id).qual qBAD = true → hasQ (s.pst.points.get id).qual qVALID = false

/-- The Timeline in units of 2^-32 ns (R32). -/
def timelineUnits (s : State) : Nat := s.tmb.now * 2 ^ 32 + s.tmb.frac

/-- The Timeline's fraction lies below 1 ns, and the residue below the fraction's unit (R32). -/
def fractionInRange (s : State) : Prop := s.tmb.frac < 2 ^ 32 ∧ s.tmb.resid < 10 ^ 12

/-- Every table that the state holds directly is in its canonical form. -/
abbrev canonical (s : State) : Prop :=
  (s.regs.wf && s.staged.wf && s.commits.wf && s.tmb.sources.wf && s.tmb.tio.wf && s.pst.points.wf && s.pst.views.wf && s.hif.sq.wf &&
  s.hif.cq.wf && s.recd.hist.wf && s.cyc.slots.wf && s.cyc.classes.wf && s.hrt.counters.wf && s.hrt.cores.wf && s.ile.markers.wf &&
  s.ile.timers.wf && s.ile.edges.wf && s.ile.alarms.wf && s.ile.compares.wf && s.ile.outs.wf && s.ile.fbOuts.wf && s.cnv.group.wf &&
  s.cnv.slice.wf && s.anv.core.wf && s.anv.loop.wf && s.cap.ch.wf && s.qch.pin.wf && s.fbk.ch.wf && s.mot.ax.wf && s.stn.port.wf &&
  s.stn.st.wf && s.seq.exec.wf && s.can.ctl.wf && s.wlk.port.wf && s.wlk.seq.wf && s.wlk.mods.wf && s.wlk.rep.wf && s.par.regions.wf &&
  s.par.acc.wf && s.par.inputs.wf && s.mram.retained.wf && s.mram.journal.wf && s.mram.axes.wf && s.mram.recipes.wf && s.mram.log.slots.wf
  && s.mram.log.pages.wf && s.hdl.bank.wf && s.hdl.sensor.wf && s.hdl.pmFails.wf && s.hdl.otp.levels.wf && s.hdl.boot.loops.wf) = true

/-- One-time programmable memory only grows (R569, R575, R583): levels and revocations never fall, RETURNED never clears, the serial number stays. -/
def otpGrows (a b : Otp) : Prop :=
  (∀ g, a.levels.get g ≤ b.levels.get g) ∧ a.revoked &&& b.revoked = a.revoked ∧ (a.returned = true → b.returned = true) ∧ a.serial = b.serial

end Sys2Proof.Machine
end

