-- ==== Sys2Proof/Certificates/Slice0/Obligations.lean ====
section
/-! DEFINITION. The statements about the model: what each command does where the manual says it executes normally, what it leaves alone, what the
manual's rules about the whole machine say, and the invariants of the model. -/
open Sys2Proof Sys2Proof.Machine

/-- For every command c, queue rest and state s: one step of s with c at the front of its queue is exec of c on s with the rest of the
queue. -/
def Obligations.StepRunsTheFrontCommand : Prop :=
  ∀ (c : Instr) (rest : List Instr) (s : State), step { s with pending := c :: rest } = exec c { s with pending := rest }

/-- On an empty queue (model's choice, notes/assumptions/4.md) a step answers a next state. While the control die runs, that state differs
in the Timeline block only, and there in the count, its fraction and the residue below it: at a rate of 0 the Timeline with its fraction
rises by exactly 4 ns and the residue stays. While the die does not run, nothing changes. -/
def Obligations.IdleBlockCountsTheTimeline : Prop :=
  ∀ s : State, s.pending = [] → (s.pwr.up = false → step s = .next s) ∧
    (s.pwr.up = true → s.tmb.rate = 0 → s.tmb.frac < 2 ^ 32 → s.tmb.resid < 10 ^ 12 →
      step s = .next { s with tmb := { s.tmb with now := s.tmb.now + 4 } })

/-- For every state (with canonical tables where a table is read back): TIMELINE_MARK_WRITE journals the Timeline value, Epoch number and
FREQ_EST; a read of TMB_NOW_LO returns a snapshot at most 12 ns old and latches HI and FRAC of it; TMB_WALL_APPLY in FREE, HOLDOVER or under
REF_ONLY reports OK and, with no wait, opens a WALL_SET Epoch with TAI_OFFSET = WALL_TAI - WALL_AT; EPOCH_WAIT_END opens the next Epoch 250
ms after the last opening; SYNC_MISSING returns the rate to FREQ_EST; SOURCE_LOSS_TIMEOUT makes the source invalid; RATE_SATURATION_TIMEOUT
rejects the active source for 60 s; SOURCE_REJECT_EXPIRY ends a rejection; SOURCE_RETURN takes the first source of the list once it has been
valid for 10 s; an accepted PPS edge is remembered and labels the next second; PPS_MISSING counts; REF10M_LOSS makes the sources PPS with 10
MHz and REF_ONLY invalid; a REF_ONLY measurement sets rate and FREQ_EST to the measured rate, limited to 200 ppm; PPS_OUT rises at a whole
second and falls. -/
def Obligations.TimelineCommandsTakeEffect : Prop :=
  (∀ (t : Nat) (s : State), Answers (.timelineMarkWrite t) s fun r =>
      r.mram.mark = some ⟨max s.tmb.now t, curEpoch s, s.tmb.freqEst⟩) ∧
  (∀ (s : State), (windowOpen s 2 = true) →
    Answers (.tmbNowRead) s fun r =>
      ∃ lag, lag ≤ 12 * 2 ^ 32 ∧ r.rdata = BitVec.ofNat 32 ((s.tmb.now * 2 ^ 32 + s.tmb.frac - lag) / 2 ^ 32) ∧ r.tmb.latchHi = (s.tmb.now * 2 ^ 32 + s.tmb.frac - lag) / 2 ^ 64 % 2 ^ 32 ∧ r.tmb.latchFrac = (s.tmb.now * 2 ^ 32 + s.tmb.frac - lag) % 2 ^ 32) ∧
  (∀ (s : State), (windowOpen s 2 = true) →
    (s.tmb.state = .free ∨ s.tmb.state = .holdover ∨ s.tmb.source = 6) →
    (s.tmb.wait = none) →
    (s.tmb.lastOpen.all (fun t => decide (t + 250000000 ≤ s.tmb.now)) = true) →
    Answers (.tmbWallApply) s fun r =>
      r.tmb.wallStatus = .ok ∧ (r.tmb.epochs.headD default).reason = .wallSet ∧ (r.tmb.epochs.headD default).tStart = s.tmb.now ∧ (r.tmb.epochs.headD default).taiOff = ((fld s fTmbWallTaiLoValue + fld s fTmbWallTaiHiValue * 2 ^ 32 : Nat) : Int) - ((fld s fTmbWallAtLoValue + fld s fTmbWallAtHiValue * 2 ^ 32 : Nat) : Int)) ∧
  (∀ (w : EpochWait) (s : State), (s.tmb.wait = some w) →
    Answers (.epochWaitEnd) s fun r =>
      r.tmb.now = max s.tmb.now (s.tmb.lastOpen.getD 0 + 250000000) ∧ r.tmb.wait = none ∧ (r.tmb.epochs.headD default).number = curEpoch s + 1 ∧ (r.tmb.epochs.headD default).reason = w.reason) ∧
  (∀ (t : Nat) (s : State), (s.tmb.source ≠ 0) →
    ((s.tmb.sources.get s.tmb.source).lastMeas + measInterval s s.tmb.source * 3 / 2 ≤ max s.tmb.now t) →
    Answers (.syncMissing t) s fun r =>
      r.tmb.rate = s.tmb.freqEst ∧ r.tmb.freqEst = s.tmb.freqEst) ∧
  (∀ (src t : Nat) (s : State), (canonical s) →
    ((s.tmb.sources.get src).valid = true) →
    ((s.tmb.sources.get src).lastMeas + fld s fTmbLossTimeoutLossMs * 1000000 ≤ max s.tmb.now t) →
    Answers (.sourceLossTimeout src t) s fun r =>
      (r.tmb.sources.get src).valid = false) ∧
  (∀ (t0 : Nat) (s : State), (canonical s) →
    (s.tmb.satSince = some t0) →
    (s.tmb.source ≠ 0) →
    Answers (.rateSaturationTimeout) s fun r =>
      (r.tmb.sources.get s.tmb.source).rejectedUntil = max s.tmb.now (t0 + 10000000000) + 60000000000) ∧
  (∀ (src : Nat) (s : State), (canonical s) →
    ((s.tmb.sources.get src).rejectedUntil ≠ 0) →
    Answers (.sourceRejectExpiry src) s fun r =>
      (r.tmb.sources.get src).rejectedUntil = 0 ∧ (r.tmb.sources.get src).since = (s.tmb.sources.get src).rejectedUntil) ∧
  (∀ (t c : Nat) (s : State), ((srcList s).head? = some c) →
    (c ≠ s.tmb.source) →
    (srcUsable (advance s t) c = true) →
    (max (s.tmb.sources.get c).since (s.tmb.sources.get c).rejectedUntil + 10000000000 ≤ max s.tmb.now t) →
    Answers (.sourceReturn t) s fun r =>
      r.tmb.source = c) ∧
  (∀ (t : Nat) (falling refOk : Bool) (s : State), (falling = flag s fTmbPpsCfgInEdge) →
    (s.tmb.ppsLast.all (fun l => decide (l + 999900000 ≤ t)) = true) →
    Answers (.ppsInEdge t falling refOk) s fun r =>
      r.tmb.ppsLast = some t ∧ r.tmb.ppsLabel = (s.tmb.ppsLabel + 1) % 2 ^ 64 ∧ r.tmb.ref10m = refOk) ∧
  (∀ (l : Nat) (s : State), (canonical s) →
    (s.tmb.ppsLast = some l) →
    (s.tmb.ppsMissed = false) →
    Answers (.ppsMissing) s fun r =>
      r.tmb.now = max s.tmb.now (l + 1000100000) ∧ (stored r cTmbPpsMissing).toNat = min ((stored s cTmbPpsMissing).toNat + 1) 0xFFFFFFFF) ∧
  (∀ (s : State), (canonical s) →
    Answers (.ref10mLoss) s fun r =>
      r.tmb.ref10m = false ∧ (r.tmb.sources.get 4).valid = false ∧ (r.tmb.sources.get 6).valid = false) ∧
  (∀ (t : Nat) (f : Int) (s : State), (s.tmb.source = 6) →
    ((s.tmb.sources.get 6).rejectedUntil ≤ max s.tmb.now t) →
    Answers (.refOnlyMeasurement t f) s fun r =>
      r.tmb.rate = clampI (-200000000) 200000000 f ∧ r.tmb.freqEst = clampI (-200000000) 200000000 f ∧ r.tmb.lastF = some f) ∧
  (∀ (t : Nat) (s : State), (flag s fTmbPpsCfgOutEn = true) →
    (s.tmb.now ≤ t) →
    ((if (s.tmb.epochs.headD default).taiValid then taiOf s t else (t : Int)) % 1000000000 = 0) →
    Answers (.ppsOutRise t) s fun r =>
      r.tmb.ppsOut = true) ∧
  (∀ (t : Nat) (s : State), (s.tmb.ppsRise + fld s fTmbPpsCfgOutWidth * 1000 ≤ max s.tmb.now t) →
    Answers (.ppsOutFall t) s fun r =>
      r.tmb.ppsOut = false ∧ r.tmb.now = max s.tmb.now t)

/-- TMB_LQ_PUSH puts a valid entry that comes in time into the queue in order of INSTANT and reports OK. A launch moves the Timeline to its
INSTANT and leaves the queue; on a pin in OUT mode that no other action supersedes SET_LOW and SET_HIGH drive the logical level (INV inverts
it at the ball), TOGGLE changes the level, PULSE drives high with its trailing edge DURATION x 4 ns later, and NOP leaves every pin as it
is; the trailing edge drives low. A write of TMB_TIO_CFG sets MODE (3 is reserved and keeps it), EDGE, IDLE and INV. A selected edge of a
STAMP pin enters its FIFO, and a read of NS_LO takes the oldest stamp out. -/
def Obligations.TimedPinCommandsTakeEffect : Prop :=
  (∀ (e : LqEntry) (s : State), (windowOpen s 2 = true) →
    (lqParse ((List.range 4).flatMap fun i => leBytes 4 (fld s (fTmbLqEntryWord i))) = some e) →
    (tioEntryOk e = true) →
    (s.tmb.now + 100 ≤ e.instant) →
    (s.tmb.lq.length < 4096) →
    Answers (.tmbLqPush) s fun r =>
      r.tmb.lq = lqInsert e s.tmb.lq ∧ r.tmb.lqLast = .ok) ∧
  (∀ (e : LqEntry) (l : List LqEntry) (s : State), (s.tmb.lq = e :: l) →
    (e.action = 0) →
    Answers (.tioNop) s fun r =>
      r.tmb.lq = l ∧ r.tmb.now = max s.tmb.now e.instant ∧ r.tmb.tio = s.tmb.tio) ∧
  (∀ (e : LqEntry) (l : List LqEntry) (s : State), (canonical s) →
    (Acts s) →
    (s.tmb.lq = e :: l) →
    (e.action = 1) →
    (fld s (fTmbTioCfgMode (tioPinOf e)) = 1) →
    (supersededBy l (tioPinOf e) (e.instant * 4 + e.fine) = false) →
    ((s.tmb.tio.get (tioPinOf e)).lastAction = none) →
    Answers (.setLow) s fun r =>
      r.tmb.lq = l ∧ (r.tmb.tio.get (tioPinOf e)).level = some (flag s (fTmbTioCfgInv (tioPinOf e))) ∧ (r.tmb.tio.get (tioPinOf e)).trailing = none) ∧
  (∀ (e : LqEntry) (l : List LqEntry) (s : State), (canonical s) →
    (Acts s) →
    (s.tmb.lq = e :: l) →
    (e.action = 2) →
    (fld s (fTmbTioCfgMode (tioPinOf e)) = 1) →
    (supersededBy l (tioPinOf e) (e.instant * 4 + e.fine) = false) →
    ((s.tmb.tio.get (tioPinOf e)).lastAction = none) →
    Answers (.setHigh) s fun r =>
      r.tmb.lq = l ∧ (r.tmb.tio.get (tioPinOf e)).level = some (!flag s (fTmbTioCfgInv (tioPinOf e))) ∧ (r.tmb.tio.get (tioPinOf e)).trailing = none) ∧
  (∀ (e : LqEntry) (l : List LqEntry) (b : Bool) (s : State), (canonical s) →
    (Acts s) →
    (s.tmb.lq = e :: l) →
    (e.action = 3) →
    (fld s (fTmbTioCfgMode (tioPinOf e)) = 1) →
    (supersededBy l (tioPinOf e) (e.instant * 4 + e.fine) = false) →
    ((s.tmb.tio.get (tioPinOf e)).lastAction = none) →
    ((s.tmb.tio.get (tioPinOf e)).level = some b) →
    Answers (.toggle) s fun r =>
      r.tmb.lq = l ∧ (r.tmb.tio.get (tioPinOf e)).level = some (!b)) ∧
  (∀ (e : LqEntry) (l : List LqEntry) (s : State), (canonical s) →
    (Acts s) →
    (s.tmb.lq = e :: l) →
    (e.action = 4) →
    (fld s (fTmbTioCfgMode (tioPinOf e)) = 1) →
    (supersededBy l (tioPinOf e) (e.instant * 4 + e.fine) = false) →
    ((s.tmb.tio.get (tioPinOf e)).lastAction = none) →
    Answers (.pulse) s fun r =>
      r.tmb.lq = l ∧ (r.tmb.tio.get (tioPinOf e)).level = some (!flag s (fTmbTioCfgInv (tioPinOf e))) ∧ (r.tmb.tio.get (tioPinOf e)).trailing = some (e.instant * 4 + e.fine + e.tag / 256 * 16)) ∧
  (∀ (p q : Nat) (s : State), (canonical s) →
    (s.par.standby = false) →
    ((s.tmb.tio.get p).trailing = some q) →
    (fld s (fTmbTioCfgMode p) = 1) →
    (supersededBy s.tmb.lq p q = false) →
    Answers (.pulseTrailingEdge p) s fun r =>
      (r.tmb.tio.get p).level = some (flag s (fTmbTioCfgInv p)) ∧ (r.tmb.tio.get p).trailing = none ∧ r.tmb.now = max s.tmb.now (q / 4)) ∧
  (∀ (p : Nat) (v : Word) (s : State), (canonical s) →
    (p < 128) →
    (windowOpen s 2 = true) →
    ((s.tmb.tio.get p).claimed = none) →
    Answers (.tioCfgWrite p v) s fun r =>
      fld r (fTmbTioCfgMode p) = (if v.toNat % 4 = 3 then fld s (fTmbTioCfgMode p) else v.toNat % 4) ∧ fld r (fTmbTioCfgEdge p) = bits v.toNat 3 2 ∧ fld r (fTmbTioCfgIdle p) = bits v.toNat 4 4 ∧ fld r (fTmbTioCfgInv p) = bits v.toNat 5 5) ∧
  (∀ (p q : Nat) (f : Bool) (s : State), (canonical s) →
    (p < 128) →
    (s.par.inStep = false) →
    (fld s (fTmbTioCfgMode p) = 2) →
    (bit (fld s (fTmbTioCfgEdge p)) (b2n (f != flag s (fTmbTioCfgInv p))) = true) →
    ((s.tmb.tio.get p).lastStamp.all (fun l => decide (l + 40 ≤ q)) = true) →
    ((s.tmb.tio.get p).fifo.length < 64) →
    Answers (.tioStampEdge p q f) s fun r =>
      (r.tmb.tio.get p).fifo = (s.tmb.tio.get p).fifo ++ [⟨q / 4, q % 4, f != flag s (fTmbTioCfgInv p), curEpoch s % 256⟩] ∧ (r.tmb.tio.get p).lastStamp = some q) ∧
  (∀ (p : Nat) (h : Stamp) (l : List Stamp) (s : State), (canonical s) →
    (p < 128) →
    (windowOpen s 2 = true) →
    ((s.tmb.tio.get p).fifo = h :: l) →
    Answers (.tioStampPop p) s fun r =>
      r.rdata = BitVec.ofNat 32 h.ns ∧ (r.tmb.tio.get p).fifo = l ∧ (r.tmb.tio.get p).latch = some h)

/-- On TIME_PORT with link, in the instance's domain (the layout of the messages is the model's, notes/assumptions/90.md): a one-step Sync
sets the last measurement from its origin time, correction and ingress stamp, a two-step one is remembered until its Follow_Up, which
completes it, or times out; a Delay_Resp sets the mean path delay; a peer delay request is answered, and a response within 200 ppm sets the
path delay and makes the port asCapable; a request that stays unanswered is dropped; an Announce that is at least as good becomes the
master, three Announce intervals of silence remove it. A master port answers a Delay_Req and sends Sync and Announce with the next sequence
number; a slave sends its request with the next number. -/
def Obligations.PtpCommandsTakeEffect : Prop :=
  (∀ (p domain seq : Nat) (o corr raw : Int) (t : Nat) (s : State), (canonical s) →
    (p = timePort s) →
    (domain = fld s fTmbPtpCfgDomain) →
    (portUp s p = true) →
    Answers (.ptpSyncRx p domain seq (some o) corr raw t) s fun r =>
      r.tmb.ptp.lastSync = some (4 * o + corr / 16384, ingress s p raw) ∧ r.tmb.ptp.syncSeq = some (seq % 65536) ∧ r.tmb.ptp.awaiting = none) ∧
  (∀ (p domain seq : Nat) (corr raw : Int) (t : Nat) (s : State), (canonical s) →
    (p = timePort s) →
    (domain = fld s fTmbPtpCfgDomain) →
    (portUp s p = true) →
    Answers (.ptpSyncRx p domain seq none corr raw t) s fun r =>
      r.tmb.ptp.awaiting = some (seq % 65536, ingress s p raw) ∧ r.tmb.ptp.syncSeq = some (seq % 65536)) ∧
  (∀ (p domain seq : Nat) (t1 corr rx : Int) (t : Nat) (s : State), (p = timePort s) →
    (domain = fld s fTmbPtpCfgDomain) →
    (portUp s p = true) →
    (s.tmb.ptp.awaiting = some (seq % 65536, rx)) →
    Answers (.ptpFollowUpRx p domain seq t1 corr t) s fun r =>
      r.tmb.ptp.lastSync = some (4 * t1 + corr / 16384, rx) ∧ r.tmb.ptp.awaiting = none) ∧
  (∀ (q : Nat) (rx : Int) (s : State), (s.tmb.ptp.awaiting = some (q, rx)) →
    Answers (.followUpTimeout) s fun r =>
      r.tmb.ptp.awaiting = none ∧ r.tmb.now = max s.tmb.now ((rx / 4).toNat + 2 * measInterval s 1)) ∧
  (∀ (p domain seq : Nat) (t4 corr t1 t2 t3 : Int) (t : Nat) (s : State), (p = timePort s) →
    (domain = fld s fTmbPtpCfgDomain) →
    (portUp s p = true) →
    (s.tmb.ptp.delayReq = some (seq % 65536, t3)) →
    (s.tmb.ptp.lastSync = some (t1, t2)) →
    Answers (.ptpDelayRespRx p domain seq t4 corr t) s fun r =>
      r.tmb.ptp.pathDelay = ((taiQ s t2 - t1) + (4 * t4 - corr / 16384 - taiQ s t3)) / 2 ∧ r.tmb.ptp.delayReq = none) ∧
  (∀ (p seq : Nat) (turn ratio raw tx : Int) (t : Nat) (s : State), (canonical s) →
    (p = timePort s) →
    (ptpSrc s = 1) →
    (portUp s p = true) →
    (s.tmb.ptp.pdelayReq = some (seq % 65536, tx)) →
    (ratio.natAbs ≤ 200000000) →
    Answers (.ptpPdelayRx p seq (some (turn, ratio)) raw t) s fun r =>
      r.tmb.ptp.asCapable = true ∧ r.tmb.ptp.pathDelay = (ingress s p raw - tx - turn) / 2 ∧ r.tmb.ptp.pdelayReq = none ∧ r.tmb.ptp.pdelayMiss = 0) ∧
  (∀ (p seq : Nat) (raw : Int) (t : Nat) (s : State), (canonical s) →
    (p = timePort s) →
    (ptpSrc s = 1) →
    (portUp s p = true) →
    Answers (.ptpPdelayRx p seq none raw t) s fun r =>
      (stnPort r p).q.length = (stnPort s p).q.length + 1 ∧ ((stnPort r p).q.getLast?.map (·.kind)) = some .pdelayResp) ∧
  (∀ (t : Nat) (s : State), (s.tmb.ptp.pdelayReq.isSome = true) →
    Answers (.pdelayTimeout t) s fun r =>
      r.tmb.ptp.pdelayReq = none ∧ r.tmb.ptp.pdelayMiss = (if 3 ≤ s.tmb.ptp.pdelayMiss + 1 then 0 else s.tmb.ptp.pdelayMiss + 1)) ∧
  (∀ (p domain ds : Nat) (utcValid : Bool) (utc : Int) (t : Nat) (s : State), (p = timePort s) →
    (domain = fld s fTmbPtpCfgDomain) →
    (portUp s p = true) →
    (s.tmb.ptp.announceMaster.all (fun m => decide (ds ≤ m)) = true) →
    Answers (.ptpAnnounceRx p domain ds utcValid utc t) s fun r =>
      r.tmb.ptp.announceMaster = some ds ∧ r.tmb.ptp.announceAt = max s.tmb.now t ∧ r.tmb.ptp.utcValid = utcValid ∧ r.tmb.ptp.utcOffset = utc) ∧
  (∀ (t : Nat) (s : State), (s.tmb.ptp.announceMaster.isSome = true) →
    (s.tmb.ptp.announceAt + 3 * announceNs s ≤ max s.tmb.now t) →
    Answers (.announceTimeout t) s fun r =>
      r.tmb.ptp.announceMaster = none) ∧
  (∀ (p seq : Nat) (mac : Bytes) (raw : Int) (t : Nat) (s : State), (canonical s) →
    (masterPort s p = true) →
    (portUp s p = true) →
    Answers (.ptpDelayReqRx p seq mac raw t) s fun r =>
      (stnPort r p).q.length = (stnPort s p).q.length + 1 ∧ (stnPort r p).rx = ((stnPort s p).rx + 1) % 2 ^ 32) ∧
  (∀ (p : Nat) (announce : Bool) (t : Nat) (s : State), (canonical s) →
    (masterPort s p = true) →
    (portUp s p = true) →
    Answers (.ptpMasterTx p announce t) s fun r =>
      r.tmb.ptp.masterSeq = (s.tmb.ptp.masterSeq + 1) % 65536 ∧ (stnPort r p).q.length = (stnPort s p).q.length + 1) ∧
  (∀ (t : Nat) (s : State), (canonical s) →
    (ptpSrc s ≠ 0) →
    (portUp s (timePort s) = true) →
    Answers (.ptpDelayReqTx t) s fun r =>
      r.tmb.ptp.reqSeq = (s.tmb.ptp.reqSeq + 1) % 65536 ∧ (stnPort r (timePort s)).q.length = (stnPort s (timePort s)).q.length + 1)

/-- SCRUB_STEP moves to the next tile, and a tile that fails its check while a pair partner can repair it waits; TILE_REPAIR_DONE ends the
wait, repaired from the partner's copy or rebuilt. On an open view with space VIEW_DELIVERY writes the record of the next pending point at
the producer index and moves it on (a failed write makes the view FAULTED), VIEW_HEARTBEAT writes one record and starts its counts again,
VIEW_CONS_POLL takes the consumer index, VIEW_SNAPSHOT_TIMER and VIEW_SNAPSHOT queue a SNAPSHOT for every subscribed point, STALE_MARK_QUEUE
queues a STALE_MARK once; VIEW_CLOSE closes a view that is not closed. A write of PST_PEEK_ID reads the point. -/
def Obligations.PointStoreCommandsTakeEffect : Prop :=
  (∀ (c : TileCheck) (s : State), Answers (.scrubStep c) s fun r =>
      r.pst.scrubTile = (s.pst.scrubTile + 1) % 2097152) ∧
  (∀ (s : State), (canonical s) →
    (repairReady s = true) →
    Answers (.scrubStep .failed) s fun r =>
      r.pst.badTiles.contains s.pst.scrubTile = true ∧ r.pst.lastBad = (s.pst.scrubTile, 3)) ∧
  (∀ (t : Nat) (copy : Option Bytes) (s : State), (s.pst.badTiles.contains t = true) →
    Answers (.tileRepairDone t copy) s fun r =>
      r.pst.badTiles.contains t = false ∧ r.pst.lastBad = (t, if copy.isSome then 1 else 2)) ∧
  (∀ (n t id : Nat) (s : State), (canonical s) →
    ((s.pst.views.get n).state = .open) →
    (viewSpace (s.pst.views.get n) = true) →
    (viewNext (advance s t) (s.pst.views.get n) = some id) →
    Answers (.viewDelivery n t true) s fun r =>
      (r.pst.views.get n).prod = ((s.pst.views.get n).prod + 1) % (s.pst.views.get n).desc.records ∧ (r.pst.views.get n).lastId = id ∧ (r.out.drop s.out.length).head? = some (.host ((s.pst.views.get n).desc.base + 32 * (s.pst.views.get n).prod) (viewRecord (advance s t) id ((s.pst.views.get n).subs.get id)).1)) ∧
  (∀ (n t id : Nat) (s : State), (canonical s) →
    ((s.pst.views.get n).state = .open) →
    (viewSpace (s.pst.views.get n) = true) →
    (viewNext (advance s t) (s.pst.views.get n) = some id) →
    Answers (.viewDelivery n t false) s fun r =>
      (r.pst.views.get n).state = .faulted) ∧
  (∀ (n c : Nat) (s : State), (canonical s) →
    ((s.pst.views.get n).state = .open) →
    Answers (.viewConsPoll n (some c)) s fun r =>
      (r.pst.views.get n).cons = c % (s.pst.views.get n).desc.records) ∧
  (∀ (n t : Nat) (s : State), (canonical s) →
    ((s.pst.views.get n).state = .open) →
    (viewSpace (s.pst.views.get n) = true) →
    Answers (.viewHeartbeat n t) s fun r =>
      (r.pst.views.get n).prod = ((s.pst.views.get n).prod + 1) % (s.pst.views.get n).desc.records ∧ (r.pst.views.get n).hbRecords = 0 ∧ (r.pst.views.get n).hbCoalesced = 0) ∧
  (∀ (n t : Nat) (s : State), (canonical s) →
    ((s.pst.views.get n).state = .open) →
    ((s.pst.views.get n).desc.snapshot ≠ 0) →
    Answers (.viewSnapshotTimer n t) s fun r =>
      (r.pst.views.get n).subs = (s.pst.views.get n).ids.foldl (fun m i => m.upd i fun u => { u with snap := true }) (s.pst.views.get n).subs) ∧
  (∀ (n id t : Nat) (s : State), (canonical s) →
    ((s.pst.views.get n).state = .open) →
    ((s.pst.views.get n).ids.contains id = true) →
    (mapped s id = true) →
    (((s.pst.views.get n).subs.get id).staleDone = false) →
    (isStale (recordAt s id (max s.tmb.now t)) (max s.tmb.now t) = true) →
    Answers (.staleMarkQueue n id t) s fun r =>
      (r.pst.views.get n).subs = (s.pst.views.get n).subs.set id { (s.pst.views.get n).subs.get id with stale := true, staleDone := true }) ∧
  (∀ (v : Word) (s : State), (canonical s) →
    (windowOpen s 3 = true) →
    Answers (.pstPeek v) s fun r =>
      r.pst.peek = deliverRead s (v.toNat % 2 ^ 25) s.tmb.now ∧ fld r fPstPeekIdId = v.toNat % 2 ^ 25) ∧
  (∀ (h : Nat) (c : Cmd) (s : State), (canonical s) →
    (CanStart s h 0x16 c) →
    ((s.pst.views.get c.unit).state ≠ .closed) →
    Answers (.viewClose h) s fun r =>
      endStatus r h = some .ok ∧ (r.pst.views.get c.unit).state = .closed) ∧
  (∀ (h : Nat) (c : Cmd) (s : State), (canonical s) →
    (CanStart s h 0x17 c) →
    ((s.pst.views.get c.unit).state = .open) →
    Answers (.viewSnapshot h) s fun r =>
      endStatus r h = some .ok ∧ endResult r h = some (s.pst.views.get c.unit).ids.length ∧ (r.pst.views.get c.unit).subs = (s.pst.views.get c.unit).ids.foldl (fun m i => m.upd i fun u => { u with snap := true }) (s.pst.views.get c.unit).subs)

/-- With the host interface ready: an enable write of a ring whose conditions hold enables it with fresh indices, a write of 0 disables it;
a doorbell of an enabled ring that is not halted takes an index in range, and a tail beyond the ring halts an SQ. COMPLETION_WRITE writes
the final entry of an ended command at the CQ's tail, moves the tail on and takes the command out of flight; PROGRESS_ENTRY writes an
IN_PROGRESS entry where one is due and there is room; CQ_IRQ_TIMER raises the ring's vector. A link that trains makes HIF_READY 1.
HIF_NEGOTIATE with all rings disabled sets the version the table gives; a HIF commit that passes its checks puts every staged field into
force. NOP ends with OK; ABORT of a command that has not started ends it ABORTED and itself OK. -/
def Obligations.HostInterfaceCommandsTakeEffect : Prop :=
  (∀ (n : Nat) (s : State), (canonical s) →
    (n < 64) →
    (windowOpen s 1 = true) →
    (flag s (fHifSqEnable n) = false) →
    (flag s (fHifCqEnable (fld s (fHifSqCq n))) = true) →
    (s.hif.version ≠ 0) →
    (sizingOk s (fld s) (fld s (fHifSqCq n)) (some n) = true) →
    Answers (.sqEnableWrite n true) s fun r =>
      flag r (fHifSqEnable n) = true ∧ r.hif.sq.get n = ⟨0, 0, .none, 0⟩) ∧
  (∀ (n : Nat) (s : State), (canonical s) →
    (n < 64) →
    (windowOpen s 1 = true) →
    Answers (.sqEnableWrite n false) s fun r =>
      flag r (fHifSqEnable n) = false) ∧
  (∀ (n : Nat) (s : State), (canonical s) →
    (n < 64) →
    (windowOpen s 1 = true) →
    (flag s (fHifCqEnable n) = false) →
    (s.hif.version ≠ 0) →
    Answers (.cqEnableWrite n true) s fun r =>
      flag r (fHifCqEnable n) = true ∧ r.hif.cq.get n = ⟨0, 0, false, .none, 0, none⟩) ∧
  (∀ (n : Nat) (s : State), (canonical s) →
    (n < 64) →
    (windowOpen s 1 = true) →
    Answers (.cqEnableWrite n false) s fun r =>
      flag r (fHifCqEnable n) = false) ∧
  (∀ (n : Nat) (v : Word) (s : State), (canonical s) →
    (s.hif.ready = true) →
    (n < 64) →
    (flag s (fHifSqEnable n) = true) →
    ((s.hif.sq.get n).halt = .none) →
    (v.toNat < sqSize s n) →
    Answers (.sqDoorbell n v) s fun r =>
      (r.hif.sq.get n).tail = v.toNat ∧ (r.hif.sq.get n).head = (s.hif.sq.get n).head) ∧
  (∀ (n : Nat) (v : Word) (s : State), (canonical s) →
    (s.hif.ready = true) →
    (n < 64) →
    (flag s (fHifSqEnable n) = true) →
    ((s.hif.sq.get n).halt = .none) →
    (sqSize s n ≤ v.toNat) →
    Answers (.sqDoorbell n v) s fun r =>
      (r.hif.sq.get n).halt = .dbRange ∧ (r.hif.sq.get n).tail = (s.hif.sq.get n).tail) ∧
  (∀ (n : Nat) (v : Word) (s : State), (canonical s) →
    (s.hif.ready = true) →
    (n < 64) →
    (flag s (fHifCqEnable n) = true) →
    ((s.hif.cq.get n).halt = .none) →
    (v.toNat < cqSize s n) →
    ((v.toNat + cqSize s n - (s.hif.cq.get n).head) % cqSize s n ≤ ((s.hif.cq.get n).tail + cqSize s n - (s.hif.cq.get n).head) % cqSize s n) →
    Answers (.cqDoorbell n v) s fun r =>
      (r.hif.cq.get n).head = v.toNat) ∧
  (∀ (h : Nat) (c : Cmd) (e : CmdEnd) (s : State), (canonical s) →
    (cmdFind s h = some c) →
    (c.ended = some e) →
    (c.acked = true) →
    (c.sq ≠ mirrorSq) →
    (flag s (fHifCqEnable c.cq) = true) →
    ((s.hif.cq.get c.cq).halt = .none) →
    (cqFull s c.cq = false) →
    Answers (.completionWrite h true) s fun r =>
      cmdFind r h = none ∧ (r.hif.cq.get c.cq).tail = ((s.hif.cq.get c.cq).tail + 1) % cqSize s c.cq ∧ (r.out.drop s.out.length).head? = some (.host (fld s (fHifCqBaseLo c.cq) + fld s (fHifCqBaseHi c.cq) * 2 ^ 32 + (s.hif.cq.get c.cq).tail * (complEntry s c e.status e.result true e.stamp e.done).length) (complEntry s c e.status e.result true e.stamp e.done))) ∧
  (∀ (h t : Nat) (c : Cmd) (s : State), (canonical s) →
    (cmdFind s h = some c) →
    (c.progress = true) →
    (c.ended = none) →
    (c.started = true) →
    (c.lastProgress + fld s fHifCtrlProgressMs * 1000000 ≤ max s.tmb.now t) →
    (flag s (fHifCqEnable c.cq) = true) →
    ((s.hif.cq.get c.cq).halt = .none) →
    (cqInflight s c.cq < cqSize s c.cq - 1 - ((s.hif.cq.get c.cq).tail + cqSize s c.cq - (s.hif.cq.get c.cq).head) % cqSize s c.cq) →
    Answers (.progressEntry h t) s fun r =>
      (r.hif.cq.get c.cq).tail = ((s.hif.cq.get c.cq).tail + 1) % cqSize s c.cq ∧ (cmdFind r h).map (·.lastProgress) = some (max s.tmb.now t)) ∧
  (∀ (n t : Nat) (s : State), (canonical s) →
    ((s.hif.cq.get n).firstUnsig = some t) →
    (fld s (fHifCqIrqTime n) ≠ 0) →
    (fld s (fHifCqIrqCount n) ≠ 0) →
    Answers (.cqIrqTimer n) s fun r =>
      r.out = s.out ++ [.irq (fld s (fHifCqVector n))] ∧ (r.hif.cq.get n).sinceIrq = 0 ∧ (r.hif.cq.get n).firstUnsig = none ∧ r.tmb.now = max s.tmb.now (t + fld s (fHifCqIrqTime n) * 1000)) ∧
  (∀ (speed width : Nat) (s : State), (s.pwr.up = true) →
    Answers (.linkTrained speed width) s fun r =>
      r.hif.ready = true ∧ r.hif.linkSpeed = speed ∧ r.hif.linkWidth = width) ∧
  (∀ (v : Nat) (s : State), (((List.range 64).any fun n => flag s (fHifSqEnable n) || flag s (fHifCqEnable n)) = false) →
    (s.hdl.recovery = false) →
    (negotiated (fld s fGlbHifReqVersion) = some v) →
    Answers (.hifNegotiate) s fun r =>
      r.hif.version = v ∧ r.hif.actStatus = .ok ∧ r.hif.actDone = true) ∧
  (∀ (s : State), (canonical s) →
    (windowOpen s 1 = true) →
    (hifCommitCheck s = (.ok, 0)) →
    Answers (.hifCommit) s fun r =>
      r.commits.get 1 = ⟨.ok, false⟩ ∧ stagedIn r 1 = [] ∧ ∀ a, a / 0x100000 = 1 → stored r a = stagedOf s a) ∧
  (∀ (h : Nat) (c : Cmd) (s : State), (CanStart s h 0x00 c) →
    Answers (.nop h) s fun r =>
      endStatus r h = some .ok) ∧
  (∀ (h : Nat) (c x : Cmd) (s : State), (CanStart s h 0x01 c) →
    (s.hif.version ≠ 0x0200) →
    (c.unit < 64) →
    ((s.hif.cmds.find? fun x => x.sq == c.unit && x.tag == c.arg && x.handle != h && x.ended.isNone) = some x) →
    (cmdFind s x.handle = some x) →
    (x.started = false) →
    Answers (.abort h) s fun r =>
      endStatus r x.handle = some .aborted ∧ endStatus r h = some .ok)

/-- A sliced command that may start, whose buffers can be accessed, is started and runs on: its data is held and its number of units is set:
POINT_READ, POINT_WRITE, POINT_LOOKUP, FORCE_SET (entries), VIEW_OPEN and VIEW_CHANGE (ids, with the descriptor), MAP_LOAD, PROFILE_LOAD,
STN_TABLE_LOAD and, on a part not marked RETURNED, PROGRAM_LOAD, ILE_LOAD, RECIPE_LOAD (bytes), FORCE_CLEAR (ids, or the whole table),
FORCE_LIST (forced points the buffer holds), CAP_READ (bytes, of a held segment), LOG_READ and HDL_LOG_READ (1 to 1,048,576 records from ARG
up to the newest held now, of a log that is not volatile), TRACE_READ (the newest ARG2 records), TEMPER_RUN (a foreground run begins),
STATE_TRANSFER (copying to a standby that is out of step begins), BILLET_STAGE (the spare bank is STAGING). -/
def Obligations.SlicedCommandsStart : Prop :=
  (∀ (h : Nat) (c : Cmd) (d : Bytes) (l : List Nat) (s : State), (CanStart s h 0x10 c) →
    Answers (.pointRead h (some d) l) s fun r =>
      running r h = true ∧ (cmdFind r h).map (fun x => (x.total, x.data)) = some (c.arg, d)) ∧
  (∀ (h : Nat) (c : Cmd) (d : Bytes) (s : State), (CanStart s h 0x11 c) →
    Answers (.pointWrite h (some d)) s fun r =>
      running r h = true ∧ (cmdFind r h).map (fun x => (x.total, x.data)) = some (c.arg, d)) ∧
  (∀ (h : Nat) (c : Cmd) (d : Bytes) (s : State), (CanStart s h 0x12 c) →
    Answers (.pointLookup h (some d)) s fun r =>
      running r h = true ∧ (cmdFind r h).map (fun x => (x.total, x.data)) = some (c.arg, d)) ∧
  (∀ (h : Nat) (c : Cmd) (d : Bytes) (s : State), (CanStart s h 0x13 c) →
    Answers (.mapLoad h (some d)) s fun r =>
      running r h = true ∧ (cmdFind r h).map (fun x => (x.total, x.data)) = some (d.length, d)) ∧
  (∀ (h : Nat) (c : Cmd) (d : Bytes) (s : State), (CanStart s h 0x18 c) →
    Answers (.forceSet h (some d)) s fun r =>
      running r h = true ∧ (cmdFind r h).map (fun x => (x.total, x.data)) = some (c.arg, d)) ∧
  (∀ (h : Nat) (c : Cmd) (d : Bytes) (s : State), (CanStart s h 0x20 c) →
    (s.hdl.otp.returned = false) →
    Answers (.programLoad h (some d)) s fun r =>
      running r h = true ∧ (cmdFind r h).map (fun x => (x.total, x.data)) = some (d.length, d)) ∧
  (∀ (h : Nat) (c : Cmd) (d : Bytes) (s : State), (CanStart s h 0x26 c) →
    (s.hdl.otp.returned = false) →
    Answers (.ileLoad h (some d)) s fun r =>
      running r h = true ∧ (cmdFind r h).map (fun x => (x.total, x.data)) = some (d.length, d)) ∧
  (∀ (h : Nat) (c : Cmd) (d : Bytes) (s : State), (CanStart s h 0x30 c) →
    (s.hdl.otp.returned = false) →
    Answers (.recipeLoad h (some d)) s fun r =>
      running r h = true ∧ (cmdFind r h).map (fun x => (x.total, x.data)) = some (d.length, d)) ∧
  (∀ (h : Nat) (c : Cmd) (d : Bytes) (s : State), (CanStart s h 0x41 c) →
    Answers (.profileLoad h (some d)) s fun r =>
      running r h = true ∧ (cmdFind r h).map (fun x => (x.total, x.data)) = some (d.length, d)) ∧
  (∀ (h : Nat) (c : Cmd) (d : Bytes) (s : State), (CanStart s h 0x55 c) →
    Answers (.stnTableLoad h (some d)) s fun r =>
      running r h = true ∧ (cmdFind r h).map (fun x => (x.total, x.data)) = some (d.length, d)) ∧
  (∀ (h : Nat) (c : Cmd) (d desc : Bytes) (s : State), (CanStart s h 0x14 c) →
    Answers (.viewOpen h (some d) desc) s fun r =>
      running r h = true ∧ (cmdFind r h).map (fun x => (x.total, x.data, x.data2)) = some (c.arg, d, desc)) ∧
  (∀ (h : Nat) (c : Cmd) (d desc : Bytes) (k : Option Nat) (s : State), (CanStart s h 0x15 c) →
    Answers (.viewChange h (some d) desc k) s fun r =>
      running r h = true ∧ (cmdFind r h).map (fun x => (x.total, x.data, x.data2)) = some (c.arg, d, desc)) ∧
  (∀ (h : Nat) (c : Cmd) (d : Bytes) (s : State), (CanStart s h 0x19 c) →
    Answers (.forceClear h (some d)) s fun r =>
      running r h = true ∧ (cmdFind r h).map (fun x => x.total) = some (if bit c.arg2 0 then s.pst.forces.length else c.arg)) ∧
  (∀ (h : Nat) (c : Cmd) (s : State), (CanStart s h 0x1A c) →
    Answers (.forceList h) s fun r =>
      running r h = true ∧ (cmdFind r h).map (fun x => x.total) = some (min s.pst.forces.length (c.dataLen / 32))) ∧
  (∀ (h : Nat) (c : Cmd) (s : State), (CanStart s h 0x49 c) →
    (s.cnv.clkOk = true) →
    (((List.range 4).any fun g => (cnvG s g).next.isSome) = false) →
    (s.cnv.fg = none) →
    (bit c.arg 0 = true) →
    Answers (.temperRun h) s fun r =>
      running r h = true ∧ (cmdFind r h).map (fun x => x.total) = some 16 ∧ r.cnv.fg.map (·.cmd) = some (some c.handle)) ∧
  (∀ (h : Nat) (c : Cmd) (s : State), (CanStart s h 0x4D c) →
    (c.dataLen % 64 = 0) →
    (((capCh s c.unit).held.any fun g => g.index == c.arg) = true) →
    Answers (.capRead h) s fun r =>
      running r h = true ∧ (cmdFind r h).map (fun x => x.total) = some c.dataLen) ∧
  (∀ (h : Nat) (c : Cmd) (s : State), (CanStart s h 0x60 c) →
    (s.recd.volatile = false) →
    (1 ≤ c.arg2) →
    (c.arg2 ≤ 1048576) →
    Answers (.logRead h) s fun r =>
      running r h = true ∧ (cmdFind r h).map (fun x => (x.total, x.pos, x.lim)) = some (c.arg2, c.arg, s.recd.nextSeq)) ∧
  (∀ (h : Nat) (c : Cmd) (s : State), (CanStart s h 0x75 c) →
    (s.mram.hlog.volatile = false) →
    (1 ≤ c.arg2) →
    (c.arg2 ≤ 1048576) →
    Answers (.hdlLogRead h) s fun r =>
      running r h = true ∧ (cmdFind r h).map (fun x => (x.total, x.pos, x.lim)) = some (c.arg2, c.arg, s.mram.hlog.nextSeq)) ∧
  (∀ (h : Nat) (c : Cmd) (s : State), (CanStart s h 0x66 c) →
    Answers (.traceRead h) s fun r =>
      running r h = true ∧ (cmdFind r h).map (fun x => (x.total, x.lim)) = some (min (min c.arg2 traceMax) s.hrt.trace.length, (s.hrt.traceSeq + 1) % 2 ^ 32)) ∧
  (∀ (h : Nat) (c : Cmd) (s : State), (CanStart s h 0x69 c) →
    (s.par.state = .active) →
    (s.par.partnerState = PairState.standbyUnsync.code) →
    (s.par.partnerEcn = fwEcn s) →
    (s.cyc.state ≠ .running) →
    (s.par.xfer ≠ .copying) →
    (s.par.xfer ≠ .cut) →
    (s.par.xfer ≠ .catchup) →
    Answers (.stateTransfer h) s fun r =>
      running r h = true ∧ r.par.xfer = .copying ∧ r.par.xferCmd = some h) ∧
  (∀ (h : Nat) (c : Cmd) (d : Bytes) (s : State), (canonical s) →
    (CanStart s h 0x70 c) →
    (bankIn s .trial = none) →
    (bankIn s .staging = none) →
    (c.dataLen ≤ 134217728) →
    Answers (.billetStage h (some d)) s fun r =>
      running r h = true ∧ (cmdFind r h).map (fun x => (x.total, x.data)) = some (d.length, d) ∧ (r.hdl.bank.get (spareBank s)).state = .staging)

/-- DESC_FETCH from a ring whose turn it is, with credit, puts the command of the descriptor in flight and moves the head. A command that an
ABORT waits for and whose Slice no core pair runs ends ABORTED; the last Slice of POINT_READ, when a core pair runs it and it is its turn,
writes one READ record for each id left, in their order, and ends it with OK. Host access loss disables every ring, returns the version to 0
and closes the event ring and the export; a link that went down clears HIF_READY. TIME_READ writes the Timeline, status and Epoch record and
ends with the Epoch number. LAUNCH of one entry that comes in time for the timed pins puts it into their queue. -/
def Obligations.SlicesAndSharedCommandsTakeEffect : Prop :=
  (∀ (n : Nat) (d : Bytes) (s : State), (n < 64) →
    (sqWaiting s n = true) →
    (creditOk s n = true) →
    (sqTurn s n = true) →
    (canonical s) →
    Answers (.descFetch n (some d)) s fun r =>
      (r.hif.sq.get n).head = ((s.hif.sq.get n).head + 1) % sqSize s n ∧ r.hif.cmds.length = s.hif.cmds.length + 1 ∧ (r.hif.cmds.getLast?.map fun c => (c.handle, c.sq, c.opcode)) = some (s.hif.nextHandle, n, le d 0 1)) ∧
  (∀ (h n : Nat) (reach torn : Bool) (c : Cmd) (s : State), (cmdFind s h = some c) →
    (c.started = true) →
    (c.ended = none) →
    (opSliced c.opcode = true) →
    (c.abortBy ≠ []) →
    (sliceCore s h = none) →
    Answers (.commandSlice h n reach torn) s fun r =>
      endStatus r h = some .aborted) ∧
  (∀ (h n k : Nat) (c : Cmd) (s : State), (cmdFind s h = some c) →
    (c.started = true) →
    (c.ended = none) →
    (c.opcode = 0x10) →
    (c.abortBy = []) →
    (sliceCore s h = some k) →
    (sliceTurn s c = true) →
    (c.done ≤ c.total) →
    (c.total ≤ c.done + n) →
    Answers (.commandSlice h n true false) s fun r =>
      endStatus r h = some .ok ∧ r.out = s.out ++ (List.range (c.total - c.done)).map fun i => .host (c.addr2 + 32 * (c.done + i)) (hostRead s (le c.data (4 * (c.done + i)) 4) (bit c.arg2 0))) ∧
  (∀ (link : Bool) (t : Nat) (s : State), (canonical s) →
    Answers (.hostAccessLoss link t) s fun r =>
      r.hif.version = 0 ∧ (∀ n, n < 64 → flag r (fHifSqEnable n) = false ∧ flag r (fHifCqEnable n) = false) ∧ r.recd.evRing = none ∧ r.recd.exp = none ∧ r.hif.ready = (s.hif.ready && !link)) ∧
  (∀ (h : Nat) (c : Cmd) (s : State), (CanStart s h 0x02 c) →
    Answers (.timeRead h true) s fun r =>
      endStatus r h = some .ok ∧ endResult r h = some (curEpoch s) ∧ r.out = s.out ++ [.host c.dataAddr (timeBytes s)]) ∧
  (∀ (h : Nat) (c : Cmd) (d : Bytes) (e : LqEntry) (s : State), (CanStart s h 0x58 c) →
    (s.par.state ≠ .active) →
    (c.unit = 2) →
    (c.arg2 = 0) →
    (c.arg = 1) →
    (lqParse (slice d 0 16) = some e) →
    (tioEntryOk e = true) →
    (s.tmb.now + 100 ≤ e.instant) →
    (s.tmb.lq.length < 4096) →
    Answers (.launch h (some d)) s fun r =>
      r.tmb.lq = lqInsert e s.tmb.lq ∧ endStatus r h = some .ok ∧ endResult r h = some 1)

/-- With its window open and no commit pending, a write of 1 to each of the fifteen COMMIT registers leaves a pending commit of that window
and the status of the last. COMMIT_APPLY of a pending commit that passes its block's checks ends with OK, and in every window but TMB, WLK
and PAR (whose commits do more) each register then holds its staged value; one that fails a check ends with that status and changes no
register. A write of GLB's scratch register takes the whole word, a write of GLB_INT_STATUS clears the bits written as 1, a write of a
staged TMB setting is staged and not yet in force. A read of an HIF counter returns it and clears it; a read of the LO word of a scan
instant or a class's T0 returns it and latches the HI word. -/
def Obligations.CommitsAndRegisterAccessesTakeEffect : Prop :=
  (∀ (s : State), (canonical s) →
    (windowOpen s 0x2 = true) →
    ((s.commits.get 0x2).pending = false) →
    Answers (.tmbCommit) s fun r =>
      r.commits.get 0x2 = ⟨(s.commits.get 0x2).status, true⟩) ∧
  (∀ (s : State), (canonical s) →
    (windowOpen s 0x3 = true) →
    ((s.commits.get 0x3).pending = false) →
    Answers (.pstCommit) s fun r =>
      r.commits.get 0x3 = ⟨(s.commits.get 0x3).status, true⟩) ∧
  (∀ (s : State), (canonical s) →
    (windowOpen s 0x4 = true) →
    ((s.commits.get 0x4).pending = false) →
    Answers (.cycCommit) s fun r =>
      r.commits.get 0x4 = ⟨(s.commits.get 0x4).status, true⟩) ∧
  (∀ (s : State), (canonical s) →
    (windowOpen s 0x6 = true) →
    ((s.commits.get 0x6).pending = false) →
    Answers (.hrtCommit) s fun r =>
      r.commits.get 0x6 = ⟨(s.commits.get 0x6).status, true⟩) ∧
  (∀ (s : State), (canonical s) →
    (windowOpen s 0x7 = true) →
    ((s.commits.get 0x7).pending = false) →
    Answers (.seqCommit) s fun r =>
      r.commits.get 0x7 = ⟨(s.commits.get 0x7).status, true⟩) ∧
  (∀ (s : State), (canonical s) →
    (windowOpen s 0x8 = true) →
    ((s.commits.get 0x8).pending = false) →
    Answers (.anvLoopCommit) s fun r =>
      r.commits.get 0x8 = ⟨(s.commits.get 0x8).status, true⟩) ∧
  (∀ (s : State), (canonical s) →
    (windowOpen s 0x9 = true) →
    ((s.commits.get 0x9).pending = false) →
    Answers (.motCommit) s fun r =>
      r.commits.get 0x9 = ⟨(s.commits.get 0x9).status, true⟩) ∧
  (∀ (s : State), (canonical s) →
    (windowOpen s 0xb = true) →
    ((s.commits.get 0xb).pending = false) →
    Answers (.cnvCommit) s fun r =>
      r.commits.get 0xb = ⟨(s.commits.get 0xb).status, true⟩) ∧
  (∀ (s : State), (canonical s) →
    (windowOpen s 0xc = true) →
    ((s.commits.get 0xc).pending = false) →
    Answers (.capCommit) s fun r =>
      r.commits.get 0xc = ⟨(s.commits.get 0xc).status, true⟩) ∧
  (∀ (s : State), (canonical s) →
    (windowOpen s 0xe = true) →
    ((s.commits.get 0xe).pending = false) →
    Answers (.stnCommit) s fun r =>
      r.commits.get 0xe = ⟨(s.commits.get 0xe).status, true⟩) ∧
  (∀ (s : State), (canonical s) →
    (windowOpen s 0xf = true) →
    ((s.commits.get 0xf).pending = false) →
    Answers (.wlkCommit) s fun r =>
      r.commits.get 0xf = ⟨(s.commits.get 0xf).status, true⟩) ∧
  (∀ (s : State), (canonical s) →
    (windowOpen s 0x10 = true) →
    ((s.commits.get 0x10).pending = false) →
    Answers (.parCommit) s fun r =>
      r.commits.get 0x10 = ⟨(s.commits.get 0x10).status, true⟩) ∧
  (∀ (s : State), (canonical s) →
    (windowOpen s 0x11 = true) →
    ((s.commits.get 0x11).pending = false) →
    Answers (.recCommit) s fun r =>
      r.commits.get 0x11 = ⟨(s.commits.get 0x11).status, true⟩) ∧
  (∀ (s : State), (canonical s) →
    (windowOpen s 0x12 = true) →
    ((s.commits.get 0x12).pending = false) →
    Answers (.hdlCommit) s fun r =>
      r.commits.get 0x12 = ⟨(s.commits.get 0x12).status, true⟩) ∧
  (∀ (s : State), (canonical s) →
    (windowOpen s 0x13 = true) →
    ((s.commits.get 0x13).pending = false) →
    Answers (.qchCommit) s fun r =>
      r.commits.get 0x13 = ⟨(s.commits.get 0x13).status, true⟩) ∧
  (∀ (w t : Nat) (s : State), (canonical s) →
    ((s.commits.get w).pending = true) →
    (commitCheck (advance s t) w = .ok) →
    Answers (.commitApply w t) s fun r =>
      r.commits.get w = ⟨.ok, false⟩) ∧
  (∀ (w t : Nat) (s : State), (canonical s) →
    (w ≠ 2) →
    (w ≠ 0x0F) →
    (w ≠ 0x10) →
    ((s.commits.get w).pending = true) →
    (commitCheck (advance s t) w = .ok) →
    Answers (.commitApply w t) s fun r =>
      ∀ a, a / 0x100000 = w → stored r a = stagedOf s a) ∧
  (∀ (w t : Nat) (s : State), (canonical s) →
    ((s.commits.get w).pending = true) →
    (commitCheck (advance s t) w ≠ .ok) →
    Answers (.commitApply w t) s fun r =>
      r.commits.get w = ⟨commitCheck (advance s t) w, false⟩ ∧ r.regs = s.regs ∧ r.staged = s.staged) ∧
  (∀ (v : Word) (s : State), (canonical s) →
    Answers (.registerWrite 0x24 v) s fun r =>
      stored r 0x24 = v) ∧
  (∀ (v : Word) (s : State), (canonical s) →
    Answers (.registerWrite 0x28 v) s fun r =>
      stored r 0x28 = stored s 0x28 &&& ~~~(v &&& 0xF)) ∧
  (∀ (a : Nat) (v : Word) (s : State), (canonical s) →
    (a ∈ [0x200040, 0x200044, 0x200048, 0x20004C, 0x200050, 0x200054, 0x200058]) →
    (windowOpen s 2 = true) →
    Answers (.registerWrite a v) s fun r =>
      stagedOf r a = (stored s a &&& ~~~rwsMask a) ||| (v &&& rwsMask a) ∧ stored r a = stored s a) ∧
  (∀ (i : Nat) (s : State), (canonical s) →
    (i < 16) →
    (windowOpen s 1 = true) →
    Answers (.counterRead (0x100100 + 4 * i)) s fun r =>
      r.rdata = stored s (0x100100 + 4 * i) ∧ stored r (0x100100 + 4 * i) = 0) ∧
  (∀ (s : State), (windowOpen s 5 = true) →
    Answers (.loLatchRead 0x500020) s fun r =>
      r.rdata = BitVec.ofNat 32 (lo32 s.ile.lastScan) ∧ r.ile.latchScanHi = hi32 s.ile.lastScan) ∧
  (∀ (n : Nat) (s : State), (canonical s) →
    (n < 32) →
    (windowOpen s 4 = true) →
    Answers (.loLatchRead (0x401008 + 32 * n)) s fun r =>
      r.rdata = BitVec.ofNat 32 (lo32 (s.cyc.classes.get n).t0) ∧ (r.cyc.classes.get n).latchHi = hi32 (s.cyc.classes.get n).t0)

/-- PROGRAM_START of a slot whose image was built for its map, with no program running and no item pending on a part not marked RETURNED,
sets the slot running and puts its map in force. PROGRAM_STOP of a running program notes the later of I and now as its stop instant and ends
a Weld that has not switched; the STOP launch at that instant stops the program with reason COMMAND. A START launch activates its class. A
LATCH with pairs enough, no Weld or revert that seeks an instant, the grid unchanged and no item pending begins the class's cycle at its
instant: every item is pending; with too few core pairs it stops the program with reason POOL_MIN. A deadline takes its entry off the
class's queue, and with items pending in the cycle it belongs to marks an overrun. -/
def Obligations.CycleEngineCommandsTakeEffect : Prop :=
  (∀ (h : Nat) (c : Cmd) (m : Image) (p : PointMap) (s : State), (CanStart s h 0x21 c) →
    (s.hdl.otp.returned = false) →
    (s.cyc.state ≠ .running) →
    (anyPending s = false) →
    ((s.cyc.slots.get c.unit).image = some m) →
    ((s.cyc.slots.get c.unit).map = some p) →
    (p.build = m.mapBuild) →
    Answers (.programStart h) s fun r =>
      r.cyc.state = .running ∧ r.cyc.slot = c.unit ∧ r.pst.map = some p ∧ r.cyc.startCmd = some h ∧ r.cyc.stopReason = .none ∧ running r h = true) ∧
  (∀ (h : Nat) (c : Cmd) (s : State), (CanStart s h 0x22 c) →
    (s.cyc.state = .running) →
    Answers (.programStop h) s fun r =>
      r.cyc.stopAt = some (max c.instant s.tmb.now) ∧ r.cyc.stopCmd = some h ∧ weldBefore r = false ∧ r.cyc.state = .running) ∧
  (∀ (i : Nat) (s : State), (s.cyc.state = .running) →
    (s.cyc.stopAt = some i) →
    Answers (.cycStop) s fun r =>
      r.cyc.state = .stopped ∧ r.cyc.stopReason = .command ∧ r.cyc.stopAt = none ∧ r.cyc.weld.state = .none ∧ r.tmb.now = max s.tmb.now i) ∧
  (∀ (c : Nat) (e : LqEntry) (t : List LqEntry) (s : State), (canonical s) →
    (s.cyc.state = .running) →
    (s.cyc.autoStarting = false) →
    ((s.cyc.classes.get c).lq = e :: t) →
    (e.action = 3) →
    Answers (.cycStart c) s fun r =>
      r.tmb.now = max s.tmb.now e.instant ∧ (r.cyc.classes.get c).active = true ∧ (r.cyc.classes.get c).lq = t) ∧
  (∀ (c : Nat) (e : LqEntry) (s : State), (canonical s) →
    (s.cyc.state = .running) →
    (gridOffset s (s.cyc.classes.get c).info = (s.cyc.classes.get c).domOff) →
    (latchEntry (s.cyc.classes.get c) = some e) →
    (fld s fCycCtrlPoolMin ≤ hrtAvailable s) →
    (s.cyc.weld.state ≠ .waiting) →
    (s.cyc.weld.state ≠ .switching) →
    (s.cyc.weld.state ≠ .reverting) →
    ((s.cyc.classes.get c).pending = 0) →
    Answers (.cycLatch c) s fun r =>
      r.tmb.now = max s.tmb.now e.instant ∧ (r.cyc.classes.get c).latched = true ∧ (r.cyc.classes.get c).t0 = e.instant ∧ (r.cyc.classes.get c).pending = (s.cyc.classes.get c).info.itemCount ∧ (r.cyc.classes.get c).ovr = false ∧ r.cyc.startCmd = none ∧ r.cyc.state = .running) ∧
  (∀ (c : Nat) (e : LqEntry) (s : State), (canonical s) →
    (s.cyc.state = .running) →
    (gridOffset s (s.cyc.classes.get c).info = (s.cyc.classes.get c).domOff) →
    (latchEntry (s.cyc.classes.get c) = some e) →
    (hrtAvailable s < fld s fCycCtrlPoolMin) →
    (inGap s = false) →
    Answers (.cycLatch c) s fun r =>
      r.tmb.now = max s.tmb.now e.instant ∧ r.cyc.state = .stopped ∧ r.cyc.stopReason = .poolMin) ∧
  (∀ (c : Nat) (e : LqEntry) (s : State), (canonical s) →
    ((s.cyc.classes.get c).lq.find? (·.action == 2) = some e) →
    ((s.cyc.classes.get c).pending = 0) →
    Answers (.cycDeadline c) s fun r =>
      r.tmb.now = max s.tmb.now e.instant ∧ (r.cyc.classes.get c).lq = (s.cyc.classes.get c).lq.erase e ∧ r.cyc.state = s.cyc.state) ∧
  (∀ (c : Nat) (e : LqEntry) (s : State), (canonical s) →
    ((s.cyc.classes.get c).lq.find? (·.action == 2) = some e) →
    ((s.cyc.classes.get c).pending ≠ 0) →
    (e.instant = deadlineOf (s.cyc.classes.get c).info (s.cyc.classes.get c).t0) →
    Answers (.cycDeadline c) s fun r =>
      r.tmb.now = max s.tmb.now e.instant ∧ (r.cyc.classes.get c).ovr = true ∧ (r.cyc.classes.get c).pending = (s.cyc.classes.get c).pending)

/-- WELD that passes every check of R182 starts copying into the new slot. A copy pass that leaves at most 256 KiB of tracked lines makes it
wait for an instant; 10 s without one abandons it with TIMEOUT. The gap of a good switch ends with the new slot's program in probation for
the cycles asked; where the copied data or the map fails its check it ends the Weld with FAULTED. WELD_CONFIRM in probation ends it with OK.
WELD_REVERT in probation begins a revert on COMMAND; before the switch it abandons the Weld with ABORTED. The gap of a good revert ends with
the old slot's program; a revert that finds no instant in 100 ms stops the program with reason WELD_FAIL. -/
def Obligations.OnlineChangeCommandsTakeEffect : Prop :=
  (∀ (h : Nat) (c : Cmd) (d : Bytes) (s : State), (CanStart s h 0x23 c) →
    (weldCheck s c d = .ok) →
    Answers (.weld h (some d)) s fun r =>
      r.cyc.weld.state = .copying ∧ r.cyc.weld.newSlot = c.unit ∧ r.cyc.weld.probation = (if c.arg = 0 then 100 else c.arg) ∧ r.cyc.weld.cmd = some h ∧ r.cyc.weld.passes = 0 ∧ running r h = true) ∧
  (∀ (t : Nat) (copied : List Nat) (s : State), (s.cyc.weld.state = .copying) →
    (64 * (s.cyc.weld.dirty.filter fun l => !copied.contains l).length ≤ weldLimit) →
    Answers (.weldCopyPass t copied) s fun r =>
      r.cyc.weld.state = .waiting ∧ r.cyc.weld.passes = s.cyc.weld.passes + 1 ∧ r.cyc.weld.dirty = (s.cyc.weld.dirty.filter fun l => !copied.contains l) ∧ r.tmb.now = max s.tmb.now t ∧ r.cyc.weld.since = r.tmb.now) ∧
  (∀ (s : State), (s.cyc.weld.state = .waiting) →
    Answers (.weldWaitTimeout) s fun r =>
      r.cyc.weld.state = .none ∧ r.cyc.weld.lastStatus = .timeout ∧ r.tmb.now = max s.tmb.now (s.cyc.weld.since + 10000000000)) ∧
  (∀ (t : Nat) (o n : PointMap) (s : State), (canonical s) →
    (s.cyc.weld.state = .switching) →
    (s.pst.map = some o) →
    ((s.cyc.slots.get s.cyc.weld.newSlot).map = some n) →
    Answers (.weldGapEnd t true) s fun r =>
      r.cyc.slot = s.cyc.weld.newSlot ∧ r.pst.map = some n ∧ r.cyc.weld.state = .probation ∧ r.cyc.weld.left = s.cyc.weld.probation ∧ r.cyc.weld.lastStatus = .ok ∧ r.tmb.now = max s.tmb.now t) ∧
  (∀ (t : Nat) (s : State), (s.cyc.weld.state = .switching) →
    Answers (.weldGapEnd t false) s fun r =>
      r.cyc.slot = s.cyc.slot ∧ r.cyc.weld.state = .none ∧ r.cyc.weld.lastStatus = .faulted ∧ r.tmb.now = max s.tmb.now t) ∧
  (∀ (h : Nat) (c : Cmd) (s : State), (CanStart s h 0x24 c) →
    (s.cyc.weld.state = .probation) →
    (s.cyc.weld.revertCmd = none) →
    Answers (.weldConfirm h) s fun r =>
      r.cyc.weld.state = .none ∧ r.cyc.weld.lastStatus = .ok ∧ r.cyc.slot = s.cyc.slot ∧ endStatus r h = some .ok) ∧
  (∀ (h : Nat) (c : Cmd) (s : State), (CanStart s h 0x25 c) →
    (s.cyc.weld.state = .probation) →
    Answers (.weldRevert h) s fun r =>
      r.cyc.weld.state = .reverting ∧ r.cyc.weld.trigger = .command ∧ r.cyc.weld.revertCmd = some h ∧ running r h = true) ∧
  (∀ (h : Nat) (c : Cmd) (s : State), (CanStart s h 0x25 c) →
    (s.cyc.weld.state = .copying ∨ s.cyc.weld.state = .waiting) →
    Answers (.weldRevert h) s fun r =>
      r.cyc.weld.state = .none ∧ r.cyc.weld.lastStatus = .aborted) ∧
  (∀ (t : Nat) (s : State), (s.cyc.weld.state = .reverting) →
    (s.cyc.weld.inGap = true) →
    Answers (.weldRevertGapEnd t true) s fun r =>
      r.cyc.slot = 1 - s.cyc.weld.newSlot ∧ r.cyc.weld.state = .none ∧ r.cyc.weld.lastStatus = .ok ∧ r.tmb.now = max s.tmb.now t) ∧
  (∀ (s : State), (s.cyc.weld.state = .reverting) →
    (s.cyc.weld.inGap = false) →
    Answers (.revertInstantTimeout) s fun r =>
      r.cyc.state = .stopped ∧ r.cyc.stopReason = .weldFail ∧ r.cyc.weld.lastStatus = .faulted ∧ r.tmb.now = max s.tmb.now (s.cyc.weld.since + 100000000))

/-- A scan of the running image, no loaded image awaiting its switch, is made at the next scan instant; a late one also takes the time its
end came at, and scan instants before that are skipped. A compare mismatch makes the engine FAULTED and drops a loaded image. A write of
FB_END in FALLBACK is noted; fallback goes on until the next scan. -/
def Obligations.InterlockCommandsTakeEffect : Prop :=
  (∀ (dur : Nat) (m : IleImage) (s : State), (s.ile.state ≠ .faulted) →
    (s.ile.image = some m) →
    (s.ile.next = none) →
    Answers (.ileScan dur) s fun r =>
      r.ile.scanned = true ∧ r.ile.lastScan = ileNextScan s m ∧ r.tmb.now = max s.tmb.now (ileNextScan s m) ∧ r.ile.image = some m) ∧
  (∀ (dur : Nat) (m : IleImage) (s : State), (s.ile.state ≠ .faulted) →
    (s.ile.image = some m) →
    (s.ile.next = none) →
    Answers (.ileScanLate dur) s fun r =>
      r.ile.scanned = true ∧ r.ile.lastScan = ileNextScan s m ∧ r.tmb.now = max s.tmb.now (ileNextScan s m + dur) ∧ r.ile.skipTo = r.tmb.now) ∧
  (∀ (t insn : Nat) (s : State), (s.ile.state ≠ .faulted) →
    Answers (.ileFault t insn) s fun r =>
      r.ile.state = .faulted ∧ r.ile.next = none ∧ r.tmb.now = max s.tmb.now t) ∧
  (∀ (s : State), (windowOpen s 5 = true) →
    (s.ile.state = .fallback) →
    Answers (.fbEnd) s fun r =>
      r.ile.fbEnd = true ∧ r.ile.state = .fallback)

/-- A free core pair that is not retired takes the item R231 chooses, the Slices of commands that were waiting having entered the ready
queue: it leaves the queue and runs from now. A credit that returns lets the first held item of its source into the queue. The oldest commit
of a module that is no standby in step ends and leaves the commit unit. The limit timer of a pair stops its item and frees the pair, and so
does a fault of a user item. A failure of a pair retires it: an item's first run goes back to the head of the queue as a retry that this
pair does not take; a retry is not run again, nor is there anything to run again on an idle pair. The WDONE of an item that is no running
command's Slice, with its buffer not overrun and its launch credits granted, frees the pair and hands its effects to the commit unit. -/
def Obligations.HearthCommandsTakeEffect : Prop :=
  (∀ (core t : Nat) (d : Desc) (s : State), (canonical s) →
    (core < poolSize) →
    ((s.hrt.cores.get core).retired = false) →
    ((s.hrt.cores.get core).run = none) →
    (nextItem core (slicePass (advance s t)).hrt.ready = some d) →
    Answers (.itemDispatch core t) s fun r =>
      (r.hrt.cores.get core).run.map (fun x => (x.desc, x.started, x.limitAt)) = some (d, max s.tmb.now t, limitEnd d (max s.tmb.now t)) ∧ r.hrt.ready = (slicePass (advance s t)).hrt.ready.erase d ∧ r.tmb.now = max s.tmb.now t) ∧
  (∀ (src : Nat) (d : Desc) (s : State), (s.hrt.held.find? (·.source == src) = some d) →
    (hrtCredit s src = true) →
    Answers (.itemCreditRelease src) s fun r =>
      r.hrt.ready = s.hrt.ready ++ [{ d with enqueued := s.tmb.now }] ∧ r.hrt.held = s.hrt.held.erase d) ∧
  (∀ (t : Nat) (j : CommitJob) (l : List CommitJob) (s : State), (s.par.inStep = false) →
    (s.hrt.commits = j :: l) →
    Answers (.itemCommitEnd t) s fun r =>
      r.hrt.commits = l) ∧
  (∀ (core : Nat) (x : Run) (s : State), (canonical s) →
    ((s.hrt.cores.get core).run = some x) →
    Answers (.itemLimitTimeout core) s fun r =>
      (r.hrt.cores.get core).run = none ∧ (r.hrt.cores.get core).freedAt = max s.tmb.now x.limitAt ∧ r.tmb.now = max s.tmb.now x.limitAt ∧ r.hrt.commits = s.hrt.commits) ∧
  (∀ (core t cause : Nat) (p : RvRun) (x : Run) (s : State), (canonical s) →
    ((s.hrt.cores.get core).run = some x) →
    (x.user = true) →
    (cause = 0 ∨ cause = 1 ∨ cause = 3 ∨ cause = 4) →
    Answers (.itemFault core t cause p) s fun r =>
      (r.hrt.cores.get core).run = none ∧ r.tmb.now = max s.tmb.now t ∧ r.hrt.commits = s.hrt.commits) ∧
  (∀ (core t : Nat) (x : Run) (s : State), (canonical s) →
    (core < poolSize) →
    ((s.hrt.cores.get core).retired = false) →
    ((s.hrt.cores.get core).run = some x) →
    (x.desc.retry = false) →
    Answers (.corePairMismatch core t) s fun r =>
      (r.hrt.cores.get core).retired = true ∧ (r.hrt.cores.get core).run = none ∧ r.hrt.ready = { x.desc with retry := true, notOn := some core, enqueued := max s.tmb.now t } :: s.hrt.ready) ∧
  (∀ (core t : Nat) (x : Run) (s : State), (canonical s) →
    (core < poolSize) →
    ((s.hrt.cores.get core).retired = false) →
    ((s.hrt.cores.get core).run = some x) →
    (x.desc.retry = true) →
    Answers (.corePairMismatch core t) s fun r =>
      (r.hrt.cores.get core).retired = true ∧ (r.hrt.cores.get core).run = none ∧ r.tmb.now = max s.tmb.now t) ∧
  (∀ (core t : Nat) (s : State), (canonical s) →
    (core < poolSize) →
    ((s.hrt.cores.get core).retired = false) →
    ((s.hrt.cores.get core).run = none) →
    Answers (.corePairMismatch core t) s fun r =>
      (r.hrt.cores.get core).retired = true ∧ r.hrt.ready = s.hrt.ready ∧ r.hrt.lastRetire.1 = core) ∧
  (∀ (core t : Nat) (w : Word) (p : RvRun) (x : Run) (s : State), (canonical s) →
    ((s.hrt.cores.get core).run = some x) →
    (x.user = false) →
    (s.hif.cmds.any (fun c => isSlice c.handle x.desc && sliceRunning c) = false) →
    (x.full = false) →
    (x.noCredit = false) →
    Answers (.wdone core t w p) s fun r =>
      (r.hrt.cores.get core).run = none ∧ r.hrt.commits = s.hrt.commits ++ [⟨x.desc, core, x.staged, 0, max s.tmb.now t⟩] ∧ r.tmb.now = max s.tmb.now t) ∧
  (∀ (core t : Nat) (w : Word) (p : RvRun) (x q : Run) (s : State), (canonical s) →
    (RunsInsn s core w p 6 x q) →
    (bits w.toNat 31 20 = 0) →
    (bits w.toNat 11 7 = 0) →
    (q.full = false) →
    (q.noCredit = false) →
    Answers (.wdone core t w p) s fun r =>
      (r.hrt.cores.get core).run = none ∧ r.hrt.commits = s.hrt.commits ++ [⟨q.desc, core, q.staged, (q.xregs.get (bits w.toNat 19 15)).toNat % 256, max s.tmb.now t⟩] ∧ r.tmb.now = max s.tmb.now t)

/-- Of a user item that meets a custom instruction, the ordinary code before it carried out: PREC of a mapped point with LIVE writes its
present 32-byte record into scratch and OK into rd; PLV with LIVE writes its VALUE into rd; TRD writes what funct7 names; STAMPSET keeps the
STAMP of the next PST; PST, EVT of a code from 0x8000 and a legal LREQ with credit stage their effect where the commit buffer has room and
write OK into rd, and PST takes the kept STAMP; an LREQ to a queue an item may not address writes BAD_FIELD and stages nothing. x0 stays 0.
-/
def Obligations.CustomInstructionsTakeEffect : Prop :=
  (∀ (core : Nat) (w : Word) (p : RvRun) (x q : Run) (id o : Nat) (s : State), (RunsInsn s core w p 0 x q) →
    (bits w.toNat 31 25 = 1) →
    (id = (q.xregs.get (bits w.toNat 19 15)).toNat % 2 ^ 25) →
    (id ≠ 0) →
    (mapped s id = true) →
    ((q.xregs.get (bits w.toNat 24 20)).toNat = scratchBase + o) →
    (o + 32 ≤ scratchSize) →
    (o % 32 = 0) →
    Answers (.prec core w p) s fun r =>
      (r.hrt.cores.get core).run = some (setRd (scratchPut q o (deliver 3 id (readPoint s id s.tmb.now) s.tmb.now)) w (stReg .ok))) ∧
  (∀ (core : Nat) (w : Word) (p : RvRun) (x q : Run) (id : Nat) (s : State), (RunsInsn s core w p 1 x q) →
    (bits w.toNat 31 25 = 1) →
    (bits w.toNat 24 20 = 0) →
    (id = (q.xregs.get (bits w.toNat 19 15)).toNat % 2 ^ 25) →
    (id ≠ 0) →
    (mapped s id = true) →
    Answers (.plv core w p) s fun r =>
      (r.hrt.cores.get core).run = some (setRd q w (readPoint s id s.tmb.now).value)) ∧
  (∀ (core : Nat) (w : Word) (p : RvRun) (x q : Run) (s : State), (RunsInsn s core w p 2 x q) →
    (bits w.toNat 31 25 = 0) →
    (bufferRoom q) →
    Answers (.pst core w p) s fun r =>
      (r.hrt.cores.get core).run.map (fun y => (y.staged, y.stampNext, y.xregs)) = some (q.staged ++ [.write ⟨bits (q.xregs.get (bits w.toNat 19 15)).toNat 24 0, q.xregs.get (bits w.toNat 24 20), some ((PType.ofCode (bits (q.xregs.get (bits w.toNat 19 15)).toNat 55 48)).getD .none), q.stampNext, BitVec.ofNat 16 (bits (q.xregs.get (bits w.toNat 19 15)).toNat 47 32), wCYC, q.desc.context % 32, false⟩], none, (setRd q w (stReg .ok)).xregs)) ∧
  (∀ (core : Nat) (w : Word) (p : RvRun) (x q : Run) (s : State), (RunsInsn s core w p 3 x q) →
    (bits w.toNat 31 20 = 0) →
    (bits w.toNat 11 7 = 0) →
    Answers (.stampset core w p) s fun r =>
      (r.hrt.cores.get core).run = some { q with stampNext := some (q.xregs.get (bits w.toNat 19 15)).toNat }) ∧
  (∀ (core : Nat) (w : Word) (p : RvRun) (x q : Run) (s : State), (RunsInsn s core w p 4 x q) →
    (bits w.toNat 31 25 < 4) →
    (bits w.toNat 24 15 = 0) →
    Answers (.trd core w p) s fun r =>
      (r.hrt.cores.get core).run = some (setRd q w (BitVec.ofNat 64 (if bits w.toNat 31 25 = 0 then s.tmb.now else if bits w.toNat 31 25 = 1 then (s.cyc.classes.get (q.desc.context % 32)).t0 else if bits w.toNat 31 25 = 2 then outputOf (s.cyc.classes.get (q.desc.context % 32)).info (s.cyc.classes.get (q.desc.context % 32)).t0 else curEpoch s)))) ∧
  (∀ (core : Nat) (w : Word) (p : RvRun) (x q : Run) (s : State), (RunsInsn s core w p 5 x q) →
    (bits w.toNat 31 25 = 0) →
    (lreqSources.contains (bits (q.xregs.get (bits w.toNat 24 20)).toNat 7 0) = false) →
    Answers (.lreq core w p) s fun r =>
      (r.hrt.cores.get core).run = some (setRd q w (stReg .badField))) ∧
  (∀ (core : Nat) (w : Word) (p : RvRun) (x q : Run) (src k o : Nat) (e : LqEntry) (s : State), (RunsInsn s core w p 5 x q) →
    (bits w.toNat 31 25 = 0) →
    ((q.xregs.get (bits w.toNat 24 20)).toNat = src + 256 * k) →
    (src = 2 ∨ src = 9 ∨ src = 12) →
    (lqKnown src k = true) →
    ((q.xregs.get (bits w.toNat 19 15)).toNat = scratchBase + o) →
    (o % 16 = 0) →
    (o + 16 ≤ scratchSize) →
    (lqParse (scratchGet q o 16) = some e) →
    (lqLegal s src k e [] [] = true) →
    (lqFull s src k [] (lqReserved s src k) = false) →
    (bufferRoom q) →
    Answers (.lreq core w p) s fun r =>
      (r.hrt.cores.get core).run.map (fun y => (y.staged, y.xregs)) = some (q.staged ++ [.launch src k e []], (setRd q w (stReg .ok)).xregs)) ∧
  (∀ (core : Nat) (w : Word) (p : RvRun) (x q : Run) (s : State), (RunsInsn s core w p 7 x q) →
    (bits w.toNat 31 25 = 0) →
    (0x8000 ≤ bits (q.xregs.get (bits w.toNat 19 15)).toNat 15 0) →
    (bufferRoom q) →
    Answers (.evt core w p) s fun r =>
      (r.hrt.cores.get core).run.map (fun y => (y.staged, y.xregs)) = some (q.staged ++ [.event (bits (q.xregs.get (bits w.toNat 19 15)).toNat 18 16) (bits (q.xregs.get (bits w.toNat 19 15)).toNat 15 0) (q.xregs.get (bits w.toNat 24 20)).toNat], (setRd q w (stReg .ok)).xregs))

/-- RECIPE_START of a step of a loaded or ended recipe whose context is free, with lead enough, sets the first boundary at its instant.
RECIPE_HOLD of a running recipe notes the hold, of a held one it is done at once. RECIPE_RELEASE of a held one sets a boundary into the held
step. RECIPE_ABORT notes the abort at its instant, not in the past. RECIPE_RESUME under REENTER_STEP that R269 accepts sets the boundary
under that policy. Where autostarts are allowed the instant of automatic resumes makes the Timeline reach it, and without AUTO_RESUME
nothing resumes. At the abort's instant a recipe with an abort step gets the boundary to it at that instant, one without ends ABORTED. -/
def Obligations.RecipeCommandsTakeEffect : Prop :=
  (∀ (h : Nat) (c : Cmd) (s : State), (canonical s) →
    (CanStart s h 0x31 c) →
    ((seqX s c.unit).state = .loaded ∨ (seqX s c.unit).state = .done ∨ (seqX s c.unit).state = .aborted) →
    ((seqX s c.unit).next = none) →
    (contextTaken s c.unit = false) →
    (c.arg < riSteps (seqImg (seqX s c.unit))) →
    (s.tmb.now + 200 ≤ seqInstant s c.unit c.instant) →
    Answers (.recipeStart h) s fun r =>
      (seqX r c.unit).next.map (fun b => (b.inst, b.step, b.entry, b.cmd)) = some (seqInstant s c.unit c.instant, some c.arg, 0, some h) ∧ running r h = true) ∧
  (∀ (h : Nat) (c : Cmd) (s : State), (canonical s) →
    (CanStart s h 0x32 c) →
    (seqFollower s c.unit = false) →
    ((seqX s c.unit).state = .running) →
    ((seqX s c.unit).hold = none) →
    Answers (.recipeHold h) s fun r =>
      (seqX r c.unit).hold = some (seqInstant s c.unit c.instant, some h) ∧ running r h = true) ∧
  (∀ (h : Nat) (c : Cmd) (s : State), (CanStart s h 0x32 c) →
    (seqFollower s c.unit = false) →
    ((seqX s c.unit).state = .held) →
    Answers (.recipeHold h) s fun r =>
      endStatus r h = some .ok ∧ endResult r h = some (seqX s c.unit).step) ∧
  (∀ (h : Nat) (c : Cmd) (s : State), (canonical s) →
    (CanStart s h 0x33 c) →
    (seqFollower s c.unit = false) →
    ((seqX s c.unit).state = .held) →
    (seqLimited s (seqX s c.unit) = false) →
    ((seqX s c.unit).next = none) →
    ((seqX s c.unit).abort = none) →
    ((seqX s c.unit).restored = false) →
    Answers (.recipeRelease h) s fun r =>
      (seqX r c.unit).next.map (fun b => (b.step, b.entry, b.cmd)) = some (some (seqX s c.unit).step, 4, some h) ∧ running r h = true) ∧
  (∀ (h : Nat) (c : Cmd) (s : State), (canonical s) →
    (CanStart s h 0x34 c) →
    (seqFollower s c.unit = false) →
    ((seqX s c.unit).abort = none) →
    ((seqX s c.unit).state = .running ∨ (seqX s c.unit).state = .held) →
    Answers (.recipeAbort h) s fun r =>
      (seqX r c.unit).abort.map (fun a => (a.inst, a.cmd)) = some (max (seqInstant s c.unit c.instant) s.tmb.now, some h) ∧ running r h = true) ∧
  (∀ (h : Nat) (c : Cmd) (s : State), (canonical s) →
    (CanStart s h 0x35 c) →
    ((resumeCheck s c.unit c.arg).toOption = some 2) →
    Answers (.recipeResume h) s fun r =>
      (seqX r c.unit).next.map (fun b => (b.step, b.policy, b.cmd)) = some (some (seqX s c.unit).step, 2, some h) ∧ running r h = true) ∧
  (∀ (t : Nat) (s : State), (autostarts s = true) →
    (programAutostarts s = false) →
    (s.cyc.autoStarting = false) →
    (flag s fSeqCtrlAutoResume = false) →
    Answers (.recipeAutoResume t) s fun r =>
      r.tmb.now = max s.tmb.now t ∧ r.seq = s.seq) ∧
  (∀ (t x : Nat) (e : Exec) (s : State), (autostarts s = true) →
    (programAutostarts s = false) →
    (s.cyc.autoStarting = false) →
    (flag s fSeqCtrlAutoResume = true) →
    (s.seq.exec.entries = [(x, e)]) →
    (canonical s) →
    (riFlag (seqImg e) 1 = true) →
    (e.next = none) →
    (e.abort = none) →
    ((resumeCheck (advance s t) x 0).toOption = some 2) →
    Answers (.recipeAutoResume t) s fun r =>
      (seqX r x).next.map (fun b => (b.step, b.policy, b.cmd)) = some (some e.step, 2, none) ∧ r.tmb.now = max s.tmb.now t) ∧
  (∀ (x fails : Nat) (a : AbortReq) (n : Nat) (s : State), (canonical s) →
    ((seqX s x).abort = some a) →
    (riAbort (seqImg (seqX s x)) = some n) →
    Answers (.recipeAbortInstant x fails) s fun r =>
      (seqX r x).next.map (fun b => (b.inst, b.step, b.entry, b.cmd)) = some (a.inst, some n, 5, a.cmd) ∧ (seqX r x).abort = none ∧ (seqX r x).ramps = [] ∧ (seqX r x).lq = [] ∧ r.tmb.now = max s.tmb.now a.inst) ∧
  (∀ (x fails : Nat) (a : AbortReq) (s : State), (canonical s) →
    ((seqX s x).abort = some a) →
    (riAbort (seqImg (seqX s x)) = none) →
    Answers (.recipeAbortInstant x fails) s fun r =>
      (seqX r x).state = .aborted ∧ (seqX r x).next = none ∧ (seqX r x).abort = none ∧ (seqX r x).ramps = [] ∧ r.tmb.now = max s.tmb.now a.inst)

/-- A prepared boundary launches at its instant or when its preparation ended: a running recipe enters its step there, with no step the
recipe ends DONE, and a hold due by then holds it in the new step. An offset group leaves the queue at its instant. A ramp's tick goes on to
the next, its last ends it. A condition met is decided, one not met is evaluated again 10 µs later; MAX_US without it decides the step
TIMEOUT_NEXT names. Modules that have not acknowledged by half the lead are lost to the boundary. A guarded boundary whose stations no
longer hold is dropped. A participant takes the boundary its owner sends, an acknowledgement takes its module off the wait, and a resume
message that fits sets the resume's boundary. -/
def Obligations.RecipeLaunchesTakeEffect : Prop :=
  (∀ (x fails n dn : Nat) (b : Bnd) (s : State), (canonical s) →
    ((seqX s x).state = .running) →
    ((seqX s x).next = some b) →
    (b.doneAt = some dn) →
    ((seqX s x).abort = none) →
    ((seqX s x).hold = none) →
    (Acts s) →
    (b.step = some n) →
    (b.policy = 0) →
    (b.entry ≠ 5) →
    Answers (.boundary x fails) s fun r =>
      (seqX r x).state = .running ∧ (seqX r x).step = n ∧ (seqX r x).b = max b.inst dn ∧ (seqX r x).launched = max b.inst dn) ∧
  (∀ (x fails dn : Nat) (b : Bnd) (s : State), (canonical s) →
    ((seqX s x).state = .running) →
    ((seqX s x).next = some b) →
    (b.doneAt = some dn) →
    ((seqX s x).abort = none) →
    (Acts s) →
    (b.step = none) →
    Answers (.boundary x fails) s fun r =>
      (seqX r x).state = .done ∧ (seqX r x).next = none ∧ (seqX r x).ramps = [] ∧ (seqX r x).launched = max b.inst dn) ∧
  (∀ (x fails n dn i : Nat) (b : Bnd) (cmd : Option Nat) (s : State), (canonical s) →
    ((seqX s x).state = .running) →
    ((seqX s x).next = some b) →
    (b.doneAt = some dn) →
    ((seqX s x).abort = none) →
    (seqX s x).hold = some (i, cmd) →
    (i ≤ b.inst) →
    (Acts s) →
    (b.step = some n) →
    Answers (.boundary x fails) s fun r =>
      (seqX r x).state = .held ∧ (seqX r x).step = n ∧ (seqX r x).next = none ∧ (seqX r x).hold = none ∧ (seqX r x).b = max b.inst dn) ∧
  (∀ (x t o : Nat) (l : List (Nat × Nat)) (s : State), (canonical s) →
    ((seqX s x).lq = (t, o) :: l) →
    ((seqX s x).next = none) →
    Answers (.offset x) s fun r =>
      (seqX r x).lq = l ∧ (seqX r x).step = (seqX s x).step) ∧
  (∀ (x i : Nat) (q : Ramp) (s : State), (canonical s) →
    ((seqX s x).ramps.find? (·.act == i) = some q) →
    (targetOk s q.id q.type.code = true) →
    (q.t0 + q.dur ≤ rampDue q) →
    Answers (.rampTick x i) s fun r =>
      (seqX r x).ramps = (seqX s x).ramps.filter (·.act != q.act) ∧ r.tmb.now = max s.tmb.now (rampDue q)) ∧
  (∀ (x i : Nat) (q : Ramp) (s : State), (canonical s) →
    ((seqX s x).ramps.find? (·.act == i) = some q) →
    (targetOk s q.id q.type.code = true) →
    (rampDue q < q.t0 + q.dur) →
    Answers (.rampTick x i) s fun r =>
      (seqX r x).ramps = (seqX s x).ramps.filter (·.act != q.act) ++ [{ q with k := q.k + 1 }] ∧ r.tmb.now = max s.tmb.now (rampDue q)) ∧
  (∀ (x : Nat) (since : Option Nat) (s : State), (canonical s) →
    ((seqX s x).state = .running ∨ (seqX s x).state = .aborting) →
    (seqFollower s x = false) →
    ((seqX s x).next = none) →
    (stEnd (riStep (seqImg (seqX s x)) (seqX s x).step) ≠ 0) →
    (stEnd (riStep (seqImg (seqX s x)) (seqX s x).step) ≠ 5) →
    (condEval (advance s (seqX s x).evalAt) (seqX s x) (seqX s x).evalAt = some (true, since)) →
    Answers (.conditionEvaluation x) s fun r =>
      (seqX r x).next.map (·.step) = some (nextStep (seqX s x)).1 ∧ r.tmb.now = max s.tmb.now (seqX s x).evalAt) ∧
  (∀ (x : Nat) (since : Option Nat) (s : State), (canonical s) →
    ((seqX s x).state = .running ∨ (seqX s x).state = .aborting) →
    (seqFollower s x = false) →
    ((seqX s x).next = none) →
    (stEnd (riStep (seqImg (seqX s x)) (seqX s x).step) ≠ 0) →
    (stEnd (riStep (seqImg (seqX s x)) (seqX s x).step) ≠ 5) →
    (condEval (advance s (seqX s x).evalAt) (seqX s x) (seqX s x).evalAt = some (false, since)) →
    Answers (.conditionEvaluation x) s fun r =>
      (seqX r x).next = none ∧ (seqX r x).evalAt = (seqX s x).evalAt + 10000 ∧ (seqX r x).settle = since ∧ r.tmb.now = max s.tmb.now (seqX s x).evalAt) ∧
  (∀ (x : Nat) (s : State), (canonical s) →
    ((seqX s x).state = .running ∨ (seqX s x).state = .aborting) →
    (seqFollower s x = false) →
    ((seqX s x).next = none) →
    ((seqX s x).abort = none) →
    (stEnd (riStep (seqImg (seqX s x)) (seqX s x).step) ≠ 0) →
    (stMax (riStep (seqImg (seqX s x)) (seqX s x).step) ≠ 0) →
    (stTimeout (riStep (seqImg (seqX s x)) (seqX s x).step) ≠ 0xFFFE) →
    Answers (.stepMaxTimeout x) s fun r =>
      (seqX r x).next.map (fun b => (b.step, b.entry)) = some (some (stTimeout (riStep (seqImg (seqX s x)) (seqX s x).step)), 3) ∧ r.tmb.now = max s.tmb.now ((seqX s x).b + stMax (riStep (seqImg (seqX s x)) (seqX s x).step))) ∧
  (∀ (x : Nat) (b : Bnd) (s : State), (canonical s) →
    ((seqX s x).next = some b) →
    ((seqX s x).abort = none) →
    (b.waiting ≠ []) →
    (riFlag (seqImg (seqX s x)) 2 = false) →
    Answers (.launchAckTimeout x) s fun r =>
      (seqX r x).next = some { b with waiting := [] } ∧ r.tmb.now = max s.tmb.now b.ackDue) ∧
  (∀ (x : Nat) (b : Bnd) (s : State), (canonical s) →
    ((seqX s x).next = some b) →
    (b.guarded = true) →
    (stationsHeld s (seqImg (seqX s x)) = false) →
    Answers (.resumePrecheck x) s fun r =>
      (seqX r x).next = none ∧ r.tmb.now = max s.tmb.now (b.inst - 10000)) ∧
  (∀ (p t x n : Nat) (b m : Bytes) (s : State), (canonical s) →
    (Receives s p clsLAUNCH 1 b t) →
    (m = (wParse b).payload) →
    (x = le m 0 2) →
    (n = le m 2 2) →
    (x < 64) →
    (seqFollower s x = true) →
    ((seqX s x).image ≠ none) →
    (n < riSteps (seqImg (seqX s x))) →
    Answers (.launchBoundaryRx p b t) s fun r =>
      (seqX r x).next.map (·.step) = some (some n)) ∧
  (∀ (p t x : Nat) (b m : Bytes) (a : Bnd) (s : State), (canonical s) →
    (Receives s p clsLAUNCH 2 b t) →
    (m = (wParse b).payload) →
    (x = le m 0 2) →
    (x < 64) →
    ((seqX s x).next = some a) →
    (a.policy = 0) →
    Answers (.launchAckRx p b t) s fun r =>
      (seqX r x).next = some { a with waiting := a.waiting.filter (· != (wParse b).src) } ∧ r.tmb.now = max s.tmb.now t) ∧
  (∀ (p t x : Nat) (b m : Bytes) (s : State), (canonical s) →
    (Receives s p clsLAUNCH 3 b t) →
    (m = (wParse b).payload) →
    (x = le m 0 2) →
    (x < 64) →
    (seqFollower s x = true) →
    ((seqX s x).image ≠ none) →
    (riId (seqImg (seqX s x)) = le m 16 8) →
    ((resumeCheck (advance s t) x (le m 2 1)).toOption = some 2) →
    Answers (.launchResumeRx p b t) s fun r =>
      (seqX r x).next.map (fun a => (a.step, a.policy)) = some (some (seqX s x).step, 2))

/-- On a core whose routine of a code block has a cycle left and whose next word is the instruction, with both moves allowed, a class A
operation leaves in AD, seen by class A readers one cycle later, the exact result wrapped to 56 bits, and two cycles later the flags of the
exact result; CMP leaves flags only. The routine has used one cycle more. NOP with no move leaves every register as it stood in that cycle,
and a Left load of a NOP is in its X register two cycles after issue. -/
def Obligations.AnvilClassAComputes : Prop :=
  (∀ (c w : Nat) (x : AnvRun) (v : Int) (s : State), (AnvRuns s c x w 0 1 1) →
    ((moveOk x 0 (moveOf (bits w 17 9)) && moveOk x 1 (moveOf (bits w 8 0))) = true) →
    (v = 2 * op24 (regRd x (bits w 23 21) x.used false) * op24 (regRd x (bits w 20 18) x.used false)) →
    Answers (.mpy c) s fun r =>
      anvUsed r c = some (x.used + 1) ∧ anvSees r c (kA + bits w 25 24) 0 true = wrap56 v ∧ anvSees r c kZ 1 false = flagsOf v) ∧
  (∀ (c w : Nat) (x : AnvRun) (v : Int) (s : State), (AnvRuns s c x w 0 2 1) →
    ((moveOk x 0 (moveOf (bits w 17 9)) && moveOk x 1 (moveOf (bits w 8 0))) = true) →
    (v = accInt (regRd x (kA + bits w 25 24) x.used true) + 2 * op24 (regRd x (bits w 23 21) x.used false) * op24 (regRd x (bits w 20 18) x.used false)) →
    Answers (.mac c) s fun r =>
      anvUsed r c = some (x.used + 1) ∧ anvSees r c (kA + bits w 25 24) 0 true = wrap56 v ∧ anvSees r c kZ 1 false = flagsOf v) ∧
  (∀ (c w : Nat) (x : AnvRun) (v : Int) (s : State), (AnvRuns s c x w 0 3 1) →
    ((moveOk x 0 (moveOf (bits w 17 9)) && moveOk x 1 (moveOf (bits w 8 0))) = true) →
    (v = accInt (regRd x (kA + bits w 25 24) x.used true) - 2 * op24 (regRd x (bits w 23 21) x.used false) * op24 (regRd x (bits w 20 18) x.used false)) →
    Answers (.msu c) s fun r =>
      anvUsed r c = some (x.used + 1) ∧ anvSees r c (kA + bits w 25 24) 0 true = wrap56 v ∧ anvSees r c kZ 1 false = flagsOf v) ∧
  (∀ (c w : Nat) (x : AnvRun) (v : Int) (s : State), (AnvRuns s c x w 0 4 1) →
    ((moveOk x 0 (moveOf (bits w 17 9)) && moveOk x 1 (moveOf (bits w 8 0))) = true) →
    (v = op24 (regRd x (bits w 23 21) x.used false) * 2 ^ 24) →
    Answers (.lda c) s fun r =>
      anvUsed r c = some (x.used + 1) ∧ anvSees r c (kA + bits w 25 24) 0 true = wrap56 v ∧ anvSees r c kZ 1 false = flagsOf v) ∧
  (∀ (c w : Nat) (x : AnvRun) (v : Int) (s : State), (AnvRuns s c x w 0 5 1) →
    ((moveOk x 0 (moveOf (bits w 17 9)) && moveOk x 1 (moveOf (bits w 8 0))) = true) →
    (v = accInt (regRd x (kA + bits w 25 24) x.used true) + op24 (regRd x (bits w 23 21) x.used false) * 2 ^ 24) →
    Answers (.add c) s fun r =>
      anvUsed r c = some (x.used + 1) ∧ anvSees r c (kA + bits w 25 24) 0 true = wrap56 v ∧ anvSees r c kZ 1 false = flagsOf v) ∧
  (∀ (c w : Nat) (x : AnvRun) (v : Int) (s : State), (AnvRuns s c x w 0 6 1) →
    ((moveOk x 0 (moveOf (bits w 17 9)) && moveOk x 1 (moveOf (bits w 8 0))) = true) →
    (v = accInt (regRd x (kA + bits w 25 24) x.used true) - op24 (regRd x (bits w 23 21) x.used false) * 2 ^ 24) →
    Answers (.sub c) s fun r =>
      anvUsed r c = some (x.used + 1) ∧ anvSees r c (kA + bits w 25 24) 0 true = wrap56 v ∧ anvSees r c kZ 1 false = flagsOf v) ∧
  (∀ (c w : Nat) (x : AnvRun) (v : Int) (s : State), (AnvRuns s c x w 0 7 1) →
    ((moveOk x 0 (moveOf (bits w 17 9)) && moveOk x 1 (moveOf (bits w 8 0))) = true) →
    (v = accInt (regRd x (kA + bits w 25 24) x.used true) + accInt (regRd x (kA + bits w 22 21) x.used true)) →
    Answers (.adda c) s fun r =>
      anvUsed r c = some (x.used + 1) ∧ anvSees r c (kA + bits w 25 24) 0 true = wrap56 v ∧ anvSees r c kZ 1 false = flagsOf v) ∧
  (∀ (c w : Nat) (x : AnvRun) (v : Int) (s : State), (AnvRuns s c x w 0 8 1) →
    ((moveOk x 0 (moveOf (bits w 17 9)) && moveOk x 1 (moveOf (bits w 8 0))) = true) →
    (v = accInt (regRd x (kA + bits w 25 24) x.used true) - accInt (regRd x (kA + bits w 22 21) x.used true)) →
    Answers (.suba c) s fun r =>
      anvUsed r c = some (x.used + 1) ∧ anvSees r c (kA + bits w 25 24) 0 true = wrap56 v ∧ anvSees r c kZ 1 false = flagsOf v) ∧
  (∀ (c w : Nat) (x : AnvRun) (v : Int) (s : State), (AnvRuns s c x w 0 9 1) →
    ((moveOk x 0 (moveOf (bits w 17 9)) && moveOk x 1 (moveOf (bits w 8 0))) = true) →
    (v = 0) →
    Answers (.clr c) s fun r =>
      anvUsed r c = some (x.used + 1) ∧ anvSees r c (kA + bits w 25 24) 0 true = wrap56 v ∧ anvSees r c kZ 1 false = flagsOf v) ∧
  (∀ (c w : Nat) (x : AnvRun) (v : Int) (s : State), (AnvRuns s c x w 0 10 1) →
    ((moveOk x 0 (moveOf (bits w 17 9)) && moveOk x 1 (moveOf (bits w 8 0))) = true) →
    (v = -accInt (regRd x (kA + bits w 25 24) x.used true)) →
    Answers (.neg c) s fun r =>
      anvUsed r c = some (x.used + 1) ∧ anvSees r c (kA + bits w 25 24) 0 true = wrap56 v ∧ anvSees r c kZ 1 false = flagsOf v) ∧
  (∀ (c w : Nat) (x : AnvRun) (v : Int) (s : State), (AnvRuns s c x w 0 11 1) →
    ((moveOk x 0 (moveOf (bits w 17 9)) && moveOk x 1 (moveOf (bits w 8 0))) = true) →
    (v = if accInt (regRd x (kA + bits w 25 24) x.used true) < 0 then -accInt (regRd x (kA + bits w 25 24) x.used true) else accInt (regRd x (kA + bits w 25 24) x.used true)) →
    Answers (.abs c) s fun r =>
      anvUsed r c = some (x.used + 1) ∧ anvSees r c (kA + bits w 25 24) 0 true = wrap56 v ∧ anvSees r c kZ 1 false = flagsOf v) ∧
  (∀ (c w : Nat) (x : AnvRun) (v : Int) (s : State), (AnvRuns s c x w 0 12 1) →
    ((moveOk x 0 (moveOf (bits w 17 9)) && moveOk x 1 (moveOf (bits w 8 0))) = true) →
    (v = accInt (regRd x (kA + bits w 25 24) x.used true) - op24 (regRd x (bits w 23 21) x.used false) * 2 ^ 24) →
    Answers (.cmp c) s fun r =>
      anvUsed r c = some (x.used + 1) ∧ anvSees r c (kA + bits w 25 24) 0 true = regRd x (kA + bits w 25 24) (x.used + 1) true ∧ anvSees r c kZ 1 false = flagsOf v) ∧
  (∀ (c w k : Nat) (x : AnvRun) (s : State), (AnvRuns s c x w 0 0 1) →
    ((moveOf (bits w 17 9)).kind = 0) →
    ((moveOf (bits w 8 0)).kind = 0) →
    Answers (.anvNop c) s fun r =>
      anvUsed r c = some (x.used + 1) ∧ anvSees r c k 0 false = regRd x k (x.used + 1) false) ∧
  (∀ (c w : Nat) (x : AnvRun) (l : AnvMove) (s : State), (AnvRuns s c x w 0 0 1) →
    (l = moveOf (bits w 17 9)) →
    (l.kind = 1) →
    (moveOk x 0 l = true) →
    ((moveOf (bits w 8 0)).kind = 0) →
    Answers (.anvNop c) s fun r =>
      anvUsed r c = some (x.used + 1) ∧ anvSees r c (kX + l.reg) 1 false = memRd (anvC s c) x 0 (moveAddr x 0 l) x.used)

/-- On a core whose routine of a code block has the cycles left and whose next word is the instruction: LDX, LDY, MOV to X or Y, SCALE and
CLRF are seen one cycle later, MOVA, MOVAL, ASH, SHA, NORM and EXP two cycles later, LDP and MOV to a pointer, step or mode register three
cycles later, with the values R288, R289, R292, R293 and R294 give. JMP, CALL, RET and a JCC whose condition holds put their target behind
two delay slots; a JCC whose condition does not hold goes on; CALL and RET push and pop the return address; DO begins its passes. -/
def Obligations.AnvilClassBComputes : Prop :=
  (∀ (c w : Nat) (x : AnvRun) (s : State), (AnvRuns s c x w 1 0 1) →
    Answers (.ldx c) s fun r =>
      anvUsed r c = some (x.used + 1) ∧ anvSees r c (kX + bits w 25 24) 0 false = bits w 23 0) ∧
  (∀ (c w : Nat) (x : AnvRun) (s : State), (AnvRuns s c x w 1 1 1) →
    Answers (.ldy c) s fun r =>
      anvUsed r c = some (x.used + 1) ∧ anvSees r c (kY + bits w 25 24) 0 false = bits w 23 0) ∧
  (∀ (c w : Nat) (x : AnvRun) (p : AnvPlace) (s : State), (AnvRuns s c x w 1 2 1) →
    (x.place = some p) →
    Answers (.ldp c) s fun r =>
      anvUsed r c = some (x.used + 1) ∧ anvSees r c (kP + bits w 25 21) 2 false = (if bit w 20 then (bits w 15 0 + (if bits w 25 21 < 4 then p.lbase else p.rbase)) % 32768 else bits w 15 0)) ∧
  (∀ (c w : Nat) (x : AnvRun) (s : State), (AnvRuns s c x w 1 3 1) →
    (bits w 25 21 < 8) →
    Answers (.mov c) s fun r =>
      anvUsed r c = some (x.used + 1) ∧ anvSees r c (bits w 25 21) 0 false = unsigned 24 (movValue (bits w 20 16) (regRd x (bits w 20 16) x.used false))) ∧
  (∀ (c w : Nat) (x : AnvRun) (s : State), (AnvRuns s c x w 1 3 1) →
    (8 ≤ bits w 25 21) →
    Answers (.mov c) s fun r =>
      anvUsed r c = some (x.used + 1) ∧ anvSees r c (bits w 25 21) 2 false = unsigned (if bits w 25 21 < 16 then 15 else 16) (movValue (bits w 20 16) (regRd x (bits w 20 16) x.used false))) ∧
  (∀ (c w : Nat) (x : AnvRun) (s : State), (AnvRuns s c x w 1 4 1) →
    Answers (.mova c) s fun r =>
      anvUsed r c = some (x.used + 1) ∧ anvSees r c (bits w 23 21) 1 false = (moveOut (regRd x (kA + bits w 25 24) x.used false) (signed 3 (regRd x kSC x.used false))).1) ∧
  (∀ (c w : Nat) (x : AnvRun) (s : State), (AnvRuns s c x w 1 5 1) →
    Answers (.moval c) s fun r =>
      anvUsed r c = some (x.used + 1) ∧ anvSees r c (bits w 23 21) 1 false = (regRd x (kA + bits w 25 24) x.used false) % 2 ^ 24) ∧
  (∀ (c w : Nat) (x : AnvRun) (v : Int) (s : State), (AnvRuns s c x w 1 6 1) →
    (v = shiftInt (accInt (regRd x (kA + bits w 25 24) x.used false)) (signed 7 (bits w 6 0))) →
    Answers (.ash c) s fun r =>
      anvUsed r c = some (x.used + 1) ∧ anvSees r c (kA + bits w 25 24) 1 false = wrap56 v ∧ anvSees r c kZ 1 false = flagsOf v) ∧
  (∀ (c w : Nat) (x : AnvRun) (v : Int) (s : State), (AnvRuns s c x w 1 7 1) →
    (v = shiftInt (accInt (regRd x (kA + bits w 25 24) x.used false)) (clampI (-56) 55 (op24 (regRd x (bits w 23 21) x.used false)))) →
    Answers (.sha c) s fun r =>
      anvUsed r c = some (x.used + 1) ∧ anvSees r c (kA + bits w 25 24) 1 false = wrap56 v ∧ anvSees r c kZ 1 false = flagsOf v) ∧
  (∀ (c w : Nat) (x : AnvRun) (v : Int) (s : State), (AnvRuns s c x w 1 8 1) →
    (v = shiftInt (accInt (regRd x (kA + bits w 25 24) x.used false)) (expOf (regRd x (kA + bits w 25 24) x.used false))) →
    Answers (.norm c) s fun r =>
      anvUsed r c = some (x.used + 1) ∧ anvSees r c (kA + bits w 25 24) 1 false = wrap56 v ∧ anvSees r c (bits w 23 21) 1 false = unsigned 24 (expOf (regRd x (kA + bits w 25 24) x.used false)) ∧ anvSees r c kZ 1 false = flagsOf v) ∧
  (∀ (c w : Nat) (x : AnvRun) (s : State), (AnvRuns s c x w 1 9 1) →
    Answers (.exp c) s fun r =>
      anvUsed r c = some (x.used + 1) ∧ anvSees r c (bits w 23 21) 1 false = unsigned 24 (expOf (regRd x (kA + bits w 25 24) x.used false))) ∧
  (∀ (c w : Nat) (x : AnvRun) (s : State), (AnvRuns s c x w 1 10 1) →
    (x.br = none) →
    Answers (.jmp c) s fun r =>
      anvUsed r c = some (x.used + 1) ∧ (anvC r c).run.map (·.br) = some (some (bits w 13 0, 2))) ∧
  (∀ (c w : Nat) (x : AnvRun) (s : State), (AnvRuns s c x w 1 11 1) →
    (x.br = none) →
    (anvCond x (bits w 25 22) = true) →
    Answers (.jcc c) s fun r =>
      anvUsed r c = some (x.used + 1) ∧ (anvC r c).run.map (·.br) = some (some (bits w 13 0, 2))) ∧
  (∀ (c w : Nat) (x : AnvRun) (s : State), (AnvRuns s c x w 1 11 1) →
    (x.br = none) →
    (anvCond x (bits w 25 22) = false) →
    Answers (.jcc c) s fun r =>
      anvUsed r c = some (x.used + 1) ∧ (anvC r c).run.map (·.br) = some none) ∧
  (∀ (c w : Nat) (x : AnvRun) (s : State), (AnvRuns s c x w 1 12 1) →
    (x.br = none) →
    Answers (.call c) s fun r =>
      anvUsed r c = some (x.used + 1) ∧ (anvC r c).run.map (fun y => (y.br, y.rets)) = some (some (bits w 13 0, 2), (x.pc + 3) :: x.rets)) ∧
  (∀ (c w : Nat) (x : AnvRun) (a : Nat) (l : List Nat) (s : State), (AnvRuns s c x w 1 13 1) →
    (x.br = none) →
    (x.rets = a :: l) →
    Answers (.ret c) s fun r =>
      anvUsed r c = some (x.used + 1) ∧ (anvC r c).run.map (fun y => (y.br, y.rets)) = some (some (a, 2), l)) ∧
  (∀ (c w : Nat) (x : AnvRun) (s : State), (AnvRuns s c x w 1 14 1) →
    Answers (.doLoop c) s fun r =>
      anvUsed r c = some (x.used + 1) ∧ (anvC r c).run.map (fun y => y.dos.head?) = some (some ⟨x.pc + 1, bits w 13 0, bits w 25 14 + 1⟩)) ∧
  (∀ (c w : Nat) (x : AnvRun) (s : State), (AnvRuns s c x w 1 16 1) →
    Answers (.clrf c) s fun r =>
      anvUsed r c = some (x.used + 1) ∧ anvSees r c kLS 0 false = (if bit w 0 then 0 else regRd x kLS (x.used + 1) false) ∧ anvSees r c kVS 0 false = (if bit w 1 then 0 else regRd x kVS (x.used + 1) false)) ∧
  (∀ (c w : Nat) (x : AnvRun) (s : State), (AnvRuns s c x w 1 17 1) →
    Answers (.scale c) s fun r =>
      anvUsed r c = some (x.used + 1) ∧ anvSees r c kSC 0 false = bits w 2 0)

/-- A tick at the head of a free core starts its loop's routine, no sooner than its instant and the core allow. END of a code block with its
three cycles left, or of a standard law, ends the routine there; the law's state steps. A routine that has used its budget stops with cause
OVERRUN and an uncorrectable data word with its own cause and the word rewritten as 0. A core that fails its compare retires with its
routine and pending ticks. ANV_MEM_SEL reads a program word of the store into ANV_MEM_DATA and refuses space 3. -/
def Obligations.AnvilRoutinesTakeEffect : Prop :=
  (∀ (c ps t0 k n : Nat) (l : List (Nat × Nat × Nat)) (s : State), ((anvC s c).run = none) →
    ((anvC s c).pend = (t0, k, n) :: l) →
    ((anvC s c).retired = false) →
    (tickLead ≤ ps) →
    ((anvC s c).freePs ≤ t0 * 1000 + ps) →
    ((loopOf s n).desc ≠ none) →
    Answers (.anvilTickSwap c ps) s fun r =>
      (anvC r c).run.map (fun y => (y.slot, y.loop, y.t0, y.startPs, y.used)) = some (k, n, t0, t0 * 1000 + ps, 0) ∧ (anvC r c).pend = l ∧ r.tmb.now = max s.tmb.now ((t0 * 1000 + ps) / 1000)) ∧
  (∀ (c w : Nat) (x : AnvRun) (s : State), (canonical s) →
    (AnvRuns s c x w 1 15 3) →
    Answers (.endRoutine c) s fun r =>
      (anvC r c).run = none ∧ r.tmb.now = max s.tmb.now (cycleNs x (x.used + 3))) ∧
  (∀ (c : Nat) (x : AnvRun) (y : LoopSample) (s : State), (canonical s) →
    ((anvC s c).run = some x) →
    (x.place = none) →
    ((loopOf s x.loop).open'.find? (·.t0 == x.t0) = some y) →
    ((loopOf s x.loop).preset = false) →
    Answers (.endRoutine c) s fun r =>
      (anvC r c).run = none ∧ r.tmb.now = max s.tmb.now (cycleNs x x.budget) ∧ (loopOf r x.loop).law = (lawStep (ldesc (loopOf s x.loop)) (loopOf s x.loop).law (loopOf s x.loop).mode (loopOf s x.loop).hold (loopOf s x.loop).man y.ins y.inj (le (loopOf s x.loop).tune.req 1 1 == 0)).st) ∧
  (∀ (c : Nat) (x : AnvRun) (s : State), ((anvC s c).run = some x) →
    (x.place ≠ none) →
    (x.budget < x.used + 1) →
    Answers (.routineOverrun c) s fun r =>
      (anvC r c).run = none ∧ (anvC r c).faultCause = 1 ∧ (anvC r c).faultSlot = x.slot) ∧
  (∀ (c addr t : Nat) (x : AnvRun) (s : State), (canonical s) →
    ((anvC s c).run = some x) →
    ((anvC s c).left.wf = true) →
    Answers (.anvilEccRewrite c 1 addr t) s fun r =>
      (anvC r c).run = none ∧ (anvC r c).faultCause = 4 ∧ (anvC r c).faultAddr = addr ∧ (anvC r c).left.get addr = 0 ∧ r.tmb.now = max s.tmb.now t) ∧
  (∀ (c t : Nat) (s : State), (canonical s) →
    (c < 64) →
    ((anvC s c).retired = false) →
    Answers (.anvilCoreMismatch c t) s fun r =>
      (anvC r c).retired = true ∧ (anvC r c).run = none ∧ (anvC r c).pend = [] ∧ r.tmb.now = max s.tmb.now t) ∧
  (∀ (v : Word) (s : State), (windowOpen s 8 = true) →
    ((anvC s (bits v.toNat 5 0)).retired = false) →
    (bits v.toNat 7 6 = 0) →
    (bits v.toNat 22 8 < 0x4000) →
    Answers (.anvMemRead v) s fun r =>
      r.anv.memData = (anvC s (bits v.toNat 5 0)).pmem.get (bits v.toNat 22 8) ∧ r.anv.memDone = true ∧ r.anv.memStatus = .ok) ∧
  (∀ (v : Word) (s : State), (windowOpen s 8 = true) →
    ((anvC s (bits v.toNat 5 0)).retired = false) →
    (bits v.toNat 7 6 = 3) →
    Answers (.anvMemRead v) s fun r =>
      r.anv.memDone = true ∧ r.anv.memStatus = .range)

/-- LOOP_LOAD of a descriptor that passes every check puts it into an empty slot, or lets it wait for a loaded one, and ends with OK; LAW
NONE lets a loaded loop unload. LOOP_MODE of a loaded slot queues the request for its instant. LOOP_TUNE that passes its checks starts
recording. LOOP_TUNE_READ of a finished test writes its result record and ends with OK. LOOP_TUNE_APPLY of a good result waits for its
instant. After READY the loop of a PERSIST descriptor of a standard law starts in its boot slot. -/
def Obligations.LoopCommandsTakeEffect : Prop :=
  (∀ (h core slot : Nat) (c : Cmd) (d : Bytes) (p : Option AnvPlace) (s : State), (canonical s) →
    (CanStart s h 0x38 c) →
    (tuneRuns (loopOf s c.unit) = false) →
    (ldLaw d ≠ 0) →
    ((loopOf s c.unit).desc = none) →
    (loopAdmit s c.unit d).toOption = some (core, slot, p) →
    Answers (.loopLoad h (some d)) s fun r =>
      (loopOf r c.unit).desc = some d ∧ (loopOf r c.unit).core = core ∧ (loopOf r c.unit).slot = slot ∧ (loopOf r c.unit).mode = modeOf (ldInitMode d) ∧ endStatus r h = some .ok) ∧
  (∀ (h core slot : Nat) (c : Cmd) (d : Bytes) (p : Option AnvPlace) (s : State), (canonical s) →
    (CanStart s h 0x38 c) →
    (tuneRuns (loopOf s c.unit) = false) →
    (ldLaw d ≠ 0) →
    ((loopOf s c.unit).desc ≠ none) →
    (loopAdmit s c.unit d).toOption = some (core, slot, p) →
    Answers (.loopLoad h (some d)) s fun r =>
      (loopOf r c.unit).next = some ⟨d, core, slot, p, s.tmb.now + 20000⟩ ∧ (loopOf r c.unit).desc = (loopOf s c.unit).desc ∧ endStatus r h = some .ok) ∧
  (∀ (h : Nat) (c : Cmd) (d : Bytes) (s : State), (canonical s) →
    (CanStart s h 0x38 c) →
    (tuneRuns (loopOf s c.unit) = false) →
    (ldLaw d = 0) →
    (unloadCheck d = none) →
    Answers (.loopLoad h (some d)) s fun r =>
      (loopOf r c.unit).unload = (loopOf s c.unit).desc.isSome ∧ (loopOf r c.unit).next = none ∧ endStatus r h = some .ok) ∧
  (∀ (h : Nat) (c : Cmd) (s : State), (canonical s) →
    (CanStart s h 0x39 c) →
    ((loopOf s c.unit).desc ≠ none) →
    (c.arg < 3) →
    (c.arg ≠ 2 ∨ ldHasCas (ldesc (loopOf s c.unit)) = true) →
    Answers (.loopMode h) s fun r =>
      (loopOf r c.unit).reqs = (loopOf s c.unit).reqs ++ [⟨some (modeOf c.arg), if bit c.arg2 31 then some (signed 24 c.arg2) else none, max c.instant s.tmb.now, some h⟩] ∧ running r h = true) ∧
  (∀ (h : Nat) (c : Cmd) (q : Bytes) (l : Loop) (s : State), (canonical s) →
    (CanStart s h 0x3A c) →
    (l = loopOf s c.unit) →
    (tuneRuns l = false) →
    (l.desc ≠ none) →
    (l.hold = false) →
    (if le q 1 1 = 0 then l.mode ≠ .man else l.mode ≠ .cas) →
    (tuneField q (ldTs (ldesc l)) = none) →
    (recorderFree s (le q 3 1) (le q 8 4 + signalLen q (ldTs (ldesc l)) + le q 12 4) = true) →
    (admissible ((loopCost (ldesc l) (tuneCost q), ldPeriod (ldesc l), ldDelay (ldesc l)) :: (coreLoops s l.core c.unit).map (·.2)) = true) →
    Answers (.loopTune h (some q)) s fun r =>
      (loopOf r c.unit).tune.state = .recording ∧ (loopOf r c.unit).tune.req = q ∧ (loopOf r c.unit).tune.cmd = some h ∧ running r h = true) ∧
  (∀ (h : Nat) (c : Cmd) (s : State), (CanStart s h 0x3B c) →
    ((loopOf s c.unit).tune.state = .result) →
    Answers (.loopTuneRead h) s fun r =>
      r.out = s.out ++ [.host c.dataAddr (tuneBytes ((loopOf s c.unit).tune.res.getD default))] ∧ endStatus r h = some .ok) ∧
  (∀ (h : Nat) (c : Cmd) (t : TuneResult) (s : State), (canonical s) →
    (CanStart s h 0x3C c) →
    ((loopOf s c.unit).tune.state = .result) →
    ((loopOf s c.unit).tune.res = some t) →
    (t.reason = 0) →
    Answers (.loopTuneApply h) s fun r =>
      (loopOf r c.unit).tune.applied = some (max c.instant s.tmb.now, some h) ∧ running r h = true) ∧
  (∀ (n t bad k : Nat) (d : Bytes) (s : State), (canonical s) →
    (autostarts s = true) →
    ((loopOf s n).desc = none) →
    (s.hdl.boot.loops.get n = some d) →
    (ldLaw d ≠ 0x80) →
    (ldOpt d 3 = false) →
    (placeOn (advance s t) (ldHome d) n d 0 = some k) →
    Answers (.loopPersistStart n t bad) s fun r =>
      (loopOf r n).desc = some d ∧ (loopOf r n).core = ldHome d ∧ (loopOf r n).slot = k ∧ r.tmb.now = max s.tmb.now t)

/-- A loop with no descriptor waiting takes a sample at its instant: the count goes up, and the sample's instant is kept. A loop to be
unloaded is empty from there. An output launch takes its sample off the loop at its delay and 100 ns. The 1 ms copy and the 1 ms journal
record of a loop are those of its last sample. A fit that ends leaves the result that R347's fit gives. -/
def Obligations.LoopLaunchesTakeEffect : Prop :=
  (∀ (n : Nat) (s : State), (canonical s) →
    ((loopOf s n).desc ≠ none) →
    ((loopOf s n).unload = false) →
    ((loopOf s n).next = none) →
    Answers (.loopSampleLaunch n) s fun r =>
      (loopOf r n).samples = (loopOf s n).samples + 1 ∧ (loopOf r n).lastT0 = (loopOf s n).due ∧ (loopOf r n).transfer = false ∧ r.tmb.now = max s.tmb.now (loopOf s n).due) ∧
  (∀ (n : Nat) (s : State), (canonical s) →
    ((loopOf s n).desc ≠ none) →
    ((loopOf s n).unload = true) →
    Answers (.loopSampleLaunch n) s fun r =>
      (loopOf r n).desc = none ∧ r.tmb.now = max s.tmb.now (loopOf s n).due) ∧
  (∀ (n : Nat) (x : LoopSample) (l : List LoopSample) (s : State), (canonical s) →
    ((loopOf s n).open' = x :: l) →
    Answers (.loopOutputLaunch n) s fun r =>
      (loopOf r n).open'.length = l.length ∧ r.tmb.now = max s.tmb.now (x.t0 + ldDelay (ldesc (loopOf s n)) + 100)) ∧
  (∀ (t n : Nat) (s : State), (canonical s) →
    ((loopOf s n).desc ≠ none) →
    ((loopOf s n).coreLost = false) →
    Answers (.loopStateCopy t) s fun r =>
      (loopOf r n).copy.map (fun v => (v.at', v.mode, v.law)) = some ((loopOf s n).lastT0, (loopOf s n).mode, (loopOf s n).law) ∧ r.tmb.now = max s.tmb.now t) ∧
  (∀ (t n : Nat) (s : State), (canonical s) →
    ((loopOf s n).desc ≠ none) →
    (ldOpt (ldesc (loopOf s n)) 3 = true) →
    Answers (.loopJournalWrite t) s fun r =>
      (r.mram.journal.get n).head?.map (fun v => (v.at', v.mode, v.law)) = some ((loopOf s n).lastT0, (loopOf s n).mode, (loopOf s n).law) ∧ r.tmb.now = max s.tmb.now t) ∧
  (∀ (n t : Nat) (s : State), (canonical s) →
    ((loopOf s n).tune.state = .fitting) →
    Answers (.tuneFitDone n t) s fun r =>
      (loopOf r n).tune.res = some (tuneFit (ldesc (loopOf s n)) (loopOf s n).tune.req (loopOf s n).tune.recs) ∧ (loopOf r n).tune.recs = [] ∧ r.tmb.now = max s.tmb.now t)

/-- CNV_CONFIG of one group that passes its checks awaits the boundary, and takes effect there. With the clock, no foreground run and slices
at work: a Burst result goes into the group's entry and the sixteenth releases it, newest first; a pass starts on every idle slice; a Scan
result is released at once and the slice goes on to its next entry or ends the pass; a calibration due runs at the end of the pass. A
background update gives each running group that is neither held nor without an estimate the new generation. A deferral that expires updates
its group. More than 5 °C since the last update makes Temper stale. A failed slice is removed; its Burst group resumes on the healthy ones 2
µs later. Without the conversion clock every group stops. -/
def Obligations.ConverterCommandsTakeEffect : Prop :=
  (∀ (h : Nat) (c : Cmd) (d : Bytes) (s : State), (canonical s) →
    (CanStart s h 0x48 c) →
    (c.unit ≠ 4) →
    (cnvCheck s c.unit d = none) →
    Answers (.cnvConfig h (some d)) s fun r =>
      (cnvG r c.unit).next = some (cnvParse d, h, false) ∧ (cnvG r c.unit).cfg = (cnvG s c.unit).cfg ∧ running r h = true) ∧
  (∀ (g t h : Nat) (c : CnvCfg) (s : State), (canonical s) →
    (cnvG s g).next = some (c, h, false) →
    (atBoundary s g = true) →
    Answers (.cnvConfigBoundary g t) s fun r =>
      (cnvG r g).cfg = c ∧ (cnvG r g).next = none ∧ (cnvG r g).gapNext = true ∧ (cnvG r g).queue = (cnvG s g).queue ∧ r.tmb.now = max s.tmb.now t) ∧
  (∀ (g q t : Nat) (cs : List Int) (ovr : Bool) (s : State), (canonical s) →
    (cnvRuns s g = true) →
    (isBurst (cnvG s g).cfg.mode = true) →
    (cs.length = (cnvG s g).cfg.avg) →
    ((cnvG s g).fill = none) →
    Answers (.cnvResultFormed g cs ovr q t) s fun r =>
      (cnvG r g).fill.map (·.results) = some [(q, (burstResult cs (cnvG s g).cfg.shift).1)] ∧ (cnvG r g).results = (cnvG s g).results + 1 ∧ r.tmb.now = max s.tmb.now t) ∧
  (∀ (g q t : Nat) (cs : List Int) (ovr : Bool) (e : QEntry) (s : State), (canonical s) →
    (cnvRuns s g = true) →
    (isBurst (cnvG s g).cfg.mode = true) →
    (cs.length = (cnvG s g).cfg.avg) →
    ((cnvG s g).fill = some e) →
    (e.results.length = 15) →
    Answers (.cnvResultFormed g cs ovr q t) s fun r =>
      (cnvG r g).fill = none ∧ (cnvG r g).queue.head?.map (·.results) = some (e.results ++ [(q, (burstResult cs (cnvG s g).cfg.shift).1)]) ∧ (cnvG r g).results = (cnvG s g).results + 1) ∧
  (∀ (g t n : Nat) (s : State), (canonical s) →
    (cnvRuns s g = true) →
    ((cnvG s g).cfg.mode = 3) →
    ((cnvG s g).next = none) →
    (n ∈ (cnvG s g).slices) →
    ((cnvS s n).at' = none) →
    Answers (.scanPassStart g t) s fun r =>
      (cnvS r n).at' = some 0 ∧ r.tmb.now = max s.tmb.now t) ∧
  (∀ (n q t i : Nat) (c : Int) (ovr : Bool) (e : SeqEntry) (l : List SeqEntry) (s : State), (canonical s) →
    (cnvRuns s (n / 4) = true) →
    ((cnvG s (n / 4)).cfg.mode = 3) →
    ((cnvG s (n / 4)).slices.contains n = true) →
    ((cnvS s n).at' = some i) →
    (l = (cnvG s (n / 4)).cfg.seqs.getD (n % 4) []) →
    (l[i]? = some e) →
    (i + 1 < l.length) →
    Answers (.scanResult n c ovr q t) s fun r =>
      (cnvG r (n / 4)).queue.head?.map (fun x => (x.input, x.entry, x.slice, x.results)) = some (e.input, i, n, [(q, (Sys2Proof.Machine.scanResult c e.ofs e.gcorr).1)]) ∧ (cnvS r n).at' = some (i + 1) ∧ r.tmb.now = max s.tmb.now t) ∧
  (∀ (n q t i : Nat) (c : Int) (ovr : Bool) (e : SeqEntry) (l : List SeqEntry) (s : State), (canonical s) →
    (cnvRuns s (n / 4) = true) →
    ((cnvG s (n / 4)).cfg.mode = 3) →
    ((cnvG s (n / 4)).slices.contains n = true) →
    ((cnvS s n).at' = some i) →
    (l = (cnvG s (n / 4)).cfg.seqs.getD (n % 4) []) →
    (l[i]? = some e) →
    (l.length = i + 1) →
    Answers (.scanResult n c ovr q t) s fun r =>
      (cnvG r (n / 4)).queue.head?.map (fun x => (x.input, x.entry, x.slice, x.results)) = some (e.input, i, n, [(q, (Sys2Proof.Machine.scanResult c e.ofs e.gcorr).1)]) ∧ (cnvS r n).at' = none ∧ (cnvG r (n / 4)).passes = ((cnvG s (n / 4)).passes + 1) % 2 ^ 32) ∧
  (∀ (n t : Nat) (s : State), (canonical s) →
    (cnvRuns s (n / 4) = true) →
    ((cnvG s (n / 4)).cfg.mode = 3) →
    ((cnvG s (n / 4)).cfg.period = 0) →
    ((cnvS s n).calDue = true) →
    ((cnvS s n).at' = none) →
    Answers (.calSlot n t) s fun r =>
      (cnvS r n).calDue = false ∧ (cnvS r n).sinceCal = 0 ∧ r.tmb.now = max s.tmb.now t) ∧
  (∀ (idle t g : Nat) (s : State), (canonical s) →
    (flag s fCnvCtrlBgEn = true) →
    (s.cnv.clkOk = true) →
    (s.cnv.fg = none) →
    (flag s fCnvCtrlHoldOnArm = false) →
    (g < 4) →
    ((cnvG s g).cfg.mode ≠ 0) →
    ((cnvG s g).slices ≠ []) →
    (isBurst (cnvG s g).cfg.mode = false ∨ bit idle g = false) →
    Answers (.temperBgUpdate idle t) s fun r =>
      r.cnv.tgen = (s.cnv.tgen + 1) % 2 ^ 32 ∧ (cnvG r g).tgen = r.cnv.tgen ∧ (cnvG r g).lastUpdate = max s.tmb.now t ∧ r.tmb.now = max s.tmb.now t) ∧
  (∀ (g t : Nat) (s : State), (canonical s) →
    ((cnvG s g).deferSince = some t) →
    Answers (.temperDeferExpiry g) s fun r =>
      r.cnv.tgen = (s.cnv.tgen + 1) % 2 ^ 32 ∧ (cnvG r g).tgen = r.cnv.tgen ∧ (cnvG r g).deferSince = none ∧ r.tmb.now = max s.tmb.now (t + 1000000 * fld s fCnvCtrlHoldMaxMs)) ∧
  (∀ (t : Nat) (s : State), (s.cnv.stale = false) →
    (5000 < (s.pwr.dieTemp - s.cnv.updTemp).natAbs) →
    Answers (.calStaleTimeout t) s fun r =>
      r.cnv.stale = true ∧ r.cnv.tgen = s.cnv.tgen ∧ r.tmb.now = max s.tmb.now t) ∧
  (∀ (n cause t : Nat) (s : State), (canonical s) →
    (n < 16) →
    (1 ≤ cause) →
    (cause ≤ 3) →
    ((cnvS s n).failed = 0) →
    Answers (.sliceFailed n cause t) s fun r =>
      (cnvS r n).failed = cause ∧ (cnvS r n).at' = none ∧ r.tmb.now = max s.tmb.now t) ∧
  (∀ (g t : Nat) (s : State), (canonical s) →
    ((cnvG s g).resumeAt = some t) →
    Answers (.burstResume g) s fun r =>
      (cnvG r g).resumeAt = none ∧ (cnvG r g).slices = burstSlices s g (cnvG s g).cfg.mode ∧ (cnvG r g).degraded = true ∧ (cnvG r g).stopped = !s.cnv.clkOk ∧ r.tmb.now = max s.tmb.now t) ∧
  (∀ (t g : Nat) (s : State), (canonical s) →
    (s.cnv.clkOk = true) →
    (g < 4) →
    Answers (.adcclkLoss t) s fun r =>
      r.cnv.clkOk = false ∧ (cnvG r g).stopped = true ∧ (cnvG r g).fill = none ∧ r.tmb.now = max s.tmb.now t) ∧
  (∀ (t g : Nat) (s : State), (canonical s) →
    (s.cnv.clkOk = false) →
    (g < 4) →
    ((cnvG s g).slices ≠ []) →
    Answers (.adcclkReturn t) s fun r =>
      r.cnv.clkOk = true ∧ (cnvG r g).stopped = false ∧ (cnvG r g).gapNext = true ∧ r.tmb.now = max s.tmb.now t)

/-- CAP_CONFIG that passes its checks puts the descriptor into a disarmed channel. MASK_LOAD with none waiting is in force at once, or waits
on a channel that captures. An ARM of an armable single channel arms it, by command or from its queue. A FIRE from the queue of a single
channel is its trigger instant; a STOP stops it. 100 ns after a segment a channel with room arms again. The post window's expiry ends the
segment. The instant of a group's ARM ends its wait. A group ARM message on time enters the queues of this module's members, an
acknowledgement is noted, and a fire on time, of this module or another, is the trigger instant of the group's channels. CAP_MISS_SEL loads
the entry it names. -/
def Obligations.CaptureCommandsTakeEffect : Prop :=
  (∀ (h : Nat) (c : Cmd) (d : Bytes) (s : State), (canonical s) →
    (CanStart s h 0x4A c) →
    (capCheck s c.unit d = none) →
    ((capParse d).source ≠ 0) →
    Answers (.capConfig h (some d)) s fun r =>
      (capCh r c.unit).desc = capParse d ∧ (capCh r c.unit).state = .disarmed ∧ (capCh r c.unit).held = [] ∧ endStatus r h = some .ok) ∧
  (∀ (h : Nat) (c : Cmd) (d : Bytes) (s : State), (canonical s) →
    (CanStart s h 0x4B c) →
    (maskCheck s c.unit d = none) →
    ((capCh s c.unit).maskNext = none) →
    ((capCh s c.unit).state = .disarmed ∨ (capCh s c.unit).state = .full ∨ (capCh s c.unit).state = .stopped) →
    Answers (.maskLoad h (some d)) s fun r =>
      (capCh r c.unit).mask = some ⟨le d 6 1, le d 7 1, maskPoints d, le d 12 4, le d 16 4⟩ ∧ endStatus r h = some .ok) ∧
  (∀ (h : Nat) (c : Cmd) (d : Bytes) (s : State), (canonical s) →
    (CanStart s h 0x4B c) →
    (maskCheck s c.unit d = none) →
    ((capCh s c.unit).maskNext = none) →
    ((capCh s c.unit).state = .armed ∨ (capCh s c.unit).state = .post ∨ (capCh s c.unit).state = .rearm) →
    Answers (.maskLoad h (some d)) s fun r =>
      (capCh r c.unit).mask = (capCh s c.unit).mask ∧ (capCh r c.unit).maskNext = some (⟨le d 6 1, le d 7 1, maskPoints d, le d 12 4, le d 16 4⟩, h, s.tmb.now) ∧ running r h = true) ∧
  (∀ (h : Nat) (c : Cmd) (s : State), (canonical s) →
    (CanStart s h 0x4C c) →
    (c.instant = 0) →
    ((capCh s c.unit).desc.group = 0) →
    (capArmable s c.unit = true) →
    Answers (.capArm h) s fun r =>
      (capCh r c.unit).state = .armed ∧ (capCh r c.unit).held = [] ∧ (capCh r c.unit).next = 0 ∧ (capCh r c.unit).since = 4 * s.tmb.now ∧ endStatus r h = some .ok) ∧
  (∀ (n : Nat) (e : LqEntry) (l : List LqEntry) (s : State), (canonical s) →
    ((capCh s n).lq = e :: l) →
    (e.action = 1) →
    (capArmable s n = true) →
    Answers (.capArmLaunch n) s fun r =>
      (capCh r n).state = .armed ∧ (capCh r n).held = [] ∧ (capCh r n).lq = l ∧ r.tmb.now = max s.tmb.now e.instant) ∧
  (∀ (n : Nat) (e : LqEntry) (l : List LqEntry) (s : State), (canonical s) →
    ((capCh s n).lq = e :: l) →
    (e.action = 2) →
    ((capCh s n).desc.group = 0) →
    Answers (.capFire n) s fun r =>
      (capCh r n).lastTrig = 4 * max s.tmb.now e.instant ∧ (capCh r n).lq = l ∧ r.tmb.now = max s.tmb.now e.instant) ∧
  (∀ (n : Nat) (e : LqEntry) (l : List LqEntry) (s : State), (canonical s) →
    ((capCh s n).lq = e :: l) →
    (e.action = 3) →
    ((capCh s n).state = .armed ∨ (capCh s n).state = .rearm) →
    Answers (.capStop n) s fun r =>
      (capCh r n).state = .stopped ∧ (capCh r n).lq = l ∧ r.tmb.now = max s.tmb.now e.instant) ∧
  (∀ (n : Nat) (s : State), (canonical s) →
    ((capCh s n).state = .rearm) →
    ((capCh s n).stopAfter = false) →
    ((capCh s n).desc.ring = true ∨ (capCh s n).next < (capCh s n).desc.count) →
    Answers (.rearmEnd n) s fun r =>
      (capCh r n).state = .armed ∧ (capCh r n).since = (capCh s n).rearmAt ∧ r.tmb.now = max s.tmb.now (((capCh s n).rearmAt + 3) / 4)) ∧
  (∀ (n : Nat) (s : State), (canonical s) →
    ((capCh s n).state = .rearm) →
    ((capCh s n).stopAfter = false) →
    ((capCh s n).desc.ring = false) →
    ((capCh s n).desc.count ≤ (capCh s n).next) →
    Answers (.rearmEnd n) s fun r =>
      (capCh r n).state = .full ∧ r.tmb.now = max s.tmb.now (((capCh s n).rearmAt + 3) / 4)) ∧
  (∀ (n : Nat) (g : CapSeg) (s : State), (canonical s) →
    ((capCh s n).state = .post) →
    ((capCh s n).cur = some g) →
    Answers (.postWindowExpiry n) s fun r =>
      (capCh r n).cur = none ∧ (capCh r n).next = (capCh s n).next + 1 ∧ (capCh r n).hist = [] ∧ ((capCh r n).state = .rearm ∨ (capCh r n).state = .stopped) ∧ r.tmb.now = max s.tmb.now ((g.trig * 250 + ((capCh s n).desc.seg - (capCh s n).desc.pre) * g.spacing + 999) / 1000)) ∧
  (∀ (n : Nat) (members : List Nat) (a : GroupArm) (s : State), (s.cap.arms.find? (·.channel == n) = some a) →
    Answers (.capGroupArmInstant n members) s fun r =>
      r.cap.arms = s.cap.arms.erase a ∧ r.tmb.now = max s.tmb.now a.instant) ∧
  (∀ (p t k i : Nat) (b m : Bytes) (s : State), (canonical s) →
    (Receives s p clsTRIG 1 b t) →
    (m = (wParse b).payload) →
    (s.tmb.joined = true) →
    (le m 0 1 ≠ 0) →
    (k ∈ groupMembers s (le m 0 1)) →
    (i = (les m 1 8 - s.tmb.domOff).toNat) →
    (max s.tmb.now t + 200 ≤ i) →
    ((capCh s k).lq.length < 16) →
    Answers (.trigArmRx p b t) s fun r =>
      (capCh r k).lq = lqInsert ⟨i, 0, false, 1, 0, none⟩ (capCh s k).lq ∧ r.tmb.now = max s.tmb.now t) ∧
  (∀ (t : Nat) (f : CapFire) (l : List CapFire) (s : State), (s.cap.fires = f :: l) →
    Answers (.trigFireRx none t) s fun r =>
      r.cap.fires = l ∧ r.tmb.now = max s.tmb.now ((localQ s f.q + 4800 + 3) / 4)) ∧
  (∀ (p t k q : Nat) (b m : Bytes) (s : State), (canonical s) →
    (Receives s p clsTRIG 2 b t) →
    (m = (wParse b).payload) →
    (s.tmb.joined = true) →
    (le m 0 1 ≠ 0) →
    (k < 16) →
    ((capCh s k).desc.source = 1) →
    ((capCh s k).desc.group = le m 0 1) →
    (q = localQ s (les m 1 8)) →
    (4 * max s.tmb.now t ≤ q + 4800) →
    Answers (.trigFireRx (some (p, b)) t) s fun r =>
      (capCh r k).lastTrig = q ∧ r.tmb.now = max s.tmb.now t) ∧
  (∀ (p t : Nat) (b m : Bytes) (a : GroupArm) (s : State), (canonical s) →
    (Receives s p clsTRIG 3 b t) →
    (m = (wParse b).payload) →
    (s.cap.arms = [a]) →
    ((capCh s a.channel).desc.group = le m 0 1) →
    (max s.tmb.now t < a.instant) →
    Answers (.trigAckRx p b t) s fun r =>
      r.cap.arms = [{ a with acked := a.acked ++ [(wParse b).src] }] ∧ r.tmb.now = max s.tmb.now t) ∧
  (∀ (v : Word) (x : CapMiss) (s : State), (windowOpen s 0x0C = true) →
    ((capCh s (bits v.toNat 3 0)).miss[bits v.toNat 25 16]? = some x) →
    Answers (.capMissRead v) s fun r =>
      r.cap.missData = missBytes x)

/-- A write of QCH_FORCE gives its field the value written. A release of a pin with no asserting source left, after MIN_ACTIVE_US, clears
its latch and the pin is inactive; sooner it waits, and does so when the time has passed. A release of a pin that a loop, the host or a
FATAL latch still asserts is refused and the latch stays. A readback that differs on an enabled pin is kept as its mismatch. -/
def Obligations.QuenchCommandsTakeEffect : Prop :=
  (∀ (v : Word) (s : State), (canonical s) →
    (windowOpen s 0x13 = true) →
    Answers (.qchForceWrite v) s fun r =>
      fld r fQchForceForce = bits v.toNat 15 0) ∧
  (∀ (n : Nat) (s : State), (canonical s) →
    (n < 16) →
    (windowOpen s 0x13 = true) →
    (qchAnv s n = false) →
    (qchHost s n = false) →
    ((s.qch.pin.get n).fatal = false) →
    (qchMinAt s n ≤ s.tmb.now) →
    Answers (.qchRelease n) s fun r =>
      (r.qch.pin.get n).latch = false ∧ (r.qch.pin.get n).relWait = false ∧ qchActive r n = false) ∧
  (∀ (n : Nat) (s : State), (canonical s) →
    (n < 16) →
    (windowOpen s 0x13 = true) →
    (qchAnv s n = false) →
    (qchHost s n = false) →
    ((s.qch.pin.get n).fatal = false) →
    (s.tmb.now < qchMinAt s n) →
    Answers (.qchRelease n) s fun r =>
      (r.qch.pin.get n).relWait = true ∧ (r.qch.pin.get n).latch = (s.qch.pin.get n).latch) ∧
  (∀ (n : Nat) (s : State), (canonical s) →
    (n < 16) →
    (windowOpen s 0x13 = true) →
    ((qchAnv s n || qchHost s n || (s.qch.pin.get n).fatal) = true) →
    Answers (.qchRelease n) s fun r =>
      (r.qch.pin.get n).latch = (s.qch.pin.get n).latch ∧ (r.qch.pin.get n).relRefused = true) ∧
  (∀ (n : Nat) (s : State), (canonical s) →
    ((s.qch.pin.get n).relWait = true) →
    (qchAnv s n = false) →
    (qchHost s n = false) →
    ((s.qch.pin.get n).fatal = false) →
    Answers (.qchReleaseDeferred n) s fun r =>
      (r.qch.pin.get n).latch = false ∧ (r.qch.pin.get n).relWait = false ∧ r.tmb.now = max s.tmb.now (qchMinAt s n)) ∧
  (∀ (n t : Nat) (s : State), (canonical s) →
    (n < 16) →
    (flag s (fQchPinEn n) = true) →
    Answers (.qchReadbackFault n t) s fun r =>
      (r.qch.pin.get n).mismatch = true ∧ r.tmb.now = max s.tmb.now t)

/-- AXIS_CONFIG of a descriptor that passes its checks puts the axis into DISABLED with that descriptor, unhomed; KIND OFF makes it OFF; a
journal record that fits gives its position, phase and HOMED back. AXIS_MOVE that passes its checks starts the profile now, or queues it for
its instant. AXIS_HOME by a switch, or by an index in its first phase, starts towards it; by SET_HERE the position is HOME_POS at once. A
controlled AXIS_STOP of a moving axis is STOPPING and completes at rest; an immediate one stops it there. AXIS_DRIVE 0 of an axis at
STANDSTILL disables it and journals it; AXIS_DRIVE 1 of a disabled one waits for PGOOD, or for the settle time where no pin is named. -/
def Obligations.MotionCommandsTakeEffect : Prop :=
  (∀ (h : Nat) (c : Cmd) (d : Bytes) (s : State), (canonical s) →
    (CanStart s h 0x40 c) →
    (axCheck s c.unit d = none) →
    (adKind d ≠ 0) →
    (s.mram.axes.get c.unit = none) →
    Answers (.axisConfig h (some d)) s fun r =>
      (axOf r c.unit).state = .disabled ∧ (axOf r c.unit).desc = d ∧ (axOf r c.unit).homed = false ∧ (axOf r c.unit).pos = 0 ∧ endStatus r h = some .ok) ∧
  (∀ (h : Nat) (c : Cmd) (d : Bytes) (j : AxisJournal) (s : State), (canonical s) →
    (CanStart s h 0x40 c) →
    (axCheck s c.unit d = none) →
    (adKind d = 1) →
    (s.mram.axes.get c.unit = some j) →
    (j.crc = (crc32c d).toNat) →
    (j.off = true) →
    (j.phaseLost = false) →
    Answers (.axisConfig h (some d)) s fun r =>
      (axOf r c.unit).state = .disabled ∧ (axOf r c.unit).homed = j.homed ∧ (axOf r c.unit).pos = j.pos ∧ (axOf r c.unit).phase = j.phase ∧ endStatus r h = some .ok) ∧
  (∀ (h : Nat) (c : Cmd) (d : Bytes) (s : State), (canonical s) →
    (CanStart s h 0x40 c) →
    ((axOf s c.unit).state = .disabled) →
    (adKind d = 0) →
    Answers (.axisConfig h (some d)) s fun r =>
      (axOf r c.unit).state = .off ∧ (axOf r c.unit).desc = [] ∧ (axOf r c.unit).lq = (axOf s c.unit).lq ∧ endStatus r h = some .ok) ∧
  (∀ (h lv : Nat) (c : Cmd) (ks : List Knot) (s : State), (canonical s) →
    (CanStart s h 0x42 c) →
    (c.instant = 0) →
    ((startCheck (axLevels s c.unit lv) c.unit).toOption = some ks) →
    Answers (.axisMove h lv) s fun r =>
      (axOf r c.unit).state = .moving ∧ (axOf r c.unit).traj = .profile s.tmb.now ks ∧ (axOf r c.unit).running = some (axOf s c.unit).newest ∧ endStatus r h = some .ok) ∧
  (∀ (h lv : Nat) (c : Cmd) (s : State), (canonical s) →
    (CanStart s h 0x42 c) →
    (c.instant ≠ 0) →
    (c.unit < 64) →
    (s.tmb.now + 200 ≤ c.instant) →
    ((axOf s c.unit).lq.length < 16) →
    Answers (.axisMove h lv) s fun r =>
      (axOf r c.unit).lq = lqInsert ⟨c.instant, 0, false, 1, 0, some h⟩ (axOf s c.unit).lq ∧ (axOf r c.unit).state = (axOf s c.unit).state ∧ running r h = true) ∧
  (∀ (h lv i : Nat) (c : Cmd) (s : State), (canonical s) →
    (CanStart s h 0x43 c) →
    ((axOf s c.unit).state = .standstill) →
    (homeInput c.arg = some i) →
    (bit lv i = false) →
    (i < 3) →
    (adPin (axOf s c.unit).desc 5 ≠ 0xFF) →
    (adPin (axOf s c.unit).desc 6 ≠ 0xFF) →
    (adPin (axOf s c.unit).desc 7 ≠ 0xFF) →
    (c.arg ≤ 4 ∨ adFbk (axOf s c.unit).desc ≠ 0xFF) →
    Answers (.axisHome h lv) s fun r =>
      (axOf r c.unit).state = .homing ∧ (axOf r c.unit).homing = some ⟨c.arg, 1, 0, 0, s.tmb.now + 1000000 * le (axOf s c.unit).desc 108 4, some h⟩ ∧ (axOf r c.unit).homed = false ∧ running r h = true) ∧
  (∀ (h lv : Nat) (c : Cmd) (s : State), (canonical s) →
    (CanStart s h 0x43 c) →
    ((axOf s c.unit).state = .standstill) →
    (c.arg = 8) →
    (adKind (axOf s c.unit).desc ≠ 2) →
    ((axOf s c.unit).traj = .rest) →
    Answers (.axisHome h lv) s fun r =>
      (axOf r c.unit).state = .standstill ∧ (axOf r c.unit).pos = adHomePos (axOf s c.unit).desc ∧ (axOf r c.unit).homed = true ∧ endStatus r h = some .ok) ∧
  (∀ (h : Nat) (c : Cmd) (s : State), (canonical s) →
    (CanStart s h 0x44 c) →
    (c.arg = 0) →
    ((axOf s c.unit).state = .moving) →
    ((axOf s c.unit).homing = none) →
    Answers (.axisStopControlled h) s fun r =>
      (axOf r c.unit).state = .stopping ∧ (axOf r c.unit).stopCmds = (axOf s c.unit).stopCmds ++ [h] ∧ running r h = true) ∧
  (∀ (h : Nat) (c : Cmd) (s : State), (canonical s) →
    (CanStart s h 0x44 c) →
    (c.arg = 1) →
    ((axOf s c.unit).state = .moving) →
    ((axOf s c.unit).homing = none) →
    ((axOf s c.unit).stopCmds = []) →
    Answers (.axisStopImmediate h) s fun r =>
      (axOf r c.unit).state = .standstill ∧ (axOf r c.unit).vel = 0 ∧ (axOf r c.unit).traj = .rest ∧ (axOf r c.unit).sched = [] ∧ endStatus r h = some .ok) ∧
  (∀ (h : Nat) (c : Cmd) (s : State), (canonical s) →
    (CanStart s h 0x45 c) →
    (c.arg = 0) →
    ((axOf s c.unit).state = .standstill ∨ (axOf s c.unit).state = .fault) →
    Answers (.axisDriveOff h) s fun r =>
      (axOf r c.unit).state = .disabled ∧ (axOf r c.unit).cause = 0 ∧ (axOf r c.unit).tickAt = none ∧ (r.mram.axes.get c.unit).map (·.off) = some true ∧ endStatus r h = some .ok) ∧
  (∀ (h : Nat) (c : Cmd) (s : State), (canonical s) →
    (CanStart s h 0x45 c) →
    (c.arg = 1) →
    ((axOf s c.unit).state = .disabled) →
    (adPin (axOf s c.unit).desc 4 ≠ 0xFF) →
    Answers (.axisDriveOn h) s fun r =>
      (axOf r c.unit).state = .transition ∧ (axOf r c.unit).drive = .pgood (s.tmb.now + 1000000000) ∧ (axOf r c.unit).driveCmd = some h ∧ running r h = true) ∧
  (∀ (h : Nat) (c : Cmd) (s : State), (canonical s) →
    (CanStart s h 0x45 c) →
    (c.arg = 1) →
    ((axOf s c.unit).state = .disabled) →
    (adPin (axOf s c.unit).desc 4 = 0xFF) →
    Answers (.axisDriveOn h) s fun r =>
      (axOf r c.unit).state = .transition ∧ (axOf r c.unit).drive = .settle (s.tmb.now + 1000000 * fld s fMotCtrlSettleMs) ∧ (axOf r c.unit).driveCmd = some h ∧ running r h = true)

/-- A queued START, STOP or HOME acts at its instant. A stepper's tick gives the commanded position and velocity of the profile at the tick,
and the next tick follows TICK_US later; a servo's commit those of its loop's sample instant. A scheduled step moves the count of steps by
one and raises PIN_STEP for STEP_W_NS, after which it falls. An active limit switch on the side of motion is a fault of cause 2. An edge of
its switch ends a homing's first phase; the reference event ends the second. A homing past its time fails with cause 6 and TIMEOUT. A loss
of PGOOD is a fault of cause 4, the phase lost and the homing with it. Driver power goes on by PGOOD, the settle time, the restore steps of
a phase and 1 ms of enable, after which the axis is at STANDSTILL and its command ends with OK; without PGOOD it ends with FAULTED in
DISABLED. -/
def Obligations.AxesMoveAsTheirRulesSay : Prop :=
  (∀ (n lv : Nat) (e : LqEntry) (l : List LqEntry) (ks : List Knot) (s : State), (canonical s) →
    ((axOf s n).lq = e :: l) →
    (e.action = 1) →
    ((startCheck (axLevels (advance s e.instant) n lv) n).toOption = some ks) →
    Answers (.motStart n lv) s fun r =>
      (axOf r n).state = .moving ∧ (axOf r n).traj = .profile (max s.tmb.now e.instant) ks ∧ (axOf r n).lq = l ∧ r.tmb.now = max s.tmb.now e.instant) ∧
  (∀ (n lv : Nat) (e : LqEntry) (l : List LqEntry) (s : State), (canonical s) →
    ((axOf s n).lq = e :: l) →
    (e.action = 2) →
    ((axOf s n).state = .moving) →
    ((axOf s n).homing = none) →
    Answers (.motStop n lv) s fun r =>
      (axOf r n).state = (if e.tag = 1 then .standstill else .stopping) ∧ (axOf r n).running = none ∧ (axOf r n).lq = l ∧ r.tmb.now = max s.tmb.now e.instant) ∧
  (∀ (n lv : Nat) (e : LqEntry) (l : List LqEntry) (s : State), (canonical s) →
    ((axOf s n).lq = e :: l) →
    (e.action = 3) →
    (e.tag = 1 ∨ e.tag = 2) →
    ((axOf s n).state = .standstill) →
    (adPin (axOf s n).desc 7 ≠ 0xFF) →
    (bit lv 2 = false) →
    Answers (.motHome n lv) s fun r =>
      (axOf r n).state = .homing ∧ (axOf r n).homing = some ⟨e.tag, 1, 0, 0, max s.tmb.now e.instant + 1000000 * le (axOf s n).desc 108 4, e.cmd⟩ ∧ (axOf r n).lq = l ∧ r.tmb.now = max s.tmb.now e.instant) ∧
  (∀ (n lv t : Nat) (s : State), (canonical s) →
    ((axOf s n).tickAt = some t) →
    (adKind (axOf s n).desc = 1) →
    (adUsesFbk (axOf s n).desc = false) →
    ((axOf s n).state = .moving) →
    ((axOf s n).homed = false) →
    (axDone (axOf s n) t = false) →
    (lv % 4 = 0) →
    Answers (.stepperTick n lv) s fun r =>
      (axOf r n).state = .moving ∧ (axOf r n).pos = nearestQ (axAt (axOf s n) t).1 ∧ (axOf r n).vel = nearestQ (axAt (axOf s n) t).2.1 ∧ (axOf r n).act = (axOf s n).steps * 65536 ∧ (axOf r n).tickAt = some (t + adTick (axOf s n).desc) ∧ r.tmb.now = max s.tmb.now t) ∧
  (∀ (n t : Nat) (neg late : Bool) (l : List (Nat × Bool × Bool)) (s : State), (canonical s) →
    ((axOf s n).sched = (t, neg, late) :: l) →
    ((axOf s n).pulseEnd = none) →
    Answers (.stepPulse n) s fun r =>
      (axOf r n).sched = l ∧ (axOf r n).steps = (axOf s n).steps + (if neg then -1 else 1) ∧ (axOf r n).lastRise = some t ∧ (axOf r n).pulseEnd = some (t + adWidth (axOf s n).desc) ∧ r.tmb.now = max s.tmb.now t) ∧
  (∀ (n t : Nat) (s : State), (canonical s) →
    ((axOf s n).pulseEnd = some t) →
    Answers (.stepPulseFall n) s fun r =>
      (axOf r n).pulseEnd = none ∧ (axOf r n).steps = (axOf s n).steps ∧ r.tmb.now = max s.tmb.now t) ∧
  (∀ (n lv t u : Nat) (d : Bytes) (s : State), (canonical s) →
    (adKind (axOf s n).desc = 2) →
    ((loopOf s (adLoop (axOf s n).desc)).desc = some d) →
    ((loopOf s (adLoop (axOf s n).desc)).hold = false) →
    ((loopOf s (adLoop (axOf s n).desc)).mode = .auto) →
    ((fbkCh s (adFbk (axOf s n).desc)).bad = false) →
    ((fbkCh s (adFbk (axOf s n).desc)).implaus = false) →
    ((axOf s n).state = .moving) →
    ((axOf s n).homed = false) →
    ((axOf s n).homing = none) →
    (axDone (axOf s n) (max s.tmb.now t) = false) →
    (u = (if max s.tmb.now t + 1000 ≤ (loopOf s (adLoop (axOf s n).desc)).due then (loopOf s (adLoop (axOf s n).desc)).due else loopInstant d (loopOf s (adLoop (axOf s n).desc)).domOff (max s.tmb.now t + 1000))) →
    Answers (.servoTick n lv t) s fun r =>
      (axOf r n).state = .moving ∧ (axOf r n).pos = nearestQ (axAt (axOf s n) u).1 ∧ (axOf r n).vel = nearestQ (axAt (axOf s n) u).2.1 ∧ r.tmb.now = max s.tmb.now t) ∧
  (∀ (n t : Nat) (positive : Bool) (s : State), (canonical s) →
    ((axOf s n).state = .moving) →
    ((axOf s n).homing = none) →
    ((axOf s n).desc ≠ []) →
    (adPin (axOf s n).desc (if positive then 5 else 6) ≠ 0xFF) →
    (if positive then 0 < (axAt (axOf s n) (max s.tmb.now t)).2.1 else (axAt (axOf s n) (max s.tmb.now t)).2.1 < 0) →
    Answers (.limitSwitchActive n positive t) s fun r =>
      (axOf r n).state = .fault ∧ (axOf r n).cause = 2 ∧ (axOf r n).vel = 0 ∧ (axOf r n).sched = [] ∧ r.tmb.now = max s.tmb.now t) ∧
  (∀ (n which t : Nat) (h : Homing) (s : State), (canonical s) →
    ((axOf s n).homing = some h) →
    (h.phase = 1) →
    (homeInput h.method = some which) →
    (which < 3) →
    ((axOf s n).desc ≠ []) →
    (adPin (axOf s n).desc (5 + which) ≠ 0xFF) →
    Answers (.homeSwitchEdge n which true t) s fun r =>
      (axOf r n).homing.map (fun x => (x.method, x.phase, x.due, x.cmd)) = some (h.method, 2, h.due, h.cmd) ∧ r.tmb.now = max s.tmb.now t) ∧
  (∀ (n which t : Nat) (h : Homing) (s : State), (canonical s) →
    ((axOf s n).homing = some h) →
    (h.phase = 2) →
    (h.method ≤ 4) →
    (homeInput h.method = some which) →
    (which < 3) →
    ((axOf s n).desc ≠ []) →
    (adPin (axOf s n).desc (5 + which) ≠ 0xFF) →
    Answers (.homeSwitchEdge n which false t) s fun r =>
      (axOf r n).homing = some { h with phase := 3 } ∧ r.tmb.now = max s.tmb.now t) ∧
  (∀ (n c : Nat) (h : Homing) (s : State), (canonical s) →
    ((axOf s n).homing = some h) →
    (h.cmd = some c) →
    (running s c = true) →
    Answers (.homingTimeout n) s fun r =>
      (axOf r n).state = .fault ∧ (axOf r n).cause = 6 ∧ (axOf r n).homing = none ∧ (axOf r n).homed = false ∧ endStatus r c = some .timeout ∧ r.tmb.now = max s.tmb.now h.due) ∧
  (∀ (n t : Nat) (s : State), (canonical s) →
    ((axOf s n).state = .standstill) →
    ((axOf s n).desc ≠ []) →
    (adPin (axOf s n).desc 4 ≠ 0xFF) →
    Answers (.pgoodLoss n t) s fun r =>
      (axOf r n).state = .fault ∧ (axOf r n).cause = 4 ∧ (axOf r n).phaseLost = true ∧ (axOf r n).homed = false ∧ r.tmb.now = max s.tmb.now t) ∧
  (∀ (n t u : Nat) (s : State), (canonical s) →
    ((axOf s n).drive = .pgood u) →
    Answers (.pgoodRise n t) s fun r =>
      (axOf r n).drive = .settle (max s.tmb.now t + 1000000 * fld s fMotCtrlSettleMs) ∧ (axOf r n).pgoodSeen = true ∧ r.tmb.now = max s.tmb.now t) ∧
  (∀ (n t : Nat) (s : State), (canonical s) →
    ((axOf s n).drive = .settle t) →
    ((axOf s n).phase = 0 ∨ (axOf s n).phaseLost = true ∨ adKind (axOf s n).desc ≠ 1) →
    Answers (.driveSettleEnd n) s fun r =>
      (axOf r n).drive = .enable (max s.tmb.now t + 1000000) ∧ r.tmb.now = max s.tmb.now t) ∧
  (∀ (n t : Nat) (s : State), (canonical s) →
    ((axOf s n).drive = .settle t) →
    ((axOf s n).phase ≠ 0) →
    ((axOf s n).phaseLost = false) →
    (adKind (axOf s n).desc = 1) →
    (adFlag (axOf s n).desc 2 = true) →
    (adPin (axOf s n).desc 3 ≠ 0xFF) →
    Answers (.driveSettleEnd n) s fun r =>
      (axOf r n).drive = .restore (axOf s n).phase (max s.tmb.now t) ∧ (axOf r n).dirNeg = false ∧ r.tmb.now = max s.tmb.now t) ∧
  (∀ (n k t : Nat) (s : State), (canonical s) →
    ((axOf s n).drive = .restore (k + 1) t) →
    (k ≠ 0) →
    Answers (.phaseRestoreStep n) s fun r =>
      (axOf r n).drive = .restore k (t + 1000000 / max 1 (fld s fMotCtrlRestoreKhz)) ∧ (axOf r n).steps = (axOf s n).steps ∧ (axOf r n).pulseEnd = some (t + adWidth (axOf s n).desc) ∧ r.tmb.now = max s.tmb.now t) ∧
  (∀ (n t : Nat) (s : State), (canonical s) →
    ((axOf s n).drive = .restore 1 t) →
    Answers (.phaseRestoreStep n) s fun r =>
      (axOf r n).drive = .enable (max s.tmb.now t + 1000000) ∧ (axOf r n).steps = (axOf s n).steps ∧ r.tmb.now = max s.tmb.now t) ∧
  (∀ (n t c : Nat) (s : State), (canonical s) →
    ((axOf s n).drive = .enable t) →
    ((axOf s n).driveCmd = some c) →
    (running s c = true) →
    Answers (.driveEnableDelay n) s fun r =>
      (axOf r n).state = .standstill ∧ (axOf r n).drive = .none ∧ endStatus r c = some .ok ∧ r.tmb.now = max s.tmb.now t) ∧
  (∀ (n t c : Nat) (s : State), (canonical s) →
    ((axOf s n).drive = .pgood t) →
    ((axOf s n).driveCmd = some c) →
    (running s c = true) →
    Answers (.pgoodTimeout n) s fun r =>
      (axOf r n).state = .disabled ∧ (axOf r n).drive = .none ∧ endStatus r c = some .faulted ∧ r.tmb.now = max s.tmb.now t)

/-- FBK_CONFIG of a descriptor that passes its checks starts the channel anew; MODE OFF empties it. COMPARE_LOAD that passes its checks
replaces the list, whose head is armed when it is not passed yet, or appends to it. A write of FBK_SNAP with SNAP latches position and speed
of every channel at that instant. One accepted edge of A or B of a channel without an index moves its raw count by one, in the direction of
the sequence and of FLAGS; so does a change to a neighbouring Hall state. An SSI frame starts at its instant; the first valid word is the
position; a frame in error counts towards BAD. The first index is the reference of the later checks. A publication is at its instant. The
compare pulse ends at its time, or the waiting fire follows 10 ns later. -/
def Obligations.FeedbackCommandsTakeEffect : Prop :=
  (∀ (h lv : Nat) (c : Cmd) (d : Bytes) (s : State), (canonical s) →
    (CanStart s h 0x46 c) →
    (fbkCheck s c.unit d = none) →
    (fbMode d ≠ 0) →
    Answers (.fbkConfig h (some d) lv) s fun r =>
      (fbkCh r c.unit).desc = d ∧ (fbkCh r c.unit).r = 0 ∧ (fbkCh r c.unit).p = 0 ∧ (fbkCh r c.unit).lv = lv % 8 ∧ endStatus r h = some .ok) ∧
  (∀ (h lv : Nat) (c : Cmd) (d : Bytes) (s : State), (canonical s) →
    (CanStart s h 0x46 c) →
    (fbkBusy s c.unit = false) →
    (fbMode d = 0) →
    Answers (.fbkConfig h (some d) lv) s fun r =>
      fbkOn r c.unit = false ∧ endStatus r h = some .ok) ∧
  (∀ (h : Nat) (c : Cmd) (b : Bytes) (e : CmpEntry) (l : List CmpEntry) (s : State), (canonical s) →
    (CanStart s h 0x47 c) →
    (compareCheck s c.unit b = none) →
    (bit (le b 8 1) 0 = false) →
    ((fbkCh s c.unit).bad = false) →
    ((chunks 16 (le b 4 4) (b.drop 16)).map (fun x => (⟨les x 0 8, le x 8 1⟩ : CmpEntry)) = e :: l) →
    (cmpPassed (cmpNeg (fbkCh s c.unit) s.tmb.now e) (fbkCh s c.unit).p e.pos = false) →
    Answers (.compareLoad h (some b)) s fun r =>
      (fbkCh r c.unit).list = e :: l ∧ (fbkCh r c.unit).done = 0 ∧ endStatus r h = some .ok ∧ endResult r h = some (l.length + 1)) ∧
  (∀ (h : Nat) (c : Cmd) (b : Bytes) (s : State), (canonical s) →
    (CanStart s h 0x47 c) →
    (compareCheck s c.unit b = none) →
    (bit (le b 8 1) 0 = true) →
    ((fbkCh s c.unit).list ≠ []) →
    Answers (.compareLoad h (some b)) s fun r =>
      (fbkCh r c.unit).list = (fbkCh s c.unit).list ++ (chunks 16 (le b 4 4) (b.drop 16)).map (fun x => ⟨les x 0 8, le x 8 1⟩) ∧ (fbkCh r c.unit).done = (fbkCh s c.unit).done ∧ endStatus r h = some .ok) ∧
  (∀ (v : Word) (n : Nat) (s : State), (canonical s) →
    (windowOpen s 0x0A = true) →
    (v.getLsbD 0 = true) →
    (n < 32) →
    (fbkOn s n = true) →
    ((fbkCh s n).chg = []) →
    Answers (.fbkSnap v) s fun r =>
      (fbkCh r n).snapP = (fbkCh s n).p ∧ (fbkCh r n).snapV = 0 ∧ r.fbk.snapAt = s.tmb.now ∧ r.fbk.snapUnread = true) ∧
  (∀ (n t : Nat) (a b : Bool) (s : State), (canonical s) →
    (fbMode (fbkCh s n).desc = 1) →
    (fbFlag (fbkCh s n).desc 1 = false) →
    (a = bit (fbkCh s n).lv 0 ∧ b ≠ bit (fbkCh s n).lv 1) ∨ (a ≠ bit (fbkCh s n).lv 0 ∧ b = bit (fbkCh s n).lv 1) →
    Answers (.quadEdge n a b t) s fun r =>
      (fbkCh r n).r = (fbkCh s n).r + (if ((quadPhase (bit (fbkCh s n).lv 0) (bit (fbkCh s n).lv 1) + 1) % 4 == quadPhase a b) != fbFlag (fbkCh s n).desc 0 then 1 else -1) ∧ r.tmb.now = max s.tmb.now (t + fbFilter (fbkCh s n).desc)) ∧
  (∀ (n code t k : Nat) (s : State), (canonical s) →
    (fbMode (fbkCh s n).desc = 3) →
    (code % 8 ≠ (fbkCh s n).lv) →
    (hallSector (code % 8) = some k) →
    (k = ((fbkCh s n).sector + 1) % 6 ∨ (fbkCh s n).sector = (k + 1) % 6) →
    ((fbkCh s n).sector < 6) →
    Answers (.hallChange n code t) s fun r =>
      (fbkCh r n).sector = k ∧ (fbkCh r n).lv = code % 8 ∧ (fbkCh r n).r = (fbkCh s n).r + (if (k == ((fbkCh s n).sector + 1) % 6) != fbFlag (fbkCh s n).desc 0 then 1 else -1) ∧ r.tmb.now = max s.tmb.now (t + fbFilter (fbkCh s n).desc)) ∧
  (∀ (n : Nat) (s : State), (canonical s) →
    (fbMode (fbkCh s n).desc = 2) →
    ((fbkCh s n).frame = none) →
    (s.tmb.now ≤ 1000 * le (fbkCh s n).desc 40 4) →
    Answers (.ssiFrameStart n) s fun r =>
      (fbkCh r n).frame = some (1000 * le (fbkCh s n).desc 40 4) ∧ r.tmb.now = 1000 * le (fbkCh s n).desc 40 4) ∧
  (∀ (n : Nat) (s : State), (canonical s) →
    (fbMode (fbkCh s n).desc = 2) →
    ((fbkCh s n).frame = none) →
    (1000 * le (fbkCh s n).desc 40 4 < s.tmb.now) →
    (0 < le (fbkCh s n).desc 36 4) →
    Answers (.ssiFrameStart n) s fun r =>
      (fbkCh r n).frame = some r.tmb.now ∧ s.tmb.now ≤ r.tmb.now ∧ r.tmb.now < s.tmb.now + 1000 * le (fbkCh s n).desc 36 4 ∧ r.tmb.now % (1000 * le (fbkCh s n).desc 36 4) = (1000 * le (fbkCh s n).desc 40 4) % (1000 * le (fbkCh s n).desc 36 4)) ∧
  (∀ (n t data : Nat) (s : State), (canonical s) →
    ((fbkCh s n).frame = some t) →
    (data % 2 ^ (le (fbkCh s n).desc 28 1 - fbPosBits (fbkCh s n).desc) &&& le (fbkCh s n).desc 30 1 = 0) →
    ((fbkCh s n).ssiPrev = none) →
    ((fbkCh s n).bad = false) →
    Answers (.ssiFrameEnd n true true data) s fun r =>
      (fbkCh r n).r = ssiDecode (fbkCh s n).desc data ∧ (fbkCh r n).ssiPrev = some (ssiDecode (fbkCh s n).desc data) ∧ (fbkCh r n).frame = none ∧ (fbkCh r n).badRun = 0 ∧ r.tmb.now = max s.tmb.now (t + fbClocked (fbkCh s n).desc)) ∧
  (∀ (n t data : Nat) (high low : Bool) (s : State), (canonical s) →
    ((fbkCh s n).frame = some t) →
    ((high && low) = false) →
    ((fbkCh s n).badRun < 2) →
    Answers (.ssiFrameEnd n high low data) s fun r =>
      (fbkCh r n).r = (fbkCh s n).r ∧ (fbkCh r n).badRun = (fbkCh s n).badRun + 1 ∧ (fbkCh r n).frame = none ∧ r.tmb.now = max s.tmb.now (t + fbClocked (fbkCh s n).desc)) ∧
  (∀ (n t : Nat) (s : State), (canonical s) →
    (fbMode (fbkCh s n).desc = 1) →
    (fbFlag (fbkCh s n).desc 1 = true) →
    ((fbkCh s n).i0 = none) →
    Answers (.indexEdge n t) s fun r =>
      (fbkCh r n).i0 = some (fbkCh s n).r ∧ (fbkCh r n).idxR = (fbkCh s n).r ∧ (fbkCh r n).idxAt = t ∧ r.tmb.now = max s.tmb.now (t + fbFilter (fbkCh s n).desc)) ∧
  (∀ (n t : Nat) (s : State), (canonical s) →
    (fbkOn s n = true) →
    (le (fbkCh s n).desc 60 4 ≠ 0) →
    Answers (.fbkPublish n t) s fun r =>
      (fbkCh r n).r = (fbkCh s n).r ∧ (fbkCh r n).p = (fbkCh s n).p ∧ r.tmb.now = max s.tmb.now t) ∧
  (∀ (n t : Nat) (s : State), (canonical s) →
    ((fbkCh s n).pulseEnd = some t) →
    ((fbkCh s n).fireWait = 0) →
    Answers (.comparePulseEnd n) s fun r =>
      (fbkCh r n).pulseEnd = none ∧ (fbkCh r n).lastFall = some t ∧ r.tmb.now = max s.tmb.now t) ∧
  (∀ (n t : Nat) (s : State), (canonical s) →
    ((fbkCh s n).pulseEnd = some t) →
    ((fbkCh s n).fireWait ≠ 0) →
    Answers (.comparePulseEnd n) s fun r =>
      (fbkCh r n).pulseEnd = some (t + 10 + 5 * le (fbkCh s n).desc 12 2) ∧ (fbkCh r n).lastFire = t + 10 ∧ (fbkCh r n).fireWait = (fbkCh s n).fireWait - 1 ∧ r.tmb.now = max s.tmb.now t)

/-- STN_CONFIG that passes its checks puts the descriptor in force; a change of MODE drops the link. A port's link follows its pin; without
link its queues are empty. A frame of the highest queue leaves when the wire is free and the launch queue leaves room. An image launches at
its instant with the next IMAGE_SEQ. DISCOVER goes out on every port. A HELLO of an unknown station is listed; one of a station of the table
that waits for it is answered by CONFIG in the highest common version. A good CONFIG_ACK takes the station to RUN. A complete INPUT image
commits. A discarded frame is counted. CONFIG is sent again three times, then the station is FAILED. An incomplete image is dropped at its
time. A silent station becomes LOST. -/
def Obligations.StationNetworkRuns : Prop :=
  (∀ (h : Nat) (c : Cmd) (d : Bytes) (s : State), (canonical s) →
    (CanStart s h 0x54 c) →
    (portCheck d = none) →
    Answers (.stnConfig h (some d)) s fun r =>
      (stnPort r c.unit).desc = d ∧ (stnPort r c.unit).link = ((stnPort s c.unit).link && portMode (stnPort s c.unit).desc == portMode d) ∧ endStatus r h = some .ok) ∧
  (∀ (p t : Nat) (up : Bool) (s : State), (canonical s) →
    (p < 4) →
    (up = false ∨ portMode (stnPort s p).desc ≠ 0) →
    Answers (.portLinkChange p up t) s fun r =>
      (stnPort r p).link = up ∧ (stnPort r p).desc = (stnPort s p).desc ∧ r.tmb.now = max s.tmb.now t) ∧
  (∀ (p t : Nat) (s : State), (canonical s) →
    (p < 4) →
    ((stnPort s p).link = true) →
    Answers (.portLinkChange p false t) s fun r =>
      (stnPort r p).link = false ∧ (stnPort r p).q = [] ∧ r.tmb.now = max s.tmb.now t) ∧
  (∀ (p t k : Nat) (f : TxFrame) (s : State), (canonical s) →
    (portUp s p = true) →
    (topQueue (stnPort s p).q = some k) →
    ((stnPort s p).q.find? (·.queue == k) = some f) →
    (f.kind = .plain) →
    ((stnPort s p).busy = 0) →
    ((stnPort s p).lq = [] ∨ max s.tmb.now t + frameNs (portMode (stnPort s p).desc) f.bytes.length + 100 ≤ ((stnPort s p).lq.headD default).e.instant) →
    Answers (.egressFrameStart p t) s fun r =>
      (stnPort r p).q = (stnPort s p).q.erase f ∧ (stnPort r p).busy = max s.tmb.now t + frameNs (portMode (stnPort s p).desc) f.bytes.length ∧ r.out = s.out ++ [.eth p (max s.tmb.now t) f.bytes] ∧ r.tmb.now = max s.tmb.now t) ∧
  (∀ (p : Nat) (o : StnOut) (l : List StnOut) (s : State), (canonical s) →
    ((stnPort s p).lq = o :: l) →
    (Acts s) →
    (stnHolder s = true) →
    (portUp s p = true) →
    ((stOf s o.station).state ≠ .unused) →
    Answers (.outputImage p) s fun r =>
      (stnPort r p).lq = l ∧ (stOf r o.station).outSeq = ((stOf s o.station).outSeq + 1) % 2 ^ 32 ∧ (stOf r o.station).held = false ∧ r.tmb.now = max s.tmb.now o.e.instant) ∧
  (∀ (t p : Nat) (s : State), (canonical s) →
    (flag s fStnCtrlDiscoverEn = true) →
    (p < 4) →
    (portUp s p = true) →
    Answers (.discoverTx t) s fun r =>
      (stnPort r p).q = (stnPort s p).q ++ [⟨le (stnPort s p).desc 3 1, ethFrame (stnPort s p).desc (List.replicate 6 0xFF) 0x88B5 (wspFrame 1 1 0xFFFF ([1, 3] ++ zeros 6)), false, .plain, 0⟩] ∧ r.tmb.now = max s.tmb.now t) ∧
  (∀ (p t : Nat) (mac f : Bytes) (s : State), (portUp s p = true) →
    (stationByMac s mac = none) →
    (wspMalformed f = false) →
    (40 ≤ le f 4 2) →
    (le f 0 1 = 1) →
    (le f 18 2 = 0) →
    (allZero (slice f 29 3) = true) →
    (le f 11 1 ≤ 7) →
    (le f 10 1 ≤ 3) →
    Answers (.wspHelloRx p mac f t) s fun r =>
      (⟨mac, p, le f 8 1, le f 9 1, le f 32 4, le f 36 4⟩ : Disc) ∈ r.stn.disc ∧ r.tmb.now = max s.tmb.now t) ∧
  (∀ (p t n v : Nat) (mac f : Bytes) (l : List Nat) (s : State), (canonical s) →
    (portUp s p = true) →
    (stationByMac s mac = some n) →
    (wspMalformed f = false) →
    (40 ≤ le f 4 2) →
    (le f 0 1 = 1) →
    (le f 1 1 = 2) →
    (le f 2 2 = n ∨ le f 2 2 = 0xFFFF) →
    (le f 18 2 = 0) →
    (allZero (slice f 29 3) = true) →
    (le f 11 1 ≤ 7) →
    (le f 10 1 ≤ 3) →
    ((stOf s n).state = .waitHello) →
    (versionsFor (stOf s n) (le f 8 1) (le f 9 1) = v :: l) →
    Answers (.wspHelloRx p mac f t) s fun r =>
      (stOf r n).state = .configuring ∧ (stOf r n).ver = v ∧ (stOf r n).retries = 0 ∧ (stOf r n).due = max s.tmb.now t + 10000000 ∧ r.tmb.now = max s.tmb.now t) ∧
  (∀ (p t n : Nat) (mac f : Bytes) (s : State), (canonical s) →
    (portUp s p = true) →
    (stationByMac s mac = some n) →
    (wspMalformed f = false) →
    (4 ≤ le f 4 2) →
    (le f 2 2 = n) →
    ((stOf s n).state = .configuring) →
    (le f 0 1 = (stOf s n).ver) →
    (le f 10 1 = 0) →
    (le f 8 2 = layoutId (stOf s n)) →
    Answers (.wspConfigAckRx p mac f t) s fun r =>
      (stOf r n).state = .run ∧ (stOf r n).lastCommit = max s.tmb.now t ∧ (stOf r n).lastSeq = none ∧ r.tmb.now = max s.tmb.now t) ∧
  (∀ (p t n : Nat) (raw : Int) (mac f : Bytes) (s : State), (canonical s) →
    (portUp s p = true) →
    (stationByMac s mac = some n) →
    (wspMalformed f = false) →
    (le f 2 2 = n) →
    ((stOf s n).state = .run) →
    (le f 0 1 = (stOf s n).ver) →
    (le f 14 2 = layoutId (stOf s n)) →
    (le f 12 1 = 0) →
    (le f 13 1 = 0) →
    (imageBytes ((stOf s n).ins.map (·.2)) ≤ 1476) →
    (le f 4 2 = 16 + imageBytes ((stOf s n).ins.map (·.2))) →
    ((stOf s n).recent = []) →
    ((stOf s n).reasm = none) →
    ((stOf s n).lastSeq = none) →
    (le f 16 8 ≤ max s.tmb.now t) →
    Answers (.wspInputRx p mac f raw t) s fun r =>
      (stOf r n).state = .run ∧ (stOf r n).lastSeq = some (le f 8 4) ∧ (stOf r n).lastIn = le f 16 8 ∧ (stOf r n).lastCommit = max s.tmb.now t ∧ r.tmb.now = max s.tmb.now t) ∧
  (∀ (p kind t : Nat) (mac f : Bytes) (s : State), (canonical s) →
    (portUp s p = true) →
    Answers (.ethFrameDiscard p kind mac f t) s fun r =>
      (stnPort r p).rx = ((stnPort s p).rx + 1) % 2 ^ 32 ∧ (stnPort r p).q = (stnPort s p).q ∧ r.tmb.now = max s.tmb.now t) ∧
  (∀ (n : Nat) (s : State), (canonical s) →
    ((stOf s n).state = .configuring) →
    ((stOf s n).retries < 3) →
    Answers (.configRetryTimeout n) s fun r =>
      (stOf r n).state = .configuring ∧ (stOf r n).retries = (stOf s n).retries + 1 ∧ (stOf r n).due = max s.tmb.now (stOf s n).due + 10000000 ∧ r.tmb.now = max s.tmb.now (stOf s n).due) ∧
  (∀ (n : Nat) (s : State), (canonical s) →
    ((stOf s n).state = .configuring) →
    (3 ≤ (stOf s n).retries) →
    Answers (.configRetryTimeout n) s fun r =>
      (stOf r n).state = .failed ∧ r.tmb.now = max s.tmb.now (stOf s n).due) ∧
  (∀ (n : Nat) (m : Reasm) (s : State), (canonical s) →
    ((stOf s n).reasm = some m) →
    Answers (.reassemblyTimeout n) s fun r =>
      (stOf r n).reasm = none ∧ (stOf r n).state = (stOf s n).state ∧ r.tmb.now = max s.tmb.now (m.first + enReasm (stOf s n).entry)) ∧
  (∀ (n : Nat) (s : State), (canonical s) →
    ((stOf s n).state = .run) →
    Answers (.stationTimeout n) s fun r =>
      (stOf r n).state = .lost ∧ (stOf r n).reasm = none ∧ r.tmb.now = max s.tmb.now ((stOf s n).lastCommit + enTimeout (stOf s n).entry))

/-- CAN_CONFIG that passes its checks takes effect on an idle bus, else at the end of the frame on it; integration ends by 11 recessive
bits. CAN_FILTER that passes its checks replaces the list. CAN_SEND puts its frame into the queue, eligible at once or at its instant; the
eligible frame that R485 or R486 chooses is offered at an arbitration; sent, it leaves the queue and TEC falls by one; after lost
arbitration it is pending again. CAN_CANCEL of a frame not under way removes it. A frame received without a filter under ACCEPT_ALL goes
into the ring. An error of a receiver raises REC by one. RECOVER of a controller that is BUS_OFF starts the recovery, whose end leaves it
ERROR_ACTIVE with its counters 0. -/
def Obligations.CanControllersRun : Prop :=
  (∀ (h : Nat) (c : Cmd) (d : Bytes) (idle : Bool) (s : State), (canonical s) →
    (CanStart s h 0x50 c) →
    (canCheck s c.unit d = none) →
    ((canC s c.unit).underway = none) →
    ((canC s c.unit).next = []) →
    ((idle || cdMode (canC s c.unit).desc == 0) = true) →
    Answers (.canConfig h (some d) idle none) s fun r =>
      (canC r c.unit).desc = d ∧ (canC r c.unit).q = (canC s c.unit).q ∧ endStatus r h = some .ok) ∧
  (∀ (h : Nat) (c : Cmd) (d : Bytes) (s : State), (canonical s) →
    (CanStart s h 0x50 c) →
    (canCheck s c.unit d = none) →
    (cdMode (canC s c.unit).desc ≠ 0) →
    Answers (.canConfig h (some d) false none) s fun r =>
      (canC r c.unit).desc = (canC s c.unit).desc ∧ (canC r c.unit).next = (canC s c.unit).next ++ [(d, h)] ∧ running r h = true) ∧
  (∀ (h : Nat) (c : Cmd) (d : Bytes) (s : State), (canonical s) →
    (CanStart s h 0x51 c) →
    (0 < d.length) →
    (d.length ≤ 2048) →
    (d.length % 16 = 0) →
    ((chunks 16 (d.length / 16) d).any filterBad = false) →
    (((chunks 16 (d.length / 16) d).flatMap filterPoints).all (fun i => (mapFind s.pst.map i).any fun e => e.type == .uint64 && e.writers.getLsbD wCAN) = true) →
    Answers (.canFilter h (some d)) s fun r =>
      (canC r c.unit).filters = chunks 16 (d.length / 16) d ∧ endStatus r h = some .ok ∧ endResult r h = some (d.length / 16)) ∧
  (∀ (h : Nat) (c : Cmd) (d : Bytes) (s : State), (canonical s) →
    (CanStart s h 0x52 c) →
    (c.instant = 0) →
    (cfBad s c.unit d = false) →
    (canFull s c.unit d [] = false) →
    (Acts s) →
    Answers (.canSend h (some d)) s fun r =>
      (canC r c.unit).q = (canC s c.unit).q ++ [⟨⟨0, 0, false, 1, 0, some h⟩, cfClean d, true, 0, none⟩] ∧ endStatus r h = some .ok ∧ endResult r h = some (cfHandle d)) ∧
  (∀ (h : Nat) (c : Cmd) (d : Bytes) (s : State), (canonical s) →
    (CanStart s h 0x52 c) →
    (c.instant ≠ 0) →
    (s.tmb.now + canLead ≤ c.instant) →
    (cfBad s c.unit d = false) →
    (canFull s c.unit d [] = false) →
    Answers (.canSend h (some d)) s fun r =>
      (canC r c.unit).q = (canC s c.unit).q ++ [⟨⟨c.instant, 0, false, 1, 0, some h⟩, cfClean d, false, 0, none⟩] ∧ running r h = true) ∧
  (∀ (h : Nat) (c : Cmd) (y : CanFrame) (s : State), (canonical s) →
    (CanStart s h 0x53 c) →
    ((canC s c.unit).q.find? (fun y => cfHandle y.frame == c.arg) = some y) →
    ((canC s c.unit).underway ≠ some c.arg) →
    (y.e.cmd ≠ some h) →
    Answers (.canCancel h none) s fun r =>
      (canC r c.unit).q = (canC s c.unit).q.filter (fun y => cfHandle y.frame != c.arg) ∧ (canC r c.unit).underway = (canC s c.unit).underway ∧ endStatus r h = some .ok) ∧
  (∀ (c : Nat) (s : State), (canonical s) →
    (c < 8) →
    (windowOpen s 0x0D = true) →
    ((canC s c).state = .busOff) →
    Answers (.canRecover c) s fun r =>
      (canC r c).recovering = true ∧ (canC r c).state = .busOff) ∧
  (∀ (c : Nat) (x : CanFrame) (s : State), (canonical s) →
    (canDue (canC s c).q = some x) →
    (Acts s) →
    Answers (.canSendLaunch c) s fun r =>
      (canC r c).q = (canC s c).q.map (fun y => if cfHandle y.frame = cfHandle x.frame then { y with eligible := true } else y) ∧ r.tmb.now = max s.tmb.now x.e.instant) ∧
  (∀ (c sof : Nat) (y : CanFrame) (s : State), (canonical s) →
    (c < 8) →
    (cdMode (canC s c).desc = 1) →
    (canOnBus (canC s c) = true) →
    ((canC s c).underway = none) →
    (s.par.mute = false) →
    (s.pwr.stopped = false) →
    (canOffer (canC s c).desc (canC s c).q = some y) →
    Answers (.canArbitration c sof) s fun r =>
      (canC r c).underway = some (cfHandle y.frame) ∧ (canC r c).lastSof = sof ∧ r.out = s.out ++ [.can c y.frame] ∧ r.tmb.now = max s.tmb.now sof) ∧
  (∀ (c t : Nat) (y : CanFrame) (s : State), (canonical s) →
    (canFlying (canC s c) = some y) →
    ((canC s c).tec ≤ 256) →
    Answers (.canTxComplete c true none none t) s fun r =>
      (canC r c).underway = none ∧ (canC r c).q = (canC s c).q.filter (fun z => cfHandle z.frame != cfHandle y.frame) ∧ (canC r c).tec = (canC s c).tec - 1 ∧ r.tmb.now = max s.tmb.now t) ∧
  (∀ (c t : Nat) (y : CanFrame) (s : State), (canonical s) →
    (canFlying (canC s c) = some y) →
    (cdRetry (canC s c).desc = 0) →
    Answers (.canTxComplete c false none none t) s fun r =>
      (canC r c).underway = none ∧ (canC r c).q = (canC s c).q.map (fun z => if cfHandle z.frame = cfHandle y.frame then { z with attempts := z.attempts + 1 } else z) ∧ (canC r c).tec = (canC s c).tec ∧ r.tmb.now = max s.tmb.now t) ∧
  (∀ (c sof t : Nat) (f : Bytes) (s : State), (canonical s) →
    (c < 8) →
    (canOnBus (canC s c) = true) →
    ((canC s c).underway = none) →
    (f.length = 80) →
    ((cfFdf f && !cdFlag (canC s c).desc 0) = false) →
    (s.par.inStep = false) →
    ((canC s c).recv ≤ 127) →
    ((canC s c).filters = []) →
    (cdFlag (canC s c).desc 5 = true) →
    (2 ≤ cdRxRecords (canC s c).desc) →
    ((canC s c).prod = (canC s c).cons) →
    ((canC s c).prod < cdRxRecords (canC s c).desc) →
    Answers (.canFrameRx c sof f none t) s fun r =>
      (canC r c).prod = ((canC s c).prod + 1) % cdRxRecords (canC s c).desc ∧ (canC r c).recv = (canC s c).recv - 1 ∧ (canC r c).lastSof = sof ∧ r.tmb.now = max s.tmb.now t) ∧
  (∀ (c code t : Nat) (s : State), (canonical s) →
    (c < 8) →
    (1 ≤ code) →
    (code ≤ 6) →
    (canOnBus (canC s c) = true) →
    ((canC s c).underway = none) →
    Answers (.canBusError c code false none none t) s fun r =>
      (canC r c).lec = code ∧ (canC r c).recv = min ((canC s c).recv + 1) 255 ∧ r.tmb.now = max s.tmb.now t) ∧
  (∀ (c t : Nat) (s : State), (canonical s) →
    (c < 8) →
    ((canC s c).state = .busOff) →
    ((canC s c).recovering = true) →
    Answers (.canRecoveryDone c t) s fun r =>
      (canC r c).state = .errorActive ∧ (canC r c).tec = 0 ∧ (canC r c).recv = 0 ∧ (canC r c).recovering = false ∧ r.tmb.now = max s.tmb.now t) ∧
  (∀ (c t : Nat) (s : State), (canonical s) →
    (c < 8) →
    ((canC s c).integrating = true) →
    Answers (.canIntegrationDone c t) s fun r =>
      (canC r c).integrating = false ∧ (canC r c).state = (canC s c).state ∧ r.tmb.now = max s.tmb.now t) ∧
  (∀ (c t h : Nat) (d : Bytes) (s : State), (canonical s) →
    (c < 8) →
    ((canC s c).underway = none) →
    ((canC s c).next = [(d, h)]) →
    (running s h = true) →
    Answers (.canConfigEffect c t) s fun r =>
      (canC r c).desc = d ∧ (canC r c).next = [] ∧ endStatus r h = some .ok ∧ r.tmb.now = max s.tmb.now t)

/-- An accepted event that does not fold becomes a record with the next SEQ; one that folds changes its record and takes no SEQ. LOG_FREEZE
freezes the log at that instant; LOG_THAW and the freeze's maximum end it, and the queue is empty. A record whose verify fails twice retires
its page; PAGE_FAIL is cleared by the host. EVENT_RING_OPEN opens the ring of its descriptor; the oldest record of the backlog goes to the
next slot, with GAP after a loss; a copy of a record whose REPEAT changed goes there 100 ms after the last. HISTORY_OPEN with START 2 opens
the export at the next block; HISTORY_CLOSE closes it and keeps its cursor. A held change is recorded when its interval ends. FLUSH_MS after
its first record a block closes PARTIAL. The block at the cursor goes to the next slot of the export. -/
def Obligations.RecorderRuns : Prop :=
  (∀ (e : EventIn) (l : List EventIn) (s : State), (s.recd.input = e :: l) →
    (foldTry { s with recd := { s.recd with input := l } } e = none) →
    (e.sev ≠ 7) →
    (s.recd.overloadDue = false) →
    Answers (.eventAccept) s fun r =>
      r.recd.input = l ∧ r.recd.nextSeq = (s.recd.nextSeq + 1) % 2 ^ 32 ∧ r.recd.dropped = false ∧ r.tmb = s.tmb) ∧
  (∀ (e : EventIn) (l : List EventIn) (u : State) (s : State), (s.recd.input = e :: l) →
    (foldTry { s with recd := { s.recd with input := l } } e = some u) →
    (e.sev ≠ 7) →
    (u.recd.overloadDue = false) →
    Answers (.eventAccept) s fun r =>
      r = u ∧ r.recd.nextSeq = s.recd.nextSeq ∧ r.recd.input = l) ∧
  (∀ (slot : Nat) (lost : List Nat) (e : EventRec) (s : State), (canonical s) →
    (s.mram.log.slots.get slot = some e) →
    Answers (.logWriteVerify slot false false lost) s fun r =>
      (r.mram.log.pages.get (slot / 64)).retired = true ∧ r.mram.log.retired = s.mram.log.retired + 1 ∧ fld r fRecStatusPageFail = 1 ∧ FaultSrc.pageFail ∈ r.pwr.faults) ∧
  (∀ (slot : Nat) (second : Bool) (lost : List Nat) (e : EventRec) (s : State), (s.mram.log.slots.get slot = some e) →
    Answers (.logWriteVerify slot true second lost) s fun r =>
      r = s) ∧
  (∀ (s : State), (canonical s) →
    (windowOpen s 0x11 = true) →
    Answers (.pageFailClear) s fun r =>
      fld r fRecStatusPageFail = 0 ∧ FaultSrc.pageFail ∉ r.pwr.faults) ∧
  (∀ (h : Nat) (c : Cmd) (s : State), (CanStart s h 0x61 c) →
    Answers (.logFreeze h) s fun r =>
      r.recd.frozen = some s.tmb.now ∧ r.recd.holding.length = s.recd.holding.length ∧ endStatus r h = some .ok) ∧
  (∀ (h : Nat) (c : Cmd) (t : Nat) (s : State), (canonical s) →
    (CanStart s h 0x62 c) →
    (s.recd.frozen = some t) →
    Answers (.logThaw h) s fun r =>
      r.recd.frozen = none ∧ r.recd.holding = [] ∧ endStatus r h = some .ok ∧ endResult r h = some s.recd.holding.length) ∧
  (∀ (t : Nat) (s : State), (s.recd.frozen = some t) →
    Answers (.freezeMaxExpiry) s fun r =>
      r.recd.frozen = none ∧ r.recd.holding = [] ∧ r.tmb.now = max s.tmb.now (t + fld s fRecCtrlFreezeMaxS * 1000000000)) ∧
  (∀ (h : Nat) (c : Cmd) (d : Bytes) (g : EvRing) (k : Option Nat) (s : State), (CanStart s h 0x63 c) →
    (evRingParse d).toOption = some (g, 0xFFFFFFFF) →
    (s.recd.evRing = none) →
    Answers (.eventRingOpen h (some d) k) s fun r =>
      r.recd.evRing.map (fun x => (x.base, x.records, x.msix, x.minSev, x.prod, x.cons)) = some (g.base, g.records, g.msix, g.minSev, 0, 0) ∧ endStatus r h = some .ok) ∧
  (∀ (t : Nat) (g : EvRing) (e : EventRec) (l : List EventRec) (s : State), (s.recd.evRing = some g) →
    (g.backlog = e :: l) →
    (ringSpace g.prod g.cons g.records = true) →
    Answers (.eventRingDelivery t none true) s fun r =>
      r.recd.evRing.map (fun x => (x.prod, x.backlog, x.gap)) = some ((g.prod + 1) % g.records, l, false) ∧ r.out = s.out ++ .host (g.base + 64 * g.prod) (evBytes { e with gap := e.gap || g.gap }) :: (if g.irqRecords ≤ g.sinceIrq + 1 then [.irq g.msix] else []) ∧ r.tmb.now = max s.tmb.now t) ∧
  (∀ (q t k : Nat) (g : EvRing) (u : UpdateDue) (e : EventRec) (s : State), (s.recd.evRing = some g) →
    (g.updates.find? (fun u => u.seq == q && u.due) = some u) →
    (logFind s.mram.log q = some (k, e)) →
    ((u.last.all fun l => decide (l + 100000000 ≤ max s.tmb.now t)) = true) →
    (ringSpace g.prod g.cons g.records = true) →
    Answers (.repeatUpdateDelivery q t none true) s fun r =>
      r.recd.evRing.map (fun x => (x.prod, x.updates)) = some ((g.prod + 1) % g.records, g.updates.map fun x => if x.seq = q then { x with due := false, last := some (max s.tmb.now t) } else x) ∧ r.out = s.out ++ .host (g.base + 64 * g.prod) (evBytes { e with gap := e.gap || g.gap, repeatUpdate := true }) :: (if g.irqRecords ≤ g.sinceIrq + 1 then [.irq g.msix] else []) ∧ r.tmb.now = max s.tmb.now t) ∧
  (∀ (id u : Nat) (x l : HistRec) (s : State), (canonical s) →
    ((s.recd.hist.get id).held = some x) →
    ((s.recd.hist.get id).last = some l) →
    (x.id = id) →
    (u = max s.tmb.now (l.stamp + fld s (fRecHclassMinIntervalUs ((s.pst.points.get id).hclass % 256)) * 1000)) →
    (s.recd.histSec ≠ u / 1000000000 ∨ s.recd.histCount < 200000000) →
    Answers (.historyHoldRelease id) s fun r =>
      (r.recd.hist.get id).held = none ∧ (r.recd.hist.get id).last = some { x with gap := (s.recd.hist.get id).lost } ∧ (r.recd.hist.get id).lost = false ∧ r.tmb.now = u) ∧
  (∀ (s : State), (s.recd.block ≠ []) →
    (s.recd.ring.length < histRingMax) →
    Answers (.historyBlockClose) s fun r =>
      r.recd.block = [] ∧ r.recd.nextBlock = s.recd.nextBlock + 1 ∧ r.recd.ring = s.recd.ring ++ [⟨s.recd.nextBlock, curEpoch s, true, (s.pst.map.getD default).build, s.recd.block⟩] ∧ r.tmb.now = max s.tmb.now (s.recd.blockFirst + fld s fRecCtrlFlushMs * 1000000)) ∧
  (∀ (h : Nat) (c : Cmd) (d : Bytes) (x : HistExport) (k : Option Nat) (s : State), (CanStart s h 0x64 c) →
    (histExportParse d).toOption = some (x, 2) →
    (s.recd.exp = none) →
    Answers (.historyOpen h (some d) k) s fun r =>
      r.recd.exp = some x ∧ r.recd.expCursor = s.recd.nextBlock ∧ endStatus r h = some .ok) ∧
  (∀ (h : Nat) (c : Cmd) (s : State), (CanStart s h 0x65 c) →
    (s.recd.exp ≠ none) →
    Answers (.historyClose h) s fun r =>
      r.recd.exp = none ∧ r.recd.expCursor = s.recd.expCursor ∧ endStatus r h = some .ok) ∧
  (∀ (t : Nat) (x : HistExport) (b : HistBlock) (s : State), (s.recd.exp = some x) →
    (s.recd.gapMark = none) →
    (s.recd.ring.find? (fun b => b.seq == s.recd.expCursor) = some b) →
    (ringSpace x.prod x.cons x.blocks = true) →
    Answers (.historyExport t none true) s fun r =>
      r.recd.exp.map (·.prod) = some ((x.prod + 1) % x.blocks) ∧ r.recd.expCursor = s.recd.expCursor + 1 ∧ r.out = s.out ++ .host (x.base + 4096 * x.prod) (blockBytes b (max s.tmb.now t) s.recd.expLost) :: (if x.irqBlocks ≤ x.sinceIrq + 1 then [.irq x.msix] else []) ∧ r.tmb.now = max s.tmb.now t)

/-- Each lane of an enabled port sends a heartbeat with the running count; a received one renews its lane. A lane without its lock is lost
and the port DEGRADED; without heartbeats on both the port is DOWN. Block lock starts training; a LINK_HELLO of major version 1 gives the
port its version, another one takes it DOWN until its retry; 10 ms of lock after it the port is UP, or DEGRADED on one lane. An announcement
takes the class's next SEQ; one received renews its module; the master follows the best claim. The master requests and answers with the next
SEQ of TIME; a member keeps the stamps of a request of its master and ends the exchange with the round trip. Without the master's time a
member loses its lock and its source. A due point of an element is sent and noted with its SEQ; a replicated record that the map admits is
written. -/
def Obligations.WaligLinkRuns : Prop :=
  (∀ (t : Nat) (b : Bytes) (s : State), (b = leBytes 1 0x4B ++ leBytes 1 (moduleNo s) ++ leBytes 1 (parCode s) ++ leBytes 2 s.wlk.hbSent) →
    Answers (.wlkHeartbeatTx t) s fun r =>
      r.wlk.hbSent = (s.wlk.hbSent + 1) % 65536 ∧ r.out = s.out ++ (wPorts.filter (wPortEn s)).flatMap (fun p => [.heartbeat p 0 b, .heartbeat p 1 b]) ∧ r.tmb.now = max s.tmb.now t) ∧
  (∀ (p lane m st n t : Nat) (s : State), (canonical s) →
    (p < 4) →
    (lane < 2) →
    (wPortEn s p = true) →
    ((laneOf (wPort s p) lane).lock = true) →
    Answers (.wlkHeartbeatRx p lane m st n t) s fun r =>
      (wPort r p).hbCount = n % 65536 ∧ (wPort r p).peer = m % 64 ∧ (laneOf (wPort r p) lane).hb = max s.tmb.now t ∧ r.tmb.now = max s.tmb.now t) ∧
  (∀ (p lane t : Nat) (s : State), (canonical s) →
    (p < 4) →
    (lane < 2) →
    (wPortUp s p = true) →
    ((laneOf (wPort s p) lane).works = true) →
    Answers (.wlkLaneLoss p lane true t) s fun r =>
      (laneOf (wPort r p) lane).works = false ∧ (laneOf (wPort r p) lane).lock = false ∧ (wPort r p).state = .degraded ∧ r.tmb.now = max s.tmb.now t) ∧
  (∀ (p t : Nat) (s : State), (canonical s) →
    (p < 4) →
    (wPortUp s p = true) →
    ((wPort s p).lane0.hb + 6000 ≤ t) →
    ((wPort s p).lane1.hb + 6000 ≤ t) →
    Answers (.wlkPortDown p t) s fun r =>
      (wPort r p).state = .down ∧ (wPort r p).lane0.works = false ∧ (wPort r p).lane1.works = false ∧ r.tmb.now = max s.tmb.now t) ∧
  (∀ (p t u : Nat) (s : State), (canonical s) →
    (p < 4) →
    ((wPort s p).stable = some u) →
    ((wPort s p).state = .training) →
    ((wPort s p).hello = true) →
    (u + 10000000 ≤ t) →
    Answers (.wlkRetrainDone p t) s fun r =>
      (wPort r p).state = (if (wPort s p).lane0.lock && (wPort s p).lane1.lock then .up else .degraded) ∧ (wPort r p).lane0.works = (wPort s p).lane0.lock ∧ (wPort r p).lane1.works = (wPort s p).lane1.lock ∧ r.tmb.now = max s.tmb.now t) ∧
  (∀ (p t v : Nat) (b : Bytes) (s : State), (canonical s) →
    (p < 4) →
    (wPortEn s p = true) →
    (((wPort s p).lane0.lock || (wPort s p).lane1.lock) = true) →
    (wMalformed b = false) →
    ((wParse b).cls = clsMGMT) →
    ((wParse b).typ = 1) →
    (wCrcOk b = true) →
    (v = le (wParse b).payload 0 2) →
    (v / 256 = 1) →
    Answers (.linkHelloRx p b t) s fun r =>
      (wPort r p).hello = true ∧ (wPort r p).ver = min v 0x0101 ∧ (wPort r p).peer = le (wParse b).payload 2 1 % 64 ∧ r.tmb.now = max s.tmb.now t) ∧
  (∀ (p t v : Nat) (b : Bytes) (s : State), (canonical s) →
    (p < 4) →
    (wPortEn s p = true) →
    (((wPort s p).lane0.lock || (wPort s p).lane1.lock) = true) →
    (wMalformed b = false) →
    ((wParse b).cls = clsMGMT) →
    ((wParse b).typ = 1) →
    (wCrcOk b = true) →
    (v = le (wParse b).payload 0 2) →
    (v / 256 ≠ 1) →
    Answers (.linkHelloRx p b t) s fun r =>
      (wPort r p).state = .down ∧ (wPort r p).retryAt = some (max s.tmb.now t + 1000000000) ∧ r.tmb.now = max s.tmb.now t) ∧
  (∀ (p t : Nat) (s : State), (canonical s) →
    (p < 4) →
    (wPortEn s p = true) →
    ((wPort s p).retryAt = some t) →
    Answers (.wlkVersionRetry p) s fun r =>
      (wPort r p).state = .training ∧ (wPort r p).stable = some (max s.tmb.now t) ∧ (wPort r p).retryAt = none ∧ r.tmb.now = max s.tmb.now t) ∧
  (∀ (p lane t : Nat) (s : State), (canonical s) →
    (p < 4) →
    (lane < 2) →
    (wPortEn s p = true) →
    Answers (.blockLock p lane t) s fun r =>
      (laneOf (wPort r p) lane).lock = true ∧ (laneOf (wPort r p) lane).hb = max s.tmb.now t ∧ (wPort r p).state = (if (wPort s p).state = .down ∧ (wPort s p).retryAt = none then .training else (wPort s p).state) ∧ r.tmb.now = max s.tmb.now t) ∧
  (∀ (t : Nat) (s : State), (canonical s) →
    (wPorts.any (wPortEn s) = true) →
    Answers (.announceTx t) s fun r =>
      r.wlk.seq.get clsMGMT = (s.wlk.seq.get clsMGMT + 1) % 2 ^ 32 ∧ r.wlk.master = masterBest (advance s t) ∧ r.tmb.now = max s.tmb.now t) ∧
  (∀ (p t : Nat) (b m : Bytes) (s : State), (canonical s) →
    (Receives s p clsMGMT 2 b t) →
    (m = (wParse b).payload) →
    Answers (.announceRx p b t) s fun r =>
      r.wlk.mods.get (le m 0 1 % 64) = some ⟨le m 1 1, le m 2 8, le m 10 1, max s.tmb.now t⟩ ∧ r.tmb.now = max s.tmb.now t) ∧
  (∀ (t m : Nat) (i : ModInfo) (s : State), (s.wlk.master = some m) →
    (s.wlk.mods.get m = some i) →
    (m ≠ moduleNo s) →
    (i.at' + 3000000 ≤ t) →
    Answers (.masterAnnounceTimeout t) s fun r =>
      r.wlk.master = masterBest (advance s t) ∧ r.tmb.now = max s.tmb.now t) ∧
  (∀ (t1 t : Nat) (s : State), (canonical s) →
    (s.wlk.master = some (moduleNo s)) →
    Answers (.syncReqTx t1 t) s fun r =>
      r.wlk.seq.get clsTIME = (s.wlk.seq.get clsTIME + 1) % 2 ^ 32 ∧ r.tmb.now = max s.tmb.now t) ∧
  (∀ (p t2 t3 t : Nat) (b m : Bytes) (s : State), (canonical s) →
    (Receives s p clsTIME 1 b t) →
    (m = (wParse b).payload) →
    (s.wlk.master = some (wParse b).src) →
    ((wParse b).src ≠ moduleNo s) →
    Answers (.syncReqRx p b t2 t3 t) s fun r =>
      r.wlk.sync = some ⟨le m 0 10, le m 10 10, t2, t3⟩ ∧ r.tmb.now = max s.tmb.now t) ∧
  (∀ (p t4 t : Nat) (b : Bytes) (s : State), (canonical s) →
    (Receives s p clsTIME 2 b t) →
    (s.wlk.master = some (moduleNo s)) →
    Answers (.syncRespRx p b t4 t) s fun r =>
      r.wlk.seq.get clsTIME = (s.wlk.seq.get clsTIME + 1) % 2 ^ 32 ∧ r.tmb.now = max s.tmb.now t) ∧
  (∀ (p t : Nat) (b m : Bytes) (mt : MasterTime) (x : SyncX) (s : State), (canonical s) →
    (Receives s p clsTIME 3 b t) →
    (m = (wParse b).payload) →
    (s.wlk.sync = some x) →
    (x.t1 = le m 0 10) →
    (s.wlk.master = some (wParse b).src) →
    (s.tmb.joined = true) →
    Answers (.syncDoneRx p b mt t) s fun r =>
      r.wlk.sync = none ∧ (wPort r p).rtt = ((syncResid x s.tmb.domOff (le m 10 10) (le m 20 10)).2 / 65536).toNat % 65536) ∧
  (∀ (t : Nat) (s : State), (canonical s) →
    (s.tmb.source = 3) →
    ((s.tmb.sources.get 3).lastMeas + 300000 ≤ t) →
    Answers (.domainTimeLoss t) s fun r =>
      r.tmb.domLock = false ∧ r.tmb.source = 0 ∧ (r.tmb.sources.get 3).valid = false ∧ r.wlk.sync = none ∧ r.tmb.now = max s.tmb.now t) ∧
  (∀ (e id t : Nat) (s : State), (canonical s) →
    (e < 256) →
    (id < 2 ^ 25) →
    (repDue (advance s t) e id = true) →
    (s.par.mute = false) →
    (s.pwr.stopped = false) →
    Answers (.replicationSend e [id] t) s fun r =>
      r.wlk.rep.get (e * 2 ^ 25 + id) = some ⟨max s.tmb.now t, (s.pst.points.get id).seq⟩ ∧ r.wlk.seq.get clsPOINT = (s.wlk.seq.get clsPOINT + 1) % 2 ^ 32 ∧ r.tmb.now = max s.tmb.now t) ∧
  (∀ (p t : Nat) (b m : Bytes) (e : MapEntry) (s : State), (canonical s) →
    (Receives s p clsPOINT 1 b t) →
    (m = (wParse b).payload) →
    (m.length = 36) →
    (le m 0 4 ≠ 0) →
    (mapFind s.pst.map (le m 0 4) = some e) →
    (e.writers.getLsbD wWALIG = true) →
    (PType.ofCode (le m 30 1) = some e.type) →
    (le m 20 8 ≤ max s.tmb.now t) →
    (s.pst.badTiles.contains (tileOf (le m 0 4)) = false) →
    (forceFind s (le m 0 4) = none) →
    ((s.pst.points.get (le m 0 4)).stamp ≤ le m 20 8) →
    Answers (.pointRecordsRx p b t) s fun r =>
      (r.pst.points.get (le m 0 4)).value = normVal e.type (BitVec.ofNat 64 (le m 12 8)) ∧ (r.pst.points.get (le m 0 4)).stamp = le m 20 8 ∧ (r.pst.points.get (le m 0 4)).seq = (s.pst.points.get (le m 0 4)).seq + 1 ∧ r.tmb.now = max s.tmb.now t)

/-- A mirrored loop input is kept for the standby's sample; an order, a digest, a command and the pins are kept as received; an ACK and its
timeout release the command that waited. GIVE_UP or a low PAIR_ACT_IN lets a STANDBY_READY module take control. A rising PAIR_ACT_IN
completes a planned switch. A standby too far behind falls out of step. A PAIR_HELLO takes the class's next SEQ; one of a partner of the
same firmware that does not hold control makes the module in control ACTIVE; another firmware is refused. Without a partner the module is
ALONE at the end of its wait. PAIR_SWITCH waits for its instant, when the module becomes STANDBY_READY. -/
def Obligations.PairingRuns : Prop :=
  (∀ (t : Nat) (b m : Bytes) (s : State), (canonical s) →
    (parEn s = true) →
    (Receives s (pairPort s) clsMIRROR 1 b t) →
    (s.par.inStep = true) →
    (m = (wParse b).payload) →
    (le m 0 1 = 8) →
    Answers (.mirrorInputRx b t) s fun r =>
      mirrored r 8 (le m 2 2) (le m 4 8) = some (m.drop 12) ∧ r.tmb.now = max s.tmb.now t) ∧
  (∀ (t : Nat) (b m : Bytes) (s : State), (canonical s) →
    (parEn s = true) →
    (Receives s (pairPort s) clsMIRROR 2 b t) →
    (s.par.inStep = true) →
    (m = (wParse b).payload) →
    Answers (.mirrorCommitOrderRx b t) s fun r =>
      r.par.order = s.par.order ++ [(le m 0 8, le m 8 8)] ∧ r.tmb.now = max s.tmb.now t) ∧
  (∀ (t : Nat) (b m : Bytes) (s : State), (canonical s) →
    (parEn s = true) →
    (Receives s (pairPort s) clsMIRROR 3 b t) →
    (s.par.state = .active ∨ s.par.state = .standbyReady) →
    (m = (wParse b).payload) →
    Answers (.mirrorDigestRx b t) s fun r =>
      r.par.digestsIn = (⟨le m 0 1, le m 2 2, le m 8 8, le m 16 8⟩ :: s.par.digestsIn).take 64 ∧ r.tmb.now = max s.tmb.now t) ∧
  (∀ (t : Nat) (b m : Bytes) (s : State), (canonical s) →
    (parEn s = true) →
    (Receives s (pairPort s) clsMIRROR 4 b t) →
    (s.par.inStep = true) →
    (m = (wParse b).payload) →
    (le m 5 1 = 3) →
    (le m 8 8 = 0) →
    Answers (.mirrorCommandRx b t) s fun r =>
      r.hif.cmds.length = s.hif.cmds.length + 1 ∧ r.hif.cmds.getLast?.map (fun c => (c.handle, c.sq, c.tag, c.data)) = some (s.hif.nextHandle, mirrorSq, le m 0 4, (slice m 16 (le m 6 2)).drop 64) ∧ r.hif.nextHandle = s.hif.nextHandle + 1 ∧ r.tmb.now = max s.tmb.now t) ∧
  (∀ (t : Nat) (b : Bytes) (a : AckWait) (s : State), (canonical s) →
    (parEn s = true) →
    (Receives s (pairPort s) clsMIRROR 5 b t) →
    (s.par.acks.find? (·.id == le (wParse b).payload 0 4) = some a) →
    Answers (.mirrorAckRx b t) s fun r =>
      r.par.acks = s.par.acks.erase a ∧ (cmdFind r a.cmd).map (·.acked) = (cmdFind s a.cmd).map (fun _ => true) ∧ r.tmb.now = max s.tmb.now t) ∧
  (∀ (t : Nat) (b : Bytes) (planned : Bool) (s : State), (canonical s) →
    (parEn s = true) →
    (Receives s (pairPort s) clsMIRROR 6 b t) →
    (s.par.state = .standbyReady) →
    Answers (.mirrorGiveUpRx b planned t) s fun r =>
      r.par.state = .active ∧ r.par.actOut = true ∧ r.par.takeCause = (if planned then 3 else 1) ∧ r.par.takeAt = max s.tmb.now t ∧ r.tmb.now = max s.tmb.now t) ∧
  (∀ (t : Nat) (b : Bytes) (regions : List XferRegion) (s : State), (canonical s) →
    (parEn s = true) →
    (Receives s (pairPort s) clsMIRROR 7 b t) →
    (s.par.state = .standbyUnsync) →
    (1 ≤ le (wParse b).payload 4 1) →
    (le (wParse b).payload 4 1 ≤ 9) →
    (le (wParse b).payload 5 1 = 3) →
    (le (wParse b).payload 8 8 = 0) →
    Answers (.mirrorXferRx b regions true t) s fun r =>
      r.par.xfer = .catchup ∧ r.par.xferAt = max s.tmb.now t ∧ r.par.order = [] ∧ r.par.state = .standbyUnsync ∧ r.tmb.now = max s.tmb.now t) ∧
  (∀ (t : Nat) (b : Bytes) (s : State), (canonical s) →
    (parEn s = true) →
    (Receives s (pairPort s) clsMIRROR 8 b t) →
    (s.par.standby = true) →
    Answers (.mirrorPinStateRx b t) s fun r =>
      r.par.pins = (wParse b).payload ∧ r.tmb.now = max s.tmb.now t) ∧
  (∀ (a : AckWait) (l : List AckWait) (s : State), (s.par.acks = a :: l) →
    Answers (.mirrorAckTimeout) s fun r =>
      r.par.acks = l ∧ r.par.follow = false ∧ (cmdFind r a.cmd).map (·.acked) = (cmdFind s a.cmd).map (fun _ => true) ∧ r.tmb.now = max s.tmb.now a.due) ∧
  (∀ (us t : Nat) (s : State), (s.par.state = .standbyReady) →
    (100 < us) →
    Answers (.standbyLagExceeded us t) s fun r =>
      r.par.state = .standbyUnsync ∧ r.par.lag = min us 255 ∧ r.tmb.now = max s.tmb.now t) ∧
  (∀ (t : Nat) (s : State), (canonical s) →
    (parEn s = true) →
    (wPortUp s (pairPort s) = true) →
    Answers (.pairHelloTx t) s fun r =>
      r.wlk.seq.get clsMGMT = (s.wlk.seq.get clsMGMT + 1) % 2 ^ 32 ∧ r.tmb.now = max s.tmb.now t) ∧
  (∀ (t : Nat) (b m : Bytes) (s : State), (canonical s) →
    (parEn s = true) →
    (Receives s (pairPort s) clsMGMT 3 b t) →
    (m = (wParse b).payload) →
    (bit (le m 0 1) 0 ≠ s.pwr.pairId) →
    (le m 2 2 = fwEcn s) →
    (s.par.state = .alone ∨ s.par.state = .active) →
    (le m 1 1 % 8 = 4 ∨ le m 1 1 % 8 = 5) →
    Answers (.pairHelloRx b t) s fun r =>
      r.par.state = .active ∧ r.par.partnerState = le m 1 1 % 8 ∧ r.par.partnerSerial = le m 8 8 ∧ r.tmb.now = max s.tmb.now t) ∧
  (∀ (t : Nat) (b m : Bytes) (s : State), (canonical s) →
    (parEn s = true) →
    (Receives s (pairPort s) clsMGMT 3 b t) →
    (m = (wParse b).payload) →
    (le m 2 2 ≠ fwEcn s) →
    Answers (.pairHelloRx b t) s fun r =>
      r.par.state = s.par.state ∧ r.par.refusedNoted = true ∧ r.tmb.now = max s.tmb.now t) ∧
  (∀ (planned : Bool) (t : Nat) (s : State), (s.par.state = .standbyReady) →
    Answers (.pairActInLow planned t) s fun r =>
      r.par.state = .active ∧ r.par.actIn = false ∧ r.par.actOut = true ∧ r.par.takeCause = (if planned then 3 else 2) ∧ r.tmb.now = max s.tmb.now t) ∧
  (∀ (t i h : Nat) (s : State), (s.par.state = .standbyReady) →
    (s.par.switch = some (i, h)) →
    (running s h = true) →
    Answers (.pairActInRise t) s fun r =>
      r.par.actIn = true ∧ r.par.switch = none ∧ endStatus r h = some .ok ∧ r.tmb.now = max s.tmb.now t) ∧
  (∀ (h : Nat) (c : Cmd) (s : State), (CanStart s h 0x68 c) →
    (s.par.state = .active) →
    (s.par.partnerState = PairState.standbyReady.code) →
    (s.tmb.now + 1000000 ≤ c.instant) →
    (s.par.switch = none) →
    Answers (.pairSwitch h) s fun r =>
      r.par.switch = some (c.instant, h) ∧ r.par.state = .active ∧ running r h = true) ∧
  (∀ (i h : Nat) (s : State), (canonical s) →
    (s.par.switch = some (i, h)) →
    (s.par.state = .active) →
    (s.par.partnerState = PairState.standbyReady.code) →
    Answers (.pairSwitchInstant) s fun r =>
      r.par.state = .standbyReady ∧ r.par.actOut = false ∧ r.par.gaveAt = some i ∧ r.tmb.now = max s.tmb.now i) ∧
  (∀ (t : Nat) (s : State), (s.par.waitEnd = some t) →
    (s.par.state = .forming) →
    Answers (.pairWaitEnd) s fun r =>
      r.par.state = .alone ∧ r.par.actOut = true ∧ r.par.waitEnd = none ∧ r.tmb.now = max s.tmb.now t)

/-- An automatic resynchronisation starts a transfer. A pass that leaves at most 16 MiB ends the copying; at a cut the mirror begins and the
standby catches up. Without a cut in 10 s the transfer fails with TIMEOUT. A standby caught up is STANDBY_READY, and the module in control
knows it; beyond CATCHUP_MS the transfer fails. A self-test without failed checks renews its time; failed checks assert FAULT_N; 24 h
without a pass is overdue. -/
def Obligations.TransfersAndSelfTestsRun : Prop :=
  (∀ (t : Nat) (s : State), (s.par.state = .active) →
    (s.par.resync ≠ none) →
    (flag s fParCtrlAutoResync = true) →
    (wPortUp s (pairPort s) = true) →
    (s.par.partnerState = PairState.standbyUnsync.code) →
    (s.par.xfer = .none) →
    Answers (.autoResyncStart t) s fun r =>
      r.par.xfer = .copying ∧ r.par.xferAt = max s.tmb.now t ∧ r.par.resync = none ∧ r.par.xferStatus = .inProgress ∧ r.tmb.now = max s.tmb.now t) ∧
  (∀ (left t : Nat) (s : State), (s.par.state = .active) →
    (s.par.xfer = .copying) →
    (left ≤ 16777216) →
    Answers (.xferPassEnd left none t) s fun r =>
      r.par.xfer = .cut ∧ r.par.passes = s.par.passes + 1 ∧ r.par.dirty = (left + 1023) / 1024 ∧ r.tmb.now = max s.tmb.now t) ∧
  (∀ (left t c : Nat) (s : State), (canonical s) →
    (s.par.state = .active) →
    (s.par.xfer = .copying) →
    (left ≤ 16777216) →
    (noItems s = true) →
    Answers (.xferPassEnd left (some c) t) s fun r =>
      r.par.xfer = .catchup ∧ r.par.cutFrom = some c ∧ r.par.follow = true ∧ r.tmb.now = max (max s.tmb.now t) c) ∧
  (∀ (t : Nat) (s : State), (s.par.state = .active) →
    (s.par.xfer = .cut) →
    (s.par.xferAt + 10000000000 ≤ t) →
    Answers (.xferCutTimeout none t) s fun r =>
      r.par.xfer = .failed ∧ r.par.xferStatus = .timeout ∧ r.tmb.now = max s.tmb.now t) ∧
  (∀ (t : Nat) (s : State), (s.par.state = .standbyUnsync) →
    (s.par.xfer = .catchup) →
    Answers (.xferCatchupDone t) s fun r =>
      r.par.state = .standbyReady ∧ r.par.xfer = .done ∧ r.tmb.now = max s.tmb.now t) ∧
  (∀ (t h : Nat) (s : State), (s.par.state = .active) →
    (s.par.xfer = .catchup) →
    (s.par.xferCmd = some h) →
    (running s h = true) →
    Answers (.xferCatchupDone t) s fun r =>
      r.par.partnerState = PairState.standbyReady.code ∧ r.par.xfer = .done ∧ r.par.xferCmd = none ∧ endStatus r h = some .ok ∧ r.tmb.now = max s.tmb.now t) ∧
  (∀ (t : Nat) (s : State), (s.par.xfer = .catchup) →
    (s.par.xferAt + fld s fParCtrlCatchupMs * 1000000 ≤ t) →
    Answers (.catchupTimeout t) s fun r =>
      r.par.xfer = .failed ∧ r.par.xferStatus = .timeout ∧ r.tmb.now = max s.tmb.now t) ∧
  (∀ (t : Nat) (s : State), Answers (.selftestPass 0 t) s fun r =>
      r.par.selfProgress = 100 ∧ r.par.overdue = false ∧ r.par.selfAt = max s.tmb.now t ∧ r.par.selfFails = min s.par.selfFails 255 ∧ r.tmb.now = max s.tmb.now t) ∧
  (∀ (fails t : Nat) (s : State), (0 < fails) →
    Answers (.selftestPass fails t) s fun r =>
      r.par.selfProgress = 100 ∧ r.par.selfFails = min (s.par.selfFails + fails) 255 ∧ FaultSrc.selftest ∈ r.pwr.faults ∧ r.par.state ≠ .active ∧ r.par.state ≠ .standbyReady ∧ r.tmb.now = max s.tmb.now t) ∧
  (∀ (t : Nat) (s : State), (s.par.overdue = false) →
    (s.par.selfAt + 86400000000000 ≤ t) →
    Answers (.selftestOverdue t) s fun r =>
      r.par.overdue = true ∧ r.tmb.now = max s.tmb.now t)

/-- A reading is a sensor's value with its instant; beyond its limits the sensor warns. A fault of supply, clock or temperature asserts
FAULT_N, marks its sensor and stops every launch; a lost AON clock makes the restart count invalid; with AUTO_RESTART a restart falls due. A
poll that a device answers gives its four sensors; one it does not answer counts; an alert reads the status words. A watchdog of Hendel
leaves power and the Cycle Engine alone. A missing heartbeat under WD_RESTART, and the host's RESTART, make a warm restart due. A coarse
mark holds the Timeline, the Epoch and the frequency. A PERSIST item written takes force in the boot bank; one that does not fit does not.
BILLET_ACTIVATE puts the staged bank on trial. BILLET_CONFIRM collects groups; with all five the running bank is ACTIVE. The end of
probation fails the trial bank. ATTEST takes the next leaf. SENSOR_READ writes the 120 records. RTV_UNLOCK with a valid signature marks the
part RETURNED. -/
def Obligations.HendelRuns : Prop :=
  (∀ (n t : Nat) (v : Int) (s : State), (canonical s) →
    (n < 56) →
    Answers (.sensorReading n v t) s fun r =>
      (r.hdl.sensor.get n).value = v ∧ (r.hdl.sensor.get n).valid = true ∧ (r.hdl.sensor.get n).bad = false ∧ (r.hdl.sensor.get n).stamp = max s.tmb.now t ∧ r.tmb.now = max s.tmb.now t) ∧
  (∀ (n t : Nat) (v : Int) (s : State), (canonical s) →
    (n < 56) →
    (v < signed 16 (fld s (fHdlSensorWarnLo n)) ∨ signed 16 (fld s (fHdlSensorWarnHi n)) < v) →
    Answers (.sensorReading n v t) s fun r =>
      (r.hdl.sensor.get n).value = v ∧ (r.hdl.sensor.get n).warn = true) ∧
  (∀ (n t : Nat) (s : State), (canonical s) →
    (24 ≤ n) →
    (n < 42) →
    Answers (.supplyFault n t) s fun r =>
      FaultSrc.supply ∈ r.pwr.faults ∧ r.pwr.supplyBad = true ∧ r.pwr.stopped = true ∧ (r.hdl.sensor.get n).fault = true ∧ r.tmb.now = max s.tmb.now t) ∧
  (∀ (d t : Nat) (s : State), (canonical s) →
    (d < 13) →
    (d ≠ 7) →
    Answers (.clockFault d t) s fun r =>
      FaultSrc.clock ∈ r.pwr.faults ∧ r.pwr.clockBad = true ∧ r.pwr.stopped = true ∧ (r.hdl.sensor.get (42 + d)).fault = true ∧ r.tmb.now = max s.tmb.now t) ∧
  (∀ (t : Nat) (s : State), Answers (.clockFault 13 t) s fun r =>
      FaultSrc.aonClock ∈ r.pwr.faults ∧ r.pwr.aonBad = true ∧ r.pwr.stopped = s.pwr.stopped ∧ r.tmb.now = max s.tmb.now t) ∧
  (∀ (n t : Nat) (s : State), (canonical s) →
    (n < 24) →
    Answers (.tempCrit n t) s fun r =>
      FaultSrc.tempCrit ∈ r.pwr.faults ∧ r.pwr.hot = true ∧ r.pwr.stopped = true ∧ (r.hdl.sensor.get n).fault = true ∧ r.tmb.now = max s.tmb.now t) ∧
  (∀ (t : Nat) (s : State), (flag s fHdlCtrlAutoRestart = true) →
    ((s.pwr.supplyBad || s.pwr.clockBad || s.pwr.hot) = true) →
    Answers (.faultAutoRestart t) s fun r =>
      r.pwr.due.isSome = true ∧ r.pwr.up = s.pwr.up ∧ r.tmb.now = max s.tmb.now t) ∧
  (∀ (d w t : Nat) (v i c : Int) (s : State), (canonical s) →
    (d < 16) →
    (flag s (fHdlPmbusEn d) = true) →
    Answers (.pmbusPoll d (some (v, i, c, w)) t) s fun r =>
      (r.hdl.sensor.get (56 + 4 * d)).value = v ∧ (r.hdl.sensor.get (57 + 4 * d)).value = i ∧ (r.hdl.sensor.get (58 + 4 * d)).value = c ∧ (r.hdl.sensor.get (59 + 4 * d)).value = w ∧ r.hdl.pmFails.get d = 0 ∧ r.tmb.now = max s.tmb.now t) ∧
  (∀ (d t : Nat) (s : State), (canonical s) →
    (d < 16) →
    (flag s (fHdlPmbusEn d) = true) →
    Answers (.pmbusPoll d none t) s fun r =>
      r.hdl.pmFails.get d = s.hdl.pmFails.get d + 1 ∧ (r.hdl.sensor.get (56 + 4 * d)).bad = ((s.hdl.sensor.get (56 + 4 * d)).bad || s.hdl.pmFails.get d == 2) ∧ r.tmb.now = max s.tmb.now t) ∧
  (∀ (d w t : Nat) (l : List (Option Nat)) (s : State), (canonical s) →
    (d < 16) →
    (flag s (fHdlPmbusEn d) = true) →
    (l.getD d none = some w) →
    Answers (.pmbusAlert l t) s fun r =>
      (r.hdl.sensor.get (59 + 4 * d)).value = w ∧ r.tmb.now = max s.tmb.now t) ∧
  (∀ (t : Nat) (s : State), Answers (.hdlWatchdog t) s fun r =>
      r.pwr = s.pwr ∧ r.cyc = s.cyc ∧ r.hdl = s.hdl ∧ r.tmb.now = max s.tmb.now t) ∧
  (∀ (t : Nat) (s : State), (flag s fHdlCtrlWdRestart = true) →
    (s.pwr.up = true) →
    Answers (.controlHeartbeatMissing t) s fun r =>
      r.pwr.due = some 5 ∧ r.tmb.now = max s.tmb.now t) ∧
  (∀ (s : State), (s.pwr.up = true) →
    (windowOpen s 0x12 = true) →
    Answers (.hdlRestart) s fun r =>
      r.pwr.due = some 4 ∧ r.pwr.up = true ∧ r.tmb = s.tmb) ∧
  (∀ (t : Nat) (s : State), Answers (.coarseMarkWrite t) s fun r =>
      r.hdl.coarse.head?.map (·.mark) = some ⟨max s.tmb.now t, curEpoch s, s.tmb.freqEst⟩ ∧ r.hdl.coarse.tail = s.hdl.coarse.take 16383 ∧ r.tmb.now = max s.tmb.now t) ∧
  (∀ (t : Nat) (x : BootItem) (l : List BootItem) (fits : Bool) (s : State), (s.hdl.writes = x :: l) →
    Answers (.bootBankWriteDone fits t) s fun r =>
      r.hdl.boot = (if fits then bootTake s.hdl.boot x else s.hdl.boot) ∧ r.hdl.writes = l ∧ r.tmb.now = max s.tmb.now t) ∧
  (∀ (h n : Nat) (c : Cmd) (s : State), (canonical s) →
    (CanStart s h 0x71 c) →
    (bankIn s .staged = some n) →
    (s.par.state ≠ .active) →
    ((s.hif.cmds.any fun c => (c.opcode == 0x69 || c.opcode == 0x70) && c.ended.isNone) = false) →
    (s.cyc.weld.state = .none) →
    Answers (.billetActivate h) s fun r =>
      (r.hdl.bank.get n).state = .trial ∧ (r.hdl.bank.get n).billet = (s.hdl.bank.get n).billet ∧ r.pwr.due = some 2 ∧ endStatus r h = some .ok) ∧
  (∀ (h t : Nat) (c : Cmd) (s : State), (canonical s) →
    (CanStart s h 0x72 c) →
    (s.hdl.probation = some t) →
    (c.arg < 32) →
    (s.hdl.confirmed ||| c.arg ≠ 31) →
    Answers (.billetConfirm h) s fun r =>
      r.hdl.confirmed = s.hdl.confirmed ||| c.arg ∧ r.hdl.probation = some t ∧ r.hdl.bank = s.hdl.bank ∧ endStatus r h = some .ok) ∧
  (∀ (h t : Nat) (c : Cmd) (s : State), (canonical s) →
    (CanStart s h 0x72 c) →
    (s.hdl.probation = some t) →
    (c.arg < 32) →
    (s.hdl.confirmed ||| c.arg = 31) →
    Answers (.billetConfirm h) s fun r =>
      r.hdl.probation = none ∧ (r.hdl.bank.get s.hdl.running).state = .active ∧ r.hdl.oldSlot = none ∧ endStatus r h = some .ok) ∧
  (∀ (n t : Nat) (s : State), (canonical s) →
    (s.hdl.probation = some t) →
    (bankIn s .trial = some n) →
    Answers (.probationTimeout) s fun r =>
      (r.hdl.bank.get n).state = .failed ∧ r.hdl.probation = none ∧ r.hdl.lastReason = 1 ∧ r.pwr.due = some 3 ∧ r.tmb.now = max s.tmb.now (t + 60000000000)) ∧
  (∀ (h : Nat) (c : Cmd) (d : Bytes) (s : State), (canonical s) →
    (CanStart s h 0x73 c) →
    (s.hdl.leaf < 1048576) →
    ((signedRecent s).length < 4) →
    Answers (.attest h (some d) true) s fun r =>
      r.hdl.leaf = s.hdl.leaf + 1 ∧ r.hdl.signed = s.tmb.now :: signedRecent s ∧ endStatus r h = some .ok ∧ endResult r h = some (1048576 - (s.hdl.leaf + 1))) ∧
  (∀ (h : Nat) (c : Cmd) (s : State), (CanStart s h 0x74 c) →
    Answers (.sensorRead h) s fun r =>
      r.out = s.out ++ [.host c.dataAddr (sensorRecs s)] ∧ endStatus r h = some .ok ∧ endResult r h = some 120) ∧
  (∀ (h : Nat) (c : Cmd) (d : Bytes) (s : State), (canonical s) →
    (CanStart s h 0x76 c) →
    (s.cyc.state ≠ .running) →
    (s.seq.exec.entries = []) →
    (slice d 0 4 = magic 'P' 'S' 'R' 'V') →
    (unlockReserved d = false) →
    (le d 16 2 = 0x9640) →
    (le d 4 2 = 0x0100) →
    (le d 8 8 = s.hdl.otp.serial) →
    (le d 18 1 ≤ 3) →
    (bit s.hdl.otp.revoked (le d 18 1) = false) →
    Answers (.rtvUnlock h (some d)) s fun r =>
      r.hdl.otp.returned = (s.hdl.otp.returned || Config.signatureOk (le d 18 1) (slice d 0 32) (slice d 32 2820)) ∧ endStatus r h = some (if Config.signatureOk (le d 18 1) (slice d 0 32) (slice d 32 2820) then .ok else .denied))

/-- In recovery a mailbox command ends with DONE and OK: IDENTIFY fills the window; STAGE_BEGIN makes the spare bank STAGING; STAGE_DATA
copies the window into it; STAGE_END leaves it STAGED or EMPTY by the Billet's checks; ACTIVATE puts a staged bank on trial; LOG_READ and
SENSOR_READ fill the window; BOOT_BANK_CLEAR empties the boot bank; RESTART ends the firmware's run for a cold start. Outside recovery a
mailbox command ends with STATE. A whole UART frame is answered by a frame with the status and what was written to the window. A JTAG
instruction is in force in the TAP; IDCODE shifts the identity out. -/
def Obligations.MailboxAndJtagRun : Prop :=
  (∀ (s : State), (canonical s) →
    (s.hdl.recovery = true) →
    Answers (.mboxIdentify) s fun r =>
      r.hdl.mbox.done = true ∧ r.hdl.mbox.status = .ok ∧ r.hdl.mbox.bytes = (identifyBytes s 0).length) ∧
  (∀ (s : State), (canonical s) →
    (s.hdl.recovery = true) →
    (bankIn s .trial = none) →
    (bankIn s .staging = none) →
    (fld s fHdlMboxArg0 ≤ 134217728) →
    Answers (.mboxStageBegin) s fun r =>
      r.hdl.bank.get (spareBank s) = ⟨.staging, []⟩ ∧ r.hdl.mbox.stage = some (fld s fHdlMboxArg0) ∧ r.hdl.mbox.done = true ∧ r.hdl.mbox.status = .ok) ∧
  (∀ (n total : Nat) (s : State), (canonical s) →
    (s.hdl.recovery = true) →
    (bankIn s .staging = some n) →
    (s.hdl.mbox.stage = some total) →
    (0 < fld s fHdlMboxArg1) →
    (fld s fHdlMboxArg1 ≤ 65536) →
    (fld s fHdlMboxArg0 + fld s fHdlMboxArg1 ≤ total) →
    Answers (.mboxStageData) s fun r =>
      (r.hdl.bank.get n).billet = overlay (s.hdl.bank.get n).billet (fld s fHdlMboxArg0) (fit (fld s fHdlMboxArg1) s.hdl.mbox.window) ∧ (r.hdl.bank.get n).state = .staging ∧ r.hdl.mbox.done = true ∧ r.hdl.mbox.status = .ok) ∧
  (∀ (n total : Nat) (b : Bytes) (s : State), (canonical s) →
    (s.hdl.recovery = true) →
    (bankIn s .staging = some n) →
    (s.hdl.mbox.stage = some total) →
    (b = fit total (s.hdl.bank.get n).billet) →
    Answers (.mboxStageEnd) s fun r =>
      r.hdl.bank.get n = (if billetCheck s b = none then ⟨.staged, b⟩ else ⟨.empty, []⟩) ∧ r.hdl.mbox.stage = none ∧ r.hdl.mbox.done = true ∧ r.hdl.mbox.status = ((billetCheck s b).map (·.1)).getD .ok) ∧
  (∀ (n : Nat) (s : State), (canonical s) →
    (s.hdl.recovery = true) →
    (bankIn s .staged = some n) →
    Answers (.mboxActivate) s fun r =>
      (r.hdl.bank.get n).state = .trial ∧ r.pwr.due = some 2 ∧ r.hdl.mbox.done = true ∧ r.hdl.mbox.status = .ok) ∧
  (∀ (b : Bytes) (s : State), (canonical s) →
    (s.hdl.recovery = true) →
    (b = (hlogFrom s (fld s fHdlMboxArg0) (min (fld s fHdlMboxArg1) 1024)).flatMap evBytes) →
    Answers (.mboxLogRead) s fun r =>
      r.hdl.mbox.window = b ++ s.hdl.mbox.window.drop b.length ∧ r.hdl.mbox.bytes = b.length ∧ r.hdl.mbox.done = true ∧ r.hdl.mbox.status = .ok) ∧
  (∀ (s : State), (canonical s) →
    (s.hdl.recovery = true) →
    Answers (.mboxSensorRead) s fun r =>
      r.hdl.mbox.window = sensorRecs s ++ s.hdl.mbox.window.drop (sensorRecs s).length ∧ r.hdl.mbox.bytes = (sensorRecs s).length ∧ r.hdl.mbox.done = true ∧ r.hdl.mbox.status = .ok) ∧
  (∀ (s : State), (canonical s) →
    (s.hdl.recovery = true) →
    Answers (.mboxBootBankClear) s fun r =>
      r.hdl.boot = ⟨none, none, SMap.empty⟩ ∧ r.hdl.writes = [] ∧ r.hdl.mbox.done = true ∧ r.hdl.mbox.status = .ok) ∧
  (∀ (s : State), (canonical s) →
    (s.hdl.recovery = true) →
    Answers (.mboxRestart) s fun r =>
      r.pwr.up = false ∧ r.hif.ready = false ∧ r.hdl.mbox.done = true ∧ r.hdl.mbox.status = .ok) ∧
  (∀ (s : State), (windowOpen s 0x12 = true) →
    (s.hdl.recovery = false) →
    Answers (.mboxRestart) s fun r =>
      r.pwr = s.pwr ∧ r.hif = s.hif ∧ r.hdl.mbox.done = true ∧ r.hdl.mbox.status = .state) ∧
  (∀ (f q : Bytes) (s : State), (s.hdl.recovery = true) →
    (f.head? = some 0xA5) →
    (f.length = 18) →
    (le f 10 4 = 0) →
    ((crc32c (slice f 1 13)).toNat = le f 14 4) →
    (le f 1 1 = 7) →
    (q = leBytes 1 Status.ok.code ++ slice f 2 8 ++ leBytes 4 1920 ++ sensorRecs s) →
    Answers (.mgmtUartFrame f) s fun r =>
      r.out = s.out ++ [.uart (leBytes 1 0xA5 ++ q ++ leBytes 4 (crc32c q).toNat)] ∧ r.hdl.mbox.bytes = 1920) ∧
  (∀ (f q : Bytes) (s : State), (s.hdl.recovery = false) →
    (f.head? = some 0xA5) →
    (f.length = 18) →
    (le f 10 4 = 0) →
    ((crc32c (slice f 1 13)).toNat = le f 14 4) →
    (q = leBytes 1 Status.state.code ++ slice f 2 8 ++ leBytes 4 0) →
    Answers (.mgmtUartFrame f) s fun r =>
      r.out = s.out ++ [.uart (leBytes 1 0xA5 ++ q ++ leBytes 4 (crc32c q).toNat)] ∧ r.hdl.mbox.bytes = 0) ∧
  (∀ (s : State), Answers (.jtagBypass) s fun r =>
      r.pwr = { s.pwr with jtag := .bypass } ∧ r.out = s.out) ∧
  (∀ (s : State), Answers (.jtagIdcode) s fun r =>
      r.pwr = { s.pwr with jtag := .idcode } ∧ r.out = s.out ++ [.jtag (leBytes 4 0x1964054D)]) ∧
  (∀ (s : State), Answers (.jtagSamplePreload) s fun r =>
      r.pwr = { s.pwr with jtag := .sample } ∧ r.out = s.out) ∧
  (∀ (s : State), Answers (.jtagExtest) s fun r =>
      r.pwr = { s.pwr with jtag := .extest } ∧ r.out = s.out) ∧
  (∀ (s : State), Answers (.jtagTrst) s fun r =>
      r.pwr = { s.pwr with jtag := .reset } ∧ r.out = s.out)

/-- POR_N low resets the part but for MRAM and one-time programmable memory. A rail below its limit, or a trip, holds the control die in
reset; a restored rail lifts its hold. A cold start whose ACTIVE bank verifies runs that bank, HIF_READY, with the Timeline 1 s beyond its
MRAM mark; so does the one after a trip. A warm restart continues the Timeline by the AON count. PROGRAM_AUTOSTART of the boot program runs
slot 0; ILE_AUTOSTART makes the boot image the next one. -/
def Obligations.ResetsAndStartsRun : Prop :=
  (∀ (s : State), Answers (.powerOnReset) s fun r =>
      r.pwr.up = false ∧ r.hif.ready = false ∧ Hold.por ∈ r.pwr.holds ∧ r.pwr.faults = [] ∧ r.aon.lastGasp = [] ∧ r.mram = s.mram ∧ r.hdl.otp = s.hdl.otp ∧ r.tmb.now = s.tmb.now) ∧
  (∀ (x : StartIn) (n : Nat) (m : Mark) (s : State), (canonical s) →
    (s.pwr.up = false) →
    (s.pwr.holds = [] ∨ s.pwr.holds = [.por]) →
    (if s.pwr.holds = [] then s.pwr.bootMode < 2 ∧ s.pwr.recoveryPin = true else (x.straps.map fun y => decide (y.1 % 4 < 2) && y.2.1) = some true) →
    (x.mram = true) →
    (s.mram.mark = some m) →
    (bankIn s .trial = none) →
    (bankIn s .active = some n) →
    ((if n = 0 then x.bankA else x.bankB) = true) →
    Answers (.coldStart x) s fun r =>
      r.pwr.up = true ∧ r.hif.ready = true ∧ r.pst.ready = true ∧ r.hdl.running = n ∧ r.hdl.recovery = false ∧ r.pwr.restart = 0 ∧ r.tmb.now = m.value + 1000000000) ∧
  (∀ (cause k n : Nat) (x : StartIn) (s : State), (canonical s) →
    (s.pwr.holds = []) →
    (cause = 1 ∧ s.pwr.up = true ∨ s.pwr.due = some cause) →
    (x.count = some k) →
    (s.pwr.aonBad = false) →
    (s.pwr.bootMode < 2) →
    (s.pwr.recoveryPin = true) →
    (bankIn s .trial = none) →
    (bankIn s .active = some n) →
    ((if n = 0 then x.bankA else x.bankB) = true) →
    Answers (.warmRestart cause x) s fun r =>
      r.pwr.up = true ∧ r.hif.ready = true ∧ r.hdl.running = n ∧ r.pwr.restart = 1 ∧ r.pwr.cause = cause ∧ r.pwr.due = none ∧ r.tmb.now = s.tmb.now + k) ∧
  (∀ (aon : Bool) (t : Nat) (s : State), Answers (.railUndervoltage aon t) s fun r =>
      Hold.rail ∈ r.pwr.holds ∧ r.pwr.up = false ∧ r.hif.ready = false ∧ r.mram = s.mram ∧ r.tmb.now = max s.tmb.now t) ∧
  (∀ (s : State), Answers (.railRestored) s fun r =>
      r.pwr.holds = s.pwr.holds.filter (fun h => h != .rail && h != .aonRail) ∧ r.pwr.up = s.pwr.up) ∧
  (∀ (n t : Nat) (s : State), (n < 24) →
    Answers (.tempTrip n t) s fun r =>
      Hold.trip ∈ r.pwr.holds ∧ r.pwr.up = false ∧ r.hif.ready = false ∧ r.tmb.now = max s.tmb.now t) ∧
  (∀ (x : StartIn) (n : Nat) (m : Mark) (s : State), (canonical s) →
    (s.pwr.holds = [.trip]) →
    (((List.range 24).all fun n => decide ((s.hdl.sensor.get n).value < 760)) = true) →
    (s.pwr.bootMode < 2) →
    (s.pwr.recoveryPin = true) →
    (x.mram = true) →
    (s.mram.mark = some m) →
    (bankIn s .trial = none) →
    (bankIn s .active = some n) →
    ((if n = 0 then x.bankA else x.bankB) = true) →
    Answers (.tempTripRecovery x) s fun r =>
      r.pwr.up = true ∧ r.pwr.holds = [] ∧ r.hif.ready = true ∧ r.hdl.running = n ∧ r.tmb.now = m.value + 1000000000) ∧
  (∀ (t : Nat) (m : Image) (p : PointMap) (s : State), (autostarts s = true) →
    (flag s fCycCtrlAutostart = true) →
    (s.hdl.boot.program = some (m, some p)) →
    ((s.cyc.slots.get 0).image = some m) →
    ((s.cyc.slots.get 0).map = some p) →
    (s.cyc.state = .idle) →
    Answers (.programAutostart t) s fun r =>
      r.cyc.state = .running ∧ r.cyc.slot = 0 ∧ r.pst.map = some p ∧ r.cyc.startCmd = none ∧ r.tmb.now = max s.tmb.now t) ∧
  (∀ (t : Nat) (m : IleImage) (s : State), (autostarts s = true) →
    (s.hdl.boot.interlock = some m) →
    (s.ile.state = .empty) →
    (s.ile.next = none) →
    Answers (.ileAutostart t) s fun r =>
      r.ile.next = some ⟨m, ileInstant (advance s t) m (max s.tmb.now t), none⟩ ∧ r.tmb.now = max s.tmb.now t)

/-- Every command of chapters 00 and 01 (register accesses and commits, the Timeline, its sources, PTP and the timed pins) answers a next
state in every state, and leaves every part of the state unchanged but those the list mayChange gives it; the queue of waiting commands is
never among them. -/
def Obligations.TimelineFrames : Prop :=
  ∀ (c : Instr) (s : State), chapter c ≤ 1 → Answers c s (unchangedBut (mayChange c) s)

/-- Every command of chapters 02 and 03 (points, views, forces, tiles, rings, host commands and their Slices) answers a next state in every
state, and leaves every part of the state unchanged but those the list mayChange gives it. -/
def Obligations.PointAndHostFrames : Prop :=
  ∀ (c : Instr) (s : State), chapter c = 2 ∨ chapter c = 3 → Answers c s (unchangedBut (mayChange c) s)

/-- Every command of chapters 04 to 07 (cycles, programs, the online change, the Interlock Engine, work items and the custom instructions)
answers a next state in every state, and leaves every part of the state unchanged but those the list mayChange gives it. -/
def Obligations.CycleAndHearthFrames : Prop :=
  ∀ (c : Instr) (s : State), 4 ≤ chapter c ∧ chapter c ≤ 7 → Answers c s (unchangedBut (mayChange c) s)

/-- Every command of chapters 08 to 10 (recipes, Anvil instructions and loops) answers a next state in every state, and leaves every part of
the state unchanged but those the list mayChange gives it. -/
def Obligations.RecipeAndLoopFrames : Prop :=
  ∀ (c : Instr) (s : State), 8 ≤ chapter c ∧ chapter c ≤ 10 → Answers c s (unchangedBut (mayChange c) s)

/-- Every command of chapters 11 and 12 (the converter array, capture channels and Quench outputs) answers a next state in every state, and
leaves every part of the state unchanged but those the list mayChange gives it. -/
def Obligations.ConverterAndCaptureFrames : Prop :=
  ∀ (c : Instr) (s : State), chapter c = 11 ∨ chapter c = 12 → Answers c s (unchangedBut (mayChange c) s)

/-- Every command of chapters 13 and 14 (axes, drives, feedback channels and compare lists) answers a next state in every state, and leaves
every part of the state unchanged but those the list mayChange gives it. -/
def Obligations.MotionAndFeedbackFrames : Prop :=
  ∀ (c : Instr) (s : State), chapter c = 13 ∨ chapter c = 14 → Answers c s (unchangedBut (mayChange c) s)

/-- Every command of chapters 15 to 17 (stations, CAN FD controllers, the event log and the signal history) answers a next state in every
state, and leaves every part of the state unchanged but those the list mayChange gives it. -/
def Obligations.StationCanRecorderFrames : Prop :=
  ∀ (c : Instr) (s : State), 15 ≤ chapter c ∧ chapter c ≤ 17 → Answers c s (unchangedBut (mayChange c) s)

/-- Every command of chapter 18 (the Walig link, domain time, replication, pairing and state transfer) answers a next state in every state,
and leaves every part of the state unchanged but those the list mayChange gives it. -/
def Obligations.PairingFrames : Prop :=
  ∀ (c : Instr) (s : State), chapter c = 18 → Answers c s (unchangedBut (mayChange c) s)

/-- Every command of chapters 19 and 20 (firmware, settings, sensors, the recovery mailbox, resets, supplies and JTAG) answers a next state
in every state, and leaves every part of the state unchanged but those the list mayChange gives it: a reset keeps MRAM and the always-on
island's own record as the list says. -/
def Obligations.HendelAndPowerFrames : Prop :=
  ∀ (c : Instr) (s : State), chapter c = 19 ∨ chapter c = 20 → Answers c s (unchangedBut (mayChange c) s)

/-- In every state, a command that names an axis leaves every other axis unchanged; one that names a feedback channel leaves every other
channel unchanged; one that names a CAN FD controller leaves every other controller unchanged. -/
def Obligations.UnitsKeepApart : Prop :=
  (∀ (c : Instr) (n : Nat) (s : State), rowAxis c = some n → Answers c s fun r => ∀ m, m ≠ n → axOf r m = axOf s m) ∧
  (∀ (c : Instr) (n : Nat) (s : State), rowChannel c = some n → Answers c s fun r => ∀ m, m ≠ n → fbkCh r m = fbkCh s m) ∧
  (∀ (c : Instr) (n : Nat) (s : State), rowController c = some n → Answers c s fun r => ∀ m, m ≠ n → canC r m = canC s m)

/-- In every state, a command of one Hearth core pair (an item's dispatch, its custom instructions and its end) leaves every other core pair
unchanged, and an instruction or a failure of one Anvil core leaves every other Anvil core unchanged. -/
def Obligations.CoresKeepApart : Prop :=
  (∀ (c : Instr) (n : Nat) (s : State), rowCorePair c = some n → Answers c s fun r => ∀ m, m ≠ n → r.hrt.cores.get m = s.hrt.cores.get m) ∧
  (∀ (c : Instr) (n : Nat) (s : State), rowAnvilCore c = some n → Answers c s fun r => ∀ m, m ≠ n → anvC r m = anvC s m)

/-- In every state, an action, a trailing edge, a stamp, a stamp read or a configuration write of one timed pin leaves every other timed pin
unchanged, and a release or a readback fault of one Quench pin leaves every other Quench pin unchanged. -/
def Obligations.PinsKeepApart : Prop :=
  (∀ (c : Instr) (p : Nat) (s : State), rowTimedPin s c = some p → Answers c s fun r => ∀ q, q ≠ p → r.tmb.tio.get q = s.tmb.tio.get q) ∧
  (∀ (c : Instr) (n : Nat) (s : State), rowQuenchPin c = some n → Answers c s fun r => ∀ m, m ≠ n → r.qch.pin.get m = s.qch.pin.get m)

/-- For every command but HIF_COMMIT (and the register write that is one), COMMIT_APPLY and the commands that start, reset or fall back the
part, and for every register: the RWS bits of its value in force are after the command what they were before it. -/
def Obligations.StagedFieldsWaitForTheCommit : Prop :=
  ∀ (c : Instr) (s : State), takesStaged c = false → Answers c s fun r => ∀ a, stored r a &&& rwsMask a = stored s a &&& rwsMask a

/-- From every state whose tables (the point store, the stored registers, and each block's tables of units) are in their canonical form,
keys rising and no entry equal to what an unlisted key reads as, every step answers a next state whose tables are in their canonical form.
The form is the model's choice (log entry 109). -/
def Obligations.TablesStayCanonical : Prop :=
  ∀ s : State, canonical s → ∃ t, step s = .next t ∧ canonical t

/-- In the reset state every stored register holds its reset value, CQ n has VECTOR n, the Hearth sources have the MIN, MAX and PRIO of the
manual's table, nothing is staged, no command waits, the Timeline's fraction is 0, the part is held by POR_N, the tables are canonical, and
no stored point has VALID and BAD together. -/
def Obligations.ResetStateIsAsTheManualSays : Prop :=
  (∀ a, stored State.reset a = regReset a ∧ stagedOf State.reset a = regReset a) ∧
  (∀ n, n < 64 → fld State.reset (fHifCqVector n) = n) ∧
  ((List.range 6).map (fun n => (fld State.reset (fHrtSrcMin n), fld State.reset (fHrtSrcMax n))) =
    [(2048, 4096), (256, 1024), (256, 1024), (128, 512), (128, 512), (32, 256)]) ∧
  ([1, 2, 3, 4, 5].map (fun n => fld State.reset (fHrtSrcPrio n)) = [6, 1, 2, 1, 0]) ∧
  State.reset.staged = SMap.empty ∧ State.reset.pending = [] ∧ State.reset.tmb.frac = 0 ∧ State.reset.pwr.up = false ∧
  State.reset.pwr.holds = [.por] ∧ canonical State.reset ∧ fractionInRange State.reset ∧ validOrBad State.reset

/-- From every state, every step answers a next state in which no group's OTP level is lower than before, every revoked key is still
revoked, RETURNED is set if it was set, and the serial number is the same. -/
def Obligations.OtpOnlyGrows : Prop :=
  ∀ s : State, ∃ t, step s = .next t ∧ otpGrows s.hdl.otp t.hdl.otp

/-- From every state whose fraction lies below 1 ns, every step (the idle step at an empty queue among them) answers a next state whose
fraction lies below 1 ns; and unless the command at the front of the queue starts, resets or falls back the part, the Timeline, nanoseconds
and fraction together, is not lower than before. -/
def Obligations.TimelineNeverFalls : Prop :=
  ∀ s : State, fractionInRange s → ∃ t, step s = .next t ∧ fractionInRange t ∧
    ((∀ c ∈ s.pending.head?, restarts c = false) → timelineUnits s ≤ timelineUnits t)

/-- From every state in which no stored point has VALID and BAD together, every step answers a next state in which none has; and in every
state, a point whose record is read with BAD set is read with VALID clear, at every id and every instant. -/
def Obligations.ValidAndBadExclude : Prop :=
  (∀ s : State, validOrBad s → ∃ t, step s = .next t ∧ validOrBad t) ∧
  (∀ (s : State) (id at' : Nat), hasQ (readPoint s id at').qual qBAD = true → hasQ (readPoint s id at').qual qVALID = false)

/-- While the registers answer, a write of a pin's TMB_TIO_CFG word, as TIO_CFG_WRITE or as a register write to its address, that asks for
OUT or STAMP on a pin claimed by the Motion Engine or the Feedback Interfaces leaves MODE as it was, and a read of the register then returns
CLAIMED 1. -/
def Obligations.ClaimedPinKeepsItsMode : Prop :=
  (∀ (p : Nat) (v : Word) (s : State), (p < 128) →
    (windowOpen s 2 = true) →
    ((s.tmb.tio.get p).claimed.isSome = true) →
    (v.toNat % 4 = 1 ∨ v.toNat % 4 = 2) →
    Answers (.tioCfgWrite p v) s fun r =>
      fld r (fTmbTioCfgMode p) = fld s (fTmbTioCfgMode p) ∧ ∃ q, exec (.counterRead (fTmbTioCfgMode p).addr) r = .next q ∧ q.rdata.getLsbD 31 = true ∧ bits q.rdata.toNat 1 0 = fld s (fTmbTioCfgMode p)) ∧
  (∀ (p : Nat) (v : Word) (s : State), (p < 128) →
    (windowOpen s 2 = true) →
    ((s.tmb.tio.get p).claimed.isSome = true) →
    (v.toNat % 4 = 1 ∨ v.toNat % 4 = 2) →
    Answers (.registerWrite (fTmbTioCfgMode p).addr v) s fun r =>
      fld r (fTmbTioCfgMode p) = fld s (fTmbTioCfgMode p) ∧ ∃ q, exec (.counterRead (fTmbTioCfgMode p).addr) r = .next q ∧ q.rdata.getLsbD 31 = true ∧ bits q.rdata.toNat 1 0 = fld s (fTmbTioCfgMode p))

/-- On a channel in QUAD mode, an accepted change of A alone or of B alone moves r by one: up when A leads B (A has changed to a level
unlike B's, or B to A's level), down when B leads A, the sign inverted under DIR_INV. A sample in which both change is a counting error: r
stays and the error is counted. -/
def Obligations.QuadratureCounts : Prop :=
  (∀ (n t : Nat) (a b : Bool) (s : State), (canonical s) →
    (fbMode (fbkCh s n).desc = 1) →
    (a ≠ bit (fbkCh s n).lv 0) →
    (b = bit (fbkCh s n).lv 1) →
    Answers (.quadEdge n a b t) s fun r =>
      (fbkCh r n).r = (fbkCh s n).r + (if (a != b) != fbFlag (fbkCh s n).desc 0 then 1 else -1)) ∧
  (∀ (n t : Nat) (a b : Bool) (s : State), (canonical s) →
    (fbMode (fbkCh s n).desc = 1) →
    (a = bit (fbkCh s n).lv 0) →
    (b ≠ bit (fbkCh s n).lv 1) →
    Answers (.quadEdge n a b t) s fun r =>
      (fbkCh r n).r = (fbkCh s n).r + (if (a == b) != fbFlag (fbkCh s n).desc 0 then 1 else -1)) ∧
  (∀ (n t : Nat) (a b : Bool) (s : State), (canonical s) →
    (fbMode (fbkCh s n).desc = 1) →
    (a ≠ bit (fbkCh s n).lv 0) →
    (b ≠ bit (fbkCh s n).lv 1) →
    Answers (.quadEdge n a b t) s fun r =>
      (fbkCh r n).r = (fbkCh s n).r ∧ (stored s cFbkCountErrors).toNat ≤ (stored r cFbkCountErrors).toNat ∧ ((stored s cFbkCountErrors).toNat < 0xFFFFFFFF → (stored s cFbkCountErrors).toNat < (stored r cFbkCountErrors).toNat))

/-- A group that runs a Burst stream forms, from AVG_N consecutive corrected samples of signed Q1.19, the result floor(sum × 16 / 2^SHIFT)
saturated to FIX24, and a saturated result sets OVR of its entry. With AVG_N = 2^SHIFT it is the mean, floored, of the samples in FIX24 (16
times each); with AVG_N 1 and SHIFT 0 it is 16 times the sample. An entry that holds fewer than 16 results stays; at 16 it is released to
the queue. -/
def Obligations.BurstResults : Prop :=
  (∀ (g q t : Nat) (cs : List Int) (ovr : Bool) (v x : Int) (old : List (Nat × Int)) (s : State), (canonical s) →
    (cnvRuns s g = true) →
    (isBurst (cnvG s g).cfg.mode = true) →
    (cs.length = (cnvG s g).cfg.avg) →
    (∀ c ∈ cs, -(2 ^ 19) ≤ c ∧ c < 2 ^ 19) →
    (v * 2 ^ (cnvG s g).cfg.shift ≤ cs.sum * 16 ∧ cs.sum * 16 < (v + 1) * 2 ^ (cnvG s g).cfg.shift) →
    (x = max (-(2 ^ 23)) (min (2 ^ 23 - 1) v)) →
    (((cnvG s g).fill.map (·.results)).getD [] = old) →
    (old.length ≠ 15) →
    Answers (.cnvResultFormed g cs ovr q t) s fun r =>
      (cnvG r g).fill.map (·.results) = some (old ++ [(q, x)]) ∧ (x ≠ v → (cnvG r g).fill.map (·.ovr) = some true)) ∧
  (∀ (g q t : Nat) (cs : List Int) (ovr : Bool) (v x : Int) (old : List (Nat × Int)) (s : State), (canonical s) →
    (cnvRuns s g = true) →
    (isBurst (cnvG s g).cfg.mode = true) →
    (cs.length = (cnvG s g).cfg.avg) →
    (∀ c ∈ cs, -(2 ^ 19) ≤ c ∧ c < 2 ^ 19) →
    (v * 2 ^ (cnvG s g).cfg.shift ≤ cs.sum * 16 ∧ cs.sum * 16 < (v + 1) * 2 ^ (cnvG s g).cfg.shift) →
    (x = max (-(2 ^ 23)) (min (2 ^ 23 - 1) v)) →
    (((cnvG s g).fill.map (·.results)).getD [] = old) →
    (old.length = 15) →
    Answers (.cnvResultFormed g cs ovr q t) s fun r =>
      (cnvG r g).fill = none ∧ (cnvG r g).queue.head?.map (·.results) = some (old ++ [(q, x)]) ∧ (x ≠ v → (cnvG r g).queue.head?.map (·.ovr) = some true)) ∧
  (∀ (g q t : Nat) (cs : List Int) (ovr : Bool) (v x : Int) (old : List (Nat × Int)) (s : State), (canonical s) →
    (cnvRuns s g = true) →
    (isBurst (cnvG s g).cfg.mode = true) →
    (cs.length = (cnvG s g).cfg.avg) →
    (∀ c ∈ cs, -(2 ^ 19) ≤ c ∧ c < 2 ^ 19) →
    (v * 2 ^ (cnvG s g).cfg.shift ≤ cs.sum * 16 ∧ cs.sum * 16 < (v + 1) * 2 ^ (cnvG s g).cfg.shift) →
    (x = max (-(2 ^ 23)) (min (2 ^ 23 - 1) v)) →
    (((cnvG s g).fill.map (·.results)).getD [] = old) →
    (old.length ≠ 15) →
    (2 ^ (cnvG s g).cfg.shift = (cnvG s g).cfg.avg) →
    Answers (.cnvResultFormed g cs ovr q t) s fun r =>
      v * cs.length ≤ (cs.map (· * 16)).sum ∧ (cs.map (· * 16)).sum < (v + 1) * cs.length ∧ (cs.length = 1 → cs = [x / 16] ∧ x = x / 16 * 16) ∧ (cnvG r g).fill.map (·.results) = some (old ++ [(q, x)]))

/-- A core pair that is free and not retired, with some ready item it may run, takes an item of the ready queue such that no item it may run
has a higher PRIO, none of the same PRIO is a retry unless it is one, and where it is none, none of the same PRIO has an earlier DEADLINE;
it leaves the ready queue. A pair that runs an item takes none and is not disturbed. The ready queue is the one that the waiting Slices of
commands have entered. -/
def Obligations.BestItemIsDispatched : Prop :=
  (∀ (core t : Nat) (e : Desc) (s : State), (core < poolSize) →
    (canonical s) →
    ((s.hrt.cores.get core).retired = false) →
    ((s.hrt.cores.get core).run = none) →
    (e ∈ (slicePass (advance s t)).hrt.ready) →
    (e.notOn ≠ some core) →
    Answers (.itemDispatch core t) s fun r =>
      ∃ x d, (r.hrt.cores.get core).run = some x ∧ x.desc = d ∧ d ∈ (slicePass (advance s t)).hrt.ready ∧ d.notOn ≠ some core ∧ r.hrt.ready = (slicePass (advance s t)).hrt.ready.erase d ∧ e.prio ≤ d.prio ∧ (e.prio = d.prio → (e.retry = true → d.retry = true) ∧ (d.retry = false → d.deadline ≤ e.deadline))) ∧
  (∀ (core t : Nat) (x : Run) (s : State), ((s.hrt.cores.get core).run = some x) →
    Answers (.itemDispatch core t) s fun r =>
      (r.hrt.cores.get core).run = some x ∧ r.hrt.ready = (slicePass (advance s t)).hrt.ready)
end

