-- ==== Sys2Proof/Laws/Sparse.lean ====
section
/-! SUPPORT. The laws of the sparse tables: a read after a write gives the value written, a write leaves every other key alone, and every
operation keeps the canonical form. -/
namespace Sys2Proof

variable {α : Type}

/-- The lowest key a rising list may start with. -/
def SMap.above (lo : Option Nat) (j : Nat) : Prop := ∀ b, lo = some b → b < j

theorem SMap.rising_cons (lo : Option Nat) (j : Nat) (v : α) (t : List (Nat × α)) :
    SMap.rising lo ((j, v) :: t) = true ↔ SMap.above lo j ∧ SMap.rising (some j) t = true := by
  cases lo <;> simp [SMap.rising, SMap.above]

theorem SMap.rising_weaken {lo : Option Nat} {j : Nat} (h : SMap.above lo j) :
    ∀ {t : List (Nat × α)}, SMap.rising (some j) t = true → SMap.rising lo t = true
  | [], _ => by simp [SMap.rising]
  | (k, v) :: t, ht => by
    rw [SMap.rising_cons] at ht ⊢
    exact ⟨fun b hb => Nat.lt_trans (h b hb) (ht.1 j rfl), ht.2⟩

/-- A key below every listed key is not listed. -/
theorem SMap.find_below {k : Nat} : ∀ {t : List (Nat × α)} {j : Nat}, SMap.rising (some j) t = true → k ≤ j → SMap.find k t = none
  | [], _, _, _ => rfl
  | (i, v) :: t, j, h, hk => by
    rw [SMap.rising_cons] at h
    have hi : j < i := h.1 j rfl
    have : i ≠ k := by omega
    simp only [SMap.find, this, if_false]
    exact SMap.find_below h.2 (by omega)

/-- Writing a key leaves the others. -/
theorem SMap.find_put_ne {k m : Nat} (v : Option α) (h : m ≠ k) : ∀ t : List (Nat × α), SMap.find m (SMap.put k v t) = SMap.find m t
  | [] => by cases v <;> simp [SMap.put, SMap.find, Ne.symm h]
  | (j, w) :: t => by
    unfold SMap.put
    split
    · simp only [SMap.find]
      split
      · rfl
      · exact SMap.find_put_ne v h t
    · split
      · rename_i h1 h2
        subst h2
        cases v <;> simp [SMap.find, Ne.symm h]
      · cases v <;> simp [SMap.find, Ne.symm h]

/-- A value written to a key is found there. -/
theorem SMap.find_put_some (k : Nat) (v : α) : ∀ t : List (Nat × α), SMap.find k (SMap.put k (some v) t) = some v
  | [] => by simp [SMap.put, SMap.find]
  | (j, w) :: t => by
    unfold SMap.put
    split
    · rename_i h
      have : j ≠ k := by omega
      simp only [SMap.find, this, if_false]
      exact SMap.find_put_some k v t
    · split <;> simp [SMap.find]

/-- A key taken out of a rising list is not found. -/
theorem SMap.find_put_none (k : Nat) : ∀ {lo : Option Nat} {t : List (Nat × α)}, SMap.rising lo t = true → SMap.find k (SMap.put k none t) = none
  | _, [], _ => rfl
  | lo, (j, w) :: t, h => by
    rw [SMap.rising_cons] at h
    unfold SMap.put
    split
    · rename_i h1
      have : j ≠ k := by omega
      simp only [SMap.find, this, if_false]
      exact SMap.find_put_none k h.2
    · split
      · rename_i h1 h2
        subst h2
        exact SMap.find_below h.2 (Nat.le_refl _)
      · rename_i h1 h2
        have : j ≠ k := h2
        simp only [SMap.find, this, if_false]
        exact SMap.find_below h.2 (by omega)

/-- A write keeps the keys rising. -/
theorem SMap.rising_put {k : Nat} (v : Option α) : ∀ {lo : Option Nat} {t : List (Nat × α)}, SMap.above lo k → SMap.rising lo t = true →
    SMap.rising lo (SMap.put k v t) = true
  | lo, [], hk, _ => by
    cases v
    · rfl
    · exact (SMap.rising_cons _ _ _ _).2 ⟨hk, rfl⟩
  | lo, (j, w) :: t, hk, h => by
    rw [SMap.rising_cons] at h
    unfold SMap.put
    split
    · rename_i h1
      rw [SMap.rising_cons]
      exact ⟨h.1, SMap.rising_put v (fun b hb => by cases hb; exact h1) h.2⟩
    · split
      · rename_i h1 h2
        subst h2
        cases v
        · exact SMap.rising_weaken h.1 h.2
        · simp only [SMap.rising_cons]
          exact ⟨hk, h.2⟩
      · rename_i h1 h2
        have hkj : SMap.above (some k) j := fun b hb => by cases hb; omega
        cases v
        · simp only [SMap.rising_cons]
          exact ⟨h.1, h.2⟩
        · simp only [SMap.rising_cons]
          exact ⟨hk, hkj, h.2⟩

/-- A write lists no value but those listed before and the one written. -/
theorem SMap.mem_put {k : Nat} {v : Option α} {e : Nat × α} : ∀ {t : List (Nat × α)}, e ∈ SMap.put k v t → e ∈ t ∨ v = some e.2
  | [], h => by cases v <;> simp_all [SMap.put]
  | (j, w) :: t, h => by
    unfold SMap.put at h
    split at h
    · rcases List.mem_cons.1 h with h | h
      · exact .inl (by simp [h])
      · rcases SMap.mem_put h with h | h
        · exact .inl (by simp [h])
        · exact .inr h
    · split at h
      · cases v <;> simp_all <;> rcases h with h | h <;> simp_all
      · cases v <;> simp_all <;> rcases h with h | h <;> simp_all

/-- Keys still rise when entries are left out or their values change. -/
theorem SMap.rising_filterMap (f : Nat × α → Option (Nat × α)) (hf : ∀ e x, f e = some x → x.1 = e.1) :
    ∀ {lo : Option Nat} {t : List (Nat × α)}, SMap.rising lo t = true → SMap.rising lo (t.filterMap f) = true
  | _, [], _ => by simp [SMap.rising]
  | lo, (j, w) :: t, h => by
    rw [SMap.rising_cons] at h
    have ih := SMap.rising_filterMap f hf h.2
    rw [List.filterMap_cons]
    split
    · exact SMap.rising_weaken h.1 ih
    · rename_i x hx
      obtain ⟨k, v⟩ := x
      have : k = j := hf _ _ hx
      subst this
      rw [SMap.rising_cons]
      exact ⟨h.1, ih⟩

/-- The empty table reads as the default everywhere. -/
@[simp] theorem SMap.get_empty [Inhabited α] (k : Nat) : (SMap.empty : SMap α).get k = default := rfl

variable [Inhabited α] [DecidableEq α]

theorem SMap.wf_iff (m : SMap α) : m.wf = true ↔ SMap.rising none m.entries = true ∧ ∀ e ∈ m.entries, e.2 ≠ default := by
  simp [SMap.wf, SMap.wfD]

/-- The empty table is canonical. -/
@[simp] theorem SMap.wf_empty : (SMap.empty : SMap α).wf = true := rfl

/-- Writing a key leaves every other key. -/
theorem SMap.get_set_ne (m : SMap α) {k n : Nat} (v : α) (h : n ≠ k) : (m.set k v).get n = m.get n := by
  simp [SMap.get, SMap.set, SMap.getD, SMap.setD, SMap.find_put_ne _ h]

/-- A read after a write of the same key gives the value written. -/
theorem SMap.get_set_self (m : SMap α) (k : Nat) (v : α) (h : m.wf = true) : (m.set k v).get k = v := by
  by_cases hv : v = default
  · subst hv
    have := SMap.find_put_none k ((SMap.wf_iff m).1 h).1
    simp [SMap.get, SMap.set, SMap.getD, SMap.setD, this]
  · simp [SMap.get, SMap.set, SMap.getD, SMap.setD, hv, SMap.find_put_some]

/-- A write keeps the canonical form. -/
theorem SMap.wf_set (m : SMap α) (k : Nat) (v : α) (h : m.wf = true) : (m.set k v).wf = true := by
  rw [SMap.wf_iff] at h ⊢
  refine ⟨SMap.rising_put _ (fun b hb => by cases hb) h.1, fun e he => ?_⟩
  rcases SMap.mem_put he with he | he
  · exact h.2 e he
  · split at he
    · cases he
    · cases he
      assumption

/-- A change of one key keeps the canonical form. -/
theorem SMap.wf_upd (m : SMap α) (k : Nat) (f : α → α) (h : m.wf = true) : (m.upd k f).wf = true := SMap.wf_set m k _ h

/-- A change of one key leaves every other key. -/
theorem SMap.get_upd_ne (m : SMap α) {k n : Nat} (f : α → α) (h : n ≠ k) : (m.upd k f).get n = m.get n := SMap.get_set_ne m _ h

/-- A change of one key is read there. -/
theorem SMap.get_upd_self (m : SMap α) (k : Nat) (f : α → α) (h : m.wf = true) : (m.upd k f).get k = f (m.get k) := SMap.get_set_self m k _ h

/-- A change of every listed value keeps the canonical form. -/
theorem SMap.wf_mapV (m : SMap α) (f : Nat → α → α) (h : m.wf = true) : (m.mapV f).wf = true := by
  rw [SMap.wf_iff] at h ⊢
  refine ⟨SMap.rising_filterMap _ (fun e x hx => ?_) h.1, fun e he => ?_⟩
  · split at hx
    · cases hx
    · cases hx
      rfl
  · obtain ⟨a, -, ha⟩ := List.mem_filterMap.1 he
    split at ha
    · cases ha
    · cases ha
      assumption

/-- Leaving entries out keeps the canonical form. -/
theorem SMap.wf_filter (m : SMap α) (p : Nat × α → Bool) (h : m.wf = true) : (⟨m.entries.filter p⟩ : SMap α).wf = true := by
  rw [SMap.wf_iff] at h ⊢
  refine ⟨?_, fun e he => h.2 e (List.mem_filter.1 he).1⟩
  rw [← List.filterMap_eq_filter]
  refine SMap.rising_filterMap _ (fun e x hx => ?_) h.1
  simp [Option.guard] at hx
  rw [← hx.2]

/-- The canonical table of any entries is canonical. -/
theorem SMap.wf_canon (m : SMap α) : m.canon.wf = true := by
  unfold SMap.canon
  induction m.entries with
  | nil => rfl
  | cons e t ih => exact SMap.wf_set _ _ _ ih

/-- Writes one after another keep the canonical form. -/
theorem SMap.wf_foldl_set {β : Type} (l : List β) (k : β → Nat) (f : SMap α → β → α) (m : SMap α) (h : m.wf = true) :
    (l.foldl (fun a x => a.set (k x) (f a x)) m).wf = true := by
  induction l generalizing m with
  | nil => exact h
  | cons x t ih => exact ih _ (SMap.wf_set _ _ _ h)

end Sys2Proof
end

