-- ==== Sys2Proof/Laws/State.lean ====
section
/-! SUPPORT. What each named update of the state leaves: one lemma per field and update, true by definition, so that no later proof unfolds a
record update; and what the unit updates do to the other units. -/
namespace Sys2Proof.Machine
open Sys2Proof

set_option Elab.async false

@[simp] theorem setStored_regs (s : State) (a : Nat) (v : Word) : (setStored s a v).regs = s.regs.set a (if v = regReset a then none else some v) := rfl
@[simp] theorem setStored_staged (s : State) (a : Nat) (v : Word) : (setStored s a v).staged = s.staged := rfl
@[simp] theorem setStored_commits (s : State) (a : Nat) (v : Word) : (setStored s a v).commits = s.commits := rfl
@[simp] theorem setStored_tmb (s : State) (a : Nat) (v : Word) : (setStored s a v).tmb = s.tmb := rfl
@[simp] theorem setStored_pst (s : State) (a : Nat) (v : Word) : (setStored s a v).pst = s.pst := rfl
@[simp] theorem setStored_hif (s : State) (a : Nat) (v : Word) : (setStored s a v).hif = s.hif := rfl
@[simp] theorem setStored_recd (s : State) (a : Nat) (v : Word) : (setStored s a v).recd = s.recd := rfl
@[simp] theorem setStored_cyc (s : State) (a : Nat) (v : Word) : (setStored s a v).cyc = s.cyc := rfl
@[simp] theorem setStored_hrt (s : State) (a : Nat) (v : Word) : (setStored s a v).hrt = s.hrt := rfl
@[simp] theorem setStored_ile (s : State) (a : Nat) (v : Word) : (setStored s a v).ile = s.ile := rfl
@[simp] theorem setStored_cnv (s : State) (a : Nat) (v : Word) : (setStored s a v).cnv = s.cnv := rfl
@[simp] theorem setStored_anv (s : State) (a : Nat) (v : Word) : (setStored s a v).anv = s.anv := rfl
@[simp] theorem setStored_cap (s : State) (a : Nat) (v : Word) : (setStored s a v).cap = s.cap := rfl
@[simp] theorem setStored_qch (s : State) (a : Nat) (v : Word) : (setStored s a v).qch = s.qch := rfl
@[simp] theorem setStored_fbk (s : State) (a : Nat) (v : Word) : (setStored s a v).fbk = s.fbk := rfl
@[simp] theorem setStored_mot (s : State) (a : Nat) (v : Word) : (setStored s a v).mot = s.mot := rfl
@[simp] theorem setStored_stn (s : State) (a : Nat) (v : Word) : (setStored s a v).stn = s.stn := rfl
@[simp] theorem setStored_seq (s : State) (a : Nat) (v : Word) : (setStored s a v).seq = s.seq := rfl
@[simp] theorem setStored_can (s : State) (a : Nat) (v : Word) : (setStored s a v).can = s.can := rfl
@[simp] theorem setStored_wlk (s : State) (a : Nat) (v : Word) : (setStored s a v).wlk = s.wlk := rfl
@[simp] theorem setStored_par (s : State) (a : Nat) (v : Word) : (setStored s a v).par = s.par := rfl
@[simp] theorem setStored_mram (s : State) (a : Nat) (v : Word) : (setStored s a v).mram = s.mram := rfl
@[simp] theorem setStored_aon (s : State) (a : Nat) (v : Word) : (setStored s a v).aon = s.aon := rfl
@[simp] theorem setStored_pwr (s : State) (a : Nat) (v : Word) : (setStored s a v).pwr = s.pwr := rfl
@[simp] theorem setStored_hdl (s : State) (a : Nat) (v : Word) : (setStored s a v).hdl = s.hdl := rfl
@[simp] theorem setStored_rdata (s : State) (a : Nat) (v : Word) : (setStored s a v).rdata = s.rdata := rfl
@[simp] theorem setStored_out (s : State) (a : Nat) (v : Word) : (setStored s a v).out = s.out := rfl
@[simp] theorem setStored_freeCtr (s : State) (a : Nat) (v : Word) : (setStored s a v).freeCtr = s.freeCtr := rfl
@[simp] theorem setStored_pending (s : State) (a : Nat) (v : Word) : (setStored s a v).pending = s.pending := rfl

@[simp] theorem setStaged_regs (s : State) (a : Nat) (v : Word) : (setStaged s a v).regs = s.regs := rfl
@[simp] theorem setStaged_staged (s : State) (a : Nat) (v : Word) : (setStaged s a v).staged = s.staged.set a (some v) := rfl
@[simp] theorem setStaged_commits (s : State) (a : Nat) (v : Word) : (setStaged s a v).commits = s.commits := rfl
@[simp] theorem setStaged_tmb (s : State) (a : Nat) (v : Word) : (setStaged s a v).tmb = s.tmb := rfl
@[simp] theorem setStaged_pst (s : State) (a : Nat) (v : Word) : (setStaged s a v).pst = s.pst := rfl
@[simp] theorem setStaged_hif (s : State) (a : Nat) (v : Word) : (setStaged s a v).hif = s.hif := rfl
@[simp] theorem setStaged_recd (s : State) (a : Nat) (v : Word) : (setStaged s a v).recd = s.recd := rfl
@[simp] theorem setStaged_cyc (s : State) (a : Nat) (v : Word) : (setStaged s a v).cyc = s.cyc := rfl
@[simp] theorem setStaged_hrt (s : State) (a : Nat) (v : Word) : (setStaged s a v).hrt = s.hrt := rfl
@[simp] theorem setStaged_ile (s : State) (a : Nat) (v : Word) : (setStaged s a v).ile = s.ile := rfl
@[simp] theorem setStaged_cnv (s : State) (a : Nat) (v : Word) : (setStaged s a v).cnv = s.cnv := rfl
@[simp] theorem setStaged_anv (s : State) (a : Nat) (v : Word) : (setStaged s a v).anv = s.anv := rfl
@[simp] theorem setStaged_cap (s : State) (a : Nat) (v : Word) : (setStaged s a v).cap = s.cap := rfl
@[simp] theorem setStaged_qch (s : State) (a : Nat) (v : Word) : (setStaged s a v).qch = s.qch := rfl
@[simp] theorem setStaged_fbk (s : State) (a : Nat) (v : Word) : (setStaged s a v).fbk = s.fbk := rfl
@[simp] theorem setStaged_mot (s : State) (a : Nat) (v : Word) : (setStaged s a v).mot = s.mot := rfl
@[simp] theorem setStaged_stn (s : State) (a : Nat) (v : Word) : (setStaged s a v).stn = s.stn := rfl
@[simp] theorem setStaged_seq (s : State) (a : Nat) (v : Word) : (setStaged s a v).seq = s.seq := rfl
@[simp] theorem setStaged_can (s : State) (a : Nat) (v : Word) : (setStaged s a v).can = s.can := rfl
@[simp] theorem setStaged_wlk (s : State) (a : Nat) (v : Word) : (setStaged s a v).wlk = s.wlk := rfl
@[simp] theorem setStaged_par (s : State) (a : Nat) (v : Word) : (setStaged s a v).par = s.par := rfl
@[simp] theorem setStaged_mram (s : State) (a : Nat) (v : Word) : (setStaged s a v).mram = s.mram := rfl
@[simp] theorem setStaged_aon (s : State) (a : Nat) (v : Word) : (setStaged s a v).aon = s.aon := rfl
@[simp] theorem setStaged_pwr (s : State) (a : Nat) (v : Word) : (setStaged s a v).pwr = s.pwr := rfl
@[simp] theorem setStaged_hdl (s : State) (a : Nat) (v : Word) : (setStaged s a v).hdl = s.hdl := rfl
@[simp] theorem setStaged_rdata (s : State) (a : Nat) (v : Word) : (setStaged s a v).rdata = s.rdata := rfl
@[simp] theorem setStaged_out (s : State) (a : Nat) (v : Word) : (setStaged s a v).out = s.out := rfl
@[simp] theorem setStaged_freeCtr (s : State) (a : Nat) (v : Word) : (setStaged s a v).freeCtr = s.freeCtr := rfl
@[simp] theorem setStaged_pending (s : State) (a : Nat) (v : Word) : (setStaged s a v).pending = s.pending := rfl

@[simp] theorem setFld_staged (s : State) (f : Fld) (x : Nat) : (setFld s f x).staged = s.staged := rfl
@[simp] theorem setFld_commits (s : State) (f : Fld) (x : Nat) : (setFld s f x).commits = s.commits := rfl
@[simp] theorem setFld_tmb (s : State) (f : Fld) (x : Nat) : (setFld s f x).tmb = s.tmb := rfl
@[simp] theorem setFld_pst (s : State) (f : Fld) (x : Nat) : (setFld s f x).pst = s.pst := rfl
@[simp] theorem setFld_hif (s : State) (f : Fld) (x : Nat) : (setFld s f x).hif = s.hif := rfl
@[simp] theorem setFld_recd (s : State) (f : Fld) (x : Nat) : (setFld s f x).recd = s.recd := rfl
@[simp] theorem setFld_cyc (s : State) (f : Fld) (x : Nat) : (setFld s f x).cyc = s.cyc := rfl
@[simp] theorem setFld_hrt (s : State) (f : Fld) (x : Nat) : (setFld s f x).hrt = s.hrt := rfl
@[simp] theorem setFld_ile (s : State) (f : Fld) (x : Nat) : (setFld s f x).ile = s.ile := rfl
@[simp] theorem setFld_cnv (s : State) (f : Fld) (x : Nat) : (setFld s f x).cnv = s.cnv := rfl
@[simp] theorem setFld_anv (s : State) (f : Fld) (x : Nat) : (setFld s f x).anv = s.anv := rfl
@[simp] theorem setFld_cap (s : State) (f : Fld) (x : Nat) : (setFld s f x).cap = s.cap := rfl
@[simp] theorem setFld_qch (s : State) (f : Fld) (x : Nat) : (setFld s f x).qch = s.qch := rfl
@[simp] theorem setFld_fbk (s : State) (f : Fld) (x : Nat) : (setFld s f x).fbk = s.fbk := rfl
@[simp] theorem setFld_mot (s : State) (f : Fld) (x : Nat) : (setFld s f x).mot = s.mot := rfl
@[simp] theorem setFld_stn (s : State) (f : Fld) (x : Nat) : (setFld s f x).stn = s.stn := rfl
@[simp] theorem setFld_seq (s : State) (f : Fld) (x : Nat) : (setFld s f x).seq = s.seq := rfl
@[simp] theorem setFld_can (s : State) (f : Fld) (x : Nat) : (setFld s f x).can = s.can := rfl
@[simp] theorem setFld_wlk (s : State) (f : Fld) (x : Nat) : (setFld s f x).wlk = s.wlk := rfl
@[simp] theorem setFld_par (s : State) (f : Fld) (x : Nat) : (setFld s f x).par = s.par := rfl
@[simp] theorem setFld_mram (s : State) (f : Fld) (x : Nat) : (setFld s f x).mram = s.mram := rfl
@[simp] theorem setFld_aon (s : State) (f : Fld) (x : Nat) : (setFld s f x).aon = s.aon := rfl
@[simp] theorem setFld_pwr (s : State) (f : Fld) (x : Nat) : (setFld s f x).pwr = s.pwr := rfl
@[simp] theorem setFld_hdl (s : State) (f : Fld) (x : Nat) : (setFld s f x).hdl = s.hdl := rfl
@[simp] theorem setFld_rdata (s : State) (f : Fld) (x : Nat) : (setFld s f x).rdata = s.rdata := rfl
@[simp] theorem setFld_out (s : State) (f : Fld) (x : Nat) : (setFld s f x).out = s.out := rfl
@[simp] theorem setFld_freeCtr (s : State) (f : Fld) (x : Nat) : (setFld s f x).freeCtr = s.freeCtr := rfl
@[simp] theorem setFld_pending (s : State) (f : Fld) (x : Nat) : (setFld s f x).pending = s.pending := rfl

@[simp] theorem bumpN_staged (s : State) (a n : Nat) : (bumpN s a n).staged = s.staged := rfl
@[simp] theorem bumpN_commits (s : State) (a n : Nat) : (bumpN s a n).commits = s.commits := rfl
@[simp] theorem bumpN_tmb (s : State) (a n : Nat) : (bumpN s a n).tmb = s.tmb := rfl
@[simp] theorem bumpN_pst (s : State) (a n : Nat) : (bumpN s a n).pst = s.pst := rfl
@[simp] theorem bumpN_hif (s : State) (a n : Nat) : (bumpN s a n).hif = s.hif := rfl
@[simp] theorem bumpN_recd (s : State) (a n : Nat) : (bumpN s a n).recd = s.recd := rfl
@[simp] theorem bumpN_cyc (s : State) (a n : Nat) : (bumpN s a n).cyc = s.cyc := rfl
@[simp] theorem bumpN_hrt (s : State) (a n : Nat) : (bumpN s a n).hrt = s.hrt := rfl
@[simp] theorem bumpN_ile (s : State) (a n : Nat) : (bumpN s a n).ile = s.ile := rfl
@[simp] theorem bumpN_cnv (s : State) (a n : Nat) : (bumpN s a n).cnv = s.cnv := rfl
@[simp] theorem bumpN_anv (s : State) (a n : Nat) : (bumpN s a n).anv = s.anv := rfl
@[simp] theorem bumpN_cap (s : State) (a n : Nat) : (bumpN s a n).cap = s.cap := rfl
@[simp] theorem bumpN_qch (s : State) (a n : Nat) : (bumpN s a n).qch = s.qch := rfl
@[simp] theorem bumpN_fbk (s : State) (a n : Nat) : (bumpN s a n).fbk = s.fbk := rfl
@[simp] theorem bumpN_mot (s : State) (a n : Nat) : (bumpN s a n).mot = s.mot := rfl
@[simp] theorem bumpN_stn (s : State) (a n : Nat) : (bumpN s a n).stn = s.stn := rfl
@[simp] theorem bumpN_seq (s : State) (a n : Nat) : (bumpN s a n).seq = s.seq := rfl
@[simp] theorem bumpN_can (s : State) (a n : Nat) : (bumpN s a n).can = s.can := rfl
@[simp] theorem bumpN_wlk (s : State) (a n : Nat) : (bumpN s a n).wlk = s.wlk := rfl
@[simp] theorem bumpN_par (s : State) (a n : Nat) : (bumpN s a n).par = s.par := rfl
@[simp] theorem bumpN_mram (s : State) (a n : Nat) : (bumpN s a n).mram = s.mram := rfl
@[simp] theorem bumpN_aon (s : State) (a n : Nat) : (bumpN s a n).aon = s.aon := rfl
@[simp] theorem bumpN_pwr (s : State) (a n : Nat) : (bumpN s a n).pwr = s.pwr := rfl
@[simp] theorem bumpN_hdl (s : State) (a n : Nat) : (bumpN s a n).hdl = s.hdl := rfl
@[simp] theorem bumpN_rdata (s : State) (a n : Nat) : (bumpN s a n).rdata = s.rdata := rfl
@[simp] theorem bumpN_out (s : State) (a n : Nat) : (bumpN s a n).out = s.out := rfl
@[simp] theorem bumpN_freeCtr (s : State) (a n : Nat) : (bumpN s a n).freeCtr = s.freeCtr := rfl
@[simp] theorem bumpN_pending (s : State) (a n : Nat) : (bumpN s a n).pending = s.pending := rfl

@[simp] theorem bump_staged (s : State) (a : Nat) : (bump s a).staged = s.staged := rfl
@[simp] theorem bump_commits (s : State) (a : Nat) : (bump s a).commits = s.commits := rfl
@[simp] theorem bump_tmb (s : State) (a : Nat) : (bump s a).tmb = s.tmb := rfl
@[simp] theorem bump_pst (s : State) (a : Nat) : (bump s a).pst = s.pst := rfl
@[simp] theorem bump_hif (s : State) (a : Nat) : (bump s a).hif = s.hif := rfl
@[simp] theorem bump_recd (s : State) (a : Nat) : (bump s a).recd = s.recd := rfl
@[simp] theorem bump_cyc (s : State) (a : Nat) : (bump s a).cyc = s.cyc := rfl
@[simp] theorem bump_hrt (s : State) (a : Nat) : (bump s a).hrt = s.hrt := rfl
@[simp] theorem bump_ile (s : State) (a : Nat) : (bump s a).ile = s.ile := rfl
@[simp] theorem bump_cnv (s : State) (a : Nat) : (bump s a).cnv = s.cnv := rfl
@[simp] theorem bump_anv (s : State) (a : Nat) : (bump s a).anv = s.anv := rfl
@[simp] theorem bump_cap (s : State) (a : Nat) : (bump s a).cap = s.cap := rfl
@[simp] theorem bump_qch (s : State) (a : Nat) : (bump s a).qch = s.qch := rfl
@[simp] theorem bump_fbk (s : State) (a : Nat) : (bump s a).fbk = s.fbk := rfl
@[simp] theorem bump_mot (s : State) (a : Nat) : (bump s a).mot = s.mot := rfl
@[simp] theorem bump_stn (s : State) (a : Nat) : (bump s a).stn = s.stn := rfl
@[simp] theorem bump_seq (s : State) (a : Nat) : (bump s a).seq = s.seq := rfl
@[simp] theorem bump_can (s : State) (a : Nat) : (bump s a).can = s.can := rfl
@[simp] theorem bump_wlk (s : State) (a : Nat) : (bump s a).wlk = s.wlk := rfl
@[simp] theorem bump_par (s : State) (a : Nat) : (bump s a).par = s.par := rfl
@[simp] theorem bump_mram (s : State) (a : Nat) : (bump s a).mram = s.mram := rfl
@[simp] theorem bump_aon (s : State) (a : Nat) : (bump s a).aon = s.aon := rfl
@[simp] theorem bump_pwr (s : State) (a : Nat) : (bump s a).pwr = s.pwr := rfl
@[simp] theorem bump_hdl (s : State) (a : Nat) : (bump s a).hdl = s.hdl := rfl
@[simp] theorem bump_rdata (s : State) (a : Nat) : (bump s a).rdata = s.rdata := rfl
@[simp] theorem bump_out (s : State) (a : Nat) : (bump s a).out = s.out := rfl
@[simp] theorem bump_freeCtr (s : State) (a : Nat) : (bump s a).freeCtr = s.freeCtr := rfl
@[simp] theorem bump_pending (s : State) (a : Nat) : (bump s a).pending = s.pending := rfl

@[simp] theorem send_regs (s : State) (o : Out) : (send s o).regs = s.regs := rfl
@[simp] theorem send_staged (s : State) (o : Out) : (send s o).staged = s.staged := rfl
@[simp] theorem send_commits (s : State) (o : Out) : (send s o).commits = s.commits := rfl
@[simp] theorem send_tmb (s : State) (o : Out) : (send s o).tmb = s.tmb := rfl
@[simp] theorem send_pst (s : State) (o : Out) : (send s o).pst = s.pst := rfl
@[simp] theorem send_hif (s : State) (o : Out) : (send s o).hif = s.hif := rfl
@[simp] theorem send_recd (s : State) (o : Out) : (send s o).recd = s.recd := rfl
@[simp] theorem send_cyc (s : State) (o : Out) : (send s o).cyc = s.cyc := rfl
@[simp] theorem send_hrt (s : State) (o : Out) : (send s o).hrt = s.hrt := rfl
@[simp] theorem send_ile (s : State) (o : Out) : (send s o).ile = s.ile := rfl
@[simp] theorem send_cnv (s : State) (o : Out) : (send s o).cnv = s.cnv := rfl
@[simp] theorem send_anv (s : State) (o : Out) : (send s o).anv = s.anv := rfl
@[simp] theorem send_cap (s : State) (o : Out) : (send s o).cap = s.cap := rfl
@[simp] theorem send_qch (s : State) (o : Out) : (send s o).qch = s.qch := rfl
@[simp] theorem send_fbk (s : State) (o : Out) : (send s o).fbk = s.fbk := rfl
@[simp] theorem send_mot (s : State) (o : Out) : (send s o).mot = s.mot := rfl
@[simp] theorem send_stn (s : State) (o : Out) : (send s o).stn = s.stn := rfl
@[simp] theorem send_seq (s : State) (o : Out) : (send s o).seq = s.seq := rfl
@[simp] theorem send_can (s : State) (o : Out) : (send s o).can = s.can := rfl
@[simp] theorem send_wlk (s : State) (o : Out) : (send s o).wlk = s.wlk := rfl
@[simp] theorem send_par (s : State) (o : Out) : (send s o).par = s.par := rfl
@[simp] theorem send_mram (s : State) (o : Out) : (send s o).mram = s.mram := rfl
@[simp] theorem send_aon (s : State) (o : Out) : (send s o).aon = s.aon := rfl
@[simp] theorem send_pwr (s : State) (o : Out) : (send s o).pwr = s.pwr := rfl
@[simp] theorem send_hdl (s : State) (o : Out) : (send s o).hdl = s.hdl := rfl
@[simp] theorem send_rdata (s : State) (o : Out) : (send s o).rdata = s.rdata := rfl
@[simp] theorem send_out (s : State) (o : Out) : (send s o).out = s.out ++ [o] := rfl
@[simp] theorem send_freeCtr (s : State) (o : Out) : (send s o).freeCtr = s.freeCtr := rfl
@[simp] theorem send_pending (s : State) (o : Out) : (send s o).pending = s.pending := rfl

@[simp] theorem sendAll_regs (s : State) (l : List Out) : (sendAll s l).regs = s.regs := rfl
@[simp] theorem sendAll_staged (s : State) (l : List Out) : (sendAll s l).staged = s.staged := rfl
@[simp] theorem sendAll_commits (s : State) (l : List Out) : (sendAll s l).commits = s.commits := rfl
@[simp] theorem sendAll_tmb (s : State) (l : List Out) : (sendAll s l).tmb = s.tmb := rfl
@[simp] theorem sendAll_pst (s : State) (l : List Out) : (sendAll s l).pst = s.pst := rfl
@[simp] theorem sendAll_hif (s : State) (l : List Out) : (sendAll s l).hif = s.hif := rfl
@[simp] theorem sendAll_recd (s : State) (l : List Out) : (sendAll s l).recd = s.recd := rfl
@[simp] theorem sendAll_cyc (s : State) (l : List Out) : (sendAll s l).cyc = s.cyc := rfl
@[simp] theorem sendAll_hrt (s : State) (l : List Out) : (sendAll s l).hrt = s.hrt := rfl
@[simp] theorem sendAll_ile (s : State) (l : List Out) : (sendAll s l).ile = s.ile := rfl
@[simp] theorem sendAll_cnv (s : State) (l : List Out) : (sendAll s l).cnv = s.cnv := rfl
@[simp] theorem sendAll_anv (s : State) (l : List Out) : (sendAll s l).anv = s.anv := rfl
@[simp] theorem sendAll_cap (s : State) (l : List Out) : (sendAll s l).cap = s.cap := rfl
@[simp] theorem sendAll_qch (s : State) (l : List Out) : (sendAll s l).qch = s.qch := rfl
@[simp] theorem sendAll_fbk (s : State) (l : List Out) : (sendAll s l).fbk = s.fbk := rfl
@[simp] theorem sendAll_mot (s : State) (l : List Out) : (sendAll s l).mot = s.mot := rfl
@[simp] theorem sendAll_stn (s : State) (l : List Out) : (sendAll s l).stn = s.stn := rfl
@[simp] theorem sendAll_seq (s : State) (l : List Out) : (sendAll s l).seq = s.seq := rfl
@[simp] theorem sendAll_can (s : State) (l : List Out) : (sendAll s l).can = s.can := rfl
@[simp] theorem sendAll_wlk (s : State) (l : List Out) : (sendAll s l).wlk = s.wlk := rfl
@[simp] theorem sendAll_par (s : State) (l : List Out) : (sendAll s l).par = s.par := rfl
@[simp] theorem sendAll_mram (s : State) (l : List Out) : (sendAll s l).mram = s.mram := rfl
@[simp] theorem sendAll_aon (s : State) (l : List Out) : (sendAll s l).aon = s.aon := rfl
@[simp] theorem sendAll_pwr (s : State) (l : List Out) : (sendAll s l).pwr = s.pwr := rfl
@[simp] theorem sendAll_hdl (s : State) (l : List Out) : (sendAll s l).hdl = s.hdl := rfl
@[simp] theorem sendAll_rdata (s : State) (l : List Out) : (sendAll s l).rdata = s.rdata := rfl
@[simp] theorem sendAll_out (s : State) (l : List Out) : (sendAll s l).out = s.out ++ l := rfl
@[simp] theorem sendAll_freeCtr (s : State) (l : List Out) : (sendAll s l).freeCtr = s.freeCtr := rfl
@[simp] theorem sendAll_pending (s : State) (l : List Out) : (sendAll s l).pending = s.pending := rfl

@[simp] theorem setCommit_regs (s : State) (w : Nat) (st : Status) (p : Bool) : (setCommit s w st p).regs = s.regs := rfl
@[simp] theorem setCommit_staged (s : State) (w : Nat) (st : Status) (p : Bool) : (setCommit s w st p).staged = s.staged := rfl
@[simp] theorem setCommit_commits (s : State) (w : Nat) (st : Status) (p : Bool) : (setCommit s w st p).commits = s.commits.set w ⟨st, p⟩ := rfl
@[simp] theorem setCommit_tmb (s : State) (w : Nat) (st : Status) (p : Bool) : (setCommit s w st p).tmb = s.tmb := rfl
@[simp] theorem setCommit_pst (s : State) (w : Nat) (st : Status) (p : Bool) : (setCommit s w st p).pst = s.pst := rfl
@[simp] theorem setCommit_hif (s : State) (w : Nat) (st : Status) (p : Bool) : (setCommit s w st p).hif = s.hif := rfl
@[simp] theorem setCommit_recd (s : State) (w : Nat) (st : Status) (p : Bool) : (setCommit s w st p).recd = s.recd := rfl
@[simp] theorem setCommit_cyc (s : State) (w : Nat) (st : Status) (p : Bool) : (setCommit s w st p).cyc = s.cyc := rfl
@[simp] theorem setCommit_hrt (s : State) (w : Nat) (st : Status) (p : Bool) : (setCommit s w st p).hrt = s.hrt := rfl
@[simp] theorem setCommit_ile (s : State) (w : Nat) (st : Status) (p : Bool) : (setCommit s w st p).ile = s.ile := rfl
@[simp] theorem setCommit_cnv (s : State) (w : Nat) (st : Status) (p : Bool) : (setCommit s w st p).cnv = s.cnv := rfl
@[simp] theorem setCommit_anv (s : State) (w : Nat) (st : Status) (p : Bool) : (setCommit s w st p).anv = s.anv := rfl
@[simp] theorem setCommit_cap (s : State) (w : Nat) (st : Status) (p : Bool) : (setCommit s w st p).cap = s.cap := rfl
@[simp] theorem setCommit_qch (s : State) (w : Nat) (st : Status) (p : Bool) : (setCommit s w st p).qch = s.qch := rfl
@[simp] theorem setCommit_fbk (s : State) (w : Nat) (st : Status) (p : Bool) : (setCommit s w st p).fbk = s.fbk := rfl
@[simp] theorem setCommit_mot (s : State) (w : Nat) (st : Status) (p : Bool) : (setCommit s w st p).mot = s.mot := rfl
@[simp] theorem setCommit_stn (s : State) (w : Nat) (st : Status) (p : Bool) : (setCommit s w st p).stn = s.stn := rfl
@[simp] theorem setCommit_seq (s : State) (w : Nat) (st : Status) (p : Bool) : (setCommit s w st p).seq = s.seq := rfl
@[simp] theorem setCommit_can (s : State) (w : Nat) (st : Status) (p : Bool) : (setCommit s w st p).can = s.can := rfl
@[simp] theorem setCommit_wlk (s : State) (w : Nat) (st : Status) (p : Bool) : (setCommit s w st p).wlk = s.wlk := rfl
@[simp] theorem setCommit_par (s : State) (w : Nat) (st : Status) (p : Bool) : (setCommit s w st p).par = s.par := rfl
@[simp] theorem setCommit_mram (s : State) (w : Nat) (st : Status) (p : Bool) : (setCommit s w st p).mram = s.mram := rfl
@[simp] theorem setCommit_aon (s : State) (w : Nat) (st : Status) (p : Bool) : (setCommit s w st p).aon = s.aon := rfl
@[simp] theorem setCommit_pwr (s : State) (w : Nat) (st : Status) (p : Bool) : (setCommit s w st p).pwr = s.pwr := rfl
@[simp] theorem setCommit_hdl (s : State) (w : Nat) (st : Status) (p : Bool) : (setCommit s w st p).hdl = s.hdl := rfl
@[simp] theorem setCommit_rdata (s : State) (w : Nat) (st : Status) (p : Bool) : (setCommit s w st p).rdata = s.rdata := rfl
@[simp] theorem setCommit_out (s : State) (w : Nat) (st : Status) (p : Bool) : (setCommit s w st p).out = s.out := rfl
@[simp] theorem setCommit_freeCtr (s : State) (w : Nat) (st : Status) (p : Bool) : (setCommit s w st p).freeCtr = s.freeCtr := rfl
@[simp] theorem setCommit_pending (s : State) (w : Nat) (st : Status) (p : Bool) : (setCommit s w st p).pending = s.pending := rfl

@[simp] theorem drawFree_regs (s : State) : ((drawFree s).2).regs = s.regs := rfl
@[simp] theorem drawFree_staged (s : State) : ((drawFree s).2).staged = s.staged := rfl
@[simp] theorem drawFree_commits (s : State) : ((drawFree s).2).commits = s.commits := rfl
@[simp] theorem drawFree_tmb (s : State) : ((drawFree s).2).tmb = s.tmb := rfl
@[simp] theorem drawFree_pst (s : State) : ((drawFree s).2).pst = s.pst := rfl
@[simp] theorem drawFree_hif (s : State) : ((drawFree s).2).hif = s.hif := rfl
@[simp] theorem drawFree_recd (s : State) : ((drawFree s).2).recd = s.recd := rfl
@[simp] theorem drawFree_cyc (s : State) : ((drawFree s).2).cyc = s.cyc := rfl
@[simp] theorem drawFree_hrt (s : State) : ((drawFree s).2).hrt = s.hrt := rfl
@[simp] theorem drawFree_ile (s : State) : ((drawFree s).2).ile = s.ile := rfl
@[simp] theorem drawFree_cnv (s : State) : ((drawFree s).2).cnv = s.cnv := rfl
@[simp] theorem drawFree_anv (s : State) : ((drawFree s).2).anv = s.anv := rfl
@[simp] theorem drawFree_cap (s : State) : ((drawFree s).2).cap = s.cap := rfl
@[simp] theorem drawFree_qch (s : State) : ((drawFree s).2).qch = s.qch := rfl
@[simp] theorem drawFree_fbk (s : State) : ((drawFree s).2).fbk = s.fbk := rfl
@[simp] theorem drawFree_mot (s : State) : ((drawFree s).2).mot = s.mot := rfl
@[simp] theorem drawFree_stn (s : State) : ((drawFree s).2).stn = s.stn := rfl
@[simp] theorem drawFree_seq (s : State) : ((drawFree s).2).seq = s.seq := rfl
@[simp] theorem drawFree_can (s : State) : ((drawFree s).2).can = s.can := rfl
@[simp] theorem drawFree_wlk (s : State) : ((drawFree s).2).wlk = s.wlk := rfl
@[simp] theorem drawFree_par (s : State) : ((drawFree s).2).par = s.par := rfl
@[simp] theorem drawFree_mram (s : State) : ((drawFree s).2).mram = s.mram := rfl
@[simp] theorem drawFree_aon (s : State) : ((drawFree s).2).aon = s.aon := rfl
@[simp] theorem drawFree_pwr (s : State) : ((drawFree s).2).pwr = s.pwr := rfl
@[simp] theorem drawFree_hdl (s : State) : ((drawFree s).2).hdl = s.hdl := rfl
@[simp] theorem drawFree_rdata (s : State) : ((drawFree s).2).rdata = s.rdata := rfl
@[simp] theorem drawFree_out (s : State) : ((drawFree s).2).out = s.out := rfl
@[simp] theorem drawFree_freeCtr (s : State) : ((drawFree s).2).freeCtr = s.freeCtr + 1 := rfl
@[simp] theorem drawFree_pending (s : State) : ((drawFree s).2).pending = s.pending := rfl

@[simp] theorem cmdUpd_regs (s : State) (h : Nat) (f : Cmd → Cmd) : (cmdUpd s h f).regs = s.regs := rfl
@[simp] theorem cmdUpd_staged (s : State) (h : Nat) (f : Cmd → Cmd) : (cmdUpd s h f).staged = s.staged := rfl
@[simp] theorem cmdUpd_commits (s : State) (h : Nat) (f : Cmd → Cmd) : (cmdUpd s h f).commits = s.commits := rfl
@[simp] theorem cmdUpd_tmb (s : State) (h : Nat) (f : Cmd → Cmd) : (cmdUpd s h f).tmb = s.tmb := rfl
@[simp] theorem cmdUpd_pst (s : State) (h : Nat) (f : Cmd → Cmd) : (cmdUpd s h f).pst = s.pst := rfl
@[simp] theorem cmdUpd_recd (s : State) (h : Nat) (f : Cmd → Cmd) : (cmdUpd s h f).recd = s.recd := rfl
@[simp] theorem cmdUpd_cyc (s : State) (h : Nat) (f : Cmd → Cmd) : (cmdUpd s h f).cyc = s.cyc := rfl
@[simp] theorem cmdUpd_hrt (s : State) (h : Nat) (f : Cmd → Cmd) : (cmdUpd s h f).hrt = s.hrt := rfl
@[simp] theorem cmdUpd_ile (s : State) (h : Nat) (f : Cmd → Cmd) : (cmdUpd s h f).ile = s.ile := rfl
@[simp] theorem cmdUpd_cnv (s : State) (h : Nat) (f : Cmd → Cmd) : (cmdUpd s h f).cnv = s.cnv := rfl
@[simp] theorem cmdUpd_anv (s : State) (h : Nat) (f : Cmd → Cmd) : (cmdUpd s h f).anv = s.anv := rfl
@[simp] theorem cmdUpd_cap (s : State) (h : Nat) (f : Cmd → Cmd) : (cmdUpd s h f).cap = s.cap := rfl
@[simp] theorem cmdUpd_qch (s : State) (h : Nat) (f : Cmd → Cmd) : (cmdUpd s h f).qch = s.qch := rfl
@[simp] theorem cmdUpd_fbk (s : State) (h : Nat) (f : Cmd → Cmd) : (cmdUpd s h f).fbk = s.fbk := rfl
@[simp] theorem cmdUpd_mot (s : State) (h : Nat) (f : Cmd → Cmd) : (cmdUpd s h f).mot = s.mot := rfl
@[simp] theorem cmdUpd_stn (s : State) (h : Nat) (f : Cmd → Cmd) : (cmdUpd s h f).stn = s.stn := rfl
@[simp] theorem cmdUpd_seq (s : State) (h : Nat) (f : Cmd → Cmd) : (cmdUpd s h f).seq = s.seq := rfl
@[simp] theorem cmdUpd_can (s : State) (h : Nat) (f : Cmd → Cmd) : (cmdUpd s h f).can = s.can := rfl
@[simp] theorem cmdUpd_wlk (s : State) (h : Nat) (f : Cmd → Cmd) : (cmdUpd s h f).wlk = s.wlk := rfl
@[simp] theorem cmdUpd_par (s : State) (h : Nat) (f : Cmd → Cmd) : (cmdUpd s h f).par = s.par := rfl
@[simp] theorem cmdUpd_mram (s : State) (h : Nat) (f : Cmd → Cmd) : (cmdUpd s h f).mram = s.mram := rfl
@[simp] theorem cmdUpd_aon (s : State) (h : Nat) (f : Cmd → Cmd) : (cmdUpd s h f).aon = s.aon := rfl
@[simp] theorem cmdUpd_pwr (s : State) (h : Nat) (f : Cmd → Cmd) : (cmdUpd s h f).pwr = s.pwr := rfl
@[simp] theorem cmdUpd_hdl (s : State) (h : Nat) (f : Cmd → Cmd) : (cmdUpd s h f).hdl = s.hdl := rfl
@[simp] theorem cmdUpd_rdata (s : State) (h : Nat) (f : Cmd → Cmd) : (cmdUpd s h f).rdata = s.rdata := rfl
@[simp] theorem cmdUpd_out (s : State) (h : Nat) (f : Cmd → Cmd) : (cmdUpd s h f).out = s.out := rfl
@[simp] theorem cmdUpd_freeCtr (s : State) (h : Nat) (f : Cmd → Cmd) : (cmdUpd s h f).freeCtr = s.freeCtr := rfl
@[simp] theorem cmdUpd_pending (s : State) (h : Nat) (f : Cmd → Cmd) : (cmdUpd s h f).pending = s.pending := rfl

@[simp] theorem ptpUpd_regs (s : State) (f : Ptp → Ptp) : (ptpUpd s f).regs = s.regs := rfl
@[simp] theorem ptpUpd_staged (s : State) (f : Ptp → Ptp) : (ptpUpd s f).staged = s.staged := rfl
@[simp] theorem ptpUpd_commits (s : State) (f : Ptp → Ptp) : (ptpUpd s f).commits = s.commits := rfl
@[simp] theorem ptpUpd_pst (s : State) (f : Ptp → Ptp) : (ptpUpd s f).pst = s.pst := rfl
@[simp] theorem ptpUpd_hif (s : State) (f : Ptp → Ptp) : (ptpUpd s f).hif = s.hif := rfl
@[simp] theorem ptpUpd_recd (s : State) (f : Ptp → Ptp) : (ptpUpd s f).recd = s.recd := rfl
@[simp] theorem ptpUpd_cyc (s : State) (f : Ptp → Ptp) : (ptpUpd s f).cyc = s.cyc := rfl
@[simp] theorem ptpUpd_hrt (s : State) (f : Ptp → Ptp) : (ptpUpd s f).hrt = s.hrt := rfl
@[simp] theorem ptpUpd_ile (s : State) (f : Ptp → Ptp) : (ptpUpd s f).ile = s.ile := rfl
@[simp] theorem ptpUpd_cnv (s : State) (f : Ptp → Ptp) : (ptpUpd s f).cnv = s.cnv := rfl
@[simp] theorem ptpUpd_anv (s : State) (f : Ptp → Ptp) : (ptpUpd s f).anv = s.anv := rfl
@[simp] theorem ptpUpd_cap (s : State) (f : Ptp → Ptp) : (ptpUpd s f).cap = s.cap := rfl
@[simp] theorem ptpUpd_qch (s : State) (f : Ptp → Ptp) : (ptpUpd s f).qch = s.qch := rfl
@[simp] theorem ptpUpd_fbk (s : State) (f : Ptp → Ptp) : (ptpUpd s f).fbk = s.fbk := rfl
@[simp] theorem ptpUpd_mot (s : State) (f : Ptp → Ptp) : (ptpUpd s f).mot = s.mot := rfl
@[simp] theorem ptpUpd_stn (s : State) (f : Ptp → Ptp) : (ptpUpd s f).stn = s.stn := rfl
@[simp] theorem ptpUpd_seq (s : State) (f : Ptp → Ptp) : (ptpUpd s f).seq = s.seq := rfl
@[simp] theorem ptpUpd_can (s : State) (f : Ptp → Ptp) : (ptpUpd s f).can = s.can := rfl
@[simp] theorem ptpUpd_wlk (s : State) (f : Ptp → Ptp) : (ptpUpd s f).wlk = s.wlk := rfl
@[simp] theorem ptpUpd_par (s : State) (f : Ptp → Ptp) : (ptpUpd s f).par = s.par := rfl
@[simp] theorem ptpUpd_mram (s : State) (f : Ptp → Ptp) : (ptpUpd s f).mram = s.mram := rfl
@[simp] theorem ptpUpd_aon (s : State) (f : Ptp → Ptp) : (ptpUpd s f).aon = s.aon := rfl
@[simp] theorem ptpUpd_pwr (s : State) (f : Ptp → Ptp) : (ptpUpd s f).pwr = s.pwr := rfl
@[simp] theorem ptpUpd_hdl (s : State) (f : Ptp → Ptp) : (ptpUpd s f).hdl = s.hdl := rfl
@[simp] theorem ptpUpd_rdata (s : State) (f : Ptp → Ptp) : (ptpUpd s f).rdata = s.rdata := rfl
@[simp] theorem ptpUpd_out (s : State) (f : Ptp → Ptp) : (ptpUpd s f).out = s.out := rfl
@[simp] theorem ptpUpd_freeCtr (s : State) (f : Ptp → Ptp) : (ptpUpd s f).freeCtr = s.freeCtr := rfl
@[simp] theorem ptpUpd_pending (s : State) (f : Ptp → Ptp) : (ptpUpd s f).pending = s.pending := rfl

@[simp] theorem wPortUpd_regs (s : State) (p : Nat) (f : WPort → WPort) : (wPortUpd s p f).regs = s.regs := rfl
@[simp] theorem wPortUpd_staged (s : State) (p : Nat) (f : WPort → WPort) : (wPortUpd s p f).staged = s.staged := rfl
@[simp] theorem wPortUpd_commits (s : State) (p : Nat) (f : WPort → WPort) : (wPortUpd s p f).commits = s.commits := rfl
@[simp] theorem wPortUpd_tmb (s : State) (p : Nat) (f : WPort → WPort) : (wPortUpd s p f).tmb = s.tmb := rfl
@[simp] theorem wPortUpd_pst (s : State) (p : Nat) (f : WPort → WPort) : (wPortUpd s p f).pst = s.pst := rfl
@[simp] theorem wPortUpd_hif (s : State) (p : Nat) (f : WPort → WPort) : (wPortUpd s p f).hif = s.hif := rfl
@[simp] theorem wPortUpd_recd (s : State) (p : Nat) (f : WPort → WPort) : (wPortUpd s p f).recd = s.recd := rfl
@[simp] theorem wPortUpd_cyc (s : State) (p : Nat) (f : WPort → WPort) : (wPortUpd s p f).cyc = s.cyc := rfl
@[simp] theorem wPortUpd_hrt (s : State) (p : Nat) (f : WPort → WPort) : (wPortUpd s p f).hrt = s.hrt := rfl
@[simp] theorem wPortUpd_ile (s : State) (p : Nat) (f : WPort → WPort) : (wPortUpd s p f).ile = s.ile := rfl
@[simp] theorem wPortUpd_cnv (s : State) (p : Nat) (f : WPort → WPort) : (wPortUpd s p f).cnv = s.cnv := rfl
@[simp] theorem wPortUpd_anv (s : State) (p : Nat) (f : WPort → WPort) : (wPortUpd s p f).anv = s.anv := rfl
@[simp] theorem wPortUpd_cap (s : State) (p : Nat) (f : WPort → WPort) : (wPortUpd s p f).cap = s.cap := rfl
@[simp] theorem wPortUpd_qch (s : State) (p : Nat) (f : WPort → WPort) : (wPortUpd s p f).qch = s.qch := rfl
@[simp] theorem wPortUpd_fbk (s : State) (p : Nat) (f : WPort → WPort) : (wPortUpd s p f).fbk = s.fbk := rfl
@[simp] theorem wPortUpd_mot (s : State) (p : Nat) (f : WPort → WPort) : (wPortUpd s p f).mot = s.mot := rfl
@[simp] theorem wPortUpd_stn (s : State) (p : Nat) (f : WPort → WPort) : (wPortUpd s p f).stn = s.stn := rfl
@[simp] theorem wPortUpd_seq (s : State) (p : Nat) (f : WPort → WPort) : (wPortUpd s p f).seq = s.seq := rfl
@[simp] theorem wPortUpd_can (s : State) (p : Nat) (f : WPort → WPort) : (wPortUpd s p f).can = s.can := rfl
@[simp] theorem wPortUpd_par (s : State) (p : Nat) (f : WPort → WPort) : (wPortUpd s p f).par = s.par := rfl
@[simp] theorem wPortUpd_mram (s : State) (p : Nat) (f : WPort → WPort) : (wPortUpd s p f).mram = s.mram := rfl
@[simp] theorem wPortUpd_aon (s : State) (p : Nat) (f : WPort → WPort) : (wPortUpd s p f).aon = s.aon := rfl
@[simp] theorem wPortUpd_pwr (s : State) (p : Nat) (f : WPort → WPort) : (wPortUpd s p f).pwr = s.pwr := rfl
@[simp] theorem wPortUpd_hdl (s : State) (p : Nat) (f : WPort → WPort) : (wPortUpd s p f).hdl = s.hdl := rfl
@[simp] theorem wPortUpd_rdata (s : State) (p : Nat) (f : WPort → WPort) : (wPortUpd s p f).rdata = s.rdata := rfl
@[simp] theorem wPortUpd_out (s : State) (p : Nat) (f : WPort → WPort) : (wPortUpd s p f).out = s.out := rfl
@[simp] theorem wPortUpd_freeCtr (s : State) (p : Nat) (f : WPort → WPort) : (wPortUpd s p f).freeCtr = s.freeCtr := rfl
@[simp] theorem wPortUpd_pending (s : State) (p : Nat) (f : WPort → WPort) : (wPortUpd s p f).pending = s.pending := rfl

@[simp] theorem qchUpd_regs (n : Nat) (f : QchPin → QchPin) (s : State) : (qchUpd n f s).regs = s.regs := rfl
@[simp] theorem qchUpd_staged (n : Nat) (f : QchPin → QchPin) (s : State) : (qchUpd n f s).staged = s.staged := rfl
@[simp] theorem qchUpd_commits (n : Nat) (f : QchPin → QchPin) (s : State) : (qchUpd n f s).commits = s.commits := rfl
@[simp] theorem qchUpd_tmb (n : Nat) (f : QchPin → QchPin) (s : State) : (qchUpd n f s).tmb = s.tmb := rfl
@[simp] theorem qchUpd_pst (n : Nat) (f : QchPin → QchPin) (s : State) : (qchUpd n f s).pst = s.pst := rfl
@[simp] theorem qchUpd_hif (n : Nat) (f : QchPin → QchPin) (s : State) : (qchUpd n f s).hif = s.hif := rfl
@[simp] theorem qchUpd_recd (n : Nat) (f : QchPin → QchPin) (s : State) : (qchUpd n f s).recd = s.recd := rfl
@[simp] theorem qchUpd_cyc (n : Nat) (f : QchPin → QchPin) (s : State) : (qchUpd n f s).cyc = s.cyc := rfl
@[simp] theorem qchUpd_hrt (n : Nat) (f : QchPin → QchPin) (s : State) : (qchUpd n f s).hrt = s.hrt := rfl
@[simp] theorem qchUpd_ile (n : Nat) (f : QchPin → QchPin) (s : State) : (qchUpd n f s).ile = s.ile := rfl
@[simp] theorem qchUpd_cnv (n : Nat) (f : QchPin → QchPin) (s : State) : (qchUpd n f s).cnv = s.cnv := rfl
@[simp] theorem qchUpd_anv (n : Nat) (f : QchPin → QchPin) (s : State) : (qchUpd n f s).anv = s.anv := rfl
@[simp] theorem qchUpd_cap (n : Nat) (f : QchPin → QchPin) (s : State) : (qchUpd n f s).cap = s.cap := rfl
@[simp] theorem qchUpd_fbk (n : Nat) (f : QchPin → QchPin) (s : State) : (qchUpd n f s).fbk = s.fbk := rfl
@[simp] theorem qchUpd_mot (n : Nat) (f : QchPin → QchPin) (s : State) : (qchUpd n f s).mot = s.mot := rfl
@[simp] theorem qchUpd_stn (n : Nat) (f : QchPin → QchPin) (s : State) : (qchUpd n f s).stn = s.stn := rfl
@[simp] theorem qchUpd_seq (n : Nat) (f : QchPin → QchPin) (s : State) : (qchUpd n f s).seq = s.seq := rfl
@[simp] theorem qchUpd_can (n : Nat) (f : QchPin → QchPin) (s : State) : (qchUpd n f s).can = s.can := rfl
@[simp] theorem qchUpd_wlk (n : Nat) (f : QchPin → QchPin) (s : State) : (qchUpd n f s).wlk = s.wlk := rfl
@[simp] theorem qchUpd_par (n : Nat) (f : QchPin → QchPin) (s : State) : (qchUpd n f s).par = s.par := rfl
@[simp] theorem qchUpd_mram (n : Nat) (f : QchPin → QchPin) (s : State) : (qchUpd n f s).mram = s.mram := rfl
@[simp] theorem qchUpd_aon (n : Nat) (f : QchPin → QchPin) (s : State) : (qchUpd n f s).aon = s.aon := rfl
@[simp] theorem qchUpd_pwr (n : Nat) (f : QchPin → QchPin) (s : State) : (qchUpd n f s).pwr = s.pwr := rfl
@[simp] theorem qchUpd_hdl (n : Nat) (f : QchPin → QchPin) (s : State) : (qchUpd n f s).hdl = s.hdl := rfl
@[simp] theorem qchUpd_rdata (n : Nat) (f : QchPin → QchPin) (s : State) : (qchUpd n f s).rdata = s.rdata := rfl
@[simp] theorem qchUpd_out (n : Nat) (f : QchPin → QchPin) (s : State) : (qchUpd n f s).out = s.out := rfl
@[simp] theorem qchUpd_freeCtr (n : Nat) (f : QchPin → QchPin) (s : State) : (qchUpd n f s).freeCtr = s.freeCtr := rfl
@[simp] theorem qchUpd_pending (n : Nat) (f : QchPin → QchPin) (s : State) : (qchUpd n f s).pending = s.pending := rfl

@[simp] theorem capUpd_regs (s : State) (n : Nat) (f : CapCh → CapCh) : (capUpd s n f).regs = s.regs := rfl
@[simp] theorem capUpd_staged (s : State) (n : Nat) (f : CapCh → CapCh) : (capUpd s n f).staged = s.staged := rfl
@[simp] theorem capUpd_commits (s : State) (n : Nat) (f : CapCh → CapCh) : (capUpd s n f).commits = s.commits := rfl
@[simp] theorem capUpd_tmb (s : State) (n : Nat) (f : CapCh → CapCh) : (capUpd s n f).tmb = s.tmb := rfl
@[simp] theorem capUpd_pst (s : State) (n : Nat) (f : CapCh → CapCh) : (capUpd s n f).pst = s.pst := rfl
@[simp] theorem capUpd_hif (s : State) (n : Nat) (f : CapCh → CapCh) : (capUpd s n f).hif = s.hif := rfl
@[simp] theorem capUpd_recd (s : State) (n : Nat) (f : CapCh → CapCh) : (capUpd s n f).recd = s.recd := rfl
@[simp] theorem capUpd_cyc (s : State) (n : Nat) (f : CapCh → CapCh) : (capUpd s n f).cyc = s.cyc := rfl
@[simp] theorem capUpd_hrt (s : State) (n : Nat) (f : CapCh → CapCh) : (capUpd s n f).hrt = s.hrt := rfl
@[simp] theorem capUpd_ile (s : State) (n : Nat) (f : CapCh → CapCh) : (capUpd s n f).ile = s.ile := rfl
@[simp] theorem capUpd_cnv (s : State) (n : Nat) (f : CapCh → CapCh) : (capUpd s n f).cnv = s.cnv := rfl
@[simp] theorem capUpd_anv (s : State) (n : Nat) (f : CapCh → CapCh) : (capUpd s n f).anv = s.anv := rfl
@[simp] theorem capUpd_qch (s : State) (n : Nat) (f : CapCh → CapCh) : (capUpd s n f).qch = s.qch := rfl
@[simp] theorem capUpd_fbk (s : State) (n : Nat) (f : CapCh → CapCh) : (capUpd s n f).fbk = s.fbk := rfl
@[simp] theorem capUpd_mot (s : State) (n : Nat) (f : CapCh → CapCh) : (capUpd s n f).mot = s.mot := rfl
@[simp] theorem capUpd_stn (s : State) (n : Nat) (f : CapCh → CapCh) : (capUpd s n f).stn = s.stn := rfl
@[simp] theorem capUpd_seq (s : State) (n : Nat) (f : CapCh → CapCh) : (capUpd s n f).seq = s.seq := rfl
@[simp] theorem capUpd_can (s : State) (n : Nat) (f : CapCh → CapCh) : (capUpd s n f).can = s.can := rfl
@[simp] theorem capUpd_wlk (s : State) (n : Nat) (f : CapCh → CapCh) : (capUpd s n f).wlk = s.wlk := rfl
@[simp] theorem capUpd_par (s : State) (n : Nat) (f : CapCh → CapCh) : (capUpd s n f).par = s.par := rfl
@[simp] theorem capUpd_mram (s : State) (n : Nat) (f : CapCh → CapCh) : (capUpd s n f).mram = s.mram := rfl
@[simp] theorem capUpd_aon (s : State) (n : Nat) (f : CapCh → CapCh) : (capUpd s n f).aon = s.aon := rfl
@[simp] theorem capUpd_pwr (s : State) (n : Nat) (f : CapCh → CapCh) : (capUpd s n f).pwr = s.pwr := rfl
@[simp] theorem capUpd_hdl (s : State) (n : Nat) (f : CapCh → CapCh) : (capUpd s n f).hdl = s.hdl := rfl
@[simp] theorem capUpd_rdata (s : State) (n : Nat) (f : CapCh → CapCh) : (capUpd s n f).rdata = s.rdata := rfl
@[simp] theorem capUpd_out (s : State) (n : Nat) (f : CapCh → CapCh) : (capUpd s n f).out = s.out := rfl
@[simp] theorem capUpd_freeCtr (s : State) (n : Nat) (f : CapCh → CapCh) : (capUpd s n f).freeCtr = s.freeCtr := rfl
@[simp] theorem capUpd_pending (s : State) (n : Nat) (f : CapCh → CapCh) : (capUpd s n f).pending = s.pending := rfl

@[simp] theorem cnvUpd_regs (s : State) (g : Nat) (f : CnvGroup → CnvGroup) : (cnvUpd s g f).regs = s.regs := rfl
@[simp] theorem cnvUpd_staged (s : State) (g : Nat) (f : CnvGroup → CnvGroup) : (cnvUpd s g f).staged = s.staged := rfl
@[simp] theorem cnvUpd_commits (s : State) (g : Nat) (f : CnvGroup → CnvGroup) : (cnvUpd s g f).commits = s.commits := rfl
@[simp] theorem cnvUpd_tmb (s : State) (g : Nat) (f : CnvGroup → CnvGroup) : (cnvUpd s g f).tmb = s.tmb := rfl
@[simp] theorem cnvUpd_pst (s : State) (g : Nat) (f : CnvGroup → CnvGroup) : (cnvUpd s g f).pst = s.pst := rfl
@[simp] theorem cnvUpd_hif (s : State) (g : Nat) (f : CnvGroup → CnvGroup) : (cnvUpd s g f).hif = s.hif := rfl
@[simp] theorem cnvUpd_recd (s : State) (g : Nat) (f : CnvGroup → CnvGroup) : (cnvUpd s g f).recd = s.recd := rfl
@[simp] theorem cnvUpd_cyc (s : State) (g : Nat) (f : CnvGroup → CnvGroup) : (cnvUpd s g f).cyc = s.cyc := rfl
@[simp] theorem cnvUpd_hrt (s : State) (g : Nat) (f : CnvGroup → CnvGroup) : (cnvUpd s g f).hrt = s.hrt := rfl
@[simp] theorem cnvUpd_ile (s : State) (g : Nat) (f : CnvGroup → CnvGroup) : (cnvUpd s g f).ile = s.ile := rfl
@[simp] theorem cnvUpd_anv (s : State) (g : Nat) (f : CnvGroup → CnvGroup) : (cnvUpd s g f).anv = s.anv := rfl
@[simp] theorem cnvUpd_cap (s : State) (g : Nat) (f : CnvGroup → CnvGroup) : (cnvUpd s g f).cap = s.cap := rfl
@[simp] theorem cnvUpd_qch (s : State) (g : Nat) (f : CnvGroup → CnvGroup) : (cnvUpd s g f).qch = s.qch := rfl
@[simp] theorem cnvUpd_fbk (s : State) (g : Nat) (f : CnvGroup → CnvGroup) : (cnvUpd s g f).fbk = s.fbk := rfl
@[simp] theorem cnvUpd_mot (s : State) (g : Nat) (f : CnvGroup → CnvGroup) : (cnvUpd s g f).mot = s.mot := rfl
@[simp] theorem cnvUpd_stn (s : State) (g : Nat) (f : CnvGroup → CnvGroup) : (cnvUpd s g f).stn = s.stn := rfl
@[simp] theorem cnvUpd_seq (s : State) (g : Nat) (f : CnvGroup → CnvGroup) : (cnvUpd s g f).seq = s.seq := rfl
@[simp] theorem cnvUpd_can (s : State) (g : Nat) (f : CnvGroup → CnvGroup) : (cnvUpd s g f).can = s.can := rfl
@[simp] theorem cnvUpd_wlk (s : State) (g : Nat) (f : CnvGroup → CnvGroup) : (cnvUpd s g f).wlk = s.wlk := rfl
@[simp] theorem cnvUpd_par (s : State) (g : Nat) (f : CnvGroup → CnvGroup) : (cnvUpd s g f).par = s.par := rfl
@[simp] theorem cnvUpd_mram (s : State) (g : Nat) (f : CnvGroup → CnvGroup) : (cnvUpd s g f).mram = s.mram := rfl
@[simp] theorem cnvUpd_aon (s : State) (g : Nat) (f : CnvGroup → CnvGroup) : (cnvUpd s g f).aon = s.aon := rfl
@[simp] theorem cnvUpd_pwr (s : State) (g : Nat) (f : CnvGroup → CnvGroup) : (cnvUpd s g f).pwr = s.pwr := rfl
@[simp] theorem cnvUpd_hdl (s : State) (g : Nat) (f : CnvGroup → CnvGroup) : (cnvUpd s g f).hdl = s.hdl := rfl
@[simp] theorem cnvUpd_rdata (s : State) (g : Nat) (f : CnvGroup → CnvGroup) : (cnvUpd s g f).rdata = s.rdata := rfl
@[simp] theorem cnvUpd_out (s : State) (g : Nat) (f : CnvGroup → CnvGroup) : (cnvUpd s g f).out = s.out := rfl
@[simp] theorem cnvUpd_freeCtr (s : State) (g : Nat) (f : CnvGroup → CnvGroup) : (cnvUpd s g f).freeCtr = s.freeCtr := rfl
@[simp] theorem cnvUpd_pending (s : State) (g : Nat) (f : CnvGroup → CnvGroup) : (cnvUpd s g f).pending = s.pending := rfl

@[simp] theorem sliceUpd_regs (s : State) (n : Nat) (f : CnvSlice → CnvSlice) : (sliceUpd s n f).regs = s.regs := rfl
@[simp] theorem sliceUpd_staged (s : State) (n : Nat) (f : CnvSlice → CnvSlice) : (sliceUpd s n f).staged = s.staged := rfl
@[simp] theorem sliceUpd_commits (s : State) (n : Nat) (f : CnvSlice → CnvSlice) : (sliceUpd s n f).commits = s.commits := rfl
@[simp] theorem sliceUpd_tmb (s : State) (n : Nat) (f : CnvSlice → CnvSlice) : (sliceUpd s n f).tmb = s.tmb := rfl
@[simp] theorem sliceUpd_pst (s : State) (n : Nat) (f : CnvSlice → CnvSlice) : (sliceUpd s n f).pst = s.pst := rfl
@[simp] theorem sliceUpd_hif (s : State) (n : Nat) (f : CnvSlice → CnvSlice) : (sliceUpd s n f).hif = s.hif := rfl
@[simp] theorem sliceUpd_recd (s : State) (n : Nat) (f : CnvSlice → CnvSlice) : (sliceUpd s n f).recd = s.recd := rfl
@[simp] theorem sliceUpd_cyc (s : State) (n : Nat) (f : CnvSlice → CnvSlice) : (sliceUpd s n f).cyc = s.cyc := rfl
@[simp] theorem sliceUpd_hrt (s : State) (n : Nat) (f : CnvSlice → CnvSlice) : (sliceUpd s n f).hrt = s.hrt := rfl
@[simp] theorem sliceUpd_ile (s : State) (n : Nat) (f : CnvSlice → CnvSlice) : (sliceUpd s n f).ile = s.ile := rfl
@[simp] theorem sliceUpd_anv (s : State) (n : Nat) (f : CnvSlice → CnvSlice) : (sliceUpd s n f).anv = s.anv := rfl
@[simp] theorem sliceUpd_cap (s : State) (n : Nat) (f : CnvSlice → CnvSlice) : (sliceUpd s n f).cap = s.cap := rfl
@[simp] theorem sliceUpd_qch (s : State) (n : Nat) (f : CnvSlice → CnvSlice) : (sliceUpd s n f).qch = s.qch := rfl
@[simp] theorem sliceUpd_fbk (s : State) (n : Nat) (f : CnvSlice → CnvSlice) : (sliceUpd s n f).fbk = s.fbk := rfl
@[simp] theorem sliceUpd_mot (s : State) (n : Nat) (f : CnvSlice → CnvSlice) : (sliceUpd s n f).mot = s.mot := rfl
@[simp] theorem sliceUpd_stn (s : State) (n : Nat) (f : CnvSlice → CnvSlice) : (sliceUpd s n f).stn = s.stn := rfl
@[simp] theorem sliceUpd_seq (s : State) (n : Nat) (f : CnvSlice → CnvSlice) : (sliceUpd s n f).seq = s.seq := rfl
@[simp] theorem sliceUpd_can (s : State) (n : Nat) (f : CnvSlice → CnvSlice) : (sliceUpd s n f).can = s.can := rfl
@[simp] theorem sliceUpd_wlk (s : State) (n : Nat) (f : CnvSlice → CnvSlice) : (sliceUpd s n f).wlk = s.wlk := rfl
@[simp] theorem sliceUpd_par (s : State) (n : Nat) (f : CnvSlice → CnvSlice) : (sliceUpd s n f).par = s.par := rfl
@[simp] theorem sliceUpd_mram (s : State) (n : Nat) (f : CnvSlice → CnvSlice) : (sliceUpd s n f).mram = s.mram := rfl
@[simp] theorem sliceUpd_aon (s : State) (n : Nat) (f : CnvSlice → CnvSlice) : (sliceUpd s n f).aon = s.aon := rfl
@[simp] theorem sliceUpd_pwr (s : State) (n : Nat) (f : CnvSlice → CnvSlice) : (sliceUpd s n f).pwr = s.pwr := rfl
@[simp] theorem sliceUpd_hdl (s : State) (n : Nat) (f : CnvSlice → CnvSlice) : (sliceUpd s n f).hdl = s.hdl := rfl
@[simp] theorem sliceUpd_rdata (s : State) (n : Nat) (f : CnvSlice → CnvSlice) : (sliceUpd s n f).rdata = s.rdata := rfl
@[simp] theorem sliceUpd_out (s : State) (n : Nat) (f : CnvSlice → CnvSlice) : (sliceUpd s n f).out = s.out := rfl
@[simp] theorem sliceUpd_freeCtr (s : State) (n : Nat) (f : CnvSlice → CnvSlice) : (sliceUpd s n f).freeCtr = s.freeCtr := rfl
@[simp] theorem sliceUpd_pending (s : State) (n : Nat) (f : CnvSlice → CnvSlice) : (sliceUpd s n f).pending = s.pending := rfl

@[simp] theorem anvUpd_regs (s : State) (k : Nat) (f : AnvCore → AnvCore) : (anvUpd s k f).regs = s.regs := rfl
@[simp] theorem anvUpd_staged (s : State) (k : Nat) (f : AnvCore → AnvCore) : (anvUpd s k f).staged = s.staged := rfl
@[simp] theorem anvUpd_commits (s : State) (k : Nat) (f : AnvCore → AnvCore) : (anvUpd s k f).commits = s.commits := rfl
@[simp] theorem anvUpd_tmb (s : State) (k : Nat) (f : AnvCore → AnvCore) : (anvUpd s k f).tmb = s.tmb := rfl
@[simp] theorem anvUpd_pst (s : State) (k : Nat) (f : AnvCore → AnvCore) : (anvUpd s k f).pst = s.pst := rfl
@[simp] theorem anvUpd_hif (s : State) (k : Nat) (f : AnvCore → AnvCore) : (anvUpd s k f).hif = s.hif := rfl
@[simp] theorem anvUpd_recd (s : State) (k : Nat) (f : AnvCore → AnvCore) : (anvUpd s k f).recd = s.recd := rfl
@[simp] theorem anvUpd_cyc (s : State) (k : Nat) (f : AnvCore → AnvCore) : (anvUpd s k f).cyc = s.cyc := rfl
@[simp] theorem anvUpd_hrt (s : State) (k : Nat) (f : AnvCore → AnvCore) : (anvUpd s k f).hrt = s.hrt := rfl
@[simp] theorem anvUpd_ile (s : State) (k : Nat) (f : AnvCore → AnvCore) : (anvUpd s k f).ile = s.ile := rfl
@[simp] theorem anvUpd_cnv (s : State) (k : Nat) (f : AnvCore → AnvCore) : (anvUpd s k f).cnv = s.cnv := rfl
@[simp] theorem anvUpd_cap (s : State) (k : Nat) (f : AnvCore → AnvCore) : (anvUpd s k f).cap = s.cap := rfl
@[simp] theorem anvUpd_qch (s : State) (k : Nat) (f : AnvCore → AnvCore) : (anvUpd s k f).qch = s.qch := rfl
@[simp] theorem anvUpd_fbk (s : State) (k : Nat) (f : AnvCore → AnvCore) : (anvUpd s k f).fbk = s.fbk := rfl
@[simp] theorem anvUpd_mot (s : State) (k : Nat) (f : AnvCore → AnvCore) : (anvUpd s k f).mot = s.mot := rfl
@[simp] theorem anvUpd_stn (s : State) (k : Nat) (f : AnvCore → AnvCore) : (anvUpd s k f).stn = s.stn := rfl
@[simp] theorem anvUpd_seq (s : State) (k : Nat) (f : AnvCore → AnvCore) : (anvUpd s k f).seq = s.seq := rfl
@[simp] theorem anvUpd_can (s : State) (k : Nat) (f : AnvCore → AnvCore) : (anvUpd s k f).can = s.can := rfl
@[simp] theorem anvUpd_wlk (s : State) (k : Nat) (f : AnvCore → AnvCore) : (anvUpd s k f).wlk = s.wlk := rfl
@[simp] theorem anvUpd_par (s : State) (k : Nat) (f : AnvCore → AnvCore) : (anvUpd s k f).par = s.par := rfl
@[simp] theorem anvUpd_mram (s : State) (k : Nat) (f : AnvCore → AnvCore) : (anvUpd s k f).mram = s.mram := rfl
@[simp] theorem anvUpd_aon (s : State) (k : Nat) (f : AnvCore → AnvCore) : (anvUpd s k f).aon = s.aon := rfl
@[simp] theorem anvUpd_pwr (s : State) (k : Nat) (f : AnvCore → AnvCore) : (anvUpd s k f).pwr = s.pwr := rfl
@[simp] theorem anvUpd_hdl (s : State) (k : Nat) (f : AnvCore → AnvCore) : (anvUpd s k f).hdl = s.hdl := rfl
@[simp] theorem anvUpd_rdata (s : State) (k : Nat) (f : AnvCore → AnvCore) : (anvUpd s k f).rdata = s.rdata := rfl
@[simp] theorem anvUpd_out (s : State) (k : Nat) (f : AnvCore → AnvCore) : (anvUpd s k f).out = s.out := rfl
@[simp] theorem anvUpd_freeCtr (s : State) (k : Nat) (f : AnvCore → AnvCore) : (anvUpd s k f).freeCtr = s.freeCtr := rfl
@[simp] theorem anvUpd_pending (s : State) (k : Nat) (f : AnvCore → AnvCore) : (anvUpd s k f).pending = s.pending := rfl

@[simp] theorem loopUpd_regs (s : State) (n : Nat) (f : Loop → Loop) : (loopUpd s n f).regs = s.regs := rfl
@[simp] theorem loopUpd_staged (s : State) (n : Nat) (f : Loop → Loop) : (loopUpd s n f).staged = s.staged := rfl
@[simp] theorem loopUpd_commits (s : State) (n : Nat) (f : Loop → Loop) : (loopUpd s n f).commits = s.commits := rfl
@[simp] theorem loopUpd_tmb (s : State) (n : Nat) (f : Loop → Loop) : (loopUpd s n f).tmb = s.tmb := rfl
@[simp] theorem loopUpd_pst (s : State) (n : Nat) (f : Loop → Loop) : (loopUpd s n f).pst = s.pst := rfl
@[simp] theorem loopUpd_hif (s : State) (n : Nat) (f : Loop → Loop) : (loopUpd s n f).hif = s.hif := rfl
@[simp] theorem loopUpd_recd (s : State) (n : Nat) (f : Loop → Loop) : (loopUpd s n f).recd = s.recd := rfl
@[simp] theorem loopUpd_cyc (s : State) (n : Nat) (f : Loop → Loop) : (loopUpd s n f).cyc = s.cyc := rfl
@[simp] theorem loopUpd_hrt (s : State) (n : Nat) (f : Loop → Loop) : (loopUpd s n f).hrt = s.hrt := rfl
@[simp] theorem loopUpd_ile (s : State) (n : Nat) (f : Loop → Loop) : (loopUpd s n f).ile = s.ile := rfl
@[simp] theorem loopUpd_cnv (s : State) (n : Nat) (f : Loop → Loop) : (loopUpd s n f).cnv = s.cnv := rfl
@[simp] theorem loopUpd_cap (s : State) (n : Nat) (f : Loop → Loop) : (loopUpd s n f).cap = s.cap := rfl
@[simp] theorem loopUpd_qch (s : State) (n : Nat) (f : Loop → Loop) : (loopUpd s n f).qch = s.qch := rfl
@[simp] theorem loopUpd_fbk (s : State) (n : Nat) (f : Loop → Loop) : (loopUpd s n f).fbk = s.fbk := rfl
@[simp] theorem loopUpd_mot (s : State) (n : Nat) (f : Loop → Loop) : (loopUpd s n f).mot = s.mot := rfl
@[simp] theorem loopUpd_stn (s : State) (n : Nat) (f : Loop → Loop) : (loopUpd s n f).stn = s.stn := rfl
@[simp] theorem loopUpd_seq (s : State) (n : Nat) (f : Loop → Loop) : (loopUpd s n f).seq = s.seq := rfl
@[simp] theorem loopUpd_can (s : State) (n : Nat) (f : Loop → Loop) : (loopUpd s n f).can = s.can := rfl
@[simp] theorem loopUpd_wlk (s : State) (n : Nat) (f : Loop → Loop) : (loopUpd s n f).wlk = s.wlk := rfl
@[simp] theorem loopUpd_par (s : State) (n : Nat) (f : Loop → Loop) : (loopUpd s n f).par = s.par := rfl
@[simp] theorem loopUpd_mram (s : State) (n : Nat) (f : Loop → Loop) : (loopUpd s n f).mram = s.mram := rfl
@[simp] theorem loopUpd_aon (s : State) (n : Nat) (f : Loop → Loop) : (loopUpd s n f).aon = s.aon := rfl
@[simp] theorem loopUpd_pwr (s : State) (n : Nat) (f : Loop → Loop) : (loopUpd s n f).pwr = s.pwr := rfl
@[simp] theorem loopUpd_hdl (s : State) (n : Nat) (f : Loop → Loop) : (loopUpd s n f).hdl = s.hdl := rfl
@[simp] theorem loopUpd_rdata (s : State) (n : Nat) (f : Loop → Loop) : (loopUpd s n f).rdata = s.rdata := rfl
@[simp] theorem loopUpd_out (s : State) (n : Nat) (f : Loop → Loop) : (loopUpd s n f).out = s.out := rfl
@[simp] theorem loopUpd_freeCtr (s : State) (n : Nat) (f : Loop → Loop) : (loopUpd s n f).freeCtr = s.freeCtr := rfl
@[simp] theorem loopUpd_pending (s : State) (n : Nat) (f : Loop → Loop) : (loopUpd s n f).pending = s.pending := rfl

@[simp] theorem canUpd_regs (s : State) (c : Nat) (f : CanCtl → CanCtl) : (canUpd s c f).regs = s.regs := rfl
@[simp] theorem canUpd_staged (s : State) (c : Nat) (f : CanCtl → CanCtl) : (canUpd s c f).staged = s.staged := rfl
@[simp] theorem canUpd_commits (s : State) (c : Nat) (f : CanCtl → CanCtl) : (canUpd s c f).commits = s.commits := rfl
@[simp] theorem canUpd_tmb (s : State) (c : Nat) (f : CanCtl → CanCtl) : (canUpd s c f).tmb = s.tmb := rfl
@[simp] theorem canUpd_pst (s : State) (c : Nat) (f : CanCtl → CanCtl) : (canUpd s c f).pst = s.pst := rfl
@[simp] theorem canUpd_hif (s : State) (c : Nat) (f : CanCtl → CanCtl) : (canUpd s c f).hif = s.hif := rfl
@[simp] theorem canUpd_recd (s : State) (c : Nat) (f : CanCtl → CanCtl) : (canUpd s c f).recd = s.recd := rfl
@[simp] theorem canUpd_cyc (s : State) (c : Nat) (f : CanCtl → CanCtl) : (canUpd s c f).cyc = s.cyc := rfl
@[simp] theorem canUpd_hrt (s : State) (c : Nat) (f : CanCtl → CanCtl) : (canUpd s c f).hrt = s.hrt := rfl
@[simp] theorem canUpd_ile (s : State) (c : Nat) (f : CanCtl → CanCtl) : (canUpd s c f).ile = s.ile := rfl
@[simp] theorem canUpd_cnv (s : State) (c : Nat) (f : CanCtl → CanCtl) : (canUpd s c f).cnv = s.cnv := rfl
@[simp] theorem canUpd_anv (s : State) (c : Nat) (f : CanCtl → CanCtl) : (canUpd s c f).anv = s.anv := rfl
@[simp] theorem canUpd_cap (s : State) (c : Nat) (f : CanCtl → CanCtl) : (canUpd s c f).cap = s.cap := rfl
@[simp] theorem canUpd_qch (s : State) (c : Nat) (f : CanCtl → CanCtl) : (canUpd s c f).qch = s.qch := rfl
@[simp] theorem canUpd_fbk (s : State) (c : Nat) (f : CanCtl → CanCtl) : (canUpd s c f).fbk = s.fbk := rfl
@[simp] theorem canUpd_mot (s : State) (c : Nat) (f : CanCtl → CanCtl) : (canUpd s c f).mot = s.mot := rfl
@[simp] theorem canUpd_stn (s : State) (c : Nat) (f : CanCtl → CanCtl) : (canUpd s c f).stn = s.stn := rfl
@[simp] theorem canUpd_seq (s : State) (c : Nat) (f : CanCtl → CanCtl) : (canUpd s c f).seq = s.seq := rfl
@[simp] theorem canUpd_wlk (s : State) (c : Nat) (f : CanCtl → CanCtl) : (canUpd s c f).wlk = s.wlk := rfl
@[simp] theorem canUpd_par (s : State) (c : Nat) (f : CanCtl → CanCtl) : (canUpd s c f).par = s.par := rfl
@[simp] theorem canUpd_mram (s : State) (c : Nat) (f : CanCtl → CanCtl) : (canUpd s c f).mram = s.mram := rfl
@[simp] theorem canUpd_aon (s : State) (c : Nat) (f : CanCtl → CanCtl) : (canUpd s c f).aon = s.aon := rfl
@[simp] theorem canUpd_pwr (s : State) (c : Nat) (f : CanCtl → CanCtl) : (canUpd s c f).pwr = s.pwr := rfl
@[simp] theorem canUpd_hdl (s : State) (c : Nat) (f : CanCtl → CanCtl) : (canUpd s c f).hdl = s.hdl := rfl
@[simp] theorem canUpd_rdata (s : State) (c : Nat) (f : CanCtl → CanCtl) : (canUpd s c f).rdata = s.rdata := rfl
@[simp] theorem canUpd_out (s : State) (c : Nat) (f : CanCtl → CanCtl) : (canUpd s c f).out = s.out := rfl
@[simp] theorem canUpd_freeCtr (s : State) (c : Nat) (f : CanCtl → CanCtl) : (canUpd s c f).freeCtr = s.freeCtr := rfl
@[simp] theorem canUpd_pending (s : State) (c : Nat) (f : CanCtl → CanCtl) : (canUpd s c f).pending = s.pending := rfl

@[simp] theorem fbkUpd_regs (s : State) (n : Nat) (f : FbkCh → FbkCh) : (fbkUpd s n f).regs = s.regs := rfl
@[simp] theorem fbkUpd_staged (s : State) (n : Nat) (f : FbkCh → FbkCh) : (fbkUpd s n f).staged = s.staged := rfl
@[simp] theorem fbkUpd_commits (s : State) (n : Nat) (f : FbkCh → FbkCh) : (fbkUpd s n f).commits = s.commits := rfl
@[simp] theorem fbkUpd_tmb (s : State) (n : Nat) (f : FbkCh → FbkCh) : (fbkUpd s n f).tmb = s.tmb := rfl
@[simp] theorem fbkUpd_pst (s : State) (n : Nat) (f : FbkCh → FbkCh) : (fbkUpd s n f).pst = s.pst := rfl
@[simp] theorem fbkUpd_hif (s : State) (n : Nat) (f : FbkCh → FbkCh) : (fbkUpd s n f).hif = s.hif := rfl
@[simp] theorem fbkUpd_recd (s : State) (n : Nat) (f : FbkCh → FbkCh) : (fbkUpd s n f).recd = s.recd := rfl
@[simp] theorem fbkUpd_cyc (s : State) (n : Nat) (f : FbkCh → FbkCh) : (fbkUpd s n f).cyc = s.cyc := rfl
@[simp] theorem fbkUpd_hrt (s : State) (n : Nat) (f : FbkCh → FbkCh) : (fbkUpd s n f).hrt = s.hrt := rfl
@[simp] theorem fbkUpd_ile (s : State) (n : Nat) (f : FbkCh → FbkCh) : (fbkUpd s n f).ile = s.ile := rfl
@[simp] theorem fbkUpd_cnv (s : State) (n : Nat) (f : FbkCh → FbkCh) : (fbkUpd s n f).cnv = s.cnv := rfl
@[simp] theorem fbkUpd_anv (s : State) (n : Nat) (f : FbkCh → FbkCh) : (fbkUpd s n f).anv = s.anv := rfl
@[simp] theorem fbkUpd_cap (s : State) (n : Nat) (f : FbkCh → FbkCh) : (fbkUpd s n f).cap = s.cap := rfl
@[simp] theorem fbkUpd_qch (s : State) (n : Nat) (f : FbkCh → FbkCh) : (fbkUpd s n f).qch = s.qch := rfl
@[simp] theorem fbkUpd_mot (s : State) (n : Nat) (f : FbkCh → FbkCh) : (fbkUpd s n f).mot = s.mot := rfl
@[simp] theorem fbkUpd_stn (s : State) (n : Nat) (f : FbkCh → FbkCh) : (fbkUpd s n f).stn = s.stn := rfl
@[simp] theorem fbkUpd_seq (s : State) (n : Nat) (f : FbkCh → FbkCh) : (fbkUpd s n f).seq = s.seq := rfl
@[simp] theorem fbkUpd_can (s : State) (n : Nat) (f : FbkCh → FbkCh) : (fbkUpd s n f).can = s.can := rfl
@[simp] theorem fbkUpd_wlk (s : State) (n : Nat) (f : FbkCh → FbkCh) : (fbkUpd s n f).wlk = s.wlk := rfl
@[simp] theorem fbkUpd_par (s : State) (n : Nat) (f : FbkCh → FbkCh) : (fbkUpd s n f).par = s.par := rfl
@[simp] theorem fbkUpd_mram (s : State) (n : Nat) (f : FbkCh → FbkCh) : (fbkUpd s n f).mram = s.mram := rfl
@[simp] theorem fbkUpd_aon (s : State) (n : Nat) (f : FbkCh → FbkCh) : (fbkUpd s n f).aon = s.aon := rfl
@[simp] theorem fbkUpd_pwr (s : State) (n : Nat) (f : FbkCh → FbkCh) : (fbkUpd s n f).pwr = s.pwr := rfl
@[simp] theorem fbkUpd_hdl (s : State) (n : Nat) (f : FbkCh → FbkCh) : (fbkUpd s n f).hdl = s.hdl := rfl
@[simp] theorem fbkUpd_rdata (s : State) (n : Nat) (f : FbkCh → FbkCh) : (fbkUpd s n f).rdata = s.rdata := rfl
@[simp] theorem fbkUpd_out (s : State) (n : Nat) (f : FbkCh → FbkCh) : (fbkUpd s n f).out = s.out := rfl
@[simp] theorem fbkUpd_freeCtr (s : State) (n : Nat) (f : FbkCh → FbkCh) : (fbkUpd s n f).freeCtr = s.freeCtr := rfl
@[simp] theorem fbkUpd_pending (s : State) (n : Nat) (f : FbkCh → FbkCh) : (fbkUpd s n f).pending = s.pending := rfl

@[simp] theorem axUpd_regs (s : State) (n : Nat) (f : Axis → Axis) : (axUpd s n f).regs = s.regs := rfl
@[simp] theorem axUpd_staged (s : State) (n : Nat) (f : Axis → Axis) : (axUpd s n f).staged = s.staged := rfl
@[simp] theorem axUpd_commits (s : State) (n : Nat) (f : Axis → Axis) : (axUpd s n f).commits = s.commits := rfl
@[simp] theorem axUpd_tmb (s : State) (n : Nat) (f : Axis → Axis) : (axUpd s n f).tmb = s.tmb := rfl
@[simp] theorem axUpd_pst (s : State) (n : Nat) (f : Axis → Axis) : (axUpd s n f).pst = s.pst := rfl
@[simp] theorem axUpd_hif (s : State) (n : Nat) (f : Axis → Axis) : (axUpd s n f).hif = s.hif := rfl
@[simp] theorem axUpd_recd (s : State) (n : Nat) (f : Axis → Axis) : (axUpd s n f).recd = s.recd := rfl
@[simp] theorem axUpd_cyc (s : State) (n : Nat) (f : Axis → Axis) : (axUpd s n f).cyc = s.cyc := rfl
@[simp] theorem axUpd_hrt (s : State) (n : Nat) (f : Axis → Axis) : (axUpd s n f).hrt = s.hrt := rfl
@[simp] theorem axUpd_ile (s : State) (n : Nat) (f : Axis → Axis) : (axUpd s n f).ile = s.ile := rfl
@[simp] theorem axUpd_cnv (s : State) (n : Nat) (f : Axis → Axis) : (axUpd s n f).cnv = s.cnv := rfl
@[simp] theorem axUpd_anv (s : State) (n : Nat) (f : Axis → Axis) : (axUpd s n f).anv = s.anv := rfl
@[simp] theorem axUpd_cap (s : State) (n : Nat) (f : Axis → Axis) : (axUpd s n f).cap = s.cap := rfl
@[simp] theorem axUpd_qch (s : State) (n : Nat) (f : Axis → Axis) : (axUpd s n f).qch = s.qch := rfl
@[simp] theorem axUpd_fbk (s : State) (n : Nat) (f : Axis → Axis) : (axUpd s n f).fbk = s.fbk := rfl
@[simp] theorem axUpd_stn (s : State) (n : Nat) (f : Axis → Axis) : (axUpd s n f).stn = s.stn := rfl
@[simp] theorem axUpd_seq (s : State) (n : Nat) (f : Axis → Axis) : (axUpd s n f).seq = s.seq := rfl
@[simp] theorem axUpd_can (s : State) (n : Nat) (f : Axis → Axis) : (axUpd s n f).can = s.can := rfl
@[simp] theorem axUpd_wlk (s : State) (n : Nat) (f : Axis → Axis) : (axUpd s n f).wlk = s.wlk := rfl
@[simp] theorem axUpd_par (s : State) (n : Nat) (f : Axis → Axis) : (axUpd s n f).par = s.par := rfl
@[simp] theorem axUpd_mram (s : State) (n : Nat) (f : Axis → Axis) : (axUpd s n f).mram = s.mram := rfl
@[simp] theorem axUpd_aon (s : State) (n : Nat) (f : Axis → Axis) : (axUpd s n f).aon = s.aon := rfl
@[simp] theorem axUpd_pwr (s : State) (n : Nat) (f : Axis → Axis) : (axUpd s n f).pwr = s.pwr := rfl
@[simp] theorem axUpd_hdl (s : State) (n : Nat) (f : Axis → Axis) : (axUpd s n f).hdl = s.hdl := rfl
@[simp] theorem axUpd_rdata (s : State) (n : Nat) (f : Axis → Axis) : (axUpd s n f).rdata = s.rdata := rfl
@[simp] theorem axUpd_out (s : State) (n : Nat) (f : Axis → Axis) : (axUpd s n f).out = s.out := rfl
@[simp] theorem axUpd_freeCtr (s : State) (n : Nat) (f : Axis → Axis) : (axUpd s n f).freeCtr = s.freeCtr := rfl
@[simp] theorem axUpd_pending (s : State) (n : Nat) (f : Axis → Axis) : (axUpd s n f).pending = s.pending := rfl

@[simp] theorem portUpd_regs (s : State) (p : Nat) (f : StnPort → StnPort) : (portUpd s p f).regs = s.regs := rfl
@[simp] theorem portUpd_staged (s : State) (p : Nat) (f : StnPort → StnPort) : (portUpd s p f).staged = s.staged := rfl
@[simp] theorem portUpd_commits (s : State) (p : Nat) (f : StnPort → StnPort) : (portUpd s p f).commits = s.commits := rfl
@[simp] theorem portUpd_tmb (s : State) (p : Nat) (f : StnPort → StnPort) : (portUpd s p f).tmb = s.tmb := rfl
@[simp] theorem portUpd_pst (s : State) (p : Nat) (f : StnPort → StnPort) : (portUpd s p f).pst = s.pst := rfl
@[simp] theorem portUpd_hif (s : State) (p : Nat) (f : StnPort → StnPort) : (portUpd s p f).hif = s.hif := rfl
@[simp] theorem portUpd_recd (s : State) (p : Nat) (f : StnPort → StnPort) : (portUpd s p f).recd = s.recd := rfl
@[simp] theorem portUpd_cyc (s : State) (p : Nat) (f : StnPort → StnPort) : (portUpd s p f).cyc = s.cyc := rfl
@[simp] theorem portUpd_hrt (s : State) (p : Nat) (f : StnPort → StnPort) : (portUpd s p f).hrt = s.hrt := rfl
@[simp] theorem portUpd_ile (s : State) (p : Nat) (f : StnPort → StnPort) : (portUpd s p f).ile = s.ile := rfl
@[simp] theorem portUpd_cnv (s : State) (p : Nat) (f : StnPort → StnPort) : (portUpd s p f).cnv = s.cnv := rfl
@[simp] theorem portUpd_anv (s : State) (p : Nat) (f : StnPort → StnPort) : (portUpd s p f).anv = s.anv := rfl
@[simp] theorem portUpd_cap (s : State) (p : Nat) (f : StnPort → StnPort) : (portUpd s p f).cap = s.cap := rfl
@[simp] theorem portUpd_qch (s : State) (p : Nat) (f : StnPort → StnPort) : (portUpd s p f).qch = s.qch := rfl
@[simp] theorem portUpd_fbk (s : State) (p : Nat) (f : StnPort → StnPort) : (portUpd s p f).fbk = s.fbk := rfl
@[simp] theorem portUpd_mot (s : State) (p : Nat) (f : StnPort → StnPort) : (portUpd s p f).mot = s.mot := rfl
@[simp] theorem portUpd_seq (s : State) (p : Nat) (f : StnPort → StnPort) : (portUpd s p f).seq = s.seq := rfl
@[simp] theorem portUpd_can (s : State) (p : Nat) (f : StnPort → StnPort) : (portUpd s p f).can = s.can := rfl
@[simp] theorem portUpd_wlk (s : State) (p : Nat) (f : StnPort → StnPort) : (portUpd s p f).wlk = s.wlk := rfl
@[simp] theorem portUpd_par (s : State) (p : Nat) (f : StnPort → StnPort) : (portUpd s p f).par = s.par := rfl
@[simp] theorem portUpd_mram (s : State) (p : Nat) (f : StnPort → StnPort) : (portUpd s p f).mram = s.mram := rfl
@[simp] theorem portUpd_aon (s : State) (p : Nat) (f : StnPort → StnPort) : (portUpd s p f).aon = s.aon := rfl
@[simp] theorem portUpd_pwr (s : State) (p : Nat) (f : StnPort → StnPort) : (portUpd s p f).pwr = s.pwr := rfl
@[simp] theorem portUpd_hdl (s : State) (p : Nat) (f : StnPort → StnPort) : (portUpd s p f).hdl = s.hdl := rfl
@[simp] theorem portUpd_rdata (s : State) (p : Nat) (f : StnPort → StnPort) : (portUpd s p f).rdata = s.rdata := rfl
@[simp] theorem portUpd_out (s : State) (p : Nat) (f : StnPort → StnPort) : (portUpd s p f).out = s.out := rfl
@[simp] theorem portUpd_freeCtr (s : State) (p : Nat) (f : StnPort → StnPort) : (portUpd s p f).freeCtr = s.freeCtr := rfl
@[simp] theorem portUpd_pending (s : State) (p : Nat) (f : StnPort → StnPort) : (portUpd s p f).pending = s.pending := rfl

@[simp] theorem stUpd_regs (s : State) (n : Nat) (f : Station → Station) : (stUpd s n f).regs = s.regs := rfl
@[simp] theorem stUpd_staged (s : State) (n : Nat) (f : Station → Station) : (stUpd s n f).staged = s.staged := rfl
@[simp] theorem stUpd_commits (s : State) (n : Nat) (f : Station → Station) : (stUpd s n f).commits = s.commits := rfl
@[simp] theorem stUpd_tmb (s : State) (n : Nat) (f : Station → Station) : (stUpd s n f).tmb = s.tmb := rfl
@[simp] theorem stUpd_pst (s : State) (n : Nat) (f : Station → Station) : (stUpd s n f).pst = s.pst := rfl
@[simp] theorem stUpd_hif (s : State) (n : Nat) (f : Station → Station) : (stUpd s n f).hif = s.hif := rfl
@[simp] theorem stUpd_recd (s : State) (n : Nat) (f : Station → Station) : (stUpd s n f).recd = s.recd := rfl
@[simp] theorem stUpd_cyc (s : State) (n : Nat) (f : Station → Station) : (stUpd s n f).cyc = s.cyc := rfl
@[simp] theorem stUpd_hrt (s : State) (n : Nat) (f : Station → Station) : (stUpd s n f).hrt = s.hrt := rfl
@[simp] theorem stUpd_ile (s : State) (n : Nat) (f : Station → Station) : (stUpd s n f).ile = s.ile := rfl
@[simp] theorem stUpd_cnv (s : State) (n : Nat) (f : Station → Station) : (stUpd s n f).cnv = s.cnv := rfl
@[simp] theorem stUpd_anv (s : State) (n : Nat) (f : Station → Station) : (stUpd s n f).anv = s.anv := rfl
@[simp] theorem stUpd_cap (s : State) (n : Nat) (f : Station → Station) : (stUpd s n f).cap = s.cap := rfl
@[simp] theorem stUpd_qch (s : State) (n : Nat) (f : Station → Station) : (stUpd s n f).qch = s.qch := rfl
@[simp] theorem stUpd_fbk (s : State) (n : Nat) (f : Station → Station) : (stUpd s n f).fbk = s.fbk := rfl
@[simp] theorem stUpd_mot (s : State) (n : Nat) (f : Station → Station) : (stUpd s n f).mot = s.mot := rfl
@[simp] theorem stUpd_seq (s : State) (n : Nat) (f : Station → Station) : (stUpd s n f).seq = s.seq := rfl
@[simp] theorem stUpd_can (s : State) (n : Nat) (f : Station → Station) : (stUpd s n f).can = s.can := rfl
@[simp] theorem stUpd_wlk (s : State) (n : Nat) (f : Station → Station) : (stUpd s n f).wlk = s.wlk := rfl
@[simp] theorem stUpd_par (s : State) (n : Nat) (f : Station → Station) : (stUpd s n f).par = s.par := rfl
@[simp] theorem stUpd_mram (s : State) (n : Nat) (f : Station → Station) : (stUpd s n f).mram = s.mram := rfl
@[simp] theorem stUpd_aon (s : State) (n : Nat) (f : Station → Station) : (stUpd s n f).aon = s.aon := rfl
@[simp] theorem stUpd_pwr (s : State) (n : Nat) (f : Station → Station) : (stUpd s n f).pwr = s.pwr := rfl
@[simp] theorem stUpd_hdl (s : State) (n : Nat) (f : Station → Station) : (stUpd s n f).hdl = s.hdl := rfl
@[simp] theorem stUpd_rdata (s : State) (n : Nat) (f : Station → Station) : (stUpd s n f).rdata = s.rdata := rfl
@[simp] theorem stUpd_out (s : State) (n : Nat) (f : Station → Station) : (stUpd s n f).out = s.out := rfl
@[simp] theorem stUpd_freeCtr (s : State) (n : Nat) (f : Station → Station) : (stUpd s n f).freeCtr = s.freeCtr := rfl
@[simp] theorem stUpd_pending (s : State) (n : Nat) (f : Station → Station) : (stUpd s n f).pending = s.pending := rfl

@[simp] theorem coreUpd_regs (s : State) (c : Nat) (f : Core → Core) : (coreUpd s c f).regs = s.regs := rfl
@[simp] theorem coreUpd_staged (s : State) (c : Nat) (f : Core → Core) : (coreUpd s c f).staged = s.staged := rfl
@[simp] theorem coreUpd_commits (s : State) (c : Nat) (f : Core → Core) : (coreUpd s c f).commits = s.commits := rfl
@[simp] theorem coreUpd_tmb (s : State) (c : Nat) (f : Core → Core) : (coreUpd s c f).tmb = s.tmb := rfl
@[simp] theorem coreUpd_pst (s : State) (c : Nat) (f : Core → Core) : (coreUpd s c f).pst = s.pst := rfl
@[simp] theorem coreUpd_hif (s : State) (c : Nat) (f : Core → Core) : (coreUpd s c f).hif = s.hif := rfl
@[simp] theorem coreUpd_recd (s : State) (c : Nat) (f : Core → Core) : (coreUpd s c f).recd = s.recd := rfl
@[simp] theorem coreUpd_cyc (s : State) (c : Nat) (f : Core → Core) : (coreUpd s c f).cyc = s.cyc := rfl
@[simp] theorem coreUpd_ile (s : State) (c : Nat) (f : Core → Core) : (coreUpd s c f).ile = s.ile := rfl
@[simp] theorem coreUpd_cnv (s : State) (c : Nat) (f : Core → Core) : (coreUpd s c f).cnv = s.cnv := rfl
@[simp] theorem coreUpd_anv (s : State) (c : Nat) (f : Core → Core) : (coreUpd s c f).anv = s.anv := rfl
@[simp] theorem coreUpd_cap (s : State) (c : Nat) (f : Core → Core) : (coreUpd s c f).cap = s.cap := rfl
@[simp] theorem coreUpd_qch (s : State) (c : Nat) (f : Core → Core) : (coreUpd s c f).qch = s.qch := rfl
@[simp] theorem coreUpd_fbk (s : State) (c : Nat) (f : Core → Core) : (coreUpd s c f).fbk = s.fbk := rfl
@[simp] theorem coreUpd_mot (s : State) (c : Nat) (f : Core → Core) : (coreUpd s c f).mot = s.mot := rfl
@[simp] theorem coreUpd_stn (s : State) (c : Nat) (f : Core → Core) : (coreUpd s c f).stn = s.stn := rfl
@[simp] theorem coreUpd_seq (s : State) (c : Nat) (f : Core → Core) : (coreUpd s c f).seq = s.seq := rfl
@[simp] theorem coreUpd_can (s : State) (c : Nat) (f : Core → Core) : (coreUpd s c f).can = s.can := rfl
@[simp] theorem coreUpd_wlk (s : State) (c : Nat) (f : Core → Core) : (coreUpd s c f).wlk = s.wlk := rfl
@[simp] theorem coreUpd_par (s : State) (c : Nat) (f : Core → Core) : (coreUpd s c f).par = s.par := rfl
@[simp] theorem coreUpd_mram (s : State) (c : Nat) (f : Core → Core) : (coreUpd s c f).mram = s.mram := rfl
@[simp] theorem coreUpd_aon (s : State) (c : Nat) (f : Core → Core) : (coreUpd s c f).aon = s.aon := rfl
@[simp] theorem coreUpd_pwr (s : State) (c : Nat) (f : Core → Core) : (coreUpd s c f).pwr = s.pwr := rfl
@[simp] theorem coreUpd_hdl (s : State) (c : Nat) (f : Core → Core) : (coreUpd s c f).hdl = s.hdl := rfl
@[simp] theorem coreUpd_rdata (s : State) (c : Nat) (f : Core → Core) : (coreUpd s c f).rdata = s.rdata := rfl
@[simp] theorem coreUpd_out (s : State) (c : Nat) (f : Core → Core) : (coreUpd s c f).out = s.out := rfl
@[simp] theorem coreUpd_freeCtr (s : State) (c : Nat) (f : Core → Core) : (coreUpd s c f).freeCtr = s.freeCtr := rfl
@[simp] theorem coreUpd_pending (s : State) (c : Nat) (f : Core → Core) : (coreUpd s c f).pending = s.pending := rfl

@[simp] theorem seqUpd_regs (s : State) (x : Nat) (f : Exec → Exec) : (seqUpd s x f).regs = s.regs := rfl
@[simp] theorem seqUpd_staged (s : State) (x : Nat) (f : Exec → Exec) : (seqUpd s x f).staged = s.staged := rfl
@[simp] theorem seqUpd_commits (s : State) (x : Nat) (f : Exec → Exec) : (seqUpd s x f).commits = s.commits := rfl
@[simp] theorem seqUpd_tmb (s : State) (x : Nat) (f : Exec → Exec) : (seqUpd s x f).tmb = s.tmb := rfl
@[simp] theorem seqUpd_pst (s : State) (x : Nat) (f : Exec → Exec) : (seqUpd s x f).pst = s.pst := rfl
@[simp] theorem seqUpd_hif (s : State) (x : Nat) (f : Exec → Exec) : (seqUpd s x f).hif = s.hif := rfl
@[simp] theorem seqUpd_recd (s : State) (x : Nat) (f : Exec → Exec) : (seqUpd s x f).recd = s.recd := rfl
@[simp] theorem seqUpd_cyc (s : State) (x : Nat) (f : Exec → Exec) : (seqUpd s x f).cyc = s.cyc := rfl
@[simp] theorem seqUpd_hrt (s : State) (x : Nat) (f : Exec → Exec) : (seqUpd s x f).hrt = s.hrt := rfl
@[simp] theorem seqUpd_ile (s : State) (x : Nat) (f : Exec → Exec) : (seqUpd s x f).ile = s.ile := rfl
@[simp] theorem seqUpd_cnv (s : State) (x : Nat) (f : Exec → Exec) : (seqUpd s x f).cnv = s.cnv := rfl
@[simp] theorem seqUpd_anv (s : State) (x : Nat) (f : Exec → Exec) : (seqUpd s x f).anv = s.anv := rfl
@[simp] theorem seqUpd_cap (s : State) (x : Nat) (f : Exec → Exec) : (seqUpd s x f).cap = s.cap := rfl
@[simp] theorem seqUpd_qch (s : State) (x : Nat) (f : Exec → Exec) : (seqUpd s x f).qch = s.qch := rfl
@[simp] theorem seqUpd_fbk (s : State) (x : Nat) (f : Exec → Exec) : (seqUpd s x f).fbk = s.fbk := rfl
@[simp] theorem seqUpd_mot (s : State) (x : Nat) (f : Exec → Exec) : (seqUpd s x f).mot = s.mot := rfl
@[simp] theorem seqUpd_stn (s : State) (x : Nat) (f : Exec → Exec) : (seqUpd s x f).stn = s.stn := rfl
@[simp] theorem seqUpd_can (s : State) (x : Nat) (f : Exec → Exec) : (seqUpd s x f).can = s.can := rfl
@[simp] theorem seqUpd_wlk (s : State) (x : Nat) (f : Exec → Exec) : (seqUpd s x f).wlk = s.wlk := rfl
@[simp] theorem seqUpd_par (s : State) (x : Nat) (f : Exec → Exec) : (seqUpd s x f).par = s.par := rfl
@[simp] theorem seqUpd_mram (s : State) (x : Nat) (f : Exec → Exec) : (seqUpd s x f).mram = s.mram := rfl
@[simp] theorem seqUpd_aon (s : State) (x : Nat) (f : Exec → Exec) : (seqUpd s x f).aon = s.aon := rfl
@[simp] theorem seqUpd_pwr (s : State) (x : Nat) (f : Exec → Exec) : (seqUpd s x f).pwr = s.pwr := rfl
@[simp] theorem seqUpd_hdl (s : State) (x : Nat) (f : Exec → Exec) : (seqUpd s x f).hdl = s.hdl := rfl
@[simp] theorem seqUpd_rdata (s : State) (x : Nat) (f : Exec → Exec) : (seqUpd s x f).rdata = s.rdata := rfl
@[simp] theorem seqUpd_out (s : State) (x : Nat) (f : Exec → Exec) : (seqUpd s x f).out = s.out := rfl
@[simp] theorem seqUpd_freeCtr (s : State) (x : Nat) (f : Exec → Exec) : (seqUpd s x f).freeCtr = s.freeCtr := rfl
@[simp] theorem seqUpd_pending (s : State) (x : Nat) (f : Exec → Exec) : (seqUpd s x f).pending = s.pending := rfl

@[simp] theorem weldUpd_regs (s : State) (f : Weld → Weld) : (weldUpd s f).regs = s.regs := rfl
@[simp] theorem weldUpd_staged (s : State) (f : Weld → Weld) : (weldUpd s f).staged = s.staged := rfl
@[simp] theorem weldUpd_commits (s : State) (f : Weld → Weld) : (weldUpd s f).commits = s.commits := rfl
@[simp] theorem weldUpd_tmb (s : State) (f : Weld → Weld) : (weldUpd s f).tmb = s.tmb := rfl
@[simp] theorem weldUpd_pst (s : State) (f : Weld → Weld) : (weldUpd s f).pst = s.pst := rfl
@[simp] theorem weldUpd_hif (s : State) (f : Weld → Weld) : (weldUpd s f).hif = s.hif := rfl
@[simp] theorem weldUpd_recd (s : State) (f : Weld → Weld) : (weldUpd s f).recd = s.recd := rfl
@[simp] theorem weldUpd_hrt (s : State) (f : Weld → Weld) : (weldUpd s f).hrt = s.hrt := rfl
@[simp] theorem weldUpd_ile (s : State) (f : Weld → Weld) : (weldUpd s f).ile = s.ile := rfl
@[simp] theorem weldUpd_cnv (s : State) (f : Weld → Weld) : (weldUpd s f).cnv = s.cnv := rfl
@[simp] theorem weldUpd_anv (s : State) (f : Weld → Weld) : (weldUpd s f).anv = s.anv := rfl
@[simp] theorem weldUpd_cap (s : State) (f : Weld → Weld) : (weldUpd s f).cap = s.cap := rfl
@[simp] theorem weldUpd_qch (s : State) (f : Weld → Weld) : (weldUpd s f).qch = s.qch := rfl
@[simp] theorem weldUpd_fbk (s : State) (f : Weld → Weld) : (weldUpd s f).fbk = s.fbk := rfl
@[simp] theorem weldUpd_mot (s : State) (f : Weld → Weld) : (weldUpd s f).mot = s.mot := rfl
@[simp] theorem weldUpd_stn (s : State) (f : Weld → Weld) : (weldUpd s f).stn = s.stn := rfl
@[simp] theorem weldUpd_seq (s : State) (f : Weld → Weld) : (weldUpd s f).seq = s.seq := rfl
@[simp] theorem weldUpd_can (s : State) (f : Weld → Weld) : (weldUpd s f).can = s.can := rfl
@[simp] theorem weldUpd_wlk (s : State) (f : Weld → Weld) : (weldUpd s f).wlk = s.wlk := rfl
@[simp] theorem weldUpd_par (s : State) (f : Weld → Weld) : (weldUpd s f).par = s.par := rfl
@[simp] theorem weldUpd_mram (s : State) (f : Weld → Weld) : (weldUpd s f).mram = s.mram := rfl
@[simp] theorem weldUpd_aon (s : State) (f : Weld → Weld) : (weldUpd s f).aon = s.aon := rfl
@[simp] theorem weldUpd_pwr (s : State) (f : Weld → Weld) : (weldUpd s f).pwr = s.pwr := rfl
@[simp] theorem weldUpd_hdl (s : State) (f : Weld → Weld) : (weldUpd s f).hdl = s.hdl := rfl
@[simp] theorem weldUpd_rdata (s : State) (f : Weld → Weld) : (weldUpd s f).rdata = s.rdata := rfl
@[simp] theorem weldUpd_out (s : State) (f : Weld → Weld) : (weldUpd s f).out = s.out := rfl
@[simp] theorem weldUpd_freeCtr (s : State) (f : Weld → Weld) : (weldUpd s f).freeCtr = s.freeCtr := rfl
@[simp] theorem weldUpd_pending (s : State) (f : Weld → Weld) : (weldUpd s f).pending = s.pending := rfl

@[simp] theorem clsUpd_regs (s : State) (c : Nat) (f : ClassRun → ClassRun) : (clsUpd s c f).regs = s.regs := rfl
@[simp] theorem clsUpd_staged (s : State) (c : Nat) (f : ClassRun → ClassRun) : (clsUpd s c f).staged = s.staged := rfl
@[simp] theorem clsUpd_commits (s : State) (c : Nat) (f : ClassRun → ClassRun) : (clsUpd s c f).commits = s.commits := rfl
@[simp] theorem clsUpd_tmb (s : State) (c : Nat) (f : ClassRun → ClassRun) : (clsUpd s c f).tmb = s.tmb := rfl
@[simp] theorem clsUpd_pst (s : State) (c : Nat) (f : ClassRun → ClassRun) : (clsUpd s c f).pst = s.pst := rfl
@[simp] theorem clsUpd_hif (s : State) (c : Nat) (f : ClassRun → ClassRun) : (clsUpd s c f).hif = s.hif := rfl
@[simp] theorem clsUpd_recd (s : State) (c : Nat) (f : ClassRun → ClassRun) : (clsUpd s c f).recd = s.recd := rfl
@[simp] theorem clsUpd_hrt (s : State) (c : Nat) (f : ClassRun → ClassRun) : (clsUpd s c f).hrt = s.hrt := rfl
@[simp] theorem clsUpd_ile (s : State) (c : Nat) (f : ClassRun → ClassRun) : (clsUpd s c f).ile = s.ile := rfl
@[simp] theorem clsUpd_cnv (s : State) (c : Nat) (f : ClassRun → ClassRun) : (clsUpd s c f).cnv = s.cnv := rfl
@[simp] theorem clsUpd_anv (s : State) (c : Nat) (f : ClassRun → ClassRun) : (clsUpd s c f).anv = s.anv := rfl
@[simp] theorem clsUpd_cap (s : State) (c : Nat) (f : ClassRun → ClassRun) : (clsUpd s c f).cap = s.cap := rfl
@[simp] theorem clsUpd_qch (s : State) (c : Nat) (f : ClassRun → ClassRun) : (clsUpd s c f).qch = s.qch := rfl
@[simp] theorem clsUpd_fbk (s : State) (c : Nat) (f : ClassRun → ClassRun) : (clsUpd s c f).fbk = s.fbk := rfl
@[simp] theorem clsUpd_mot (s : State) (c : Nat) (f : ClassRun → ClassRun) : (clsUpd s c f).mot = s.mot := rfl
@[simp] theorem clsUpd_stn (s : State) (c : Nat) (f : ClassRun → ClassRun) : (clsUpd s c f).stn = s.stn := rfl
@[simp] theorem clsUpd_seq (s : State) (c : Nat) (f : ClassRun → ClassRun) : (clsUpd s c f).seq = s.seq := rfl
@[simp] theorem clsUpd_can (s : State) (c : Nat) (f : ClassRun → ClassRun) : (clsUpd s c f).can = s.can := rfl
@[simp] theorem clsUpd_wlk (s : State) (c : Nat) (f : ClassRun → ClassRun) : (clsUpd s c f).wlk = s.wlk := rfl
@[simp] theorem clsUpd_par (s : State) (c : Nat) (f : ClassRun → ClassRun) : (clsUpd s c f).par = s.par := rfl
@[simp] theorem clsUpd_mram (s : State) (c : Nat) (f : ClassRun → ClassRun) : (clsUpd s c f).mram = s.mram := rfl
@[simp] theorem clsUpd_aon (s : State) (c : Nat) (f : ClassRun → ClassRun) : (clsUpd s c f).aon = s.aon := rfl
@[simp] theorem clsUpd_pwr (s : State) (c : Nat) (f : ClassRun → ClassRun) : (clsUpd s c f).pwr = s.pwr := rfl
@[simp] theorem clsUpd_hdl (s : State) (c : Nat) (f : ClassRun → ClassRun) : (clsUpd s c f).hdl = s.hdl := rfl
@[simp] theorem clsUpd_rdata (s : State) (c : Nat) (f : ClassRun → ClassRun) : (clsUpd s c f).rdata = s.rdata := rfl
@[simp] theorem clsUpd_out (s : State) (c : Nat) (f : ClassRun → ClassRun) : (clsUpd s c f).out = s.out := rfl
@[simp] theorem clsUpd_freeCtr (s : State) (c : Nat) (f : ClassRun → ClassRun) : (clsUpd s c f).freeCtr = s.freeCtr := rfl
@[simp] theorem clsUpd_pending (s : State) (c : Nat) (f : ClassRun → ClassRun) : (clsUpd s c f).pending = s.pending := rfl

@[simp] theorem sensorUpd_regs (s : State) (n : Nat) (f : Sensor → Sensor) : (sensorUpd s n f).regs = s.regs := rfl
@[simp] theorem sensorUpd_staged (s : State) (n : Nat) (f : Sensor → Sensor) : (sensorUpd s n f).staged = s.staged := rfl
@[simp] theorem sensorUpd_commits (s : State) (n : Nat) (f : Sensor → Sensor) : (sensorUpd s n f).commits = s.commits := rfl
@[simp] theorem sensorUpd_tmb (s : State) (n : Nat) (f : Sensor → Sensor) : (sensorUpd s n f).tmb = s.tmb := rfl
@[simp] theorem sensorUpd_pst (s : State) (n : Nat) (f : Sensor → Sensor) : (sensorUpd s n f).pst = s.pst := rfl
@[simp] theorem sensorUpd_hif (s : State) (n : Nat) (f : Sensor → Sensor) : (sensorUpd s n f).hif = s.hif := rfl
@[simp] theorem sensorUpd_recd (s : State) (n : Nat) (f : Sensor → Sensor) : (sensorUpd s n f).recd = s.recd := rfl
@[simp] theorem sensorUpd_cyc (s : State) (n : Nat) (f : Sensor → Sensor) : (sensorUpd s n f).cyc = s.cyc := rfl
@[simp] theorem sensorUpd_hrt (s : State) (n : Nat) (f : Sensor → Sensor) : (sensorUpd s n f).hrt = s.hrt := rfl
@[simp] theorem sensorUpd_ile (s : State) (n : Nat) (f : Sensor → Sensor) : (sensorUpd s n f).ile = s.ile := rfl
@[simp] theorem sensorUpd_cnv (s : State) (n : Nat) (f : Sensor → Sensor) : (sensorUpd s n f).cnv = s.cnv := rfl
@[simp] theorem sensorUpd_anv (s : State) (n : Nat) (f : Sensor → Sensor) : (sensorUpd s n f).anv = s.anv := rfl
@[simp] theorem sensorUpd_cap (s : State) (n : Nat) (f : Sensor → Sensor) : (sensorUpd s n f).cap = s.cap := rfl
@[simp] theorem sensorUpd_qch (s : State) (n : Nat) (f : Sensor → Sensor) : (sensorUpd s n f).qch = s.qch := rfl
@[simp] theorem sensorUpd_fbk (s : State) (n : Nat) (f : Sensor → Sensor) : (sensorUpd s n f).fbk = s.fbk := rfl
@[simp] theorem sensorUpd_mot (s : State) (n : Nat) (f : Sensor → Sensor) : (sensorUpd s n f).mot = s.mot := rfl
@[simp] theorem sensorUpd_stn (s : State) (n : Nat) (f : Sensor → Sensor) : (sensorUpd s n f).stn = s.stn := rfl
@[simp] theorem sensorUpd_seq (s : State) (n : Nat) (f : Sensor → Sensor) : (sensorUpd s n f).seq = s.seq := rfl
@[simp] theorem sensorUpd_can (s : State) (n : Nat) (f : Sensor → Sensor) : (sensorUpd s n f).can = s.can := rfl
@[simp] theorem sensorUpd_wlk (s : State) (n : Nat) (f : Sensor → Sensor) : (sensorUpd s n f).wlk = s.wlk := rfl
@[simp] theorem sensorUpd_par (s : State) (n : Nat) (f : Sensor → Sensor) : (sensorUpd s n f).par = s.par := rfl
@[simp] theorem sensorUpd_mram (s : State) (n : Nat) (f : Sensor → Sensor) : (sensorUpd s n f).mram = s.mram := rfl
@[simp] theorem sensorUpd_aon (s : State) (n : Nat) (f : Sensor → Sensor) : (sensorUpd s n f).aon = s.aon := rfl
@[simp] theorem sensorUpd_pwr (s : State) (n : Nat) (f : Sensor → Sensor) : (sensorUpd s n f).pwr = s.pwr := rfl
@[simp] theorem sensorUpd_rdata (s : State) (n : Nat) (f : Sensor → Sensor) : (sensorUpd s n f).rdata = s.rdata := rfl
@[simp] theorem sensorUpd_out (s : State) (n : Nat) (f : Sensor → Sensor) : (sensorUpd s n f).out = s.out := rfl
@[simp] theorem sensorUpd_freeCtr (s : State) (n : Nat) (f : Sensor → Sensor) : (sensorUpd s n f).freeCtr = s.freeCtr := rfl
@[simp] theorem sensorUpd_pending (s : State) (n : Nat) (f : Sensor → Sensor) : (sensorUpd s n f).pending = s.pending := rfl

@[simp] theorem bankUpd_regs (s : State) (n : Nat) (f : Bank → Bank) : (bankUpd s n f).regs = s.regs := rfl
@[simp] theorem bankUpd_staged (s : State) (n : Nat) (f : Bank → Bank) : (bankUpd s n f).staged = s.staged := rfl
@[simp] theorem bankUpd_commits (s : State) (n : Nat) (f : Bank → Bank) : (bankUpd s n f).commits = s.commits := rfl
@[simp] theorem bankUpd_tmb (s : State) (n : Nat) (f : Bank → Bank) : (bankUpd s n f).tmb = s.tmb := rfl
@[simp] theorem bankUpd_pst (s : State) (n : Nat) (f : Bank → Bank) : (bankUpd s n f).pst = s.pst := rfl
@[simp] theorem bankUpd_hif (s : State) (n : Nat) (f : Bank → Bank) : (bankUpd s n f).hif = s.hif := rfl
@[simp] theorem bankUpd_recd (s : State) (n : Nat) (f : Bank → Bank) : (bankUpd s n f).recd = s.recd := rfl
@[simp] theorem bankUpd_cyc (s : State) (n : Nat) (f : Bank → Bank) : (bankUpd s n f).cyc = s.cyc := rfl
@[simp] theorem bankUpd_hrt (s : State) (n : Nat) (f : Bank → Bank) : (bankUpd s n f).hrt = s.hrt := rfl
@[simp] theorem bankUpd_ile (s : State) (n : Nat) (f : Bank → Bank) : (bankUpd s n f).ile = s.ile := rfl
@[simp] theorem bankUpd_cnv (s : State) (n : Nat) (f : Bank → Bank) : (bankUpd s n f).cnv = s.cnv := rfl
@[simp] theorem bankUpd_anv (s : State) (n : Nat) (f : Bank → Bank) : (bankUpd s n f).anv = s.anv := rfl
@[simp] theorem bankUpd_cap (s : State) (n : Nat) (f : Bank → Bank) : (bankUpd s n f).cap = s.cap := rfl
@[simp] theorem bankUpd_qch (s : State) (n : Nat) (f : Bank → Bank) : (bankUpd s n f).qch = s.qch := rfl
@[simp] theorem bankUpd_fbk (s : State) (n : Nat) (f : Bank → Bank) : (bankUpd s n f).fbk = s.fbk := rfl
@[simp] theorem bankUpd_mot (s : State) (n : Nat) (f : Bank → Bank) : (bankUpd s n f).mot = s.mot := rfl
@[simp] theorem bankUpd_stn (s : State) (n : Nat) (f : Bank → Bank) : (bankUpd s n f).stn = s.stn := rfl
@[simp] theorem bankUpd_seq (s : State) (n : Nat) (f : Bank → Bank) : (bankUpd s n f).seq = s.seq := rfl
@[simp] theorem bankUpd_can (s : State) (n : Nat) (f : Bank → Bank) : (bankUpd s n f).can = s.can := rfl
@[simp] theorem bankUpd_wlk (s : State) (n : Nat) (f : Bank → Bank) : (bankUpd s n f).wlk = s.wlk := rfl
@[simp] theorem bankUpd_par (s : State) (n : Nat) (f : Bank → Bank) : (bankUpd s n f).par = s.par := rfl
@[simp] theorem bankUpd_mram (s : State) (n : Nat) (f : Bank → Bank) : (bankUpd s n f).mram = s.mram := rfl
@[simp] theorem bankUpd_aon (s : State) (n : Nat) (f : Bank → Bank) : (bankUpd s n f).aon = s.aon := rfl
@[simp] theorem bankUpd_pwr (s : State) (n : Nat) (f : Bank → Bank) : (bankUpd s n f).pwr = s.pwr := rfl
@[simp] theorem bankUpd_rdata (s : State) (n : Nat) (f : Bank → Bank) : (bankUpd s n f).rdata = s.rdata := rfl
@[simp] theorem bankUpd_out (s : State) (n : Nat) (f : Bank → Bank) : (bankUpd s n f).out = s.out := rfl
@[simp] theorem bankUpd_freeCtr (s : State) (n : Nat) (f : Bank → Bank) : (bankUpd s n f).freeCtr = s.freeCtr := rfl
@[simp] theorem bankUpd_pending (s : State) (n : Nat) (f : Bank → Bank) : (bankUpd s n f).pending = s.pending := rfl

@[simp] theorem mboxUpd_regs (s : State) (f : Mbox → Mbox) : (mboxUpd s f).regs = s.regs := rfl
@[simp] theorem mboxUpd_staged (s : State) (f : Mbox → Mbox) : (mboxUpd s f).staged = s.staged := rfl
@[simp] theorem mboxUpd_commits (s : State) (f : Mbox → Mbox) : (mboxUpd s f).commits = s.commits := rfl
@[simp] theorem mboxUpd_tmb (s : State) (f : Mbox → Mbox) : (mboxUpd s f).tmb = s.tmb := rfl
@[simp] theorem mboxUpd_pst (s : State) (f : Mbox → Mbox) : (mboxUpd s f).pst = s.pst := rfl
@[simp] theorem mboxUpd_hif (s : State) (f : Mbox → Mbox) : (mboxUpd s f).hif = s.hif := rfl
@[simp] theorem mboxUpd_recd (s : State) (f : Mbox → Mbox) : (mboxUpd s f).recd = s.recd := rfl
@[simp] theorem mboxUpd_cyc (s : State) (f : Mbox → Mbox) : (mboxUpd s f).cyc = s.cyc := rfl
@[simp] theorem mboxUpd_hrt (s : State) (f : Mbox → Mbox) : (mboxUpd s f).hrt = s.hrt := rfl
@[simp] theorem mboxUpd_ile (s : State) (f : Mbox → Mbox) : (mboxUpd s f).ile = s.ile := rfl
@[simp] theorem mboxUpd_cnv (s : State) (f : Mbox → Mbox) : (mboxUpd s f).cnv = s.cnv := rfl
@[simp] theorem mboxUpd_anv (s : State) (f : Mbox → Mbox) : (mboxUpd s f).anv = s.anv := rfl
@[simp] theorem mboxUpd_cap (s : State) (f : Mbox → Mbox) : (mboxUpd s f).cap = s.cap := rfl
@[simp] theorem mboxUpd_qch (s : State) (f : Mbox → Mbox) : (mboxUpd s f).qch = s.qch := rfl
@[simp] theorem mboxUpd_fbk (s : State) (f : Mbox → Mbox) : (mboxUpd s f).fbk = s.fbk := rfl
@[simp] theorem mboxUpd_mot (s : State) (f : Mbox → Mbox) : (mboxUpd s f).mot = s.mot := rfl
@[simp] theorem mboxUpd_stn (s : State) (f : Mbox → Mbox) : (mboxUpd s f).stn = s.stn := rfl
@[simp] theorem mboxUpd_seq (s : State) (f : Mbox → Mbox) : (mboxUpd s f).seq = s.seq := rfl
@[simp] theorem mboxUpd_can (s : State) (f : Mbox → Mbox) : (mboxUpd s f).can = s.can := rfl
@[simp] theorem mboxUpd_wlk (s : State) (f : Mbox → Mbox) : (mboxUpd s f).wlk = s.wlk := rfl
@[simp] theorem mboxUpd_par (s : State) (f : Mbox → Mbox) : (mboxUpd s f).par = s.par := rfl
@[simp] theorem mboxUpd_mram (s : State) (f : Mbox → Mbox) : (mboxUpd s f).mram = s.mram := rfl
@[simp] theorem mboxUpd_aon (s : State) (f : Mbox → Mbox) : (mboxUpd s f).aon = s.aon := rfl
@[simp] theorem mboxUpd_pwr (s : State) (f : Mbox → Mbox) : (mboxUpd s f).pwr = s.pwr := rfl
@[simp] theorem mboxUpd_rdata (s : State) (f : Mbox → Mbox) : (mboxUpd s f).rdata = s.rdata := rfl
@[simp] theorem mboxUpd_out (s : State) (f : Mbox → Mbox) : (mboxUpd s f).out = s.out := rfl
@[simp] theorem mboxUpd_freeCtr (s : State) (f : Mbox → Mbox) : (mboxUpd s f).freeCtr = s.freeCtr := rfl
@[simp] theorem mboxUpd_pending (s : State) (f : Mbox → Mbox) : (mboxUpd s f).pending = s.pending := rfl

/-- A change of one unit leaves every other one. -/
theorem axUpd_other (s : State) (n : Nat) (f : Axis → Axis) (m : Nat) (h : m ≠ n) : axOf (axUpd s n f) m = axOf s m := SMap.get_upd_ne _ f h
/-- A change of one unit, in a canonical table, is read there. -/
theorem axUpd_self (s : State) (n : Nat) (f : Axis → Axis) (h : s.mot.ax.wf = true) : axOf (axUpd s n f) n = f (axOf s n) := SMap.get_upd_self _ n f h
/-- A change of one unit leaves every other one. -/
theorem fbkUpd_other (s : State) (n : Nat) (f : FbkCh → FbkCh) (m : Nat) (h : m ≠ n) : fbkCh (fbkUpd s n f) m = fbkCh s m := SMap.get_upd_ne _ f h
/-- A change of one unit, in a canonical table, is read there. -/
theorem fbkUpd_self (s : State) (n : Nat) (f : FbkCh → FbkCh) (h : s.fbk.ch.wf = true) : fbkCh (fbkUpd s n f) n = f (fbkCh s n) := SMap.get_upd_self _ n f h
/-- A change of one unit leaves every other one. -/
theorem canUpd_other (s : State) (c : Nat) (f : CanCtl → CanCtl) (m : Nat) (h : m ≠ c) : canC (canUpd s c f) m = canC s m := SMap.get_upd_ne _ f h
/-- A change of one unit, in a canonical table, is read there. -/
theorem canUpd_self (s : State) (c : Nat) (f : CanCtl → CanCtl) (h : s.can.ctl.wf = true) : canC (canUpd s c f) c = f (canC s c) := SMap.get_upd_self _ c f h
/-- A change of one unit leaves every other one. -/
theorem anvUpd_other (s : State) (k : Nat) (f : AnvCore → AnvCore) (m : Nat) (h : m ≠ k) : anvC (anvUpd s k f) m = anvC s m := SMap.get_upd_ne _ f h
/-- A change of one unit, in a canonical table, is read there. -/
theorem anvUpd_self (s : State) (k : Nat) (f : AnvCore → AnvCore) (h : s.anv.core.wf = true) : anvC (anvUpd s k f) k = f (anvC s k) := SMap.get_upd_self _ k f h
/-- A change of one unit leaves every other one. -/
theorem loopUpd_other (s : State) (n : Nat) (f : Loop → Loop) (m : Nat) (h : m ≠ n) : loopOf (loopUpd s n f) m = loopOf s m := SMap.get_upd_ne _ f h
/-- A change of one unit, in a canonical table, is read there. -/
theorem loopUpd_self (s : State) (n : Nat) (f : Loop → Loop) (h : s.anv.loop.wf = true) : loopOf (loopUpd s n f) n = f (loopOf s n) := SMap.get_upd_self _ n f h
/-- A change of one unit leaves every other one. -/
theorem capUpd_other (s : State) (n : Nat) (f : CapCh → CapCh) (m : Nat) (h : m ≠ n) : capCh (capUpd s n f) m = capCh s m := SMap.get_upd_ne _ f h
/-- A change of one unit, in a canonical table, is read there. -/
theorem capUpd_self (s : State) (n : Nat) (f : CapCh → CapCh) (h : s.cap.ch.wf = true) : capCh (capUpd s n f) n = f (capCh s n) := SMap.get_upd_self _ n f h
/-- A change of one unit leaves every other one. -/
theorem cnvUpd_other (s : State) (g : Nat) (f : CnvGroup → CnvGroup) (m : Nat) (h : m ≠ g) : cnvG (cnvUpd s g f) m = cnvG s m := SMap.get_upd_ne _ f h
/-- A change of one unit, in a canonical table, is read there. -/
theorem cnvUpd_self (s : State) (g : Nat) (f : CnvGroup → CnvGroup) (h : s.cnv.group.wf = true) : cnvG (cnvUpd s g f) g = f (cnvG s g) := SMap.get_upd_self _ g f h
/-- A change of one unit leaves every other one. -/
theorem sliceUpd_other (s : State) (n : Nat) (f : CnvSlice → CnvSlice) (m : Nat) (h : m ≠ n) : cnvS (sliceUpd s n f) m = cnvS s m := SMap.get_upd_ne _ f h
/-- A change of one unit, in a canonical table, is read there. -/
theorem sliceUpd_self (s : State) (n : Nat) (f : CnvSlice → CnvSlice) (h : s.cnv.slice.wf = true) : cnvS (sliceUpd s n f) n = f (cnvS s n) := SMap.get_upd_self _ n f h

/-- Another register keeps its value in force. -/
theorem stored_setStored_ne (s : State) {a b : Nat} (v : Word) (h : b ≠ a) : stored (setStored s a v) b = stored s b := by
  simp [stored, SMap.get_set_ne _ _ h]

/-- A register that is written holds the value. -/
theorem stored_setStored_self (s : State) (a : Nat) (v : Word) (h : s.regs.wf = true) : stored (setStored s a v) a = v := by
  simp only [stored, setStored_regs, SMap.get_set_self _ _ _ h]
  split
  · rename_i h1
    simp [h1]
  · rfl

end Sys2Proof.Machine
end

