-- ==== Sys2Proof/Tests/Slice0.lean ====
section
/-! SUPPORT. Tests of the model: worked examples of the manual, ill-formed commands, and a witness for the hypotheses of every statement. -/
namespace Sys2Proof.Tests
open Sys2Proof Sys2Proof.Machine

set_option Elab.async false

/-- A module that runs alone: HIF_READY, the Point Store READY, version 1.1, the Timeline at 1 ms in Epoch 0. -/
def up : State :=
  { State.reset with
    tmb := { State.reset.tmb with now := 1000000, epochs := [default] }
    hif := { State.reset.hif with ready := true, version := 0x0101, nextHandle := 1 }
    pst := { State.reset.pst with ready := true }
    pwr := { State.reset.pwr with up := true, holds := [], recoveryPin := true } }

/-- `up` with registers at given values. -/
def withRegs (s : State) (l : List (Nat × Word)) : State := l.foldl (fun s e => setStored s e.1 e.2) s

/-- A module with one command in flight, handle 7 of SQ 0, that has not started. -/
def withCmd (s : State) (op unit arg arg2 instant : Nat) (data : Bytes) : State :=
  { s with hif := { s.hif with cmds := s.hif.cmds ++ [{ (default : Cmd) with
    handle := 7
    opcode := op
    unit := unit
    arg := arg
    arg2 := arg2
    instant := instant
    dataLen := data.length
    data := data
    acked := true }] } }

/-- The command of `withCmd`. -/
def cmdIn (s : State) : Cmd := (cmdFind s 7).getD default

/-- A module with link on ports 0 and 1, port 1 a PTP master. -/
def net : State :=
  let p : StnPort := { (default : StnPort) with desc := 1#8 :: zeros 31, link := true }
  withRegs { up with stn := { up.stn with port := ((SMap.empty : SMap StnPort).set 0 p).set 1 p } } [(0x200050, 0xF8F80020)]

/-- A module with point 9 mapped (UINT32, MAXAGE 1 ms) and open view 2 that subscribes it, with a change pending. -/
def viewed : State :=
  { up with pst := { up.pst with
    map := some ⟨1, 1, [⟨9, .uint32, false, true, 0, 1000, none, 5, 0xFFFF⟩]⟩
    points := (SMap.empty : SMap PointRec).set 9 { (default : PointRec) with value := 77, stamp := 900000, seq := 4, type := .uint32, maxAge := 1000 }
    views := (SMap.empty : SMap View).set 2 { (default : View) with
      state := .open
      desc := ⟨0x10000, 64, 3, 0x20000, 0, 100000, 100000, 1⟩
      ids := [9]
      subs := (SMap.empty : SMap Sub).set 9 ⟨3, none, true, false, false, false⟩ } } }

/-- A module with completion ring 0 enabled and two entries in it. -/
def ringed : State :=
  withRegs { up with hif := { up.hif with cq := (SMap.empty : SMap Cq).set 0 ⟨3, 1, false, .none, 0, none⟩ } } [((fHifCqEnable 0).addr, 1)]

/-- `ringed` with an ended command. -/
def endedCmd : State :=
  let s := withCmd ringed 0 0 0 0 0 []
  { s with hif := { s.hif with cmds := s.hif.cmds.map fun c => { c with started := true, ended := some ⟨.ok, 5, 0, 1000000⟩ } } }

/-- `ringed` with a command that runs and reports progress. -/
def slowCmd : State :=
  let s := withCmd ringed 0x13 0 0 0 0 [0]
  { s with hif := { s.hif with cmds := s.hif.cmds.map fun c => { c with started := true, progress := true } } }

/-- A command of SQ 3 with TAG 5 that has not started, and an ABORT of it. -/
def abortPair : State :=
  withCmd { up with hif := { up.hif with cmds := [{ (default : Cmd) with handle := 4, sq := 3, tag := 5, opcode := 0x11, acked := true }] } } 1 3 5 0 0 []

/-- `up` in control of a pair whose standby is out of step. -/
def pairedUp : State :=
  { up with par := { up.par with state := .active, partnerState := PairState.standbyUnsync.code, partnerEcn := fwEcn up } }

/-- A sliced command that an ABORT waits for. -/
def abortWait : State :=
  let s := withCmd up 0x13 0 0 0 0 [0]
  { s with hif := { s.hif with cmds := s.hif.cmds.map fun c => { c with started := true, abortBy := [9] } } }

/-- A POINT_READ of three points of `viewed` of which one is done; core pair 0 runs its next Slice. -/
def readingCmd : State :=
  let s := withCmd viewed 0x10 0 3 0 0 (leBytes 4 9 ++ leBytes 4 0 ++ leBytes 4 9)
  { s with
    hif := { s.hif with cmds := s.hif.cmds.map fun c => { c with started := true, total := 3, done := 1, count := 1, addr2 := 0x8000 } }
    hrt := { s.hrt with cores := (SMap.empty : SMap Core).set 0 { (default : Core) with
      run := some { (default : Run) with desc := { (default : Desc) with source := 1, context := 7, limit := 20000 } } } } }

/-- A point map with BOOL points 1 and 2, written by the Cycle Engine and the Interlock Engine. -/
def map0 : PointMap := ⟨1, 10, [⟨1, .bool, false, true, 0, 1000, none, 5, 0xFFFF⟩, ⟨2, .bool, false, true, 0, 1000, none, 5, 0xFF7F⟩]⟩

/-- A program with class 0: 1 ms, one item. -/
def image0 : Image :=
  { (default : Image) with
    build := 5
    mapBuild := map0.build
    classes := [{ (default : ClassRec) with wdLimit := 3, period := 1000, outOfs := 500, itemCount := 1, inputs := [1] }]
    items := [{ (default : ItemRec) with type := 0x100, instCount := 1 }]
    insts := [{ (default : InstRec) with type := 0x100, init := zeros 16 }]
    types := [{ (default : TypeRec) with wcet := 1000, dataBytes := 16 }] }

/-- `up` with the program in slot 0, and in slot 1 under another BUILD. -/
def halted : State :=
  { up with cyc := { up.cyc with
    state := .loaded
    slots := ((SMap.empty : SMap Slot).set 0 ⟨some map0, some image0, (SMap.empty : SMap Bytes).set 0 (zeros 16)⟩).set 1
      ⟨some map0, some { image0 with build := 6 }, (SMap.empty : SMap Bytes).set 0 (zeros 16)⟩ } }

/-- The program of slot 0 runs; its next cycle instant is 2 ms. -/
def cycling : State :=
  { halted with
    pst := { halted.pst with map := some map0 }
    cyc := { halted.cyc with
      state := .running
      classes := (SMap.empty : SMap ClassRun).set 0 { (default : ClassRun) with
        active := true
        info := image0.classes.getD 0 default
        lq := [cycEntry 2000000 1 0] } } }

/-- `cycling` with a Weld to slot 1 in a state. -/
def welding (w : WeldState) : State :=
  { cycling with cyc := { cycling.cyc with weld := { cycling.cyc.weld with state := w, newSlot := 1, probation := 100, left := 100, since := 1000000, at' := 2000000 } } }

/-- A carry map without entries. -/
def weldData : Bytes := magic 'P' 'S' 'C' 'W' ++ [0, 1, 0, 0] ++ leBytes 8 5 ++ leBytes 8 6 ++ zeros 8 ++ zeros 4 ++ zeros 12

/-- An Interlock Engine list: load point 1, store point 2, end. -/
def ileImage0 : IleImage :=
  { (default : IleImage) with
    period := 1000
    outOfs := 100
    inputs := [⟨1, false⟩]
    code := [0x00000001, 0xD0000002, 0xFE000000] }

/-- The engine runs the list. -/
def locked : State :=
  { up with
    pst := { up.pst with map := some map0 }
    ile := { up.ile with state := .running, image := some ileImage0 } }

/-- A work item of class 0. -/
def desc0 : Desc := { (default : Desc) with type := 0x100, source := 4, prio := 2, deadline := 1490000, limit := 4000 }

/-- The user item of `desc0`: x11 holds 1, x12 the base of its scratch. -/
def item0 : Run := { (default : Run) with desc := desc0, limitAt := 1004000, user := true, xregs := ((SMap.empty : SMap (BitVec 64)).set 11 1).set 12 0x10000000 }

/-- Core pair 0 runs an item. -/
def onCore (x : Run) : State := { cycling with hrt := { cycling.hrt with cores := (SMap.empty : SMap Core).set 0 { (default : Core) with run := some x } } }

/-- A custom-0 instruction's word (R175). -/
def insn (f7 rs2 rs1 f3 rd : Nat) : Word := BitVec.ofNat 32 (f7 * 2 ^ 25 + rs2 * 2 ^ 20 + rs1 * 2 ^ 15 + f3 * 2 ^ 12 + rd * 2 ^ 7 + 0x0B)

/-- A step record (R249): END, NEXT, DURATION, MAX, TIMEOUT_NEXT, COND_REF. -/
def stepRec (en next dur mx tn ref : Nat) : Bytes :=
  leBytes 2 en ++ leBytes 2 next ++ leBytes 4 dur ++ leBytes 4 mx ++ leBytes 2 tn ++ leBytes 2 0 ++ leBytes 2 0 ++ leBytes 2 0xFFFF ++ zeros 8 ++
    leBytes 4 ref ++ zeros 32

/-- A recipe of three steps: 1 ms; released by the host under reference 7; axis 4 in position within 5 ms, else step 0. -/
def recipeBytes (abort : Nat) : Bytes :=
  zeros 8 ++ leBytes 8 1 ++ leBytes 8 1 ++ zeros 8 ++ leBytes 2 3 ++ leBytes 2 abort ++ leBytes 2 0xFFFF ++ [2, 2] ++ leBytes 4 0 ++ leBytes 4 96 ++ leBytes 4 288 ++
    leBytes 4 288 ++ leBytes 2 0 ++ zeros 38 ++ stepRec 0 1 1000 0 0xFFFE 0 ++ stepRec 5 2 0 0 0xFFFE 7 ++ stepRec 4 0xFFFF 0 5000 0 4

/-- The recipe with station 12 in its list. -/
def stationRecipe : Bytes := bytesPut (recipeBytes 2) 56 [1, 0] ++ leBytes 4 12

/-- Executor 3 holds the recipe, with abort step 2, in a state; the map in force has the BUILD of the image. -/
def recipe (x : ExecState) : State :=
  { viewed with
    pst := { viewed.pst with map := some { (viewed.pst.map.getD default) with build := 1 } }
    seq := { viewed.seq with exec := (SMap.empty : SMap Exec).set 3 { (default : Exec) with state := x, image := some (recipeBytes 2), b := 1000000 } } }

/-- `recipe` with a ramp of point 9 at its tick `k`. -/
def ramping (k : Nat) : State := seqUpd (recipe .running) 3 fun e => { e with ramps := [⟨4, 9, .uint32, 50, 1000000, 100000, 10000, some 0, k⟩] }

/-- `recipe` as a follower in a domain, its Walig port 1 UP, module number 1. -/
def following (x : ExecState) : State :=
  withRegs { recipe x with
    tmb := { (recipe x).tmb with joined := true, domLock := true }
    wlk := { up.wlk with port := (SMap.empty : SMap WPort).set 1 { (default : WPort) with state := .up } }
    par := { up.par with state := .alone } } [((fSeqExecRole 3).addr, 0x10), (fWlkCtrlModule.addr, 1)]

/-- A boundary of executor 3 into step 1 at domain instant 2 ms. -/
def boundaryMsg : Bytes := leBytes 2 3 ++ leBytes 2 1 ++ leBytes 4 5 ++ leBytes 8 2000000

/-- A resume of executor 3 under policy 2 in step 0 at domain instant 2 ms. -/
def resumeMsg : Bytes := leBytes 2 3 ++ [2, 0] ++ leBytes 4 0 ++ leBytes 8 2000000 ++ leBytes 8 1

/-- A request of a PRBS-free step test (R344): SIGNAL 1, 16 samples, amplitude 1000. -/
def tuneReq : Bytes := [1, 0, 0, 0] ++ leBytes 4 16 ++ leBytes 4 2 ++ leBytes 4 2 ++ zeros 4 ++ leBytes 3 1000 ++ zeros 25 ++ leBytes 3 100000 ++ zeros 5 ++ leBytes 8 0

/-- A code block's place: Left and Right regions of 16 words from 32 and 64. -/
def anvPlace (ws : List Nat) : AnvPlace := ⟨ws, 0, 0, 100, 0, 32, 16, 64, 16⟩

/-- A routine of a code block at its first word: Y0 holds 3, Y1 −2, N0 1, P1 33, A1 −5; a return address is kept. -/
def anvRun (ws : List Nat) : AnvRun :=
  { (default : AnvRun) with
    loop := 5
    t0 := 900000
    startPs := 900041000
    budget := 100
    rets := [9]
    regs := ((((SMap.empty : SMap Nat).set 4 3).set 5 0xFFFFFE).set 9 33).set 33 (wrap56 (-5))
    place := some (anvPlace ws) }

/-- Core 2 runs a routine. -/
def onAnvil (x : AnvRun) : State :=
  { up with anv := { up.anv with core := (SMap.empty : SMap AnvCore).set 2 { (default : AnvCore) with run := some x, left := (SMap.empty : SMap Nat).set 33 77 } } }

/-- A descriptor of law 1, or of none: 1 kHz, inputs of feedback channels 0 and 1, no outputs, home core 2. -/
def loopDesc (law : Nat) : Bytes :=
  let b := bytesPut (zeros 1024) 0 (magic 'P' 'S' 'L' 'P' ++ [0, 1, 0, 0] ++ leBytes 4 1024)
  let b := bytesPut b 16 ([BitVec.ofNat 8 law, 0, 2, 0xFF] ++ leBytes 4 1000 ++ leBytes 4 0 ++ leBytes 4 500000 ++ leBytes 2 1)
  let b := bytesPut b 64 ([3, 0, 0, 0] ++ leBytes 4 0 ++ leBytes 4 0 ++ leBytes 4 0x3F800000 ++ [3, 0, 0, 0] ++ leBytes 4 1 ++ leBytes 4 0 ++ leBytes 4 0x3F800000)
  let b := bytesPut b 400 (leBytes 8 0x3FE0000000000000)
  let b := bytesPut b 546 [1]
  let b := bytesPut b 552 (leBytes 8 0x3FF0000000000000)
  bytesPut b 12 (leBytes 4 (crc32c (b.drop 16)).toNat)

/-- Loop slot 5 holds the descriptor in AUTO on core 2; a tick of it waits. -/
def looping : State :=
  { up with
    cap := { up.cap with ch := (SMap.empty : SMap CapCh).set 0 { (default : CapCh) with state := .disarmed, desc := { (default : CapDesc) with source := 2, seg := 1024 } } }
    anv := { up.anv with
    core := (SMap.empty : SMap AnvCore).set 2 { (default : AnvCore) with pend := [(1000000, 0, 5)] }
    loop := (SMap.empty : SMap Loop).set 5 { (default : Loop) with desc := some (loopDesc 1), core := 2, due := 1500000, lastT0 := 500000, mode := .auto } } }

/-- A sample of 1 ms. -/
def sample0 : LoopSample := { (default : LoopSample) with t0 := 1000000, ins := [100, 200, 0, 0, 0, 0, 0, 0], okMask := 3 }

/-- The standard law's routine of that sample. -/
def lawRun : AnvRun := { (default : AnvRun) with loop := 5, t0 := 1000000, startPs := 1000041000, budget := 48 }

/-- `looping` with that sample under way. -/
def sampling : State :=
  let s := loopUpd looping 5 fun l => { l with open' := [sample0] }
  anvUpd s 2 fun k => { k with run := some lawRun, pend := [] }

/-- `looping` with a test in a state. -/
def tuned (t : TuneState) : State :=
  loopUpd looping 5 fun l => { l with tune := { (default : Tune) with state := t, req := tuneReq, res := some { (default : TuneResult) with samples := 3 } } }

/-- A sequence entry of input 2 with no publish point. -/
def seq0 : SeqEntry := ⟨2, 0, 16, false, 3, 4194304, 0⟩

/-- The converter runs: group 0 a Burst of input 5 with pairs averaged on slices 0 to 3, group 1 a Scan of two entries on slice 4. -/
def converting : State :=
  { up with cnv := { up.cnv with
    ready := true
    clkOk := true
    group := ((SMap.empty : SMap CnvGroup).set 0 { (default : CnvGroup) with
      cfg := { (default : CnvCfg) with mode := 2, input := 5, shift := 1, avg := 2 }
      slices := [0, 1, 2, 3] }).set 1 { (default : CnvGroup) with
      cfg := { (default : CnvCfg) with mode := 3, calEvery := 1024, seqs := [[seq0, seq0], [], [], []] }
      slices := [4] } } }

/-- A Burst configuration of input 7 (R357). -/
def burstCfg : Bytes := [2, 7, 1, 0] ++ leBytes 2 4 ++ leBytes 2 0 ++ zeros 56

/-- A channel descriptor (R380): input 5, no stream trigger, 16 samples before and after, two segments. -/
def capDesc : Bytes := [1, 5, 0, 0, 0, 0, 0, 0] ++ leBytes 4 16 ++ leBytes 4 32 ++ leBytes 4 2 ++ zeros 44

/-- Capture channel 3 of input 5 in a state, the converter's Burst of that input running. -/
def channel (x : CapState) : State :=
  { converting with cap := { converting.cap with ch := (SMap.empty : SMap CapCh).set 3 { (default : CapCh) with state := x, desc := capParse capDesc } } }

/-- An envelope of one pair of levels (R391). -/
def maskData : Bytes :=
  let b := leBytes 4 0 ++ leBytes 3 (unsigned 24 (-9)) ++ [0] ++ leBytes 3 9 ++ [0] ++ zeros 4
  magic 'P' 'S' 'M' 'K' ++ [0, 1, 2, 1] ++ leBytes 4 1 ++ zeros 8 ++ leBytes 4 (crc32c b).toNat ++ zeros 8 ++ b

/-- `channel` as a member of group 2 of a domain, its Walig port 1 UP, module number 1. -/
def grouped (x : CapState) : State :=
  withRegs (capUpd { channel x with
    tmb := { up.tmb with joined := true, domLock := true }
    wlk := { up.wlk with port := (SMap.empty : SMap WPort).set 1 { (default : WPort) with state := .up } }
    par := { up.par with state := .alone } } 3 fun c => { c with desc := { c.desc with group := 2 } }) [(fWlkCtrlModule.addr, 1)]

/-- Quench pin 15 latched since 0.9 ms. -/
def quenched : State :=
  { up with qch := { up.qch with pin := (SMap.empty : SMap QchPin).set 15 { (default : QchPin) with latch := true, activeSince := some 900000 } } }

/-- A stepper's descriptor (R410): pins 0 to 7, 1 ms ticks, or a servo on channel 1 and loop 5. -/
def axDesc (kind : Nat) : Bytes :=
  let st : Bool := kind == 1
  let pins : Bytes := if st then [0, 1, 2, 3, 4, 5, 6, 7] else [0xFF, 0xFF, 2, 3, 4, 5, 6, 7]
  [BitVec.ofNat 8 kind, 4, 0, if st then 0xFF else 1] ++ leBytes 2 (if st then 0xFFFF else 5) ++ leBytes 2 (if st then 100 else 0) ++ pins ++
    leBytes 4 (if st then 1000 else 0) ++ leBytes 4 (if st then 100 else 0) ++ leBytes 8 0 ++ leBytes 8 65536000000 ++ leBytes 8 655360000 ++ leBytes 8 6553600000 ++
    leBytes 8 0 ++ leBytes 8 655360 ++ leBytes 8 65536 ++ leBytes 4 0 ++ leBytes 8 65536000 ++ leBytes 8 6553600 ++ leBytes 8 131072 ++ leBytes 4 5000 ++
    leBytes 4 (if st then 0 else 9) ++ leBytes 4 0 ++ leBytes 4 0 ++ zeros 4

/-- The stepper's descriptor without PIN_PGOOD. -/
def axDescNoPgood : Bytes := bytesPut (axDesc 1) 12 [0xFF]

/-- From 1000 counts to 1010 in 1 s. -/
def knots0 : List Knot := [⟨0, 65536000, 0⟩, ⟨1000000, 66191360, 0⟩]

/-- A stepper at 1000 counts. -/
def ax0 (x : AxState) : Axis :=
  { (default : Axis) with desc := axDesc 1, state := x, pos := 65536000, steps := 1000, homed := true, buf0 := some ⟨false, knots0⟩ }

/-- Axis 4 is `x`. -/
def axis (x : Axis) : State :=
  { up with mot := { up.mot with ax := (SMap.empty : SMap Axis).set 4 x } }

/-- Axis 4 runs the profile of `knots0` from 0.9 ms. -/
def axMove : Axis := { ax0 .moving with traj := .profile 900000 knots0, running := some false, tickAt := some 1000900 }

/-- Axis 4 homes by a method, in a phase; a command waits for it. -/
def axHoming (m ph : Nat) : State :=
  { withCmd (axis { ax0 .homing with homing := some ⟨m, ph, 0, 0, 5000000000, some 7⟩, traj := .toward 900000 0 0 6553600 }) 0x43 4 m 0 0 [] with
    hif := { (withCmd up 0x43 4 m 0 0 []).hif with cmds := (withCmd up 0x43 4 m 0 0 []).hif.cmds.map fun c => { c with started := true } } }

/-- Axis 4 in transition, an AXIS_DRIVE 1 waiting for `w`; the stepper's phase is `ph`. -/
def axDriving (w : DriveWait) (ph : Nat) : State :=
  { withCmd (axis { ax0 .transition with drive := w, driveCmd := some 7, phase := ph }) 0x45 4 1 0 0 [] with
    hif := { (withCmd up 0x45 4 1 0 0 []).hif with cmds := (withCmd up 0x45 4 1 0 0 []).hif.cmds.map fun c => { c with started := true } } }

/-- A channel's descriptor (R430): QUAD 1 with an index, SSI 2 of 13 bits, HALL 3; pins 10 to 12, compare pin 13. -/
def fbDesc (m : Nat) : Bytes :=
  let ssi : Bool := m == 2
  [BitVec.ofNat 8 m, if m = 1 then 2 else 0, 10, 11, if ssi then 0xFF else 12, 0xFF, 0xFF, 0xFF, 13, 4, 3, 0] ++ leBytes 2 2 ++ zeros 2 ++
    leBytes 4 (if m = 1 then 4096 else 0) ++ leBytes 4 100 ++ leBytes 4 1000 ++ (if ssi then [13, 13, 0, 0] else zeros 4) ++
    leBytes 4 (if ssi then 1000 else 0) ++ leBytes 4 (if ssi then 100 else 0) ++ leBytes 4 0 ++ leBytes 4 (if ssi then 20 else 0) ++ leBytes 4 0 ++
    leBytes 4 0 ++ leBytes 4 0 ++ leBytes 4 1000

/-- The descriptor of a QUAD channel without an index: Z is no pin. -/
def fbQuad : Bytes := bytesPut (bytesPut (bytesPut (fbDesc 1) 1 [0]) 4 [0xFF]) 16 (zeros 4)

/-- Channel 6 is `c`. -/
def fbkAt (c : FbkCh) : State := { up with fbk := { up.fbk with ch := (SMap.empty : SMap FbkCh).set 6 c } }

/-- A channel at 40 counts. -/
def fb0 (d : Bytes) : FbkCh := { (default : FbkCh) with desc := d, r := 40, p := 40, r0 := 40, p0 := 40 }

/-- A compare list of one entry, at 50 counts in the positive direction. -/
def cmpList : Bytes :=
  let e := leBytes 8 50 ++ [1] ++ zeros 7
  magic 'P' 'S' 'C' 'M' ++ leBytes 4 1 ++ zeros 4 ++ leBytes 4 (crc32c e).toNat ++ e

/-- An entry of station 12 (R455): port 1, versions 1 to 3, one input, 1 ms. -/
def stEntry : Bytes :=
  leBytes 2 12 ++ [1, 0, 2, 0, 0, 0, 0, 0x0C, 1, 3] ++ leBytes 2 1 ++ leBytes 2 0 ++ leBytes 4 0 ++ leBytes 4 0 ++ leBytes 4 0 ++ leBytes 4 1000 ++ leBytes 4 0 ++
    leBytes 4 0 ++ leBytes 4 0 ++ leBytes 4 1000 ++ leBytes 4 0 ++ leBytes 4 0 ++ zeros 8

/-- Its address. -/
def stMac : Bytes := enMac stEntry

/-- Station 12 of `net` in a state, its input point 9 of UINT32; one output frame waits on port 1. -/
def station (x : StnState) : State :=
  { net with
    par := { net.par with state := .alone }
    stn := { net.stn with
      port := net.stn.port.upd 1 fun p => { p with lq := [⟨⟨1010000, 0, false, 1, 12, none⟩, 12, []⟩], q := [⟨2, zeros 60, false, .plain, 0⟩] }
      st := (SMap.empty : SMap Station).set 12 { (default : Station) with
        entry := stEntry
        ins := [(9, .uint32)]
        state := x
        ver := 3
        due := 1005000
        lastCommit := 900000 } } }

/-- A HELLO of versions 1 to 2 (R463). -/
def helloFrame : Bytes := wspFrame 1 2 12 ([1, 2, 0, 0] ++ zeros 6 ++ zeros 2 ++ leBytes 4 0xFFFFFFFF ++ leBytes 4 3 ++ zeros 20)

/-- A CONFIG_ACK of station 12 (R465). -/
def ackFrame : Bytes := wspFrame 3 4 12 (leBytes 2 (layoutId (stOf (station .configuring) 12)) ++ [0, 1])

/-- An INPUT of station 12 (R466): image 5, whole, stamp 0.99 ms. -/
def inputFrame : Bytes := wspFrame 3 5 12 (leBytes 4 5 ++ [0, 0] ++ leBytes 2 (layoutId (stOf (station .run) 12)) ++ leBytes 8 990000 ++ [1] ++ leBytes 4 1234)

/-- A controller's descriptor (R478): NORMAL, FD, every frame accepted, 1 Mbit/s nominal and data, a ring of 64 records. -/
def canDesc : Bytes :=
  [1, 0x23, 0, 0] ++ leBytes 2 1 ++ leBytes 2 63 ++ [16, 16, 1, 32, 16, 16, 0, 0] ++ leBytes 8 0x10000 ++ leBytes 4 64 ++ leBytes 4 3 ++ leBytes 8 0x20000 ++ leBytes 4 4 ++ zeros 20

/-- A frame of identifier 0x123, 8 bytes, handle 21. -/
def canMsg : Bytes := leBytes 4 0x123 ++ [8, 0, 0, 0] ++ leBytes 4 21 ++ zeros 4 ++ [1, 2, 3, 4, 5, 6, 7, 8] ++ zeros 56

/-- Controller 5 is `x`. -/
def canAt (x : CanCtl) : State := { up with par := { up.par with state := .alone }, can := ⟨(SMap.empty : SMap CanCtl).set 5 x⟩ }

/-- A controller on the bus. -/
def can0 : CanCtl := { (default : CanCtl) with desc := canDesc, state := .errorActive }

/-- The frame in a queue. -/
def canQ (eligible : Bool) : CanFrame := ⟨⟨1010000, 0, false, 1, 0, none⟩, canMsg, eligible, 0, none⟩

/-- An event and its record. -/
def evIn0 : EventIn := ⟨900000, 0, 0x09, 3, 0x0102, 77, zeros 16, false⟩

/-- The record. -/
def evRec0 : EventRec := { (default : EventRec) with stamp := 900000, seq := 40, src := 0x09, sev := 3, code := 0x0102, key := 77, payload := zeros 16 }

/-- An event ring of 64 records, full but for two. -/
def evRing0 : EvRing := ⟨0x10000, 64, 3, 0x20000, 0, 1, 63, 2, 0, [evRec0], true, [⟨40, true, some 900000, false⟩], [40]⟩

/-- The Recorder with an event in its queue, a record in the log, the event ring open. -/
def recording : State :=
  { up with
    recd := { up.recd with input := [evIn0], evRing := some evRing0, nextSeq := 0xFFFFFFFF }
    mram := { up.mram with log := { up.mram.log with slots := up.mram.log.slots.set 65 (some evRec0) } } }

/-- The same in a freeze, a record waiting. -/
def frozenLog : State := { recording with recd := { recording.recd with frozen := some 900000, holding := [{ evRec0 with seq := 41 }] } }

/-- An event ring's descriptor (R506). -/
def evRingDesc : Bytes := leBytes 8 0x10000 ++ leBytes 4 64 ++ leBytes 4 3 ++ leBytes 8 0x20000 ++ [2, 0, 0, 0] ++ leBytes 4 0xFFFFFFFF ++ leBytes 4 4 ++ zeros 28

/-- An export ring of 16 blocks. -/
def export0 : HistExport := ⟨0x10000, 16, 3, 0x20000, 1, 15, 4, 0⟩

/-- A history's descriptor with START 2 (R514). -/
def histDesc : Bytes := leBytes 8 0x10000 ++ leBytes 4 16 ++ leBytes 4 3 ++ leBytes 8 0x20000 ++ [2, 0, 0, 0] ++ leBytes 4 4 ++ zeros 32

/-- A record of the history of point 9. -/
def histRec0 : HistRec := ⟨9, 77, 900000, 1, false, 1000⟩

/-- `viewed` with an open block of one record, a closed block that the export comes to, and a held change. -/
def histing : State :=
  { viewed with recd := { viewed.recd with
    block := [histRec0]
    blockFirst := 900000
    nextBlock := 7
    ring := [⟨6, 0, true, 1, [histRec0]⟩]
    expCursor := 6
    exp := some export0
    hist := (SMap.empty : SMap HistPoint).set 9 ⟨some histRec0, some { histRec0 with value := 78, stamp := 950000 }, true⟩ } }

/-- A Walig port that works. -/
def wUp : WPort := { (default : WPort) with state := .up, lane0 := ⟨true, 990000, true⟩, lane1 := ⟨true, 990000, true⟩, peer := 4, ver := 0x0101 }

/-- Walig port 1 of module 1 is `x`; the module is master of its domain, or module 4 is. -/
def linked (x : WPort) (master : Nat) : State :=
  withRegs { up with
    wlk := { up.wlk with
      port := (SMap.empty : SMap WPort).set 1 x
      master := some master
      mods := up.wlk.mods.set 4 (some ⟨5, 777, 1, 990000⟩) }
    par := { up.par with state := .alone } } [(fWlkCtrlModule.addr, 1), ((fWlkPortEn 1).addr, 1)]

/-- A LINK_HELLO of a version. -/
def helloOf (v : Nat) : Bytes := waligMsg clsMGMT 1 4 0xFF 63 0 9 (leBytes 2 v ++ [4, 1] ++ leBytes 8 777)

/-- A module of a pair in a state, its pair port 2 UP; the other module's serial is 777. -/
def pairOf (x : PairState) : State :=
  withRegs { viewed with
    wlk := { up.wlk with port := (SMap.empty : SMap WPort).set 2 wUp }
    par := { up.par with state := x, partnerSerial := 777, partnerState := 5, actIn := true, actOut := true } }
    [(fWlkCtrlModule.addr, 1), ((fWlkPortEn 2).addr, 1), (fParCtrlEn.addr, 5)]

/-- A MIRROR message of a type. -/
def mirrorMsg (typ : Nat) (b : Bytes) : Bytes := waligMsg clsMIRROR typ 1 1 63 0 9 b

/-- A PAIR_HELLO of PAIR_ID 1 in a state, with a FW_ECN. -/
def pairHelloMsg (st ecn : Nat) : Bytes := waligMsg clsMGMT 3 1 1 63 0 9 ([1, BitVec.ofNat 8 st] ++ leBytes 2 ecn ++ leBytes 4 3 ++ leBytes 8 777 ++ zeros 16)

/-- A point record of point 9 (R528): value 88, stamp 0.95 ms. -/
def repRecord : Bytes := leBytes 4 9 ++ zeros 8 ++ leBytes 8 88 ++ leBytes 8 950000 ++ leBytes 2 1 ++ [BitVec.ofNat 8 PType.uint32.code] ++ zeros 5

/-- The module in recovery, the mailbox's arguments given. -/
def recovering (a0 a1 : Nat) : State :=
  withRegs { up with hdl := { up.hdl with recovery := true } } [(fHdlMboxArg0.addr, BitVec.ofNat 32 a0), (fHdlMboxArg1.addr, BitVec.ofNat 32 a1)]

/-- Bank B is `b`. -/
def bankB (s : State) (b : Bank) : State := { s with hdl := { s.hdl with bank := s.hdl.bank.set 1 b } }

/-- Bank B in recovery being staged, 100 bytes declared. -/
def staging (a0 a1 : Nat) : State :=
  let s := bankB (recovering a0 a1) ⟨.staging, [1, 2, 3]⟩
  { s with hdl := { s.hdl with mbox := { s.hdl.mbox with stage := some 100, window := [7, 8, 9] } } }

/-- Bank B on trial since 0.5 ms. -/
def onTrial : State :=
  let s := bankB up ⟨.trial, zeros 400⟩
  { s with hdl := { s.hdl with running := 1, probation := some 500000, confirmed := 3 } }

/-- A Hendel log of one record. -/
def hlogged (a0 a1 : Nat) : State :=
  { recovering a0 a1 with mram := { up.mram with hlog := ⟨[evRec0], 41, false⟩ } }

/-- A start that meets everything in order. -/
def start0 : StartIn := ⟨some (0, true, false), true, true, true, true, true, false, some 500, true, [], []⟩

/-- The part after power-on, its timeline journalled at 3 ms. -/
def poweredOn : State :=
  { State.reset with
    pwr := { State.reset.pwr with holds := [.por] }
    mram := { State.reset.mram with mark := some ⟨3000000, 0, 0⟩ } }

/-- A UART request of a code without data (R582). -/
def uartFrame (cmd : Nat) : Bytes :=
  let b := leBytes 1 cmd ++ leBytes 4 5 ++ leBytes 4 6 ++ leBytes 4 0
  0xA5 :: b ++ leBytes 4 (crc32c b).toNat

/-- `halted` with the boot bank's program the one of slot 0. -/
def booted : State :=
  withRegs { halted with
    par := { halted.par with state := .alone }
    cyc := { halted.cyc with state := .idle }
    hdl := { halted.hdl with boot := { halted.hdl.boot with program := some (image0, some map0), interlock := some ileImage0 } } }
    [(fCycCtrlAutostart.addr, BitVec.ofNat 32 (2 ^ fCycCtrlAutostart.lo))]

/-! ### Worked examples of the manual -/

/-- A routine at one word of the biquad of chapter 09, X0 holding 0.5 and X1 the coefficient b0/2. -/
def biquad (w : Nat) : State := onAnvil { anvRun [w] with regs := ((SMap.empty : SMap Nat).set 0 4194304).set 1 84234 }

/-- What a register of core 2 holds for a reader some cycles after a command. -/
def seenAfter (r : Res) (reg n : Nat) : Option Nat := match r with | .next t => some (anvSees t 2 reg n false) | _ => none

/-- 0x0820_0000 is MAC A0, X1, X0: the product is added (R287; 09_anvil_core, the biquad's cycle 10; Σp = 84,234 × 2^22). -/
theorem test_biquad_mac : seenAfter (execMac 2 (biquad 0x08200000)) 32 3 = some (2 * 84234 * 4194304) := by decide +kernel

/-- 0x8CE0_0000 is MOV Y3, X0 (the biquad's cycle 13). -/
theorem test_biquad_mov : seenAfter (execMov 2 (biquad 0x8CE00000)) 7 3 = some 4194304 := by decide +kernel

/-- 0x8820_7EA0 is LDP P1, 0x7EA0, usable from three cycles later on (the biquad's cycle 2). -/
theorem test_biquad_ldp : seenAfter (execLdp 2 (biquad 0x88207EA0)) 9 2 = some 0x7EA0 := by decide +kernel

/-- 0x0005_950B is PLV with rd = x10 and rs1 = x11, 0x0005_600B WDONE with the status in x10 (04_cycle_engine R175). -/
theorem test_insn_words : insn 0 0 11 1 10 = 0x0005950B#32 ∧ insn 0 0 10 6 0 = 0x0005600B#32 := by decide

/-- The 30 s jump of chapter 01: the rendering of T_START in Epoch 42 equals the master. -/
theorem test_render_jump : (86400250000000 + 1749913570000000000 : Nat) = 1749999970250000000 := by decide

/-- CRC-32C of the nine digits, the check value of that CRC (00_scope R18). -/
theorem test_crc32c : crc32c [0x31, 0x32, 0x33, 0x34, 0x35, 0x36, 0x37, 0x38, 0x39] = 0xE3069283#32 := by decide +kernel

/-- Hearth's sources reset to the MIN of the manual's table (07_hearth R241). -/
theorem test_reset_min : fld State.reset (fHrtSrcMin 5) = 32 := by decide +kernel

/-! ### Ill-formed commands are refused by the check -/

/-- Units out of their range. -/
theorem test_ill_formed_units :
    [Instr.supplyFault 23 0, .clockFault 14 0, .tempCrit 24 0, .tempTrip 24 0, .sensorReading 120 0 0, .pmbusPoll 16 none 0,
      .loopPersistStart 1024 0 0, .loopPersistStart 0 0 3, .sqEnableWrite 64 true, .cqEnableWrite 64 true, .sqDoorbell 64 0, .cqDoorbell 64 0,
      .cqIrqTimer 64, .commitApply 32 0, .tioCfgWrite 128 0, .tioStampPop 128, .qchRelease 16, .canRecover 8, .sourceLossTimeout 16 0,
      .sourceRejectExpiry 16, .tioStampEdge 128 0 true, .pulseTrailingEdge 128, .viewDelivery 128 0 true, .viewConsPoll 128 none].all
      (fun c => !wellFormed c) = true := by decide

/-- Cores, executors, loops, axes and channels out of their range. -/
theorem test_ill_formed_cores :
    [Instr.cycLatch 32, .itemDispatch 32 0, .itemCreditRelease 8, .boundary 64 0, .rampTick 0 32768, .loopSampleLaunch 1024, .mpy 64,
      .anvilEccRewrite 0 3 0 0, .scanPassStart 4 0, .calSlot 16 0, .capFire 16, .qchReadbackFault 16 0, .stepPulse 64, .stepperTick 0 16,
      .homeSwitchEdge 0 3 true 0, .hallChange 0 8 0, .ssiFrameStart 32, .canArbitration 8 0, .canBusError 0 8 false none none 0,
      .logWriteVerify 1048576 true true [], .historyHoldRelease 0x2000000, .wlkPortDown 4 0, .blockLock 0 2 0, .configRetryTimeout 4096].all
      (fun c => !wellFormed c) = true := by decide

/-- Addresses and byte strings of another length. -/
theorem test_ill_formed_lengths :
    [Instr.registerWrite 2 0, .registerWrite 0x2000000 0, .counterRead 3, .loLatchRead 1, .descFetch 0 (some []), .tileRepairDone 0 (some []),
      .viewOpen 0 none [], .viewChange 0 none [] none, .axisMove 0 16, .fbkConfig 0 none 8, .canFrameRx 0 0 [] none 0,
      .pmbusAlert (List.replicate 17 none) 0, .linkTrained 16 0, .linkTrained 0 64].all (fun c => !wellFormed c) = true := by decide

/-- The hypotheses of IdleBlockCountsTheTimeline can be met, those of every clause. -/
theorem witness_IdleBlockCountsTheTimeline :
    (∃ s : State, s.pending = [] ∧ s.pwr.up = false) ∧
    (∃ s : State, s.pending = [] ∧ s.pwr.up = true ∧ s.tmb.rate = 0 ∧ s.tmb.frac < 2 ^ 32 ∧ s.tmb.resid < 10 ^ 12) := by
  refine ⟨⟨State.reset, ?_⟩, ⟨up, ?_⟩⟩ <;> decide +kernel

/-- The hypotheses of TimelineCommandsTakeEffect can be met, those of every clause. -/
theorem witness_TimelineCommandsTakeEffect :
    (∃ (s : State), (windowOpen s 2 = true)) ∧
    (∃ (s : State), (windowOpen s 2 = true) ∧ (s.tmb.state = .free ∨ s.tmb.state = .holdover ∨ s.tmb.source = 6) ∧ (s.tmb.wait = none) ∧ (s.tmb.lastOpen.all (fun t => decide (t + 250000000 ≤ s.tmb.now)) = true)) ∧
    (∃ (w : EpochWait) (s : State), (s.tmb.wait = some w)) ∧
    (∃ (t : Nat) (s : State), (s.tmb.source ≠ 0) ∧ ((s.tmb.sources.get s.tmb.source).lastMeas + measInterval s s.tmb.source * 3 / 2 ≤ max s.tmb.now t)) ∧
    (∃ (src t : Nat) (s : State), (canonical s) ∧ ((s.tmb.sources.get src).valid = true) ∧ ((s.tmb.sources.get src).lastMeas + fld s fTmbLossTimeoutLossMs * 1000000 ≤ max s.tmb.now t)) ∧
    (∃ (t0 : Nat) (s : State), (canonical s) ∧ (s.tmb.satSince = some t0) ∧ (s.tmb.source ≠ 0)) ∧
    (∃ (src : Nat) (s : State), (canonical s) ∧ ((s.tmb.sources.get src).rejectedUntil ≠ 0)) ∧
    (∃ (t c : Nat) (s : State), ((srcList s).head? = some c) ∧ (c ≠ s.tmb.source) ∧ (srcUsable (advance s t) c = true) ∧ (max (s.tmb.sources.get c).since (s.tmb.sources.get c).rejectedUntil + 10000000000 ≤ max s.tmb.now t)) ∧
    (∃ (t : Nat) (falling refOk : Bool) (s : State), (falling = flag s fTmbPpsCfgInEdge) ∧ (s.tmb.ppsLast.all (fun l => decide (l + 999900000 ≤ t)) = true)) ∧
    (∃ (l : Nat) (s : State), (canonical s) ∧ (s.tmb.ppsLast = some l) ∧ (s.tmb.ppsMissed = false)) ∧
    (∃ (s : State), (canonical s)) ∧
    (∃ (t : Nat) (f : Int) (s : State), (s.tmb.source = 6) ∧ ((s.tmb.sources.get 6).rejectedUntil ≤ max s.tmb.now t)) ∧
    (∃ (t : Nat) (s : State), (flag s fTmbPpsCfgOutEn = true) ∧ (s.tmb.now ≤ t) ∧ ((if (s.tmb.epochs.headD default).taiValid then taiOf s t else (t : Int)) % 1000000000 = 0)) ∧
    (∃ (t : Nat) (s : State), (s.tmb.ppsRise + fld s fTmbPpsCfgOutWidth * 1000 ≤ max s.tmb.now t)) := by
  refine ⟨⟨up, ?_⟩, ⟨up, ?_⟩, ⟨⟨.leap, none, none, some 37, none⟩, { up with tmb := { up.tmb with wait := some ⟨.leap, none, none, some 37, none⟩, lastOpen := some 900000 } }, ?_⟩, ⟨2000000000, { up with tmb := { up.tmb with source := 5, rate := 77 } }, ?_⟩, ⟨5, 3000000000, { up with tmb := { up.tmb with source := 5, sources := (SMap.empty : SMap TimeSource).set 5 ⟨true, 1, 0, 1000⟩ } }, ?_⟩, ⟨500, { up with tmb := { up.tmb with source := 5, satSince := some 500, sources := (SMap.empty : SMap TimeSource).set 5 ⟨true, 1, 0, 1000⟩ } }, ?_⟩, ⟨5, { up with tmb := { up.tmb with sources := (SMap.empty : SMap TimeSource).set 5 ⟨true, 1, 2000000, 1000⟩ } }, ?_⟩, ⟨20000000000, 1, { up with tmb := { up.tmb with source := 5, sources := (SMap.empty : SMap TimeSource).set 1 ⟨true, 1, 0, 1000⟩ } }, ?_⟩, ⟨1000500000, false, true, { up with tmb := { up.tmb with ppsLast := some 500000 } }, ?_⟩, ⟨500000, { up with tmb := { up.tmb with ppsLast := some 500000 } }, ?_⟩, ⟨{ up with tmb := { up.tmb with ref10m := true } }, ?_⟩, ⟨5, 300000000, { up with tmb := { up.tmb with source := 6 } }, ?_⟩, ⟨2000000000, withRegs up [(fTmbPpsCfgOutEn.addr, 3)], ?_⟩, ⟨1100000, up, ?_⟩⟩ <;> decide +kernel

/-- The hypotheses of TimedPinCommandsTakeEffect can be met, those of every clause. -/
theorem witness_TimedPinCommandsTakeEffect :
    (∃ (e : LqEntry) (s : State), (windowOpen s 2 = true) ∧ (lqParse ((List.range 4).flatMap fun i => leBytes 4 (fld s (fTmbLqEntryWord i))) = some e) ∧ (tioEntryOk e = true) ∧ (s.tmb.now + 100 ≤ e.instant) ∧ (s.tmb.lq.length < 4096)) ∧
    (∃ (e : LqEntry) (l : List LqEntry) (s : State), (s.tmb.lq = e :: l) ∧ (e.action = 0)) ∧
    (∃ (e : LqEntry) (l : List LqEntry) (s : State), (canonical s) ∧ (Acts s) ∧ (s.tmb.lq = e :: l) ∧ (e.action = 1) ∧ (fld s (fTmbTioCfgMode (tioPinOf e)) = 1) ∧ (supersededBy l (tioPinOf e) (e.instant * 4 + e.fine) = false) ∧ ((s.tmb.tio.get (tioPinOf e)).lastAction = none)) ∧
    (∃ (e : LqEntry) (l : List LqEntry) (s : State), (canonical s) ∧ (Acts s) ∧ (s.tmb.lq = e :: l) ∧ (e.action = 2) ∧ (fld s (fTmbTioCfgMode (tioPinOf e)) = 1) ∧ (supersededBy l (tioPinOf e) (e.instant * 4 + e.fine) = false) ∧ ((s.tmb.tio.get (tioPinOf e)).lastAction = none)) ∧
    (∃ (e : LqEntry) (l : List LqEntry) (b : Bool) (s : State), (canonical s) ∧ (Acts s) ∧ (s.tmb.lq = e :: l) ∧ (e.action = 3) ∧ (fld s (fTmbTioCfgMode (tioPinOf e)) = 1) ∧ (supersededBy l (tioPinOf e) (e.instant * 4 + e.fine) = false) ∧ ((s.tmb.tio.get (tioPinOf e)).lastAction = none) ∧ ((s.tmb.tio.get (tioPinOf e)).level = some b)) ∧
    (∃ (e : LqEntry) (l : List LqEntry) (s : State), (canonical s) ∧ (Acts s) ∧ (s.tmb.lq = e :: l) ∧ (e.action = 4) ∧ (fld s (fTmbTioCfgMode (tioPinOf e)) = 1) ∧ (supersededBy l (tioPinOf e) (e.instant * 4 + e.fine) = false) ∧ ((s.tmb.tio.get (tioPinOf e)).lastAction = none)) ∧
    (∃ (p q : Nat) (s : State), (canonical s) ∧ (s.par.standby = false) ∧ ((s.tmb.tio.get p).trailing = some q) ∧ (fld s (fTmbTioCfgMode p) = 1) ∧ (supersededBy s.tmb.lq p q = false)) ∧
    (∃ (p : Nat) (v : Word) (s : State), (canonical s) ∧ (p < 128) ∧ (windowOpen s 2 = true) ∧ ((s.tmb.tio.get p).claimed = none)) ∧
    (∃ (p q : Nat) (f : Bool) (s : State), (canonical s) ∧ (p < 128) ∧ (s.par.inStep = false) ∧ (fld s (fTmbTioCfgMode p) = 2) ∧ (bit (fld s (fTmbTioCfgEdge p)) (b2n (f != flag s (fTmbTioCfgInv p))) = true) ∧ ((s.tmb.tio.get p).lastStamp.all (fun l => decide (l + 40 ≤ q)) = true) ∧ ((s.tmb.tio.get p).fifo.length < 64)) ∧
    (∃ (p : Nat) (h : Stamp) (l : List Stamp) (s : State), (canonical s) ∧ (p < 128) ∧ (windowOpen s 2 = true) ∧ ((s.tmb.tio.get p).fifo = h :: l)) := by
  refine ⟨⟨⟨0x200000, 0, false, 2, 5, none⟩, withRegs up [(0x200200, 0x200000), (0x200208, 0x20000), (0x20020C, 5)], ?_⟩, ⟨⟨1000200, 0, false, 0, 5, none⟩, [], { up with tmb := { up.tmb with lq := [⟨1000200, 0, false, 0, 5, none⟩] } }, ?_⟩, ⟨⟨1000200, 0, false, 1, 5, none⟩, [], { withRegs up [((fTmbTioCfgMode 5).addr, 1)] with tmb := { up.tmb with lq := [⟨1000200, 0, false, 1, 5, none⟩] } }, ?_⟩, ⟨⟨1000200, 0, false, 2, 5, none⟩, [], { withRegs up [((fTmbTioCfgMode 5).addr, 1)] with tmb := { up.tmb with lq := [⟨1000200, 0, false, 2, 5, none⟩] } }, ?_⟩, ⟨⟨1000200, 0, false, 3, 5, none⟩, [], true, { withRegs up [((fTmbTioCfgMode 5).addr, 1)] with tmb := { up.tmb with lq := [⟨1000200, 0, false, 3, 5, none⟩], tio := (SMap.empty : SMap TioPin).set 5 { (default : TioPin) with level := some true } } }, ?_⟩, ⟨⟨1000200, 0, false, 4, 0x105, none⟩, [], { withRegs up [((fTmbTioCfgMode 5).addr, 1)] with tmb := { up.tmb with lq := [⟨1000200, 0, false, 4, 0x105, none⟩] } }, ?_⟩, ⟨5, 4000800, { withRegs up [((fTmbTioCfgMode 5).addr, 1)] with tmb := { up.tmb with tio := (SMap.empty : SMap TioPin).set 5 { (default : TioPin) with trailing := some 4000800 } } }, ?_⟩, ⟨127, 0x2A, up, ?_⟩, ⟨7, 4000801, false, withRegs up [((fTmbTioCfgMode 7).addr, 6)], ?_⟩, ⟨7, ⟨5, 1, false, 0⟩, [], { up with tmb := { up.tmb with tio := (SMap.empty : SMap TioPin).set 7 { (default : TioPin) with fifo := [⟨5, 1, false, 0⟩] } } }, ?_⟩⟩ <;> decide +kernel

/-- The hypotheses of PtpCommandsTakeEffect can be met, those of every clause. -/
theorem witness_PtpCommandsTakeEffect :
    (∃ (p domain seq : Nat) (o corr raw : Int) (t : Nat) (s : State), (canonical s) ∧ (p = timePort s) ∧ (domain = fld s fTmbPtpCfgDomain) ∧ (portUp s p = true)) ∧
    (∃ (p domain seq : Nat) (corr raw : Int) (t : Nat) (s : State), (canonical s) ∧ (p = timePort s) ∧ (domain = fld s fTmbPtpCfgDomain) ∧ (portUp s p = true)) ∧
    (∃ (p domain seq : Nat) (t1 corr rx : Int) (t : Nat) (s : State), (p = timePort s) ∧ (domain = fld s fTmbPtpCfgDomain) ∧ (portUp s p = true) ∧ (s.tmb.ptp.awaiting = some (seq % 65536, rx))) ∧
    (∃ (q : Nat) (rx : Int) (s : State), (s.tmb.ptp.awaiting = some (q, rx))) ∧
    (∃ (p domain seq : Nat) (t4 corr t1 t2 t3 : Int) (t : Nat) (s : State), (p = timePort s) ∧ (domain = fld s fTmbPtpCfgDomain) ∧ (portUp s p = true) ∧ (s.tmb.ptp.delayReq = some (seq % 65536, t3)) ∧ (s.tmb.ptp.lastSync = some (t1, t2))) ∧
    (∃ (p seq : Nat) (turn ratio raw tx : Int) (t : Nat) (s : State), (canonical s) ∧ (p = timePort s) ∧ (ptpSrc s = 1) ∧ (portUp s p = true) ∧ (s.tmb.ptp.pdelayReq = some (seq % 65536, tx)) ∧ (ratio.natAbs ≤ 200000000)) ∧
    (∃ (p seq : Nat) (raw : Int) (t : Nat) (s : State), (canonical s) ∧ (p = timePort s) ∧ (ptpSrc s = 1) ∧ (portUp s p = true)) ∧
    (∃ (t : Nat) (s : State), (s.tmb.ptp.pdelayReq.isSome = true)) ∧
    (∃ (p domain ds : Nat) (utcValid : Bool) (utc : Int) (t : Nat) (s : State), (p = timePort s) ∧ (domain = fld s fTmbPtpCfgDomain) ∧ (portUp s p = true) ∧ (s.tmb.ptp.announceMaster.all (fun m => decide (ds ≤ m)) = true)) ∧
    (∃ (t : Nat) (s : State), (s.tmb.ptp.announceMaster.isSome = true) ∧ (s.tmb.ptp.announceAt + 3 * announceNs s ≤ max s.tmb.now t)) ∧
    (∃ (p seq : Nat) (mac : Bytes) (raw : Int) (t : Nat) (s : State), (canonical s) ∧ (masterPort s p = true) ∧ (portUp s p = true)) ∧
    (∃ (p : Nat) (announce : Bool) (t : Nat) (s : State), (canonical s) ∧ (masterPort s p = true) ∧ (portUp s p = true)) ∧
    (∃ (t : Nat) (s : State), (canonical s) ∧ (ptpSrc s ≠ 0) ∧ (portUp s (timePort s) = true)) := by
  refine ⟨⟨0, 0, 65536, 5, 65536, 4000000, 1000000, net, ?_⟩, ⟨0, 0, 7, 0, 4000000, 1000000, net, ?_⟩, ⟨0, 0, 7, 12, 0, 88, 0, { net with tmb := { net.tmb with ptp := { net.tmb.ptp with awaiting := some (7, 88) } } }, ?_⟩, ⟨7, 4000000, { net with tmb := { net.tmb with ptp := { net.tmb.ptp with awaiting := some (7, 4000000) } } }, ?_⟩, ⟨0, 0, 7, 900, 0, 3000, 3400, 3200, 0, { net with tmb := { net.tmb with ptp := { net.tmb.ptp with delayReq := some (7, 3200), lastSync := some (3000, 3400) } } }, ?_⟩, ⟨0, 7, 40, -200000000, 9000, 4000, 0, { net with tmb := { net.tmb with ptp := { net.tmb.ptp with pdelayReq := some (7, 4000) } } }, ?_⟩, ⟨0, 7, 9000, 0, net, ?_⟩, ⟨0, { net with tmb := { net.tmb with ptp := { net.tmb.ptp with pdelayReq := some (7, 4000), pdelayMiss := 2 } } }, ?_⟩, ⟨0, 0, 5, true, 37, 0, { net with tmb := { net.tmb with ptp := { net.tmb.ptp with announceMaster := some 5 } } }, ?_⟩, ⟨9000000000, { net with tmb := { net.tmb with ptp := { net.tmb.ptp with announceMaster := some 5 } } }, ?_⟩, ⟨1, 7, zeros 6, 9000, 0, net, ?_⟩, ⟨1, true, 0, net, ?_⟩, ⟨0, net, ?_⟩⟩ <;> decide +kernel

/-- The hypotheses of PointStoreCommandsTakeEffect can be met, those of every clause. -/
theorem witness_PointStoreCommandsTakeEffect :
    (∃ (s : State), (canonical s) ∧ (repairReady s = true)) ∧
    (∃ (t : Nat) (copy : Option Bytes) (s : State), (s.pst.badTiles.contains t = true)) ∧
    (∃ (n t id : Nat) (s : State), (canonical s) ∧ ((s.pst.views.get n).state = .open) ∧ (viewSpace (s.pst.views.get n) = true) ∧ (viewNext (advance s t) (s.pst.views.get n) = some id)) ∧
    (∃ (n t id : Nat) (s : State), (canonical s) ∧ ((s.pst.views.get n).state = .open) ∧ (viewSpace (s.pst.views.get n) = true) ∧ (viewNext (advance s t) (s.pst.views.get n) = some id)) ∧
    (∃ (n c : Nat) (s : State), (canonical s) ∧ ((s.pst.views.get n).state = .open)) ∧
    (∃ (n t : Nat) (s : State), (canonical s) ∧ ((s.pst.views.get n).state = .open) ∧ (viewSpace (s.pst.views.get n) = true)) ∧
    (∃ (n t : Nat) (s : State), (canonical s) ∧ ((s.pst.views.get n).state = .open) ∧ ((s.pst.views.get n).desc.snapshot ≠ 0)) ∧
    (∃ (n id t : Nat) (s : State), (canonical s) ∧ ((s.pst.views.get n).state = .open) ∧ ((s.pst.views.get n).ids.contains id = true) ∧ (mapped s id = true) ∧ (((s.pst.views.get n).subs.get id).staleDone = false) ∧ (isStale (recordAt s id (max s.tmb.now t)) (max s.tmb.now t) = true)) ∧
    (∃ (v : Word) (s : State), (canonical s) ∧ (windowOpen s 3 = true)) ∧
    (∃ (h : Nat) (c : Cmd) (s : State), (canonical s) ∧ (CanStart s h 0x16 c) ∧ ((s.pst.views.get c.unit).state ≠ .closed)) ∧
    (∃ (h : Nat) (c : Cmd) (s : State), (canonical s) ∧ (CanStart s h 0x17 c) ∧ ((s.pst.views.get c.unit).state = .open)) := by
  refine ⟨⟨{ withRegs up [(fPstCtrlRepairEn.addr, 0xFFFFFFFF)] with pst := { up.pst with repairAvail := true } }, ?_⟩, ⟨3, none, { up with pst := { up.pst with badTiles := [3] } }, ?_⟩, ⟨2, 0, 9, viewed, ?_⟩, ⟨2, 0, 9, viewed, ?_⟩, ⟨2, 64, viewed, ?_⟩, ⟨2, 0, viewed, ?_⟩, ⟨2, 0, viewed, ?_⟩, ⟨2, 9, 9000000, viewed, ?_⟩, ⟨9, viewed, ?_⟩, ⟨7, cmdIn (withCmd viewed 0x16 2 0 0 0 []), withCmd viewed 0x16 2 0 0 0 [], ?_⟩, ⟨7, cmdIn (withCmd viewed 0x17 2 0 0 0 []), withCmd viewed 0x17 2 0 0 0 [], ?_⟩⟩ <;> decide +kernel

/-- The hypotheses of HostInterfaceCommandsTakeEffect can be met, those of every clause. -/
theorem witness_HostInterfaceCommandsTakeEffect :
    (∃ (n : Nat) (s : State), (canonical s) ∧ (n < 64) ∧ (windowOpen s 1 = true) ∧ (flag s (fHifSqEnable n) = false) ∧ (flag s (fHifCqEnable (fld s (fHifSqCq n))) = true) ∧ (s.hif.version ≠ 0) ∧ (sizingOk s (fld s) (fld s (fHifSqCq n)) (some n) = true)) ∧
    (∃ (n : Nat) (s : State), (canonical s) ∧ (n < 64) ∧ (windowOpen s 1 = true)) ∧
    (∃ (n : Nat) (s : State), (canonical s) ∧ (n < 64) ∧ (windowOpen s 1 = true) ∧ (flag s (fHifCqEnable n) = false) ∧ (s.hif.version ≠ 0)) ∧
    (∃ (n : Nat) (s : State), (canonical s) ∧ (n < 64) ∧ (windowOpen s 1 = true)) ∧
    (∃ (n : Nat) (v : Word) (s : State), (canonical s) ∧ (s.hif.ready = true) ∧ (n < 64) ∧ (flag s (fHifSqEnable n) = true) ∧ ((s.hif.sq.get n).halt = .none) ∧ (v.toNat < sqSize s n)) ∧
    (∃ (n : Nat) (v : Word) (s : State), (canonical s) ∧ (s.hif.ready = true) ∧ (n < 64) ∧ (flag s (fHifSqEnable n) = true) ∧ ((s.hif.sq.get n).halt = .none) ∧ (sqSize s n ≤ v.toNat)) ∧
    (∃ (n : Nat) (v : Word) (s : State), (canonical s) ∧ (s.hif.ready = true) ∧ (n < 64) ∧ (flag s (fHifCqEnable n) = true) ∧ ((s.hif.cq.get n).halt = .none) ∧ (v.toNat < cqSize s n) ∧ ((v.toNat + cqSize s n - (s.hif.cq.get n).head) % cqSize s n ≤ ((s.hif.cq.get n).tail + cqSize s n - (s.hif.cq.get n).head) % cqSize s n)) ∧
    (∃ (h : Nat) (c : Cmd) (e : CmdEnd) (s : State), (canonical s) ∧ (cmdFind s h = some c) ∧ (c.ended = some e) ∧ (c.acked = true) ∧ (c.sq ≠ mirrorSq) ∧ (flag s (fHifCqEnable c.cq) = true) ∧ ((s.hif.cq.get c.cq).halt = .none) ∧ (cqFull s c.cq = false)) ∧
    (∃ (h t : Nat) (c : Cmd) (s : State), (canonical s) ∧ (cmdFind s h = some c) ∧ (c.progress = true) ∧ (c.ended = none) ∧ (c.started = true) ∧ (c.lastProgress + fld s fHifCtrlProgressMs * 1000000 ≤ max s.tmb.now t) ∧ (flag s (fHifCqEnable c.cq) = true) ∧ ((s.hif.cq.get c.cq).halt = .none) ∧ (cqInflight s c.cq < cqSize s c.cq - 1 - ((s.hif.cq.get c.cq).tail + cqSize s c.cq - (s.hif.cq.get c.cq).head) % cqSize s c.cq)) ∧
    (∃ (n t : Nat) (s : State), (canonical s) ∧ ((s.hif.cq.get n).firstUnsig = some t) ∧ (fld s (fHifCqIrqTime n) ≠ 0) ∧ (fld s (fHifCqIrqCount n) ≠ 0)) ∧
    (∃ (speed width : Nat) (s : State), (s.pwr.up = true)) ∧
    (∃ (v : Nat) (s : State), (((List.range 64).any fun n => flag s (fHifSqEnable n) || flag s (fHifCqEnable n)) = false) ∧ (s.hdl.recovery = false) ∧ (negotiated (fld s fGlbHifReqVersion) = some v)) ∧
    (∃ (s : State), (canonical s) ∧ (windowOpen s 1 = true) ∧ (hifCommitCheck s = (.ok, 0))) ∧
    (∃ (h : Nat) (c : Cmd) (s : State), (CanStart s h 0x00 c)) ∧
    (∃ (h : Nat) (c x : Cmd) (s : State), (CanStart s h 0x01 c) ∧ (s.hif.version ≠ 0x0200) ∧ (c.unit < 64) ∧ ((s.hif.cmds.find? fun x => x.sq == c.unit && x.tag == c.arg && x.handle != h && x.ended.isNone) = some x) ∧ (cmdFind s x.handle = some x) ∧ (x.started = false)) := by
  refine ⟨⟨63, withRegs up [((fHifCqEnable 0).addr, 1)], ?_⟩, ⟨63, withRegs up [((fHifSqEnable 63).addr, 1)], ?_⟩, ⟨63, up, ?_⟩, ⟨0, withRegs up [((fHifCqEnable 0).addr, 1)], ?_⟩, ⟨3, 15, withRegs up [((fHifSqEnable 3).addr, 1)], ?_⟩, ⟨3, 16, withRegs up [((fHifSqEnable 3).addr, 1)], ?_⟩, ⟨0, 2, ringed, ?_⟩, ⟨7, cmdIn endedCmd, ⟨.ok, 5, 0, 1000000⟩, endedCmd, ?_⟩, ⟨7, 200000000, cmdIn slowCmd, slowCmd, ?_⟩, ⟨0, 900000, { withRegs ringed [((fHifCqIrqTime 0).addr, 0x00640001)] with hif := { ringed.hif with cq := ringed.hif.cq.upd 0 fun q => { q with firstUnsig := some 900000, sinceIrq := 1 } } }, ?_⟩, ⟨5, 8, up, ?_⟩, ⟨0x0200, withRegs up [(0x14, 0x200)], ?_⟩, ⟨setStaged up 0x101000 0x4000, ?_⟩, ⟨7, cmdIn (withCmd up 0 0 0 0 0 []), withCmd up 0 0 0 0 0 [], ?_⟩, ⟨7, cmdIn abortPair, (abortPair.hif.cmds.getD 0 default), abortPair, ?_⟩⟩ <;> decide +kernel

/-- The hypotheses of SlicedCommandsStart can be met, those of every clause. -/
theorem witness_SlicedCommandsStart :
    (∃ (h : Nat) (c : Cmd) (d : Bytes) (l : List Nat) (s : State), (CanStart s h 0x10 c)) ∧
    (∃ (h : Nat) (c : Cmd) (d : Bytes) (s : State), (CanStart s h 0x11 c)) ∧
    (∃ (h : Nat) (c : Cmd) (d : Bytes) (s : State), (CanStart s h 0x12 c)) ∧
    (∃ (h : Nat) (c : Cmd) (d : Bytes) (s : State), (CanStart s h 0x13 c)) ∧
    (∃ (h : Nat) (c : Cmd) (d : Bytes) (s : State), (CanStart s h 0x18 c)) ∧
    (∃ (h : Nat) (c : Cmd) (d : Bytes) (s : State), (CanStart s h 0x20 c) ∧ (s.hdl.otp.returned = false)) ∧
    (∃ (h : Nat) (c : Cmd) (d : Bytes) (s : State), (CanStart s h 0x26 c) ∧ (s.hdl.otp.returned = false)) ∧
    (∃ (h : Nat) (c : Cmd) (d : Bytes) (s : State), (CanStart s h 0x30 c) ∧ (s.hdl.otp.returned = false)) ∧
    (∃ (h : Nat) (c : Cmd) (d : Bytes) (s : State), (CanStart s h 0x41 c)) ∧
    (∃ (h : Nat) (c : Cmd) (d : Bytes) (s : State), (CanStart s h 0x55 c)) ∧
    (∃ (h : Nat) (c : Cmd) (d desc : Bytes) (s : State), (CanStart s h 0x14 c)) ∧
    (∃ (h : Nat) (c : Cmd) (d desc : Bytes) (k : Option Nat) (s : State), (CanStart s h 0x15 c)) ∧
    (∃ (h : Nat) (c : Cmd) (d : Bytes) (s : State), (CanStart s h 0x19 c)) ∧
    (∃ (h : Nat) (c : Cmd) (s : State), (CanStart s h 0x1A c)) ∧
    (∃ (h : Nat) (c : Cmd) (s : State), (CanStart s h 0x49 c) ∧ (s.cnv.clkOk = true) ∧ (((List.range 4).any fun g => (cnvG s g).next.isSome) = false) ∧ (s.cnv.fg = none) ∧ (bit c.arg 0 = true)) ∧
    (∃ (h : Nat) (c : Cmd) (s : State), (CanStart s h 0x4D c) ∧ (c.dataLen % 64 = 0) ∧ (((capCh s c.unit).held.any fun g => g.index == c.arg) = true)) ∧
    (∃ (h : Nat) (c : Cmd) (s : State), (CanStart s h 0x60 c) ∧ (s.recd.volatile = false) ∧ (1 ≤ c.arg2) ∧ (c.arg2 ≤ 1048576)) ∧
    (∃ (h : Nat) (c : Cmd) (s : State), (CanStart s h 0x75 c) ∧ (s.mram.hlog.volatile = false) ∧ (1 ≤ c.arg2) ∧ (c.arg2 ≤ 1048576)) ∧
    (∃ (h : Nat) (c : Cmd) (s : State), (CanStart s h 0x66 c)) ∧
    (∃ (h : Nat) (c : Cmd) (s : State), (CanStart s h 0x69 c) ∧ (s.par.state = .active) ∧ (s.par.partnerState = PairState.standbyUnsync.code) ∧ (s.par.partnerEcn = fwEcn s) ∧ (s.cyc.state ≠ .running) ∧ (s.par.xfer ≠ .copying) ∧ (s.par.xfer ≠ .cut) ∧ (s.par.xfer ≠ .catchup)) ∧
    (∃ (h : Nat) (c : Cmd) (d : Bytes) (s : State), (canonical s) ∧ (CanStart s h 0x70 c) ∧ (bankIn s .trial = none) ∧ (bankIn s .staging = none) ∧ (c.dataLen ≤ 134217728)) := by
  refine ⟨⟨7, cmdIn (withCmd up 0x10 1 3 0 0 (zeros 12)), zeros 12, [], withCmd up 0x10 1 3 0 0 (zeros 12), ?_⟩, ⟨7, cmdIn (withCmd up 0x11 1 1 0 0 (zeros 32)), zeros 32, withCmd up 0x11 1 1 0 0 (zeros 32), ?_⟩, ⟨7, cmdIn (withCmd up 0x12 1 1 0 0 (zeros 64)), zeros 64, withCmd up 0x12 1 1 0 0 (zeros 64), ?_⟩, ⟨7, cmdIn (withCmd up 0x13 1 0 0 0 (zeros 64)), zeros 64, withCmd up 0x13 1 0 0 0 (zeros 64), ?_⟩, ⟨7, cmdIn (withCmd up 0x18 1 1 0 0 (zeros 32)), zeros 32, withCmd up 0x18 1 1 0 0 (zeros 32), ?_⟩, ⟨7, cmdIn (withCmd up 0x20 1 0 0 0 (zeros 64)), zeros 64, withCmd up 0x20 1 0 0 0 (zeros 64), ?_⟩, ⟨7, cmdIn (withCmd up 0x26 1 0 0 0 (zeros 64)), zeros 64, withCmd up 0x26 1 0 0 0 (zeros 64), ?_⟩, ⟨7, cmdIn (withCmd up 0x30 1 0 0 0 (zeros 64)), zeros 64, withCmd up 0x30 1 0 0 0 (zeros 64), ?_⟩, ⟨7, cmdIn (withCmd up 0x41 1 0 0 0 (zeros 64)), zeros 64, withCmd up 0x41 1 0 0 0 (zeros 64), ?_⟩, ⟨7, cmdIn (withCmd up 0x55 1 0 0 0 (zeros 64)), zeros 64, withCmd up 0x55 1 0 0 0 (zeros 64), ?_⟩, ⟨7, cmdIn (withCmd up 0x14 1 1 0 0 (zeros 4)), zeros 4, zeros 64, withCmd up 0x14 1 1 0 0 (zeros 4), ?_⟩, ⟨7, cmdIn (withCmd up 0x15 1 1 0 0 (zeros 4)), zeros 4, zeros 64, none, withCmd up 0x15 1 1 0 0 (zeros 4), ?_⟩, ⟨7, cmdIn (withCmd up 0x19 0 0 1 0 []), [], withCmd up 0x19 0 0 1 0 [], ?_⟩, ⟨7, cmdIn (withCmd up 0x1A 0 0 0 0 []), withCmd up 0x1A 0 0 0 0 [], ?_⟩, ⟨7, cmdIn (withCmd up 0x49 0 1 0 0 []), { withCmd up 0x49 0 1 0 0 [] with cnv := { up.cnv with clkOk := true } }, ?_⟩, ⟨7, cmdIn (withCmd up 0x4D 3 5 1 0 (zeros 128)), { withCmd up 0x4D 3 5 1 0 (zeros 128) with cap := { up.cap with ch := (SMap.empty : SMap CapCh).set 3 { (default : CapCh) with held := [{ (default : CapSeg) with index := 5 }] } } }, ?_⟩, ⟨7, cmdIn (withCmd up 0x60 0 5 1048576 0 []), withCmd up 0x60 0 5 1048576 0 [], ?_⟩, ⟨7, cmdIn (withCmd up 0x75 0 5 1 0 []), withCmd up 0x75 0 5 1 0 [], ?_⟩, ⟨7, cmdIn (withCmd up 0x66 0 0 5 0 []), withCmd up 0x66 0 0 5 0 [], ?_⟩, ⟨7, cmdIn (withCmd pairedUp 0x69 0 0 0 0 []), withCmd pairedUp 0x69 0 0 0 0 [], ?_⟩, ⟨7, cmdIn (withCmd up 0x70 0 0 0 0 (zeros 64)), zeros 64, withCmd up 0x70 0 0 0 0 (zeros 64), ?_⟩⟩ <;> decide +kernel

/-- The hypotheses of SlicesAndSharedCommandsTakeEffect can be met, those of every clause. -/
theorem witness_SlicesAndSharedCommandsTakeEffect :
    (∃ (n : Nat) (d : Bytes) (s : State), (n < 64) ∧ (sqWaiting s n = true) ∧ (creditOk s n = true) ∧ (sqTurn s n = true) ∧ (canonical s)) ∧
    (∃ (h n : Nat) (reach torn : Bool) (c : Cmd) (s : State), (cmdFind s h = some c) ∧ (c.started = true) ∧ (c.ended = none) ∧ (opSliced c.opcode = true) ∧ (c.abortBy ≠ []) ∧ (sliceCore s h = none)) ∧
    (∃ (h n k : Nat) (c : Cmd) (s : State), (cmdFind s h = some c) ∧ (c.started = true) ∧ (c.ended = none) ∧ (c.opcode = 0x10) ∧ (c.abortBy = []) ∧ (sliceCore s h = some k) ∧ (sliceTurn s c = true) ∧ (c.done ≤ c.total) ∧ (c.total ≤ c.done + n)) ∧
    (∃ (link : Bool) (t : Nat) (s : State), (canonical s)) ∧
    (∃ (h : Nat) (c : Cmd) (s : State), (CanStart s h 0x02 c)) ∧
    (∃ (h : Nat) (c : Cmd) (d : Bytes) (e : LqEntry) (s : State), (CanStart s h 0x58 c) ∧ (s.par.state ≠ .active) ∧ (c.unit = 2) ∧ (c.arg2 = 0) ∧ (c.arg = 1) ∧ (lqParse (slice d 0 16) = some e) ∧ (tioEntryOk e = true) ∧ (s.tmb.now + 100 ≤ e.instant) ∧ (s.tmb.lq.length < 4096)) := by
  refine ⟨⟨63, zeros 64, { withRegs up [((fHifSqEnable 63).addr, 1)] with hif := { up.hif with sq := (SMap.empty : SMap Sq).set 63 ⟨15, 0, .none, 0⟩ } }, ?_⟩, ⟨7, 1, true, false, (cmdIn abortWait), abortWait, ?_⟩, ⟨7, 3, 0, cmdIn readingCmd, readingCmd, ?_⟩, ⟨true, 0, ringed, ?_⟩, ⟨7, cmdIn (withCmd up 2 0 0 0 0 (zeros 64)), withCmd up 2 0 0 0 0 (zeros 64), ?_⟩, ⟨7, cmdIn (withCmd up 0x58 2 1 0 0 (leBytes 8 2000000 ++ zeros 2 ++ leBytes 2 2 ++ leBytes 4 5)), leBytes 8 2000000 ++ zeros 2 ++ leBytes 2 2 ++ leBytes 4 5, ⟨2000000, 0, false, 2, 5, none⟩, withCmd up 0x58 2 1 0 0 (leBytes 8 2000000 ++ zeros 2 ++ leBytes 2 2 ++ leBytes 4 5), ?_⟩⟩ <;> decide +kernel

/-- The hypotheses of CommitsAndRegisterAccessesTakeEffect can be met, those of every clause. -/
theorem witness_CommitsAndRegisterAccessesTakeEffect :
    (∃ (s : State), (canonical s) ∧ (windowOpen s 0x2 = true) ∧ ((s.commits.get 0x2).pending = false)) ∧
    (∃ (s : State), (canonical s) ∧ (windowOpen s 0x3 = true) ∧ ((s.commits.get 0x3).pending = false)) ∧
    (∃ (s : State), (canonical s) ∧ (windowOpen s 0x4 = true) ∧ ((s.commits.get 0x4).pending = false)) ∧
    (∃ (s : State), (canonical s) ∧ (windowOpen s 0x6 = true) ∧ ((s.commits.get 0x6).pending = false)) ∧
    (∃ (s : State), (canonical s) ∧ (windowOpen s 0x7 = true) ∧ ((s.commits.get 0x7).pending = false)) ∧
    (∃ (s : State), (canonical s) ∧ (windowOpen s 0x8 = true) ∧ ((s.commits.get 0x8).pending = false)) ∧
    (∃ (s : State), (canonical s) ∧ (windowOpen s 0x9 = true) ∧ ((s.commits.get 0x9).pending = false)) ∧
    (∃ (s : State), (canonical s) ∧ (windowOpen s 0xb = true) ∧ ((s.commits.get 0xb).pending = false)) ∧
    (∃ (s : State), (canonical s) ∧ (windowOpen s 0xc = true) ∧ ((s.commits.get 0xc).pending = false)) ∧
    (∃ (s : State), (canonical s) ∧ (windowOpen s 0xe = true) ∧ ((s.commits.get 0xe).pending = false)) ∧
    (∃ (s : State), (canonical s) ∧ (windowOpen s 0xf = true) ∧ ((s.commits.get 0xf).pending = false)) ∧
    (∃ (s : State), (canonical s) ∧ (windowOpen s 0x10 = true) ∧ ((s.commits.get 0x10).pending = false)) ∧
    (∃ (s : State), (canonical s) ∧ (windowOpen s 0x11 = true) ∧ ((s.commits.get 0x11).pending = false)) ∧
    (∃ (s : State), (canonical s) ∧ (windowOpen s 0x12 = true) ∧ ((s.commits.get 0x12).pending = false)) ∧
    (∃ (s : State), (canonical s) ∧ (windowOpen s 0x13 = true) ∧ ((s.commits.get 0x13).pending = false)) ∧
    (∃ (w t : Nat) (s : State), (canonical s) ∧ ((s.commits.get w).pending = true) ∧ (commitCheck (advance s t) w = .ok)) ∧
    (∃ (w t : Nat) (s : State), (canonical s) ∧ (w ≠ 2) ∧ (w ≠ 0x0F) ∧ (w ≠ 0x10) ∧ ((s.commits.get w).pending = true) ∧ (commitCheck (advance s t) w = .ok)) ∧
    (∃ (w t : Nat) (s : State), (canonical s) ∧ ((s.commits.get w).pending = true) ∧ (commitCheck (advance s t) w ≠ .ok)) ∧
    (∃ (v : Word) (s : State), (canonical s)) ∧
    (∃ (v : Word) (s : State), (canonical s)) ∧
    (∃ (a : Nat) (v : Word) (s : State), (canonical s) ∧ (a ∈ [0x200040, 0x200044, 0x200048, 0x20004C, 0x200050, 0x200054, 0x200058]) ∧ (windowOpen s 2 = true)) ∧
    (∃ (i : Nat) (s : State), (canonical s) ∧ (i < 16) ∧ (windowOpen s 1 = true)) ∧
    (∃ (s : State), (windowOpen s 5 = true)) ∧
    (∃ (n : Nat) (s : State), (canonical s) ∧ (n < 32) ∧ (windowOpen s 4 = true)) := by
  refine ⟨⟨up, ?_⟩, ⟨up, ?_⟩, ⟨up, ?_⟩, ⟨up, ?_⟩, ⟨up, ?_⟩, ⟨up, ?_⟩, ⟨up, ?_⟩, ⟨up, ?_⟩, ⟨up, ?_⟩, ⟨up, ?_⟩, ⟨up, ?_⟩, ⟨up, ?_⟩, ⟨up, ?_⟩, ⟨up, ?_⟩, ⟨up, ?_⟩, ⟨2, 0, setCommit (setStaged up 0x200044 5000) 2 .ok true, ?_⟩, ⟨3, 0, setCommit (setStaged up 0x300004 5) 3 .ok true, ?_⟩, ⟨2, 0, setCommit (setStaged up 0x200044 999) 2 .ok true, ?_⟩, ⟨0xFFFFFFFF, State.reset, ?_⟩, ⟨1, withRegs up [(0x28, 15)], ?_⟩, ⟨0x200058, 0xFFFFFFFF, up, ?_⟩, ⟨15, withRegs up [(0x10013C, 9)], ?_⟩, ⟨up, ?_⟩, ⟨31, { up with cyc := { up.cyc with classes := (SMap.empty : SMap ClassRun).set 31 { (default : ClassRun) with t0 := 0x500000007 } } }, ?_⟩⟩ <;> decide +kernel

/-- The hypotheses of CycleEngineCommandsTakeEffect can be met, those of every clause. -/
theorem witness_CycleEngineCommandsTakeEffect :
    (∃ (h : Nat) (c : Cmd) (m : Image) (p : PointMap) (s : State), (CanStart s h 0x21 c) ∧ (s.hdl.otp.returned = false) ∧ (s.cyc.state ≠ .running) ∧ (anyPending s = false) ∧ ((s.cyc.slots.get c.unit).image = some m) ∧ ((s.cyc.slots.get c.unit).map = some p) ∧ (p.build = m.mapBuild)) ∧
    (∃ (h : Nat) (c : Cmd) (s : State), (CanStart s h 0x22 c) ∧ (s.cyc.state = .running)) ∧
    (∃ (i : Nat) (s : State), (s.cyc.state = .running) ∧ (s.cyc.stopAt = some i)) ∧
    (∃ (c : Nat) (e : LqEntry) (t : List LqEntry) (s : State), (canonical s) ∧ (s.cyc.state = .running) ∧ (s.cyc.autoStarting = false) ∧ ((s.cyc.classes.get c).lq = e :: t) ∧ (e.action = 3)) ∧
    (∃ (c : Nat) (e : LqEntry) (s : State), (canonical s) ∧ (s.cyc.state = .running) ∧ (gridOffset s (s.cyc.classes.get c).info = (s.cyc.classes.get c).domOff) ∧ (latchEntry (s.cyc.classes.get c) = some e) ∧ (fld s fCycCtrlPoolMin ≤ hrtAvailable s) ∧ (s.cyc.weld.state ≠ .waiting) ∧ (s.cyc.weld.state ≠ .switching) ∧ (s.cyc.weld.state ≠ .reverting) ∧ ((s.cyc.classes.get c).pending = 0)) ∧
    (∃ (c : Nat) (e : LqEntry) (s : State), (canonical s) ∧ (s.cyc.state = .running) ∧ (gridOffset s (s.cyc.classes.get c).info = (s.cyc.classes.get c).domOff) ∧ (latchEntry (s.cyc.classes.get c) = some e) ∧ (hrtAvailable s < fld s fCycCtrlPoolMin) ∧ (inGap s = false)) ∧
    (∃ (c : Nat) (e : LqEntry) (s : State), (canonical s) ∧ ((s.cyc.classes.get c).lq.find? (·.action == 2) = some e) ∧ ((s.cyc.classes.get c).pending = 0)) ∧
    (∃ (c : Nat) (e : LqEntry) (s : State), (canonical s) ∧ ((s.cyc.classes.get c).lq.find? (·.action == 2) = some e) ∧ ((s.cyc.classes.get c).pending ≠ 0) ∧ (e.instant = deadlineOf (s.cyc.classes.get c).info (s.cyc.classes.get c).t0)) := by
  refine ⟨⟨7, cmdIn (withCmd halted 0x21 0 0 0 0 []), image0, map0, withCmd halted 0x21 0 0 0 0 [], ?_⟩, ⟨7, cmdIn (withCmd (welding .waiting) 0x22 0 0 0 5000000 []), withCmd (welding .waiting) 0x22 0 0 0 5000000 [], ?_⟩, ⟨5000000, (let s := welding .probation; { s with cyc := { s.cyc with stopAt := some 5000000 } }), ?_⟩, ⟨0, cycEntry 2000000 3 0, [cycEntry 2000000 1 0], clsUpd cycling 0 fun r => { r with active := false, lq := [cycEntry 2000000 3 0, cycEntry 2000000 1 0] }, ?_⟩, ⟨0, cycEntry 2000000 1 0, cycling, ?_⟩, ⟨0, cycEntry 2000000 1 0, { cycling with hrt := { cycling.hrt with cores := (List.range 32).foldl (fun m n => m.set n { (default : Core) with retired := true }) SMap.empty } }, ?_⟩, ⟨0, cycEntry 1497000 2 0, clsUpd cycling 0 fun r => { r with lq := r.lq ++ [cycEntry 1497000 2 0] }, ?_⟩, ⟨0, cycEntry 1497000 2 0, clsUpd cycling 0 fun r => { r with lq := r.lq ++ [cycEntry 1497000 2 0], pending := 1, latched := true, t0 := 1000000 }, ?_⟩⟩ <;> decide +kernel

/-- The hypotheses of OnlineChangeCommandsTakeEffect can be met, those of every clause. -/
theorem witness_OnlineChangeCommandsTakeEffect :
    (∃ (h : Nat) (c : Cmd) (d : Bytes) (s : State), (CanStart s h 0x23 c) ∧ (weldCheck s c d = .ok)) ∧
    (∃ (t : Nat) (copied : List Nat) (s : State), (s.cyc.weld.state = .copying) ∧ (64 * (s.cyc.weld.dirty.filter fun l => !copied.contains l).length ≤ weldLimit)) ∧
    (∃ (s : State), (s.cyc.weld.state = .waiting)) ∧
    (∃ (t : Nat) (o n : PointMap) (s : State), (canonical s) ∧ (s.cyc.weld.state = .switching) ∧ (s.pst.map = some o) ∧ ((s.cyc.slots.get s.cyc.weld.newSlot).map = some n)) ∧
    (∃ (t : Nat) (s : State), (s.cyc.weld.state = .switching)) ∧
    (∃ (h : Nat) (c : Cmd) (s : State), (CanStart s h 0x24 c) ∧ (s.cyc.weld.state = .probation) ∧ (s.cyc.weld.revertCmd = none)) ∧
    (∃ (h : Nat) (c : Cmd) (s : State), (CanStart s h 0x25 c) ∧ (s.cyc.weld.state = .probation)) ∧
    (∃ (h : Nat) (c : Cmd) (s : State), (CanStart s h 0x25 c) ∧ (s.cyc.weld.state = .copying ∨ s.cyc.weld.state = .waiting)) ∧
    (∃ (t : Nat) (s : State), (s.cyc.weld.state = .reverting) ∧ (s.cyc.weld.inGap = true)) ∧
    (∃ (s : State), (s.cyc.weld.state = .reverting) ∧ (s.cyc.weld.inGap = false)) := by
  refine ⟨⟨7, cmdIn (withCmd cycling 0x23 1 5 0 0 []), weldData, withCmd cycling 0x23 1 5 0 0 [], ?_⟩, ⟨3000000, [1, 2], (let s := welding .copying; { s with cyc := { s.cyc with weld := { s.cyc.weld with dirty := [1, 2, 3] } } }), ?_⟩, ⟨welding .waiting, ?_⟩, ⟨2000900, map0, map0, welding .switching, ?_⟩, ⟨2000900, welding .switching, ?_⟩, ⟨7, cmdIn (withCmd (welding .probation) 0x24 0 0 0 0 []), withCmd (welding .probation) 0x24 0 0 0 0 [], ?_⟩, ⟨7, cmdIn (withCmd (welding .probation) 0x25 0 0 0 0 []), withCmd (welding .probation) 0x25 0 0 0 0 [], ?_⟩, ⟨7, cmdIn (withCmd (welding .copying) 0x25 0 0 0 0 []), withCmd (welding .copying) 0x25 0 0 0 0 [], ?_⟩, ⟨2000900, (let s := welding .reverting; { s with cyc := { s.cyc with weld := { s.cyc.weld with inGap := true } } }), ?_⟩, ⟨welding .reverting, ?_⟩⟩ <;> decide +kernel

/-- The hypotheses of InterlockCommandsTakeEffect can be met, those of every clause. -/
theorem witness_InterlockCommandsTakeEffect :
    (∃ (dur : Nat) (m : IleImage) (s : State), (s.ile.state ≠ .faulted) ∧ (s.ile.image = some m) ∧ (s.ile.next = none)) ∧
    (∃ (dur : Nat) (m : IleImage) (s : State), (s.ile.state ≠ .faulted) ∧ (s.ile.image = some m) ∧ (s.ile.next = none)) ∧
    (∃ (t insn : Nat) (s : State), (s.ile.state ≠ .faulted)) ∧
    (∃ (s : State), (windowOpen s 5 = true) ∧ (s.ile.state = .fallback)) := by
  refine ⟨⟨4000, ileImage0, locked, ?_⟩, ⟨90000, ileImage0, locked, ?_⟩, ⟨1200000, 3, locked, ?_⟩, ⟨{ locked with ile := { locked.ile with state := .fallback } }, ?_⟩⟩ <;> decide +kernel

/-- The hypotheses of HearthCommandsTakeEffect can be met, those of every clause. -/
theorem witness_HearthCommandsTakeEffect :
    (∃ (core t : Nat) (d : Desc) (s : State), (canonical s) ∧ (core < poolSize) ∧ ((s.hrt.cores.get core).retired = false) ∧ ((s.hrt.cores.get core).run = none) ∧ (nextItem core (slicePass (advance s t)).hrt.ready = some d)) ∧
    (∃ (src : Nat) (d : Desc) (s : State), (s.hrt.held.find? (·.source == src) = some d) ∧ (hrtCredit s src = true)) ∧
    (∃ (t : Nat) (j : CommitJob) (l : List CommitJob) (s : State), (s.par.inStep = false) ∧ (s.hrt.commits = j :: l)) ∧
    (∃ (core : Nat) (x : Run) (s : State), (canonical s) ∧ ((s.hrt.cores.get core).run = some x)) ∧
    (∃ (core t cause : Nat) (p : RvRun) (x : Run) (s : State), (canonical s) ∧ ((s.hrt.cores.get core).run = some x) ∧ (x.user = true) ∧ (cause = 0 ∨ cause = 1 ∨ cause = 3 ∨ cause = 4)) ∧
    (∃ (core t : Nat) (x : Run) (s : State), (canonical s) ∧ (core < poolSize) ∧ ((s.hrt.cores.get core).retired = false) ∧ ((s.hrt.cores.get core).run = some x) ∧ (x.desc.retry = false)) ∧
    (∃ (core t : Nat) (x : Run) (s : State), (canonical s) ∧ (core < poolSize) ∧ ((s.hrt.cores.get core).retired = false) ∧ ((s.hrt.cores.get core).run = some x) ∧ (x.desc.retry = true)) ∧
    (∃ (core t : Nat) (s : State), (canonical s) ∧ (core < poolSize) ∧ ((s.hrt.cores.get core).retired = false) ∧ ((s.hrt.cores.get core).run = none)) ∧
    (∃ (core t : Nat) (w : Word) (p : RvRun) (x : Run) (s : State), (canonical s) ∧ ((s.hrt.cores.get core).run = some x) ∧ (x.user = false) ∧ (s.hif.cmds.any (fun c => isSlice c.handle x.desc && sliceRunning c) = false) ∧ (x.full = false) ∧ (x.noCredit = false)) ∧
    (∃ (core t : Nat) (w : Word) (p : RvRun) (x q : Run) (s : State), (canonical s) ∧ (RunsInsn s core w p 6 x q) ∧ (bits w.toNat 31 20 = 0) ∧ (bits w.toNat 11 7 = 0) ∧ (q.full = false) ∧ (q.noCredit = false)) := by
  refine ⟨⟨31, 1000400, desc0, { cycling with hrt := { cycling.hrt with ready := [desc0] } }, ?_⟩, ⟨4, desc0, { cycling with hrt := { cycling.hrt with held := [desc0] } }, ?_⟩, ⟨1000900, ⟨desc0, 0, [.write ⟨1, 1, none, none, qVALID, wCYC, 0, false⟩], 0, 1000000⟩, [], { cycling with hrt := { cycling.hrt with commits := [⟨desc0, 0, [.write ⟨1, 1, none, none, qVALID, wCYC, 0, false⟩], 0, 1000000⟩] } }, ?_⟩, ⟨0, item0, onCore item0, ?_⟩, ⟨0, 1000100, 4, ⟨[(10, 3)], [], [(0, 8, [1, 2])]⟩, item0, onCore item0, ?_⟩, ⟨0, 1000100, item0, onCore item0, ?_⟩, ⟨0, 1000100, { item0 with desc := { desc0 with retry := true } }, onCore { item0 with desc := { desc0 with retry := true } }, ?_⟩, ⟨31, 1000100, cycling, ?_⟩, ⟨0, 1000100, 0, ⟨[], [], []⟩, { item0 with user := false }, onCore { item0 with user := false }, ?_⟩, ⟨0, 1000100, insn 0 0 11 6 0, ⟨[(11, 5)], [], []⟩, item0, (rvApply (onCore item0) item0 ⟨[(11, 5)], [], []⟩).2, onCore item0, ?_⟩⟩ <;> decide +kernel

/-- The hypotheses of CustomInstructionsTakeEffect can be met, those of every clause. -/
theorem witness_CustomInstructionsTakeEffect :
    (∃ (core : Nat) (w : Word) (p : RvRun) (x q : Run) (id o : Nat) (s : State), (RunsInsn s core w p 0 x q) ∧ (bits w.toNat 31 25 = 1) ∧ (id = (q.xregs.get (bits w.toNat 19 15)).toNat % 2 ^ 25) ∧ (id ≠ 0) ∧ (mapped s id = true) ∧ ((q.xregs.get (bits w.toNat 24 20)).toNat = scratchBase + o) ∧ (o + 32 ≤ scratchSize) ∧ (o % 32 = 0)) ∧
    (∃ (core : Nat) (w : Word) (p : RvRun) (x q : Run) (id : Nat) (s : State), (RunsInsn s core w p 1 x q) ∧ (bits w.toNat 31 25 = 1) ∧ (bits w.toNat 24 20 = 0) ∧ (id = (q.xregs.get (bits w.toNat 19 15)).toNat % 2 ^ 25) ∧ (id ≠ 0) ∧ (mapped s id = true)) ∧
    (∃ (core : Nat) (w : Word) (p : RvRun) (x q : Run) (s : State), (RunsInsn s core w p 2 x q) ∧ (bits w.toNat 31 25 = 0) ∧ (bufferRoom q)) ∧
    (∃ (core : Nat) (w : Word) (p : RvRun) (x q : Run) (s : State), (RunsInsn s core w p 3 x q) ∧ (bits w.toNat 31 20 = 0) ∧ (bits w.toNat 11 7 = 0)) ∧
    (∃ (core : Nat) (w : Word) (p : RvRun) (x q : Run) (s : State), (RunsInsn s core w p 4 x q) ∧ (bits w.toNat 31 25 < 4) ∧ (bits w.toNat 24 15 = 0)) ∧
    (∃ (core : Nat) (w : Word) (p : RvRun) (x q : Run) (s : State), (RunsInsn s core w p 5 x q) ∧ (bits w.toNat 31 25 = 0) ∧ (lreqSources.contains (bits (q.xregs.get (bits w.toNat 24 20)).toNat 7 0) = false)) ∧
    (∃ (core : Nat) (w : Word) (p : RvRun) (x q : Run) (src k o : Nat) (e : LqEntry) (s : State), (RunsInsn s core w p 5 x q) ∧ (bits w.toNat 31 25 = 0) ∧ ((q.xregs.get (bits w.toNat 24 20)).toNat = src + 256 * k) ∧ (src = 2 ∨ src = 9 ∨ src = 12) ∧ (lqKnown src k = true) ∧ ((q.xregs.get (bits w.toNat 19 15)).toNat = scratchBase + o) ∧ (o % 16 = 0) ∧ (o + 16 ≤ scratchSize) ∧ (lqParse (scratchGet q o 16) = some e) ∧ (lqLegal s src k e [] [] = true) ∧ (lqFull s src k [] (lqReserved s src k) = false) ∧ (bufferRoom q)) ∧
    (∃ (core : Nat) (w : Word) (p : RvRun) (x q : Run) (s : State), (RunsInsn s core w p 7 x q) ∧ (bits w.toNat 31 25 = 0) ∧ (0x8000 ≤ bits (q.xregs.get (bits w.toNat 19 15)).toNat 15 0) ∧ (bufferRoom q)) := by
  refine ⟨⟨0, insn 1 12 11 0 10, ⟨[], [], []⟩, item0, item0, 1, 0, onCore item0, ?_⟩, ⟨0, insn 1 0 11 1 10, ⟨[], [], []⟩, item0, item0, 1, onCore item0, ?_⟩, ⟨0, insn 0 12 11 2 10, ⟨[], [], []⟩, { item0 with stampNext := some 900000 }, { item0 with stampNext := some 900000 }, onCore { item0 with stampNext := some 900000 }, ?_⟩, ⟨0, insn 0 0 11 3 0, ⟨[], [], []⟩, item0, item0, onCore item0, ?_⟩, ⟨0, insn 2 0 0 4 10, ⟨[], [], []⟩, item0, item0, onCore item0, ?_⟩, ⟨0, insn 0 12 11 5 10, ⟨[], [], []⟩, item0, item0, onCore item0, ?_⟩, ⟨0, insn 0 12 11 5 10, ⟨[(12, 0x00000309), (11, 0x10000000)], [(10, [1])], []⟩, item0, (rvApply (onCore item0) item0 ⟨[(12, 0x00000309), (11, 0x10000000)], [(10, [1])], []⟩).2, 9, 3, 0, ⟨0, 0, false, 1, 0, none⟩, onCore item0, ?_⟩, ⟨0, insn 0 12 11 7 10, ⟨[(11, 0x58001)], [], []⟩, item0, (rvApply (onCore item0) item0 ⟨[(11, 0x58001)], [], []⟩).2, onCore item0, ?_⟩⟩ <;> decide +kernel

/-- The hypotheses of RecipeCommandsTakeEffect can be met, those of every clause. -/
theorem witness_RecipeCommandsTakeEffect :
    (∃ (h : Nat) (c : Cmd) (s : State), (canonical s) ∧ (CanStart s h 0x31 c) ∧ ((seqX s c.unit).state = .loaded ∨ (seqX s c.unit).state = .done ∨ (seqX s c.unit).state = .aborted) ∧ ((seqX s c.unit).next = none) ∧ (contextTaken s c.unit = false) ∧ (c.arg < riSteps (seqImg (seqX s c.unit))) ∧ (s.tmb.now + 200 ≤ seqInstant s c.unit c.instant)) ∧
    (∃ (h : Nat) (c : Cmd) (s : State), (canonical s) ∧ (CanStart s h 0x32 c) ∧ (seqFollower s c.unit = false) ∧ ((seqX s c.unit).state = .running) ∧ ((seqX s c.unit).hold = none)) ∧
    (∃ (h : Nat) (c : Cmd) (s : State), (CanStart s h 0x32 c) ∧ (seqFollower s c.unit = false) ∧ ((seqX s c.unit).state = .held)) ∧
    (∃ (h : Nat) (c : Cmd) (s : State), (canonical s) ∧ (CanStart s h 0x33 c) ∧ (seqFollower s c.unit = false) ∧ ((seqX s c.unit).state = .held) ∧ (seqLimited s (seqX s c.unit) = false) ∧ ((seqX s c.unit).next = none) ∧ ((seqX s c.unit).abort = none) ∧ ((seqX s c.unit).restored = false)) ∧
    (∃ (h : Nat) (c : Cmd) (s : State), (canonical s) ∧ (CanStart s h 0x34 c) ∧ (seqFollower s c.unit = false) ∧ ((seqX s c.unit).abort = none) ∧ ((seqX s c.unit).state = .running ∨ (seqX s c.unit).state = .held)) ∧
    (∃ (h : Nat) (c : Cmd) (s : State), (canonical s) ∧ (CanStart s h 0x35 c) ∧ ((resumeCheck s c.unit c.arg).toOption = some 2)) ∧
    (∃ (t : Nat) (s : State), (autostarts s = true) ∧ (programAutostarts s = false) ∧ (s.cyc.autoStarting = false) ∧ (flag s fSeqCtrlAutoResume = false)) ∧
    (∃ (t x : Nat) (e : Exec) (s : State), (autostarts s = true) ∧ (programAutostarts s = false) ∧ (s.cyc.autoStarting = false) ∧ (flag s fSeqCtrlAutoResume = true) ∧ (s.seq.exec.entries = [(x, e)]) ∧ (canonical s) ∧ (riFlag (seqImg e) 1 = true) ∧ (e.next = none) ∧ (e.abort = none) ∧ ((resumeCheck (advance s t) x 0).toOption = some 2)) ∧
    (∃ (x fails : Nat) (a : AbortReq) (n : Nat) (s : State), (canonical s) ∧ ((seqX s x).abort = some a) ∧ (riAbort (seqImg (seqX s x)) = some n)) ∧
    (∃ (x fails : Nat) (a : AbortReq) (s : State), (canonical s) ∧ ((seqX s x).abort = some a) ∧ (riAbort (seqImg (seqX s x)) = none)) := by
  refine ⟨⟨7, cmdIn (withCmd (recipe .loaded) 0x31 3 1 0 0 []), withCmd (recipe .loaded) 0x31 3 1 0 0 [], ?_⟩, ⟨7, cmdIn (withCmd (recipe .running) 0x32 3 0 0 0 []), withCmd (recipe .running) 0x32 3 0 0 0 [], ?_⟩, ⟨7, cmdIn (withCmd (recipe .held) 0x32 3 0 0 0 []), withCmd (recipe .held) 0x32 3 0 0 0 [], ?_⟩, ⟨7, cmdIn (withCmd (recipe .held) 0x33 3 0 0 0 []), withCmd (recipe .held) 0x33 3 0 0 0 [], ?_⟩, ⟨7, cmdIn (withCmd (recipe .held) 0x34 3 0 0 500 []), withCmd (recipe .held) 0x34 3 0 0 500 [], ?_⟩, ⟨7, cmdIn (withCmd (recipe .resumable) 0x35 3 2 0 0 []), withCmd (recipe .resumable) 0x35 3 2 0 0 [], ?_⟩, ⟨2000000, withRegs { recipe .resumable with par := { up.par with state := .alone } } [(fSeqCtrlAutoResume.addr, 20)], ?_⟩, ⟨2000000, 3, seqX (recipe .resumable) 3, withRegs { recipe .resumable with par := { up.par with state := .alone } } [(fSeqCtrlAutoResume.addr, 0x10014)], ?_⟩, ⟨3, 0, ⟨1500000, none, 1, none, [], 0⟩, 2, seqUpd (recipe .running) 3 fun e => { e with abort := some ⟨1500000, none, 1, none, [], 0⟩ }, ?_⟩, ⟨3, 0, ⟨1500000, none, 1, none, [], 0⟩, seqUpd (recipe .running) 3 fun e => { e with image := some (recipeBytes 0xFFFF), abort := some ⟨1500000, none, 1, none, [], 0⟩ }, ?_⟩⟩ <;> decide +kernel

/-- The hypotheses of RecipeLaunchesTakeEffect can be met, those of every clause. -/
theorem witness_RecipeLaunchesTakeEffect :
    (∃ (x fails n dn : Nat) (b : Bnd) (s : State), (canonical s) ∧ ((seqX s x).state = .running) ∧ ((seqX s x).next = some b) ∧ (b.doneAt = some dn) ∧ ((seqX s x).abort = none) ∧ ((seqX s x).hold = none) ∧ (Acts s) ∧ (b.step = some n) ∧ (b.policy = 0) ∧ (b.entry ≠ 5)) ∧
    (∃ (x fails dn : Nat) (b : Bnd) (s : State), (canonical s) ∧ ((seqX s x).state = .running) ∧ ((seqX s x).next = some b) ∧ (b.doneAt = some dn) ∧ ((seqX s x).abort = none) ∧ (Acts s) ∧ (b.step = none)) ∧
    (∃ (x fails n dn i : Nat) (b : Bnd) (cmd : Option Nat) (s : State), (canonical s) ∧ ((seqX s x).state = .running) ∧ ((seqX s x).next = some b) ∧ (b.doneAt = some dn) ∧ ((seqX s x).abort = none) ∧ (seqX s x).hold = some (i, cmd) ∧ (i ≤ b.inst) ∧ (Acts s) ∧ (b.step = some n)) ∧
    (∃ (x t o : Nat) (l : List (Nat × Nat)) (s : State), (canonical s) ∧ ((seqX s x).lq = (t, o) :: l) ∧ ((seqX s x).next = none)) ∧
    (∃ (x i : Nat) (q : Ramp) (s : State), (canonical s) ∧ ((seqX s x).ramps.find? (·.act == i) = some q) ∧ (targetOk s q.id q.type.code = true) ∧ (q.t0 + q.dur ≤ rampDue q)) ∧
    (∃ (x i : Nat) (q : Ramp) (s : State), (canonical s) ∧ ((seqX s x).ramps.find? (·.act == i) = some q) ∧ (targetOk s q.id q.type.code = true) ∧ (rampDue q < q.t0 + q.dur)) ∧
    (∃ (x : Nat) (since : Option Nat) (s : State), (canonical s) ∧ ((seqX s x).state = .running ∨ (seqX s x).state = .aborting) ∧ (seqFollower s x = false) ∧ ((seqX s x).next = none) ∧ (stEnd (riStep (seqImg (seqX s x)) (seqX s x).step) ≠ 0) ∧ (stEnd (riStep (seqImg (seqX s x)) (seqX s x).step) ≠ 5) ∧ (condEval (advance s (seqX s x).evalAt) (seqX s x) (seqX s x).evalAt = some (true, since))) ∧
    (∃ (x : Nat) (since : Option Nat) (s : State), (canonical s) ∧ ((seqX s x).state = .running ∨ (seqX s x).state = .aborting) ∧ (seqFollower s x = false) ∧ ((seqX s x).next = none) ∧ (stEnd (riStep (seqImg (seqX s x)) (seqX s x).step) ≠ 0) ∧ (stEnd (riStep (seqImg (seqX s x)) (seqX s x).step) ≠ 5) ∧ (condEval (advance s (seqX s x).evalAt) (seqX s x) (seqX s x).evalAt = some (false, since))) ∧
    (∃ (x : Nat) (s : State), (canonical s) ∧ ((seqX s x).state = .running ∨ (seqX s x).state = .aborting) ∧ (seqFollower s x = false) ∧ ((seqX s x).next = none) ∧ ((seqX s x).abort = none) ∧ (stEnd (riStep (seqImg (seqX s x)) (seqX s x).step) ≠ 0) ∧ (stMax (riStep (seqImg (seqX s x)) (seqX s x).step) ≠ 0) ∧ (stTimeout (riStep (seqImg (seqX s x)) (seqX s x).step) ≠ 0xFFFE)) ∧
    (∃ (x : Nat) (b : Bnd) (s : State), (canonical s) ∧ ((seqX s x).next = some b) ∧ ((seqX s x).abort = none) ∧ (b.waiting ≠ []) ∧ (riFlag (seqImg (seqX s x)) 2 = false)) ∧
    (∃ (x : Nat) (b : Bnd) (s : State), (canonical s) ∧ ((seqX s x).next = some b) ∧ (b.guarded = true) ∧ (stationsHeld s (seqImg (seqX s x)) = false)) ∧
    (∃ (p t x n : Nat) (b m : Bytes) (s : State), (canonical s) ∧ (Receives s p clsLAUNCH 1 b t) ∧ (m = (wParse b).payload) ∧ (x = le m 0 2) ∧ (n = le m 2 2) ∧ (x < 64) ∧ (seqFollower s x = true) ∧ ((seqX s x).image ≠ none) ∧ (n < riSteps (seqImg (seqX s x)))) ∧
    (∃ (p t x : Nat) (b m : Bytes) (a : Bnd) (s : State), (canonical s) ∧ (Receives s p clsLAUNCH 2 b t) ∧ (m = (wParse b).payload) ∧ (x = le m 0 2) ∧ (x < 64) ∧ ((seqX s x).next = some a) ∧ (a.policy = 0)) ∧
    (∃ (p t x : Nat) (b m : Bytes) (s : State), (canonical s) ∧ (Receives s p clsLAUNCH 3 b t) ∧ (m = (wParse b).payload) ∧ (x = le m 0 2) ∧ (x < 64) ∧ (seqFollower s x = true) ∧ ((seqX s x).image ≠ none) ∧ (riId (seqImg (seqX s x)) = le m 16 8) ∧ ((resumeCheck (advance s t) x (le m 2 1)).toOption = some 2)) := by
  refine ⟨⟨3, 0, 1, 1900000, { bndOf 2000000 (some 1) 1 [] none with doneAt := some 1900000 }, seqUpd (recipe .running) 3 fun e => { e with next := some { bndOf 2000000 (some 1) 1 [] none with doneAt := some 1900000 } }, ?_⟩, ⟨3, 0, 2000005, { bndOf 2000000 none 1 [] none with doneAt := some 2000005 }, seqUpd (recipe .running) 3 fun e => { e with next := some { bndOf 2000000 none 1 [] none with doneAt := some 2000005 } }, ?_⟩, ⟨3, 0, 1, 1900000, 2000000, { bndOf 2000000 (some 1) 1 [] none with doneAt := some 1900000 }, none, seqUpd (recipe .running) 3 fun e => { e with hold := some (2000000, none), next := some { bndOf 2000000 (some 1) 1 [] none with doneAt := some 1900000 } }, ?_⟩, ⟨3, 1500000, 500, [], seqUpd (recipe .running) 3 fun e => { e with lq := [(1500000, 500)] }, ?_⟩, ⟨3, 4, ⟨4, 9, .uint32, 50, 1000000, 100000, 10000, some 0, 10⟩, ramping 10, ?_⟩, ⟨3, 4, ⟨4, 9, .uint32, 50, 1000000, 100000, 10000, some 0, 9⟩, ramping 9, ?_⟩, ⟨3, none, (let s := seqUpd (recipe .running) 3 fun e => { e with step := 2, evalAt := 1500000 }; { s with mot := { s.mot with ax := (SMap.empty : SMap Axis).set 4 { (default : Axis) with inpos := true } } }), ?_⟩, ⟨3, none, seqUpd (recipe .running) 3 fun e => { e with step := 2, evalAt := 1500000 }, ?_⟩, ⟨3, seqUpd (recipe .running) 3 fun e => { e with step := 2, b := 1000000 }, ?_⟩, ⟨3, { bndOf 3000000 (some 1) 1 [] none with waiting := [4], ackDue := 2000000 }, seqUpd (recipe .running) 3 fun e => { e with next := some { bndOf 3000000 (some 1) 1 [] none with waiting := [4], ackDue := 2000000 } }, ?_⟩, ⟨3, { bndOf 3000000 (some 1) 6 [] none with guarded := true }, seqUpd (recipe .resumable) 3 fun e => { e with image := some stationRecipe, next := some { bndOf 3000000 (some 1) 6 [] none with guarded := true } }, ?_⟩, ⟨1, 1200000, 3, 1, waligMsg clsLAUNCH 1 4 1 63 1 9 boundaryMsg, boundaryMsg, following .running, ?_⟩, ⟨1, 1200000, 3, waligMsg clsLAUNCH 2 4 1 63 0 9 (leBytes 2 3 ++ zeros 6), leBytes 2 3 ++ zeros 6, { bndOf 3000000 (some 1) 1 [] none with waiting := [4, 5] }, seqUpd (following .running) 3 fun e => { e with next := some { bndOf 3000000 (some 1) 1 [] none with waiting := [4, 5] } }, ?_⟩, ⟨1, 1200000, 3, waligMsg clsLAUNCH 3 4 1 63 1 9 resumeMsg, resumeMsg, following .resumable, ?_⟩⟩ <;> decide +kernel

/-- The hypotheses of AnvilClassAComputes can be met, those of every clause. -/
theorem witness_AnvilClassAComputes :
    (∃ (c w : Nat) (x : AnvRun) (v : Int) (s : State), (AnvRuns s c x w 0 1 1) ∧ ((moveOk x 0 (moveOf (bits w 17 9)) && moveOk x 1 (moveOf (bits w 8 0))) = true) ∧ (v = 2 * op24 (regRd x (bits w 23 21) x.used false) * op24 (regRd x (bits w 20 18) x.used false))) ∧
    (∃ (c w : Nat) (x : AnvRun) (v : Int) (s : State), (AnvRuns s c x w 0 2 1) ∧ ((moveOk x 0 (moveOf (bits w 17 9)) && moveOk x 1 (moveOf (bits w 8 0))) = true) ∧ (v = accInt (regRd x (kA + bits w 25 24) x.used true) + 2 * op24 (regRd x (bits w 23 21) x.used false) * op24 (regRd x (bits w 20 18) x.used false))) ∧
    (∃ (c w : Nat) (x : AnvRun) (v : Int) (s : State), (AnvRuns s c x w 0 3 1) ∧ ((moveOk x 0 (moveOf (bits w 17 9)) && moveOk x 1 (moveOf (bits w 8 0))) = true) ∧ (v = accInt (regRd x (kA + bits w 25 24) x.used true) - 2 * op24 (regRd x (bits w 23 21) x.used false) * op24 (regRd x (bits w 20 18) x.used false))) ∧
    (∃ (c w : Nat) (x : AnvRun) (v : Int) (s : State), (AnvRuns s c x w 0 4 1) ∧ ((moveOk x 0 (moveOf (bits w 17 9)) && moveOk x 1 (moveOf (bits w 8 0))) = true) ∧ (v = op24 (regRd x (bits w 23 21) x.used false) * 2 ^ 24)) ∧
    (∃ (c w : Nat) (x : AnvRun) (v : Int) (s : State), (AnvRuns s c x w 0 5 1) ∧ ((moveOk x 0 (moveOf (bits w 17 9)) && moveOk x 1 (moveOf (bits w 8 0))) = true) ∧ (v = accInt (regRd x (kA + bits w 25 24) x.used true) + op24 (regRd x (bits w 23 21) x.used false) * 2 ^ 24)) ∧
    (∃ (c w : Nat) (x : AnvRun) (v : Int) (s : State), (AnvRuns s c x w 0 6 1) ∧ ((moveOk x 0 (moveOf (bits w 17 9)) && moveOk x 1 (moveOf (bits w 8 0))) = true) ∧ (v = accInt (regRd x (kA + bits w 25 24) x.used true) - op24 (regRd x (bits w 23 21) x.used false) * 2 ^ 24)) ∧
    (∃ (c w : Nat) (x : AnvRun) (v : Int) (s : State), (AnvRuns s c x w 0 7 1) ∧ ((moveOk x 0 (moveOf (bits w 17 9)) && moveOk x 1 (moveOf (bits w 8 0))) = true) ∧ (v = accInt (regRd x (kA + bits w 25 24) x.used true) + accInt (regRd x (kA + bits w 22 21) x.used true))) ∧
    (∃ (c w : Nat) (x : AnvRun) (v : Int) (s : State), (AnvRuns s c x w 0 8 1) ∧ ((moveOk x 0 (moveOf (bits w 17 9)) && moveOk x 1 (moveOf (bits w 8 0))) = true) ∧ (v = accInt (regRd x (kA + bits w 25 24) x.used true) - accInt (regRd x (kA + bits w 22 21) x.used true))) ∧
    (∃ (c w : Nat) (x : AnvRun) (v : Int) (s : State), (AnvRuns s c x w 0 9 1) ∧ ((moveOk x 0 (moveOf (bits w 17 9)) && moveOk x 1 (moveOf (bits w 8 0))) = true) ∧ (v = 0)) ∧
    (∃ (c w : Nat) (x : AnvRun) (v : Int) (s : State), (AnvRuns s c x w 0 10 1) ∧ ((moveOk x 0 (moveOf (bits w 17 9)) && moveOk x 1 (moveOf (bits w 8 0))) = true) ∧ (v = -accInt (regRd x (kA + bits w 25 24) x.used true))) ∧
    (∃ (c w : Nat) (x : AnvRun) (v : Int) (s : State), (AnvRuns s c x w 0 11 1) ∧ ((moveOk x 0 (moveOf (bits w 17 9)) && moveOk x 1 (moveOf (bits w 8 0))) = true) ∧ (v = if accInt (regRd x (kA + bits w 25 24) x.used true) < 0 then -accInt (regRd x (kA + bits w 25 24) x.used true) else accInt (regRd x (kA + bits w 25 24) x.used true))) ∧
    (∃ (c w : Nat) (x : AnvRun) (v : Int) (s : State), (AnvRuns s c x w 0 12 1) ∧ ((moveOk x 0 (moveOf (bits w 17 9)) && moveOk x 1 (moveOf (bits w 8 0))) = true) ∧ (v = accInt (regRd x (kA + bits w 25 24) x.used true) - op24 (regRd x (bits w 23 21) x.used false) * 2 ^ 24)) ∧
    (∃ (c w k : Nat) (x : AnvRun) (s : State), (AnvRuns s c x w 0 0 1) ∧ ((moveOf (bits w 17 9)).kind = 0) ∧ ((moveOf (bits w 8 0)).kind = 0)) ∧
    (∃ (c w : Nat) (x : AnvRun) (l : AnvMove) (s : State), (AnvRuns s c x w 0 0 1) ∧ (l = moveOf (bits w 17 9)) ∧ (l.kind = 1) ∧ (moveOk x 0 l = true) ∧ ((moveOf (bits w 8 0)).kind = 0)) := by
  refine ⟨⟨2, 0x5940000, anvRun [0x5940000], 2 * 3 * (-2), onAnvil (anvRun [0x5940000]), ?_⟩, ⟨2, 0x9940000, anvRun [0x9940000], -5 + 2 * 3 * (-2), onAnvil (anvRun [0x9940000]), ?_⟩, ⟨2, 0xd940000, anvRun [0xd940000], -5 - 2 * 3 * (-2), onAnvil (anvRun [0xd940000]), ?_⟩, ⟨2, 0x11940000, anvRun [0x11940000], 3 * 2 ^ 24, onAnvil (anvRun [0x11940000]), ?_⟩, ⟨2, 0x15940000, anvRun [0x15940000], -5 + 3 * 2 ^ 24, onAnvil (anvRun [0x15940000]), ?_⟩, ⟨2, 0x19940000, anvRun [0x19940000], -5 - 3 * 2 ^ 24, onAnvil (anvRun [0x19940000]), ?_⟩, ⟨2, 0x1d340000, anvRun [0x1d340000], -10, onAnvil (anvRun [0x1d340000]), ?_⟩, ⟨2, 0x21340000, anvRun [0x21340000], 0, onAnvil (anvRun [0x21340000]), ?_⟩, ⟨2, 0x25940000, anvRun [0x25940000], 0, onAnvil (anvRun [0x25940000]), ?_⟩, ⟨2, 0x29940000, anvRun [0x29940000], 5, onAnvil (anvRun [0x29940000]), ?_⟩, ⟨2, 0x2d940000, anvRun [0x2d940000], 5, onAnvil (anvRun [0x2d940000]), ?_⟩, ⟨2, 0x31940000, anvRun [0x31940000], -5 - 3 * 2 ^ 24, onAnvil (anvRun [0x31940000]), ?_⟩, ⟨2, 0, 33, anvRun [0], onAnvil (anvRun [0]), ?_⟩, ⟨2, 0x19200, anvRun [0x19200], ⟨1, 2, 1, 1⟩, onAnvil (anvRun [0x19200]), ?_⟩⟩ <;> decide +kernel

/-- The hypotheses of AnvilClassBComputes can be met, those of every clause. -/
theorem witness_AnvilClassBComputes :
    (∃ (c w : Nat) (x : AnvRun) (s : State), (AnvRuns s c x w 1 0 1)) ∧
    (∃ (c w : Nat) (x : AnvRun) (s : State), (AnvRuns s c x w 1 1 1)) ∧
    (∃ (c w : Nat) (x : AnvRun) (p : AnvPlace) (s : State), (AnvRuns s c x w 1 2 1) ∧ (x.place = some p)) ∧
    (∃ (c w : Nat) (x : AnvRun) (s : State), (AnvRuns s c x w 1 3 1) ∧ (bits w 25 21 < 8)) ∧
    (∃ (c w : Nat) (x : AnvRun) (s : State), (AnvRuns s c x w 1 3 1) ∧ (8 ≤ bits w 25 21)) ∧
    (∃ (c w : Nat) (x : AnvRun) (s : State), (AnvRuns s c x w 1 4 1)) ∧
    (∃ (c w : Nat) (x : AnvRun) (s : State), (AnvRuns s c x w 1 5 1)) ∧
    (∃ (c w : Nat) (x : AnvRun) (v : Int) (s : State), (AnvRuns s c x w 1 6 1) ∧ (v = shiftInt (accInt (regRd x (kA + bits w 25 24) x.used false)) (signed 7 (bits w 6 0)))) ∧
    (∃ (c w : Nat) (x : AnvRun) (v : Int) (s : State), (AnvRuns s c x w 1 7 1) ∧ (v = shiftInt (accInt (regRd x (kA + bits w 25 24) x.used false)) (clampI (-56) 55 (op24 (regRd x (bits w 23 21) x.used false))))) ∧
    (∃ (c w : Nat) (x : AnvRun) (v : Int) (s : State), (AnvRuns s c x w 1 8 1) ∧ (v = shiftInt (accInt (regRd x (kA + bits w 25 24) x.used false)) (expOf (regRd x (kA + bits w 25 24) x.used false)))) ∧
    (∃ (c w : Nat) (x : AnvRun) (s : State), (AnvRuns s c x w 1 9 1)) ∧
    (∃ (c w : Nat) (x : AnvRun) (s : State), (AnvRuns s c x w 1 10 1) ∧ (x.br = none)) ∧
    (∃ (c w : Nat) (x : AnvRun) (s : State), (AnvRuns s c x w 1 11 1) ∧ (x.br = none) ∧ (anvCond x (bits w 25 22) = true)) ∧
    (∃ (c w : Nat) (x : AnvRun) (s : State), (AnvRuns s c x w 1 11 1) ∧ (x.br = none) ∧ (anvCond x (bits w 25 22) = false)) ∧
    (∃ (c w : Nat) (x : AnvRun) (s : State), (AnvRuns s c x w 1 12 1) ∧ (x.br = none)) ∧
    (∃ (c w : Nat) (x : AnvRun) (a : Nat) (l : List Nat) (s : State), (AnvRuns s c x w 1 13 1) ∧ (x.br = none) ∧ (x.rets = a :: l)) ∧
    (∃ (c w : Nat) (x : AnvRun) (s : State), (AnvRuns s c x w 1 14 1)) ∧
    (∃ (c w : Nat) (x : AnvRun) (s : State), (AnvRuns s c x w 1 16 1)) ∧
    (∃ (c w : Nat) (x : AnvRun) (s : State), (AnvRuns s c x w 1 17 1)) := by
  refine ⟨⟨2, 0x82abcdef, anvRun [0x82abcdef], onAnvil (anvRun [0x82abcdef]), ?_⟩, ⟨2, 0x87000000, anvRun [0x87000000], onAnvil (anvRun [0x87000000]), ?_⟩, ⟨2, 0x88300005, anvRun [0x88300005], anvPlace [0x88300005], onAnvil (anvRun [0x88300005]), ?_⟩, ⟨2, 0x8cf00000, anvRun [0x8cf00000], onAnvil (anvRun [0x8cf00000]), ?_⟩, ⟨2, 0x8d040000, anvRun [0x8d040000], onAnvil (anvRun [0x8d040000]), ?_⟩, ⟨2, 0x91400000, anvRun [0x91400000], onAnvil (anvRun [0x91400000]), ?_⟩, ⟨2, 0x95400000, anvRun [0x95400000], onAnvil (anvRun [0x95400000]), ?_⟩, ⟨2, 0x9900007f, anvRun [0x9900007f], -3, onAnvil (anvRun [0x9900007f]), ?_⟩, ⟨2, 0x9d800000, anvRun [0x9d800000], -40, onAnvil (anvRun [0x9d800000]), ?_⟩, ⟨2, 0xa1800000, anvRun [0xa1800000], -5 * 2 ^ 44, onAnvil (anvRun [0xa1800000]), ?_⟩, ⟨2, 0xa5800000, anvRun [0xa5800000], onAnvil (anvRun [0xa5800000]), ?_⟩, ⟨2, 0xa8000005, anvRun [0xa8000005], onAnvil (anvRun [0xa8000005]), ?_⟩, ⟨2, 0xac800003, anvRun [0xac800003], onAnvil (anvRun [0xac800003]), ?_⟩, ⟨2, 0xac400003, anvRun [0xac400003], onAnvil (anvRun [0xac400003]), ?_⟩, ⟨2, 0xb0000007, anvRun [0xb0000007], onAnvil (anvRun [0xb0000007]), ?_⟩, ⟨2, 0xb4000000, anvRun [0xb4000000], 9, [], onAnvil (anvRun [0xb4000000]), ?_⟩, ⟨2, 0xb800c004, anvRun [0xb800c004], onAnvil (anvRun [0xb800c004]), ?_⟩, ⟨2, 0xc0000002, anvRun [0xc0000002], onAnvil (anvRun [0xc0000002]), ?_⟩, ⟨2, 0xc4000007, anvRun [0xc4000007], onAnvil (anvRun [0xc4000007]), ?_⟩⟩ <;> decide +kernel

/-- The hypotheses of AnvilRoutinesTakeEffect can be met, those of every clause. -/
theorem witness_AnvilRoutinesTakeEffect :
    (∃ (c ps t0 k n : Nat) (l : List (Nat × Nat × Nat)) (s : State), ((anvC s c).run = none) ∧ ((anvC s c).pend = (t0, k, n) :: l) ∧ ((anvC s c).retired = false) ∧ (tickLead ≤ ps) ∧ ((anvC s c).freePs ≤ t0 * 1000 + ps) ∧ ((loopOf s n).desc ≠ none)) ∧
    (∃ (c w : Nat) (x : AnvRun) (s : State), (canonical s) ∧ (AnvRuns s c x w 1 15 3)) ∧
    (∃ (c : Nat) (x : AnvRun) (y : LoopSample) (s : State), (canonical s) ∧ ((anvC s c).run = some x) ∧ (x.place = none) ∧ ((loopOf s x.loop).open'.find? (·.t0 == x.t0) = some y) ∧ ((loopOf s x.loop).preset = false)) ∧
    (∃ (c : Nat) (x : AnvRun) (s : State), ((anvC s c).run = some x) ∧ (x.place ≠ none) ∧ (x.budget < x.used + 1)) ∧
    (∃ (c addr t : Nat) (x : AnvRun) (s : State), (canonical s) ∧ ((anvC s c).run = some x) ∧ ((anvC s c).left.wf = true)) ∧
    (∃ (c t : Nat) (s : State), (canonical s) ∧ (c < 64) ∧ ((anvC s c).retired = false)) ∧
    (∃ (v : Word) (s : State), (windowOpen s 8 = true) ∧ ((anvC s (bits v.toNat 5 0)).retired = false) ∧ (bits v.toNat 7 6 = 0) ∧ (bits v.toNat 22 8 < 0x4000)) ∧
    (∃ (v : Word) (s : State), (windowOpen s 8 = true) ∧ ((anvC s (bits v.toNat 5 0)).retired = false) ∧ (bits v.toNat 7 6 = 3)) := by
  refine ⟨⟨2, 40833, 1000000, 0, 5, [], looping, ?_⟩, ⟨2, 0xBC000000, anvRun [0xBC000000], onAnvil (anvRun [0xBC000000]), ?_⟩, ⟨2, lawRun, sample0, sampling, ?_⟩, ⟨2, { anvRun [0] with budget := 0 }, onAnvil { anvRun [0] with budget := 0 }, ?_⟩, ⟨2, 7, 1000100, anvRun [0], onAnvil (anvRun [0]), ?_⟩, ⟨2, 1000100, looping, ?_⟩, ⟨0x003FFF02, looping, ?_⟩, ⟨0xC2, looping, ?_⟩⟩ <;> decide +kernel

set_option maxRecDepth 20000 in
/-- The hypotheses of LoopCommandsTakeEffect can be met, those of every clause. -/
theorem witness_LoopCommandsTakeEffect :
    (∃ (h core slot : Nat) (c : Cmd) (d : Bytes) (p : Option AnvPlace) (s : State), (canonical s) ∧ (CanStart s h 0x38 c) ∧ (tuneRuns (loopOf s c.unit) = false) ∧ (ldLaw d ≠ 0) ∧ ((loopOf s c.unit).desc = none) ∧ (loopAdmit s c.unit d).toOption = some (core, slot, p)) ∧
    (∃ (h core slot : Nat) (c : Cmd) (d : Bytes) (p : Option AnvPlace) (s : State), (canonical s) ∧ (CanStart s h 0x38 c) ∧ (tuneRuns (loopOf s c.unit) = false) ∧ (ldLaw d ≠ 0) ∧ ((loopOf s c.unit).desc ≠ none) ∧ (loopAdmit s c.unit d).toOption = some (core, slot, p)) ∧
    (∃ (h : Nat) (c : Cmd) (d : Bytes) (s : State), (canonical s) ∧ (CanStart s h 0x38 c) ∧ (tuneRuns (loopOf s c.unit) = false) ∧ (ldLaw d = 0) ∧ (unloadCheck d = none)) ∧
    (∃ (h : Nat) (c : Cmd) (s : State), (canonical s) ∧ (CanStart s h 0x39 c) ∧ ((loopOf s c.unit).desc ≠ none) ∧ (c.arg < 3) ∧ (c.arg ≠ 2 ∨ ldHasCas (ldesc (loopOf s c.unit)) = true)) ∧
    (∃ (h : Nat) (c : Cmd) (q : Bytes) (l : Loop) (s : State), (canonical s) ∧ (CanStart s h 0x3A c) ∧ (l = loopOf s c.unit) ∧ (tuneRuns l = false) ∧ (l.desc ≠ none) ∧ (l.hold = false) ∧ (if le q 1 1 = 0 then l.mode ≠ .man else l.mode ≠ .cas) ∧ (tuneField q (ldTs (ldesc l)) = none) ∧ (recorderFree s (le q 3 1) (le q 8 4 + signalLen q (ldTs (ldesc l)) + le q 12 4) = true) ∧ (admissible ((loopCost (ldesc l) (tuneCost q), ldPeriod (ldesc l), ldDelay (ldesc l)) :: (coreLoops s l.core c.unit).map (·.2)) = true)) ∧
    (∃ (h : Nat) (c : Cmd) (s : State), (CanStart s h 0x3B c) ∧ ((loopOf s c.unit).tune.state = .result)) ∧
    (∃ (h : Nat) (c : Cmd) (t : TuneResult) (s : State), (canonical s) ∧ (CanStart s h 0x3C c) ∧ ((loopOf s c.unit).tune.state = .result) ∧ ((loopOf s c.unit).tune.res = some t) ∧ (t.reason = 0)) ∧
    (∃ (n t bad k : Nat) (d : Bytes) (s : State), (canonical s) ∧ (autostarts s = true) ∧ ((loopOf s n).desc = none) ∧ (s.hdl.boot.loops.get n = some d) ∧ (ldLaw d ≠ 0x80) ∧ (ldOpt d 3 = false) ∧ (placeOn (advance s t) (ldHome d) n d 0 = some k)) := by
  refine ⟨⟨7, 2, 0, cmdIn (withCmd up 0x38 1023 0 0 0 (loopDesc 1)), loopDesc 1, none, withCmd up 0x38 1023 0 0 0 (loopDesc 1), ?_⟩, ⟨7, 2, 0, cmdIn (withCmd looping 0x38 5 0 0 0 (loopDesc 1)), loopDesc 1, none, withCmd looping 0x38 5 0 0 0 (loopDesc 1), ?_⟩, ⟨7, cmdIn (withCmd looping 0x38 5 0 0 0 (loopDesc 0)), loopDesc 0, withCmd looping 0x38 5 0 0 0 (loopDesc 0), ?_⟩, ⟨7, cmdIn (withCmd looping 0x39 5 1 0 0 []), withCmd looping 0x39 5 1 0 0 [], ?_⟩, ⟨7, cmdIn (withCmd looping 0x3A 5 0 0 0 tuneReq), tuneReq, loopOf looping 5, withCmd looping 0x3A 5 0 0 0 tuneReq, ?_⟩, ⟨7, cmdIn (withCmd (tuned .result) 0x3B 5 0 0 0 []), withCmd (tuned .result) 0x3B 5 0 0 0 [], ?_⟩, ⟨7, cmdIn (withCmd (tuned .result) 0x3C 5 0 0 0 []), { (default : TuneResult) with samples := 3 }, withCmd (tuned .result) 0x3C 5 0 0 0 [], ?_⟩, ⟨5, 1000100, 0, 0, loopDesc 1, { up with hdl := { up.hdl with boot := { up.hdl.boot with loops := up.hdl.boot.loops.set 5 (some (loopDesc 1)) } } }, ?_⟩⟩ <;> decide +kernel

/-- The hypotheses of LoopLaunchesTakeEffect can be met, those of every clause. -/
theorem witness_LoopLaunchesTakeEffect :
    (∃ (n : Nat) (s : State), (canonical s) ∧ ((loopOf s n).desc ≠ none) ∧ ((loopOf s n).unload = false) ∧ ((loopOf s n).next = none)) ∧
    (∃ (n : Nat) (s : State), (canonical s) ∧ ((loopOf s n).desc ≠ none) ∧ ((loopOf s n).unload = true)) ∧
    (∃ (n : Nat) (x : LoopSample) (l : List LoopSample) (s : State), (canonical s) ∧ ((loopOf s n).open' = x :: l)) ∧
    (∃ (t n : Nat) (s : State), (canonical s) ∧ ((loopOf s n).desc ≠ none) ∧ ((loopOf s n).coreLost = false)) ∧
    (∃ (t n : Nat) (s : State), (canonical s) ∧ ((loopOf s n).desc ≠ none) ∧ (ldOpt (ldesc (loopOf s n)) 3 = true)) ∧
    (∃ (n t : Nat) (s : State), (canonical s) ∧ ((loopOf s n).tune.state = .fitting)) := by
  refine ⟨⟨5, looping, ?_⟩, ⟨5, loopUpd looping 5 fun l => { l with unload := true }, ?_⟩, ⟨5, sample0, [], sampling, ?_⟩, ⟨2000000, 5, looping, ?_⟩, ⟨2000000, 5, loopUpd looping 5 fun l => { l with desc := some (bytesPut (loopDesc 1) 17 [8]) }, ?_⟩, ⟨5, 1000100, tuned .fitting, ?_⟩⟩ <;> decide +kernel

/-- The hypotheses of ConverterCommandsTakeEffect can be met, those of every clause. -/
theorem witness_ConverterCommandsTakeEffect :
    (∃ (h : Nat) (c : Cmd) (d : Bytes) (s : State), (canonical s) ∧ (CanStart s h 0x48 c) ∧ (c.unit ≠ 4) ∧ (cnvCheck s c.unit d = none)) ∧
    (∃ (g t h : Nat) (c : CnvCfg) (s : State), (canonical s) ∧ (cnvG s g).next = some (c, h, false) ∧ (atBoundary s g = true)) ∧
    (∃ (g q t : Nat) (cs : List Int) (ovr : Bool) (s : State), (canonical s) ∧ (cnvRuns s g = true) ∧ (isBurst (cnvG s g).cfg.mode = true) ∧ (cs.length = (cnvG s g).cfg.avg) ∧ ((cnvG s g).fill = none)) ∧
    (∃ (g q t : Nat) (cs : List Int) (ovr : Bool) (e : QEntry) (s : State), (canonical s) ∧ (cnvRuns s g = true) ∧ (isBurst (cnvG s g).cfg.mode = true) ∧ (cs.length = (cnvG s g).cfg.avg) ∧ ((cnvG s g).fill = some e) ∧ (e.results.length = 15)) ∧
    (∃ (g t n : Nat) (s : State), (canonical s) ∧ (cnvRuns s g = true) ∧ ((cnvG s g).cfg.mode = 3) ∧ ((cnvG s g).next = none) ∧ (n ∈ (cnvG s g).slices) ∧ ((cnvS s n).at' = none)) ∧
    (∃ (n q t i : Nat) (c : Int) (ovr : Bool) (e : SeqEntry) (l : List SeqEntry) (s : State), (canonical s) ∧ (cnvRuns s (n / 4) = true) ∧ ((cnvG s (n / 4)).cfg.mode = 3) ∧ ((cnvG s (n / 4)).slices.contains n = true) ∧ ((cnvS s n).at' = some i) ∧ (l = (cnvG s (n / 4)).cfg.seqs.getD (n % 4) []) ∧ (l[i]? = some e) ∧ (i + 1 < l.length)) ∧
    (∃ (n q t i : Nat) (c : Int) (ovr : Bool) (e : SeqEntry) (l : List SeqEntry) (s : State), (canonical s) ∧ (cnvRuns s (n / 4) = true) ∧ ((cnvG s (n / 4)).cfg.mode = 3) ∧ ((cnvG s (n / 4)).slices.contains n = true) ∧ ((cnvS s n).at' = some i) ∧ (l = (cnvG s (n / 4)).cfg.seqs.getD (n % 4) []) ∧ (l[i]? = some e) ∧ (l.length = i + 1)) ∧
    (∃ (n t : Nat) (s : State), (canonical s) ∧ (cnvRuns s (n / 4) = true) ∧ ((cnvG s (n / 4)).cfg.mode = 3) ∧ ((cnvG s (n / 4)).cfg.period = 0) ∧ ((cnvS s n).calDue = true) ∧ ((cnvS s n).at' = none)) ∧
    (∃ (idle t g : Nat) (s : State), (canonical s) ∧ (flag s fCnvCtrlBgEn = true) ∧ (s.cnv.clkOk = true) ∧ (s.cnv.fg = none) ∧ (flag s fCnvCtrlHoldOnArm = false) ∧ (g < 4) ∧ ((cnvG s g).cfg.mode ≠ 0) ∧ ((cnvG s g).slices ≠ []) ∧ (isBurst (cnvG s g).cfg.mode = false ∨ bit idle g = false)) ∧
    (∃ (g t : Nat) (s : State), (canonical s) ∧ ((cnvG s g).deferSince = some t)) ∧
    (∃ (t : Nat) (s : State), (s.cnv.stale = false) ∧ (5000 < (s.pwr.dieTemp - s.cnv.updTemp).natAbs)) ∧
    (∃ (n cause t : Nat) (s : State), (canonical s) ∧ (n < 16) ∧ (1 ≤ cause) ∧ (cause ≤ 3) ∧ ((cnvS s n).failed = 0)) ∧
    (∃ (g t : Nat) (s : State), (canonical s) ∧ ((cnvG s g).resumeAt = some t)) ∧
    (∃ (t g : Nat) (s : State), (canonical s) ∧ (s.cnv.clkOk = true) ∧ (g < 4)) ∧
    (∃ (t g : Nat) (s : State), (canonical s) ∧ (s.cnv.clkOk = false) ∧ (g < 4) ∧ ((cnvG s g).slices ≠ [])) := by
  refine ⟨⟨7, cmdIn (withCmd converting 0x48 3 0 0 0 burstCfg), burstCfg, withCmd converting 0x48 3 0 0 0 burstCfg, ?_⟩, ⟨3, 1000100, 9, cnvParse burstCfg, cnvUpd converting 3 fun k => { k with next := some (cnvParse burstCfg, 9, false) }, ?_⟩, ⟨0, 4000400, 1000150, [-7, 9], true, converting, ?_⟩, ⟨0, 4000400, 1000150, [-7, 9], false, { (default : QEntry) with kind := 1, results := List.replicate 15 (4000000, 5) }, cnvUpd converting 0 fun k => { k with fill := some { (default : QEntry) with kind := 1, results := List.replicate 15 (4000000, 5) } }, ?_⟩, ⟨1, 1000100, 4, converting, ?_⟩, ⟨4, 4000404, 1000150, 0, -77, false, seq0, [seq0, seq0], sliceUpd converting 4 fun x => { x with at' := some 0 }, ?_⟩, ⟨4, 4000404, 1000150, 1, -77, false, seq0, [seq0, seq0], sliceUpd converting 4 fun x => { x with at' := some 1 }, ?_⟩, ⟨5, 1000100, sliceUpd converting 5 fun x => { x with calDue := true, sinceCal := 1024 }, ?_⟩, ⟨1, 2000000, 1, withRegs converting [(fCnvCtrlBgEn.addr, 1)], ?_⟩, ⟨0, 900000, cnvUpd converting 0 fun k => { k with deferSince := some 900000 }, ?_⟩, ⟨1000100, { converting with cnv := { converting.cnv with updTemp := 90000 } }, ?_⟩, ⟨2, 3, 1000100, converting, ?_⟩, ⟨0, 1002000, cnvUpd (sliceUpd converting 2 fun x => { x with failed := 3 }) 0 fun k => { k with resumeAt := some 1002000 }, ?_⟩, ⟨1000100, 3, converting, ?_⟩, ⟨1000100, 1, { converting with cnv := { converting.cnv with clkOk := false } }, ?_⟩⟩ <;> decide +kernel

/-- The hypotheses of CaptureCommandsTakeEffect can be met, those of every clause. -/
theorem witness_CaptureCommandsTakeEffect :
    (∃ (h : Nat) (c : Cmd) (d : Bytes) (s : State), (canonical s) ∧ (CanStart s h 0x4A c) ∧ (capCheck s c.unit d = none) ∧ ((capParse d).source ≠ 0)) ∧
    (∃ (h : Nat) (c : Cmd) (d : Bytes) (s : State), (canonical s) ∧ (CanStart s h 0x4B c) ∧ (maskCheck s c.unit d = none) ∧ ((capCh s c.unit).maskNext = none) ∧ ((capCh s c.unit).state = .disarmed ∨ (capCh s c.unit).state = .full ∨ (capCh s c.unit).state = .stopped)) ∧
    (∃ (h : Nat) (c : Cmd) (d : Bytes) (s : State), (canonical s) ∧ (CanStart s h 0x4B c) ∧ (maskCheck s c.unit d = none) ∧ ((capCh s c.unit).maskNext = none) ∧ ((capCh s c.unit).state = .armed ∨ (capCh s c.unit).state = .post ∨ (capCh s c.unit).state = .rearm)) ∧
    (∃ (h : Nat) (c : Cmd) (s : State), (canonical s) ∧ (CanStart s h 0x4C c) ∧ (c.instant = 0) ∧ ((capCh s c.unit).desc.group = 0) ∧ (capArmable s c.unit = true)) ∧
    (∃ (n : Nat) (e : LqEntry) (l : List LqEntry) (s : State), (canonical s) ∧ ((capCh s n).lq = e :: l) ∧ (e.action = 1) ∧ (capArmable s n = true)) ∧
    (∃ (n : Nat) (e : LqEntry) (l : List LqEntry) (s : State), (canonical s) ∧ ((capCh s n).lq = e :: l) ∧ (e.action = 2) ∧ ((capCh s n).desc.group = 0)) ∧
    (∃ (n : Nat) (e : LqEntry) (l : List LqEntry) (s : State), (canonical s) ∧ ((capCh s n).lq = e :: l) ∧ (e.action = 3) ∧ ((capCh s n).state = .armed ∨ (capCh s n).state = .rearm)) ∧
    (∃ (n : Nat) (s : State), (canonical s) ∧ ((capCh s n).state = .rearm) ∧ ((capCh s n).stopAfter = false) ∧ ((capCh s n).desc.ring = true ∨ (capCh s n).next < (capCh s n).desc.count)) ∧
    (∃ (n : Nat) (s : State), (canonical s) ∧ ((capCh s n).state = .rearm) ∧ ((capCh s n).stopAfter = false) ∧ ((capCh s n).desc.ring = false) ∧ ((capCh s n).desc.count ≤ (capCh s n).next)) ∧
    (∃ (n : Nat) (g : CapSeg) (s : State), (canonical s) ∧ ((capCh s n).state = .post) ∧ ((capCh s n).cur = some g)) ∧
    (∃ (n : Nat) (members : List Nat) (a : GroupArm) (s : State), (s.cap.arms.find? (·.channel == n) = some a)) ∧
    (∃ (p t k i : Nat) (b m : Bytes) (s : State), (canonical s) ∧ (Receives s p clsTRIG 1 b t) ∧ (m = (wParse b).payload) ∧ (s.tmb.joined = true) ∧ (le m 0 1 ≠ 0) ∧ (k ∈ groupMembers s (le m 0 1)) ∧ (i = (les m 1 8 - s.tmb.domOff).toNat) ∧ (max s.tmb.now t + 200 ≤ i) ∧ ((capCh s k).lq.length < 16)) ∧
    (∃ (t : Nat) (f : CapFire) (l : List CapFire) (s : State), (s.cap.fires = f :: l)) ∧
    (∃ (p t k q : Nat) (b m : Bytes) (s : State), (canonical s) ∧ (Receives s p clsTRIG 2 b t) ∧ (m = (wParse b).payload) ∧ (s.tmb.joined = true) ∧ (le m 0 1 ≠ 0) ∧ (k < 16) ∧ ((capCh s k).desc.source = 1) ∧ ((capCh s k).desc.group = le m 0 1) ∧ (q = localQ s (les m 1 8)) ∧ (4 * max s.tmb.now t ≤ q + 4800)) ∧
    (∃ (p t : Nat) (b m : Bytes) (a : GroupArm) (s : State), (canonical s) ∧ (Receives s p clsTRIG 3 b t) ∧ (m = (wParse b).payload) ∧ (s.cap.arms = [a]) ∧ ((capCh s a.channel).desc.group = le m 0 1) ∧ (max s.tmb.now t < a.instant)) ∧
    (∃ (v : Word) (x : CapMiss) (s : State), (windowOpen s 0x0C = true) ∧ ((capCh s (bits v.toNat 3 0)).miss[bits v.toNat 25 16]? = some x)) := by
  refine ⟨⟨7, cmdIn (withCmd up 0x4A 15 0 0 0 capDesc), capDesc, withCmd up 0x4A 15 0 0 0 capDesc, ?_⟩, ⟨7, cmdIn (withCmd (channel .full) 0x4B 3 0 0 0 maskData), maskData, withCmd (channel .full) 0x4B 3 0 0 0 maskData, ?_⟩, ⟨7, cmdIn (withCmd (channel .armed) 0x4B 3 0 0 0 maskData), maskData, withCmd (channel .armed) 0x4B 3 0 0 0 maskData, ?_⟩, ⟨7, cmdIn (withCmd (channel .full) 0x4C 3 0 0 0 []), withCmd (channel .full) 0x4C 3 0 0 0 [], ?_⟩, ⟨3, ⟨2000000, 0, false, 1, 0, none⟩, [], capUpd (channel .stopped) 3 fun c => { c with lq := [⟨2000000, 0, false, 1, 0, none⟩] }, ?_⟩, ⟨3, ⟨2000000, 0, false, 2, 0, none⟩, [], capUpd (channel .armed) 3 fun c => { c with lq := [⟨2000000, 0, false, 2, 0, none⟩] }, ?_⟩, ⟨3, ⟨2000000, 0, false, 3, 0, none⟩, [], capUpd (channel .armed) 3 fun c => { c with lq := [⟨2000000, 0, false, 3, 0, none⟩] }, ?_⟩, ⟨3, capUpd (channel .rearm) 3 fun c => { c with rearmAt := 4000401 }, ?_⟩, ⟨3, capUpd (channel .rearm) 3 fun c => { c with rearmAt := 4000401, next := 2 }, ?_⟩, ⟨3, { (default : CapSeg) with trig := 4000000, spacing := 2000 }, capUpd (channel .post) 3 fun c => { c with cur := some { (default : CapSeg) with trig := 4000000, spacing := 2000 } }, ?_⟩, ⟨3, [4, 5], ⟨3, 1010000, none, [4]⟩, { channel .armed with cap := { (channel .armed).cap with arms := [⟨3, 1010000, none, [4]⟩] } }, ?_⟩, ⟨1, 1200000, 3, 2000000, waligMsg clsTRIG 1 4 1 63 1 9 (leBytes 1 2 ++ leBytes 8 2000000), leBytes 1 2 ++ leBytes 8 2000000, grouped .stopped, ?_⟩, ⟨0, ⟨4000001, 2, 1, none⟩, [], (let s := grouped .armed; { s with cap := { s.cap with fires := [⟨4000001, 2, 1, none⟩] } }), ?_⟩, ⟨1, 1001200, 3, 4000001, waligMsg clsTRIG 2 4 1 63 0 9 (leBytes 1 2 ++ leBytes 8 4000001 ++ [1]), leBytes 1 2 ++ leBytes 8 4000001 ++ [1], grouped .armed, ?_⟩, ⟨1, 1001200, waligMsg clsTRIG 3 4 1 63 0 9 [2], [2], ⟨3, 1010000, none, []⟩, (let s := grouped .armed; { s with cap := { s.cap with arms := [⟨3, 1010000, none, []⟩] } }), ?_⟩, ⟨3, ⟨4000001, 2, 0xFF, 1, 0⟩, capUpd (channel .armed) 3 fun c => { c with miss := [⟨4000001, 2, 0xFF, 1, 0⟩] }, ?_⟩⟩ <;> decide +kernel

/-- The hypotheses of QuenchCommandsTakeEffect can be met, those of every clause. -/
theorem witness_QuenchCommandsTakeEffect :
    (∃ (v : Word) (s : State), (canonical s) ∧ (windowOpen s 0x13 = true)) ∧
    (∃ (n : Nat) (s : State), (canonical s) ∧ (n < 16) ∧ (windowOpen s 0x13 = true) ∧ (qchAnv s n = false) ∧ (qchHost s n = false) ∧ ((s.qch.pin.get n).fatal = false) ∧ (qchMinAt s n ≤ s.tmb.now)) ∧
    (∃ (n : Nat) (s : State), (canonical s) ∧ (n < 16) ∧ (windowOpen s 0x13 = true) ∧ (qchAnv s n = false) ∧ (qchHost s n = false) ∧ ((s.qch.pin.get n).fatal = false) ∧ (s.tmb.now < qchMinAt s n)) ∧
    (∃ (n : Nat) (s : State), (canonical s) ∧ (n < 16) ∧ (windowOpen s 0x13 = true) ∧ ((qchAnv s n || qchHost s n || (s.qch.pin.get n).fatal) = true)) ∧
    (∃ (n : Nat) (s : State), (canonical s) ∧ ((s.qch.pin.get n).relWait = true) ∧ (qchAnv s n = false) ∧ (qchHost s n = false) ∧ ((s.qch.pin.get n).fatal = false)) ∧
    (∃ (n t : Nat) (s : State), (canonical s) ∧ (n < 16) ∧ (flag s (fQchPinEn n) = true)) := by
  refine ⟨⟨0xFFFF8001, quenched, ?_⟩, ⟨15, quenched, ?_⟩, ⟨15, withRegs quenched [((fQchPinMinActiveUs 15).addr, BitVec.ofNat 32 (500 * 2 ^ (fQchPinMinActiveUs 15).lo))], ?_⟩, ⟨15, { quenched with qch := { quenched.qch with pin := quenched.qch.pin.upd 15 fun p => { p with fatal := true } } }, ?_⟩, ⟨15, { quenched with qch := { quenched.qch with pin := quenched.qch.pin.upd 15 fun p => { p with relWait := true } } }, ?_⟩, ⟨15, 1001000, withRegs quenched [((fQchPinEn 15).addr, BitVec.ofNat 32 (2 ^ (fQchPinEn 15).lo))], ?_⟩⟩ <;> decide +kernel

set_option maxRecDepth 20000 in
/-- The hypotheses of MotionCommandsTakeEffect can be met, those of every clause. -/
theorem witness_MotionCommandsTakeEffect :
    (∃ (h : Nat) (c : Cmd) (d : Bytes) (s : State), (canonical s) ∧ (CanStart s h 0x40 c) ∧ (axCheck s c.unit d = none) ∧ (adKind d ≠ 0) ∧ (s.mram.axes.get c.unit = none)) ∧
    (∃ (h : Nat) (c : Cmd) (d : Bytes) (j : AxisJournal) (s : State), (canonical s) ∧ (CanStart s h 0x40 c) ∧ (axCheck s c.unit d = none) ∧ (adKind d = 1) ∧ (s.mram.axes.get c.unit = some j) ∧ (j.crc = (crc32c d).toNat) ∧ (j.off = true) ∧ (j.phaseLost = false)) ∧
    (∃ (h : Nat) (c : Cmd) (d : Bytes) (s : State), (canonical s) ∧ (CanStart s h 0x40 c) ∧ ((axOf s c.unit).state = .disabled) ∧ (adKind d = 0)) ∧
    (∃ (h lv : Nat) (c : Cmd) (ks : List Knot) (s : State), (canonical s) ∧ (CanStart s h 0x42 c) ∧ (c.instant = 0) ∧ ((startCheck (axLevels s c.unit lv) c.unit).toOption = some ks)) ∧
    (∃ (h lv : Nat) (c : Cmd) (s : State), (canonical s) ∧ (CanStart s h 0x42 c) ∧ (c.instant ≠ 0) ∧ (c.unit < 64) ∧ (s.tmb.now + 200 ≤ c.instant) ∧ ((axOf s c.unit).lq.length < 16)) ∧
    (∃ (h lv i : Nat) (c : Cmd) (s : State), (canonical s) ∧ (CanStart s h 0x43 c) ∧ ((axOf s c.unit).state = .standstill) ∧ (homeInput c.arg = some i) ∧ (bit lv i = false) ∧ (i < 3) ∧ (adPin (axOf s c.unit).desc 5 ≠ 0xFF) ∧ (adPin (axOf s c.unit).desc 6 ≠ 0xFF) ∧ (adPin (axOf s c.unit).desc 7 ≠ 0xFF) ∧ (c.arg ≤ 4 ∨ adFbk (axOf s c.unit).desc ≠ 0xFF)) ∧
    (∃ (h lv : Nat) (c : Cmd) (s : State), (canonical s) ∧ (CanStart s h 0x43 c) ∧ ((axOf s c.unit).state = .standstill) ∧ (c.arg = 8) ∧ (adKind (axOf s c.unit).desc ≠ 2) ∧ ((axOf s c.unit).traj = .rest)) ∧
    (∃ (h : Nat) (c : Cmd) (s : State), (canonical s) ∧ (CanStart s h 0x44 c) ∧ (c.arg = 0) ∧ ((axOf s c.unit).state = .moving) ∧ ((axOf s c.unit).homing = none)) ∧
    (∃ (h : Nat) (c : Cmd) (s : State), (canonical s) ∧ (CanStart s h 0x44 c) ∧ (c.arg = 1) ∧ ((axOf s c.unit).state = .moving) ∧ ((axOf s c.unit).homing = none) ∧ ((axOf s c.unit).stopCmds = [])) ∧
    (∃ (h : Nat) (c : Cmd) (s : State), (canonical s) ∧ (CanStart s h 0x45 c) ∧ (c.arg = 0) ∧ ((axOf s c.unit).state = .standstill ∨ (axOf s c.unit).state = .fault)) ∧
    (∃ (h : Nat) (c : Cmd) (s : State), (canonical s) ∧ (CanStart s h 0x45 c) ∧ (c.arg = 1) ∧ ((axOf s c.unit).state = .disabled) ∧ (adPin (axOf s c.unit).desc 4 ≠ 0xFF)) ∧
    (∃ (h : Nat) (c : Cmd) (s : State), (canonical s) ∧ (CanStart s h 0x45 c) ∧ (c.arg = 1) ∧ ((axOf s c.unit).state = .disabled) ∧ (adPin (axOf s c.unit).desc 4 = 0xFF)) := by
  refine ⟨⟨7, cmdIn (withCmd up 0x40 4 0 0 0 (axDesc 1)), axDesc 1, withCmd up 0x40 4 0 0 0 (axDesc 1), ?_⟩, ⟨7, cmdIn (withCmd up 0x40 4 0 0 0 (axDesc 1)), axDesc 1, ⟨true, true, false, 131072, 3, (crc32c (axDesc 1)).toNat, 5, 0⟩, withCmd { up with mram := { up.mram with axes := up.mram.axes.set 4 (some ⟨true, true, false, 131072, 3, (crc32c (axDesc 1)).toNat, 5, 0⟩) } } 0x40 4 0 0 0 (axDesc 1), ?_⟩, ⟨7, cmdIn (withCmd (axis (ax0 .disabled)) 0x40 4 0 0 0 (zeros 128)), zeros 128, withCmd (axis (ax0 .disabled)) 0x40 4 0 0 0 (zeros 128), ?_⟩, ⟨7, 0, cmdIn (withCmd (axis (ax0 .standstill)) 0x42 4 0 0 0 []), knots0, withCmd (axis (ax0 .standstill)) 0x42 4 0 0 0 [], ?_⟩, ⟨7, 0, cmdIn (withCmd (axis (ax0 .standstill)) 0x42 4 0 0 2000000 []), withCmd (axis (ax0 .standstill)) 0x42 4 0 0 2000000 [], ?_⟩, ⟨7, 0, 1, cmdIn (withCmd (axis (ax0 .standstill)) 0x43 4 4 0 0 []), withCmd (axis (ax0 .standstill)) 0x43 4 4 0 0 [], ?_⟩, ⟨7, 0, cmdIn (withCmd (axis (ax0 .standstill)) 0x43 4 8 0 0 []), withCmd (axis (ax0 .standstill)) 0x43 4 8 0 0 [], ?_⟩, ⟨7, cmdIn (withCmd (axis axMove) 0x44 4 0 0 0 []), withCmd (axis axMove) 0x44 4 0 0 0 [], ?_⟩, ⟨7, cmdIn (withCmd (axis axMove) 0x44 4 1 0 0 []), withCmd (axis axMove) 0x44 4 1 0 0 [], ?_⟩, ⟨7, cmdIn (withCmd (axis (ax0 .standstill)) 0x45 4 0 0 0 []), withCmd (axis (ax0 .standstill)) 0x45 4 0 0 0 [], ?_⟩, ⟨7, cmdIn (withCmd (axis (ax0 .disabled)) 0x45 4 1 0 0 []), withCmd (axis (ax0 .disabled)) 0x45 4 1 0 0 [], ?_⟩, ⟨7, cmdIn (withCmd (axis { ax0 .disabled with desc := axDescNoPgood }) 0x45 4 1 0 0 []), withCmd (axis { ax0 .disabled with desc := axDescNoPgood }) 0x45 4 1 0 0 [], ?_⟩⟩ <;> decide +kernel

set_option maxRecDepth 20000 in
/-- The hypotheses of AxesMoveAsTheirRulesSay can be met, those of every clause. -/
theorem witness_AxesMoveAsTheirRulesSay :
    (∃ (n lv : Nat) (e : LqEntry) (l : List LqEntry) (ks : List Knot) (s : State), (canonical s) ∧ ((axOf s n).lq = e :: l) ∧ (e.action = 1) ∧ ((startCheck (axLevels (advance s e.instant) n lv) n).toOption = some ks)) ∧
    (∃ (n lv : Nat) (e : LqEntry) (l : List LqEntry) (s : State), (canonical s) ∧ ((axOf s n).lq = e :: l) ∧ (e.action = 2) ∧ ((axOf s n).state = .moving) ∧ ((axOf s n).homing = none)) ∧
    (∃ (n lv : Nat) (e : LqEntry) (l : List LqEntry) (s : State), (canonical s) ∧ ((axOf s n).lq = e :: l) ∧ (e.action = 3) ∧ (e.tag = 1 ∨ e.tag = 2) ∧ ((axOf s n).state = .standstill) ∧ (adPin (axOf s n).desc 7 ≠ 0xFF) ∧ (bit lv 2 = false)) ∧
    (∃ (n lv t : Nat) (s : State), (canonical s) ∧ ((axOf s n).tickAt = some t) ∧ (adKind (axOf s n).desc = 1) ∧ (adUsesFbk (axOf s n).desc = false) ∧ ((axOf s n).state = .moving) ∧ ((axOf s n).homed = false) ∧ (axDone (axOf s n) t = false) ∧ (lv % 4 = 0)) ∧
    (∃ (n t : Nat) (neg late : Bool) (l : List (Nat × Bool × Bool)) (s : State), (canonical s) ∧ ((axOf s n).sched = (t, neg, late) :: l) ∧ ((axOf s n).pulseEnd = none)) ∧
    (∃ (n t : Nat) (s : State), (canonical s) ∧ ((axOf s n).pulseEnd = some t)) ∧
    (∃ (n lv t u : Nat) (d : Bytes) (s : State), (canonical s) ∧ (adKind (axOf s n).desc = 2) ∧ ((loopOf s (adLoop (axOf s n).desc)).desc = some d) ∧ ((loopOf s (adLoop (axOf s n).desc)).hold = false) ∧ ((loopOf s (adLoop (axOf s n).desc)).mode = .auto) ∧ ((fbkCh s (adFbk (axOf s n).desc)).bad = false) ∧ ((fbkCh s (adFbk (axOf s n).desc)).implaus = false) ∧ ((axOf s n).state = .moving) ∧ ((axOf s n).homed = false) ∧ ((axOf s n).homing = none) ∧ (axDone (axOf s n) (max s.tmb.now t) = false) ∧ (u = (if max s.tmb.now t + 1000 ≤ (loopOf s (adLoop (axOf s n).desc)).due then (loopOf s (adLoop (axOf s n).desc)).due else loopInstant d (loopOf s (adLoop (axOf s n).desc)).domOff (max s.tmb.now t + 1000)))) ∧
    (∃ (n t : Nat) (positive : Bool) (s : State), (canonical s) ∧ ((axOf s n).state = .moving) ∧ ((axOf s n).homing = none) ∧ ((axOf s n).desc ≠ []) ∧ (adPin (axOf s n).desc (if positive then 5 else 6) ≠ 0xFF) ∧ (if positive then 0 < (axAt (axOf s n) (max s.tmb.now t)).2.1 else (axAt (axOf s n) (max s.tmb.now t)).2.1 < 0)) ∧
    (∃ (n which t : Nat) (h : Homing) (s : State), (canonical s) ∧ ((axOf s n).homing = some h) ∧ (h.phase = 1) ∧ (homeInput h.method = some which) ∧ (which < 3) ∧ ((axOf s n).desc ≠ []) ∧ (adPin (axOf s n).desc (5 + which) ≠ 0xFF)) ∧
    (∃ (n which t : Nat) (h : Homing) (s : State), (canonical s) ∧ ((axOf s n).homing = some h) ∧ (h.phase = 2) ∧ (h.method ≤ 4) ∧ (homeInput h.method = some which) ∧ (which < 3) ∧ ((axOf s n).desc ≠ []) ∧ (adPin (axOf s n).desc (5 + which) ≠ 0xFF)) ∧
    (∃ (n c : Nat) (h : Homing) (s : State), (canonical s) ∧ ((axOf s n).homing = some h) ∧ (h.cmd = some c) ∧ (running s c = true)) ∧
    (∃ (n t : Nat) (s : State), (canonical s) ∧ ((axOf s n).state = .standstill) ∧ ((axOf s n).desc ≠ []) ∧ (adPin (axOf s n).desc 4 ≠ 0xFF)) ∧
    (∃ (n t u : Nat) (s : State), (canonical s) ∧ ((axOf s n).drive = .pgood u)) ∧
    (∃ (n t : Nat) (s : State), (canonical s) ∧ ((axOf s n).drive = .settle t) ∧ ((axOf s n).phase = 0 ∨ (axOf s n).phaseLost = true ∨ adKind (axOf s n).desc ≠ 1)) ∧
    (∃ (n t : Nat) (s : State), (canonical s) ∧ ((axOf s n).drive = .settle t) ∧ ((axOf s n).phase ≠ 0) ∧ ((axOf s n).phaseLost = false) ∧ (adKind (axOf s n).desc = 1) ∧ (adFlag (axOf s n).desc 2 = true) ∧ (adPin (axOf s n).desc 3 ≠ 0xFF)) ∧
    (∃ (n k t : Nat) (s : State), (canonical s) ∧ ((axOf s n).drive = .restore (k + 1) t) ∧ (k ≠ 0)) ∧
    (∃ (n t : Nat) (s : State), (canonical s) ∧ ((axOf s n).drive = .restore 1 t)) ∧
    (∃ (n t c : Nat) (s : State), (canonical s) ∧ ((axOf s n).drive = .enable t) ∧ ((axOf s n).driveCmd = some c) ∧ (running s c = true)) ∧
    (∃ (n t c : Nat) (s : State), (canonical s) ∧ ((axOf s n).drive = .pgood t) ∧ ((axOf s n).driveCmd = some c) ∧ (running s c = true)) := by
  refine ⟨⟨4, 0, ⟨1000500, 0, false, 1, 0, none⟩, [], knots0, axis { ax0 .standstill with lq := [⟨1000500, 0, false, 1, 0, none⟩] }, ?_⟩, ⟨4, 0, ⟨1000500, 0, false, 2, 0, none⟩, [], axis { axMove with lq := [⟨1000500, 0, false, 2, 0, none⟩] }, ?_⟩, ⟨4, 1, ⟨1000500, 0, false, 3, 2, none⟩, [], axis { ax0 .standstill with lq := [⟨1000500, 0, false, 3, 2, none⟩] }, ?_⟩, ⟨4, 4, 1000900, axis { axMove with homed := false }, ?_⟩, ⟨4, 1001000, true, true, [(1002000, true, false)], axis { axMove with sched := [(1001000, true, true), (1002000, true, false)] }, ?_⟩, ⟨4, 1001000, axis { axMove with pulseEnd := some 1001000 }, ?_⟩, ⟨4, 0, 1100000, 1500000, loopDesc 1, { looping with mot := (axis { axMove with desc := axDesc 2, homed := false }).mot }, ?_⟩, ⟨4, 100000000, true, axis axMove, ?_⟩, ⟨4, 2, 1001000, ⟨1, 1, 0, 0, 5000000000, some 7⟩, axHoming 1 1, ?_⟩, ⟨4, 1, 1001000, ⟨4, 2, 0, 0, 5000000000, some 7⟩, axHoming 4 2, ?_⟩, ⟨4, 7, ⟨1, 1, 0, 0, 5000000000, some 7⟩, axHoming 1 1, ?_⟩, ⟨4, 1000100, axis (ax0 .standstill), ?_⟩, ⟨4, 1000100, 2000000000, axDriving (.pgood 2000000000) 0, ?_⟩, ⟨4, 2000000, axDriving (.settle 2000000) 0, ?_⟩, ⟨4, 2000000, axDriving (.settle 2000000) 3, ?_⟩, ⟨4, 2, 2000000, axDriving (.restore 3 2000000) 3, ?_⟩, ⟨4, 2000000, axDriving (.restore 1 2000000) 3, ?_⟩, ⟨4, 2000000, 7, axDriving (.enable 2000000) 3, ?_⟩, ⟨4, 2000000, 7, axDriving (.pgood 2000000) 3, ?_⟩⟩ <;> decide +kernel

set_option maxRecDepth 20000 in
/-- The hypotheses of FeedbackCommandsTakeEffect can be met, those of every clause. -/
theorem witness_FeedbackCommandsTakeEffect :
    (∃ (h lv : Nat) (c : Cmd) (d : Bytes) (s : State), (canonical s) ∧ (CanStart s h 0x46 c) ∧ (fbkCheck s c.unit d = none) ∧ (fbMode d ≠ 0)) ∧
    (∃ (h lv : Nat) (c : Cmd) (d : Bytes) (s : State), (canonical s) ∧ (CanStart s h 0x46 c) ∧ (fbkBusy s c.unit = false) ∧ (fbMode d = 0)) ∧
    (∃ (h : Nat) (c : Cmd) (b : Bytes) (e : CmpEntry) (l : List CmpEntry) (s : State), (canonical s) ∧ (CanStart s h 0x47 c) ∧ (compareCheck s c.unit b = none) ∧ (bit (le b 8 1) 0 = false) ∧ ((fbkCh s c.unit).bad = false) ∧ ((chunks 16 (le b 4 4) (b.drop 16)).map (fun x => (⟨les x 0 8, le x 8 1⟩ : CmpEntry)) = e :: l) ∧ (cmpPassed (cmpNeg (fbkCh s c.unit) s.tmb.now e) (fbkCh s c.unit).p e.pos = false)) ∧
    (∃ (h : Nat) (c : Cmd) (b : Bytes) (s : State), (canonical s) ∧ (CanStart s h 0x47 c) ∧ (compareCheck s c.unit b = none) ∧ (bit (le b 8 1) 0 = true) ∧ ((fbkCh s c.unit).list ≠ [])) ∧
    (∃ (v : Word) (n : Nat) (s : State), (canonical s) ∧ (windowOpen s 0x0A = true) ∧ (v.getLsbD 0 = true) ∧ (n < 32) ∧ (fbkOn s n = true) ∧ ((fbkCh s n).chg = [])) ∧
    (∃ (n t : Nat) (a b : Bool) (s : State), (canonical s) ∧ (fbMode (fbkCh s n).desc = 1) ∧ (fbFlag (fbkCh s n).desc 1 = false) ∧ (a = bit (fbkCh s n).lv 0 ∧ b ≠ bit (fbkCh s n).lv 1) ∨ (a ≠ bit (fbkCh s n).lv 0 ∧ b = bit (fbkCh s n).lv 1)) ∧
    (∃ (n code t k : Nat) (s : State), (canonical s) ∧ (fbMode (fbkCh s n).desc = 3) ∧ (code % 8 ≠ (fbkCh s n).lv) ∧ (hallSector (code % 8) = some k) ∧ (k = ((fbkCh s n).sector + 1) % 6 ∨ (fbkCh s n).sector = (k + 1) % 6) ∧ ((fbkCh s n).sector < 6)) ∧
    (∃ (n : Nat) (s : State), (canonical s) ∧ (fbMode (fbkCh s n).desc = 2) ∧ ((fbkCh s n).frame = none) ∧ (s.tmb.now ≤ 1000 * le (fbkCh s n).desc 40 4)) ∧
    (∃ (n : Nat) (s : State), (canonical s) ∧ (fbMode (fbkCh s n).desc = 2) ∧ ((fbkCh s n).frame = none) ∧ (1000 * le (fbkCh s n).desc 40 4 < s.tmb.now) ∧ (0 < le (fbkCh s n).desc 36 4)) ∧
    (∃ (n t data : Nat) (s : State), (canonical s) ∧ ((fbkCh s n).frame = some t) ∧ (data % 2 ^ (le (fbkCh s n).desc 28 1 - fbPosBits (fbkCh s n).desc) &&& le (fbkCh s n).desc 30 1 = 0) ∧ ((fbkCh s n).ssiPrev = none) ∧ ((fbkCh s n).bad = false)) ∧
    (∃ (n t data : Nat) (high low : Bool) (s : State), (canonical s) ∧ ((fbkCh s n).frame = some t) ∧ ((high && low) = false) ∧ ((fbkCh s n).badRun < 2)) ∧
    (∃ (n t : Nat) (s : State), (canonical s) ∧ (fbMode (fbkCh s n).desc = 1) ∧ (fbFlag (fbkCh s n).desc 1 = true) ∧ ((fbkCh s n).i0 = none)) ∧
    (∃ (n t : Nat) (s : State), (canonical s) ∧ (fbkOn s n = true) ∧ (le (fbkCh s n).desc 60 4 ≠ 0)) ∧
    (∃ (n t : Nat) (s : State), (canonical s) ∧ ((fbkCh s n).pulseEnd = some t) ∧ ((fbkCh s n).fireWait = 0)) ∧
    (∃ (n t : Nat) (s : State), (canonical s) ∧ ((fbkCh s n).pulseEnd = some t) ∧ ((fbkCh s n).fireWait ≠ 0)) := by
  refine ⟨⟨7, 5, cmdIn (withCmd up 0x46 6 0 0 0 (fbDesc 1)), fbDesc 1, withCmd up 0x46 6 0 0 0 (fbDesc 1), ?_⟩, ⟨7, 5, cmdIn (withCmd (fbkAt (fb0 fbQuad)) 0x46 6 0 0 0 (zeros 64)), zeros 64, withCmd (fbkAt (fb0 fbQuad)) 0x46 6 0 0 0 (zeros 64), ?_⟩, ⟨7, cmdIn (withCmd (fbkAt (fb0 (fbDesc 1))) 0x47 6 0 0 0 cmpList), cmpList, ⟨50, 1⟩, [], withCmd (fbkAt (fb0 (fbDesc 1))) 0x47 6 0 0 0 cmpList, ?_⟩, ⟨7, cmdIn (withCmd (fbkAt { fb0 (fbDesc 1) with list := [⟨45, 1⟩] }) 0x47 6 0 0 0 (bytesPut cmpList 8 [1])), bytesPut cmpList 8 [1], withCmd (fbkAt { fb0 (fbDesc 1) with list := [⟨45, 1⟩] }) 0x47 6 0 0 0 (bytesPut cmpList 8 [1]), ?_⟩, ⟨1, 6, fbkAt (fb0 (fbDesc 1)), ?_⟩, ⟨6, 1001000, false, true, fbkAt (fb0 fbQuad), ?_⟩, ⟨6, 13, 1001000, 5, fbkAt { fb0 (fbDesc 3) with lv := 1, sector := 0 }, ?_⟩, ⟨6, fbkAt (fb0 (bytesPut (fbDesc 2) 36 (leBytes 4 10000 ++ leBytes 4 2000))), ?_⟩, ⟨6, fbkAt (fb0 (fbDesc 2)), ?_⟩, ⟨6, 1000000, 0x1F2E, fbkAt { fb0 (fbDesc 2) with frame := some 1000000 }, ?_⟩, ⟨6, 1000000, 0x1F2E, true, false, fbkAt { fb0 (fbDesc 2) with frame := some 1000000, badRun := 1 }, ?_⟩, ⟨6, 1001000, fbkAt (fb0 (fbDesc 1)), ?_⟩, ⟨6, 1001000, fbkAt (fb0 (fbDesc 1)), ?_⟩, ⟨6, 1001000, fbkAt { fb0 (fbDesc 1) with pulseEnd := some 1001000 }, ?_⟩, ⟨6, 1001000, fbkAt { fb0 (fbDesc 1) with pulseEnd := some 1001000, fireWait := 2 }, ?_⟩⟩ <;> decide +kernel

set_option maxRecDepth 20000 in
/-- The hypotheses of StationNetworkRuns can be met, those of every clause. -/
theorem witness_StationNetworkRuns :
    (∃ (h : Nat) (c : Cmd) (d : Bytes) (s : State), (canonical s) ∧ (CanStart s h 0x54 c) ∧ (portCheck d = none)) ∧
    (∃ (p t : Nat) (up : Bool) (s : State), (canonical s) ∧ (p < 4) ∧ (up = false ∨ portMode (stnPort s p).desc ≠ 0)) ∧
    (∃ (p t : Nat) (s : State), (canonical s) ∧ (p < 4) ∧ ((stnPort s p).link = true)) ∧
    (∃ (p t k : Nat) (f : TxFrame) (s : State), (canonical s) ∧ (portUp s p = true) ∧ (topQueue (stnPort s p).q = some k) ∧ ((stnPort s p).q.find? (·.queue == k) = some f) ∧ (f.kind = .plain) ∧ ((stnPort s p).busy = 0) ∧ ((stnPort s p).lq = [] ∨ max s.tmb.now t + frameNs (portMode (stnPort s p).desc) f.bytes.length + 100 ≤ ((stnPort s p).lq.headD default).e.instant)) ∧
    (∃ (p : Nat) (o : StnOut) (l : List StnOut) (s : State), (canonical s) ∧ ((stnPort s p).lq = o :: l) ∧ (Acts s) ∧ (stnHolder s = true) ∧ (portUp s p = true) ∧ ((stOf s o.station).state ≠ .unused)) ∧
    (∃ (t p : Nat) (s : State), (canonical s) ∧ (flag s fStnCtrlDiscoverEn = true) ∧ (p < 4) ∧ (portUp s p = true)) ∧
    (∃ (p t : Nat) (mac f : Bytes) (s : State), (portUp s p = true) ∧ (stationByMac s mac = none) ∧ (wspMalformed f = false) ∧ (40 ≤ le f 4 2) ∧ (le f 0 1 = 1) ∧ (le f 18 2 = 0) ∧ (allZero (slice f 29 3) = true) ∧ (le f 11 1 ≤ 7) ∧ (le f 10 1 ≤ 3)) ∧
    (∃ (p t n v : Nat) (mac f : Bytes) (l : List Nat) (s : State), (canonical s) ∧ (portUp s p = true) ∧ (stationByMac s mac = some n) ∧ (wspMalformed f = false) ∧ (40 ≤ le f 4 2) ∧ (le f 0 1 = 1) ∧ (le f 1 1 = 2) ∧ (le f 2 2 = n ∨ le f 2 2 = 0xFFFF) ∧ (le f 18 2 = 0) ∧ (allZero (slice f 29 3) = true) ∧ (le f 11 1 ≤ 7) ∧ (le f 10 1 ≤ 3) ∧ ((stOf s n).state = .waitHello) ∧ (versionsFor (stOf s n) (le f 8 1) (le f 9 1) = v :: l)) ∧
    (∃ (p t n : Nat) (mac f : Bytes) (s : State), (canonical s) ∧ (portUp s p = true) ∧ (stationByMac s mac = some n) ∧ (wspMalformed f = false) ∧ (4 ≤ le f 4 2) ∧ (le f 2 2 = n) ∧ ((stOf s n).state = .configuring) ∧ (le f 0 1 = (stOf s n).ver) ∧ (le f 10 1 = 0) ∧ (le f 8 2 = layoutId (stOf s n))) ∧
    (∃ (p t n : Nat) (raw : Int) (mac f : Bytes) (s : State), (canonical s) ∧ (portUp s p = true) ∧ (stationByMac s mac = some n) ∧ (wspMalformed f = false) ∧ (le f 2 2 = n) ∧ ((stOf s n).state = .run) ∧ (le f 0 1 = (stOf s n).ver) ∧ (le f 14 2 = layoutId (stOf s n)) ∧ (le f 12 1 = 0) ∧ (le f 13 1 = 0) ∧ (imageBytes ((stOf s n).ins.map (·.2)) ≤ 1476) ∧ (le f 4 2 = 16 + imageBytes ((stOf s n).ins.map (·.2))) ∧ ((stOf s n).recent = []) ∧ ((stOf s n).reasm = none) ∧ ((stOf s n).lastSeq = none) ∧ (le f 16 8 ≤ max s.tmb.now t)) ∧
    (∃ (p kind t : Nat) (mac f : Bytes) (s : State), (canonical s) ∧ (portUp s p = true)) ∧
    (∃ (n : Nat) (s : State), (canonical s) ∧ ((stOf s n).state = .configuring) ∧ ((stOf s n).retries < 3)) ∧
    (∃ (n : Nat) (s : State), (canonical s) ∧ ((stOf s n).state = .configuring) ∧ (3 ≤ (stOf s n).retries)) ∧
    (∃ (n : Nat) (m : Reasm) (s : State), (canonical s) ∧ ((stOf s n).reasm = some m)) ∧
    (∃ (n : Nat) (s : State), (canonical s) ∧ ((stOf s n).state = .run)) := by
  refine ⟨⟨7, cmdIn (withCmd net 0x54 1 0 0 0 (2#8 :: zeros 31)), 2#8 :: zeros 31, withCmd net 0x54 1 0 0 0 (2#8 :: zeros 31), ?_⟩, ⟨1, 1000100, false, station .run, ?_⟩, ⟨1, 1000100, station .run, ?_⟩, ⟨1, 1000100, 2, ⟨2, zeros 60, false, .plain, 0⟩, station .run, ?_⟩, ⟨1, ⟨⟨1010000, 0, false, 1, 12, none⟩, 12, []⟩, [], station .run, ?_⟩, ⟨1000100, 1, withRegs (station .run) [(fStnCtrlDiscoverEn.addr, BitVec.ofNat 32 (2 ^ fStnCtrlDiscoverEn.lo))], ?_⟩, ⟨1, 1000100, [2, 0, 0, 0, 0, 0x0D], helloFrame, station .run, ?_⟩, ⟨1, 1000100, 12, 2, stMac, helloFrame, [1], station .waitHello, ?_⟩, ⟨1, 1000100, 12, stMac, ackFrame, station .configuring, ?_⟩, ⟨1, 1000100, 12, 4000300, stMac, inputFrame, station .run, ?_⟩, ⟨1, 7, 1000100, stMac, inputFrame, station .run, ?_⟩, ⟨12, station .configuring, ?_⟩, ⟨12, stUpd (station .configuring) 12 fun x => { x with retries := 3 }, ?_⟩, ⟨12, ⟨5, 900000, 0, 0, false, SMap.empty⟩, stUpd (station .run) 12 fun x => { x with reasm := some ⟨5, 900000, 0, 0, false, SMap.empty⟩ }, ?_⟩, ⟨12, station .run, ?_⟩⟩ <;> decide +kernel

/-- The hypotheses of CanControllersRun can be met, those of every clause. -/
theorem witness_CanControllersRun :
    (∃ (h : Nat) (c : Cmd) (d : Bytes) (idle : Bool) (s : State), (canonical s) ∧ (CanStart s h 0x50 c) ∧ (canCheck s c.unit d = none) ∧ ((canC s c.unit).underway = none) ∧ ((canC s c.unit).next = []) ∧ ((idle || cdMode (canC s c.unit).desc == 0) = true)) ∧
    (∃ (h : Nat) (c : Cmd) (d : Bytes) (s : State), (canonical s) ∧ (CanStart s h 0x50 c) ∧ (canCheck s c.unit d = none) ∧ (cdMode (canC s c.unit).desc ≠ 0)) ∧
    (∃ (h : Nat) (c : Cmd) (d : Bytes) (s : State), (canonical s) ∧ (CanStart s h 0x51 c) ∧ (0 < d.length) ∧ (d.length ≤ 2048) ∧ (d.length % 16 = 0) ∧ ((chunks 16 (d.length / 16) d).any filterBad = false) ∧ (((chunks 16 (d.length / 16) d).flatMap filterPoints).all (fun i => (mapFind s.pst.map i).any fun e => e.type == .uint64 && e.writers.getLsbD wCAN) = true)) ∧
    (∃ (h : Nat) (c : Cmd) (d : Bytes) (s : State), (canonical s) ∧ (CanStart s h 0x52 c) ∧ (c.instant = 0) ∧ (cfBad s c.unit d = false) ∧ (canFull s c.unit d [] = false) ∧ (Acts s)) ∧
    (∃ (h : Nat) (c : Cmd) (d : Bytes) (s : State), (canonical s) ∧ (CanStart s h 0x52 c) ∧ (c.instant ≠ 0) ∧ (s.tmb.now + canLead ≤ c.instant) ∧ (cfBad s c.unit d = false) ∧ (canFull s c.unit d [] = false)) ∧
    (∃ (h : Nat) (c : Cmd) (y : CanFrame) (s : State), (canonical s) ∧ (CanStart s h 0x53 c) ∧ ((canC s c.unit).q.find? (fun y => cfHandle y.frame == c.arg) = some y) ∧ ((canC s c.unit).underway ≠ some c.arg) ∧ (y.e.cmd ≠ some h)) ∧
    (∃ (c : Nat) (s : State), (canonical s) ∧ (c < 8) ∧ (windowOpen s 0x0D = true) ∧ ((canC s c).state = .busOff)) ∧
    (∃ (c : Nat) (x : CanFrame) (s : State), (canonical s) ∧ (canDue (canC s c).q = some x) ∧ (Acts s)) ∧
    (∃ (c sof : Nat) (y : CanFrame) (s : State), (canonical s) ∧ (c < 8) ∧ (cdMode (canC s c).desc = 1) ∧ (canOnBus (canC s c) = true) ∧ ((canC s c).underway = none) ∧ (s.par.mute = false) ∧ (s.pwr.stopped = false) ∧ (canOffer (canC s c).desc (canC s c).q = some y)) ∧
    (∃ (c t : Nat) (y : CanFrame) (s : State), (canonical s) ∧ (canFlying (canC s c) = some y) ∧ ((canC s c).tec ≤ 256)) ∧
    (∃ (c t : Nat) (y : CanFrame) (s : State), (canonical s) ∧ (canFlying (canC s c) = some y) ∧ (cdRetry (canC s c).desc = 0)) ∧
    (∃ (c sof t : Nat) (f : Bytes) (s : State), (canonical s) ∧ (c < 8) ∧ (canOnBus (canC s c) = true) ∧ ((canC s c).underway = none) ∧ (f.length = 80) ∧ ((cfFdf f && !cdFlag (canC s c).desc 0) = false) ∧ (s.par.inStep = false) ∧ ((canC s c).recv ≤ 127) ∧ ((canC s c).filters = []) ∧ (cdFlag (canC s c).desc 5 = true) ∧ (2 ≤ cdRxRecords (canC s c).desc) ∧ ((canC s c).prod = (canC s c).cons) ∧ ((canC s c).prod < cdRxRecords (canC s c).desc)) ∧
    (∃ (c code t : Nat) (s : State), (canonical s) ∧ (c < 8) ∧ (1 ≤ code) ∧ (code ≤ 6) ∧ (canOnBus (canC s c) = true) ∧ ((canC s c).underway = none)) ∧
    (∃ (c t : Nat) (s : State), (canonical s) ∧ (c < 8) ∧ ((canC s c).state = .busOff) ∧ ((canC s c).recovering = true)) ∧
    (∃ (c t : Nat) (s : State), (canonical s) ∧ (c < 8) ∧ ((canC s c).integrating = true)) ∧
    (∃ (c t h : Nat) (d : Bytes) (s : State), (canonical s) ∧ (c < 8) ∧ ((canC s c).underway = none) ∧ ((canC s c).next = [(d, h)]) ∧ (running s h = true)) := by
  refine ⟨⟨7, cmdIn (withCmd up 0x50 5 0 0 0 canDesc), canDesc, false, withCmd up 0x50 5 0 0 0 canDesc, ?_⟩, ⟨7, cmdIn (withCmd (canAt can0) 0x50 5 0 0 0 canDesc), canDesc, withCmd (canAt can0) 0x50 5 0 0 0 canDesc, ?_⟩, ⟨7, cmdIn (withCmd (canAt can0) 0x51 5 0 0 0 (leBytes 4 0x123 ++ leBytes 4 0x7FF ++ [2, 0, 0, 0] ++ zeros 4)), leBytes 4 0x123 ++ leBytes 4 0x7FF ++ [2, 0, 0, 0] ++ zeros 4, withCmd (canAt can0) 0x51 5 0 0 0 (leBytes 4 0x123 ++ leBytes 4 0x7FF ++ [2, 0, 0, 0] ++ zeros 4), ?_⟩, ⟨7, cmdIn (withCmd (canAt can0) 0x52 5 0 0 0 canMsg), canMsg, withCmd (canAt can0) 0x52 5 0 0 0 canMsg, ?_⟩, ⟨7, cmdIn (withCmd (canAt can0) 0x52 5 0 0 1001000 canMsg), canMsg, withCmd (canAt can0) 0x52 5 0 0 1001000 canMsg, ?_⟩, ⟨7, cmdIn (withCmd (canAt { can0 with q := [canQ true] }) 0x53 5 21 0 0 []), canQ true, withCmd (canAt { can0 with q := [canQ true] }) 0x53 5 21 0 0 [], ?_⟩, ⟨5, canAt { can0 with state := .busOff, tec := 256 }, ?_⟩, ⟨5, canQ false, canAt { can0 with q := [canQ false] }, ?_⟩, ⟨5, 1000500, canQ true, canAt { can0 with q := [canQ true] }, ?_⟩, ⟨5, 1000900, canQ true, canAt { can0 with q := [canQ true], underway := some 21, tec := 9 }, ?_⟩, ⟨5, 1000900, canQ true, canAt { can0 with q := [canQ true], underway := some 21 }, ?_⟩, ⟨5, 1000500, 1000900, canMsg, canAt { can0 with prod := 63, cons := 63 }, ?_⟩, ⟨5, 6, 1000900, canAt { can0 with recv := 127 }, ?_⟩, ⟨5, 1000900, canAt { can0 with state := .busOff, tec := 256, recovering := true }, ?_⟩, ⟨5, 1000900, canAt { can0 with integrating := true }, ?_⟩, ⟨5, 1000900, 7, canDesc, (let s := withCmd (canAt { can0 with next := [(canDesc, 7)] }) 0x50 5 0 0 0 canDesc; { s with hif := { s.hif with cmds := s.hif.cmds.map fun c => { c with started := true } } }), ?_⟩⟩ <;> decide +kernel

set_option maxRecDepth 20000 in
/-- The hypotheses of RecorderRuns can be met, those of every clause. -/
theorem witness_RecorderRuns :
    (∃ (e : EventIn) (l : List EventIn) (s : State), (s.recd.input = e :: l) ∧ (foldTry { s with recd := { s.recd with input := l } } e = none) ∧ (e.sev ≠ 7) ∧ (s.recd.overloadDue = false)) ∧
    (∃ (e : EventIn) (l : List EventIn) (u : State) (s : State), (s.recd.input = e :: l) ∧ (foldTry { s with recd := { s.recd with input := l } } e = some u) ∧ (e.sev ≠ 7) ∧ (u.recd.overloadDue = false)) ∧
    (∃ (slot : Nat) (lost : List Nat) (e : EventRec) (s : State), (canonical s) ∧ (s.mram.log.slots.get slot = some e)) ∧
    (∃ (slot : Nat) (second : Bool) (lost : List Nat) (e : EventRec) (s : State), (s.mram.log.slots.get slot = some e)) ∧
    (∃ (s : State), (canonical s) ∧ (windowOpen s 0x11 = true)) ∧
    (∃ (h : Nat) (c : Cmd) (s : State), (CanStart s h 0x61 c)) ∧
    (∃ (h : Nat) (c : Cmd) (t : Nat) (s : State), (canonical s) ∧ (CanStart s h 0x62 c) ∧ (s.recd.frozen = some t)) ∧
    (∃ (t : Nat) (s : State), (s.recd.frozen = some t)) ∧
    (∃ (h : Nat) (c : Cmd) (d : Bytes) (g : EvRing) (k : Option Nat) (s : State), (CanStart s h 0x63 c) ∧ (evRingParse d).toOption = some (g, 0xFFFFFFFF) ∧ (s.recd.evRing = none)) ∧
    (∃ (t : Nat) (g : EvRing) (e : EventRec) (l : List EventRec) (s : State), (s.recd.evRing = some g) ∧ (g.backlog = e :: l) ∧ (ringSpace g.prod g.cons g.records = true)) ∧
    (∃ (q t k : Nat) (g : EvRing) (u : UpdateDue) (e : EventRec) (s : State), (s.recd.evRing = some g) ∧ (g.updates.find? (fun u => u.seq == q && u.due) = some u) ∧ (logFind s.mram.log q = some (k, e)) ∧ ((u.last.all fun l => decide (l + 100000000 ≤ max s.tmb.now t)) = true) ∧ (ringSpace g.prod g.cons g.records = true)) ∧
    (∃ (id u : Nat) (x l : HistRec) (s : State), (canonical s) ∧ ((s.recd.hist.get id).held = some x) ∧ ((s.recd.hist.get id).last = some l) ∧ (x.id = id) ∧ (u = max s.tmb.now (l.stamp + fld s (fRecHclassMinIntervalUs ((s.pst.points.get id).hclass % 256)) * 1000)) ∧ (s.recd.histSec ≠ u / 1000000000 ∨ s.recd.histCount < 200000000)) ∧
    (∃ (s : State), (s.recd.block ≠ []) ∧ (s.recd.ring.length < histRingMax)) ∧
    (∃ (h : Nat) (c : Cmd) (d : Bytes) (x : HistExport) (k : Option Nat) (s : State), (CanStart s h 0x64 c) ∧ (histExportParse d).toOption = some (x, 2) ∧ (s.recd.exp = none)) ∧
    (∃ (h : Nat) (c : Cmd) (s : State), (CanStart s h 0x65 c) ∧ (s.recd.exp ≠ none)) ∧
    (∃ (t : Nat) (x : HistExport) (b : HistBlock) (s : State), (s.recd.exp = some x) ∧ (s.recd.gapMark = none) ∧ (s.recd.ring.find? (fun b => b.seq == s.recd.expCursor) = some b) ∧ (ringSpace x.prod x.cons x.blocks = true)) := by
  refine ⟨⟨evIn0, [], recording, ?_⟩, ⟨evIn0, [], (let s := { recording with recd := { recording.recd with fold := [⟨0x09, 0x0102, 3, 77, 40, 0, 0⟩] } }; (foldTry { s with recd := { s.recd with input := [] } } evIn0).getD s), { recording with recd := { recording.recd with fold := [⟨0x09, 0x0102, 3, 77, 40, 0, 0⟩] } }, ?_⟩, ⟨65, [66], evRec0, recording, ?_⟩, ⟨65, false, [66], evRec0, recording, ?_⟩, ⟨(let s := withRegs recording [(fRecStatusPageFail.addr, BitVec.ofNat 32 (2 ^ fRecStatusPageFail.lo))]; { s with pwr := { s.pwr with faults := [.logVolatile, .pageFail] } }), ?_⟩, ⟨7, cmdIn (withCmd frozenLog 0x61 0 0 0 0 []), withCmd frozenLog 0x61 0 0 0 0 [], ?_⟩, ⟨7, cmdIn (withCmd frozenLog 0x62 0 0 0 0 []), 900000, withCmd frozenLog 0x62 0 0 0 0 [], ?_⟩, ⟨900000, frozenLog, ?_⟩, ⟨7, cmdIn (withCmd up 0x63 0 0 0 0 evRingDesc), evRingDesc, ⟨0x10000, 64, 3, 0x20000, 2, 4, 0, 0, 0, [], false, [], []⟩, none, withCmd up 0x63 0 0 0 0 evRingDesc, ?_⟩, ⟨1000100, evRing0, evRec0, [], recording, ?_⟩, ⟨40, 100900000, 65, evRing0, ⟨40, true, some 900000, false⟩, evRec0, recording, ?_⟩, ⟨9, 1000000, { histRec0 with value := 78, stamp := 950000 }, histRec0, histing, ?_⟩, ⟨histing, ?_⟩, ⟨7, cmdIn (withCmd { histing with recd := { histing.recd with exp := none } } 0x64 0 0 0 0 histDesc), histDesc, ⟨0x10000, 16, 3, 0x20000, 4, 0, 0, 0⟩, none, withCmd { histing with recd := { histing.recd with exp := none } } 0x64 0 0 0 0 histDesc, ?_⟩, ⟨7, cmdIn (withCmd histing 0x65 0 0 0 0 []), withCmd histing 0x65 0 0 0 0 [], ?_⟩, ⟨1000100, export0, ⟨6, 0, true, 1, [histRec0]⟩, histing, ?_⟩⟩ <;> decide +kernel

set_option maxRecDepth 20000 in
/-- The hypotheses of WaligLinkRuns can be met, those of every clause. -/
theorem witness_WaligLinkRuns :
    (∃ (t : Nat) (b : Bytes) (s : State), (b = leBytes 1 0x4B ++ leBytes 1 (moduleNo s) ++ leBytes 1 (parCode s) ++ leBytes 2 s.wlk.hbSent)) ∧
    (∃ (p lane m st n t : Nat) (s : State), (canonical s) ∧ (p < 4) ∧ (lane < 2) ∧ (wPortEn s p = true) ∧ ((laneOf (wPort s p) lane).lock = true)) ∧
    (∃ (p lane t : Nat) (s : State), (canonical s) ∧ (p < 4) ∧ (lane < 2) ∧ (wPortUp s p = true) ∧ ((laneOf (wPort s p) lane).works = true)) ∧
    (∃ (p t : Nat) (s : State), (canonical s) ∧ (p < 4) ∧ (wPortUp s p = true) ∧ ((wPort s p).lane0.hb + 6000 ≤ t) ∧ ((wPort s p).lane1.hb + 6000 ≤ t)) ∧
    (∃ (p t u : Nat) (s : State), (canonical s) ∧ (p < 4) ∧ ((wPort s p).stable = some u) ∧ ((wPort s p).state = .training) ∧ ((wPort s p).hello = true) ∧ (u + 10000000 ≤ t)) ∧
    (∃ (p t v : Nat) (b : Bytes) (s : State), (canonical s) ∧ (p < 4) ∧ (wPortEn s p = true) ∧ (((wPort s p).lane0.lock || (wPort s p).lane1.lock) = true) ∧ (wMalformed b = false) ∧ ((wParse b).cls = clsMGMT) ∧ ((wParse b).typ = 1) ∧ (wCrcOk b = true) ∧ (v = le (wParse b).payload 0 2) ∧ (v / 256 = 1)) ∧
    (∃ (p t v : Nat) (b : Bytes) (s : State), (canonical s) ∧ (p < 4) ∧ (wPortEn s p = true) ∧ (((wPort s p).lane0.lock || (wPort s p).lane1.lock) = true) ∧ (wMalformed b = false) ∧ ((wParse b).cls = clsMGMT) ∧ ((wParse b).typ = 1) ∧ (wCrcOk b = true) ∧ (v = le (wParse b).payload 0 2) ∧ (v / 256 ≠ 1)) ∧
    (∃ (p t : Nat) (s : State), (canonical s) ∧ (p < 4) ∧ (wPortEn s p = true) ∧ ((wPort s p).retryAt = some t)) ∧
    (∃ (p lane t : Nat) (s : State), (canonical s) ∧ (p < 4) ∧ (lane < 2) ∧ (wPortEn s p = true)) ∧
    (∃ (t : Nat) (s : State), (canonical s) ∧ (wPorts.any (wPortEn s) = true)) ∧
    (∃ (p t : Nat) (b m : Bytes) (s : State), (canonical s) ∧ (Receives s p clsMGMT 2 b t) ∧ (m = (wParse b).payload)) ∧
    (∃ (t m : Nat) (i : ModInfo) (s : State), (s.wlk.master = some m) ∧ (s.wlk.mods.get m = some i) ∧ (m ≠ moduleNo s) ∧ (i.at' + 3000000 ≤ t)) ∧
    (∃ (t1 t : Nat) (s : State), (canonical s) ∧ (s.wlk.master = some (moduleNo s))) ∧
    (∃ (p t2 t3 t : Nat) (b m : Bytes) (s : State), (canonical s) ∧ (Receives s p clsTIME 1 b t) ∧ (m = (wParse b).payload) ∧ (s.wlk.master = some (wParse b).src) ∧ ((wParse b).src ≠ moduleNo s)) ∧
    (∃ (p t4 t : Nat) (b : Bytes) (s : State), (canonical s) ∧ (Receives s p clsTIME 2 b t) ∧ (s.wlk.master = some (moduleNo s))) ∧
    (∃ (p t : Nat) (b m : Bytes) (mt : MasterTime) (x : SyncX) (s : State), (canonical s) ∧ (Receives s p clsTIME 3 b t) ∧ (m = (wParse b).payload) ∧ (s.wlk.sync = some x) ∧ (x.t1 = le m 0 10) ∧ (s.wlk.master = some (wParse b).src) ∧ (s.tmb.joined = true)) ∧
    (∃ (t : Nat) (s : State), (canonical s) ∧ (s.tmb.source = 3) ∧ ((s.tmb.sources.get 3).lastMeas + 300000 ≤ t)) ∧
    (∃ (e id t : Nat) (s : State), (canonical s) ∧ (e < 256) ∧ (id < 2 ^ 25) ∧ (repDue (advance s t) e id = true) ∧ (s.par.mute = false) ∧ (s.pwr.stopped = false)) ∧
    (∃ (p t : Nat) (b m : Bytes) (e : MapEntry) (s : State), (canonical s) ∧ (Receives s p clsPOINT 1 b t) ∧ (m = (wParse b).payload) ∧ (m.length = 36) ∧ (le m 0 4 ≠ 0) ∧ (mapFind s.pst.map (le m 0 4) = some e) ∧ (e.writers.getLsbD wWALIG = true) ∧ (PType.ofCode (le m 30 1) = some e.type) ∧ (le m 20 8 ≤ max s.tmb.now t) ∧ (s.pst.badTiles.contains (tileOf (le m 0 4)) = false) ∧ (forceFind s (le m 0 4) = none) ∧ ((s.pst.points.get (le m 0 4)).stamp ≤ le m 20 8)) := by
  refine ⟨⟨1001000, [0x4B, 1, 1, 0, 0], linked wUp 1, ?_⟩, ⟨1, 1, 4, 3, 65537, 1001000, linked wUp 1, ?_⟩, ⟨1, 0, 1001000, linked wUp 1, ?_⟩, ⟨1, 1001000, linked wUp 1, ?_⟩, ⟨1, 10900000, 900000, linked { wUp with state := .training, stable := some 900000, hello := true, lane1 := ⟨false, 0, false⟩ } 1, ?_⟩, ⟨1, 1001000, 0x0100, helloOf 0x0100, linked { wUp with state := .training, stable := some 900000 } 1, ?_⟩, ⟨1, 1001000, 0x0200, helloOf 0x0200, linked wUp 1, ?_⟩, ⟨1, 2000000, linked { wUp with state := .down, retryAt := some 2000000 } 1, ?_⟩, ⟨1, 1, 1001000, linked { (default : WPort) with state := .down } 1, ?_⟩, ⟨1001000, linked wUp 4, ?_⟩, ⟨1, 1001000, waligMsg clsMGMT 2 4 0xFF 63 0 9 ([4, 7] ++ leBytes 8 777 ++ [3]), [4, 7] ++ leBytes 8 777 ++ [3], linked wUp 4, ?_⟩, ⟨3990000, 4, ⟨5, 777, 1, 990000⟩, linked wUp 4, ?_⟩, ⟨65601536000, 1001000, linked wUp 1, ?_⟩, ⟨1, 65602000000, 65603000000, 1001000, waligMsg clsTIME 1 4 0xFF 63 0 9 (leBytes 10 65601536000 ++ zeros 10), leBytes 10 65601536000 ++ zeros 10, linked wUp 4, ?_⟩, ⟨1, 65604000000, 1001000, waligMsg clsTIME 2 4 1 63 0 9 (zeros 40), linked wUp 1, ?_⟩, ⟨1, 1001000, waligMsg clsTIME 3 4 1 63 0 9 (leBytes 10 65536000000 ++ leBytes 10 65602000000 ++ zeros 10), leBytes 10 65536000000 ++ leBytes 10 65602000000 ++ zeros 10, ⟨0, true, 37, false⟩, ⟨65536000000, 0, 65540000000, 65550000000⟩, (let s := linked wUp 4; { s with tmb := { s.tmb with joined := true, domLock := true, source := 3 }, wlk := { s.wlk with sync := some ⟨65536000000, 0, 65540000000, 65550000000⟩ } }), ?_⟩, ⟨1001000, (let s := linked wUp 4; { s with tmb := { s.tmb with joined := true, domLock := true, source := 3 } }), ?_⟩, ⟨255, 9, 1001000, withRegs { viewed with wlk := (linked wUp 4).wlk, par := (linked wUp 4).par } [((fWlkRepFirst 255).addr, 0x80000009), ((fWlkRepCount 255).addr, 1), ((fWlkRepDestFirst 255).addr, 40), ((fWlkRepDest 255).addr, 0x000A0004)], ?_⟩, ⟨1, 1001000, waligMsg clsPOINT 1 4 0xFF 63 0 9 repRecord, repRecord, ⟨9, .uint32, false, true, 0, 1000, none, 5, 0xFFFF⟩, withRegs { viewed with wlk := (linked wUp 4).wlk, par := (linked wUp 4).par } [(fWlkCtrlModule.addr, 1), ((fWlkPortEn 1).addr, 1)], ?_⟩⟩ <;> decide +kernel

set_option maxRecDepth 20000 in
/-- The hypotheses of PairingRuns can be met, those of every clause. -/
theorem witness_PairingRuns :
    (∃ (t : Nat) (b m : Bytes) (s : State), (canonical s) ∧ (parEn s = true) ∧ (Receives s (pairPort s) clsMIRROR 1 b t) ∧ (s.par.inStep = true) ∧ (m = (wParse b).payload) ∧ (le m 0 1 = 8)) ∧
    (∃ (t : Nat) (b m : Bytes) (s : State), (canonical s) ∧ (parEn s = true) ∧ (Receives s (pairPort s) clsMIRROR 2 b t) ∧ (s.par.inStep = true) ∧ (m = (wParse b).payload)) ∧
    (∃ (t : Nat) (b m : Bytes) (s : State), (canonical s) ∧ (parEn s = true) ∧ (Receives s (pairPort s) clsMIRROR 3 b t) ∧ (s.par.state = .active ∨ s.par.state = .standbyReady) ∧ (m = (wParse b).payload)) ∧
    (∃ (t : Nat) (b m : Bytes) (s : State), (canonical s) ∧ (parEn s = true) ∧ (Receives s (pairPort s) clsMIRROR 4 b t) ∧ (s.par.inStep = true) ∧ (m = (wParse b).payload) ∧ (le m 5 1 = 3) ∧ (le m 8 8 = 0)) ∧
    (∃ (t : Nat) (b : Bytes) (a : AckWait) (s : State), (canonical s) ∧ (parEn s = true) ∧ (Receives s (pairPort s) clsMIRROR 5 b t) ∧ (s.par.acks.find? (·.id == le (wParse b).payload 0 4) = some a)) ∧
    (∃ (t : Nat) (b : Bytes) (planned : Bool) (s : State), (canonical s) ∧ (parEn s = true) ∧ (Receives s (pairPort s) clsMIRROR 6 b t) ∧ (s.par.state = .standbyReady)) ∧
    (∃ (t : Nat) (b : Bytes) (regions : List XferRegion) (s : State), (canonical s) ∧ (parEn s = true) ∧ (Receives s (pairPort s) clsMIRROR 7 b t) ∧ (s.par.state = .standbyUnsync) ∧ (1 ≤ le (wParse b).payload 4 1) ∧ (le (wParse b).payload 4 1 ≤ 9) ∧ (le (wParse b).payload 5 1 = 3) ∧ (le (wParse b).payload 8 8 = 0)) ∧
    (∃ (t : Nat) (b : Bytes) (s : State), (canonical s) ∧ (parEn s = true) ∧ (Receives s (pairPort s) clsMIRROR 8 b t) ∧ (s.par.standby = true)) ∧
    (∃ (a : AckWait) (l : List AckWait) (s : State), (s.par.acks = a :: l)) ∧
    (∃ (us t : Nat) (s : State), (s.par.state = .standbyReady) ∧ (100 < us)) ∧
    (∃ (t : Nat) (s : State), (canonical s) ∧ (parEn s = true) ∧ (wPortUp s (pairPort s) = true)) ∧
    (∃ (t : Nat) (b m : Bytes) (s : State), (canonical s) ∧ (parEn s = true) ∧ (Receives s (pairPort s) clsMGMT 3 b t) ∧ (m = (wParse b).payload) ∧ (bit (le m 0 1) 0 ≠ s.pwr.pairId) ∧ (le m 2 2 = fwEcn s) ∧ (s.par.state = .alone ∨ s.par.state = .active) ∧ (le m 1 1 % 8 = 4 ∨ le m 1 1 % 8 = 5)) ∧
    (∃ (t : Nat) (b m : Bytes) (s : State), (canonical s) ∧ (parEn s = true) ∧ (Receives s (pairPort s) clsMGMT 3 b t) ∧ (m = (wParse b).payload) ∧ (le m 2 2 ≠ fwEcn s)) ∧
    (∃ (planned : Bool) (t : Nat) (s : State), (s.par.state = .standbyReady)) ∧
    (∃ (t i h : Nat) (s : State), (s.par.state = .standbyReady) ∧ (s.par.switch = some (i, h)) ∧ (running s h = true)) ∧
    (∃ (h : Nat) (c : Cmd) (s : State), (CanStart s h 0x68 c) ∧ (s.par.state = .active) ∧ (s.par.partnerState = PairState.standbyReady.code) ∧ (s.tmb.now + 1000000 ≤ c.instant) ∧ (s.par.switch = none)) ∧
    (∃ (i h : Nat) (s : State), (canonical s) ∧ (s.par.switch = some (i, h)) ∧ (s.par.state = .active) ∧ (s.par.partnerState = PairState.standbyReady.code)) ∧
    (∃ (t : Nat) (s : State), (s.par.waitEnd = some t) ∧ (s.par.state = .forming)) := by
  refine ⟨⟨1001000, mirrorMsg 1 ([8, 0, 5, 0] ++ leBytes 8 900000 ++ zeros 72), [8, 0, 5, 0] ++ leBytes 8 900000 ++ zeros 72, pairOf .standbyReady, ?_⟩, ⟨1001000, mirrorMsg 2 (leBytes 8 3 ++ leBytes 8 900000), leBytes 8 3 ++ leBytes 8 900000, pairOf .standbyReady, ?_⟩, ⟨1001000, mirrorMsg 3 ([1, 0, 5, 0] ++ zeros 4 ++ leBytes 8 900000 ++ leBytes 8 99), [1, 0, 5, 0] ++ zeros 4 ++ leBytes 8 900000 ++ leBytes 8 99, pairOf .active, ?_⟩, ⟨1001000, mirrorMsg 4 (leBytes 4 6 ++ [0, 3] ++ leBytes 2 68 ++ leBytes 8 0 ++ zeros 64 ++ [1, 2, 3, 4]), leBytes 4 6 ++ [0, 3] ++ leBytes 2 68 ++ leBytes 8 0 ++ zeros 64 ++ [1, 2, 3, 4], pairOf .standbyReady, ?_⟩, ⟨1001000, mirrorMsg 5 (leBytes 4 6), ⟨6, 7, 2000000⟩, (let s := withCmd (pairOf .active) 0x44 4 1 0 0 []; { s with par := { s.par with acks := [⟨6, 7, 2000000⟩] }, hif := { s.hif with cmds := s.hif.cmds.map fun c => { c with acked := false } } }), ?_⟩, ⟨1001000, mirrorMsg 6 (leBytes 8 1000500 ++ leBytes 4 9), false, pairOf .standbyReady, ?_⟩, ⟨1001000, mirrorMsg 7 (leBytes 4 6 ++ [9, 3] ++ leBytes 2 4 ++ leBytes 8 0 ++ [1, 2, 3, 4]), [.forces []], pairOf .standbyUnsync, ?_⟩, ⟨1001000, mirrorMsg 8 (zeros 34), pairOf .standbyReady, ?_⟩, ⟨⟨6, 7, 2000000⟩, [], (let s := withCmd (pairOf .active) 0x44 4 1 0 0 []; { s with par := { s.par with acks := [⟨6, 7, 2000000⟩] }, hif := { s.hif with cmds := s.hif.cmds.map fun c => { c with acked := false } } }), ?_⟩, ⟨300, 1001000, pairOf .standbyReady, ?_⟩, ⟨1001000, pairOf .active, ?_⟩, ⟨1001000, pairHelloMsg 4 (fwEcn up), [1, 4] ++ leBytes 2 (fwEcn up) ++ leBytes 4 3 ++ leBytes 8 777 ++ zeros 16, pairOf .alone, ?_⟩, ⟨1001000, pairHelloMsg 4 999, [1, 4] ++ leBytes 2 999 ++ leBytes 4 3 ++ leBytes 8 777 ++ zeros 16, pairOf .alone, ?_⟩, ⟨true, 1001000, pairOf .standbyReady, ?_⟩, ⟨1001000, 1000900, 7, (let s := withCmd (pairOf .standbyReady) 0x68 0 0 0 1000900 []; { s with par := { s.par with switch := some (1000900, 7) }, hif := { s.hif with cmds := s.hif.cmds.map fun c => { c with started := true } } }), ?_⟩, ⟨7, cmdIn (withCmd (pairOf .active) 0x68 0 0 0 2000000 []), withCmd (pairOf .active) 0x68 0 0 0 2000000 [], ?_⟩, ⟨2000000, 7, { pairOf .active with par := { (pairOf .active).par with switch := some (2000000, 7) } }, ?_⟩, ⟨2000000, { pairOf .forming with par := { (pairOf .forming).par with waitEnd := some 2000000 } }, ?_⟩⟩ <;> decide +kernel

/-- The hypotheses of TransfersAndSelfTestsRun can be met, those of every clause. -/
theorem witness_TransfersAndSelfTestsRun :
    (∃ (t : Nat) (s : State), (s.par.state = .active) ∧ (s.par.resync ≠ none) ∧ (flag s fParCtrlAutoResync = true) ∧ (wPortUp s (pairPort s) = true) ∧ (s.par.partnerState = PairState.standbyUnsync.code) ∧ (s.par.xfer = .none)) ∧
    (∃ (left t : Nat) (s : State), (s.par.state = .active) ∧ (s.par.xfer = .copying) ∧ (left ≤ 16777216)) ∧
    (∃ (left t c : Nat) (s : State), (canonical s) ∧ (s.par.state = .active) ∧ (s.par.xfer = .copying) ∧ (left ≤ 16777216) ∧ (noItems s = true)) ∧
    (∃ (t : Nat) (s : State), (s.par.state = .active) ∧ (s.par.xfer = .cut) ∧ (s.par.xferAt + 10000000000 ≤ t)) ∧
    (∃ (t : Nat) (s : State), (s.par.state = .standbyUnsync) ∧ (s.par.xfer = .catchup)) ∧
    (∃ (t h : Nat) (s : State), (s.par.state = .active) ∧ (s.par.xfer = .catchup) ∧ (s.par.xferCmd = some h) ∧ (running s h = true)) ∧
    (∃ (t : Nat) (s : State), (s.par.xfer = .catchup) ∧ (s.par.xferAt + fld s fParCtrlCatchupMs * 1000000 ≤ t)) ∧
    (∃ (fails t : Nat) (s : State), (0 < fails)) ∧
    (∃ (t : Nat) (s : State), (s.par.overdue = false) ∧ (s.par.selfAt + 86400000000000 ≤ t)) := by
  refine ⟨⟨1001000, (let s := withRegs (pairOf .active) [(fParCtrlEn.addr, BitVec.ofNat 32 (5 + 2 ^ fParCtrlAutoResync.lo))]; { s with par := { s.par with partnerState := 4, resync := some 900000 } }), ?_⟩, ⟨16777216, 1001000, { pairOf .active with par := { (pairOf .active).par with xfer := .copying } }, ?_⟩, ⟨5, 1001000, 1002000, { pairOf .active with par := { (pairOf .active).par with xfer := .copying } }, ?_⟩, ⟨10001000000, { pairOf .active with par := { (pairOf .active).par with xfer := .cut, xferAt := 1000000 } }, ?_⟩, ⟨1001000, { pairOf .standbyUnsync with par := { (pairOf .standbyUnsync).par with xfer := .catchup } }, ?_⟩, ⟨1001000, 7, (let s := withCmd (pairOf .active) 0x67 0 0 0 0 []; { s with par := { s.par with xfer := .catchup, xferCmd := some 7 }, hif := { s.hif with cmds := s.hif.cmds.map fun c => { c with started := true } } }), ?_⟩, ⟨2000000000, { pairOf .active with par := { (pairOf .active).par with xfer := .catchup } }, ?_⟩, ⟨3, 1001000, pairOf .active, ?_⟩, ⟨86400000000000, up, ?_⟩⟩ <;> decide +kernel

set_option maxRecDepth 20000 in
/-- The hypotheses of HendelRuns can be met, those of every clause. -/
theorem witness_HendelRuns :
    (∃ (n t : Nat) (v : Int) (s : State), (canonical s) ∧ (n < 56)) ∧
    (∃ (n t : Nat) (v : Int) (s : State), (canonical s) ∧ (n < 56) ∧ (v < signed 16 (fld s (fHdlSensorWarnLo n)) ∨ signed 16 (fld s (fHdlSensorWarnHi n)) < v)) ∧
    (∃ (n t : Nat) (s : State), (canonical s) ∧ (24 ≤ n) ∧ (n < 42)) ∧
    (∃ (d t : Nat) (s : State), (canonical s) ∧ (d < 13) ∧ (d ≠ 7)) ∧
    (∃ (n t : Nat) (s : State), (canonical s) ∧ (n < 24)) ∧
    (∃ (t : Nat) (s : State), (flag s fHdlCtrlAutoRestart = true) ∧ ((s.pwr.supplyBad || s.pwr.clockBad || s.pwr.hot) = true)) ∧
    (∃ (d w t : Nat) (v i c : Int) (s : State), (canonical s) ∧ (d < 16) ∧ (flag s (fHdlPmbusEn d) = true)) ∧
    (∃ (d t : Nat) (s : State), (canonical s) ∧ (d < 16) ∧ (flag s (fHdlPmbusEn d) = true)) ∧
    (∃ (d w t : Nat) (l : List (Option Nat)) (s : State), (canonical s) ∧ (d < 16) ∧ (flag s (fHdlPmbusEn d) = true) ∧ (l.getD d none = some w)) ∧
    (∃ (t : Nat) (s : State), (flag s fHdlCtrlWdRestart = true) ∧ (s.pwr.up = true)) ∧
    (∃ (s : State), (s.pwr.up = true) ∧ (windowOpen s 0x12 = true)) ∧
    (∃ (t : Nat) (x : BootItem) (l : List BootItem) (fits : Bool) (s : State), (s.hdl.writes = x :: l)) ∧
    (∃ (h n : Nat) (c : Cmd) (s : State), (canonical s) ∧ (CanStart s h 0x71 c) ∧ (bankIn s .staged = some n) ∧ (s.par.state ≠ .active) ∧ ((s.hif.cmds.any fun c => (c.opcode == 0x69 || c.opcode == 0x70) && c.ended.isNone) = false) ∧ (s.cyc.weld.state = .none)) ∧
    (∃ (h t : Nat) (c : Cmd) (s : State), (canonical s) ∧ (CanStart s h 0x72 c) ∧ (s.hdl.probation = some t) ∧ (c.arg < 32) ∧ (s.hdl.confirmed ||| c.arg ≠ 31)) ∧
    (∃ (h t : Nat) (c : Cmd) (s : State), (canonical s) ∧ (CanStart s h 0x72 c) ∧ (s.hdl.probation = some t) ∧ (c.arg < 32) ∧ (s.hdl.confirmed ||| c.arg = 31)) ∧
    (∃ (n t : Nat) (s : State), (canonical s) ∧ (s.hdl.probation = some t) ∧ (bankIn s .trial = some n)) ∧
    (∃ (h : Nat) (c : Cmd) (d : Bytes) (s : State), (canonical s) ∧ (CanStart s h 0x73 c) ∧ (s.hdl.leaf < 1048576) ∧ ((signedRecent s).length < 4)) ∧
    (∃ (h : Nat) (c : Cmd) (s : State), (CanStart s h 0x74 c)) ∧
    (∃ (h : Nat) (c : Cmd) (d : Bytes) (s : State), (canonical s) ∧ (CanStart s h 0x76 c) ∧ (s.cyc.state ≠ .running) ∧ (s.seq.exec.entries = []) ∧ (slice d 0 4 = magic 'P' 'S' 'R' 'V') ∧ (unlockReserved d = false) ∧ (le d 16 2 = 0x9640) ∧ (le d 4 2 = 0x0100) ∧ (le d 8 8 = s.hdl.otp.serial) ∧ (le d 18 1 ≤ 3) ∧ (bit s.hdl.otp.revoked (le d 18 1) = false)) := by
  refine ⟨⟨16, 1001000, 340, up, ?_⟩, ⟨30, 1001000, 40000, up, ?_⟩, ⟨41, 1001000, up, ?_⟩, ⟨12, 1001000, up, ?_⟩, ⟨23, 1001000, up, ?_⟩, ⟨1001000, (let s := withRegs up [(fHdlCtrlAutoRestart.addr, BitVec.ofNat 32 (2 ^ fHdlCtrlAutoRestart.lo))]; { s with pwr := { s.pwr with hot := true } }), ?_⟩, ⟨15, 0x40, 1001000, 12000, -3, 400, withRegs up [((fHdlPmbusEn 15).addr, BitVec.ofNat 32 (2 ^ (fHdlPmbusEn 15).lo))], ?_⟩, ⟨15, 1001000, (let s := withRegs up [((fHdlPmbusEn 15).addr, BitVec.ofNat 32 (2 ^ (fHdlPmbusEn 15).lo))]; { s with hdl := { s.hdl with pmFails := s.hdl.pmFails.set 15 2 } }), ?_⟩, ⟨1, 0x40, 1001000, [none, some 0x40], withRegs up [((fHdlPmbusEn 1).addr, BitVec.ofNat 32 (2 ^ (fHdlPmbusEn 1).lo))], ?_⟩, ⟨1001000, withRegs up [(fHdlCtrlWdRestart.addr, BitVec.ofNat 32 (2 ^ fHdlCtrlWdRestart.lo))], ?_⟩, ⟨up, ?_⟩, ⟨1001000, .loop 5 (some (loopDesc 1)), [], true, { up with hdl := { up.hdl with writes := [.loop 5 (some (loopDesc 1))] } }, ?_⟩, ⟨7, 1, cmdIn (withCmd (bankB up ⟨.staged, zeros 400⟩) 0x71 0 0 0 0 []), withCmd (bankB up ⟨.staged, zeros 400⟩) 0x71 0 0 0 0 [], ?_⟩, ⟨7, 500000, cmdIn (withCmd onTrial 0x72 0 9 0 0 []), withCmd onTrial 0x72 0 9 0 0 [], ?_⟩, ⟨7, 500000, cmdIn (withCmd onTrial 0x72 0 28 0 0 []), withCmd onTrial 0x72 0 28 0 0 [], ?_⟩, ⟨1, 500000, onTrial, ?_⟩, ⟨7, cmdIn (withCmd { up with hdl := { up.hdl with leaf := 1048575, signed := [1, 2, 3] } } 0x73 0 0 0 0 (zeros 32)), zeros 32, withCmd { up with hdl := { up.hdl with leaf := 1048575, signed := [1, 2, 3] } } 0x73 0 0 0 0 (zeros 32), ?_⟩, ⟨7, cmdIn (withCmd up 0x74 0 0 0 0 []), withCmd up 0x74 0 0 0 0 [], ?_⟩, ⟨7, cmdIn (withCmd up 0x76 0 0 0 0 (magic 'P' 'S' 'R' 'V' ++ [0, 1, 0, 0] ++ leBytes 8 up.hdl.otp.serial ++ leBytes 2 0x9640 ++ [3] ++ zeros 13)), magic 'P' 'S' 'R' 'V' ++ [0, 1, 0, 0] ++ leBytes 8 up.hdl.otp.serial ++ leBytes 2 0x9640 ++ [3] ++ zeros 13, withCmd up 0x76 0 0 0 0 (magic 'P' 'S' 'R' 'V' ++ [0, 1, 0, 0] ++ leBytes 8 up.hdl.otp.serial ++ leBytes 2 0x9640 ++ [3] ++ zeros 13), ?_⟩⟩ <;> decide +kernel

set_option maxRecDepth 20000 in
/-- The hypotheses of MailboxAndJtagRun can be met, those of every clause. -/
theorem witness_MailboxAndJtagRun :
    (∃ (s : State), (canonical s) ∧ (s.hdl.recovery = true)) ∧
    (∃ (s : State), (canonical s) ∧ (s.hdl.recovery = true) ∧ (bankIn s .trial = none) ∧ (bankIn s .staging = none) ∧ (fld s fHdlMboxArg0 ≤ 134217728)) ∧
    (∃ (n total : Nat) (s : State), (canonical s) ∧ (s.hdl.recovery = true) ∧ (bankIn s .staging = some n) ∧ (s.hdl.mbox.stage = some total) ∧ (0 < fld s fHdlMboxArg1) ∧ (fld s fHdlMboxArg1 ≤ 65536) ∧ (fld s fHdlMboxArg0 + fld s fHdlMboxArg1 ≤ total)) ∧
    (∃ (n total : Nat) (b : Bytes) (s : State), (canonical s) ∧ (s.hdl.recovery = true) ∧ (bankIn s .staging = some n) ∧ (s.hdl.mbox.stage = some total) ∧ (b = fit total (s.hdl.bank.get n).billet)) ∧
    (∃ (n : Nat) (s : State), (canonical s) ∧ (s.hdl.recovery = true) ∧ (bankIn s .staged = some n)) ∧
    (∃ (b : Bytes) (s : State), (canonical s) ∧ (s.hdl.recovery = true) ∧ (b = (hlogFrom s (fld s fHdlMboxArg0) (min (fld s fHdlMboxArg1) 1024)).flatMap evBytes)) ∧
    (∃ (s : State), (canonical s) ∧ (s.hdl.recovery = true)) ∧
    (∃ (s : State), (canonical s) ∧ (s.hdl.recovery = true)) ∧
    (∃ (s : State), (canonical s) ∧ (s.hdl.recovery = true)) ∧
    (∃ (s : State), (windowOpen s 0x12 = true) ∧ (s.hdl.recovery = false)) ∧
    (∃ (f q : Bytes) (s : State), (s.hdl.recovery = true) ∧ (f.head? = some 0xA5) ∧ (f.length = 18) ∧ (le f 10 4 = 0) ∧ ((crc32c (slice f 1 13)).toNat = le f 14 4) ∧ (le f 1 1 = 7) ∧ (q = leBytes 1 Status.ok.code ++ slice f 2 8 ++ leBytes 4 1920 ++ sensorRecs s)) ∧
    (∃ (f q : Bytes) (s : State), (s.hdl.recovery = false) ∧ (f.head? = some 0xA5) ∧ (f.length = 18) ∧ (le f 10 4 = 0) ∧ ((crc32c (slice f 1 13)).toNat = le f 14 4) ∧ (q = leBytes 1 Status.state.code ++ slice f 2 8 ++ leBytes 4 0)) := by
  refine ⟨⟨recovering 0 0, ?_⟩, ⟨recovering 100 0, ?_⟩, ⟨1, 100, staging 97 3, ?_⟩, ⟨1, 100, fit 100 [1, 2, 3], staging 97 3, ?_⟩, ⟨1, bankB (recovering 0 0) ⟨.staged, zeros 400⟩, ?_⟩, ⟨evBytes evRec0, hlogged 40 9, ?_⟩, ⟨recovering 0 0, ?_⟩, ⟨{ recovering 0 0 with hdl := { (recovering 0 0).hdl with boot := { up.hdl.boot with interlock := some ileImage0 } } }, ?_⟩, ⟨recovering 0 0, ?_⟩, ⟨up, ?_⟩, ⟨uartFrame 7, leBytes 1 Status.ok.code ++ slice (uartFrame 7) 2 8 ++ leBytes 4 1920 ++ sensorRecs (recovering 0 0), recovering 0 0, ?_⟩, ⟨uartFrame 7, leBytes 1 Status.state.code ++ slice (uartFrame 7) 2 8 ++ leBytes 4 0, up, ?_⟩⟩ <;> decide +kernel

set_option maxRecDepth 20000 in
/-- The hypotheses of ResetsAndStartsRun can be met, those of every clause. -/
theorem witness_ResetsAndStartsRun :
    (∃ (x : StartIn) (n : Nat) (m : Mark) (s : State), (canonical s) ∧ (s.pwr.up = false) ∧ (s.pwr.holds = [] ∨ s.pwr.holds = [.por]) ∧ (if s.pwr.holds = [] then s.pwr.bootMode < 2 ∧ s.pwr.recoveryPin = true else (x.straps.map fun y => decide (y.1 % 4 < 2) && y.2.1) = some true) ∧ (x.mram = true) ∧ (s.mram.mark = some m) ∧ (bankIn s .trial = none) ∧ (bankIn s .active = some n) ∧ ((if n = 0 then x.bankA else x.bankB) = true)) ∧
    (∃ (cause k n : Nat) (x : StartIn) (s : State), (canonical s) ∧ (s.pwr.holds = []) ∧ (cause = 1 ∧ s.pwr.up = true ∨ s.pwr.due = some cause) ∧ (x.count = some k) ∧ (s.pwr.aonBad = false) ∧ (s.pwr.bootMode < 2) ∧ (s.pwr.recoveryPin = true) ∧ (bankIn s .trial = none) ∧ (bankIn s .active = some n) ∧ ((if n = 0 then x.bankA else x.bankB) = true)) ∧
    (∃ (n t : Nat) (s : State), (n < 24)) ∧
    (∃ (x : StartIn) (n : Nat) (m : Mark) (s : State), (canonical s) ∧ (s.pwr.holds = [.trip]) ∧ (((List.range 24).all fun n => decide ((s.hdl.sensor.get n).value < 760)) = true) ∧ (s.pwr.bootMode < 2) ∧ (s.pwr.recoveryPin = true) ∧ (x.mram = true) ∧ (s.mram.mark = some m) ∧ (bankIn s .trial = none) ∧ (bankIn s .active = some n) ∧ ((if n = 0 then x.bankA else x.bankB) = true)) ∧
    (∃ (t : Nat) (m : Image) (p : PointMap) (s : State), (autostarts s = true) ∧ (flag s fCycCtrlAutostart = true) ∧ (s.hdl.boot.program = some (m, some p)) ∧ ((s.cyc.slots.get 0).image = some m) ∧ ((s.cyc.slots.get 0).map = some p) ∧ (s.cyc.state = .idle)) ∧
    (∃ (t : Nat) (m : IleImage) (s : State), (autostarts s = true) ∧ (s.hdl.boot.interlock = some m) ∧ (s.ile.state = .empty) ∧ (s.ile.next = none)) := by
  refine ⟨⟨start0, 0, ⟨3000000, 0, 0⟩, poweredOn, ?_⟩, ⟨4, 500, 0, start0, { cycling with pwr := { cycling.pwr with due := some 4 } }, ?_⟩, ⟨23, 1001000, cycling, ?_⟩, ⟨start0, 0, ⟨3000000, 0, 0⟩, { poweredOn with pwr := { up.pwr with up := false, holds := [.trip] } }, ?_⟩, ⟨1001000, image0, map0, booted, ?_⟩, ⟨1001000, ileImage0, booted, ?_⟩⟩ <;> decide +kernel

/-- The hypotheses of ClaimedPinKeepsItsMode can be met, those of every clause. -/
theorem witness_ClaimedPinKeepsItsMode :
    (∃ (p : Nat) (v : Word) (s : State), (p < 128) ∧ (windowOpen s 2 = true) ∧ ((s.tmb.tio.get p).claimed.isSome = true) ∧ (v.toNat % 4 = 1 ∨ v.toNat % 4 = 2)) ∧
    (∃ (p : Nat) (v : Word) (s : State), (p < 128) ∧ (windowOpen s 2 = true) ∧ ((s.tmb.tio.get p).claimed.isSome = true) ∧ (v.toNat % 4 = 1 ∨ v.toNat % 4 = 2)) := by
  refine ⟨⟨7, 0x1#32, { up with tmb := { up.tmb with tio := (SMap.empty : SMap TioPin).set 7 { (default : TioPin) with claimed := some 9 } } }, ?_⟩, ⟨127, 0x2#32, { up with tmb := { up.tmb with tio := (SMap.empty : SMap TioPin).set 127 { (default : TioPin) with claimed := some 9 } } }, ?_⟩⟩ <;> decide +kernel

/-- The hypotheses of QuadratureCounts can be met, those of every clause. -/
theorem witness_QuadratureCounts :
    (∃ (n t : Nat) (a b : Bool) (s : State), (canonical s) ∧ (fbMode (fbkCh s n).desc = 1) ∧ (a ≠ bit (fbkCh s n).lv 0) ∧ (b = bit (fbkCh s n).lv 1)) ∧
    (∃ (n t : Nat) (a b : Bool) (s : State), (canonical s) ∧ (fbMode (fbkCh s n).desc = 1) ∧ (a = bit (fbkCh s n).lv 0) ∧ (b ≠ bit (fbkCh s n).lv 1)) ∧
    (∃ (n t : Nat) (a b : Bool) (s : State), (canonical s) ∧ (fbMode (fbkCh s n).desc = 1) ∧ (a ≠ bit (fbkCh s n).lv 0) ∧ (b ≠ bit (fbkCh s n).lv 1)) := by
  refine ⟨⟨6, 1001000, true, false, fbkAt (fb0 fbQuad), ?_⟩, ⟨6, 1001000, false, true, fbkAt (fb0 fbQuad), ?_⟩, ⟨6, 1001000, true, true, fbkAt (fb0 fbQuad), ?_⟩⟩ <;> decide +kernel

/-- The hypotheses of BurstResults can be met, those of every clause. -/
theorem witness_BurstResults :
    (∃ (g q t : Nat) (cs : List Int) (ovr : Bool) (v x : Int) (old : List (Nat × Int)) (s : State), (canonical s) ∧ (cnvRuns s g = true) ∧ (isBurst (cnvG s g).cfg.mode = true) ∧ (cs.length = (cnvG s g).cfg.avg) ∧ (∀ c ∈ cs, -(2 ^ 19) ≤ c ∧ c < 2 ^ 19) ∧ (v * 2 ^ (cnvG s g).cfg.shift ≤ cs.sum * 16 ∧ cs.sum * 16 < (v + 1) * 2 ^ (cnvG s g).cfg.shift) ∧ (x = max (-(2 ^ 23)) (min (2 ^ 23 - 1) v)) ∧ (((cnvG s g).fill.map (·.results)).getD [] = old) ∧ (old.length ≠ 15)) ∧
    (∃ (g q t : Nat) (cs : List Int) (ovr : Bool) (v x : Int) (old : List (Nat × Int)) (s : State), (canonical s) ∧ (cnvRuns s g = true) ∧ (isBurst (cnvG s g).cfg.mode = true) ∧ (cs.length = (cnvG s g).cfg.avg) ∧ (∀ c ∈ cs, -(2 ^ 19) ≤ c ∧ c < 2 ^ 19) ∧ (v * 2 ^ (cnvG s g).cfg.shift ≤ cs.sum * 16 ∧ cs.sum * 16 < (v + 1) * 2 ^ (cnvG s g).cfg.shift) ∧ (x = max (-(2 ^ 23)) (min (2 ^ 23 - 1) v)) ∧ (((cnvG s g).fill.map (·.results)).getD [] = old) ∧ (old.length = 15)) ∧
    (∃ (g q t : Nat) (cs : List Int) (ovr : Bool) (v x : Int) (old : List (Nat × Int)) (s : State), (canonical s) ∧ (cnvRuns s g = true) ∧ (isBurst (cnvG s g).cfg.mode = true) ∧ (cs.length = (cnvG s g).cfg.avg) ∧ (∀ c ∈ cs, -(2 ^ 19) ≤ c ∧ c < 2 ^ 19) ∧ (v * 2 ^ (cnvG s g).cfg.shift ≤ cs.sum * 16 ∧ cs.sum * 16 < (v + 1) * 2 ^ (cnvG s g).cfg.shift) ∧ (x = max (-(2 ^ 23)) (min (2 ^ 23 - 1) v)) ∧ (((cnvG s g).fill.map (·.results)).getD [] = old) ∧ (old.length ≠ 15) ∧ (2 ^ (cnvG s g).cfg.shift = (cnvG s g).cfg.avg)) := by
  refine ⟨⟨0, 4000400, 1000150, [-7, 9], true, 16, 16, [], converting, ?_⟩, ⟨0, 4000400, 1000150, [-7, 9], false, 16, 16, List.replicate 15 (4000000, 5), cnvUpd converting 0 fun k => { k with fill := some { (default : QEntry) with kind := 1, results := List.replicate 15 (4000000, 5) } }, ?_⟩, ⟨0, 4000400, 1000150, [-7, 9], true, 16, 16, [], converting, ?_⟩⟩ <;> decide +kernel

/-- The hypotheses of BestItemIsDispatched can be met, those of every clause. -/
theorem witness_BestItemIsDispatched :
    (∃ (core t : Nat) (e : Desc) (s : State), (core < poolSize) ∧ (canonical s) ∧ ((s.hrt.cores.get core).retired = false) ∧ ((s.hrt.cores.get core).run = none) ∧ (e ∈ (slicePass (advance s t)).hrt.ready) ∧ (e.notOn ≠ some core)) ∧
    (∃ (core t : Nat) (x : Run) (s : State), ((s.hrt.cores.get core).run = some x)) := by
  refine ⟨⟨2, 5, { (default : Desc) with source := 1, prio := 1 }, { up with hrt := { up.hrt with ready := [{ (default : Desc) with source := 1, prio := 1 }] } }, ?_⟩, ⟨2, 5, default, { up with hrt := { up.hrt with cores := up.hrt.cores.set 2 { (default : Core) with run := some default } } }, ?_⟩⟩ <;> decide +kernel

end Sys2Proof.Tests
end

section
/-! Proofs of the scope chapter's statements: the state after reset (R21, R241, R595), and the stray word that a read of a class's T0 lays
over T0 (R25). -/
namespace Sys2Proof.Machine
open Sys2Proof

/-! ### The state after reset -/

/-- No register differs from its reset value after reset. -/
@[simp] theorem reset_regs : State.reset.regs = SMap.empty := rfl

@[simp] theorem reset_staged : State.reset.staged = SMap.empty := rfl

@[simp] theorem reset_points : State.reset.pst.points = SMap.empty := rfl

@[simp] theorem stored_reset (a : Nat) : stored State.reset a = regReset a := by
  rw [stored, reset_regs, SMap.get_empty]
  rfl

/-- Where nothing is staged, the staged value is the value in force (R25). -/
theorem stagedOf_of_get_none {s : State} {a : Nat} (h : s.staged.get a = none) : stagedOf s a = stored s a := by
  simp [stagedOf, h]

@[simp] theorem stagedOf_reset (a : Nat) : stagedOf State.reset a = regReset a := by
  have unstaged : State.reset.staged.get a = none := by
    rw [reset_staged, SMap.get_empty]
    rfl
  rw [stagedOf_of_get_none unstaged, stored_reset]

/-- A field reads after reset as the bits of its word's reset value. -/
theorem fld_reset (f : Fld) : fld State.reset f = bits (regReset f.addr).toNat f.hi f.lo := by
  simp [fld]

/-- VECTOR of CQ `n` resets to `n` (R21). -/
theorem fld_reset_cqVector {n : Nat} (hn : n < 64) : fld State.reset (fHifCqVector n) = n := by
  have reset_by_row : ∀ n < 64, bits (regReset (fHifCqVector n).addr).toNat (fHifCqVector n).hi (fHifCqVector n).lo = n := by
    decide +kernel
  rw [fld_reset, reset_by_row n hn]

/-- MIN and MAX of the Hearth sources after reset (R241). -/
theorem fld_reset_hrtSrcMinMax :
    (List.range 6).map (fun n => (fld State.reset (fHrtSrcMin n), fld State.reset (fHrtSrcMax n))) =
      [(2048, 4096), (256, 1024), (256, 1024), (128, 512), (128, 512), (32, 256)] := by
  simp only [fld_reset]
  decide +kernel

/-- PRIO of the Hearth sources after reset (R241). -/
theorem fld_reset_hrtSrcPrio : [1, 2, 3, 4, 5].map (fun n => fld State.reset (fHrtSrcPrio n)) = [6, 1, 2, 1, 0] := by
  simp only [fld_reset]
  decide +kernel

theorem canonical_reset : canonical State.reset := by decide +kernel

theorem fractionInRange_reset : fractionInRange State.reset := by
  unfold fractionInRange
  decide

/-- No point is stored after reset, and an unlisted point has no quality bit set. -/
theorem validOrBad_reset : validOrBad State.reset := by
  intro id _
  rw [reset_points, SMap.get_empty]
  decide

/-- Settles O52: no register, staged value or point is listed after reset, so each reads as its reset value. -/
theorem resetStateIsAsTheManualSays : Obligations.ResetStateIsAsTheManualSays :=
  ⟨fun a => ⟨stored_reset a, stagedOf_reset a⟩, fun _ => fld_reset_cqVector, fld_reset_hrtSrcMinMax, fld_reset_hrtSrcPrio,
    reset_staged, rfl, rfl, rfl, rfl, canonical_reset, fractionInRange_reset, validOrBad_reset⟩

/-! ### A stray word at a computed register -/

/-- A read in an open window, away from the Timeline's NS_LO and the stamp FIFOs, returns the word `regRead` gives (R25). -/
theorem busRead_rdata {s : State} {a : Nat} (halign : a % 4 = 0) (hopen : windowOpen s (a / 0x100000) = true) (hnow : a ≠ 0x200008)
    (hstamp : elem a 0x202000 16 128 = none) : (busRead a s).rdata = regRead s a := by
  simp [busRead, halign, hopen, hnow, hstamp]

/-- A read of an aligned address in an open window lays the view of the blocks over the word stored at the address: nothing keeps a word that
is stored at a computed register out of what the host reads. -/
theorem regRead_of_open {s : State} {a : Nat} (halign : a % 4 = 0) (hopen : windowOpen s (a / 0x100000) = true) :
    regRead s a = stagedOf s a ||| BitVec.ofNat 32 (viewOf s a) := by
  simp [regRead, halign, hopen]

/-- A state whose windows answer and whose register table lists a word at 0x401008, the LO word of class 0's T0, which no row of the register
table stores. The table is canonical all the same: its one key rises and its one value is not the default. -/
def strayT0Word : State :=
  { State.reset with
    hif := { State.reset.hif with ready := true }
    regs := SMap.empty.set 0x401008 (some 1) }

theorem canonical_strayT0Word : canonical strayT0Word := by decide +kernel

theorem windowOpen_strayT0Word : windowOpen strayT0Word 4 = true := by decide

/-- The class's T0 is 0, and the host reads the stray word. -/
theorem busRead_strayT0Word : (busRead 0x401008 strayT0Word).rdata = 1 := by
  have stray : stagedOf strayT0Word 0x401008 = 1 := by decide +kernel
  have view : viewOf strayT0Word 0x401008 = lo32 (strayT0Word.cyc.classes.get 0).t0 := by decide +kernel
  have t0 : (strayT0Word.cyc.classes.get 0).t0 = 0 := by decide
  rw [busRead_rdata (by decide) windowOpen_strayT0Word (by decide) (by decide), regRead_of_open (by decide) windowOpen_strayT0Word, stray,
    view, t0]
  decide

/-- Refutes O10: its last clause has the read of the LO word of a class's T0 return T0's low bits in every canonical state, but the read lays
them over the word stored at that address, and `canonical` does not say that only stored registers are listed. In `strayT0Word` class 0 has
T0 = 0 and the read returns 1. -/
theorem not_commitsAndRegisterAccessesTakeEffect : ¬ Obligations.CommitsAndRegisterAccessesTakeEffect := by
  unfold Obligations.CommitsAndRegisterAccessesTakeEffect
  rintro ⟨-, -, -, -, -, -, -, -, -, -, -, -, -, -, -, -, -, -, -, -, -, -, -, hclassT0⟩
  obtain ⟨r, hexec, hdata, -⟩ := hclassT0 0 strayT0Word canonical_strayT0Word (by decide) windowOpen_strayT0Word
  obtain rfl : busRead 0x401008 strayT0Word = r := Host.Outcome.next.inj hexec
  rw [busRead_strayT0Word] at hdata
  revert hdata
  decide

end Sys2Proof.Machine
end

section
/-! Laws of the operations that many commands share: which parts of the state recording an event, ending a command and passing Slices to Hearth
leave alone (R116, R123, R497), and what a command that may start finds (R117). -/
namespace Sys2Proof.Machine
open Sys2Proof

/-! ### Parts that stay the same -/

theorem unchangedBut_refl (l : List Part) (s : State) : unchangedBut l s s := fun p _ => by cases p <;> rfl

theorem unchangedBut.trans {l : List Part} {s t u : State} (h : unchangedBut l s t) (g : unchangedBut l t u) : unchangedBut l s u :=
  fun p hp => by cases p <;> exact (g _ hp).trans (h _ hp)

theorem unchangedBut.mono {l m : List Part} {s t : State} (h : unchangedBut l s t) (hlm : l ⊆ m) : unchangedBut m s t :=
  fun p hp => h p fun hl => hp (hlm hl)

/-! ### Events -/

theorem noteUpdate_of_closed {d : Recd} (r : EventRec) (h : d.evRing = none) : noteUpdate d r = d := by
  simp [noteUpdate, h]

/-- A closed event ring stays closed. -/
theorem noteUpdate_evRing {d : Recd} (r : EventRec) (h : d.evRing = none) : (noteUpdate d r).evRing = none := by
  rw [noteUpdate_of_closed r h, h]

theorem noteUpdate_exp (d : Recd) (r : EventRec) : (noteUpdate d r).exp = d.exp := by
  unfold noteUpdate
  split <;> rfl

/-- What an event leaves of the state: at most one counter of the Recorder's rises, and a closed event ring stays closed. -/
structure Recorded (s t : State) : Prop where
  unchanged : unchangedBut [.regs, .recd, .mram] s t
  regs : t.regs = s.regs ∨ t.regs = (bump s cRecFolded).regs ∨ t.regs = (bump s cRecEventsDropped).regs
  exp : t.recd.exp = s.recd.exp
  evRing : s.recd.evRing = none → t.recd.evRing = none

theorem recorded_refl (s : State) : Recorded s s := ⟨unchangedBut_refl _ _, .inl rfl, rfl, id⟩

/-- An occurrence is counted as folded, the Recorder and its log changed. -/
theorem recorded_folded {s : State} {d : Recd} {m : Mram} (hexp : d.exp = s.recd.exp) (hring : s.recd.evRing = none → d.evRing = none) :
    Recorded s (bump { s with recd := d, mram := m } cRecFolded) :=
  ⟨fun p hp => by cases p <;> simp_all [samePart], .inr (.inl rfl), hexp, hring⟩

theorem foldTry_recorded {s t : State} {e : EventIn} (h : foldTry s e = some t) : Recorded s t := by
  unfold foldTry at h
  split at h
  · cases h
  · split at h
    · cases h
      exact recorded_folded (noteUpdate_exp ..) fun hr => noteUpdate_evRing _ hr
    · split at h
      · cases h
      · split at h
        · cases h
        · split at h <;> cases h
          · exact recorded_folded rfl id
          · exact recorded_folded (noteUpdate_exp ..) fun hr => noteUpdate_evRing _ hr

/-- A dropped event is counted, whatever becomes of the input queue (R497). -/
theorem noteDrop_recorded (s : State) (q : List EventIn) : Recorded s (noteDrop { s with recd := { s.recd with input := q } }) :=
  ⟨fun p hp => by cases p <;> simp_all [samePart, noteDrop], .inr (.inr rfl), rfl, id⟩

/-- What an event that reaches the Recorder can do (R497). -/
theorem recArrive_recorded (s : State) (e : EventIn) : Recorded s (recArrive s e) := by
  unfold recArrive
  split
  next t ht => exact foldTry_recorded ht
  next =>
    split
    · exact ⟨fun p hp => by cases p <;> simp_all [samePart], .inl rfl, rfl, id⟩
    · split
      · exact noteDrop_recorded s _
      · exact noteDrop_recorded s s.recd.input

theorem event_recorded (s : State) (k : EvKind) (items : List (Nat × Int)) : Recorded s (event s k items) := recArrive_recorded _ _

@[simp] theorem event_hif (s : State) (k : EvKind) (l : List (Nat × Int)) : (event s k l).hif = s.hif :=
  (event_recorded s k l).unchanged .hif (by decide)

@[simp] theorem hifEvent_hif (s : State) (k : EvKind) (ring tag op : Nat) : (hifEvent s k ring tag op).hif = s.hif := event_hif ..

/-! ### Hearth takes a Slice -/

/-- The parts that enqueueing an item of Hearth may change. -/
abbrev hearthParts : List Part := [.regs, .recd, .hrt, .mram, .freeCtr]

theorem hrtTrace_unchanged (s : State) (kind core : Nat) (d : Desc) (st : Nat) : unchangedBut hearthParts s (hrtTrace s kind core d st) := by
  unfold hrtTrace
  split
  · exact unchangedBut_refl _ _
  · split <;> exact fun p hp => by cases p <;> simp_all [samePart]

theorem hrtEvent_unchanged (s : State) (k : EvKind) (core src ref st : Nat) : unchangedBut hearthParts s (hrtEvent s k core src ref st) :=
  (event_recorded s k _).unchanged.mono (by decide)

theorem bump_unchanged (s : State) (a : Nat) : unchangedBut hearthParts s (bump s a) :=
  fun p hp => by cases p <;> simp_all [samePart]

/-- A change of Hearth's own state. -/
theorem hrt_unchanged (s : State) (x : Hrt) : unchangedBut hearthParts s { s with hrt := x } :=
  fun p hp => by cases p <;> simp_all [samePart]

theorem hrtEnqueue_unchanged (s : State) (d : Desc) : unchangedBut hearthParts s (hrtEnqueue s d) := by
  unfold hrtEnqueue
  split
  · exact ((hrt_unchanged s _).trans (bump_unchanged _ _)).trans (hrtTrace_unchanged _ _ _ _ _)
  · refine .trans ?_ (hrtTrace_unchanged _ _ _ _ _)
    have held := (hrt_unchanged s { s.hrt with held := heldInsert d s.hrt.held }).trans (bump_unchanged _ cHrtCreditHold)
    split
    · exact held
    · exact (held.trans (hrt_unchanged _ _)).trans (hrtEvent_unchanged _ _ _ _ _ _)

/-- Passing Slices to Hearth changes Hearth, the Recorder and counters only (R123). -/
theorem slicePass_unchanged (s : State) : unchangedBut hearthParts s (slicePass s) := by
  unfold slicePass
  refine List.foldlRecOn _ _ (unchangedBut_refl _ _) fun t ht c _ => ht.trans ?_
  split
  · exact unchangedBut_refl _ _
  · have drawn : unchangedBut hearthParts t (drawFree t).2 := fun p hp => by cases p <;> simp_all [samePart]
    exact drawn.trans (hrtEnqueue_unchanged _ _)

@[simp] theorem slicePass_hif (s : State) : (slicePass s).hif = s.hif := slicePass_unchanged s .hif (by decide)
@[simp] theorem slicePass_out (s : State) : (slicePass s).out = s.out := slicePass_unchanged s .out (by decide)

theorem sliceItemEnd_unchanged (s : State) (core : Nat) : unchangedBut hearthParts s (sliceItemEnd s core) := by
  unfold sliceItemEnd
  split
  · exact unchangedBut_refl _ _
  · exact ((hrt_unchanged s _).trans (bump_unchanged _ _)).trans (hrtTrace_unchanged _ _ _ _ _)

@[simp] theorem sliceItemEnd_hif (s : State) (core : Nat) : (sliceItemEnd s core).hif = s.hif := sliceItemEnd_unchanged s core .hif (by decide)
@[simp] theorem sliceItemEnd_out (s : State) (core : Nat) : (sliceItemEnd s core).out = s.out := sliceItemEnd_unchanged s core .out (by decide)
@[simp] theorem sliceItemEnd_tmb (s : State) (core : Nat) : (sliceItemEnd s core).tmb = s.tmb := sliceItemEnd_unchanged s core .tmb (by decide)
@[simp] theorem sliceItemEnd_pst (s : State) (core : Nat) : (sliceItemEnd s core).pst = s.pst := sliceItemEnd_unchanged s core .pst (by decide)

/-! ### Commands in flight -/

theorem handle_of_cmdFind {s : State} {h : Nat} {c : Cmd} (hc : cmdFind s h = some c) : c.handle = h := by
  simpa using List.find?_some hc

/-- The command of a handle depends on the commands in flight only. -/
theorem cmdFind_congr {s t : State} (e : t.hif.cmds = s.hif.cmds) (h : Nat) : cmdFind t h = cmdFind s h := by
  rw [cmdFind, e, cmdFind]

/-- A change of every command in flight that keeps the handles is found under the handle. -/
theorem cmdFind_of_map {s t : State} {f : Cmd → Cmd} (e : t.hif.cmds = s.hif.cmds.map f) (h : Nat)
    (hf : ∀ c, (f c).handle == h ↔ c.handle == h) : cmdFind t h = (cmdFind s h).map f := by
  have same : (fun c : Cmd => c.handle == h) ∘ f = fun c => c.handle == h := funext fun c => Bool.eq_iff_iff.mpr (hf c)
  rw [cmdFind, e, List.find?_map, same, cmdFind]

theorem cmdFind_cmdUpd {s : State} {h : Nat} {c : Cmd} (f : Cmd → Cmd) (hc : cmdFind s h = some c) (hf : ∀ x, x.handle = h → (f x).handle = h) :
    cmdFind (cmdUpd s h f) h = some (f c) := by
  have found := cmdFind_of_map (s := s) (t := cmdUpd s h f) rfl h fun x => by
    split
    next hx => simp [hx, hf x hx]
    next => rfl
  simpa [hc, handle_of_cmdFind hc] using found

/-- A served command keeps everything but what it is owed (R123). -/
theorem cmdFind_sliceServed {s : State} {h : Nat} {x : Cmd} (c : Cmd) (hx : cmdFind s h = some x) :
    ∃ o, cmdFind (sliceServed s c) h = some { x with owed := o } := by
  have found := cmdFind_of_map (s := s) (t := sliceServed s c) rfl h fun y => by split <;> rfl
  rw [hx, Option.map_some] at found
  split at found
  · exact ⟨_, found⟩
  · exact ⟨x.owed, found⟩

theorem cmdFind_sliceOwe {s : State} {h : Nat} {x : Cmd} (hx : cmdFind s h = some x) :
    ∃ o, cmdFind (sliceOwe s h) h = some { x with owed := o } :=
  ⟨_, cmdFind_cmdUpd _ hx fun _ e => e⟩

/-- What the end of a command leaves: every command keeps its handle, SQ and opcode, and nothing but the commands in flight changes. -/
theorem endCmd_eq (s : State) (h : Nat) (st : Status) (r d : Nat) :
    ∃ f : Cmd → Cmd, (∀ c, ((f c).handle, (f c).sq, (f c).opcode) = (c.handle, c.sq, c.opcode)) ∧
      endCmd s h st r d = { s with hif := { s.hif with cmds := s.hif.cmds.map f } } := by
  have none_ends : s = { s with hif := { s.hif with cmds := s.hif.cmds.map id } } := by simp
  unfold endCmd
  split
  · exact ⟨id, fun _ => rfl, none_ends⟩
  · split
    · exact ⟨id, fun _ => rfl, none_ends⟩
    · refine ⟨_, fun c => ?_, rfl⟩
      split
      · rfl
      · split
        · rfl
        · split <;> rfl

section
variable (s : State) (h : Nat) (st : Status) (r d : Nat)

theorem endCmd_unchanged : unchangedBut [.hif] s (endCmd s h st r d) := by
  obtain ⟨f, -, e⟩ := endCmd_eq s h st r d
  rw [e]
  exact fun p hp => by cases p <;> simp_all [samePart]

@[simp] theorem endCmd_regs : (endCmd s h st r d).regs = s.regs := endCmd_unchanged s h st r d .regs (by decide)
@[simp] theorem endCmd_tmb : (endCmd s h st r d).tmb = s.tmb := endCmd_unchanged s h st r d .tmb (by decide)
@[simp] theorem endCmd_recd : (endCmd s h st r d).recd = s.recd := endCmd_unchanged s h st r d .recd (by decide)
@[simp] theorem endCmd_out : (endCmd s h st r d).out = s.out := endCmd_unchanged s h st r d .out (by decide)

@[simp] theorem endCmd_version : (endCmd s h st r d).hif.version = s.hif.version := by
  obtain ⟨f, -, e⟩ := endCmd_eq s h st r d
  rw [e]
@[simp] theorem endCmd_ready : (endCmd s h st r d).hif.ready = s.hif.ready := by
  obtain ⟨f, -, e⟩ := endCmd_eq s h st r d
  rw [e]
end

/-- A command in flight that has not ended ends as it is told (R116). -/
theorem cmdFind_endCmd {s : State} {h : Nat} {c : Cmd} (st : Status) (r d : Nat) (hc : cmdFind s h = some c) (hopen : c.ended = none) :
    cmdFind (endCmd s h st r d) h = some { c with ended := some ⟨st, r, d, s.tmb.now⟩ } := by
  simp only [endCmd, hc, hopen, Option.isSome_none, Bool.false_eq_true, if_false]
  refine (cmdFind_of_map (s := s) rfl h fun x => ?_).trans ?_
  · split
    · rfl
    · split
      · rfl
      · split <;> rfl
  · simp [hc, hopen, handle_of_cmdFind hc]

/-- A command that has ended stays as it is. -/
theorem endCmd_of_ended {s : State} {h : Nat} {c : Cmd} (st : Status) (r d : Nat) (hc : cmdFind s h = some c) (hend : c.ended.isSome) :
    endCmd s h st r d = s := by
  simp [endCmd, hc, hend]

theorem endStatus_iff {s : State} {h : Nat} {st : Status} :
    endStatus s h = some st ↔ ∃ c, cmdFind s h = some c ∧ c.ended.map (·.status) = some st := Option.bind_eq_some_iff

theorem endStatus_congr {s t : State} (e : t.hif.cmds = s.hif.cmds) (h : Nat) : endStatus t h = endStatus s h := by
  rw [endStatus, cmdFind_congr e, endStatus]

theorem endStatus_endCmd {s : State} {h : Nat} {c : Cmd} (st : Status) (r d : Nat) (hc : cmdFind s h = some c) (hopen : c.ended = none) :
    endStatus (endCmd s h st r d) h = some st := by
  simp [endStatus, cmdFind_endCmd st r d hc hopen]

theorem endResult_endCmd {s : State} {h : Nat} {c : Cmd} (st : Status) (r d : Nat) (hc : cmdFind s h = some c) (hopen : c.ended = none) :
    endResult (endCmd s h st r d) h = some r := by
  simp [endResult, cmdFind_endCmd st r d hc hopen]

/-! ### A command that may start -/

/-- The command once it has started with the data `d`. -/
def startedCmd (c : Cmd) (d : Bytes) : Cmd := { c with started := true, data := d }

/-- The state in which the effect of a started command begins (R117, R123). -/
def startedIn (s : State) (c : Cmd) (d : Bytes) : State := sliceServed (cmdUpd s c.handle fun _ => startedCmd c d) (startedCmd c d)

/-- A command that is not to be mirrored goes to no partner (R119). -/
theorem mirrorStart_of_not_mirrored {s : State} {c : Cmd} (h : s.par.state ≠ .active ∨ opMirrored c.opcode = false) : mirrorStart s c = s := by
  rcases h with h | h <;> simp [mirrorStart, h]

/-- A command that may start, its data read, does what its opcode says (R117). -/
theorem startCmd_of_canStart {s : State} {h op : Nat} {c : Cmd} (hc : CanStart s h op c) (d : Bytes) (k : State → Cmd → State) :
    startCmd s h op (some d) k = k (startedIn s c d) (startedCmd c d) := by
  obtain ⟨hfind, hop, hstarted, hopen, horder, hfence, hfree, hring, hmirror⟩ := hc
  subst hop
  obtain rfl := handle_of_cmdFind hfind
  have starts : ¬(c.opcode ≠ c.opcode ∨ c.started ∨ c.ended.isSome ∨ !orderOk s c ∨ (c.fence ∧ earlierOpen s c)) := by
    simpa [hstarted, hopen, horder] using hfence
  have free : ¬(c.sq ≠ mirrorSq ∧ unitTaken s c) := by simp [hfree]
  have unmirrored := mirrorStart_of_not_mirrored (s := startedIn s c d) (c := startedCmd c d) hmirror
  simp only [startCmd, hfind, if_neg starts, if_neg free, if_neg hring]
  exact congrArg (k · (startedCmd c d)) unmirrored

theorem canStart_open {s : State} {h op : Nat} {c : Cmd} (hc : CanStart s h op c) : c.ended = none := by
  obtain ⟨-, -, -, hopen, -⟩ := hc
  exact hopen

/-- A started command stands in flight and has not ended. -/
theorem cmdFind_startedIn {s : State} {h op : Nat} {c : Cmd} (hc : CanStart s h op c) (d : Bytes) :
    ∃ x, cmdFind (startedIn s c d) h = some x ∧ x.ended = none := by
  have hhandle := handle_of_cmdFind hc.1
  have found := cmdFind_cmdUpd (fun _ => startedCmd c d) hc.1 fun _ _ => hhandle
  subst hhandle
  obtain ⟨o, hserved⟩ := cmdFind_sliceServed (startedCmd c d) found
  have hopen := canStart_open hc
  exact ⟨_, hserved, hopen⟩

@[simp] theorem startedIn_tmb (s : State) (c : Cmd) (d : Bytes) : (startedIn s c d).tmb = s.tmb := rfl

end Sys2Proof.Machine
end

section
/-! What a tile that fails its check can do to a POINT_READ that starts (R84, R85, O8): the writes that waited for the tile are applied, and a
capture channel they trigger puts its waiting envelope into force, which ends a command. -/
namespace Sys2Proof.Machine
open Sys2Proof

/-- A POINT_READ of one point, handle 7, that has not started. -/
def readOfPoint16 : Cmd := { (default : Cmd) with handle := 7, opcode := 0x10, arg := 1 }

/-- A canonical state in which two records that belong together do not: a write of BOOL point 16 waits for tile 1, which has not failed, and
the envelope that waits in capture channel 0, armed and triggered by that point, names as its MASK_LOAD the handle of the POINT_READ. -/
def strayTileWrite : State :=
  { State.reset with
    hif := { State.reset.hif with cmds := [readOfPoint16] }
    pst := { State.reset.pst with
      map := some ⟨1, 1, [⟨16, .bool, false, false, 0, 0, none, 0, 0xFFFF⟩]⟩
      tileWrites := [⟨16, 1, none, none, qVALID, wHOST, 0, false⟩] }
    cap := { State.reset.cap with
      ch := SMap.empty.set 0 { (default : CapCh) with
        state := .armed
        desc := { (default : CapDesc) with source := 1, trig := 5, ref := 16 }
        maskNext := some (default, 7, 0) } } }

/-- The canonical form of the tables does not rule the state out. -/
theorem canonical_strayTileWrite : canonical strayTileWrite := by decide +kernel

theorem canStart_strayTileWrite : CanStart strayTileWrite 7 0x10 readOfPoint16 := by decide +kernel

/-- The read of point 16 fetches tile 1, whose check fails; its rebuilding ends the command that has just started. -/
theorem execPointRead_strayTileWrite : ∀ r, execPointRead 7 (some (leBytes 4 16)) [1] strayTileWrite = .next r → running r 7 = false := by
  intro r hexec
  obtain rfl := Host.Outcome.next.inj hexec
  decide +kernel

/-- Refutes O8: its POINT_READ clause lets the tiles fail in any state, and nothing says that the writes which wait for a tile wait for one
that has failed, or that a waiting envelope names a MASK_LOAD. In `strayTileWrite` the read ends OK at its start and does not run on. -/
theorem not_slicedCommandsStart : ¬ Obligations.SlicedCommandsStart := by
  unfold Obligations.SlicedCommandsStart
  rintro ⟨hpointRead, -⟩
  obtain ⟨r, hexec, hrun, -⟩ := hpointRead 7 readOfPoint16 (leBytes 4 16) [1] strayTileWrite canStart_strayTileWrite
  rw [execPointRead_strayTileWrite r hexec] at hrun
  cases hrun

end Sys2Proof.Machine
end

section
/-! Proofs of the host ring chapter's effects (R104, R120 to R130, O9): DESC_FETCH, COMMAND_SLICE, HOST_ACCESS_LOSS, TIME_READ and LAUNCH. -/
namespace Sys2Proof.Machine
open Sys2Proof

theorem canonical_regs {s : State} (h : canonical s) : s.regs.wf = true := by
  simp only [Bool.and_eq_true] at h
  simp only [h]

theorem canonical_sq {s : State} (h : canonical s) : s.hif.sq.wf = true := by
  simp only [Bool.and_eq_true] at h
  simp only [h]

/-! ### DESC_FETCH -/

/-- A new round of turns leaves the heads of the rings (R121). -/
theorem sqUseTurn_head {s : State} (hwf : s.hif.sq.wf = true) (n : Nat) :
    (sqUseTurn s n).hif.sq.wf = true ∧ ∀ k, ((sqUseTurn s n).hif.sq.get k).head = (s.hif.sq.get k).head := by
  have upd_left (m : SMap Sq) (k : Nat) (f : Sq → Nat) (hm : m.wf = true ∧ ∀ j, (m.get j).head = (s.hif.sq.get j).head) :
      (m.upd k fun q => { q with left := f q }).wf = true ∧
        ∀ j, ((m.upd k fun q => { q with left := f q }).get j).head = (s.hif.sq.get j).head := by
    obtain ⟨hwf, hhead⟩ := hm
    refine ⟨SMap.wf_upd m k _ hwf, fun j => ?_⟩
    by_cases hj : j = k
    · rw [hj, SMap.get_upd_self m k _ hwf, ← hhead k]
    · rw [SMap.get_upd_ne m _ hj, hhead]
  unfold sqUseTurn
  refine upd_left _ n _ ?_
  split
  · exact ⟨hwf, fun _ => rfl⟩
  · exact List.foldlRecOn _ _ ⟨hwf, fun _ => rfl⟩ fun m hm k _ => upd_left m k _ hm

theorem sqUseTurn_cmds (s : State) (n : Nat) : (sqUseTurn s n).hif.cmds = s.hif.cmds := by
  unfold sqUseTurn
  split <;> rfl

theorem sqUseTurn_nextHandle (s : State) (n : Nat) : (sqUseTurn s n).hif.nextHandle = s.hif.nextHandle := by
  unfold sqUseTurn
  split <;> rfl

theorem sqUseTurn_regs (s : State) (n : Nat) : (sqUseTurn s n).regs = s.regs := by
  unfold sqUseTurn
  split <;> rfl

/-- A ring's size stands in the registers. -/
theorem sqSize_congr {s t : State} (e : t.regs = s.regs) (n : Nat) : sqSize t n = sqSize s n := by
  simp only [sqSize, fld, stored, e]

/-- The checks of a descriptor record events and count (R134). -/
theorem fetchCheck_hif (s : State) (b : Bool) (c : Cmd) (d : Bytes) : (fetchCheck s b c d).1.hif = s.hif := by
  unfold fetchCheck
  split
  · simp
  · repeat' split
    all_goals simp

/-- The state after the descriptor `d` of SQ `n` has been read, before its checks. -/
def fetched (s : State) (n : Nat) (d : Bytes) : State :=
  let t := sqUseTurn s n
  { bump t cHifCmdFetched with hif := { t.hif with
    sq := t.hif.sq.upd n fun q => { q with head := (q.head + 1) % sqSize t n }
    nextHandle := t.hif.nextHandle + 1
    cmds := t.hif.cmds ++ [cmdOf t n d] } }

/-- A fetch that may take place puts its command in flight; a failing check ends it there (R120, R134). -/
theorem descFetch_some {s : State} {n : Nat} (d : Bytes) (hn : n < 64) (hwait : sqWaiting s n = true) (hcredit : creditOk s n = true)
    (hturn : sqTurn s n = true) :
    ∃ f : Cmd → Cmd, (∀ c, ((f c).handle, (f c).sq, (f c).opcode) = (c.handle, c.sq, c.opcode)) ∧
      (descFetch n (some d) s).hif.cmds = (fetched s n d).hif.cmds.map f ∧ (descFetch n (some d) s).hif.sq = (fetched s n d).hif.sq := by
  have checked := fetchCheck_hif (fetched s n d) (fetched s n d).par.standby (cmdOf (sqUseTurn s n) n d) d
  have goes : ¬(64 ≤ n ∨ (!sqWaiting s n) = true) := by simp [hwait, hn]
  simp only [descFetch, if_neg goes, hcredit, hturn, Bool.not_true, Bool.false_eq_true, if_false]
  split
  next st _ =>
    obtain ⟨f, hf, e⟩ := endCmd_eq (fetchCheck (fetched s n d) (fetched s n d).par.standby (cmdOf (sqUseTurn s n) n d) d).1
      (cmdOf (sqUseTurn s n) n d).handle st 0 0
    refine ⟨f, hf, ?_, ?_⟩
    · exact (congrArg (·.hif.cmds) e).trans (by rw [checked])
    · exact (congrArg (·.hif.sq) e).trans (by rw [checked])
  next => exact ⟨id, fun _ => rfl, (congrArg Hif.cmds checked).trans (List.map_id _).symm, congrArg Hif.sq checked⟩

theorem descFetch_answers {s : State} {n : Nat} (d : Bytes) (hn : n < 64) (hwait : sqWaiting s n = true) (hcredit : creditOk s n = true)
    (hturn : sqTurn s n = true) (hcan : canonical s) :
    Answers (.descFetch n (some d)) s fun r =>
      (r.hif.sq.get n).head = ((s.hif.sq.get n).head + 1) % sqSize s n ∧ r.hif.cmds.length = s.hif.cmds.length + 1 ∧
        (r.hif.cmds.getLast?.map fun c => (c.handle, c.sq, c.opcode)) = some (s.hif.nextHandle, n, le d 0 1) := by
  obtain ⟨f, hf, hcmds, hsq⟩ := descFetch_some d hn hwait hcredit hturn
  obtain ⟨hwf, hhead⟩ := sqUseTurn_head (canonical_sq hcan) n
  refine ⟨_, rfl, ?_, ?_, ?_⟩
  · rw [hsq, fetched, SMap.get_upd_self _ _ _ hwf, hhead, sqSize_congr (sqUseTurn_regs s n)]
  · simp [hcmds, fetched, sqUseTurn_cmds]
  · simp [hcmds, fetched, hf, cmdOf, sqUseTurn_nextHandle]

/-! ### COMMAND_SLICE -/

theorem sliceRunning_of {c : Cmd} (hstarted : c.started = true) (hopen : c.ended = none) (hsliced : opSliced c.opcode = true) :
    sliceRunning c = true := by
  simp [sliceRunning, hstarted, hopen, hsliced]

/-- A failed transfer ends its command with the status it failed with (R544). -/
theorem xferFail_cmds {s : State} {h : Nat} (hx : s.par.xferCmd = some h) (st : Status) :
    (xferFail s st).hif.cmds = (endCmd s h st 0 (cmdDone s h)).hif.cmds := by
  simp [xferFail, parEvent, hx]

/-- A failed foreground run changes the converter and is recorded (R369). -/
theorem temperFail_recorded (s : State) : ∃ x : Cnv, Recorded { s with cnv := x } (temperFail s) := by
  unfold temperFail
  split
  · obtain ⟨x, hx⟩ : ∃ x : Cnv, (List.range 4).foldl (fun s g => cnvUpd s g fun k => { k with gapNext := true }) s = { s with cnv := x } :=
      List.foldlRecOn (motive := fun t : State => ∃ x : Cnv, t = { s with cnv := x }) _ _ ⟨s.cnv, rfl⟩ fun t ht g _ => by
        obtain ⟨x, rfl⟩ := ht
        exact ⟨_, rfl⟩
    rw [hx]
    exact ⟨_, event_recorded ..⟩
  · exact ⟨s.cnv, recorded_refl s⟩

theorem temperFail_hif (s : State) : (temperFail s).hif = s.hif := by
  obtain ⟨x, r⟩ := temperFail_recorded s
  exact r.unchanged .hif (by decide)

/-- What a stopped sliced command leaves behind ends no command, but that of a state transfer, which fails ABORTED with it (R125). -/
theorem sliceStop_cmds (s : State) (c : Cmd) :
    (sliceStop s c).hif.cmds = s.hif.cmds ∨ (sliceStop s c).hif.cmds = (endCmd s c.handle .aborted 0 (cmdDone s c.handle)).hif.cmds := by
  unfold sliceStop
  split
  · split
    · split <;> exact .inl rfl
    · exact .inl rfl
  · split
    · split
      · exact .inl (congrArg Hif.cmds (temperFail_hif s))
      · exact .inl rfl
    · exact .inl rfl
  · split
    next hx => exact .inr (xferFail_cmds hx .aborted)
    next => exact .inl rfl
  · split <;> exact .inl rfl
  · exact .inl rfl

/-- A running command that is stopped ends ABORTED (R125). -/
theorem endStatus_sliceStop {s : State} {h : Nat} {c : Cmd} (d : Nat) (hc : cmdFind s h = some c) (hopen : c.ended = none) :
    endStatus (endCmd (sliceStop s c) h .aborted 0 d) h = some .aborted := by
  obtain rfl := handle_of_cmdFind hc
  rcases sliceStop_cmds s c with e | e
  · rw [endStatus_endCmd .aborted 0 d ((cmdFind_congr e _).trans hc) hopen]
  · have ended := (cmdFind_congr e _).trans (cmdFind_endCmd .aborted 0 (cmdDone s c.handle) hc hopen)
    rw [endCmd_of_ended .aborted 0 d ended rfl, endStatus_congr e, endStatus_endCmd .aborted 0 _ hc hopen]

theorem commandSlice_answers_abort {s : State} {h : Nat} {c : Cmd} (n : Nat) (reach torn : Bool) (hc : cmdFind s h = some c)
    (hstarted : c.started = true) (hopen : c.ended = none) (hsliced : opSliced c.opcode = true) (habort : c.abortBy ≠ [])
    (hcore : sliceCore s h = none) :
    Answers (.commandSlice h n reach torn) s fun r => endStatus r h = some .aborted := by
  have slice : commandSlice h n reach torn s = slicePass (sliceAborted (sliceDrop s h) c) := by
    simp [commandSlice, hc, sliceRunning_of hstarted hopen hsliced, hcore, habort]
  refine ⟨_, rfl, ?_⟩
  obtain rfl := handle_of_cmdFind hc
  rw [slice, endStatus_congr (congrArg Hif.cmds (slicePass_hif _)), sliceAborted]
  exact endStatus_sliceStop c.done ((cmdFind_congr (by simp [sliceDrop]) _).trans hc) hopen

/-! ### The last Slice of POINT_READ -/

/-- A read depends on the Point Store and the instant (R74). -/
theorem hostRead_congr {s t : State} (hpst : t.pst = s.pst) (htmb : t.tmb = s.tmb) (id : Nat) (shadow : Bool) :
    hostRead t id shadow = hostRead s id shadow := by
  have reads : hostRead t id shadow = hostRead { s with pst := t.pst, tmb := t.tmb } id shadow := rfl
  rw [reads, hpst, htmb]

/-- The record POINT_READ writes for its id number `i` (R127). -/
def readOut (s : State) (c : Cmd) (i : Nat) : Out := .host (c.addr2 + 32 * i) (hostRead s (le c.data (4 * i) 4) (bit c.arg2 0))

theorem readOut_congr {s t : State} (hpst : t.pst = s.pst) (htmb : t.tmb = s.tmb) (c : Cmd) (i : Nat) : readOut t c i = readOut s c i := by
  rw [readOut, hostRead_congr hpst htmb, readOut]

/-- A Slice of POINT_READ writes a record for each of its ids, in their order. -/
theorem readUnits_readOut (c : Cmd) (n : Nat) : ∀ (i k : Nat) (s : State),
    readUnits (fun s i => (send s (readOut s c i), true)) n i k s =
      (sendAll s ((List.range n).map fun j => readOut s c (i + j)), k + n) := by
  induction n with
  | zero => intro i k s; simp [readUnits, sendAll]
  | succ n ih =>
    intro i k s
    have same (j : Nat) : readOut (send s (readOut s c i)) c j = readOut s c j := readOut_congr rfl rfl c j
    have shift (j : Nat) : i + 1 + j = i + (j + 1) := by omega
    simp only [readUnits, if_true, ih, same, shift, List.range_succ_eq_map, List.map_cons, List.map_map, Prod.mk.injEq]
    exact ⟨by simp [sendAll, send, Function.comp_def], by omega⟩

/-- The last Slice of a list command ends it with OK, and what it wrote stands (R123). -/
theorem listDone_last {s : State} {h : Nat} {c : Cmd} (hc : cmdFind s h = some c) (hopen : c.ended = none) {n : Nat} (k : Nat)
    (hlast : c.total ≤ c.done + n) : (listDone s c n k).out = s.out ∧ endStatus (listDone s c n k) h = some .ok := by
  obtain rfl := handle_of_cmdFind hc
  have counted := cmdFind_cmdUpd (fun x => { x with done := c.done + n, count := k }) hc fun _ e => e
  simp only [listDone, if_neg (Nat.not_lt.mpr hlast)]
  exact ⟨endCmd_out .., endStatus_endCmd .ok k (c.done + n) counted hopen⟩

/-- The last Slice of POINT_READ writes the records of the ids left and ends the command. -/
theorem sliceRun_pointRead_last {s : State} {h : Nat} {c : Cmd} {n : Nat} (torn : Bool) (hc : cmdFind s h = some c) (hopen : c.ended = none)
    (hop : c.opcode = 0x10) (hlast : c.total ≤ c.done + n) :
    (sliceRun s c n torn).out = s.out ++ (List.range (c.total - c.done)).map (fun i => readOut s c (c.done + i)) ∧
      endStatus (sliceRun s c n torn) h = some .ok := by
  have hunits : min n (c.total - c.done) = c.total - c.done := by omega
  have units := readUnits_readOut c (c.total - c.done) c.done c.count s
  have run : sliceRun s c n torn = listDone (sendAll s ((List.range (c.total - c.done)).map fun i => readOut s c (c.done + i))) c
      (c.total - c.done) (c.count + (c.total - c.done)) := by
    simp only [sliceRun, hop, hunits]
    exact congrArg (fun r : State × Nat => listDone r.1 c (c.total - c.done) r.2) units
  rw [run]
  exact listDone_last (s := sendAll s _) hc hopen _ (by omega)

/-- The state after a Slice has run on core pair `k`, when the next ones are owed their turns (R123). -/
def afterSlice (s : State) (h k : Nat) (c : Cmd) (n : Nat) (torn : Bool) : State :=
  sliceOwe (sliceServed (sliceRun (bump (sliceItemEnd s k) cHifSlices) c n torn) c) h

/-- A Slice that ends its command leaves nothing for an ABORT to stop (R125). -/
theorem commandSlice_of_ended {s : State} {h k n : Nat} {c : Cmd} {torn : Bool} {st : Status} (hc : cmdFind s h = some c)
    (hrun : sliceRunning c = true) (hcore : sliceCore s h = some k) (hturn : sliceTurn s c = true)
    (hend : endStatus (afterSlice s h k c n torn) h = some st) : commandSlice h n true torn s = slicePass (afterSlice s h k c n torn) := by
  obtain ⟨x, hx, hst⟩ := endStatus_iff.mp hend
  have stopped : sliceRunning x = false := by
    obtain ⟨e, he, -⟩ := Option.map_eq_some_iff.mp hst
    simp [sliceRunning, he]
  unfold afterSlice at hx ⊢
  simp [commandSlice, hc, hrun, hcore, hturn, hx, stopped]

theorem commandSlice_answers_pointRead {s : State} {h k : Nat} {c : Cmd} (n : Nat) (hc : cmdFind s h = some c) (hstarted : c.started = true)
    (hopen : c.ended = none) (hop : c.opcode = 0x10) (hcore : sliceCore s h = some k) (hturn : sliceTurn s c = true)
    (hlast : c.total ≤ c.done + n) :
    Answers (.commandSlice h n true false) s fun r =>
      endStatus r h = some .ok ∧ r.out = s.out ++ (List.range (c.total - c.done)).map fun i =>
        .host (c.addr2 + 32 * (c.done + i)) (hostRead s (le c.data (4 * (c.done + i)) 4) (bit c.arg2 0)) := by
  have begun : cmdFind (bump (sliceItemEnd s k) cHifSlices) h = some c :=
    (cmdFind_congr (congrArg Hif.cmds (sliceItemEnd_hif s k)) h).trans hc
  obtain ⟨hout, hrun⟩ := sliceRun_pointRead_last false begun hopen hop hlast
  obtain ⟨x, hx, hst⟩ := endStatus_iff.mp hrun
  obtain ⟨o, hserved⟩ := cmdFind_sliceServed c hx
  obtain ⟨o', howed⟩ := cmdFind_sliceOwe hserved
  have hend : endStatus (afterSlice s h k c n false) h = some .ok := endStatus_iff.mpr ⟨_, howed, hst⟩
  have slice := commandSlice_of_ended hc (sliceRunning_of hstarted hopen (by rw [hop]; rfl)) hcore hturn hend
  refine ⟨_, rfl, ?_, ?_⟩
  · rw [slice, endStatus_congr (congrArg Hif.cmds (slicePass_hif _)), hend]
  · have reads (i : Nat) : readOut (bump (sliceItemEnd s k) cHifSlices) c i = readOut s c i :=
      readOut_congr (sliceItemEnd_pst s k) (sliceItemEnd_tmb s k) c i
    rw [slice, slicePass_out]
    simp only [reads, bump_out, sliceItemEnd_out] at hout
    exact hout

/-! ### HOST_ACCESS_LOSS -/

/-- Every ring is disabled, in a canonical register table. -/
structure RingsOff (s : State) : Prop where
  wf : s.regs.wf = true
  off : ∀ n, n < 64 → flag s (fHifSqEnable n) = false ∧ flag s (fHifCqEnable n) = false

theorem flag_congr {s t : State} (e : t.regs = s.regs) (f : Fld) : flag t f = flag s f := by
  simp only [flag, fld, stored, e]

theorem RingsOff.of_regs {s t : State} (h : RingsOff s) (e : t.regs = s.regs) : RingsOff t :=
  ⟨e ▸ h.wf, fun n hn => by simpa only [flag_congr e] using h.off n hn⟩

theorem setStored_wf {s : State} (h : s.regs.wf = true) (a : Nat) (v : Word) : (setStored s a v).regs.wf = true := SMap.wf_set _ _ _ h

/-- A field of another register keeps its value. -/
theorem flag_setStored_ne (s : State) {a : Nat} (v : Word) {f : Fld} (h : f.addr ≠ a) : flag (setStored s a v) f = flag s f := by
  simp only [flag, fld, stored_setStored_ne s v h]

/-- A flag in bit 0 that is cleared reads 0, and so does one that was clear before. -/
theorem flag_setFld_zero {s : State} (h : s.regs.wf = true) {a b : Nat} (hb : flag s ⟨b, 0, 0⟩ = false ∨ b = a) :
    flag (setFld s ⟨a, 0, 0⟩ 0) ⟨b, 0, 0⟩ = false := by
  by_cases e : b = a
  · subst e
    have clear (w : Nat) (hw : w < 2 ^ 32) : bits (BitVec.ofNat 32 (setBits w 0 0 0)).toNat 0 0 = 0 := by
      simp [bits, setBits]
      omega
    simp only [flag, fld, setFld, stored_setStored_self _ _ _ h, clear _ (stored s b).isLt]
    rfl
  · rw [setFld, flag_setStored_ne s _ e]
    exact hb.resolve_right e

/-- A register outside the HIF window's ring elements. -/
abbrev offRings (a : Nat) : Prop := a < 0x101000 ∨ 0x103000 ≤ a

theorem RingsOff.setStored {s : State} (h : RingsOff s) {a : Nat} (v : Word) (ha : offRings a) : RingsOff (setStored s a v) := by
  refine ⟨setStored_wf h.wf a v, fun n hn => ?_⟩
  have hsq : (fHifSqEnable n).addr ≠ a := by simp only [fHifSqEnable]; omega
  have hcq : (fHifCqEnable n).addr ≠ a := by simp only [fHifCqEnable]; omega
  rw [flag_setStored_ne s v hsq, flag_setStored_ne s v hcq]
  exact h.off n hn

/-- SQ and CQ `n` are disabled. -/
def ringOff (s : State) (n : Nat) : State := setFld (setFld s (fHifSqEnable n) 0) (fHifCqEnable n) 0

theorem ringOff_wf {s : State} (h : s.regs.wf = true) (n : Nat) : (ringOff s n).regs.wf = true := setStored_wf (setStored_wf h _ _) _ _

/-- Disabling a ring leaves none enabled that was not. -/
theorem flag_ringOff {s : State} (h : s.regs.wf = true) {m n : Nat}
    (hn : (flag s (fHifSqEnable n) = false ∧ flag s (fHifCqEnable n) = false) ∨ n = m) :
    flag (ringOff s m) (fHifSqEnable n) = false ∧ flag (ringOff s m) (fHifCqEnable n) = false := by
  have hwf := setStored_wf h (fHifSqEnable m).addr (BitVec.ofNat 32 (setBits (stored s (fHifSqEnable m).addr).toNat 0 0 0))
  have apart : (fHifSqEnable n).addr ≠ (fHifCqEnable m).addr := by simp only [fHifSqEnable, fHifCqEnable]; omega
  have apart' : (fHifCqEnable n).addr ≠ (fHifSqEnable m).addr := by simp only [fHifSqEnable, fHifCqEnable]; omega
  constructor
  · rw [ringOff, setFld, flag_setStored_ne _ _ apart]
    exact flag_setFld_zero h (hn.imp (·.1) fun e => by rw [e])
  · refine flag_setFld_zero hwf (hn.imp (fun e => ?_) fun e => by rw [e])
    exact (flag_setStored_ne s _ apart').trans e.2

theorem foldl_ringOff : ∀ (l : List Nat) {s : State}, s.regs.wf = true →
    (l.foldl ringOff s).regs.wf = true ∧ ∀ n, (n ∈ l ∨ flag s (fHifSqEnable n) = false ∧ flag s (fHifCqEnable n) = false) →
      flag (l.foldl ringOff s) (fHifSqEnable n) = false ∧ flag (l.foldl ringOff s) (fHifCqEnable n) = false
  | [], s, h => ⟨h, fun n hn => hn.resolve_left (List.not_mem_nil)⟩
  | m :: l, s, h => by
    obtain ⟨hwf, hoff⟩ := foldl_ringOff l (ringOff_wf h m)
    refine ⟨hwf, fun n hn => hoff n ?_⟩
    rcases hn with hn | hn
    · rcases List.mem_cons.mp hn with e | hn
      · exact .inr (flag_ringOff h (.inr e))
      · exact .inl hn
    · exact .inr (flag_ringOff h (.inl hn))

theorem ringsOff_foldl {s : State} (h : s.regs.wf = true) : RingsOff ((List.range 64).foldl ringOff s) := by
  obtain ⟨hwf, hoff⟩ := foldl_ringOff (List.range 64) h
  exact ⟨hwf, fun n hn => hoff n (.inl (List.mem_range.mpr hn))⟩

theorem foldl_ringOff_hif (l : List Nat) (s : State) : (l.foldl ringOff s).hif = s.hif :=
  List.foldlRecOn (motive := fun t : State => t.hif = s.hif) _ _ rfl fun _ ht _ _ => ht

theorem Recorded.ringsOff {s t : State} (r : Recorded s t) (h : RingsOff s) : RingsOff t := by
  rcases r.regs with e | e | e
  · exact h.of_regs e
  · exact (h.setStored _ (by decide)).of_regs e
  · exact (h.setStored _ (by decide)).of_regs e

/-- The host's access is lost: every ring disabled, no version, event ring and history transfer closed; `ready` is HIF_READY (R104). -/
structure HostLost (ready : Bool) (s : State) : Prop extends RingsOff s where
  version : s.hif.version = 0
  evRing : s.recd.evRing = none
  exp : s.recd.exp = none
  hready : s.hif.ready = ready

section
variable {ready : Bool} {s t : State}

/-- A change of other parts of the state. -/
theorem HostLost.of_parts (h : HostLost ready s) (hregs : t.regs = s.regs) (hrecd : t.recd = s.recd) (hversion : t.hif.version = s.hif.version)
    (hready : t.hif.ready = s.hif.ready) : HostLost ready t :=
  ⟨h.toRingsOff.of_regs hregs, hversion.trans h.version, by rw [hrecd, h.evRing], by rw [hrecd, h.exp], hready.trans h.hready⟩

theorem HostLost.setStored (h : HostLost ready s) {a : Nat} (v : Word) (ha : offRings a) : HostLost ready (setStored s a v) :=
  ⟨h.toRingsOff.setStored v ha, h.version, h.evRing, h.exp, h.hready⟩

theorem HostLost.bump (h : HostLost ready s) {a : Nat} (ha : offRings a) : HostLost ready (bump s a) := h.setStored _ ha

theorem Recorded.hostLost (r : Recorded s t) (h : HostLost ready s) : HostLost ready t :=
  have hhif : t.hif = s.hif := r.unchanged .hif (by decide)
  ⟨r.ringsOff h.toRingsOff, by rw [hhif, h.version], r.evRing h.evRing, r.exp.trans h.exp, by rw [hhif, h.hready]⟩

/-- Whatever becomes of the commands in flight. -/
theorem HostLost.withCmds (h : HostLost ready s) (l : List Cmd) : HostLost ready { s with hif := { s.hif with cmds := l } } :=
  h.of_parts rfl rfl rfl rfl

theorem HostLost.glbInt (h : HostLost ready s) {f : Fld} (hf : offRings f.addr) (v : Nat) : HostLost ready (glbInt s f v) :=
  (h.setStored _ hf).of_parts rfl rfl rfl rfl

theorem HostLost.endCmd (h : HostLost ready s) (n : Nat) (st : Status) (r d : Nat) : HostLost ready (endCmd s n st r d) :=
  h.of_parts (endCmd_regs ..) (endCmd_recd ..) (endCmd_version ..) (endCmd_ready ..)

theorem HostLost.temperFail (h : HostLost ready s) : HostLost ready (temperFail s) :=
  have ⟨_, r⟩ := temperFail_recorded s
  r.hostLost (h.of_parts rfl rfl rfl rfl)

theorem HostLost.xferFail (h : HostLost ready s) (st : Status) : HostLost ready (xferFail s st) := by
  refine (event_recorded ..).hostLost (.bump (a := cParTransferFails) ?_ (by decide))
  cases s.par.xferCmd with
  | none => exact h.of_parts rfl rfl rfl rfl
  | some k => exact (h.endCmd k st 0 (cmdDone s k)).of_parts rfl rfl rfl rfl

/-- Stopping a sliced command gives the host nothing back (R125). -/
theorem HostLost.sliceStop (h : HostLost ready s) (c : Cmd) : HostLost ready (sliceStop s c) := by
  unfold Machine.sliceStop
  split
  · split
    · split
      · exact h.of_parts rfl rfl rfl rfl
      · exact h
    · exact h
  · split
    · split
      · exact h.temperFail
      · exact h
    · exact h
  · split
    · exact h.xferFail _
    · exact h
  · split
    · refine HostLost.glbInt (f := fGlbIntHendel) ?_ (by decide) _
      exact h.of_parts rfl rfl rfl rfl
    · exact h
  · exact h

/-- The loss itself is counted and recorded (R104, R132). -/
theorem HostLost.linkDown (h : HostLost ready s) (link : Nat) :
    HostLost ready (statusChanged (linkEvent (Machine.bump s cHifLinkDown) evLinkDown link)) :=
  .glbInt (f := fGlbIntStatus) ((event_recorded ..).hostLost (h.bump (a := cHifLinkDown) (by decide))) (by decide) _
end

theorem advance_regs (s : State) (t : Nat) : (advance s t).regs = s.regs := by
  unfold advance
  split <;> rfl

theorem advance_hif (s : State) (t : Nat) : (advance s t).hif = s.hif := by
  unfold advance
  split <;> rfl

/-- A closed view changes the Point Store and is recorded (R104). -/
theorem viewClose_recorded (s : State) (n : Nat) :
    Recorded { s with pst := { s.pst with views := s.pst.views.set n default } } (viewClose s n) := event_recorded ..

theorem hostLost_hostAccessLoss {s : State} (link : Bool) (t : Nat) (h : s.regs.wf = true) :
    HostLost (s.hif.ready && !link) (hostAccessLoss link t s) := by
  have rings := ringsOff_foldl (s := advance s t) (by rw [advance_regs, h])
  have hif := (foldl_ringOff_hif (List.range 64) (advance s t)).trans (advance_hif s t)
  have closed : ∀ l : List (Nat × View), RingsOff (l.foldl (fun s e => viewClose s e.1) ((List.range 64).foldl ringOff (advance s t))) ∧
      (l.foldl (fun s e => viewClose s e.1) ((List.range 64).foldl ringOff (advance s t))).hif = s.hif := fun l =>
    List.foldlRecOn (motive := fun u => RingsOff u ∧ u.hif = s.hif) _ _ ⟨rings, hif⟩ fun u ⟨hu, hhif⟩ e _ =>
      have r := viewClose_recorded u e.1
      ⟨r.ringsOff (hu.of_regs rfl), (r.unchanged .hif (by decide)).trans hhif⟩
  unfold hostAccessLoss
  refine .linkDown (.withCmds ?_ _) _
  refine List.foldlRecOn (motive := HostLost (s.hif.ready && !link)) _ _ ?_ fun u hu c _ => ?_
  · obtain ⟨hoff, hhif⟩ := closed (((List.range 64).foldl ringOff (advance s t)).pst.views.entries.filter fun e => e.2.state != .closed)
    exact ⟨hoff.of_regs rfl, rfl, rfl, rfl, congrArg (·.ready && !link) hhif⟩
  · refine .endCmd (.sliceStop ?_ c) _ _ _ _
    exact hu.of_parts rfl rfl rfl rfl

theorem hostAccessLoss_answers {s : State} (link : Bool) (t : Nat) (hcan : canonical s) :
    Answers (.hostAccessLoss link t) s fun r =>
      r.hif.version = 0 ∧ (∀ n, n < 64 → flag r (fHifSqEnable n) = false ∧ flag r (fHifCqEnable n) = false) ∧ r.recd.evRing = none ∧
        r.recd.exp = none ∧ r.hif.ready = (s.hif.ready && !link) := by
  have lost := hostLost_hostAccessLoss link t (canonical_regs hcan)
  exact ⟨_, rfl, lost.version, lost.off, lost.evRing, lost.exp, lost.hready⟩

/-! ### TIME_READ and LAUNCH -/

theorem timeRead_answers {s : State} {h : Nat} {c : Cmd} (hc : CanStart s h 0x02 c) :
    Answers (.timeRead h true) s fun r =>
      endStatus r h = some .ok ∧ endResult r h = some (curEpoch s) ∧ r.out = s.out ++ [.host c.dataAddr (timeBytes s)] := by
  obtain ⟨x, hfind, hopen⟩ := cmdFind_startedIn hc []
  have start := startCmd_of_canStart hc [] fun s c => endCmd (send s (.host c.dataAddr (timeBytes s))) h .ok (curEpoch s) 0
  have inFlight : cmdFind (send (startedIn s c []) (.host c.dataAddr (timeBytes s))) h = some x := hfind
  refine ⟨_, congrArg ok start, ?_, ?_, ?_⟩
  · exact endStatus_endCmd .ok (curEpoch s) 0 inFlight hopen
  · exact endResult_endCmd .ok (curEpoch s) 0 inFlight hopen
  · exact endCmd_out ..

/-- An entry that comes in time for the timed pins enters their queue (R58, R60). -/
theorem tioEnqueue_onTime {s : State} {e : LqEntry} (hlegal : tioEntryOk e = true) (htime : s.tmb.now + 100 ≤ e.instant)
    (hroom : s.tmb.lq.length < 4096) : tioEnqueue s e = ({ s with tmb := { s.tmb with lq := lqInsert e s.tmb.lq } }, .ok) := by
  have onTime : arrival s tmbLead e = .onTime := if_neg (by simp only [tmbLead]; omega)
  simp [tioEnqueue, hlegal, onTime, noteLate, hroom]

theorem launch_answers {s : State} {h : Nat} {c : Cmd} {d : Bytes} {e : LqEntry} (hc : CanStart s h 0x58 c) (hunit : c.unit = 2)
    (harg2 : c.arg2 = 0) (harg : c.arg = 1) (hparse : lqParse (slice d 0 16) = some e) (hlegal : tioEntryOk e = true)
    (htime : s.tmb.now + 100 ≤ e.instant) (hroom : s.tmb.lq.length < 4096) :
    Answers (.launch h (some d)) s fun r => r.tmb.lq = lqInsert e s.tmb.lq ∧ endStatus r h = some .ok ∧ endResult r h = some 1 := by
  obtain ⟨x, hfind, hopen⟩ := cmdFind_startedIn hc d
  have entries : launchEntries tioEnqueue (startedCmd c d).data (startedCmd c d).arg 0 (startedIn s c d) =
      ({ startedIn s c d with tmb := { s.tmb with lq := lqInsert e s.tmb.lq } }, .ok, 1) := by
    have enters := tioEnqueue_onTime (s := startedIn s c d) hlegal htime hroom
    simp [startedCmd, harg, launchEntries, hparse, enters]
  have run : exec (.launch h (some d)) s =
      .next (endCmd { startedIn s c d with tmb := { s.tmb with lq := lqInsert e s.tmb.lq } } h .ok 1 0) := by
    refine congrArg ok ((startCmd_of_canStart hc d _).trans ?_)
    have queue : launchQueue (startedCmd c d).unit (startedCmd c d).arg2 = some tioEnqueue := by simp [startedCmd, hunit, harg2, launchQueue]
    simp only [queue, entries]
  refine ⟨_, run, ?_, ?_, ?_⟩
  · rw [endCmd_tmb]
  · exact endStatus_endCmd (s := { startedIn s c d with tmb := _ }) .ok 1 0 hfind hopen
  · exact endResult_endCmd (s := { startedIn s c d with tmb := _ }) .ok 1 0 hfind hopen

/-- Settles O9, one lemma for each clause. The last Slice of POINT_READ leaves the Point Store and the instant as the first record was read;
the loss of access keeps `HostLost` through the closing of views and the stopping of sliced commands. -/
theorem slicesAndSharedCommandsTakeEffect : Obligations.SlicesAndSharedCommandsTakeEffect := by
  unfold Obligations.SlicesAndSharedCommandsTakeEffect
  refine ⟨?descFetch, ?abort, ?pointRead, ?hostAccessLoss, ?timeRead, ?launch⟩
  case descFetch => exact fun n d s hn hwait hcredit hturn hcan => descFetch_answers d hn hwait hcredit hturn hcan
  case abort =>
    exact fun h n reach torn c s hc hstarted hopen hsliced habort hcore =>
      commandSlice_answers_abort n reach torn hc hstarted hopen hsliced habort hcore
  case pointRead =>
    exact fun h n k c s hc hstarted hopen hop _ hcore hturn _ hlast =>
      commandSlice_answers_pointRead n hc hstarted hopen hop hcore hturn hlast
  case hostAccessLoss => exact fun link t s hcan => hostAccessLoss_answers link t hcan
  case timeRead => exact fun h c s hc => timeRead_answers hc
  case launch =>
    exact fun h c d e s hc _ hunit harg2 harg hparse hlegal htime hroom => launch_answers hc hunit harg2 harg hparse hlegal htime hroom

end Sys2Proof.Machine
end

section
/-! What a table of core pairs that is out of order can do to an LREQ (R175, R235, O15): Hearth's list of the reserved launch credits reads the
table entry by entry, and finds twice an item that the table lists twice. -/
namespace Sys2Proof.Machine
open Sys2Proof

/-- A user item that has staged eight launches to axis 0's queue and is about to request a ninth: rs1 (x10) names the start of scratch, where an
entry of ACTION 1 lies, and rs2 (x11) names queue 0 of the Motion Engine. -/
def itemOfNineLaunches : Run :=
  { (default : Run) with
    user := true
    xregs := SMap.empty.set 10 (BitVec.ofNat 64 scratchBase) |>.set 11 9
    scratch := SMap.empty.set 10 1
    staged := List.replicate 8 (.launch 9 0 default []) }

/-- `LREQ x12, x10, x11` (R175). -/
def lreqWord : Word := BitVec.ofNat 32 (11 * 2 ^ 20 + 10 * 2 ^ 15 + 5 * 2 ^ 12 + 12 * 2 ^ 7 + 0x0B)

/-- Core pair 0 runs the item, but stands in the table behind core pair 1. -/
def coresOutOfOrder : State :=
  { State.reset with
    hrt := { State.reset.hrt with
      cores := ⟨[(1, { (default : Core) with retired := true }), (0, { (default : Core) with run := some itemOfNineLaunches })]⟩ } }

/-- No ordinary code has run since the last custom instruction. -/
def noOrdinaryCode : RvRun := ⟨[], [], []⟩

theorem runsInsn_coresOutOfOrder : RunsInsn coresOutOfOrder 0 lreqWord noOrdinaryCode 5 itemOfNineLaunches itemOfNineLaunches := by
  decide +kernel

/-- Eight of the sixteen credits of the queue are reserved before the instruction. Putting the item back writes a second entry of core pair 0 in
front of the first, and its eight count twice. -/
theorem lqReserved_coresOutOfOrder : (lqReserved coresOutOfOrder 9 0).length = 8 ∧
    (lqReserved (runPut coresOutOfOrder 0 itemOfNineLaunches) 9 0).length = 16 := by decide +kernel

theorem lqFull_coresOutOfOrder : lqFull coresOutOfOrder 9 0 [] (lqReserved coresOutOfOrder 9 0) = false := by
  obtain ⟨before, -⟩ := lqReserved_coresOutOfOrder
  have empty : (axOf coresOutOfOrder 0).lq = [] := by decide +kernel
  simp [lqFull, before, empty]

/-- The item finds the queue full, and stages nothing. -/
theorem execLreq_coresOutOfOrder : ∀ r, exec (.lreq 0 lreqWord noOrdinaryCode) coresOutOfOrder = .next r →
    (r.hrt.cores.get 0).run.map (·.staged) = some itemOfNineLaunches.staged := by
  intro r hexec
  obtain rfl := Host.Outcome.next.inj hexec
  decide +kernel

/-- Refutes O15: its LREQ clause has the request staged in any state whose queue has a credit left, and nothing says that the table of core
pairs lists each pair once and in order. In `coresOutOfOrder` the step that puts the item back after its ordinary code adds a second entry for
core pair 0, the eight launches it has staged count twice, and the ninth finds no credit: NO_RESOURCE, with nothing staged. -/
theorem not_customInstructionsTakeEffect : ¬ Obligations.CustomInstructionsTakeEffect := by
  unfold Obligations.CustomInstructionsTakeEffect
  rintro ⟨-, -, -, -, -, -, hlreq, -⟩
  obtain ⟨r, hexec, hrun⟩ := hlreq 0 lreqWord noOrdinaryCode itemOfNineLaunches itemOfNineLaunches 9 0 0 ⟨0, 0, false, 1, 0, none⟩
    coresOutOfOrder runsInsn_coresOutOfOrder (by decide) (by decide) (by decide) (by decide) (by decide) (by decide) (by decide)
    (by decide +kernel) (by decide) lqFull_coresOutOfOrder (by decide)
  have staged : (r.hrt.cores.get 0).run.map (·.staged) = some (itemOfNineLaunches.staged ++ [.launch 9 0 ⟨0, 0, false, 1, 0, none⟩ []]) := by
    simpa [Option.map_map, Function.comp_def] using congrArg (Option.map Prod.fst) hrun
  rw [execLreq_coresOutOfOrder r hexec] at staged
  revert staged
  decide

end Sys2Proof.Machine
end

section
/-! Laws of the shared operations the Cycle Engine's commands use (R33, R132, R152 to R154, R193, R225, R540): a change of every value of a
table, and which parts of the state the advance of the Timeline, the events of the blocks, a module's loss of control and a map that comes into
force leave alone. -/
namespace Sys2Proof
variable {α : Type} [Inhabited α] [DecidableEq α]

/-- What is found at a key of a rising list whose values have all been changed: the changed value, the default where it was left out. -/
theorem SMap.find_mapV (f : Nat → α → α) (k : Nat) : ∀ {lo : Option Nat} {t : List (Nat × α)}, SMap.rising lo t = true →
    (SMap.find k (t.filterMap fun e => if f e.1 e.2 = default then none else some (e.1, f e.1 e.2))).getD default =
      ((SMap.find k t).map (f k)).getD default
  | _, [], _ => rfl
  | lo, (j, v) :: t, h => by
    obtain ⟨-, htail⟩ := (SMap.rising_cons lo j v t).1 h
    have ih := SMap.find_mapV f k htail
    rw [List.filterMap_cons]
    by_cases hj : j = k
    · subst hj
      by_cases hv : f j v = default
      · simpa [hv, SMap.find, SMap.find_below htail (Nat.le_refl j)] using ih
      · simp [hv, SMap.find]
    · by_cases hv : f j v = default <;> simpa [hv, SMap.find, hj] using ih

/-- A change of every listed value that leaves the default as it is, is read at every key. -/
theorem SMap.get_mapV (m : SMap α) (f : Nat → α → α) (k : Nat) (hwf : m.wf = true) (hf : f k default = default) :
    (m.mapV f).get k = f k (m.get k) := by
  refine (SMap.find_mapV f k ((SMap.wf_iff m).1 hwf).1).trans ?_
  show ((SMap.find k m.entries).map (f k)).getD default = f k ((SMap.find k m.entries).getD default)
  cases SMap.find k m.entries <;> simp [hf]

end Sys2Proof

namespace Sys2Proof.Machine
open Sys2Proof

/-! ### The Timeline advances -/

/-- The Timeline never runs backward (R33). -/
theorem advance_now (s : State) (t : Nat) : (advance s t).tmb.now = max s.tmb.now t := by
  unfold advance
  split
  next h => exact (Nat.max_eq_right (Nat.le_of_lt h)).symm
  next h => exact (Nat.max_eq_left (Nat.le_of_not_lt h)).symm

theorem advance_unchanged (s : State) (t : Nat) : unchangedBut [.tmb] s (advance s t) := by
  unfold advance
  split
  · exact fun p hp => by cases p <;> simp_all [samePart]
  · exact unchangedBut_refl _ _

@[simp] theorem advance_cyc (s : State) (t : Nat) : (advance s t).cyc = s.cyc := advance_unchanged s t .cyc (by decide)

/-! ### Classes of the Cycle Engine -/

theorem canonical_classes {s : State} (h : canonical s) : s.cyc.classes.wf = true := by
  simp only [Bool.and_eq_true] at h
  simp only [h]

/-- A change of a class is read there, in a canonical table. -/
theorem clsUpd_self (s : State) (c : Nat) (f : ClassRun → ClassRun) (h : s.cyc.classes.wf = true) :
    (clsUpd s c f).cyc.classes.get c = f (s.cyc.classes.get c) := SMap.get_upd_self _ c f h

theorem clsUpd_wf (s : State) (c : Nat) (f : ClassRun → ClassRun) (h : s.cyc.classes.wf = true) :
    (clsUpd s c f).cyc.classes.wf = true := SMap.wf_upd _ c f h

/-! ### What events and outward messages leave -/

/-- The parts that an event may change (R497). -/
abbrev eventParts : List Part := [.regs, .recd, .mram]

/-- The parts that a message to another module may change (R521). -/
abbrev waligParts : List Part := [.regs, .wlk, .out]

theorem event_unchanged (s : State) (k : EvKind) (l : List (Nat × Int)) : unchangedBut eventParts s (event s k l) :=
  (event_recorded s k l).unchanged

@[simp] theorem event_cyc (s : State) (k : EvKind) (l : List (Nat × Int)) : (event s k l).cyc = s.cyc := event_unchanged s k l .cyc (by decide)
@[simp] theorem event_tmb (s : State) (k : EvKind) (l : List (Nat × Int)) : (event s k l).tmb = s.tmb := event_unchanged s k l .tmb (by decide)

/-- A branch leaves what each of its ways leaves. -/
theorem unchangedBut.ite {l : List Part} {s t u : State} {p : Prop} [Decidable p] (ht : unchangedBut l s t) (hu : unchangedBut l s u) :
    unchangedBut l s (if p then t else u) := by
  split
  · exact ht
  · exact hu

/-- Changes one after another leave what each of them leaves. -/
theorem unchangedBut_foldl {β : Type} {l : List Part} {f : State → β → State} (hf : ∀ s b, unchangedBut l s (f s b)) (bs : List β)
    (s : State) : unchangedBut l s (bs.foldl f s) :=
  List.foldlRecOn bs f (unchangedBut_refl l s) fun t ht b _ => ht.trans (hf t b)

theorem statusChanged_unchanged (s : State) : unchangedBut [.regs, .out] s (statusChanged s) :=
  fun p hp => by cases p <;> simp_all [samePart, statusChanged, glbInt]

theorem waligPut_unchanged (s : State) (p cls : Nat) (m : Bytes) : unchangedBut waligParts s (waligPut s p cls m) := by
  unfold waligPut
  refine .ite (unchangedBut_refl _ _) (.ite ?_ ?_) <;> exact fun q hq => by cases q <;> simp_all [samePart]

theorem waligSend_unchanged (s : State) (ports : List Nat) (cls typ dst : Nat) (ack : Bool) (b : Bytes) :
    unchangedBut waligParts s (waligSend s ports cls typ dst ack b) := by
  refine .trans ?_ (unchangedBut_foldl (fun t p => waligPut_unchanged t p cls _) ports _)
  exact fun p hp => by cases p <;> simp_all [samePart]

theorem mirrorSend_unchanged (s : State) (typ : Nat) (b : Bytes) : unchangedBut waligParts s (mirrorSend s typ b) := by
  unfold mirrorSend
  refine .ite (unchangedBut_refl _ _) (.trans ?_ (waligSend_unchanged _ _ _ _ _ _ _))
  exact fun p hp => by cases p <;> simp_all [samePart]

/-! ### Commands that run, and commands that wait -/

@[simp] theorem endCmd_cyc (s : State) (h : Nat) (st : Status) (r d : Nat) : (endCmd s h st r d).cyc = s.cyc :=
  endCmd_unchanged s h st r d .cyc (by decide)

/-- The command that waits for something, if one does, ends. -/
def endAwaiting (s : State) (o : Option Nat) (st : Status) : State :=
  match o with
  | some h => endCmd s h st 0 0
  | none => s

theorem endAwaiting_unchanged (s : State) (o : Option Nat) (st : Status) : unchangedBut [.hif] s (endAwaiting s o st) := by
  unfold endAwaiting
  split
  · exact endCmd_unchanged _ _ _ _ _
  · exact unchangedBut_refl _ _

@[simp] theorem endAwaiting_cyc (s : State) (o : Option Nat) (st : Status) : (endAwaiting s o st).cyc = s.cyc :=
  endAwaiting_unchanged s o st .cyc (by decide)
@[simp] theorem endAwaiting_tmb (s : State) (o : Option Nat) (st : Status) : (endAwaiting s o st).tmb = s.tmb :=
  endAwaiting_unchanged s o st .tmb (by decide)

theorem running_of {s : State} {h : Nat} {x : Cmd} (hx : cmdFind s h = some x) (hstarted : x.started = true) (hopen : x.ended = none) :
    running s h = true := by simp [running, hx, hstarted, hopen]

/-- A command that has just started runs. -/
theorem running_startedIn {s : State} {h op : Nat} {c : Cmd} (hc : CanStart s h op c) (d : Bytes) : running (startedIn s c d) h = true := by
  have hhandle := handle_of_cmdFind hc.1
  have found := cmdFind_cmdUpd (fun _ => startedCmd c d) hc.1 fun _ _ => hhandle
  subst hhandle
  obtain ⟨o, hserved⟩ := cmdFind_sliceServed (startedCmd c d) found
  have hopen := canStart_open hc
  exact running_of hserved rfl hopen

theorem running_congr {s t : State} (e : t.hif.cmds = s.hif.cmds) (h : Nat) : running t h = running s h := by
  rw [running, cmdFind_congr e, running]

/-! ### What a stop reaches -/

/-- The parts that the report of a stop may change: the commands that wait for it, the Recorder, the Interlock Engine and the pair. -/
abbrev reportParts : List Part := [.regs, .hif, .recd, .ile, .wlk, .par, .mram, .out]

/-- A module that falls out of step notes the pair's state, counts and records an event (R538). -/
theorem parUnsync_unchanged (s : State) (cause : Nat) : unchangedBut reportParts s (parUnsync s cause) := by
  unfold parUnsync
  refine .ite (unchangedBut_refl _ _) (.ite ?_ ?_) <;>
    exact .trans (fun p hp => by cases p <;> simp_all [samePart]) ((event_unchanged _ _ _).mono (by decide))

theorem pairGiveUp_unchanged (s : State) (cause : Nat) : unchangedBut reportParts s (pairGiveUp s cause) := by
  unfold pairGiveUp
  refine .ite ?_ (parUnsync_unchanged s 4)
  have told := (mirrorSend_unchanged s 6 (leBytes 8 s.tmb.now ++ leBytes 4 s.mram.token)).mono (m := reportParts) (by decide)
  have recorded (t : State) :
      unchangedBut reportParts t (parEvent (bump t cParGiveUps) evPairGaveUp cause t.tmb.now t.mram.token 0 0) :=
    .trans (fun p hp => by cases p <;> simp_all [samePart]) ((event_unchanged _ _ _).mono (by decide))
  have left (t : State) (x : Par) : unchangedBut reportParts t (statusChanged { t with par := x }) :=
    .trans (fun p hp => by cases p <;> simp_all [samePart]) ((statusChanged_unchanged _).mono (by decide))
  exact told.trans ((recorded _).trans (left _ _))

theorem ileFallbackEnter_unchanged (s : State) (reason : Nat) : unchangedBut reportParts s (ileFallbackEnter s reason) := by
  unfold ileFallbackEnter ileEnter
  refine .ite (unchangedBut_refl _ _) (.trans ?_ ((event_unchanged _ _ _).mono (by decide)))
  exact fun p hp => by cases p <;> simp_all [samePart]

/-! ### A map comes into force -/

/-- The parts that a map coming into force may change (R152, R193). -/
abbrev mapParts : List Part := [.regs, .pst, .recd, .wlk, .mram]

/-- What a map coming into force leaves of the state: the parts beside the Point Store, and the map that stands in it. -/
structure MapKept (s t : State) : Prop where
  unchanged : unchangedBut mapParts s t
  map : t.pst.map = s.pst.map

theorem mapKept_refl (s : State) : MapKept s s := ⟨unchangedBut_refl _ _, rfl⟩

theorem MapKept.trans {s t u : State} (h : MapKept s t) (g : MapKept t u) : MapKept s u :=
  ⟨h.unchanged.trans g.unchanged, g.map.trans h.map⟩

/-- A change of the Point Store that leaves the map. -/
theorem mapKept_pst {s : State} {x : Pst} (h : x.map = s.pst.map) : MapKept s { s with pst := x } :=
  ⟨fun p hp => by cases p <;> simp_all [samePart], h⟩

theorem event_mapKept (s : State) (k : EvKind) (l : List (Nat × Int)) : MapKept s (event s k l) :=
  ⟨(event_unchanged s k l).mono (by decide), congrArg Pst.map (event_unchanged s k l .pst (by decide))⟩

/-- A change of the Point Store or of the journal that an event reports. -/
theorem mapKept_event {s t : State} (h : MapKept s t) (k : EvKind) (l : List (Nat × Int)) : MapKept s (event t k l) :=
  h.trans (event_mapKept t k l)

theorem journalForce_mapKept (s : State) (id : Nat) (j : Option ForceJournal) : MapKept s (journalForce s id j) :=
  ⟨fun p hp => by cases p <;> simp_all [samePart, journalForce], rfl⟩

theorem repAnew_mapKept (s : State) (ids : List Nat) (fresh : Nat → Nat → Bool) : MapKept s (repAnew s ids fresh) :=
  ⟨fun p hp => by cases p <;> simp_all [samePart, repAnew], rfl⟩

theorem forceRestore_mapKept (s : State) (n : Nat) (j : ForceJournal) : MapKept s (forceRestore s n j).1 := by
  have dropped := mapKept_event (journalForce_mapKept s j.id none) evForceDropped [(4, j.id)]
  unfold forceRestore
  split
  · split
    · exact mapKept_pst rfl
    · exact dropped
  · exact dropped

theorem forcesRestore_mapKept (s : State) : MapKept s (forcesRestore s) := by
  unfold forcesRestore
  split
  · exact mapKept_refl s
  · dsimp only
    split
    · refine mapKept_event ?_ _ _
      exact List.foldlRecOn (motive := fun a : State × Nat => MapKept s a.1) _ _ (mapKept_pst rfl) fun a ha j _ =>
        ha.trans (forceRestore_mapKept a.1 a.2 j)
    · refine mapKept_event (.mk ?_ ?_) _ _
      · exact fun p hp => by cases p <;> simp_all [samePart]
      · rfl

theorem forceRemove_mapKept (s : State) (id : Nat) : MapKept s (forceRemove s id) := by
  unfold forceRemove
  split
  · exact mapKept_refl s
  · refine mapKept_event (.trans ?_ (journalForce_mapKept _ id none)) _ _
    exact mapKept_pst rfl

theorem switchGone_mapKept (s : State) (o : MapEntry) : MapKept s (switchGone s o) :=
  (forceRemove_mapKept s o.id).trans (mapKept_pst rfl)

theorem switchKept_mapKept (s : State) (o n : MapEntry) : MapKept s (switchKept s o n) := by
  unfold switchKept
  split
  · exact (forceRemove_mapKept s n.id).trans (mapKept_pst rfl)
  · dsimp only
    split
    · exact mapKept_pst rfl
    · split
      · refine .trans ?_ (forceRemove_mapKept _ n.id)
        exact mapKept_pst rfl
      · split
        · exact mapKept_pst rfl
        · split
          · refine mapKept_event ?_ _ _
            exact mapKept_pst rfl
          · exact mapKept_pst rfl

/-- A map that is put into the Point Store stands there, whatever leaves the map comes after (R152). -/
theorem putMap_kept {s t u : State} {n : PointMap} {x : Pst} (h : unchangedBut mapParts s t) (hx : x.map = some n)
    (g : MapKept { t with pst := x } u) : unchangedBut mapParts s u ∧ u.pst.map = some n := by
  refine ⟨(h.trans ?_).trans g.unchanged, g.map.trans hx⟩
  exact fun p hp => by cases p <;> simp_all [samePart]

theorem mapStart_forces (s : State) (n : PointMap) : unchangedBut mapParts s (mapStart s n) ∧ (mapStart s n).pst.map = some n :=
  putMap_kept (unchangedBut_refl _ s) rfl ((repAnew_mapKept _ _ _).trans (forcesRestore_mapKept _))

theorem mapSwitch_forces (s : State) (o n : PointMap) (back : List (Nat × PointRec)) :
    ∃ t x, unchangedBut mapParts s t ∧ x.map = some n ∧ MapKept { t with pst := x } (mapSwitch s o n back) := by
  refine ⟨_, _, ?_, ?_, repAnew_mapKept _ _ _⟩
  · refine unchangedBut.trans (unchangedBut_foldl (fun t e => ?_) _ s) (unchangedBut_foldl (fun t e => ?_) _ _)
    · exact .ite (unchangedBut_refl _ _) (switchGone_mapKept t e).unchanged
    · split
      · exact (switchKept_mapKept t _ e).unchanged
      · refine MapKept.unchanged ?_
        exact mapKept_pst rfl
  · rfl

/-- A map that comes into force leaves everything beside the Point Store, its journal and its replication, and stands in it (R152, R193). -/
theorem mapIntoForce_forces (s : State) (n : PointMap) : unchangedBut mapParts s (mapIntoForce s n) ∧ (mapIntoForce s n).pst.map = some n := by
  unfold mapIntoForce
  split
  · exact mapStart_forces s n
  · obtain ⟨t, x, ht, hx, kept⟩ := mapSwitch_forces s _ n []
    exact putMap_kept ht hx (kept.trans (forcesRestore_mapKept _))

end Sys2Proof.Machine
end

section
/-! Proofs of the Cycle Engine chapter's effects (R139, R142, R143, R147, R149, R152 to R154, O11): PROGRAM_START, PROGRAM_STOP, the STOP and
START launches, the latch and the deadline of a class. -/
namespace Sys2Proof.Machine
open Sys2Proof

/-! ### Stopping -/

theorem weldAbandon_eq (s : State) (st : Status) : weldAbandon s st =
    weldUpd (endAwaiting (weldEvent s evWeldAbandoned 0) (weldEvent s evWeldAbandoned 0).cyc.weld.cmd st) fun w =>
      { w with state := .none, cmd := none, lastStatus := st, dirty := [], inGap := false } := rfl

/-- An abandoned Weld changes the Weld's own record only, and ends (R200). -/
theorem weldAbandon_cyc (s : State) (st : Status) : (weldAbandon s st).cyc =
    { s.cyc with weld := { s.cyc.weld with state := .none, cmd := none, lastStatus := st, dirty := [], inGap := false } } := by
  simp [weldAbandon_eq, weldUpd, weldEvent]

theorem weldAbandon_tmb (s : State) (st : Status) : (weldAbandon s st).tmb = s.tmb := by
  simp [weldAbandon_eq, weldUpd, weldEvent]

/-- The end of a probation leaves the classes and the Timeline, and no Weld runs on (R196, R200). -/
theorem probationEnd_keeps (s : State) (st : Status) : (probationEnd s st).cyc.weld.state = .none ∧
    (probationEnd s st).cyc.classes = s.cyc.classes ∧ (probationEnd s st).tmb = s.tmb := by
  unfold probationEnd
  dsimp only
  split <;> simp [weldUpd]

/-- An on-line change under way ends as the program stops (R200). -/
def changeEnded (s : State) : State := if weldBefore s then weldAbandon s .aborted else if weldAfter s then probationEnd s .aborted else s

theorem changeEnded_keeps (s : State) :
    (changeEnded s).cyc.weld.state = .none ∧ (changeEnded s).cyc.classes = s.cyc.classes ∧ (changeEnded s).tmb = s.tmb := by
  unfold changeEnded
  split
  · simp [weldAbandon_cyc, weldAbandon_tmb]
  next hbefore =>
    split
    · exact probationEnd_keeps s .aborted
    next hafter =>
      refine ⟨?_, rfl, rfl⟩
      cases hw : s.cyc.weld.state <;> simp_all [weldBefore, weldAfter]

/-- What the stop leaves of a class: no instant but its deadlines, and it latches no more (R153). -/
def classStopped (r : ClassRun) : ClassRun := { r with active := false, lq := r.lq.filter (·.action == 2) }

/-- The program has stopped: the Cycle Engine's own record (R153, R154). -/
def programStopped (s : State) (r : StopReason) : State :=
  { s with cyc := { s.cyc with state := .stopped, stopReason := r, stopAt := none, classes := s.cyc.classes.mapV fun _ => classStopped } }

/-- The stop is recorded, and PROGRAM_START and PROGRAM_STOP end where they wait. -/
def stopReported (s : State) (r : StopReason) : State :=
  let s := statusChanged (recArrive s ⟨s.tmb.now, curEpoch s, 4, if r = .command then 3 else 6, evProgramStopped.code, 0,
    packItems [(2, 0), (4, 0), (4, 0), (2, s.cyc.slot)], false⟩)
  let s := endAwaiting s s.cyc.startCmd .aborted
  endAwaiting s s.cyc.stopCmd .ok

/-- A stop other than by command reaches the Interlock Engine and the pair (R154, R225, R540). -/
def stopHandedOver (s : State) (r : StopReason) : State :=
  let s := if r = .watchdog then bump s cCycWatchdogStops else s
  let s := if stopFallback r then ileFallbackEnter s r.code else s
  if r = .watchdog ∨ r = .poolMin then pairGiveUp s r.code else s

/-- No command waits for the program any more. -/
def noneAwait (s : State) : State := { s with cyc := { s.cyc with startCmd := none, stopCmd := none } }

theorem cycStop_eq (s : State) (r : StopReason) :
    cycStop s r = stopHandedOver (noneAwait (stopReported (programStopped (changeEnded s) r) r)) r := rfl

theorem stopReported_unchanged (s : State) (r : StopReason) : unchangedBut reportParts s (stopReported s r) := by
  unfold stopReported
  have recorded (e : EventIn) : unchangedBut reportParts s (statusChanged (recArrive s e)) :=
    ((recArrive_recorded s e).unchanged.mono (by decide)).trans ((statusChanged_unchanged _).mono (by decide))
  have answered (t : State) (o : Option Nat) (st : Status) : unchangedBut reportParts t (endAwaiting t o st) :=
    (endAwaiting_unchanged t o st).mono (by decide)
  exact ((recorded _).trans (answered _ _ _)).trans (answered _ _ _)

theorem stopHandedOver_unchanged (s : State) (r : StopReason) : unchangedBut reportParts s (stopHandedOver s r) := by
  have counted : unchangedBut reportParts s (if r = .watchdog then bump s cCycWatchdogStops else s) :=
    .ite (fun p hp => by cases p <;> simp_all [samePart]) (unchangedBut_refl _ _)
  have fallen (t : State) : unchangedBut reportParts t (if stopFallback r then ileFallbackEnter t r.code else t) :=
    .ite (ileFallbackEnter_unchanged t r.code) (unchangedBut_refl _ _)
  exact (counted.trans (fallen _)).trans (.ite (pairGiveUp_unchanged _ r.code) (unchangedBut_refl _ _))

/-- What a stop leaves of the Cycle Engine and of the Timeline (R153, R154). -/
theorem cycStop_keeps (s : State) (r : StopReason) :
    (cycStop s r).cyc = (noneAwait (programStopped (changeEnded s) r)).cyc ∧ (cycStop s r).tmb = s.tmb := by
  obtain ⟨-, -, htmb⟩ := changeEnded_keeps s
  have reported := stopReported_unchanged (programStopped (changeEnded s) r) r
  have handed := stopHandedOver_unchanged (noneAwait (stopReported (programStopped (changeEnded s) r) r)) r
  rw [cycStop_eq]
  constructor
  · rw [handed .cyc (by decide), noneAwait, reported .cyc (by decide), noneAwait]
  · exact ((handed .tmb (by decide)).trans (reported .tmb (by decide))).trans htmb

/-- A class after a stop: what the stop leaves of it (R153). -/
theorem cycStop_class (s : State) (r : StopReason) (c : Nat) (h : s.cyc.classes.wf = true) :
    (cycStop s r).cyc.classes.get c = classStopped (s.cyc.classes.get c) := by
  obtain ⟨-, hclasses, -⟩ := changeEnded_keeps s
  rw [(cycStop_keeps s r).1]
  show ((changeEnded s).cyc.classes.mapV fun _ => classStopped).get c = _
  rw [hclasses, SMap.get_mapV _ _ _ h rfl]

/-! ### PROGRAM_START -/

/-- The map of a slot comes into force, and the Interlock Engine notes the points it has lost (R152, R223). -/
def slotMapForced (s : State) (slot : Nat) : State :=
  match (s.cyc.slots.get slot).map with
  | some n => ileRefsNote (mapIntoForce s n)
  | none => s

theorem ileRefsNote_unchanged (s : State) : unchangedBut [.regs, .recd, .ile, .mram] s (ileRefsNote s) := by
  unfold ileRefsNote
  split
  · exact unchangedBut_refl _ _
  · refine .trans ?_ (unchangedBut_foldl (fun t id => (event_unchanged t _ _).mono (by decide)) _ _)
    exact fun p hp => by cases p <;> simp_all [samePart]

theorem slotMapForced_keeps {s : State} {slot : Nat} {n : PointMap} (h : (s.cyc.slots.get slot).map = some n) :
    (slotMapForced s slot).pst.map = some n ∧ (slotMapForced s slot).hif = s.hif := by
  obtain ⟨unchanged, hmap⟩ := mapIntoForce_forces s n
  have noted := ileRefsNote_unchanged (mapIntoForce s n)
  simp only [slotMapForced, h]
  exact ⟨(congrArg Pst.map (noted .pst (by decide))).trans hmap, (noted .hif (by decide)).trans (unchanged .hif (by decide))⟩

/-- The start of a program is recorded, a PERSIST image becomes the boot program, and fallback is to end (R152, R226, R557). -/
def startReported (s : State) (slot first : Nat) (persist : Bool) : State :=
  let s := statusChanged (cycEvent s evProgramStarted 0 0 0 slot)
  let s := if persist then bootProgram s slot else s
  ileProgramStarted s first

theorem bootProgram_unchanged (s : State) (slot : Nat) : unchangedBut [.hdl] s (bootProgram s slot) := by
  unfold bootProgram
  split
  · refine .ite (unchangedBut_refl _ _) ?_
    exact fun p hp => by cases p <;> simp_all [samePart, bootPend]
  · exact unchangedBut_refl _ _

theorem startReported_unchanged (s : State) (slot first : Nat) (persist : Bool) :
    unchangedBut [.regs, .recd, .ile, .mram, .out, .hdl] s (startReported s slot first persist) := by
  have recorded : unchangedBut [.regs, .recd, .ile, .mram, .out, .hdl] s (statusChanged (cycEvent s evProgramStarted 0 0 0 slot)) :=
    ((event_unchanged _ _ _).mono (by decide)).trans ((statusChanged_unchanged _).mono (by decide))
  have booted (t : State) : unchangedBut [.regs, .recd, .ile, .mram, .out, .hdl] t (if persist then bootProgram t slot else t) :=
    .ite ((bootProgram_unchanged t slot).mono (by decide)) (unchangedBut_refl _ _)
  have handed (t : State) : unchangedBut [.regs, .recd, .ile, .mram, .out, .hdl] t (ileProgramStarted t first) :=
    .ite (fun p hp => by cases p <;> simp_all [samePart]) (unchangedBut_refl _ _)
  exact (recorded.trans (booted _)).trans (handed _)

/-- A program begins: the slot's map is forced, the Cycle Engine's record is set anew, and the start is reported (R152). -/
theorem cycBegin_eq (s : State) (slot from' : Nat) (cmd : Option Nat) (auto : Bool) :
    ∃ (x : Cyc) (first : Nat) (persist : Bool), x.state = .running ∧ x.slot = slot ∧ x.startCmd = cmd ∧ x.stopReason = .none ∧
      cycBegin s slot from' cmd auto = startReported { slotMapForced s slot with cyc := x } slot first persist :=
  ⟨_, _, _, rfl, rfl, rfl, rfl, rfl⟩

/-- PROGRAM_START passes its checks (R152). -/
theorem programStart_of_checks {s : State} {c : Cmd} {m : Image} {p : PointMap} (hret : s.hdl.otp.returned = false)
    (hstate : s.cyc.state ≠ .running) (hpend : anyPending s = false) (himage : (s.cyc.slots.get c.unit).image = some m)
    (hmap : (s.cyc.slots.get c.unit).map = some p) (hbuild : p.build = m.mapBuild) :
    programStart s c = cycBegin s c.unit (max (s.tmb.now + 200000) c.instant) (some c.handle) false := by
  simp [programStart, hret, hstate, hpend, himage, hmap, hbuild]

theorem programStart_answers {s : State} {h : Nat} {c : Cmd} {m : Image} {p : PointMap} (hc : CanStart s h 0x21 c)
    (hret : s.hdl.otp.returned = false) (hstate : s.cyc.state ≠ .running) (hpend : anyPending s = false)
    (himage : (s.cyc.slots.get c.unit).image = some m) (hmap : (s.cyc.slots.get c.unit).map = some p) (hbuild : p.build = m.mapBuild) :
    Answers (.programStart h) s fun r =>
      r.cyc.state = .running ∧ r.cyc.slot = c.unit ∧ r.pst.map = some p ∧ r.cyc.startCmd = some h ∧ r.cyc.stopReason = .none ∧
        running r h = true := by
  have begins := programStart_of_checks (s := startedIn s c []) (c := startedCmd c []) hret hstate hpend himage hmap hbuild
  obtain ⟨x, first, persist, hx, hslot, hcmd, hreason, hbegin⟩ := cycBegin_eq (startedIn s c []) c.unit
    (max ((startedIn s c []).tmb.now + 200000) c.instant) (some c.handle) false
  have run : exec (.programStart h) s = .next (startReported { slotMapForced (startedIn s c []) c.unit with cyc := x } c.unit first persist) :=
    congrArg ok ((startCmd_of_canStart hc [] programStart).trans (begins.trans hbegin))
  obtain ⟨hforced, hhif⟩ := slotMapForced_keeps (s := startedIn s c []) (slot := c.unit) hmap
  have reported := startReported_unchanged { slotMapForced (startedIn s c []) c.unit with cyc := x } c.unit first persist
  have hcyc : (startReported { slotMapForced (startedIn s c []) c.unit with cyc := x } c.unit first persist).cyc = x := reported .cyc (by decide)
  refine ⟨_, run, ?_, ?_, ?_, ?_, ?_, ?_⟩
  · rw [hcyc, hx]
  · rw [hcyc, hslot]
  · exact (congrArg Pst.map (reported .pst (by decide))).trans hforced
  · rw [hcyc, hcmd, handle_of_cmdFind hc.1]
  · rw [hcyc, hreason]
  · have hcmds := congrArg Hif.cmds ((reported .hif (by decide)).trans hhif)
    exact (running_congr hcmds h).trans (running_startedIn hc [])

/-! ### PROGRAM_STOP and the STOP launch -/

/-- A Weld that has not switched ends with PROGRAM_STOP (R200). -/
def weldEndedBefore (s : State) : State := if weldBefore s then weldAbandon s .aborted else s

theorem weldEndedBefore_keeps (s : State) :
    weldBefore (weldEndedBefore s) = false ∧ (weldEndedBefore s).cyc.state = s.cyc.state := by
  unfold weldEndedBefore
  split
  · simp [weldBefore, weldAbandon_cyc]
  next h => exact ⟨Bool.eq_false_iff.mpr h, rfl⟩

theorem programStop_answers {s : State} {h : Nat} {c : Cmd} (hc : CanStart s h 0x22 c) (hrun : s.cyc.state = .running) :
    Answers (.programStop h) s fun r =>
      r.cyc.stopAt = some (max c.instant s.tmb.now) ∧ r.cyc.stopCmd = some h ∧ weldBefore r = false ∧ r.cyc.state = .running := by
  obtain ⟨hweld, hstate⟩ := weldEndedBefore_keeps (startedIn s c [])
  have notes : ∃ k, programStop (startedIn s c []) (startedCmd c []) =
      { weldEndedBefore (startedIn s c []) with cyc := { (weldEndedBefore (startedIn s c [])).cyc with
        stopAt := some (max c.instant s.tmb.now), stopCmd := some c.handle, classes := k } } :=
    ⟨_, if_neg (not_not_intro hrun)⟩
  obtain ⟨k, hk⟩ := notes
  have run := congrArg ok ((startCmd_of_canStart hc [] programStop).trans hk)
  exact ⟨_, run, rfl, congrArg some (handle_of_cmdFind hc.1), hweld, hstate.trans hrun⟩

theorem cycStop_answers {s : State} {i : Nat} (hrun : s.cyc.state = .running) (hstop : s.cyc.stopAt = some i) :
    Answers (.cycStop) s fun r =>
      r.cyc.state = .stopped ∧ r.cyc.stopReason = .command ∧ r.cyc.stopAt = none ∧ r.cyc.weld.state = .none ∧
        r.tmb.now = max s.tmb.now i := by
  have run : exec .cycStop s = .next (cycStop (advance s i) .command) := by
    show execCycStop s = _
    simp only [execCycStop, hstop, hrun, if_true, ok]
  obtain ⟨hcyc, htmb⟩ := cycStop_keeps (advance s i) .command
  obtain ⟨hweld, -, -⟩ := changeEnded_keeps (advance s i)
  refine ⟨_, run, ?_, ?_, ?_, ?_, ?_⟩
  · rw [hcyc]; rfl
  · rw [hcyc]; rfl
  · rw [hcyc]; rfl
  · rw [hcyc]; exact hweld
  · rw [htmb, advance_now]

/-! ### The START launch -/

theorem cycStart_answers {s : State} {c : Nat} {e : LqEntry} {t : List LqEntry} (hcan : canonical s) (hrun : s.cyc.state = .running)
    (hauto : s.cyc.autoStarting = false) (hlq : (s.cyc.classes.get c).lq = e :: t) (he : e.action = 3) :
    Answers (.cycStart c) s fun r =>
      r.tmb.now = max s.tmb.now e.instant ∧ (r.cyc.classes.get c).active = true ∧ (r.cyc.classes.get c).lq = t := by
  have run : exec (.cycStart c) s = .next (clsUpd (advance s e.instant) c fun r => { r with lq := t, active := true }) := by
    show execCycStart c s = _
    simp [execCycStart, hlq, he, hrun, hauto, clsUpd, ok]
  have started := clsUpd_self (advance s e.instant) c (fun r => { r with lq := t, active := true }) (by simpa using canonical_classes hcan)
  exact ⟨_, run, advance_now s e.instant, by rw [started], by rw [started]⟩

/-! ### The latch -/

/-- A class whose grid has not moved keeps its entries (R140). -/
theorem regrid_of_same {s : State} {c : Nat} (h : gridOffset s (s.cyc.classes.get c).info = (s.cyc.classes.get c).domOff) :
    regrid s c = s := by simp [regrid, h]

/-- No Weld or revert seeks an instant: none takes this one (R190, R198). -/
theorem weldCandidate_of_not_seeking {s : State} {c t0 : Nat} (hwait : s.cyc.weld.state ≠ .waiting) (hrevert : s.cyc.weld.state ≠ .reverting) :
    weldCandidate s c t0 = none := by simp [weldCandidate, hwait, hrevert]

theorem weldDeferred_of_not_seeking {s : State} {c : Nat} (hwait : s.cyc.weld.state ≠ .waiting) (hrevert : s.cyc.weld.state ≠ .reverting) :
    weldDeferred s c = s := by simp [weldDeferred, hwait, hrevert]

theorem advance_avail (s : State) (t : Nat) : hrtAvailable (advance s t) = hrtAvailable s := by
  rw [hrtAvailable, advance_unchanged s t .hrt (by decide), hrtAvailable]

theorem advance_fld (s : State) (t : Nat) (f : Fld) : fld (advance s t) f = fld s f := by
  simp only [fld, stored, advance_regs]

/-- A class's cycle has begun at `t0`, before its items are enqueued (R143, R234). -/
def cycleBegun (s : State) (c t0 : Nat) : State :=
  let r := s.cyc.classes.get c
  let img := r.info.inputs.foldl (fun m id => m.set id (some (readPoint s id t0))) (SMap.empty : SMap (Option PointRec))
  let stale := (r.info.inputs.filter fun id => hasQ (readPoint s id t0).qual qSTALE).length
  clsUpd (bumpN s cCycLatchStale stale) c fun r => { r with
    latched := true
    t0 := t0
    image := img
    pending := r.info.itemCount
    ovr := false
    lq := lqInsert (cycEntry (deadlineOf r.info t0) 2 c) r.lq }

/-- The PROGRAM_START that waits for the first latch ends (R152). -/
def startAnswered (s : State) : State :=
  match s.cyc.startCmd with
  | some h => endCmd { s with cyc := { s.cyc with startCmd := none } } h .ok 0 0
  | none => s

theorem startAnswered_keeps (s : State) :
    (startAnswered s).cyc = { s.cyc with startCmd := none } ∧ (startAnswered s).tmb = s.tmb := by
  unfold startAnswered
  split
  · simp
  next h => exact ⟨by rw [← h], rfl⟩

/-- Enqueueing the items without predecessors leaves the Cycle Engine and the Timeline (R234). -/
theorem latchClass_eq (s : State) (c t0 : Nat) :
    ∃ t, unchangedBut hearthParts (cycleBegun s c t0) t ∧ latchClass s c t0 = startAnswered t := by
  refine ⟨_, ?_, rfl⟩
  refine .trans ?_ (unchangedBut_foldl (fun t i => hrtEnqueue_unchanged t _) _ _)
  exact hrt_unchanged _ _

theorem latchClass_keeps (s : State) (c t0 : Nat) :
    (latchClass s c t0).cyc = { (cycleBegun s c t0).cyc with startCmd := none } ∧ (latchClass s c t0).tmb = s.tmb := by
  obtain ⟨t, ht, hlatch⟩ := latchClass_eq s c t0
  obtain ⟨hcyc, htmb⟩ := startAnswered_keeps t
  rw [hlatch, hcyc, htmb, ht .cyc (by decide)]
  exact ⟨rfl, ht .tmb (by decide)⟩

/-- The class as its cycle begins (R143). -/
theorem latchClass_class {s : State} (c t0 : Nat) (h : s.cyc.classes.wf = true) :
    ((latchClass s c t0).cyc.classes.get c).latched = true ∧ ((latchClass s c t0).cyc.classes.get c).t0 = t0 ∧
      ((latchClass s c t0).cyc.classes.get c).pending = (s.cyc.classes.get c).info.itemCount ∧
      ((latchClass s c t0).cyc.classes.get c).ovr = false := by
  have kept : (latchClass s c t0).cyc.classes.get c = (cycleBegun s c t0).cyc.classes.get c := by rw [(latchClass_keeps s c t0).1]
  have begun := kept.trans (clsUpd_self _ c _ h)
  rw [begun]
  exact ⟨rfl, rfl, rfl, rfl⟩

/-- The LATCH entry leaves the class's queue and the next one enters it (R142, R153). -/
def entryMoved (s : State) (c : Nat) (e : LqEntry) : State := pushLatch (clsUpd s c fun r => { r with lq := r.lq.erase e }) c e.instant

theorem entryMoved_keeps {s : State} {c : Nat} (e : LqEntry) (h : s.cyc.classes.wf = true) :
    (entryMoved s c e).cyc.classes.wf = true ∧ ((entryMoved s c e).cyc.classes.get c).info = (s.cyc.classes.get c).info ∧
      (entryMoved s c e).cyc.state = s.cyc.state ∧ (entryMoved s c e).tmb = s.tmb := by
  have erased := clsUpd_wf s c (fun r => { r with lq := r.lq.erase e }) h
  refine ⟨clsUpd_wf _ c _ erased, ?_, rfl, rfl⟩
  rw [entryMoved, pushLatch, clsUpd_self _ c _ erased, clsUpd_self _ c _ h]

/-- With pairs enough, nothing that seeks the instant and no item pending, the class's cycle begins (R143). -/
theorem cycLatch_begins {s : State} {c : Nat} {e : LqEntry} (hrun : s.cyc.state = .running)
    (hgrid : gridOffset s (s.cyc.classes.get c).info = (s.cyc.classes.get c).domOff) (hentry : latchEntry (s.cyc.classes.get c) = some e)
    (hpool : fld s fCycCtrlPoolMin ≤ hrtAvailable s) (hwait : s.cyc.weld.state ≠ .waiting) (hswitch : s.cyc.weld.state ≠ .switching)
    (hrevert : s.cyc.weld.state ≠ .reverting) (hpend : (s.cyc.classes.get c).pending = 0) :
    cycLatch c s = latchClass (entryMoved (advance s e.instant) c e) c e.instant := by
  have latches : ¬(s.cyc.state ≠ .running ∨ inGap s) := by simp [hrun, inGap, hswitch, hrevert]
  have pool : ¬hrtAvailable (advance s e.instant) < fld (advance s e.instant) fCycCtrlPoolMin := by
    simpa [advance_avail, advance_fld] using hpool
  have candidate := weldCandidate_of_not_seeking (s := advance s e.instant) (c := c) (t0 := e.instant) (by simpa using hwait) (by simpa using hrevert)
  have deferred := weldDeferred_of_not_seeking (s := advance s e.instant) (c := c) (by simpa using hwait) (by simpa using hrevert)
  simp only [cycLatch, if_neg latches, regrid_of_same hgrid, hentry, if_neg pool, candidate, deferred, hpend, Nat.lt_irrefl, if_false, entryMoved]

theorem cycLatch_answers {s : State} {c : Nat} {e : LqEntry} (hcan : canonical s) (hrun : s.cyc.state = .running)
    (hgrid : gridOffset s (s.cyc.classes.get c).info = (s.cyc.classes.get c).domOff) (hentry : latchEntry (s.cyc.classes.get c) = some e)
    (hpool : fld s fCycCtrlPoolMin ≤ hrtAvailable s) (hwait : s.cyc.weld.state ≠ .waiting) (hswitch : s.cyc.weld.state ≠ .switching)
    (hrevert : s.cyc.weld.state ≠ .reverting) (hpend : (s.cyc.classes.get c).pending = 0) :
    Answers (.cycLatch c) s fun r =>
      r.tmb.now = max s.tmb.now e.instant ∧ (r.cyc.classes.get c).latched = true ∧ (r.cyc.classes.get c).t0 = e.instant ∧
        (r.cyc.classes.get c).pending = (s.cyc.classes.get c).info.itemCount ∧ (r.cyc.classes.get c).ovr = false ∧ r.cyc.startCmd = none ∧
        r.cyc.state = .running := by
  have run := congrArg ok (cycLatch_begins hrun hgrid hentry hpool hwait hswitch hrevert hpend)
  obtain ⟨hwf, hinfo, hstate, htmb⟩ := entryMoved_keeps (s := advance s e.instant) (c := c) e (by simpa using canonical_classes hcan)
  obtain ⟨hcyc, hnow⟩ := latchClass_keeps (entryMoved (advance s e.instant) c e) c e.instant
  obtain ⟨hlatched, ht0, hitems, hovr⟩ := latchClass_class c e.instant hwf
  refine ⟨_, run, ?_, hlatched, ht0, ?_, hovr, ?_, ?_⟩
  · rw [hnow, htmb, advance_now]
  · rw [hitems, hinfo, advance_cyc]
  · rw [hcyc]
  · rw [hcyc]
    exact hstate.trans (by rw [advance_cyc, hrun])

theorem cycLatch_answers_poolMin {s : State} {c : Nat} {e : LqEntry} (hrun : s.cyc.state = .running)
    (hgrid : gridOffset s (s.cyc.classes.get c).info = (s.cyc.classes.get c).domOff) (hentry : latchEntry (s.cyc.classes.get c) = some e)
    (hpool : hrtAvailable s < fld s fCycCtrlPoolMin) (hgap : inGap s = false) :
    Answers (.cycLatch c) s fun r =>
      r.tmb.now = max s.tmb.now e.instant ∧ r.cyc.state = .stopped ∧ r.cyc.stopReason = .poolMin := by
  have latches : ¬(s.cyc.state ≠ .running ∨ inGap s) := by simp [hrun, hgap]
  have pool : hrtAvailable (advance s e.instant) < fld (advance s e.instant) fCycCtrlPoolMin := by
    simpa [advance_avail, advance_fld] using hpool
  have stops : cycLatch c s = cycStop (advance s e.instant) .poolMin := by
    simp only [cycLatch, if_neg latches, regrid_of_same hgrid, hentry, if_pos pool]
  obtain ⟨hcyc, htmb⟩ := cycStop_keeps (advance s e.instant) .poolMin
  refine ⟨_, congrArg ok stops, ?_, ?_, ?_⟩
  · rw [htmb, advance_now]
  · rw [hcyc]; rfl
  · rw [hcyc]; rfl

/-! ### The deadline -/

/-- A trigger of a revert leaves the classes and the Timeline (R197). -/
theorem weldTrigger_keeps (s : State) (t : WeldTrigger) :
    (weldTrigger s t).cyc.classes = s.cyc.classes ∧ (weldTrigger s t).tmb = s.tmb := by
  unfold weldTrigger
  split
  · exact ⟨rfl, rfl⟩
  · exact ⟨rfl, rfl⟩

/-- The watch over a class's cycles leaves whether the cycle has overrun, its pending items, and the Timeline, even where it stops the program
(R149). -/
theorem watchCycle_keeps (s : State) (c : Nat) (h : s.cyc.classes.wf = true) :
    ((watchCycle s c).cyc.classes.get c).ovr = (s.cyc.classes.get c).ovr ∧
      ((watchCycle s c).cyc.classes.get c).pending = (s.cyc.classes.get c).pending ∧ (watchCycle s c).tmb = s.tmb := by
  have counted := clsUpd_self s c (fun r => { r with wd := min (r.wd + 1) 255 }) h
  have wf := clsUpd_wf s c (fun r => { r with wd := min (r.wd + 1) 255 }) h
  unfold watchCycle
  dsimp only
  split
  · rw [counted]
    exact ⟨rfl, rfl, rfl⟩
  · split
    · obtain ⟨hclasses, htmb⟩ := weldTrigger_keeps (clsUpd s c fun r => { r with wd := min (r.wd + 1) 255 }) .watchdog
      rw [hclasses, counted, htmb]
      exact ⟨rfl, rfl, rfl⟩
    · rw [cycStop_class _ _ c wf, counted, (cycStop_keeps _ _).2]
      exact ⟨rfl, rfl, rfl⟩

/-- The deadline's entry has left the queue at its instant. -/
def deadlineReached (s : State) (c : Nat) (e : LqEntry) : State := clsUpd (advance s e.instant) c fun r => { r with lq := r.lq.erase e }

theorem deadlineReached_class {s : State} (c : Nat) (e : LqEntry) (h : s.cyc.classes.wf = true) :
    (deadlineReached s c e).cyc.classes.get c = { s.cyc.classes.get c with lq := (s.cyc.classes.get c).lq.erase e } := by
  rw [deadlineReached, clsUpd_self _ c _ (by simpa using h), advance_cyc]

theorem cycDeadline_answers {s : State} {c : Nat} {e : LqEntry} (hcan : canonical s)
    (hentry : (s.cyc.classes.get c).lq.find? (·.action == 2) = some e) (hpend : (s.cyc.classes.get c).pending = 0) :
    Answers (.cycDeadline c) s fun r =>
      r.tmb.now = max s.tmb.now e.instant ∧ (r.cyc.classes.get c).lq = (s.cyc.classes.get c).lq.erase e ∧ r.cyc.state = s.cyc.state := by
  have run : exec (.cycDeadline c) s = .next (deadlineReached s c e) :=
    congrArg ok (by simp only [cycDeadline, hentry, hpend, true_or, if_true, deadlineReached])
  refine ⟨_, run, advance_now s e.instant, ?_, ?_⟩
  · rw [deadlineReached_class c e (canonical_classes hcan)]
  · show (advance s e.instant).cyc.state = s.cyc.state
    rw [advance_cyc]

/-- The overrun is noted: marked in the class, counted, recorded, and a trigger of a revert (R149, R197). -/
def overrunNoted (s : State) (c : Nat) : State :=
  let s := clsUpd s c fun r => { r with ovr := true }
  weldTrigger (cycEvent (bump s cCycOverrun) evCycleOverrun c 0 0 s.cyc.slot) .overrun

theorem overrunNoted_keeps {s : State} (c : Nat) (h : s.cyc.classes.wf = true) :
    (overrunNoted s c).cyc.classes.wf = true ∧ (overrunNoted s c).cyc.classes.get c = { s.cyc.classes.get c with ovr := true } ∧
      (overrunNoted s c).tmb = s.tmb := by
  obtain ⟨hclasses, htmb⟩ := weldTrigger_keeps (cycEvent (bump (clsUpd s c fun r => { r with ovr := true }) cCycOverrun) evCycleOverrun c 0 0
    (clsUpd s c fun r => { r with ovr := true }).cyc.slot) .overrun
  have marked : (overrunNoted s c).cyc.classes = (clsUpd s c fun r => { r with ovr := true }).cyc.classes :=
    hclasses.trans (congrArg Cyc.classes (event_cyc _ _ _))
  rw [marked]
  exact ⟨clsUpd_wf s c _ h, clsUpd_self s c _ h, htmb.trans (event_tmb _ _ _)⟩

theorem cycDeadline_answers_overrun {s : State} {c : Nat} {e : LqEntry} (hcan : canonical s)
    (hentry : (s.cyc.classes.get c).lq.find? (·.action == 2) = some e) (hpend : (s.cyc.classes.get c).pending ≠ 0)
    (hcycle : e.instant = deadlineOf (s.cyc.classes.get c).info (s.cyc.classes.get c).t0) :
    Answers (.cycDeadline c) s fun r =>
      r.tmb.now = max s.tmb.now e.instant ∧ (r.cyc.classes.get c).ovr = true ∧
        (r.cyc.classes.get c).pending = (s.cyc.classes.get c).pending := by
  have hwf := canonical_classes hcan
  have reachedWf : (deadlineReached s c e).cyc.classes.wf = true := clsUpd_wf _ c _ (by rw [advance_cyc, hwf])
  obtain ⟨notedWf, hclass, htmb⟩ := overrunNoted_keeps c reachedWf
  rw [deadlineReached_class c e hwf] at hclass
  have hnow : (overrunNoted (deadlineReached s c e) c).tmb.now = max s.tmb.now e.instant := by
    rw [htmb]
    exact advance_now s e.instant
  have overruns : ¬((s.cyc.classes.get c).pending = 0 ∨ e.instant ≠ deadlineOf (s.cyc.classes.get c).info (s.cyc.classes.get c).t0) := by
    simp [hpend, hcycle]
  have run : cycDeadline c s = if (overrunNoted (deadlineReached s c e) c).cyc.state = .running
      then watchCycle (overrunNoted (deadlineReached s c e) c) c else overrunNoted (deadlineReached s c e) c := by
    simp only [cycDeadline, hentry, if_neg overruns]
    rfl
  refine ⟨_, congrArg ok run, ?_⟩
  split
  · obtain ⟨hovr, hpending, hkept⟩ := watchCycle_keeps _ c notedWf
    exact ⟨by rw [hkept, hnow], by rw [hovr, hclass], by rw [hpending, hclass]⟩
  · exact ⟨hnow, by rw [hclass], by rw [hclass]⟩

/-- Settles O11, one lemma for each clause. The commands that start and stop the program keep what their events, the map and the pair leave
alone; the classes are read in a canonical table. -/
theorem cycleEngineCommandsTakeEffect : Obligations.CycleEngineCommandsTakeEffect := by
  unfold Obligations.CycleEngineCommandsTakeEffect
  refine ⟨?programStart, ?programStop, ?cycStop, ?cycStart, ?latch, ?poolMin, ?deadline, ?overrun⟩
  case programStart => exact fun h c m p s hc hret hstate hpend himage hmap hbuild => programStart_answers hc hret hstate hpend himage hmap hbuild
  case programStop => exact fun h c s hc hrun => programStop_answers hc hrun
  case cycStop => exact fun i s hrun hstop => cycStop_answers hrun hstop
  case cycStart => exact fun c e t s hcan hrun hauto hlq he => cycStart_answers hcan hrun hauto hlq he
  case latch =>
    exact fun c e s hcan hrun hgrid hentry hpool hwait hswitch hrevert hpend =>
      cycLatch_answers hcan hrun hgrid hentry hpool hwait hswitch hrevert hpend
  case poolMin => exact fun c e s _ hrun hgrid hentry hpool hgap => cycLatch_answers_poolMin hrun hgrid hentry hpool hgap
  case deadline => exact fun c e s hcan hentry hpend => cycDeadline_answers hcan hentry hpend
  case overrun => exact fun c e s hcan hentry hpend hcycle => cycDeadline_answers_overrun hcan hentry hpend hcycle

end Sys2Proof.Machine
end

section
/-! Proofs of on-line change's effects (R182, R188 to R192, R196 to R199, O12): WELD, its copy passes and the wait for an instant, the gap of
the switch, WELD_CONFIRM and WELD_REVERT, and a revert's gap or its failure. -/
namespace Sys2Proof.Machine
open Sys2Proof

/-! ### The slots, changes of the Weld and its events -/

theorem canonical_slots {s : State} (h : canonical s) : s.cyc.slots.wf = true := by
  simp only [Bool.and_eq_true] at h
  simp only [h]

@[simp] theorem weldUpd_cyc (s : State) (f : Weld → Weld) : (weldUpd s f).cyc = { s.cyc with weld := f s.cyc.weld } := rfl

theorem weldEvent_unchanged (s : State) (k : EvKind) (n : Nat) : unchangedBut eventParts s (weldEvent s k n) := event_unchanged s k _

@[simp] theorem weldEvent_cyc (s : State) (k : EvKind) (n : Nat) : (weldEvent s k n).cyc = s.cyc := weldEvent_unchanged s k n .cyc (by decide)
@[simp] theorem weldEvent_tmb (s : State) (k : EvKind) (n : Nat) : (weldEvent s k n).tmb = s.tmb := weldEvent_unchanged s k n .tmb (by decide)
@[simp] theorem weldEvent_pst (s : State) (k : EvKind) (n : Nat) : (weldEvent s k n).pst = s.pst := weldEvent_unchanged s k n .pst (by decide)
@[simp] theorem weldEvent_hif (s : State) (k : EvKind) (n : Nat) : (weldEvent s k n).hif = s.hif := weldEvent_unchanged s k n .hif (by decide)

/-- An event that carries the trigger draws the trigger's free code first (R201). -/
theorem triggerEvent_eq (s : State) (k : EvKind) : ∃ n, triggerEvent s k = weldEvent (drawFree s).2 k n := ⟨_, rfl⟩

@[simp] theorem triggerEvent_cyc (s : State) (k : EvKind) : (triggerEvent s k).cyc = s.cyc := by
  obtain ⟨n, h⟩ := triggerEvent_eq s k
  rw [h, weldEvent_cyc, drawFree_cyc]

@[simp] theorem triggerEvent_tmb (s : State) (k : EvKind) : (triggerEvent s k).tmb = s.tmb := by
  obtain ⟨n, h⟩ := triggerEvent_eq s k
  rw [h, weldEvent_tmb, drawFree_tmb]

/-! ### The copy -/

/-- The copy changes the data of the new slot only (R186, R188). -/
theorem carryAll_eq (s : State) : ∃ d, carryAll s = { (drawFree s).2 with cyc := { s.cyc with
    slots := s.cyc.slots.upd s.cyc.weld.newSlot fun x => { x with data := d } } } := ⟨_, rfl⟩

@[simp] theorem carryAll_weld (s : State) : (carryAll s).cyc.weld = s.cyc.weld := rfl
@[simp] theorem carryAll_tmb (s : State) : (carryAll s).tmb = s.tmb := rfl
@[simp] theorem carryAll_pst (s : State) : (carryAll s).pst = s.pst := rfl

/-- Every slot keeps its map. -/
theorem carryAll_map {s : State} (h : s.cyc.slots.wf = true) (n : Nat) :
    ((carryAll s).cyc.slots.get n).map = (s.cyc.slots.get n).map := by
  obtain ⟨d, hcopy⟩ := carryAll_eq s
  rw [hcopy]
  dsimp only
  by_cases hn : n = s.cyc.weld.newSlot
  · subst hn
    rw [SMap.get_upd_self _ _ _ h]
  · rw [SMap.get_upd_ne _ _ hn]

/-! ### WELD -/

/-- A WELD that passes its checks starts copying (R182, R188). -/
theorem weldStart_of_checks {s : State} {c : Cmd} (h : weldCheck s c c.data = .ok) :
    ∃ l x, weldStart s c = weldEvent (weldUpd s fun w => { w with
      state := .copying, newSlot := c.unit, probation := if c.arg = 0 then 100 else c.arg, left := 0, carry := l, cmd := some c.handle,
      revertCmd := none, passes := 0, dirty := x, deferred := 0, since := s.tmb.now, trigger := .none, inGap := false, removed := [] })
      evWeldStarted 0 := by
  simp only [weldStart, h]
  exact ⟨_, _, rfl⟩

theorem weld_answers {s : State} {h : Nat} {c : Cmd} {d : Bytes} (hc : CanStart s h 0x23 c) (hcheck : weldCheck s c d = .ok) :
    Answers (.weld h (some d)) s fun r =>
      r.cyc.weld.state = .copying ∧ r.cyc.weld.newSlot = c.unit ∧ r.cyc.weld.probation = (if c.arg = 0 then 100 else c.arg) ∧
        r.cyc.weld.cmd = some h ∧ r.cyc.weld.passes = 0 ∧ running r h = true := by
  obtain ⟨l, x, hstart⟩ := weldStart_of_checks (s := startedIn s c d) (c := startedCmd c d) hcheck
  have run := congrArg ok ((startCmd_of_canStart hc d weldStart).trans hstart)
  refine ⟨_, run, ?_, ?_, ?_, ?_, ?_, ?_⟩
  · rw [weldEvent_cyc, weldUpd_cyc]
  · rw [weldEvent_cyc, weldUpd_cyc]; rfl
  · rw [weldEvent_cyc, weldUpd_cyc]; rfl
  · rw [weldEvent_cyc, weldUpd_cyc, ← handle_of_cmdFind hc.1]; rfl
  · rw [weldEvent_cyc, weldUpd_cyc]
  · exact (running_congr (by rw [weldEvent_hif, weldUpd_hif]) h).trans (running_startedIn hc d)

/-! ### The copy passes and the wait for an instant -/

/-- A pass that leaves few enough lines makes the Weld wait (R189). -/
theorem weldCopyPass_waits {s : State} {t : Nat} {copied : List Nat} (hstate : s.cyc.weld.state = .copying)
    (hleft : 64 * (s.cyc.weld.dirty.filter fun l => !copied.contains l).length ≤ weldLimit) :
    weldCopyPass t copied s = weldUpd (carryAll (advance s t)) fun w => { w with
      state := .waiting, passes := s.cyc.weld.passes + 1, dirty := s.cyc.weld.dirty.filter fun l => !copied.contains l,
      since := (advance s t).tmb.now } := by
  have passes : ¬(s.cyc.weld.state ≠ .copying ∧ (s.cyc.weld.state ≠ .waiting ∨ 64 * s.cyc.weld.dirty.length ≤ weldLimit)) :=
    fun h => h.1 hstate
  simp only [weldCopyPass, if_neg passes, if_pos hleft]
  simp [weldUpd, hstate]

theorem weldCopyPass_answers {s : State} {t : Nat} {copied : List Nat} (hstate : s.cyc.weld.state = .copying)
    (hleft : 64 * (s.cyc.weld.dirty.filter fun l => !copied.contains l).length ≤ weldLimit) :
    Answers (.weldCopyPass t copied) s fun r =>
      r.cyc.weld.state = .waiting ∧ r.cyc.weld.passes = s.cyc.weld.passes + 1 ∧
        r.cyc.weld.dirty = (s.cyc.weld.dirty.filter fun l => !copied.contains l) ∧ r.tmb.now = max s.tmb.now t ∧
        r.cyc.weld.since = r.tmb.now :=
  ⟨_, congrArg ok (weldCopyPass_waits hstate hleft), rfl, rfl, rfl, advance_now s t, rfl⟩

theorem weldWaitTimeout_answers {s : State} (hstate : s.cyc.weld.state = .waiting) :
    Answers (.weldWaitTimeout) s fun r =>
      r.cyc.weld.state = .none ∧ r.cyc.weld.lastStatus = .timeout ∧ r.tmb.now = max s.tmb.now (s.cyc.weld.since + 10000000000) := by
  have run : exec .weldWaitTimeout s = .next (weldAbandon (advance s (s.cyc.weld.since + 10000000000)) .timeout) := if_pos hstate
  refine ⟨_, run, ?_, ?_, ?_⟩
  · rw [weldAbandon_cyc]
  · rw [weldAbandon_cyc]
  · rw [weldAbandon_tmb, advance_now]

/-! ### The program passes to another slot -/

/-- The Point Store passes to the map of another slot, where both maps stand (R193). -/
def mapPassed (s : State) (slot : Nat) (back : List (Nat × PointRec)) : State :=
  match s.pst.map, (s.cyc.slots.get slot).map with
  | some o, some n => ileRefsNote (mapSwitch s o n back)
  | _, _ => s

theorem mapPassed_unchanged (s : State) (slot : Nat) (back : List (Nat × PointRec)) :
    unchangedBut (.ile :: mapParts) s (mapPassed s slot back) := by
  unfold mapPassed
  split
  next o n _ _ =>
    obtain ⟨t, x, ht, hx, kept⟩ := mapSwitch_forces s o n back
    exact ((putMap_kept ht hx kept).1.mono (by decide)).trans ((ileRefsNote_unchanged _).mono (by decide))
  next => exact unchangedBut_refl _ _

theorem mapPassed_map {s : State} {slot : Nat} {o n : PointMap} (back : List (Nat × PointRec)) (ho : s.pst.map = some o)
    (hn : (s.cyc.slots.get slot).map = some n) : (mapPassed s slot back).pst.map = some n := by
  obtain ⟨t, x, ht, hx, kept⟩ := mapSwitch_forces s o n back
  simp only [mapPassed, ho, hn]
  exact (congrArg Pst.map (ileRefsNote_unchanged _ .pst (by decide))).trans (putMap_kept ht hx kept).2

/-- The other slot runs (R192). -/
theorem switchTo_slot (s : State) (slot w : Nat) (back : List (Nat × PointRec)) : (switchTo s slot w back).cyc.slot = slot := rfl

theorem switchTo_weld (s : State) (slot w : Nat) (back : List (Nat × PointRec)) : (switchTo s slot w back).cyc.weld = s.cyc.weld := by
  have kept : (mapPassed s slot back).cyc = s.cyc := mapPassed_unchanged s slot back .cyc (by decide)
  show (mapPassed s slot back).cyc.weld = s.cyc.weld
  rw [kept]

theorem switchTo_tmb (s : State) (slot w : Nat) (back : List (Nat × PointRec)) : (switchTo s slot w back).tmb = s.tmb :=
  mapPassed_unchanged s slot back .tmb (by decide)

theorem switchTo_map {s : State} {slot : Nat} {o n : PointMap} (w : Nat) (back : List (Nat × PointRec)) (ho : s.pst.map = some o)
    (hn : (s.cyc.slots.get slot).map = some n) : (switchTo s slot w back).pst.map = some n := mapPassed_map back ho hn

/-! ### The gap of the switch -/

/-- The gap has ended, before what it brings (R191). -/
def gapOver (s : State) (t : Nat) : State := weldUpd (advance s t) fun x => { x with gapUs := gapUs s.cyc.weld.at' t, inGap := false }

theorem gapOver_weld (s : State) (t : Nat) :
    (gapOver s t).cyc.weld = { s.cyc.weld with gapUs := gapUs s.cyc.weld.at' t, inGap := false } := by
  rw [gapOver, weldUpd_cyc, advance_cyc]

/-- The program of `slot` takes over at `w`, in probation, the records of the removed points kept (R192, R196, R198). -/
def programSwitched (s : State) (slot w : Nat) (removed : List (Nat × PointRec)) : State :=
  weldEvent (weldUpd (switchTo (carryAll s) slot w []) fun x => { x with
    state := .probation, left := x.probation, dirty := [], cmd := none, lastStatus := .ok, removed := removed }) evWeldDone 0

section
variable (s : State) (slot w : Nat) (removed : List (Nat × PointRec))

theorem programSwitched_slot : (programSwitched s slot w removed).cyc.slot = slot := by
  simp [programSwitched, switchTo_slot]

theorem programSwitched_weld : (programSwitched s slot w removed).cyc.weld = { s.cyc.weld with
    state := .probation, left := s.cyc.weld.probation, dirty := [], cmd := none, lastStatus := .ok, removed := removed } := by
  simp [programSwitched, switchTo_weld]

theorem programSwitched_tmb : (programSwitched s slot w removed).tmb = s.tmb := by
  simp [programSwitched, switchTo_tmb]

end

theorem programSwitched_map {s : State} {slot : Nat} {o n : PointMap} (w : Nat) (removed : List (Nat × PointRec))
    (hwf : s.cyc.slots.wf = true) (ho : s.pst.map = some o) (hn : (s.cyc.slots.get slot).map = some n) :
    (programSwitched s slot w removed).pst.map = some n := by
  rw [programSwitched, weldEvent_pst, weldUpd_pst]
  exact switchTo_map w [] ho ((carryAll_map hwf slot).trans hn)

/-- The WELD ends with the number of its instant, if it still stands (R192). -/
def weldAnswered (s : State) (o : Option Nat) (n : Nat) : State :=
  match o with
  | some h => endCmd s h .ok n 0
  | none => s

theorem weldAnswered_unchanged (s : State) (o : Option Nat) (n : Nat) : unchangedBut [.hif] s (weldAnswered s o n) := by
  cases o with
  | some h => exact endCmd_unchanged s h .ok n 0
  | none => exact unchangedBut_refl _ _

/-- The gap of a good switch (R191, R192). -/
theorem weldGapEnd_good {s : State} (t : Nat) (hstate : s.cyc.weld.state = .switching) :
    ∃ removed n, weldGapEnd t true s =
      weldAnswered (programSwitched (gapOver s t) s.cyc.weld.newSlot s.cyc.weld.at' removed) s.cyc.weld.cmd n :=
  ⟨_, _, if_neg (not_not_intro hstate)⟩

theorem weldGapEnd_answers {s : State} {t : Nat} {o n : PointMap} (hcan : canonical s) (hstate : s.cyc.weld.state = .switching)
    (ho : s.pst.map = some o) (hn : (s.cyc.slots.get s.cyc.weld.newSlot).map = some n) :
    Answers (.weldGapEnd t true) s fun r =>
      r.cyc.slot = s.cyc.weld.newSlot ∧ r.pst.map = some n ∧ r.cyc.weld.state = .probation ∧ r.cyc.weld.left = s.cyc.weld.probation ∧
        r.cyc.weld.lastStatus = .ok ∧ r.tmb.now = max s.tmb.now t := by
  obtain ⟨removed, m, hgood⟩ := weldGapEnd_good t hstate
  have answered := weldAnswered_unchanged (programSwitched (gapOver s t) s.cyc.weld.newSlot s.cyc.weld.at' removed) s.cyc.weld.cmd m
  have hcyc := answered .cyc (by decide)
  have hweld := programSwitched_weld (gapOver s t) s.cyc.weld.newSlot s.cyc.weld.at' removed
  rw [gapOver_weld, ← hcyc] at hweld
  refine ⟨_, congrArg ok hgood, ?_, ?_, ?_, ?_, ?_, ?_⟩
  · rw [hcyc, programSwitched_slot]
  · rw [answered .pst (by decide)]
    refine programSwitched_map (o := o) _ removed ?_ ?_ ?_
    · rw [gapOver, weldUpd_cyc, advance_cyc, canonical_slots hcan]
    · rw [gapOver, weldUpd_pst, advance_unchanged s t .pst (by decide), ho]
    · rw [gapOver, weldUpd_cyc, advance_cyc, hn]
  · rw [hweld]
  · rw [hweld]
  · rw [hweld]
  · rw [answered .tmb (by decide), programSwitched_tmb]
    exact advance_now s t

theorem weldGapEnd_answers_bad {s : State} {t : Nat} (hstate : s.cyc.weld.state = .switching) :
    Answers (.weldGapEnd t false) s fun r =>
      r.cyc.slot = s.cyc.slot ∧ r.cyc.weld.state = .none ∧ r.cyc.weld.lastStatus = .faulted ∧ r.tmb.now = max s.tmb.now t := by
  have run : exec (.weldGapEnd t false) s = .next (weldAbandon (gapOver s t) .faulted) := congrArg ok (if_neg (not_not_intro hstate))
  refine ⟨_, run, ?_, ?_, ?_, ?_⟩
  · rw [weldAbandon_cyc, gapOver, weldUpd_cyc, advance_cyc]
  · rw [weldAbandon_cyc]
  · rw [weldAbandon_cyc]
  · rw [weldAbandon_tmb]
    exact advance_now s t

/-! ### WELD_CONFIRM -/

/-- A probation that ends with no revert asked for ends no command, and keeps the slot that runs (R196). -/
theorem probationEnd_of_no_revert {s : State} (st : Status) (h : s.cyc.weld.revertCmd = none) :
    unchangedBut [.cyc] s (probationEnd s st) ∧ (probationEnd s st).cyc.weld.lastStatus = st ∧
      (probationEnd s st).cyc.slot = s.cyc.slot := by
  simp only [probationEnd, h]
  exact ⟨fun p hp => by cases p <;> simp_all [samePart], rfl, rfl⟩

theorem weldConfirm_keeps {s : State} (h : s.cyc.weld.revertCmd = none) :
    (weldConfirm s).cyc.weld.state = .none ∧ (weldConfirm s).cyc.weld.lastStatus = .ok ∧ (weldConfirm s).cyc.slot = s.cyc.slot ∧
      (weldConfirm s).hif = s.hif := by
  obtain ⟨hstate, -, -⟩ := probationEnd_keeps (weldEvent s evWeldConfirmed 0) .ok
  obtain ⟨unchanged, hstatus, hslot⟩ := probationEnd_of_no_revert (s := weldEvent s evWeldConfirmed 0) .ok (by rw [weldEvent_cyc, h])
  have booted : unchangedBut [.hdl] (probationEnd (weldEvent s evWeldConfirmed 0) .ok) (weldConfirm s) :=
    .ite (bootProgram_unchanged _ _) (unchangedBut_refl _ _)
  have hcyc := booted .cyc (by decide)
  refine ⟨?_, ?_, ?_, ?_⟩
  · rw [hcyc, hstate]
  · rw [hcyc, hstatus]
  · rw [hcyc, hslot, weldEvent_cyc]
  · rw [booted .hif (by decide), unchanged .hif (by decide), weldEvent_hif]

theorem weldConfirm_answers {s : State} {h : Nat} {c : Cmd} (hc : CanStart s h 0x24 c) (hstate : s.cyc.weld.state = .probation)
    (hrevert : s.cyc.weld.revertCmd = none) :
    Answers (.weldConfirm h) s fun r =>
      r.cyc.weld.state = .none ∧ r.cyc.weld.lastStatus = .ok ∧ r.cyc.slot = s.cyc.slot ∧ endStatus r h = some .ok := by
  obtain ⟨hnone, hok, hslot, hhif⟩ := weldConfirm_keeps (s := startedIn s c []) hrevert
  have run : exec (.weldConfirm h) s = .next (endCmd (weldConfirm (startedIn s c [])) h .ok 0 0) :=
    congrArg ok ((startCmd_of_canStart hc [] _).trans ((if_pos hstate).trans (by rw [← handle_of_cmdFind hc.1]; rfl)))
  obtain ⟨x, hx, hopen⟩ := cmdFind_startedIn hc []
  have found := (cmdFind_congr (congrArg Hif.cmds hhif) h).trans hx
  refine ⟨_, run, ?_, ?_, ?_, endStatus_endCmd .ok 0 0 found hopen⟩
  · rw [endCmd_cyc, hnone]
  · rw [endCmd_cyc, hok]
  · rw [endCmd_cyc, hslot]
    rfl

/-! ### WELD_REVERT -/

theorem weldRevert_answers {s : State} {h : Nat} {c : Cmd} (hc : CanStart s h 0x25 c) (hstate : s.cyc.weld.state = .probation) :
    Answers (.weldRevert h) s fun r =>
      r.cyc.weld.state = .reverting ∧ r.cyc.weld.trigger = .command ∧ r.cyc.weld.revertCmd = some h ∧ running r h = true := by
  have reverts : weldRevert (startedIn s c []) (startedCmd c []) = weldUpd (startedIn s c []) fun w => { w with
      state := .reverting, trigger := .command, since := s.tmb.now, deferred := 0, inGap := false, revertCmd := some c.handle } := by
    have begun : (startedIn s c []).cyc.weld.state = .probation := hstate
    simp only [weldRevert, weldTrigger, begun, if_true]
    rfl
  have run := congrArg ok ((startCmd_of_canStart hc [] weldRevert).trans reverts)
  exact ⟨_, run, rfl, rfl, congrArg some (handle_of_cmdFind hc.1), (running_congr rfl h).trans (running_startedIn hc [])⟩

theorem weldRevert_answers_before {s : State} {h : Nat} {c : Cmd} (hc : CanStart s h 0x25 c)
    (hstate : s.cyc.weld.state = .copying ∨ s.cyc.weld.state = .waiting) :
    Answers (.weldRevert h) s fun r => r.cyc.weld.state = .none ∧ r.cyc.weld.lastStatus = .aborted := by
  have abandons : weldRevert (startedIn s c []) (startedCmd c []) = endCmd (weldAbandon (startedIn s c []) .aborted) c.handle .ok 0 0 := by
    rcases hstate with hstate | hstate <;>
    · have begun : (startedIn s c []).cyc.weld.state = _ := hstate
      simp only [weldRevert, begun]
      rfl
  have run := congrArg ok ((startCmd_of_canStart hc [] weldRevert).trans abandons)
  exact ⟨_, run, by rw [endCmd_cyc, weldAbandon_cyc], by rw [endCmd_cyc, weldAbandon_cyc]⟩

/-! ### The gap of the revert, and its failure -/

/-- The old slot's program takes over with the points the new map had removed, and WELD_REVERT ends (R198). -/
def programReverted (s : State) : State :=
  endAwaiting (triggerEvent (switchTo s (1 - s.cyc.weld.newSlot) s.cyc.weld.at' s.cyc.weld.removed) evWeldReverted) s.cyc.weld.revertCmd .ok

theorem programReverted_keeps (s : State) :
    (programReverted s).cyc.slot = 1 - s.cyc.weld.newSlot ∧ (programReverted s).tmb = s.tmb := by
  simp [programReverted, switchTo_slot, switchTo_tmb]

theorem weldRevertGapEnd_good {s : State} (t : Nat) (hstate : s.cyc.weld.state = .reverting) (hgap : s.cyc.weld.inGap = true) :
    weldRevertGapEnd t true s =
      weldUpd (programReverted (weldUpd (advance s t) fun x => { x with gapUs := gapUs s.cyc.weld.at' t })) fun x =>
        { x with state := .none, lastStatus := .ok, left := 0, revertCmd := none, removed := [], inGap := false } := by
  have ends : ¬(s.cyc.weld.state ≠ .reverting ∨ !s.cyc.weld.inGap) := by simp [hstate, hgap]
  simp only [weldRevertGapEnd, if_neg ends, Bool.not_true, Bool.false_eq_true, if_false, programReverted, weldUpd_cyc, advance_cyc]
  rfl

theorem weldRevertGapEnd_answers {s : State} {t : Nat} (hstate : s.cyc.weld.state = .reverting) (hgap : s.cyc.weld.inGap = true) :
    Answers (.weldRevertGapEnd t true) s fun r =>
      r.cyc.slot = 1 - s.cyc.weld.newSlot ∧ r.cyc.weld.state = .none ∧ r.cyc.weld.lastStatus = .ok ∧ r.tmb.now = max s.tmb.now t := by
  obtain ⟨hslot, htmb⟩ := programReverted_keeps (weldUpd (advance s t) fun x => { x with gapUs := gapUs s.cyc.weld.at' t })
  refine ⟨_, congrArg ok (weldRevertGapEnd_good t hstate hgap), ?_, rfl, rfl, ?_⟩
  · rw [weldUpd_cyc, hslot, weldUpd_cyc, advance_cyc]
  · rw [weldUpd_tmb, htmb, weldUpd_tmb, advance_now]

/-- The failure of a revert is recorded, and WELD_REVERT ends with it (R199). -/
def failureReported (s : State) : State :=
  weldUpd (endAwaiting (triggerEvent s evWeldRevertFailed) (triggerEvent s evWeldRevertFailed).cyc.weld.revertCmd .faulted) fun w =>
    { w with revertCmd := none }

theorem failureReported_tmb (s : State) : (failureReported s).tmb = s.tmb := by
  rw [failureReported, weldUpd_tmb, endAwaiting_tmb, triggerEvent_tmb]

theorem revertFail_eq (s : State) : revertFail s = weldUpd (cycStop (failureReported s) .weldFail) fun w => { w with lastStatus := .faulted } :=
  rfl

/-- A revert that fails stops the program with WELD_FAIL (R154, R199). -/
theorem revertFail_keeps (s : State) :
    (revertFail s).cyc.state = .stopped ∧ (revertFail s).cyc.stopReason = .weldFail ∧ (revertFail s).cyc.weld.lastStatus = .faulted ∧
      (revertFail s).tmb = s.tmb := by
  obtain ⟨hcyc, htmb⟩ := cycStop_keeps (failureReported s) .weldFail
  rw [revertFail_eq]
  refine ⟨?_, ?_, rfl, ?_⟩
  · rw [weldUpd_cyc, hcyc]; rfl
  · rw [weldUpd_cyc, hcyc]; rfl
  · rw [weldUpd_tmb, htmb, failureReported_tmb]

theorem revertInstantTimeout_answers {s : State} (hstate : s.cyc.weld.state = .reverting) (hgap : s.cyc.weld.inGap = false) :
    Answers (.revertInstantTimeout) s fun r =>
      r.cyc.state = .stopped ∧ r.cyc.stopReason = .weldFail ∧ r.cyc.weld.lastStatus = .faulted ∧
        r.tmb.now = max s.tmb.now (s.cyc.weld.since + 100000000) := by
  have run : exec .revertInstantTimeout s = .next (revertFail (advance s (s.cyc.weld.since + 100000000))) :=
    if_pos ⟨hstate, by rw [hgap]; rfl⟩
  obtain ⟨hstopped, hreason, hstatus, htmb⟩ := revertFail_keeps (advance s (s.cyc.weld.since + 100000000))
  exact ⟨_, run, hstopped, hreason, hstatus, by rw [htmb, advance_now]⟩

/-- Settles O12, one lemma for each clause. The switch and the revert keep what the events, the copy and the passage of the points leave alone;
the new slot's map is read in a canonical table. -/
theorem onlineChangeCommandsTakeEffect : Obligations.OnlineChangeCommandsTakeEffect := by
  unfold Obligations.OnlineChangeCommandsTakeEffect
  refine ⟨?weld, ?copyPass, ?waitTimeout, ?gapEnd, ?gapEndBad, ?confirm, ?revert, ?revertBefore, ?revertGapEnd, ?revertTimeout⟩
  case weld => exact fun h c d s hc hcheck => weld_answers hc hcheck
  case copyPass => exact fun t copied s hstate hleft => weldCopyPass_answers hstate hleft
  case waitTimeout => exact fun s hstate => weldWaitTimeout_answers hstate
  case gapEnd => exact fun t o n s hcan hstate ho hn => weldGapEnd_answers hcan hstate ho hn
  case gapEndBad => exact fun t s hstate => weldGapEnd_answers_bad hstate
  case confirm => exact fun h c s hc hstate hrevert => weldConfirm_answers hc hstate hrevert
  case revert => exact fun h c s hc hstate => weldRevert_answers hc hstate
  case revertBefore => exact fun h c s hc hstate => weldRevert_answers_before hc hstate
  case revertGapEnd => exact fun t s hstate hgap => weldRevertGapEnd_answers hstate hgap
  case revertTimeout => exact fun s hstate hgap => revertInstantTimeout_answers hstate hgap

end Sys2Proof.Machine
end

section
/-! Laws of the operations through which a block writes points, sends frames and tells of faults (R80 to R83, R387, R451, R509, R536, R540, R589):
which parts of the state a history record, a capture trigger, a point write, a station's output frame, a digest, a module's loss of control and
the assertion of FAULT_N leave alone. -/
namespace Sys2Proof.Machine
open Sys2Proof

theorem bumpN_unchanged (s : State) (a n : Nat) : unchangedBut [.regs] s (bumpN s a n) := fun p hp => by cases p <;> simp_all [samePart]

theorem recd_unchanged (s : State) (x : Recd) : unchangedBut [.recd] s { s with recd := x } :=
  fun p hp => by cases p <;> simp_all [samePart]

theorem par_unchanged (s : State) (x : Par) : unchangedBut [.par] s { s with par := x } :=
  fun p hp => by cases p <;> simp_all [samePart]

theorem stn_unchanged (s : State) (x : Stn) : unchangedBut [.stn] s { s with stn := x } :=
  fun p hp => by cases p <;> simp_all [samePart]

theorem pst_unchanged (s : State) (x : Pst) : unchangedBut [.pst] s { s with pst := x } :=
  fun p hp => by cases p <;> simp_all [samePart]

theorem cap_unchanged (s : State) (x : Cap) : unchangedBut [.cap] s { s with cap := x } :=
  fun p hp => by cases p <;> simp_all [samePart]

/-! ### The history -/

/-- A change of the Recorder that one of its counters notes. -/
theorem recd_bump_unchanged (s : State) (x : Recd) (a : Nat) : unchangedBut eventParts s (bump { s with recd := x } a) :=
  ((recd_unchanged s x).mono (by decide)).trans ((bumpN_unchanged _ a 1).mono (by decide))

theorem histClose_unchanged (s : State) (part : Bool) : unchangedBut eventParts s (histClose s part) :=
  .ite (unchangedBut_refl _ _) (recd_bump_unchanged s _ _)

theorem histPut_unchanged (s : State) (r : HistRec) : unchangedBut eventParts s (histPut s r) :=
  .trans (.ite (histClose_unchanged s false) (unchangedBut_refl _ _)) (recd_bump_unchanged _ _ _)

theorem histOffer_unchanged (s : State) (r : HistRec) : unchangedBut eventParts s (histOffer s r) := by
  unfold histOffer
  refine .ite ?_ (.ite ?_ ?_)
  · exact ((recd_unchanged s _).mono (by decide)).trans (histPut_unchanged _ _)
  · exact (recd_bump_unchanged s _ _).trans (event_unchanged _ _ _)
  · exact recd_bump_unchanged s _ _

theorem histChange_unchanged (s : State) (id : Nat) (p : PointRec) : unchangedBut eventParts s (histChange s id p) := by
  have counted (t : State) (a : Nat) : unchangedBut eventParts t (bump t a) := (bumpN_unchanged t a 1).mono (by decide)
  unfold histChange
  refine .ite (unchangedBut_refl _ _) ?_
  dsimp only
  split
  · exact histOffer_unchanged s _
  · refine .ite (counted s _) (.ite ?_ (histOffer_unchanged s _))
    exact .trans (.ite (counted s _) (unchangedBut_refl _ _)) ((recd_unchanged _ _).mono (by decide))

/-! ### Capture triggers -/

/-- The parts that a trigger of a capture channel may change (R386, R387, R389, R393, R401). -/
abbrev captureParts : List Part := [.regs, .hif, .recd, .cap, .wlk, .mram, .out]

theorem bump_captureParts (s : State) (a : Nat) : unchangedBut captureParts s (bump s a) := (bumpN_unchanged s a 1).mono (by decide)

theorem capUpd_unchanged (s : State) (n : Nat) (f : CapCh → CapCh) : unchangedBut captureParts s (capUpd s n f) :=
  (cap_unchanged s _).mono (by decide)

theorem capEvent_unchanged (s : State) (k : EvKind) (n index module off : Nat) :
    unchangedBut captureParts s (capEvent s k n index module off) := (event_unchanged s k _).mono (by decide)

theorem capMissed_unchanged (s : State) (n reason q module src : Nat) : unchangedBut captureParts s (capMissed s n reason q module src) := by
  unfold capMissed
  refine .ite ?_ ?_
  · exact (bump_captureParts s _).trans (capUpd_unchanged _ _ _)
  · exact ((bump_captureParts s _).trans (.ite (unchangedBut_refl _ _) (capEvent_unchanged _ _ _ _ _ _))).trans (capUpd_unchanged _ _ _)

theorem maskTakes_unchanged (s : State) (n a : Nat) : unchangedBut captureParts s (maskTakes s n a) := by
  unfold maskTakes
  split
  · exact .ite ((capUpd_unchanged s n _).trans ((endCmd_unchanged _ _ _ _ _).mono (by decide))) (unchangedBut_refl _ _)
  · exact unchangedBut_refl _ _

theorem maskNow_unchanged (s : State) (n : Nat) : unchangedBut captureParts s (maskNow s n) := by
  unfold maskNow
  split
  · exact maskTakes_unchanged s n _
  · exact unchangedBut_refl _ _

theorem capStore_unchanged (s : State) (n : Nat) (g : CapSeg) : unchangedBut captureParts s (capStore s n g) := by
  have gap : unchangedBut captureParts s (if g.gap then bump s cCapGapSegments else s) := .ite (bump_captureParts s _) (unchangedBut_refl _ _)
  refine .trans ?stored (.ite ((maskNow_unchanged _ n).trans (capEvent_unchanged _ _ _ _ _ _)) (unchangedBut_refl _ _))
  exact (gap.trans (bump_captureParts _ cCapSegments)).trans (capUpd_unchanged _ n _)

theorem capCheckDone_unchanged (s : State) (n : Nat) : unchangedBut captureParts s (capCheckDone s n) := by
  unfold capCheckDone
  dsimp only
  split
  · exact .ite (capStore_unchanged s n _) (unchangedBut_refl _ _)
  · exact unchangedBut_refl _ _

theorem capTake_unchanged (s : State) (n q src module : Nat) (unlocked stop : Bool) (spacing : Nat) :
    unchangedBut captureParts s (capTake s n q src module unlocked stop spacing) :=
  ((maskTakes_unchanged s n 0).trans (capUpd_unchanged _ n _)).trans (capCheckDone_unchanged _ n)

theorem capJudge_unchanged (s : State) (n q src module : Nat) (unlocked stop : Bool) :
    unchangedBut captureParts s (capJudge s n q src module unlocked stop) := by
  refine .trans (capUpd_unchanged s n fun c => { c with lastTrig := q }) ?_
  unfold capJudge
  dsimp only
  split
  · exact .ite (capTake_unchanged _ _ _ _ _ _ _ _) (capMissed_unchanged _ _ _ _ _ _)
  · exact capMissed_unchanged _ _ _ _ _ _
  · exact capMissed_unchanged _ _ _ _ _ _
  all_goals exact bump_captureParts _ _

theorem capTrigger_unchanged (s : State) (n q src : Nat) (stop : Bool) : unchangedBut captureParts s (capTrigger s n q src stop) := by
  refine .trans (bump_captureParts s cCapTriggers) (.ite (capJudge_unchanged _ _ _ _ _ _ _) ?_)
  refine .trans (.trans ((cap_unchanged _ _).mono (by decide)) (bump_captureParts _ cCapFiresSent)) (.ite ?_ (unchangedBut_refl _ _))
  exact (waligSend_unchanged _ _ _ _ _ _ _).mono (by decide)

theorem capPointEdge_unchanged (s : State) (id : Nat) (t : PType) (old new : Val) :
    unchangedBut captureParts s (capPointEdge s id t old new) :=
  .ite (unchangedBut_refl _ _) (unchangedBut_foldl (fun _ _ => .ite (capTrigger_unchanged _ _ _ _ _) (unchangedBut_refl _ _)) _ s)

/-! ### Point writes -/

/-- The parts that a write to a point may change (R82, R83, R95, R387, R509). -/
abbrev writeParts : List Part := [.regs, .pst, .hif, .recd, .cap, .wlk, .mram, .out]

theorem commitPoint_unchanged (s : State) (id : Nat) (r : PointRec) : unchangedBut writeParts s (commitPoint s id r) := by
  have stored (x : Pst) (old : Val) : unchangedBut writeParts s (capPointEdge { s with pst := x } id r.type old r.value) :=
    ((pst_unchanged s x).mono (by decide)).trans ((capPointEdge_unchanged _ id r.type old r.value).mono (by decide))
  have journal (t : State) (x : Mram) : unchangedBut writeParts t { t with mram := x } := fun p hp => by cases p <;> simp_all [samePart]
  refine .trans ?_ ((histChange_unchanged _ id r).mono (by decide))
  split
  · refine .trans ?_ (.ite (journal _ _) (unchangedBut_refl _ _))
    exact stored _ _
  · exact stored _ _

/-- Of a choice of an answer, the state leaves what each way leaves. -/
theorem unchangedBut.iteFst {α : Type} {l : List Part} {s : State} {x y : State × α} {p : Prop} [Decidable p]
    (hx : unchangedBut l s x.1) (hy : unchangedBut l s y.1) : unchangedBut l s (if p then x else y).1 := by
  split
  · exact hx
  · exact hy

theorem writePoint_unchanged (s : State) (w : PWrite) : unchangedBut writeParts s (writePoint s w).1 := by
  have same := unchangedBut_refl writeParts s
  have counted (a : Nat) : unchangedBut writeParts s (bump s a) := (bumpN_unchanged s a 1).mono (by decide)
  have denied : unchangedBut writeParts s (event (bump s cPstPermDeny) evWriteDenied [(4, w.id)]) :=
    (counted _).trans ((event_unchanged _ _ _).mono (by decide))
  have taken (x : Pst) : unchangedBut writeParts s { s with pst := x } := (pst_unchanged s x).mono (by decide)
  unfold writePoint
  refine .iteFst same ?_
  split
  · exact counted _
  · refine .iteFst denied (.iteFst (counted _) (.iteFst (counted _) (.iteFst same (.iteFst (taken _) ?_))))
    dsimp only
    split
    · exact .iteFst (counted _) (taken _)
    · exact .iteFst (counted _) (commitPoint_unchanged s _ _)

/-! ### Frames to stations -/

/-- The parts that a station's output frame may change (R58, R451, R468, R542). -/
abbrev frameParts : List Part := [.regs, .recd, .stn, .par, .mram, .out]

theorem bump_frameParts (s : State) (a : Nat) : unchangedBut frameParts s (bump s a) := (bumpN_unchanged s a 1).mono (by decide)

theorem portUpd_unchanged (s : State) (p : Nat) (f : StnPort → StnPort) : unchangedBut frameParts s (portUpd s p f) :=
  (stn_unchanged s _).mono (by decide)

theorem stUpd_unchanged (s : State) (n : Nat) (f : Station → Station) : unchangedBut frameParts s (stUpd s n f) :=
  (stn_unchanged s _).mono (by decide)

theorem frameOut_unchanged (s : State) (p start : Nat) (b : Bytes) : unchangedBut frameParts s (frameOut s p start b) := by
  have sent (t : State) (o : Out) : unchangedBut frameParts t (send t o) := fun p hp => by cases p <;> simp_all [samePart]
  exact ((bump_frameParts s _).trans (portUpd_unchanged _ p _)).trans (sent _ _)

theorem launchFrames_unchanged (p : Nat) : ∀ (l : List Bytes) (s : State) (start : Nat), unchangedBut frameParts s (launchFrames s p start l)
  | [], s, _ => unchangedBut_refl _ s
  | f :: t, s, start => (frameOut_unchanged s p start f).trans (launchFrames_unchanged p t _ _)

theorem launches_unchanged (s : State) (inst : Nat) : unchangedBut frameParts s (launches s inst).1 := by
  refine .iteFst (unchangedBut_refl _ _) ?_
  split
  · refine .iteFst ?_ (unchangedBut_refl _ _)
    exact ((par_unchanged s _).mono (by decide)).trans (bump_frameParts _ _)
  · exact unchangedBut_refl _ _

theorem outward_unchanged (s : State) (inst : Nat) : unchangedBut frameParts s (outward s inst).1 :=
  .iteFst (unchangedBut_refl _ _) (launches_unchanged s inst)

theorem tokenRaise_unchanged (s : State) : unchangedBut frameParts s (tokenRaise s) := fun p hp => by cases p <;> simp_all [samePart, tokenRaise]

theorem imageLaunch_unchanged (s : State) (p : Nat) (o : StnOut) (inst : Nat) : unchangedBut frameParts s (imageLaunch s p o inst) := by
  refine .trans (outward_unchanged s inst) (.ite (unchangedBut_refl _ _) ?_)
  refine .trans ?_ (stUpd_unchanged _ o.station _)
  refine .trans ?_ (bump_frameParts _ cStnImagesOut)
  refine .trans ?_ (portUpd_unchanged _ p fun y => { y with launched := y.busy })
  refine .trans ?_ (launchFrames_unchanged p _ _ _)
  refine .trans ?_ (.ite (bump_frameParts _ cStnLaunchBumped) (unchangedBut_refl _ _))
  exact .ite (tokenRaise_unchanged _) (unchangedBut_refl _ _)

theorem noteLate_unchanged (s : State) (a : Arrival) (block queue : Nat) : unchangedBut eventParts s (noteLate s a block queue) := by
  have noted (c : Nat) : unchangedBut eventParts s (tmbEvent (bump s c) evLaunchLate 0 block queue) :=
    ((bumpN_unchanged s c 1).mono (by decide)).trans (event_unchanged _ _ _)
  cases a with
  | onTime => exact unchangedBut_refl _ _
  | lateRun => exact noted _
  | lateDrop => exact noted _

theorem noTargetBump_unchanged (s : State) (n : Nat) : unchangedBut [.regs] s (noTargetBump s n) := by
  refine .trans (bumpN_unchanged s cStnOutNoTarget 1) (.ite (unchangedBut_refl _ _) ?_)
  exact fun p hp => by cases p <;> simp_all [samePart]

theorem digAdd_unchanged (s : State) (kind index : Nat) (b : Bytes) : unchangedBut [.par] s (digAdd s kind index b) :=
  .ite (unchangedBut_refl _ _) (par_unchanged s _)

theorem stnOutput_unchanged (s : State) (cls n inst : Nat) (late : Bool) : unchangedBut frameParts s (stnOutput s cls n inst late).1 := by
  have noted (t : State) (a : Arrival) (block queue : Nat) : unchangedBut frameParts t (noteLate t a block queue) :=
    (noteLate_unchanged t a block queue).mono (by decide)
  have digested (t : State) (kind index : Nat) (b : Bytes) : unchangedBut frameParts t (digAdd t kind index b) :=
    (digAdd_unchanged t kind index b).mono (by decide)
  refine .iteFst ((noTargetBump_unchanged s n).mono (by decide)) ?_
  refine .trans (noted s (arrival s 2000 ⟨inst, 0, late, 1, n, none⟩) 0x0E (enPort (stOf s n).entry)) ?_
  refine .trans (.ite (p := cls = 0x20) (digested _ 2 0 (outImage s n)) (digested _ 0 cls (outImage s n))) ?_
  dsimp only
  cases arrival s 2000 ⟨inst, 0, late, 1, n, none⟩ with
  | onTime => exact portUpd_unchanged _ _ _
  | lateRun => exact imageLaunch_unchanged _ _ _ _
  | lateDrop => exact unchangedBut_refl _ _

/-! ### Digests, and a pair that gives up control -/

/-- The parts that a pair's state, and the messages and events that tell of it, may change (R536, R538, R540). -/
abbrev pairParts : List Part := [.regs, .recd, .wlk, .par, .mram, .out]

theorem par_pairParts (s : State) (x : Par) : unchangedBut pairParts s { s with par := x } := (par_unchanged s x).mono (by decide)

theorem bump_pairParts (s : State) (a : Nat) : unchangedBut pairParts s (bump s a) := (bumpN_unchanged s a 1).mono (by decide)

theorem parEvent_unchanged (s : State) (k : EvKind) (cause at' epoch kind index : Nat) :
    unchangedBut pairParts s (parEvent s k cause at' epoch kind index) := (event_unchanged s k _).mono (by decide)

theorem mirrorSend_pairParts (s : State) (typ : Nat) (b : Bytes) : unchangedBut pairParts s (mirrorSend s typ b) :=
  (mirrorSend_unchanged s typ b).mono (by decide)

theorem parUnsync_pairParts (s : State) (cause : Nat) : unchangedBut pairParts s (parUnsync s cause) := by
  refine .ite (unchangedBut_refl _ _) ?_
  dsimp only
  refine .ite (.trans ?_ (parEvent_unchanged _ _ _ _ _ _ _)) (.trans ?_ (parEvent_unchanged _ _ _ _ _ _ _))
  · exact par_pairParts s _
  · exact (par_pairParts s _).trans (bump_pairParts _ _)

theorem pairGiveUp_pairParts (s : State) (cause : Nat) : unchangedBut pairParts s (pairGiveUp s cause) := by
  refine .ite ?_ (parUnsync_pairParts s 4)
  refine .trans ?_ ((statusChanged_unchanged _).mono (by decide))
  refine .trans ?_ (par_pairParts _ _)
  refine .trans ?_ (parEvent_unchanged _ evPairGaveUp cause _ _ 0 0)
  exact (mirrorSend_pairParts s 6 _).trans (bump_pairParts _ cParGiveUps)

theorem digMismatch_unchanged (s : State) (d : Digest) : unchangedBut pairParts s (digMismatch s d) := by
  refine .trans (bump_pairParts s cParDigestMismatches) (.ite ?_ (unchangedBut_refl _ _))
  refine .trans ?_ (parUnsync_pairParts _ 3)
  exact (par_pairParts _ _).trans (parEvent_unchanged _ _ _ _ _ _ _)

theorem digEnd_unchanged (s : State) (kind index inst : Nat) : unchangedBut pairParts s (digEnd s kind index inst) := by
  refine .ite (unchangedBut_refl _ _) ?_
  dsimp only
  refine .trans ?_ (.ite (digMismatch_unchanged _ _) (unchangedBut_refl _ _))
  refine .trans ?_ (mirrorSend_pairParts _ 3 _)
  exact (par_pairParts s _).trans (bump_pairParts _ cParDigests)

/-- A block that asserts FAULT_N may raise its vector (R132, R589). -/
theorem assertFault_unchanged (s : State) (f : FaultSrc) : unchangedBut [.regs, .pwr, .out] s (assertFault s f) := by
  have raised (t : State) : unchangedBut [.regs, .pwr, .out] t (statusChanged (glbInt t fGlbIntFault 253)) := by
    refine .trans ?_ ((statusChanged_unchanged _).mono (by decide))
    exact fun p hp => by cases p <;> simp_all [samePart, glbInt]
  refine .trans ?_ (.ite (raised _) (unchangedBut_refl _ _))
  exact fun p hp => by cases p <;> simp_all [samePart]

end Sys2Proof.Machine
end

section
/-! Proofs of the Interlock Engine chapter's effects (R207, R212 to R217, R226, O13): a scan cut into its phases, what each of them leaves of the
engine, a late scan, a compare mismatch and a write of FB_END. -/
namespace Sys2Proof.Machine
open Sys2Proof

/-! ### What the phases of a scan leave -/

/-- The engine's image and its record of the last scan stay the same. -/
structure SameScan (a b : Ile) : Prop where
  image : b.image = a.image
  scanned : b.scanned = a.scanned
  lastScan : b.lastScan = a.lastScan

theorem SameScan.refl (a : Ile) : SameScan a a := ⟨rfl, rfl, rfl⟩

theorem SameScan.trans {a b c : Ile} (h : SameScan a b) (g : SameScan b c) : SameScan a c :=
  ⟨g.image.trans h.image, g.scanned.trans h.scanned, g.lastScan.trans h.lastScan⟩

/-- A phase of a scan leaves the Timeline, the engine's image and its record of the last scan. -/
structure ScanKept (s t : State) : Prop where
  tmb : t.tmb = s.tmb
  ile : SameScan s.ile t.ile

theorem ScanKept.refl (s : State) : ScanKept s s := ⟨rfl, .refl _⟩

theorem ScanKept.trans {s t u : State} (h : ScanKept s t) (g : ScanKept t u) : ScanKept s u := ⟨g.tmb.trans h.tmb, h.ile.trans g.ile⟩

theorem ScanKept.ite {s t u : State} {p : Prop} [Decidable p] (ht : ScanKept s t) (hu : ScanKept s u) : ScanKept s (if p then t else u) := by
  split
  · exact ht
  · exact hu

theorem ScanKept.foldl {β : Type} {f : State → β → State} (hf : ∀ s b, ScanKept s (f s b)) (bs : List β) (s : State) :
    ScanKept s (bs.foldl f s) :=
  List.foldlRecOn bs f (.refl s) fun t ht b _ => ht.trans (hf t b)

/-- What changes neither the Timeline nor the Interlock Engine is such a phase. -/
theorem scanKept_of_unchanged {l : List Part} {s t : State} (h : unchangedBut l s t) (htmb : Part.tmb ∉ l := by decide)
    (hile : Part.ile ∉ l := by decide) : ScanKept s t := by
  have same : t.ile = s.ile := h .ile hile
  exact ⟨h .tmb htmb, same ▸ .refl _⟩

/-- A change of the engine that leaves its image and its record of the last scan. -/
theorem scanKept_ile {s : State} {x : Ile} (h : SameScan s.ile x) : ScanKept s { s with ile := x } := ⟨rfl, h⟩

theorem ileEvent_scanKept (s : State) (k : EvKind) (alarm id reason insn : Nat) : ScanKept s (ileEvent s k alarm id reason insn) :=
  scanKept_of_unchanged (event_unchanged s k _)

theorem bumpN_scanKept (s : State) (a n : Nat) : ScanKept s (bumpN s a n) := scanKept_of_unchanged (bumpN_unchanged s a n)

theorem fallbackExit_scanKept (s : State) : ScanKept s (fallbackExit s) := by
  refine .trans ?_ (ileEvent_scanKept _ evFallbackExit 0 0 s.ile.fbReason 0)
  exact scanKept_ile ⟨rfl, rfl, rfl⟩

theorem ileLatch_scanKept (s : State) (m : IleImage) (at' : Nat) : ScanKept s (ileLatch s m at').1 :=
  .trans (bumpN_scanKept s cIleUnusableInputs _) (scanKept_ile ⟨rfl, rfl, rfl⟩)

theorem ileSeed_scanKept (s : State) (m : IleImage) (img : SMap Bool) : ScanKept s (ileSeed s m img) := scanKept_ile ⟨rfl, rfl, rfl⟩

theorem ileWrite_scanKept (fb all : Bool) (m : IleImage) (at' : Nat) (s : State) (id : Nat) : ScanKept s (ileWrite fb all m at' s id) := by
  refine .ite (.refl s) (.ite (.refl s) (.trans ?_ (.ite (scanKept_ile ⟨rfl, rfl, rfl⟩) (scanKept_ile ⟨rfl, rfl, rfl⟩))))
  exact .trans (scanKept_of_unchanged (writePoint_unchanged s _)) (bumpN_scanKept _ cIleOutWrites 1)

theorem ileFrames_scanKept (l : List Nat) (inst : Nat) (late : Bool) (s : State) : ScanKept s (ileFrames l inst late s) :=
  .foldl (fun t n => scanKept_of_unchanged (stnOutput_unchanged t 0x20 n inst late)) l s

/-! ### The list -/

/-- A store changes output images only (R208). -/
theorem ileStore_sameScan (fb live : Bool) (gone : Nat → Bool) (r : IleRun) (id : Nat) (v : Bool) :
    SameScan r.ile (ileStore fb live gone r id v).ile := by
  unfold ileStore
  split
  · exact .refl _
  · cases fb <;> cases live <;> exact ⟨rfl, rfl, rfl⟩

theorem SameScan.ite {a : Ile} {x y : IleRun × Bool} {p : Prop} [Decidable p] (hx : SameScan a x.1.ile) (hy : SameScan a y.1.ile) :
    SameScan a (if p then x else y).1.ile := by
  split
  · exact hx
  · exact hy

/-- No instruction changes the image or the record of the last scan (R208 to R211, R215): one changes ACC and the branch stack, stores to
output images, or changes a marker, a timer, an edge memory or an alarm. -/
theorem ileInsn_sameScan (tc : Nat) (presets : List Nat) (okBit : Nat → Bool) (live : Bool) (gone : Nat → Bool) (a : IleRun × Bool) (w : Nat) :
    SameScan a.1.ile (ileInsn tc presets okBit live gone a w).1.ile := by
  obtain ⟨r, fb⟩ := a
  have same := SameScan.refl r.ile
  have store (v : Bool) := ileStore_sameScan fb live gone r (ileArg w) v
  unfold ileInsn
  refine .ite same (.ite same (.ite same (.ite same ?_)))
  dsimp only
  split
  -- The end of a branch, stores, stores under ACC, markers under ACC and an alarm choose; the others change one field.
  case h_7 => split <;> exact same
  case h_8 | h_9 => exact store _
  case h_10 | h_11 => exact .ite (store _) same
  case h_13 | h_14 => exact .ite ⟨rfl, rfl, rfl⟩ same
  case h_20 => exact .ite same ⟨rfl, rfl, rfl⟩
  all_goals exact ⟨rfl, rfl, rfl⟩

/-! ### A scan -/

/-- A scan's instant is reached, and fallback ends there if it is over (R212, R226). -/
def scanBegun (s : State) (at' : Nat) : State := if fallbackOver (advance s at') at' then fallbackExit (advance s at') else advance s at'

/-- The inputs are latched, and at an image's first scan its output images have a value (R212, R214). -/
def scanLatched (s : State) (m : IleImage) (at' : Nat) : State :=
  if (ileLatch s m at').1.ile.scanned then (ileLatch s m at').1 else ileSeed (ileLatch s m at').1 m (ileLatch s m at').2.1

/-- The list has run on the latched inputs (R212). -/
def listRun (s : State) (m : IleImage) (at' : Nat) : IleRun :=
  (m.code.foldl (ileInsn at' m.presets (ileLatch s m at').2.2 (fallbackWrites s at') (ileGone (scanLatched s m at') m))
    (⟨false, [], (ileLatch s m at').2.1, (scanLatched s m at').ile, [], []⟩, false)).1

/-- The list's result stands in the engine, with the scan's instant. -/
def listEnded (s : State) (m : IleImage) (at' : Nat) : State :=
  { scanLatched s m at' with ile := { (listRun s m at').ile with scanned := true, lastScan := at' } }

/-- The outputs that are due are written and the list's alarms recorded (R214, R215, R225); `fbOn` tells that fallback writes. -/
def outputsWritten (m : IleImage) (at' : Nat) (fbOn : Bool) (r : IleRun) (s : State) : State :=
  let s := bumpN s cIleRefLostStores r.lost.length
  let s := (ileStores (ileMain m)).foldl (ileWrite false false m at') s
  let s := if fbOn then (ileStores (ileFallback m)).foldl (ileWrite true s.ile.fbFirst m at') s else s
  let s := { s with ile := { s.ile with fbFirst := s.ile.fbFirst && !fbOn } }
  r.events.foldl (fun t e => ileEvent t (if e.1 then evIleAlarm else evIleAlarmClear) e.2 0 0 0) s

/-- The frames leave, and the scan's digest is compared (R216, R536). -/
def scanSent (m : IleImage) (at' dur : Nat) (late fbOn : Bool) (s : State) : State :=
  let inst := at' + m.outOfs * 1000
  let mine := ileStores (ileMain m) ++ (if fbOn then ileStores (ileFallback m) else [])
  let s := mine.foldl (fun s id => if (s.pst.points.get id).stamp = at' then digPoint s 2 0 id else s) s
  let s := ileFrames m.ilkStations inst late s
  let s := if s.ile.state = .fallback then ileFrames m.fbStations inst late s else s
  let s := digEnd s 2 0 at'
  bumpMax (bump s cIleScans) 0x500028 dur

/-- The outputs of a scan's list are written. -/
def scanWritten (m : IleImage) (at' : Nat) (s : State) : State :=
  outputsWritten m at' (fallbackWrites s at') (listRun s m at') (listEnded s m at')

/-- A late scan takes its time (R217). -/
def lateTaken (s : State) (t : Nat) (late : Bool) : State := if late then advance s t else s

/-- A scan is made of its phases. -/
theorem ileScanAt_eq {s : State} {m : IleImage} (h : s.ile.image = some m) (at' dur : Nat) (late : Bool) :
    ileScanAt at' dur late s = scanSent m at' dur late (fallbackWrites (scanBegun s at') at')
      (lateTaken (scanWritten m at' (scanBegun s at')) (at' + dur) late) := by
  simp only [ileScanAt, h]
  rfl

theorem scanBegun_keeps (s : State) (at' : Nat) :
    SameScan s.ile (scanBegun s at').ile ∧ (scanBegun s at').tmb.now = max s.tmb.now at' := by
  have reached : (advance s at').ile = s.ile := advance_unchanged s at' .ile (by decide)
  obtain ⟨htmb, hile⟩ : ScanKept (advance s at') (scanBegun s at') := .ite (fallbackExit_scanKept _) (.refl _)
  rw [reached] at hile
  exact ⟨hile, by rw [htmb, advance_now]⟩

theorem scanLatched_scanKept (s : State) (m : IleImage) (at' : Nat) : ScanKept s (scanLatched s m at') :=
  (ileLatch_scanKept s m at').trans (.ite (.refl _) (ileSeed_scanKept _ _ _))

theorem listRun_sameScan (s : State) (m : IleImage) (at' : Nat) : SameScan s.ile (listRun s m at').ile :=
  (scanLatched_scanKept s m at').ile.trans
    (List.foldlRecOn (motive := fun b : IleRun × Bool => SameScan (scanLatched s m at').ile b.1.ile) m.code _ (.refl _)
      fun b hb w _ => hb.trans (ileInsn_sameScan _ _ _ _ _ b w))

theorem outputsWritten_scanKept (m : IleImage) (at' : Nat) (fbOn : Bool) (r : IleRun) (s : State) :
    ScanKept s (outputsWritten m at' fbOn r s) := by
  have written (fb all : Bool) (l : List Nat) (t : State) : ScanKept t (l.foldl (ileWrite fb all m at') t) :=
    .foldl (ileWrite_scanKept fb all m at') l t
  refine .trans ?_ (.foldl (fun t e => ileEvent_scanKept t _ _ _ _ _) r.events _)
  refine .trans ?_ (scanKept_ile ⟨rfl, rfl, rfl⟩)
  refine .trans ?_ (.ite (written true _ _ _) (.refl _))
  exact (bumpN_scanKept s _ _).trans (written false false _ _)

theorem scanSent_scanKept (m : IleImage) (at' dur : Nat) (late fbOn : Bool) (s : State) : ScanKept s (scanSent m at' dur late fbOn s) := by
  have digested (t : State) (id : Nat) : ScanKept t (digPoint t 2 0 id) := scanKept_of_unchanged (digAdd_unchanged t 2 0 _)
  have highest (t : State) (a n : Nat) : ScanKept t (bumpMax t a n) := .ite ⟨rfl, .refl _⟩ (.refl _)
  refine .trans ?_ (highest _ 0x500028 dur)
  refine .trans ?_ (bumpN_scanKept _ cIleScans 1)
  refine .trans ?_ (scanKept_of_unchanged (digEnd_unchanged _ 2 0 at'))
  refine .trans ?_ (.ite (ileFrames_scanKept _ _ _ _) (.refl _))
  refine .trans ?_ (ileFrames_scanKept _ _ _ _)
  exact .foldl (fun t id => .ite (digested t id) (.refl t)) _ s

/-- What a scan has noted before its frames leave. -/
theorem scanWritten_keeps (s : State) (m : IleImage) (at' : Nat) :
    (scanWritten m at' s).ile.image = s.ile.image ∧ (scanWritten m at' s).ile.scanned = true ∧ (scanWritten m at' s).ile.lastScan = at' ∧
      (scanWritten m at' s).tmb = s.tmb := by
  obtain ⟨htmb, himage, hscanned, hlast⟩ : ScanKept (listEnded s m at') (scanWritten m at' s) := outputsWritten_scanKept _ _ _ _ _
  exact ⟨himage.trans (listRun_sameScan s m at').image, hscanned, hlast, htmb.trans (scanLatched_scanKept s m at').tmb⟩

theorem lateTaken_keeps (s : State) (t : Nat) (late : Bool) :
    (lateTaken s t late).ile = s.ile ∧ (lateTaken s t late).tmb.now = if late then max s.tmb.now t else s.tmb.now := by
  cases late with
  | true => exact ⟨advance_unchanged s t .ile (by decide), advance_now s t⟩
  | false => exact ⟨rfl, rfl⟩

/-- What a scan of the running image notes, and the time it takes (R212, R217). -/
structure Scanned (s r : State) (m : IleImage) (at' fin : Nat) : Prop where
  scanned : r.ile.scanned = true
  lastScan : r.ile.lastScan = at'
  image : r.ile.image = some m
  now : r.tmb.now = max s.tmb.now fin

theorem ileScanAt_scanned {s : State} {m : IleImage} (h : s.ile.image = some m) (at' dur : Nat) (late : Bool) :
    Scanned s (ileScanAt at' dur late s) m at' (if late then at' + dur else at') := by
  obtain ⟨begun, hbegun⟩ := scanBegun_keeps s at'
  obtain ⟨himage, hscanned, hlast, htmb⟩ := scanWritten_keeps (scanBegun s at') m at'
  obtain ⟨hile, hnow⟩ := lateTaken_keeps (scanWritten m at' (scanBegun s at')) (at' + dur) late
  rw [ileScanAt_eq h]
  obtain ⟨sentTmb, sent⟩ := scanSent_scanKept m at' dur late (fallbackWrites (scanBegun s at') at')
    (lateTaken (scanWritten m at' (scanBegun s at')) (at' + dur) late)
  rw [hile] at sent
  refine ⟨sent.scanned.trans hscanned, sent.lastScan.trans hlast, ?image, ?now⟩
  case image => rw [sent.image, himage, begun.image, h]
  case now =>
    rw [sentTmb, hnow, htmb, hbegun]
    cases late <;> simp

/-- Settling the domain offset leaves what the scan noted. -/
theorem ileSettle_scanned {s r : State} {m : IleImage} {at' fin : Nat} (h : Scanned s r m at' fin) :
    Scanned s (ileSettle r) m at' fin := by
  unfold ileSettle
  rw [h.image]
  exact ⟨h.scanned, h.lastScan, h.image, h.now⟩

/-- The next scan, where no loaded image awaits its switch, is the running image's at its next instant (R212, R219). -/
theorem ileScanNext_eq {s : State} {m : IleImage} (hstate : s.ile.state ≠ .faulted) (himage : s.ile.image = some m) (hnext : s.ile.next = none)
    (dur : Nat) (late : Bool) : ileScanNext dur late s = ileSettle (ileScanAt (ileNextScan s m) dur late s) := by
  simp only [ileScanNext, if_neg hstate, himage, hnext]

theorem ileScanNext_scanned {s : State} {m : IleImage} (hstate : s.ile.state ≠ .faulted) (himage : s.ile.image = some m)
    (hnext : s.ile.next = none) (dur : Nat) (late : Bool) :
    Scanned s (ileScanNext dur late s) m (ileNextScan s m) (if late then ileNextScan s m + dur else ileNextScan s m) := by
  rw [ileScanNext_eq hstate himage hnext]
  exact ileSettle_scanned (ileScanAt_scanned himage _ dur late)

theorem ileScan_answers {s : State} {m : IleImage} (dur : Nat) (hstate : s.ile.state ≠ .faulted) (himage : s.ile.image = some m)
    (hnext : s.ile.next = none) :
    Answers (.ileScan dur) s fun r =>
      r.ile.scanned = true ∧ r.ile.lastScan = ileNextScan s m ∧ r.tmb.now = max s.tmb.now (ileNextScan s m) ∧ r.ile.image = some m := by
  obtain ⟨scanned, hlast, kept, hnow⟩ := ileScanNext_scanned hstate himage hnext dur false
  exact ⟨_, rfl, scanned, hlast, hnow, kept⟩

/-- A late scan is counted and recorded (R217). -/
def lateNoted (s : State) : State := ileEvent (bump s cIleScanLate) evIleScanLate 0 0 0 0

theorem lateNoted_scanKept (s : State) : ScanKept s (lateNoted s) :=
  (bumpN_scanKept s cIleScanLate 1).trans (ileEvent_scanKept _ _ _ _ _ _)

theorem ileScanLate_eq {s : State} {m : IleImage} (hstate : s.ile.state ≠ .faulted) (himage : s.ile.image = some m) (dur : Nat) :
    ileScanLate dur s = { lateNoted (ileScanNext dur true s) with
      ile := { (lateNoted (ileScanNext dur true s)).ile with skipTo := (lateNoted (ileScanNext dur true s)).tmb.now } } :=
  if_neg (by simp [hstate, himage])

theorem ileScanLate_answers {s : State} {m : IleImage} (dur : Nat) (hstate : s.ile.state ≠ .faulted) (himage : s.ile.image = some m)
    (hnext : s.ile.next = none) :
    Answers (.ileScanLate dur) s fun r =>
      r.ile.scanned = true ∧ r.ile.lastScan = ileNextScan s m ∧ r.tmb.now = max s.tmb.now (ileNextScan s m + dur) ∧
        r.ile.skipTo = r.tmb.now := by
  obtain ⟨scanned, hlast, -, hnow⟩ := ileScanNext_scanned hstate himage hnext dur true
  obtain ⟨htmb, noted⟩ := lateNoted_scanKept (ileScanNext dur true s)
  refine ⟨_, congrArg ok (ileScanLate_eq hstate himage dur), noted.scanned.trans scanned, noted.lastScan.trans hlast, ?_, rfl⟩
  exact (congrArg Tmb.now htmb).trans hnow

/-! ### A compare mismatch -/

/-- The ILE_LOAD that awaits its switch, if one does, ends FAULTED (R207). -/
def loadFaulted (s : State) : State :=
  match s.ile.next with
  | some n => endAwaiting s n.cmd .faulted
  | none => s

theorem loadFaulted_unchanged (s : State) : unchangedBut [.hif] s (loadFaulted s) := by
  unfold loadFaulted
  split
  · exact endAwaiting_unchanged s _ _
  · exact unchangedBut_refl _ _

/-- The engine is FAULTED, with no loaded image (R207). -/
def engineFaulted (s : State) : State := { s with ile := { s.ile with state := .faulted, next := none } }

theorem ileFault_eq {s : State} (hstate : s.ile.state ≠ .faulted) (t insn : Nat) :
    exec (.ileFault t insn) s =
      .next (pairGiveUp (ileEvent (assertFault (engineFaulted (loadFaulted (advance s t))) .interlock) evIleFault 0 0 0 insn) 7) :=
  if_neg hstate

/-- The fault's report, its event and a loss of control leave the engine and the Timeline (R207, R540). -/
theorem faultReported_unchanged (s : State) (insn : Nat) :
    unchangedBut [.regs, .recd, .wlk, .par, .mram, .pwr, .out] s
      (pairGiveUp (ileEvent (assertFault s .interlock) evIleFault 0 0 0 insn) 7) := by
  refine .trans ((assertFault_unchanged s .interlock).mono (by decide)) (.trans ?_ ((pairGiveUp_pairParts _ 7).mono (by decide)))
  exact (event_unchanged _ _ _).mono (by decide)

theorem ileFault_answers {s : State} (t insn : Nat) (hstate : s.ile.state ≠ .faulted) :
    Answers (.ileFault t insn) s fun r => r.ile.state = .faulted ∧ r.ile.next = none ∧ r.tmb.now = max s.tmb.now t := by
  have reported := faultReported_unchanged (engineFaulted (loadFaulted (advance s t))) insn
  have faulted : _ = (engineFaulted (loadFaulted (advance s t))).ile := reported .ile (by decide)
  have reached : _ = (loadFaulted (advance s t)).tmb := reported .tmb (by decide)
  have ended : (loadFaulted (advance s t)).tmb = (advance s t).tmb := loadFaulted_unchanged _ .tmb (by decide)
  refine ⟨_, ileFault_eq hstate t insn, congrArg Ile.state faulted, congrArg Ile.next faulted, ?_⟩
  rw [reached, ended, advance_now]

/-! ### FB_END -/

theorem fbEnd_answers {s : State} (hopen : windowOpen s 5 = true) (hstate : s.ile.state = .fallback) :
    Answers .fbEnd s fun r => r.ile.fbEnd = true ∧ r.ile.state = .fallback := by
  have noted : fbEnd s = { s with ile := { s.ile with fbEnd := true } } := if_pos hstate
  exact ⟨fbEnd s, congrArg ok (if_pos hopen), by rw [noted], by rw [noted]; exact hstate⟩

/-- Settles O13, one lemma for each clause: what a scan notes passes its phases, none of which changes the image, the instant noted or, but for
the scan's own time, the Timeline. -/
theorem interlockCommandsTakeEffect : Obligations.InterlockCommandsTakeEffect := by
  unfold Obligations.InterlockCommandsTakeEffect
  refine ⟨?scan, ?late, ?mismatch, ?fbEnd⟩
  case scan => exact fun dur m s hstate himage hnext => ileScan_answers dur hstate himage hnext
  case late => exact fun dur m s hstate himage hnext => ileScanLate_answers dur hstate himage hnext
  case mismatch => exact fun t insn s hstate => ileFault_answers t insn hstate
  case fbEnd => exact fun s hopen hstate => fbEnd_answers hopen hstate

end Sys2Proof.Machine
end

section
/-! Laws of the Step Sequencer's shared operations (R254, R256, R259 to R266, R271): how an executor stands after a change, the end of a command, a
decided boundary, an abort request, a checkpoint and the end of its recipe, and which parts of the state a decision leaves alone. -/
namespace Sys2Proof.Machine
open Sys2Proof

/-! ### How an executor stands -/

/-- Executor `x` stands as `e` in a canonical table, at the instant `now`. -/
structure ExecAt (s : State) (x : Nat) (e : Exec) (now : Nat) : Prop where
  wf : s.seq.exec.wf = true
  exec : seqX s x = e
  now : s.tmb.now = now

theorem execAt_of_canonical {s : State} (h : canonical s) (x : Nat) : ExecAt s x (seqX s x) s.tmb.now := by
  simp only [Bool.and_eq_true] at h
  exact ⟨by simp only [h], rfl, rfl⟩

theorem seqUpd_unchanged (s : State) (x : Nat) (f : Exec → Exec) : unchangedBut [.seq] s (seqUpd s x f) :=
  fun p hp => by cases p <;> simp_all [samePart]

section
variable {s t : State} {x now : Nat} {e : Exec}

/-- What leaves the Step Sequencer and the Timeline leaves the executor. -/
theorem ExecAt.of_unchanged {l : List Part} (h : ExecAt s x e now) (g : unchangedBut l s t) (hseq : .seq ∉ l) (htmb : .tmb ∉ l) :
    ExecAt t x e now := by
  have seq : t.seq = s.seq := g .seq hseq
  have tmb : t.tmb = s.tmb := g .tmb htmb
  exact ⟨by rw [seq]; exact h.wf, by rw [seqX, seq]; exact h.exec, by rw [tmb]; exact h.now⟩

theorem ExecAt.upd (h : ExecAt s x e now) (f : Exec → Exec) : ExecAt (seqUpd s x f) x (f e) now :=
  ⟨SMap.wf_upd _ x f h.wf, (SMap.get_upd_self _ x f h.wf).trans (congrArg f h.exec), h.now⟩

theorem ExecAt.bumpN (h : ExecAt s x e now) (a n : Nat) : ExecAt (Machine.bumpN s a n) x e now :=
  h.of_unchanged (bumpN_unchanged s a n) (by decide) (by decide)

theorem ExecAt.event (h : ExecAt s x e now) (k : EvKind) (l : List (Nat × Int)) : ExecAt (Machine.event s k l) x e now :=
  h.of_unchanged (event_unchanged s k l) (by decide) (by decide)

theorem ExecAt.startedIn (h : ExecAt s x e now) (c : Cmd) (d : Bytes) : ExecAt (Machine.startedIn s c d) x e now := ⟨h.wf, h.exec, h.now⟩

theorem ExecAt.advance (h : ExecAt s x e now) (i : Nat) : ExecAt (Machine.advance s i) x e (max now i) := by
  have seq : (Machine.advance s i).seq = s.seq := advance_unchanged s i .seq (by decide)
  exact ⟨by rw [seq]; exact h.wf, by rw [seqX, seq]; exact h.exec, by rw [advance_now, h.now]⟩

/-! ### Commands that end -/

/-- A command to the executor that ends leaves nothing but its status there (R116). -/
theorem ExecAt.seqEnd (h : ExecAt s x e now) (cmd : Option Nat) (st : Status) (r : Nat) :
    ∃ last, ExecAt (Machine.seqEnd s x cmd st r) x { e with lastStatus := last } now := by
  cases cmd with
  | none => exact ⟨e.lastStatus, h⟩
  | some c => exact ⟨st, (h.upd _).of_unchanged (endCmd_unchanged _ c st r 0) (by decide) (by decide)⟩

theorem ExecAt.dropCmds (h : ExecAt s x e now) (st : Status) :
    ∃ last, ExecAt (Machine.dropCmds s x st) x { e with lastStatus := last, next := none, hold := none } now := by
  unfold Machine.dropCmds
  dsimp only
  have next : ∃ l, ExecAt (match (seqX s x).next with | some b => Machine.seqEnd s x b.cmd st 0 | none => s) x { e with lastStatus := l } now := by
    split
    · exact h.seqEnd _ st 0
    · exact ⟨e.lastStatus, h⟩
  obtain ⟨l, hnext⟩ := next
  split
  · obtain ⟨last, hhold⟩ := hnext.seqEnd _ st 0
    exact ⟨last, hhold.upd _⟩
  · exact ⟨l, hnext.upd _⟩

/-- Pending offset groups are dropped, and counted (R259). -/
theorem ExecAt.cancelOffsets (h : ExecAt s x e now) : ExecAt (Machine.cancelOffsets s x) x { e with lq := [] } now := (h.upd _).bumpN _ _

/-! ### The end of a recipe -/

/-- The parts that a record of the Hendel log may change (R503, R504). -/
abbrev hendelParts : List Part := [.regs, .recd, .mram, .aon]

theorem hendelLogPut_unchanged (s : State) (r : EventRec) : unchangedBut hendelParts s (hendelLogPut s r) := by
  have gasped (t : State) (y : Aon) : unchangedBut hendelParts t { t with aon := y } :=
    fun p hp => by cases p <;> simp_all [samePart]
  have logged (y : Mram) : unchangedBut hendelParts s { s with mram := y } :=
    fun p hp => by cases p <;> simp_all [samePart]
  have offered (t : State) : unchangedBut hendelParts t (ringOffer t r) := by
    unfold ringOffer
    split
    · exact unchangedBut_refl _ t
    · refine .ite (unchangedBut_refl _ t) (.ite ?_ ?_)
      · exact (recd_unchanged t _).mono (by decide)
      · exact (recd_bump_unchanged t _ _).mono (by decide)
  refine .ite ?_ (logged _)
  exact (gasped s _).trans (offered _)

theorem hendelCopy_unchanged (s : State) (k : EvKind) (l : List (Nat × Int)) : unchangedBut hendelParts s (hendelCopy s k l) :=
  (hendelLogPut_unchanged s _).trans ((event_unchanged _ k l).mono (by decide))

/-- A checkpoint, written or failed, leaves nothing but its number at the executor (R265, R266). -/
theorem ExecAt.checkpoint (h : ExecAt s x e now) (entry fails : Nat) :
    ∃ q, ExecAt (Machine.checkpoint s x entry fails) x { e with bseq := q } now := by
  have journalled (t : State) (y : Mram) : unchangedBut [.mram] t { t with mram := y } := fun p hp => by cases p <;> simp_all [samePart]
  have failed (t : State) : unchangedBut hendelParts t
      (hendelCopy (setFld (bump t cSeqCheckpointFail) (fSeqExecCkptFail x) 1) evCheckpointFail (seqItems t x 0 0)) := by
    refine .trans ?_ (hendelCopy_unchanged _ _ _)
    exact fun p hp => by cases p <;> simp_all [samePart]
  have numbered := (h.bumpN cSeqCheckpoints 1).upd fun e' => { e' with bseq := ((seqX s x).bseq + 1) % 2 ^ 32 }
  refine ⟨_, numbered.of_unchanged (l := hendelParts) ?_ (by decide) (by decide)⟩
  exact .trans ((journalled _ _).mono (by decide)) (.ite (failed _) (unchangedBut_refl _ _))

/-- A recipe that ends has no boundary, hold or ramp left (R256, R264). -/
theorem ExecAt.seqFinish (h : ExecAt s x e now) (t fails : Nat) (aborted : Bool) :
    ∃ last q, ExecAt (Machine.seqFinish s x t fails aborted) x { e with
      lastStatus := last, next := none, hold := none, state := if aborted then .aborted else .done, launched := t, b := t, loops := [],
      ramps := [], bseq := q } now := by
  obtain ⟨last, dropped⟩ := h.dropCmds .state
  obtain ⟨q, saved⟩ := (dropped.upd fun e' => { e' with
    state := if aborted then .aborted else .done, launched := t, b := t, loops := [], ramps := [] }).checkpoint (if aborted then 5 else 1) fails
  have reported (u : State) : unchangedBut eventParts u (if aborted then seqEvent u evRecipeAborted x 0 0 else seqEvent u evRecipeDone x 0 0) :=
    .ite (event_unchanged u _ _) (event_unchanged u _ _)
  exact ⟨last, q, saved.of_unchanged (reported _) (by decide) (by decide)⟩

end

/-! ### Decisions -/

/-- The boundary that a decision for `b` sets at the instant `now`: moved there when it comes late, for the same step (R254, R260). -/
structure DecidedAs (now : Nat) (b d : Bnd) : Prop where
  inst : d.inst = if decide (b.inst < now + 200) then max b.inst now else b.inst
  step : d.step = b.step
  entry : d.entry = b.entry
  policy : d.policy = b.policy
  cmd : d.cmd = b.cmd

/-- A boundary that comes in time keeps its instant (R260). -/
theorem DecidedAs.inst_of_onTime {now : Nat} {b d : Bnd} (h : DecidedAs now b d) (htime : now + 200 ≤ b.inst) : d.inst = b.inst :=
  h.inst.trans (if_neg (by simpa using htime))

/-- The parts that a decision may change beside the Step Sequencer (R60, R260, R261). -/
abbrev decisionParts : List Part := [.regs, .recd, .hrt, .wlk, .mram, .out, .freeCtr]

theorem carryBoundary_unchanged (s : State) (x step inst : Nat) (mods : List Nat) :
    unchangedBut waligParts s (carryBoundary s x step inst mods) :=
  unchangedBut_foldl (fun t k => waligSend_unchanged t _ _ _ k true _) mods s

/-- A boundary is carried to its modules, and its preparation enters Hearth (R260, R261). -/
theorem carried_unchanged (s : State) (x step inst g : Nat) (mods : List Nat) :
    unchangedBut decisionParts s (hrtFirmware (carryBoundary s x step inst mods) 0x07 0 x 0 g) :=
  ((carryBoundary_unchanged s x step inst mods).mono (by decide)).trans ((hrtEnqueue_unchanged _ _).mono (by decide))

/-- The instant of a decided boundary is noted when it comes late (R60, R254). -/
theorem lateNoted_unchanged (s : State) (late : Bool) (x : Nat) :
    unchangedBut eventParts s (if late then noteLate s .lateRun 0x07 x else s) :=
  .ite (noteLate_unchanged s .lateRun 0x07 x) (unchangedBut_refl _ _)

theorem seqDecide_unchanged (s : State) (x : Nat) (b : Bnd) : unchangedBut (.seq :: decisionParts) s (seqDecide s x b) := by
  refine .trans (.trans ?_ ((seqUpd_unchanged _ x _).mono (by decide))) ((carried_unchanged _ x _ _ _ _).mono (by decide))
  exact (lateNoted_unchanged s _ x).mono (by decide)

@[simp] theorem seqDecide_hif (s : State) (x : Nat) (b : Bnd) : (seqDecide s x b).hif = s.hif := seqDecide_unchanged s x b .hif (by decide)

theorem abortAt_unchanged (s : State) (x i : Nat) (cmd : Option Nat) : unchangedBut (.seq :: decisionParts) s (abortAt s x i cmd) :=
  ((seqUpd_unchanged s x _).mono (by decide)).trans ((carried_unchanged _ x _ i _ _).mono (by decide))

@[simp] theorem abortAt_hif (s : State) (x i : Nat) (cmd : Option Nat) : (abortAt s x i cmd).hif = s.hif :=
  abortAt_unchanged s x i cmd .hif (by decide)

section
variable {s : State} {x now : Nat} {e : Exec}

theorem ExecAt.seqDecide (h : ExecAt s x e now) (b : Bnd) :
    ∃ g d, ExecAt (Machine.seqDecide s x b) x { e with gen := g, next := some d } now ∧ DecidedAs now b d := by
  have noted := h.of_unchanged (lateNoted_unchanged s (decide (b.inst < s.tmb.now + 200)) x) (by decide) (by decide)
  refine ⟨_, _, ((noted.upd _).of_unchanged (carried_unchanged _ x _ _ _ _) (by decide) (by decide)), ?_, rfl, rfl, rfl, rfl⟩
  rw [← h.now]
  exact congrArg (fun n => if decide (b.inst < s.tmb.now + 200) then max b.inst n else b.inst) (noted.now.trans h.now.symm)

/-- An abort is noted for its instant; its boundary's preparation does not touch the executor (R263). -/
theorem ExecAt.abortAt (h : ExecAt s x e now) (i : Nat) (cmd : Option Nat) :
    ∃ g mods due, ExecAt (Machine.abortAt s x i cmd) x { e with gen := g, abort := some ⟨i, cmd, g, none, mods, due⟩ } now :=
  ⟨_, _, _, (h.upd _).of_unchanged (carried_unchanged _ x _ i _ _) (by decide) (by decide)⟩

/-- A resume that R269 accepts with RESUME or REENTER_STEP sets the boundary into the executor's own step. -/
theorem ExecAt.resumeAt_step (h : ExecAt s x e now) {p : Nat} (hp : p = 1 ∨ p = 2) (r : Nat) (cmd : Option Nat) :
    ∃ g d, ExecAt (resumeAt s x r p cmd) x { e with gen := g, next := some d } now ∧ d.step = some e.step ∧ d.policy = p ∧ d.cmd = cmd := by
  obtain ⟨g, d, hdecide, hd⟩ := h.seqDecide { bndOf r (some (seqX s x).step) 6 (seqX s x).loops cmd with policy := p, guarded := true }
  have step : d.step = some e.step := hd.step.trans (congrArg (fun y : Exec => some y.step) h.exec)
  rcases hp with rfl | rfl <;> exact ⟨g, d, hdecide, step, hd.policy, hd.cmd⟩

/-- On the owner of a domain recipe the modules of a resume are told, and its boundary waits for them (R271); its command runs on. -/
theorem ExecAt.seqResume (h : ExecAt s x e now) {policy p : Nat} (hcheck : resumeCheck s x policy = .ok p) (hp : p = 1 ∨ p = 2) (cmd : Option Nat) :
    ∃ g d, ExecAt (Machine.seqResume s x policy cmd) x { e with gen := g, next := some d } now ∧ d.step = some e.step ∧ d.policy = p ∧
      d.cmd = cmd ∧ (Machine.seqResume s x policy cmd).hif = s.hif := by
  unfold Machine.seqResume
  simp only [hcheck]
  generalize ceilUs s (seqImg (seqX s x)) (s.tmb.now + seqLead s (seqImg (seqX s x))) = r
  obtain ⟨g, d, hset, hstep, hpolicy, hcmd⟩ := h.resumeAt_step hp r cmd
  have hhif : (resumeAt s x r p cmd).hif = s.hif := by rcases hp with rfl | rfl <;> exact seqDecide_hif _ _ _
  split
  · have told (t : State) (l : List Nat) (typ : Nat) (b : State → Bytes) :
        unchangedBut waligParts t (l.foldl (fun s k => waligAll s clsLAUNCH typ k true (b s)) t) :=
      unchangedBut_foldl (fun u k => waligSend_unchanged u _ _ _ k true _) l t
    refine ⟨g, _, (hset.upd _).of_unchanged (told _ _ 3 _) (by decide) (by decide), hstep, hpolicy, hcmd, ?_⟩
    exact (told _ _ 3 _ .hif (by decide)).trans hhif
  · exact ⟨g, d, hset, hstep, hpolicy, hcmd, hhif⟩

end

end Sys2Proof.Machine
end

section
/-! Proofs of the Step Sequencer's commands (R245, R263, R264, R269, R273, R275, O16): RECIPE_START, RECIPE_HOLD, RECIPE_RELEASE, RECIPE_ABORT,
RECIPE_RESUME, the automatic resumes and the instant of an abort. -/
namespace Sys2Proof.Machine
open Sys2Proof

/-! ### RECIPE_START -/

/-- RECIPE_START passes its checks (R245, R263). -/
theorem recipeStart_of_checks {s : State} {c : Cmd}
    (hstate : (seqX s c.unit).state = .loaded ∨ (seqX s c.unit).state = .done ∨ (seqX s c.unit).state = .aborted)
    (hnext : (seqX s c.unit).next = none) (hfree : contextTaken s c.unit = false) (hstep : c.arg < riSteps (seqImg (seqX s c.unit))) :
    recipeStart s c = seqDecide s c.unit (bndOf (seqInstant s c.unit c.instant) (some c.arg) 0 [] (some c.handle)) := by
  rcases hstate with hstate | hstate | hstate <;> simp [recipeStart, hstate, hnext, hfree, Nat.not_le.mpr hstep]

/-- A command whose effect leaves the commands in flight runs on. -/
theorem running_of_hif {s r : State} {h op : Nat} {c : Cmd} (hc : CanStart s h op c) (hhif : r.hif = (startedIn s c []).hif) :
    running r h = true := (running_congr (congrArg Hif.cmds hhif) h).trans (running_startedIn hc [])

theorem recipeStart_answers {s : State} {h : Nat} {c : Cmd} (hcan : canonical s) (hc : CanStart s h 0x31 c)
    (hstate : (seqX s c.unit).state = .loaded ∨ (seqX s c.unit).state = .done ∨ (seqX s c.unit).state = .aborted)
    (hnext : (seqX s c.unit).next = none) (hfree : contextTaken s c.unit = false) (hstep : c.arg < riSteps (seqImg (seqX s c.unit)))
    (htime : s.tmb.now + 200 ≤ seqInstant s c.unit c.instant) :
    Answers (.recipeStart h) s fun r =>
      (seqX r c.unit).next.map (fun b => (b.inst, b.step, b.entry, b.cmd)) = some (seqInstant s c.unit c.instant, some c.arg, 0, some h) ∧
        running r h = true := by
  have starts : recipeStart (startedIn s c []) (startedCmd c []) =
      seqDecide (startedIn s c []) c.unit (bndOf (seqInstant s c.unit c.instant) (some c.arg) 0 [] (some c.handle)) :=
    recipeStart_of_checks hstate hnext hfree hstep
  obtain ⟨g, d, hset, hd⟩ := ((execAt_of_canonical hcan c.unit).startedIn c []).seqDecide
    (bndOf (seqInstant s c.unit c.instant) (some c.arg) 0 [] (some c.handle))
  refine ⟨_, congrArg ok ((startCmd_of_canStart hc [] recipeStart).trans starts), ?_, running_of_hif hc (seqDecide_hif ..)⟩
  rw [hset.exec, ← handle_of_cmdFind hc.1, Option.map_some, hd.inst_of_onTime htime, hd.step, hd.entry, hd.cmd]
  rfl

/-! ### RECIPE_HOLD -/

/-- A hold of a running recipe is noted for its instant (R263, R264). -/
theorem recipeHold_of_running {s : State} {c : Cmd} (howner : seqFollower s c.unit = false) (hstate : (seqX s c.unit).state = .running)
    (hhold : (seqX s c.unit).hold = none) :
    recipeHold s c = seqUpd s c.unit fun e => { e with hold := some (seqInstant s c.unit c.instant, some c.handle) } := by
  simp [recipeHold, howner, hstate, hhold]

/-- A hold of a held recipe is done at once (R264). -/
theorem recipeHold_of_held {s : State} {c : Cmd} (howner : seqFollower s c.unit = false) (hstate : (seqX s c.unit).state = .held) :
    recipeHold s c = seqEnd s c.unit (some c.handle) .ok (seqX s c.unit).step := by
  simp [recipeHold, howner, hstate]

theorem recipeHold_answers {s : State} {h : Nat} {c : Cmd} (hcan : canonical s) (hc : CanStart s h 0x32 c)
    (howner : seqFollower s c.unit = false) (hstate : (seqX s c.unit).state = .running) (hhold : (seqX s c.unit).hold = none) :
    Answers (.recipeHold h) s fun r => (seqX r c.unit).hold = some (seqInstant s c.unit c.instant, some h) ∧ running r h = true := by
  have notes : recipeHold (startedIn s c []) (startedCmd c []) =
      seqUpd (startedIn s c []) c.unit fun e => { e with hold := some (seqInstant s c.unit c.instant, some c.handle) } :=
    recipeHold_of_running howner hstate hhold
  have noted := ((execAt_of_canonical hcan c.unit).startedIn c []).upd fun e =>
    { e with hold := some (seqInstant s c.unit c.instant, some c.handle) }
  refine ⟨_, congrArg ok ((startCmd_of_canStart hc [] recipeHold).trans notes), ?_, running_of_hif hc (seqUpd_hif ..)⟩
  rw [noted.exec, handle_of_cmdFind hc.1]

theorem recipeHold_answers_held {s : State} {h : Nat} {c : Cmd} (hc : CanStart s h 0x32 c) (howner : seqFollower s c.unit = false)
    (hstate : (seqX s c.unit).state = .held) :
    Answers (.recipeHold h) s fun r => endStatus r h = some .ok ∧ endResult r h = some (seqX s c.unit).step := by
  have ends : recipeHold (startedIn s c []) (startedCmd c []) = seqEnd (startedIn s c []) c.unit (some h) .ok (seqX s c.unit).step := by
    rw [← handle_of_cmdFind hc.1]
    exact recipeHold_of_held howner hstate
  obtain ⟨x, hfind, hopen⟩ := cmdFind_startedIn hc []
  refine ⟨_, congrArg ok ((startCmd_of_canStart hc [] recipeHold).trans ends), ?_, ?_⟩
  · exact endStatus_endCmd (s := seqUpd (startedIn s c []) c.unit _) .ok _ 0 hfind hopen
  · exact endResult_endCmd (s := seqUpd (startedIn s c []) c.unit _) .ok _ 0 hfind hopen

/-! ### RECIPE_RELEASE -/

/-- A held step is released by a boundary into it (R263, R269). -/
theorem recipeRelease_of_held {s : State} {c : Cmd} (howner : seqFollower s c.unit = false) (hstate : (seqX s c.unit).state = .held)
    (hlimited : seqLimited s (seqX s c.unit) = false) (hnext : (seqX s c.unit).next = none) (habort : (seqX s c.unit).abort = none)
    (hrestored : (seqX s c.unit).restored = false) :
    ∃ i, recipeRelease s c = seqDecide s c.unit (bndOf i (some (seqX s c.unit).step) 4 (seqX s c.unit).loops (some c.handle)) :=
  ⟨_, by simp [recipeRelease, howner, hstate, hlimited, hnext, habort, hrestored]; rfl⟩

theorem recipeRelease_answers {s : State} {h : Nat} {c : Cmd} (hcan : canonical s) (hc : CanStart s h 0x33 c)
    (howner : seqFollower s c.unit = false) (hstate : (seqX s c.unit).state = .held) (hlimited : seqLimited s (seqX s c.unit) = false)
    (hnext : (seqX s c.unit).next = none) (habort : (seqX s c.unit).abort = none) (hrestored : (seqX s c.unit).restored = false) :
    Answers (.recipeRelease h) s fun r =>
      (seqX r c.unit).next.map (fun b => (b.step, b.entry, b.cmd)) = some (some (seqX s c.unit).step, 4, some h) ∧ running r h = true := by
  obtain ⟨i, hrelease⟩ : ∃ i, recipeRelease (startedIn s c []) (startedCmd c []) =
      seqDecide (startedIn s c []) c.unit (bndOf i (some (seqX s c.unit).step) 4 (seqX s c.unit).loops (some c.handle)) :=
    recipeRelease_of_held howner hstate hlimited hnext habort hrestored
  obtain ⟨g, d, hset, hd⟩ := ((execAt_of_canonical hcan c.unit).startedIn c []).seqDecide
    (bndOf i (some (seqX s c.unit).step) 4 (seqX s c.unit).loops (some c.handle))
  refine ⟨_, congrArg ok ((startCmd_of_canStart hc [] recipeRelease).trans hrelease), ?_, running_of_hif hc (seqDecide_hif ..)⟩
  rw [hset.exec, ← handle_of_cmdFind hc.1, Option.map_some, hd.step, hd.entry, hd.cmd]
  rfl

/-! ### RECIPE_ABORT and RECIPE_RESUME -/

/-- An abort of a running or held recipe is noted for its instant, not in the past (R263). -/
theorem recipeAbort_of_active {s : State} {c : Cmd} (howner : seqFollower s c.unit = false) (habort : (seqX s c.unit).abort = none)
    (hstate : (seqX s c.unit).state = .running ∨ (seqX s c.unit).state = .held) :
    recipeAbort s c = abortAt s c.unit (max (seqInstant s c.unit c.instant) s.tmb.now) (some c.handle) := by
  rcases hstate with hstate | hstate <;> simp [recipeAbort, howner, habort, hstate]

theorem recipeAbort_answers {s : State} {h : Nat} {c : Cmd} (hcan : canonical s) (hc : CanStart s h 0x34 c)
    (howner : seqFollower s c.unit = false) (habort : (seqX s c.unit).abort = none)
    (hstate : (seqX s c.unit).state = .running ∨ (seqX s c.unit).state = .held) :
    Answers (.recipeAbort h) s fun r =>
      (seqX r c.unit).abort.map (fun a => (a.inst, a.cmd)) = some (max (seqInstant s c.unit c.instant) s.tmb.now, some h) ∧
        running r h = true := by
  have requests : recipeAbort (startedIn s c []) (startedCmd c []) =
      abortAt (startedIn s c []) c.unit (max (seqInstant s c.unit c.instant) s.tmb.now) (some h) := by
    rw [← handle_of_cmdFind hc.1]
    exact recipeAbort_of_active howner habort hstate
  obtain ⟨g, mods, due, hnoted⟩ := ((execAt_of_canonical hcan c.unit).startedIn c []).abortAt
    (max (seqInstant s c.unit c.instant) s.tmb.now) (some h)
  refine ⟨_, congrArg ok ((startCmd_of_canStart hc [] recipeAbort).trans requests), ?_, running_of_hif hc (abortAt_hif ..)⟩
  rw [hnoted.exec, Option.map_some]

theorem ok_of_toOption {α ε : Type} {r : Except ε α} {a : α} (h : r.toOption = some a) : r = .ok a := by
  cases r with
  | error e => cases h
  | ok b => exact congrArg Except.ok (Option.some.inj h)

theorem recipeResume_answers {s : State} {h : Nat} {c : Cmd} (hcan : canonical s) (hc : CanStart s h 0x35 c)
    (hcheck : (resumeCheck s c.unit c.arg).toOption = some 2) :
    Answers (.recipeResume h) s fun r =>
      (seqX r c.unit).next.map (fun b => (b.step, b.policy, b.cmd)) = some (some (seqX s c.unit).step, 2, some h) ∧ running r h = true := by
  have accepted : resumeCheck (startedIn s c []) c.unit c.arg = .ok 2 := ok_of_toOption hcheck
  obtain ⟨g, d, hset, hstep, hpolicy, hcmd, hhif⟩ := ((execAt_of_canonical hcan c.unit).startedIn c []).seqResume accepted (.inr rfl)
    (some c.handle)
  refine ⟨_, congrArg ok (startCmd_of_canStart hc [] _), ?_, running_of_hif hc hhif⟩
  refine (congrArg (fun e : Exec => e.next.map fun b => (b.step, b.policy, b.cmd)) hset.exec).trans ?_
  rw [Option.map_some, hstep, hpolicy, hcmd, handle_of_cmdFind hc.1]

/-! ### The automatic resumes -/

theorem advance_flag (s : State) (t : Nat) (f : Fld) : flag (advance s t) f = flag s f := by rw [flag, advance_fld, flag]

theorem state_of_resumeCheck {s : State} {x policy p : Nat} (h : resumeCheck s x policy = .ok p) : (seqX s x).state = .resumable := by
  cases Decidable.em ((seqX s x).state = .resumable) with
  | inl hstate => exact hstate
  | inr hstate =>
    rw [resumeCheck, if_pos hstate] at h
    cases h

/-- The only executor of the table resumes, where AUTO_RESUME allows it and its image asks for it (R275). -/
theorem seqAutoResume_of_single {s : State} {x : Nat} {e : Exec} (hflag : flag s fSeqCtrlAutoResume = true)
    (hentries : s.seq.exec.entries = [(x, e)]) (hstate : (seqX s x).state = .resumable) (himage : riFlag (seqImg (seqX s x)) 1 = true)
    (hnext : (seqX s x).next = none) (habort : (seqX s x).abort = none) : seqAutoResume s = seqResume s x 0 none := by
  simp [seqAutoResume, hflag, hentries, hstate, himage, hnext, habort]

/-- Where autostarts are allowed and no program's START does it, the recipes resume at the instant (R275). -/
theorem recipeAutoResume_eq {s : State} (t : Nat) (hauto : autostarts s = true) (hprogram : programAutostarts s = false)
    (hstarting : s.cyc.autoStarting = false) : exec (.recipeAutoResume t) s = .next (seqAutostartInstant s t) :=
  if_pos (by simp [hauto, hprogram, hstarting])

theorem recipeAutoResume_answers_off {s : State} (t : Nat) (hauto : autostarts s = true) (hprogram : programAutostarts s = false)
    (hstarting : s.cyc.autoStarting = false) (hflag : flag s fSeqCtrlAutoResume = false) :
    Answers (.recipeAutoResume t) s fun r => r.tmb.now = max s.tmb.now t ∧ r.seq = s.seq := by
  refine ⟨_, recipeAutoResume_eq t hauto hprogram hstarting, ?_⟩
  have off : seqAutostartInstant s t = advance s t := if_pos (by rw [advance_flag, hflag]; rfl)
  rw [off]
  exact ⟨advance_now s t, advance_unchanged s t .seq (by decide)⟩

theorem recipeAutoResume_answers {s : State} (t : Nat) {x : Nat} {e : Exec} (hauto : autostarts s = true)
    (hprogram : programAutostarts s = false) (hstarting : s.cyc.autoStarting = false) (hflag : flag s fSeqCtrlAutoResume = true)
    (hentries : s.seq.exec.entries = [(x, e)]) (hcan : canonical s) (himage : riFlag (seqImg e) 1 = true) (hnext : e.next = none)
    (habort : e.abort = none) (hcheck : (resumeCheck (advance s t) x 0).toOption = some 2) :
    Answers (.recipeAutoResume t) s fun r =>
      (seqX r x).next.map (fun b => (b.step, b.policy, b.cmd)) = some (some e.step, 2, none) ∧ r.tmb.now = max s.tmb.now t := by
  have listed : seqX s x = e := by simp [seqX, SMap.get, SMap.getD, hentries, SMap.find]
  have reached : ExecAt (advance s t) x e (max s.tmb.now t) := by
    rw [← listed]
    exact (execAt_of_canonical hcan x).advance t
  have accepted := ok_of_toOption hcheck
  obtain ⟨g, d, hset, hstep, hpolicy, hcmd, -⟩ := reached.seqResume accepted (.inr rfl) none
  have entries : (advance s t).seq.exec.entries = [(x, e)] := by rw [advance_unchanged s t .seq (by decide), hentries]
  have resumes : seqAutostartInstant s t = seqResume (advance s t) x 0 none :=
    seqAutoResume_of_single ((advance_flag s t _).trans hflag) entries (state_of_resumeCheck accepted) (by rw [reached.exec, himage])
      (by rw [reached.exec, hnext]) (by rw [reached.exec, habort])
  refine ⟨_, (recipeAutoResume_eq t hauto hprogram hstarting).trans (congrArg ok resumes), ?_, hset.now⟩
  rw [hset.exec, Option.map_some, hstep, hpolicy, hcmd]

/-! ### The instant of an abort -/

/-- At an abort's instant what is pending is cancelled and the ramps stop (R263). -/
def abortCleared (s : State) (x i : Nat) : State :=
  bump (seqUpd (cancelOffsets (dropCmds (advance s i) x .aborted) x) x fun e => { e with ramps := [], abort := none }) cSeqAborts

theorem abortCleared_exec {s : State} (hcan : canonical s) (x i : Nat) :
    ∃ last, ExecAt (abortCleared s x i) x
      { seqX s x with lastStatus := last, next := none, hold := none, lq := [], ramps := [], abort := none } (max s.tmb.now i) := by
  obtain ⟨last, dropped⟩ := ((execAt_of_canonical hcan x).advance i).dropCmds .aborted
  exact ⟨last, (dropped.cancelOffsets.upd _).bumpN _ _⟩

/-- The boundary to the abort step `n`, prepared when the abort was asked for (R263). -/
def abortBoundary (e : Exec) (a : AbortReq) (n : Nat) : Bnd :=
  ⟨a.inst, some n, 5, loopsAt (seqImg e) n e.loops, 0, a.cmd, a.gen, a.doneAt, false, a.waiting, a.ackDue, a.inst⟩

theorem recipeAbortInstant_answers_step {s : State} {x n : Nat} (fails : Nat) {a : AbortReq} (hcan : canonical s)
    (habort : (seqX s x).abort = some a) (hstep : riAbort (seqImg (seqX s x)) = some n) :
    Answers (.recipeAbortInstant x fails) s fun r =>
      (seqX r x).next.map (fun b => (b.inst, b.step, b.entry, b.cmd)) = some (a.inst, some n, 5, a.cmd) ∧ (seqX r x).abort = none ∧
        (seqX r x).ramps = [] ∧ (seqX r x).lq = [] ∧ r.tmb.now = max s.tmb.now a.inst := by
  obtain ⟨last, cleared⟩ := abortCleared_exec hcan x a.inst
  have run : exec (.recipeAbortInstant x fails) s =
      .next (seqUpd (abortCleared s x a.inst) x fun e => { e with next := some (abortBoundary e a n) }) := by
    show execRecipeAbortInstant x fails s = _
    simp only [execRecipeAbortInstant, habort, hstep]
    rfl
  have chained := cleared.upd fun e => { e with next := some (abortBoundary e a n) }
  exact ⟨_, run, by rw [chained.exec]; rfl, by rw [chained.exec], by rw [chained.exec], by rw [chained.exec], chained.now⟩

theorem recipeAbortInstant_answers_end {s : State} {x : Nat} (fails : Nat) {a : AbortReq} (hcan : canonical s)
    (habort : (seqX s x).abort = some a) (hstep : riAbort (seqImg (seqX s x)) = none) :
    Answers (.recipeAbortInstant x fails) s fun r =>
      (seqX r x).state = .aborted ∧ (seqX r x).next = none ∧ (seqX r x).abort = none ∧ (seqX r x).ramps = [] ∧
        r.tmb.now = max s.tmb.now a.inst := by
  obtain ⟨last, cleared⟩ := abortCleared_exec hcan x a.inst
  obtain ⟨_, q, finished⟩ := cleared.seqFinish a.inst fails true
  obtain ⟨_, ended⟩ := finished.seqEnd a.cmd .ok 0xFFFF
  have run : exec (.recipeAbortInstant x fails) s =
      .next (seqEnd (seqFinish (abortCleared s x a.inst) x a.inst fails true) x a.cmd .ok 0xFFFF) := by
    show execRecipeAbortInstant x fails s = _
    simp only [execRecipeAbortInstant, habort, hstep]
    rfl
  exact ⟨_, run, by rw [ended.exec]; rfl, by rw [ended.exec], by rw [ended.exec], by rw [ended.exec], ended.now⟩

/-- Settles O16, one lemma for each clause: a decision sets its boundary and an abort request is noted at the executor, whatever is carried to
other modules, and clearing an abort leaves nothing pending. How a hold, an abort and the first boundary meet is the model's choice (rows 95 and
96 of the assumption log). -/
theorem recipeCommandsTakeEffect : Obligations.RecipeCommandsTakeEffect := by
  unfold Obligations.RecipeCommandsTakeEffect
  refine ⟨?start, ?hold, ?holdHeld, ?release, ?abort, ?resume, ?autoOff, ?autoResume, ?abortStep, ?abortEnd⟩
  case start => exact fun h c s hcan hc hstate hnext hfree hstep htime => recipeStart_answers hcan hc hstate hnext hfree hstep htime
  case hold => exact fun h c s hcan hc howner hstate hhold => recipeHold_answers hcan hc howner hstate hhold
  case holdHeld => exact fun h c s hc howner hstate => recipeHold_answers_held hc howner hstate
  case release =>
    exact fun h c s hcan hc howner hstate hlimited hnext habort hrestored =>
      recipeRelease_answers hcan hc howner hstate hlimited hnext habort hrestored
  case abort => exact fun h c s hcan hc howner habort hstate => recipeAbort_answers hcan hc howner habort hstate
  case resume => exact fun h c s hcan hc hcheck => recipeResume_answers hcan hc hcheck
  case autoOff => exact fun t s hauto hprogram hstarting hflag => recipeAutoResume_answers_off t hauto hprogram hstarting hflag
  case autoResume =>
    exact fun t x e s hauto hprogram hstarting hflag hentries hcan himage hnext habort hcheck =>
      recipeAutoResume_answers t hauto hprogram hstarting hflag hentries hcan himage hnext habort hcheck
  case abortStep => exact fun x fails a n s hcan habort hstep => recipeAbortInstant_answers_step fails hcan habort hstep
  case abortEnd => exact fun x fails a s hcan habort hstep => recipeAbortInstant_answers_end fails hcan habort hstep

end Sys2Proof.Machine
end

section
/-! What a result that class B reads before class A can do to a CMP (R287, R295, O18): the pipeline holds what is in flight as plain numbers, and a
result that everyone else has seen leaves it, whether or not a class A reader has. -/
namespace Sys2Proof.Machine
open Sys2Proof

/-- `CMP A1, Y0` as the only word of a code block. -/
def cmpWord : Nat := 0x31940000

/-- A routine about to issue the CMP. A result for A1 is in its pipeline that class B readers see from cycle 1 and class A readers from cycle 2:
no instruction issues one, the fast path being the shorter. -/
def cmpBehindLateFast : AnvRun :=
  { (default : AnvRun) with
    budget := 1
    writes := [⟨kA + 1, 0, 2, 1, 7⟩]
    place := some { (default : AnvPlace) with words := [cmpWord] } }

/-- Core 0 runs the routine. -/
def lateFastCore : State :=
  { State.reset with anv := { State.reset.anv with core := SMap.empty.set 0 { (default : AnvCore) with run := some cmpBehindLateFast } } }

/-- The canonical form of the tables does not rule the state out. -/
theorem canonical_lateFastCore : canonical lateFastCore := by decide +kernel

theorem anvRuns_lateFastCore : AnvRuns lateFastCore 0 cmpBehindLateFast cmpWord 0 12 1 := by decide +kernel

/-- A class A instruction issued in the next cycle is not to see the result yet. -/
theorem regRd_cmpBehindLateFast : regRd cmpBehindLateFast (kA + bits cmpWord 25 24) 1 true = 0 := by decide +kernel

/-- The end of the CMP's cycle puts the result into A1, where a class A instruction of the next cycle reads it. -/
theorem execCmp_lateFastCore : ∀ r, exec (.cmp 0) lateFastCore = .next r → anvSees r 0 (kA + bits cmpWord 25 24) 0 true = 7 := by
  intro r hexec
  obtain rfl := Host.Outcome.next.inj hexec
  decide +kernel

/-- Refutes O18: its CMP clause says that a CMP leaves its accumulator as a class A reader of the next cycle would have seen it, and of what is in
the pipeline it asks only that it was issued before, not that class A sees it no later than class B does. In `lateFastCore` a result for A1 that
class A is to see from cycle 2 on is taken into the register at the end of cycle 0, and class A sees it in cycle 1. -/
theorem not_anvilClassAComputes : ¬ Obligations.AnvilClassAComputes := by
  unfold Obligations.AnvilClassAComputes
  rintro ⟨-, -, -, -, -, -, -, -, -, -, -, hcmp, -⟩
  obtain ⟨r, hexec, -, unchanged, -⟩ := hcmp 0 cmpWord cmpBehindLateFast _ lateFastCore anvRuns_lateFastCore (by decide +kernel) rfl
  have seen : 7 = regRd cmpBehindLateFast (kA + bits cmpWord 25 24) 1 true := (execCmp_lateFastCore r hexec).symm.trans unchanged
  rw [regRd_cmpBehindLateFast] at seen
  cases seen

end Sys2Proof.Machine
end

section
/-! Laws of the Anvil core's pipeline (R295 to R297): what a consumer sees of the writes on their way, that the end of a cycle changes nothing of
it, and how a routine stands after a cycle. -/
namespace Sys2Proof
variable {α : Type} [Inhabited α] [DecidableEq α]

/-- A value other than the default is read where it was written, in a table of any form. -/
theorem SMap.get_set_of_ne_default (m : SMap α) (k : Nat) {v : α} (h : v ≠ default) : (m.set k v).get k = v := by
  simp [SMap.get, SMap.set, SMap.getD, SMap.setD, h, SMap.find_put_some]

/-- Writes to a list of keys are read at those keys; the others stand. -/
theorem SMap.get_foldl_set (f : Nat → α) (k : Nat) : ∀ (l : List Nat) (m : SMap α), m.wf = true →
    (l.foldl (fun a g => a.set g (f g)) m).get k = if k ∈ l then f k else m.get k
  | [], m, _ => by simp
  | g :: t, m, h => by
    rw [List.foldl_cons, SMap.get_foldl_set f k t _ (SMap.wf_set m g (f g) h)]
    by_cases hk : k = g
    · subst hk
      simp [SMap.get_set_self m k (f k) h]
    · simp [hk, SMap.get_set_ne m (f g) hk]

end Sys2Proof

namespace Sys2Proof.Machine
open Sys2Proof

/-! ### Fields of an instruction word -/

theorem bits_lt (v hi lo : Nat) : bits v hi lo < 2 ^ (hi + 1 - lo) := Nat.mod_lt _ (Nat.two_pow_pos _)

/-- The accumulator an instruction names is one of four. -/
theorem adField_lt (w : Nat) : bits w 25 24 < 4 := bits_lt w 25 24

/-- The X or Y register an instruction names is one of eight. -/
theorem xyField_lt (w : Nat) : bits w 23 21 < 8 := bits_lt w 23 21

/-! ### The write that stands (R296) -/

/-- Of the writes that have taken effect, the one that stands, if there is one. -/
def standing (fast : Bool) : List AnvWrite → Option AnvWrite
  | [] => none
  | w :: t => some (t.foldl (laterWrite fast) w)

/-- A write joins one that stands. -/
def joinWrite (fast : Bool) (o : Option AnvWrite) (w : AnvWrite) : AnvWrite :=
  match o with
  | some a => laterWrite fast a w
  | none => w

theorem standing_snoc (fast : Bool) (l : List AnvWrite) (w : AnvWrite) :
    standing fast (l ++ [w]) = some (joinWrite fast (standing fast l) w) := by
  cases l with
  | nil => rfl
  | cons a t => simp [standing, joinWrite]

theorem laterWrite_eq (fast : Bool) (a b : AnvWrite) : laterWrite fast a b = a ∨ laterWrite fast a b = b := by
  simp only [laterWrite]
  exact (Decidable.em _).symm.imp (if_neg ·) (if_pos ·)

/-- The write that takes effect later stands. -/
theorem laterWrite_of_lt {a b : AnvWrite} (h : a.slow < b.slow) : laterWrite false a b = b ∧ laterWrite false b a = b := by
  have hlater : ¬(b.slow < a.slow ∨ b.slow = a.slow ∧ b.issue ≤ a.issue) := by omega
  simp only [laterWrite, Bool.false_eq_true, if_false]
  exact ⟨if_pos (.inl h), if_neg hlater⟩

/-- The write that stands is one of the writes. -/
theorem standing_mem {fast : Bool} {a : AnvWrite} : ∀ l : List AnvWrite, standing fast l = some a → a ∈ l
  | w :: t, h => by
    obtain rfl := Option.some.inj h
    refine List.foldlRecOn (motive := (· ∈ w :: t)) t (laterWrite fast) List.mem_cons_self fun b hb e he => ?_
    rcases laterWrite_eq fast b e with h | h <;> rw [h]
    · exact hb
    · exact List.mem_cons_of_mem w he

/-- A write that takes effect no sooner than the others, and was issued no sooner, stands. -/
theorem standing_snoc_last {fast : Bool} {l : List AnvWrite} {w : AnvWrite}
    (hl : ∀ a ∈ l, (if fast then a.fast else a.slow) ≤ (if fast then w.fast else w.slow) ∧ a.issue ≤ w.issue) :
    standing fast (l ++ [w]) = some w := by
  rw [standing_snoc]
  cases hs : standing fast l with
  | none => rfl
  | some a =>
    obtain ⟨heffect, hissue⟩ := hl a (standing_mem l hs)
    simp only [joinWrite, laterWrite]
    rw [if_pos (by omega)]

/-- Induction from the end of the pipeline, where the writes join. -/
theorem writes_snoc_induction {P : List AnvWrite → Prop} (nil : P []) (snoc : ∀ l w, P l → P (l ++ [w])) (l : List AnvWrite) : P l := by
  rw [← List.reverse_reverse l]
  induction l.reverse with
  | nil => exact nil
  | cons w t ih => rw [List.reverse_cons]; exact snoc _ w ih

/-- Of writes before a cycle and after it, one after it stands. -/
theorem standing_later (c : Nat) (l : List AnvWrite) :
    standing false l = (standing false (l.filter fun w => decide (c < w.slow))).or (standing false (l.filter fun w => decide (w.slow ≤ c))) := by
  induction l using writes_snoc_induction with
  | nil => rfl
  | snoc l w ih =>
    rw [standing_snoc, ih, List.filter_append, List.filter_append]
    by_cases hw : c < w.slow
    · have hafter : [w].filter (fun w => decide (c < w.slow)) = [w] := by simp [hw]
      have hbefore : [w].filter (fun w => decide (w.slow ≤ c)) = [] := by simp [hw]
      rw [hafter, hbefore, List.append_nil, standing_snoc]
      cases hs : standing false (l.filter fun w => decide (c < w.slow)) with
      | some a => rfl
      | none =>
        cases ho : standing false (l.filter fun w => decide (w.slow ≤ c)) with
        | none => rfl
        | some a =>
          have ha : a.slow ≤ c := by simpa using (List.mem_filter.1 (standing_mem _ ho)).2
          exact congrArg some (laterWrite_of_lt (Nat.lt_of_le_of_lt ha hw)).1
    · have hafter : [w].filter (fun w => decide (c < w.slow)) = [] := by simp [hw]
      have hbefore : [w].filter (fun w => decide (w.slow ≤ c)) = [w] := by simp [Nat.not_lt.mp hw]
      rw [hafter, hbefore, List.append_nil, standing_snoc]
      cases hs : standing false (l.filter fun w => decide (c < w.slow)) with
      | none => rfl
      | some a =>
        have ha : c < a.slow := by simpa using (List.mem_filter.1 (standing_mem _ hs)).2
        exact congrArg some (laterWrite_of_lt (Nat.lt_of_le_of_lt (Nat.not_lt.mp hw) ha)).2

/-! ### What a consumer sees (R295) -/

/-- The writes to a register that have taken effect by a cycle. -/
def effective (r : AnvRun) (g c : Nat) (fast : Bool) : List AnvWrite :=
  r.writes.filter fun w => w.reg == g && decide ((if fast then w.fast else w.slow) ≤ c)

theorem regRd_eq (r : AnvRun) (g c : Nat) (fast : Bool) :
    regRd r g c fast = ((standing fast (effective r g c fast)).map (·.val)).getD (r.regs.get g) := by
  unfold regRd effective
  dsimp only
  split <;> next h => simp [h, standing]

theorem regRd_congr {r y : AnvRun} (hregs : y.regs = r.regs) (hwrites : y.writes = r.writes) (g c : Nat) (fast : Bool) :
    regRd y g c fast = regRd r g c fast := by
  simp only [regRd_eq, effective, hregs, hwrites]

/-- A write to another register is not seen. -/
theorem regRd_regWr_ne (r : AnvRun) {g k : Nat} (h : g ≠ k) (f n v c : Nat) (fast : Bool) :
    regRd (regWr r k f n v) g c fast = regRd r g c fast := by
  simp [regRd_eq, effective, regWr, List.filter_append, h.symm]

/-- What is in the pipeline was issued no later than now. -/
def IssuedBefore (r : AnvRun) : Prop := ∀ v ∈ r.writes, v.issue ≤ r.used

/-- A write is seen from the cycle on that its path gives. -/
theorem regRd_regWr_self {r : AnvRun} (h : IssuedBefore r) (g f n v : Nat) : regRd (regWr r g f n v) g (r.used + n) false = v := by
  have stands : standing false (effective (regWr r g f n v) g (r.used + n) false) = some ⟨g, r.used, r.used + f, r.used + n, v⟩ := by
    simp only [effective, regWr, List.filter_append, List.filter_cons, beq_self_eq_true, Bool.true_and, Bool.false_eq_true, if_false,
      Nat.le_refl, decide_true, if_true, List.filter_nil]
    refine standing_snoc_last fun a ha => ?_
    obtain ⟨hmem, heffect⟩ := List.mem_filter.1 ha
    simp only [Bool.and_eq_true, decide_eq_true_eq] at heffect
    exact ⟨heffect.2, h a hmem⟩
  rw [regRd_eq, stands]
  rfl

theorem IssuedBefore.regWr {r : AnvRun} (h : IssuedBefore r) (g f n v : Nat) : IssuedBefore (regWr r g f n v) := by
  intro w hw
  rcases List.mem_append.1 hw with hw | hw
  · exact h w hw
  · obtain rfl := List.mem_singleton.1 hw
    exact Nat.le_refl _

/-- Writes that everyone sees leave the pipeline, and from then on everyone who reads as class B does sees what it would have seen (R295). -/
theorem regRd_regSettle {r : AnvRun} (hwf : r.regs.wf = true) {c n : Nat} (h : c ≤ n) (g : Nat) :
    regRd (regSettle r c) g n false = regRd r g n false := by
  have after : effective (regSettle r c) g n false = (effective r g n false).filter fun w => decide (c < w.slow) := by
    simp only [effective, regSettle, List.filter_filter]
    exact List.filter_congr fun w _ => Bool.and_comm ..
  have before : effective { r with writes := r.writes.filter fun w => decide (w.slow ≤ c) } g c false =
      (effective r g n false).filter fun w => decide (w.slow ≤ c) := by
    simp only [effective, List.filter_filter]
    refine List.filter_congr fun w _ => ?_
    by_cases hw : w.slow ≤ c
    · simp [hw, show w.slow ≤ n by omega]
    · simp [hw]
  have settled : (regSettle r c).regs.get g = ((standing false ((effective r g n false).filter fun w => decide (w.slow ≤ c))).map (·.val)).getD
      (r.regs.get g) := by
    simp only [regSettle]
    rw [SMap.get_foldl_set (fun g => regRd { r with writes := r.writes.filter fun w => decide (w.slow ≤ c) } g c false) g _ _ hwf]
    split
    · rw [regRd_eq, before]
    next hnone =>
      have : ((effective r g n false).filter fun w => decide (w.slow ≤ c)) = [] := by
        rw [← before, effective, List.filter_eq_nil_iff]
        intro w hw hreg
        simp only [Bool.and_eq_true, beq_iff_eq] at hreg
        exact hnone (List.mem_map.2 ⟨w, hw, hreg.1⟩)
      simp [this, standing]
  rw [regRd_eq, regRd_eq, after, settled, standing_later c (effective r g n false)]
  cases standing false ((effective r g n false).filter fun w => decide (c < w.slow)) <;> rfl

/-! ### A cycle ends (R295, R297) -/

/-- A routine whose instruction is done: its delay slots have counted, its pc has moved, a branch it took stands before two delay slots. -/
def stepped (r : AnvRun) (branch : Option Nat) : AnvRun :=
  let y := nextPc (match r.br with | some (t, n + 1) => { r with br := some (t, n) } | _ => r)
  match branch with
  | some t => { y with br := some (t, 2) }
  | none => y

/-- The routine after the cycle. -/
def nextRun (r : AnvRun) (branch : Option Nat) : AnvRun :=
  let y := stepped r branch
  { regSettle { y with used := y.used + 1 } (y.used + 1) with stores := y.stores.filter fun w => decide (y.used + 1 < w.due) }

/-- The pc's move changes neither the registers nor what is in the pipeline. -/
theorem nextPc_eq (r : AnvRun) : ∃ br pc dos, nextPc r = { r with br := br, pc := pc, dos := dos } := by
  unfold nextPc
  split
  · exact ⟨_, _, _, rfl⟩
  · split
    · split
      · split <;> exact ⟨_, _, _, rfl⟩
      · exact ⟨_, _, _, rfl⟩
    · exact ⟨_, _, _, rfl⟩

theorem stepped_eq (r : AnvRun) (branch : Option Nat) : ∃ br pc dos, stepped r branch = { r with br := br, pc := pc, dos := dos } := by
  have counted : ∃ br, (match r.br with | some (t, n + 1) => { r with br := some (t, n) } | _ => r) = { r with br := br } := by
    split
    · exact ⟨_, rfl⟩
    · exact ⟨r.br, rfl⟩
  obtain ⟨br, hcounted⟩ := counted
  obtain ⟨br', pc, dos, hnext⟩ := nextPc_eq { r with br := br }
  unfold stepped
  rw [hcounted, hnext]
  cases branch with
  | none => exact ⟨_, _, _, rfl⟩
  | some t => exact ⟨_, _, _, rfl⟩

@[simp] theorem nextRun_used (r : AnvRun) (branch : Option Nat) : (nextRun r branch).used = r.used + 1 := by
  obtain ⟨br, pc, dos, h⟩ := stepped_eq r branch
  simp [nextRun, h, regSettle]

@[simp] theorem nextRun_rets (r : AnvRun) (branch : Option Nat) : (nextRun r branch).rets = r.rets := by
  obtain ⟨br, pc, dos, h⟩ := stepped_eq r branch
  simp [nextRun, h, regSettle]

/-- A branch taken stands before its two delay slots. -/
theorem nextRun_br_some (r : AnvRun) (t : Nat) : (nextRun r (some t)).br = some (t, 2) := rfl

/-- Where no branch waits and none is taken, none waits. -/
theorem nextRun_br_none {r : AnvRun} (h : r.br = none) : (nextRun r none).br = none := by
  have moved : (nextPc r).br = none := by
    unfold nextPc
    rw [h]
    dsimp only
    split
    · split
      · split <;> rfl
      · rfl
    · rfl
  simpa [nextRun, stepped, h, regSettle] using moved

/-- The end of a cycle changes nothing of what class B readers see from then on. -/
theorem regRd_nextRun {r : AnvRun} (hwf : r.regs.wf = true) (branch : Option Nat) (g n : Nat) :
    regRd (nextRun r branch) g (r.used + 1 + n) false = regRd r g (r.used + 1 + n) false := by
  obtain ⟨br, pc, dos, h⟩ := stepped_eq r branch
  have settled : regRd (nextRun r branch) g (r.used + 1 + n) false =
      regRd (regSettle { r with br := br, pc := pc, dos := dos, used := r.used + 1 } (r.used + 1)) g (r.used + 1 + n) false :=
    regRd_congr (by simp only [nextRun, h]) (by simp only [nextRun, h]) _ _ _
  rw [settled, regRd_regSettle (r := { r with br := br, pc := pc, dos := dos, used := r.used + 1 }) hwf (by omega)]
  exact regRd_congr rfl rfl _ _ _

/-! ### What leaves the Anvil cores -/

@[simp] theorem advance_anv (s : State) (t : Nat) : (advance s t).anv = s.anv := advance_unchanged s t .anv (by decide)
@[simp] theorem event_anv (s : State) (k : EvKind) (l : List (Nat × Int)) : (event s k l).anv = s.anv := event_unchanged s k l .anv (by decide)

/-- A change of a core that leaves it other than an untouched one is read there, in a table of any form. -/
theorem anvUpd_self_of_ne_default (s : State) (c : Nat) {f : AnvCore → AnvCore} (h : f (anvC s c) ≠ default) :
    anvC (anvUpd s c f) c = f (anvC s c) := SMap.get_set_of_ne_default _ c h

/-- A core that runs a routine is other than an untouched one. -/
theorem core_ne_default_of_run {k : AnvCore} {x : AnvRun} (h : k.run = some x) : k ≠ default := by
  rintro rfl
  cases h

/-! ### An instruction's cycle -/

/-- After its cycle the routine of the core stands as `nextRun` says. -/
theorem cycleEnds_run (s : State) (c : Nat) (r : AnvRun) (branch : Option Nat) :
    (anvC (cycleEnds s c r branch) c).run = some (nextRun r branch) := by
  have ends : cycleEnds s c r branch = advance (anvUpd s c fun _ =>
      { (memSettle (anvC s c) { stepped r branch with used := (stepped r branch).used + 1 } ((stepped r branch).used + 1)).1 with
        run := some (nextRun r branch) }) (cycleNs (nextRun r branch) (nextRun r branch).used) := rfl
  rw [ends, anvC, advance_anv]
  exact congrArg AnvCore.run (anvUpd_self_of_ne_default s c (core_ne_default_of_run rfl))

/-- How the state `r` stands after a cycle of core `c` in which the routine `x` has made the writes that `y` holds: one cycle more is used, and
class B readers see the writes of `y`. -/
structure Cycled (r : State) (c : Nat) (x y : AnvRun) : Prop where
  used : anvUsed r c = some (x.used + 1)
  sees : ∀ g n, anvSees r c g n false = regRd y g (x.used + 1 + n) false

theorem cycleEnds_cycled (s : State) (c : Nat) {x y : AnvRun} (branch : Option Nat) (hused : y.used = x.used) (hwf : y.regs.wf = true) :
    Cycled (cycleEnds s c y branch) c x y where
  used := by rw [anvUsed, cycleEnds_run, Option.map_some, nextRun_used, hused]
  sees g n := by rw [anvSees, cycleEnds_run]; dsimp only; rw [nextRun_used, regRd_nextRun hwf, hused]

/-! ### Instructions of class B -/

section
variable {s : State} {c w cls op cost : Nat} {x : AnvRun}

/-- The core runs the instruction its routine has fetched (R285). -/
theorem anvRow_of_runs (h : AnvRuns s c x w cls op cost) (f : State → AnvRun → Nat → State) : anvRow s c cls op cost f = f s x w := by
  obtain ⟨hrun, hplace, hbudget, hfetch, hcls, hop, -⟩ := h
  have hgo : ¬(x.place.isNone = true ∨ x.budget < x.used + cost) := by
    rintro (hnone | hover)
    · cases hp : x.place <;> simp_all
    · omega
  simp only [anvRow, hrun, hgo, if_false, hfetch, hcls, hop, and_self, if_true]

/-- The writes that an instruction of the routine `x` makes: `y` is `x` with some more in its pipeline. -/
structure Writes (x y : AnvRun) : Prop where
  used : y.used = x.used
  regs : y.regs = x.regs
  issued : IssuedBefore y

theorem writes_refl (h : AnvRuns s c x w cls op cost) : Writes x x := by
  obtain ⟨-, -, -, -, -, -, hissue, -⟩ := h
  exact ⟨rfl, rfl, hissue⟩

theorem Writes.regWr {x y : AnvRun} (h : Writes x y) (g f n v : Nat) : Writes x (Machine.regWr y g f n v) :=
  ⟨h.used, h.regs, h.issued.regWr g f n v⟩

theorem Writes.ite {x y z : AnvRun} {p : Prop} [Decidable p] (hy : Writes x y) (hz : Writes x z) : Writes x (if p then y else z) := by
  split
  · exact hy
  · exact hz

theorem Writes.setFlags {x y : AnvRun} (h : Writes x y) (v : Int) : Writes x (Machine.setFlags y v) :=
  .ite ((h.regWr _ _ _ _).regWr _ _ _ _) (h.regWr _ _ _ _)

theorem Writes.noteLimit {x y : AnvRun} (h : Writes x y) (lim : Bool) (s : State) : Writes x (Machine.noteLimit lim s y).2 := by
  cases lim with
  | false => exact h
  | true => exact h.regWr _ _ _ _

/-- What an instruction has written is seen from the cycle on that its path gives. -/
theorem Writes.regRd {x y : AnvRun} (h : Writes x y) {c n : Nat} (hc : c = x.used + n) (g f v : Nat) :
    Machine.regRd (Machine.regWr y g f n v) g c false = v := by
  rw [hc, ← h.used]
  exact regRd_regWr_self h.issued g f n v

/-- The flags of a result are seen from the second cycle on (R280). -/
theorem Writes.regRd_flags {x y : AnvRun} (h : Writes x y) {c : Nat} (hc : c = x.used + 2) (v : Int) :
    Machine.regRd (Machine.setFlags y v) kZ c false = flagsOf v := by
  simp only [Machine.setFlags]
  split
  · rw [regRd_regWr_ne _ (by decide)]
    exact h.regRd hc _ _ _
  · exact h.regRd hc _ _ _

/-- The registers of a routine under way are canonical, whatever an instruction writes. -/
theorem Writes.cycled {y : AnvRun} (h : AnvRuns s c x w cls op cost) (hy : Writes x y) (t : State) (branch : Option Nat) :
    Cycled (cycleEnds t c y branch) c x y := by
  obtain ⟨-, -, -, -, -, -, -, hwf⟩ := h
  exact cycleEnds_cycled t c branch hy.used (by rw [hy.regs]; exact hwf)

theorem anvClassB_cycled (h : AnvRuns s c x w 1 op 1) {f : AnvRun → Nat → AnvRun} (hf : Writes x (f x w)) :
    Cycled (anvClassB s c op f) c x (f x w) := by
  rw [anvClassB, anvRow_of_runs h]
  exact hf.cycled h s none

end

end Sys2Proof.Machine
end

section
/-! Proofs of the Anvil core's class B instructions (R288 to R290, R292 to R295, R297, O19): register loads and moves, moves out of an
accumulator, shifts, and control flow. -/
namespace Sys2Proof.Machine
open Sys2Proof

section
variable {s : State} {c w op : Nat} {x : AnvRun}

/-! ### Instructions that write one register -/

/-- An instruction whose last write is to register `g`, over a path of `n + 1` cycles: a consumer issued `n` cycles after its own cycle sees it. -/
theorem anvRow_answers_write (h : AnvRuns s c x w 1 op 1) {i : Instr} {f : State → AnvRun → Nat → State} {t : State} {y : AnvRun}
    {g p n v : Nat} (hexec : exec i s = .next (anvRow s c 1 op 1 f)) (hf : f s x w = cycleEnds t c (regWr y g p (n + 1) v) none)
    (hy : Writes x y) :
    Answers i s fun r => anvUsed r c = some (x.used + 1) ∧ anvSees r c g n false = v := by
  have cycled := (hy.regWr g p (n + 1) v).cycled h t none
  rw [← hf, ← anvRow_of_runs h f] at cycled
  exact ⟨_, hexec, cycled.used, (cycled.sees g n).trans (hy.regRd (by omega) g p v)⟩

theorem anvClassB_answers_write (h : AnvRuns s c x w 1 op 1) {i : Instr} {f : AnvRun → Nat → AnvRun} {y : AnvRun} {g p n v : Nat}
    (hexec : exec i s = .next (anvClassB s c op f)) (hf : f x w = regWr y g p (n + 1) v) (hy : Writes x y) :
    Answers i s fun r => anvUsed r c = some (x.used + 1) ∧ anvSees r c g n false = v :=
  anvRow_answers_write h hexec (congrArg (cycleEnds s c · none) hf) hy

theorem ldx_answers (h : AnvRuns s c x w 1 0 1) :
    Answers (.ldx c) s fun r => anvUsed r c = some (x.used + 1) ∧ anvSees r c (kX + bits w 25 24) 0 false = bits w 23 0 :=
  anvClassB_answers_write h rfl rfl (writes_refl h)

theorem ldy_answers (h : AnvRuns s c x w 1 1 1) :
    Answers (.ldy c) s fun r => anvUsed r c = some (x.used + 1) ∧ anvSees r c (kY + bits w 25 24) 0 false = bits w 23 0 :=
  anvClassB_answers_write h rfl rfl (writes_refl h)

theorem ldp_answers {p : AnvPlace} (h : AnvRuns s c x w 1 2 1) (hplace : x.place = some p) :
    Answers (.ldp c) s fun r => anvUsed r c = some (x.used + 1) ∧ anvSees r c (kP + bits w 25 21) 2 false =
      (if bit w 20 then (bits w 15 0 + (if bits w 25 21 < 4 then p.lbase else p.rbase)) % 32768 else bits w 15 0) := by
  refine anvClassB_answers_write (p := 3) h rfl ?_ (writes_refl h)
  cases bit w 20 <;> simp [hplace]

/-- A MOV to an X or Y register has the short path (R289, R295). -/
theorem mov_answers_xy (h : AnvRuns s c x w 1 3 1) (hxy : bits w 25 21 < 8) :
    Answers (.mov c) s fun r => anvUsed r c = some (x.used + 1) ∧
      anvSees r c (bits w 25 21) 0 false = unsigned 24 (movValue (bits w 20 16) (regRd x (bits w 20 16) x.used false)) :=
  anvClassB_answers_write h rfl (if_pos hxy) (writes_refl h)

/-- A MOV to a pointer, step or mode register has the long path (R289, R295). -/
theorem mov_answers_pointer (h : AnvRuns s c x w 1 3 1) (hpointer : 8 ≤ bits w 25 21) :
    Answers (.mov c) s fun r => anvUsed r c = some (x.used + 1) ∧ anvSees r c (bits w 25 21) 2 false =
      unsigned (if bits w 25 21 < 16 then 15 else 16) (movValue (bits w 20 16) (regRd x (bits w 20 16) x.used false)) := by
  refine anvClassB_answers_write (p := 3) h rfl ((if_neg (Nat.not_lt.mpr hpointer)).trans ?_) (writes_refl h)
  split <;> rfl

theorem moval_answers (h : AnvRuns s c x w 1 5 1) :
    Answers (.moval c) s fun r => anvUsed r c = some (x.used + 1) ∧
      anvSees r c (bits w 23 21) 1 false = (regRd x (kA + bits w 25 24) x.used false) % 2 ^ 24 :=
  anvClassB_answers_write h rfl rfl (writes_refl h)

theorem exp_answers (h : AnvRuns s c x w 1 9 1) :
    Answers (.exp c) s fun r => anvUsed r c = some (x.used + 1) ∧
      anvSees r c (bits w 23 21) 1 false = unsigned 24 (expOf (regRd x (kA + bits w 25 24) x.used false)) :=
  anvClassB_answers_write h rfl rfl (writes_refl h)

theorem scale_answers (h : AnvRuns s c x w 1 17 1) :
    Answers (.scale c) s fun r => anvUsed r c = some (x.used + 1) ∧ anvSees r c kSC 0 false = bits w 2 0 :=
  anvClassB_answers_write h rfl rfl (writes_refl h)

/-! ### MOVA and CLRF -/

/-- A MOVA that is limited writes LS as well (R293). -/
theorem mova_answers (h : AnvRuns s c x w 1 4 1) :
    Answers (.mova c) s fun r => anvUsed r c = some (x.used + 1) ∧ anvSees r c (bits w 23 21) 1 false =
      (moveOut (regRd x (kA + bits w 25 24) x.used false) (signed 3 (regRd x kSC x.used false))).1 :=
  anvRow_answers_write h rfl rfl ((writes_refl h).noteLimit _ s)

/-- A flag that a CLRF names reads as 0, the others as they stood. -/
theorem clrf_answers (h : AnvRuns s c x w 1 16 1) :
    Answers (.clrf c) s fun r => anvUsed r c = some (x.used + 1) ∧
      anvSees r c kLS 0 false = (if bit w 0 then 0 else regRd x kLS (x.used + 1) false) ∧
      anvSees r c kVS 0 false = (if bit w 1 then 0 else regRd x kVS (x.used + 1) false) := by
  have limited : Writes x (if bit w 0 then regWr x kLS 1 1 0 else x) := .ite ((writes_refl h).regWr _ _ _ _) (writes_refl h)
  have cleared := Writes.ite (p := bit w 1) (limited.regWr kVS 1 1 0) limited
  have cycled := anvClassB_cycled
    (f := fun r w => let r := if bit w 0 then regWr r kLS 1 1 0 else r; if bit w 1 then regWr r kVS 1 1 0 else r) h cleared
  have hne : kLS ≠ kVS := by decide
  refine ⟨_, rfl, cycled.used, (cycled.sees _ 0).trans ?_, (cycled.sees _ 0).trans ?_⟩
  · have vs : regRd (if bit w 1 then regWr (if bit w 0 then regWr x kLS 1 1 0 else x) kVS 1 1 0 else (if bit w 0 then regWr x kLS 1 1 0 else x))
        kLS (x.used + 1) false = regRd (if bit w 0 then regWr x kLS 1 1 0 else x) kLS (x.used + 1) false := by
      split
      · exact regRd_regWr_ne _ hne _ _ _ _ _
      · rfl
    refine vs.trans ?_
    split
    · exact (writes_refl h).regRd rfl _ _ _
    · rfl
  · dsimp only
    split
    · exact limited.regRd rfl _ _ _
    · split
      · exact regRd_regWr_ne _ hne.symm _ _ _ _ _
      · rfl

/-! ### Shifts -/

/-- A shift writes the accumulator and the flags of its result (R280, R292). -/
theorem shiftAcc_sees (h : AnvRuns s c x w 1 op 1) (n : Int) :
    Writes x (shiftAcc x w n) ∧
      regRd (shiftAcc x w n) (kA + bits w 25 24) (x.used + 2) false = wrap56 (shiftInt (accInt (adOf x w)) n) ∧
      regRd (shiftAcc x w n) kZ (x.used + 2) false = flagsOf (shiftInt (accInt (adOf x w)) n) := by
  have flagged := (writes_refl h).setFlags (shiftInt (accInt (adOf x w)) n)
  have hne : kZ ≠ kA + bits w 25 24 := by have := adField_lt w; simp only [kZ, kA]; omega
  exact ⟨flagged.regWr _ _ _ _, flagged.regRd rfl _ _ _, (regRd_regWr_ne _ hne _ _ _ _ _).trans ((writes_refl h).regRd_flags rfl _)⟩

/-- An instruction that only shifts leaves the result and its flags to the second cycle. -/
theorem anvClassB_answers_shift (h : AnvRuns s c x w 1 op 1) {i : Instr} {f : AnvRun → Nat → AnvRun} {n v : Int}
    (hexec : exec i s = .next (anvClassB s c op f)) (hf : f x w = shiftAcc x w n) (hv : v = shiftInt (accInt (adOf x w)) n) :
    Answers i s fun r => anvUsed r c = some (x.used + 1) ∧ anvSees r c (kA + bits w 25 24) 1 false = wrap56 v ∧
      anvSees r c kZ 1 false = flagsOf v := by
  obtain ⟨written, acc, flags⟩ := shiftAcc_sees h n
  have cycled := anvClassB_cycled (f := f) h (hf ▸ written)
  rw [hf] at cycled
  exact ⟨_, hexec, cycled.used, hv ▸ (cycled.sees _ 1).trans acc, hv ▸ (cycled.sees _ 1).trans flags⟩

/-- NORM writes the exponent as well, to an X or Y register (R294). -/
theorem norm_answers {v : Int} (h : AnvRuns s c x w 1 8 1)
    (hv : v = shiftInt (accInt (regRd x (kA + bits w 25 24) x.used false)) (expOf (regRd x (kA + bits w 25 24) x.used false))) :
    Answers (.norm c) s fun r => anvUsed r c = some (x.used + 1) ∧ anvSees r c (kA + bits w 25 24) 1 false = wrap56 v ∧
      anvSees r c (bits w 23 21) 1 false = unsigned 24 (expOf (regRd x (kA + bits w 25 24) x.used false)) ∧
      anvSees r c kZ 1 false = flagsOf v := by
  obtain ⟨written, acc, flags⟩ := shiftAcc_sees h (expOf (adOf x w))
  have cycled := anvClassB_cycled (f := fun r w => regWr (shiftAcc r w (expOf (adOf r w))) (bits w 23 21) 2 2 (unsigned 24 (expOf (adOf r w)))) h
    (written.regWr _ _ _ _)
  have hxy := xyField_lt w
  have hacc : kA + bits w 25 24 ≠ bits w 23 21 := by simp only [kA]; omega
  have hflags : kZ ≠ bits w 23 21 := by simp only [kZ]; omega
  exact ⟨_, rfl, cycled.used, hv ▸ (cycled.sees _ 1).trans ((regRd_regWr_ne _ hacc _ _ _ _ _).trans acc),
    (cycled.sees _ 1).trans (written.regRd rfl _ _ _),
    hv ▸ (cycled.sees _ 1).trans ((regRd_regWr_ne _ hflags _ _ _ _ _).trans flags)⟩

/-! ### Control flow -/

/-- An instruction of control flow: its cycle ends with the routine `y`, from which it branches or not. -/
theorem anvRow_cycle (h : AnvRuns s c x w 1 op 1) {i : Instr} {f : State → AnvRun → Nat → State} {y : AnvRun} {branch : Option Nat}
    (hexec : exec i s = .next (anvRow s c 1 op 1 f)) (hf : f s x w = cycleEnds s c y branch) (hused : y.used = x.used) :
    Answers i s fun r => anvUsed r c = some (x.used + 1) ∧ (anvC r c).run = some (nextRun y branch) := by
  have ran : (anvC (anvRow s c 1 op 1 f) c).run = some (nextRun y branch) := by rw [anvRow_of_runs h, hf, cycleEnds_run]
  exact ⟨_, hexec, by rw [anvUsed, ran, Option.map_some, nextRun_used, hused], ran⟩

theorem jmp_answers (h : AnvRuns s c x w 1 10 1) :
    Answers (.jmp c) s fun r => anvUsed r c = some (x.used + 1) ∧ (anvC r c).run.map (·.br) = some (some (bits w 13 0, 2)) := by
  obtain ⟨r, hexec, hused, hrun⟩ := anvRow_cycle h (i := .jmp c) rfl rfl rfl
  exact ⟨r, hexec, hused, by rw [hrun]; rfl⟩

theorem jcc_answers (h : AnvRuns s c x w 1 11 1) (hcond : anvCond x (bits w 25 22) = true) :
    Answers (.jcc c) s fun r => anvUsed r c = some (x.used + 1) ∧ (anvC r c).run.map (·.br) = some (some (bits w 13 0, 2)) := by
  obtain ⟨r, hexec, hused, hrun⟩ := anvRow_cycle h (i := .jcc c) rfl rfl rfl
  exact ⟨r, hexec, hused, by rw [hrun, hcond]; rfl⟩

theorem jcc_answers_on (h : AnvRuns s c x w 1 11 1) (hbr : x.br = none) (hcond : anvCond x (bits w 25 22) = false) :
    Answers (.jcc c) s fun r => anvUsed r c = some (x.used + 1) ∧ (anvC r c).run.map (·.br) = some none := by
  obtain ⟨r, hexec, hused, hrun⟩ := anvRow_cycle h (i := .jcc c) rfl rfl rfl
  exact ⟨r, hexec, hused, by rw [hrun, hcond]; exact congrArg some (nextRun_br_none hbr)⟩

theorem call_answers (h : AnvRuns s c x w 1 12 1) :
    Answers (.call c) s fun r => anvUsed r c = some (x.used + 1) ∧
      (anvC r c).run.map (fun y => (y.br, y.rets)) = some (some (bits w 13 0, 2), (x.pc + 3) :: x.rets) := by
  obtain ⟨r, hexec, hused, hrun⟩ := anvRow_cycle h (i := .call c) rfl rfl rfl
  exact ⟨r, hexec, hused, by rw [hrun, Option.map_some, nextRun_rets, nextRun_br_some]⟩

theorem ret_answers {a : Nat} {l : List Nat} (h : AnvRuns s c x w 1 13 1) (hrets : x.rets = a :: l) :
    Answers (.ret c) s fun r => anvUsed r c = some (x.used + 1) ∧
      (anvC r c).run.map (fun y => (y.br, y.rets)) = some (some (a, 2), l) := by
  obtain ⟨r, hexec, hused, hrun⟩ := anvRow_cycle h (i := .ret c) rfl rfl rfl
  exact ⟨r, hexec, hused, by rw [hrun, Option.map_some, nextRun_rets, hrets]; rfl⟩

/-- DO begins its passes once its own cycle is over (R297). -/
theorem doLoop_answers (h : AnvRuns s c x w 1 14 1) :
    Answers (.doLoop c) s fun r => anvUsed r c = some (x.used + 1) ∧
      (anvC r c).run.map (fun y => y.dos.head?) = some (some ⟨x.pc + 1, bits w 13 0, bits w 25 14 + 1⟩) := by
  refine ⟨_, congrArg Host.Outcome.next (anvRow_of_runs h _), ?_⟩
  have begun : (anvC (anvUpd (cycleEnds s c x none) c fun k => { k with
      run := k.run.map fun x' => { x' with dos := ⟨x.pc + 1, bits w 13 0, bits w 25 14 + 1⟩ :: x'.dos } }) c).run =
      some { nextRun x none with dos := ⟨x.pc + 1, bits w 13 0, bits w 25 14 + 1⟩ :: (nextRun x none).dos } := by
    have ran := congrArg (Option.map fun x' : AnvRun => { x' with dos := ⟨x.pc + 1, bits w 13 0, bits w 25 14 + 1⟩ :: x'.dos })
      (cycleEnds_run s c x none)
    rw [anvUpd_self_of_ne_default _ _ (core_ne_default_of_run ran)]
    exact ran
  exact ⟨by rw [anvUsed, begun, Option.map_some, nextRun_used], by rw [begun]; rfl⟩

end

/-- Settles O19, one lemma for each row: an instruction's writes enter the pipeline, the end of its cycle changes nothing of what class B readers
see, and of two writes to a register the later stands. -/
theorem anvilClassBComputes : Obligations.AnvilClassBComputes := by
  unfold Obligations.AnvilClassBComputes
  refine ⟨?ldx, ?ldy, ?ldp, ?movXY, ?movPointer, ?mova, ?moval, ?ash, ?sha, ?norm, ?exp, ?jmp, ?jcc, ?jccOn, ?call, ?ret, ?doLoop, ?clrf, ?scale⟩
  case ldx => exact fun c w x s h => ldx_answers h
  case ldy => exact fun c w x s h => ldy_answers h
  case ldp => exact fun c w x p s h hplace => ldp_answers h hplace
  case movXY => exact fun c w x s h hxy => mov_answers_xy h hxy
  case movPointer => exact fun c w x s h hpointer => mov_answers_pointer h hpointer
  case mova => exact fun c w x s h => mova_answers h
  case moval => exact fun c w x s h => moval_answers h
  case ash => exact fun c w x v s h hv => anvClassB_answers_shift h rfl rfl hv
  case sha => exact fun c w x v s h hv => anvClassB_answers_shift h rfl rfl hv
  case norm => exact fun c w x v s h hv => norm_answers h hv
  case exp => exact fun c w x s h => exp_answers h
  case jmp => exact fun c w x s h _ => jmp_answers h
  case jcc => exact fun c w x s h _ hcond => jcc_answers h hcond
  case jccOn => exact fun c w x s h hbr hcond => jcc_answers_on h hbr hcond
  case call => exact fun c w x s h _ => call_answers h
  case ret => exact fun c w x a l s h _ hrets => ret_answers h hrets
  case doLoop => exact fun c w x s h => doLoop_answers h
  case clrf => exact fun c w x s h => clrf_answers h
  case scale => exact fun c w x s h => scale_answers h

end Sys2Proof.Machine
end

section
/-! Proofs of the Anvil array's other commands (R299 to R304, R309, R310, R312, R341, O20): the tick, the end of a routine, its stops, the failure
of a core and the read of its memories. -/
namespace Sys2Proof.Machine
open Sys2Proof

/-! ### The tables of the Anvil array -/

theorem canonical_anvCores {s : State} (h : canonical s) : s.anv.core.wf = true := by
  simp only [Bool.and_eq_true] at h
  simp only [h]

theorem canonical_loops {s : State} (h : canonical s) : s.anv.loop.wf = true := by
  simp only [Bool.and_eq_true] at h
  simp only [h]

theorem anvUpd_wf {s : State} (h : s.anv.core.wf = true) (c : Nat) (f : AnvCore → AnvCore) : (anvUpd s c f).anv.core.wf = true :=
  SMap.wf_upd _ c f h

theorem loopUpd_wf {s : State} (h : s.anv.loop.wf = true) (n : Nat) (f : Loop → Loop) : (loopUpd s n f).anv.loop.wf = true :=
  SMap.wf_upd _ n f h

/-- A core that has retired is other than an untouched one. -/
theorem core_ne_default_of_retired {k : AnvCore} (h : k.retired = true) : k ≠ default := by
  rintro rfl
  cases h

/-- A core that has noted a fault is other than an untouched one. -/
theorem core_ne_default_of_fault {k : AnvCore} (h : k.faultCause ≠ 0) : k ≠ default := by
  rintro rfl
  exact h rfl

/-! ### The tick -/

/-- A core whose banks have swapped: the routine `x` runs, `rest` waits (R300, R301). -/
def swapped (s : State) (c i : Nat) (x : AnvRun) (rest : List (Nat × Nat × Nat)) : State :=
  anvUpd (advance s i) c fun k => { k with run := some x, pend := rest, lastSlot := x.slot }

/-- A tick that was delayed is counted. -/
def tickCounted (s : State) (delayed : Bool) : State := bump (if delayed then bump s cAnvTickDelayed else s) cAnvTicks

theorem tickCounted_unchanged (s : State) (delayed : Bool) : unchangedBut [.regs] s (tickCounted s delayed) :=
  .trans (.ite (bumpN_unchanged s _ 1) (unchangedBut_refl _ s)) (bumpN_unchanged _ _ 1)

theorem anvilTickSwap_eq {s : State} {c ps t0 k n : Nat} {l : List (Nat × Nat × Nat)} (hrun : (anvC s c).run = none)
    (hpend : (anvC s c).pend = (t0, k, n) :: l) (hretired : (anvC s c).retired = false) (hlead : tickLead ≤ ps)
    (hfree : (anvC s c).freePs ≤ t0 * 1000 + ps) (hdesc : (loopOf s n).desc ≠ none) :
    ∃ x : AnvRun, (x.slot, x.loop, x.t0, x.startPs, x.used) = (k, n, t0, t0 * 1000 + ps, 0) ∧
      execAnvilTickSwap c ps s = .next (tickCounted (swapped s c ((t0 * 1000 + ps) / 1000) x l) (decide (tickLead < ps))) := by
  have hgo : ¬((anvC s c).retired = true ∨ ps < tickLead ∨ t0 * 1000 + ps < (anvC s c).freePs ∨ (loopOf s n).desc.isNone = true) := by
    rw [Option.isNone_iff_eq_none, hretired]
    simp [Nat.not_lt.mpr hlead, Nat.not_lt.mpr hfree, hdesc]
  refine ⟨?routine, ?fields, ?exec⟩
  case exec =>
    simp only [execAnvilTickSwap, hrun, hpend]
    rw [if_neg hgo]
    simp only [tickCounted, decide_eq_true_eq]
    rfl
  case fields => rfl

theorem anvilTickSwap_answers {s : State} {c ps t0 k n : Nat} {l : List (Nat × Nat × Nat)} (hrun : (anvC s c).run = none)
    (hpend : (anvC s c).pend = (t0, k, n) :: l) (hretired : (anvC s c).retired = false) (hlead : tickLead ≤ ps)
    (hfree : (anvC s c).freePs ≤ t0 * 1000 + ps) (hdesc : (loopOf s n).desc ≠ none) :
    Answers (.anvilTickSwap c ps) s fun r =>
      (anvC r c).run.map (fun y => (y.slot, y.loop, y.t0, y.startPs, y.used)) = some (k, n, t0, t0 * 1000 + ps, 0) ∧ (anvC r c).pend = l ∧
        r.tmb.now = max s.tmb.now ((t0 * 1000 + ps) / 1000) := by
  obtain ⟨x, hx, hexec⟩ := anvilTickSwap_eq hrun hpend hretired hlead hfree hdesc
  have counted := tickCounted_unchanged (swapped s c ((t0 * 1000 + ps) / 1000) x l) (decide (tickLead < ps))
  have anv := counted .anv (by decide)
  have tmb := counted .tmb (by decide)
  have core := anvUpd_self_of_ne_default (advance s ((t0 * 1000 + ps) / 1000)) c
    (f := fun k => { k with run := some x, pend := l, lastSlot := x.slot }) (core_ne_default_of_run rfl)
  refine ⟨_, hexec, ?_, ?_, ?_⟩
  · rw [anvC, anv, ← anvC, swapped, core, Option.map_some, hx]
  · rw [anvC, anv, ← anvC, swapped, core]
  · rw [tmb]
    exact advance_now s _

/-! ### The end of a routine -/

/-- What the busy cycles and the end of a routine leave of a core. -/
structure EndedAs (k e : AnvCore) : Prop where
  run : e.run = none
  faultCause : e.faultCause = k.faultCause
  faultSlot : e.faultSlot = k.faultSlot
  faultAddr : e.faultAddr = k.faultAddr
  left : e.left = k.left

theorem endedAs_addBusy (k : AnvCore) (now n free : Nat) : EndedAs k { addBusy k now n with run := none, freePs := free } := by
  unfold addBusy
  dsimp only
  split <;> exact ⟨rfl, rfl, rfl, rfl, rfl⟩

/-- The routine of a core ends, where the table is canonical or a fault has been noted. -/
theorem runEnds_core {s : State} {c : Nat} (r : AnvRun) (h : s.anv.core.wf = true ∨ (anvC s c).faultCause ≠ 0) :
    EndedAs (anvC s c) (anvC (runEnds s c r) c) := by
  have ended := endedAs_addBusy (anvC s c) s.tmb.now r.used (r.startPs + r.used * 2500 / 3)
  have core : anvC (runEnds s c r) c =
      { addBusy (anvC s c) s.tmb.now r.used with run := none, freePs := r.startPs + r.used * 2500 / 3 } := by
    rcases h with hwf | hfault
    · exact anvUpd_self s c _ hwf
    · exact anvUpd_self_of_ne_default s c (core_ne_default_of_fault (by rw [ended.faultCause]; exact hfault))
  rw [core]
  exact ended

/-- A user routine's END: two changes of its core, the last cycle, the routine's end, and the sample's output latch (R302). -/
theorem endUser_eq (s : State) (c : Nat) (r : AnvRun) : ∃ (f g : AnvCore → AnvCore) (y : LoopSample → LoopSample),
    endUser s c r = sampleUpd (runEnds (advance (anvUpd (anvUpd s c f) c g) (cycleNs r (r.used + 3))) c { r with used := r.used + 3 })
      r.loop r.t0 y := ⟨_, _, _, rfl⟩

theorem endRoutine_answers_user {s : State} {c w : Nat} {x : AnvRun} (hcan : canonical s) (h : AnvRuns s c x w 1 15 3) :
    Answers (.endRoutine c) s fun r => (anvC r c).run = none ∧ r.tmb.now = max s.tmb.now (cycleNs x (x.used + 3)) := by
  have hexec : exec (.endRoutine c) s = .next (endUser s c x) := by
    show execEnd c s = _
    rw [← anvRow_of_runs h fun s r _ => endUser s c r]
    obtain ⟨hrun, hplace, -⟩ := h
    simp only [execEnd, hrun, hplace, if_true]
    rfl
  obtain ⟨f, g, y, hend⟩ := endUser_eq s c x
  refine ⟨_, hexec, ?_, ?_⟩
  · rw [hend]
    exact (runEnds_core _ (.inl (by rw [advance_anv]; exact anvUpd_wf (anvUpd_wf (canonical_anvCores hcan) c f) c g))).run
  · rw [hend]
    exact advance_now _ _

/-- The routine of a standard law after its last cycle. -/
def lawEnded (s : State) (c : Nat) (r : AnvRun) : State := runEnds (advance s (cycleNs r r.budget)) c { r with used := r.budget }

theorem lawEnded_loop (s : State) (c : Nat) (r : AnvRun) : (lawEnded s c r).anv.loop = s.anv.loop := by
  show (advance s (cycleNs r r.budget)).anv.loop = s.anv.loop
  rw [advance_anv]

/-- A standard law's END: the law steps on its sample, which takes the outputs (R302). -/
theorem endLaw_eq {s : State} {c : Nat} {x : AnvRun} {y : LoopSample} (hy : (loopOf s x.loop).open'.find? (·.t0 == x.t0) = some y)
    (hpreset : (loopOf s x.loop).preset = false) : ∃ g : LoopSample → LoopSample,
    endLaw s c x = sampleUpd (loopUpd (lawEnded s c x) x.loop fun l => { l with
      law := (lawStep (ldesc (loopOf s x.loop)) (loopOf s x.loop).law (loopOf s x.loop).mode (loopOf s x.loop).hold (loopOf s x.loop).man
        y.ins y.inj (le (loopOf s x.loop).tune.req 1 1 == 0)).st
      preset := false }) x.loop x.t0 g := by
  have hloop : loopOf (lawEnded s c x) x.loop = loopOf s x.loop := by rw [loopOf, lawEnded_loop, loopOf]
  unfold endLaw
  dsimp only
  rw [show runEnds (advance s (cycleNs { x with used := x.budget } x.budget)) c { x with used := x.budget } = lawEnded s c x from rfl, hloop, hy]
  dsimp only
  rw [hpreset]
  exact ⟨_, rfl⟩

/-- A change of a loop's samples leaves its law. -/
theorem sampleUpd_law {s : State} (h : s.anv.loop.wf = true) (n t0 : Nat) (f : LoopSample → LoopSample) :
    (loopOf (sampleUpd s n t0 f) n).law = (loopOf s n).law := by rw [sampleUpd, loopUpd_self s n _ h]

theorem endRoutine_answers_law {s : State} {c : Nat} {x : AnvRun} {y : LoopSample} (hcan : canonical s) (hrun : (anvC s c).run = some x)
    (hplace : x.place = none) (hy : (loopOf s x.loop).open'.find? (·.t0 == x.t0) = some y) (hpreset : (loopOf s x.loop).preset = false) :
    Answers (.endRoutine c) s fun r => (anvC r c).run = none ∧ r.tmb.now = max s.tmb.now (cycleNs x x.budget) ∧
      (loopOf r x.loop).law = (lawStep (ldesc (loopOf s x.loop)) (loopOf s x.loop).law (loopOf s x.loop).mode (loopOf s x.loop).hold
        (loopOf s x.loop).man y.ins y.inj (le (loopOf s x.loop).tune.req 1 1 == 0)).st := by
  obtain ⟨g, hend⟩ := endLaw_eq (c := c) hy hpreset
  have hexec : exec (.endRoutine c) s = .next (endLaw s c x) := by
    show execEnd c s = _
    simp only [execEnd, hrun, hplace, Option.isSome_none, Bool.false_eq_true, if_false]
    rfl
  have hloops : (lawEnded s c x).anv.loop.wf = true := by rw [lawEnded_loop]; exact canonical_loops hcan
  refine ⟨_, hexec, ?_, ?_, ?_⟩
  · rw [hend]
    exact (runEnds_core _ (.inl (by rw [advance_anv]; exact canonical_anvCores hcan))).run
  · rw [hend]
    exact advance_now _ _
  · rw [hend, sampleUpd_law (loopUpd_wf hloops _ _), loopUpd_self _ _ _ hloops]

/-! ### A routine stops -/

/-- The stores of a routine that reach data memory change nothing but its banks, whose tables stay canonical (R295). -/
theorem memSettle_eq (k : AnvCore) (r : AnvRun) (c : Nat) :
    ∃ l m, (memSettle k r c).1 = { k with left := l, right := m } ∧ (k.left.wf = true → l.wf = true) := by
  refine List.foldlRecOn (motive := fun e : AnvCore => ∃ l m, e = { k with left := l, right := m } ∧ (k.left.wf = true → l.wf = true))
    _ _ ⟨k.left, k.right, rfl, id⟩ ?_
  rintro _ ⟨l, m, rfl, hl⟩ w -
  split
  · exact ⟨_, m, rfl, fun h => SMap.wf_set _ _ _ (hl h)⟩
  · exact ⟨l, _, rfl, hl⟩

/-- The PC a stop notes: in a standard law, the entry of the ROM (R304). -/
def stopPc (r : AnvRun) : Nat := match r.place with | some p => (p.base + r.pc) % 32768 | none => 0x4000

/-- A core whose routine's stores stand and that has noted the stop (R304). -/
def stopNoted (r : AnvRun) (cause addr bank : Nat) (k : AnvCore) : AnvCore :=
  { (memSettle k r (r.used + 8)).1 with
    faultSlot := r.slot
    faultCause := cause
    faultPc := stopPc r
    faultAddr := if cause = 2 ∨ cause = 4 then addr else (memSettle k r (r.used + 8)).1.faultAddr
    faultBank := if cause = 2 ∨ cause = 4 then bank else (memSettle k r (r.used + 8)).1.faultBank }

/-- A core that has stopped for a cause, and its sample with it. -/
def coreStopped (s : State) (c : Nat) (r : AnvRun) (cause addr bank : Nat) : State :=
  sampleUpd (runEnds (anvUpd s c (stopNoted r cause addr bank)) c r) r.loop r.t0 fun x => { x with stopped := true }

/-- A stop is counted and told of by an event (R304, R311). -/
theorem anvStop_reported {s : State} {c : Nat} {r : AnvRun} (hrun : (anvC s c).run = some r) (cause addr bank : Nat) :
    unchangedBut eventParts (coreStopped s c r cause addr bank) (anvStop s c cause addr bank) := by
  have told (t : State) (a : Nat) (k : EvKind) (l : List (Nat × Int)) : unchangedBut eventParts t (event (bump t a) k l) :=
    ((bumpN_unchanged t a 1).mono (by decide)).trans (event_unchanged _ k l)
  unfold anvStop
  rw [hrun]
  dsimp only
  split <;> exact told _ _ _ _

/-- The state `t` in which core `c` has stopped the routine `r` at the instant of `s`. -/
structure Stopped (s t : State) (c : Nat) (r : AnvRun) (cause addr : Nat) : Prop where
  run : (anvC t c).run = none
  faultCause : (anvC t c).faultCause = cause
  faultSlot : (anvC t c).faultSlot = r.slot
  faultAddr : cause = 4 → (anvC t c).faultAddr = addr
  left : (anvC s c).left.wf = true → (anvC t c).left.wf = true
  tmb : t.tmb = s.tmb

theorem anvStop_stopped {s : State} {c : Nat} {r : AnvRun} (hrun : (anvC s c).run = some r) {cause : Nat} (hcause : cause ≠ 0) (addr bank : Nat) :
    Stopped s (anvStop s c cause addr bank) c r cause addr := by
  have reported := anvStop_reported hrun cause addr bank
  have tmb := reported .tmb (by decide)
  have anv := reported .anv (by decide)
  have noted : anvC (anvUpd s c (stopNoted r cause addr bank)) c = stopNoted r cause addr bank (anvC s c) :=
    anvUpd_self_of_ne_default s c (core_ne_default_of_fault hcause)
  have ended := runEnds_core (s := anvUpd s c (stopNoted r cause addr bank)) (c := c) r (.inr (by rw [noted]; exact hcause))
  rw [noted] at ended
  have core : anvC (anvStop s c cause addr bank) c = anvC (runEnds (anvUpd s c (stopNoted r cause addr bank)) c r) c := by
    rw [anvC, anv]
    rfl
  obtain ⟨l, m, hsettled, hleft⟩ := memSettle_eq (anvC s c) r (r.used + 8)
  exact {
    run := by rw [core, ended.run]
    faultCause := by rw [core, ended.faultCause]; rfl
    faultSlot := by rw [core, ended.faultSlot]; rfl
    faultAddr := fun h => by rw [core, ended.faultAddr]; exact if_pos (.inr h)
    left := fun h => by rw [core, ended.left, stopNoted, hsettled]; exact hleft h
    tmb := tmb }

theorem routineOverrun_answers {s : State} {c : Nat} {x : AnvRun} (hrun : (anvC s c).run = some x) (hplace : x.place ≠ none)
    (hbudget : x.budget < x.used + 1) :
    Answers (.routineOverrun c) s fun r => (anvC r c).run = none ∧ (anvC r c).faultCause = 1 ∧ (anvC r c).faultSlot = x.slot := by
  have stopped := anvStop_stopped hrun (cause := 1) (by decide) 0 0
  refine ⟨anvStop s c 1 0 0, ?_, stopped.run, stopped.faultCause, stopped.faultSlot⟩
  have exceeded (b : Bool) : x.budget < x.used + (if b then 3 else 1) := by cases b <;> simp <;> omega
  show execRoutineOverrun c s = _
  simp only [execRoutineOverrun, hrun]
  exact if_pos ⟨Option.isSome_iff_ne_none.2 hplace, exceeded _⟩

/-- The word a routine could not read is rewritten as 0 (R310). -/
theorem anvilEccRewrite_answers {s : State} {c : Nat} (addr t : Nat) {x : AnvRun} (hrun : (anvC s c).run = some x)
    (hleft : (anvC s c).left.wf = true) :
    Answers (.anvilEccRewrite c 1 addr t) s fun r => (anvC r c).run = none ∧ (anvC r c).faultCause = 4 ∧ (anvC r c).faultAddr = addr ∧
      (anvC r c).left.get addr = 0 ∧ r.tmb.now = max s.tmb.now t := by
  have hadvance : anvC (advance s t) c = anvC s c := by rw [anvC, advance_anv, anvC]
  have stopped := anvStop_stopped (hadvance ▸ hrun) (cause := 4) (by decide) addr 0
  have fault : ({ anvC (anvStop (advance s t) c 4 addr 0) c with
      left := (anvC (anvStop (advance s t) c 4 addr 0) c).left.set addr 0 } : AnvCore).faultCause = 4 := stopped.faultCause
  have core := anvUpd_self_of_ne_default (anvStop (advance s t) c 4 addr 0) c (f := fun k => { k with left := k.left.set addr 0 })
    (core_ne_default_of_fault (by rw [fault]; decide))
  refine ⟨anvUpd (anvStop (advance s t) c 4 addr 0) c fun k => { k with left := k.left.set addr 0 }, ?_,
    by rw [core]; exact stopped.run, by rw [core]; exact fault, by rw [core]; exact stopped.faultAddr rfl,
    by rw [core]; exact SMap.get_set_self _ _ _ (stopped.left (hadvance ▸ hleft)), (congrArg Tmb.now stopped.tmb).trans (advance_now s t)⟩
  show execAnvilEccRewrite c 1 addr t s = _
  simp only [execAnvilEccRewrite, hrun]
  rfl

/-! ### A core retires -/

/-- Core `c` has retired and neither runs nor awaits a routine; the Timeline is at `now`. -/
structure CoreOut (s : State) (c now : Nat) : Prop where
  retired : (anvC s c).retired = true
  run : (anvC s c).run = none
  pend : (anvC s c).pend = []
  now : s.tmb.now = now

theorem recorderEnd_unchanged (s : State) (n : Nat) : unchangedBut captureParts s (recorderEnd s n) := by
  unfold recorderEnd
  dsimp only
  split
  · exact (capUpd_unchanged s n _).trans (bump_captureParts _ _)
  · exact unchangedBut_refl _ s

section
variable {s t : State} {c now : Nat}

theorem CoreOut.of_unchanged {l : List Part} (h : CoreOut s c now) (g : unchangedBut l s t) (hanv : .anv ∉ l := by decide)
    (htmb : .tmb ∉ l := by decide) : CoreOut t c now := by
  have anv : t.anv = s.anv := g .anv hanv
  have tmb : t.tmb = s.tmb := g .tmb htmb
  exact ⟨by rw [anvC, anv]; exact h.retired, by rw [anvC, anv]; exact h.run, by rw [anvC, anv]; exact h.pend, by rw [tmb]; exact h.now⟩

theorem CoreOut.loopUpd (h : CoreOut s c now) (n : Nat) (f : Loop → Loop) : CoreOut (Machine.loopUpd s n f) c now :=
  ⟨h.retired, h.run, h.pend, h.now⟩

/-- A change of a core's memories and contexts starts nothing on it. -/
theorem CoreOut.anvUpd (h : CoreOut s c now) (m : Nat) {f : AnvCore → AnvCore}
    (hf : ∀ k, ((f k).retired, (f k).run, (f k).pend) = (k.retired, k.run, k.pend)) : CoreOut (Machine.anvUpd s m f) c now := by
  by_cases hm : c = m
  · subst hm
    have fields := hf (anvC s c)
    simp only [Prod.mk.injEq] at fields
    obtain ⟨hretired, hrun, hpend⟩ := fields
    have core := anvUpd_self_of_ne_default s c (f := f) (core_ne_default_of_retired (hretired.trans h.retired))
    exact ⟨by rw [core, hretired, h.retired], by rw [core, hrun, h.run], by rw [core, hpend, h.pend], h.now⟩
  · have core := anvUpd_other s m f c hm
    exact ⟨by rw [core]; exact h.retired, by rw [core]; exact h.run, by rw [core]; exact h.pend, h.now⟩

/-- An event of a loop, counted (R350). -/
theorem CoreOut.loopEvent (h : CoreOut s c now) (a : Nat) (k : EvKind) (n mode action core reason : Nat) :
    CoreOut (Machine.loopEvent (bump s a) k n mode action core reason) c now :=
  (h.of_unchanged (bumpN_unchanged s a 1)).of_unchanged (event_unchanged _ k _)

theorem CoreOut.tuneAbort (h : CoreOut s c now) (n : Nat) : CoreOut (Machine.tuneAbort s n) c now := by
  unfold Machine.tuneAbort
  dsimp only
  split
  · exact h
  · have stored := (h.loopUpd n fun l => { l with tune := { l.tune with state := .aborted, cmd := none } }).of_unchanged
      (recorderEnd_unchanged _ (le (loopOf s n).tune.req 3 1))
    refine .loopEvent ?_ _ _ _ _ _ _ _
    split
    · exact stored.of_unchanged (endCmd_unchanged _ _ _ _ _)
    · exact stored

theorem CoreOut.writeCode (h : CoreOut s c now) (m : Nat) (p : AnvPlace) (b : Bytes) : CoreOut (Machine.writeCode s m p b) c now :=
  h.anvUpd m fun _ => rfl

theorem CoreOut.resetIo (h : CoreOut s c now) (m k : Nat) (d : Bytes) : CoreOut (Machine.resetIo s m k d) c now :=
  h.anvUpd m fun _ => rfl

theorem CoreOut.setCtx (h : CoreOut s c now) (m k : Nat) (x : SMap Nat) :
    CoreOut (Machine.anvUpd s m fun e => { e with ctx := e.ctx.set k x }) c now := h.anvUpd m fun _ => rfl

theorem CoreOut.loopRestore (h : CoreOut s c now) (n : Nat) (v : LoopSave) : CoreOut (Machine.loopRestore s n v) c now := by
  refine .loopUpd ?_ n _
  exact h.anvUpd _ fun _ => rfl

/-- A loop that moves, or is lost, starts nothing on a core that has retired (R341). -/
theorem CoreOut.loopRelocate (h : CoreOut s c now) (n : Nat) : CoreOut (Machine.loopRelocate s n) c now := by
  unfold Machine.loopRelocate
  dsimp only
  split
  next k p _ _ =>
    have written : CoreOut (match (generalizing := false) p with
        | some p => Machine.writeCode (Machine.tuneAbort s n) (ldFallback (ldesc (loopOf s n))) p ((ldesc (loopOf s n)).drop 1024)
        | none => Machine.tuneAbort s n) c now := by
      split
      · exact (h.tuneAbort n).writeCode _ _ _
      · exact h.tuneAbort n
    refine .loopEvent (.loopUpd ?_ _ _) _ _ _ _ _ _ _
    split
    · exact .loopRestore (((written.loopUpd _ _).setCtx _ _ _).resetIo _ _ _) _ _
    · exact ((written.loopUpd _ _).setCtx _ _ _).resetIo _ _ _
  · exact ((h.tuneAbort n).loopUpd _ _).loopEvent _ _ _ _ _ _ _

theorem CoreOut.foldl {β : Type} {f : State → β → State} (hf : ∀ u b, CoreOut u c now → CoreOut (f u b) c now) (l : List β)
    (h : CoreOut s c now) : CoreOut (l.foldl f s) c now := List.foldlRecOn l f h fun u hu b _ => hf u b hu

end

/-- A core that retires neither runs nor awaits a routine, whatever becomes of its loops (R309). -/
theorem coreRetire_out (s : State) (c : Nat) (relocate : Bool) : CoreOut (coreRetire s c relocate) c s.tmb.now := by
  have core := anvUpd_self_of_ne_default s c (f := fun k => { k with retired := true, run := none, pend := [] }) (core_ne_default_of_retired rfl)
  have retired : CoreOut (anvUpd s c fun k => { k with retired := true, run := none, pend := [] }) c s.tmb.now :=
    ⟨by rw [core], by rw [core], by rw [core], rfl⟩
  have told : CoreOut (anvEvent _ evAnvCoreRetired c 0 0 0 0) c s.tmb.now := retired.of_unchanged (event_unchanged _ _ _)
  unfold coreRetire
  dsimp only
  have lost := told.foldl (fun u n hu => hu.loopUpd n fun l => { l with coreLost := true, open' := l.open'.map fun x => { x with lost := true } })
  split
  · exact (lost _).foldl (fun u n hu => hu.loopRelocate n) _
  · exact lost _

theorem anvilCoreMismatch_answers {s : State} {c : Nat} (t : Nat) (hc : c < 64) (hretired : (anvC s c).retired = false) :
    Answers (.anvilCoreMismatch c t) s fun r =>
      (anvC r c).retired = true ∧ (anvC r c).run = none ∧ (anvC r c).pend = [] ∧ r.tmb.now = max s.tmb.now t := by
  have hgo : ¬(64 ≤ c ∨ (anvC s c).retired = true) := by
    rw [hretired]
    simp [hc]
  have out (relocate : Bool) (b : Bool) :
      CoreOut (if b then pairGiveUp (coreRetire (advance s t) c relocate) 9 else coreRetire (advance s t) c relocate) c (max s.tmb.now t) := by
    have retired := coreRetire_out (advance s t) c relocate
    rw [advance_now] at retired
    cases b with
    | false => exact retired
    | true => exact retired.of_unchanged (pairGiveUp_pairParts _ 9)
  obtain ⟨retired, run, pend, now⟩ := out _ _
  exact ⟨_, if_neg hgo, retired, run, pend, now⟩

/-! ### Reading a core's memories -/

/-- ANV_MEM_SEL has been written, its read is done with a status (R312). -/
def memReadDone (s : State) (v : Word) (st : Status) (w : Nat) : State :=
  let t := setFld (setFld (setFld s fAnvMemSelCore (bits v.toNat 5 0)) fAnvMemSelSpace (bits v.toNat 7 6)) fAnvMemSelAddr (bits v.toNat 22 8)
  { t with anv := { t.anv with memData := w, memDone := true, memStatus := st } }

theorem anvC_setFld (s : State) (f : Fld) (x : Nat) : anvC (setFld s f x) = anvC s := rfl

/-- Below 0x4000 lies the program store. -/
theorem anvMemRead_program {s : State} {v : Word} (hretired : (anvC s (bits v.toNat 5 0)).retired = false) (hspace : bits v.toNat 7 6 = 0)
    (haddr : bits v.toNat 22 8 < 0x4000) :
    anvMemRead v s = memReadDone s v .ok ((anvC s (bits v.toNat 5 0)).pmem.get (bits v.toNat 22 8)) := by
  have hrom : ¬0x6000 ≤ bits v.toNat 22 8 := by omega
  have hstore : ¬0x4000 ≤ bits v.toNat 22 8 := by omega
  simp only [anvMemRead, anvC_setFld, hretired, Bool.false_eq_true, if_false, hspace, hrom, hstore, memReadDone]

theorem anvMemRead_noSpace {s : State} {v : Word} (hretired : (anvC s (bits v.toNat 5 0)).retired = false) (hspace : bits v.toNat 7 6 = 3) :
    anvMemRead v s = memReadDone s v .range 0 := by
  simp only [anvMemRead, anvC_setFld, hretired, Bool.false_eq_true, if_false, hspace, memReadDone]

theorem anvMemRead_exec {s : State} (hopen : windowOpen s 8 = true) (v : Word) : exec (.anvMemRead v) s = .next (anvMemRead v s) := by
  show regCmd s 8 (anvMemRead v) = _
  rw [regCmd, if_pos hopen]
  rfl

/-- Settles O20, one lemma for each row: a core stands as its last change leaves it, stops and ends are told of without touching it, and a
retired core stays idle while its loops move. -/
theorem anvilRoutinesTakeEffect : Obligations.AnvilRoutinesTakeEffect := by
  unfold Obligations.AnvilRoutinesTakeEffect
  refine ⟨?tick, ?endUser, ?endLaw, ?overrun, ?ecc, ?mismatch, ?memRead, ?memRefused⟩
  case tick =>
    exact fun c ps t0 k n l s hrun hpend hretired hlead hfree hdesc => anvilTickSwap_answers hrun hpend hretired hlead hfree hdesc
  case endUser => exact fun c w x s hcan h => endRoutine_answers_user hcan h
  case endLaw => exact fun c x y s hcan hrun hplace hy hpreset => endRoutine_answers_law hcan hrun hplace hy hpreset
  case overrun => exact fun c x s hrun hplace hbudget => routineOverrun_answers hrun hplace hbudget
  case ecc => exact fun c addr t x s _ hrun hleft => anvilEccRewrite_answers addr t hrun hleft
  case mismatch => exact fun c t s _ hc hretired => anvilCoreMismatch_answers t hc hretired
  case memRead =>
    exact fun v s hopen hretired hspace haddr =>
      ⟨_, (anvMemRead_exec hopen v).trans (congrArg Host.Outcome.next (anvMemRead_program hretired hspace haddr)), rfl, rfl, rfl⟩
  case memRefused =>
    exact fun v s hopen hretired hspace =>
      ⟨_, (anvMemRead_exec hopen v).trans (congrArg Host.Outcome.next (anvMemRead_noSpace hretired hspace)), rfl, rfl⟩

end Sys2Proof.Machine
end

section
/-! Laws of a loop slot (R299, R303, R320, R341, R344): how it stands after a change of its own record, of a core or of another part of the state,
and which parts of the state the placing of its code, its test's recorder and its copies leave alone. -/
namespace Sys2Proof.Machine
open Sys2Proof

/-! ### How a loop slot stands -/

/-- Loop slot `n` satisfies `P` in a canonical table, at the instant `now`. -/
structure LoopAt (s : State) (n : Nat) (P : Loop → Prop) (now : Nat) : Prop where
  wf : s.anv.loop.wf = true
  loop : P (loopOf s n)
  now : s.tmb.now = now

theorem loopAt_of_canonical {s : State} (h : canonical s) (n : Nat) : LoopAt s n (· = loopOf s n) s.tmb.now :=
  ⟨canonical_loops h, rfl, rfl⟩

section
variable {s t : State} {n now : Nat} {P Q : Loop → Prop}

theorem LoopAt.mono (h : LoopAt s n P now) (g : ∀ l, P l → Q l) : LoopAt s n Q now := ⟨h.wf, g _ h.loop, h.now⟩

/-- What leaves the table of the loops and the Timeline leaves the slot. -/
theorem LoopAt.of_eq (h : LoopAt s n P now) (hloop : t.anv.loop = s.anv.loop) (htmb : t.tmb = s.tmb) : LoopAt t n P now :=
  ⟨by rw [hloop]; exact h.wf, by rw [loopOf, hloop]; exact h.loop, by rw [htmb]; exact h.now⟩

theorem LoopAt.of_unchanged {l : List Part} (h : LoopAt s n P now) (g : unchangedBut l s t) (hanv : .anv ∉ l := by decide)
    (htmb : .tmb ∉ l := by decide) : LoopAt t n P now :=
  h.of_eq (congrArg Anv.loop (g .anv hanv)) (g .tmb htmb)

/-- A change of the slot that brings about `Q`. -/
theorem LoopAt.upd (h : LoopAt s n P now) {f : Loop → Loop} (hf : ∀ l, P l → Q (f l)) : LoopAt (loopUpd s n f) n Q now :=
  ⟨loopUpd_wf h.wf n f, by rw [loopUpd_self s n f h.wf]; exact hf _ h.loop, h.now⟩

/-- A change of a slot, this one or another, that keeps `P`. -/
theorem LoopAt.updAny (h : LoopAt s n P now) (m : Nat) {f : Loop → Loop} (hf : ∀ l, P l → P (f l)) : LoopAt (loopUpd s m f) n P now := by
  by_cases hm : n = m
  · subst hm
    exact h.upd hf
  · exact ⟨loopUpd_wf h.wf m f, by rw [loopUpd_other s m f n hm]; exact h.loop, h.now⟩

theorem LoopAt.startedIn (h : LoopAt s n P now) (c : Cmd) (d : Bytes) : LoopAt (Machine.startedIn s c d) n P now := h.of_eq rfl rfl

theorem LoopAt.anvUpd (h : LoopAt s n P now) (c : Nat) (f : AnvCore → AnvCore) : LoopAt (Machine.anvUpd s c f) n P now := h.of_eq rfl rfl

theorem LoopAt.bumpN (h : LoopAt s n P now) (a k : Nat) : LoopAt (Machine.bumpN s a k) n P now := h.of_eq rfl rfl

theorem LoopAt.event (h : LoopAt s n P now) (k : EvKind) (l : List (Nat × Int)) : LoopAt (Machine.event s k l) n P now :=
  h.of_unchanged (event_unchanged s k l)

theorem LoopAt.endCmd (h : LoopAt s n P now) (c : Nat) (st : Status) (r d : Nat) : LoopAt (Machine.endCmd s c st r d) n P now :=
  h.of_unchanged (endCmd_unchanged s c st r d)

theorem LoopAt.advance (h : LoopAt s n P now) (i : Nat) : LoopAt (Machine.advance s i) n P (max now i) :=
  ⟨by rw [advance_anv]; exact h.wf, by rw [loopOf, advance_anv]; exact h.loop, by rw [advance_now, h.now]⟩

theorem LoopAt.foldl {β : Type} {f : State → β → State} (hf : ∀ u b, LoopAt u n P now → LoopAt (f u b) n P now) (l : List β)
    (h : LoopAt s n P now) : LoopAt (l.foldl f s) n P now := List.foldlRecOn l f h fun u hu b _ => hf u b hu

/-- A branch keeps what each of its ways keeps. -/
theorem LoopAt.ite {p : Prop} [Decidable p] (hs : LoopAt s n P now) (ht : LoopAt t n P now) : LoopAt (if p then s else t) n P now := by
  split
  · exact hs
  · exact ht

/-- A loop put into a slot stands there (R299, R303). -/
theorem LoopAt.loopInstall (h : LoopAt s n P now) (l : Loop) : LoopAt (Machine.loopInstall s n l) n (· = l) now :=
  ⟨SMap.wf_set _ n l h.wf, SMap.get_set_self _ n l h.wf, h.now⟩

end

/-! ### Commands in flight beside a loop -/

theorem startedCmd_handle {s : State} {h op : Nat} {c : Cmd} (hc : CanStart s h op c) (d : Bytes) : (startedCmd c d).handle = h := by
  show c.handle = h
  exact handle_of_cmdFind hc.1

/-- A command whose effect leaves the commands in flight ends as its last act says (R116). -/
theorem endStatus_of_started {s t : State} {h op : Nat} {c : Cmd} (hc : CanStart s h op c) (d : Bytes) (hhif : t.hif = (startedIn s c d).hif)
    (st : Status) (r k : Nat) : endStatus (endCmd t h st r k) h = some st := by
  obtain ⟨x, hfind, hopen⟩ := cmdFind_startedIn hc d
  exact endStatus_endCmd st r k ((cmdFind_congr (congrArg Hif.cmds hhif) h).trans hfind) hopen

/-- A command whose effect leaves the commands in flight, whatever its data, runs on. -/
theorem running_of_started {s t : State} {h op : Nat} {c : Cmd} (hc : CanStart s h op c) (d : Bytes) (hhif : t.hif = (startedIn s c d).hif) :
    running t h = true := (running_congr (congrArg Hif.cmds hhif) h).trans (running_startedIn hc d)

end Sys2Proof.Machine
end

section
/-! Proofs of the loop commands' effects (R318 to R320, R333, R342, R344, R348, R349, O21): LOOP_LOAD, LOOP_MODE, LOOP_TUNE, LOOP_TUNE_READ,
LOOP_TUNE_APPLY and the start of a PERSIST loop. -/
namespace Sys2Proof.Machine
open Sys2Proof

/-! ### LOOP_LOAD -/

/-- The code of a descriptor with a code block is written to its place, and told of (R307, R311). -/
def codeLoaded (s : State) (core slot : Nat) (p : Option AnvPlace) (code : Bytes) : State :=
  match p with
  | some p => anvEvent (bump (writeCode s core p code) cAnvCodeLoads) evAnvCodeLoaded core slot 0 p.base 0
  | none => s

theorem codeLoaded_hif (s : State) (core slot : Nat) (p : Option AnvPlace) (code : Bytes) : (codeLoaded s core slot p code).hif = s.hif := by
  cases p with
  | none => rfl
  | some p => exact event_hif _ _ _

theorem LoopAt.codeLoaded {s : State} {n now : Nat} {P : Loop → Prop} (h : LoopAt s n P now) (core slot : Nat) (p : Option AnvPlace)
    (code : Bytes) : LoopAt (Machine.codeLoaded s core slot p code) n P now := by
  cases p with
  | none => exact h
  | some p => exact ((h.anvUpd core _).bumpN cAnvCodeLoads 1).event _ _

/-- A PERSIST descriptor goes to the boot bank, another one takes its slot's item out of it (R318, R557). -/
def bootNoted (s : State) (n : Nat) (d : Bytes) : State :=
  if ldOpt d 2 ∨ (s.hdl.boot.loops.get n).isSome then bootPend s (.loop n (if ldOpt d 2 then some d else none)) else s

theorem bootNoted_unchanged (s : State) (n : Nat) (d : Bytes) : unchangedBut [.hdl] s (bootNoted s n d) :=
  .ite (fun p hp => by cases p <;> simp_all [samePart, bootPend]) (unchangedBut_refl _ s)

/-- A load that has taken effect is noted, told of, and ends with OK (R318). -/
def loadEnded (s : State) (h n core : Nat) (d : Bytes) : State :=
  endCmd (loopEvent (bootNoted s n d) evLoopLoaded n (loopOf (bootNoted s n d) n).mode.code 0 core 0) h .ok 0 0

theorem LoopAt.loadEnded {s : State} {n now : Nat} {P : Loop → Prop} (h : LoopAt s n P now) (cmd core : Nat) (d : Bytes) :
    LoopAt (Machine.loadEnded s cmd n core d) n P now := ((h.of_unchanged (bootNoted_unchanged s n d)).event _ _).endCmd _ _ _ _

theorem loadEnded_status {s t : State} {h op : Nat} {c : Cmd} {d : Bytes} (hc : CanStart s h op c) (hhif : t.hif = (startedIn s c d).hif)
    (n core : Nat) : endStatus (loadEnded t h n core d) h = some .ok := by
  refine endStatus_of_started hc d ?_ .ok 0 0
  rw [loopEvent, event_hif, bootNoted_unchanged t n d .hif (by decide), hhif]

/-- An admitted descriptor waits for a loaded slot's next sample after 20 µs, or stands in an empty slot at once (R320). -/
def loadPlaced (s : State) (loaded : Bool) (n core slot : Nat) (p : Option AnvPlace) (d : Bytes) : State :=
  if loaded then loopUpd s n fun l => { l with next := some ⟨d, core, slot, p, s.tmb.now + loadLead⟩, unload := false }
  else loopInstall s n (loopFresh s d core slot p (s.tmb.now + loadLead))

theorem loadPlaced_hif (s : State) (loaded : Bool) (n core slot : Nat) (p : Option AnvPlace) (d : Bytes) :
    (loadPlaced s loaded n core slot p d).hif = s.hif := by cases loaded <;> rfl

theorem LoopAt.loadPlaced_empty {s : State} {n now : Nat} {P : Loop → Prop} (h : LoopAt s n P now) (core slot : Nat) (p : Option AnvPlace)
    (d : Bytes) : LoopAt (loadPlaced s false n core slot p d) n (· = loopFresh s d core slot p (s.tmb.now + loadLead)) now := h.loopInstall _

theorem LoopAt.loadPlaced_loaded {s : State} {n now : Nat} {l : Loop} (h : LoopAt s n (· = l) now) (core slot : Nat) (p : Option AnvPlace)
    (d : Bytes) :
    LoopAt (loadPlaced s true n core slot p d) n (· = { l with next := some ⟨d, core, slot, p, now + loadLead⟩, unload := false }) now :=
  h.upd fun k hk => by rw [hk, h.now]

/-- LOOP_LOAD of a descriptor that is admitted (R318 to R320). -/
theorem loopLoad_of_admit {s : State} {c : Cmd} {core slot : Nat} {p : Option AnvPlace} (hruns : tuneRuns (loopOf s c.unit) = false)
    (hlaw : ldLaw c.data ≠ 0) (hadmit : (loopAdmit s c.unit c.data).toOption = some (core, slot, p)) :
    loopLoad s c = loadEnded (loadPlaced (codeLoaded s core slot p (c.data.drop 1024)) (loopOf s c.unit).desc.isSome c.unit core slot p c.data)
      c.handle c.unit core c.data := by
  have admitted : loopAdmit s c.unit c.data = .ok (core, slot, p) := by
    cases h : loopAdmit s c.unit c.data with
    | error e => rw [h] at hadmit; cases hadmit
    | ok a => rw [h] at hadmit; exact congrArg Except.ok (Option.some.inj hadmit)
  simp only [loopLoad, hruns, hlaw, admitted, Bool.false_eq_true, if_false]
  cases p <;> rfl

/-- LOOP_LOAD with LAW NONE (R320). -/
theorem loopLoad_of_lawNone {s : State} {c : Cmd} (hruns : tuneRuns (loopOf s c.unit) = false) (hlaw : ldLaw c.data = 0)
    (hcheck : unloadCheck c.data = none) :
    loopLoad s c = endCmd (loopUpd s c.unit fun l => { l with unload := l.desc.isSome, next := none }) c.handle .ok 0 0 := by
  simp only [loopLoad, hruns, hlaw, hcheck, Bool.false_eq_true, if_false, if_true]

section
variable {s : State} {h core slot : Nat} {c : Cmd} {d : Bytes} {p : Option AnvPlace}

theorem loopLoad_started (hc : CanStart s h 0x38 c) (hruns : tuneRuns (loopOf s c.unit) = false) (hlaw : ldLaw d ≠ 0)
    (hadmit : (loopAdmit s c.unit d).toOption = some (core, slot, p)) :
    loopLoad (startedIn s c d) (startedCmd c d) = loadEnded (loadPlaced (codeLoaded (startedIn s c d) core slot p (d.drop 1024))
      (loopOf s c.unit).desc.isSome c.unit core slot p d) h c.unit core d := by
  obtain rfl := startedCmd_handle hc d
  exact loopLoad_of_admit (s := startedIn s c d) (c := startedCmd c d) hruns hlaw hadmit

theorem loopLoad_answers_empty (hcan : canonical s) (hc : CanStart s h 0x38 c) (hruns : tuneRuns (loopOf s c.unit) = false) (hlaw : ldLaw d ≠ 0)
    (hdesc : (loopOf s c.unit).desc = none) (hadmit : (loopAdmit s c.unit d).toOption = some (core, slot, p)) :
    Answers (.loopLoad h (some d)) s fun r =>
      (loopOf r c.unit).desc = some d ∧ (loopOf r c.unit).core = core ∧ (loopOf r c.unit).slot = slot ∧
        (loopOf r c.unit).mode = modeOf (ldInitMode d) ∧ endStatus r h = some .ok := by
  have loads := loopLoad_started hc hruns hlaw hadmit
  rw [hdesc, Option.isSome_none] at loads
  have stands := ((((loopAt_of_canonical hcan c.unit).startedIn c d).codeLoaded core slot p (d.drop 1024)).loadPlaced_empty core slot p d).loadEnded
    h core d
  refine ⟨_, congrArg ok ((startCmd_of_canStart hc d loopLoad).trans loads), ?_, ?_, ?_, ?_, ?_⟩
  · exact congrArg Loop.desc stands.loop
  · exact congrArg Loop.core stands.loop
  · exact congrArg Loop.slot stands.loop
  · exact congrArg Loop.mode stands.loop
  · exact loadEnded_status hc ((loadPlaced_hif _ _ _ _ _ _ _).trans (codeLoaded_hif _ _ _ _ _)) _ _

theorem loopLoad_answers_loaded (hcan : canonical s) (hc : CanStart s h 0x38 c) (hruns : tuneRuns (loopOf s c.unit) = false) (hlaw : ldLaw d ≠ 0)
    (hdesc : (loopOf s c.unit).desc ≠ none) (hadmit : (loopAdmit s c.unit d).toOption = some (core, slot, p)) :
    Answers (.loopLoad h (some d)) s fun r =>
      (loopOf r c.unit).next = some ⟨d, core, slot, p, s.tmb.now + 20000⟩ ∧ (loopOf r c.unit).desc = (loopOf s c.unit).desc ∧
        endStatus r h = some .ok := by
  have loads := loopLoad_started hc hruns hlaw hadmit
  rw [Option.isSome_iff_ne_none.2 hdesc] at loads
  have stands := ((((loopAt_of_canonical hcan c.unit).startedIn c d).codeLoaded core slot p (d.drop 1024)).loadPlaced_loaded core slot p d).loadEnded
    h core d
  refine ⟨_, congrArg ok ((startCmd_of_canStart hc d loopLoad).trans loads), ?_, ?_, ?_⟩
  · rw [stands.loop]
    rfl
  · rw [stands.loop]
  · exact loadEnded_status hc ((loadPlaced_hif _ _ _ _ _ _ _).trans (codeLoaded_hif _ _ _ _ _)) _ _

/-- LAW NONE lets a loaded loop unload (R320). -/
theorem loopLoad_answers_none (hcan : canonical s) (hc : CanStart s h 0x38 c) (hruns : tuneRuns (loopOf s c.unit) = false) (hlaw : ldLaw d = 0)
    (hcheck : unloadCheck d = none) :
    Answers (.loopLoad h (some d)) s fun r =>
      (loopOf r c.unit).unload = (loopOf s c.unit).desc.isSome ∧ (loopOf r c.unit).next = none ∧ endStatus r h = some .ok := by
  have unloads := loopLoad_of_lawNone (s := startedIn s c d) (c := startedCmd c d) hruns hlaw hcheck
  rw [startedCmd_handle hc d] at unloads
  have stands := (((loopAt_of_canonical hcan c.unit).startedIn c d).upd
    (Q := (· = { loopOf s c.unit with unload := (loopOf s c.unit).desc.isSome, next := none }))
    (f := fun l => { l with unload := l.desc.isSome, next := none }) fun l hl => by rw [hl]).endCmd h .ok 0 0
  refine ⟨_, congrArg ok ((startCmd_of_canStart hc d loopLoad).trans unloads), ?_, ?_, ?_⟩
  · exact congrArg Loop.unload stands.loop
  · exact congrArg Loop.next stands.loop
  · exact endStatus_of_started (t := loopUpd _ _ _) hc d rfl .ok 0 0

end

/-! ### LOOP_MODE -/

/-- LOOP_MODE of a loaded slot that may take the mode (R333). -/
theorem loopModeCmd_of_loaded {s : State} {c : Cmd} (hdesc : (loopOf s c.unit).desc ≠ none) (hmode : c.arg < 3)
    (hcas : c.arg ≠ 2 ∨ ldHasCas (ldesc (loopOf s c.unit)) = true) :
    loopModeCmd s c = loopUpd s c.unit fun l => { l with reqs := l.reqs ++
      [⟨some (modeOf c.arg), if bit c.arg2 31 then some (signed 24 c.arg2) else none, max c.instant s.tmb.now, some c.handle⟩] } := by
  have loaded : ¬(loopOf s c.unit).desc.isNone = true := by rwa [Option.isNone_iff_eq_none]
  have inRange : ¬3 ≤ c.arg := Nat.not_le.2 hmode
  have cascade : ¬(c.arg = 2 ∧ (!ldHasCas (ldesc (loopOf s c.unit))) = true) := by
    rcases hcas with h | h <;> simp [h]
  simp only [loopModeCmd, if_neg loaded, if_neg inRange, if_neg cascade]

theorem loopMode_answers {s : State} {h : Nat} {c : Cmd} (hcan : canonical s) (hc : CanStart s h 0x39 c)
    (hdesc : (loopOf s c.unit).desc ≠ none) (hmode : c.arg < 3) (hcas : c.arg ≠ 2 ∨ ldHasCas (ldesc (loopOf s c.unit)) = true) :
    Answers (.loopMode h) s fun r =>
      (loopOf r c.unit).reqs = (loopOf s c.unit).reqs ++
        [⟨some (modeOf c.arg), if bit c.arg2 31 then some (signed 24 c.arg2) else none, max c.instant s.tmb.now, some h⟩] ∧
        running r h = true := by
  have queues := loopModeCmd_of_loaded (s := startedIn s c []) (c := startedCmd c []) hdesc hmode hcas
  rw [startedCmd_handle hc []] at queues
  refine ⟨_, congrArg ok ((startCmd_of_canStart hc [] loopModeCmd).trans queues), ?_, running_of_started hc [] rfl⟩
  exact congrArg Loop.reqs (loopUpd_self _ _ _ (canonical_loops hcan))

/-! ### LOOP_TUNE -/

/-- A tuning test of the request `q`, of the command `h`, as it starts (R344). -/
def tuneBegun (q : Bytes) (h : Nat) : Tune :=
  { (default : Tune) with
    state := .recording
    req := q
    cmd := some h
    lfsr := 2 ^ le q 2 1 - 1 }

/-- A tuning test has begun on a loop, with its recorder (R344, R385). -/
def testBegun (s : State) (n h : Nat) (q : Bytes) : State :=
  loopUpd (recorderStart s (le q 3 1) n (le q 8 4)) n fun l => { l with tune := tuneBegun q h }

theorem LoopAt.testBegun {s : State} {n now : Nat} {P : Loop → Prop} (h : LoopAt s n P now) (cmd : Nat) (q : Bytes) :
    LoopAt (Machine.testBegun s n cmd q) n (·.tune = tuneBegun q cmd) now :=
  LoopAt.upd (P := P) (h.of_unchanged (capUpd_unchanged s (le q 3 1) _)) fun _ _ => rfl

/-- LOOP_TUNE that passes its checks (R344). -/
theorem loopTune_of_checks {s : State} {c : Cmd} {l : Loop} (hl : loopOf s c.unit = l) (hruns : tuneRuns l = false) (hdesc : l.desc ≠ none)
    (hhold : l.hold = false) (hmode : if le c.data 1 1 = 0 then l.mode ≠ .man else l.mode ≠ .cas)
    (hfield : tuneField c.data (ldTs (ldesc l)) = none)
    (hfree : recorderFree s (le c.data 3 1) (le c.data 8 4 + signalLen c.data (ldTs (ldesc l)) + le c.data 12 4) = true)
    (hcost : admissible ((loopCost (ldesc l) (tuneCost c.data), ldPeriod (ldesc l), ldDelay (ldesc l)) ::
      (coreLoops s l.core c.unit).map (·.2)) = true) :
    loopTune s c = loopEvent (bump (testBegun s c.unit c.handle c.data) cLoopTuneTests) evTuneStarted c.unit l.mode.code 0 l.core 0 := by
  have ready : ¬(l.desc.isNone = true ∨ l.hold = true ∨ if le c.data 1 1 = 0 then l.mode = .man else l.mode = .cas) := by
    rw [Option.isNone_iff_eq_none, hhold]
    split at hmode <;> simp_all
  have room : ¬((!recorderFree s (le c.data 3 1) (le c.data 8 4 + signalLen c.data (ldTs (ldesc l)) + le c.data 12 4)) = true ∨
      (!admissible ((loopCost (ldesc l) (tuneCost c.data), ldPeriod (ldesc l), ldDelay (ldesc l)) ::
        (coreLoops s l.core c.unit).map (·.2))) = true) := by simp [hfree, hcost]
  simp only [loopTune, hl, hruns, Bool.false_eq_true, if_false, if_neg ready, hfield, if_neg room]
  rfl

theorem loopTune_answers {s : State} {h : Nat} {c : Cmd} {q : Bytes} {l : Loop} (hcan : canonical s) (hc : CanStart s h 0x3A c)
    (hl : l = loopOf s c.unit) (hruns : tuneRuns l = false) (hdesc : l.desc ≠ none) (hhold : l.hold = false)
    (hmode : if le q 1 1 = 0 then l.mode ≠ .man else l.mode ≠ .cas) (hfield : tuneField q (ldTs (ldesc l)) = none)
    (hfree : recorderFree s (le q 3 1) (le q 8 4 + signalLen q (ldTs (ldesc l)) + le q 12 4) = true)
    (hcost : admissible ((loopCost (ldesc l) (tuneCost q), ldPeriod (ldesc l), ldDelay (ldesc l)) ::
      (coreLoops s l.core c.unit).map (·.2)) = true) :
    Answers (.loopTune h (some q)) s fun r =>
      (loopOf r c.unit).tune.state = .recording ∧ (loopOf r c.unit).tune.req = q ∧ (loopOf r c.unit).tune.cmd = some h ∧
        running r h = true := by
  have begins := loopTune_of_checks (s := startedIn s c q) (c := startedCmd c q) (l := l) hl.symm hruns hdesc hhold hmode hfield hfree hcost
  rw [startedCmd_handle hc q] at begins
  have stands : LoopAt (loopEvent (bump (testBegun (startedIn s c q) c.unit h q) cLoopTuneTests) evTuneStarted c.unit l.mode.code 0 l.core 0)
      c.unit (·.tune = tuneBegun q h) s.tmb.now :=
    ((((loopAt_of_canonical hcan c.unit).startedIn c q).testBegun h q).bumpN cLoopTuneTests 1).event _ _
  refine ⟨_, congrArg ok ((startCmd_of_canStart hc q loopTune).trans begins), ?_, ?_, ?_, running_of_started hc q (event_hif ..)⟩
  · exact congrArg Tune.state stands.loop
  · exact congrArg Tune.req stands.loop
  · exact congrArg Tune.cmd stands.loop

/-! ### LOOP_TUNE_READ and LOOP_TUNE_APPLY -/

/-- LOOP_TUNE_READ of a finished test (R348). -/
theorem loopTuneRead_of_result {s : State} {c : Cmd} (hstate : (loopOf s c.unit).tune.state = .result) :
    loopTuneRead s c =
      endCmd (send s (.host c.dataAddr (tuneBytes ((loopOf s c.unit).tune.res.getD default)))) c.handle .ok 0 96 := by
  simp only [loopTuneRead, hstate]

theorem loopTuneRead_answers {s : State} {h : Nat} {c : Cmd} (hc : CanStart s h 0x3B c) (hstate : (loopOf s c.unit).tune.state = .result) :
    Answers (.loopTuneRead h) s fun r =>
      r.out = s.out ++ [.host c.dataAddr (tuneBytes ((loopOf s c.unit).tune.res.getD default))] ∧ endStatus r h = some .ok := by
  have reads := loopTuneRead_of_result (s := startedIn s c []) (c := startedCmd c []) hstate
  rw [startedCmd_handle hc []] at reads
  exact ⟨_, congrArg ok ((startCmd_of_canStart hc [] loopTuneRead).trans reads), endCmd_out _ _ _ _ _,
    endStatus_of_started (t := send _ _) hc [] rfl .ok 0 96⟩

/-- LOOP_TUNE_APPLY of a good result (R349). -/
theorem loopTuneApply_of_good {s : State} {c : Cmd} {t : TuneResult} (hstate : (loopOf s c.unit).tune.state = .result)
    (hres : (loopOf s c.unit).tune.res = some t) (hgood : t.reason = 0) :
    loopTuneApply s c = loopUpd s c.unit fun l => { l with tune := { l.tune with
      applied := some (max c.instant s.tmb.now, some c.handle) } } := by
  have good : (loopOf s c.unit).tune.res.map (·.reason) = some 0 := by rw [hres, Option.map_some, hgood]
  exact if_pos ⟨hstate, good⟩

theorem loopTuneApply_answers {s : State} {h : Nat} {c : Cmd} {t : TuneResult} (hcan : canonical s) (hc : CanStart s h 0x3C c)
    (hstate : (loopOf s c.unit).tune.state = .result) (hres : (loopOf s c.unit).tune.res = some t) (hgood : t.reason = 0) :
    Answers (.loopTuneApply h) s fun r =>
      (loopOf r c.unit).tune.applied = some (max c.instant s.tmb.now, some h) ∧ running r h = true := by
  have waits := loopTuneApply_of_good (s := startedIn s c []) (c := startedCmd c []) hstate hres hgood
  rw [startedCmd_handle hc []] at waits
  refine ⟨_, congrArg ok ((startCmd_of_canStart hc [] loopTuneApply).trans waits), ?_, running_of_started hc [] rfl⟩
  exact congrArg (fun l => l.tune.applied) (loopUpd_self _ _ _ (canonical_loops hcan))

/-! ### The start of a PERSIST loop -/

/-- The loop of a standard law that is not RESUMABLE starts in its boot slot (R342). -/
theorem execLoopPersistStart_of_boot {s : State} {n t bad k : Nat} {d : Bytes} (hstarts : autostarts s = true)
    (hdesc : (loopOf s n).desc = none) (hboot : s.hdl.boot.loops.get n = some d) (hlaw : ldLaw d ≠ 0x80) (hresume : ldOpt d 3 = false)
    (hplace : placeOn (advance s t) (ldHome d) n d 0 = some k) :
    execLoopPersistStart n t bad s =
      ok (loopInstall (advance s t) n (loopFresh (advance s t) d (ldHome d) k none (advance s t).tmb.now)) := by
  have starts : ¬((loopOf s n).desc.isSome = true ∨ (!autostarts s) = true) := by simp [hdesc, hstarts]
  simp only [execLoopPersistStart, hboot, if_neg starts, hplace, if_neg hlaw, hresume, Bool.not_false, if_true]

theorem loopPersistStart_answers {s : State} {n t bad k : Nat} {d : Bytes} (hcan : canonical s) (hstarts : autostarts s = true)
    (hdesc : (loopOf s n).desc = none) (hboot : s.hdl.boot.loops.get n = some d) (hlaw : ldLaw d ≠ 0x80) (hresume : ldOpt d 3 = false)
    (hplace : placeOn (advance s t) (ldHome d) n d 0 = some k) :
    Answers (.loopPersistStart n t bad) s fun r =>
      (loopOf r n).desc = some d ∧ (loopOf r n).core = ldHome d ∧ (loopOf r n).slot = k ∧ r.tmb.now = max s.tmb.now t := by
  have stands := ((loopAt_of_canonical hcan n).advance t).loopInstall
    (loopFresh (advance s t) d (ldHome d) k none (advance s t).tmb.now)
  refine ⟨_, execLoopPersistStart_of_boot hstarts hdesc hboot hlaw hresume hplace, ?_, ?_, ?_, stands.now⟩
  · exact congrArg Loop.desc stands.loop
  · exact congrArg Loop.core stands.loop
  · exact congrArg Loop.slot stands.loop

/-- Settles O21, one lemma for each clause: each command changes the record of its loop as its rule says, and what follows the change leaves
the record and the command in flight. -/
theorem loopCommandsTakeEffect : Obligations.LoopCommandsTakeEffect := by
  unfold Obligations.LoopCommandsTakeEffect
  refine ⟨?loadEmpty, ?loadLoaded, ?loadNone, ?mode, ?tune, ?tuneRead, ?tuneApply, ?persist⟩
  case loadEmpty => exact fun h core slot c d p s hcan hc hruns hlaw hdesc hadmit => loopLoad_answers_empty hcan hc hruns hlaw hdesc hadmit
  case loadLoaded => exact fun h core slot c d p s hcan hc hruns hlaw hdesc hadmit => loopLoad_answers_loaded hcan hc hruns hlaw hdesc hadmit
  case loadNone => exact fun h c d s hcan hc hruns hlaw hcheck => loopLoad_answers_none hcan hc hruns hlaw hcheck
  case mode => exact fun h c s hcan hc hdesc hmode hcas => loopMode_answers hcan hc hdesc hmode hcas
  case tune =>
    exact fun h c q l s hcan hc hl hruns hdesc hhold hmode hfield hfree hcost =>
      loopTune_answers hcan hc hl hruns hdesc hhold hmode hfield hfree hcost
  case tuneRead => exact fun h c s hc hstate => loopTuneRead_answers hc hstate
  case tuneApply => exact fun h c t s hcan hc hstate hres hgood => loopTuneApply_answers hcan hc hstate hres hgood
  case persist =>
    exact fun n t bad k d s hcan hstarts hdesc hboot hlaw hresume hplace =>
      loopPersistStart_answers hcan hstarts hdesc hboot hlaw hresume hplace

end Sys2Proof.Machine
end

section
/-! Laws of the Motion Engine's and Quench's shared operations that a loop's sample reaches (R395, R396, R418, R419, R427, R541): which parts of
the state the checks of a servo axis, its faults, a latched feedback value and a change of a Quench pin leave alone. -/
namespace Sys2Proof.Machine
open Sys2Proof

theorem drawFree_unchanged (s : State) : unchangedBut [.freeCtr] s (drawFree s).2 := fun p hp => by cases p <;> simp_all [samePart]

theorem writeGroup_unchanged (s : State) (ws : List PWrite) : unchangedBut writeParts s (writeGroup s ws) :=
  unchangedBut_foldl writePoint_unchanged ws s

/-! ### Axes -/

/-- The parts that the checks and faults of an axis may change (R418, R426, R427). -/
abbrev axisParts : List Part := [.regs, .pst, .hif, .recd, .cap, .fbk, .mot, .wlk, .mram, .out, .freeCtr]

theorem axUpd_unchanged (s : State) (n : Nat) (f : Axis → Axis) : unchangedBut axisParts s (axUpd s n f) :=
  fun p hp => by cases p <;> simp_all [samePart]

theorem endCmd_axisParts (s : State) (h : Nat) (st : Status) : unchangedBut axisParts s (endCmd s h st 0 0) :=
  (endCmd_unchanged s h st 0 0).mono (by decide)

theorem bump_axisParts (s : State) (a : Nat) : unchangedBut axisParts s (bump s a) := (bumpN_unchanged s a 1).mono (by decide)

theorem axStopsEnd_unchanged (s : State) (n : Nat) : unchangedBut axisParts s (axStopsEnd s n) :=
  (axUpd_unchanged s n _).trans (unchangedBut_foldl (fun t h => endCmd_axisParts t h .ok) _ _)

theorem axFreeze_unchanged (s : State) (n : Nat) : unchangedBut axisParts s (axFreeze s n) :=
  (axUpd_unchanged s n _).trans (axUpd_unchanged _ n _)

theorem homeEnds_unchanged (s : State) (n : Nat) (st : Status) : unchangedBut axisParts s (homeEnds s n st) := by
  unfold homeEnds
  split
  · exact unchangedBut_refl _ s
  · refine .trans (axUpd_unchanged s n fun x => { x with homing := none, homed := false }) ?_
    dsimp only
    split
    · exact endCmd_axisParts _ _ st
    · exact unchangedBut_refl _ _

theorem axFault_unchanged (s : State) (n cause : Nat) (k : EvKind) : unchangedBut axisParts s (axFault s n cause k) := by
  refine .trans ?_ (axStopsEnd_unchanged _ n)
  refine .trans ?_ ((event_unchanged _ k _).mono (by decide))
  refine .trans ?_ (homeEnds_unchanged _ n .faulted)
  exact (axFreeze_unchanged s n).trans (axUpd_unchanged _ n _)

theorem axLinks_unchanged (s : State) (n : Nat) : unchangedBut axisParts s (axLinks s n) := by
  have same := unchangedBut_refl axisParts s
  exact .ite same (.ite (axFault_unchanged s n _ _) (.ite (.ite (axFault_unchanged s n _ _) same) same))

theorem axOnLoop_unchanged (s : State) (slot : Nat) : unchangedBut axisParts s (axOnLoop s slot) :=
  unchangedBut_foldl (fun t n => .ite (axLinks_unchanged t n) (unchangedBut_refl _ t)) _ s

theorem axPoint_unchanged (s : State) (n id : Nat) (v : Int) (q : BitVec 16) : unchangedBut axisParts s (axPoint s n id v q) :=
  .ite (unchangedBut_refl _ s) ((writePoint_unchanged s _).mono (by decide))

theorem fbkCut_unchanged (s : State) (n t : Nat) : unchangedBut [.fbk, .freeCtr] s (fbkCut s n t).2 := by
  unfold fbkCut
  dsimp only
  split
  · exact (drawFree_unchanged s).mono (by decide)
  · exact unchangedBut_refl _ s

theorem fbkLatch_unchanged (s : State) (n t : Nat) : unchangedBut [.fbk, .freeCtr] s (fbkLatch s n t).2 :=
  (fbkCut_unchanged s n t).trans fun p hp => by cases p <;> simp_all [samePart, fbkLatch]

theorem axActual_unchanged (s : State) (n t : Nat) : unchangedBut axisParts s (axActual s n t).2 := by
  unfold axActual
  dsimp only
  split
  · exact (fbkLatch_unchanged s _ t).mono (by decide)
  · exact unchangedBut_refl _ s

theorem axInpos_unchanged (s : State) (n t : Nat) : unchangedBut axisParts s (axInpos s n t) :=
  .ite (axUpd_unchanged s n _) (axUpd_unchanged s n _)

theorem axChecks_unchanged (s : State) (n t : Nat) : unchangedBut axisParts s (axChecks s n t) := by
  have faulted (u : State) (c cause : Nat) (k : EvKind) : unchangedBut axisParts u (axFault (bump u c) n cause k) :=
    (bump_axisParts u c).trans (axFault_unchanged _ n cause k)
  refine .trans ?seen (.ite (axInpos_unchanged _ n t) (.ite (faulted _ _ _ _) (.ite (faulted _ _ _ _) ?linked)))
  case linked => exact (axLinks_unchanged _ n).trans (axInpos_unchanged _ n t)
  case seen => exact .trans ((axActual_unchanged s n t).trans (axUpd_unchanged _ n _)) (axPoint_unchanged _ n _ _ _)

theorem axSampled_unchanged (s : State) (slot t0 : Nat) : unchangedBut axisParts s (axSampled s slot t0) :=
  unchangedBut_foldl (fun t n => .ite (axChecks_unchanged t n t0) (unchangedBut_refl _ t)) _ s

/-! ### Quench pins -/

/-- The parts that a change of a Quench pin may change (R395, R541). -/
abbrev quenchParts : List Part := [.regs, .recd, .qch, .wlk, .par, .mram, .out, .freeCtr]

theorem qch_unchanged (s : State) (x : Qch) : unchangedBut quenchParts s { s with qch := x } :=
  fun p hp => by cases p <;> simp_all [samePart]

theorem qchUpd_unchanged (s : State) (n : Nat) (f : QchPin → QchPin) : unchangedBut quenchParts s (qchUpd n f s) := qch_unchanged s _

theorem pinState_unchanged (s : State) : unchangedBut quenchParts s (pinState s) := by
  refine .ite (unchangedBut_refl _ s) (.ite (unchangedBut_refl _ s) ?_)
  exact ((par_unchanged s _).mono (by decide)).trans ((mirrorSend_unchanged _ 8 _).mono (by decide))

theorem qchEvent_unchanged (s : State) (k : EvKind) (n unit : Nat) : unchangedBut quenchParts s (qchEvent s k n unit) :=
  ((drawFree_unchanged s).mono (by decide)).trans ((event_unchanged _ k _).mono (by decide))

theorem qchChange_unchanged {s : State} {f : State → State} (hf : unchangedBut quenchParts s (f s)) (n unit : Nat) :
    unchangedBut quenchParts s (qchChange s n unit f) := by
  refine .trans (hf.trans (pinState_unchanged _)) (.ite (.ite (unchangedBut_refl _ _) ?_) (qch_unchanged _ _))
  refine .trans (qch_unchanged _ _) (.ite ?_ (unchangedBut_refl _ _))
  exact .trans (.trans (qch_unchanged _ _) ((bumpN_unchanged _ cQchAssertions 1).mono (by decide))) (qchEvent_unchanged _ _ _ _)

theorem qchLoopEnds_unchanged (s : State) (slot : Nat) : unchangedBut quenchParts s (qchLoopEnds s slot) :=
  unchangedBut_foldl (fun t n => .ite (qchChange_unchanged (qchUpd_unchanged t n _) n slot) (unchangedBut_refl _ t)) _ s

theorem qchFromLoop_unchanged (s : State) (slot mask : Nat) : unchangedBut quenchParts s (qchFromLoop s slot mask) :=
  unchangedBut_foldl (fun t n => ((bumpN_unchanged t cQchAnvRequests 1).mono (by decide)).trans
    (qchChange_unchanged (qchUpd_unchanged _ n _) n slot)) _ s

end Sys2Proof.Machine
end

section
/-! Laws of the samples of a loop (R315, R320 to R323, R333 to R339, R344 to R346): reading inputs, taking mode requests, a test's sample,
supervision and stops change neither the number of samples nor the instants of those under way. -/
namespace Sys2Proof.Machine
open Sys2Proof

/-! ### Inputs -/

theorem signalAt_unchanged (s : State) (q : Bytes) (ts : Rat) (k lfsr : Nat) : unchangedBut [.freeCtr] s (signalAt s q ts k lfsr).2 := by
  unfold signalAt
  dsimp only
  split
  · exact unchangedBut_refl _ s
  · exact unchangedBut_refl _ s
  · exact unchangedBut_refl _ s
  · exact drawFree_unchanged s

theorem readIn_unchanged (s : State) (period t0 : Nat) (i : LoopIn) : unchangedBut [.fbk, .freeCtr] s (readIn s period t0 i).2 := by
  have drawn : unchangedBut [.fbk, .freeCtr] s (drawFree s).2 := (drawFree_unchanged s).mono (by decide)
  unfold readIn
  dsimp only
  split
  · split
    · exact unchangedBut_refl _ s
    · exact drawn
  · split
    · exact unchangedBut_refl _ s
    · exact drawn
  · exact fbkLatch_unchanged s _ t0
  · exact fbkLatch_unchanged s _ t0
  · exact unchangedBut_refl _ s

theorem readIns_unchanged (s : State) (d : Bytes) (t0 : Nat) : unchangedBut [.fbk, .freeCtr] s (readIns s d t0).2 := by
  unfold readIns
  exact List.foldlRecOn (motive := fun a : List (Int × Bool) × State => unchangedBut [.fbk, .freeCtr] s a.2) _ _ (unchangedBut_refl _ s)
    fun a ha n _ => ha.trans (readIn_unchanged a.2 _ t0 _)

theorem mirrorInput_unchanged (s : State) (kind unit : Nat) (b : Bytes) : unchangedBut pairParts s (mirrorInput s kind unit b) := by
  unfold mirrorInput
  refine .ite (unchangedBut_refl _ s) ?_
  dsimp only
  refine .ite (.trans ?_ (parEvent_unchanged _ _ _ _ _ _ _)) (.trans ?_ (mirrorSend_pairParts _ 1 _))
  · exact (par_pairParts s _).trans (bump_pairParts _ cParMirrorOverload)
  · exact par_pairParts s _

theorem loopIns_unchanged (s : State) (n t0 : Nat) (raw : List (Int × Bool)) : unchangedBut pairParts s (loopIns s n t0 raw).2 := by
  unfold loopIns
  split
  · split <;> exact unchangedBut_refl _ s
  · exact mirrorInput_unchanged s _ _ _

/-! ### The samples under way -/

/-- A loop that has taken `k` samples, those taken at the instants `ts` still under way. -/
def SamplesAre (k : Nat) (ts : List Nat) (l : Loop) : Prop := l.samples = k ∧ l.open'.map (·.t0) = ts

/-- A change of some samples that keeps their instants. -/
theorem map_t0_ite {p : LoopSample → Prop} [DecidablePred p] {f : LoopSample → LoopSample} (l : List LoopSample)
    (hf : ∀ x, (f x).t0 = x.t0 := by exact fun _ => rfl) : (l.map fun x => if p x then f x else x).map (·.t0) = l.map (·.t0) := by
  rw [List.map_map]
  refine List.map_congr_left fun x _ => ?_
  show (if p x then f x else x).t0 = x.t0
  split
  · exact hf x
  · rfl

section
variable {s t : State} {n m now k : Nat} {ts : List Nat}

/-- A change that is made in one case only keeps what the change keeps. -/
theorem LoopAt.iteThen {P : Loop → Prop} {p : Prop} [Decidable p] (h : LoopAt s n P now) (g : LoopAt s n P now → LoopAt t n P now) :
    LoopAt (if p then t else s) n P now := .ite (g h) h

/-- A change that is left out in one case only keeps what the change keeps. -/
theorem LoopAt.iteElse {P : Loop → Prop} {p : Prop} [Decidable p] (h : LoopAt s n P now) (g : LoopAt s n P now → LoopAt t n P now) :
    LoopAt (if p then s else t) n P now := .ite h (g h)

/-- A change of a loop beside its samples. -/
theorem LoopAt.updRest (h : LoopAt s n (SamplesAre k ts) now) (m : Nat) {f : Loop → Loop}
    (hf : ∀ l, (f l).samples = l.samples ∧ (f l).open' = l.open' := by exact fun _ => ⟨rfl, rfl⟩) :
    LoopAt (loopUpd s m f) n (SamplesAre k ts) now :=
  h.updAny m fun l hl => by
    obtain ⟨hsamples, hopen⟩ := hf l
    rwa [SamplesAre, hsamples, hopen]

theorem LoopAt.sampleUpd (h : LoopAt s n (SamplesAre k ts) now) (m i : Nat) {f : LoopSample → LoopSample}
    (hf : ∀ x, (f x).t0 = x.t0 := by exact fun _ => rfl) :
    LoopAt (Machine.sampleUpd s m i f) n (SamplesAre k ts) now :=
  h.updAny m fun l ⟨hsamples, hopen⟩ => ⟨hsamples, (map_t0_ite l.open' hf).trans hopen⟩

/-- An event of a loop, counted (R350). -/
theorem LoopAt.loopEvent {P : Loop → Prop} (h : LoopAt s n P now) (a : Nat) (e : EvKind) (m mode action core reason : Nat) :
    LoopAt (Machine.loopEvent (bump s a) e m mode action core reason) n P now := (h.bumpN a 1).event _ _

theorem LoopAt.tuneAbort (h : LoopAt s n (SamplesAre k ts) now) (m : Nat) : LoopAt (Machine.tuneAbort s m) n (SamplesAre k ts) now := by
  have aborted := (h.updRest m (f := fun l => { l with tune := { l.tune with state := .aborted, cmd := none } })).of_unchanged
    (recorderEnd_unchanged _ (le (loopOf s m).tune.req 3 1))
  refine .ite h (.loopEvent ?_ _ _ _ _ _ _ _)
  split
  · exact aborted.endCmd _ _ _ _
  · exact aborted

theorem LoopAt.loopHold (h : LoopAt s n (SamplesAre k ts) now) (m : Nat) (sup : Bool) (action : Nat) :
    LoopAt (Machine.loopHold s m sup action) n (SamplesAre k ts) now :=
  .ite h (.loopEvent (h.updRest m) _ _ _ _ _ _ _)

/-! ### Supervision -/

theorem LoopAt.loopImplaus (h : LoopAt s n (SamplesAre k ts) now) (m : Nat) : LoopAt (Machine.loopImplaus s m) n (SamplesAre k ts) now := by
  have declared (a mode action core : Nat) : LoopAt (Machine.loopEvent (bump (loopUpd (Machine.tuneAbort s m) m fun l =>
      { l with implaus := true, good := 0 }) a) evLoopImplaus m mode action core 0) n (SamplesAre k ts) now :=
    .loopEvent ((h.tuneAbort m).updRest m) _ _ _ _ _ _ _
  unfold Machine.loopImplaus
  refine .ite h ?_
  dsimp only
  split
  · exact (declared _ _ _ _).loopHold m _ _
  · refine .ite ((declared _ _ _ _).loopHold m _ _) (.loopEvent ?_ _ _ _ _ _ _ _)
    exact (declared _ _ _ _).updRest m
  · refine LoopAt.of_unchanged (.loopEvent ?_ _ _ _ _ _ _ _) (qchFromLoop_unchanged _ m _)
    exact ((declared _ _ _ _).loopHold m _ _).updRest m
  · exact declared _ _ _ _

theorem LoopAt.loopSupervise (h : LoopAt s n (SamplesAre k ts) now) (m : Nat) (x : LoopSample) :
    LoopAt (Machine.loopSupervise s m x) n (SamplesAre k ts) now := by
  refine .ite (.ite (.loopImplaus ?_ m) ?_) (.ite (.event (.updRest ?_ m) _ _) ?_) <;>
    exact .updRest (.iteThen h fun hu => hu.bumpN _ 1) m

/-! ### Tests -/

theorem recorderPut_unchanged (s : State) (c : Nat) (b : Bytes) : unchangedBut captureParts s (recorderPut s c b) := capUpd_unchanged s c _

theorem LoopAt.tuneRecord (h : LoopAt s n (SamplesAre k ts) now) (m : Nat) (x : LoopSample) (usable : Bool) :
    LoopAt (Machine.tuneRecord s m x usable) n (SamplesAre k ts) now := by
  have recorded (c : Nat) (b : Bytes) (f : Tune → Tune) : LoopAt (loopUpd (recorderPut s c b) m fun l => { l with tune := f l.tune }) n
      (SamplesAre k ts) now := (h.of_unchanged (recorderPut_unchanged s c b)).updRest m
  refine .ite h (.ite (LoopAt.of_unchanged (.updRest ?_ m) (recorderEnd_unchanged _ _)) ?_) <;>
    exact recorded _ _ fun t => { t with n := t.n + 1, recs := t.recs ++ _ }

/-- The state of an answer, whichever way was taken, keeps what each way keeps. -/
theorem LoopAt.iteSnd {α : Type} {P : Loop → Prop} {p : Prop} [Decidable p] {x y : α × State} (hx : LoopAt x.2 n P now)
    (hy : LoopAt y.2 n P now) : LoopAt (if p then x else y).2 n P now := by
  split
  · exact hx
  · exact hy

theorem LoopAt.tuneSample (h : LoopAt s n (SamplesAre k ts) now) (m : Nat) (ins : List Int) :
    LoopAt (Machine.tuneSample s m ins).2 n (SamplesAre k ts) now := by
  have triggered (c at' : Nat) (pv : Int) (cmd : Option Nat) :
      LoopAt (match cmd with
        | some h => Machine.endCmd (recorderTrig (loopUpd s m fun l => { l with tune := { l.tune with
            state := .injecting, pv0 := pv, cmd := none } }) c at') h .ok 0 0
        | none => recorderTrig (loopUpd s m fun l => { l with tune := { l.tune with state := .injecting, pv0 := pv, cmd := none } }) c at')
        n (SamplesAre k ts) now := by
    have injects : LoopAt (recorderTrig (loopUpd s m fun l => { l with tune := { l.tune with state := .injecting, pv0 := pv, cmd := none } })
        c at') n (SamplesAre k ts) now := (h.updRest m).of_unchanged (capUpd_unchanged _ c _)
    split
    · exact injects.endCmd _ _ _ _
    · exact injects
  refine .iteSnd h (.iteSnd (h.tuneAbort m) (.iteSnd ?begun ?signal))
  case begun => exact .iteThen h fun _ => triggered _ _ _ _
  case signal =>
    refine .ite (.updRest (.of_unchanged ?_ (signalAt_unchanged _ _ _ _ _)) m) (.of_unchanged ?_ (signalAt_unchanged _ _ _ _ _)) <;>
      exact .iteThen h fun _ => triggered _ _ _ _

/-! ### Mode requests and descriptors -/

theorem LoopAt.modeTake (h : LoopAt s n (SamplesAre k ts) now) (m t0 : Nat) (usable : Bool) (r : ModeReq) :
    LoopAt (Machine.modeTake s m t0 usable r) n (SamplesAre k ts) now := by
  have replied {u : State} (hu : LoopAt u n (SamplesAre k ts) now) (st : Status) :
      LoopAt (match r.cmd with
        | some h => loopUpd u m fun l => { l with replies := l.replies ++ [(t0, h, st)] }
        | none => u) n (SamplesAre k ts) now := by
    split
    · exact hu.updRest m
    · exact hu
  unfold Machine.modeTake
  dsimp only
  split
  · exact h.updRest m
  · refine .ite (replied h _) (replied (.iteThen (.iteThen (.updRest ?released m) fun ht => ?tracked) fun ht => ht.loopEvent _ _ _ _ _ _ _) _)
    case released =>
      exact .iteThen (.iteThen h fun hu => hu.tuneAbort m) fun hu => hu.of_unchanged (qchLoopEnds_unchanged _ m)
    case tracked =>
      exact ht.updAny m fun l ⟨hsamples, hopen⟩ => ⟨hsamples, (map_t0_ite l.open').trans hopen⟩

theorem LoopAt.loopSwitch (h : LoopAt s n (SamplesAre k ts) now) (m : Nat) (x : LoopNext) :
    LoopAt (Machine.loopSwitch s m x) n (SamplesAre k ts) now :=
  LoopAt.updRest (s := resetIo (Machine.anvUpd s x.core _) x.core x.slot x.desc) (.anvUpd (h.anvUpd _ _) _ _) m

theorem LoopAt.tuneApplyAt (h : LoopAt s n (SamplesAre k ts) now) (m t0 : Nat) :
    LoopAt (Machine.tuneApplyAt s m t0) n (SamplesAre k ts) now := by
  unfold Machine.tuneApplyAt
  dsimp only
  split
  · refine .ite h ?_
    split
    · exact ((h.updRest m).event _ _).endCmd _ _ _ _
    · exact (h.updRest m).event _ _
  · exact h

/-- A routine that stops marks its sample (R304). -/
theorem LoopAt.anvStop (h : LoopAt s n (SamplesAre k ts) now) (c cause addr bank : Nat) :
    LoopAt (Machine.anvStop s c cause addr bank) n (SamplesAre k ts) now := by
  cases hrun : (anvC s c).run with
  | none =>
    rw [Machine.anvStop, hrun]
    exact h
  | some r =>
    refine LoopAt.of_unchanged ?_ (anvStop_reported hrun cause addr bank)
    exact LoopAt.sampleUpd (s := runEnds (Machine.anvUpd s c _) c r) (h.of_eq rfl rfl) r.loop r.t0

end

end Sys2Proof.Machine
end

section
/-! A law of sparse tables: a key whose value is not the default is listed. -/
namespace Sys2Proof

theorem SMap.mem_keys_of_find {α : Type} {k : Nat} {v : α} : ∀ {t : List (Nat × α)}, SMap.find k t = some v → k ∈ t.map (·.1)
  | (j, w) :: t, h => by
    by_cases hj : j = k
    · subst hj
      exact List.mem_cons_self
    · rw [SMap.find, if_neg hj] at h
      exact List.mem_cons_of_mem _ (SMap.mem_keys_of_find h)

theorem SMap.mem_keys_of_get_ne {α : Type} [Inhabited α] {m : SMap α} {k : Nat} (h : m.get k ≠ default) : k ∈ m.entries.map (·.1) := by
  cases hfind : SMap.find k m.entries with
  | none => exact absurd (by rw [SMap.get, SMap.getD, hfind]; rfl) h
  | some v => exact SMap.mem_keys_of_find hfind

end Sys2Proof
end

section
/-! Proofs of the loops' launches (R320 to R322, R341, R343, R347, O22): the sample, the outputs, the copy and the journal record of every
loop's state, and the end of a fit. -/
namespace Sys2Proof.Machine
open Sys2Proof

/-! ### The sample launch -/

section
variable {s : State} {n now k : Nat} {ts : List Nat}

/-- The launch of a sample counts it and notes its instant; no transfer is due after it (R321). -/
theorem LoopAt.loopSample (h : LoopAt s n (SamplesAre k ts) now) (hunload : (loopOf s n).unload = false) :
    LoopAt (Machine.loopSample s n) n (fun l => l.samples = k + 1 ∧ l.lastT0 = (loopOf s n).due ∧ l.transfer = false)
      (max now (loopOf s n).due) := by
  have goes : ¬(loopOf s n).unload = true := by simp [hunload]
  have reached := h.advance (loopOf s n).due
  unfold Machine.loopSample
  extract_lets l t0 reached' _ switched' begun' d _ x user
  rw [if_neg goes]
  have switched : LoopAt switched' n (SamplesAre k ts) (max now t0) := by
    unfold switched'
    split
    · exact reached.iteThen fun hu => hu.loopSwitch n _
    · exact reached
  split
  next seen read' hread =>
  have read := (switched.tuneApplyAt n t0).of_unchanged (readIns_unchanged begun' d t0)
  rw [hread] at read
  split
  next raw latched' hlatched =>
  have latched := read.of_unchanged (loopIns_unchanged read' n t0 seen)
  rw [hlatched] at latched
  extract_lets usable opened' due left' asked' back vals vals' mask testing
  have opened : LoopAt opened' n (SamplesAre k (ts ++ [t0])) (max now t0) :=
    latched.upd fun l ⟨hsamples, hopen⟩ => ⟨hsamples, by rw [List.map_append, hopen]; rfl⟩
  have asked : LoopAt asked' n (SamplesAre k (ts ++ [t0])) (max now t0) := .foldl (fun u r hu => hu.modeTake n t0 _ r) due (opened.updRest n)
  split
  next inj injecting tested' htested =>
  have tested := asked.tuneSample n vals'
  rw [htested] at tested
  extract_lets testing' l' atSp vals'' lost stored' ticked' counted'
  have counted : LoopAt counted' n (SamplesAre k (ts ++ [t0])) (max now t0) :=
    (((tested.sampleUpd n t0).iteElse fun hu => (hu.anvUpd _ _).anvUpd _ _).bumpN _ 1).bumpN _ _
  exact counted.upd fun l ⟨hsamples, _⟩ => ⟨congrArg (· + 1) hsamples, rfl, rfl⟩

theorem LoopAt.axSampled {P : Loop → Prop} (h : LoopAt s n P now) (m t0 : Nat) : LoopAt (Machine.axSampled s m t0) n P now :=
  h.of_unchanged (axSampled_unchanged s m t0)

end

theorem execLoopSampleLaunch_of_loaded {s : State} {n : Nat} (hdesc : (loopOf s n).desc ≠ none) :
    exec (.loopSampleLaunch n) s = .next (axSampled (loopSample s n) n (loopOf s n).due) :=
  if_pos (Option.isSome_iff_ne_none.2 hdesc)

theorem samplesAre_loopOf (s : State) (n : Nat) : SamplesAre (loopOf s n).samples ((loopOf s n).open'.map (·.t0)) (loopOf s n) := ⟨rfl, rfl⟩

theorem loopSampleLaunch_answers {s : State} {n : Nat} (hcan : canonical s) (hdesc : (loopOf s n).desc ≠ none)
    (hunload : (loopOf s n).unload = false) :
    Answers (.loopSampleLaunch n) s fun r =>
      (loopOf r n).samples = (loopOf s n).samples + 1 ∧ (loopOf r n).lastT0 = (loopOf s n).due ∧ (loopOf r n).transfer = false ∧
        r.tmb.now = max s.tmb.now (loopOf s n).due := by
  have begun : LoopAt s n (SamplesAre _ _) s.tmb.now := ⟨canonical_loops hcan, samplesAre_loopOf s n, rfl⟩
  have stands := (begun.loopSample hunload).axSampled n (loopOf s n).due
  obtain ⟨hsamples, hlast, htransfer⟩ := stands.loop
  exact ⟨_, execLoopSampleLaunch_of_loaded hdesc, hsamples, hlast, htransfer, stands.now⟩

/-! ### A loop unloads -/

/-- A slot that is emptied, whatever is noted for the boot bank, holds no loop. -/
theorem LoopAt.emptied {s : State} {n now : Nat} {P : Loop → Prop} (h : LoopAt s n P now) (x : Hdl) :
    LoopAt { s with anv := { s.anv with loop := s.anv.loop.set n default }, hdl := x } n (·.desc = none) now :=
  ⟨SMap.wf_set _ n default h.wf, congrArg Loop.desc (SMap.get_set_self _ n default h.wf), h.now⟩

/-- A loop that unloads ends its commands, writes its outputs and leaves its slot empty (R320). -/
theorem LoopAt.loopUnload {s : State} {n now : Nat} {P : Loop → Prop} (h : LoopAt s n P now) (t0 : Nat) :
    LoopAt (Machine.loopUnload s n t0) n (·.desc = none) now := by
  refine .emptied (P := P) (.foldl ?refused _ (.foldl ?answered _ (.of_unchanged ?released (writeGroup_unchanged _ _)))) _
  case released => exact h.iteThen fun hu => hu.of_unchanged (qchLoopEnds_unchanged s n)
  case answered => exact fun u r hu => hu.endCmd _ _ _ _
  case refused =>
    intro u r hu
    split
    · exact hu.endCmd _ _ _ _
    · exact hu

theorem loopSample_of_unload {s : State} {n : Nat} (hunload : (loopOf s n).unload = true) :
    ∃ f : AnvCore → AnvCore, loopSample s n =
      loopUnload (anvUpd (advance s (loopOf s n).due) (loopOf s n).core f) n (loopOf s n).due := ⟨_, if_pos hunload⟩

theorem loopSampleLaunch_answers_unload {s : State} {n : Nat} (hcan : canonical s) (hdesc : (loopOf s n).desc ≠ none)
    (hunload : (loopOf s n).unload = true) :
    Answers (.loopSampleLaunch n) s fun r => (loopOf r n).desc = none ∧ r.tmb.now = max s.tmb.now (loopOf s n).due := by
  obtain ⟨f, hsample⟩ := loopSample_of_unload hunload
  have stands := ((((loopAt_of_canonical hcan n).advance (loopOf s n).due).anvUpd (loopOf s n).core f).loopUnload (loopOf s n).due).axSampled n
    (loopOf s n).due
  rw [← hsample] at stands
  exact ⟨_, execLoopSampleLaunch_of_loaded hdesc, stands.loop, stands.now⟩

/-! ### The output launch -/

section
variable {s : State} {n now k : Nat} {ts : List Nat}

theorem LoopAt.sampleOverrun (h : LoopAt s n (SamplesAre k ts) now) (m : Nat) (x : LoopSample) :
    LoopAt (Machine.sampleOverrun s m x) n (SamplesAre k ts) now := by
  unfold Machine.sampleOverrun
  dsimp only
  split
  · exact .ite (h.anvStop _ 1 0 0) h
  · exact h

theorem LoopAt.launches {P : Loop → Prop} (h : LoopAt s n P now) (inst : Nat) : LoopAt (Machine.launches s inst).1 n P now :=
  h.of_unchanged (launches_unchanged s inst)

/-- The first sample under way is that of the first instant. -/
theorem t0_head_of_samplesAre {l : Loop} {t0 : Nat} (h : SamplesAre k (t0 :: ts) l) : (l.open'.headD default).t0 = t0 := by
  obtain ⟨-, hopen⟩ := h
  obtain ⟨x, rest, hl, rfl, -⟩ := List.map_eq_cons_iff.1 hopen
  rw [hl]
  rfl

/-- The outputs of the first sample launch, 100 ns after its delay it is under way no more (R322). -/
theorem LoopAt.loopOutput {x : LoopSample} {rest : List LoopSample} (h : LoopAt s n (SamplesAre k (x.t0 :: ts)) now)
    (hopen : (loopOf s n).open' = x :: rest) :
    LoopAt (Machine.loopOutput s n) n (SamplesAre k ts) (max now (x.t0 + ldDelay (ldesc (loopOf s n)) + 100)) := by
  unfold Machine.loopOutput
  split
  next hnone =>
    rw [hopen] at hnone
    cases hnone
  next first others hfirst =>
  obtain ⟨rfl, -⟩ := List.cons.inj (hopen.symm.trans hfirst)
  extract_lets d reached' _ overrun' dropped' told' stopped' l head dead user _ _ _ head' lawSet' limited' judged' counted' held' _ _ _ _ _
    launched' mine
  have reached : LoopAt reached' n (SamplesAre k (x.t0 :: ts)) (max now (x.t0 + ldDelay d)) := h.advance _
  have stopped : LoopAt stopped' n (SamplesAre k (x.t0 :: ts)) (max now (x.t0 + ldDelay d)) :=
    .ite ((((reached.sampleOverrun n x).anvUpd _ _).iteThen fun hu => (hu.bumpN _ 1).event _ _).sampleUpd n x.t0) reached
  have judged : LoopAt judged' n (SamplesAre k (x.t0 :: ts)) (max now (x.t0 + ldDelay d)) :=
    stopped.iteElse fun hu => (((hu.updRest n).iteThen fun hv => hv.bumpN _ 1).loopSupervise n head').tuneRecord n head' _
  have held : LoopAt held' n (SamplesAre k (x.t0 :: ts)) (max now (x.t0 + ldDelay d)) :=
    judged.iteThen fun hu => ((hu.bumpN _ 1).updRest n).iteThen fun hv => hv.loopHold n true 0
  have hhead : head'.t0 = x.t0 := by
    rw [← t0_head_of_samplesAre stopped.loop]
    unfold head'
    split <;> rfl
  have launched : LoopAt launched' n (SamplesAre k (x.t0 :: ts)) (max now (x.t0 + ldDelay d + 100)) := by
    have hnow : max now (x.t0 + ldDelay d + 100) = max (max now (x.t0 + ldDelay d)) (head'.t0 + ldDelay d + 100) := by
      rw [hhead]
      omega
    rw [hnow]
    exact held.advance _
  split
  next left' go hleft =>
  have left := launched.launches (head'.t0 + ldDelay d)
  rw [hleft] at left
  extract_lets written' published' digested' compared' taken'
  have compared : LoopAt compared' n (SamplesAre k (x.t0 :: ts)) (max now (x.t0 + ldDelay d + 100)) :=
    (((left.iteThen fun hu => hu.of_unchanged (writeGroup_unchanged _ _)).iteThen fun hu => hu.bumpN _ 1).of_unchanged
      (digAdd_unchanged _ 1 n _)).of_unchanged (digEnd_unchanged _ 1 n _)
  have taken : LoopAt taken' n (SamplesAre k ts) (max now (x.t0 + ldDelay d + 100)) :=
    compared.upd fun l ⟨hsamples, hl⟩ => ⟨hsamples, by rw [List.map_tail, hl]; rfl⟩
  exact .foldl (fun u r hu => hu.endCmd _ _ _ _) mine taken

end

theorem loopOutputLaunch_answers {s : State} {n : Nat} {x : LoopSample} {l : List LoopSample} (hcan : canonical s)
    (hopen : (loopOf s n).open' = x :: l) :
    Answers (.loopOutputLaunch n) s fun r =>
      (loopOf r n).open'.length = l.length ∧ r.tmb.now = max s.tmb.now (x.t0 + ldDelay (ldesc (loopOf s n)) + 100) := by
  have begun : LoopAt s n (SamplesAre (loopOf s n).samples (x.t0 :: l.map (·.t0))) s.tmb.now :=
    ⟨canonical_loops hcan, ⟨rfl, by rw [hopen]; rfl⟩, rfl⟩
  have stands := (begun.loopOutput hopen).of_unchanged (axOnLoop_unchanged _ n)
  obtain ⟨-, hleft⟩ := stands.loop
  refine ⟨_, rfl, ?_, stands.now⟩
  rw [← List.length_map, hleft, List.length_map]

/-! ### Copies and the journal -/

/-- Of changes one after another that keep `A` and `B`, one of which brings about `B` where `A` holds, `B` holds at the end. -/
theorem foldl_establishes {β : Type} {f : State → β → State} {A B : State → Prop} (keepA : ∀ u b, A u → A (f u b))
    (keepB : ∀ u b, B u → B (f u b)) {n : β} (brings : ∀ u, A u → B (f u n)) {l : List β} (hn : n ∈ l) {s : State} (hs : A s) :
    B (l.foldl f s) := by
  obtain ⟨before, after, rfl⟩ := List.append_of_mem hn
  rw [List.foldl_append, List.foldl_cons]
  exact List.foldlRecOn after f (brings _ (List.foldlRecOn before f hs fun u hu b _ => keepA u b hu)) fun u hu b _ => keepB u b hu

/-- A slot that holds a loop is listed in the table. -/
theorem loop_listed {s : State} {n : Nat} (h : (loopOf s n).desc ≠ none) : n ∈ s.anv.loop.entries.map (·.1) := by
  refine SMap.mem_keys_of_get_ne fun hdefault => h ?_
  rw [loopOf, hdefault]
  rfl

/-- What a copy and a journal record show of a loop's last sample (R341, R343). -/
def shown (v : LoopSave) : Nat × LoopMode × LawState := (v.at', v.mode, v.law)

/-- A loop that is to be copied, whose last sample a copy shows as `a`. -/
def CopyDue (a : Nat × LoopMode × LawState) (l : Loop) : Prop := l.desc ≠ none ∧ l.coreLost = false ∧ (l.lastT0, l.mode, l.law) = a

/-- The copy of one loop's state (R341). -/
def loopCopied (s : State) (n : Nat) : State :=
  if (loopOf s n).desc.isSome ∧ !(loopOf s n).coreLost then
    loopUpd s n fun l => { l with copy := some (loopSave s (loopOf s n) (((loopOf s n).copy.map (·.seq)).getD 0 + 1)) }
  else s

theorem execLoopStateCopy_eq (t : Nat) (s : State) :
    execLoopStateCopy t s = ok (((advance s t).anv.loop.entries.map (·.1)).foldl loopCopied (advance s t)) := rfl

section
variable {s : State} {n now : Nat} {a : Nat × LoopMode × LawState}

theorem LoopAt.loopCopied (h : LoopAt s n (CopyDue a) now) (m : Nat) : LoopAt (Machine.loopCopied s m) n (CopyDue a) now :=
  h.iteThen fun hu => hu.updAny m fun _ hl => hl

theorem LoopAt.loopCopied_self (h : LoopAt s n (CopyDue a) now) :
    LoopAt (Machine.loopCopied s n) n (fun l => CopyDue a l ∧ l.copy.map shown = some a) now := by
  obtain ⟨hdesc, hcore, hshown⟩ := h.loop
  have due : (loopOf s n).desc.isSome = true ∧ (!(loopOf s n).coreLost) = true := ⟨Option.isSome_iff_ne_none.2 hdesc, by rw [hcore]; rfl⟩
  rw [Machine.loopCopied, if_pos due]
  exact h.upd fun l hl => ⟨hl, congrArg some hshown⟩

/-- A loop's copy stays that of its last sample, whichever loop is copied next. -/
theorem LoopAt.loopCopied_kept (h : LoopAt s n (fun l => CopyDue a l ∧ l.copy.map shown = some a) now) (m : Nat) :
    LoopAt (Machine.loopCopied s m) n (fun l => CopyDue a l ∧ l.copy.map shown = some a) now := by
  by_cases hm : m = n
  · subst hm
    exact (h.mono fun _ hl => hl.1).loopCopied_self
  · refine h.iteThen fun hu => ⟨loopUpd_wf hu.wf m _, ?_, hu.now⟩
    rw [loopUpd_other s m _ n (Ne.symm hm)]
    exact hu.loop

end

theorem loopStateCopy_answers {s : State} {t n : Nat} (hcan : canonical s) (hdesc : (loopOf s n).desc ≠ none)
    (hcore : (loopOf s n).coreLost = false) :
    Answers (.loopStateCopy t) s fun r =>
      (loopOf r n).copy.map (fun v => (v.at', v.mode, v.law)) = some ((loopOf s n).lastT0, (loopOf s n).mode, (loopOf s n).law) ∧
        r.tmb.now = max s.tmb.now t := by
  have begun := ((loopAt_of_canonical hcan n).mono (Q := CopyDue ((loopOf s n).lastT0, (loopOf s n).mode, (loopOf s n).law))
    fun l hl => by rw [hl]; exact ⟨hdesc, hcore, rfl⟩).advance t
  have listed : n ∈ (advance s t).anv.loop.entries.map (·.1) := by
    rw [advance_anv]
    exact loop_listed hdesc
  have stands := foldl_establishes (f := loopCopied) (fun u m (hu : LoopAt u n _ _) => hu.loopCopied m)
    (fun u m (hu : LoopAt u n _ _) => hu.loopCopied_kept m) (fun u hu => hu.loopCopied_self) listed begun
  obtain ⟨-, hcopy⟩ := stands.loop
  exact ⟨_, execLoopStateCopy_eq t s, hcopy, stands.now⟩

/-- The next journal record of a loop (R343). -/
def journalRecord (s : State) (n : Nat) : LoopSave :=
  loopSave s (loopOf s n) ((((s.mram.journal.get n).head?.map (·.seq)).getD 0 + 1) % 2 ^ 32)

/-- A RESUMABLE loop's state goes to the older of its two journal copies (R343). -/
def loopJournalled (s : State) (n : Nat) : State :=
  if (loopOf s n).desc.isSome ∧ ldOpt (ldesc (loopOf s n)) 3 then
    { s with mram := { s.mram with journal := s.mram.journal.set n ((journalRecord s n :: s.mram.journal.get n).take 2) } }
  else s

theorem execLoopJournalWrite_eq (t : Nat) (s : State) :
    execLoopJournalWrite t s = ok (((advance s t).anv.loop.entries.map (·.1)).foldl loopJournalled (advance s t)) := rfl

theorem canonical_journal {s : State} (h : canonical s) : s.mram.journal.wf = true := by
  simp only [Bool.and_eq_true] at h
  simp only [h]

/-- The state `s` with a canonical journal, as records of its loops stand in it. -/
structure Journalling (s u : State) : Prop where
  anv : u.anv = s.anv
  tmb : u.tmb = s.tmb
  wf : u.mram.journal.wf = true

/-- The newest journal record of loop `n` shows its last sample. -/
def JournalShows (u : State) (n : Nat) : Prop :=
  (u.mram.journal.get n).head?.map shown = some ((loopOf u n).lastT0, (loopOf u n).mode, (loopOf u n).law)

theorem Journalling.loopJournalled {s u : State} (h : Journalling s u) (m : Nat) : Journalling s (Machine.loopJournalled u m) := by
  unfold Machine.loopJournalled
  split
  · exact ⟨h.anv, h.tmb, SMap.wf_set _ _ _ h.wf⟩
  · exact h

theorem journalShows_self {u : State} {n : Nat} (hwf : u.mram.journal.wf = true) (hdesc : (loopOf u n).desc ≠ none)
    (hresume : ldOpt (ldesc (loopOf u n)) 3 = true) : JournalShows (loopJournalled u n) n := by
  rw [loopJournalled, if_pos ⟨Option.isSome_iff_ne_none.2 hdesc, hresume⟩, JournalShows]
  dsimp only
  rw [SMap.get_set_self _ _ _ hwf]
  rfl

theorem journalShows_other {u : State} {n m : Nat} (hm : n ≠ m) (h : JournalShows u n) : JournalShows (loopJournalled u m) n := by
  unfold loopJournalled
  split
  · rw [JournalShows]
    dsimp only
    rw [SMap.get_set_ne _ _ hm]
    exact h
  · exact h

theorem loopJournalWrite_answers {s : State} {t n : Nat} (hcan : canonical s) (hdesc : (loopOf s n).desc ≠ none)
    (hresume : ldOpt (ldesc (loopOf s n)) 3 = true) :
    Answers (.loopJournalWrite t) s fun r =>
      (r.mram.journal.get n).head?.map (fun v => (v.at', v.mode, v.law)) = some ((loopOf s n).lastT0, (loopOf s n).mode, (loopOf s n).law) ∧
        r.tmb.now = max s.tmb.now t := by
  have hloop {u : State} (hu : Journalling (advance s t) u) : loopOf u n = loopOf s n := by rw [loopOf, hu.anv, advance_anv, loopOf]
  have writes {u : State} (hu : Journalling (advance s t) u) : JournalShows (loopJournalled u n) n :=
    journalShows_self hu.wf (by rwa [hloop hu]) (by rwa [hloop hu])
  have begun : Journalling (advance s t) (advance s t) := ⟨rfl, rfl, by
    rw [advance_unchanged s t .mram (by decide)]
    exact canonical_journal hcan⟩
  have listed : n ∈ (advance s t).anv.loop.entries.map (·.1) := by
    rw [advance_anv]
    exact loop_listed hdesc
  obtain ⟨hjournal, hshows⟩ := foldl_establishes (f := loopJournalled) (B := fun u => Journalling (advance s t) u ∧ JournalShows u n)
    (fun u m hu => hu.loopJournalled m)
    (fun u m ⟨hu, hshows⟩ => ⟨hu.loopJournalled m, if hm : n = m then hm ▸ writes hu else journalShows_other hm hshows⟩)
    (fun u hu => ⟨hu.loopJournalled n, writes hu⟩) listed begun
  rw [JournalShows, hloop hjournal] at hshows
  exact ⟨_, execLoopJournalWrite_eq t s, hshows, (congrArg Tmb.now hjournal.tmb).trans (advance_now s t)⟩

/-! ### The end of a fit -/

/-- A test whose fit has ended (R347). -/
def fitted (t : Tune) (r : TuneResult) : Tune :=
  { t with
    state := if r.reason = 0 then .result else .failed
    res := some r
    recs := [] }

theorem execTuneFitDone_of_fitting {s : State} {n t : Nat} (hstate : (loopOf s n).tune.state = .fitting) :
    ∃ l, execTuneFitDone n t s = ok (event (loopUpd (advance s t) n fun k => { k with
      tune := fitted k.tune (tuneFit (ldesc (loopOf s n)) (loopOf s n).tune.req (loopOf s n).tune.recs) }) evTuneDone l) :=
  ⟨_, if_neg (not_not_intro hstate)⟩

theorem tuneFitDone_answers {s : State} {n t : Nat} (hcan : canonical s) (hstate : (loopOf s n).tune.state = .fitting) :
    Answers (.tuneFitDone n t) s fun r =>
      (loopOf r n).tune.res = some (tuneFit (ldesc (loopOf s n)) (loopOf s n).tune.req (loopOf s n).tune.recs) ∧
        (loopOf r n).tune.recs = [] ∧ r.tmb.now = max s.tmb.now t := by
  obtain ⟨l, hdone⟩ := execTuneFitDone_of_fitting (t := t) hstate
  have stands := (((loopAt_of_canonical hcan n).advance t).upd (f := fun k => { k with
    tune := fitted k.tune (tuneFit (ldesc (loopOf s n)) (loopOf s n).tune.req (loopOf s n).tune.recs) })
    (Q := fun k => k.tune.res = some (tuneFit (ldesc (loopOf s n)) (loopOf s n).tune.req (loopOf s n).tune.recs) ∧ k.tune.recs = [])
    fun _ _ => ⟨rfl, rfl⟩).event evTuneDone l
  obtain ⟨hres, hrecs⟩ := stands.loop
  exact ⟨_, hdone, hres, hrecs, stands.now⟩

/-- Settles O22, one lemma for each clause: what a sample and its outputs reach beside the loop's record leaves its samples and their
instants, and a copy or journal record of another loop leaves this one's. -/
theorem loopLaunchesTakeEffect : Obligations.LoopLaunchesTakeEffect := by
  unfold Obligations.LoopLaunchesTakeEffect
  refine ⟨?sample, ?unload, ?output, ?copy, ?journal, ?fit⟩
  case sample => exact fun n s hcan hdesc hunload _ => loopSampleLaunch_answers hcan hdesc hunload
  case unload => exact fun n s hcan hdesc hunload => loopSampleLaunch_answers_unload hcan hdesc hunload
  case output => exact fun n x l s hcan hopen => loopOutputLaunch_answers hcan hopen
  case copy => exact fun t n s hcan hdesc hcore => loopStateCopy_answers hcan hdesc hcore
  case journal => exact fun t n s hcan hdesc hresume => loopJournalWrite_answers hcan hdesc hresume
  case fit => exact fun n t s hcan hstate => tuneFitDone_answers hcan hstate

end Sys2Proof.Machine
end

section
/-! Laws of the operations through which the converter's results reach points, the pair and the capture channels (R353, R366, R386 to R399, R534,
R537): which parts of the state a published result, a point that turns BAD and a sample of a Burst stream leave alone. -/
namespace Sys2Proof.Machine
open Sys2Proof

/-! ### Results that are published -/

/-- The parts that an input's writes, mirrored or compared, may change (R534, R537). -/
abbrev publishParts : List Part := [.regs, .pst, .hif, .recd, .cap, .wlk, .par, .mram, .out]

theorem inputKeep_unchanged (s : State) (own : Bool) (kind unit key : Nat) (b : Bytes) :
    unchangedBut publishParts s (inputKeep s own kind unit key b) := (par_unchanged s _).mono (by decide)

theorem inputCompare_unchanged (s : State) (kind unit tol : Nat) (a b : Bytes) :
    unchangedBut publishParts s (inputCompare s kind unit tol a b) := by
  have counted : unchangedBut publishParts s (bump s cParInputDiffer) := (bumpN_unchanged s _ 1).mono (by decide)
  have noted (u : State) (x : Par) (l : List (Nat × Int)) : unchangedBut publishParts u (event { u with par := x } evInputDiffer l) :=
    ((par_unchanged u x).mono (by decide)).trans ((event_unchanged _ _ l).mono (by decide))
  refine .ite (unchangedBut_refl _ s) (counted.trans ?_)
  exact .ite (unchangedBut_refl _ _) (noted _ _ _)

theorem inputGroup_unchanged (s : State) (kind unit key : Nat) (obs : List Int) (ws : List PWrite) :
    unchangedBut publishParts s (inputGroup s kind unit key obs ws) := by
  have written : unchangedBut publishParts s (writeGroup s ws) := (writeGroup_unchanged s ws).mono (by decide)
  unfold inputGroup
  extract_lets b kept
  refine .ite ?standby (written.trans ((mirrorInput_unchanged _ _ _ _).mono (by decide)))
  case standby =>
    have keeps : unchangedBut publishParts s kept := .trans (.ite (unchangedBut_refl _ s) written) (inputKeep_unchanged _ true kind unit key b)
    split
    · exact keeps.trans (inputCompare_unchanged _ _ _ _ _ _)
    · exact keeps

theorem cnvPublish_unchanged (s : State) (p : Nat × Nat × Int × Nat × Bool) : unchangedBut publishParts s (cnvPublish s p) :=
  ((bumpN_unchanged s cCnvPubWrites 1).mono (by decide)).trans (inputGroup_unchanged _ _ _ _ _ _)

theorem badPoint_unchanged (s : State) (cls unit id : Nat) : unchangedBut writeParts s (badPoint s cls unit id) :=
  .ite (unchangedBut_refl _ s) (writePoint_unchanged s _)

theorem cnvAllBad_unchanged (s : State) (g : Nat) : unchangedBut writeParts s (cnvAllBad s g) :=
  unchangedBut_foldl (f := fun t (p : Nat × Nat) => badPoint t wCNV p.2 p.1) (fun t p => badPoint_unchanged t wCNV p.2 p.1) _ s

theorem setFld_unchanged (s : State) (f : Fld) (x : Nat) : unchangedBut [.regs] s (setFld s f x) := fun p hp => by cases p <;> simp_all [samePart]

theorem cnvOver_unchanged (s : State) (input : Nat) : unchangedBut [.regs] s (cnvOver s input) :=
  (bumpN_unchanged s cCnvOverrange 1).trans (setFld_unchanged _ _ 1)

/-! ### Samples that reach a capture channel -/

/-- The parts that a sample of a channel's stream may change (R386 to R399). -/
abbrev sampleParts : List Part := [.regs, .hif, .recd, .cap, .qch, .wlk, .par, .mram, .out, .freeCtr]

theorem capUpd_sampleParts (s : State) (n : Nat) (f : CapCh → CapCh) : unchangedBut sampleParts s (capUpd s n f) :=
  (capUpd_unchanged s n f).mono (by decide)

theorem capTrigger_sampleParts (s : State) (n q src : Nat) (stop : Bool) : unchangedBut sampleParts s (capTrigger s n q src stop) :=
  (capTrigger_unchanged s n q src stop).mono (by decide)

theorem capGap_unchanged (s : State) (n : Nat) : unchangedBut captureParts s (capGap s n) := by
  refine .trans ?_ (capUpd_unchanged _ n _)
  split
  · exact capStore_unchanged s n _
  · exact unchangedBut_refl _ s

theorem qchFromCap_unchanged (s : State) (ch mask t : Nat) : unchangedBut quenchParts s (qchFromCap s ch mask t) := by
  have timed (u : State) (a n : Nat) : unchangedBut quenchParts u (bumpMax u a n) :=
    .ite (fun p hp => by cases p <;> simp_all [samePart]) (unchangedBut_refl _ u)
  refine .ite (unchangedBut_refl _ s) (unchangedBut_foldl (fun u n => ?_) _ s)
  extract_lets was latched
  have latches : unchangedBut quenchParts u latched :=
    ((bumpN_unchanged u cQchCapRequests 1).mono (by decide)).trans (qchChange_unchanged (qchUpd_unchanged _ n _) n ch)
  exact .ite latches (latches.trans (timed _ _ _))

theorem capViolation_unchanged (s : State) (n q : Nat) : unchangedBut sampleParts s (capViolation s n q) := by
  unfold capViolation
  extract_lets c counted told marked quenched triggered
  have counts : unchangedBut sampleParts s counted := (bumpN_unchanged s cCapMaskViolations 1).mono (by decide)
  have tells : unchangedBut sampleParts s told := .ite counts (counts.trans ((capEvent_unchanged _ _ _ _ _ _).mono (by decide)))
  have marks : unchangedBut sampleParts s marked := tells.trans (capUpd_sampleParts _ n _)
  have quenches : unchangedBut sampleParts s quenched := .ite (marks.trans ((qchFromCap_unchanged _ n _ _).mono (by decide))) marks
  have triggers : unchangedBut sampleParts s triggered := .ite (quenches.trans (capTrigger_sampleParts _ n _ _ _)) quenches
  exact .ite (quenches.trans (capTrigger_sampleParts _ n _ _ _)) (.ite (triggers.trans (capUpd_sampleParts _ n _)) triggers)

theorem capMaskTest_unchanged (s : State) (n q : Nat) (r : Int) : unchangedBut sampleParts s (capMaskTest s n q r) := by
  unfold capMaskTest
  dsimp only
  split
  · exact unchangedBut_refl _ s
  · refine .ite (unchangedBut_refl _ s) ?_
    split
    · exact unchangedBut_refl _ s
    · exact capUpd_sampleParts s n _
    · exact (capUpd_sampleParts s n _).trans (.ite (capViolation_unchanged _ n q) (unchangedBut_refl _ _))

theorem capCondition_unchanged (s : State) (n q : Nat) (r : Int) : unchangedBut sampleParts s (capCondition s n q r) := by
  have level (d : CapDesc) (p : Prop) [Decidable p] (i : Nat) (b : Bool) : unchangedBut sampleParts s
      (if p then capTrigger (capUpd s n fun c => { c with cond := b }) n i d.trig false else capUpd s n fun c => { c with cond := b }) :=
    (capUpd_sampleParts s n _).trans (.ite (capTrigger_sampleParts _ _ _ _ _) (unchangedBut_refl _ _))
  unfold capCondition
  dsimp only
  split
  · exact level _ _ _ _
  · exact level _ _ _ _
  · exact .ite ((capUpd_sampleParts s n _).trans (capTrigger_sampleParts _ _ _ _ _)) (.ite (capUpd_sampleParts s n _) (unchangedBut_refl _ s))
  · exact unchangedBut_refl _ s

theorem capSample_unchanged (s : State) (n q : Nat) (r : Int) (ovr gap degraded : Bool) (spacing tgen : Nat) :
    unchangedBut sampleParts s (capSample s n q r ovr gap degraded spacing tgen) := by
  have took (u : State) (a : Nat) : unchangedBut sampleParts u (maskTakes u n a) := (maskTakes_unchanged u n a).mono (by decide)
  unfold capSample
  extract_lets c0 live cut taken masked
  refine .ite (unchangedBut_refl _ s) ?_
  have cuts : unchangedBut sampleParts s cut := .ite ((capGap_unchanged s n).mono (by decide)) (unchangedBut_refl _ s)
  have takes : unchangedBut sampleParts s taken := cuts.trans (took _ 2)
  have masks : unchangedBut sampleParts s masked := by
    unfold masked
    split
    · exact .ite (takes.trans (took _ 1)) takes
    · exact takes
  have draws := masks.trans ((drawFree_unchanged masked).mono (by decide))
  split
  next f drawn hdrawn =>
  rw [hdrawn] at draws
  extract_lets x stored tested judged seen
  have stores : unchangedBut sampleParts s stored := draws.trans (capUpd_sampleParts _ n _)
  have tests : unchangedBut sampleParts s tested := stores.trans (capMaskTest_unchanged _ n q r)
  have judges : unchangedBut sampleParts s judged := tests.trans (capCondition_unchanged _ n q r)
  exact (judges.trans (capUpd_sampleParts _ n _)).trans ((capCheckDone_unchanged _ n).mono (by decide))

end Sys2Proof.Machine
end

section
/-! Laws of the converter's groups and slices (R354, R362, R365 to R367, R373 to R375): how a record of either table stands after a change of its
own, of another record or of another part of the state, and after the array's shared operations. -/
namespace Sys2Proof.Machine
open Sys2Proof

theorem canonical_groups {s : State} (h : canonical s) : s.cnv.group.wf = true := by
  simp only [Bool.and_eq_true] at h
  simp only [h]

theorem canonical_slices {s : State} (h : canonical s) : s.cnv.slice.wf = true := by
  simp only [Bool.and_eq_true] at h
  simp only [h]

@[simp] theorem advance_cnv (s : State) (t : Nat) : (advance s t).cnv = s.cnv := advance_unchanged s t .cnv (by decide)
@[simp] theorem event_cnv (s : State) (k : EvKind) (l : List (Nat × Int)) : (event s k l).cnv = s.cnv := event_unchanged s k l .cnv (by decide)

/-! ### How a record of the array stands -/

/-- Record `n` of a table of the array, its groups or its slices, satisfies `P` in a canonical table, at the instant `now`. -/
structure CnvAt {α : Type} [Inhabited α] [DecidableEq α] (tbl : Cnv → SMap α) (s : State) (n : Nat) (P : α → Prop) (now : Nat) : Prop where
  wf : (tbl s.cnv).wf = true
  holds : P ((tbl s.cnv).get n)
  now : s.tmb.now = now

theorem groupAt_of_canonical {s : State} (h : canonical s) (g : Nat) : CnvAt Cnv.group s g (· = cnvG s g) s.tmb.now :=
  ⟨canonical_groups h, rfl, rfl⟩

theorem sliceAt_of_canonical {s : State} (h : canonical s) (n : Nat) : CnvAt Cnv.slice s n (· = cnvS s n) s.tmb.now :=
  ⟨canonical_slices h, rfl, rfl⟩

section
variable {α : Type} [Inhabited α] [DecidableEq α] {tbl : Cnv → SMap α} {s t : State} {n now : Nat} {P Q : α → Prop}

theorem CnvAt.mono (h : CnvAt tbl s n P now) (g : ∀ a, P a → Q a) : CnvAt tbl s n Q now := ⟨h.wf, g _ h.holds, h.now⟩

/-- What leaves the table and the Timeline leaves the record. -/
theorem CnvAt.of_eq (h : CnvAt tbl s n P now) (htbl : tbl t.cnv = tbl s.cnv) (htmb : t.tmb = s.tmb) : CnvAt tbl t n P now :=
  ⟨by rw [htbl]; exact h.wf, by rw [htbl]; exact h.holds, by rw [htmb]; exact h.now⟩

theorem CnvAt.of_unchanged {l : List Part} (h : CnvAt tbl s n P now) (g : unchangedBut l s t) (hcnv : .cnv ∉ l := by decide)
    (htmb : .tmb ∉ l := by decide) : CnvAt tbl t n P now :=
  h.of_eq (congrArg tbl (g .cnv hcnv)) (g .tmb htmb)

theorem CnvAt.startedIn (h : CnvAt tbl s n P now) (c : Cmd) (d : Bytes) : CnvAt tbl (Machine.startedIn s c d) n P now := h.of_eq rfl rfl

theorem CnvAt.bumpN (h : CnvAt tbl s n P now) (a k : Nat) : CnvAt tbl (Machine.bumpN s a k) n P now := h.of_eq rfl rfl

theorem CnvAt.event (h : CnvAt tbl s n P now) (k : EvKind) (l : List (Nat × Int)) : CnvAt tbl (Machine.event s k l) n P now :=
  h.of_unchanged (event_unchanged s k l)

theorem CnvAt.cnvEvent (h : CnvAt tbl s n P now) (k : EvKind) (g slice input : Nat) :
    CnvAt tbl (Machine.cnvEvent s k g slice input) n P now := h.event k _

theorem CnvAt.endCmd (h : CnvAt tbl s n P now) (c : Nat) (st : Status) (r d : Nat) : CnvAt tbl (Machine.endCmd s c st r d) n P now :=
  h.of_unchanged (endCmd_unchanged s c st r d)

theorem CnvAt.advance (h : CnvAt tbl s n P now) (i : Nat) : CnvAt tbl (Machine.advance s i) n P (max now i) :=
  ⟨by rw [advance_cnv]; exact h.wf, by rw [advance_cnv]; exact h.holds, by rw [advance_now, h.now]⟩

theorem CnvAt.foldl {β : Type} {f : State → β → State} (hf : ∀ u b, CnvAt tbl u n P now → CnvAt tbl (f u b) n P now) (l : List β)
    (h : CnvAt tbl s n P now) : CnvAt tbl (l.foldl f s) n P now := List.foldlRecOn l f h fun u hu b _ => hf u b hu

/-- A branch keeps what each of its ways keeps. -/
theorem CnvAt.ite {p : Prop} [Decidable p] (hs : CnvAt tbl s n P now) (ht : CnvAt tbl t n P now) : CnvAt tbl (if p then s else t) n P now := by
  split
  · exact hs
  · exact ht

theorem CnvAt.cnvOver (h : CnvAt tbl s n P now) (input : Nat) : CnvAt tbl (Machine.cnvOver s input) n P now :=
  h.of_unchanged (cnvOver_unchanged s input)

theorem CnvAt.cnvAllBad (h : CnvAt tbl s n P now) (g : Nat) : CnvAt tbl (Machine.cnvAllBad s g) n P now :=
  h.of_unchanged (cnvAllBad_unchanged s g)

end

/-! ### Changes of a group -/

section
variable {s : State} {g now : Nat} {P Q : CnvGroup → Prop}

/-- A change of the group that brings about `Q`. -/
theorem CnvAt.cnvUpd (h : CnvAt Cnv.group s g P now) {f : CnvGroup → CnvGroup} (hf : ∀ k, P k → Q (f k)) :
    CnvAt Cnv.group (Machine.cnvUpd s g f) g Q now :=
  ⟨SMap.wf_upd _ g f h.wf, (SMap.get_upd_self _ g f h.wf).symm ▸ hf _ h.holds, h.now⟩

/-- A change of a group, this one or another, that keeps `P`. -/
theorem CnvAt.cnvUpdAny (h : CnvAt Cnv.group s g P now) (m : Nat) {f : CnvGroup → CnvGroup} (hf : ∀ k, P k → P (f k)) :
    CnvAt Cnv.group (Machine.cnvUpd s m f) g P now := by
  by_cases hm : g = m
  · subst hm
    exact h.cnvUpd hf
  · exact ⟨SMap.wf_upd _ m f h.wf, (SMap.get_upd_ne _ f hm).symm ▸ h.holds, h.now⟩

/-- Changes of slices leave the groups. -/
theorem CnvAt.sliceUpds (h : CnvAt Cnv.group s g P now) (l : List Nat) (f : CnvSlice → CnvSlice) :
    CnvAt Cnv.group (l.foldl (fun u n => Machine.sliceUpd u n f) s) g P now :=
  .foldl (f := fun u n => Machine.sliceUpd u n f) (fun _ _ hu => hu.of_eq rfl rfl) l h

/-- An entry that is released is the newest of the group's queue (R362, R365). -/
theorem CnvAt.cnvRelease (h : CnvAt Cnv.group s g P now) (e : QEntry)
    (hf : ∀ k, P k → Q { k with queue := (e :: k.queue).take cnvQueueMax, lastStamp := e.q / 4 }) :
    CnvAt Cnv.group (Machine.cnvRelease s g e) g Q now := (h.cnvUpd hf).bumpN _ 1

/-- A group whose stream breaks off stands still and fills no entry (R374, R375). -/
theorem CnvAt.cnvStop (h : CnvAt Cnv.group s g P now) :
    CnvAt Cnv.group (Machine.cnvStop s g) g (fun k => k.stopped = true ∧ k.fill = none) now :=
  (h.cnvUpd (Q := fun k => k.stopped = true ∧ k.fill = none) fun _ _ => ⟨rfl, rfl⟩).sliceUpds _ _

theorem CnvAt.cnvStopAny (h : CnvAt Cnv.group s g P now) (m : Nat)
    (hf : ∀ k, P k → P { k with stopped := true, fill := none, gapNext := true, pend := [] }) :
    CnvAt Cnv.group (Machine.cnvStop s m) g P now := (h.cnvUpdAny m hf).sliceUpds _ _

end

/-! ### Changes of a slice -/

section
variable {s : State} {n now : Nat} {P Q : CnvSlice → Prop}

/-- A change of the slice that brings about `Q`. -/
theorem CnvAt.sliceUpd (h : CnvAt Cnv.slice s n P now) {f : CnvSlice → CnvSlice} (hf : ∀ x, P x → Q (f x)) :
    CnvAt Cnv.slice (Machine.sliceUpd s n f) n Q now :=
  ⟨SMap.wf_upd _ n f h.wf, (SMap.get_upd_self _ n f h.wf).symm ▸ hf _ h.holds, h.now⟩

/-- A change of a slice, this one or another, that keeps `P`. -/
theorem CnvAt.sliceUpdAny (h : CnvAt Cnv.slice s n P now) (m : Nat) {f : CnvSlice → CnvSlice} (hf : ∀ x, P x → P (f x)) :
    CnvAt Cnv.slice (Machine.sliceUpd s m f) n P now := by
  by_cases hm : n = m
  · subst hm
    exact h.sliceUpd hf
  · exact ⟨SMap.wf_upd _ m f h.wf, (SMap.get_upd_ne _ f hm).symm ▸ h.holds, h.now⟩

/-- A change of a group leaves the slices. -/
theorem CnvAt.groupUpd (h : CnvAt Cnv.slice s n P now) (g : Nat) (f : CnvGroup → CnvGroup) : CnvAt Cnv.slice (Machine.cnvUpd s g f) n P now :=
  h.of_eq rfl rfl

/-- The end of a group's stream ends the passes of its slices. -/
theorem CnvAt.streamStop (h : CnvAt Cnv.slice s n P now) (g : Nat) (hf : ∀ x, P x → P { x with at' := none }) :
    CnvAt Cnv.slice (Machine.cnvStop s g) n P now := .foldl (fun _ m hu => hu.sliceUpdAny m hf) _ (h.groupUpd g _)

theorem CnvAt.temperFail (h : CnvAt Cnv.slice s n P now) : CnvAt Cnv.slice (Machine.temperFail s) n P now := by
  unfold Machine.temperFail
  split
  · extract_lets marked
    have marks : CnvAt Cnv.slice marked n P now := .foldl (fun u g hu => hu.groupUpd g _) _ h
    refine CnvAt.cnvEvent ?_ evTemperFailed 0 0 0
    exact marks.of_eq rfl rfl
  · exact h

end

/-! ### The publisher's turn -/

/-- `P` of record `n` holds whatever waits for the publisher of group `g`. -/
def PubFree {α : Type} [Inhabited α] [DecidableEq α] (tbl : Cnv → SMap α) (n : Nat) (P : α → Prop) (g : Nat) : Prop :=
  ∀ (u : State) (now : Nat) (p : CnvGroup → List (Nat × Nat × Int × Nat × Bool)) (a : CnvGroup → Nat), CnvAt tbl u n P now →
    CnvAt tbl (cnvUpd u g fun k => { k with pend := p k, slotAt := a k }) n P now

theorem pubFree_slice (n : Nat) (P : CnvSlice → Prop) (g : Nat) : PubFree Cnv.slice n P g := fun _ _ _ _ h => h.groupUpd g _

theorem pubFree_group {n : Nat} {P : CnvGroup → Prop} (g : Nat) (hP : ∀ k p a, P k → P { k with pend := p, slotAt := a }) :
    PubFree Cnv.group n P g := fun _ _ _ _ h => h.cnvUpdAny g fun k => hP k _ _

section
variable {α : Type} [Inhabited α] [DecidableEq α] {tbl : Cnv → SMap α} {s : State} {n now g : Nat} {P : α → Prop}

theorem CnvAt.pubTurn (h : CnvAt tbl s n P now) (hfree : PubFree tbl n P g) : CnvAt tbl (Machine.pubTurn s g) n P now := by
  unfold Machine.pubTurn
  extract_lets k
  split
  next => exact h
  next p l _ => exact .ite h ((hfree s now (fun _ => l) (fun k => max k.slotAt (s.tmb.now - 999) + 1000) h).of_unchanged (cnvPublish_unchanged _ p))

theorem CnvAt.pubOffer (h : CnvAt tbl s n P now) (hfree : PubFree tbl n P g) (p : Nat × Nat × Int × Nat × Bool) :
    CnvAt tbl (Machine.pubOffer s g p) n P now := by
  unfold Machine.pubOffer
  extract_lets k dup counted
  have counts : CnvAt tbl counted n P now := .ite (h.bumpN _ 1) h
  exact (hfree counted now (fun k => k.pend.filter (·.1 != p.1) ++ [p]) (fun k => k.slotAt) counts).pubTurn hfree

end

end Sys2Proof.Machine
end

section
/-! Proofs about Burst results (R354, R362, R363, O58): the value that AVG_N samples give, and what the entry that a group fills becomes. -/
namespace Sys2Proof.Machine
open Sys2Proof

/-! ### The value of a result -/

theorem clampI_eq {lo hi : Int} (h : lo ≤ hi) (v : Int) : clampI lo hi v = max lo (min hi v) := by
  unfold clampI
  split
  · omega
  · split
    · omega
    · omega

/-- A result that leaves the FIX24 range is saturated, and says so (R363). -/
theorem satFix24_eq (v : Int) : satFix24 v = (max (-(2 ^ 23)) (min (2 ^ 23 - 1) v), max (-(2 ^ 23)) (min (2 ^ 23 - 1) v) != v) := by
  rw [satFix24, clampI_eq (by decide)]

/-- The value of a result is the floor of its scaled sum (R363). -/
theorem burstResult_eq {cs : List Int} {shift : Nat} {v : Int} (hlo : v * 2 ^ shift ≤ cs.sum * 16) (hhi : cs.sum * 16 < (v + 1) * 2 ^ shift) :
    burstResult cs shift = satFix24 v := by
  have hpos : (0 : Int) < 2 ^ shift := Int.pow_pos (by decide)
  have hfloor : cs.sum * 16 / 2 ^ shift = v :=
    Int.le_antisymm (Int.lt_add_one_iff.1 ((Int.ediv_lt_iff_lt_mul hpos).2 hhi)) ((Int.le_ediv_iff_mul_le hpos).2 hlo)
  have hpow : ((2 ^ shift : Nat) : Int) = 2 ^ shift := Int.natCast_pow 2 shift
  rw [burstResult, ← List.sum_eq_foldl, hpow, hfloor]

/-! ### The entry being filled -/

/-- The entry that a group fills, with one more result `v` stamped `q` (R362, R363). -/
def burstEntry (k : CnvGroup) (ovr : Bool) (q : Nat) (v : Int × Bool) : QEntry :=
  let e := k.fill.getD ⟨q, 1, k.cfg.input, 0, false, false, k.degraded, k.gapNext, k.tgen, [], 0xFF⟩
  { e with ovr := e.ovr || ovr || v.2, results := e.results ++ [(q, v.1)] }

theorem burstEntry_results (k : CnvGroup) (ovr : Bool) (q : Nat) (v : Int × Bool) :
    (burstEntry k ovr q v).results = (k.fill.map (·.results)).getD [] ++ [(q, v.1)] := by
  unfold burstEntry
  cases k.fill <;> rfl

theorem burstEntry_ovr (k : CnvGroup) (ovr : Bool) (q : Nat) {v : Int × Bool} (h : v.2 = true) : (burstEntry k ovr q v).ovr = true := by
  simp [burstEntry, h]

/-- The entry being filled, the queue and the number of results of a group. -/
def StreamIs (fill : Option QEntry) (queue : List QEntry) (results : Nat) (k : CnvGroup) : Prop :=
  k.fill = fill ∧ k.queue = queue ∧ k.results = results

/-- The group once its entry holds one more result: an entry of 16 results is released (R362). -/
def entryTaken (s : State) (g n : Nat) (e : QEntry) : State :=
  let s := cnvUpd s g fun k => { k with fill := some e, gapNext := false, results := n }
  if e.results.length = 16 then cnvRelease (cnvUpd s g fun k => { k with fill := none }) g e else s

section
variable {s : State} {g n now : Nat} {l : Nat} {fill : Option QEntry} {queue : List QEntry} {e : QEntry}

theorem CnvAt.entryTaken_filling (h : CnvAt Cnv.group s g (StreamIs fill queue l) now) (hlen : e.results.length ≠ 16) :
    CnvAt Cnv.group (entryTaken s g n e) g (StreamIs (some e) queue n) now := by
  rw [entryTaken, if_neg hlen]
  exact h.cnvUpd fun k ⟨_, hqueue, _⟩ => ⟨rfl, hqueue, rfl⟩

theorem CnvAt.entryTaken_released (h : CnvAt Cnv.group s g (StreamIs fill queue l) now) (hlen : e.results.length = 16) :
    CnvAt Cnv.group (entryTaken s g n e) g (StreamIs none ((e :: queue).take cnvQueueMax) n) now := by
  rw [entryTaken, if_pos hlen]
  refine .cnvRelease (.cnvUpd (Q := StreamIs none queue n) (.cnvUpd (Q := StreamIs (some e) queue n) h ?_) ?_) e ?_
  · exact fun k ⟨_, hqueue, _⟩ => ⟨rfl, hqueue, rfl⟩
  · exact fun k ⟨_, hqueue, hn⟩ => ⟨rfl, hqueue, hn⟩
  · exact fun k ⟨hfill, hqueue, hn⟩ => ⟨hfill, by rw [hqueue], hn⟩

end

theorem pubFree_streamIs (g : Nat) (fill : Option QEntry) (queue : List QEntry) (n : Nat) : PubFree Cnv.group g (StreamIs fill queue n) g :=
  pubFree_group g fun _ _ _ h => h

/-! ### CNV_RESULT_FORMED -/

section
variable {s : State} {g : Nat} {cs : List Int}

/-- A result of a group that runs a Burst stream: what follows the change of the entry leaves the entry, the queue and the number of results as
the change brings them about (R363). -/
theorem execCnvResultFormed_stands {ovr : Bool} {q t n : Nat} {fill : Option QEntry} {queue : List QEntry} (hcan : canonical s)
    (hruns : cnvRuns s g = true) (hburst : isBurst (cnvG s g).cfg.mode = true) (hlen : cs.length = (cnvG s g).cfg.avg)
    (htaken : ∀ u, CnvAt Cnv.group u g (· = cnvG s g) (max s.tmb.now t) → CnvAt Cnv.group
      (entryTaken u g ((cnvG s g).results + 1) (burstEntry (cnvG s g) ovr q (burstResult cs (cnvG s g).cfg.shift))) g
      (StreamIs fill queue n) (max s.tmb.now t)) :
    ∃ r, exec (.cnvResultFormed g cs ovr q t) s = .next r ∧ CnvAt Cnv.group r g (StreamIs fill queue n) (max s.tmb.now t) := by
  have goes : ¬(!cnvRuns s g ∨ !isBurst (cnvG s g).cfg.mode ∨ cs.length ≠ (cnvG s g).cfg.avg) := by simp [hruns, hburst, hlen]
  have reached := (groupAt_of_canonical hcan g).advance t
  have free := pubFree_streamIs g fill queue n
  show ∃ r, execCnvResultFormed g cs ovr q t s = .next r ∧ _
  unfold execCnvResultFormed
  extract_lets k reached' noted fresh e0 m
  rw [if_neg goes]
  split
  next v sat hresult =>
  extract_lets e filled taken published
  have notes : CnvAt Cnv.group noted g (· = cnvG s g) (max s.tmb.now t) := .ite (reached.cnvOver _) reached
  have takes : CnvAt Cnv.group taken g (StreamIs fill queue n) (max s.tmb.now t) := by
    have h := htaken noted notes
    rw [hresult] at h
    exact h
  have publishes : CnvAt Cnv.group published g (StreamIs fill queue n) (max s.tmb.now t) := .ite (takes.pubOffer free _) (takes.pubTurn free)
  split
  · exact ⟨_, rfl, publishes⟩
  · refine ⟨_, rfl, .foldl (fun u c hu => ?_) _ publishes⟩
    exact .ite (hu.of_unchanged (capSample_unchanged _ _ _ _ _ _ _ _ _)) hu

theorem streamIs_of_eq {k : CnvGroup} : ∀ x, x = k → StreamIs k.fill k.queue k.results x := fun _ h => h ▸ ⟨rfl, rfl, rfl⟩

/-- An entry that holds fewer than 16 results with the new one stays (R362). -/
theorem execCnvResultFormed_filling (hcan : canonical s) (hruns : cnvRuns s g = true) (hburst : isBurst (cnvG s g).cfg.mode = true)
    (hlen : cs.length = (cnvG s g).cfg.avg) (hfew : (((cnvG s g).fill.map (·.results)).getD []).length ≠ 15) (ovr : Bool) (q t : Nat) :
    ∃ r, exec (.cnvResultFormed g cs ovr q t) s = .next r ∧ CnvAt Cnv.group r g
      (StreamIs (some (burstEntry (cnvG s g) ovr q (burstResult cs (cnvG s g).cfg.shift))) (cnvG s g).queue ((cnvG s g).results + 1))
      (max s.tmb.now t) := by
  refine execCnvResultFormed_stands hcan hruns hburst hlen fun u hu => (hu.mono streamIs_of_eq).entryTaken_filling ?_
  simpa [burstEntry_results] using hfew

/-- The sixteenth result releases the entry to the queue (R362). -/
theorem execCnvResultFormed_released (hcan : canonical s) (hruns : cnvRuns s g = true) (hburst : isBurst (cnvG s g).cfg.mode = true)
    (hlen : cs.length = (cnvG s g).cfg.avg) (hfull : (((cnvG s g).fill.map (·.results)).getD []).length = 15) (ovr : Bool) (q t : Nat) :
    ∃ r, exec (.cnvResultFormed g cs ovr q t) s = .next r ∧ CnvAt Cnv.group r g
      (StreamIs none ((burstEntry (cnvG s g) ovr q (burstResult cs (cnvG s g).cfg.shift) :: (cnvG s g).queue).take cnvQueueMax)
        ((cnvG s g).results + 1)) (max s.tmb.now t) := by
  refine execCnvResultFormed_stands hcan hruns hburst hlen fun u hu => (hu.mono streamIs_of_eq).entryTaken_released ?_
  simpa [burstEntry_results] using hfull

end

/-! ### Results as the spec words them -/

/-- A result that is saturated sets OVR of its entry (R363). -/
theorem burstEntry_ovr_of_saturated {x v : Int} (hx : x = max (-(2 ^ 23)) (min (2 ^ 23 - 1) v)) (hsat : x ≠ v) (k : CnvGroup) (ovr : Bool)
    (q : Nat) : (burstEntry k ovr q (satFix24 v)).ovr = true := by
  refine burstEntry_ovr k ovr q ?_
  rw [satFix24_eq, ← hx]
  exact bne_iff_ne.2 hsat

/-- The results of an entry with one more result of value `v`, saturated to `x`. -/
theorem burstEntry_results_satFix24 {k : CnvGroup} {old : List (Nat × Int)} {x v : Int} (hx : x = max (-(2 ^ 23)) (min (2 ^ 23 - 1) v))
    (hold : (k.fill.map (·.results)).getD [] = old) (ovr : Bool) (q : Nat) : (burstEntry k ovr q (satFix24 v)).results = old ++ [(q, x)] := by
  rw [burstEntry_results, hold, satFix24_eq, ← hx]

/-- The samples in FIX24 sum to 16 times the sum of the samples. -/
theorem sum_map_mul_16 (cs : List Int) : (cs.map (· * 16)).sum = cs.sum * 16 := by
  induction cs with
  | nil => rfl
  | cons c cs ih => rw [List.map_cons, List.sum_cons, List.sum_cons, ih, Int.add_mul]

/-- With AVG_N = 2^SHIFT the floor of the scaled sum is the floored mean of the samples in FIX24 (R363). -/
theorem mean_of_scaled {cs : List Int} {shift : Nat} {v : Int} (hmean : 2 ^ shift = cs.length)
    (hv : v * 2 ^ shift ≤ cs.sum * 16 ∧ cs.sum * 16 < (v + 1) * 2 ^ shift) :
    v * cs.length ≤ (cs.map (· * 16)).sum ∧ (cs.map (· * 16)).sum < (v + 1) * cs.length := by
  have hlen : (cs.length : Int) = 2 ^ shift := by
    rw [← hmean]
    exact Int.natCast_pow 2 shift
  rw [sum_map_mul_16, hlen]
  exact hv

/-- Of one sample, the result is 16 times the sample: a signed Q1.19 value does not saturate (R363). -/
theorem single_of_scaled {cs : List Int} {shift : Nat} {v x : Int} (hone : cs.length = 1) (hmean : 2 ^ shift = cs.length)
    (hrange : ∀ c ∈ cs, -(2 ^ 19) ≤ c ∧ c < 2 ^ 19) (hv : v * 2 ^ shift ≤ cs.sum * 16 ∧ cs.sum * 16 < (v + 1) * 2 ^ shift)
    (hx : x = max (-(2 ^ 23)) (min (2 ^ 23 - 1) v)) : cs = [x / 16] ∧ x = x / 16 * 16 := by
  obtain ⟨hlo, hhi⟩ := mean_of_scaled hmean hv
  obtain ⟨c, rfl⟩ := List.length_eq_one_iff.1 hone
  obtain ⟨hc, hc'⟩ := hrange c List.mem_cons_self
  have hsum : ([c].map (· * 16)).sum = c * 16 := Int.add_zero _
  have hlen : (([c] : List Int).length : Int) = 1 := rfl
  rw [hsum, hlen, Int.mul_one] at hlo hhi
  have hvalue : x = c * 16 := by omega
  exact ⟨congrArg (fun y => [y]) (by omega), by omega⟩

/-- Settles O58: an entry takes the floored, saturated value of its samples; the sixteenth result releases it. -/
theorem burstResults : Obligations.BurstResults := by
  unfold Obligations.BurstResults
  refine ⟨?filling, ?released, ?mean⟩
  case filling =>
    intro g q t cs ovr v x old s hcan hruns hburst hlen _ hv hx hold hfew
    obtain ⟨r, hexec, stands⟩ := execCnvResultFormed_filling hcan hruns hburst hlen (hold ▸ hfew) ovr q t
    obtain ⟨hfill, -, -⟩ := stands.holds
    rw [burstResult_eq hv.1 hv.2] at hfill
    have entry : (cnvG r g).fill = _ := hfill
    refine ⟨r, hexec, ?_, fun hsat => ?_⟩
    · rw [entry, Option.map_some, burstEntry_results_satFix24 hx hold]
    · rw [entry, Option.map_some, burstEntry_ovr_of_saturated hx hsat]
  case released =>
    intro g q t cs ovr v x old s hcan hruns hburst hlen _ hv hx hold hfull
    obtain ⟨r, hexec, stands⟩ := execCnvResultFormed_released hcan hruns hburst hlen (hold ▸ hfull) ovr q t
    obtain ⟨hfill, hqueue, -⟩ := stands.holds
    rw [burstResult_eq hv.1 hv.2] at hqueue
    have head : (cnvG r g).queue.head? = _ := congrArg List.head? hqueue
    refine ⟨r, hexec, hfill, ?_, fun hsat => ?_⟩
    · rw [head, cnvQueueMax, List.take_succ_cons, List.head?_cons, Option.map_some, burstEntry_results_satFix24 hx hold]
    · rw [head, cnvQueueMax, List.take_succ_cons, List.head?_cons, Option.map_some, burstEntry_ovr_of_saturated hx hsat]
  case mean =>
    intro g q t cs ovr v x old s hcan hruns hburst hlen hrange hv hx hold hfew hmean
    obtain ⟨r, hexec, stands⟩ := execCnvResultFormed_filling hcan hruns hburst hlen (hold ▸ hfew) ovr q t
    obtain ⟨hfill, -, -⟩ := stands.holds
    rw [burstResult_eq hv.1 hv.2] at hfill
    have entry : (cnvG r g).fill = _ := hfill
    rw [← hlen] at hmean
    obtain ⟨hlo, hhi⟩ := mean_of_scaled hmean hv
    refine ⟨r, hexec, hlo, hhi, fun hone => single_of_scaled hone hmean hrange hv hx, ?_⟩
    rw [entry, Option.map_some, burstEntry_results_satFix24 hx hold]

end Sys2Proof.Machine
end

section
/-! Proofs of the converter array's commands (R354, R359 to R364, R368, R370 to R375, O23): a configuration and its boundary, Burst and Scan
results, passes and calibration slots, the updates of Temper, a failed slice, and the loss and return of the conversion clock. -/
namespace Sys2Proof.Machine
open Sys2Proof

/-! ### CNV_CONFIG and its boundary -/

/-- A configuration of one group that passes its checks awaits the boundary (R359). -/
theorem cnvConfig_of_checks {s : State} {c : Cmd} (hunit : c.unit ≠ 4) (hcheck : cnvCheck s c.unit c.data = none) :
    cnvConfig s c = cnvUpd s c.unit fun k => { k with next := some (cnvParse c.data, c.handle, false) } := by
  have one : (c.unit == 4) = false := beq_false_of_ne hunit
  simp only [cnvConfig, hcheck, one, Bool.false_eq_true, if_false]

theorem cnvConfig_answers {s : State} {h : Nat} {c : Cmd} {d : Bytes} (hcan : canonical s) (hc : CanStart s h 0x48 c) (hunit : c.unit ≠ 4)
    (hcheck : cnvCheck s c.unit d = none) :
    Answers (.cnvConfig h (some d)) s fun r =>
      (cnvG r c.unit).next = some (cnvParse d, h, false) ∧ (cnvG r c.unit).cfg = (cnvG s c.unit).cfg ∧ running r h = true := by
  have awaits := cnvConfig_of_checks (s := startedIn s c d) (c := startedCmd c d) hunit hcheck
  rw [startedCmd_handle hc d] at awaits
  have stands := ((groupAt_of_canonical hcan c.unit).startedIn c d).cnvUpd (Q := fun k => k.next = some (cnvParse d, h, false) ∧
    k.cfg = (cnvG s c.unit).cfg) (f := fun k => { k with next := some (cnvParse d, h, false) }) fun k hk => ⟨rfl, hk ▸ rfl⟩
  obtain ⟨hnext, hcfg⟩ := stands.holds
  exact ⟨_, congrArg ok ((startCmd_of_canStart hc d cnvConfig).trans awaits), hnext, hcfg, running_of_started (t := cnvUpd _ _ _) hc d rfl⟩

/-- A group that takes a configuration fills no entry yet, and keeps its queue (R360). -/
theorem CnvAt.cnvTake {s : State} {g now : Nat} {queue : List QEntry} (h : CnvAt Cnv.group s g (fun k => k.queue = queue) now) (c : CnvCfg) :
    CnvAt Cnv.group (Machine.cnvTake s c g) g (fun k => k.cfg = c ∧ k.next = none ∧ k.gapNext = true ∧ k.queue = queue) now :=
  (h.sliceUpds _ _).cnvUpd fun _ hqueue => ⟨rfl, rfl, rfl, hqueue⟩

/-- Whether the whole array runs as one Burst stream is noted (R354). -/
def b1Noted (s : State) : State := { s with cnv := { s.cnv with b1 := (cnvG s 0).cfg.mode == 1 } }

theorem CnvAt.b1Noted {s : State} {g now : Nat} {P : CnvGroup → Prop} (h : CnvAt Cnv.group s g P now) :
    CnvAt Cnv.group (Machine.b1Noted s) g P now := h.of_eq rfl rfl

theorem execCnvConfigBoundary_of_boundary {s : State} {g h : Nat} {c : CnvCfg} (hnext : (cnvG s g).next = some (c, h, false))
    (hboundary : atBoundary s g = true) (t : Nat) :
    exec (.cnvConfigBoundary g t) s = .next (endCmd (cnvEvent (b1Noted (cnvTake (advance s t) c g)) evCnvConfigured g 0 c.input) h .ok 0 0) := by
  have reached : ¬(!([g].all (atBoundary s))) = true := by simp [hboundary]
  show execCnvConfigBoundary g t s = _
  simp only [execCnvConfigBoundary, hnext, Bool.false_eq_true, if_false, if_neg reached]
  rfl

theorem cnvConfigBoundary_answers {s : State} {g t h : Nat} {c : CnvCfg} (hcan : canonical s) (hnext : (cnvG s g).next = some (c, h, false))
    (hboundary : atBoundary s g = true) :
    Answers (.cnvConfigBoundary g t) s fun r =>
      (cnvG r g).cfg = c ∧ (cnvG r g).next = none ∧ (cnvG r g).gapNext = true ∧ (cnvG r g).queue = (cnvG s g).queue ∧
        r.tmb.now = max s.tmb.now t := by
  have takes := (((groupAt_of_canonical hcan g).advance t).mono (Q := fun k => k.queue = (cnvG s g).queue) fun k hk => hk ▸ rfl).cnvTake c
  have stands := (takes.b1Noted.cnvEvent evCnvConfigured g 0 c.input).endCmd h .ok 0 0
  obtain ⟨hcfg, hnone, hgap, hqueue⟩ := stands.holds
  exact ⟨_, execCnvConfigBoundary_of_boundary hnext hboundary t, hcfg, hnone, hgap, hqueue, stands.now⟩

/-! ### Burst results -/

section
variable {s : State} {g : Nat} {cs : List Int} {ovr : Bool} {q t : Nat}

theorem cnvResultFormed_answers_first (hcan : canonical s) (hruns : cnvRuns s g = true) (hburst : isBurst (cnvG s g).cfg.mode = true)
    (hlen : cs.length = (cnvG s g).cfg.avg) (hfill : (cnvG s g).fill = none) :
    Answers (.cnvResultFormed g cs ovr q t) s fun r =>
      (cnvG r g).fill.map (·.results) = some [(q, (burstResult cs (cnvG s g).cfg.shift).1)] ∧ (cnvG r g).results = (cnvG s g).results + 1 ∧
        r.tmb.now = max s.tmb.now t := by
  obtain ⟨r, hexec, stands⟩ := execCnvResultFormed_filling hcan hruns hburst hlen (by simp [hfill]) ovr q t
  obtain ⟨hentry, -, hcount⟩ := stands.holds
  have entry : (cnvG r g).fill = _ := hentry
  refine ⟨r, hexec, ?_, hcount, stands.now⟩
  rw [entry, Option.map_some, burstEntry_results, hfill]
  rfl

theorem cnvResultFormed_answers_sixteenth {e : QEntry} (hcan : canonical s) (hruns : cnvRuns s g = true)
    (hburst : isBurst (cnvG s g).cfg.mode = true) (hlen : cs.length = (cnvG s g).cfg.avg) (hfill : (cnvG s g).fill = some e)
    (hfull : e.results.length = 15) :
    Answers (.cnvResultFormed g cs ovr q t) s fun r =>
      (cnvG r g).fill = none ∧
        (cnvG r g).queue.head?.map (·.results) = some (e.results ++ [(q, (burstResult cs (cnvG s g).cfg.shift).1)]) ∧
        (cnvG r g).results = (cnvG s g).results + 1 := by
  obtain ⟨r, hexec, stands⟩ := execCnvResultFormed_released hcan hruns hburst hlen (by simp [hfill, hfull]) ovr q t
  obtain ⟨hnone, hqueue, hcount⟩ := stands.holds
  have head : (cnvG r g).queue.head? = _ := congrArg List.head? hqueue
  refine ⟨r, hexec, hnone, ?_, hcount⟩
  rw [head, cnvQueueMax, List.take_succ_cons, List.head?_cons, Option.map_some, burstEntry_results, hfill]
  rfl

end

/-! ### Scan passes -/

theorem scanPassStart_answers {s : State} {g t n : Nat} (hcan : canonical s) (hruns : cnvRuns s g = true) (hmode : (cnvG s g).cfg.mode = 3)
    (hnext : (cnvG s g).next = none) (hn : n ∈ (cnvG s g).slices) (hidle : (cnvS s n).at' = none) :
    Answers (.scanPassStart g t) s fun r => (cnvS r n).at' = some 0 ∧ r.tmb.now = max s.tmb.now t := by
  have goes : ¬(!cnvRuns s g ∨ (cnvG s g).cfg.mode ≠ 3 ∨ (cnvG s g).next.isSome) := by simp [hruns, hmode, hnext]
  have idle := ((sliceAt_of_canonical hcan n).advance t).mono (Q := fun x => x.at'.getD 0 = 0) fun x hx => by rw [hx, hidle]; rfl
  have stands := foldl_establishes (f := fun u m => sliceUpd u m fun x => { x with at' := some (x.at'.getD 0) })
    (A := fun u => CnvAt Cnv.slice u n (fun x => x.at'.getD 0 = 0) (max s.tmb.now t))
    (B := fun u => CnvAt Cnv.slice u n (fun x => x.at' = some 0) (max s.tmb.now t))
    (fun u m hu => hu.sliceUpdAny m fun x hx => hx) (fun u m hu => hu.sliceUpdAny m fun x hx => by rw [hx]; rfl)
    (fun u hu => hu.sliceUpd fun x hx => congrArg some hx) hn idle
  exact ⟨_, if_neg goes, stands.holds, stands.now⟩

/-- The entry that a Scan result is released in (R362, R364). -/
def scanEntry (k : CnvGroup) (e : SeqEntry) (n i q : Nat) (ovr : Bool) (v : Int × Bool) : QEntry :=
  ⟨q, 2, e.input, i, ovr || v.2, false, k.degraded, k.gapNext, k.tgen, [(q, v.1)], n⟩

/-- The newest entry of a group's queue and the passes it has run. -/
def ScanIs (head : QEntry) (passes : Nat) (k : CnvGroup) : Prop := k.queue.head? = some head ∧ k.passes = passes

/-- A Scan result of slice `n` of a group that stood as `k` is released at once and goes to the publisher (R361, R364). -/
def scanTaken (s : State) (k : CnvGroup) (e : SeqEntry) (n i q : Nat) (ovr : Bool) (v : Int × Bool) : State :=
  let s := if ovr then cnvOver s e.input else s
  let s := cnvRelease (cnvUpd s (n / 4) fun k => { k with gapNext := false }) (n / 4) (scanEntry k e n i q ovr v)
  if e.pub then pubOffer s (n / 4) (e.point, e.input, v.1, q, ovr || v.2) else pubTurn s (n / 4)

theorem CnvAt.scanTaken_group {s : State} {n now p : Nat} (h : CnvAt Cnv.group s (n / 4) (fun k => k.passes = p) now) (k : CnvGroup)
    (e : SeqEntry) (i q : Nat) (ovr : Bool) (v : Int × Bool) :
    CnvAt Cnv.group (scanTaken s k e n i q ovr v) (n / 4) (ScanIs (scanEntry k e n i q ovr v) p) now := by
  have free : PubFree Cnv.group (n / 4) (ScanIs (scanEntry k e n i q ovr v) p) (n / 4) := pubFree_group _ fun _ _ _ hk => hk
  unfold scanTaken
  extract_lets noted released
  have notes : CnvAt Cnv.group noted (n / 4) (fun k => k.passes = p) now := .ite (h.cnvOver _) h
  have marks : CnvAt Cnv.group (Machine.cnvUpd noted (n / 4) fun k => { k with gapNext := false }) (n / 4) (fun k => k.passes = p) now :=
    notes.cnvUpd fun _ hk => hk
  have releases : CnvAt Cnv.group released (n / 4) (ScanIs (scanEntry k e n i q ovr v) p) now :=
    marks.cnvRelease _ fun _ hk => ⟨rfl, hk⟩
  exact .ite (releases.pubOffer free _) (releases.pubTurn free)

theorem CnvAt.scanTaken_slice {s : State} {n m now : Nat} {P : CnvSlice → Prop} (h : CnvAt Cnv.slice s m P now) (k : CnvGroup) (e : SeqEntry)
    (i q : Nat) (ovr : Bool) (v : Int × Bool) : CnvAt Cnv.slice (scanTaken s k e n i q ovr v) m P now := by
  have free := pubFree_slice m P (n / 4)
  unfold scanTaken
  extract_lets noted released
  have notes : CnvAt Cnv.slice noted m P now := .ite (h.cnvOver _) h
  have releases : CnvAt Cnv.slice released m P now := ((notes.groupUpd _ _).groupUpd _ _).bumpN _ 1
  exact .ite (releases.pubOffer free _) (releases.pubTurn free)

section
variable {s : State} {n q t i : Nat} {c : Int} {ovr : Bool} {e : SeqEntry} {l : List SeqEntry}

/-- The slice goes on to the next entry of its sequence, or ends its pass (R361). -/
theorem execScanResult_eq (hruns : cnvRuns s (n / 4) = true) (hmode : (cnvG s (n / 4)).cfg.mode = 3)
    (hslice : (cnvG s (n / 4)).slices.contains n = true) (hat : (cnvS s n).at' = some i)
    (hl : l = (cnvG s (n / 4)).cfg.seqs.getD (n % 4) []) (he : l[i]? = some e) :
    execScanResult n c ovr q t s =
      let u := scanTaken (advance s t) (cnvG s (n / 4)) e n i q ovr (scanResult c e.ofs e.gcorr)
      if i + 1 < l.length then ok (sliceUpd u n fun x => { x with at' := some (i + 1) })
      else ok (sliceUpd (cnvUpd u (n / 4) fun k => { k with passes := (k.passes + 1) % 2 ^ 32 }) n fun x => { x with
        at' := none
        sinceCal := x.sinceCal + 1
        calDue := x.calDue || decide ((cnvG s (n / 4)).cfg.calEvery ≤ x.sinceCal + 1) }) := by
  subst hl
  have goes : ¬(!cnvRuns s (n / 4) ∨ (cnvG s (n / 4)).cfg.mode ≠ 3 ∨ !(cnvG s (n / 4)).slices.contains n) := by
    simpa [hruns, hmode] using hslice
  simp only [execScanResult, hat, he, if_neg goes]
  rfl

theorem scanResult_answers_next (hcan : canonical s) (hruns : cnvRuns s (n / 4) = true) (hmode : (cnvG s (n / 4)).cfg.mode = 3)
    (hslice : (cnvG s (n / 4)).slices.contains n = true) (hat : (cnvS s n).at' = some i)
    (hl : l = (cnvG s (n / 4)).cfg.seqs.getD (n % 4) []) (he : l[i]? = some e) (hmore : i + 1 < l.length) :
    Answers (.scanResult n c ovr q t) s fun r =>
      (cnvG r (n / 4)).queue.head?.map (fun x => (x.input, x.entry, x.slice, x.results)) =
          some (e.input, i, n, [(q, (scanResult c e.ofs e.gcorr).1)]) ∧
        (cnvS r n).at' = some (i + 1) ∧ r.tmb.now = max s.tmb.now t := by
  have group := (((groupAt_of_canonical hcan (n / 4)).advance t).mono (Q := fun k => k.passes = (cnvG s (n / 4)).passes)
    fun k hk => hk ▸ rfl).scanTaken_group (cnvG s (n / 4)) e i q ovr (scanResult c e.ofs e.gcorr)
  have slice := (((sliceAt_of_canonical hcan n).advance t).scanTaken_slice (n := n) (cnvG s (n / 4)) e i q ovr
    (scanResult c e.ofs e.gcorr)).sliceUpd (Q := fun x => x.at' = some (i + 1)) (f := fun x => { x with at' := some (i + 1) }) fun _ _ => rfl
  obtain ⟨hhead, -⟩ := group.holds
  exact ⟨_, (execScanResult_eq hruns hmode hslice hat hl he).trans (if_pos hmore), congrArg _ hhead, slice.holds, slice.now⟩

theorem scanResult_answers_last (hcan : canonical s) (hruns : cnvRuns s (n / 4) = true) (hmode : (cnvG s (n / 4)).cfg.mode = 3)
    (hslice : (cnvG s (n / 4)).slices.contains n = true) (hat : (cnvS s n).at' = some i)
    (hl : l = (cnvG s (n / 4)).cfg.seqs.getD (n % 4) []) (he : l[i]? = some e) (hlast : l.length = i + 1) :
    Answers (.scanResult n c ovr q t) s fun r =>
      (cnvG r (n / 4)).queue.head?.map (fun x => (x.input, x.entry, x.slice, x.results)) =
          some (e.input, i, n, [(q, (scanResult c e.ofs e.gcorr).1)]) ∧
        (cnvS r n).at' = none ∧ (cnvG r (n / 4)).passes = ((cnvG s (n / 4)).passes + 1) % 2 ^ 32 := by
  have group := ((((groupAt_of_canonical hcan (n / 4)).advance t).mono (Q := fun k => k.passes = (cnvG s (n / 4)).passes)
    fun k hk => hk ▸ rfl).scanTaken_group (cnvG s (n / 4)) e i q ovr (scanResult c e.ofs e.gcorr)).cnvUpd
    (Q := ScanIs (scanEntry (cnvG s (n / 4)) e n i q ovr (scanResult c e.ofs e.gcorr)) (((cnvG s (n / 4)).passes + 1) % 2 ^ 32))
    (f := fun k => { k with passes := (k.passes + 1) % 2 ^ 32 }) fun k ⟨hhead, hpasses⟩ => ⟨hhead, by rw [hpasses]⟩
  have slice := ((((sliceAt_of_canonical hcan n).advance t).scanTaken_slice (n := n) (cnvG s (n / 4)) e i q ovr
    (scanResult c e.ofs e.gcorr)).groupUpd (n / 4) fun k => { k with passes := (k.passes + 1) % 2 ^ 32 }).sliceUpd (Q := fun x => x.at' = none)
    (f := fun x => { x with
      at' := none
      sinceCal := x.sinceCal + 1
      calDue := x.calDue || decide ((cnvG s (n / 4)).cfg.calEvery ≤ x.sinceCal + 1) }) fun _ _ => rfl
  obtain ⟨hhead, hpasses⟩ := group.holds
  have ends : ¬i + 1 < l.length := by omega
  exact ⟨_, (execScanResult_eq hruns hmode hslice hat hl he).trans (if_neg ends), congrArg _ hhead, slice.holds, hpasses⟩

end

theorem calSlot_answers {s : State} {n t : Nat} (hcan : canonical s) (hruns : cnvRuns s (n / 4) = true) (hmode : (cnvG s (n / 4)).cfg.mode = 3)
    (hperiod : (cnvG s (n / 4)).cfg.period = 0) (hdue : (cnvS s n).calDue = true) (hidle : (cnvS s n).at' = none) :
    Answers (.calSlot n t) s fun r => (cnvS r n).calDue = false ∧ (cnvS r n).sinceCal = 0 ∧ r.tmb.now = max s.tmb.now t := by
  have goes : ¬(!cnvRuns s (n / 4) ∨ (cnvG s (n / 4)).cfg.mode ≠ 3 ∨ !(cnvS s n).calDue ∨ (cnvS s n).at'.isSome) := by
    simp [hruns, hmode, hdue, hidle]
  have stands := (((sliceAt_of_canonical hcan n).advance t).sliceUpd (Q := fun x => x.calDue = false ∧ x.sinceCal = 0)
    (f := fun x => { x with sinceCal := 0, calDue := false }) fun _ _ => ⟨rfl, rfl⟩).bumpN cCnvCalSlots 1
  obtain ⟨hdone, hcount⟩ := stands.holds
  exact ⟨_, (if_neg goes).trans (if_neg fun h => h.1 hperiod), hdone, hcount, stands.now⟩

/-! ### Temper -/

/-- Slices whose coefficients move leave the groups, the generation and the Timeline (R370). -/
theorem sliceNudges_group (l : List Nat) (s : State) :
    (l.foldl sliceNudge s).cnv.group = s.cnv.group ∧ (l.foldl sliceNudge s).cnv.tgen = s.cnv.tgen ∧ (l.foldl sliceNudge s).tmb = s.tmb :=
  List.foldlRecOn (motive := fun u : State => u.cnv.group = s.cnv.group ∧ u.cnv.tgen = s.cnv.tgen ∧ u.tmb = s.tmb) l sliceNudge
    ⟨rfl, rfl, rfl⟩ fun _ hu _ _ => hu

/-- A group that has taken the generation `gen` at the instant `now` (R367, R371). -/
def UpdatedTo (gen now : Nat) (k : CnvGroup) : Prop := k.tgen = gen ∧ k.lastUpdate = now ∧ k.deferSince = none

theorem cnvGeneration_tgen (s : State) (gs : List Nat) : (cnvGeneration s gs).cnv.tgen = (s.cnv.tgen + 1) % 2 ^ 32 :=
  List.foldlRecOn (motive := fun u : State => u.cnv.tgen = (s.cnv.tgen + 1) % 2 ^ 32) gs _ rfl fun _ hu _ _ => hu

/-- Each group of the list takes the new generation. -/
theorem CnvAt.cnvGeneration {s : State} {g now : Nat} (h : CnvAt Cnv.group s g (fun _ => True) now) {gs : List Nat} (hg : g ∈ gs) :
    CnvAt Cnv.group (Machine.cnvGeneration s gs) g (UpdatedTo ((s.cnv.tgen + 1) % 2 ^ 32) now) now := by
  have begun : CnvAt Cnv.group { s with cnv := { s.cnv with tgen := (s.cnv.tgen + 1) % 2 ^ 32, stale := false, updTemp := s.pwr.dieTemp } } g
      (fun _ => True) now := h.of_eq rfl rfl
  exact foldl_establishes (A := fun u => CnvAt Cnv.group u g (fun _ => True) now)
    (B := fun u => CnvAt Cnv.group u g (UpdatedTo ((s.cnv.tgen + 1) % 2 ^ 32) now) now)
    (fun u m hu => hu.cnvUpdAny m fun _ _ => trivial) (fun u m hu => hu.cnvUpdAny m fun _ _ => ⟨rfl, hu.now, rfl⟩)
    (fun u hu => hu.cnvUpd fun _ _ => ⟨rfl, hu.now, rfl⟩) hg begun

theorem temperBgUpdate_answers {s : State} {idle t g : Nat} (hcan : canonical s) (hflag : flag s fCnvCtrlBgEn = true) (hclk : s.cnv.clkOk = true)
    (hfg : s.cnv.fg = none) (hhold : flag s fCnvCtrlHoldOnArm = false) (hg : g < 4) (hmode : (cnvG s g).cfg.mode ≠ 0)
    (hslices : (cnvG s g).slices ≠ []) (hestimate : isBurst (cnvG s g).cfg.mode = false ∨ bit idle g = false) :
    Answers (.temperBgUpdate idle t) s fun r =>
      r.cnv.tgen = (s.cnv.tgen + 1) % 2 ^ 32 ∧ (cnvG r g).tgen = r.cnv.tgen ∧ (cnvG r g).lastUpdate = max s.tmb.now t ∧
        r.tmb.now = max s.tmb.now t := by
  have goes : ¬(!flag s fCnvCtrlBgEn ∨ !s.cnv.clkOk ∨ s.cnv.fg.isSome) := by simp [hflag, hclk, hfg]
  have reached := (groupAt_of_canonical hcan g).advance t
  have group : cnvG (advance s t) g = cnvG s g := reached.holds
  show ∃ r, execTemperBgUpdate idle t s = .next r ∧ _
  unfold execTemperBgUpdate
  extract_lets reached' on held quiet go deferred counted nudged
  rw [if_neg goes]
  have none_held : held = [] := by simp [held, advance_flag, reached', hhold]
  have runs : g ∈ on := by simp [on, reached', group, hg, hmode, hslices]
  have not_quiet : g ∉ quiet := by
    intro h
    obtain ⟨-, h⟩ := List.mem_filter.1 h
    rw [group] at h
    rcases hestimate with hs | hs <;> simp [hs] at h
  have updates : g ∈ go := List.mem_filter.2 ⟨runs, by simp [none_held, not_quiet]⟩
  have some_go : ¬go.isEmpty = true := by
    rw [List.isEmpty_iff]
    exact List.ne_nil_of_mem updates
  rw [if_neg some_go]
  have deferred_eq : deferred = reached' := by simp [deferred, none_held]
  have counts : CnvAt Cnv.group counted g (fun _ => True) (max s.tmb.now t) := by
    refine CnvAt.bumpN (.bumpN ?_ _ _) _ _
    rw [deferred_eq]
    exact reached.mono fun _ _ => trivial
  have counted_tgen : counted.cnv.tgen = s.cnv.tgen := by
    show deferred.cnv.tgen = _
    rw [deferred_eq, advance_cnv]
  obtain ⟨hgroup, htgen, htmb⟩ := sliceNudges_group (go.flatMap fun g => (cnvG counted g).slices) counted
  have stands := ((counts.of_eq hgroup htmb).cnvGeneration updates).bumpN cCnvTemperUpdates 1
  obtain ⟨hgen, hlast, -⟩ := stands.holds
  have tgen := cnvGeneration_tgen nudged go
  refine ⟨_, rfl, ?_, ?_, hlast, stands.now⟩
  · rw [bump_cnv, tgen, htgen, counted_tgen]
  · rw [bump_cnv, tgen]
    exact hgen

theorem temperDeferExpiry_answers {s : State} {g t : Nat} (hcan : canonical s) (hdefer : (cnvG s g).deferSince = some t) :
    Answers (.temperDeferExpiry g) s fun r =>
      r.cnv.tgen = (s.cnv.tgen + 1) % 2 ^ 32 ∧ (cnvG r g).tgen = r.cnv.tgen ∧ (cnvG r g).deferSince = none ∧
        r.tmb.now = max s.tmb.now (t + 1000000 * fld s fCnvCtrlHoldMaxMs) := by
  have reached := ((groupAt_of_canonical hcan g).advance (t + 1000000 * fld s fCnvCtrlHoldMaxMs)).mono (Q := fun _ => True) fun _ _ => trivial
  show ∃ r, execTemperDeferExpiry g s = .next r ∧ _
  unfold execTemperDeferExpiry
  split
  next h => cases hdefer.symm.trans h
  next t' h =>
  obtain rfl := Option.some.inj (hdefer.symm.trans h)
  extract_lets reached' nudged counted mixed
  obtain ⟨hgroup, htgen, htmb⟩ := sliceNudges_group (cnvG reached' g).slices reached'
  have counts : CnvAt Cnv.group counted g (UpdatedTo ((nudged.cnv.tgen + 1) % 2 ^ 32) _) _ :=
    (((reached.of_eq hgroup htmb).cnvGeneration (List.mem_singleton_self g)).bumpN _ 1).bumpN _ 1
  have mixes : unchangedBut captureParts counted mixed :=
    unchangedBut_foldl (fun u n => .ite (capUpd_unchanged u n _) (unchangedBut_refl _ u)) _ counted
  have stands := (counts.of_unchanged mixes).cnvEvent evTemperForcedUpdate g 0 0
  obtain ⟨hgen, -, hnone⟩ := stands.holds
  have tgen : (cnvEvent mixed evTemperForcedUpdate g 0 0).cnv.tgen = (nudged.cnv.tgen + 1) % 2 ^ 32 := by
    rw [cnvEvent, event_cnv, mixes .cnv (by decide)]
    exact cnvGeneration_tgen nudged [g]
  refine ⟨_, rfl, ?_, ?_, hnone, stands.now⟩
  · rw [tgen, htgen, advance_cnv]
  · rw [tgen]
    exact hgen

theorem calStaleTimeout_answers {s : State} {t : Nat} (hstale : s.cnv.stale = false) (hwarm : 5000 < (s.pwr.dieTemp - s.cnv.updTemp).natAbs) :
    Answers (.calStaleTimeout t) s fun r => r.cnv.stale = true ∧ r.cnv.tgen = s.cnv.tgen ∧ r.tmb.now = max s.tmb.now t := by
  have hpwr : (advance s t).pwr = s.pwr := advance_unchanged s t .pwr (by decide)
  show ∃ r, execCalStaleTimeout t s = .next r ∧ _
  unfold execCalStaleTimeout
  extract_lets reached late warm
  have drifts : (late ∨ warm) ∧ !reached.cnv.stale := by
    refine ⟨.inr ?_, by simp [reached, hstale]⟩
    simpa [warm, reached, hpwr] using hwarm
  rw [if_pos drifts]
  refine ⟨_, rfl, ?_, ?_, ?_⟩
  · rw [cnvEvent, event_cnv]
  · rw [cnvEvent, event_cnv]
    show (advance s t).cnv.tgen = s.cnv.tgen
    rw [advance_cnv]
  · rw [cnvEvent, event_tmb, advance_now]

/-! ### A failed slice -/

/-- A slice that has failed for `cause` runs no pass (R373). -/
def FailedFor (cause : Nat) (x : CnvSlice) : Prop := x.failed = cause ∧ x.at' = none

/-- A slice that fails is removed; what its group does about it leaves the slice (R373, R374). -/
theorem CnvAt.sliceFail {s : State} {n now : Nat} (h : CnvAt Cnv.slice s n (fun x => x.failed = 0) now) (cause : Nat) :
    CnvAt Cnv.slice (Machine.sliceFail s n cause) n (FailedFor cause) now := by
  have works : ¬(cnvS s n).failed ≠ 0 := not_not_intro h.holds
  unfold Machine.sliceFail
  rw [if_neg works]
  extract_lets removed g k told ended stopped left
  have tells : CnvAt Cnv.slice told n (FailedFor cause) now := ((h.sliceUpd fun _ _ => ⟨rfl, rfl⟩).bumpN _ 1).cnvEvent _ _ _ _
  have ends : CnvAt Cnv.slice ended n (FailedFor cause) now := by
    unfold ended
    split
    · split
      · exact tells.temperFail.endCmd _ _ _ _
      · exact tells
    · exact tells
  have stops : CnvAt Cnv.slice stopped n (FailedFor cause) now := (ends.streamStop g fun _ hx => ⟨hx.1, rfl⟩).groupUpd g _
  have leaves : CnvAt Cnv.slice left n (FailedFor cause) now := ends.groupUpd g _
  refine .ite ends (.ite (.ite ((stops.cnvAllBad g).groupUpd g _) stops) (.foldl (fun u e hu => ?_) _ leaves))
  exact .ite (hu.of_unchanged (badPoint_unchanged u _ _ _)) hu

theorem sliceFailed_answers {s : State} {n cause t : Nat} (hcan : canonical s) (hn : n < 16) (hlo : 1 ≤ cause) (hhi : cause ≤ 3)
    (hworks : (cnvS s n).failed = 0) :
    Answers (.sliceFailed n cause t) s fun r => (cnvS r n).failed = cause ∧ (cnvS r n).at' = none ∧ r.tmb.now = max s.tmb.now t := by
  have stands := (((sliceAt_of_canonical hcan n).advance t).mono (Q := fun x => x.failed = 0) fun x hx => hx ▸ hworks).sliceFail cause
  obtain ⟨hfailed, hat⟩ := stands.holds
  exact ⟨_, if_pos ⟨hn, hlo, hhi⟩, hfailed, hat, stands.now⟩

theorem burstResume_answers {s : State} {g t : Nat} (hcan : canonical s) (hresume : (cnvG s g).resumeAt = some t) :
    Answers (.burstResume g) s fun r =>
      (cnvG r g).resumeAt = none ∧ (cnvG r g).slices = burstSlices s g (cnvG s g).cfg.mode ∧ (cnvG r g).degraded = true ∧
        (cnvG r g).stopped = !s.cnv.clkOk ∧ r.tmb.now = max s.tmb.now t := by
  have reached := (groupAt_of_canonical hcan g).advance t
  have group : cnvG (advance s t) g = cnvG s g := reached.holds
  have healthy : burstSlices (advance s t) g (cnvG s g).cfg.mode = burstSlices s g (cnvG s g).cfg.mode := by
    unfold burstSlices cnvS
    rw [advance_cnv]
  have stands := reached.cnvUpd (Q := fun k => k.resumeAt = none ∧ k.slices = burstSlices s g (cnvG s g).cfg.mode ∧ k.degraded = true ∧
      k.stopped = !s.cnv.clkOk)
    (f := fun k => { k with
      slices := burstSlices (advance s t) g (cnvG (advance s t) g).cfg.mode
      stopped := !(advance s t).cnv.clkOk
      resumeAt := none
      degraded := true
      gapNext := true }) fun _ _ => ⟨rfl, by rw [group, healthy], rfl, by rw [advance_cnv]⟩
  obtain ⟨hnone, hslices, hdegraded, hstopped⟩ := stands.holds
  refine ⟨_, ?_, hnone, hslices, hdegraded, hstopped, stands.now⟩
  show execBurstResume g s = _
  rw [execBurstResume, hresume]
  rfl

/-! ### The conversion clock -/

theorem cnvStop_clkOk (s : State) (g : Nat) : (cnvStop s g).cnv.clkOk = s.cnv.clkOk :=
  List.foldlRecOn (motive := fun u : State => u.cnv.clkOk = s.cnv.clkOk) _ _ rfl fun _ hu _ _ => hu

theorem adcclkLoss_answers {s : State} {t g : Nat} (hcan : canonical s) (hclk : s.cnv.clkOk = true) (hg : g < 4) :
    Answers (.adcclkLoss t) s fun r =>
      r.cnv.clkOk = false ∧ (cnvG r g).stopped = true ∧ (cnvG r g).fill = none ∧ r.tmb.now = max s.tmb.now t := by
  have runs : ¬(!s.cnv.clkOk) = true := by simp [hclk]
  have reached := ((groupAt_of_canonical hcan g).advance t).mono (Q := fun _ => True) fun _ _ => trivial
  show ∃ r, execAdcclkLoss t s = .next r ∧ _
  unfold execAdcclkLoss
  rw [if_neg runs]
  extract_lets reached' cnv lost stopped
  have losts : CnvAt Cnv.group lost g (fun _ => True) (max s.tmb.now t) := reached.of_eq rfl rfl
  have stops : CnvAt Cnv.group stopped g (fun k => k.stopped = true ∧ k.fill = none) (max s.tmb.now t) :=
    foldl_establishes (f := fun u m => cnvStop (cnvAllBad u m) m) (A := fun u => CnvAt Cnv.group u g (fun _ => True) (max s.tmb.now t))
      (B := fun u => CnvAt Cnv.group u g (fun k => k.stopped = true ∧ k.fill = none) (max s.tmb.now t))
      (fun u m hu => (hu.cnvAllBad m).cnvStopAny m fun _ _ => trivial) (fun u m hu => (hu.cnvAllBad m).cnvStopAny m fun _ _ => ⟨rfl, rfl⟩)
      (fun u hu => (hu.cnvAllBad g).cnvStop) (List.mem_range.2 hg) losts
  have clk : stopped.cnv.clkOk = false :=
    List.foldlRecOn (motive := fun u : State => u.cnv.clkOk = false) _ (fun u m => cnvStop (cnvAllBad u m) m) rfl fun u hu m _ => by
      have same : (cnvAllBad u m).cnv = u.cnv := cnvAllBad_unchanged u m .cnv (by decide)
      rw [cnvStop_clkOk, same, hu]
  clear_value stopped
  have stands := (stops.bumpN cCnvClockLoss 1).cnvEvent evCnvClockLoss 0 0 0
  obtain ⟨hstopped, hfill⟩ := stands.holds
  refine ⟨_, rfl, ?_, hstopped, hfill, stands.now⟩
  rw [cnvEvent, event_cnv, bump_cnv, clk]

theorem adcclkReturn_answers {s : State} {t g : Nat} (hcan : canonical s) (hclk : s.cnv.clkOk = false) (hg : g < 4)
    (hslices : (cnvG s g).slices ≠ []) :
    Answers (.adcclkReturn t) s fun r =>
      r.cnv.clkOk = true ∧ (cnvG r g).stopped = false ∧ (cnvG r g).gapNext = true ∧ r.tmb.now = max s.tmb.now t := by
  have stood : ¬s.cnv.clkOk = true := by simp [hclk]
  have reached := ((groupAt_of_canonical hcan g).advance t).mono (Q := fun k => k.slices ≠ []) fun k hk => hk ▸ hslices
  have goes (k : CnvGroup) (hk : k.slices ≠ []) : (k.slices.isEmpty && k.cfg.mode != 0) = false := by simp [hk]
  show ∃ r, execAdcclkReturn t s = .next r ∧ _
  unfold execAdcclkReturn
  rw [if_neg stood]
  extract_lets reached' cnv back
  have backs : CnvAt Cnv.group back g (fun k => k.slices ≠ []) (max s.tmb.now t) := reached.of_eq rfl rfl
  have stands := foldl_establishes
    (f := fun u m => cnvUpd u m fun k => { k with stopped := k.slices.isEmpty && k.cfg.mode != 0, gapNext := true })
    (A := fun u => CnvAt Cnv.group u g (fun k => k.slices ≠ []) (max s.tmb.now t))
    (B := fun u => CnvAt Cnv.group u g (fun k => k.slices ≠ [] ∧ k.stopped = false ∧ k.gapNext = true) (max s.tmb.now t))
    (fun u m hu => hu.cnvUpdAny m fun _ hk => hk) (fun u m hu => hu.cnvUpdAny m fun k hk => ⟨hk.1, goes k hk.1, rfl⟩)
    (fun u hu => hu.cnvUpd fun k hk => ⟨hk, goes k hk, rfl⟩) (List.mem_range.2 hg) backs
  obtain ⟨-, hstopped, hgap⟩ := stands.holds
  have clk : ((List.range 4).foldl (fun u m => cnvUpd u m fun k => { k with stopped := k.slices.isEmpty && k.cfg.mode != 0, gapNext := true })
      back).cnv.clkOk = true := List.foldlRecOn (motive := fun u : State => u.cnv.clkOk = true) _ _ rfl fun _ hu _ _ => hu
  exact ⟨_, rfl, clk, hstopped, hgap, stands.now⟩

/-- Settles O23, one lemma for each clause: what follows a record's change in the tables of groups and slices leaves the record, and what is
published, told of or sampled leaves both tables. -/
theorem converterCommandsTakeEffect : Obligations.ConverterCommandsTakeEffect := by
  unfold Obligations.ConverterCommandsTakeEffect
  refine ⟨?config, ?boundary, ?first, ?sixteenth, ?start, ?next, ?last, ?cal, ?update, ?defer, ?stale, ?failed, ?resume, ?loss, ?back⟩
  case config => exact fun h c d s hcan hc hunit hcheck => cnvConfig_answers hcan hc hunit hcheck
  case boundary => exact fun g t h c s hcan hnext hboundary => cnvConfigBoundary_answers hcan hnext hboundary
  case first => exact fun g q t cs ovr s hcan hruns hburst hlen hfill => cnvResultFormed_answers_first hcan hruns hburst hlen hfill
  case sixteenth =>
    exact fun g q t cs ovr e s hcan hruns hburst hlen hfill hfull => cnvResultFormed_answers_sixteenth hcan hruns hburst hlen hfill hfull
  case start => exact fun g t n s hcan hruns hmode hnext hn hidle => scanPassStart_answers hcan hruns hmode hnext hn hidle
  case next =>
    exact fun n q t i c ovr e l s hcan hruns hmode hslice hat hl he hmore => scanResult_answers_next hcan hruns hmode hslice hat hl he hmore
  case last =>
    exact fun n q t i c ovr e l s hcan hruns hmode hslice hat hl he hlast => scanResult_answers_last hcan hruns hmode hslice hat hl he hlast
  case cal => exact fun n t s hcan hruns hmode hperiod hdue hidle => calSlot_answers hcan hruns hmode hperiod hdue hidle
  case update =>
    exact fun idle t g s hcan hflag hclk hfg hhold hg hmode hslices hestimate =>
      temperBgUpdate_answers hcan hflag hclk hfg hhold hg hmode hslices hestimate
  case defer => exact fun g t s hcan hdefer => temperDeferExpiry_answers hcan hdefer
  case stale => exact fun t s hstale hwarm => calStaleTimeout_answers hstale hwarm
  case failed => exact fun n cause t s hcan hn hlo hhi hworks => sliceFailed_answers hcan hn hlo hhi hworks
  case resume => exact fun g t s hcan hresume => burstResume_answers hcan hresume
  case loss => exact fun t g s hcan hclk hg => adcclkLoss_answers hcan hclk hg
  case back => exact fun t g s hcan hclk hg hslices => adcclkReturn_answers hcan hclk hg hslices

end Sys2Proof.Machine
end

section
/-! How a change of the state is described (O38 to O46, O51, O53): the parts of the state it may reach, that it keeps the tables canonical, and that
the one-time programmable memory only grows. One rule for a write of each part, and rules for changes in turn, in one case, and for every
element of a list. -/
-- One proof after another: in parallel, so many small proofs would take more threads than the check gives.
set_option Elab.async false
namespace Sys2Proof
variable {α β : Type} [Inhabited α] [DecidableEq α]

/-- Changes one after another that each keep the canonical form keep it. -/
theorem SMap.wf_foldl {f : SMap α → β → SMap α} {l : List β} {m : SMap α} (hf : ∀ m x, m.wf = true → (f m x).wf = true) (h : m.wf = true) :
    (l.foldl f m).wf = true := by
  induction l generalizing m with
  | nil => exact h
  | cons x t ih => exact ih (hf m x h)

theorem SMap.wf_ite {m n : SMap α} {c : Prop} {_ : Decidable c} (h : m.wf = true) (g : n.wf = true) : (if c then m else n).wf = true := by
  split
  · exact h
  · exact g

end Sys2Proof

namespace Sys2Proof.Machine
open Sys2Proof

/-! ### Canonical tables, part by part -/

/-- The tables of the Timeline block are canonical. -/
structure TmbTables (sources : SMap TimeSource) (tio : SMap TioPin) : Prop where
  sources : sources.wf = true
  tio : tio.wf = true

abbrev Tmb.canon (x : Tmb) : Prop := TmbTables x.sources x.tio

/-- The tables of the point store are canonical. -/
structure PstTables (points : SMap PointRec) (views : SMap View) : Prop where
  points : points.wf = true
  views : views.wf = true

abbrev Pst.canon (x : Pst) : Prop := PstTables x.points x.views

/-- The tables of the host interface are canonical. -/
structure HifTables (sq : SMap Sq) (cq : SMap Cq) : Prop where
  sq : sq.wf = true
  cq : cq.wf = true

abbrev Hif.canon (x : Hif) : Prop := HifTables x.sq x.cq

/-- The tables of the Cycle Engine are canonical. -/
structure CycTables (slots : SMap Slot) (classes : SMap ClassRun) : Prop where
  slots : slots.wf = true
  classes : classes.wf = true

abbrev Cyc.canon (x : Cyc) : Prop := CycTables x.slots x.classes

/-- The tables of Hearth are canonical. -/
structure HrtTables (counters : SMap Nat) (cores : SMap Core) : Prop where
  counters : counters.wf = true
  cores : cores.wf = true

abbrev Hrt.canon (x : Hrt) : Prop := HrtTables x.counters x.cores

/-- The tables of the Interlock Engine are canonical. -/
structure IleTables (markers : SMap Bool) (timers : SMap IleTimer) (edges : SMap (Option Bool)) (alarms compares : SMap Bool)
    (outs fbOuts : SMap IleOut) : Prop where
  markers : markers.wf = true
  timers : timers.wf = true
  edges : edges.wf = true
  alarms : alarms.wf = true
  compares : compares.wf = true
  outs : outs.wf = true
  fbOuts : fbOuts.wf = true

abbrev Ile.canon (x : Ile) : Prop := IleTables x.markers x.timers x.edges x.alarms x.compares x.outs x.fbOuts

/-- The tables of the converter array are canonical. -/
structure CnvTables (group : SMap CnvGroup) (slice : SMap CnvSlice) : Prop where
  group : group.wf = true
  slice : slice.wf = true

abbrev Cnv.canon (x : Cnv) : Prop := CnvTables x.group x.slice

/-- The tables of the Anvil array are canonical. -/
structure AnvTables (core : SMap AnvCore) (loop : SMap Loop) : Prop where
  core : core.wf = true
  loop : loop.wf = true

abbrev Anv.canon (x : Anv) : Prop := AnvTables x.core x.loop

/-- The tables of the Station Network are canonical. -/
structure StnTables (port : SMap StnPort) (st : SMap Station) : Prop where
  port : port.wf = true
  st : st.wf = true

abbrev Stn.canon (x : Stn) : Prop := StnTables x.port x.st

/-- The tables of the Walig Link are canonical. -/
structure WaligTables (port : SMap WPort) (seq : SMap Nat) (mods : SMap (Option ModInfo)) (rep : SMap (Option RepPoint)) : Prop where
  port : port.wf = true
  seq : seq.wf = true
  mods : mods.wf = true
  rep : rep.wf = true

abbrev Walig.canon (x : Walig) : Prop := WaligTables x.port x.seq x.mods x.rep

/-- The tables of pairing are canonical. -/
structure ParTables (regions acc : SMap Bytes) (inputs : SMap (List (Nat × Bytes))) : Prop where
  regions : regions.wf = true
  acc : acc.wf = true
  inputs : inputs.wf = true

abbrev Par.canon (x : Par) : Prop := ParTables x.regions x.acc x.inputs

/-- The tables of MRAM are canonical. -/
structure MramTables (retained : SMap (Option PointRec)) (journal : SMap (List LoopSave)) (axes : SMap (Option AxisJournal))
    (recipes : SMap RecipeJournal) (slots : SMap (Option EventRec)) (pages : SMap LogPage) : Prop where
  retained : retained.wf = true
  journal : journal.wf = true
  axes : axes.wf = true
  recipes : recipes.wf = true
  slots : slots.wf = true
  pages : pages.wf = true

abbrev Mram.canon (x : Mram) : Prop := MramTables x.retained x.journal x.axes x.recipes x.log.slots x.log.pages

/-- The tables of Hendel are canonical. -/
structure HdlTables (bank : SMap Bank) (sensor : SMap Sensor) (pmFails levels : SMap Nat) (loops : SMap (Option Bytes)) : Prop where
  bank : bank.wf = true
  sensor : sensor.wf = true
  pmFails : pmFails.wf = true
  levels : levels.wf = true
  loops : loops.wf = true

abbrev Hdl.canon (x : Hdl) : Prop := HdlTables x.bank x.sensor x.pmFails x.otp.levels x.boot.loops

/-- The tables of one part of the state are canonical. -/
def partCanon (s : State) : Part → Prop
  | .regs => s.regs.wf = true
  | .staged => s.staged.wf = true
  | .commits => s.commits.wf = true
  | .tmb => s.tmb.canon
  | .pst => s.pst.canon
  | .hif => s.hif.canon
  | .recd => s.recd.hist.wf = true
  | .cyc => s.cyc.canon
  | .hrt => s.hrt.canon
  | .ile => s.ile.canon
  | .cnv => s.cnv.canon
  | .anv => s.anv.canon
  | .cap => s.cap.ch.wf = true
  | .qch => s.qch.pin.wf = true
  | .fbk => s.fbk.ch.wf = true
  | .mot => s.mot.ax.wf = true
  | .stn => s.stn.canon
  | .seq => s.seq.exec.wf = true
  | .can => s.can.ctl.wf = true
  | .wlk => s.wlk.canon
  | .par => s.par.canon
  | .mram => s.mram.canon
  | .hdl => s.hdl.canon
  | _ => True


theorem canonical_iff (s : State) : canonical s ↔ ∀ p, partCanon s p := by
  constructor
  · intro h p
    simp only [canonical, Bool.and_eq_true] at h
    cases p with
    | tmb | pst | hif | cyc | hrt | ile | cnv | anv | stn | wlk | par | mram | hdl => constructor <;> simp only [h]
    | _ => simp only [partCanon, h]
  · intro h
    have regs : s.regs.wf = true := h .regs
    have staged : s.staged.wf = true := h .staged
    have commits : s.commits.wf = true := h .commits
    have recd : s.recd.hist.wf = true := h .recd
    have cap : s.cap.ch.wf = true := h .cap
    have qch : s.qch.pin.wf = true := h .qch
    have fbk : s.fbk.ch.wf = true := h .fbk
    have mot : s.mot.ax.wf = true := h .mot
    have seq : s.seq.exec.wf = true := h .seq
    have can : s.can.ctl.wf = true := h .can
    obtain ⟨t1, t2⟩ : s.tmb.canon := h .tmb
    obtain ⟨p1, p2⟩ : s.pst.canon := h .pst
    obtain ⟨h1, h2⟩ : s.hif.canon := h .hif
    obtain ⟨c1, c2⟩ : s.cyc.canon := h .cyc
    obtain ⟨r1, r2⟩ : s.hrt.canon := h .hrt
    obtain ⟨i1, i2, i3, i4, i5, i6, i7⟩ : s.ile.canon := h .ile
    obtain ⟨v1, v2⟩ : s.cnv.canon := h .cnv
    obtain ⟨a1, a2⟩ : s.anv.canon := h .anv
    obtain ⟨n1, n2⟩ : s.stn.canon := h .stn
    obtain ⟨w1, w2, w3, w4⟩ : s.wlk.canon := h .wlk
    obtain ⟨q1, q2, q3⟩ : s.par.canon := h .par
    obtain ⟨m1, m2, m3, m4, m5, m6⟩ : s.mram.canon := h .mram
    obtain ⟨d1, d2, d3, d4, d5⟩ : s.hdl.canon := h .hdl
    simp only [canonical, *, Bool.and_self]

theorem otpGrows_refl (a : Otp) : otpGrows a a := ⟨fun _ => Nat.le_refl _, by simp, id, rfl⟩

theorem otpGrows.trans {a b c : Otp} (h : otpGrows a b) (g : otpGrows b c) : otpGrows a c := by
  obtain ⟨h1, h2, h3, h4⟩ := h
  obtain ⟨g1, g2, g3, g4⟩ := g
  refine ⟨fun k => (h1 k).trans (g1 k), ?_, fun hr => g3 (h3 hr), h4.trans g4⟩
  rw [← h2, Nat.land_assoc, g2]

theorem Part.ctorIdx_inj {a b : Part} (e : a.ctorIdx = b.ctorIdx) : a = b := by
  rw [← Part.ofNat_ctorIdx a, e, Part.ofNat_ctorIdx]

/-- A sorted list of parts within another sorted one, as a computation: `rfl` then shows every inclusion of two listed frames. -/
def Part.within : List Part → List Part → Bool
  | [], _ => true
  | _, [] => false
  | a :: s, b :: t => if a.ctorIdx = b.ctorIdx then Part.within s t else Part.within (a :: s) t

theorem Part.subset_of_within : ∀ {l m : List Part}, Part.within l m = true → l ⊆ m
  | [], _, _ => List.nil_subset _
  | a :: s, [], h => by simp [Part.within] at h
  | a :: s, b :: t, h => by
    unfold Part.within at h
    split at h
    next e =>
      obtain rfl : a = b := Part.ctorIdx_inj e
      exact List.cons_subset_cons _ (Part.subset_of_within h)
    next => exact List.subset_cons_of_subset _ (Part.subset_of_within h)

theorem Part.within_subset {l m n : List Part} (h : Part.within l m = true) (g : m ⊆ n) : l ⊆ n := fun _ hx => g (Part.subset_of_within h hx)

/-- What a change of the state from `s` to `t` keeps: the parts outside `l`, the canonical form of the tables, and what the OTP holds. -/
structure Moves (l : List Part) (s t : State) : Prop where
  frame : unchangedBut l s t
  canon : canonical s → canonical t
  otp : otpGrows s.hdl.otp t.hdl.otp

theorem Moves.refl {l : List Part} {s : State} : Moves l s s := ⟨unchangedBut_refl _ _, id, otpGrows_refl _⟩

theorem Moves.trans {l : List Part} {s t u : State} (h : Moves l s t) (g : Moves l t u) : Moves l s u :=
  ⟨h.frame.trans g.frame, g.canon ∘ h.canon, h.otp.trans g.otp⟩

theorem Moves.mono {l m : List Part} {s t : State} (g : Moves m s t) (hm : Part.within m l = true := by rfl) : Moves l s t :=
  ⟨g.frame.mono (Part.subset_of_within hm), g.canon, g.otp⟩

theorem Moves.sub {l m : List Part} {s t : State} (g : Moves m s t) (hm : m ⊆ l) : Moves l s t := ⟨g.frame.mono hm, g.canon, g.otp⟩

/-- A change after another. -/
theorem Moves.after {l m : List Part} {s t u : State} (g : Moves m t u) (h : Moves l s t) (hm : Part.within m l = true := by rfl) : Moves l s u :=
  h.trans (g.mono hm)

theorem Moves.ite {l : List Part} {s t u : State} {c : Prop} {_ : Decidable c} (h : Moves l s t) (g : Moves l s u) :
    Moves l s (if c then t else u) := by
  split
  · exact h
  · exact g

/-- A change made in one case only. -/
theorem Moves.iteThen {l : List Part} {s t u : State} {c : Prop} {_ : Decidable c} (g : Moves l t u) (h : Moves l s t) :
    Moves l s (if c then u else t) := .ite (h.trans g) h

theorem Moves.iteElse {l : List Part} {s t u : State} {c : Prop} {_ : Decidable c} (g : Moves l t u) (h : Moves l s t) :
    Moves l s (if c then t else u) := .ite h (h.trans g)

theorem Moves.foldl {l : List Part} {s t : State} {β : Type} {f : State → β → State} {xs : List β} (h : Moves l s t)
    (hf : ∀ u x, Moves l u (f u x)) : Moves l s (xs.foldl f t) :=
  List.foldlRecOn xs f h fun u hu x _ => hu.trans (hf u x)

theorem Moves.update {l : List Part} {s t u : State} (p : Part) (h :
    Moves l s t) (hl : Part.within [p] l = true) (same : ∀ q, q ≠ p → samePart t u q)
    (hx : partCanon t p → partCanon u p) (ho : otpGrows t.hdl.otp u.hdl.otp) : Moves l s u := by
  refine h.trans ⟨fun q hq => same q fun e => hq ?_, fun hc => ?_, ho⟩
  · subst e
    exact Part.subset_of_within hl (by simp)
  · rw [canonical_iff] at hc ⊢
    intro q
    by_cases hq : q = p
    · subst hq
      exact hx (hc q)
    · have e := same q hq
      have c := hc q
      cases q <;> simp_all only [samePart, partCanon]

theorem Moves.setRegs {l : List Part} {s t : State} {x : SMap (Option Word)} (h : Moves l s t)
    (hx : t.regs.wf = true → x.wf = true := by exact fun h => h) (hl : Part.within [.regs] l = true := by rfl) :
    Moves l s { t with regs := x } :=
  h.update .regs hl (fun q hq => by cases q <;> simp_all [samePart]) hx (otpGrows_refl _)

theorem Moves.setStaged {l : List Part} {s t : State} {x : SMap (Option Word)} (h : Moves l s t)
    (hx : t.staged.wf = true → x.wf = true := by exact fun h => h) (hl : Part.within [.staged] l = true := by rfl) :
    Moves l s { t with staged := x } :=
  h.update .staged hl (fun q hq => by cases q <;> simp_all [samePart]) hx (otpGrows_refl _)

theorem Moves.setCommits {l : List Part} {s t : State} {x : SMap CommitStat} (h : Moves l s t)
    (hx : t.commits.wf = true → x.wf = true := by exact fun h => h) (hl : Part.within [.commits] l = true := by rfl) :
    Moves l s { t with commits := x } :=
  h.update .commits hl (fun q hq => by cases q <;> simp_all [samePart]) hx (otpGrows_refl _)

theorem Moves.setTmb {l : List Part} {s t : State} {x : Tmb} (h : Moves l s t)
    (hx : t.tmb.canon → x.canon := by exact fun h => h) (hl : Part.within [.tmb] l = true := by rfl) :
    Moves l s { t with tmb := x } :=
  h.update .tmb hl (fun q hq => by cases q <;> simp_all [samePart]) hx (otpGrows_refl _)

theorem Moves.setPst {l : List Part} {s t : State} {x : Pst} (h : Moves l s t)
    (hx : t.pst.canon → x.canon := by exact fun h => h) (hl : Part.within [.pst] l = true := by rfl) :
    Moves l s { t with pst := x } :=
  h.update .pst hl (fun q hq => by cases q <;> simp_all [samePart]) hx (otpGrows_refl _)

theorem Moves.setHif {l : List Part} {s t : State} {x : Hif} (h : Moves l s t)
    (hx : t.hif.canon → x.canon := by exact fun h => h) (hl : Part.within [.hif] l = true := by rfl) :
    Moves l s { t with hif := x } :=
  h.update .hif hl (fun q hq => by cases q <;> simp_all [samePart]) hx (otpGrows_refl _)

theorem Moves.setRecd {l : List Part} {s t : State} {x : Recd} (h : Moves l s t)
    (hx : t.recd.hist.wf = true → x.hist.wf = true := by exact fun h => h) (hl : Part.within [.recd] l = true := by rfl) :
    Moves l s { t with recd := x } :=
  h.update .recd hl (fun q hq => by cases q <;> simp_all [samePart]) hx (otpGrows_refl _)

theorem Moves.setCyc {l : List Part} {s t : State} {x : Cyc} (h : Moves l s t)
    (hx : t.cyc.canon → x.canon := by exact fun h => h) (hl : Part.within [.cyc] l = true := by rfl) :
    Moves l s { t with cyc := x } :=
  h.update .cyc hl (fun q hq => by cases q <;> simp_all [samePart]) hx (otpGrows_refl _)

theorem Moves.setHrt {l : List Part} {s t : State} {x : Hrt} (h : Moves l s t)
    (hx : t.hrt.canon → x.canon := by exact fun h => h) (hl : Part.within [.hrt] l = true := by rfl) :
    Moves l s { t with hrt := x } :=
  h.update .hrt hl (fun q hq => by cases q <;> simp_all [samePart]) hx (otpGrows_refl _)

theorem Moves.setIle {l : List Part} {s t : State} {x : Ile} (h : Moves l s t)
    (hx : t.ile.canon → x.canon := by exact fun h => h) (hl : Part.within [.ile] l = true := by rfl) :
    Moves l s { t with ile := x } :=
  h.update .ile hl (fun q hq => by cases q <;> simp_all [samePart]) hx (otpGrows_refl _)

theorem Moves.setCnv {l : List Part} {s t : State} {x : Cnv} (h : Moves l s t)
    (hx : t.cnv.canon → x.canon := by exact fun h => h) (hl : Part.within [.cnv] l = true := by rfl) :
    Moves l s { t with cnv := x } :=
  h.update .cnv hl (fun q hq => by cases q <;> simp_all [samePart]) hx (otpGrows_refl _)

theorem Moves.setAnv {l : List Part} {s t : State} {x : Anv} (h : Moves l s t)
    (hx : t.anv.canon → x.canon := by exact fun h => h) (hl : Part.within [.anv] l = true := by rfl) :
    Moves l s { t with anv := x } :=
  h.update .anv hl (fun q hq => by cases q <;> simp_all [samePart]) hx (otpGrows_refl _)

theorem Moves.setCap {l : List Part} {s t : State} {x : Cap} (h : Moves l s t)
    (hx : t.cap.ch.wf = true → x.ch.wf = true := by exact fun h => h) (hl : Part.within [.cap] l = true := by rfl) :
    Moves l s { t with cap := x } :=
  h.update .cap hl (fun q hq => by cases q <;> simp_all [samePart]) hx (otpGrows_refl _)

theorem Moves.setQch {l : List Part} {s t : State} {x : Qch} (h : Moves l s t)
    (hx : t.qch.pin.wf = true → x.pin.wf = true := by exact fun h => h) (hl : Part.within [.qch] l = true := by rfl) :
    Moves l s { t with qch := x } :=
  h.update .qch hl (fun q hq => by cases q <;> simp_all [samePart]) hx (otpGrows_refl _)

theorem Moves.setFbk {l : List Part} {s t : State} {x : Fbk} (h : Moves l s t)
    (hx : t.fbk.ch.wf = true → x.ch.wf = true := by exact fun h => h) (hl : Part.within [.fbk] l = true := by rfl) :
    Moves l s { t with fbk := x } :=
  h.update .fbk hl (fun q hq => by cases q <;> simp_all [samePart]) hx (otpGrows_refl _)

theorem Moves.setMot {l : List Part} {s t : State} {x : Mot} (h : Moves l s t)
    (hx : t.mot.ax.wf = true → x.ax.wf = true := by exact fun h => h) (hl : Part.within [.mot] l = true := by rfl) :
    Moves l s { t with mot := x } :=
  h.update .mot hl (fun q hq => by cases q <;> simp_all [samePart]) hx (otpGrows_refl _)

theorem Moves.setStn {l : List Part} {s t : State} {x : Stn} (h : Moves l s t)
    (hx : t.stn.canon → x.canon := by exact fun h => h) (hl : Part.within [.stn] l = true := by rfl) :
    Moves l s { t with stn := x } :=
  h.update .stn hl (fun q hq => by cases q <;> simp_all [samePart]) hx (otpGrows_refl _)

theorem Moves.setSeq {l : List Part} {s t : State} {x : Seq} (h : Moves l s t)
    (hx : t.seq.exec.wf = true → x.exec.wf = true := by exact fun h => h) (hl : Part.within [.seq] l = true := by rfl) :
    Moves l s { t with seq := x } :=
  h.update .seq hl (fun q hq => by cases q <;> simp_all [samePart]) hx (otpGrows_refl _)

theorem Moves.setCan {l : List Part} {s t : State} {x : Can} (h : Moves l s t)
    (hx : t.can.ctl.wf = true → x.ctl.wf = true := by exact fun h => h) (hl : Part.within [.can] l = true := by rfl) :
    Moves l s { t with can := x } :=
  h.update .can hl (fun q hq => by cases q <;> simp_all [samePart]) hx (otpGrows_refl _)

theorem Moves.setWlk {l : List Part} {s t : State} {x : Walig} (h : Moves l s t)
    (hx : t.wlk.canon → x.canon := by exact fun h => h) (hl : Part.within [.wlk] l = true := by rfl) :
    Moves l s { t with wlk := x } :=
  h.update .wlk hl (fun q hq => by cases q <;> simp_all [samePart]) hx (otpGrows_refl _)

theorem Moves.setPar {l : List Part} {s t : State} {x : Par} (h : Moves l s t)
    (hx : t.par.canon → x.canon := by exact fun h => h) (hl : Part.within [.par] l = true := by rfl) :
    Moves l s { t with par := x } :=
  h.update .par hl (fun q hq => by cases q <;> simp_all [samePart]) hx (otpGrows_refl _)

theorem Moves.setMram {l : List Part} {s t : State} {x : Mram} (h : Moves l s t)
    (hx : t.mram.canon → x.canon := by exact fun h => h) (hl : Part.within [.mram] l = true := by rfl) :
    Moves l s { t with mram := x } :=
  h.update .mram hl (fun q hq => by cases q <;> simp_all [samePart]) hx (otpGrows_refl _)

theorem Moves.setAon {l : List Part} {s t : State} {x : Aon} (h : Moves l s t) (hl : Part.within [.aon] l = true := by rfl) :
    Moves l s { t with aon := x } :=
  h.update .aon hl (fun q hq => by cases q <;> simp_all [samePart]) (fun _ => trivial) (otpGrows_refl _)

theorem Moves.setPwr {l : List Part} {s t : State} {x : Pwr} (h : Moves l s t) (hl : Part.within [.pwr] l = true := by rfl) :
    Moves l s { t with pwr := x } :=
  h.update .pwr hl (fun q hq => by cases q <;> simp_all [samePart]) (fun _ => trivial) (otpGrows_refl _)

theorem Moves.setHdl {l : List Part} {s t : State} {x : Hdl} (h : Moves l s t)
    (hx : t.hdl.canon → x.canon := by exact fun h => h) (hl : Part.within [.hdl] l = true := by rfl)
    (ho : otpGrows t.hdl.otp x.otp := by exact otpGrows_refl _) :
    Moves l s { t with hdl := x } :=
  h.update .hdl hl (fun q hq => by cases q <;> simp_all [samePart]) hx ho

theorem Moves.setRdata {l : List Part} {s t : State} {x : Word} (h : Moves l s t) (hl : Part.within [.rdata] l = true := by rfl) :
    Moves l s { t with rdata := x } :=
  h.update .rdata hl (fun q hq => by cases q <;> simp_all [samePart]) (fun _ => trivial) (otpGrows_refl _)

theorem Moves.setOut {l : List Part} {s t : State} {x : List Out} (h : Moves l s t) (hl : Part.within [.out] l = true := by rfl) :
    Moves l s { t with out := x } :=
  h.update .out hl (fun q hq => by cases q <;> simp_all [samePart]) (fun _ => trivial) (otpGrows_refl _)

theorem Moves.setFreeCtr {l : List Part} {s t : State} {x : Nat} (h : Moves l s t) (hl : Part.within [.freeCtr] l = true := by rfl) :
    Moves l s { t with freeCtr := x } :=
  h.update .freeCtr hl (fun q hq => by cases q <;> simp_all [samePart]) (fun _ => trivial) (otpGrows_refl _)

theorem Moves.setRecdMram {l : List Part} {s t : State} {x : Recd} {y : Mram} (h : Moves l s t)
    (hrecd : t.recd.hist.wf = true → x.hist.wf = true := by exact fun h => h)
    (hmram : t.mram.canon → y.canon := by exact fun h => h)
    (hl1 : Part.within [.recd] l = true := by rfl) (hl2 : Part.within [.mram] l = true := by rfl) :
    Moves l s { t with recd := x, mram := y } :=
  Moves.setMram (t := { t with recd := x }) (Moves.setRecd (t := t) h hrecd hl1) hmram hl2

theorem Moves.setStnMram {l : List Part} {s t : State} {x : Stn} {y : Mram} (h : Moves l s t)
    (hstn : t.stn.canon → x.canon := by exact fun h => h)
    (hmram : t.mram.canon → y.canon := by exact fun h => h)
    (hl1 : Part.within [.stn] l = true := by rfl) (hl2 : Part.within [.mram] l = true := by rfl) :
    Moves l s { t with stn := x, mram := y } :=
  Moves.setMram (t := { t with stn := x }) (Moves.setStn (t := t) h hstn hl1) hmram hl2

theorem Moves.setTmbRdata {l : List Part} {s t : State} {x : Tmb} {y : Word} (h : Moves l s t)
    (htmb : t.tmb.canon → x.canon := by exact fun h => h)
    (hl1 : Part.within [.tmb] l = true := by rfl) (hl2 : Part.within [.rdata] l = true := by rfl) :
    Moves l s { t with tmb := x, rdata := y } :=
  Moves.setRdata (t := { t with tmb := x }) (Moves.setTmb (t := t) h htmb hl1) hl2

theorem Moves.setHrtPar {l : List Part} {s t : State} {x : Hrt} {y : Par} (h : Moves l s t)
    (hhrt : t.hrt.canon → x.canon := by exact fun h => h)
    (hpar : t.par.canon → y.canon := by exact fun h => h)
    (hl1 : Part.within [.hrt] l = true := by rfl) (hl2 : Part.within [.par] l = true := by rfl) :
    Moves l s { t with hrt := x, par := y } :=
  Moves.setPar (t := { t with hrt := x }) (Moves.setHrt (t := t) h hhrt hl1) hpar hl2

theorem Moves.setHifRecd {l : List Part} {s t : State} {x : Hif} {y : Recd} (h : Moves l s t)
    (hhif : t.hif.canon → x.canon := by exact fun h => h)
    (hrecd : t.recd.hist.wf = true → y.hist.wf = true := by exact fun h => h)
    (hl1 : Part.within [.hif] l = true := by rfl) (hl2 : Part.within [.recd] l = true := by rfl) :
    Moves l s { t with hif := x, recd := y } :=
  Moves.setRecd (t := { t with hif := x }) (Moves.setHif (t := t) h hhif hl1) hrecd hl2

theorem Moves.setHifPwr {l : List Part} {s t : State} {x : Hif} {y : Pwr} (h : Moves l s t)
    (hhif : t.hif.canon → x.canon := by exact fun h => h)
    (hl1 : Part.within [.hif] l = true := by rfl) (hl2 : Part.within [.pwr] l = true := by rfl) :
    Moves l s { t with hif := x, pwr := y } :=
  Moves.setPwr (t := { t with hif := x }) (Moves.setHif (t := t) h hhif hl1) hl2

theorem Moves.setHifPwrHdl {l : List Part} {s t : State} {x : Hif} {y : Pwr} {z : Hdl} (h : Moves l s t)
    (hhif : t.hif.canon → x.canon := by exact fun h => h)
    (hhdl : t.hdl.canon → z.canon := by exact fun h => h)
    (ho : otpGrows t.hdl.otp z.otp := by exact otpGrows_refl _)
    (hl1 : Part.within [.hif] l = true := by rfl) (hl2 : Part.within [.pwr] l = true := by rfl) (hl3 : Part.within [.hdl] l = true := by rfl) :
    Moves l s { t with hif := x, pwr := y, hdl := z } :=
  Moves.setHdl (t := { t with hif := x, pwr := y }) (Moves.setPwr (t := { t with hif := x }) (Moves.setHif (t := t) h hhif hl1) hl2) hhdl hl3 ho

theorem Moves.setPstHifPwrHdl {l : List Part} {s t : State} {x : Pst} {y : Hif} {z : Pwr} {w : Hdl} (h : Moves l s t)
    (hpst : t.pst.canon → x.canon := by exact fun h => h)
    (hhif : t.hif.canon → y.canon := by exact fun h => h)
    (hhdl : t.hdl.canon → w.canon := by exact fun h => h)
    (ho : otpGrows t.hdl.otp w.otp := by exact otpGrows_refl _)
    (hl1 : Part.within [.pst] l = true := by rfl) (hl2 : Part.within [.hif] l = true := by rfl) (hl3 : Part.within [.pwr] l = true := by rfl)
        (hl4 : Part.within [.hdl] l = true := by rfl) :
    Moves l s { t with pst := x, hif := y, pwr := z, hdl := w } :=
  Moves.setHdl (t := { t with pst := x, hif := y, pwr := z }) (Moves.setPwr (t := { t with pst := x, hif := y })
      (Moves.setHif (t := { t with pst := x }) (Moves.setPst (t := t) h hpst hl1) hhif hl2) hl3) hhdl hl4 ho

theorem Moves.setCnvStnHdl {l : List Part} {s t : State} {x : Cnv} {y : Stn} {z : Hdl} (h : Moves l s t)
    (hcnv : t.cnv.canon → x.canon := by exact fun h => h)
    (hstn : t.stn.canon → y.canon := by exact fun h => h)
    (hhdl : t.hdl.canon → z.canon := by exact fun h => h)
    (ho : otpGrows t.hdl.otp z.otp := by exact otpGrows_refl _)
    (hl1 : Part.within [.cnv] l = true := by rfl) (hl2 : Part.within [.stn] l = true := by rfl) (hl3 : Part.within [.hdl] l = true := by rfl) :
    Moves l s { t with cnv := x, stn := y, hdl := z } :=
  Moves.setHdl (t := { t with cnv := x, stn := y }) (Moves.setStn (t := { t with cnv := x }) (Moves.setCnv (t := t) h hcnv hl1) hstn hl2) hhdl hl3
      ho

theorem Moves.setPstCyc {l : List Part} {s t : State} {x : Pst} {y : Cyc} (h : Moves l s t)
    (hpst : t.pst.canon → x.canon := by exact fun h => h)
    (hcyc : t.cyc.canon → y.canon := by exact fun h => h)
    (hl1 : Part.within [.pst] l = true := by rfl) (hl2 : Part.within [.cyc] l = true := by rfl) :
    Moves l s { t with pst := x, cyc := y } :=
  Moves.setCyc (t := { t with pst := x }) (Moves.setPst (t := t) h hpst hl1) hcyc hl2

theorem Moves.setAnvHdl {l : List Part} {s t : State} {x : Anv} {y : Hdl} (h : Moves l s t)
    (hanv : t.anv.canon → x.canon := by exact fun h => h)
    (hhdl : t.hdl.canon → y.canon := by exact fun h => h)
    (ho : otpGrows t.hdl.otp y.otp := by exact otpGrows_refl _)
    (hl1 : Part.within [.anv] l = true := by rfl) (hl2 : Part.within [.hdl] l = true := by rfl) :
    Moves l s { t with anv := x, hdl := y } :=
  Moves.setHdl (t := { t with anv := x }) (Moves.setAnv (t := t) h hanv hl1) hhdl hl2 ho

theorem Moves.setQchPar {l : List Part} {s t : State} {x : Qch} {y : Par} (h : Moves l s t)
    (hqch : t.qch.pin.wf = true → x.pin.wf = true := by exact fun h => h)
    (hpar : t.par.canon → y.canon := by exact fun h => h)
    (hl1 : Part.within [.qch] l = true := by rfl) (hl2 : Part.within [.par] l = true := by rfl) :
    Moves l s { t with qch := x, par := y } :=
  Moves.setPar (t := { t with qch := x }) (Moves.setQch (t := t) h hqch hl1) hpar hl2

theorem Moves.ite_fst {α : Type} {l : List Part} {s : State} {x y : State × α} {c : Prop} {_ : Decidable c} (h : Moves l s x.1)
    (g : Moves l s y.1) : Moves l s (if c then x else y).1 := by
  split
  · exact h
  · exact g

theorem Moves.ite_snd {α : Type} {l : List Part} {s : State} {x y : α × State} {c : Prop} {_ : Decidable c} (h : Moves l s x.2)
    (g : Moves l s y.2) : Moves l s (if c then x else y).2 := by
  split
  · exact h
  · exact g

theorem Moves.foldl_fst {α β : Type} {l : List Part} {s : State} {f : State × α → β → State × α} {xs : List β} {p : State × α}
    (h : Moves l s p.1) (hf : ∀ q x, Moves l q.1 (f q x).1) : Moves l s (xs.foldl f p).1 := by
  induction xs generalizing p with
  | nil => exact h
  | cons x t ih => exact ih (h.trans (hf p x))

theorem Moves.foldl_snd {α β : Type} {l : List Part} {s : State} {f : α × State → β → α × State} {xs : List β} {p : α × State}
    (h : Moves l s p.2) (hf : ∀ q x, Moves l q.2 (f q x).2) : Moves l s (xs.foldl f p).2 := by
  induction xs generalizing p with
  | nil => exact h
  | cons x t ih => exact ih (h.trans (hf p x))

theorem Moves.of_fst {α : Type} {l : List Part} {s t : State} {p : State × α} {a : α} (e : p = (t, a)) (h : Moves l s p.1) : Moves l s t := by
  subst e
  exact h

/-- A command answers a next state that changes the parts of a list. -/
def Next (l : List Part) (s : State) (r : Res) : Prop := ∃ t, r = .next t ∧ Moves l s t

theorem Next.ok {l : List Part} {s t : State} (h : Moves l s t) : Next l s (ok t) := ⟨t, rfl, h⟩

theorem Next.ite {l : List Part} {s : State} {x y : Res} {c : Prop} {_ : Decidable c} (h : Next l s x) (g : Next l s y) :
    Next l s (if c then x else y) := by
  split
  · exact h
  · exact g

theorem Next.after {l m : List Part} {s t : State} {x : Res} (g : Next m t x) (h : Moves l s t) (hm : Part.within m l = true := by rfl) :
    Next l s x := by
  obtain ⟨u, e, g⟩ := g
  exact ⟨u, e, g.after h hm⟩

theorem Next.mono {l m : List Part} {s : State} {x : Res} (g : Next m s x) (hm : Part.within m l = true := by rfl) : Next l s x := g.after .refl hm

end Sys2Proof.Machine
end

section
/-! What the functions of stored registers may change. -/
set_option Elab.async false
namespace Sys2Proof.Machine
open Sys2Proof

theorem setStored_moves {s : State} {a : Nat} {v : Word} : Moves [.regs] s (setStored s a v) :=
  Moves.refl.setRegs fun h => SMap.wf_set _ _ _ h

theorem setStaged_moves {s : State} {a : Nat} {v : Word} : Moves [.staged] s (setStaged s a v) :=
  Moves.refl.setStaged fun h => SMap.wf_set _ _ _ h

theorem setFld_moves {s : State} {f : Fld} {x : Nat} : Moves [.regs] s (setFld s f x) :=
  setStored_moves

theorem bumpN_moves {s : State} {a n : Nat} : Moves [.regs] s (bumpN s a n) :=
  setStored_moves

theorem bump_moves {s : State} {a : Nat} : Moves [.regs] s (bump s a) :=
  bumpN_moves

theorem bumpMax_moves {s : State} {a n : Nat} : Moves [.regs] s (bumpMax s a n) :=
  .ite setStored_moves .refl

theorem send_moves {s : State} {o : Out} : Moves [.out] s (send s o) :=
  Moves.refl.setOut

theorem sendAll_moves {s : State} {l : List Out} : Moves [.out] s (sendAll s l) :=
  Moves.refl.setOut

theorem setCommit_moves {s : State} {w : Nat} {st : Status} {p : Bool} : Moves [.commits] s (setCommit s w st p) :=
  Moves.refl.setCommits fun h => SMap.wf_set _ _ _ h

theorem clearStaged_wf {m : SMap (Option Word)} {w : Nat} (h : m.wf = true) : (clearStaged m w).wf = true := SMap.wf_filter _ _ h

theorem applyStaged_moves {s : State} {w : Nat} : Moves [.regs, .staged] s (applyStaged s w) := by
  have applied : Moves [.regs] s ((stagedIn s w).foldl (fun t e => setStored t e.1 (stagedOf s e.1)) s) := .foldl .refl fun _ _ => setStored_moves
  have kept := applied.frame .staged (by decide)
  exact .setStaged applied.mono fun h => clearStaged_wf (kept ▸ h)

theorem drawFree_moves {s : State} : Moves [.freeCtr] s (drawFree s).2 :=
  Moves.refl.setFreeCtr

end Sys2Proof.Machine
end

section
/-! What the functions of events and the history of signals may change. -/
set_option Elab.async false
namespace Sys2Proof.Machine
open Sys2Proof

theorem noteDrop_moves {s : State} : Moves [.regs, .recd] s (noteDrop s) :=
  bump_moves.after Moves.refl.setRecd

theorem noteUpdate_hist (d : Recd) (r : EventRec) : (noteUpdate d r).hist = d.hist := by
  unfold noteUpdate
  split <;> rfl

theorem foldTry_moves {s t : State} {e : EventIn} (h : foldTry s e = some t) : Moves [.regs, .recd, .mram] s t := by
  unfold foldTry at h
  split at h
  · cases h
  · split at h
    · cases h
      exact bump_moves.after (Moves.refl.setRecd fun h => (noteUpdate_hist ..).symm ▸ h)
    · split at h
      · cases h
      · split at h
        · cases h
        · split at h <;> cases h
          · exact bump_moves.after Moves.refl.setRecd
          · exact bump_moves.after (.setRecdMram .refl (hrecd := fun h => (noteUpdate_hist ..).symm ▸ h)
              (hmram := fun h => { h with slots := SMap.wf_set _ _ _ h.slots }))

theorem recArrive_moves {s : State} {e : EventIn} : Moves [.regs, .recd, .mram] s (recArrive s e) := by
  unfold recArrive
  split
  next t ht => exact foldTry_moves ht
  next =>
    refine .ite Moves.refl.setRecd ?_
    split
    · exact noteDrop_moves.after Moves.refl.setRecd
    · exact noteDrop_moves.mono

theorem event_moves {s : State} {k : EvKind} {items : List (Nat × Int)} : Moves [.regs, .recd, .mram] s (event s k items) :=
  recArrive_moves

theorem eventStaged_moves {s : State} {src sev code payload : Nat} {item : Bool} :
    Moves [.regs, .recd, .mram] s (eventStaged s src sev code payload item) :=
  recArrive_moves

theorem glbInt_moves {s : State} {f : Fld} {vector : Nat} : Moves [.regs, .out] s (glbInt s f vector) :=
  send_moves.after setFld_moves.mono

theorem statusChanged_moves {s : State} : Moves [.regs, .out] s (statusChanged s) :=
  glbInt_moves

theorem settingsWritten_moves {s : State} : Moves [.hdl] s (settingsWritten s) :=
  Moves.refl.setHdl

theorem bootPend_moves {s : State} {x : BootItem} : Moves [.hdl] s (bootPend s x) :=
  Moves.refl.setHdl

theorem advance_moves {s : State} {t : Nat} : Moves [.tmb] s (advance s t) :=
  .ite Moves.refl.setTmb .refl

theorem cmdUpd_moves {s : State} {h : Nat} {f : Cmd → Cmd} : Moves [.hif] s (cmdUpd s h f) :=
  Moves.refl.setHif

theorem endCmd_moves {s : State} {h : Nat} {st : Status} {result done : Nat} : Moves [.hif] s (endCmd s h st result done) := by
  unfold endCmd
  split
  · exact .refl
  · exact .ite .refl Moves.refl.setHif

end Sys2Proof.Machine
end

section
/-! What the functions of the Walig Link and the pair may change. -/
set_option Elab.async false
namespace Sys2Proof.Machine
open Sys2Proof

theorem wPortUpd_moves {s : State} {p : Nat} {f : WPort → WPort} : Moves [.wlk] s (wPortUpd s p f) :=
  Moves.refl.setWlk fun h => { h with port := SMap.wf_upd _ _ _ h.port }

theorem waligPut_moves {s : State} {p cls : Nat} {msg : Bytes} : Moves [.regs, .wlk, .out] s (waligPut s p cls msg) :=
  .ite .refl (.ite bump_moves.mono (send_moves.after (wPortUpd_moves.after bump_moves.mono)))

theorem waligSend_moves {s : State} {ports : List Nat} {cls typ dst : Nat} {ack : Bool} {payload : Bytes} :
    Moves [.regs, .wlk, .out] s (waligSend s ports cls typ dst ack payload) :=
  .foldl (Moves.refl.setWlk fun h => { h with seq := SMap.wf_set _ _ _ h.seq }) fun _ _ => waligPut_moves

theorem waligAll_moves {s : State} {cls typ dst : Nat} {ack : Bool} {payload : Bytes} :
    Moves [.regs, .wlk, .out] s (waligAll s cls typ dst ack payload) :=
  waligSend_moves

theorem wlkEvent_moves {s : State} {k : EvKind} {port lane module ver : Nat} : Moves [.regs, .recd, .mram] s (wlkEvent s k port lane module ver) :=
  event_moves

theorem wForward_moves {s : State} {p : Nat} {m : WMsg} : Moves [.regs, .wlk, .out, .freeCtr] s (wForward s p m) :=
  .ite .refl (.ite bump_moves.mono (.foldl (.ite_snd drawFree_moves.mono .refl) fun _ _ => waligPut_moves.mono))

theorem waligRx_moves {l : List Part} {s : State} {p cls typ : Nat} {b : Bytes} {t : Nat} {k : State → WMsg → State}
    (hk : ∀ u m, Moves l u (k u m)) (hl : [.regs, .tmb, .recd, .wlk, .mram, .out, .freeCtr] ⊆ l := by exact Part.subset_of_within rfl) :
    Moves l s (waligRx s p cls typ b t k) := by
  have counted : Moves [.regs, .tmb, .recd, .wlk, .mram, .out, .freeCtr] s
      (wPortUpd (bump (advance s t) cWlkRxMsg) p fun x => { x with rx := (x.rx + 1) % 2 ^ 32 }) :=
    wPortUpd_moves.after (bump_moves.after advance_moves.mono)
  refine .ite .refl (.ite (Moves.sub (wlkEvent_moves.after (bump_moves.after counted)) hl) (.ite (Moves.sub (bump_moves.after counted) hl)
    (.ite (Moves.sub (bump_moves.after counted) hl) (.ite (.trans (Moves.sub ?_ hl) (hk _ _)) (Moves.sub ?_ hl)))))
  all_goals exact wForward_moves.after (.ite counted (.setWlk counted))

theorem mirrorSend_moves {s : State} {typ : Nat} {payload : Bytes} : Moves [.regs, .wlk, .out] s (mirrorSend s typ payload) :=
  .ite .refl (waligSend_moves.after bump_moves.mono)

theorem parEvent_moves {s : State} {k : EvKind} {cause at' epoch kind index : Nat} :
    Moves [.regs, .recd, .mram] s (parEvent s k cause at' epoch kind index) :=
  event_moves

theorem mirrorInput_moves {s : State} {kind unit : Nat} {rec : Bytes} :
    Moves [.regs, .recd, .wlk, .par, .mram, .out] s (mirrorInput s kind unit rec) :=
  .ite .refl (.ite (parEvent_moves.after (bump_moves.after Moves.refl.setPar)) (mirrorSend_moves.after Moves.refl.setPar))

theorem pairRx_moves {l : List Part} {s : State} {p cls typ : Nat} {b : Bytes} {t : Nat} {k : State → Nat → Bytes → State}
    (hk : ∀ u n b, Moves l u (k u n b)) (hl : [.regs, .tmb, .recd, .wlk, .par, .mram, .out, .freeCtr] ⊆ l := by exact Part.subset_of_within rfl) :
    Moves l s (pairRx s p cls typ b t k) :=
  waligRx_moves (fun _ _ => .trans (.sub mirrorInput_moves (Part.within_subset rfl hl)) (hk _ _ _))
    (Part.within_subset rfl hl)

theorem parUnsync_moves {s : State} {cause : Nat} : Moves [.regs, .recd, .par, .mram] s (parUnsync s cause) :=
  .ite .refl (.ite (parEvent_moves.after Moves.refl.setPar) (parEvent_moves.after (bump_moves.after Moves.refl.setPar)))

theorem parLost_moves {s : State} : Moves [.par] s (parLost s) :=
  .ite Moves.refl.setPar Moves.refl.setPar

theorem pairGiveUp_moves {s : State} {cause : Nat} : Moves [.regs, .recd, .wlk, .par, .mram, .out] s (pairGiveUp s cause) :=
  .ite (statusChanged_moves.after (.setPar (parEvent_moves.after (bump_moves.after mirrorSend_moves.mono)))) parUnsync_moves.mono

theorem digAdd_moves {s : State} {kind index : Nat} {b : Bytes} : Moves [.par] s (digAdd s kind index b) :=
  .ite .refl (Moves.refl.setPar fun h => { h with acc := SMap.wf_upd _ _ _ h.acc })

theorem digPoint_moves {s : State} {kind index id : Nat} : Moves [.par] s (digPoint s kind index id) :=
  digAdd_moves

theorem digMismatch_moves {s : State} {d : Digest} : Moves [.regs, .recd, .par, .mram] s (digMismatch s d) :=
  .ite (parUnsync_moves.after (parEvent_moves.after (.setPar bump_moves.mono))) bump_moves.mono

theorem digEnd_moves {s : State} {kind index inst : Nat} : Moves [.regs, .recd, .wlk, .par, .mram, .out] s (digEnd s kind index inst) :=
  .ite .refl (.ite (digMismatch_moves.after (mirrorSend_moves.after
      (bump_moves.after (Moves.refl.setPar fun h => { h with acc := SMap.wf_set _ _ _ h.acc }))))
      (mirrorSend_moves.after (bump_moves.after (Moves.refl.setPar fun h => { h with acc := SMap.wf_set _ _ _ h.acc }))))

theorem inputKeep_moves {s : State} {own : Bool} {kind unit key : Nat} {b : Bytes} : Moves [.par] s (inputKeep s own kind unit key b) :=
  Moves.refl.setPar fun h => { h with inputs := SMap.wf_upd _ _ _ h.inputs }

theorem launches_moves {s : State} {inst : Nat} : Moves [.regs, .par] s (launches s inst).1 :=
  .ite_fst .refl (by
    split
    · exact .ite_fst (bump_moves.after Moves.refl.setPar) .refl
    · exact .refl)

theorem outward_moves {s : State} {inst : Nat} : Moves [.regs, .par] s (outward s inst).1 :=
  .ite_fst .refl launches_moves

theorem repAnew_moves {s : State} {ids : List Nat} {fresh : Nat → Nat → Bool} : Moves [.wlk] s (repAnew s ids fresh) :=
  Moves.refl.setWlk fun h =>
    { h with rep := SMap.wf_foldl (fun _ _ h => SMap.wf_foldl (fun _ _ h => SMap.wf_ite (SMap.wf_set _ _ _ h) h) h) h.rep }

end Sys2Proof.Machine
end

section
/-! What the functions of the Quench pins may change. -/
set_option Elab.async false
namespace Sys2Proof.Machine
open Sys2Proof

theorem qchEvent_moves {s : State} {k : EvKind} {n unit : Nat} : Moves [.regs, .recd, .mram, .freeCtr] s (qchEvent s k n unit) :=
  event_moves.after drawFree_moves.mono

theorem pinState_moves {s : State} : Moves [.regs, .wlk, .par, .out] s (pinState s) :=
  .ite .refl (.ite .refl (mirrorSend_moves.after Moves.refl.setPar))

theorem qchChange_moves {l : List Part} {s : State} {n unit : Nat} {f : State → State} (hf : ∀ u, Moves l u (f u))
    (hl : [.regs, .recd, .qch, .wlk, .par, .mram, .out, .freeCtr] ⊆ l := by exact Part.subset_of_within rfl) :
    Moves l s (qchChange s n unit f) := by
  refine .trans (.trans (hf s) (.sub pinState_moves (Part.within_subset rfl hl))) (.sub ?_ hl)
  have marked {u : State} {g : QchPin → QchPin} : Moves [.regs, .recd, .qch, .wlk, .par, .mram, .out, .freeCtr] u
      { u with qch := { u.qch with pin := u.qch.pin.upd n g } } := Moves.refl.setQch fun h => SMap.wf_upd _ _ _ h
  exact .ite (.ite .refl (.ite (qchEvent_moves.after (bump_moves.after (marked.trans marked))) marked)) marked

theorem qchUpd_moves {s : State} {n : Nat} {f : QchPin → QchPin} : Moves [.qch] s (qchUpd n f s) :=
  Moves.refl.setQch fun h => SMap.wf_upd _ _ _ h

theorem qchFromCap_moves {s : State} {ch mask at' : Nat} :
    Moves [.regs, .recd, .qch, .wlk, .par, .mram, .out, .freeCtr] s (qchFromCap s ch mask at') :=
  .ite .refl
      (.foldl .refl fun _ _ => .ite (Moves.trans bump_moves.mono (qchChange_moves (fun _ => qchUpd_moves.mono)))
      (bumpMax_moves.after (Moves.trans bump_moves.mono (qchChange_moves (fun _ => qchUpd_moves.mono)))))

theorem qchFromLoop_moves {s : State} {slot mask : Nat} :
    Moves [.regs, .recd, .qch, .wlk, .par, .mram, .out, .freeCtr] s (qchFromLoop s slot mask) :=
  .foldl .refl fun _ _ => Moves.trans bump_moves.mono (qchChange_moves (fun _ => qchUpd_moves.mono))

theorem qchLoopEnds_moves {s : State} {slot : Nat} : Moves [.regs, .recd, .qch, .wlk, .par, .mram, .out, .freeCtr] s (qchLoopEnds s slot) :=
  .foldl .refl fun _ _ => .ite (qchChange_moves (fun _ => qchUpd_moves.mono)) .refl

theorem qchFatal_moves {s : State} : Moves [.regs, .recd, .qch, .wlk, .par, .mram, .out, .freeCtr] s (qchFatal s) :=
  .foldl .refl fun _ _ => .ite (Moves.trans bump_moves.mono (qchChange_moves (fun _ => qchUpd_moves.mono))) .refl

end Sys2Proof.Machine
end

section
/-! What the functions of capture channels may change. -/
set_option Elab.async false
namespace Sys2Proof.Machine
open Sys2Proof

theorem capUpd_moves {s : State} {n : Nat} {f : CapCh → CapCh} : Moves [.cap] s (capUpd s n f) :=
  Moves.refl.setCap fun h => SMap.wf_upd _ _ _ h

theorem capEvent_moves {s : State} {k : EvKind} {n index module off : Nat} : Moves [.regs, .recd, .mram] s (capEvent s k n index module off) :=
  event_moves

theorem capMissed_moves {s : State} {n reason q module src : Nat} : Moves [.regs, .recd, .cap, .mram] s (capMissed s n reason q module src) :=
  .ite (capUpd_moves.after bump_moves.mono) (capUpd_moves.after (.ite bump_moves.mono (capEvent_moves.after bump_moves.mono)))

theorem maskTakes_moves {s : State} {n a : Nat} : Moves [.hif, .cap] s (maskTakes s n a) := by
  unfold maskTakes
  split
  · exact .ite (endCmd_moves.after capUpd_moves.mono) .refl
  · exact .refl

theorem maskNow_moves {s : State} {n : Nat} : Moves [.hif, .cap] s (maskNow s n) := by
  unfold maskNow
  split
  · exact maskTakes_moves
  · exact .refl

theorem capStore_moves {s : State} {n : Nat} {g : CapSeg} : Moves [.regs, .hif, .recd, .cap, .mram] s (capStore s n g) :=
  .ite (capEvent_moves.after (maskNow_moves.after (capUpd_moves.after (bump_moves.after (.ite bump_moves.mono .refl)))))
      (capUpd_moves.after (bump_moves.after (.ite bump_moves.mono .refl)))

theorem capCheckDone_moves {s : State} {n : Nat} : Moves [.regs, .hif, .recd, .cap, .mram] s (capCheckDone s n) := by
  unfold capCheckDone
  dsimp only
  split
  · exact .ite capStore_moves .refl
  · exact .refl

theorem capTake_moves {s : State} {n q src module : Nat} {unlocked stop : Bool} {spacing : Nat} :
    Moves [.regs, .hif, .recd, .cap, .mram] s (capTake s n q src module unlocked stop spacing) :=
  capCheckDone_moves.after (capUpd_moves.after maskTakes_moves.mono)

theorem capJudge_moves {s : State} {n q src module : Nat} {unlocked stop : Bool} :
    Moves [.regs, .hif, .recd, .cap, .mram] s (capJudge s n q src module unlocked stop) := by
  unfold capJudge
  dsimp only
  split
  · exact .ite (capTake_moves.after capUpd_moves.mono) (capMissed_moves.after capUpd_moves.mono)
  · exact capMissed_moves.after capUpd_moves.mono
  · exact capMissed_moves.after capUpd_moves.mono
  · exact bump_moves.after capUpd_moves.mono
  · exact bump_moves.after capUpd_moves.mono
  · exact bump_moves.after capUpd_moves.mono
  · exact bump_moves.after capUpd_moves.mono
  · exact bump_moves.after capUpd_moves.mono

theorem capTrigger_moves {s : State} {n q src : Nat} {stop : Bool} :
    Moves [.regs, .hif, .recd, .cap, .wlk, .mram, .out] s (capTrigger s n q src stop) :=
  .ite (capJudge_moves.after bump_moves.mono) (.ite (waligAll_moves.after (bump_moves.after (.setCap bump_moves.mono)))
      (bump_moves.after (.setCap bump_moves.mono)))

theorem capPointEdge_moves {s : State} {id : Nat} {t : PType} {old new : Val} :
    Moves [.regs, .hif, .recd, .cap, .wlk, .mram, .out] s (capPointEdge s id t old new) :=
  .ite .refl (.foldl .refl fun _ _ => .ite capTrigger_moves .refl)

theorem capPinEdge_moves {s : State} {pin q : Nat} : Moves [.regs, .hif, .recd, .cap, .wlk, .mram, .out] s (capPinEdge s pin q) :=
  .foldl .refl fun _ _ => .ite capTrigger_moves .refl

theorem capViolation_moves {s : State} {n q : Nat} :
    Moves [.regs, .hif, .recd, .cap, .qch, .wlk, .par, .mram, .out, .freeCtr] s (capViolation s n q) :=
  .ite (capTrigger_moves.after (.iteThen qchFromCap_moves.mono (capUpd_moves.after (.iteElse capEvent_moves.mono bump_moves.mono))))
      (.iteThen capUpd_moves.mono (.iteThen capTrigger_moves.mono (.iteThen qchFromCap_moves.mono
      (capUpd_moves.after (.iteElse capEvent_moves.mono bump_moves.mono)))))

theorem capMaskTest_moves {s : State} {n q : Nat} {r : Int} :
    Moves [.regs, .hif, .recd, .cap, .qch, .wlk, .par, .mram, .out, .freeCtr] s (capMaskTest s n q r) := by
  unfold capMaskTest
  dsimp only
  split
  · exact .refl
  · exact .ite .refl (by
      split
      · exact .refl
      · exact capUpd_moves.mono
      · exact .ite (capViolation_moves.after capUpd_moves.mono) capUpd_moves.mono)

theorem capCondition_moves {s : State} {n q : Nat} {r : Int} : Moves [.regs, .hif, .recd, .cap, .wlk, .mram, .out] s (capCondition s n q r) := by
  unfold capCondition
  dsimp only
  split
  · exact .ite (capTrigger_moves.after capUpd_moves.mono) capUpd_moves.mono
  · exact .ite (capTrigger_moves.after capUpd_moves.mono) capUpd_moves.mono
  · exact .ite (capTrigger_moves.after capUpd_moves.mono) (.ite capUpd_moves.mono .refl)
  · exact .refl

theorem capGap_moves {s : State} {n : Nat} : Moves [.regs, .hif, .recd, .cap, .mram] s (capGap s n) :=
  capUpd_moves.after (by
    split
    · exact capStore_moves
    · exact .refl)

theorem capSample_moves {s : State} {n q : Nat} {r : Int} {ovr gap degraded : Bool} {spacing tgen : Nat} :
    Moves [.regs, .hif, .recd, .cap, .qch, .wlk, .par, .mram, .out, .freeCtr] s (capSample s n q r ovr gap degraded spacing tgen) :=
  .ite .refl (capCheckDone_moves.after (capUpd_moves.after (capCondition_moves.after
      (capMaskTest_moves.after (capUpd_moves.after (drawFree_moves.after (by
    split
    · exact .ite (maskTakes_moves.after (maskTakes_moves.after (.ite capGap_moves.mono .refl)))
          (maskTakes_moves.after (.ite capGap_moves.mono .refl))
    · exact maskTakes_moves.after (.ite capGap_moves.mono .refl))))))))

end Sys2Proof.Machine
end

section
/-! What the functions of the signal history may change. -/
set_option Elab.async false
namespace Sys2Proof.Machine
open Sys2Proof

theorem histDropOldest_hist (d : Recd) : (histDropOldest d).hist = d.hist := by
  unfold histDropOldest
  split
  · rfl
  · split <;> rfl

theorem histClose_moves {s : State} {partialBlock : Bool} : Moves [.regs, .recd] s (histClose s partialBlock) := by
  refine .ite .refl (bump_moves.after (Moves.refl.setRecd fun h => ?_))
  split
  · exact h
  · exact (histDropOldest_hist _).symm ▸ h

theorem histPut_moves {s : State} {r : HistRec} : Moves [.regs, .recd] s (histPut s r) :=
  bump_moves.after (.setRecd (.ite histClose_moves .refl) (fun h => SMap.wf_upd _ _ _ h))

theorem histOffer_moves {s : State} {r : HistRec} : Moves [.regs, .recd, .mram] s (histOffer s r) :=
  .ite (histPut_moves.after Moves.refl.setRecd) (.ite (event_moves.after
      (bump_moves.after (Moves.refl.setRecd fun h => SMap.wf_upd _ _ _ h))) (bump_moves.after (Moves.refl.setRecd fun h => SMap.wf_upd _ _ _ h)))

theorem histChange_moves {s : State} {id : Nat} {p : PointRec} : Moves [.regs, .recd, .mram] s (histChange s id p) :=
  .ite .refl (by
    dsimp only
    split
    · exact histOffer_moves
    · exact .ite bump_moves.mono (.ite (.setRecd (.ite bump_moves.mono .refl) (fun h => SMap.wf_upd _ _ _ h)) histOffer_moves))

end Sys2Proof.Machine
end

section
/-! What the functions of the point store may change. -/
set_option Elab.async false
namespace Sys2Proof.Machine
open Sys2Proof

theorem markViews_wf {m : SMap View} {id : Nat} (h : m.wf = true) : (markViews m id).wf = true := SMap.wf_mapV _ _ h

theorem commitPoint_moves {s : State} {id : Nat} {r : PointRec} :
    Moves [.regs, .pst, .hif, .recd, .cap, .wlk, .mram, .out] s (commitPoint s id r) := by
  have written {x : List (Nat × Nat × PointRec)} : Moves [.regs, .pst, .hif, .recd, .cap, .wlk, .mram, .out] s { s with pst := { s.pst with
      points := s.pst.points.set id r
      views := markViews s.pst.views id
      recent := x } } := Moves.refl.setPst fun h =>
    ⟨SMap.wf_set _ _ _ h.points, markViews_wf h.views⟩
  refine histChange_moves.after ?_
  split
  · exact .ite (.setMram (capPointEdge_moves.after written) fun h => { h with retained := SMap.wf_set _ _ _ h.retained })
      (capPointEdge_moves.after written)
  · exact capPointEdge_moves.after written

theorem writePoint_moves {s : State} {w : PWrite} : Moves [.regs, .pst, .hif, .recd, .cap, .wlk, .mram, .out] s (writePoint s w).1 :=
  .ite_fst .refl (by
    split
    · exact bump_moves.mono
    · exact .ite_fst (event_moves.after bump_moves.mono) (.ite_fst bump_moves.mono
          (.ite_fst bump_moves.mono (.ite_fst .refl (.ite_fst Moves.refl.setPst (by
        dsimp only
        split
        · exact .ite_fst bump_moves.mono Moves.refl.setPst
        · exact .ite_fst bump_moves.mono commitPoint_moves))))))

theorem blockWrite_moves {s : State} {cls unit id : Nat} {v : Val} {stamp : Option Nat} {q : BitVec 16} :
    Moves [.regs, .pst, .hif, .recd, .cap, .wlk, .mram, .out] s (blockWrite s cls unit id v stamp q) :=
  writePoint_moves

theorem writeGroup_moves {s : State} {l : List PWrite} : Moves [.regs, .pst, .hif, .recd, .cap, .wlk, .mram, .out] s (writeGroup s l) :=
  .foldl .refl fun _ _ => writePoint_moves

end Sys2Proof.Machine
end

section
/-! What the functions of what a partner sends may change. -/
set_option Elab.async false
namespace Sys2Proof.Machine
open Sys2Proof

theorem inputCompare_moves {s : State} {kind unit tol : Nat} {a b : Bytes} :
    Moves [.regs, .recd, .par, .mram] s (inputCompare s kind unit tol a b) :=
  .ite .refl (.ite bump_moves.mono (parEvent_moves.after (.setPar bump_moves.mono)))

theorem inputGroup_moves {s : State} {kind unit key : Nat} {obs : List Int} {ws : List PWrite} :
    Moves [.regs, .pst, .hif, .recd, .cap, .wlk, .par, .mram, .out] s (inputGroup s kind unit key obs ws) :=
  .ite (by
    split
    · exact inputCompare_moves.after (inputKeep_moves.after (.ite .refl writeGroup_moves.mono))
    · exact inputKeep_moves.after (.ite .refl writeGroup_moves.mono)) (mirrorInput_moves.after writeGroup_moves.mono)

theorem loopIns_moves {s : State} {n t0 : Nat} {raw : List (Int × Bool)} : Moves [.regs, .recd, .wlk, .par, .mram, .out] s (loopIns s n t0 raw).2 :=
  .ite_snd (by
    split
    · exact .refl
    · exact .refl) mirrorInput_moves

theorem inputMirrored_moves {s : State} {kind unit : Nat} {rec : Bytes} :
    Moves [.regs, .pst, .hif, .recd, .cap, .wlk, .par, .mram, .out] s (inputMirrored s kind unit rec) := by
  unfold inputMirrored
  dsimp only
  split
  · exact inputCompare_moves.after (inputKeep_moves.after writeGroup_moves.mono)
  · exact inputKeep_moves.after writeGroup_moves.mono

end Sys2Proof.Machine
end

section
/-! What the functions of the Timeline may change. -/
set_option Elab.async false
namespace Sys2Proof.Machine
open Sys2Proof

theorem counted_canon {b : Tmb} {x y z : Nat} (h : b.canon) : ({ b with now := x, frac := y, resid := z } : Tmb).canon := ⟨h.sources, h.tio⟩

theorem tickTimeline_canon {b : Tmb} (h : b.canon) : (tickTimeline b).canon := counted_canon h

theorem idle_moves {s : State} : Moves [.tmb] s (idle s) := .ite (Moves.refl.setTmb tickTimeline_canon) .refl

theorem tmbEvent_moves {s : State} {k : EvKind} {e : Int} {src pin : Nat} : Moves [.regs, .recd, .mram] s (tmbEvent s k e src pin) :=
  event_moves

theorem writeMark_moves {s : State} : Moves [.mram] s (writeMark s) :=
  Moves.refl.setMram

theorem openNow_moves {s : State} {w : EpochWait} : Moves [.regs, .tmb, .recd, .mram] s (openNow s w) :=
  tmbEvent_moves.after (bump_moves.after (writeMark_moves.after (.setTmb histClose_moves.mono)))

theorem openEpoch_moves {s : State} {w : EpochWait} : Moves [.regs, .tmb, .recd, .mram] s (openEpoch s w) :=
  .ite Moves.refl.setTmb openNow_moves

theorem noteLate_moves {s : State} {a : Arrival} {block queue : Nat} : Moves [.regs, .recd, .mram] s (noteLate s a block queue) := by
  unfold noteLate
  split
  · exact .refl
  · exact tmbEvent_moves.after bump_moves.mono
  · exact tmbEvent_moves.after bump_moves.mono

theorem endLaunch_moves {s : State} {e : LqEntry} {st : Status} {result : Nat} : Moves [.hif] s (endLaunch s e st result) := by
  unfold endLaunch
  split
  · exact endCmd_moves
  · exact .refl

theorem regCmd_next {l : List Part} {s : State} {w : Nat} {k : State → State} (hk : ∀ u, Moves l u (k u)) : Next l s (regCmd s w k) :=
  .ok (.ite (hk _) .refl)

end Sys2Proof.Machine
end

section
/-! What the functions of the Timeline commands may change. -/
set_option Elab.async false
namespace Sys2Proof.Machine
open Sys2Proof

theorem shiftFree_moves {s : State} {v : Int} {k : Nat} : Moves [.freeCtr] s (shiftFree s v k).2 :=
  .ite_snd .refl drawFree_moves

theorem setSource_moves {s : State} {c : Nat} : Moves [.regs, .tmb, .recd, .mram] s (setSource s c) :=
  .ite .refl (.ite (tmbEvent_moves.after Moves.refl.setTmb) (tmbEvent_moves.after
      (bump_moves.after (.setTmb (tmbEvent_moves.after Moves.refl.setTmb)))))

theorem reselect_moves {s : State} : Moves [.regs, .tmb, .recd, .mram] s (reselect s) :=
  .ite (by
    split
    · exact setSource_moves
    · exact .refl) setSource_moves

theorem sourceSeen_moves {s : State} {c : Nat} : Moves [.tmb] s (sourceSeen s c) :=
  Moves.refl.setTmb fun h => { h with sources := SMap.wf_upd _ _ _ h.sources }

theorem sourceLost_moves {s : State} {c : Nat} : Moves [.regs, .tmb, .recd, .mram] s (sourceLost s c) :=
  reselect_moves.after (Moves.refl.setTmb fun h => { h with sources := SMap.wf_upd _ _ _ h.sources })

theorem setRate_moves {s : State} {r : Int} : Moves [.tmb] s (setRate s r) :=
  Moves.refl.setTmb

theorem dropGathered_moves {s : State} : Moves [.regs, .tmb] s (dropGathered s) :=
  .setTmb bumpN_moves.mono

theorem leaveHoldover_moves {s : State} {e : Int} : Moves [.regs, .tmb, .recd, .mram] s (leaveHoldover s e) :=
  .ite (tmbEvent_moves.after Moves.refl.setTmb) .refl

theorem steerBy_moves {s : State} {e c : Int} : Moves [.tmb, .freeCtr] s (steerBy s e c) :=
  .ite (.setTmb (shiftFree_moves.after (setRate_moves.after Moves.refl.setTmb))) (setRate_moves.after Moves.refl.setTmb)

theorem steer_moves {s : State} {e : Int} : Moves [.tmb, .freeCtr] s (steer s e) :=
  steerBy_moves

theorem offLimit_moves {s : State} {e : Int} {lim : Nat} : Moves [.regs, .tmb, .recd, .mram] s (offLimit s e lim) :=
  .ite (openEpoch_moves.after (bump_moves.after (.setTmb (.setTmb (.ite .refl dropGathered_moves.mono)))))
      (.setTmb (.ite .refl dropGathered_moves.mono))

theorem measure_moves {s : State} {src : Nat} {e : Int} : Moves [.regs, .tmb, .recd, .mram, .freeCtr] s (measure s src e) :=
  .ite .refl (.ite (.iteThen reselect_moves.mono sourceSeen_moves.mono)
      (.ite (leaveHoldover_moves.after (.setTmb (.iteThen reselect_moves.mono sourceSeen_moves.mono)))
      (.ite (offLimit_moves.after (leaveHoldover_moves.after (.setTmb (.iteThen reselect_moves.mono sourceSeen_moves.mono))))
      (.ite (steer_moves.after (.ite (dropGathered_moves.after (.setTmb
      (leaveHoldover_moves.after (.setTmb (.iteThen reselect_moves.mono sourceSeen_moves.mono)))))
      (leaveHoldover_moves.after (.setTmb (.iteThen reselect_moves.mono sourceSeen_moves.mono)))))
      (openEpoch_moves.after (.setTmb (.ite (dropGathered_moves.after
      (.setTmb (leaveHoldover_moves.after (.setTmb (.iteThen reselect_moves.mono sourceSeen_moves.mono)))))
      (leaveHoldover_moves.after (.setTmb (.iteThen reselect_moves.mono sourceSeen_moves.mono))))))))))

theorem execTimelineMarkWrite_next {s : State} {t : Nat} : Next (mayChange (.timelineMarkWrite t)) s (execTimelineMarkWrite t s) :=
  .ok (writeMark_moves.after advance_moves.mono)

theorem tmbNowRead_moves {s : State} : Moves [.tmb, .rdata, .freeCtr] s (tmbNowRead s) :=
  .setTmbRdata drawFree_moves.mono

theorem execTmbNowRead_next {s : State} : Next (mayChange .tmbNowRead) s (execTmbNowRead s) :=
  .ok (.ite tmbNowRead_moves.mono Moves.refl.setRdata)

theorem wallApply_moves {s : State} : Moves [.regs, .tmb, .recd, .mram] s (wallApply s) :=
  .ite (openEpoch_moves.after Moves.refl.setTmb) (tmbEvent_moves.after (bump_moves.after Moves.refl.setTmb))

theorem execTmbWallApply_next {s : State} : Next (mayChange .tmbWallApply) s (execTmbWallApply s) :=
  regCmd_next (fun _ => wallApply_moves.mono)

theorem execEpochWaitEnd_next {s : State} : Next (mayChange .epochWaitEnd) s (execEpochWaitEnd s) := by
  unfold execEpochWaitEnd
  split
  · exact .ok .refl
  · exact .ok (openNow_moves.after advance_moves.mono)

theorem execSyncMissing_next {s : State} {t : Nat} : Next (mayChange (.syncMissing t)) s (execSyncMissing t s) :=
  .ite (.ok (.setTmb advance_moves.mono)) (.ok advance_moves.mono)

theorem execSourceLossTimeout_next {s : State} {src t : Nat} : Next (mayChange (.sourceLossTimeout src t)) s (execSourceLossTimeout src t s) :=
  .ite (.ok (sourceLost_moves.after advance_moves.mono)) (.ok advance_moves.mono)

/-- A change of one source. -/
theorem sourceUpd_moves {s : State} {c : Nat} {f : TimeSource → TimeSource} :
    Moves [.tmb] s { s with tmb := { s.tmb with sources := s.tmb.sources.upd c f } } :=
  Moves.refl.setTmb fun h => { h with sources := SMap.wf_upd _ _ _ h.sources }

theorem execRateSaturationTimeout_next {s : State} : Next (mayChange .rateSaturationTimeout) s (execRateSaturationTimeout s) := by
  unfold execRateSaturationTimeout
  split
  · exact .ok .refl
  · exact .ite (.ok .refl) (.ok (reselect_moves.after (tmbEvent_moves.after (bump_moves.after (sourceUpd_moves.after advance_moves.mono)))))

theorem execSourceRejectExpiry_next {s : State} {src : Nat} : Next (mayChange (.sourceRejectExpiry src)) s (execSourceRejectExpiry src s) :=
  .ite (.ok .refl) (.ok (reselect_moves.after (.setTmb advance_moves.mono (fun h => { h with sources := SMap.wf_upd _ _ _ h.sources }))))

theorem execSourceReturn_next {s : State} {t : Nat} : Next (mayChange (.sourceReturn t)) s (execSourceReturn t s) :=
  .ok (reselect_moves.after advance_moves.mono)

theorem ppsMiss_moves {s : State} : Moves [.regs, .tmb, .recd, .mram] s (ppsMiss s) :=
  .ite .refl (tmbEvent_moves.after (bump_moves.after Moves.refl.setTmb))

theorem execPpsInEdge_next {s : State} {t : Nat} {falling refOk : Bool} :
    Next (mayChange (.ppsInEdge t falling refOk)) s (execPpsInEdge t falling refOk s) :=
  .ite (.ok advance_moves.mono) (.ite (.ok advance_moves.mono) (.ok
      (measure_moves.after (.ite (measure_moves.after (.setTmb (.ite (ppsMiss_moves.after advance_moves.mono) advance_moves.mono)))
      (.setTmb (.ite (ppsMiss_moves.after advance_moves.mono) advance_moves.mono))))))

theorem execPpsMissing_next {s : State} : Next (mayChange .ppsMissing) s (execPpsMissing s) := by
  unfold execPpsMissing
  split
  · exact .ok .refl
  · exact .ok (ppsMiss_moves.after advance_moves.mono)

theorem execRef10mLoss_next {s : State} : Next (mayChange .ref10mLoss) s (execRef10mLoss s) :=
  .ok (reselect_moves.after (.setTmb (tmbEvent_moves.after (bump_moves.after Moves.refl.setTmb))
      (fun h => { h with sources := SMap.wf_upd _ _ _ (SMap.wf_upd _ _ _ h.sources) })))

theorem execRefOnlyMeasurement_next {s : State} {t : Nat} {f : Int} : Next (mayChange (.refOnlyMeasurement t f)) s (execRefOnlyMeasurement t f s) :=
  .ite (.ok advance_moves.mono) (.ite (.ok (.ite (reselect_moves.after (sourceSeen_moves.after (.setTmb advance_moves.mono)))
      (sourceSeen_moves.after (.setTmb advance_moves.mono)))) (.ok (.setTmb
      (.ite (tmbEvent_moves.after (.ite (reselect_moves.after (sourceSeen_moves.after (.setTmb advance_moves.mono)))
      (sourceSeen_moves.after (.setTmb advance_moves.mono)))) (.ite (reselect_moves.after (sourceSeen_moves.after (.setTmb advance_moves.mono)))
      (sourceSeen_moves.after (.setTmb advance_moves.mono)))))))

theorem execPpsOutRise_next {s : State} {t : Nat} : Next (mayChange (.ppsOutRise t)) s (execPpsOutRise t s) :=
  .ite (.ok (.setTmb advance_moves.mono)) (.ok advance_moves.mono)

theorem execPpsOutFall_next {s : State} {t : Nat} : Next (mayChange (.ppsOutFall t)) s (execPpsOutFall t s) :=
  .ite (.ok (.setTmb advance_moves.mono)) (.ok advance_moves.mono)

theorem tioDrive_moves {s : State} {p : Nat} {logical : Bool} : Moves [.regs, .tmb, .wlk, .par, .out] s (tioDrive s p logical) :=
  .ite .refl (pinState_moves.after (Moves.refl.setTmb fun h => { h with tio := SMap.wf_upd _ _ _ h.tio }))

theorem tioAct_moves {s : State} {e : LqEntry} {q : Nat} : Moves [.regs, .tmb, .wlk, .par, .out] s (tioAct s e q) := by
  have acted {t : State} {p : Nat} {f : TioPin → TioPin} : Moves [.regs, .tmb, .wlk, .par, .out] t
      { t with tmb := { t.tmb with tio := t.tmb.tio.upd p f } } := Moves.refl.setTmb fun h => { h with tio := SMap.wf_upd _ _ _ h.tio }
  refine .ite .refl (.ite bump_moves.mono ?_)
  extract_lets
  split
  · exact tioDrive_moves.after acted
  · exact tioDrive_moves.after acted
  · exact pinState_moves.after (.trans acted acted)
  · exact .trans (tioDrive_moves.after acted) acted

theorem tioEnqueue_moves {s : State} {e : LqEntry} : Moves [.regs, .tmb, .recd, .wlk, .par, .mram, .out] s (tioEnqueue s e).1 :=
  .ite_fst .refl (by
    dsimp only
    split
    · exact .ite_fst noteLate_moves.mono (.setTmb noteLate_moves.mono)
    · exact .ite (tioAct_moves.after (outward_moves.after noteLate_moves.mono)) (outward_moves.after noteLate_moves.mono)
    · exact noteLate_moves.mono)

theorem lqPush_moves {s : State} : Moves [.regs, .tmb, .recd, .wlk, .par, .mram, .out] s (lqPush s) := by
  unfold lqPush
  dsimp only
  split
  · exact Moves.refl.setTmb
  · exact .setTmb tioEnqueue_moves

theorem execTmbLqPush_next {s : State} : Next (mayChange .tmbLqPush) s (execTmbLqPush s) :=
  regCmd_next (fun _ => lqPush_moves.mono)

theorem tioLaunch_moves {s : State} {a : Nat} : Moves [.regs, .tmb, .hif, .wlk, .par, .out] s (tioLaunch a s) := by
  unfold tioLaunch
  split
  · exact .refl
  · exact .ite .refl (endLaunch_moves.after (.ite (tioAct_moves.after (outward_moves.after (advance_moves.after Moves.refl.setTmb)))
        (outward_moves.after (advance_moves.after Moves.refl.setTmb))))

theorem execTioNop_next {s : State} : Next (mayChange .tioNop) s (execTioNop s) :=
  .ok tioLaunch_moves.mono

theorem execSetLow_next {s : State} : Next (mayChange .setLow) s (execSetLow s) :=
  .ok tioLaunch_moves.mono

theorem execSetHigh_next {s : State} : Next (mayChange .setHigh) s (execSetHigh s) :=
  .ok tioLaunch_moves.mono

theorem execToggle_next {s : State} : Next (mayChange .toggle) s (execToggle s) :=
  .ok tioLaunch_moves.mono

theorem execPulse_next {s : State} : Next (mayChange .pulse) s (execPulse s) :=
  .ok tioLaunch_moves.mono

theorem execPulseTrailingEdge_next {s : State} {p : Nat} : Next (mayChange (.pulseTrailingEdge p)) s (execPulseTrailingEdge p s) := by
  unfold execPulseTrailingEdge
  split
  · exact .ok .refl
  · exact .ite (.ok (bump_moves.after (.setTmb advance_moves.mono (fun h => { h with tio := SMap.wf_upd _ _ _ h.tio }))))
        (.ok (tioDrive_moves.after (.setTmb advance_moves.mono (fun h => { h with tio := SMap.wf_upd _ _ _ h.tio }))))

theorem tioCfgWrite_moves {s : State} {p : Nat} {v : Word} : Moves [.regs, .tmb, .wlk, .par, .out] s (tioCfgWrite p v s) :=
  .ite (tioDrive_moves.after (.iteThen setFld_moves.mono (setFld_moves.after (setFld_moves.after (setFld_moves.after setFld_moves.mono)))))
      (.ite (pinState_moves.after (.setTmb (.iteThen setFld_moves.mono
      (setFld_moves.after (setFld_moves.after (setFld_moves.after setFld_moves.mono))))
      (fun h => { h with tio := SMap.wf_upd _ _ _ h.tio })))
      (.ite (pinState_moves.after (.setTmb (.iteThen setFld_moves.mono
      (setFld_moves.after (setFld_moves.after (setFld_moves.after setFld_moves.mono))))
      (fun h => { h with tio := SMap.wf_upd _ _ _ h.tio })))
      (.iteThen setFld_moves.mono (setFld_moves.after (setFld_moves.after (setFld_moves.after setFld_moves.mono))))))

theorem execTioCfgWrite_next {s : State} {p : Nat} {v : Word} : Next (mayChange (.tioCfgWrite p v)) s (execTioCfgWrite p v s) :=
  .ite (regCmd_next (fun _ => tioCfgWrite_moves.mono)) (.ok .refl)

theorem stampLost_moves {s : State} {p : Nat} : Moves [.regs, .recd, .mram] s (stampLost s p) :=
  setFld_moves.after (tmbEvent_moves.after bump_moves.mono)

theorem stampTake_moves {s : State} {p q : Nat} {falling : Bool} :
    Moves [.regs, .tmb, .hif, .recd, .cap, .wlk, .par, .mram, .out] s (stampTake s p q falling) :=
  .ite stampLost_moves.mono (capPinEdge_moves.after (mirrorInput_moves.after
      (Moves.refl.setTmb fun h => { h with tio := SMap.wf_upd _ _ _ h.tio })))

theorem tioStampEdge_moves {s : State} {p q : Nat} {ballFalling : Bool} :
    Moves [.regs, .tmb, .hif, .recd, .cap, .wlk, .par, .mram, .out] s (tioStampEdge p q ballFalling s) :=
  .ite advance_moves.mono (stampTake_moves.after advance_moves.mono)

theorem execTioStampEdge_next {s : State} {p q : Nat} {ballFalling : Bool} :
    Next (mayChange (.tioStampEdge p q ballFalling)) s (execTioStampEdge p q ballFalling s) :=
  .ite (.ok tioStampEdge_moves.mono) (.ok .refl)

theorem tioStampPop_moves {s : State} {p : Nat} : Moves [.tmb, .rdata] s (tioStampPop p s) := by
  unfold tioStampPop
  dsimp only
  split
  · exact .setTmbRdata .refl (htmb := fun h => { h with tio := SMap.wf_upd _ _ _ h.tio })
  · exact .setTmbRdata .refl (htmb := fun h => { h with tio := SMap.wf_upd _ _ _ h.tio })

theorem execTioStampPop_next {s : State} {p : Nat} : Next (mayChange (.tioStampPop p)) s (execTioStampPop p s) :=
  .ok (.ite tioStampPop_moves.mono Moves.refl.setRdata)

theorem tmbCommitApply_moves {s : State} : Moves [.regs, .staged, .tmb, .recd, .mram] s (tmbCommitApply s) :=
  reselect_moves.after (.ite (openEpoch_moves.after (.ite (.setTmb applyStaged_moves.mono) applyStaged_moves.mono))
      (.ite (.setTmb applyStaged_moves.mono) applyStaged_moves.mono))

end Sys2Proof.Machine
end

section
/-! What the functions of the host interface may change. -/
set_option Elab.async false
namespace Sys2Proof.Machine
open Sys2Proof

theorem hifEvent_moves {s : State} {k : EvKind} {ring tag op : Nat} : Moves [.regs, .recd, .mram] s (hifEvent s k ring tag op) :=
  event_moves

theorem linkEvent_moves {s : State} {k : EvKind} {link : Nat} : Moves [.regs, .recd, .mram] s (linkEvent s k link) :=
  event_moves

theorem haltSq_moves {s : State} {n : Nat} {r : HaltReason} : Moves [.regs, .hif, .recd, .mram, .out] s (haltSq s n r) :=
  glbInt_moves.after (hifEvent_moves.after (bump_moves.after (Moves.refl.setHif fun h => { h with sq := SMap.wf_upd _ _ _ h.sq })))

theorem haltCq_moves {s : State} {n : Nat} {r : HaltReason} : Moves [.regs, .hif, .recd, .mram, .out] s (haltCq s n r) :=
  .foldl (glbInt_moves.after (hifEvent_moves.after (bump_moves.after
      (Moves.refl.setHif fun h => { h with cq := SMap.wf_upd _ _ _ h.cq })))) fun _ _ => haltSq_moves

theorem sqDoorbell_moves {s : State} {n : Nat} {v : Word} : Moves [.regs, .hif, .recd, .mram, .out] s (sqDoorbell n v s) :=
  .ite .refl (.ite bump_moves.mono (.ite .refl (.ite (haltSq_moves.after bump_moves.mono)
      (Moves.refl.setHif fun h => { h with sq := SMap.wf_upd _ _ _ h.sq }))))

theorem execSqDoorbell_next {s : State} {n : Nat} {v : Word} : Next (mayChange (.sqDoorbell n v)) s (execSqDoorbell n v s) :=
  .ok sqDoorbell_moves.mono

theorem cqDoorbell_moves {s : State} {n : Nat} {v : Word} : Moves [.regs, .hif, .recd, .mram, .out] s (cqDoorbell n v s) :=
  .ite .refl (.ite bump_moves.mono (.ite .refl (.ite (haltCq_moves.after bump_moves.mono)
      (Moves.refl.setHif fun h => { h with cq := SMap.wf_upd _ _ _ h.cq }))))

theorem execCqDoorbell_next {s : State} {n : Nat} {v : Word} : Next (mayChange (.cqDoorbell n v)) s (execCqDoorbell n v s) :=
  .ok cqDoorbell_moves.mono

theorem sqEnableWrite_moves {s : State} {n : Nat} {on : Bool} : Moves [.regs, .hif] s (sqEnableWrite n on s) :=
  .ite (.ite .refl (.ite .refl (setFld_moves.after (Moves.refl.setHif fun h => { h with sq := SMap.wf_set _ _ _ h.sq })))) setFld_moves.mono

theorem execSqEnableWrite_next {s : State} {n : Nat} {on : Bool} : Next (mayChange (.sqEnableWrite n on)) s (execSqEnableWrite n on s) :=
  .ite (regCmd_next (fun _ => sqEnableWrite_moves.mono)) (.ok .refl)

theorem cqEnableWrite_moves {s : State} {n : Nat} {on : Bool} : Moves [.regs, .hif] s (cqEnableWrite n on s) :=
  .ite (.ite .refl (setFld_moves.after (Moves.refl.setHif fun h => { h with cq := SMap.wf_set _ _ _ h.cq }))) setFld_moves.mono

theorem execCqEnableWrite_next {s : State} {n : Nat} {on : Bool} : Next (mayChange (.cqEnableWrite n on)) s (execCqEnableWrite n on s) :=
  .ite (regCmd_next (fun _ => cqEnableWrite_moves.mono)) (.ok .refl)

theorem sqUseTurn_moves {s : State} {n : Nat} : Moves [.hif] s (sqUseTurn s n) :=
  .setHif (.ite .refl (Moves.refl.setHif fun h => { h with sq := SMap.wf_foldl (fun _ _ hm => SMap.wf_upd _ _ _ hm) h.sq }))
      (fun h => { h with sq := SMap.wf_upd _ _ _ h.sq })

theorem fetchCheck_moves {s : State} {standby : Bool} {c : Cmd} {d : Bytes} : Moves [.regs, .recd, .mram] s (fetchCheck s standby c d).1 := by
  unfold fetchCheck
  split
  · exact hifEvent_moves.after bump_moves.mono
  · exact .ite_fst (hifEvent_moves.after bump_moves.mono) (.ite_fst (hifEvent_moves.after bump_moves.mono)
        (.ite_fst (hifEvent_moves.after bump_moves.mono) .refl))

theorem sliceOwe_moves {s : State} {h : Nat} : Moves [.hif] s (sliceOwe s h) :=
  cmdUpd_moves

theorem sliceServed_moves {s : State} {c : Cmd} : Moves [.hif] s (sliceServed s c) :=
  Moves.refl.setHif

theorem mirrorStart_moves {s : State} {c : Cmd} : Moves [.regs, .hif, .wlk, .par, .out] s (mirrorStart s c) :=
  .ite .refl (.foldl (cmdUpd_moves.after Moves.refl.setPar) fun _ _ => mirrorSend_moves.mono)

theorem startCmd_moves {l : List Part} {s : State} {h op : Nat} {d : Option Bytes} {k : State → Cmd → State}
    (hk : ∀ u c, Moves l u (k u c)) (hl : [.regs, .hif, .recd, .wlk, .par, .mram, .out] ⊆ l := by exact Part.subset_of_within rfl) :
    Moves l s (startCmd s h op d k) := by
  unfold startCmd
  split
  · exact .refl
  · refine .ite .refl (.ite (.sub (endCmd_moves.after sliceServed_moves) (Part.within_subset rfl hl)) ?_)
    split
    · exact Moves.sub (endCmd_moves.after (hifEvent_moves.after (bump_moves.after cmdUpd_moves.mono))) hl
    · exact .trans (.sub (mirrorStart_moves.after (sliceServed_moves.after cmdUpd_moves.mono)) hl) (hk _ _)

theorem cqIrq_moves {s : State} {n : Nat} : Moves [.hif, .out] s (cqIrq s n) :=
  send_moves.after (Moves.refl.setHif fun h => { h with cq := SMap.wf_upd _ _ _ h.cq })

theorem cqWrite_moves {s : State} {n : Nat} {entry : Bytes} : Moves [.hif, .out] s (cqWrite s n entry) :=
  .ite (cqIrq_moves.after (.setHif send_moves.mono (fun h => { h with cq := SMap.wf_set _ _ _ h.cq })))
      (.setHif send_moves.mono (fun h => { h with cq := SMap.wf_set _ _ _ h.cq }))

theorem cmdDrop_moves {s : State} {h : Nat} : Moves [.hif] s (cmdDrop s h) :=
  Moves.refl.setHif

theorem completionWrite_moves {s : State} {h : Nat} {written : Bool} :
    Moves [.regs, .hif, .recd, .wlk, .mram, .out] s (completionWrite h written s) := by
  unfold completionWrite
  split
  · exact .refl
  · split
    · exact .refl
    · exact .ite .refl (.ite (mirrorSend_moves.after cmdDrop_moves.mono)
          (.ite (cmdDrop_moves.after bump_moves.mono) (.ite bump_moves.mono
          (.ite (haltCq_moves.after (cmdDrop_moves.after bump_moves.mono)) (cmdDrop_moves.after (cqWrite_moves.after bump_moves.mono))))))

theorem execCompletionWrite_next {s : State} {h : Nat} {written : Bool} :
    Next (mayChange (.completionWrite h written)) s (execCompletionWrite h written s) :=
  .ok completionWrite_moves.mono

theorem progressEntry_moves {s : State} {h t : Nat} : Moves [.regs, .tmb, .hif, .out] s (progressEntry h t s) := by
  unfold progressEntry
  dsimp only
  split
  · exact advance_moves.mono
  · exact .ite advance_moves.mono (.ite (cmdUpd_moves.after advance_moves.mono)
        (.ite (bump_moves.after (cmdUpd_moves.after advance_moves.mono)) (cqWrite_moves.after (cmdUpd_moves.after advance_moves.mono))))

theorem execProgressEntry_next {s : State} {h t : Nat} : Next (mayChange (.progressEntry h t)) s (execProgressEntry h t s) :=
  .ok progressEntry_moves.mono

theorem execCqIrqTimer_next {s : State} {n : Nat} : Next (mayChange (.cqIrqTimer n)) s (execCqIrqTimer n s) := by
  unfold execCqIrqTimer
  split
  · exact .ok .refl
  · exact .ite (.ok .refl) (.ok (cqIrq_moves.after advance_moves.mono))

theorem hifNegotiate_moves {s : State} : Moves [.regs, .hif, .recd, .mram] s (hifNegotiate s) :=
  .ite (hifEvent_moves.after Moves.refl.setHif) (by
    split
    · exact hifEvent_moves.after Moves.refl.setHif
    · exact hifEvent_moves.after Moves.refl.setHif)

theorem execHifNegotiate_next {s : State} : Next (mayChange .hifNegotiate) s (execHifNegotiate s) :=
  .ok hifNegotiate_moves.mono

theorem hifCommit_moves {s : State} : Moves [.regs, .staged, .commits, .hif] s (hifCommit s) := by
  unfold hifCommit
  split
  · exact setCommit_moves.after
        (.setHif applyStaged_moves.mono
        (fun h =>
        { h with sq := SMap.wf_foldl (fun _ _ hm => SMap.wf_upd _ _ _ hm) h.sq, cq := SMap.wf_foldl (fun _ _ hm => SMap.wf_upd _ _ _ hm) h.cq }))
  · exact setCommit_moves.after Moves.refl.setHif

theorem execHifCommit_next {s : State} : Next (mayChange .hifCommit) s (execHifCommit s) :=
  regCmd_next (fun _ => hifCommit_moves.mono)

theorem linkTrained_moves {s : State} {speed width : Nat} : Moves [.regs, .hif, .recd, .mram, .out] s (linkTrained speed width s) :=
  statusChanged_moves.after (.ite (linkEvent_moves.after (linkEvent_moves.after Moves.refl.setHif)) (linkEvent_moves.after Moves.refl.setHif))

theorem execLinkTrained_next {s : State} {speed width : Nat} : Next (mayChange (.linkTrained speed width)) s (execLinkTrained speed width s) :=
  .ok (.ite linkTrained_moves.mono .refl)

theorem execNop_next {s : State} {h : Nat} : Next (mayChange (.nop h)) s (execNop h s) :=
  .ok (startCmd_moves (fun _ _ => endCmd_moves.mono))

theorem abortCmd_moves {s : State} {c : Cmd} : Moves [.regs, .hif, .recd, .mram] s (abortCmd s c) := by
  unfold abortCmd
  dsimp only
  split
  · exact endCmd_moves.mono
  · exact .ite endCmd_moves.mono (.ite endCmd_moves.mono (.ite (endCmd_moves.after (endCmd_moves.after (hifEvent_moves.after bump_moves.mono)))
        cmdUpd_moves.mono))

theorem execAbort_next {s : State} {h : Nat} : Next (mayChange (.abort h)) s (execAbort h s) :=
  .ok (startCmd_moves (fun _ _ => abortCmd_moves.mono))

end Sys2Proof.Machine
end

section
/-! What the functions of points, views and forces may change. -/
set_option Elab.async false
namespace Sys2Proof.Machine
open Sys2Proof

theorem tileFail_moves {s : State} {t : Nat} : Moves [.regs, .pst, .recd, .mram] s (tileFail s t) :=
  event_moves.after (bump_moves.after Moves.refl.setPst)

theorem tileRelease_moves {s : State} {t : Nat} : Moves [.regs, .pst, .hif, .recd, .cap, .wlk, .mram, .out] s (tileRelease s t) :=
  writeGroup_moves.after Moves.refl.setPst

theorem tileRebuild_moves {s : State} {t : Nat} : Moves [.regs, .pst, .hif, .recd, .cap, .wlk, .mram, .out] s (tileRebuild s t) := by
  refine tileRelease_moves.after (event_moves.after (bump_moves.after (Moves.refl.setPst fun h =>
    { h with points := SMap.wf_foldl (fun _ _ hm => ?_) h.points })))
  dsimp only
  split
  · exact SMap.wf_set _ _ _ hm
  · exact hm

theorem tileRepair_moves {s : State} {t : Nat} {copy : Bytes} :
    Moves [.regs, .pst, .hif, .recd, .cap, .wlk, .mram, .out] s (tileRepair s t copy) := by
  refine tileRelease_moves.after (event_moves.after (bump_moves.after (Moves.refl.setPst fun h =>
    { h with points := SMap.wf_foldl (fun _ _ hm => ?_) h.points })))
  dsimp only
  split
  · exact SMap.wf_set _ _ _ hm
  · exact hm

theorem tileFetchFails_moves {s : State} {t : Nat} : Moves [.regs, .pst, .hif, .recd, .cap, .wlk, .mram, .out] s (tileFetchFails s t) :=
  .ite tileFail_moves.mono (tileRebuild_moves.after tileFail_moves.mono)

theorem scrubStep_moves {s : State} {c : TileCheck} : Moves [.regs, .pst, .hif, .recd, .cap, .wlk, .mram, .out] s (scrubStep c s) := by
  unfold scrubStep
  dsimp only
  split
  · exact .ite (bump_moves.after Moves.refl.setPst) Moves.refl.setPst
  · exact .ite (bump_moves.after Moves.refl.setPst) Moves.refl.setPst
  · exact bump_moves.after (.ite (bump_moves.after Moves.refl.setPst) Moves.refl.setPst)
  · exact bump_moves.after (.ite (bump_moves.after Moves.refl.setPst) Moves.refl.setPst)
  · exact tileFetchFails_moves.after (.ite (bump_moves.after Moves.refl.setPst) Moves.refl.setPst)
  · exact tileFetchFails_moves.after (event_moves.after (bump_moves.after (.ite (bump_moves.after Moves.refl.setPst) Moves.refl.setPst)))

theorem execScrubStep_next {s : State} {c : TileCheck} : Next (mayChange (.scrubStep c)) s (execScrubStep c s) :=
  .ok scrubStep_moves.mono

theorem execTileRepairDone_next {s : State} {tile : Nat} {copy : Option Bytes} :
    Next (mayChange (.tileRepairDone tile copy)) s (execTileRepairDone tile copy s) :=
  .ite (.ok .refl) (by
    split
    · exact .ok tileRepair_moves.mono
    · exact .ok tileRebuild_moves.mono)

theorem journalForce_moves {s : State} {id : Nat} {j : Option ForceJournal} : Moves [.mram] s (journalForce s id j) :=
  Moves.refl.setMram

theorem forceApply_moves {s : State} {e : MapEntry} {v : Val} : Moves [.regs, .pst, .hif, .recd, .cap, .wlk, .mram, .out] s (forceApply s e v) := by
  unfold forceApply
  exact journalForce_moves.after (event_moves.after (commitPoint_moves.after (by
    dsimp only
    split
    · exact Moves.refl.setPst
    · exact Moves.refl.setPst)))

theorem forceSetEntry_moves {s : State} {b : Bytes} : Moves [.regs, .pst, .hif, .recd, .cap, .wlk, .mram, .out] s (forceSetEntry s b).1 :=
  .ite_fst bump_moves.mono (by
    split
    · exact bump_moves.mono
    · exact .ite_fst bump_moves.mono (.ite_fst bump_moves.mono (.ite_fst bump_moves.mono (.ite_fst bump_moves.mono forceApply_moves))))

theorem forceClear_moves {s : State} {f : Force} : Moves [.regs, .pst, .hif, .recd, .cap, .wlk, .mram, .out] s (forceClear s f) := by
  unfold forceClear
  exact journalForce_moves.after (event_moves.after (commitPoint_moves.after Moves.refl.setPst))

theorem pointWriteEntry_moves {s : State} {ring : Nat} {b : Bytes} :
    Moves [.regs, .pst, .hif, .recd, .cap, .wlk, .mram, .out] s (pointWriteEntry s ring b).1 :=
  .ite_fst .refl (by
    split
    · exact .ite_fst .refl writePoint_moves
    · exact writePoint_moves)

theorem entryBack_moves {s : State} {addr : Nat} {r : WriteRes} : Moves [.out] s (entryBack s addr r) :=
  sendAll_moves

theorem runEntries_moves {l : List Part} {f : State → Bytes → State × WriteRes} {addr : Option Nat} {data : Bytes} (hf : ∀ u b, Moves l u (f u b).1)
    (hl : [.out] ⊆ l := by exact Part.subset_of_within rfl) (n i : Nat) (bad : Option (Status × Nat)) (s : State) :
    Moves l s (runEntries f addr data n i bad s).1 := by
  induction n generalizing i bad s with
  | zero => exact .refl
  | succ n ih =>
    refine .trans ?_ (ih (i + 1) _ _)
    split
    · exact .trans (hf _ _) (.sub entryBack_moves hl)
    · exact hf _ _

theorem viewSet_moves {s : State} {n : Nat} {change : Bool} {desc ids : Bytes} {count : Nat} :
    Moves [.regs, .pst, .recd, .mram] s (viewSet s n change desc ids count).1 :=
  .ite_fst .refl (by
    split
    · exact .refl
    · exact .ite_fst .refl (.ite_fst .refl (.ite_fst .refl (.ite_fst .refl
          (.ite (Moves.refl.setPst fun h => { h with views := SMap.wf_set _ _ _ h.views })
          (event_moves.after (Moves.refl.setPst fun h => { h with views := SMap.wf_set _ _ _ h.views })))))))

theorem viewClose_moves {s : State} {n : Nat} : Moves [.regs, .pst, .recd, .mram] s (viewClose s n) :=
  event_moves.after (Moves.refl.setPst fun h => { h with views := SMap.wf_set _ _ _ h.views })

theorem viewFault_moves {s : State} {n : Nat} : Moves [.regs, .pst, .recd, .mram, .out] s (viewFault s n) :=
  send_moves.after (event_moves.after (Moves.refl.setPst fun h => { h with views := SMap.wf_upd _ _ _ h.views }))

theorem viewWrite_moves {s : State} {n : Nat} {b : Bytes} : Moves [.regs, .pst, .out] s (viewWrite s n b) :=
  .ite (send_moves.after (bump_moves.after (.setPst send_moves.mono
      (fun h => { h with views := SMap.wf_set _ _ _ h.views }))))
      (bump_moves.after (.setPst send_moves.mono (fun h => { h with views := SMap.wf_set _ _ _ h.views })))

theorem viewDelivery_moves {s : State} {n t : Nat} {written : Bool} :
    Moves [.regs, .tmb, .pst, .recd, .mram, .out] s (viewDelivery n t written s) :=
  .ite advance_moves.mono (by
    split
    · exact advance_moves.mono
    · exact .ite (viewFault_moves.after advance_moves.mono) (viewWrite_moves.after
          (.ite (bump_moves.after (bumpN_moves.after (.setPst advance_moves.mono
          (fun h => { h with views := SMap.wf_upd _ _ _ h.views }))))
          (bumpN_moves.after (.setPst advance_moves.mono (fun h => { h with views := SMap.wf_upd _ _ _ h.views }))))))

theorem execViewDelivery_next {s : State} {n t : Nat} {written : Bool} :
    Next (mayChange (.viewDelivery n t written)) s (execViewDelivery n t written s) :=
  .ok viewDelivery_moves.mono

theorem execViewConsPoll_next {s : State} {n : Nat} {cons : Option Nat} : Next (mayChange (.viewConsPoll n cons)) s (execViewConsPoll n cons s) :=
  .ite (.ok .refl) (by
    split
    · exact .ok viewFault_moves.mono
    · exact .ok (Moves.refl.setPst fun h => { h with views := SMap.wf_set _ _ _ h.views }))

theorem viewHeartbeat_moves {s : State} {n t : Nat} : Moves [.regs, .tmb, .pst, .out] s (viewHeartbeat n t s) :=
  .ite advance_moves.mono (.setPst (viewWrite_moves.after advance_moves.mono) (fun h => { h with views := SMap.wf_upd _ _ _ h.views }))

theorem execViewHeartbeat_next {s : State} {n t : Nat} : Next (mayChange (.viewHeartbeat n t)) s (execViewHeartbeat n t s) :=
  .ok viewHeartbeat_moves.mono

theorem viewSnapshot_moves {s : State} {n : Nat} : Moves [.pst] s (viewSnapshot s n) :=
  Moves.refl.setPst fun h => { h with views := SMap.wf_upd _ _ _ h.views }

theorem execViewSnapshotTimer_next {s : State} {n t : Nat} : Next (mayChange (.viewSnapshotTimer n t)) s (execViewSnapshotTimer n t s) :=
  .ite (.ok (viewSnapshot_moves.after advance_moves.mono)) (.ok advance_moves.mono)

theorem execStaleMarkQueue_next {s : State} {n id t : Nat} : Next (mayChange (.staleMarkQueue n id t)) s (execStaleMarkQueue n id t s) :=
  .ite (.ok (.setPst advance_moves.mono (fun h => { h with views := SMap.wf_set _ _ _ h.views }))) (.ok advance_moves.mono)

theorem execViewClose_next {s : State} {h : Nat} : Next (mayChange (.viewClose h)) s (execViewClose h s) :=
  .ok (startCmd_moves (fun _ _ => .ite endCmd_moves.mono (endCmd_moves.after viewClose_moves.mono)))

theorem execViewSnapshot_next {s : State} {h : Nat} : Next (mayChange (.viewSnapshot h)) s (execViewSnapshot h s) :=
  .ok (startCmd_moves (fun _ _ => .ite endCmd_moves.mono (endCmd_moves.after viewSnapshot_moves.mono)))

theorem pstPeek_moves {s : State} {v : Word} : Moves [.regs, .pst] s (pstPeek v s) :=
  setFld_moves.after Moves.refl.setPst

theorem execPstPeek_next {s : State} {v : Word} : Next (mayChange (.pstPeek v)) s (execPstPeek v s) :=
  regCmd_next (fun _ => pstPeek_moves.mono)

end Sys2Proof.Machine
end

section
/-! What the functions of the recorder may change. -/
set_option Elab.async false
namespace Sys2Proof.Machine
open Sys2Proof

theorem faultEdge_moves {s a : State} : Moves [.regs, .out] s (faultEdge a s) :=
  .ite (statusChanged_moves.after glbInt_moves) .refl

theorem assertFault_moves {s : State} {f : FaultSrc} : Moves [.regs, .pwr, .out] s (assertFault s f) :=
  faultEdge_moves.after Moves.refl.setPwr

theorem releaseFault_moves {s : State} {f : FaultSrc} : Moves [.regs, .pwr, .out] s (releaseFault s f) :=
  faultEdge_moves.after Moves.refl.setPwr

theorem logTake_moves {s : State} {r : EventRec} : Moves [.regs, .mram] s (logTake s r).1 :=
  .ite_fst (Moves.refl.setMram fun h => { h with slots := SMap.wf_set _ _ _ h.slots }) (by
    split
    · exact .ite_fst (Moves.refl.setMram fun h => { h with slots := SMap.wf_set _ _ _ h.slots }) bump_moves.mono
    · exact bump_moves.mono)

theorem logTakeAll_moves {s : State} {q : List EventRec} : Moves [.regs, .mram] s (logTakeAll s q).1 :=
  .foldl_fst .refl fun _ _ => logTake_moves

theorem holdRecord_moves {s : State} {r : EventRec} : Moves [.regs, .recd] s (holdRecord s r).1 :=
  .ite_fst Moves.refl.setRecd (by
    dsimp only
    split
    · exact bump_moves.mono
    · split
      · exact bump_moves.after Moves.refl.setRecd
      · exact bump_moves.mono)

theorem ringOffer_moves {s : State} {r : EventRec} : Moves [.regs, .recd] s (ringOffer s r) := by
  unfold ringOffer
  split
  · exact .refl
  · exact .ite .refl (.ite Moves.refl.setRecd (bump_moves.after Moves.refl.setRecd))

theorem lastGaspPut_moves {s : State} {r : EventRec} : Moves [.aon] s (lastGaspPut s r) :=
  Moves.refl.setAon

theorem hendelLogPut_moves {s : State} {r : EventRec} : Moves [.regs, .recd, .mram, .aon] s (hendelLogPut s r) :=
  .ite (ringOffer_moves.after lastGaspPut_moves.mono) Moves.refl.setMram

theorem recAssign_moves {s : State} {e : EventIn} : Moves [.regs, .recd, .mram, .aon] s (recAssign s e) :=
  .iteThen hendelLogPut_moves.mono (.iteThen lastGaspPut_moves.mono
      (ringOffer_moves.after (.ite_fst (bump_moves.after Moves.refl.setRecd)
      (.ite_fst (holdRecord_moves.after (bump_moves.after Moves.refl.setRecd)) (logTake_moves.after (bump_moves.after Moves.refl.setRecd))))))

theorem eventAccept_moves {s : State} : Moves [.regs, .recd, .qch, .wlk, .par, .mram, .aon, .out, .freeCtr] s (eventAccept s) := by
  have taken {t : List EventIn} {e : EventIn} : Moves [.regs, .recd, .qch, .wlk, .par, .mram, .aon, .out, .freeCtr] s
      (match foldTry { s with recd := { s.recd with input := t } } e with
        | some u => u
        | none => recAssign { s with recd := { s.recd with input := t } } e) := by
    split
    next u hu => exact (foldTry_moves hu).after Moves.refl.setRecd
    next => exact recAssign_moves.after Moves.refl.setRecd
  unfold eventAccept
  split
  · exact .refl
  · exact .ite (event_moves.after (.setRecd (.ite (qchFatal_moves.after taken) taken))) (.ite (qchFatal_moves.after taken) taken)

theorem execEventAccept_next {s : State} : Next (mayChange .eventAccept) s (execEventAccept s) :=
  .ok eventAccept_moves.mono

theorem logFail_moves {s : State} : Moves [.regs, .recd, .mram, .pwr, .out] s (logFail s) :=
  .ite .refl (assertFault_moves.after (event_moves.after Moves.refl.setRecd))

theorem hendelCopy_moves {s : State} {k : EvKind} {items : List (Nat × Int)} : Moves [.regs, .recd, .mram, .aon] s (hendelCopy s k items) :=
  event_moves.after hendelLogPut_moves

theorem copyOut_moves {s : State} {k : EvKind} {items : List (Nat × Int)} : Moves [.regs, .recd, .mram, .aon] s (copyOut s k items) :=
  event_moves.after (lastGaspPut_moves.after hendelLogPut_moves)

theorem retirePage_moves {s : State} {slot : Nat} {lost : List Nat} : Moves [.regs, .recd, .mram, .aon, .pwr, .out] s (retirePage s slot lost) :=
  .iteThen logFail_moves.mono (.setRecd (.ite (assertFault_moves.after
      (setFld_moves.after (copyOut_moves.after (bumpN_moves.after (bump_moves.after
      (Moves.refl.setMram fun h =>
      { h with slots := SMap.wf_foldl (fun _ _ hm => SMap.wf_set _ _ _ hm) h.slots, pages := SMap.wf_set _ _ _ h.pages }))))))
      (event_moves.after (.setRecd (assertFault_moves.after (setFld_moves.after
      (copyOut_moves.after (bumpN_moves.after (bump_moves.after (Moves.refl.setMram
      fun h => { h with slots := SMap.wf_foldl (fun _ _ hm => SMap.wf_set _ _ _ hm) h.slots, pages := SMap.wf_set _ _ _ h.pages }))))))))))

theorem execLogWriteVerify_next {s : State} {slot : Nat} {first second : Bool} {lost : List Nat} :
    Next (mayChange (.logWriteVerify slot first second lost)) s (execLogWriteVerify slot first second lost s) :=
  .ite (.ok .refl) (.ite (.ok bump_moves.mono) (.ok (retirePage_moves.after bump_moves.mono)))

theorem pageFailClear_moves {s : State} : Moves [.regs, .pwr, .out] s (pageFailClear s) :=
  releaseFault_moves.after setFld_moves.mono

theorem execPageFailClear_next {s : State} : Next (mayChange .pageFailClear) s (execPageFailClear s) :=
  regCmd_next (fun _ => pageFailClear_moves.mono)

theorem thaw_moves {s : State} : Moves [.regs, .recd, .mram] s (thaw s).1 := by
  refine logTakeAll_moves.after (.setRecd (.foldl .refl fun u x => ?_))
  split
  · exact .setRecdMram .refl (hrecd := fun h => (noteUpdate_hist ..).symm ▸ h) (hmram := fun h => { h with slots := SMap.wf_set _ _ _ h.slots })
  · exact .refl

theorem execLogFreeze_next {s : State} {h : Nat} : Next (mayChange (.logFreeze h)) s (execLogFreeze h s) :=
  .ok (startCmd_moves (fun _ _ => endCmd_moves.after (.ite Moves.refl.setRecd (event_moves.after Moves.refl.setRecd))))

theorem execLogThaw_next {s : State} {h : Nat} : Next (mayChange (.logThaw h)) s (execLogThaw h s) :=
  .ok (startCmd_moves (fun _ _ => .ite endCmd_moves.mono (endCmd_moves.after (event_moves.after thaw_moves.mono))))

/-- A freeze that began at an instant ends a span later. -/
theorem thawAfter_next {s : State} {o : Option Nat} {span : Nat} : Next [.regs, .tmb, .recd, .mram] s (match o with
    | none => ok s
    | some t =>
      let s := advance s (t + span)
      let (s, n) := thaw s
      ok (event s evLogThawAuto [(4, 0), (8, 0), (4, n)])) := by
  cases o with
  | none => exact .ok .refl
  | some t => exact .ok (event_moves.after (thaw_moves.after advance_moves.mono))

theorem execFreezeMaxExpiry_next {s : State} : Next (mayChange .freezeMaxExpiry) s (execFreezeMaxExpiry s) := thawAfter_next

theorem readRecs_moves {l : List EventRec} {next lim : Nat} (n : Nat) (c : Cmd) (s : State) : Moves [.out] s (readRecs l next lim n c s).1 := by
  induction n generalizing c s with
  | zero => exact .refl
  | succ n ih =>
    unfold readRecs
    refine .ite_fst .refl ?_
    split
    · exact .refl
    · split
      · exact .refl
      · exact .ite_fst .refl (.trans send_moves (ih _ _))

theorem evRingOpen_moves {s : State} {b : Bytes} {cons : Option Nat} : Moves [.regs, .recd, .mram] s (evRingOpen s b cons).1 := by
  unfold evRingOpen
  split
  · exact .refl
  · exact .ite_fst .refl (event_moves.after (.ite Moves.refl.setRecd (.foldl Moves.refl.setRecd fun _ _ => ringOffer_moves.mono)))

theorem execEventRingOpen_next {s : State} {h : Nat} {data : Option Bytes} {cons : Option Nat} :
    Next (mayChange (.eventRingOpen h data cons)) s (execEventRingOpen h data cons s) :=
  .ok (startCmd_moves (fun _ _ => endCmd_moves.after evRingOpen_moves.mono))

theorem evRingFault_moves {s : State} {msix : Nat} : Moves [.regs, .recd, .mram, .out] s (evRingFault s msix) :=
  event_moves.after (send_moves.after Moves.refl.setRecd)

theorem evRingWrite_moves {s : State} {g : EvRing} {r : EventRec} : Moves [.regs, .recd, .out] s (evRingWrite s g r) :=
  .ite (send_moves.after (bump_moves.after (.setRecd send_moves.mono))) (bump_moves.after (.setRecd send_moves.mono))

theorem withEvRing_moves {l : List Part} {s : State} {cons : Option Nat} {written : Bool} {k : State → EvRing → State}
    (hk : ∀ u g, Moves l u (k u g)) (hl : [.regs, .recd, .mram, .out] ⊆ l := by exact Part.subset_of_within rfl) :
    Moves l s (withEvRing s cons written k) := by
  unfold withEvRing
  split
  · exact .refl
  · have taken {g : EvRing} : Moves [.regs, .recd, .mram, .out] s { s with recd := { s.recd with evRing := some g } } := Moves.refl.setRecd
    exact .ite (.sub evRingFault_moves hl) (.ite (.sub taken hl) (.ite (.trans (.sub taken hl) (hk _ _)) (.sub (evRingFault_moves.after taken) hl)))

theorem execEventRingDelivery_next {s : State} {t : Nat} {cons : Option Nat} {written : Bool} :
    Next (mayChange (.eventRingDelivery t cons written)) s (execEventRingDelivery t cons written s) := by
  unfold execEventRingDelivery
  dsimp only
  split
  · exact .ok advance_moves.mono
  · exact .ite (.ok advance_moves.mono) (.ok (Moves.trans advance_moves.mono (withEvRing_moves (fun _ _ => by
      split
      · exact .refl
      · exact evRingWrite_moves.mono))))

theorem execRepeatUpdateDelivery_next {s : State} {q t : Nat} {cons : Option Nat} {written : Bool} :
    Next (mayChange (.repeatUpdateDelivery q t cons written)) s (execRepeatUpdateDelivery q t cons written s) := by
  unfold execRepeatUpdateDelivery
  dsimp only
  split
  · exact .ok advance_moves.mono
  · split
    · exact .ite (.ok advance_moves.mono) (.ok (Moves.trans advance_moves.mono (withEvRing_moves (fun _ _ => evRingWrite_moves.mono))))
    · exact .ok advance_moves.mono

theorem execHistoryHoldRelease_next {s : State} {id : Nat} : Next (mayChange (.historyHoldRelease id)) s (execHistoryHoldRelease id s) := by
  unfold execHistoryHoldRelease
  dsimp only
  split
  · exact .ok (histOffer_moves.after (.setRecd advance_moves.mono (fun h => SMap.wf_upd _ _ _ h)))
  · exact .ok .refl

theorem execHistoryBlockClose_next {s : State} : Next (mayChange .historyBlockClose) s (execHistoryBlockClose s) :=
  .ite (.ok .refl) (.ok (histClose_moves.after advance_moves.mono))

theorem historyOpen_moves {s : State} {b : Bytes} {cons : Option Nat} : Moves [.regs, .recd, .mram] s (historyOpen s b cons).1 := by
  unfold historyOpen
  split
  · exact .refl
  · exact .ite_fst .refl (event_moves.after Moves.refl.setRecd)

theorem execHistoryOpen_next {s : State} {h : Nat} {data : Option Bytes} {cons : Option Nat} :
    Next (mayChange (.historyOpen h data cons)) s (execHistoryOpen h data cons s) :=
  .ok (startCmd_moves (fun _ _ => endCmd_moves.after historyOpen_moves.mono))

theorem execHistoryClose_next {s : State} {h : Nat} : Next (mayChange (.historyClose h)) s (execHistoryClose h s) :=
  .ok (startCmd_moves (fun _ _ => .ite endCmd_moves.mono (endCmd_moves.after (event_moves.after Moves.refl.setRecd))))

theorem historyFault_moves {s : State} {msix : Nat} : Moves [.regs, .recd, .mram, .out] s (historyFault s msix) :=
  event_moves.after (send_moves.after Moves.refl.setRecd)

theorem exportWrite_moves {s : State} {x : HistExport} {b : Bytes} : Moves [.recd, .out] s (exportWrite s x b) :=
  .ite (send_moves.after (.setRecd send_moves.mono)) (.setRecd send_moves.mono)

theorem exportNext_moves {s : State} {x : HistExport} : Moves [.regs, .recd, .mram, .out] s (exportNext s x) := by
  unfold exportNext
  split
  · exact event_moves.after (bumpN_moves.after (.setRecd exportWrite_moves.mono))
  · split
    · exact .refl
    · exact bump_moves.after (.setRecd exportWrite_moves.mono)

theorem execHistoryExport_next {s : State} {t : Nat} {cons : Option Nat} {written : Bool} :
    Next (mayChange (.historyExport t cons written)) s (execHistoryExport t cons written s) := by
  unfold execHistoryExport
  dsimp only
  split
  · exact .ok advance_moves.mono
  · exact .ite (.ok advance_moves.mono) (.ite (.ok (historyFault_moves.after advance_moves.mono))
        (.ite (.ok (.setRecd advance_moves.mono)) (.ok (.ite (exportNext_moves.after (.setRecd advance_moves.mono))
        (historyFault_moves.after (.setRecd advance_moves.mono))))))

end Sys2Proof.Machine
end

section
/-! What the functions of the Capture Engine may change. -/
set_option Elab.async false
namespace Sys2Proof.Machine
open Sys2Proof

theorem capConfig_moves {s : State} {c : Cmd} : Moves [.regs, .hif, .recd, .cap, .mram] s (capConfig s c) := by
  unfold capConfig
  dsimp only
  split
  · exact endCmd_moves.after (capEvent_moves.after bump_moves.mono)
  · exact endCmd_moves.after (capEvent_moves.after capUpd_moves.mono)

theorem execCapConfig_next {s : State} {h : Nat} {data : Option Bytes} : Next (mayChange (.capConfig h data)) s (execCapConfig h data s) :=
  .ok (startCmd_moves (fun _ _ => capConfig_moves.mono))

theorem maskLoad_moves {s : State} {c : Cmd} : Moves [.regs, .hif, .recd, .cap, .mram] s (maskLoad s c) := by
  unfold maskLoad
  dsimp only
  split
  · exact endCmd_moves.after capEvent_moves.mono
  · exact .ite (capUpd_moves.after (capEvent_moves.after maskNow_moves.mono))
        (endCmd_moves.after (capUpd_moves.after (capEvent_moves.after maskNow_moves.mono)))

theorem execMaskLoad_next {s : State} {h : Nat} {data : Option Bytes} : Next (mayChange (.maskLoad h data)) s (execMaskLoad h data s) :=
  .ok (startCmd_moves (fun _ _ => maskLoad_moves.mono))

theorem capArm_moves {s : State} {n : Nat} : Moves [.regs, .recd, .cap, .mram] s (capArm s n) :=
  capEvent_moves.after capUpd_moves.mono

theorem capStop_moves {s : State} {n : Nat} : Moves [.regs, .hif, .recd, .cap, .mram] s (capStop s n) := by
  unfold capStop
  split
  · exact capEvent_moves.after (maskNow_moves.after capUpd_moves.mono)
  · exact capEvent_moves.after (maskNow_moves.after capUpd_moves.mono)
  · exact capUpd_moves.mono
  · exact bump_moves.mono

theorem groupArmFails_moves {s : State} {n inst : Nat} {st : Status} : Moves [.hif, .cap] s (groupArmFails s n inst st) := by
  unfold groupArmFails
  split
  · exact endLaunch_moves.after Moves.refl.setCap
  · exact .refl

theorem capAct_moves {s : State} {n : Nat} {e : LqEntry} : Moves [.regs, .hif, .recd, .cap, .wlk, .mram, .out] s (capAct s n e) := by
  unfold capAct
  split
  · exact .ite (endLaunch_moves.after capArm_moves.mono) (groupArmFails_moves.after endLaunch_moves.mono)
  · exact endLaunch_moves.after capTrigger_moves
  · exact endLaunch_moves.after capStop_moves.mono

theorem capEnqueue_moves {s : State} {n : Nat} {e : LqEntry} : Moves [.regs, .hif, .recd, .cap, .wlk, .mram, .out] s (capEnqueue s n e).1 :=
  .ite_fst .refl (by
    dsimp only
    split
    · exact capAct_moves.after noteLate_moves.mono
    · exact noteLate_moves.mono
    · exact .ite_fst noteLate_moves.mono (capUpd_moves.after noteLate_moves.mono))

theorem capLaunch_moves {s : State} {a n : Nat} : Moves [.regs, .tmb, .hif, .recd, .cap, .wlk, .mram, .out] s (capLaunch a n s) := by
  unfold capLaunch
  split
  · exact .refl
  · exact .ite .refl (capAct_moves.after (capUpd_moves.after advance_moves.mono))

theorem execCapArmLaunch_next {s : State} {n : Nat} : Next (mayChange (.capArmLaunch n)) s (execCapArmLaunch n s) :=
  .ok capLaunch_moves.mono

theorem execCapFire_next {s : State} {n : Nat} : Next (mayChange (.capFire n)) s (execCapFire n s) :=
  .ok capLaunch_moves.mono

theorem execCapStop_next {s : State} {n : Nat} : Next (mayChange (.capStop n)) s (execCapStop n s) :=
  .ok capLaunch_moves.mono

theorem capArmAt_moves {s : State} {n inst : Nat} {late : Bool} {cmd : Option Nat} :
    Moves [.regs, .hif, .recd, .cap, .wlk, .mram, .out] s (capArmAt s n inst late cmd) := by
  unfold capArmAt
  dsimp only
  exact .ite capAct_moves (.ite capEnqueue_moves (endLaunch_moves.after capEnqueue_moves))

theorem capArmCmd_moves {s : State} {n inst : Nat} {cmd : Option Nat} :
    Moves [.regs, .hif, .recd, .cap, .wlk, .mram, .out] s (capArmCmd s n inst cmd) := by
  unfold capArmCmd
  dsimp only
  exact .ite endLaunch_moves.mono (.ite capArmAt_moves (.ite (waligAll_moves.after
      (.ite (.foldl (.ite (capEnqueue_moves.after Moves.refl.setCap) (groupArmFails_moves.after (capEnqueue_moves.after Moves.refl.setCap)))
      fun _ _ => capArmAt_moves)
      (.ite (capEnqueue_moves.after Moves.refl.setCap) (groupArmFails_moves.after (capEnqueue_moves.after Moves.refl.setCap)))))
      (.ite (.foldl (.ite (capEnqueue_moves.after Moves.refl.setCap) (groupArmFails_moves.after (capEnqueue_moves.after Moves.refl.setCap)))
      fun _ _ => capArmAt_moves)
      (.ite (capEnqueue_moves.after Moves.refl.setCap) (groupArmFails_moves.after (capEnqueue_moves.after Moves.refl.setCap))))))

theorem execCapArm_next {s : State} {h : Nat} : Next (mayChange (.capArm h)) s (execCapArm h s) :=
  .ok (startCmd_moves (fun _ _ => capArmCmd_moves.mono))

theorem execCapGroupArmInstant_next {s : State} {n : Nat} {members : List Nat} :
    Next (mayChange (.capGroupArmInstant n members)) s (execCapGroupArmInstant n members s) := by
  unfold execCapGroupArmInstant
  split
  · exact .ok .refl
  · exact .ok (endLaunch_moves.after (.foldl (.setCap advance_moves.mono) fun _ _ => capEvent_moves.mono))

theorem trigArm_moves {s : State} {src : Nat} {b : Bytes} : Moves [.regs, .hif, .recd, .cap, .wlk, .mram, .out] s (trigArm s src b) :=
  .ite .refl (.ite .refl (waligAll_moves.after (.foldl .refl fun _ _ => capEnqueue_moves)))

theorem execTrigArmRx_next {s : State} {p : Nat} {b : Bytes} {t : Nat} : Next (mayChange (.trigArmRx p b t)) s (execTrigArmRx p b t s) :=
  .ok (pairRx_moves (fun _ _ _ => trigArm_moves.mono))

theorem trigAck_moves {s : State} {src : Nat} {b : Bytes} : Moves [.cap] s (trigAck s src b) :=
  Moves.refl.setCap

theorem execTrigAckRx_next {s : State} {p : Nat} {b : Bytes} {t : Nat} : Next (mayChange (.trigAckRx p b t)) s (execTrigAckRx p b t s) :=
  .ok (pairRx_moves (fun _ _ _ => trigAck_moves.mono))

theorem capFireOn_moves {s : State} {n q src module : Nat} {late stop : Bool} :
    Moves [.regs, .hif, .recd, .cap, .mram] s (capFireOn s n q src module late stop) :=
  .ite (capJudge_moves.after (.ite (capEvent_moves.after (bump_moves.after bump_moves.mono)) bump_moves.mono))
      (.ite (capMissed_moves.after (capEvent_moves.after (.ite (capEvent_moves.after (bump_moves.after bump_moves.mono)) bump_moves.mono)))
      (capJudge_moves.after (capEvent_moves.after (.ite (capEvent_moves.after (bump_moves.after bump_moves.mono)) bump_moves.mono))))

theorem trigFire_moves {s : State} {src : Nat} {b : Bytes} : Moves [.regs, .hif, .recd, .cap, .mram] s (trigFire s src b) :=
  .ite .refl (.foldl .refl fun _ _ => .ite capFireOn_moves .refl)

theorem execTrigFireRx_next {s : State} {rx : Option (Nat × Bytes)} {t : Nat} : Next (mayChange (.trigFireRx rx t)) s (execTrigFireRx rx t s) := by
  unfold execTrigFireRx
  split
  · split
    · exact .ok .refl
    · exact .ok (.foldl (advance_moves.after Moves.refl.setCap) fun _ _ => .ite capFireOn_moves.mono .refl)
  · exact .ok (pairRx_moves (fun _ _ _ => trigFire_moves.mono))

theorem execRearmEnd_next {s : State} {n : Nat} : Next (mayChange (.rearmEnd n)) s (execRearmEnd n s) :=
  .ite (.ok .refl) (.ite (.ok (capEvent_moves.after (maskNow_moves.after (capUpd_moves.after advance_moves.mono))))
      (.ite (.ok (capEvent_moves.after (maskNow_moves.after (capUpd_moves.after advance_moves.mono))))
      (.ok (capUpd_moves.after advance_moves.mono))))

theorem execPostWindowExpiry_next {s : State} {n : Nat} : Next (mayChange (.postWindowExpiry n)) s (execPostWindowExpiry n s) := by
  unfold execPostWindowExpiry
  dsimp only
  split
  · exact .ok (capGap_moves.after advance_moves.mono)
  · exact .ok .refl

theorem recorderStart_moves {s : State} {n loop pre : Nat} : Moves [.cap] s (recorderStart s n loop pre) :=
  capUpd_moves

theorem recorderPut_moves {s : State} {n : Nat} {r : Bytes} : Moves [.cap] s (recorderPut s n r) :=
  capUpd_moves

theorem recorderTrig_moves {s : State} {n at' : Nat} : Moves [.cap] s (recorderTrig s n at') :=
  capUpd_moves

theorem recorderEnd_moves {s : State} {n : Nat} : Moves [.regs, .cap] s (recorderEnd s n) := by
  unfold recorderEnd
  dsimp only
  split
  · exact bump_moves.after capUpd_moves.mono
  · exact .refl

theorem capMissRead_moves {s : State} {v : Word} : Moves [.regs, .cap] s (capMissRead v s) :=
  .setCap (setFld_moves.after setFld_moves.mono)

theorem execCapMissRead_next {s : State} {v : Word} : Next (mayChange (.capMissRead v)) s (execCapMissRead v s) :=
  regCmd_next (fun _ => capMissRead_moves.mono)

theorem qchForceWrite_moves {s : State} {v : Word} : Moves [.regs, .recd, .qch, .wlk, .par, .mram, .out, .freeCtr] s (qchForceWrite v s) :=
  .foldl .refl fun _ _ => qchChange_moves (fun _ => setFld_moves.mono)

theorem execQchForceWrite_next {s : State} {v : Word} : Next (mayChange (.qchForceWrite v)) s (execQchForceWrite v s) :=
  regCmd_next (fun _ => qchForceWrite_moves.mono)

theorem qchReleaseNow_moves {s : State} {n : Nat} : Moves [.regs, .recd, .qch, .wlk, .par, .mram, .out, .freeCtr] s (qchReleaseNow s n) :=
  .ite (qchEvent_moves.after (bump_moves.after qchUpd_moves.mono)) (qchEvent_moves.after
      (bump_moves.after (qchChange_moves (fun _ => qchUpd_moves.mono))))

theorem qchRelease_moves {s : State} {n : Nat} : Moves [.regs, .recd, .qch, .wlk, .par, .mram, .out, .freeCtr] s (qchRelease n s) :=
  .ite qchUpd_moves.mono qchReleaseNow_moves

theorem execQchRelease_next {s : State} {n : Nat} : Next (mayChange (.qchRelease n)) s (execQchRelease n s) :=
  .ite (regCmd_next (fun _ => qchRelease_moves.mono)) (.ok .refl)

theorem execQchReleaseDeferred_next {s : State} {n : Nat} : Next (mayChange (.qchReleaseDeferred n)) s (execQchReleaseDeferred n s) :=
  .ite (.ok (qchReleaseNow_moves.after advance_moves.mono)) (.ok .refl)

theorem execQchReadbackFault_next {s : State} {n t : Nat} : Next (mayChange (.qchReadbackFault n t)) s (execQchReadbackFault n t s) :=
  .ite (.ok (qchEvent_moves.after (bump_moves.after (assertFault_moves.after (setFld_moves.after (qchUpd_moves.after advance_moves.mono))))))
      (.ok advance_moves.mono)

end Sys2Proof.Machine
end

section
/-! What the functions of converter groups and slices may change. -/
set_option Elab.async false
namespace Sys2Proof.Machine
open Sys2Proof

theorem cnvUpd_moves {s : State} {g : Nat} {f : CnvGroup → CnvGroup} : Moves [.cnv] s (cnvUpd s g f) :=
  Moves.refl.setCnv fun h => { h with group := SMap.wf_upd _ _ _ h.group }

theorem sliceUpd_moves {s : State} {n : Nat} {f : CnvSlice → CnvSlice} : Moves [.cnv] s (sliceUpd s n f) :=
  Moves.refl.setCnv fun h => { h with slice := SMap.wf_upd _ _ _ h.slice }

theorem cnvEvent_moves {s : State} {k : EvKind} {g slice input : Nat} : Moves [.regs, .recd, .mram] s (cnvEvent s k g slice input) :=
  event_moves

theorem cnvPublish_moves {s : State} {p : Nat × Nat × Int × Nat × Bool} :
    Moves [.regs, .pst, .hif, .recd, .cap, .wlk, .par, .mram, .out] s (cnvPublish s p) :=
  inputGroup_moves.after bump_moves.mono

theorem badPoint_moves {s : State} {cls unit id : Nat} : Moves [.regs, .pst, .hif, .recd, .cap, .wlk, .mram, .out] s (badPoint s cls unit id) :=
  .ite .refl blockWrite_moves

theorem pubTurn_moves {s : State} {g : Nat} : Moves [.regs, .pst, .hif, .recd, .cnv, .cap, .wlk, .par, .mram, .out] s (pubTurn s g) := by
  unfold pubTurn
  dsimp only
  split
  · exact .refl
  · exact .ite .refl (cnvPublish_moves.after cnvUpd_moves.mono)

theorem pubOffer_moves {s : State} {g : Nat} {p : Nat × Nat × Int × Nat × Bool} :
    Moves [.regs, .pst, .hif, .recd, .cnv, .cap, .wlk, .par, .mram, .out] s (pubOffer s g p) :=
  pubTurn_moves.after (cnvUpd_moves.after (.ite bump_moves.mono .refl))

theorem cnvRelease_moves {s : State} {g : Nat} {e : QEntry} : Moves [.regs, .cnv] s (cnvRelease s g e) :=
  bump_moves.after cnvUpd_moves.mono

theorem cnvOver_moves {s : State} {input : Nat} : Moves [.regs] s (cnvOver s input) :=
  setFld_moves.after bump_moves

theorem cnvAllBad_moves {s : State} {g : Nat} : Moves [.regs, .pst, .hif, .recd, .cap, .wlk, .mram, .out] s (cnvAllBad s g) :=
  .foldl .refl fun _ _ => badPoint_moves

theorem cnvStop_moves {s : State} {g : Nat} : Moves [.cnv] s (cnvStop s g) :=
  .foldl cnvUpd_moves fun _ _ => sliceUpd_moves

theorem nudge_moves {s : State} {n : Nat} : Moves [.freeCtr] s (nudge s n).2 :=
  drawFree_moves

theorem sliceNudge_moves {s : State} {n : Nat} : Moves [.cnv, .freeCtr] s (sliceNudge s n) := by
  unfold sliceNudge
  dsimp only
  exact sliceUpd_moves.after (nudge_moves.after (nudge_moves.after (nudge_moves.after nudge_moves.mono)))

theorem sliceMeasure_moves {s : State} {n : Nat} : Moves [.cnv, .freeCtr] s (sliceMeasure s n) := by
  unfold sliceMeasure
  dsimp only
  exact sliceUpd_moves.after (drawFree_moves.after (nudge_moves.after (nudge_moves.after drawFree_moves.mono)))

theorem cnvGeneration_moves {s : State} {gs : List Nat} : Moves [.cnv] s (cnvGeneration s gs) :=
  .foldl Moves.refl.setCnv fun _ _ => cnvUpd_moves

theorem fgDone_moves {s : State} : Moves [.regs, .recd, .cnv, .mram, .hdl, .freeCtr] s (fgDone s) :=
  cnvEvent_moves.after (settingsWritten_moves.after (.setCnv (.foldl
      (cnvGeneration_moves.after (.foldl .refl fun _ _ => sliceMeasure_moves.mono)) fun _ _ => cnvUpd_moves.mono)))

end Sys2Proof.Machine
end

section
/-! What the functions of the Anvil array may change. -/
set_option Elab.async false
namespace Sys2Proof.Machine
open Sys2Proof

theorem anvUpd_moves {s : State} {k : Nat} {f : AnvCore → AnvCore} : Moves [.anv] s (anvUpd s k f) :=
  Moves.refl.setAnv fun h => { h with core := SMap.wf_upd _ _ _ h.core }

theorem loopUpd_moves {s : State} {n : Nat} {f : Machine.Loop → Machine.Loop} : Moves [.anv] s (loopUpd s n f) :=
  Moves.refl.setAnv fun h => { h with loop := SMap.wf_upd _ _ _ h.loop }

theorem anvEvent_moves {s : State} {k : EvKind} {core slot cause pc addr : Nat} :
    Moves [.regs, .recd, .mram] s (anvEvent s k core slot cause pc addr) :=
  event_moves

theorem noteLimit_moves {s : State} {lim : Bool} {r : AnvRun} : Moves [.regs] s (noteLimit lim s r).1 :=
  .ite_fst bump_moves .refl

theorem runEnds_moves {s : State} {c : Nat} {r : AnvRun} : Moves [.regs, .anv] s (runEnds s c r) :=
  setStored_moves.after anvUpd_moves.mono

theorem sampleUpd_moves {s : State} {n t0 : Nat} {f : LoopSample → LoopSample} : Moves [.anv] s (sampleUpd s n t0 f) :=
  loopUpd_moves

theorem anvStop_moves {s : State} {c cause addr bank : Nat} : Moves [.regs, .recd, .anv, .mram] s (anvStop s c cause addr bank) := by
  unfold anvStop
  split
  · exact .refl
  · dsimp only
    split
    · exact anvEvent_moves.after (bump_moves.after (sampleUpd_moves.after (runEnds_moves.after anvUpd_moves.mono)))
    · exact anvEvent_moves.after (bump_moves.after (sampleUpd_moves.after (runEnds_moves.after anvUpd_moves.mono)))
    · exact anvEvent_moves.after (bump_moves.after (sampleUpd_moves.after (runEnds_moves.after anvUpd_moves.mono)))

theorem cycleEnds_moves {s : State} {c : Nat} {r : AnvRun} {branch : Option Nat} : Moves [.tmb, .anv] s (cycleEnds s c r branch) :=
  advance_moves.after anvUpd_moves.mono

theorem anvRow_moves {l : List Part} {s : State} {c cls op cost : Nat} {f : State → AnvRun → Nat → State}
    (hf : ∀ u r w, Moves l u (f u r w)) (hl : [.regs, .recd, .anv, .mram] ⊆ l := by exact Part.subset_of_within rfl) :
    Moves l s (anvRow s c cls op cost f) := by
  unfold anvRow
  split
  · exact .refl
  · refine .ite .refl ?_
    split
    · exact .sub anvStop_moves hl
    · exact .ite (hf _ _ _) .refl

theorem runMove_moves {s : State} {c : Nat} {r0 r : AnvRun} {bank : Nat} {m : AnvMove} : Moves [.regs] s (runMove s c r0 r bank m).1 :=
  .ite_fst .refl (.ite_fst (by
    split
    · exact .refl
    · exact .refl
    · exact noteLimit_moves) (by
    split
    · exact .refl
    · exact .refl
    · exact noteLimit_moves))

theorem anvClassA_moves {s : State} {c op : Nat} {f : AluOp} : Moves [.regs, .tmb, .recd, .anv, .mram] s (anvClassA s c op f) :=
  anvRow_moves (fun _ _ _ => .ite anvStop_moves.mono (.ite anvStop_moves.mono (cycleEnds_moves.after (runMove_moves.after runMove_moves.mono))))

theorem execAnvNop_next {s : State} {c : Nat} : Next (mayChange (.anvNop c)) s (execAnvNop c s) :=
  .ok anvClassA_moves.mono

theorem execMpy_next {s : State} {c : Nat} : Next (mayChange (.mpy c)) s (execMpy c s) :=
  .ok anvClassA_moves.mono

theorem execMac_next {s : State} {c : Nat} : Next (mayChange (.mac c)) s (execMac c s) :=
  .ok anvClassA_moves.mono

theorem execMsu_next {s : State} {c : Nat} : Next (mayChange (.msu c)) s (execMsu c s) :=
  .ok anvClassA_moves.mono

theorem execLda_next {s : State} {c : Nat} : Next (mayChange (.lda c)) s (execLda c s) :=
  .ok anvClassA_moves.mono

theorem execAdd_next {s : State} {c : Nat} : Next (mayChange (.add c)) s (execAdd c s) :=
  .ok anvClassA_moves.mono

theorem execSub_next {s : State} {c : Nat} : Next (mayChange (.sub c)) s (execSub c s) :=
  .ok anvClassA_moves.mono

theorem execAdda_next {s : State} {c : Nat} : Next (mayChange (.adda c)) s (execAdda c s) :=
  .ok anvClassA_moves.mono

theorem execSuba_next {s : State} {c : Nat} : Next (mayChange (.suba c)) s (execSuba c s) :=
  .ok anvClassA_moves.mono

theorem execClr_next {s : State} {c : Nat} : Next (mayChange (.clr c)) s (execClr c s) :=
  .ok anvClassA_moves.mono

theorem execNeg_next {s : State} {c : Nat} : Next (mayChange (.neg c)) s (execNeg c s) :=
  .ok anvClassA_moves.mono

theorem execAbs_next {s : State} {c : Nat} : Next (mayChange (.abs c)) s (execAbs c s) :=
  .ok anvClassA_moves.mono

theorem execCmp_next {s : State} {c : Nat} : Next (mayChange (.cmp c)) s (execCmp c s) :=
  .ok anvClassA_moves.mono

theorem anvClassB_moves {s : State} {c op : Nat} {f : AnvRun → Nat → AnvRun} : Moves [.regs, .tmb, .recd, .anv, .mram] s (anvClassB s c op f) :=
  anvRow_moves (fun _ _ _ => cycleEnds_moves.mono)

theorem execLdx_next {s : State} {c : Nat} : Next (mayChange (.ldx c)) s (execLdx c s) :=
  .ok anvClassB_moves.mono

theorem execLdy_next {s : State} {c : Nat} : Next (mayChange (.ldy c)) s (execLdy c s) :=
  .ok anvClassB_moves.mono

theorem execLdp_next {s : State} {c : Nat} : Next (mayChange (.ldp c)) s (execLdp c s) :=
  .ok anvClassB_moves.mono

theorem execMov_next {s : State} {c : Nat} : Next (mayChange (.mov c)) s (execMov c s) :=
  .ok anvClassB_moves.mono

theorem execMova_next {s : State} {c : Nat} : Next (mayChange (.mova c)) s (execMova c s) :=
  .ok (anvRow_moves (fun _ _ _ => cycleEnds_moves.after noteLimit_moves.mono))

theorem execMoval_next {s : State} {c : Nat} : Next (mayChange (.moval c)) s (execMoval c s) :=
  .ok anvClassB_moves.mono

theorem execAsh_next {s : State} {c : Nat} : Next (mayChange (.ash c)) s (execAsh c s) :=
  .ok anvClassB_moves.mono

theorem execSha_next {s : State} {c : Nat} : Next (mayChange (.sha c)) s (execSha c s) :=
  .ok anvClassB_moves.mono

theorem execNorm_next {s : State} {c : Nat} : Next (mayChange (.norm c)) s (execNorm c s) :=
  .ok anvClassB_moves.mono

theorem execExp_next {s : State} {c : Nat} : Next (mayChange (.exp c)) s (execExp c s) :=
  .ok anvClassB_moves.mono

theorem execJmp_next {s : State} {c : Nat} : Next (mayChange (.jmp c)) s (execJmp c s) :=
  .ok (anvRow_moves (fun _ _ _ => cycleEnds_moves.mono))

theorem execJcc_next {s : State} {c : Nat} : Next (mayChange (.jcc c)) s (execJcc c s) :=
  .ok (anvRow_moves (fun _ _ _ => cycleEnds_moves.mono))

theorem execCall_next {s : State} {c : Nat} : Next (mayChange (.call c)) s (execCall c s) :=
  .ok (anvRow_moves (fun _ _ _ => cycleEnds_moves.mono))

theorem execRet_next {s : State} {c : Nat} : Next (mayChange (.ret c)) s (execRet c s) :=
  .ok (anvRow_moves (fun _ _ _ => cycleEnds_moves.mono))

theorem execDo_next {s : State} {c : Nat} : Next (mayChange (.doLoop c)) s (execDo c s) :=
  .ok (anvRow_moves (fun _ _ _ => anvUpd_moves.after cycleEnds_moves.mono))

theorem execClrf_next {s : State} {c : Nat} : Next (mayChange (.clrf c)) s (execClrf c s) :=
  .ok anvClassB_moves.mono

theorem execScale_next {s : State} {c : Nat} : Next (mayChange (.scale c)) s (execScale c s) :=
  .ok anvClassB_moves.mono

theorem endUser_moves {s : State} {c : Nat} {r : AnvRun} : Moves [.regs, .tmb, .anv] s (endUser s c r) :=
  sampleUpd_moves.after (runEnds_moves.after (advance_moves.after (anvUpd_moves.after anvUpd_moves.mono)))

theorem execRoutineOverrun_next {s : State} {c : Nat} : Next (mayChange (.routineOverrun c)) s (execRoutineOverrun c s) := by
  unfold execRoutineOverrun
  split
  · exact .ok .refl
  · exact .ite (.ok anvStop_moves.mono) (.ok .refl)

end Sys2Proof.Machine
end

section
/-! What the functions of CAN FD controllers may change. -/
set_option Elab.async false
namespace Sys2Proof.Machine
open Sys2Proof

theorem canUpd_moves {s : State} {c : Nat} {f : CanCtl → CanCtl} : Moves [.can] s (canUpd s c f) :=
  Moves.refl.setCan fun h => SMap.wf_upd _ _ _ h

theorem canEvent_moves {s : State} {k : EvKind} {c handle off : Nat} : Moves [.regs, .recd, .mram] s (canEvent s k c handle off) :=
  event_moves

theorem canEnqueue_moves {s : State} {c : Nat} {e : LqEntry} {f : Bytes} {now : Bool} :
    Moves [.regs, .recd, .can, .par, .mram] s (canEnqueue s c e f now).1 := by
  unfold canEnqueue
  dsimp only
  split
  · exact canUpd_moves.after (.ite .refl noteLate_moves.mono)
  · exact .ite (canUpd_moves.after (outward_moves.after (.ite .refl noteLate_moves.mono))) (outward_moves.after (.ite .refl noteLate_moves.mono))
  · exact .ite .refl noteLate_moves.mono

theorem rxRecord_moves {s : State} {c : Nat} {cons : Option Nat} {kind filter stamp : Nat} {f : Bytes} :
    Moves [.regs, .recd, .can, .mram, .out] s (rxRecord s c cons kind filter stamp f) :=
  .ite .refl (.ite (canUpd_moves.after (.ite (bump_moves.after canUpd_moves.mono) (canEvent_moves.after (bump_moves.after canUpd_moves.mono))))
      (.ite (send_moves.after (canUpd_moves.after (send_moves.after canUpd_moves.mono))) (canUpd_moves.after (send_moves.after canUpd_moves.mono))))

theorem canDrop_moves {s : State} {c h : Nat} : Moves [.can] s (canDrop s c h) :=
  canUpd_moves

theorem canEnds_moves {s : State} {c : Nat} {cons : Option Nat} {f : CanFrame} {kind : Nat} :
    Moves [.regs, .hif, .recd, .can, .mram, .out] s (canEnds s c cons f kind) :=
  .ite (rxRecord_moves.after (.ite canDrop_moves.mono (endLaunch_moves.after canDrop_moves.mono)))
      (.ite canDrop_moves.mono (endLaunch_moves.after canDrop_moves.mono))

theorem canAttemptFails_moves {s : State} {c : Nat} {cons : Option Nat} {h : Nat} :
    Moves [.regs, .hif, .recd, .can, .mram, .out] s (canAttemptFails s c cons h) := by
  unfold canAttemptFails
  dsimp only
  split
  · exact canUpd_moves.mono
  · exact .ite canUpd_moves.mono (canEnds_moves.after (canEvent_moves.after (bump_moves.after canUpd_moves.mono)))

theorem canBusOff_moves {s : State} {c : Nat} {cons : Option Nat} : Moves [.regs, .hif, .recd, .can, .mram, .out] s (canBusOff s c cons) :=
  .ite (.foldl (canEvent_moves.after (bump_moves.after canUpd_moves.mono))
      fun _ _ => canEnds_moves.after bump_moves.mono) (canEvent_moves.after (bump_moves.after canUpd_moves.mono))

theorem canConfine_moves {s : State} {c : Nat} {cons : Option Nat} : Moves [.regs, .hif, .recd, .can, .mram, .out] s (canConfine s c cons) := by
  unfold canConfine
  dsimp only
  split
  · exact .ite canBusOff_moves (.ite (canEvent_moves.after canUpd_moves.mono) .refl)
  · exact .ite canBusOff_moves (.ite (canEvent_moves.after canUpd_moves.mono) .refl)
  · exact .refl

theorem canError_moves {s : State} {c : Nat} {cons : Option Nat} {code : Nat} {quiet : Bool} :
    Moves [.regs, .hif, .recd, .can, .mram, .out] s (canError s c cons code quiet) :=
  canConfine_moves.after (by
    split
    · exact canAttemptFails_moves.after (canUpd_moves.after bump_moves.mono)
    · exact canUpd_moves.after bump_moves.mono)

end Sys2Proof.Machine
end

section
/-! What the functions of the CAN FD commands may change. -/
set_option Elab.async false
namespace Sys2Proof.Machine
open Sys2Proof

theorem canTake_moves {s : State} {c : Nat} {d : Bytes} {h : Nat} : Moves [.regs, .hif, .recd, .can, .mram] s (canTake s c d h) :=
  endCmd_moves.after (canEvent_moves.after canUpd_moves.mono)

theorem canConfig_moves {s : State} {idle : Bool} {cons : Option Nat} {k : Cmd} :
    Moves [.regs, .hif, .recd, .can, .mram] s (canConfig idle cons s k) := by
  unfold canConfig
  dsimp only
  split
  · exact endCmd_moves.after (canEvent_moves.after canUpd_moves.mono)
  · exact .ite (canTake_moves.after canUpd_moves.mono) (canUpd_moves.after canUpd_moves.mono)

theorem execCanConfig_next {s : State} {h : Nat} {data : Option Bytes} {idle : Bool} {cons : Option Nat} :
    Next (mayChange (.canConfig h data idle cons)) s (execCanConfig h data idle cons s) :=
  .ok (startCmd_moves (fun _ _ => canConfig_moves.mono))

theorem canTakeAll_moves {s : State} {c : Nat} : Moves [.regs, .hif, .recd, .can, .mram] s (canTakeAll s c) :=
  .foldl canUpd_moves.mono fun _ _ => canTake_moves

theorem execCanConfigEffect_next {s : State} {c t : Nat} : Next (mayChange (.canConfigEffect c t)) s (execCanConfigEffect c t s) :=
  .ite (.ok .refl) (.ok (canTakeAll_moves.after advance_moves.mono))

theorem execCanIntegrationDone_next {s : State} {c t : Nat} : Next (mayChange (.canIntegrationDone c t)) s (execCanIntegrationDone c t s) :=
  .ite (.ok .refl) (.ok (canUpd_moves.after advance_moves.mono))

theorem canFilter_moves {s : State} {k : Cmd} : Moves [.regs, .hif, .recd, .can, .mram] s (canFilter s k) :=
  .ite endCmd_moves.mono (endCmd_moves.after (canEvent_moves.after canUpd_moves.mono))

theorem execCanFilter_next {s : State} {h : Nat} {data : Option Bytes} : Next (mayChange (.canFilter h data)) s (execCanFilter h data s) :=
  .ok (startCmd_moves (fun _ _ => canFilter_moves.mono))

theorem canSend_moves {s : State} {k : Cmd} : Moves [.regs, .hif, .recd, .can, .par, .mram] s (canSend s k) := by
  unfold canSend
  dsimp only
  exact .ite endCmd_moves.mono (.ite endCmd_moves.mono (by
    split
    · exact canEnqueue_moves.mono
    · exact endCmd_moves.after canEnqueue_moves.mono
    · exact endCmd_moves.after canEnqueue_moves.mono))

theorem execCanSend_next {s : State} {h : Nat} {data : Option Bytes} : Next (mayChange (.canSend h data)) s (execCanSend h data s) :=
  .ok (startCmd_moves (fun _ _ => canSend_moves.mono))

theorem execCanSendLaunch_next {s : State} {c : Nat} : Next (mayChange (.canSendLaunch c)) s (execCanSendLaunch c s) := by
  unfold execCanSendLaunch
  split
  · exact .ok .refl
  · exact .ok (endLaunch_moves.after (.ite (canUpd_moves.after (outward_moves.after advance_moves.mono))
        (canDrop_moves.after (outward_moves.after advance_moves.mono))))

theorem execCanArbitration_next {s : State} {c sof : Nat} : Next (mayChange (.canArbitration c sof)) s (execCanArbitration c sof s) :=
  .ite (.ok .refl) (by
    split
    · exact .ok .refl
    · exact .ok (send_moves.after (canUpd_moves.after advance_moves.mono)))

theorem tdcMeasure_moves {s : State} {c : Nat} {tdcv : Option Nat} : Moves [.regs, .can] s (tdcMeasure s c tdcv).1 := by
  unfold tdcMeasure
  dsimp only
  split
  · exact .ite_fst (.ite_fst (bump_moves.after canUpd_moves.mono) canUpd_moves.mono) .refl
  · exact .refl

theorem execCanTxComplete_next {s : State} {c : Nat} {sent : Bool} {tdcv cons : Option Nat} {t : Nat} :
    Next (mayChange (.canTxComplete c sent tdcv cons t)) s (execCanTxComplete c sent tdcv cons t s) := by
  unfold execCanTxComplete
  split
  · exact .ok .refl
  · exact .ite (.ok (canAttemptFails_moves.after (bump_moves.after advance_moves.mono)))
        (.ite (.ok (canError_moves.after (tdcMeasure_moves.after advance_moves.mono)))
        (.ok (canConfine_moves.after (canEnds_moves.after (canUpd_moves.after (bump_moves.after (tdcMeasure_moves.after advance_moves.mono)))))))

theorem canCancel_moves {s : State} {cons : Option Nat} {k : Cmd} : Moves [.regs, .hif, .recd, .can, .mram, .out] s (canCancel cons s k) := by
  unfold canCancel
  dsimp only
  split
  · exact endCmd_moves.mono
  · exact .ite endCmd_moves.mono (endCmd_moves.after (canEnds_moves.after bump_moves.mono))

theorem execCanCancel_next {s : State} {h : Nat} {cons : Option Nat} : Next (mayChange (.canCancel h cons)) s (execCanCancel h cons s) :=
  .ok (startCmd_moves (fun _ _ => canCancel_moves.mono))

theorem canAccept_moves {s : State} {c sof : Nat} {f : Bytes} {cons : Option Nat} :
    Moves [.regs, .pst, .hif, .recd, .cap, .can, .wlk, .mram, .out] s (canAccept s c sof f cons) := by
  unfold canAccept
  dsimp only
  split
  · exact .ite (rxRecord_moves.after bump_moves.mono) (bump_moves.after bump_moves.mono)
  · exact .ite (rxRecord_moves.after (.ite (.ite (bump_moves.after bump_moves.mono) (writeGroup_moves.after bump_moves.mono)) bump_moves.mono))
        (.ite (.ite (bump_moves.after bump_moves.mono) (writeGroup_moves.after bump_moves.mono)) bump_moves.mono)

theorem execCanFrameRx_next {s : State} {c sof : Nat} {f : Bytes} {cons : Option Nat} {t : Nat} :
    Next (mayChange (.canFrameRx c sof f cons t)) s (execCanFrameRx c sof f cons t s) :=
  .ite (.ok .refl) (.ite (.ok (canUpd_moves.after (bump_moves.after (canUpd_moves.after advance_moves.mono))))
      (.ite (.ok (canConfine_moves.after (canUpd_moves.after (drawFree_moves.after (canUpd_moves.after advance_moves.mono)))))
      (.ok (canAccept_moves.after (mirrorInput_moves.after (canConfine_moves.after
      (canUpd_moves.after (drawFree_moves.after (canUpd_moves.after advance_moves.mono)))))))))

theorem execCanBusError_next {s : State} {c code : Nat} {quiet : Bool} {tdcv cons : Option Nat} {t : Nat} :
    Next (mayChange (.canBusError c code quiet tdcv cons t)) s (execCanBusError c code quiet tdcv cons t s) :=
  .ite (.ok .refl) (.ok (canError_moves.after (tdcMeasure_moves.after advance_moves.mono)))

theorem canRecover_moves {s : State} {c : Nat} : Moves [.can] s (canRecover s c) :=
  .ite canUpd_moves .refl

theorem execCanRecover_next {s : State} {c : Nat} : Next (mayChange (.canRecover c)) s (execCanRecover c s) :=
  .ite (.ok .refl) (regCmd_next (fun _ => canRecover_moves.mono))

theorem execCanRecoveryDone_next {s : State} {c t : Nat} : Next (mayChange (.canRecoveryDone c t)) s (execCanRecoveryDone c t s) :=
  .ite (.ok .refl) (.ok (canEvent_moves.after (canUpd_moves.after advance_moves.mono)))

end Sys2Proof.Machine
end

section
/-! What the functions of the converter array may change. -/
set_option Elab.async false
namespace Sys2Proof.Machine
open Sys2Proof

theorem cnvConfig_moves {s : State} {c : Cmd} : Moves [.regs, .hif, .recd, .cnv, .mram] s (cnvConfig s c) := by
  unfold cnvConfig
  split
  · exact endCmd_moves.after (event_moves.after bump_moves.mono)
  · exact cnvUpd_moves.mono

theorem execCnvConfig_next {s : State} {h : Nat} {data : Option Bytes} : Next (mayChange (.cnvConfig h data)) s (execCnvConfig h data s) :=
  .ok (startCmd_moves (fun _ _ => cnvConfig_moves.mono))

theorem cnvTake_moves {s : State} {c : CnvCfg} {g : Nat} : Moves [.cnv] s (cnvTake s c g) :=
  cnvUpd_moves.after (.foldl .refl fun _ _ => sliceUpd_moves)

theorem execCnvConfigBoundary_next {s : State} {g t : Nat} : Next (mayChange (.cnvConfigBoundary g t)) s (execCnvConfigBoundary g t s) := by
  unfold execCnvConfigBoundary
  split
  · exact .ok .refl
  · exact .ite (.ok .refl) (.ok (endCmd_moves.after (cnvEvent_moves.after (.setCnv (.foldl advance_moves.mono fun _ _ => cnvTake_moves.mono)))))

theorem execCnvResultFormed_next {s : State} {g : Nat} {cs : List Int} {ovr : Bool} {q t : Nat} :
    Next (mayChange (.cnvResultFormed g cs ovr q t)) s (execCnvResultFormed g cs ovr q t s) :=
  .ite (.ok .refl) (.ite (.ok (.ite (pubOffer_moves.after (.iteThen (cnvRelease_moves.after cnvUpd_moves.mono)
      (cnvUpd_moves.after (.iteThen cnvOver_moves.mono advance_moves.mono))))
      (pubTurn_moves.after (.iteThen (cnvRelease_moves.after cnvUpd_moves.mono)
      (cnvUpd_moves.after (.iteThen cnvOver_moves.mono advance_moves.mono))))))
      (.ok (.foldl (.ite (pubOffer_moves.after (.iteThen (cnvRelease_moves.after cnvUpd_moves.mono)
      (cnvUpd_moves.after (.iteThen cnvOver_moves.mono advance_moves.mono))))
      (pubTurn_moves.after (.iteThen (cnvRelease_moves.after cnvUpd_moves.mono)
      (cnvUpd_moves.after (.iteThen cnvOver_moves.mono advance_moves.mono))))) fun _ _ => .ite capSample_moves.mono .refl)))

theorem execScanPassStart_next {s : State} {g t : Nat} : Next (mayChange (.scanPassStart g t)) s (execScanPassStart g t s) :=
  .ite (.ok .refl) (.ok (.foldl advance_moves.mono fun _ _ => sliceUpd_moves.mono))

theorem execScanResult_next {s : State} {n : Nat} {c : Int} {ovr : Bool} {q t : Nat} :
    Next (mayChange (.scanResult n c ovr q t)) s (execScanResult n c ovr q t s) := by
  unfold execScanResult
  dsimp only
  split
  · exact .ok .refl
  · exact .ite (.ok .refl) (by
      split
      · exact .ok .refl
      · exact .ite (.ok (sliceUpd_moves.after (.ite (pubOffer_moves.after
            (cnvRelease_moves.after (cnvUpd_moves.after (.ite (cnvOver_moves.after advance_moves.mono) advance_moves.mono))))
            (pubTurn_moves.after (cnvRelease_moves.after (cnvUpd_moves.after
            (.ite (cnvOver_moves.after advance_moves.mono) advance_moves.mono)))))))
            (.ok (sliceUpd_moves.after (cnvUpd_moves.after (.ite (pubOffer_moves.after
            (cnvRelease_moves.after (cnvUpd_moves.after (.ite (cnvOver_moves.after advance_moves.mono) advance_moves.mono))))
            (pubTurn_moves.after (cnvRelease_moves.after (cnvUpd_moves.after
            (.ite (cnvOver_moves.after advance_moves.mono) advance_moves.mono)))))))))

theorem execCalSlot_next {s : State} {n t : Nat} : Next (mayChange (.calSlot n t)) s (execCalSlot n t s) :=
  .ite (.ok .refl) (.ite (.ok (bump_moves.after advance_moves.mono)) (.ok (bump_moves.after (sliceUpd_moves.after advance_moves.mono))))

theorem temperRun_moves {s : State} {c : Cmd} {loopReads : Bool} :
    Moves [.regs, .pst, .hif, .recd, .cnv, .cap, .wlk, .mram, .out] s (temperRun s c loopReads) :=
  .ite endCmd_moves.mono (.ite endCmd_moves.mono (.ite endCmd_moves.mono
      (bump_moves.after (.setCnv (.foldl (.foldl .refl fun _ _ => cnvUpd_moves.after cnvAllBad_moves.mono) fun _ _ => sliceUpd_moves.mono)))))

theorem temperDone_moves {s : State} : Moves [.regs, .hif, .recd, .cnv, .mram, .hdl, .freeCtr] s (temperDone s) := by
  unfold temperDone
  split
  · split
    · exact endCmd_moves.after fgDone_moves.mono
    · exact fgDone_moves.mono
  · exact .refl

theorem temperFail_moves {s : State} : Moves [.regs, .recd, .cnv, .mram] s (temperFail s) := by
  unfold temperFail
  split
  · exact cnvEvent_moves.after (.setCnv (.foldl .refl fun _ _ => cnvUpd_moves.mono))
  · exact .refl

theorem execTemperBgUpdate_next {s : State} {idle t : Nat} : Next (mayChange (.temperBgUpdate idle t)) s (execTemperBgUpdate idle t s) :=
  .ite (.ok .refl) (.ite (.ok (bumpN_moves.after (bumpN_moves.after
      (.foldl advance_moves.mono fun _ _ => cnvUpd_moves.mono))))
      (.ok (bump_moves.after (cnvGeneration_moves.after (.foldl (bumpN_moves.after
      (bumpN_moves.after (.foldl advance_moves.mono fun _ _ => cnvUpd_moves.mono))) fun _ _ => sliceNudge_moves.mono)))))

theorem execTemperDeferExpiry_next {s : State} {g : Nat} : Next (mayChange (.temperDeferExpiry g)) s (execTemperDeferExpiry g s) := by
  unfold execTemperDeferExpiry
  split
  · exact .ok .refl
  · exact .ok (cnvEvent_moves.after (.foldl (bump_moves.after (bump_moves.after
        (cnvGeneration_moves.after (.foldl advance_moves.mono fun _ _ => sliceNudge_moves.mono)))) fun _ _ => .ite capUpd_moves.mono .refl))

theorem execCalStaleTimeout_next {s : State} {t : Nat} : Next (mayChange (.calStaleTimeout t)) s (execCalStaleTimeout t s) :=
  .ite (.ok (cnvEvent_moves.after (.setCnv advance_moves.mono))) (.ok advance_moves.mono)

theorem sliceFail_moves {s : State} {n cause : Nat} : Moves [.regs, .pst, .hif, .recd, .cnv, .cap, .wlk, .mram, .out] s (sliceFail s n cause) :=
  .ite .refl (.ite (by
    split
    · split
      · exact endCmd_moves.after (temperFail_moves.after (cnvEvent_moves.after (bump_moves.after sliceUpd_moves.mono)))
      · exact cnvEvent_moves.after (bump_moves.after sliceUpd_moves.mono)
    · exact cnvEvent_moves.after (bump_moves.after sliceUpd_moves.mono))
          (.ite (.ite (cnvUpd_moves.after (cnvAllBad_moves.after (cnvUpd_moves.after (cnvStop_moves.after (by
    split
    · split
      · exact endCmd_moves.after (temperFail_moves.after (cnvEvent_moves.after (bump_moves.after sliceUpd_moves.mono)))
      · exact cnvEvent_moves.after (bump_moves.after sliceUpd_moves.mono)
    · exact cnvEvent_moves.after (bump_moves.after sliceUpd_moves.mono)))))) (cnvUpd_moves.after (cnvStop_moves.after (by
    split
    · split
      · exact endCmd_moves.after (temperFail_moves.after (cnvEvent_moves.after (bump_moves.after sliceUpd_moves.mono)))
      · exact cnvEvent_moves.after (bump_moves.after sliceUpd_moves.mono)
    · exact cnvEvent_moves.after (bump_moves.after sliceUpd_moves.mono))))) (.foldl (cnvUpd_moves.after (by
    split
    · split
      · exact endCmd_moves.after (temperFail_moves.after (cnvEvent_moves.after (bump_moves.after sliceUpd_moves.mono)))
      · exact cnvEvent_moves.after (bump_moves.after sliceUpd_moves.mono)
    · exact cnvEvent_moves.after (bump_moves.after sliceUpd_moves.mono))) fun _ _ => .ite badPoint_moves.mono .refl)))

theorem execSliceFailed_next {s : State} {n cause t : Nat} : Next (mayChange (.sliceFailed n cause t)) s (execSliceFailed n cause t s) :=
  .ite (.ok (sliceFail_moves.after advance_moves.mono)) (.ok .refl)

theorem execBurstResume_next {s : State} {g : Nat} : Next (mayChange (.burstResume g)) s (execBurstResume g s) := by
  unfold execBurstResume
  split
  · exact .ok .refl
  · exact .ok (cnvUpd_moves.after advance_moves.mono)

theorem execAdcclkLoss_next {s : State} {t : Nat} : Next (mayChange (.adcclkLoss t)) s (execAdcclkLoss t s) :=
  .ite (.ok .refl) (.ok (cnvEvent_moves.after (bump_moves.after (.foldl (.setCnv advance_moves.mono)
      fun _ _ => cnvStop_moves.after cnvAllBad_moves.mono))))

theorem execAdcclkReturn_next {s : State} {t : Nat} : Next (mayChange (.adcclkReturn t)) s (execAdcclkReturn t s) :=
  .ite (.ok .refl) (.ok (.foldl (.setCnv advance_moves.mono) fun _ _ => cnvUpd_moves.mono))

end Sys2Proof.Machine
end

section
/-! What the functions of stations may change. -/
set_option Elab.async false
namespace Sys2Proof.Machine
open Sys2Proof

theorem portUpd_moves {s : State} {p : Nat} {f : StnPort → StnPort} : Moves [.stn] s (portUpd s p f) :=
  Moves.refl.setStn fun h => { h with port := SMap.wf_upd _ _ _ h.port }

theorem stUpd_moves {s : State} {n : Nat} {f : Station → Station} : Moves [.stn] s (stUpd s n f) :=
  Moves.refl.setStn fun h => { h with st := SMap.wf_upd _ _ _ h.st }

theorem stnEvent_moves {s : State} {k : EvKind} {port station : Nat} {mac : Bytes} {ver index : Nat} :
    Moves [.regs, .recd, .mram] s (stnEvent s k port station mac ver index) :=
  event_moves

theorem egressPut_moves {s : State} {p : Nat} {f : TxFrame} : Moves [.stn] s (egressPut s p f) :=
  portUpd_moves

theorem egressPlain_moves {s : State} {p queue : Nat} {b : Bytes} : Moves [.stn] s (egressPlain s p queue b) :=
  egressPut_moves

theorem frameOut_moves {s : State} {p start : Nat} {b : Bytes} : Moves [.regs, .stn, .out] s (frameOut s p start b) :=
  send_moves.after (portUpd_moves.after bump_moves.mono)

theorem tokenRaise_moves {s : State} : Moves [.stn, .mram] s (tokenRaise s) :=
  .setStnMram .refl

theorem tokenStart_moves {s : State} : Moves [.stn, .mram] s (tokenStart s) :=
  .ite .refl tokenRaise_moves

theorem configSend_moves {s : State} {n : Nat} : Moves [.stn, .mram] s (configSend s n) :=
  stUpd_moves.after (.foldl tokenStart_moves fun _ _ => egressPlain_moves.mono)

theorem stnNegotiate_moves {s : State} {n : Nat} : Moves [.regs, .recd, .stn, .mram] s (stnNegotiate s n) := by
  unfold stnNegotiate
  dsimp only
  split
  · exact stUpd_moves.mono
  · split
    · exact configSend_moves.after stUpd_moves.mono
    · exact stnEvent_moves.after (stUpd_moves.after bump_moves.mono)

theorem dropBump_moves {s : State} {n : Nat} : Moves [.regs] s (dropBump s n) :=
  .ite .refl setStored_moves

theorem noTargetBump_moves {s : State} {n : Nat} : Moves [.regs] s (noTargetBump s n) :=
  .ite bump_moves (setStored_moves.after bump_moves)

theorem launchFrames_moves {p : Nat} : ∀ {fs : List Bytes} {s : State} {start : Nat}, Moves [.regs, .stn, .out] s (launchFrames s p start fs)
  | [], _, _ => .refl
  | _ :: _, _, _ => .trans frameOut_moves launchFrames_moves

theorem imageLaunch_moves {s : State} {p : Nat} {o : StnOut} {inst : Nat} : Moves [.regs, .stn, .par, .mram, .out] s (imageLaunch s p o inst) :=
  .ite outward_moves.mono (stUpd_moves.after (bump_moves.after (portUpd_moves.after
      (launchFrames_moves.after (.ite (bump_moves.after (.ite (tokenRaise_moves.after outward_moves.mono) outward_moves.mono))
      (.ite (tokenRaise_moves.after outward_moves.mono) outward_moves.mono))))))

theorem stnOutput_moves {s : State} {cls n inst : Nat} {late : Bool} :
    Moves [.regs, .recd, .stn, .par, .mram, .out] s (stnOutput s cls n inst late).1 :=
  .ite_fst noTargetBump_moves.mono (by
    dsimp only
    split
    · exact imageLaunch_moves.after (.ite (digAdd_moves.after noteLate_moves.mono) (digAdd_moves.after noteLate_moves.mono))
    · exact .ite (digAdd_moves.after noteLate_moves.mono) (digAdd_moves.after noteLate_moves.mono)
    · exact portUpd_moves.after (.ite (digAdd_moves.after noteLate_moves.mono) (digAdd_moves.after noteLate_moves.mono)))

end Sys2Proof.Machine
end

section
/-! What the functions of the Station Network may change. -/
set_option Elab.async false
namespace Sys2Proof.Machine
open Sys2Proof

theorem portLink_moves {s : State} {p : Nat} {up : Bool} : Moves [.regs, .recd, .stn, .mram] s (portLink s p up) :=
  .ite .refl (stnEvent_moves.after portUpd_moves.mono)

theorem stnConfig_moves {s : State} {c : Cmd} : Moves [.regs, .hif, .recd, .stn, .mram] s (stnConfig s c) := by
  unfold stnConfig
  dsimp only
  split
  · exact endCmd_moves.mono
  · exact endCmd_moves.after (portUpd_moves.after (.ite portLink_moves.mono .refl))

theorem execStnConfig_next {s : State} {h : Nat} {data : Option Bytes} : Next (mayChange (.stnConfig h data)) s (execStnConfig h data s) :=
  .ok (startCmd_moves (fun _ _ => stnConfig_moves.mono))

theorem execPortLinkChange_next {s : State} {p : Nat} {up : Bool} {t : Nat} :
    Next (mayChange (.portLinkChange p up t)) s (execPortLinkChange p up t s) :=
  .ite (.ok advance_moves.mono) (.ok (portLink_moves.after advance_moves.mono))

theorem ptpSent_moves {s : State} {p start : Nat} {f : TxFrame} : Moves [.tmb, .stn] s (ptpSent s p start f) := by
  unfold ptpSent
  dsimp only
  split
  · exact .refl
  · exact Moves.refl.setTmb
  · exact Moves.refl.setTmb
  · exact egressPlain_moves.mono
  · exact egressPlain_moves.mono

theorem execEgressFrameStart_next {s : State} {p t : Nat} : Next (mayChange (.egressFrameStart p t)) s (execEgressFrameStart p t s) := by
  unfold execEgressFrameStart
  dsimp only
  split
  · exact .ok .refl
  · split
    · exact .ok .refl
    · exact .ite (.ok advance_moves.mono) (.ite (.ok (ptpSent_moves.after (frameOut_moves.after (portUpd_moves.after advance_moves.mono))))
          (.ite (.ok advance_moves.mono) (.ok (portUpd_moves.after (bump_moves.after advance_moves.mono)))))

theorem execOutputImage_next {s : State} {p : Nat} : Next (mayChange (.outputImage p)) s (execOutputImage p s) := by
  unfold execOutputImage
  split
  · exact .ok .refl
  · exact .ok (imageLaunch_moves.after (portUpd_moves.after advance_moves.mono))

theorem rxCount_moves {s : State} {p : Nat} : Moves [.regs, .stn] s (rxCount s p) :=
  portUpd_moves.after bump_moves.mono

theorem tableTakes_moves {s : State} {b : Bytes} : Moves [.regs, .recd, .stn, .mram, .hdl] s (tableTakes s b) :=
  .foldl (.setStn (.ite settingsWritten_moves.mono .refl) (fun h => { h with st := SMap.wf_empty })) fun _ _ => .ite
      (Moves.refl.setStn fun h => { h with st := SMap.wf_set _ _ _ h.st })
      (.ite (stnNegotiate_moves.after (Moves.refl.setStn fun h => { h with st := SMap.wf_set _ _ _ h.st }))
      (Moves.refl.setStn fun h => { h with st := SMap.wf_set _ _ _ h.st }))

theorem stnTableLoad_moves {s : State} {b : Bytes} : Moves [.regs, .recd, .stn, .mram, .hdl] s (stnTableLoad s b).1 := by
  unfold stnTableLoad
  split
  · exact stnEvent_moves.after bump_moves.mono
  · exact stnEvent_moves.after tableTakes_moves

theorem execDiscoverTx_next {s : State} {t : Nat} : Next (mayChange (.discoverTx t)) s (execDiscoverTx t s) :=
  .ite (.ok advance_moves.mono) (.ok (.foldl advance_moves.mono fun _ _ => .ite egressPlain_moves.mono .refl))

theorem wspViolation_moves {s : State} {p n : Nat} {mac : Bytes} {ver : Nat} : Moves [.regs, .recd, .mram] s (wspViolation s p n mac ver) :=
  stnEvent_moves

theorem rxDrop_moves {s : State} {p n : Nat} {mac : Bytes} {ver cnt : Nat} {violation : Bool} :
    Moves [.regs, .recd, .mram] s (rxDrop s p n mac ver cnt violation) :=
  .ite (wspViolation_moves.after (dropBump_moves.after bump_moves.mono)) (dropBump_moves.after bump_moves.mono)

theorem wspFrom_moves {s : State} {p : Nat} {mac f : Bytes} {min' : Nat} {reserved : Bool} :
    Moves [.regs, .recd, .mram] s (wspFrom s p mac f min' reserved).1 := by
  unfold wspFrom
  dsimp only
  refine .ite_fst ?_ ?_
  · split
    · dsimp only
      exact rxDrop_moves
    · exact wspViolation_moves.after bump_moves.mono
  · split
    · exact bump_moves.mono
    · exact .ite_fst (dropBump_moves.after bump_moves.mono) .refl

theorem discList_moves {s : State} {p : Nat} {mac f : Bytes} : Moves [.regs, .recd, .stn, .mram] s (discList s p mac f) :=
  .ite Moves.refl.setStn (stnEvent_moves.after Moves.refl.setStn)

theorem stnHello_moves {s : State} {p n : Nat} {mac f : Bytes} : Moves [.regs, .recd, .stn, .mram] s (stnHello s p n mac f) := by
  unfold stnHello
  dsimp only
  split
  · exact .ite (stnEvent_moves.after (.ite (stnEvent_moves.after (bump_moves.after (.setStn stUpd_moves.mono))) (.setStn stUpd_moves.mono)))
        (.ite (stnEvent_moves.after (bump_moves.after (.setStn stUpd_moves.mono))) (.setStn stUpd_moves.mono))
  · exact .ite (stnEvent_moves.after (.ite (stnEvent_moves.after (bump_moves.after (.setStn stUpd_moves.mono))) (.setStn stUpd_moves.mono)))
        (.ite (stnEvent_moves.after (bump_moves.after (.setStn stUpd_moves.mono))) (.setStn stUpd_moves.mono))
  · exact stnNegotiate_moves.after (.ite (stnEvent_moves.after (.ite (stnEvent_moves.after (bump_moves.after (.setStn stUpd_moves.mono)))
        (.setStn stUpd_moves.mono))) (.ite (stnEvent_moves.after (bump_moves.after (.setStn stUpd_moves.mono))) (.setStn stUpd_moves.mono)))
  · exact stnNegotiate_moves.after (stUpd_moves.after (.ite (stnEvent_moves.after
        (.ite (stnEvent_moves.after (bump_moves.after (.setStn stUpd_moves.mono))) (.setStn stUpd_moves.mono)))
        (.ite (stnEvent_moves.after (bump_moves.after (.setStn stUpd_moves.mono))) (.setStn stUpd_moves.mono))))
  · exact .ite (.ite (stnEvent_moves.after (.ite (stnEvent_moves.after (bump_moves.after (.setStn stUpd_moves.mono))) (.setStn stUpd_moves.mono)))
        (.ite (stnEvent_moves.after (bump_moves.after (.setStn stUpd_moves.mono))) (.setStn stUpd_moves.mono)))
        (stnNegotiate_moves.after (.ite (stnEvent_moves.after (.ite (stnEvent_moves.after (bump_moves.after (.setStn stUpd_moves.mono)))
        (.setStn stUpd_moves.mono))) (.ite (stnEvent_moves.after (bump_moves.after (.setStn stUpd_moves.mono))) (.setStn stUpd_moves.mono))))
  · exact stnNegotiate_moves.after (stnEvent_moves.after (bump_moves.after
        (.ite (stnEvent_moves.after (.ite (stnEvent_moves.after (bump_moves.after (.setStn stUpd_moves.mono))) (.setStn stUpd_moves.mono)))
        (.ite (stnEvent_moves.after (bump_moves.after (.setStn stUpd_moves.mono))) (.setStn stUpd_moves.mono)))))

theorem execWspHelloRx_next {s : State} {p : Nat} {mac f : Bytes} {t : Nat} :
    Next (mayChange (.wspHelloRx p mac f t)) s (execWspHelloRx p mac f t s) :=
  .ite (.ok advance_moves.mono) (by
    dsimp only
    split
    · exact .ite (.ok (rxDrop_moves.after (wspFrom_moves.after (rxCount_moves.after advance_moves.mono))))
          (.ok (stnHello_moves.after (wspFrom_moves.after (rxCount_moves.after advance_moves.mono))))
    · exact .ite (.ok (wspFrom_moves.after (rxCount_moves.after advance_moves.mono)))
          (.ok (discList_moves.after (wspFrom_moves.after (rxCount_moves.after advance_moves.mono)))))

theorem configFail_moves {s : State} {n : Nat} : Moves [.regs, .recd, .stn, .mram] s (configFail s n) :=
  stnEvent_moves.after (stUpd_moves.after bump_moves.mono)

theorem execWspConfigAckRx_next {s : State} {p : Nat} {mac f : Bytes} {t : Nat} :
    Next (mayChange (.wspConfigAckRx p mac f t)) s (execWspConfigAckRx p mac f t s) :=
  .ite (.ok advance_moves.mono) (by
    split
    · exact .ok (wspFrom_moves.after (rxCount_moves.after advance_moves.mono))
    · exact .ite (.ok (wspFrom_moves.after (rxCount_moves.after advance_moves.mono)))
          (.ite (.ok (rxDrop_moves.after (wspFrom_moves.after (rxCount_moves.after advance_moves.mono))))
          (.ite (.ok (configFail_moves.after (wspFrom_moves.after (rxCount_moves.after advance_moves.mono))))
          (.ite (.ok (configSend_moves.after (rxDrop_moves.after (wspFrom_moves.after (rxCount_moves.after advance_moves.mono)))))
          (.ok (stnEvent_moves.after (stUpd_moves.after (wspFrom_moves.after (rxCount_moves.after advance_moves.mono)))))))))

theorem execConfigRetryTimeout_next {s : State} {n : Nat} : Next (mayChange (.configRetryTimeout n)) s (execConfigRetryTimeout n s) :=
  .ite (.ok .refl) (.ite (.ok (configSend_moves.after (stUpd_moves.after advance_moves.mono))) (.ok (configFail_moves.after advance_moves.mono)))

theorem imageDrop_moves {s : State} {n : Nat} : Moves [.regs, .recd, .stn, .mram] s (imageDrop s n) :=
  .ite (dropBump_moves.after (bump_moves.after stUpd_moves.mono)) (stnEvent_moves.after (dropBump_moves.after (bump_moves.after stUpd_moves.mono)))

theorem imageCommit_moves {s : State} {p n : Nat} {mac : Bytes} {r : Reasm} {b : Bytes} :
    Moves [.regs, .pst, .hif, .recd, .cap, .stn, .wlk, .par, .mram, .out] s (imageCommit s p n mac r b) :=
  .ite (rxDrop_moves.after stUpd_moves.mono) (.ite (rxDrop_moves.after stUpd_moves.mono)
      (stUpd_moves.after (bump_moves.after (.ite (bump_moves.after (inputGroup_moves.after
      (.ite (bumpN_moves.after stUpd_moves.mono) (wspViolation_moves.after (bumpN_moves.after stUpd_moves.mono)))))
      (inputGroup_moves.after (.ite (bumpN_moves.after stUpd_moves.mono) (wspViolation_moves.after (bumpN_moves.after stUpd_moves.mono))))))))

theorem fragTake_moves {s : State} {p n : Nat} {mac f : Bytes} {raw : Int} :
    Moves [.regs, .pst, .hif, .recd, .cap, .stn, .wlk, .par, .mram, .out] s (fragTake s p n mac f raw) :=
  .ite (dropBump_moves.after bump_moves.mono) (by
    dsimp only
    split
    · exact .ite (imageCommit_moves.after (.ite imageDrop_moves.mono .refl)) (stUpd_moves.after (.ite imageDrop_moves.mono .refl))
    · exact .ite (.ite (bump_moves.after (.ite imageDrop_moves.mono .refl))
          (.ite (imageCommit_moves.after (.ite imageDrop_moves.mono .refl)) (stUpd_moves.after (.ite imageDrop_moves.mono .refl))))
          (.ite (.ite (imageCommit_moves.after (imageDrop_moves.after (.ite imageDrop_moves.mono .refl)))
          (stUpd_moves.after (imageDrop_moves.after (.ite imageDrop_moves.mono .refl))))
          (dropBump_moves.after (bump_moves.after (.ite imageDrop_moves.mono .refl)))))

theorem execWspInputRx_next {s : State} {p : Nat} {mac f : Bytes} {raw : Int} {t : Nat} :
    Next (mayChange (.wspInputRx p mac f raw t)) s (execWspInputRx p mac f raw t s) :=
  .ite (.ok advance_moves.mono) (by
    dsimp only
    split
    · exact .ok (wspFrom_moves.after (rxCount_moves.after advance_moves.mono))
    · exact .ite (.ok (rxDrop_moves.after (wspFrom_moves.after (rxCount_moves.after advance_moves.mono))))
          (.ite (.ok (rxDrop_moves.after (wspFrom_moves.after (rxCount_moves.after advance_moves.mono))))
          (.ite (.ok (configSend_moves.after (stUpd_moves.after (rxDrop_moves.after
          (wspFrom_moves.after (rxCount_moves.after advance_moves.mono))))))
          (.ok (fragTake_moves.after (wspFrom_moves.after (rxCount_moves.after advance_moves.mono)))))))

theorem execReassemblyTimeout_next {s : State} {n : Nat} : Next (mayChange (.reassemblyTimeout n)) s (execReassemblyTimeout n s) := by
  unfold execReassemblyTimeout
  dsimp only
  split
  · exact .ok .refl
  · exact .ok (imageDrop_moves.after advance_moves.mono)

theorem execStationTimeout_next {s : State} {n : Nat} : Next (mayChange (.stationTimeout n)) s (execStationTimeout n s) :=
  .ite (.ok .refl) (.ok (stnEvent_moves.after (stUpd_moves.after (bump_moves.after advance_moves.mono))))

theorem execEthFrameDiscard_next {s : State} {p kind : Nat} {mac f : Bytes} {t : Nat} :
    Next (mayChange (.ethFrameDiscard p kind mac f t)) s (execEthFrameDiscard p kind mac f t s) :=
  .ite (.ok advance_moves.mono) (by
    split
    · exact .ok (bump_moves.after (rxCount_moves.after advance_moves.mono))
    · exact .ok (bump_moves.after (rxCount_moves.after advance_moves.mono))
    · exact .ok (wspFrom_moves.after (rxCount_moves.after advance_moves.mono)))

end Sys2Proof.Machine
end

section
/-! What the functions of a new point map may change. -/
set_option Elab.async false
namespace Sys2Proof.Machine
open Sys2Proof

theorem forceRestore_moves {s : State} {n : Nat} {j : ForceJournal} : Moves [.regs, .pst, .recd, .mram] s (forceRestore s n j).1 := by
  unfold forceRestore
  split
  · exact .ite_fst (Moves.refl.setPst fun h => { h with points := SMap.wf_set _ _ _ h.points }) (event_moves.after journalForce_moves.mono)
  · exact event_moves.after journalForce_moves.mono

theorem forcesRestore_moves {s : State} : Moves [.regs, .pst, .recd, .mram] s (forcesRestore s) :=
  .ite .refl (.ite (event_moves.after (.foldl_fst Moves.refl.setPst
      fun _ _ => forceRestore_moves)) (event_moves.after (.setMram Moves.refl.setPst)))

theorem mapStart_moves {s : State} {m : PointMap} : Moves [.regs, .pst, .recd, .wlk, .mram] s (mapStart s m) := by
  unfold mapStart
  dsimp only
  exact forcesRestore_moves.after (repAnew_moves.after (Moves.refl.setPst
      fun h => { h with points := SMap.wf_foldl (fun _ _ hm => SMap.wf_set _ _ _ hm) h.points }))

theorem forceRemove_moves {s : State} {id : Nat} : Moves [.regs, .pst, .recd, .mram] s (forceRemove s id) := by
  unfold forceRemove
  split
  · exact .refl
  · exact event_moves.after (journalForce_moves.after (Moves.refl.setPst fun h => { h with points := SMap.wf_upd _ _ _ h.points }))

theorem markFresh_wf {m : SMap View} {id : Nat} (h : m.wf = true) : (markFresh m id).wf = true := SMap.wf_mapV _ _ h

theorem switchKept_moves {s : State} {o n : MapEntry} : Moves [.regs, .pst, .recd, .mram] s (switchKept s o n) := by
  have changed {f : PointRec → PointRec} {t : State} : Moves [.regs, .pst, .recd, .mram] t
      { t with pst := { t.pst with points := t.pst.points.upd n.id f } } := Moves.refl.setPst
          fun h => { h with points := SMap.wf_upd _ _ _ h.points }
  exact .ite (.setPst forceRemove_moves.mono fun h => ⟨SMap.wf_set _ _ _ h.points, markFresh_wf h.views⟩)
    (.ite changed (.ite (forceRemove_moves.after changed) (.ite (changed.trans changed)
        (.ite (event_moves.after (changed.trans changed)) changed))))

theorem switchGone_moves {s : State} {o : MapEntry} : Moves [.regs, .pst, .recd, .mram] s (switchGone s o) :=
  .setPst forceRemove_moves fun h => ⟨SMap.wf_set _ _ _ h.points, markFresh_wf h.views⟩

theorem mapSwitch_moves {s : State} {o n : PointMap} {back : List (Nat × PointRec)} :
    Moves [.regs, .pst, .recd, .wlk, .mram] s (mapSwitch s o n back) :=
  repAnew_moves.after (.setPst (.foldl (.foldl .refl fun _ _ => .ite .refl switchGone_moves.mono) fun _ _ => by
    split
    · exact switchKept_moves.mono
    · exact Moves.refl.setPst fun h => { h with points := SMap.wf_set _ _ _ h.points }))

theorem mapIntoForce_moves {s : State} {n : PointMap} : Moves [.regs, .pst, .recd, .wlk, .mram] s (mapIntoForce s n) := by
  unfold mapIntoForce
  split
  · exact mapStart_moves
  · exact forcesRestore_moves.after mapSwitch_moves

end Sys2Proof.Machine
end

section
/-! What the functions of what reaches the Interlock Engine may change. -/
set_option Elab.async false
namespace Sys2Proof.Machine
open Sys2Proof

theorem ileEvent_moves {s : State} {k : EvKind} {alarm id reason insn : Nat} : Moves [.regs, .recd, .mram] s (ileEvent s k alarm id reason insn) :=
  event_moves

theorem ileEnter_moves {s : State} {reason : Nat} {givesUp : Bool} : Moves [.regs, .recd, .ile, .mram] s (ileEnter s reason givesUp) :=
  .ite .refl (ileEvent_moves.after (bump_moves.after Moves.refl.setIle))

theorem ileProgramStarted_moves {s : State} {first : Nat} : Moves [.ile] s (ileProgramStarted s first) :=
  .ite Moves.refl.setIle .refl

theorem ileOutputSet_moves {s : State} {inst : Nat} : Moves [.ile] s (ileOutputSet s inst) :=
  .ite Moves.refl.setIle .refl

theorem ileRefsNote_moves {s : State} : Moves [.regs, .recd, .ile, .mram] s (ileRefsNote s) := by
  unfold ileRefsNote
  split
  · exact .refl
  · exact .foldl Moves.refl.setIle fun _ _ => ileEvent_moves.mono

end Sys2Proof.Machine
end

section
/-! What the functions of feedback channels may change. -/
set_option Elab.async false
namespace Sys2Proof.Machine
open Sys2Proof

theorem claimPins_moves {s : State} {who : Nat} {pins : List Nat} : Moves [.tmb] s (claimPins s who pins) :=
  .foldl .refl fun _ _ => .ite (Moves.refl.setTmb fun h => { h with tio := SMap.wf_upd _ _ _ h.tio })
      (.ite (Moves.refl.setTmb fun h => { h with tio := SMap.wf_upd _ _ _ h.tio }) .refl)

theorem pinDrive_moves {s : State} {p : Nat} {level : Bool} : Moves [.regs, .tmb, .wlk, .par, .out] s (pinDrive s p level) :=
  .ite .refl (.ite (Moves.refl.setTmb fun h => { h with tio := SMap.wf_upd _ _ _ h.tio }) tioDrive_moves)

theorem fbkUpd_moves {s : State} {n : Nat} {f : FbkCh → FbkCh} : Moves [.fbk] s (fbkUpd s n f) :=
  Moves.refl.setFbk fun h => SMap.wf_upd _ _ _ h

theorem fbkEvent_moves {s : State} {k : EvKind} {n : Nat} {dev : Int} {entry off : Nat} :
    Moves [.regs, .recd, .mram] s (fbkEvent s k n dev entry off) :=
  event_moves

theorem fbkCut_moves {s : State} {n t : Nat} : Moves [.freeCtr] s (fbkCut s n t).2 :=
  .ite_snd drawFree_moves .refl

theorem fbkLatch_moves {s : State} {n t : Nat} : Moves [.fbk, .freeCtr] s (fbkLatch s n t).2 :=
  fbkUpd_moves.after fbkCut_moves.mono

theorem fbkRead_moves {s : State} {n t : Nat} {vel : Bool} : Moves [.fbk, .freeCtr] s (fbkRead s n t vel).2 :=
  fbkLatch_moves

theorem cmpArm_moves {n : Nat} : ∀ {es : List CmpEntry} {s : State}, Moves [.regs, .recd, .fbk, .mram] s (cmpArm n es s)
  | [], _ => fbkUpd_moves.mono
  | _ :: _, _ => .ite (.trans (fbkUpd_moves.after (fbkEvent_moves.after bump_moves.mono)) cmpArm_moves) fbkUpd_moves.mono

theorem cmpJudge_moves {s : State} {n : Nat} : Moves [.regs, .recd, .fbk, .mram] s (cmpJudge s n) :=
  .ite .refl cmpArm_moves

theorem cmpFire_moves {s : State} {n : Nat} : Moves [.regs, .tmb, .fbk, .wlk, .par, .out, .freeCtr] s (cmpFire s n) := by
  unfold cmpFire
  dsimp only
  split
  · exact fbkUpd_moves.after (bump_moves.after bump_moves.mono)
  · exact pinDrive_moves.after (fbkUpd_moves.after (.ite (bump_moves.after (drawFree_moves.after bump_moves.mono))
        (drawFree_moves.after bump_moves.mono)))

theorem cmpMoved_moves {s : State} {n : Nat} : Moves [.regs, .tmb, .recd, .fbk, .wlk, .par, .mram, .out, .freeCtr] s (cmpMoved s n) := by
  unfold cmpMoved
  dsimp only
  split
  · exact .refl
  · exact .ite (cmpArm_moves.after (fbkUpd_moves.after cmpFire_moves.mono)) .refl

theorem fbkFollow_moves {s : State} {n : Nat} : Moves [.regs, .tmb, .recd, .fbk, .wlk, .par, .mram, .out, .freeCtr] s (fbkFollow s n) :=
  .ite .refl (cmpMoved_moves.after fbkUpd_moves.mono)

theorem fbkMove_moves {s : State} {n t : Nat} {dr : Int} :
    Moves [.regs, .tmb, .recd, .fbk, .wlk, .par, .mram, .out, .freeCtr] s (fbkMove s n t dr) :=
  .ite .refl (fbkFollow_moves.after fbkUpd_moves.mono)

end Sys2Proof.Machine
end

section
/-! What the functions of the loop laws may change. -/
set_option Elab.async false
namespace Sys2Proof.Machine
open Sys2Proof

theorem signalAt_moves {s : State} {q : Bytes} {ts : Rat} {k lfsr : Nat} : Moves [.freeCtr] s (signalAt s q ts k lfsr).2 := by
  unfold signalAt
  dsimp only
  split
  · exact .refl
  · exact .refl
  · exact .refl
  · dsimp only
    exact nudge_moves

end Sys2Proof.Machine
end

section
/-! What the functions of loading a loop may change. -/
set_option Elab.async false
namespace Sys2Proof.Machine
open Sys2Proof

theorem writeCode_moves {s : State} {core : Nat} {p : AnvPlace} {b : Bytes} : Moves [.anv] s (writeCode s core p b) :=
  anvUpd_moves

theorem resetIo_moves {s : State} {core slot : Nat} {d : Bytes} : Moves [.anv] s (resetIo s core slot d) :=
  anvUpd_moves

theorem loopEvent_moves {s : State} {k : EvKind} {n mode action core reason : Nat} :
    Moves [.regs, .recd, .mram] s (loopEvent s k n mode action core reason) :=
  event_moves

end Sys2Proof.Machine
end

section
/-! What the functions of loops may change. -/
set_option Elab.async false
namespace Sys2Proof.Machine
open Sys2Proof

theorem readIn_moves {s : State} {period t0 : Nat} {i : LoopIn} : Moves [.fbk, .freeCtr] s (readIn s period t0 i).2 := by
  unfold readIn
  dsimp only
  split
  · split
    · exact .refl
    · exact drawFree_moves.mono
  · split
    · exact .refl
    · exact drawFree_moves.mono
  · dsimp only
    exact fbkRead_moves
  · dsimp only
    exact fbkRead_moves
  · exact .refl

theorem readIns_moves {s : State} {d : Bytes} {t0 : Nat} : Moves [.fbk, .freeCtr] s (readIns s d t0).2 :=
  .foldl_snd .refl fun _ _ => readIn_moves

theorem tuneAbort_moves {s : State} {n : Nat} : Moves [.regs, .hif, .recd, .anv, .cap, .mram] s (tuneAbort s n) :=
  .ite .refl (loopEvent_moves.after (bump_moves.after (by
    split
    · exact endCmd_moves.after (recorderEnd_moves.after loopUpd_moves.mono)
    · exact recorderEnd_moves.after loopUpd_moves.mono)))

theorem tuneSample_moves {s : State} {n : Nat} {ins : List Int} :
    Moves [.regs, .hif, .recd, .anv, .cap, .mram, .freeCtr] s (tuneSample s n ins).2 :=
  .ite_snd .refl (.ite_snd tuneAbort_moves.mono (.ite_snd (.ite (by
    dsimp only
    split
    · exact endCmd_moves.after (recorderTrig_moves.after loopUpd_moves.mono)
    · exact recorderTrig_moves.after loopUpd_moves.mono) .refl) (.ite (loopUpd_moves.after (signalAt_moves.after (.ite (by
    dsimp only
    split
    · exact endCmd_moves.after (recorderTrig_moves.after loopUpd_moves.mono)
    · exact recorderTrig_moves.after loopUpd_moves.mono) .refl))) (signalAt_moves.after (.ite (by
    dsimp only
    split
    · exact endCmd_moves.after (recorderTrig_moves.after loopUpd_moves.mono)
    · exact recorderTrig_moves.after loopUpd_moves.mono) .refl)))))

theorem tuneRecord_moves {s : State} {n : Nat} {x : LoopSample} {usable : Bool} : Moves [.regs, .anv, .cap] s (tuneRecord s n x usable) :=
  .ite .refl (.ite (recorderEnd_moves.after (loopUpd_moves.after (loopUpd_moves.after recorderPut_moves.mono)))
      (loopUpd_moves.after recorderPut_moves.mono))

theorem loopHold_moves {s : State} {n : Nat} {sup : Bool} {action : Nat} : Moves [.regs, .recd, .anv, .mram] s (loopHold s n sup action) :=
  .ite .refl (loopEvent_moves.after (bump_moves.after loopUpd_moves.mono))

theorem loopImplaus_moves {s : State} {n : Nat} :
    Moves [.regs, .hif, .recd, .anv, .cap, .qch, .wlk, .par, .mram, .out, .freeCtr] s (loopImplaus s n) :=
  .ite .refl (by
    dsimp only
    split
    · exact loopHold_moves.after (loopEvent_moves.after (bump_moves.after (loopUpd_moves.after tuneAbort_moves.mono)))
    · exact .ite (loopHold_moves.after (loopEvent_moves.after (bump_moves.after (loopUpd_moves.after tuneAbort_moves.mono))))
          (loopEvent_moves.after (bump_moves.after (loopUpd_moves.after
          (loopEvent_moves.after (bump_moves.after (loopUpd_moves.after tuneAbort_moves.mono))))))
    · exact qchFromLoop_moves.after (loopEvent_moves.after (bump_moves.after
          (loopUpd_moves.after (loopHold_moves.after (loopEvent_moves.after (bump_moves.after (loopUpd_moves.after tuneAbort_moves.mono)))))))
    · exact loopEvent_moves.after (bump_moves.after (loopUpd_moves.after tuneAbort_moves.mono)))

theorem loopSupervise_moves {s : State} {n : Nat} {x : LoopSample} :
    Moves [.regs, .hif, .recd, .anv, .cap, .qch, .wlk, .par, .mram, .out, .freeCtr] s (loopSupervise s n x) :=
  .ite (.ite (loopImplaus_moves.after (loopUpd_moves.after (.ite bump_moves.mono .refl))) (loopUpd_moves.after (.ite bump_moves.mono .refl)))
      (.ite (loopEvent_moves.after (loopUpd_moves.after (loopUpd_moves.after (.ite bump_moves.mono .refl))))
      (loopUpd_moves.after (.ite bump_moves.mono .refl)))

theorem modeTake_moves {s : State} {n t0 : Nat} {usable : Bool} {r : ModeReq} :
    Moves [.regs, .hif, .recd, .anv, .cap, .qch, .wlk, .par, .mram, .out, .freeCtr] s (modeTake s n t0 usable r) := by
  unfold modeTake
  dsimp only
  split
  · exact loopUpd_moves.mono
  · exact .ite (by
      split
      · exact loopUpd_moves.mono
      · exact .refl) (by
      split
      · exact loopUpd_moves.after (.ite (loopEvent_moves.after (bump_moves.after
            (.ite (loopUpd_moves.after (loopUpd_moves.after (.ite (qchLoopEnds_moves.after (.ite tuneAbort_moves.mono .refl))
            (.ite tuneAbort_moves.mono .refl)))) (loopUpd_moves.after
            (.ite (qchLoopEnds_moves.after (.ite tuneAbort_moves.mono .refl)) (.ite tuneAbort_moves.mono .refl))))))
            (.ite (loopUpd_moves.after (loopUpd_moves.after (.ite (qchLoopEnds_moves.after (.ite tuneAbort_moves.mono .refl))
            (.ite tuneAbort_moves.mono .refl)))) (loopUpd_moves.after
            (.ite (qchLoopEnds_moves.after (.ite tuneAbort_moves.mono .refl)) (.ite tuneAbort_moves.mono .refl)))))
      · exact .ite (loopEvent_moves.after (bump_moves.after (.ite (loopUpd_moves.after
            (loopUpd_moves.after (.ite (qchLoopEnds_moves.after (.ite tuneAbort_moves.mono .refl)) (.ite tuneAbort_moves.mono .refl))))
            (loopUpd_moves.after (.ite (qchLoopEnds_moves.after (.ite tuneAbort_moves.mono .refl)) (.ite tuneAbort_moves.mono .refl))))))
            (.ite (loopUpd_moves.after (loopUpd_moves.after (.ite (qchLoopEnds_moves.after (.ite tuneAbort_moves.mono .refl))
            (.ite tuneAbort_moves.mono .refl)))) (loopUpd_moves.after
            (.ite (qchLoopEnds_moves.after (.ite tuneAbort_moves.mono .refl)) (.ite tuneAbort_moves.mono .refl)))))

theorem loopUnload_moves {s : State} {n t0 : Nat} :
    Moves [.regs, .pst, .hif, .recd, .anv, .cap, .qch, .wlk, .par, .mram, .hdl, .out, .freeCtr] s (loopUnload s n t0) :=
  .setAnvHdl (.foldl (.foldl (writeGroup_moves.after (.ite qchLoopEnds_moves.mono .refl)) fun _ _ => endCmd_moves.mono) fun _ _ => by
    split
    · exact endCmd_moves.mono
    · exact .refl) (hanv := fun h => { h with loop := SMap.wf_set _ _ _ h.loop })

theorem loopSwitch_moves {s : State} {n : Nat} {x : LoopNext} : Moves [.anv] s (loopSwitch s n x) :=
  loopUpd_moves.after (resetIo_moves.after anvUpd_moves)

end Sys2Proof.Machine
end

section
/-! What the functions of axes may change. -/
set_option Elab.async false
namespace Sys2Proof.Machine
open Sys2Proof

theorem axUpd_moves {s : State} {n : Nat} {f : Axis → Axis} : Moves [.mot] s (axUpd s n f) :=
  Moves.refl.setMot fun h => SMap.wf_upd _ _ _ h

theorem motEvent_moves {s : State} {k : EvKind} {n cause knot method : Nat} : Moves [.regs, .recd, .mram] s (motEvent s k n cause knot method) :=
  event_moves

theorem axBring_moves {s : State} {n t : Nat} : Moves [.mot] s (axBring s n t) :=
  axUpd_moves

theorem axStopsEnd_moves {s : State} {n : Nat} : Moves [.hif, .mot] s (axStopsEnd s n) :=
  .foldl axUpd_moves.mono fun _ _ => endCmd_moves.mono

theorem axFreeze_moves {s : State} {n : Nat} : Moves [.mot] s (axFreeze s n) :=
  axUpd_moves.after axBring_moves

theorem homeEnds_moves {s : State} {n : Nat} {st : Status} : Moves [.hif, .mot] s (homeEnds s n st) := by
  unfold homeEnds
  split
  · exact .refl
  · dsimp only
    split
    · exact endCmd_moves.after axUpd_moves.mono
    · exact axUpd_moves.mono

theorem axFault_moves {s : State} {n cause : Nat} {k : EvKind} : Moves [.regs, .hif, .recd, .mot, .mram] s (axFault s n cause k) :=
  axStopsEnd_moves.after (motEvent_moves.after (homeEnds_moves.after (axUpd_moves.after axFreeze_moves.mono)))

theorem homeFail_moves {s : State} {n : Nat} {st : Status} : Moves [.regs, .hif, .recd, .mot, .mram] s (homeFail s n st) :=
  axFault_moves.after (bump_moves.after (homeEnds_moves.after axFreeze_moves.mono))

theorem axLinks_moves {s : State} {n : Nat} : Moves [.regs, .hif, .recd, .mot, .mram] s (axLinks s n) :=
  .ite .refl (.ite axFault_moves (.ite (.ite axFault_moves .refl) .refl))

theorem axOnFbk_moves {s : State} {ch : Nat} : Moves [.regs, .hif, .recd, .mot, .mram] s (axOnFbk s ch) :=
  .foldl .refl fun _ _ => .ite axLinks_moves .refl

theorem axOnLoop_moves {s : State} {slot : Nat} : Moves [.regs, .hif, .recd, .mot, .mram] s (axOnLoop s slot) :=
  .foldl .refl fun _ _ => .ite axLinks_moves .refl

theorem axPoint_moves {s : State} {n id : Nat} {v : Int} {q : BitVec 16} :
    Moves [.regs, .pst, .hif, .recd, .cap, .wlk, .mram, .out] s (axPoint s n id v q) :=
  .ite .refl blockWrite_moves

theorem axActual_moves {s : State} {n t : Nat} : Moves [.fbk, .freeCtr] s (axActual s n t).2 :=
  .ite_snd fbkLatch_moves .refl

theorem axInpos_moves {s : State} {n t : Nat} : Moves [.mot] s (axInpos s n t) :=
  .ite axUpd_moves axUpd_moves

theorem axChecks_moves {s : State} {n t : Nat} :
    Moves [.regs, .pst, .hif, .recd, .cap, .fbk, .mot, .wlk, .mram, .out, .freeCtr] s (axChecks s n t) :=
  .ite (axInpos_moves.after (axPoint_moves.after (axUpd_moves.after axActual_moves.mono)))
      (.ite (axFault_moves.after (bump_moves.after (axPoint_moves.after (axUpd_moves.after axActual_moves.mono))))
      (.ite (axFault_moves.after (bump_moves.after (axPoint_moves.after (axUpd_moves.after axActual_moves.mono))))
      (axInpos_moves.after (axLinks_moves.after (axPoint_moves.after (axUpd_moves.after axActual_moves.mono))))))

theorem axToward_moves {s : State} {n : Nat} {vt : Rat} : Moves [.mot] s (axToward s n vt) :=
  axUpd_moves

theorem homePhase2_moves {s : State} {n : Nat} {h : Homing} : Moves [.mot] s (homePhase2 s n h) :=
  axUpd_moves.after axToward_moves

theorem homeReference_moves {s : State} {n : Nat} {h : Homing} {at' : Rat} : Moves [.mot] s (homeReference s n h at') :=
  axUpd_moves.after axToward_moves

theorem axPosAt_moves {s : State} {n t : Nat} : Moves [.fbk, .freeCtr] s (axPosAt s n t).2 :=
  .ite_snd fbkLatch_moves .refl

theorem homeEdge_moves {s : State} {n which : Nat} {active : Bool} {t : Nat} :
    Moves [.regs, .hif, .recd, .fbk, .mot, .mram, .freeCtr] s (homeEdge s n which active t) := by
  unfold homeEdge
  split
  · exact .refl
  · exact .ite (.ite homePhase2_moves.mono (.ite (homeReference_moves.after axPosAt_moves.mono) .refl)) (.ite homeFail_moves.mono .refl)

theorem homeIndex_moves {s : State} {ch t : Nat} {r : Int} : Moves [.mot] s (homeIndex s ch t r) :=
  .foldl .refl fun _ _ => by
    dsimp only
    split
    · exact .ite homeReference_moves .refl
    · exact .refl

theorem homeDone_moves {s : State} {n : Nat} {h : Homing} : Moves [.regs, .hif, .recd, .mot, .mram] s (homeDone s n h) := by
  unfold homeDone
  dsimp only
  split
  · exact endCmd_moves.after (motEvent_moves.after axUpd_moves.mono)
  · exact motEvent_moves.after axUpd_moves.mono

theorem homeHardStop_moves {s : State} {n : Nat} {h : Homing} : Moves [.mot] s (homeHardStop s n h) :=
  .ite .refl (.ite (.ite homePhase2_moves axUpd_moves) (.ite homeReference_moves .refl))

theorem axSoft_moves {s : State} {n : Nat} : Moves [.regs, .hif, .recd, .mot, .mram] s (axSoft s n) :=
  .ite .refl (axFault_moves.after (bump_moves.after axUpd_moves.mono))

theorem axEnd_moves {s : State} {n t : Nat} : Moves [.regs, .hif, .recd, .mot, .mram] s (axEnd s n t) :=
  .ite .refl (by
    split
    · exact axUpd_moves.mono
    · exact axStopsEnd_moves.after axUpd_moves.mono
    · split
      · exact .ite homeDone_moves .refl
      · exact .refl
    · exact .refl)

theorem stepDir_moves {s : State} {n : Nat} : Moves [.regs, .tmb, .mot, .wlk, .par, .out] s (stepDir s n) := by
  unfold stepDir
  dsimp only
  split
  · exact .ite .refl (pinDrive_moves.after axUpd_moves.mono)
  · exact .refl

theorem stepPlan_moves {s : State} {n a b : Nat} : Moves [.regs, .tmb, .mot, .wlk, .par, .out] s (stepPlan s n a b) :=
  stepDir_moves.after axUpd_moves.mono

theorem axReplan_moves {s : State} {n : Nat} : Moves [.regs, .tmb, .mot, .wlk, .par, .out] s (axReplan s n) := by
  unfold axReplan
  dsimp only
  split
  · exact .ite (stepPlan_moves.after axUpd_moves.mono) .refl
  · exact .refl

end Sys2Proof.Machine
end

section
/-! What the functions of the loop commands may change. -/
set_option Elab.async false
namespace Sys2Proof.Machine
open Sys2Proof

theorem loopInstall_moves {s : State} {n : Nat} {l : Machine.Loop} : Moves [.anv] s (loopInstall s n l) :=
  .setAnv (resetIo_moves.after anvUpd_moves) (fun h => { h with loop := SMap.wf_set _ _ _ h.loop })

theorem loopReject_moves {s : State} {c : Cmd} {st : Status} {off : Nat} {word : Option Nat} :
    Moves [.regs, .hif, .recd, .mram] s (loopReject s c st off word) :=
  endCmd_moves.after (event_moves.after (bump_moves.after (by
    split
    · exact event_moves.mono
    · exact .refl)))

theorem loopLoad_moves {s : State} {c : Cmd} : Moves [.regs, .hif, .recd, .anv, .mram, .hdl] s (loopLoad s c) :=
  .ite loopReject_moves.mono (.ite (by
    split
    · exact loopReject_moves.mono
    · exact endCmd_moves.after loopUpd_moves.mono) (by
    split
    · exact loopReject_moves.mono
    · exact endCmd_moves.after (loopEvent_moves.after (.ite (bootPend_moves.after (.ite (loopUpd_moves.after (by
        split
        · exact anvEvent_moves.after (bump_moves.after writeCode_moves.mono)
        · exact .refl)) (loopInstall_moves.after (by
        split
        · exact anvEvent_moves.after (bump_moves.after writeCode_moves.mono)
        · exact .refl)))) (.ite (loopUpd_moves.after (by
        split
        · exact anvEvent_moves.after (bump_moves.after writeCode_moves.mono)
        · exact .refl)) (loopInstall_moves.after (by
        split
        · exact anvEvent_moves.after (bump_moves.after writeCode_moves.mono)
        · exact .refl)))))))

theorem execLoopLoad_next {s : State} {h : Nat} {data : Option Bytes} : Next (mayChange (.loopLoad h data)) s (execLoopLoad h data s) :=
  .ok (startCmd_moves (fun _ _ => loopLoad_moves.mono))

theorem loopModeCmd_moves {s : State} {c : Cmd} : Moves [.hif, .anv] s (loopModeCmd s c) :=
  .ite endCmd_moves.mono (.ite endCmd_moves.mono (.ite endCmd_moves.mono loopUpd_moves.mono))

theorem execLoopMode_next {s : State} {h : Nat} : Next (mayChange (.loopMode h)) s (execLoopMode h s) :=
  .ok (startCmd_moves (fun _ _ => loopModeCmd_moves.mono))

theorem loopModeReq_moves {s : State} {n : Nat} {auto : Option Bool} {man : Option (Val × PType)} : Moves [.anv] s (loopModeReq s n auto man) :=
  .ite .refl (.ite .refl loopUpd_moves)

theorem loopTune_moves {s : State} {c : Cmd} : Moves [.regs, .hif, .recd, .anv, .cap, .mram] s (loopTune s c) :=
  .ite endCmd_moves.mono (.ite endCmd_moves.mono (by
    split
    · exact endCmd_moves.mono
    · exact .ite endCmd_moves.mono (loopEvent_moves.after (bump_moves.after (loopUpd_moves.after recorderStart_moves.mono)))))

theorem execLoopTune_next {s : State} {h : Nat} {data : Option Bytes} : Next (mayChange (.loopTune h data)) s (execLoopTune h data s) :=
  .ok (startCmd_moves (fun _ _ => loopTune_moves.mono))

theorem loopTuneRead_moves {s : State} {c : Cmd} : Moves [.hif, .out] s (loopTuneRead s c) := by
  unfold loopTuneRead
  dsimp only
  split
  · exact endCmd_moves.mono
  · exact endCmd_moves.mono
  · exact endCmd_moves.mono
  · exact endCmd_moves.mono
  · exact endCmd_moves.mono
  · exact endCmd_moves.after send_moves.mono
  · exact endCmd_moves.after send_moves.mono

theorem execLoopTuneRead_next {s : State} {h : Nat} : Next (mayChange (.loopTuneRead h)) s (execLoopTuneRead h s) :=
  .ok (startCmd_moves (fun _ _ => loopTuneRead_moves.mono))

theorem loopTuneApply_moves {s : State} {c : Cmd} : Moves [.hif, .anv] s (loopTuneApply s c) :=
  .ite loopUpd_moves.mono endCmd_moves.mono

theorem execLoopTuneApply_next {s : State} {h : Nat} : Next (mayChange (.loopTuneApply h)) s (execLoopTuneApply h s) :=
  .ok (startCmd_moves (fun _ _ => loopTuneApply_moves.mono))

theorem tuneApplyAt_moves {s : State} {n t0 : Nat} : Moves [.regs, .hif, .recd, .anv, .mram] s (tuneApplyAt s n t0) := by
  unfold tuneApplyAt
  dsimp only
  split
  · exact .ite .refl (by
      split
      · exact endCmd_moves.after (loopEvent_moves.after loopUpd_moves.mono)
      · exact loopEvent_moves.after loopUpd_moves.mono)
  · exact .refl

theorem execTuneFitDone_next {s : State} {n t : Nat} : Next (mayChange (.tuneFitDone n t)) s (execTuneFitDone n t s) :=
  .ite (.ok .refl) (.ok (loopEvent_moves.after (loopUpd_moves.after advance_moves.mono)))

theorem writeIo_moves {s : State} {l : Machine.Loop} {t0 : Nat} {ins : List Int} {okMask mode : Nat} :
    Moves [.anv] s (writeIo s l t0 ins okMask mode) :=
  anvUpd_moves

theorem loopSample_moves {s : State} {n : Nat} :
    Moves [.regs, .tmb, .pst, .hif, .recd, .anv, .cap, .qch, .fbk, .wlk, .par, .mram, .hdl, .out, .freeCtr] s (loopSample s n) := by
  unfold loopSample
  dsimp only
  exact .ite (loopUnload_moves.after (anvUpd_moves.after advance_moves.mono))
      (loopUpd_moves.after (bumpN_moves.after (bump_moves.after (.ite
      (sampleUpd_moves.after (tuneSample_moves.after (.foldl (loopUpd_moves.after
      (loopUpd_moves.after (loopIns_moves.after (readIns_moves.after (tuneApplyAt_moves.after (by
    split
    · exact .ite (loopSwitch_moves.after advance_moves.mono) advance_moves.mono
    · exact advance_moves.mono)))))) fun _ _ => modeTake_moves.mono)))
          (anvUpd_moves.after (writeIo_moves.after (sampleUpd_moves.after
          (tuneSample_moves.after (.foldl (loopUpd_moves.after (loopUpd_moves.after
          (loopIns_moves.after (readIns_moves.after (tuneApplyAt_moves.after (by
    split
    · exact .ite (loopSwitch_moves.after advance_moves.mono) advance_moves.mono
    · exact advance_moves.mono)))))) fun _ _ => modeTake_moves.mono)))))))))

theorem axSampled_moves {s : State} {slot t0 : Nat} :
    Moves [.regs, .pst, .hif, .recd, .cap, .fbk, .mot, .wlk, .mram, .out, .freeCtr] s (axSampled s slot t0) :=
  .foldl .refl fun _ _ => .ite axChecks_moves .refl

theorem execLoopSampleLaunch_next {s : State} {n : Nat} : Next (mayChange (.loopSampleLaunch n)) s (execLoopSampleLaunch n s) :=
  .ite (.ok (axSampled_moves.after loopSample_moves.mono)) (.ok .refl)

theorem execAnvilTickSwap_next {s : State} {c ps : Nat} : Next (mayChange (.anvilTickSwap c ps)) s (execAnvilTickSwap c ps s) := by
  unfold execAnvilTickSwap
  dsimp only
  split
  · exact .ite (.ok .refl) (.ok (bump_moves.after (.ite (bump_moves.after (anvUpd_moves.after advance_moves.mono))
        (anvUpd_moves.after advance_moves.mono))))
  · exact .ok .refl

theorem endLaw_moves {s : State} {c : Nat} {r : AnvRun} : Moves [.regs, .tmb, .anv] s (endLaw s c r) := by
  unfold endLaw
  dsimp only
  split
  · exact runEnds_moves.after advance_moves.mono
  · exact sampleUpd_moves.after (loopUpd_moves.after (runEnds_moves.after advance_moves.mono))

theorem execEnd_next {s : State} {c : Nat} : Next (mayChange (.endRoutine c)) s (execEnd c s) := by
  unfold execEnd
  split
  · exact .ok .refl
  · exact .ite (.ok (anvRow_moves (fun _ _ _ => endUser_moves.mono))) (.ok endLaw_moves.mono)

theorem sampleOverrun_moves {s : State} {n : Nat} {x : LoopSample} : Moves [.regs, .recd, .anv, .mram] s (sampleOverrun s n x) := by
  unfold sampleOverrun
  dsimp only
  split
  · exact .ite anvStop_moves .refl
  · exact .refl

theorem loopOutput_moves {s : State} {n : Nat} :
    Moves [.regs, .tmb, .pst, .hif, .recd, .anv, .cap, .qch, .wlk, .par, .mram, .out, .freeCtr] s (loopOutput s n) := by
  unfold loopOutput
  split
  · exact .refl
  · exact .foldl (loopUpd_moves.after (digEnd_moves.after (digAdd_moves.after
        (.iteThen bump_moves.mono (.iteThen writeGroup_moves.mono (launches_moves.after
        (advance_moves.after (.ite (.iteThen loopHold_moves.mono (loopUpd_moves.after
        (bump_moves.after (.ite (.ite (sampleUpd_moves.after (.iteThen (anvEvent_moves.after bump_moves.mono)
        (anvUpd_moves.after (sampleOverrun_moves.after advance_moves.mono)))) advance_moves.mono)
        (tuneRecord_moves.after (loopSupervise_moves.after (.iteThen bump_moves.mono
        (loopUpd_moves.after (.ite (sampleUpd_moves.after (.iteThen (anvEvent_moves.after bump_moves.mono)
        (anvUpd_moves.after (sampleOverrun_moves.after advance_moves.mono)))) advance_moves.mono)))))))))
        (.ite (.ite (sampleUpd_moves.after (.iteThen (anvEvent_moves.after bump_moves.mono)
        (anvUpd_moves.after (sampleOverrun_moves.after advance_moves.mono)))) advance_moves.mono)
        (tuneRecord_moves.after (loopSupervise_moves.after (.iteThen bump_moves.mono
        (loopUpd_moves.after (.ite (sampleUpd_moves.after (.iteThen (anvEvent_moves.after bump_moves.mono)
        (anvUpd_moves.after (sampleOverrun_moves.after advance_moves.mono)))) advance_moves.mono)))))))))))))) fun _ _ => endCmd_moves.mono

theorem execLoopOutputLaunch_next {s : State} {n : Nat} : Next (mayChange (.loopOutputLaunch n)) s (execLoopOutputLaunch n s) :=
  .ok (axOnLoop_moves.after loopOutput_moves.mono)

theorem execLoopStateCopy_next {s : State} {t : Nat} : Next (mayChange (.loopStateCopy t)) s (execLoopStateCopy t s) :=
  .ok (.foldl advance_moves.mono fun _ _ => .ite loopUpd_moves.mono .refl)

theorem execLoopJournalWrite_next {s : State} {t : Nat} : Next (mayChange (.loopJournalWrite t)) s (execLoopJournalWrite t s) :=
  .ok (.foldl advance_moves.mono fun _ _ => .ite (Moves.refl.setMram fun h => { h with journal := SMap.wf_set _ _ _ h.journal }) .refl)

theorem loopRestore_moves {s : State} {n : Nat} {v : LoopSave} : Moves [.anv] s (loopRestore s n v) :=
  loopUpd_moves.after anvUpd_moves

theorem execLoopPersistStart_next {s : State} {n t bad : Nat} :
    Next (mayChange (.loopPersistStart n t bad)) s (execLoopPersistStart n t bad s) := by
  unfold execLoopPersistStart
  split
  · exact .ok .refl
  · exact .ite (.ok .refl) (by
      dsimp only
      split
      · exact .ite (.ok (loopInstall_moves.after (by
          split
          · exact writeCode_moves.after advance_moves.mono
          · exact advance_moves.mono))) (by
          split
          · exact .ok (loopEvent_moves.after (loopInstall_moves.after (by
              split
              · exact writeCode_moves.after advance_moves.mono
              · exact advance_moves.mono)))
          · exact .ok (loopEvent_moves.after (.ite (qchFromLoop_moves.after
                (loopUpd_moves.after (loopRestore_moves.after (loopInstall_moves.after (by
              split
              · exact writeCode_moves.after advance_moves.mono
              · exact advance_moves.mono))))) (loopUpd_moves.after (loopRestore_moves.after (loopInstall_moves.after (by
              split
              · exact writeCode_moves.after advance_moves.mono
              · exact advance_moves.mono)))))))
      · exact .ok advance_moves.mono)

theorem execAnvilEccRewrite_next {s : State} {c space addr t : Nat} :
    Next (mayChange (.anvilEccRewrite c space addr t)) s (execAnvilEccRewrite c space addr t s) := by
  unfold execAnvilEccRewrite
  split
  · exact .ok .refl
  · exact .ite (.ok (anvUpd_moves.after (anvStop_moves.after advance_moves.mono)))
        (.ite (.ok (anvUpd_moves.after (anvStop_moves.after advance_moves.mono))) (.ok (anvStop_moves.after advance_moves.mono)))

theorem anvMemRead_moves {s : State} {v : Word} : Moves [.regs, .anv, .freeCtr] s (anvMemRead v s) :=
  .ite (.setAnv (setFld_moves.after (setFld_moves.after setFld_moves.mono))) (by
    split
    · exact .ite (.setAnv (setFld_moves.after (setFld_moves.after setFld_moves.mono)))
          (.ite (.setAnv (drawFree_moves.after (setFld_moves.after (setFld_moves.after setFld_moves.mono))))
          (.setAnv (setFld_moves.after (setFld_moves.after setFld_moves.mono))))
    · exact .ite (.setAnv (drawFree_moves.after (setFld_moves.after (setFld_moves.after setFld_moves.mono))))
          (.setAnv (setFld_moves.after (setFld_moves.after setFld_moves.mono)))
    · exact .ite (.setAnv (drawFree_moves.after (setFld_moves.after (setFld_moves.after setFld_moves.mono))))
          (.setAnv (setFld_moves.after (setFld_moves.after setFld_moves.mono)))
    · exact .setAnv (setFld_moves.after (setFld_moves.after setFld_moves.mono)))

theorem execAnvMemRead_next {s : State} {v : Word} : Next (mayChange (.anvMemRead v)) s (execAnvMemRead v s) :=
  regCmd_next (fun _ => anvMemRead_moves.mono)

theorem loopRelocate_moves {s : State} {n : Nat} : Moves [.regs, .hif, .recd, .anv, .cap, .mram] s (loopRelocate s n) := by
  unfold loopRelocate
  dsimp only
  split
  · exact loopEvent_moves.after (bump_moves.after (loopUpd_moves.after (by
      split
      · exact loopRestore_moves.after (resetIo_moves.after (anvUpd_moves.after (loopUpd_moves.after (by
          split
          · exact writeCode_moves.after tuneAbort_moves
          · exact tuneAbort_moves))))
      · exact resetIo_moves.after (anvUpd_moves.after (loopUpd_moves.after (by
          split
          · exact writeCode_moves.after tuneAbort_moves
          · exact tuneAbort_moves))))))
  · exact loopEvent_moves.after (bump_moves.after (loopUpd_moves.after tuneAbort_moves))

theorem coreRetire_moves {s : State} {c : Nat} {relocate : Bool} : Moves [.regs, .hif, .recd, .anv, .cap, .mram] s (coreRetire s c relocate) :=
  .ite (.foldl (.foldl (anvEvent_moves.after anvUpd_moves.mono) fun _ _ => loopUpd_moves.mono) fun _ _ => loopRelocate_moves)
      (.foldl (anvEvent_moves.after anvUpd_moves.mono) fun _ _ => loopUpd_moves.mono)

theorem execAnvilCoreMismatch_next {s : State} {c t : Nat} : Next (mayChange (.anvilCoreMismatch c t)) s (execAnvilCoreMismatch c t s) :=
  .ite (.ok .refl) (.ok (.ite (pairGiveUp_moves.after (coreRetire_moves.after advance_moves.mono)) (coreRetire_moves.after advance_moves.mono)))

end Sys2Proof.Machine
end

section
/-! What the functions of the motion commands may change. -/
set_option Elab.async false
namespace Sys2Proof.Machine
open Sys2Proof

theorem axJournal_moves {s : State} {n : Nat} {off : Bool} : Moves [.mram] s (axJournal s n off) :=
  Moves.refl.setMram fun h => { h with axes := SMap.wf_set _ _ _ h.axes }

theorem axisConfig_moves {s : State} {c : Cmd} : Moves [.regs, .tmb, .hif, .recd, .mot, .wlk, .par, .mram, .out] s (axisConfig s c) := by
  unfold axisConfig
  dsimp only
  split
  · exact endCmd_moves.after (event_moves.after bump_moves.mono)
  · exact .ite (endCmd_moves.after (motEvent_moves.after (.setMot claimPins_moves.mono
        (fun h => SMap.wf_set _ _ _ h))))
        (endCmd_moves.after (.ite (motEvent_moves.after (bump_moves.after
        (motEvent_moves.after (.foldl (.setMot claimPins_moves.mono
        (fun h => SMap.wf_set _ _ _ h)) fun _ _ => pinDrive_moves.mono))))
        (motEvent_moves.after (.foldl (.setMot claimPins_moves.mono (fun h => SMap.wf_set _ _ _ h)) fun _ _ => pinDrive_moves.mono))))

theorem execAxisConfig_next {s : State} {h : Nat} {data : Option Bytes} : Next (mayChange (.axisConfig h data)) s (execAxisConfig h data s) :=
  .ok (startCmd_moves (fun _ _ => axisConfig_moves.mono))

theorem profileLoad_moves {s : State} {n : Nat} {b : Bytes} : Moves [.regs, .recd, .mot, .mram] s (profileLoad s n b).1 := by
  unfold profileLoad
  split
  · exact motEvent_moves.after bump_moves.mono
  · exact motEvent_moves.after axUpd_moves.mono

theorem axLevels_moves {s : State} {n lv : Nat} : Moves [.mot] s (axLevels s n lv) :=
  axUpd_moves

theorem stepsBegin_moves {s : State} {n : Nat} {neg : Bool} : Moves [.regs, .tmb, .mot, .wlk, .par, .out] s (stepsBegin s n neg) :=
  .ite .refl (.ite axUpd_moves.mono (pinDrive_moves.after (axUpd_moves.after axUpd_moves.mono)))

theorem axStart_moves {s : State} {n : Nat} : Moves [.regs, .tmb, .recd, .mot, .wlk, .par, .mram, .out] s (axStart s n).1 := by
  unfold axStart
  split
  · exact axUpd_moves.after (motEvent_moves.after bump_moves.mono)
  · exact stepsBegin_moves.after (axUpd_moves.after bump_moves.mono)

theorem axStop_moves {s : State} {n : Nat} {now : Bool} {cmd : Option Nat} :
    Moves [.regs, .tmb, .hif, .mot, .wlk, .par, .out] s (axStop s n now cmd) := by
  unfold axStop
  dsimp only
  split
  · exact .ite (axStopsEnd_moves.after (by
      split
      · exact axUpd_moves.after (axUpd_moves.after bump_moves.mono)
      · exact axUpd_moves.after bump_moves.mono)) (axStopsEnd_moves.after (by
      split
      · exact axUpd_moves.mono
      · exact .refl))
  · exact .ite (axStopsEnd_moves.after (by
      split
      · exact axUpd_moves.after (axUpd_moves.after (axFreeze_moves.after (axUpd_moves.after (homeEnds_moves.after bump_moves.mono))))
      · exact axUpd_moves.after (axFreeze_moves.after (axUpd_moves.after (homeEnds_moves.after bump_moves.mono))))) (by
      split
      · exact axUpd_moves.after (axReplan_moves.after (axUpd_moves.after
            (axToward_moves.after (axBring_moves.after (axUpd_moves.after (homeEnds_moves.after bump_moves.mono))))))
      · exact axReplan_moves.after (axUpd_moves.after (axToward_moves.after
            (axBring_moves.after (axUpd_moves.after (homeEnds_moves.after bump_moves.mono))))))
  · exact .ite (axStopsEnd_moves.after (by
      split
      · exact axUpd_moves.after (axUpd_moves.after (axFreeze_moves.after (axUpd_moves.after (homeEnds_moves.after bump_moves.mono))))
      · exact axUpd_moves.after (axFreeze_moves.after (axUpd_moves.after (homeEnds_moves.after bump_moves.mono))))) (by
      split
      · exact axUpd_moves.after (axReplan_moves.after (axUpd_moves.after
            (axToward_moves.after (axBring_moves.after (axUpd_moves.after (homeEnds_moves.after bump_moves.mono))))))
      · exact axReplan_moves.after (axUpd_moves.after (axToward_moves.after
            (axBring_moves.after (axUpd_moves.after (homeEnds_moves.after bump_moves.mono))))))
  · exact .ite (axStopsEnd_moves.after (by
      split
      · exact axUpd_moves.after (axUpd_moves.after (axFreeze_moves.after (axUpd_moves.after (homeEnds_moves.after bump_moves.mono))))
      · exact axUpd_moves.after (axFreeze_moves.after (axUpd_moves.after (homeEnds_moves.after bump_moves.mono))))) (by
      split
      · exact axUpd_moves.after (axReplan_moves.after (axUpd_moves.after
            (axToward_moves.after (axBring_moves.after (axUpd_moves.after (homeEnds_moves.after bump_moves.mono))))))
      · exact axReplan_moves.after (axUpd_moves.after (axToward_moves.after
            (axBring_moves.after (axUpd_moves.after (homeEnds_moves.after bump_moves.mono))))))
  · exact axStopsEnd_moves.after (by
      split
      · exact axUpd_moves.mono
      · exact .refl)

theorem axHome_moves {s : State} {n method : Nat} {cmd : Option Nat} :
    Moves [.regs, .tmb, .hif, .recd, .fbk, .mot, .wlk, .par, .mram, .out, .freeCtr] s (axHome s n method cmd).1 :=
  .ite_fst .refl (.ite_fst .refl (.ite_fst (homeDone_moves.after (axUpd_moves.after (axPosAt_moves.after (axUpd_moves.after bump_moves.mono))))
      (stepsBegin_moves.after (.ite (homePhase2_moves.after (axUpd_moves.after (axUpd_moves.after bump_moves.mono)))
      (axToward_moves.after (axUpd_moves.after (axUpd_moves.after bump_moves.mono)))))))

theorem motAct_moves {s : State} {n : Nat} {e : LqEntry} :
    Moves [.regs, .tmb, .hif, .recd, .fbk, .mot, .wlk, .par, .mram, .out, .freeCtr] s (motAct s n e) := by
  unfold motAct
  split
  · exact endLaunch_moves.after axStart_moves.mono
  · exact axStop_moves.mono
  · dsimp only
    split
    · exact endLaunch_moves.after axHome_moves
    · exact axHome_moves

theorem motEnqueue_moves {s : State} {n : Nat} {e : LqEntry} :
    Moves [.regs, .tmb, .hif, .recd, .fbk, .mot, .wlk, .par, .mram, .out, .freeCtr] s (motEnqueue s n e).1 :=
  .ite_fst .refl (by
    split
    · exact motAct_moves.after noteLate_moves.mono
    · exact noteLate_moves.mono
    · exact .ite_fst noteLate_moves.mono (axUpd_moves.after noteLate_moves.mono))

theorem execAxisMove_next {s : State} {h lv : Nat} : Next (mayChange (.axisMove h lv)) s (execAxisMove h lv s) := by
  unfold execAxisMove
  dsimp only
  exact .ok
      (startCmd_moves
      (fun _ _ => .ite (motAct_moves.after axLevels_moves.mono) (.ite motEnqueue_moves.mono (endCmd_moves.after motEnqueue_moves.mono))))

theorem execAxisHome_next {s : State} {h lv : Nat} : Next (mayChange (.axisHome h lv)) s (execAxisHome h lv s) :=
  .ok (startCmd_moves (fun _ _ => by
    dsimp only
    split
    · exact endCmd_moves.after (axHome_moves.after axLevels_moves.mono)
    · exact axHome_moves.after axLevels_moves.mono))

theorem execAxisStopControlled_next {s : State} {h : Nat} : Next (mayChange (.axisStopControlled h)) s (execAxisStopControlled h s) :=
  .ite (.ok .refl) (.ok (startCmd_moves (fun _ _ => .ite axStop_moves.mono endCmd_moves.mono)))

theorem execAxisStopImmediate_next {s : State} {h : Nat} : Next (mayChange (.axisStopImmediate h)) s (execAxisStopImmediate h s) :=
  .ite (.ok (startCmd_moves (fun _ _ => axStop_moves.mono))) (.ok .refl)

theorem motLaunch_moves {s : State} {a n lv : Nat} :
    Moves [.regs, .tmb, .hif, .recd, .fbk, .mot, .wlk, .par, .mram, .out, .freeCtr] s (motLaunch a n lv s) := by
  unfold motLaunch
  split
  · exact .refl
  · exact .ite .refl (motAct_moves.after (axUpd_moves.after (axLevels_moves.after advance_moves.mono)))

theorem execMotStart_next {s : State} {n lv : Nat} : Next (mayChange (.motStart n lv)) s (execMotStart n lv s) :=
  .ok motLaunch_moves.mono

theorem execMotStop_next {s : State} {n lv : Nat} : Next (mayChange (.motStop n lv)) s (execMotStop n lv s) :=
  .ok motLaunch_moves.mono

theorem execMotHome_next {s : State} {n lv : Nat} : Next (mayChange (.motHome n lv)) s (execMotHome n lv s) :=
  .ok motLaunch_moves.mono

theorem axisMoveReq_moves {s : State} {n : Nat} : Moves [.regs, .tmb, .recd, .mot, .wlk, .par, .mram, .out] s (axisMoveReq s n) :=
  .ite (axStart_moves.after axUpd_moves.mono) .refl

theorem execStepperTick_next {s : State} {n lv : Nat} : Next (mayChange (.stepperTick n lv)) s (execStepperTick n lv s) := by
  unfold execStepperTick
  dsimp only
  split
  · exact .ok .refl
  · exact .ite (.ok .refl) (.ok (.ite (stepPlan_moves.after (axUpd_moves.after
        (axChecks_moves.after (axPoint_moves.after (axPoint_moves.after
        (axEnd_moves.after (axSoft_moves.after (axBring_moves.after (axLevels_moves.after advance_moves.mono)))))))))
        (axUpd_moves.after (axChecks_moves.after (axPoint_moves.after
        (axPoint_moves.after (axEnd_moves.after (axSoft_moves.after (axBring_moves.after (axLevels_moves.after advance_moves.mono))))))))))

theorem execStepPulse_next {s : State} {n : Nat} : Next (mayChange (.stepPulse n)) s (execStepPulse n s) := by
  unfold execStepPulse
  dsimp only
  split
  · exact .ok (pinDrive_moves.after (axUpd_moves.after (bump_moves.after (.ite (bump_moves.after advance_moves.mono) advance_moves.mono))))
  · exact .ok .refl

theorem execStepPulseFall_next {s : State} {n : Nat} : Next (mayChange (.stepPulseFall n)) s (execStepPulseFall n s) := by
  unfold execStepPulseFall
  dsimp only
  split
  · exact .ok .refl
  · exact .ok (stepDir_moves.after (pinDrive_moves.after (axUpd_moves.after advance_moves.mono)))

theorem execServoTick_next {s : State} {n lv t : Nat} : Next (mayChange (.servoTick n lv t)) s (execServoTick n lv t s) :=
  .ite (.ok .refl) (.ok (axLinks_moves.after (writeGroup_moves.after (by
    split
    · exact homeHardStop_moves.after (axEnd_moves.after (axSoft_moves.after (axBring_moves.after (axLevels_moves.after advance_moves.mono))))
    · exact axEnd_moves.after (axSoft_moves.after (axBring_moves.after (axLevels_moves.after advance_moves.mono)))))))

theorem execLimitSwitchActive_next {s : State} {n : Nat} {positive : Bool} {t : Nat} :
    Next (mayChange (.limitSwitchActive n positive t)) s (execLimitSwitchActive n positive t s) :=
  .ite (.ok .refl) (.ite (.ok (axReplan_moves.after (homeEdge_moves.after (axUpd_moves.after advance_moves.mono))))
      (.ite (.ok (axFault_moves.after (bump_moves.after (axUpd_moves.after advance_moves.mono)))) (.ok (axUpd_moves.after advance_moves.mono))))

theorem execHomeSwitchEdge_next {s : State} {n which : Nat} {active : Bool} {t : Nat} :
    Next (mayChange (.homeSwitchEdge n which active t)) s (execHomeSwitchEdge n which active t s) :=
  .ite (.ok .refl) (.ok (axReplan_moves.after (homeEdge_moves.after (axUpd_moves.after advance_moves.mono))))

theorem execHomingTimeout_next {s : State} {n : Nat} : Next (mayChange (.homingTimeout n)) s (execHomingTimeout n s) := by
  unfold execHomingTimeout
  split
  · exact .ok (homeFail_moves.after advance_moves.mono)
  · exact .ok .refl

theorem execPgoodLoss_next {s : State} {n t : Nat} : Next (mayChange (.pgoodLoss n t)) s (execPgoodLoss n t s) :=
  .ite (.ok .refl) (.ok (axJournal_moves.after (by
    split
    · exact endCmd_moves.after (axUpd_moves.after (axFault_moves.after
          (bump_moves.after (axUpd_moves.after (pinDrive_moves.after advance_moves.mono)))))
    · exact axUpd_moves.after (axFault_moves.after (bump_moves.after (axUpd_moves.after (pinDrive_moves.after advance_moves.mono)))))))

theorem driveOff_moves {s : State} {c : Cmd} : Moves [.regs, .tmb, .hif, .recd, .mot, .wlk, .par, .mram, .out] s (driveOff s c) :=
  .ite endCmd_moves.mono (endCmd_moves.after (motEvent_moves.after (axUpd_moves.after
      (pinDrive_moves.after (axJournal_moves.after pinDrive_moves.mono)))))

theorem execAxisDriveOff_next {s : State} {h : Nat} : Next (mayChange (.axisDriveOff h)) s (execAxisDriveOff h s) :=
  .ite (.ok .refl) (.ok (startCmd_moves (fun _ _ => .ite driveOff_moves.mono endCmd_moves.mono)))

theorem driveEnable_moves {s : State} {n : Nat} : Moves [.regs, .tmb, .mot, .wlk, .par, .out] s (driveEnable s n) :=
  axUpd_moves.after pinDrive_moves.mono

theorem driveSettle_moves {s : State} {n : Nat} : Moves [.mot] s (driveSettle s n) :=
  axUpd_moves

theorem driveOn_moves {s : State} {c : Cmd} : Moves [.regs, .tmb, .hif, .mot, .wlk, .par, .out] s (driveOn s c) :=
  .ite endCmd_moves.mono (.ite (driveSettle_moves.after (axUpd_moves.after pinDrive_moves.mono))
      (axUpd_moves.after (axUpd_moves.after pinDrive_moves.mono)))

theorem execAxisDriveOn_next {s : State} {h : Nat} : Next (mayChange (.axisDriveOn h)) s (execAxisDriveOn h s) :=
  .ite (.ok (startCmd_moves (fun _ _ => driveOn_moves.mono))) (.ok .refl)

theorem execPgoodRise_next {s : State} {n t : Nat} : Next (mayChange (.pgoodRise n t)) s (execPgoodRise n t s) := by
  unfold execPgoodRise
  split
  · exact .ok (driveSettle_moves.after (axUpd_moves.after advance_moves.mono))
  · exact .ok .refl

theorem execDriveSettleEnd_next {s : State} {n : Nat} : Next (mayChange (.driveSettleEnd n)) s (execDriveSettleEnd n s) := by
  unfold execDriveSettleEnd
  dsimp only
  split
  · exact .ite (.ok (axUpd_moves.after (pinDrive_moves.after advance_moves.mono))) (.ok (driveEnable_moves.after advance_moves.mono))
  · exact .ok .refl

theorem execPhaseRestoreStep_next {s : State} {n : Nat} : Next (mayChange (.phaseRestoreStep n)) s (execPhaseRestoreStep n s) := by
  unfold execPhaseRestoreStep
  dsimp only
  split
  · exact .ok (.ite (driveEnable_moves.after (axUpd_moves.after (bump_moves.after (pinDrive_moves.after advance_moves.mono))))
        (axUpd_moves.after (bump_moves.after (pinDrive_moves.after advance_moves.mono))))
  · exact .ok .refl

theorem execDriveEnableDelay_next {s : State} {n : Nat} : Next (mayChange (.driveEnableDelay n)) s (execDriveEnableDelay n s) := by
  unfold execDriveEnableDelay
  dsimp only
  split
  · exact .ok (by
      split
      · exact endCmd_moves.after (motEvent_moves.after (axUpd_moves.after advance_moves.mono))
      · exact motEvent_moves.after (axUpd_moves.after advance_moves.mono))
  · exact .ok .refl

theorem execPgoodTimeout_next {s : State} {n : Nat} : Next (mayChange (.pgoodTimeout n)) s (execPgoodTimeout n s) := by
  unfold execPgoodTimeout
  dsimp only
  split
  · exact .ok (by
      split
      · exact endCmd_moves.after (axUpd_moves.after (pinDrive_moves.after advance_moves.mono))
      · exact axUpd_moves.after (pinDrive_moves.after advance_moves.mono))
  · exact .ok .refl

end Sys2Proof.Machine
end

section
/-! What the functions of the links may change. -/
set_option Elab.async false
namespace Sys2Proof.Machine
open Sys2Proof

theorem lqEnter_moves {s : State} {src q : Nat} {e : LqEntry} {frame : Bytes} :
    Moves [.regs, .tmb, .hif, .recd, .cap, .fbk, .mot, .can, .wlk, .par, .mram, .out, .freeCtr] s (lqEnter s src q e frame) := by
  unfold lqEnter
  split
  · exact tioEnqueue_moves.mono
  · exact motEnqueue_moves.mono
  · exact capEnqueue_moves.mono
  · exact canEnqueue_moves.mono

theorem ileFallbackEnter_moves {s : State} {reason : Nat} : Moves [.regs, .recd, .ile, .mram] s (ileFallbackEnter s reason) :=
  ileEnter_moves

theorem bootProgram_moves {s : State} {slot : Nat} : Moves [.hdl] s (bootProgram s slot) := by
  unfold bootProgram
  split
  · exact .ite .refl bootPend_moves
  · exact .refl

end Sys2Proof.Machine
end

section
/-! What the functions of Hearth may change. -/
set_option Elab.async false
namespace Sys2Proof.Machine
open Sys2Proof

theorem hrtEvent_moves {s : State} {k : EvKind} {core src ref status : Nat} : Moves [.regs, .recd, .mram] s (hrtEvent s k core src ref status) :=
  event_moves

theorem hrtTrace_moves {s : State} {kind core : Nat} {d : Desc} {status : Nat} : Moves [.regs, .hrt] s (hrtTrace s kind core d status) :=
  .ite .refl (.ite bump_moves.mono Moves.refl.setHrt)

theorem readyPush_moves {s : State} {d : Desc} : Moves [.regs, .hrt] s (readyPush s d) :=
  hrtTrace_moves.after (bump_moves.after Moves.refl.setHrt)

theorem hrtEnqueue_moves {s : State} {d : Desc} : Moves [.regs, .recd, .hrt, .mram] s (hrtEnqueue s d) :=
  .ite readyPush_moves.mono (hrtTrace_moves.after (.ite (bump_moves.after Moves.refl.setHrt)
      (hrtEvent_moves.after (.setHrt (bump_moves.after Moves.refl.setHrt)))))

theorem hrtFirmware_moves {s : State} {src type ref context arg : Nat} :
    Moves [.regs, .recd, .hrt, .mram] s (hrtFirmware s src type ref context arg) :=
  hrtEnqueue_moves

theorem coreUpd_moves {s : State} {c : Nat} {f : Core → Core} : Moves [.hrt] s (coreUpd s c f) :=
  Moves.refl.setHrt fun h => { h with cores := SMap.wf_upd _ _ _ h.cores }

theorem instWrite_moves {s : State} {slot inst o : Nat} {b : Bytes} : Moves [.cyc] s (instWrite s slot inst o b) :=
  Moves.refl.setCyc fun h => { h with slots := SMap.wf_set _ _ _ h.slots }

end Sys2Proof.Machine
end

section
/-! What the functions of recipe executors may change. -/
set_option Elab.async false
namespace Sys2Proof.Machine
open Sys2Proof

theorem seqUpd_moves {s : State} {x : Nat} {f : Exec → Exec} : Moves [.seq] s (seqUpd s x f) :=
  Moves.refl.setSeq fun h => SMap.wf_upd _ _ _ h

theorem seqEvent_moves {s : State} {k : EvKind} {x module policy : Nat} : Moves [.regs, .recd, .mram] s (seqEvent s k x module policy) :=
  event_moves

theorem seqEnd_moves {s : State} {x : Nat} {cmd : Option Nat} {st : Status} {result : Nat} : Moves [.hif, .seq] s (seqEnd s x cmd st result) := by
  unfold seqEnd
  split
  · exact endCmd_moves.after seqUpd_moves.mono
  · exact .refl

theorem checkpoint_moves {s : State} {x entry fails : Nat} : Moves [.regs, .recd, .seq, .mram, .aon] s (checkpoint s x entry fails) :=
  .ite (hendelCopy_moves.after (setFld_moves.after (bump_moves.after
      (.setMram (seqUpd_moves.after bump_moves.mono) (fun h => { h with recipes := SMap.wf_set _ _ _ h.recipes })))))
      (.setMram (seqUpd_moves.after bump_moves.mono) (fun h => { h with recipes := SMap.wf_set _ _ _ h.recipes }))

theorem carryBoundary_moves {s : State} {x step inst : Nat} {mods : List Nat} : Moves [.regs, .wlk, .out] s (carryBoundary s x step inst mods) :=
  .foldl .refl fun _ _ => waligAll_moves

theorem seqDecide_moves {s : State} {x : Nat} {b : Bnd} : Moves [.regs, .recd, .hrt, .seq, .wlk, .mram, .out] s (seqDecide s x b) :=
  hrtFirmware_moves.after (carryBoundary_moves.after (seqUpd_moves.after (.ite noteLate_moves.mono .refl)))

theorem decideNormal_moves {s : State} {x inst : Nat} {cmd : Option Nat} {release : Bool} :
    Moves [.regs, .recd, .hrt, .seq, .wlk, .mram, .out] s (decideNormal s x inst cmd release) :=
  seqDecide_moves

theorem abortAt_moves {s : State} {x inst : Nat} {cmd : Option Nat} :
    Moves [.regs, .recd, .hrt, .seq, .wlk, .mram, .out] s (abortAt s x inst cmd) :=
  hrtFirmware_moves.after (carryBoundary_moves.after seqUpd_moves.mono)

theorem seqItemDone_moves {s : State} {x g status : Nat} : Moves [.regs, .recd, .hrt, .seq, .mram] s (seqItemDone s x g status) :=
  .ite .refl (.ite hrtFirmware_moves.mono seqUpd_moves.mono)

theorem seqWrite_moves {s : State} {x id : Nat} {v : Val} {t : Nat} :
    Moves [.regs, .pst, .hif, .recd, .cap, .wlk, .mram, .out] s (seqWrite s x id v t) :=
  blockWrite_moves

theorem rampValue_moves {s : State} {r : Ramp} {t : Nat} : Moves [.freeCtr] s (rampValue s r t).2 := by
  unfold rampValue
  split
  · exact .refl
  · exact drawFree_moves

theorem actionMissing_moves {s : State} {x i : Nat} : Moves [.regs, .recd, .seq, .mram] s (actionMissing s x i) :=
  .ite bump_moves.mono (seqEvent_moves.after (seqUpd_moves.after bump_moves.mono))

theorem rampWrite_moves {s : State} {x : Nat} {r : Ramp} {v : Val} {t : Nat} :
    Moves [.regs, .pst, .hif, .recd, .cap, .seq, .wlk, .mram, .out] s (rampWrite s x r v t) :=
  .ite (seqWrite_moves.after bump_moves.mono) actionMissing_moves.mono

theorem rampTick_moves {s : State} {x : Nat} {r : Ramp} :
    Moves [.regs, .pst, .hif, .recd, .cap, .seq, .wlk, .mram, .out, .freeCtr] s (rampTick s x r) :=
  .ite (rampWrite_moves.after seqUpd_moves.mono) (rampWrite_moves.after (seqUpd_moves.after rampValue_moves.mono))

theorem rampStart_moves {s : State} {x i id code : Nat} {v : Val} {t dur tick : Nat} :
    Moves [.regs, .pst, .hif, .recd, .cap, .seq, .wlk, .mram, .out, .freeCtr] s (rampStart s x i id code v t dur tick) :=
  rampTick_moves.after seqUpd_moves.mono

theorem runAction_moves {s : State} {x t : Nat} {a : Nat × Bytes} :
    Moves [.regs, .tmb, .pst, .hif, .recd, .cap, .mot, .seq, .wlk, .par, .mram, .out, .freeCtr] s (runAction s x t a) := by
  unfold runAction
  dsimp only
  split
  · exact .ite (seqWrite_moves.after bump_moves.mono) (actionMissing_moves.after bump_moves.mono)
  · exact .ite (rampStart_moves.after bump_moves.mono) (actionMissing_moves.after bump_moves.mono)
  · exact axStart_moves.after bump_moves.mono
  · exact .ite (capAct_moves.after bump_moves.mono) (capArmCmd_moves.after bump_moves.mono)
  · exact eventStaged_moves.after bump_moves.mono

theorem runGroup_moves {s : State} {x n off t : Nat} :
    Moves [.regs, .tmb, .pst, .hif, .recd, .cap, .mot, .seq, .wlk, .par, .mram, .out, .freeCtr] s (runGroup s x n off t) :=
  .foldl .refl fun _ _ => runAction_moves

theorem cancelOffsets_moves {s : State} {x : Nat} : Moves [.regs, .seq] s (cancelOffsets s x) :=
  bumpN_moves.after seqUpd_moves.mono

theorem planStep_moves {s : State} {x t : Nat} : Moves [.regs, .recd, .hrt, .seq, .wlk, .mram, .out] s (planStep s x t) :=
  .ite seqUpd_moves.mono (decideNormal_moves.after seqUpd_moves.mono)

theorem enterStep_moves {s : State} {x n b t : Nat} {loops : List (Nat × Nat)} {state : ExecState} :
    Moves [.regs, .tmb, .pst, .hif, .recd, .cap, .mot, .seq, .wlk, .par, .mram, .out, .freeCtr] s (enterStep s x n b t loops state) :=
  seqUpd_moves.after (runGroup_moves.after seqUpd_moves.mono)

theorem resumeRemaining_moves {s : State} {x r : Nat} {state : ExecState} :
    Moves [.regs, .tmb, .pst, .hif, .recd, .cap, .mot, .seq, .wlk, .par, .mram, .out, .freeCtr] s (resumeRemaining s x r state) :=
  seqUpd_moves.after (.foldl (.foldl seqUpd_moves.mono fun _ _ => runAction_moves) fun _ _ => .ite rampStart_moves.mono actionMissing_moves.mono)

theorem dropCmds_moves {s : State} {x : Nat} {st : Status} : Moves [.hif, .seq] s (dropCmds s x st) :=
  seqUpd_moves.after (by
    split
    · exact seqEnd_moves.after (by
        split
        · exact seqEnd_moves
        · exact .refl)
    · split
      · exact seqEnd_moves
      · exact .refl)

theorem seqFinish_moves {s : State} {x t fails : Nat} {aborted : Bool} :
    Moves [.regs, .hif, .recd, .seq, .mram, .aon] s (seqFinish s x t fails aborted) :=
  .ite (seqEvent_moves.after (checkpoint_moves.after (seqUpd_moves.after dropCmds_moves.mono)))
      (seqEvent_moves.after (checkpoint_moves.after (seqUpd_moves.after dropCmds_moves.mono)))

theorem resumeAt_moves {s : State} {x r policy : Nat} {cmd : Option Nat} :
    Moves [.regs, .recd, .hrt, .seq, .wlk, .mram, .out] s (resumeAt s x r policy cmd) := by
  unfold resumeAt
  dsimp only
  split
  · exact seqDecide_moves
  · exact seqDecide_moves
  · split
    · exact seqDecide_moves
    · exact abortAt_moves
  · exact abortAt_moves

theorem seqResume_moves {s : State} {x policy : Nat} {cmd : Option Nat} :
    Moves [.regs, .hif, .recd, .hrt, .seq, .wlk, .mram, .out] s (seqResume s x policy cmd) := by
  unfold seqResume
  split
  · exact seqEnd_moves.after (.ite bump_moves.mono .refl)
  · exact .ite (.foldl (seqUpd_moves.after resumeAt_moves.mono) fun _ _ => waligAll_moves.mono) resumeAt_moves.mono

theorem seqAutoResume_moves {s : State} : Moves [.regs, .hif, .recd, .hrt, .seq, .wlk, .mram, .out] s (seqAutoResume s) :=
  .ite .refl (.foldl .refl fun _ _ => .ite seqResume_moves .refl)

theorem seqAutostartInstant_moves {s : State} {t : Nat} :
    Moves [.regs, .tmb, .hif, .recd, .hrt, .seq, .wlk, .mram, .out] s (seqAutostartInstant s t) :=
  seqAutoResume_moves.after advance_moves.mono

end Sys2Proof.Machine
end

section
/-! What the functions of the Cycle Engine may change. -/
set_option Elab.async false
namespace Sys2Proof.Machine
open Sys2Proof

theorem cycEvent_moves {s : State} {k : EvKind} {cls item inst slot : Nat} : Moves [.regs, .recd, .mram] s (cycEvent s k cls item inst slot) :=
  event_moves

theorem weldEvent_moves {s : State} {k : EvKind} {trigger : Nat} : Moves [.regs, .recd, .mram] s (weldEvent s k trigger) :=
  event_moves

theorem weldUpd_moves {s : State} {f : Weld → Weld} : Moves [.cyc] s (weldUpd s f) :=
  Moves.refl.setCyc

theorem clsUpd_moves {s : State} {c : Nat} {f : ClassRun → ClassRun} : Moves [.cyc] s (clsUpd s c f) :=
  Moves.refl.setCyc fun h => { h with classes := SMap.wf_upd _ _ _ h.classes }

theorem enqueueItem_moves {s : State} {c item : Nat} : Moves [.regs, .recd, .hrt, .mram] s (enqueueItem s c item) :=
  hrtEnqueue_moves

theorem weldAbandon_moves {s : State} {st : Status} : Moves [.regs, .hif, .recd, .cyc, .mram] s (weldAbandon s st) := by
  unfold weldAbandon
  exact weldUpd_moves.after (by
    split
    · exact endCmd_moves.after weldEvent_moves.mono
    · exact weldEvent_moves.mono)

theorem probationEnd_moves {s : State} {st : Status} : Moves [.hif, .cyc] s (probationEnd s st) := by
  unfold probationEnd
  exact weldUpd_moves.after (by
    dsimp only
    split
    · exact endCmd_moves.after (Moves.refl.setCyc fun h => { h with slots := SMap.wf_upd _ _ _ h.slots })
    · exact Moves.refl.setCyc fun h => { h with slots := SMap.wf_upd _ _ _ h.slots })

theorem weldConfirm_moves {s : State} : Moves [.regs, .hif, .recd, .cyc, .mram, .hdl] s (weldConfirm s) :=
  .ite (bootProgram_moves.after (probationEnd_moves.after weldEvent_moves.mono)) (probationEnd_moves.after weldEvent_moves.mono)

theorem cycStop_moves {s : State} {r : StopReason} : Moves [.regs, .hif, .recd, .cyc, .ile, .wlk, .par, .mram, .out] s (cycStop s r) :=
  .ite (pairGiveUp_moves.after (.ite (ileFallbackEnter_moves.after (.ite (bump_moves.after (.setCyc (by
    split
    · exact endCmd_moves.after (by
        split
        · exact endCmd_moves.after (statusChanged_moves.after (recArrive_moves.after
              (.setCyc (.ite weldAbandon_moves.mono (.ite probationEnd_moves.mono .refl))
              (fun h => { h with classes := SMap.wf_mapV _ _ h.classes }))))
        · exact statusChanged_moves.after (recArrive_moves.after (.setCyc (.ite weldAbandon_moves.mono (.ite probationEnd_moves.mono .refl))
              (fun h => { h with classes := SMap.wf_mapV _ _ h.classes }))))
    · split
      · exact endCmd_moves.after (statusChanged_moves.after (recArrive_moves.after
            (.setCyc (.ite weldAbandon_moves.mono (.ite probationEnd_moves.mono .refl))
            (fun h => { h with classes := SMap.wf_mapV _ _ h.classes }))))
      · exact statusChanged_moves.after (recArrive_moves.after (.setCyc (.ite weldAbandon_moves.mono (.ite probationEnd_moves.mono .refl))
            (fun h => { h with classes := SMap.wf_mapV _ _ h.classes })))))) (.setCyc (by
    split
    · exact endCmd_moves.after (by
        split
        · exact endCmd_moves.after (statusChanged_moves.after (recArrive_moves.after
              (.setCyc (.ite weldAbandon_moves.mono (.ite probationEnd_moves.mono .refl))
              (fun h => { h with classes := SMap.wf_mapV _ _ h.classes }))))
        · exact statusChanged_moves.after (recArrive_moves.after (.setCyc (.ite weldAbandon_moves.mono (.ite probationEnd_moves.mono .refl))
              (fun h => { h with classes := SMap.wf_mapV _ _ h.classes }))))
    · split
      · exact endCmd_moves.after (statusChanged_moves.after (recArrive_moves.after
            (.setCyc (.ite weldAbandon_moves.mono (.ite probationEnd_moves.mono .refl))
            (fun h => { h with classes := SMap.wf_mapV _ _ h.classes }))))
      · exact statusChanged_moves.after (recArrive_moves.after (.setCyc (.ite weldAbandon_moves.mono (.ite probationEnd_moves.mono .refl))
            (fun h => { h with classes := SMap.wf_mapV _ _ h.classes }))))))) (.ite (bump_moves.after (.setCyc (by
    split
    · exact endCmd_moves.after (by
        split
        · exact endCmd_moves.after (statusChanged_moves.after (recArrive_moves.after
              (.setCyc (.ite weldAbandon_moves.mono (.ite probationEnd_moves.mono .refl))
              (fun h => { h with classes := SMap.wf_mapV _ _ h.classes }))))
        · exact statusChanged_moves.after (recArrive_moves.after (.setCyc (.ite weldAbandon_moves.mono (.ite probationEnd_moves.mono .refl))
              (fun h => { h with classes := SMap.wf_mapV _ _ h.classes }))))
    · split
      · exact endCmd_moves.after (statusChanged_moves.after (recArrive_moves.after
            (.setCyc (.ite weldAbandon_moves.mono (.ite probationEnd_moves.mono .refl))
            (fun h => { h with classes := SMap.wf_mapV _ _ h.classes }))))
      · exact statusChanged_moves.after (recArrive_moves.after (.setCyc (.ite weldAbandon_moves.mono (.ite probationEnd_moves.mono .refl))
            (fun h => { h with classes := SMap.wf_mapV _ _ h.classes })))))) (.setCyc (by
    split
    · exact endCmd_moves.after (by
        split
        · exact endCmd_moves.after (statusChanged_moves.after (recArrive_moves.after
              (.setCyc (.ite weldAbandon_moves.mono (.ite probationEnd_moves.mono .refl))
              (fun h => { h with classes := SMap.wf_mapV _ _ h.classes }))))
        · exact statusChanged_moves.after (recArrive_moves.after (.setCyc (.ite weldAbandon_moves.mono (.ite probationEnd_moves.mono .refl))
              (fun h => { h with classes := SMap.wf_mapV _ _ h.classes }))))
    · split
      · exact endCmd_moves.after (statusChanged_moves.after (recArrive_moves.after
            (.setCyc (.ite weldAbandon_moves.mono (.ite probationEnd_moves.mono .refl))
            (fun h => { h with classes := SMap.wf_mapV _ _ h.classes }))))
      · exact statusChanged_moves.after (recArrive_moves.after (.setCyc (.ite weldAbandon_moves.mono (.ite probationEnd_moves.mono .refl))
            (fun h => { h with classes := SMap.wf_mapV _ _ h.classes }))))))))
            (.ite (ileFallbackEnter_moves.after (.ite (bump_moves.after (.setCyc (by
    split
    · exact endCmd_moves.after (by
        split
        · exact endCmd_moves.after (statusChanged_moves.after (recArrive_moves.after
              (.setCyc (.ite weldAbandon_moves.mono (.ite probationEnd_moves.mono .refl))
              (fun h => { h with classes := SMap.wf_mapV _ _ h.classes }))))
        · exact statusChanged_moves.after (recArrive_moves.after (.setCyc (.ite weldAbandon_moves.mono (.ite probationEnd_moves.mono .refl))
              (fun h => { h with classes := SMap.wf_mapV _ _ h.classes }))))
    · split
      · exact endCmd_moves.after (statusChanged_moves.after (recArrive_moves.after
            (.setCyc (.ite weldAbandon_moves.mono (.ite probationEnd_moves.mono .refl))
            (fun h => { h with classes := SMap.wf_mapV _ _ h.classes }))))
      · exact statusChanged_moves.after (recArrive_moves.after (.setCyc (.ite weldAbandon_moves.mono (.ite probationEnd_moves.mono .refl))
            (fun h => { h with classes := SMap.wf_mapV _ _ h.classes })))))) (.setCyc (by
    split
    · exact endCmd_moves.after (by
        split
        · exact endCmd_moves.after (statusChanged_moves.after (recArrive_moves.after
              (.setCyc (.ite weldAbandon_moves.mono (.ite probationEnd_moves.mono .refl))
              (fun h => { h with classes := SMap.wf_mapV _ _ h.classes }))))
        · exact statusChanged_moves.after (recArrive_moves.after (.setCyc (.ite weldAbandon_moves.mono (.ite probationEnd_moves.mono .refl))
              (fun h => { h with classes := SMap.wf_mapV _ _ h.classes }))))
    · split
      · exact endCmd_moves.after (statusChanged_moves.after (recArrive_moves.after
            (.setCyc (.ite weldAbandon_moves.mono (.ite probationEnd_moves.mono .refl))
            (fun h => { h with classes := SMap.wf_mapV _ _ h.classes }))))
      · exact statusChanged_moves.after (recArrive_moves.after (.setCyc (.ite weldAbandon_moves.mono (.ite probationEnd_moves.mono .refl))
            (fun h => { h with classes := SMap.wf_mapV _ _ h.classes }))))))) (.ite (bump_moves.after (.setCyc (by
    split
    · exact endCmd_moves.after (by
        split
        · exact endCmd_moves.after (statusChanged_moves.after (recArrive_moves.after
              (.setCyc (.ite weldAbandon_moves.mono (.ite probationEnd_moves.mono .refl))
              (fun h => { h with classes := SMap.wf_mapV _ _ h.classes }))))
        · exact statusChanged_moves.after (recArrive_moves.after (.setCyc (.ite weldAbandon_moves.mono (.ite probationEnd_moves.mono .refl))
              (fun h => { h with classes := SMap.wf_mapV _ _ h.classes }))))
    · split
      · exact endCmd_moves.after (statusChanged_moves.after (recArrive_moves.after
            (.setCyc (.ite weldAbandon_moves.mono (.ite probationEnd_moves.mono .refl))
            (fun h => { h with classes := SMap.wf_mapV _ _ h.classes }))))
      · exact statusChanged_moves.after (recArrive_moves.after (.setCyc (.ite weldAbandon_moves.mono (.ite probationEnd_moves.mono .refl))
            (fun h => { h with classes := SMap.wf_mapV _ _ h.classes })))))) (.setCyc (by
    split
    · exact endCmd_moves.after (by
        split
        · exact endCmd_moves.after (statusChanged_moves.after (recArrive_moves.after
              (.setCyc (.ite weldAbandon_moves.mono (.ite probationEnd_moves.mono .refl))
              (fun h => { h with classes := SMap.wf_mapV _ _ h.classes }))))
        · exact statusChanged_moves.after (recArrive_moves.after (.setCyc (.ite weldAbandon_moves.mono (.ite probationEnd_moves.mono .refl))
              (fun h => { h with classes := SMap.wf_mapV _ _ h.classes }))))
    · split
      · exact endCmd_moves.after (statusChanged_moves.after (recArrive_moves.after
            (.setCyc (.ite weldAbandon_moves.mono (.ite probationEnd_moves.mono .refl))
            (fun h => { h with classes := SMap.wf_mapV _ _ h.classes }))))
      · exact statusChanged_moves.after (recArrive_moves.after (.setCyc (.ite weldAbandon_moves.mono (.ite probationEnd_moves.mono .refl))
            (fun h => { h with classes := SMap.wf_mapV _ _ h.classes })))))))

theorem weldTrigger_moves {s : State} {t : WeldTrigger} : Moves [.cyc] s (weldTrigger s t) :=
  .ite weldUpd_moves .refl

theorem watchCycle_moves {s : State} {c : Nat} : Moves [.regs, .hif, .recd, .cyc, .ile, .wlk, .par, .mram, .out] s (watchCycle s c) :=
  .ite clsUpd_moves.mono (.ite (weldTrigger_moves.after clsUpd_moves.mono) (cycStop_moves.after clsUpd_moves.mono))

theorem outFrame_moves {s : State} {c inst : Nat} {late : Bool} {st : Nat} :
    Moves [.regs, .recd, .stn, .par, .mram, .out] s (outFrame c inst late s st) :=
  .ite stnOutput_moves (bump_moves.after stnOutput_moves)

theorem outputSet_moves {s : State} {c : Nat} {late : Bool} : Moves [.regs, .recd, .ile, .stn, .par, .mram, .out] s (outputSet s c late) :=
  ileOutputSet_moves.after (.foldl .refl fun _ _ => outFrame_moves.mono)

theorem probationCount_moves {s : State} {c : Nat} : Moves [.regs, .hif, .recd, .cyc, .mram, .hdl] s (probationCount s c) :=
  .ite (.ite (weldConfirm_moves.after weldUpd_moves.mono) weldUpd_moves.mono) .refl

theorem cycleDone_moves {s : State} {c : Nat} : Moves [.regs, .hif, .recd, .cyc, .ile, .stn, .wlk, .par, .mram, .hdl, .out] s (cycleDone s c) :=
  probationCount_moves.after (digEnd_moves.after (.ite (outputSet_moves.after (bump_moves.after (bumpMax_moves.after clsUpd_moves.mono)))
      (.ite (outputSet_moves.after (bump_moves.after (bump_moves.after (bumpMax_moves.after clsUpd_moves.mono))))
      (bump_moves.after (bump_moves.after (bumpMax_moves.after clsUpd_moves.mono))))))

theorem releaseOne_moves {s : State} {c i : Nat} : Moves [.regs, .recd, .hrt, .mram] s (releaseOne c s i) :=
  .ite (enqueueItem_moves.after (Moves.refl.setHrt fun h => { h with counters := SMap.wf_set _ _ _ h.counters }))
      (Moves.refl.setHrt fun h => { h with counters := SMap.wf_set _ _ _ h.counters })

theorem cycItemDone_moves {s : State} {d : Desc} :
    Moves [.regs, .hif, .recd, .cyc, .hrt, .ile, .stn, .wlk, .par, .mram, .hdl, .out] s (cycItemDone s d) :=
  .ite .refl (.ite (cycleDone_moves.after (bump_moves.after (clsUpd_moves.after
      (.foldl .refl fun _ _ => releaseOne_moves.mono)))) (bump_moves.after (clsUpd_moves.after (.foldl .refl fun _ _ => releaseOne_moves.mono))))

theorem itemFaultNote_moves {s : State} {d : Desc} {cause status : Nat} : Moves [.regs, .recd, .cyc, .mram] s (itemFaultNote s d cause status) :=
  weldTrigger_moves.after (cycEvent_moves.after (.setCyc bump_moves.mono))

end Sys2Proof.Machine
end

section
/-! What the functions of items and core pairs may change. -/
set_option Elab.async false
namespace Sys2Proof.Machine
open Sys2Proof

theorem slicePass_moves {s : State} : Moves [.regs, .recd, .hrt, .mram, .freeCtr] s (slicePass s) :=
  .foldl .refl fun _ _ => .ite .refl (hrtFirmware_moves.after drawFree_moves.mono)

theorem sliceDrop_moves {s : State} {h : Nat} : Moves [.hrt] s (sliceDrop s h) :=
  Moves.refl.setHrt

theorem sliceItemEnd_moves {s : State} {core : Nat} : Moves [.regs, .hrt] s (sliceItemEnd s core) := by
  unfold sliceItemEnd
  split
  · exact .refl
  · exact hrtTrace_moves.after (bump_moves.after coreUpd_moves.mono)

theorem scanInst_moves {d : Desc} {a : State × Run} {inst : Nat} : Moves [.cyc, .freeCtr] a.1 (scanInst d a inst).1 := by
  unfold scanInst
  dsimp only
  refine .ite_fst instWrite_moves.mono (.ite_fst instWrite_moves.mono (.ite ?_ ?_))
  · exact instWrite_moves.after drawFree_moves.mono
  · exact instWrite_moves.after (instWrite_moves.after drawFree_moves.mono)

theorem dispatchTo_moves {s : State} {core : Nat} {d : Desc} : Moves [.regs, .cyc, .hrt, .freeCtr] s (dispatchTo s core d) := by
  have taken : Moves [.regs, .cyc, .hrt, .freeCtr] s (hrtTrace (bump
      { bumpMax s cHrtDispatchMaxNs (s.tmb.now - max d.enqueued (s.hrt.cores.get core).freedAt) with
        hrt := { (bumpMax s cHrtDispatchMaxNs (s.tmb.now - max d.enqueued (s.hrt.cores.get core).freedAt)).hrt with
          ready := readyDrop (bumpMax s cHrtDispatchMaxNs (s.tmb.now - max d.enqueued (s.hrt.cores.get core).freedAt)).hrt.ready d } }
      cHrtDispatched) 2 core d 0) :=
    hrtTrace_moves.after (bump_moves.after (.setHrt bumpMax_moves.mono))
  exact coreUpd_moves.after (.ite_fst (.foldl_fst taken fun _ _ => scanInst_moves.mono) taken)

theorem execItemDispatch_next {s : State} {core t : Nat} : Next (mayChange (.itemDispatch core t)) s (execItemDispatch core t s) :=
  .ite (.ok (slicePass_moves.after advance_moves.mono)) (by
    split
    · exact .ok (slicePass_moves.after advance_moves.mono)
    · exact .ok (dispatchTo_moves.after (slicePass_moves.after advance_moves.mono)))

theorem execItemCreditRelease_next {s : State} {src : Nat} : Next (mayChange (.itemCreditRelease src)) s (execItemCreditRelease src s) := by
  unfold execItemCreditRelease
  split
  · exact .ok .refl
  · exact .ite (.ok .refl) (.ok (hrtTrace_moves.after (readyPush_moves.after Moves.refl.setHrt)))

theorem itemEnded_moves {s : State} {d : Desc} {status : Nat} :
    Moves [.regs, .hif, .recd, .cyc, .hrt, .ile, .stn, .seq, .wlk, .par, .mram, .hdl, .out] s (itemEnded s d status) :=
  .ite cycItemDone_moves.mono (.ite seqItemDone_moves.mono (.ite cmdUpd_moves.mono .refl))

theorem itemFail_moves {s : State} {core : Nat} {d : Desc} {status : Status} : Moves [.regs, .hrt] s (itemFail s core d status) :=
  hrtTrace_moves.after (bump_moves.after coreUpd_moves.mono)

theorem itemFaulted_moves {s : State} {core : Nat} {r : Run} {cause : Nat} {status : Status} :
    Moves [.regs, .hif, .recd, .cyc, .hrt, .ile, .stn, .seq, .wlk, .par, .mram, .hdl, .out] s (itemFaulted s core r cause status) :=
  itemEnded_moves.after (.ite (itemFaultNote_moves.after itemFail_moves.mono) itemFail_moves.mono)

theorem applyEffect_moves {s : State} {e : Effect} :
    Moves [.regs, .tmb, .hif, .recd, .anv, .cap, .fbk, .mot, .can, .wlk, .par, .mram, .out, .freeCtr] s (applyEffect s e) := by
  unfold applyEffect
  split
  · exact lqEnter_moves.mono
  · exact eventStaged_moves.mono
  · exact recArrive_moves.mono
  · exact loopModeReq_moves.mono
  · exact axisMoveReq_moves.mono
  · exact .refl

theorem commitWrite_moves {s : State} {w : PWrite} : Moves [.regs, .pst, .hif, .recd, .cap, .wlk, .mram, .out] s (commitWrite s w) :=
  .ite (bump_moves.after writePoint_moves) writePoint_moves

theorem carryOut_moves {s : State} {l : List Effect} :
    Moves [.regs, .tmb, .pst, .hif, .recd, .anv, .cap, .fbk, .mot, .can, .wlk, .par, .mram, .out, .freeCtr] s (carryOut s l) :=
  .foldl (.foldl (.foldl (.foldl .refl fun _ _ => commitWrite_moves.mono) fun _ _ => applyEffect_moves.mono) fun _ _ => applyEffect_moves.mono) fun
      _ _ => applyEffect_moves.mono

theorem itemCommitEnd_moves {s : State} {t : Nat} :
    Moves [.regs, .tmb, .pst, .hif, .recd, .cyc, .hrt, .ile, .anv, .cap, .fbk, .mot, .stn, .seq, .can, .wlk, .par, .mram, .hdl, .out, .freeCtr] s
    (itemCommitEnd t s) := by
  unfold itemCommitEnd
  dsimp only
  split
  · exact .refl
  · exact itemEnded_moves.after (.ite (itemFaultNote_moves.after (hrtTrace_moves.after
        (bump_moves.after (bumpN_moves.after (.ite (.foldl (carryOut_moves.after
        (.ite (mirrorSend_moves.after (.setHrtPar advance_moves.mono)) (.setHrtPar advance_moves.mono)))
        fun _ _ => digPoint_moves.mono)
        (carryOut_moves.after (.ite (mirrorSend_moves.after (.setHrtPar advance_moves.mono)) (.setHrtPar advance_moves.mono))))))))
        (hrtTrace_moves.after (bump_moves.after (bumpN_moves.after (.ite
        (.foldl (carryOut_moves.after (.ite (mirrorSend_moves.after (.setHrtPar advance_moves.mono)) (.setHrtPar advance_moves.mono)))
        fun _ _ => digPoint_moves.mono)
        (carryOut_moves.after (.ite (mirrorSend_moves.after (.setHrtPar advance_moves.mono)) (.setHrtPar advance_moves.mono))))))))

theorem execItemCommitEnd_next {s : State} {t : Nat} : Next (mayChange (.itemCommitEnd t)) s (execItemCommitEnd t s) :=
  .ok itemCommitEnd_moves.mono

theorem itemDone_moves {s : State} {core : Nat} {r : Run} {status : Nat} :
    Moves [.regs, .hif, .recd, .cyc, .hrt, .ile, .stn, .seq, .wlk, .par, .mram, .hdl, .out] s (itemDone s core r status) :=
  .ite (itemFaulted_moves.after (.ite (bump_moves.after (.ite (bump_moves.after bump_moves.mono) .refl))
      (.ite (bump_moves.after bump_moves.mono) .refl))) (coreUpd_moves.after Moves.refl.setHrt)

theorem itemLimitTimeout_moves {s : State} {core : Nat} :
    Moves [.regs, .tmb, .hif, .recd, .cyc, .hrt, .ile, .stn, .seq, .wlk, .par, .mram, .hdl, .out] s (itemLimitTimeout core s) := by
  unfold itemLimitTimeout
  split
  · exact .refl
  · exact itemFaulted_moves.after (bump_moves.after advance_moves.mono)

theorem rvApply_moves {s : State} {r : Run} {p : RvRun} : Moves [.cyc] s (rvApply s r p).1 :=
  .foldl .refl fun _ _ => instWrite_moves

theorem customInsn_moves {l : List Part} {core : Nat} {w : Word} {p : RvRun} {f3 : Nat} {z : Nat → Bool} {s : State}
    {k : State → Run → BitVec 64 → BitVec 64 → State} (hk : ∀ u r x y, Moves l u (k u r x y))
    (hl : [.regs, .hif, .recd, .cyc, .hrt, .ile, .stn, .seq, .wlk, .par, .mram, .hdl, .out] ⊆ l := by exact Part.subset_of_within rfl) :
    Moves l s (customInsn core w p f3 z s k) := by
  unfold customInsn
  split
  · exact .refl
  · next r _ =>
    have applied : Moves [.regs, .hif, .recd, .cyc, .hrt, .ile, .stn, .seq, .wlk, .par, .mram, .hdl, .out] s
        (coreUpd (rvApply s r p).1 core fun k => { k with run := some (rvApply s r p).2 }) := coreUpd_moves.after rvApply_moves.mono
    exact .ite .refl (.ite (.sub (itemFaulted_moves.after applied) hl) (.trans (.sub applied hl) (hk _ _ _ _)))

theorem runPut_moves {s : State} {core : Nat} {r : Run} : Moves [.hrt] s (runPut s core r) :=
  coreUpd_moves

theorem precK_moves {s : State} {core : Nat} {w : Word} {r : Run} {a b : BitVec 64} :
    Moves [.regs, .hif, .recd, .cyc, .hrt, .ile, .stn, .seq, .wlk, .par, .mram, .hdl, .out] s (precK core w s r a b) :=
  .ite itemFaulted_moves (.ite itemFaulted_moves (.ite runPut_moves.mono (.ite (by
    split
    · exact runPut_moves.mono
    · exact runPut_moves.mono) runPut_moves.mono)))

theorem execPrec_next {s : State} {core : Nat} {w : Word} {p : RvRun} : Next (mayChange (.prec core w p)) s (execPrec core w p s) :=
  .ok (customInsn_moves (fun _ _ _ _ => precK_moves.mono))

theorem execPlv_next {s : State} {core : Nat} {w : Word} {p : RvRun} : Next (mayChange (.plv core w p)) s (execPlv core w p s) :=
  .ok (customInsn_moves (fun _ _ _ _ => runPut_moves.mono))

theorem stageRd_moves {s : State} {core : Nat} {w : Word} {r : Run} {e : Effect} : Moves [.hrt] s (stageRd s core w r e) :=
  runPut_moves

theorem execPst_next {s : State} {core : Nat} {w : Word} {p : RvRun} : Next (mayChange (.pst core w p)) s (execPst core w p s) :=
  .ok (customInsn_moves (fun _ _ _ _ => stageRd_moves.mono))

theorem execStampset_next {s : State} {core : Nat} {w : Word} {p : RvRun} : Next (mayChange (.stampset core w p)) s (execStampset core w p s) :=
  .ok (customInsn_moves (fun _ _ _ _ => runPut_moves.mono))

theorem execTrd_next {s : State} {core : Nat} {w : Word} {p : RvRun} : Next (mayChange (.trd core w p)) s (execTrd core w p s) :=
  .ok (customInsn_moves (fun _ _ _ _ => runPut_moves.mono))

theorem lreqK_moves {s : State} {core : Nat} {w : Word} {r : Run} {a b : BitVec 64} : Moves [.hrt] s (lreqK core w s r a b) :=
  .ite runPut_moves (by
    split
    · exact runPut_moves
    · exact .ite runPut_moves (.ite runPut_moves stageRd_moves))

theorem execLreq_next {s : State} {core : Nat} {w : Word} {p : RvRun} : Next (mayChange (.lreq core w p)) s (execLreq core w p s) :=
  .ok (customInsn_moves (fun _ _ _ _ => lreqK_moves.mono))

theorem wdone_moves {s : State} {core t : Nat} {w : Word} {p : RvRun} :
    Moves [.regs, .tmb, .hif, .recd, .cyc, .hrt, .ile, .stn, .seq, .wlk, .par, .mram, .hdl, .out] s (wdone core t w p s) := by
  unfold wdone
  dsimp only
  split
  · exact advance_moves.mono
  · exact .ite (.ite advance_moves.mono (itemDone_moves.after advance_moves.mono))
        (Moves.trans advance_moves.mono (customInsn_moves (fun _ _ _ _ => itemDone_moves.mono)))

theorem execWdone_next {s : State} {core t : Nat} {w : Word} {p : RvRun} : Next (mayChange (.wdone core t w p)) s (execWdone core t w p s) :=
  .ok wdone_moves.mono

theorem execEvt_next {s : State} {core : Nat} {w : Word} {p : RvRun} : Next (mayChange (.evt core w p)) s (execEvt core w p s) :=
  .ok (customInsn_moves (fun _ _ _ _ => .ite (runPut_moves.after drawFree_moves.mono) stageRd_moves.mono))

theorem execItemFault_next {s : State} {core t cause : Nat} {p : RvRun} :
    Next (mayChange (.itemFault core t cause p)) s (execItemFault core t cause p s) := by
  unfold execItemFault
  dsimp only
  split
  · exact .ok advance_moves.mono
  · exact .ite (.ok advance_moves.mono) (.ok (itemFaulted_moves.after (runPut_moves.after (rvApply_moves.after advance_moves.mono))))

theorem retireCore_moves {s : State} {core src ref outcome : Nat} : Moves [.regs, .recd, .hrt, .mram] s (retireCore s core src ref outcome) :=
  .ite (cycEvent_moves.after (hrtEvent_moves.after (bump_moves.after (.setHrt coreUpd_moves.mono))))
      (hrtEvent_moves.after (bump_moves.after (.setHrt coreUpd_moves.mono)))

theorem undoRun_moves {s : State} {r : Run} : Moves [.regs, .cyc] s (undoRun s r) :=
  bumpN_moves.after (.foldl .refl fun _ _ => instWrite_moves.mono)

theorem corePairMismatch_moves {s : State} {core t : Nat} :
    Moves [.regs, .tmb, .hif, .recd, .cyc, .hrt, .ile, .stn, .seq, .wlk, .par, .mram, .hdl, .out] s (corePairMismatch core t s) :=
  .ite advance_moves.mono (by
    split
    · exact hrtTrace_moves.after (by
        split
        · exact retireCore_moves.after advance_moves.mono
        · exact retireCore_moves.after advance_moves.mono)
    · exact .ite (itemEnded_moves.after (hrtTrace_moves.after (hrtEvent_moves.after
          (bump_moves.after (bump_moves.after (hrtTrace_moves.after (retireCore_moves.after (undoRun_moves.after advance_moves.mono))))))))
          (hrtTrace_moves.after (hrtEvent_moves.after (bump_moves.after
          (.setHrt (hrtTrace_moves.after (retireCore_moves.after (undoRun_moves.after advance_moves.mono))))))))

end Sys2Proof.Machine
end

section
/-! What the functions of the Cycle Engine commands may change. -/
set_option Elab.async false
namespace Sys2Proof.Machine
open Sys2Proof

theorem cycBegin_moves {s : State} {slot from' : Nat} {cmd : Option Nat} {auto : Bool} :
    Moves [.regs, .pst, .recd, .cyc, .ile, .wlk, .mram, .hdl, .out] s (cycBegin s slot from' cmd auto) :=
  ileProgramStarted_moves.after (.ite (bootProgram_moves.after (statusChanged_moves.after (cycEvent_moves.after (.setCyc (by
    split
    · exact ileRefsNote_moves.after mapIntoForce_moves.mono
    · exact .refl) (fun h => { h with classes := SMap.wf_foldl (fun _ _ hm => SMap.wf_set _ _ _ hm) SMap.wf_empty })))))
          (statusChanged_moves.after (cycEvent_moves.after (.setCyc (by
    split
    · exact ileRefsNote_moves.after mapIntoForce_moves.mono
    · exact .refl) (fun h => { h with classes := SMap.wf_foldl (fun _ _ hm => SMap.wf_set _ _ _ hm) SMap.wf_empty })))))

theorem programStart_moves {s : State} {c : Cmd} : Moves [.regs, .pst, .hif, .recd, .cyc, .ile, .wlk, .mram, .hdl, .out] s (programStart s c) :=
  .ite endCmd_moves.mono (.ite endCmd_moves.mono (by
    split
    · exact .ite endCmd_moves.mono cycBegin_moves.mono
    · exact endCmd_moves.mono))

theorem execProgramStart_next {s : State} {h : Nat} : Next (mayChange (.programStart h)) s (execProgramStart h s) :=
  .ok (startCmd_moves (fun _ _ => programStart_moves.mono))

theorem programStop_moves {s : State} {c : Cmd} : Moves [.regs, .hif, .recd, .cyc, .mram] s (programStop s c) :=
  .ite endCmd_moves.mono (.setCyc (.ite weldAbandon_moves .refl) (fun h => { h with classes := SMap.wf_mapV _ _ h.classes }))

theorem execProgramStop_next {s : State} {h : Nat} : Next (mayChange (.programStop h)) s (execProgramStop h s) :=
  .ok (startCmd_moves (fun _ _ => programStop_moves.mono))

theorem execCycStop_next {s : State} : Next (mayChange .cycStop) s (execCycStop s) := by
  unfold execCycStop
  split
  · exact .ok .refl
  · exact .ite (.ok (cycStop_moves.after advance_moves.mono)) (.ok .refl)

theorem execCycStart_next {s : State} {c : Nat} : Next (mayChange (.cycStart c)) s (execCycStart c s) := by
  unfold execCycStart
  split
  · exact .ok .refl
  · exact .ite (.ok .refl) (.ite (.ok (seqAutostartInstant_moves.after (.setCyc (clsUpd_moves.after advance_moves.mono))))
        (.ok (clsUpd_moves.after advance_moves.mono)))

theorem pushLatch_moves {s : State} {c t : Nat} : Moves [.cyc] s (pushLatch s c t) :=
  clsUpd_moves

theorem regrid_moves {s : State} {c : Nat} : Moves [.regs, .cyc] s (regrid s c) :=
  .ite .refl (clsUpd_moves.after (.ite bump_moves.mono .refl))

theorem latchClass_moves {s : State} {c t0 : Nat} : Moves [.regs, .hif, .recd, .cyc, .hrt, .mram] s (latchClass s c t0) := by
  unfold latchClass
  dsimp only
  split
  · exact endCmd_moves.after (.setCyc (.foldl (.setHrt (clsUpd_moves.after bumpN_moves.mono)
        (fun h => { h with counters := SMap.wf_foldl (fun _ _ hm => SMap.wf_set _ _ _ hm) h.counters })) fun _ _ => enqueueItem_moves.mono))
  · exact .foldl
        (.setHrt (clsUpd_moves.after bumpN_moves.mono)
        (fun h => { h with counters := SMap.wf_foldl (fun _ _ hm => SMap.wf_set _ _ _ hm) h.counters })) fun _ _ => enqueueItem_moves.mono

theorem weldDeferred_moves {s : State} {c : Nat} : Moves [.cyc] s (weldDeferred s c) :=
  .ite weldUpd_moves .refl

theorem weldCandidate_moves {s t : State} {c t0 : Nat} (h : weldCandidate s c t0 = some t) : Moves [.cyc] s t := by
  unfold weldCandidate at h
  dsimp only at h
  split at h
  · cases h
  · split at h <;> cases h
    exact weldUpd_moves

theorem cycLatch_moves {s : State} {c : Nat} : Moves [.regs, .tmb, .hif, .recd, .cyc, .hrt, .ile, .wlk, .par, .mram, .out] s (cycLatch c s) := by
  refine .ite .refl ?_
  dsimp only
  split
  · exact regrid_moves.mono
  · refine .ite (cycStop_moves.after (advance_moves.after regrid_moves.mono)) ?_
    split
    next t ht => exact .trans (advance_moves.after regrid_moves.mono) (weldCandidate_moves ht).mono
    · exact .ite (watchCycle_moves.after (weldTrigger_moves.after (cycEvent_moves.after
          (bump_moves.after (pushLatch_moves.after (clsUpd_moves.after (weldDeferred_moves.after (advance_moves.after regrid_moves.mono))))))))
          (latchClass_moves.after (pushLatch_moves.after (clsUpd_moves.after (weldDeferred_moves.after (advance_moves.after regrid_moves.mono)))))

theorem execCycLatch_next {s : State} {c : Nat} : Next (mayChange (.cycLatch c)) s (execCycLatch c s) :=
  .ok cycLatch_moves.mono

theorem cycDeadline_moves {s : State} {c : Nat} : Moves [.regs, .tmb, .hif, .recd, .cyc, .ile, .wlk, .par, .mram, .out] s (cycDeadline c s) := by
  unfold cycDeadline
  dsimp only
  split
  · exact .refl
  · exact .ite (clsUpd_moves.after advance_moves.mono) (.ite (watchCycle_moves.after
        (weldTrigger_moves.after (cycEvent_moves.after (bump_moves.after (clsUpd_moves.after (clsUpd_moves.after advance_moves.mono))))))
        (weldTrigger_moves.after (cycEvent_moves.after (bump_moves.after (clsUpd_moves.after (clsUpd_moves.after advance_moves.mono))))))

theorem execCycDeadline_next {s : State} {c : Nat} : Next (mayChange (.cycDeadline c)) s (execCycDeadline c s) :=
  .ok cycDeadline_moves.mono

end Sys2Proof.Machine
end

section
/-! What the functions of the Interlock Engine may change. -/
set_option Elab.async false
namespace Sys2Proof.Machine
open Sys2Proof

theorem ileLatch_moves {s : State} {m : IleImage} {at' : Nat} : Moves [.regs, .ile] s (ileLatch s m at').1 :=
  .setIle bumpN_moves.mono (fun h => { h with compares := SMap.wf_foldl (fun _ _ hm => SMap.wf_set _ _ _ hm) SMap.wf_empty })

theorem ileSeed_moves {s : State} {m : IleImage} {img : SMap Bool} : Moves [.ile] s (ileSeed s m img) :=
  Moves.refl.setIle fun h =>
      { h with outs := SMap.wf_foldl (fun _ _ hm => SMap.wf_set _ _ _ hm) h.outs, fbOuts := SMap.wf_foldl (fun _ _ hm => SMap.wf_set _ _ _ hm)
                 h.fbOuts }

theorem ileWrite_moves {s : State} {fb all : Bool} {m : IleImage} {at' id : Nat} :
    Moves [.regs, .pst, .hif, .recd, .ile, .cap, .wlk, .mram, .out] s (ileWrite fb all m at' s id) :=
  .ite .refl (.ite .refl (.ite (.setIle (bump_moves.after writePoint_moves.mono)
      (fun h => { h with fbOuts := SMap.wf_set _ _ _ h.fbOuts }))
      (.setIle (bump_moves.after writePoint_moves.mono) (fun h => { h with outs := SMap.wf_set _ _ _ h.outs }))))

theorem ileFrames_moves {s : State} {l : List Nat} {inst : Nat} {late : Bool} :
    Moves [.regs, .recd, .stn, .par, .mram, .out] s (ileFrames l inst late s) :=
  .foldl .refl fun _ _ => stnOutput_moves

theorem fallbackExit_moves {s : State} : Moves [.regs, .recd, .ile, .mram] s (fallbackExit s) :=
  ileEvent_moves.after Moves.refl.setIle

theorem ileStore_canon {fb live : Bool} {gone : Nat → Bool} {r : IleRun} {id : Nat} {v : Bool} (h : r.ile.canon) :
    (ileStore fb live gone r id v).ile.canon := by
  cases fb
  · have stored : IleTables r.ile.markers r.ile.timers r.ile.edges r.ile.alarms r.ile.compares
        (r.ile.outs.upd id fun o => { o with bit := v }) r.ile.fbOuts := { h with outs := SMap.wf_upd _ _ _ h.outs }
    unfold ileStore
    split
    · exact h
    · exact stored
  · have stored : IleTables r.ile.markers r.ile.timers r.ile.edges r.ile.alarms r.ile.compares
        r.ile.outs (r.ile.fbOuts.upd id fun o => { o with bit := v }) := { h with fbOuts := SMap.wf_upd _ _ _ h.fbOuts }
    unfold ileStore
    split
    · exact h
    · cases live <;> exact stored

theorem ileInsn_canon {tc : Nat} {presets : List Nat} {okBit gone : Nat → Bool} {live : Bool} {a : IleRun × Bool} {w : Nat} (h : a.1.ile.canon) :
    (ileInsn tc presets okBit live gone a w).1.ile.canon := by
  obtain ⟨r, fb⟩ := a
  have marked {x : Nat} {v : Bool} : IleTables (r.ile.markers.set x v) r.ile.timers r.ile.edges r.ile.alarms r.ile.compares r.ile.outs
      r.ile.fbOuts :=
    { h with markers := SMap.wf_set _ _ _ h.markers }
  have edged {x : Nat} {v : Option Bool} : IleTables r.ile.markers r.ile.timers (r.ile.edges.set x v) r.ile.alarms r.ile.compares r.ile.outs
      r.ile.fbOuts :=
    { h with edges := SMap.wf_set _ _ _ h.edges }
  have timed {x : Nat} {v : IleTimer} : IleTables r.ile.markers (r.ile.timers.set x v) r.ile.edges r.ile.alarms r.ile.compares r.ile.outs
      r.ile.fbOuts :=
    { h with timers := SMap.wf_set _ _ _ h.timers }
  have alarmed {x : Nat} {v : Bool} : IleTables r.ile.markers r.ile.timers r.ile.edges (r.ile.alarms.set x v) r.ile.compares r.ile.outs
      r.ile.fbOuts :=
    { h with alarms := SMap.wf_set _ _ _ h.alarms }
  have branch {c : Prop} [Decidable c] {p q : IleRun × Bool} (hp : p.1.ile.canon) (hq : q.1.ile.canon) : (if c then p else q).1.ile.canon := by
    split
    · exact hp
    · exact hq
  unfold ileInsn
  refine branch h (branch h (branch h (branch h ?_)))
  split
  · exact h
  · exact h
  · exact h
  · exact h
  · exact h
  · exact h
  · split
    · exact h
    · exact h
  · exact ileStore_canon h
  · exact ileStore_canon h
  · exact branch (ileStore_canon h) h
  · exact branch (ileStore_canon h) h
  · exact marked
  · exact branch marked h
  · exact branch marked h
  · exact timed
  · exact timed
  · exact timed
  · exact edged
  · exact edged
  · exact branch h alarmed
  · exact h
  · exact h

theorem ileRun_canon {tc : Nat} {presets : List Nat} {okBit gone : Nat → Bool} {live : Bool} {img : SMap Bool} {i : Ile} {code : List Nat}
    (h : i.canon) : (code.foldl (ileInsn tc presets okBit live gone) (⟨false, [], img, i, [], []⟩, false)).1.ile.canon :=
  List.foldlRecOn code (ileInsn tc presets okBit live gone) (motive := fun a => a.1.ile.canon) h fun _ hb _ _ => ileInsn_canon hb

theorem ileScanAt_moves {s : State} {at' dur : Nat} {late : Bool} :
    Moves [.regs, .tmb, .pst, .hif, .recd, .ile, .cap, .stn, .wlk, .par, .mram, .out] s (ileScanAt at' dur late s) := by
  unfold ileScanAt
  split
  · exact .refl
  · refine bumpMax_moves.after (bump_moves.after (digEnd_moves.after (.iteThen ileFrames_moves.mono (ileFrames_moves.after
      (.foldl ?_ fun _ _ => .iteThen digPoint_moves.mono .refl)))))
    refine .iteThen advance_moves.mono (.foldl (.setIle (.iteThen (.foldl .refl fun _ _ => ileWrite_moves.mono)
      (.foldl (bumpN_moves.after (.setIle ?_ fun h => ?_)) fun _ _ => ileWrite_moves.mono))) fun _ _ => ileEvent_moves.mono)
    · exact .iteElse ileSeed_moves.mono (ileLatch_moves.after (.iteThen fallbackExit_moves.mono advance_moves.mono))
    · exact ileRun_canon h

theorem ileSwitch_moves {s : State} {n : IleNext} : Moves [.regs, .recd, .ile, .mram, .hdl] s (ileSwitch s n) := by
  have pended : Moves [.regs, .recd, .ile, .mram, .hdl] s
      (if n.image.persist ∧ s.hdl.boot.interlock ≠ some n.image then bootPend s (.interlock n.image) else s) := .iteThen bootPend_moves.mono .refl
  have same : (if n.image.persist ∧ s.hdl.boot.interlock ≠ some n.image then bootPend s (.interlock n.image) else s).ile = s.ile := by
    split <;> rfl
  unfold ileSwitch
  refine ileRefsNote_moves.after (pended.setIle fun h => ?_)
  rw [same] at h
  exact ⟨SMap.wf_filter _ _ h.markers, SMap.wf_filter _ _ h.timers, SMap.wf_filter _ _ h.edges, SMap.wf_filter _ _ h.alarms,
    SMap.wf_empty, SMap.wf_empty, SMap.wf_empty⟩

theorem ileLoadDone_moves {s : State} {n : IleNext} : Moves [.hif] s (ileLoadDone s n) := by
  unfold ileLoadDone
  split
  · exact endCmd_moves
  · exact .refl

theorem ileSettle_moves {s : State} : Moves [.ile] s (ileSettle s) := by
  unfold ileSettle
  split
  · exact Moves.refl.setIle
  · exact .refl

theorem ileScanNext_moves {s : State} {dur : Nat} {late : Bool} :
    Moves [.regs, .tmb, .pst, .hif, .recd, .ile, .cap, .stn, .wlk, .par, .mram, .hdl, .out] s (ileScanNext dur late s) :=
  .ite .refl (by
    dsimp only
    split
    · exact .ite (ileLoadDone_moves.after (ileSettle_moves.after (ileScanAt_moves.after ileSwitch_moves.mono))) (by
        split
        · exact ileSettle_moves.after ileScanAt_moves.mono
        · exact .refl)
    · split
      · exact ileSettle_moves.after ileScanAt_moves.mono
      · exact .refl)

theorem execIleScan_next {s : State} {dur : Nat} : Next (mayChange (.ileScan dur)) s (execIleScan dur s) :=
  .ok ileScanNext_moves.mono

theorem ileScanLate_moves {s : State} {dur : Nat} :
    Moves [.regs, .tmb, .pst, .hif, .recd, .ile, .cap, .stn, .wlk, .par, .mram, .hdl, .out] s (ileScanLate dur s) :=
  .ite .refl (.setIle (ileEvent_moves.after (bump_moves.after ileScanNext_moves)))

theorem execIleScanLate_next {s : State} {dur : Nat} : Next (mayChange (.ileScanLate dur)) s (execIleScanLate dur s) :=
  .ok ileScanLate_moves.mono

theorem execIleFault_next {s : State} {t insn : Nat} : Next (mayChange (.ileFault t insn)) s (execIleFault t insn s) :=
  .ite (.ok .refl) (.ok (pairGiveUp_moves.after (ileEvent_moves.after (assertFault_moves.after (.setIle (by
    split
    · split
      · exact endCmd_moves.after advance_moves.mono
      · exact advance_moves.mono
    · exact advance_moves.mono))))))

theorem fbEnd_moves {s : State} : Moves [.ile] s (fbEnd s) :=
  .ite Moves.refl.setIle .refl

theorem execFbEnd_next {s : State} : Next (mayChange .fbEnd) s (execFbEnd s) :=
  regCmd_next (fun _ => fbEnd_moves.mono)

theorem ileLoad_moves {s : State} {h : Nat} {b : Bytes} : Moves [.regs, .hif, .recd, .ile, .mram] s (ileLoad s h b) := by
  unfold ileLoad
  split
  · exact endCmd_moves.after ileEvent_moves.mono
  · exact ileEvent_moves.after Moves.refl.setIle

end Sys2Proof.Machine
end

section
/-! What the functions of the recipe commands may change. -/
set_option Elab.async false
namespace Sys2Proof.Machine
open Sys2Proof

theorem recipeLoad_moves {s : State} {x : Nat} {b : Bytes} : Moves [.regs, .recd, .seq, .mram, .aon] s (recipeLoad s x b).1 := by
  unfold recipeLoad
  split
  · exact event_moves.after seqUpd_moves.mono
  · exact seqEvent_moves.after (checkpoint_moves.after (.setMram seqUpd_moves.mono (fun h => { h with recipes := SMap.wf_set _ _ _ h.recipes })))

theorem recipeStart_moves {s : State} {c : Cmd} : Moves [.regs, .hif, .recd, .hrt, .seq, .wlk, .mram, .out] s (recipeStart s c) :=
  .ite seqEnd_moves.mono (.ite seqEnd_moves.mono seqDecide_moves.mono)

theorem execRecipeStart_next {s : State} {h : Nat} : Next (mayChange (.recipeStart h)) s (execRecipeStart h s) :=
  .ok (startCmd_moves (fun _ _ => recipeStart_moves.mono))

theorem recipeHold_moves {s : State} {c : Cmd} : Moves [.hif, .seq] s (recipeHold s c) :=
  .ite seqEnd_moves (by
    split
    · exact seqEnd_moves
    · exact .ite seqEnd_moves seqUpd_moves.mono
    · exact seqEnd_moves)

theorem execRecipeHold_next {s : State} {h : Nat} : Next (mayChange (.recipeHold h)) s (execRecipeHold h s) :=
  .ok (startCmd_moves (fun _ _ => recipeHold_moves.mono))

theorem recipeRelease_moves {s : State} {c : Cmd} : Moves [.regs, .hif, .recd, .hrt, .seq, .wlk, .mram, .out] s (recipeRelease s c) :=
  .ite seqEnd_moves.mono (by
    split
    · exact .ite seqEnd_moves.mono (.ite seqEnd_moves.mono decideNormal_moves.mono)
    · exact .ite seqEnd_moves.mono (.ite (seqEnd_moves.after bump_moves.mono) seqDecide_moves.mono)
    · exact seqEnd_moves.mono)

theorem execRecipeRelease_next {s : State} {h : Nat} : Next (mayChange (.recipeRelease h)) s (execRecipeRelease h s) :=
  .ok (startCmd_moves (fun _ _ => recipeRelease_moves.mono))

theorem recipeAbort_moves {s : State} {c : Cmd} : Moves [.regs, .hif, .recd, .hrt, .seq, .wlk, .mram, .out] s (recipeAbort s c) :=
  .ite seqEnd_moves.mono (by
    split
    · exact abortAt_moves.mono
    · exact abortAt_moves.mono
    · exact abortAt_moves.mono
    · exact seqEnd_moves.mono)

theorem execRecipeAbort_next {s : State} {h : Nat} : Next (mayChange (.recipeAbort h)) s (execRecipeAbort h s) :=
  .ok (startCmd_moves (fun _ _ => recipeAbort_moves.mono))

theorem execRecipeResume_next {s : State} {h : Nat} : Next (mayChange (.recipeResume h)) s (execRecipeResume h s) :=
  .ok (startCmd_moves (fun _ _ => seqResume_moves.mono))

theorem execRecipeAutoResume_next {s : State} {t : Nat} : Next (mayChange (.recipeAutoResume t)) s (execRecipeAutoResume t s) :=
  .ite (.ok seqAutostartInstant_moves.mono) (.ok .refl)

theorem endRamps_moves {s : State} {x t : Nat} : Moves [.regs, .pst, .hif, .recd, .cap, .seq, .wlk, .mram, .out] s (endRamps s x t) :=
  .ite (.foldl seqUpd_moves.mono fun _ _ => rampWrite_moves) seqUpd_moves.mono

theorem boundaryEnter_moves {s : State} {x n t fails : Nat} {b : Bnd} :
    Moves [.regs, .tmb, .pst, .hif, .recd, .hrt, .cap, .mot, .seq, .wlk, .par, .mram, .aon, .out, .freeCtr] s (boundaryEnter s x n t fails b) :=
  planStep_moves.after (seqEnd_moves.after (.ite (seqEvent_moves.after
      (bump_moves.after (checkpoint_moves.after (.ite resumeRemaining_moves.mono enterStep_moves.mono))))
      (.ite (seqEvent_moves.after (checkpoint_moves.after (.ite resumeRemaining_moves.mono enterStep_moves.mono)))
      (.ite (seqEvent_moves.after (checkpoint_moves.after (.ite resumeRemaining_moves.mono enterStep_moves.mono)))
      (checkpoint_moves.after (.ite resumeRemaining_moves.mono enterStep_moves.mono))))))

theorem seqBoundary_moves {s : State} {x fails : Nat} :
    Moves [.regs, .tmb, .pst, .hif, .recd, .hrt, .cap, .mot, .seq, .wlk, .par, .mram, .aon, .out, .freeCtr] s (seqBoundary x fails s) := by
  unfold seqBoundary
  dsimp only
  split
  · exact .refl
  · split
    · exact .refl
    · exact .ite .refl (.ite (launches_moves.after advance_moves.mono) (by
        split
        · exact seqFinish_moves.after (seqUpd_moves.after (.iteThen (cancelOffsets_moves.after endRamps_moves.mono)
              (bump_moves.after (.iteThen (seqEvent_moves.after bump_moves.mono) (launches_moves.after advance_moves.mono)))))
        · split
          · exact .ite (seqEnd_moves.after (seqEnd_moves.after (seqEvent_moves.after
                (checkpoint_moves.after (seqUpd_moves.after (bump_moves.after
                (seqUpd_moves.after (.iteThen (cancelOffsets_moves.after endRamps_moves.mono)
                (bump_moves.after (.iteThen (seqEvent_moves.after bump_moves.mono) (launches_moves.after advance_moves.mono)))))))))))
                (boundaryEnter_moves.after (seqUpd_moves.after (.iteThen (cancelOffsets_moves.after endRamps_moves.mono)
                (bump_moves.after (.iteThen (seqEvent_moves.after bump_moves.mono) (launches_moves.after advance_moves.mono))))))
          · exact boundaryEnter_moves.after (seqUpd_moves.after (.iteThen (cancelOffsets_moves.after endRamps_moves.mono)
                (bump_moves.after (.iteThen (seqEvent_moves.after bump_moves.mono) (launches_moves.after advance_moves.mono)))))))

theorem execBoundary_next {s : State} {x fails : Nat} : Next (mayChange (.boundary x fails)) s (execBoundary x fails s) :=
  .ok seqBoundary_moves.mono

theorem execOffset_next {s : State} {x : Nat} : Next (mayChange (.offset x)) s (execOffset x s) := by
  unfold execOffset
  dsimp only
  split
  · exact .ok .refl
  · exact .ite (.ok .refl) (.ok (.ite (runGroup_moves.after (seqUpd_moves.after (launches_moves.after advance_moves.mono)))
        (seqUpd_moves.after (launches_moves.after advance_moves.mono))))

theorem execRampTick_next {s : State} {x rid : Nat} : Next (mayChange (.rampTick x rid)) s (execRampTick x rid s) := by
  unfold execRampTick
  split
  · exact .ok .refl
  · exact .ok (rampTick_moves.after advance_moves.mono)

theorem execRecipeAbortInstant_next {s : State} {x fails : Nat} :
    Next (mayChange (.recipeAbortInstant x fails)) s (execRecipeAbortInstant x fails s) := by
  unfold execRecipeAbortInstant
  dsimp only
  split
  · exact .ok .refl
  · split
    · exact .ok (seqEnd_moves.after (seqFinish_moves.after (bump_moves.after
          (seqUpd_moves.after (cancelOffsets_moves.after (dropCmds_moves.after advance_moves.mono))))))
    · exact .ok (seqUpd_moves.after (bump_moves.after (seqUpd_moves.after (cancelOffsets_moves.after (dropCmds_moves.after advance_moves.mono)))))

theorem execConditionEvaluation_next {s : State} {x : Nat} : Next (mayChange (.conditionEvaluation x)) s (execConditionEvaluation x s) :=
  .ite (.ok .refl) (by
    dsimp only
    split
    · exact .ok (bump_moves.after (seqUpd_moves.after (seqUpd_moves.after advance_moves.mono)))
    · exact .ite (.ok (decideNormal_moves.after (seqUpd_moves.after (seqUpd_moves.after advance_moves.mono))))
          (.ok (seqUpd_moves.after (seqUpd_moves.after advance_moves.mono))))

theorem execStepMaxTimeout_next {s : State} {x : Nat} : Next (mayChange (.stepMaxTimeout x)) s (execStepMaxTimeout x s) :=
  .ite (.ok .refl) (.ite (.ok (seqDecide_moves.after (seqEvent_moves.after advance_moves.mono)))
      (.ite (.ok (seqDecide_moves.after (seqEvent_moves.after advance_moves.mono)))
      (.ok (abortAt_moves.after (seqEvent_moves.after advance_moves.mono)))))

theorem execResumePrecheck_next {s : State} {x : Nat} : Next (mayChange (.resumePrecheck x)) s (execResumePrecheck x s) := by
  unfold execResumePrecheck
  dsimp only
  split
  · exact .ok .refl
  · exact .ite (.ok .refl) (.ite (.ok (seqUpd_moves.after advance_moves.mono))
        (.ok (seqEnd_moves.after (bump_moves.after (seqUpd_moves.after advance_moves.mono)))))

theorem modulesLost_moves {s : State} {x : Nat} {l : List Nat} : Moves [.regs, .recd, .mram] s (modulesLost s x l) :=
  .foldl .refl fun _ _ => seqEvent_moves.after bump_moves.mono

theorem execLaunchAckTimeout_next {s : State} {x : Nat} : Next (mayChange (.launchAckTimeout x)) s (execLaunchAckTimeout x s) := by
  unfold execLaunchAckTimeout
  dsimp only
  split
  · exact .ite (.ok .refl) (.ite (.ok (abortAt_moves.after (modulesLost_moves.after (seqUpd_moves.after advance_moves.mono))))
        (.ok (modulesLost_moves.after (seqUpd_moves.after advance_moves.mono))))
  · exact .ite (.ok .refl) (.ok (modulesLost_moves.after (seqUpd_moves.after advance_moves.mono)))
  · exact .ok .refl

theorem launchAck_moves {s : State} {src x bseq : Nat} {accept : Bool} : Moves [.regs, .wlk, .out] s (launchAck s src x bseq accept) :=
  waligAll_moves

theorem boundaryRx_moves {s : State} {src : Nat} {b : Bytes} : Moves [.regs, .recd, .hrt, .seq, .wlk, .mram, .out] s (boundaryRx s src b) :=
  .ite .refl (launchAck_moves.after (seqDecide_moves.after (.ite .refl (seqEvent_moves.after bump_moves.mono))))

theorem execLaunchBoundaryRx_next {s : State} {p : Nat} {b : Bytes} {t : Nat} :
    Next (mayChange (.launchBoundaryRx p b t)) s (execLaunchBoundaryRx p b t s) :=
  .ok (pairRx_moves (fun _ _ _ => boundaryRx_moves.mono))

theorem launchAckRx_moves {s : State} {src : Nat} {b : Bytes} : Moves [.hif, .seq] s (launchAckRx s src b) :=
  .ite .refl (.ite seqUpd_moves.mono (by
    dsimp only
    split
    · exact seqEnd_moves.after seqUpd_moves.mono
    · exact seqUpd_moves.mono))

theorem execLaunchAckRx_next {s : State} {p : Nat} {b : Bytes} {t : Nat} : Next (mayChange (.launchAckRx p b t)) s (execLaunchAckRx p b t s) :=
  .ok (pairRx_moves (fun _ _ _ => launchAckRx_moves.mono))

theorem resumeRx_moves {s : State} {src : Nat} {b : Bytes} : Moves [.regs, .recd, .hrt, .seq, .wlk, .mram, .out] s (resumeRx s src b) :=
  .ite .refl (.ite launchAck_moves.mono (by
    split
    · exact .ite (launchAck_moves.after resumeAt_moves) launchAck_moves.mono
    · exact launchAck_moves.mono))

theorem execLaunchResumeRx_next {s : State} {p : Nat} {b : Bytes} {t : Nat} :
    Next (mayChange (.launchResumeRx p b t)) s (execLaunchResumeRx p b t s) :=
  .ok (pairRx_moves (fun _ _ _ => resumeRx_moves.mono))

theorem seqRestore_moves {s : State} {x l : Nat} {cold : Bool} : Moves [.regs, .recd, .seq, .mram] s (seqRestore s x l cold) := by
  unfold seqRestore
  dsimp only
  split
  · exact Moves.refl.setSeq fun h => SMap.wf_set _ _ _ h
  · split
    · exact .ite (seqEvent_moves.after (Moves.refl.setSeq fun h => SMap.wf_set _ _ _ h))
          (.ite (seqEvent_moves.after (Moves.refl.setSeq fun h => SMap.wf_set _ _ _ h)) (Moves.refl.setSeq fun h => SMap.wf_set _ _ _ h))
    · exact seqEvent_moves.after (Moves.refl.setSeq fun h => SMap.wf_set _ _ _ h)

end Sys2Proof.Machine
end

section
/-! What the functions of the Walig commands may change. -/
set_option Elab.async false
namespace Sys2Proof.Machine
open Sys2Proof

theorem execWlkHeartbeatTx_next {s : State} {t : Nat} : Next (mayChange (.wlkHeartbeatTx t)) s (execWlkHeartbeatTx t s) :=
  .ok (sendAll_moves.after (.setWlk advance_moves.mono))

theorem partnerSays_moves {s : State} {st : Nat} : Moves [.par] s (partnerSays s st) :=
  .setPar (.ite parLost_moves .refl)

theorem execWlkHeartbeatRx_next {s : State} {p lane m st n t : Nat} :
    Next (mayChange (.wlkHeartbeatRx p lane m st n t)) s (execWlkHeartbeatRx p lane m st n t s) :=
  .ite (.ok .refl) (.ok (.ite (partnerSays_moves.after (.ite (wlkEvent_moves.after (wPortUpd_moves.after advance_moves.mono))
      (wPortUpd_moves.after advance_moves.mono))) (.ite (wlkEvent_moves.after (wPortUpd_moves.after advance_moves.mono))
      (wPortUpd_moves.after advance_moves.mono))))

theorem laneLost_moves {s : State} {p lane : Nat} {noLock : Bool} : Moves [.regs, .recd, .wlk, .mram] s (laneLost s p lane noLock) :=
  wlkEvent_moves.after (bump_moves.after (.ite wPortUpd_moves.mono (bump_moves.after wPortUpd_moves.mono)))

theorem trainUnlock_moves {s : State} {p lane : Nat} : Moves [.wlk] s (trainUnlock s p lane) :=
  wPortUpd_moves

theorem execWlkLaneLoss_next {s : State} {p lane : Nat} {noLock : Bool} {t : Nat} :
    Next (mayChange (.wlkLaneLoss p lane noLock t)) s (execWlkLaneLoss p lane noLock t s) :=
  .ite (.ok (trainUnlock_moves.after advance_moves.mono)) (.ite (.ok .refl) (.ok (laneLost_moves.after advance_moves.mono)))

theorem pairPortDown_moves {s : State} : Moves [.regs, .recd, .par, .mram] s (pairPortDown s) :=
  .ite (parEvent_moves.after parLost_moves.mono) (.ite (parUnsync_moves.after parEvent_moves.mono) .refl)

theorem portDown_moves {s : State} {p : Nat} : Moves [.regs, .recd, .wlk, .par, .mram] s (portDown s p) :=
  .ite (pairPortDown_moves.after (wlkEvent_moves.after (bump_moves.after wPortUpd_moves.mono)))
      (wlkEvent_moves.after (bump_moves.after wPortUpd_moves.mono))

theorem execWlkPortDown_next {s : State} {p t : Nat} : Next (mayChange (.wlkPortDown p t)) s (execWlkPortDown p t s) :=
  .ite (.ok .refl) (.ok (portDown_moves.after (bump_moves.after advance_moves.mono)))

theorem sendHello_moves {s : State} {p : Nat} : Moves [.regs, .wlk, .out] s (sendHello s p) :=
  send_moves.after (wPortUpd_moves.after (bump_moves.after (Moves.refl.setWlk fun h => { h with seq := SMap.wf_set _ _ _ h.seq })))

theorem portTrain_moves {s : State} {p : Nat} : Moves [.regs, .wlk, .out] s (portTrain s p) :=
  sendHello_moves.after wPortUpd_moves.mono

theorem execBlockLock_next {s : State} {p lane t : Nat} : Next (mayChange (.blockLock p lane t)) s (execBlockLock p lane t s) :=
  .ite (.ok .refl) (.ok (.ite (portTrain_moves.after (wPortUpd_moves.after advance_moves.mono)) (wPortUpd_moves.after advance_moves.mono)))

theorem execLinkHelloRx_next {s : State} {p : Nat} {b : Bytes} {t : Nat} : Next (mayChange (.linkHelloRx p b t)) s (execLinkHelloRx p b t s) :=
  .ite (.ok .refl) (.ite (.ok (wlkEvent_moves.after (bump_moves.after (wPortUpd_moves.after (bump_moves.after advance_moves.mono)))))
      (.ite (.ok (bump_moves.after (wPortUpd_moves.after (bump_moves.after advance_moves.mono))))
      (.ite (.ok (wlkEvent_moves.after (bump_moves.after (wPortUpd_moves.after
      (.ite (portDown_moves.after (wPortUpd_moves.after (wPortUpd_moves.after (bump_moves.after advance_moves.mono))))
      (wPortUpd_moves.after (wPortUpd_moves.after (bump_moves.after advance_moves.mono))))))))
      (.ok (wPortUpd_moves.after (wPortUpd_moves.after (wPortUpd_moves.after (bump_moves.after advance_moves.mono))))))))

theorem execWlkVersionRetry_next {s : State} {p : Nat} : Next (mayChange (.wlkVersionRetry p)) s (execWlkVersionRetry p s) := by
  unfold execWlkVersionRetry
  split
  · exact .ok .refl
  · exact .ite (.ok .refl) (.ok (portTrain_moves.after advance_moves.mono))

theorem execWlkRetrainDone_next {s : State} {p t : Nat} : Next (mayChange (.wlkRetrainDone p t)) s (execWlkRetrainDone p t s) := by
  unfold execWlkRetrainDone
  dsimp only
  split
  · exact .ok .refl
  · exact .ite (.ok .refl) (.ok (wlkEvent_moves.after (wPortUpd_moves.after advance_moves.mono)))

theorem masterChoose_moves {s : State} : Moves [.regs, .tmb, .recd, .wlk, .mram] s (masterChoose s) :=
  .ite (.ite (sourceLost_moves.after (.setTmb (.ite .refl (.setWlk (wlkEvent_moves.after bump_moves.mono)))))
      (.setTmb (.ite .refl (.setWlk (wlkEvent_moves.after bump_moves.mono))))) (.ite .refl (.setWlk (wlkEvent_moves.after bump_moves.mono)))

theorem execAnnounceTx_next {s : State} {t : Nat} : Next (mayChange (.announceTx t)) s (execAnnounceTx t s) :=
  .ite (.ok .refl) (.ok (waligAll_moves.after (masterChoose_moves.after advance_moves.mono)))

theorem numberConflict_moves {s : State} {n serial : Nat} : Moves [.regs, .recd, .wlk, .mram] s (numberConflict s n serial) :=
  .ite .refl (.ite (.setWlk (.ite .refl (wlkEvent_moves.after bump_moves.mono))) (.ite .refl (wlkEvent_moves.after bump_moves.mono)))

theorem announceTake_moves {s : State} {m : WMsg} : Moves [.regs, .tmb, .recd, .wlk, .mram] s (announceTake s m) :=
  masterChoose_moves.after (.setWlk numberConflict_moves.mono (fun h => { h with mods := SMap.wf_set _ _ _ h.mods }))

theorem execAnnounceRx_next {s : State} {p : Nat} {b : Bytes} {t : Nat} : Next (mayChange (.announceRx p b t)) s (execAnnounceRx p b t s) :=
  .ok (waligRx_moves (fun _ _ => announceTake_moves.mono))

theorem execMasterAnnounceTimeout_next {s : State} {t : Nat} : Next (mayChange (.masterAnnounceTimeout t)) s (execMasterAnnounceTimeout t s) := by
  unfold execMasterAnnounceTimeout
  split
  · exact .ok .refl
  · split
    · exact .ok .refl
    · exact .ite (.ok .refl) (.ok (masterChoose_moves.after advance_moves.mono))

theorem execSyncReqTx_next {s : State} {t1 t : Nat} : Next (mayChange (.syncReqTx t1 t)) s (execSyncReqTx t1 t s) :=
  .ite (.ok .refl) (.ok (waligAll_moves.after advance_moves.mono))

theorem execSyncReqRx_next {s : State} {p : Nat} {b : Bytes} {t2 t3 t : Nat} :
    Next (mayChange (.syncReqRx p b t2 t3 t)) s (execSyncReqRx p b t2 t3 t s) :=
  .ok (waligRx_moves (fun _ _ => .ite .refl (waligAll_moves.after Moves.refl.setWlk)))

theorem execSyncRespRx_next {s : State} {p : Nat} {b : Bytes} {t4 t : Nat} :
    Next (mayChange (.syncRespRx p b t4 t)) s (execSyncRespRx p b t4 t s) :=
  .ok (waligRx_moves (fun _ _ => .ite .refl waligAll_moves.mono))

theorem domainJoin_moves {s : State} {off : Int} {mt : MasterTime} : Moves [.regs, .tmb, .recd, .mram] s (domainJoin s off mt) :=
  openEpoch_moves.after Moves.refl.setTmb

theorem domainLock_moves {s : State} {resid : Int} : Moves [.regs, .tmb, .recd, .mram] s (domainLock s resid) :=
  .ite (tmbEvent_moves.after (.setTmb Moves.refl.setTmb)) (.ite (tmbEvent_moves.after (bump_moves.after (.setTmb Moves.refl.setTmb)))
      Moves.refl.setTmb)

theorem domainMeasure_moves {s : State} {resid : Int} {mt : MasterTime} :
    Moves [.regs, .tmb, .recd, .mram, .freeCtr] s (domainMeasure s resid mt) :=
  .ite .refl (.ite (.iteThen reselect_moves.mono (sourceSeen_moves.after Moves.refl.setTmb))
      (.ite (domainJoin_moves.after (leaveHoldover_moves.after (.iteThen reselect_moves.mono (sourceSeen_moves.after Moves.refl.setTmb))))
      (.ite (.iteThen openEpoch_moves.mono (domainLock_moves.after (leaveHoldover_moves.after
      (.iteThen reselect_moves.mono (sourceSeen_moves.after Moves.refl.setTmb)))))
      (.ite (domainJoin_moves.after (.iteThen openEpoch_moves.mono (domainLock_moves.after
      (leaveHoldover_moves.after (.iteThen reselect_moves.mono (sourceSeen_moves.after Moves.refl.setTmb))))))
      (steerBy_moves.after (shiftFree_moves.after (.iteThen openEpoch_moves.mono
      (domainLock_moves.after (leaveHoldover_moves.after (.iteThen reselect_moves.mono (sourceSeen_moves.after Moves.refl.setTmb)))))))))))

theorem execSyncDoneRx_next {s : State} {p : Nat} {b : Bytes} {mt : MasterTime} {t : Nat} :
    Next (mayChange (.syncDoneRx p b mt t)) s (execSyncDoneRx p b mt t s) :=
  .ok (waligRx_moves (fun _ _ => by
    dsimp only
    split
    · exact .refl
    · exact .ite .refl (domainMeasure_moves.after (.setWlk wPortUpd_moves.mono))))

theorem execDomainTimeLoss_next {s : State} {t : Nat} : Next (mayChange (.domainTimeLoss t)) s (execDomainTimeLoss t s) :=
  .ite (.ok .refl) (.ok (setSource_moves.after (tmbEvent_moves.after
      (bump_moves.after (.setWlk (.setTmb advance_moves.mono (fun h => { h with sources := SMap.wf_upd _ _ _ h.sources })))))))

theorem repSent_moves {s : State} {e id : Nat} : Moves [.regs, .wlk] s (repSent s e id) :=
  .setWlk (bump_moves.after bumpN_moves.mono) (fun h => { h with rep := SMap.wf_set _ _ _ h.rep })

theorem execReplicationSend_next {s : State} {e : Nat} {ids : List Nat} {t : Nat} :
    Next (mayChange (.replicationSend e ids t)) s (execReplicationSend e ids t s) :=
  .ite (.ok advance_moves.mono) (.ok (waligAll_moves.after (.foldl advance_moves.mono fun _ _ => repSent_moves.mono)))

theorem repWrite_moves {s : State} {src : Nat} {b : Bytes} : Moves [.regs, .pst, .hif, .recd, .cap, .wlk, .mram, .out] s (repWrite s src b) :=
  .ite writePoint_moves (.ite (bump_moves.after writePoint_moves) (wlkEvent_moves.after (.setWlk (bump_moves.after writePoint_moves))))

theorem repTake_moves {s : State} {src : Nat} {b : Bytes} : Moves [.regs, .pst, .hif, .recd, .cap, .wlk, .mram, .out] s (repTake s src b) :=
  .foldl .refl fun _ _ => repWrite_moves

theorem execPointRecordsRx_next {s : State} {p : Nat} {b : Bytes} {t : Nat} :
    Next (mayChange (.pointRecordsRx p b t)) s (execPointRecordsRx p b t s) :=
  .ok (pairRx_moves (fun _ _ _ => repTake_moves.mono))

theorem wlkCommitApply_moves {s : State} : Moves [.regs, .staged, .recd, .wlk, .par, .mram] s (wlkCommitApply s) :=
  .foldl (repAnew_moves.after (.setWlk (applyStaged_moves.after (.foldl .refl
      fun _ _ => .ite portDown_moves.mono wPortUpd_moves.mono)) fun h => { h with rep := SMap.wf_filter _ _ h.rep })) fun _ _ => wPortUpd_moves.mono

end Sys2Proof.Machine
end

section
/-! What the functions of pairing and state transfer may change. -/
set_option Elab.async false
namespace Sys2Proof.Machine
open Sys2Proof

theorem parStatus_moves {s a : State} : Moves [.regs, .out] s (parStatus a s) :=
  .ite statusChanged_moves .refl

theorem parToken_moves {s : State} : Moves [.stn, .mram] s (parToken s) :=
  .setStnMram .refl

theorem parControl_moves {s : State} {st : PairState} : Moves [.stn, .par, .mram] s (parControl s st) :=
  .setPar parToken_moves.mono

theorem pinsRelease_moves {s : State} : Moves [.tmb] s (pinsRelease s) :=
  Moves.refl.setTmb fun h => { h with tio := SMap.wf_mapV _ _ h.tio }

theorem parStandby_moves {s : State} : Moves [.tmb, .par] s (parStandby s) := by
  have pinsFree {t : State} : Moves [.tmb, .par] t { t with
      tmb := { t.tmb with
        tio := (List.range 128).foldl (fun m p => m.upd p fun x => { x with level := none, trailing := none }) t.tmb.tio } } :=
    Moves.refl.setTmb fun h => ⟨h.sources, SMap.wf_foldl (fun _ _ hm => SMap.wf_upd _ _ _ hm) h.tio⟩
  exact pinsFree.after Moves.refl.setPar

theorem parYield_moves {s : State} : Moves [.regs, .tmb, .recd, .par, .mram] s (parYield s) :=
  parEvent_moves.after (bump_moves.after (.setPar parStandby_moves.mono))

theorem execPairHelloTx_next {s : State} {t : Nat} : Next (mayChange (.pairHelloTx t)) s (execPairHelloTx t s) :=
  .ite (.ok .refl) (.ok (waligSend_moves.after advance_moves.mono))

theorem parRoles_moves {s : State} {ps token : Nat} : Moves [.regs, .tmb, .recd, .stn, .par, .mram] s (parRoles s ps token) :=
  .ite (parEvent_moves.after (.ite .refl (.ite (.ite Moves.refl.setPar parYield_moves.mono)
      (.ite Moves.refl.setPar (.ite (.ite .refl parStandby_moves.mono) (.ite (.ite .refl parStandby_moves.mono) parControl_moves.mono))))))
      (.ite .refl (.ite (.ite Moves.refl.setPar parYield_moves.mono)
      (.ite Moves.refl.setPar (.ite (.ite .refl parStandby_moves.mono) (.ite (.ite .refl parStandby_moves.mono) parControl_moves.mono)))))

theorem pairHello_moves {s : State} {b : Bytes} : Moves [.regs, .tmb, .recd, .stn, .par, .mram, .out] s (pairHello s b) :=
  .ite (.ite Moves.refl.setPar (parEvent_moves.after (.setPar Moves.refl.setPar)))
      (parStatus_moves.after (partnerSays_moves.after (parRoles_moves.after (.setPar Moves.refl.setPar))))

theorem execPairHelloRx_next {s : State} {b : Bytes} {t : Nat} : Next (mayChange (.pairHelloRx b t)) s (execPairHelloRx b t s) :=
  .ite (.ok .refl) (.ok (waligRx_moves (fun _ _ => pairHello_moves.mono)))

theorem execPairWaitEnd_next {s : State} : Next (mayChange .pairWaitEnd) s (execPairWaitEnd s) := by
  unfold execPairWaitEnd
  split
  · exact .ok .refl
  · exact .ok (.ite (parStatus_moves.after (parControl_moves.after advance_moves.mono)) (.setPar advance_moves.mono))

theorem mirrorRx_moves {l : List Part} {s : State} {typ : Nat} {b : Bytes} {t : Nat} {k : State → Bytes → State}
    (hk : ∀ u b, Moves l u (k u b)) (hl : [.regs, .tmb, .recd, .wlk, .mram, .out, .freeCtr] ⊆ l := by exact Part.subset_of_within rfl) :
    Moves l s (mirrorRx s typ b t k) :=
  .ite .refl (waligRx_moves (fun _ _ => .trans (.sub bump_moves (Part.within_subset rfl hl)) (hk _ _)) hl)

theorem mirrorTake_moves {s : State} {b : Bytes} :
    Moves [.regs, .tmb, .pst, .hif, .recd, .hrt, .cap, .seq, .can, .wlk, .par, .mram, .out] s (mirrorTake s b) :=
  .ite .refl (by
    split
    · exact .ite stampTake_moves.mono .refl
    · exact inputKeep_moves.mono
    · exact canAccept_moves.mono
    · split
      · exact trigArm_moves.mono
      · exact trigFire_moves.mono
      · exact trigAck_moves.mono
    · split
      · exact boundaryRx_moves.mono
      · exact launchAckRx_moves.mono
      · exact resumeRx_moves.mono
    · exact repTake_moves.mono
    · exact inputMirrored_moves.mono)

theorem execMirrorInputRx_next {s : State} {b : Bytes} {t : Nat} : Next (mayChange (.mirrorInputRx b t)) s (execMirrorInputRx b t s) :=
  .ok (mirrorRx_moves (fun _ _ => mirrorTake_moves.mono))

theorem execMirrorCommitOrderRx_next {s : State} {b : Bytes} {t : Nat} :
    Next (mayChange (.mirrorCommitOrderRx b t)) s (execMirrorCommitOrderRx b t s) :=
  .ok (mirrorRx_moves (fun _ _ => .ite Moves.refl.setPar .refl))

theorem digestTake_moves {s : State} {r : Bytes} : Moves [.regs, .recd, .par, .mram] s (digestTake s r) :=
  .ite .refl (.ite (digMismatch_moves.after Moves.refl.setPar) Moves.refl.setPar)

theorem execMirrorDigestRx_next {s : State} {b : Bytes} {t : Nat} : Next (mayChange (.mirrorDigestRx b t)) s (execMirrorDigestRx b t s) :=
  .ok (mirrorRx_moves (fun _ _ => digestTake_moves.mono))

theorem execStandbyLagExceeded_next {s : State} {us t : Nat} : Next (mayChange (.standbyLagExceeded us t)) s (execStandbyLagExceeded us t s) :=
  .ite (.ok .refl) (.ok (.ite (parUnsync_moves.after (.setPar advance_moves.mono)) (.setPar advance_moves.mono)))

theorem mirrorCommand_moves {s : State} {id : Nat} {d : Bytes} : Moves [.hif] s (mirrorCommand s id d) :=
  Moves.refl.setHif

theorem execMirrorCommandRx_next {s : State} {b : Bytes} {t : Nat} : Next (mayChange (.mirrorCommandRx b t)) s (execMirrorCommandRx b t s) :=
  .ok (mirrorRx_moves (fun _ _ => .ite .refl (by
    dsimp only
    split
    · exact Moves.refl.setPar
    · exact .ite (mirrorCommand_moves.after (.setPar Moves.refl.setPar)) Moves.refl.setPar)))

theorem execMirrorAckRx_next {s : State} {b : Bytes} {t : Nat} : Next (mayChange (.mirrorAckRx b t)) s (execMirrorAckRx b t s) :=
  .ok (mirrorRx_moves (fun _ _ => by
    dsimp only
    split
    · exact .refl
    · exact cmdUpd_moves.after Moves.refl.setPar))

theorem execMirrorAckTimeout_next {s : State} : Next (mayChange .mirrorAckTimeout) s (execMirrorAckTimeout s) := by
  unfold execMirrorAckTimeout
  split
  · exact .ok .refl
  · exact .ok (parLost_moves.after (parEvent_moves.after (bump_moves.after (cmdUpd_moves.after (.setPar advance_moves.mono)))))

theorem Moves.setCnvCapFbkStnCan {l : List Part} {s t : State} {x : Cnv} {y : Cap} {z : Fbk} {w : Stn} {v : Can} (h : Moves l s t)
    (hcnv : t.cnv.canon → x.canon) (hcap : t.cap.ch.wf = true → y.ch.wf = true) (hfbk : t.fbk.ch.wf = true → z.ch.wf = true)
    (hstn : t.stn.canon → w.canon) (hcan : t.can.ctl.wf = true → v.ctl.wf = true)
        (hl : Part.within [.cnv, .cap, .fbk, .stn, .can] l = true := by rfl) :
    Moves l s { t with cnv := x, cap := y, fbk := z, stn := w, can := v } := by
  have hc : Moves [.cnv, .cap, .fbk, .stn, .can] t { t with cnv := x, cap := y, fbk := z, stn := w, can := v } :=
    Moves.setCan (t := { t with cnv := x, cap := y, fbk := z, stn := w })
      (Moves.setStn (t := { t with cnv := x, cap := y, fbk := z })
        (Moves.setFbk (t := { t with cnv := x, cap := y }) (Moves.setCap (t := { t with cnv := x }) (Moves.refl.setCnv hcnv) hcap) hfbk) hstn) hcan
  exact h.trans (hc.mono hl)

theorem xferApply_moves {s : State} {x : XferRegion} :
    Moves [.pst, .cyc, .ile, .cnv, .anv, .cap, .qch, .fbk, .mot, .stn, .seq, .can, .par] s (xferApply s x) := by
  unfold xferApply
  split
  · exact Moves.refl.setPst fun h => { h with points := SMap.wf_mapV _ _ (SMap.wf_canon _) }
  · exact Moves.refl.setPst
  · exact .setPstCyc .refl (hcyc := fun h => { h with slots := SMap.wf_canon _, classes := SMap.wf_canon _ })
  · exact Moves.refl.setIle fun h =>
        { h with markers := SMap.wf_canon _, timers := SMap.wf_canon _, edges := SMap.wf_canon _, alarms := SMap.wf_canon _,
                 compares := SMap.wf_canon _, outs := SMap.wf_canon _, fbOuts := SMap.wf_canon _ }
  · exact Moves.refl.setSeq fun _ => SMap.wf_canon _
  · exact Moves.refl.setAnv fun h => { h with core := SMap.wf_canon _, loop := SMap.wf_canon _ }
  · exact Moves.refl.setMot fun _ => SMap.wf_canon _
  · exact .setCnvCapFbkStnCan .refl (hcnv := fun h => { h with group := SMap.wf_foldl (fun _ _ hm => SMap.wf_upd _ _ _ hm) h.group })
        (hcap := fun h => SMap.wf_foldl (fun _ _ hm => SMap.wf_upd _ _ _ hm) h) (hfbk := fun _ => SMap.wf_canon _)
        (hstn := fun h => { h with st := SMap.wf_canon _ }) (hcan := fun h => SMap.wf_foldl (fun _ _ hm => SMap.wf_upd _ _ _ hm) h)
  · exact .setQchPar .refl (hqch := fun _ => SMap.wf_canon _)

theorem xferFail_moves {s : State} {st : Status} : Moves [.regs, .hif, .recd, .par, .mram] s (xferFail s st) :=
  parEvent_moves.after (bump_moves.after (.setPar (by
    split
    · exact endCmd_moves.mono
    · exact .refl)))

theorem xferTaken_moves {s : State} {regions : List XferRegion} {snapshot : Bool} :
    Moves [.pst, .cyc, .ile, .cnv, .anv, .cap, .qch, .fbk, .mot, .stn, .seq, .can, .par] s
      (let s := regions.foldl xferApply { s with par := { s.par with xferFrags := none, regions := SMap.empty } }
       if snapshot then { s with par := { s.par with
         xfer := .catchup
         xferAt := s.tmb.now
         order := []
         inputs := SMap.empty
         acc := SMap.empty } }
       else s) := by
  have applied : Moves [.pst, .cyc, .ile, .cnv, .anv, .cap, .qch, .fbk, .mot, .stn, .seq, .can, .par] s
      (regions.foldl xferApply { s with par := { s.par with xferFrags := none, regions := SMap.empty } }) :=
    .foldl (Moves.refl.setPar fun h => { h with regions := SMap.wf_empty }) fun _ _ => xferApply_moves
  exact .ite (applied.setPar fun h => { h with acc := SMap.wf_empty, inputs := SMap.wf_empty }) applied

theorem execMirrorXferRx_next {s : State} {b : Bytes} {regions : List XferRegion} {snapshot : Bool} {t : Nat} :
    Next (mayChange (.mirrorXferRx b regions snapshot t)) s (execMirrorXferRx b regions snapshot t s) := by
  refine .ok (mirrorRx_moves (l := mayChange (.mirrorXferRx b regions snapshot t)) fun u r => .ite .refl ?_)
  dsimp only
  split
  · exact xferFail_moves.mono
  next g _ =>
    have kept : Moves (mayChange (.mirrorXferRx b regions snapshot t)) u { u with par := { u.par with
        xfer := .copying, xferFrags := some g, regions := u.par.regions.set g.region g.data } } :=
      Moves.refl.setPar fun h => { h with regions := SMap.wf_set _ _ _ h.regions }
    exact .ite xferFail_moves.mono (.ite kept (kept.trans (xferTaken_moves (regions := regions) (snapshot := snapshot)).mono))

theorem execMirrorPinStateRx_next {s : State} {b : Bytes} {t : Nat} : Next (mayChange (.mirrorPinStateRx b t)) s (execMirrorPinStateRx b t s) :=
  .ok (mirrorRx_moves (fun _ _ => .ite Moves.refl.setPar .refl))

theorem pinsTake_moves {s : State} : Moves [.regs, .tmb, .recd, .qch, .wlk, .par, .mram, .out, .freeCtr] s (pinsTake s) := by
  have pinsDriven {t : State} {driven level : Nat} : Moves [.tmb] t { t with
      tmb := { t.tmb with
        tio := (List.range 128).foldl (fun m p => if pairedPin t p && bit driven p then
          m.upd p fun x => { x with level := some (bit level p) } else m) t.tmb.tio } } :=
    Moves.refl.setTmb fun h => { h with tio := SMap.wf_foldl (fun _ _ hm => SMap.wf_ite (SMap.wf_upd _ _ _ hm) hm) h.tio }
  exact .foldl pinsDriven.mono fun _ _ => qchChange_moves fun _ => qchUpd_moves.mono

theorem parTakeover_moves {s : State} {from' cause : Nat} :
    Moves [.regs, .tmb, .recd, .qch, .stn, .wlk, .par, .mram, .out, .freeCtr] s (parTakeover s from' cause) :=
  parStatus_moves.after (.ite (parEvent_moves.after (bump_moves.after
      (parEvent_moves.after (bump_moves.after (pinsTake_moves.after (.setPar parToken_moves.mono))))))
      (parEvent_moves.after (bump_moves.after (pinsTake_moves.after (.setPar parToken_moves.mono)))))

theorem execMirrorGiveUpRx_next {s : State} {b : Bytes} {planned : Bool} {t : Nat} :
    Next (mayChange (.mirrorGiveUpRx b planned t)) s (execMirrorGiveUpRx b planned t s) :=
  .ok (mirrorRx_moves (fun _ _ => .ite (parTakeover_moves.after Moves.refl.setPar) Moves.refl.setPar))

theorem execPairActInLow_next {s : State} {planned : Bool} {t : Nat} :
    Next (mayChange (.pairActInLow planned t)) s (execPairActInLow planned t s) :=
  .ite (.ok (parTakeover_moves.after (.setPar advance_moves.mono))) (.ok (.setPar advance_moves.mono))

theorem execPairActInRise_next {s : State} {t : Nat} : Next (mayChange (.pairActInRise t)) s (execPairActInRise t s) := by
  unfold execPairActInRise
  dsimp only
  split
  · exact .ok (pinsRelease_moves.after (.setPar advance_moves.mono))
  · split
    · exact .ok (endCmd_moves.after (.setPar (pinsRelease_moves.after (.setPar advance_moves.mono))))
    · exact .ok (pinsRelease_moves.after (.setPar advance_moves.mono))
  · exact .ok (parStatus_moves.after (parYield_moves.after (.setPar advance_moves.mono)))
  · exact .ok (parStatus_moves.after (parYield_moves.after (.setPar advance_moves.mono)))
  · exact .ok (.setPar advance_moves.mono)

theorem execPairSwitch_next {s : State} {h : Nat} : Next (mayChange (.pairSwitch h)) s (execPairSwitch h s) :=
  .ok (startCmd_moves (fun _ _ => .ite endCmd_moves.mono Moves.refl.setPar))

theorem execPairSwitchInstant_next {s : State} : Next (mayChange .pairSwitchInstant) s (execPairSwitchInstant s) := by
  unfold execPairSwitchInstant
  split
  · exact .ok .refl
  · exact .ite (.ok (endCmd_moves.after (.setPar advance_moves.mono)))
        (.ok (parStatus_moves.after (.setPar (parEvent_moves.after (bump_moves.after (mirrorSend_moves.after advance_moves.mono))))))

theorem xferStart_moves {s : State} {cmd : Option Nat} : Moves [.regs, .par] s (xferStart s cmd) :=
  bump_moves.after Moves.refl.setPar

theorem execAutoResyncStart_next {s : State} {t : Nat} : Next (mayChange (.autoResyncStart t)) s (execAutoResyncStart t s) :=
  .ite (.ok advance_moves.mono) (.ok (xferStart_moves.after advance_moves.mono))

theorem xferFrags_moves {s : State} {id region : Nat} {content : Bytes} {first last : Bool} :
    Moves [.regs, .wlk, .out] s (xferFrags s id region content first last) :=
  .foldl .refl fun _ _ => mirrorSend_moves

theorem xferCut_moves {s : State} {c : Nat} : Moves [.regs, .tmb, .hif, .wlk, .par, .out, .freeCtr] s (xferCut s c) :=
  .setPar (by
    split
    · exact cmdUpd_moves.after (.foldl (xferFrags_moves.after (.setPar advance_moves.mono)) fun _ _ => xferFrags_moves.after drawFree_moves.mono)
    · exact .foldl (xferFrags_moves.after (.setPar advance_moves.mono))
          fun _ _ => xferFrags_moves.after drawFree_moves.mono) (fun h => { h with acc := SMap.wf_empty })

theorem execXferPassEnd_next {s : State} {left : Nat} {cut : Option Nat} {t : Nat} :
    Next (mayChange (.xferPassEnd left cut t)) s (execXferPassEnd left cut t s) :=
  .ite (.ok .refl) (.ite (by
    dsimp only
    split
    · exact .ite (.ok (xferCut_moves.after (.setPar (.setPar advance_moves.mono)))) (.ok (.setPar (.setPar advance_moves.mono)))
    · exact .ok (.setPar (.setPar advance_moves.mono))) (.ite (.ok (xferFail_moves.after (.setPar advance_moves.mono)))
          (.ok (.setPar advance_moves.mono))))

theorem execXferCutTimeout_next {s : State} {cut : Option Nat} {t : Nat} :
    Next (mayChange (.xferCutTimeout cut t)) s (execXferCutTimeout cut t s) :=
  .ite (.ok .refl) (by
    split
    · exact .ite (.ok xferCut_moves.mono) (.ok .refl)
    · exact .ite (.ok .refl) (.ok (xferFail_moves.after advance_moves.mono)))

theorem execXferCatchupDone_next {s : State} {t : Nat} : Next (mayChange (.xferCatchupDone t)) s (execXferCatchupDone t s) :=
  .ite (.ok .refl) (.ite (.ok (parEvent_moves.after (parEvent_moves.after (.setPar advance_moves.mono))))
      (.ite (.ok (parEvent_moves.after (parEvent_moves.after (.setPar (by
    split
    · exact endCmd_moves.after advance_moves.mono
    · exact advance_moves.mono))))) (.ok advance_moves.mono)))

theorem execCatchupTimeout_next {s : State} {t : Nat} : Next (mayChange (.catchupTimeout t)) s (execCatchupTimeout t s) :=
  .ite (.ok .refl) (.ok (xferFail_moves.after advance_moves.mono))

theorem execSelftestPass_next {s : State} {fails t : Nat} : Next (mayChange (.selftestPass fails t)) s (execSelftestPass fails t s) :=
  .ite (.ok (bump_moves.after (.setPar advance_moves.mono))) (.ok (pairGiveUp_moves.after
      (assertFault_moves.after (parEvent_moves.after (bumpN_moves.after (bump_moves.after (.setPar advance_moves.mono)))))))

theorem execSelftestOverdue_next {s : State} {t : Nat} : Next (mayChange (.selftestOverdue t)) s (execSelftestOverdue t s) :=
  .ite (.ok .refl) (.ok (parEvent_moves.after (.setPar advance_moves.mono)))

theorem parCommitApply_moves {s : State} : Moves [.regs, .staged, .par, .out] s (parCommitApply s) :=
  parStatus_moves.after (by
    split
    · exact .setPar applyStaged_moves.mono
    · exact .setPar applyStaged_moves.mono
    · exact .setPar applyStaged_moves.mono
    · exact applyStaged_moves.mono)

end Sys2Proof.Machine
end

section
/-! What the functions of Hendel may change. -/
set_option Elab.async false
namespace Sys2Proof.Machine
open Sys2Proof

theorem hdlEvent_moves {s : State} {k : EvKind} {bank group sensor reason cause leaf : Nat} :
    Moves [.regs, .recd, .mram] s (hdlEvent s k bank group sensor reason cause leaf) :=
  event_moves

theorem hdlChanged_moves {s : State} : Moves [.regs, .out] s (hdlChanged s) :=
  glbInt_moves

theorem sensorUpd_moves {s : State} {n : Nat} {f : Sensor → Sensor} : Moves [.hdl] s (sensorUpd s n f) :=
  Moves.refl.setHdl fun h => { h with sensor := SMap.wf_upd _ _ _ h.sensor }

theorem sensorPoint_moves {s : State} {n : Nat} {q : BitVec 16} :
    Moves [.regs, .pst, .hif, .recd, .cap, .wlk, .mram, .hdl, .out] s (sensorPoint s n q) :=
  .ite .refl (sensorUpd_moves.after writePoint_moves.mono)

theorem sensorWarn_moves {s : State} {n : Nat} : Moves [.regs, .recd, .mram, .hdl] s (sensorWarn s n) :=
  .ite (.ite .refl (hdlEvent_moves.after (bump_moves.after sensorUpd_moves.mono))) (.ite sensorUpd_moves.mono .refl)

theorem sensorRead_moves {s : State} {n : Nat} {v : Int} :
    Moves [.regs, .pst, .hif, .recd, .cap, .wlk, .mram, .pwr, .hdl, .out] s (sensorRead s n v) :=
  sensorPoint_moves.after (sensorWarn_moves.after (.ite (.setPwr sensorUpd_moves.mono) sensorUpd_moves.mono))

theorem execSensorReading_next {s : State} {n : Nat} {v : Int} {t : Nat} : Next (mayChange (.sensorReading n v t)) s (execSensorReading n v t s) :=
  .ite (.ok .refl) (.ok (sensorRead_moves.after advance_moves.mono))

theorem faultAction_moves {s : State} {cause : Nat} : Moves [.regs, .recd, .wlk, .par, .mram, .pwr, .out] s (faultAction s cause) :=
  .setPwr (.ite (parStatus_moves.after (.setPar (parEvent_moves.after bump_moves.mono))) pairGiveUp_moves.mono)

theorem execSupplyFault_next {s : State} {n t : Nat} : Next (mayChange (.supplyFault n t)) s (execSupplyFault n t s) :=
  .ite (.ok .refl) (.ok (faultAction_moves.after (hdlEvent_moves.after
      (assertFault_moves.after (sensorUpd_moves.after (.setPwr advance_moves.mono))))))

theorem execClockFault_next {s : State} {d t : Nat} : Next (mayChange (.clockFault d t)) s (execClockFault d t s) :=
  .ite (.ok .refl) (.ite (.ok (hdlEvent_moves.after (assertFault_moves.after (.setPwr (sensorUpd_moves.after advance_moves.mono)))))
      (.ok (faultAction_moves.after (hdlEvent_moves.after (assertFault_moves.after (.setPwr (sensorUpd_moves.after advance_moves.mono)))))))

theorem execTempCrit_next {s : State} {n t : Nat} : Next (mayChange (.tempCrit n t)) s (execTempCrit n t s) :=
  .ite (.ok .refl) (.ok (faultAction_moves.after (hdlEvent_moves.after
      (assertFault_moves.after (sensorUpd_moves.after (.setPwr advance_moves.mono))))))

theorem execFaultAutoRestart_next {s : State} {t : Nat} : Next (mayChange (.faultAutoRestart t)) s (execFaultAutoRestart t s) :=
  .ite (.ok .refl) (.ok (.setPwr (drawFree_moves.after advance_moves.mono)))

theorem pmFail_moves {s : State} {d : Nat} : Moves [.regs, .pst, .hif, .recd, .cap, .wlk, .mram, .hdl, .out] s (pmFail s d) :=
  .ite (bump_moves.after (Moves.refl.setHdl fun h => { h with pmFails := SMap.wf_set _ _ _ h.pmFails }))
      (hdlEvent_moves.after (.foldl (bump_moves.after (Moves.refl.setHdl
      fun h => { h with pmFails := SMap.wf_set _ _ _ h.pmFails })) fun _ _ => sensorPoint_moves.after sensorUpd_moves.mono))

theorem execPmbusPoll_next {s : State} {d : Nat} {r : Option (Int × Int × Int × Nat)} {t : Nat} :
    Next (mayChange (.pmbusPoll d r t)) s (execPmbusPoll d r t s) :=
  .ite (.ok .refl) (by
    dsimp only
    split
    · exact .ok (sensorRead_moves.after (sensorRead_moves.after (sensorRead_moves.after
          (sensorRead_moves.after (.setHdl (sendAll_moves.after advance_moves.mono)
          (fun h => { h with pmFails := SMap.wf_set _ _ _ h.pmFails }))))))
    · exact .ok (pmFail_moves.after (sendAll_moves.after advance_moves.mono)))

theorem execPmbusAlert_next {s : State} {words : List (Option Nat)} {t : Nat} :
    Next (mayChange (.pmbusAlert words t)) s (execPmbusAlert words t s) :=
  .ok (.foldl (hdlEvent_moves.after advance_moves.mono) fun _ _ => .ite (by
    dsimp only
    split
    · exact sensorRead_moves.after (.setHdl send_moves.mono (fun h => { h with pmFails := SMap.wf_set _ _ _ h.pmFails }))
    · exact pmFail_moves.after send_moves.mono) .refl)

theorem execHdlWatchdog_next {s : State} {t : Nat} : Next (mayChange (.hdlWatchdog t)) s (execHdlWatchdog t s) :=
  .ok (hdlEvent_moves.after (bump_moves.after advance_moves.mono))

theorem execControlHeartbeatMissing_next {s : State} {t : Nat} :
    Next (mayChange (.controlHeartbeatMissing t)) s (execControlHeartbeatMissing t s) :=
  .ite (.ok (.setPwr advance_moves.mono)) (.ok .refl)

theorem hdlRestart_moves {s : State} : Moves [.pwr] s (hdlRestart s) :=
  Moves.refl.setPwr

theorem execHdlRestart_next {s : State} : Next (mayChange .hdlRestart) s (execHdlRestart s) :=
  .ite (regCmd_next (fun _ => hdlRestart_moves.mono)) (.ok .refl)

theorem execCoarseMarkWrite_next {s : State} {t : Nat} : Next (mayChange (.coarseMarkWrite t)) s (execCoarseMarkWrite t s) :=
  .ok (.setHdl advance_moves.mono)

theorem bootTake_moves {s : State} {x : BootItem} : Moves [.hdl] s { s with hdl := { s.hdl with boot := bootTake s.hdl.boot x } } := by
  cases x with
  | program i m => exact Moves.refl.setHdl
  | interlock i => exact Moves.refl.setHdl
  | loop n d => exact Moves.refl.setHdl fun h => { h with loops := SMap.wf_set _ _ _ h.loops }

theorem execBootBankWriteDone_next {s : State} {fits : Bool} {t : Nat} :
    Next (mayChange (.bootBankWriteDone fits t)) s (execBootBankWriteDone fits t s) := by
  unfold execBootBankWriteDone
  split
  · exact .ok .refl
  next x rest _ =>
    have popped : Moves [.tmb, .hdl] s { advance s t with hdl := { (advance s t).hdl with writes := rest } } := .setHdl advance_moves.mono
    exact .ite (.ok (bootTake_moves.after popped.mono)) (.ok (hdlEvent_moves.after popped.mono))

theorem bankUpd_moves {s : State} {n : Nat} {f : Bank → Bank} : Moves [.hdl] s (bankUpd s n f) :=
  Moves.refl.setHdl fun h => { h with bank := SMap.wf_upd _ _ _ h.bank }

theorem stageBegin_moves {s : State} : Moves [.regs, .hdl, .out] s (stageBegin s) :=
  hdlChanged_moves.after bankUpd_moves.mono

theorem stageEnd_moves {s : State} {n : Nat} {b : Bytes} : Moves [.regs, .recd, .mram, .hdl, .out] s (stageEnd s n b).1 := by
  unfold stageEnd
  split
  · exact hdlChanged_moves.after (event_moves.after (bump_moves.after bankUpd_moves.mono))
  · exact hdlChanged_moves.after (hdlEvent_moves.after (bump_moves.after bankUpd_moves.mono))

theorem activate_moves {s : State} {n : Nat} : Moves [.regs, .recd, .mram, .pwr, .hdl, .out] s (activate s n) :=
  .setPwr (hdlChanged_moves.after (hdlEvent_moves.after bankUpd_moves.mono))

theorem execBilletActivate_next {s : State} {h : Nat} : Next (mayChange (.billetActivate h)) s (execBilletActivate h s) :=
  .ok (startCmd_moves (fun _ _ => by
    dsimp only
    split
    · exact endCmd_moves.mono
    · exact .ite endCmd_moves.mono (.ite endCmd_moves.mono (endCmd_moves.after activate_moves.mono))))

theorem otpGrows_levels {o : Otp} {g n : Nat} (h : o.levels.get g < n) : otpGrows o { o with levels := o.levels.set g n } := by
  refine ⟨fun k => ?_, Nat.and_self _, fun hr => hr, rfl⟩
  by_cases hk : k = g
  · subst hk
    have hn : n ≠ 0 := Nat.ne_of_gt (Nat.zero_lt_of_lt h)
    have hget : (o.levels.set k n).get k = n := by
      simp [SMap.get, SMap.set, SMap.getD, SMap.setD, hn, SMap.find_put_some]
    exact h.le.trans hget.ge
  · exact (SMap.get_set_ne _ _ hk).ge

theorem and_foldl_or_pow {l : List Nat} {m n : Nat} (h : m &&& n = m) : m &&& l.foldl (fun r k => r ||| 2 ^ k) n = m := by
  induction l generalizing n with
  | nil => exact h
  | cons k l ih =>
    refine ih ?_
    rw [Nat.and_or_distrib_left, h]
    refine Nat.eq_of_testBit_eq fun i => ?_
    simp only [Nat.testBit_or, Nat.testBit_and]
    cases m.testBit i <;> simp

theorem otpGrows_revoked {o : Otp} {l : List Nat} : otpGrows o { o with revoked := l.foldl (fun r k => r ||| 2 ^ k) o.revoked } :=
  ⟨fun _ => le_rfl, and_foldl_or_pow (Nat.and_self _), fun hr => hr, rfl⟩

theorem levelRaised_moves {s : State} {g l n : Nat} : Moves [.regs, .recd, .mram, .hdl] s
    (if s.hdl.otp.levels.get g < l then
      hdlEvent { s with hdl := { s.hdl with otp := { s.hdl.otp with levels := s.hdl.otp.levels.set g l } } } evArbAdvanced n g 0 0 0 0
    else s) := by
  split
  next hl =>
    exact hdlEvent_moves.after
      (Moves.refl.setHdl (fun h => { h with levels := SMap.wf_set _ _ _ h.levels }) (ho := otpGrows_levels hl))
  · exact .refl

theorem keysRevoked_moves {s : State} {l : List Nat} : Moves [.hdl] s
    { s with hdl := { s.hdl with otp := { s.hdl.otp with revoked := l.foldl (fun m k => m ||| 2 ^ k) s.hdl.otp.revoked } } } :=
  Moves.refl.setHdl (ho := otpGrows_revoked)

theorem confirmAll_moves {s : State} : Moves [.regs, .recd, .mram, .hdl, .out] s (confirmAll s) :=
  hdlChanged_moves.after (hdlEvent_moves.after (.setHdl (bankUpd_moves.after (bankUpd_moves.after (keysRevoked_moves.after
    (.foldl .refl fun _ _ => levelRaised_moves.mono))))))

theorem execBilletConfirm_next {s : State} {h : Nat} : Next (mayChange (.billetConfirm h)) s (execBilletConfirm h s) :=
  .ok (startCmd_moves
      (fun _ _ => .ite endCmd_moves.mono
      (.ite endCmd_moves.mono (endCmd_moves.after (.ite (confirmAll_moves.after Moves.refl.setHdl) Moves.refl.setHdl)))))

theorem settingsLoad_moves {s : State} {x : Settings} : Moves [.regs, .cnv, .stn, .hdl] s (settingsLoad s x) :=
  .setCnvStnHdl (.foldl .refl fun _ _ => setStored_moves.mono)

theorem fallback_moves {s : State} {reason : Nat} :
    Moves [.regs, .recd, .cnv, .stn, .wlk, .par, .mram, .pwr, .hdl, .out] s (fallback s reason) := by
  unfold fallback
  split
  · exact .refl
  · exact pairGiveUp_moves.after (hdlChanged_moves.after (.setPwr (event_moves.after (bump_moves.after (.setHdl (by
      split
      · exact settingsLoad_moves.after bankUpd_moves.mono
      · exact bankUpd_moves.mono))))))

theorem execProbationTimeout_next {s : State} : Next (mayChange .probationTimeout) s (execProbationTimeout s) := by
  unfold execProbationTimeout
  split
  · exact .ok .refl
  · exact .ok (fallback_moves.after advance_moves.mono)

theorem execAttest_next {s : State} {h : Nat} {data : Option Bytes} {written : Bool} :
    Next (mayChange (.attest h data written)) s (execAttest h data written s) :=
  .ok (startCmd_moves
      (fun _ _ => .ite (endCmd_moves.after (hdlEvent_moves.after bump_moves.mono))
      (.ite endCmd_moves.mono (endCmd_moves.after (hdlEvent_moves.after (bump_moves.after (send_moves.after Moves.refl.setHdl)))))))

theorem execSensorRead_next {s : State} {h : Nat} : Next (mayChange (.sensorRead h)) s (execSensorRead h s) :=
  .ok (startCmd_moves (fun _ _ => endCmd_moves.after send_moves.mono))

theorem mboxUpd_moves {s : State} {f : Mbox → Mbox} : Moves [.hdl] s (mboxUpd s f) :=
  Moves.refl.setHdl

theorem mboxEnd_moves {s : State} {st : Status} {n : Nat} : Moves [.hdl] s (mboxEnd s st n) :=
  mboxUpd_moves

theorem mboxData_moves {s : State} {b : Bytes} : Moves [.hdl] s (mboxData s b) :=
  mboxEnd_moves.after mboxUpd_moves

theorem mboxRun_moves {s : State} {cmd a0 a1 : Nat} : Moves [.regs, .hif, .recd, .mram, .pwr, .hdl, .out, .freeCtr] s (mboxRun s cmd a0 a1) :=
  .ite (mboxEnd_moves.after mboxUpd_moves.mono) (by
    split
    · exact mboxData_moves.after (drawFree_moves.after mboxUpd_moves.mono)
    · exact .ite (mboxEnd_moves.after mboxUpd_moves.mono) (.ite (mboxEnd_moves.after mboxUpd_moves.mono)
          (mboxEnd_moves.after (mboxUpd_moves.after (stageBegin_moves.after mboxUpd_moves.mono))))
    · split
      · exact .ite (mboxEnd_moves.after mboxUpd_moves.mono) (.ite (mboxEnd_moves.after mboxUpd_moves.mono)
            (mboxEnd_moves.after (bankUpd_moves.after mboxUpd_moves.mono)))
      · exact mboxEnd_moves.after mboxUpd_moves.mono
    · split
      · exact mboxEnd_moves.after (stageEnd_moves.after (mboxUpd_moves.after mboxUpd_moves.mono))
      · exact mboxEnd_moves.after mboxUpd_moves.mono
    · split
      · exact mboxEnd_moves.after (activate_moves.after mboxUpd_moves.mono)
      · exact mboxEnd_moves.after mboxUpd_moves.mono
    · exact mboxData_moves.after mboxUpd_moves.mono
    · exact mboxData_moves.after mboxUpd_moves.mono
    · exact mboxEnd_moves.after (.setHdl mboxUpd_moves.mono (fun h => { h with loops := SMap.wf_empty }))
    · exact mboxEnd_moves.after (.setHifPwr mboxUpd_moves.mono)
    · exact mboxEnd_moves.after mboxUpd_moves.mono)

theorem mboxGo_moves {s : State} {cmd : Nat} : Moves [.regs, .hif, .recd, .mram, .pwr, .hdl, .out, .freeCtr] s (mboxGo s cmd) :=
  mboxRun_moves.after setFld_moves.mono

theorem execMboxIdentify_next {s : State} : Next (mayChange .mboxIdentify) s (execMboxIdentify s) :=
  regCmd_next (fun _ => mboxGo_moves.mono)

theorem execMboxStageBegin_next {s : State} : Next (mayChange .mboxStageBegin) s (execMboxStageBegin s) :=
  regCmd_next (fun _ => mboxGo_moves.mono)

theorem execMboxStageData_next {s : State} : Next (mayChange .mboxStageData) s (execMboxStageData s) :=
  regCmd_next (fun _ => mboxGo_moves.mono)

theorem execMboxStageEnd_next {s : State} : Next (mayChange .mboxStageEnd) s (execMboxStageEnd s) :=
  regCmd_next (fun _ => mboxGo_moves.mono)

theorem execMboxActivate_next {s : State} : Next (mayChange .mboxActivate) s (execMboxActivate s) :=
  regCmd_next (fun _ => mboxGo_moves.mono)

theorem execMboxLogRead_next {s : State} : Next (mayChange .mboxLogRead) s (execMboxLogRead s) :=
  regCmd_next (fun _ => mboxGo_moves.mono)

theorem execMboxSensorRead_next {s : State} : Next (mayChange .mboxSensorRead) s (execMboxSensorRead s) :=
  regCmd_next (fun _ => mboxGo_moves.mono)

theorem execMboxBootBankClear_next {s : State} : Next (mayChange .mboxBootBankClear) s (execMboxBootBankClear s) :=
  regCmd_next (fun _ => mboxGo_moves.mono)

theorem execMboxRestart_next {s : State} : Next (mayChange .mboxRestart) s (execMboxRestart s) :=
  regCmd_next (fun _ => mboxGo_moves.mono)

theorem execMgmtUartFrame_next {s : State} {f : Bytes} : Next (mayChange (.mgmtUartFrame f)) s (execMgmtUartFrame f s) :=
  .ite (.ok .refl) (.ok (send_moves.after (mboxRun_moves.after mboxUpd_moves.mono)))

theorem returned_moves {s : State} : Moves [.hdl] s { s with hdl := { s.hdl with otp := { s.hdl.otp with returned := true } } } :=
  Moves.refl.setHdl (ho := ⟨fun _ => le_rfl, Nat.and_self _, fun _ => rfl, rfl⟩)

theorem execRtvUnlock_next {s : State} {h : Nat} {data : Option Bytes} : Next (mayChange (.rtvUnlock h data)) s (execRtvUnlock h data s) := by
  unfold execRtvUnlock
  dsimp only
  exact .ok
      (startCmd_moves
      (fun _ _ => .ite endCmd_moves.mono
      (.ite endCmd_moves.mono (.ite endCmd_moves.mono (.ite endCmd_moves.mono
      (endCmd_moves.after (statusChanged_moves.after (hdlEvent_moves.after returned_moves.mono))))))))

end Sys2Proof.Machine
end

section
/-! What the functions of resets and starts may change. -/
set_option Elab.async false
namespace Sys2Proof.Machine
open Sys2Proof

theorem regsKept_wf {s : State} {m : SMap (Option Word)} (h : m.wf = true) : (regsKept s m).wf = true :=
  SMap.wf_foldl (fun _ _ hm => SMap.wf_set _ _ _ hm) h

theorem qchRegsKept_wf {s : State} (h : s.regs.wf = true) : (qchRegsKept s).wf = true :=
  SMap.wf_foldl (fun _ _ hm => SMap.wf_set _ _ _ hm) (SMap.wf_filter _ _ h)

theorem coresKept_wf {m : SMap Core} : (coresKept m).wf = true :=
  SMap.wf_foldl (fun _ _ hm => SMap.wf_ite (SMap.wf_set _ _ _ hm) hm) SMap.wf_empty

theorem anvKept_wf {m : SMap AnvCore} : (anvKept m).wf = true :=
  SMap.wf_foldl (fun _ _ hm => SMap.wf_ite (SMap.wf_set _ _ _ hm) hm) SMap.wf_empty

theorem slicesKept_wf {m : SMap CnvSlice} : (slicesKept m).wf = true :=
  SMap.wf_foldl (fun _ _ hm => SMap.wf_set _ _ _ hm) SMap.wf_empty

theorem dieReset_canon {s : State} (h : ∀ p, partCanon s p) (p : Part) : partCanon (dieReset s) p := by
  cases p with
  | regs =>
    have kept : (dieReset s).regs = regsKept s (qchRegsKept s) := by simp only [dieReset]
    have hr : s.regs.wf = true := h .regs
    simpa only [partCanon, kept] using regsKept_wf (s := s) (qchRegsKept_wf hr)
  | hrt => exact ⟨SMap.wf_empty, coresKept_wf⟩
  | cnv => exact ⟨SMap.wf_empty, slicesKept_wf⟩
  | anv => exact ⟨anvKept_wf, SMap.wf_empty⟩
  | qch => exact SMap.wf_mapV _ _ (h .qch)
  | hdl =>
    have hd : s.hdl.canon := h .hdl
    exact { hd with sensor := SMap.wf_mapV _ _ hd.sensor }
  | mram =>
    have hm : s.mram.canon := h .mram
    exact hm
  | tmb => exact ⟨SMap.wf_empty, SMap.wf_empty⟩
  | pst => exact ⟨SMap.wf_empty, SMap.wf_empty⟩
  | hif => exact ⟨SMap.wf_empty, SMap.wf_empty⟩
  | cyc => exact ⟨SMap.wf_empty, SMap.wf_empty⟩
  | ile => exact ⟨SMap.wf_empty, SMap.wf_empty, SMap.wf_empty, SMap.wf_empty, SMap.wf_empty, SMap.wf_empty, SMap.wf_empty⟩
  | stn => exact ⟨SMap.wf_empty, SMap.wf_empty⟩
  | wlk => exact ⟨SMap.wf_empty, SMap.wf_empty, SMap.wf_empty, SMap.wf_empty⟩
  | par => exact ⟨SMap.wf_empty, SMap.wf_empty, SMap.wf_empty⟩
  | staged | commits | recd | cap | fbk | mot | seq | can => exact SMap.wf_empty
  | aon | pwr | rdata | out | freeCtr | pending => trivial

theorem dieReset_moves {s : State} :
    Moves [.regs, .staged, .commits, .tmb, .pst, .hif, .recd, .cyc, .hrt, .ile, .cnv, .anv, .cap, .qch, .fbk, .mot, .stn, .seq, .can, .wlk, .par,
    .pwr, .hdl] s (dieReset s) := by
  refine ⟨fun p hp => ?_, fun hc => ?_, otpGrows_refl _⟩
  · cases p <;> simp at hp <;> simp only [samePart, dieReset]
  · rw [canonical_iff] at hc ⊢
    exact dieReset_canon hc

theorem hendelReset_moves {s : State} : Moves [.hdl] s (hendelReset s) :=
  Moves.refl.setHdl fun h => { h with sensor := SMap.wf_empty, pmFails := SMap.wf_empty }

theorem hold_moves {s : State} {h : Hold} :
    Moves [.regs, .staged, .commits, .tmb, .pst, .hif, .recd, .cyc, .hrt, .ile, .cnv, .anv, .cap, .qch, .fbk, .mot, .stn, .seq, .can, .wlk, .par,
    .pwr, .hdl] s (hold s h) :=
  .setPwr dieReset_moves

theorem powerOnReset_moves {s : State} :
    Moves [.regs, .staged, .commits, .tmb, .pst, .hif, .recd, .cyc, .hrt, .ile, .cnv, .anv, .cap, .qch, .fbk, .mot, .stn, .seq, .can, .wlk, .par,
    .aon, .pwr, .hdl] s (powerOnReset s) := by
  have fresh {u : State} {x : SMap (Option Word)} {y : Qch} {z : Aon} {w : Pwr} (hx : x.wf = true) (hy : y.pin.wf = true) :
      Moves [.regs, .qch, .aon, .pwr] u { u with regs := x, qch := y, aon := z, pwr := w } :=
    Moves.setPwr (t := { u with regs := x, qch := y, aon := z }) (Moves.setAon (t := { u with regs := x, qch := y })
      (Moves.setQch (t := { u with regs := x }) (Moves.refl.setRegs fun _ => hx) fun _ => hy))
  exact (fresh (regsKept_wf SMap.wf_empty) SMap.wf_empty).after (hendelReset_moves.after hold_moves.mono)

theorem execPowerOnReset_next {s : State} : Next (mayChange .powerOnReset) s (execPowerOnReset s) :=
  .ok powerOnReset_moves.mono

theorem journalDrop_moves {s : State} : Moves [.mram] s (journalDrop s) :=
  Moves.refl.setMram fun h => { h with retained := SMap.wf_empty, journal := SMap.wf_empty, axes := SMap.wf_empty, recipes := SMap.wf_empty }

theorem startEpoch_moves {s : State} {value number : Nat} {freq : Int} {held : List Epoch} {lost none' : Bool} :
    Moves [.regs, .tmb, .recd, .mram, .freeCtr] s (startEpoch s value number freq held lost none') :=
  tmbEvent_moves.after (bump_moves.after (writeMark_moves.after (.setTmb (drawFree_moves.after (.ite journalDrop_moves.mono .refl)))))

theorem timeCold_moves {s : State} {x : StartIn} : Moves [.regs, .tmb, .recd, .mram, .freeCtr] s (timeCold s x) := by
  unfold timeCold
  split
  · exact startEpoch_moves
  · split
    · exact startEpoch_moves
    · exact startEpoch_moves

theorem timeWarm_moves {s : State} {x : StartIn} : Moves [.regs, .tmb, .recd, .mram, .freeCtr] s (timeWarm s x) := by
  unfold timeWarm
  split
  · exact Moves.refl.setTmb
  · exact startEpoch_moves

theorem trialRan_moves {s : State} : Moves [.regs, .recd, .cnv, .stn, .wlk, .par, .mram, .pwr, .hdl, .out] s (trialRan s).1 := by
  unfold trialRan
  split
  · exact .ite_fst fallback_moves .refl
  · exact .refl

theorem trialCheck_moves {s : State} {ver : Nat → Bool} {selfcheck : Bool} :
    Moves [.regs, .recd, .cnv, .stn, .wlk, .par, .mram, .pwr, .hdl, .out] s (trialCheck s ver selfcheck).1 := by
  unfold trialCheck
  split
  · exact .ite_fst fallback_moves .refl
  · exact .refl

theorem bootBank_moves {s : State} {ver : Nat → Bool} : Moves [.regs, .recd, .mram, .hdl, .out] s (bootBank s ver).1 := by
  unfold bootBank
  split
  · exact .refl
  · dsimp only
    split
    · exact .ite_fst .refl (by
        split
        · exact .ite_fst (hdlEvent_moves.after (hdlChanged_moves.after bankUpd_moves.mono)) (hdlChanged_moves.after bankUpd_moves.mono)
        · exact hdlChanged_moves.after bankUpd_moves.mono)
    · split
      · exact .ite_fst hdlEvent_moves.mono .refl
      · exact .refl

theorem enterRecovery_moves {s : State} : Moves [.regs, .hif, .recd, .mram, .pwr, .hdl, .out] s (enterRecovery s) :=
  statusChanged_moves.after (hdlChanged_moves.after (hdlEvent_moves.after (.setHifPwrHdl .refl)))

theorem settingsStart_moves {s : State} {n : Nat} {first readable : Bool} :
    Moves [.regs, .recd, .cnv, .stn, .wlk, .par, .mram, .pwr, .hdl, .out] s (settingsStart s n first readable).1 :=
  .ite_fst (.ite (.ite (hdlEvent_moves.after Moves.refl.setHdl) .refl) (hdlEvent_moves.after settingsLoad_moves.mono))
      (.ite_fst (fallback_moves.after (.setHdl (.ite (.ite (hdlEvent_moves.after Moves.refl.setHdl) .refl)
      (hdlEvent_moves.after settingsLoad_moves.mono)))) (.setHdl (.ite (.ite (hdlEvent_moves.after Moves.refl.setHdl) .refl)
      (hdlEvent_moves.after settingsLoad_moves.mono))))

theorem hrtRejoin_moves {s : State} {fail : List Nat} : Moves [.regs, .recd, .hrt, .mram] s (hrtRejoin s fail) :=
  .foldl .refl fun _ _ => .ite (hrtEvent_moves.after coreUpd_moves.mono) .refl

theorem anvRejoin_moves {s : State} {fail : List Nat} : Moves [.regs, .recd, .anv, .mram] s (anvRejoin s fail) :=
  .foldl .refl fun _ _ => .ite (anvEvent_moves.after anvUpd_moves.mono) .refl

theorem logStart_moves {s : State} {usable : Bool} : Moves [.regs, .recd, .mram, .pwr, .out] s (logStart s usable) :=
  .ite Moves.refl.setRecd (.ite Moves.refl.setPwr logFail_moves)

theorem temperFast_moves {s : State} {x : TemperSave} : Moves [.cnv] s (temperFast s x) :=
  .foldl (.foldl Moves.refl.setCnv fun _ _ => cnvUpd_moves) fun _ _ => by
    split
    · exact sliceUpd_moves
    · exact .refl

theorem cnvStart_moves {s : State} {cold : Bool} : Moves [.regs, .recd, .cnv, .mram, .hdl, .freeCtr] s (cnvStart s cold) :=
  .ite (.foldl (.setCnv Moves.refl.setCnv) fun _ _ => cnvUpd_moves.mono) (by
    split
    · exact .ite (temperFast_moves.after Moves.refl.setCnv) (fgDone_moves.after Moves.refl.setCnv)
    · exact fgDone_moves.after Moves.refl.setCnv)

theorem programStart0_moves {s : State} : Moves [.pst, .cyc] s (programStart0 s) := by
  unfold programStart0
  split
  · exact .ite
        (.setPst (Moves.refl.setCyc fun h => { h with slots := SMap.wf_set _ _ _ h.slots })
        (fun h => { h with points := SMap.wf_foldl (fun _ _ hm => SMap.wf_set _ _ _ hm) h.points })) .refl
  · exact .refl

theorem stnStart_moves {s : State} : Moves [.regs, .recd, .stn, .mram, .hdl] s (stnStart s) := by
  unfold stnStart
  split
  · exact .ite (stnEvent_moves.after tableTakes_moves) .refl
  · exact .refl

theorem parStart_moves {s : State} : Moves [.par] s (parStart s) :=
  .ite Moves.refl.setPar Moves.refl.setPar

theorem firmwareUp_moves {s : State} {n l : Nat} {cold : Bool} {cause : Nat} {x : StartIn} :
    Moves [.regs, .pst, .hif, .recd, .cyc, .hrt, .cnv, .anv, .stn, .seq, .par, .mram, .pwr, .hdl, .out, .freeCtr] s
    (firmwareUp s n l cold cause x) :=
  statusChanged_moves.after (parStart_moves.after (.foldl (stnStart_moves.after
      (programStart0_moves.after (cnvStart_moves.after (logStart_moves.after
      (anvRejoin_moves.after (hrtRejoin_moves.after (.ite (hdlChanged_moves.after (.setHdl (hdlEvent_moves.after (.setPstHifPwrHdl .refl))))
      (hdlEvent_moves.after (.setPstHifPwrHdl .refl))))))))) fun _ _ => seqRestore_moves.mono))

theorem boot_moves {s : State} {l : Nat} {cold : Bool} {cause : Nat} {x : StartIn} :
    Moves [.regs, .pst, .hif, .recd, .cyc, .hrt, .cnv, .anv, .stn, .seq, .wlk, .par, .mram, .pwr, .hdl, .out, .freeCtr] s
    (boot s l cold cause x) := by
  unfold boot
  dsimp only
  exact .ite (enterRecovery_moves.after (.setPwr trialRan_moves.mono)) (by
    split
    · exact enterRecovery_moves.after (bootBank_moves.after (.setPwr (trialCheck_moves.after (.setPwr trialRan_moves.mono))))
    · exact .ite (settingsStart_moves.after (bootBank_moves.after (.setPwr (trialCheck_moves.after (.setPwr trialRan_moves.mono)))))
          (firmwareUp_moves.after (settingsStart_moves.after (bootBank_moves.after
          (.setPwr (trialCheck_moves.after (.setPwr trialRan_moves.mono)))))))

theorem coldStart_moves {s : State} {x : StartIn} :
    Moves [.regs, .staged, .commits, .tmb, .pst, .hif, .recd, .cyc, .hrt, .ile, .cnv, .anv, .cap, .qch, .fbk, .mot, .stn, .seq, .can, .wlk, .par,
    .mram, .pwr, .hdl, .out, .freeCtr] s (coldStart s x) :=
  boot_moves.after (timeCold_moves.after (dieReset_moves.after (.setPwr (.ite (by
    split
    · exact Moves.refl.setPwr
    · exact .refl) .refl))))

theorem execColdStart_next {s : State} {x : StartIn} : Next (mayChange (.coldStart x)) s (execColdStart x s) :=
  .ite (.ok .refl) (.ok coldStart_moves.mono)

theorem execWarmRestart_next {s : State} {cause : Nat} {x : StartIn} : Next (mayChange (.warmRestart cause x)) s (execWarmRestart cause x s) :=
  .ite (.ok (boot_moves.after (timeWarm_moves.after dieReset_moves.mono))) (.ok .refl)

theorem execRailUndervoltage_next {s : State} {aon : Bool} {t : Nat} :
    Next (mayChange (.railUndervoltage aon t)) s (execRailUndervoltage aon t s) :=
  .ok (.ite (hendelReset_moves.after (hold_moves.after (hold_moves.after advance_moves.mono))) (hold_moves.after advance_moves.mono))

theorem execRailRestored_next {s : State} : Next (mayChange .railRestored) s (execRailRestored s) :=
  .ok Moves.refl.setPwr

theorem execTempTrip_next {s : State} {n t : Nat} : Next (mayChange (.tempTrip n t)) s (execTempTrip n t s) :=
  .ite (.ok .refl) (.ok (hold_moves.after (qchFatal_moves.after (recAssign_moves.after advance_moves.mono))))

theorem execTempTripRecovery_next {s : State} {x : StartIn} : Next (mayChange (.tempTripRecovery x)) s (execTempTripRecovery x s) :=
  .ite (.ok coldStart_moves.mono) (.ok .refl)

theorem execProgramAutostart_next {s : State} {t : Nat} : Next (mayChange (.programAutostart t)) s (execProgramAutostart t s) :=
  .ite (.ok (cycBegin_moves.after advance_moves.mono)) (.ok .refl)

theorem execIleAutostart_next {s : State} {t : Nat} : Next (mayChange (.ileAutostart t)) s (execIleAutostart t s) := by
  unfold execIleAutostart
  split
  · exact .ok .refl
  · exact .ite (.ok (.setIle advance_moves.mono)) (.ok .refl)

theorem jtagSet_moves {s : State} {j : Jtag} : Moves [.pwr] s (jtagSet s j) :=
  Moves.refl.setPwr

theorem execJtagBypass_next {s : State} : Next (mayChange .jtagBypass) s (execJtagBypass s) :=
  .ok jtagSet_moves.mono

theorem execJtagIdcode_next {s : State} : Next (mayChange .jtagIdcode) s (execJtagIdcode s) :=
  .ok (send_moves.after jtagSet_moves.mono)

theorem execJtagSamplePreload_next {s : State} : Next (mayChange .jtagSamplePreload) s (execJtagSamplePreload s) :=
  .ok jtagSet_moves.mono

theorem execJtagExtest_next {s : State} : Next (mayChange .jtagExtest) s (execJtagExtest s) :=
  .ok jtagSet_moves.mono

theorem execJtagTrst_next {s : State} : Next (mayChange .jtagTrst) s (execJtagTrst s) :=
  .ok jtagSet_moves.mono

end Sys2Proof.Machine
end

section
/-! What the functions of loading a program may change. -/
set_option Elab.async false
namespace Sys2Proof.Machine
open Sys2Proof

theorem programLoad_moves {s : State} {slot : Nat} {b : Bytes} : Moves [.regs, .recd, .cyc, .mram] s (programLoad s slot b).1 := by
  unfold programLoad
  split
  · exact cycEvent_moves.after bump_moves.mono
  · exact cycEvent_moves.after (Moves.refl.setCyc fun h => { h with slots := SMap.wf_upd _ _ _ h.slots })

end Sys2Proof.Machine
end

section
/-! What the functions of the on-line change may change. -/
set_option Elab.async false
namespace Sys2Proof.Machine
open Sys2Proof

theorem carryAll_moves {s : State} : Moves [.cyc, .freeCtr] s (carryAll s) :=
  .setCyc drawFree_moves.mono (fun h => { h with slots := SMap.wf_upd _ _ _ h.slots })

theorem weldStart_moves {s : State} {c : Cmd} : Moves [.regs, .hif, .recd, .cyc, .mram] s (weldStart s c) := by
  unfold weldStart
  split
  · exact weldEvent_moves.after weldUpd_moves.mono
  · exact endCmd_moves.after event_moves.mono

theorem execWeld_next {s : State} {h : Nat} {data : Option Bytes} : Next (mayChange (.weld h data)) s (execWeld h data s) :=
  .ok (startCmd_moves (fun _ _ => weldStart_moves.mono))

theorem weldCopyPass_moves {s : State} {t : Nat} {copied : List Nat} :
    Moves [.regs, .tmb, .hif, .recd, .cyc, .mram, .freeCtr] s (weldCopyPass t copied s) :=
  .ite .refl (.ite (weldUpd_moves.after (weldUpd_moves.after (carryAll_moves.after advance_moves.mono)))
      (.ite (weldAbandon_moves.after (weldUpd_moves.after (carryAll_moves.after advance_moves.mono)))
      (weldUpd_moves.after (carryAll_moves.after advance_moves.mono))))

theorem execWeldCopyPass_next {s : State} {t : Nat} {copied : List Nat} :
    Next (mayChange (.weldCopyPass t copied)) s (execWeldCopyPass t copied s) :=
  .ok weldCopyPass_moves.mono

theorem execWeldWaitTimeout_next {s : State} : Next (mayChange .weldWaitTimeout) s (execWeldWaitTimeout s) :=
  .ite (.ok (weldAbandon_moves.after advance_moves.mono)) (.ok .refl)

theorem switchTo_moves {s : State} {slot w : Nat} {back : List (Nat × PointRec)} :
    Moves [.regs, .pst, .recd, .cyc, .ile, .wlk, .mram] s (switchTo s slot w back) := by
  refine .setCyc ?_ fun h => { h with classes := SMap.wf_foldl (fun _ _ hm => SMap.wf_set _ _ _ hm) SMap.wf_empty }
  split
  · exact ileRefsNote_moves.after mapSwitch_moves.mono
  · exact .refl

theorem weldGapEnd_moves {s : State} {t : Nat} {good : Bool} :
    Moves [.regs, .tmb, .pst, .hif, .recd, .cyc, .ile, .wlk, .mram, .freeCtr] s (weldGapEnd t good s) :=
  .ite .refl (.ite (weldAbandon_moves.after (weldUpd_moves.after advance_moves.mono)) (by
    dsimp only
    split
    · exact endCmd_moves.after (weldEvent_moves.after (weldUpd_moves.after
          (switchTo_moves.after (carryAll_moves.after (weldUpd_moves.after advance_moves.mono)))))
    · exact weldEvent_moves.after (weldUpd_moves.after (switchTo_moves.after (carryAll_moves.after (weldUpd_moves.after advance_moves.mono))))))

theorem execWeldGapEnd_next {s : State} {t : Nat} {good : Bool} : Next (mayChange (.weldGapEnd t good)) s (execWeldGapEnd t good s) :=
  .ok weldGapEnd_moves.mono

theorem execWeldConfirm_next {s : State} {h : Nat} : Next (mayChange (.weldConfirm h)) s (execWeldConfirm h s) :=
  .ok (startCmd_moves (fun _ _ => .ite (endCmd_moves.after weldConfirm_moves.mono) endCmd_moves.mono))

theorem weldRevert_moves {s : State} {c : Cmd} : Moves [.regs, .hif, .recd, .cyc, .mram] s (weldRevert s c) := by
  unfold weldRevert
  split
  · exact endCmd_moves.after weldAbandon_moves
  · exact endCmd_moves.after weldAbandon_moves
  · exact weldUpd_moves.after weldTrigger_moves.mono
  · exact endCmd_moves.mono

theorem execWeldRevert_next {s : State} {h : Nat} : Next (mayChange (.weldRevert h)) s (execWeldRevert h s) :=
  .ok (startCmd_moves (fun _ _ => weldRevert_moves.mono))

theorem triggerEvent_moves {s : State} {k : EvKind} : Moves [.regs, .recd, .mram, .freeCtr] s (triggerEvent s k) :=
  weldEvent_moves.after drawFree_moves.mono

theorem revertFail_moves {s : State} : Moves [.regs, .hif, .recd, .cyc, .ile, .wlk, .par, .mram, .out, .freeCtr] s (revertFail s) := by
  unfold revertFail
  exact weldUpd_moves.after (cycStop_moves.after (weldUpd_moves.after (by
    split
    · exact endCmd_moves.after triggerEvent_moves.mono
    · exact triggerEvent_moves.mono)))

theorem weldRevertGapEnd_moves {s : State} {t : Nat} {good : Bool} :
    Moves [.regs, .tmb, .pst, .hif, .recd, .cyc, .ile, .wlk, .par, .mram, .out, .freeCtr] s (weldRevertGapEnd t good s) :=
  .ite .refl (.ite (revertFail_moves.after (weldUpd_moves.after advance_moves.mono)) (weldUpd_moves.after (by
    split
    · exact endCmd_moves.after (triggerEvent_moves.after (switchTo_moves.after (weldUpd_moves.after advance_moves.mono)))
    · exact triggerEvent_moves.after (switchTo_moves.after (weldUpd_moves.after advance_moves.mono)))))

theorem execWeldRevertGapEnd_next {s : State} {t : Nat} {good : Bool} :
    Next (mayChange (.weldRevertGapEnd t good)) s (execWeldRevertGapEnd t good s) :=
  .ok weldRevertGapEnd_moves.mono

theorem execRevertInstantTimeout_next {s : State} : Next (mayChange .revertInstantTimeout) s (execRevertInstantTimeout s) :=
  .ite (.ok (revertFail_moves.after advance_moves.mono)) (.ok .refl)

end Sys2Proof.Machine
end

section
/-! What the functions of host commands and their Slices may change. -/
set_option Elab.async false
namespace Sys2Proof.Machine
open Sys2Proof

theorem cmdTaken_moves {s : State} {n : Nat} {c : Cmd} : Moves [.regs, .hif] s { bump s cHifCmdFetched with
      hif := { s.hif with
        sq := s.hif.sq.upd n (fun q => { q with head := (q.head + 1) % sqSize s n })
        nextHandle := s.hif.nextHandle + 1
        cmds := s.hif.cmds ++ [c] } } :=
  .setHif bump_moves.mono fun h => { h with sq := SMap.wf_upd _ _ _ h.sq }

theorem descFetch_moves {s : State} {n : Nat} {d : Option Bytes} : Moves [.regs, .hif, .recd, .mram, .out] s (descFetch n d s) := by
  refine .ite .refl (.ite bump_moves.mono (.ite .refl ?_))
  dsimp only
  split
  · exact haltSq_moves.after (bump_moves.after sqUseTurn_moves.mono)
  · split
    · exact endCmd_moves.after (fetchCheck_moves.after (cmdTaken_moves.after sqUseTurn_moves.mono))
    · exact fetchCheck_moves.after (cmdTaken_moves.after sqUseTurn_moves.mono)

theorem execDescFetch_next {s : State} {n : Nat} {d : Option Bytes} : Next (mayChange (.descFetch n d)) s (execDescFetch n d s) :=
  .ok descFetch_moves.mono

theorem sliceStop_moves {s : State} {c : Cmd} : Moves [.regs, .hif, .recd, .ile, .cnv, .par, .mram, .hdl, .out] s (sliceStop s c) := by
  unfold sliceStop
  split
  · split
    · exact .ite Moves.refl.setIle .refl
    · exact .refl
  · split
    · exact .ite temperFail_moves.mono .refl
    · exact .refl
  · exact .ite xferFail_moves.mono .refl
  · split
    · exact hdlChanged_moves.after bankUpd_moves.mono
    · exact .refl
  · exact .refl

theorem hostAccessLoss_moves {s : State} {link : Bool} {t : Nat} :
    Moves [.regs, .tmb, .pst, .hif, .recd, .hrt, .ile, .cnv, .par, .mram, .hdl, .out] s (hostAccessLoss link t s) :=
  statusChanged_moves.after (linkEvent_moves.after (bump_moves.after
      (.setHif (.foldl (.setHifRecd (.foldl (.foldl advance_moves.mono
      fun _ _ => setFld_moves.after setFld_moves.mono) fun _ _ => viewClose_moves.mono)) fun _ _ => endCmd_moves.after
      (sliceStop_moves.after sliceDrop_moves.mono)))))

theorem execHostAccessLoss_next {s : State} {link : Bool} {t : Nat} : Next (mayChange (.hostAccessLoss link t)) s (execHostAccessLoss link t s) :=
  .ok hostAccessLoss_moves.mono

theorem sliceTotal_moves {s : State} {h n : Nat} : Moves [.regs, .hif, .recd, .hrt, .mram, .freeCtr] s (sliceTotal s h n) :=
  slicePass_moves.after cmdUpd_moves.mono

theorem execPointRead_next {s : State} {h : Nat} {data : Option Bytes} {fails : List Nat} :
    Next (mayChange (.pointRead h data fails)) s (execPointRead h data fails s) :=
  .ok (startCmd_moves (fun _ _ => sliceTotal_moves.after (.foldl .refl fun _ _ => tileFetchFails_moves.mono)))

theorem execPointWrite_next {s : State} {h : Nat} {data : Option Bytes} : Next (mayChange (.pointWrite h data)) s (execPointWrite h data s) :=
  .ok (startCmd_moves (fun _ _ => sliceTotal_moves.mono))

theorem execPointLookup_next {s : State} {h : Nat} {data : Option Bytes} : Next (mayChange (.pointLookup h data)) s (execPointLookup h data s) :=
  .ok (startCmd_moves (fun _ _ => sliceTotal_moves.mono))

theorem execMapLoad_next {s : State} {h : Nat} {data : Option Bytes} : Next (mayChange (.mapLoad h data)) s (execMapLoad h data s) :=
  .ok (startCmd_moves (fun _ _ => sliceTotal_moves.mono))

theorem execViewOpen_next {s : State} {h : Nat} {data : Option Bytes} {desc : Bytes} :
    Next (mayChange (.viewOpen h data desc)) s (execViewOpen h data desc s) :=
  .ok (startCmd_moves (fun _ _ => sliceTotal_moves.after cmdUpd_moves.mono))

theorem execViewChange_next {s : State} {h : Nat} {data : Option Bytes} {desc : Bytes} {cons : Option Nat} :
    Next (mayChange (.viewChange h data desc cons)) s (execViewChange h data desc cons s) :=
  .ok (startCmd_moves (fun _ _ => sliceTotal_moves.after (cmdUpd_moves.after (by
    split
    · exact Moves.refl.setPst fun h => { h with views := SMap.wf_upd _ _ _ h.views }
    · exact .refl))))

theorem execForceSet_next {s : State} {h : Nat} {data : Option Bytes} : Next (mayChange (.forceSet h data)) s (execForceSet h data s) :=
  .ok (startCmd_moves (fun _ _ => sliceTotal_moves.mono))

theorem execForceClear_next {s : State} {h : Nat} {data : Option Bytes} : Next (mayChange (.forceClear h data)) s (execForceClear h data s) :=
  .ok (startCmd_moves (fun _ _ => sliceTotal_moves.mono))

theorem execForceList_next {s : State} {h : Nat} : Next (mayChange (.forceList h)) s (execForceList h s) :=
  .ok (startCmd_moves (fun _ _ => sliceTotal_moves.mono))

theorem loadStart_moves {s : State} {op h : Nat} {data : Option Bytes} :
    Moves [.regs, .hif, .recd, .hrt, .wlk, .par, .mram, .out, .freeCtr] s (loadStart op h data s) :=
  startCmd_moves (fun _ _ => .ite endCmd_moves.mono sliceTotal_moves.mono)

theorem execProgramLoad_next {s : State} {h : Nat} {data : Option Bytes} : Next (mayChange (.programLoad h data)) s (execProgramLoad h data s) :=
  .ok loadStart_moves.mono

theorem execIleLoad_next {s : State} {h : Nat} {data : Option Bytes} : Next (mayChange (.ileLoad h data)) s (execIleLoad h data s) :=
  .ok loadStart_moves.mono

theorem execRecipeLoad_next {s : State} {h : Nat} {data : Option Bytes} : Next (mayChange (.recipeLoad h data)) s (execRecipeLoad h data s) :=
  .ok loadStart_moves.mono

theorem execProfileLoad_next {s : State} {h : Nat} {data : Option Bytes} : Next (mayChange (.profileLoad h data)) s (execProfileLoad h data s) :=
  .ok (startCmd_moves (fun _ _ => sliceTotal_moves.mono))

theorem execStnTableLoad_next {s : State} {h : Nat} {data : Option Bytes} : Next (mayChange (.stnTableLoad h data)) s (execStnTableLoad h data s) :=
  .ok (startCmd_moves (fun _ _ => sliceTotal_moves.mono))

theorem execTemperRun_next {s : State} {h : Nat} : Next (mayChange (.temperRun h)) s (execTemperRun h s) :=
  .ok (startCmd_moves (fun _ _ => sliceTotal_moves.after temperRun_moves.mono))

theorem execCapRead_next {s : State} {h : Nat} : Next (mayChange (.capRead h)) s (execCapRead h s) :=
  .ok (startCmd_moves (fun _ _ => .ite endCmd_moves.mono (.ite endCmd_moves.mono sliceTotal_moves.mono)))

theorem logReadStart_moves {s : State} {c : Cmd} {volatile : Bool} {next : Nat} :
    Moves [.regs, .hif, .recd, .hrt, .mram, .freeCtr] s (logReadStart s c volatile next) :=
  .ite endCmd_moves.mono (.ite endCmd_moves.mono (sliceTotal_moves.after cmdUpd_moves.mono))

theorem execLogRead_next {s : State} {h : Nat} : Next (mayChange (.logRead h)) s (execLogRead h s) :=
  .ok (startCmd_moves (fun _ _ => logReadStart_moves.mono))

theorem execHdlLogRead_next {s : State} {h : Nat} : Next (mayChange (.hdlLogRead h)) s (execHdlLogRead h s) :=
  .ok (startCmd_moves (fun _ _ => logReadStart_moves.mono))

theorem execTraceRead_next {s : State} {h : Nat} : Next (mayChange (.traceRead h)) s (execTraceRead h s) :=
  .ok (startCmd_moves (fun _ _ => sliceTotal_moves.after cmdUpd_moves.mono))

theorem execStateTransfer_next {s : State} {h : Nat} : Next (mayChange (.stateTransfer h)) s (execStateTransfer h s) :=
  .ok (startCmd_moves
      (fun _ _ => .ite endCmd_moves.mono
      (.ite endCmd_moves.mono (.ite endCmd_moves.mono (.ite endCmd_moves.mono (.ite endCmd_moves.mono xferStart_moves.mono))))))

theorem execBilletStage_next {s : State} {h : Nat} {data : Option Bytes} : Next (mayChange (.billetStage h data)) s (execBilletStage h data s) :=
  .ok (startCmd_moves
      (fun _ _ => .ite (endCmd_moves.after (event_moves.after bump_moves.mono))
      (.ite (endCmd_moves.after (event_moves.after (bump_moves.after (hdlChanged_moves.after bankUpd_moves.mono))))
      (sliceTotal_moves.after stageBegin_moves.mono))))

theorem mapLoad_moves {s : State} {slot : Nat} {b : Bytes} : Moves [.regs, .recd, .cyc, .mram] s (mapLoad s slot b).1 :=
  .ite_fst (event_moves.after bump_moves.mono) (by
    split
    · exact event_moves.after bump_moves.mono
    · exact event_moves.after (Moves.refl.setCyc fun h => { h with slots := SMap.wf_upd _ _ _ h.slots }))

theorem loadDone_moves {s : State} {c : Cmd} : Moves [.regs, .pst, .recd, .cyc, .mot, .stn, .seq, .mram, .aon, .hdl, .out] s (loadDone s c).1 := by
  unfold loadDone
  split
  · exact mapLoad_moves.mono
  · exact viewSet_moves.mono
  · exact viewSet_moves.mono
  · exact programLoad_moves.mono
  · exact recipeLoad_moves.mono
  · exact profileLoad_moves.mono
  · exact stnTableLoad_moves.mono
  · split
    · exact stageEnd_moves.mono
    · exact .refl

theorem loadSlice_moves {s : State} {c : Cmd} {n : Nat} :
    Moves [.regs, .pst, .hif, .recd, .cyc, .ile, .mot, .stn, .seq, .mram, .aon, .hdl, .out] s (loadSlice s c n) :=
  .ite cmdUpd_moves.mono (.ite (.ite cmdUpd_moves.mono (ileLoad_moves.after (cmdUpd_moves.after cmdUpd_moves.mono)))
      (endCmd_moves.after (loadDone_moves.after cmdUpd_moves.mono)))

theorem readUnits_moves {l : List Part} {f : State → Nat → State × Bool} (hf : ∀ u i, Moves l u (f u i).1) (n i k : Nat) (s : State) :
    Moves l s (readUnits f n i k s).1 := by
  induction n generalizing i k s with
  | zero => exact .refl
  | succ n ih => exact .trans (hf _ _) (ih _ _ _)

theorem listDone_moves {s : State} {c : Cmd} {n k : Nat} : Moves [.hif] s (listDone s c n k) :=
  .ite cmdUpd_moves (endCmd_moves.after cmdUpd_moves)

theorem clearUnit_moves {s : State} {c : Cmd} {i : Nat} : Moves [.regs, .pst, .hif, .recd, .cap, .wlk, .mram, .out] s (clearUnit c s i).1 := by
  unfold clearUnit
  dsimp only
  split
  · exact forceClear_moves
  · exact .refl

theorem forceListSlice_moves (n : Nat) (c : Cmd) (s : State) : Moves [.out] s (forceListSlice n c s).1 := by
  induction n generalizing c s with
  | zero => exact .refl
  | succ n ih =>
    unfold forceListSlice
    refine .ite_fst .refl ?_
    split
    · exact .refl
    · exact .trans (send_moves.after send_moves) (ih _ _)

theorem capSlice_moves (n : Nat) (torn : Bool) (c : Cmd) (s : State) : Moves [.regs, .out] s (capSlice n torn c s).1 := by
  induction n generalizing torn c s with
  | zero => exact .refl
  | succ n ih =>
    unfold capSlice
    refine .ite_fst .refl ?_
    split
    · exact .refl
    · exact .ite_fst .refl (.trans (send_moves.after bump_moves.mono) (ih _ _ _))

theorem traceSlice_moves {s : State} {n : Nat} {c : Cmd} : Moves [.out] s (traceSlice n c s).1 :=
  .foldl .refl fun _ _ => send_moves

theorem readoutDone_moves {l : List Part} {s : State} {r : State × Cmd × Bool} (h :
    Moves l s r.1) (hl : [.hif] ⊆ l := by exact Part.subset_of_within rfl) :
    Moves l s (readoutDone r) := by
  have kept {f : Cmd → Cmd} : Moves l s (cmdUpd r.1 r.2.1.handle f) := .trans h (.sub cmdUpd_moves hl)
  exact .ite (.trans kept (.sub endCmd_moves hl)) kept

theorem entriesSlice_moves {s : State} {c : Cmd} {k : Nat} {f : State → Bytes → State × WriteRes} {addr : Option Nat}
    (hf : ∀ u b, Moves [.regs, .pst, .hif, .recd, .cap, .wlk, .mram, .out] u (f u b).1) :
    Moves [.regs, .pst, .hif, .recd, .cap, .wlk, .mram, .out] s
      (let (s, bad) := runEntries f addr c.data k c.done c.firstBad s
       let d := c.done + k
       let s := cmdUpd s c.handle fun x => { x with done := d, firstBad := bad }
       if d < c.total then s
       else match bad with
         | some (st, i) => endCmd s c.handle st i d
         | none => endCmd s c.handle .ok c.total d) := by
  have run {bad : Option (Status × Nat)} : Moves [.regs, .pst, .hif, .recd, .cap, .wlk, .mram, .out] s
      (runEntries f addr c.data k c.done bad s).1 :=
    runEntries_moves hf (n := k) (i := c.done) (bad := bad) (s := s)
  dsimp only
  refine .ite (cmdUpd_moves.after run) ?_
  split
  · exact endCmd_moves.after (cmdUpd_moves.after run)
  · exact endCmd_moves.after (cmdUpd_moves.after run)

theorem sliceRun_moves {s : State} {c : Cmd} {n : Nat} {torn : Bool} :
    Moves [.regs, .pst, .hif, .recd, .cyc, .ile, .cnv, .cap, .mot, .stn, .seq, .wlk, .mram, .aon, .hdl, .out, .freeCtr] s
    (sliceRun s c n torn) := by
  have entries {f : State → Bytes → State × WriteRes} {addr : Option Nat} {k : Nat}
      (hf : ∀ u b, Moves [.regs, .pst, .hif, .recd, .cap, .wlk, .mram, .out] u (f u b).1) := entriesSlice_moves (s := s) (c := c) (k := k)
          (addr := addr) hf
  have writes {u : State} {b : Bytes} : Moves [.regs, .pst, .hif, .recd, .cap, .wlk, .mram, .out] u
      ((if c.opcode = 0x11 then (fun s b => pointWriteEntry s (c.sq % 64) b) else forceSetEntry) u b).1 := by
    split
    · exact pointWriteEntry_moves
    · exact forceSetEntry_moves
  unfold sliceRun
  dsimp only
  split
  · exact listDone_moves.after (readUnits_moves (fun _ _ => send_moves.mono) _ _ _ _)
  · exact listDone_moves.after (readUnits_moves (fun _ _ => send_moves.mono) _ _ _ _)
  · exact listDone_moves.after (readUnits_moves (fun _ _ => clearUnit_moves.mono) _ _ _ _)
  · exact (entries fun _ _ => writes).mono
  · exact (entries fun _ _ => writes).mono
  · exact readoutDone_moves (forceListSlice_moves _ _ _).mono
  · exact readoutDone_moves (capSlice_moves _ _ _ _).mono
  · exact readoutDone_moves (readRecs_moves _ _ _).mono
  · exact readoutDone_moves (readRecs_moves _ _ _).mono
  · exact readoutDone_moves traceSlice_moves.mono
  · exact .ite cmdUpd_moves.mono (temperDone_moves.after cmdUpd_moves.mono)
  · exact .refl
  · exact loadSlice_moves.mono

theorem sliceAborted_moves {s : State} {c : Cmd} : Moves [.regs, .hif, .recd, .ile, .cnv, .par, .mram, .hdl, .out] s (sliceAborted s c) :=
  endCmd_moves.after (sliceStop_moves.after (hifEvent_moves.after bump_moves.mono))

theorem commandSlice_moves {s : State} {h n : Nat} {reach torn : Bool} :
    Moves [.regs, .pst, .hif, .recd, .cyc, .hrt, .ile, .cnv, .cap, .mot, .stn, .seq, .wlk, .par, .mram, .aon, .hdl, .out, .freeCtr] s
    (commandSlice h n reach torn s) := by
  unfold commandSlice
  split
  · exact .refl
  · exact .ite .refl (by
      split
      · exact .ite .refl (slicePass_moves.after (sliceAborted_moves.after sliceDrop_moves.mono))
      · exact .ite .refl (slicePass_moves.after (by
          split
          · exact .ite (sliceAborted_moves.after (.ite (endCmd_moves.after
                (sliceStop_moves.after (hifEvent_moves.after (bump_moves.after sliceItemEnd_moves.mono))))
                (sliceOwe_moves.after (sliceServed_moves.after (sliceRun_moves.after (bump_moves.after sliceItemEnd_moves.mono))))))
                (.ite (endCmd_moves.after (sliceStop_moves.after (hifEvent_moves.after (bump_moves.after sliceItemEnd_moves.mono))))
                (sliceOwe_moves.after (sliceServed_moves.after (sliceRun_moves.after (bump_moves.after sliceItemEnd_moves.mono)))))
          · exact .ite (endCmd_moves.after (sliceStop_moves.after (hifEvent_moves.after (bump_moves.after sliceItemEnd_moves.mono))))
                (sliceOwe_moves.after (sliceServed_moves.after (sliceRun_moves.after (bump_moves.after sliceItemEnd_moves.mono)))))))

theorem execCommandSlice_next {s : State} {h n : Nat} {reach torn : Bool} :
    Next (mayChange (.commandSlice h n reach torn)) s (execCommandSlice h n reach torn s) :=
  .ok commandSlice_moves.mono

theorem slicesFailed_moves {s : State} : Moves [.regs, .hif, .recd, .ile, .cnv, .par, .mram, .hdl, .out] s (slicesFailed s) :=
  .foldl .refl fun _ _ => by
    split
    · exact .ite (endCmd_moves.after sliceStop_moves) .refl
    · exact .refl

theorem execItemLimitTimeout_next {s : State} {core : Nat} : Next (mayChange (.itemLimitTimeout core)) s (execItemLimitTimeout core s) :=
  .ok (slicesFailed_moves.after itemLimitTimeout_moves.mono)

theorem execCorePairMismatch_next {s : State} {core t : Nat} : Next (mayChange (.corePairMismatch core t)) s (execCorePairMismatch core t s) :=
  .ok (slicesFailed_moves.after corePairMismatch_moves.mono)

theorem execTimeRead_next {s : State} {h : Nat} {written : Bool} : Next (mayChange (.timeRead h written)) s (execTimeRead h written s) :=
  .ok (startCmd_moves (fun _ _ => endCmd_moves.after send_moves.mono))

theorem launchEntries_moves {l : List Part} {f : State → LqEntry → State × Status} {data : Bytes} (hf : ∀ u e, Moves l u (f u e).1) (n i : Nat) (s :
    State) :
    Moves l s (launchEntries f data n i s).1 := by
  induction n generalizing i s with
  | zero => exact .refl
  | succ n ih =>
    unfold launchEntries
    split
    · exact .refl
    · exact .ite_fst (.trans (hf _ _) (ih _ _)) (hf _ _)

theorem launchQueue_moves {h : Nat} {data : Option Bytes} {unit a2 : Nat} {f : State → LqEntry → State × Status} (hf : launchQueue unit a2 = some f)
    (u : State) (e : LqEntry) :
    Moves (mayChange (.launch h data)) u (f u e).1 := by
  unfold launchQueue at hf
  split at hf
  · cases hf
    exact tioEnqueue_moves.mono
  · split at hf
    · cases hf
      exact motEnqueue_moves.mono
    · split at hf <;> cases hf
      exact capEnqueue_moves.mono

theorem execLaunch_next {s : State} {h : Nat} {data : Option Bytes} : Next (mayChange (.launch h data)) s (execLaunch h data s) := by
  refine .ok (startCmd_moves (l := mayChange (.launch h data)) fun _ _ => ?_)
  split
  · exact endCmd_moves.after (hifEvent_moves.after bump_moves.mono)
  next f hf => exact endCmd_moves.after (launchEntries_moves (launchQueue_moves hf) _ _ _)

end Sys2Proof.Machine
end

section
/-! What the functions of the feedback commands may change. -/
set_option Elab.async false
namespace Sys2Proof.Machine
open Sys2Proof

theorem fbkPass_moves {s : State} {n : Nat} : Moves [.regs, .tmb, .wlk, .par, .out] s (fbkPass s n) :=
  .ite (.foldl .refl fun _ _ => pinDrive_moves) .refl

theorem fbkConfig_moves {s : State} {lv : Nat} {c : Cmd} :
    Moves [.regs, .tmb, .hif, .recd, .fbk, .wlk, .par, .mram, .out] s (fbkConfig lv s c) := by
  unfold fbkConfig
  dsimp only
  split
  · exact endCmd_moves.after (fbkEvent_moves.after bump_moves.mono)
  · exact endCmd_moves.after (fbkEvent_moves.after (.ite (pinDrive_moves.after
        (.ite (.setFbk claimPins_moves.mono (fun h => SMap.wf_set _ _ _ h))
        (pinDrive_moves.after (fbkPass_moves.after (.setFbk claimPins_moves.mono
        (fun h => SMap.wf_set _ _ _ h))))))
        (.ite (.setFbk claimPins_moves.mono (fun h => SMap.wf_set _ _ _ h))
        (pinDrive_moves.after (fbkPass_moves.after (.setFbk claimPins_moves.mono (fun h => SMap.wf_set _ _ _ h)))))))

theorem execFbkConfig_next {s : State} {h : Nat} {data : Option Bytes} {lv : Nat} :
    Next (mayChange (.fbkConfig h data lv)) s (execFbkConfig h data lv s) :=
  .ok (startCmd_moves (fun _ _ => fbkConfig_moves.mono))

theorem compareLoad_moves {s : State} {c : Cmd} : Moves [.regs, .hif, .recd, .fbk, .mram] s (compareLoad s c) := by
  unfold compareLoad
  dsimp only
  split
  · exact endCmd_moves.after (fbkEvent_moves.after bump_moves.mono)
  · exact endCmd_moves.after (.ite (.ite (cmpJudge_moves.after (fbkUpd_moves.after fbkEvent_moves.mono)) (fbkUpd_moves.after fbkEvent_moves.mono))
        (cmpJudge_moves.after (fbkUpd_moves.after fbkEvent_moves.mono)))

theorem execCompareLoad_next {s : State} {h : Nat} {data : Option Bytes} : Next (mayChange (.compareLoad h data)) s (execCompareLoad h data s) :=
  .ok (startCmd_moves (fun _ _ => compareLoad_moves.mono))

theorem execComparePulseEnd_next {s : State} {n : Nat} : Next (mayChange (.comparePulseEnd n)) s (execComparePulseEnd n s) := by
  unfold execComparePulseEnd
  dsimp only
  split
  · exact .ok .refl
  · exact .ite (.ok (pinDrive_moves.after (fbkUpd_moves.after advance_moves.mono)))
        (.ok (pinDrive_moves.after (fbkUpd_moves.after advance_moves.mono)))

theorem fbkBad_moves {s : State} {n : Nat} : Moves [.regs, .hif, .recd, .fbk, .mot, .mram] s (fbkBad s n) :=
  .ite .refl (axOnFbk_moves.after (fbkEvent_moves.after (bump_moves.after fbkUpd_moves.mono)))

theorem fbkError_moves {s : State} {n t : Nat} : Moves [.regs, .hif, .recd, .fbk, .mot, .mram] s (fbkError s n t) :=
  .ite (fbkBad_moves.after (fbkUpd_moves.after bump_moves.mono)) (fbkUpd_moves.after bump_moves.mono)

theorem fbkImplaus_moves {s : State} {n : Nat} :
    Moves [.regs, .hif, .recd, .anv, .cap, .qch, .fbk, .mot, .wlk, .par, .mram, .out, .freeCtr] s (fbkImplaus s n) :=
  axOnFbk_moves.after (.foldl (fbkEvent_moves.after (bump_moves.after fbkUpd_moves.mono)) fun _ _ => by
    split
    · exact .ite (axOnLoop_moves.after loopImplaus_moves.mono) .refl
    · exact .refl)

theorem fbkMismatch_moves {s : State} {n : Nat} {d : Int} :
    Moves [.regs, .hif, .recd, .anv, .cap, .qch, .fbk, .mot, .wlk, .par, .mram, .out, .freeCtr] s (fbkMismatch s n d) :=
  .ite (fbkImplaus_moves.after (fbkUpd_moves.after fbkEvent_moves.mono)) (fbkUpd_moves.after fbkEvent_moves.mono)

theorem indexMissing_moves {s : State} {n : Nat} :
    Moves [.regs, .hif, .recd, .anv, .cap, .qch, .fbk, .mot, .wlk, .par, .mram, .out, .freeCtr] s (indexMissing s n) :=
  .ite (fbkMismatch_moves.after (bump_moves.after fbkUpd_moves.mono)) .refl

theorem execQuadEdge_next {s : State} {n : Nat} {a b : Bool} {t : Nat} : Next (mayChange (.quadEdge n a b t)) s (execQuadEdge n a b t s) :=
  .ite (.ok .refl) (.ite (.ok .refl) (.ite (.ok (fbkError_moves.after (fbkPass_moves.after (fbkUpd_moves.after advance_moves.mono))))
      (.ok (indexMissing_moves.after (fbkMove_moves.after (fbkPass_moves.after (fbkUpd_moves.after advance_moves.mono)))))))

theorem execHallChange_next {s : State} {n code t : Nat} : Next (mayChange (.hallChange n code t)) s (execHallChange n code t s) :=
  .ite (.ok .refl) (by
    dsimp only
    split
    · exact .ok (fbkError_moves.after (fbkPass_moves.after (fbkUpd_moves.after advance_moves.mono)))
    · exact .ite (.ok (fbkUpd_moves.after (fbkPass_moves.after (fbkUpd_moves.after advance_moves.mono))))
          (.ite (.ok (fbkMove_moves.after (fbkUpd_moves.after (fbkPass_moves.after (fbkUpd_moves.after advance_moves.mono)))))
          (.ite (.ok (fbkMove_moves.after (fbkUpd_moves.after (fbkPass_moves.after (fbkUpd_moves.after advance_moves.mono)))))
          (.ok (fbkError_moves.after (fbkUpd_moves.after (fbkPass_moves.after (fbkUpd_moves.after advance_moves.mono))))))))

theorem execSsiFrameStart_next {s : State} {n : Nat} : Next (mayChange (.ssiFrameStart n)) s (execSsiFrameStart n s) :=
  .ite (.ok .refl) (.ok (pinDrive_moves.after (fbkUpd_moves.after advance_moves.mono)))

theorem execSsiFrameEnd_next {s : State} {n : Nat} {high low : Bool} {data : Nat} :
    Next (mayChange (.ssiFrameEnd n high low data)) s (execSsiFrameEnd n high low data s) := by
  unfold execSsiFrameEnd
  dsimp only
  split
  · exact .ok .refl
  · exact .ite (.ok (.ite (fbkBad_moves.after (bump_moves.after (fbkUpd_moves.after
        (pinDrive_moves.after (bump_moves.after (fbkUpd_moves.after advance_moves.mono))))))
        (bump_moves.after (fbkUpd_moves.after (pinDrive_moves.after (bump_moves.after (fbkUpd_moves.after advance_moves.mono)))))))
        (.ok (.ite (fbkFollow_moves.after (fbkUpd_moves.after (fbkMove_moves.after
        (fbkUpd_moves.after (pinDrive_moves.after (bump_moves.after (fbkUpd_moves.after advance_moves.mono)))))))
        (fbkMove_moves.after (fbkUpd_moves.after (pinDrive_moves.after (bump_moves.after (fbkUpd_moves.after advance_moves.mono)))))))

theorem indexCorrect_moves {s : State} {n : Nat} {d : Int} : Moves [.regs, .recd, .fbk, .mram] s (indexCorrect s n d) :=
  cmpJudge_moves.after (fbkUpd_moves.after (fbkEvent_moves.after bump_moves.mono))

theorem execIndexEdge_next {s : State} {n t : Nat} : Next (mayChange (.indexEdge n t)) s (execIndexEdge n t s) :=
  .ite (.ok .refl) (.ok (homeIndex_moves.after (by
    split
    · exact fbkUpd_moves.after (fbkUpd_moves.after (bump_moves.after advance_moves.mono))
    · exact .ite (indexCorrect_moves.after (.ite (.ite (fbkEvent_moves.after
          (fbkUpd_moves.after (fbkUpd_moves.after (fbkUpd_moves.after (bump_moves.after advance_moves.mono)))))
          (fbkUpd_moves.after (fbkUpd_moves.after (bump_moves.after advance_moves.mono))))
          (fbkMismatch_moves.after (bump_moves.after (fbkUpd_moves.after
          (setFld_moves.after (fbkUpd_moves.after (bump_moves.after advance_moves.mono))))))))
          (.ite (.ite (fbkEvent_moves.after (fbkUpd_moves.after (fbkUpd_moves.after (fbkUpd_moves.after (bump_moves.after advance_moves.mono)))))
          (fbkUpd_moves.after (fbkUpd_moves.after (bump_moves.after advance_moves.mono))))
          (fbkMismatch_moves.after (bump_moves.after (fbkUpd_moves.after
          (setFld_moves.after (fbkUpd_moves.after (bump_moves.after advance_moves.mono))))))))))

theorem fbkSnap_moves {s : State} {v : Word} : Moves [.fbk, .freeCtr] s (fbkSnap v s) := by
  have noted {u : State} {t : Nat} (h : Moves [.fbk, .freeCtr] s u) :
      Moves [.fbk, .freeCtr] s { u with fbk := { u.fbk with snapAt := t, snapUnread := true } } := h.setFbk
  exact .ite (noted (.foldl .refl fun _ _ => .ite (fbkUpd_moves.after fbkLatch_moves) .refl)) .refl

theorem execFbkSnap_next {s : State} {v : Word} : Next (mayChange (.fbkSnap v)) s (execFbkSnap v s) :=
  regCmd_next (fun _ => fbkSnap_moves.mono)

theorem execFbkPublish_next {s : State} {n t : Nat} : Next (mayChange (.fbkPublish n t)) s (execFbkPublish n t s) :=
  .ite (.ok .refl) (.ok (bumpN_moves.after (inputGroup_moves.after (fbkLatch_moves.after advance_moves.mono))))

end Sys2Proof.Machine
end

section
/-! What the functions of PTP may change. -/
set_option Elab.async false
namespace Sys2Proof.Machine
open Sys2Proof

theorem ptpUpd_moves {s : State} {f : Ptp → Ptp} : Moves [.tmb] s (ptpUpd s f) :=
  Moves.refl.setTmb

theorem ptpBad_moves {s : State} {p : Nat} : Moves [.regs, .recd, .mram] s (ptpBad s p) :=
  tmbEvent_moves.after bump_moves.mono

theorem ptpMeasure_moves {s : State} {t1 corr rx : Int} : Moves [.regs, .tmb, .recd, .mram, .freeCtr] s (ptpMeasure s t1 corr rx) :=
  .ite ptpUpd_moves.mono (measure_moves.after ptpUpd_moves.mono)

theorem execPtpSyncRx_next {s : State} {p domain seq : Nat} {t1 : Option Int} {corr raw : Int} {t : Nat} :
    Next (mayChange (.ptpSyncRx p domain seq t1 corr raw t)) s (execPtpSyncRx p domain seq t1 corr raw t s) :=
  .ite (.ok advance_moves.mono) (by
    split
    · exact .ok (ptpMeasure_moves.after (ptpUpd_moves.after (rxCount_moves.after (.ite (bump_moves.after advance_moves.mono) advance_moves.mono))))
    · exact .ok (ptpUpd_moves.after (ptpUpd_moves.after (rxCount_moves.after (.ite (bump_moves.after advance_moves.mono) advance_moves.mono)))))

theorem execPtpFollowUpRx_next {s : State} {p domain seq : Nat} {t1 corr : Int} {t : Nat} :
    Next (mayChange (.ptpFollowUpRx p domain seq t1 corr t)) s (execPtpFollowUpRx p domain seq t1 corr t s) :=
  .ite (.ok advance_moves.mono) (by
    split
    · exact .ite (.ok (ptpMeasure_moves.after (rxCount_moves.after advance_moves.mono)))
          (.ok (ptpBad_moves.after (rxCount_moves.after advance_moves.mono)))
    · exact .ok (ptpBad_moves.after (rxCount_moves.after advance_moves.mono)))

theorem execFollowUpTimeout_next {s : State} : Next (mayChange .followUpTimeout) s (execFollowUpTimeout s) := by
  unfold execFollowUpTimeout
  split
  · exact .ok .refl
  · exact .ok (ptpBad_moves.after (ptpUpd_moves.after advance_moves.mono))

theorem execPtpDelayRespRx_next {s : State} {p domain seq : Nat} {t4 corr : Int} {t : Nat} :
    Next (mayChange (.ptpDelayRespRx p domain seq t4 corr t)) s (execPtpDelayRespRx p domain seq t4 corr t s) :=
  .ite (.ok advance_moves.mono) (by
    split
    · exact .ite (.ok (ptpBad_moves.after (rxCount_moves.after advance_moves.mono)))
          (.ok (ptpUpd_moves.after (rxCount_moves.after advance_moves.mono)))
    · exact .ite (.ok (ptpBad_moves.after (rxCount_moves.after advance_moves.mono)))
          (.ok (ptpUpd_moves.after (rxCount_moves.after advance_moves.mono)))
    · exact .ok (ptpBad_moves.after (rxCount_moves.after advance_moves.mono)))

theorem notCapable_moves {s : State} {p : Nat} : Moves [.regs, .tmb, .recd, .mram] s (notCapable s p) :=
  sourceLost_moves.after (tmbEvent_moves.after (bump_moves.after ptpUpd_moves.mono))

theorem execPtpPdelayRx_next {s : State} {p seq : Nat} {resp : Option (Int × Int)} {raw : Int} {t : Nat} :
    Next (mayChange (.ptpPdelayRx p seq resp raw t)) s (execPtpPdelayRx p seq resp raw t s) :=
  .ite (.ok advance_moves.mono) (by
    split
    · exact .ok (egressPut_moves.after (rxCount_moves.after advance_moves.mono))
    · split
      · exact .ok (rxCount_moves.after advance_moves.mono)
      · exact .ite (.ok (rxCount_moves.after advance_moves.mono)) (.ite (.ok (notCapable_moves.after (rxCount_moves.after advance_moves.mono)))
            (.ok (ptpUpd_moves.after (rxCount_moves.after advance_moves.mono)))))

theorem execPdelayTimeout_next {s : State} {t : Nat} : Next (mayChange (.pdelayTimeout t)) s (execPdelayTimeout t s) :=
  .ite (.ok advance_moves.mono) (.ite (.ok (notCapable_moves.after (ptpUpd_moves.after (ptpUpd_moves.after advance_moves.mono))))
      (.ok (ptpUpd_moves.after advance_moves.mono)))

theorem execPtpAnnounceRx_next {s : State} {p domain ds : Nat} {utcValid : Bool} {utc : Int} {t : Nat} :
    Next (mayChange (.ptpAnnounceRx p domain ds utcValid utc t)) s (execPtpAnnounceRx p domain ds utcValid utc t s) :=
  .ite (.ok advance_moves.mono) (.ite (.ok (rxCount_moves.after advance_moves.mono))
      (.ite (.ok (openEpoch_moves.after (ptpUpd_moves.after (rxCount_moves.after advance_moves.mono))))
      (.ok (ptpUpd_moves.after (rxCount_moves.after advance_moves.mono)))))

theorem execAnnounceTimeout_next {s : State} {t : Nat} : Next (mayChange (.announceTimeout t)) s (execAnnounceTimeout t s) :=
  .ite (.ok (sourceLost_moves.after (bump_moves.after (ptpUpd_moves.after advance_moves.mono)))) (.ok advance_moves.mono)

theorem execPtpDelayReqRx_next {s : State} {p seq : Nat} {mac : Bytes} {raw : Int} {t : Nat} :
    Next (mayChange (.ptpDelayReqRx p seq mac raw t)) s (execPtpDelayReqRx p seq mac raw t s) :=
  .ite (.ok advance_moves.mono) (.ok (egressPlain_moves.after (rxCount_moves.after advance_moves.mono)))

theorem execPtpMasterTx_next {s : State} {p : Nat} {announce : Bool} {t : Nat} :
    Next (mayChange (.ptpMasterTx p announce t)) s (execPtpMasterTx p announce t s) :=
  .ite (.ok advance_moves.mono) (.ite (.ok (egressPlain_moves.after (ptpUpd_moves.after advance_moves.mono)))
      (.ok (egressPut_moves.after (ptpUpd_moves.after advance_moves.mono))))

theorem execPtpDelayReqTx_next {s : State} {t : Nat} : Next (mayChange (.ptpDelayReqTx t)) s (execPtpDelayReqTx t s) :=
  .ite (.ok advance_moves.mono) (.ok (egressPut_moves.after (ptpUpd_moves.after advance_moves.mono)))

end Sys2Proof.Machine
end

section
/-! What the functions of register accesses may change. -/
set_option Elab.async false
namespace Sys2Proof.Machine
open Sys2Proof

theorem commitTakes_moves {s : State} {w : Nat} : Moves [.regs, .staged, .tmb, .recd, .wlk, .par, .mram, .out] s (commitTakes s w) := by
  unfold commitTakes
  split
  · exact tmbCommitApply_moves.mono
  · exact wlkCommitApply_moves.mono
  · exact parCommitApply_moves.mono
  · exact applyStaged_moves.mono

theorem commitWrite1_moves {s : State} {w : Nat} : Moves [.commits] s (commitWrite1 w s) :=
  .ite .refl setCommit_moves

theorem commitApply_moves {s : State} {w t : Nat} :
    Moves [.regs, .staged, .commits, .tmb, .recd, .wlk, .par, .mram, .hdl, .out] s (commitApply w t s) :=
  .ite .refl (by
    dsimp only
    split
    · exact setCommit_moves.after (.ite (settingsWritten_moves.after (commitTakes_moves.after advance_moves.mono))
          (commitTakes_moves.after advance_moves.mono))
    · exact setCommit_moves.after advance_moves.mono)

theorem execCommitApply_next {s : State} {w t : Nat} : Next (mayChange (.commitApply w t)) s (execCommitApply w t s) :=
  .ok commitApply_moves.mono

theorem execTmbCommit_next {s : State} : Next (mayChange .tmbCommit) s (execTmbCommit s) :=
  regCmd_next (fun _ => commitWrite1_moves.mono)

theorem execPstCommit_next {s : State} : Next (mayChange .pstCommit) s (execPstCommit s) :=
  regCmd_next (fun _ => commitWrite1_moves.mono)

theorem execCycCommit_next {s : State} : Next (mayChange .cycCommit) s (execCycCommit s) :=
  regCmd_next (fun _ => commitWrite1_moves.mono)

theorem execHrtCommit_next {s : State} : Next (mayChange .hrtCommit) s (execHrtCommit s) :=
  regCmd_next (fun _ => commitWrite1_moves.mono)

theorem execSeqCommit_next {s : State} : Next (mayChange .seqCommit) s (execSeqCommit s) :=
  regCmd_next (fun _ => commitWrite1_moves.mono)

theorem execAnvLoopCommit_next {s : State} : Next (mayChange .anvLoopCommit) s (execAnvLoopCommit s) :=
  regCmd_next (fun _ => commitWrite1_moves.mono)

theorem execMotCommit_next {s : State} : Next (mayChange .motCommit) s (execMotCommit s) :=
  regCmd_next (fun _ => commitWrite1_moves.mono)

theorem execCnvCommit_next {s : State} : Next (mayChange .cnvCommit) s (execCnvCommit s) :=
  regCmd_next (fun _ => commitWrite1_moves.mono)

theorem execCapCommit_next {s : State} : Next (mayChange .capCommit) s (execCapCommit s) :=
  regCmd_next (fun _ => commitWrite1_moves.mono)

theorem execQchCommit_next {s : State} : Next (mayChange .qchCommit) s (execQchCommit s) :=
  regCmd_next (fun _ => commitWrite1_moves.mono)

theorem execStnCommit_next {s : State} : Next (mayChange .stnCommit) s (execStnCommit s) :=
  regCmd_next (fun _ => commitWrite1_moves.mono)

theorem execRecCommit_next {s : State} : Next (mayChange .recCommit) s (execRecCommit s) :=
  regCmd_next (fun _ => commitWrite1_moves.mono)

theorem execWlkCommit_next {s : State} : Next (mayChange .wlkCommit) s (execWlkCommit s) :=
  regCmd_next (fun _ => commitWrite1_moves.mono)

theorem execParCommit_next {s : State} : Next (mayChange .parCommit) s (execParCommit s) :=
  regCmd_next (fun _ => commitWrite1_moves.mono)

theorem execHdlCommit_next {s : State} : Next (mayChange .hdlCommit) s (execHdlCommit s) :=
  regCmd_next (fun _ => commitWrite1_moves.mono)

theorem storeWrite_moves {s : State} {a : Nat} {v : Word} : Moves [.regs, .staged] s (storeWrite a v s) := by
  unfold storeWrite
  split
  · exact .refl
  · exact .ite setStored_moves.mono (setStaged_moves.after setStored_moves.mono)

theorem qchFaultClear_moves {s : State} {n : Nat} : Moves [.regs, .qch, .pwr, .out] s (qchFaultClear s n) :=
  releaseFault_moves.after (setFld_moves.after qchUpd_moves.mono)

theorem mboxWindowWrite_moves {s : State} {o : Nat} {v : Word} : Moves [.hdl] s (mboxWindowWrite o v s) :=
  .ite mboxUpd_moves .refl

theorem busWrite_moves {s : State} {a : Nat} {v : Word} :
    Moves [.regs, .staged, .commits, .tmb, .pst, .hif, .recd, .ile, .anv, .cap, .qch, .fbk, .can, .wlk, .par, .mram, .pwr, .hdl, .out, .freeCtr] s
    (busWrite a v s) :=
  .ite .refl (.ite (.ite commitWrite1_moves.mono .refl) (by
    split
    · exact .ite (hifNegotiate_moves.after (.setHif storeWrite_moves.mono)) storeWrite_moves.mono
    · exact .ite hifCommit_moves.mono .refl
    · exact .ite wallApply_moves.mono .refl
    · exact .ite lqPush_moves.mono .refl
    · exact pstPeek_moves.mono
    · exact .ite fbEnd_moves.mono .refl
    · exact anvMemRead_moves.mono
    · exact fbkSnap_moves.mono
    · exact capMissRead_moves.mono
    · exact qchForceWrite_moves.mono
    · exact .ite pageFailClear_moves.mono .refl
    · exact .ite (hdlRestart_moves.after storeWrite_moves.mono) storeWrite_moves.mono
    · exact .ite (mboxGo_moves.after storeWrite_moves.mono) storeWrite_moves.mono
    · split
      · exact tioCfgWrite_moves.mono
      · exact sqEnableWrite_moves.mono
      · exact cqEnableWrite_moves.mono
      · exact .ite canRecover_moves.mono .refl
      · exact .ite (qchRelease_moves.after (.ite qchFaultClear_moves.mono .refl)) (.ite qchFaultClear_moves.mono .refl)
      · exact mboxWindowWrite_moves.mono
      · exact storeWrite_moves.mono))

theorem execRegisterWrite_next {s : State} {a : Nat} {v : Word} : Next (mayChange (.registerWrite a v)) s (execRegisterWrite a v s) :=
  .ok busWrite_moves.mono

theorem loLatch_moves {s : State} {a : Nat} :
    Moves [.recd, .cyc, .ile, .cnv, .anv, .cap, .qch, .fbk, .mot, .stn, .seq, .can, .par] s (loLatch a s) := by
  unfold loLatch
  split
  · exact weldUpd_moves.mono
  · exact Moves.refl.setIle
  · exact Moves.refl.setIle
  · exact Moves.refl.setFbk
  · exact Moves.refl.setPar
  · exact Moves.refl.setPar
  · exact Moves.refl.setRecd
  · exact Moves.refl.setRecd
  · split
    · split
      · exact clsUpd_moves.mono
      · exact .refl
    · split
      · exact seqUpd_moves.mono
      · exact .refl
    · split
      · exact loopUpd_moves.mono
      · exact .refl
    · split
      · exact axUpd_moves.mono
      · exact axUpd_moves.mono
      · exact .refl
    · split
      · exact fbkUpd_moves.mono
      · exact fbkUpd_moves.mono
      · exact fbkUpd_moves.mono
      · exact .refl
    · split
      · exact cnvUpd_moves.mono
      · exact .refl
    · split
      · exact capUpd_moves.mono
      · exact .refl
    · split
      · exact canUpd_moves.mono
      · exact .refl
    · split
      · exact stUpd_moves.mono
      · exact .refl
    · split
      · exact qchUpd_moves.mono
      · exact .refl
    · exact .refl

theorem busRead_moves {s : State} {a : Nat} :
    Moves [.regs, .tmb, .recd, .cyc, .ile, .cnv, .anv, .cap, .qch, .fbk, .mot, .stn, .seq, .can, .par, .rdata, .freeCtr] s (busRead a s) :=
  .ite Moves.refl.setRdata (.ite tmbNowRead_moves.mono (by
    split
    · exact tioStampPop_moves.mono
    · exact .setRdata (.ite loLatch_moves.mono (setStored_moves.after loLatch_moves.mono))))

theorem execCounterRead_next {s : State} {a : Nat} : Next (mayChange (.counterRead a)) s (execCounterRead a s) :=
  .ok busRead_moves.mono

theorem execLoLatchRead_next {s : State} {a : Nat} : Next (mayChange (.loLatchRead a)) s (execLoLatchRead a s) :=
  .ok busRead_moves.mono

end Sys2Proof.Machine
end

section
/-! The frames of all commands (O38 to O46), and the invariants of every step (O51, O53). -/
set_option Elab.async false
namespace Sys2Proof.Machine
open Sys2Proof

/-- Every command answers a next state, reaches only the parts mayChange gives it, and keeps the invariants. -/
theorem exec_next (s : State) : ∀ c : Instr, Next (mayChange c) s (exec c s)
  | .powerOnReset => execPowerOnReset_next
  | .coldStart _ => execColdStart_next
  | .warmRestart _ _ => execWarmRestart_next
  | .railUndervoltage _ _ => execRailUndervoltage_next
  | .supplyFault _ _ => execSupplyFault_next
  | .clockFault _ _ => execClockFault_next
  | .tempCrit _ _ => execTempCrit_next
  | .tempTrip _ _ => execTempTrip_next
  | .tempTripRecovery _ => execTempTripRecovery_next
  | .faultAutoRestart _ => execFaultAutoRestart_next
  | .sensorReading _ _ _ => execSensorReading_next
  | .pmbusPoll _ _ _ => execPmbusPoll_next
  | .pmbusAlert _ _ => execPmbusAlert_next
  | .hdlWatchdog _ => execHdlWatchdog_next
  | .controlHeartbeatMissing _ => execControlHeartbeatMissing_next
  | .pairWaitEnd => execPairWaitEnd_next
  | .programAutostart _ => execProgramAutostart_next
  | .ileAutostart _ => execIleAutostart_next
  | .loopPersistStart _ _ _ => execLoopPersistStart_next
  | .recipeAutoResume _ => execRecipeAutoResume_next
  | .timelineMarkWrite _ => execTimelineMarkWrite_next
  | .coarseMarkWrite _ => execCoarseMarkWrite_next
  | .bootBankWriteDone _ _ => execBootBankWriteDone_next
  | .hostAccessLoss _ _ => execHostAccessLoss_next
  | .linkTrained _ _ => execLinkTrained_next
  | .hifNegotiate => execHifNegotiate_next
  | .hifCommit => execHifCommit_next
  | .sqEnableWrite _ _ => execSqEnableWrite_next
  | .cqEnableWrite _ _ => execCqEnableWrite_next
  | .sqDoorbell _ _ => execSqDoorbell_next
  | .cqDoorbell _ _ => execCqDoorbell_next
  | .descFetch _ _ => execDescFetch_next
  | .commandSlice _ _ _ _ => execCommandSlice_next
  | .completionWrite _ _ => execCompletionWrite_next
  | .progressEntry _ _ => execProgressEntry_next
  | .cqIrqTimer _ => execCqIrqTimer_next
  | .registerWrite _ _ => execRegisterWrite_next
  | .counterRead _ => execCounterRead_next
  | .loLatchRead _ => execLoLatchRead_next
  | .tmbNowRead => execTmbNowRead_next
  | .commitApply _ _ => execCommitApply_next
  | .nop _ => execNop_next
  | .abort _ => execAbort_next
  | .timeRead _ _ => execTimeRead_next
  | .pointRead _ _ _ => execPointRead_next
  | .pointWrite _ _ => execPointWrite_next
  | .pointLookup _ _ => execPointLookup_next
  | .mapLoad _ _ => execMapLoad_next
  | .viewOpen _ _ _ => execViewOpen_next
  | .viewChange _ _ _ _ => execViewChange_next
  | .viewClose _ => execViewClose_next
  | .viewSnapshot _ => execViewSnapshot_next
  | .forceSet _ _ => execForceSet_next
  | .forceClear _ _ => execForceClear_next
  | .forceList _ => execForceList_next
  | .programLoad _ _ => execProgramLoad_next
  | .programStart _ => execProgramStart_next
  | .programStop _ => execProgramStop_next
  | .weld _ _ => execWeld_next
  | .weldConfirm _ => execWeldConfirm_next
  | .weldRevert _ => execWeldRevert_next
  | .ileLoad _ _ => execIleLoad_next
  | .recipeLoad _ _ => execRecipeLoad_next
  | .recipeStart _ => execRecipeStart_next
  | .recipeHold _ => execRecipeHold_next
  | .recipeRelease _ => execRecipeRelease_next
  | .recipeAbort _ => execRecipeAbort_next
  | .recipeResume _ => execRecipeResume_next
  | .loopLoad _ _ => execLoopLoad_next
  | .loopMode _ => execLoopMode_next
  | .loopTune _ _ => execLoopTune_next
  | .loopTuneRead _ => execLoopTuneRead_next
  | .loopTuneApply _ => execLoopTuneApply_next
  | .axisConfig _ _ => execAxisConfig_next
  | .profileLoad _ _ => execProfileLoad_next
  | .axisMove _ _ => execAxisMove_next
  | .axisHome _ _ => execAxisHome_next
  | .axisStopControlled _ => execAxisStopControlled_next
  | .axisStopImmediate _ => execAxisStopImmediate_next
  | .axisDriveOff _ => execAxisDriveOff_next
  | .axisDriveOn _ => execAxisDriveOn_next
  | .fbkConfig _ _ _ => execFbkConfig_next
  | .compareLoad _ _ => execCompareLoad_next
  | .cnvConfig _ _ => execCnvConfig_next
  | .temperRun _ => execTemperRun_next
  | .capConfig _ _ => execCapConfig_next
  | .maskLoad _ _ => execMaskLoad_next
  | .capArm _ => execCapArm_next
  | .capRead _ => execCapRead_next
  | .canConfig _ _ _ _ => execCanConfig_next
  | .canFilter _ _ => execCanFilter_next
  | .canSend _ _ => execCanSend_next
  | .canCancel _ _ => execCanCancel_next
  | .stnConfig _ _ => execStnConfig_next
  | .stnTableLoad _ _ => execStnTableLoad_next
  | .launch _ _ => execLaunch_next
  | .logRead _ => execLogRead_next
  | .logFreeze _ => execLogFreeze_next
  | .logThaw _ => execLogThaw_next
  | .eventRingOpen _ _ _ => execEventRingOpen_next
  | .historyOpen _ _ _ => execHistoryOpen_next
  | .historyClose _ => execHistoryClose_next
  | .traceRead _ => execTraceRead_next
  | .pairSwitch _ => execPairSwitch_next
  | .stateTransfer _ => execStateTransfer_next
  | .billetStage _ _ => execBilletStage_next
  | .billetActivate _ => execBilletActivate_next
  | .billetConfirm _ => execBilletConfirm_next
  | .attest _ _ _ => execAttest_next
  | .sensorRead _ => execSensorRead_next
  | .hdlLogRead _ => execHdlLogRead_next
  | .rtvUnlock _ _ => execRtvUnlock_next
  | .tmbCommit => execTmbCommit_next
  | .tmbWallApply => execTmbWallApply_next
  | .tmbLqPush => execTmbLqPush_next
  | .tioCfgWrite _ _ => execTioCfgWrite_next
  | .tioStampPop _ => execTioStampPop_next
  | .pstCommit => execPstCommit_next
  | .pstPeek _ => execPstPeek_next
  | .cycCommit => execCycCommit_next
  | .hrtCommit => execHrtCommit_next
  | .seqCommit => execSeqCommit_next
  | .anvLoopCommit => execAnvLoopCommit_next
  | .cnvCommit => execCnvCommit_next
  | .capCommit => execCapCommit_next
  | .qchCommit => execQchCommit_next
  | .motCommit => execMotCommit_next
  | .stnCommit => execStnCommit_next
  | .recCommit => execRecCommit_next
  | .wlkCommit => execWlkCommit_next
  | .parCommit => execParCommit_next
  | .hdlCommit => execHdlCommit_next
  | .hdlRestart => execHdlRestart_next
  | .fbEnd => execFbEnd_next
  | .anvMemRead _ => execAnvMemRead_next
  | .capMissRead _ => execCapMissRead_next
  | .qchForceWrite _ => execQchForceWrite_next
  | .qchRelease _ => execQchRelease_next
  | .fbkSnap _ => execFbkSnap_next
  | .canRecover _ => execCanRecover_next
  | .pageFailClear => execPageFailClear_next
  | .mboxIdentify => execMboxIdentify_next
  | .mboxStageBegin => execMboxStageBegin_next
  | .mboxStageData => execMboxStageData_next
  | .mboxStageEnd => execMboxStageEnd_next
  | .mboxActivate => execMboxActivate_next
  | .mboxLogRead => execMboxLogRead_next
  | .mboxSensorRead => execMboxSensorRead_next
  | .mboxBootBankClear => execMboxBootBankClear_next
  | .mboxRestart => execMboxRestart_next
  | .mgmtUartFrame _ => execMgmtUartFrame_next
  | .jtagBypass => execJtagBypass_next
  | .jtagIdcode => execJtagIdcode_next
  | .jtagSamplePreload => execJtagSamplePreload_next
  | .jtagExtest => execJtagExtest_next
  | .jtagTrst => execJtagTrst_next
  | .ptpSyncRx _ _ _ _ _ _ _ => execPtpSyncRx_next
  | .ptpFollowUpRx _ _ _ _ _ _ => execPtpFollowUpRx_next
  | .ptpDelayRespRx _ _ _ _ _ _ => execPtpDelayRespRx_next
  | .ptpPdelayRx _ _ _ _ _ => execPtpPdelayRx_next
  | .ptpAnnounceRx _ _ _ _ _ _ => execPtpAnnounceRx_next
  | .ptpDelayReqRx _ _ _ _ _ => execPtpDelayReqRx_next
  | .ptpMasterTx _ _ _ => execPtpMasterTx_next
  | .ptpDelayReqTx _ => execPtpDelayReqTx_next
  | .followUpTimeout => execFollowUpTimeout_next
  | .pdelayTimeout _ => execPdelayTimeout_next
  | .announceTimeout _ => execAnnounceTimeout_next
  | .syncMissing _ => execSyncMissing_next
  | .sourceLossTimeout _ _ => execSourceLossTimeout_next
  | .rateSaturationTimeout => execRateSaturationTimeout_next
  | .sourceRejectExpiry _ => execSourceRejectExpiry_next
  | .sourceReturn _ => execSourceReturn_next
  | .epochWaitEnd => execEpochWaitEnd_next
  | .ppsInEdge _ _ _ => execPpsInEdge_next
  | .ppsMissing => execPpsMissing_next
  | .ref10mLoss => execRef10mLoss_next
  | .refOnlyMeasurement _ _ => execRefOnlyMeasurement_next
  | .ppsOutRise _ => execPpsOutRise_next
  | .ppsOutFall _ => execPpsOutFall_next
  | .tioStampEdge _ _ _ => execTioStampEdge_next
  | .tioNop => execTioNop_next
  | .setLow => execSetLow_next
  | .setHigh => execSetHigh_next
  | .toggle => execToggle_next
  | .pulse => execPulse_next
  | .pulseTrailingEdge _ => execPulseTrailingEdge_next
  | .scrubStep _ => execScrubStep_next
  | .tileRepairDone _ _ => execTileRepairDone_next
  | .viewDelivery _ _ _ => execViewDelivery_next
  | .viewConsPoll _ _ => execViewConsPoll_next
  | .viewHeartbeat _ _ => execViewHeartbeat_next
  | .viewSnapshotTimer _ _ => execViewSnapshotTimer_next
  | .staleMarkQueue _ _ _ => execStaleMarkQueue_next
  | .cycLatch _ => execCycLatch_next
  | .cycDeadline _ => execCycDeadline_next
  | .cycStart _ => execCycStart_next
  | .cycStop => execCycStop_next
  | .weldCopyPass _ _ => execWeldCopyPass_next
  | .weldWaitTimeout => execWeldWaitTimeout_next
  | .weldGapEnd _ _ => execWeldGapEnd_next
  | .weldRevertGapEnd _ _ => execWeldRevertGapEnd_next
  | .revertInstantTimeout => execRevertInstantTimeout_next
  | .ileScan _ => execIleScan_next
  | .ileScanLate _ => execIleScanLate_next
  | .ileFault _ _ => execIleFault_next
  | .itemDispatch _ _ => execItemDispatch_next
  | .itemCreditRelease _ => execItemCreditRelease_next
  | .itemCommitEnd _ => execItemCommitEnd_next
  | .itemLimitTimeout _ => execItemLimitTimeout_next
  | .itemFault _ _ _ _ => execItemFault_next
  | .corePairMismatch _ _ => execCorePairMismatch_next
  | .prec _ _ _ => execPrec_next
  | .plv _ _ _ => execPlv_next
  | .pst _ _ _ => execPst_next
  | .stampset _ _ _ => execStampset_next
  | .trd _ _ _ => execTrd_next
  | .lreq _ _ _ => execLreq_next
  | .wdone _ _ _ _ => execWdone_next
  | .evt _ _ _ => execEvt_next
  | .boundary _ _ => execBoundary_next
  | .offset _ => execOffset_next
  | .conditionEvaluation _ => execConditionEvaluation_next
  | .stepMaxTimeout _ => execStepMaxTimeout_next
  | .rampTick _ _ => execRampTick_next
  | .launchAckTimeout _ => execLaunchAckTimeout_next
  | .resumePrecheck _ => execResumePrecheck_next
  | .loopSampleLaunch _ => execLoopSampleLaunch_next
  | .anvilTickSwap _ _ => execAnvilTickSwap_next
  | .routineOverrun _ => execRoutineOverrun_next
  | .loopOutputLaunch _ => execLoopOutputLaunch_next
  | .loopStateCopy _ => execLoopStateCopy_next
  | .loopJournalWrite _ => execLoopJournalWrite_next
  | .anvilCoreMismatch _ _ => execAnvilCoreMismatch_next
  | .anvilEccRewrite _ _ _ _ => execAnvilEccRewrite_next
  | .tuneFitDone _ _ => execTuneFitDone_next
  | .anvNop _ => execAnvNop_next
  | .mpy _ => execMpy_next
  | .mac _ => execMac_next
  | .msu _ => execMsu_next
  | .lda _ => execLda_next
  | .add _ => execAdd_next
  | .sub _ => execSub_next
  | .adda _ => execAdda_next
  | .suba _ => execSuba_next
  | .clr _ => execClr_next
  | .neg _ => execNeg_next
  | .abs _ => execAbs_next
  | .cmp _ => execCmp_next
  | .ldx _ => execLdx_next
  | .ldy _ => execLdy_next
  | .ldp _ => execLdp_next
  | .mov _ => execMov_next
  | .mova _ => execMova_next
  | .moval _ => execMoval_next
  | .ash _ => execAsh_next
  | .sha _ => execSha_next
  | .norm _ => execNorm_next
  | .exp _ => execExp_next
  | .jmp _ => execJmp_next
  | .jcc _ => execJcc_next
  | .call _ => execCall_next
  | .ret _ => execRet_next
  | .doLoop _ => execDo_next
  | .endRoutine _ => execEnd_next
  | .clrf _ => execClrf_next
  | .scale _ => execScale_next
  | .cnvResultFormed _ _ _ _ _ => execCnvResultFormed_next
  | .scanPassStart _ _ => execScanPassStart_next
  | .scanResult _ _ _ _ _ => execScanResult_next
  | .calSlot _ _ => execCalSlot_next
  | .cnvConfigBoundary _ _ => execCnvConfigBoundary_next
  | .temperBgUpdate _ _ => execTemperBgUpdate_next
  | .temperDeferExpiry _ => execTemperDeferExpiry_next
  | .calStaleTimeout _ => execCalStaleTimeout_next
  | .sliceFailed _ _ _ => execSliceFailed_next
  | .burstResume _ => execBurstResume_next
  | .adcclkLoss _ => execAdcclkLoss_next
  | .adcclkReturn _ => execAdcclkReturn_next
  | .capArmLaunch _ => execCapArmLaunch_next
  | .capFire _ => execCapFire_next
  | .capStop _ => execCapStop_next
  | .rearmEnd _ => execRearmEnd_next
  | .postWindowExpiry _ => execPostWindowExpiry_next
  | .capGroupArmInstant _ _ => execCapGroupArmInstant_next
  | .qchReleaseDeferred _ => execQchReleaseDeferred_next
  | .qchReadbackFault _ _ => execQchReadbackFault_next
  | .motStart _ _ => execMotStart_next
  | .motStop _ _ => execMotStop_next
  | .motHome _ _ => execMotHome_next
  | .stepperTick _ _ => execStepperTick_next
  | .stepPulse _ => execStepPulse_next
  | .stepPulseFall _ => execStepPulseFall_next
  | .servoTick _ _ _ => execServoTick_next
  | .limitSwitchActive _ _ _ => execLimitSwitchActive_next
  | .homeSwitchEdge _ _ _ _ => execHomeSwitchEdge_next
  | .homingTimeout _ => execHomingTimeout_next
  | .pgoodLoss _ _ => execPgoodLoss_next
  | .pgoodRise _ _ => execPgoodRise_next
  | .driveSettleEnd _ => execDriveSettleEnd_next
  | .driveEnableDelay _ => execDriveEnableDelay_next
  | .pgoodTimeout _ => execPgoodTimeout_next
  | .quadEdge _ _ _ _ => execQuadEdge_next
  | .hallChange _ _ _ => execHallChange_next
  | .ssiFrameStart _ => execSsiFrameStart_next
  | .ssiFrameEnd _ _ _ _ => execSsiFrameEnd_next
  | .indexEdge _ _ => execIndexEdge_next
  | .fbkPublish _ _ => execFbkPublish_next
  | .comparePulseEnd _ => execComparePulseEnd_next
  | .discoverTx _ => execDiscoverTx_next
  | .wspHelloRx _ _ _ _ => execWspHelloRx_next
  | .wspConfigAckRx _ _ _ _ => execWspConfigAckRx_next
  | .wspInputRx _ _ _ _ _ => execWspInputRx_next
  | .ethFrameDiscard _ _ _ _ _ => execEthFrameDiscard_next
  | .configRetryTimeout _ => execConfigRetryTimeout_next
  | .reassemblyTimeout _ => execReassemblyTimeout_next
  | .stationTimeout _ => execStationTimeout_next
  | .outputImage _ => execOutputImage_next
  | .egressFrameStart _ _ => execEgressFrameStart_next
  | .portLinkChange _ _ _ => execPortLinkChange_next
  | .canSendLaunch _ => execCanSendLaunch_next
  | .canArbitration _ _ => execCanArbitration_next
  | .canTxComplete _ _ _ _ _ => execCanTxComplete_next
  | .canFrameRx _ _ _ _ _ => execCanFrameRx_next
  | .canBusError _ _ _ _ _ _ => execCanBusError_next
  | .canRecoveryDone _ _ => execCanRecoveryDone_next
  | .canIntegrationDone _ _ => execCanIntegrationDone_next
  | .canConfigEffect _ _ => execCanConfigEffect_next
  | .eventAccept => execEventAccept_next
  | .logWriteVerify _ _ _ _ => execLogWriteVerify_next
  | .freezeMaxExpiry => execFreezeMaxExpiry_next
  | .eventRingDelivery _ _ _ => execEventRingDelivery_next
  | .repeatUpdateDelivery _ _ _ _ => execRepeatUpdateDelivery_next
  | .historyHoldRelease _ => execHistoryHoldRelease_next
  | .historyBlockClose => execHistoryBlockClose_next
  | .historyExport _ _ _ => execHistoryExport_next
  | .wlkHeartbeatTx _ => execWlkHeartbeatTx_next
  | .wlkHeartbeatRx _ _ _ _ _ _ => execWlkHeartbeatRx_next
  | .wlkLaneLoss _ _ _ _ => execWlkLaneLoss_next
  | .wlkPortDown _ _ => execWlkPortDown_next
  | .wlkRetrainDone _ _ => execWlkRetrainDone_next
  | .linkHelloRx _ _ _ => execLinkHelloRx_next
  | .wlkVersionRetry _ => execWlkVersionRetry_next
  | .announceTx _ => execAnnounceTx_next
  | .announceRx _ _ _ => execAnnounceRx_next
  | .masterAnnounceTimeout _ => execMasterAnnounceTimeout_next
  | .syncReqTx _ _ => execSyncReqTx_next
  | .syncReqRx _ _ _ _ _ => execSyncReqRx_next
  | .syncRespRx _ _ _ _ => execSyncRespRx_next
  | .syncDoneRx _ _ _ _ => execSyncDoneRx_next
  | .domainTimeLoss _ => execDomainTimeLoss_next
  | .replicationSend _ _ _ => execReplicationSend_next
  | .pointRecordsRx _ _ _ => execPointRecordsRx_next
  | .trigArmRx _ _ _ => execTrigArmRx_next
  | .trigFireRx _ _ => execTrigFireRx_next
  | .trigAckRx _ _ _ => execTrigAckRx_next
  | .launchBoundaryRx _ _ _ => execLaunchBoundaryRx_next
  | .launchAckRx _ _ _ => execLaunchAckRx_next
  | .launchResumeRx _ _ _ => execLaunchResumeRx_next
  | .mirrorInputRx _ _ => execMirrorInputRx_next
  | .mirrorCommitOrderRx _ _ => execMirrorCommitOrderRx_next
  | .mirrorDigestRx _ _ => execMirrorDigestRx_next
  | .mirrorCommandRx _ _ => execMirrorCommandRx_next
  | .mirrorAckRx _ _ => execMirrorAckRx_next
  | .mirrorGiveUpRx _ _ _ => execMirrorGiveUpRx_next
  | .mirrorXferRx _ _ _ _ => execMirrorXferRx_next
  | .mirrorPinStateRx _ _ => execMirrorPinStateRx_next
  | .mirrorAckTimeout => execMirrorAckTimeout_next
  | .standbyLagExceeded _ _ => execStandbyLagExceeded_next
  | .pairHelloTx _ => execPairHelloTx_next
  | .pairHelloRx _ _ => execPairHelloRx_next
  | .pairActInLow _ _ => execPairActInLow_next
  | .pairActInRise _ => execPairActInRise_next
  | .pairSwitchInstant => execPairSwitchInstant_next
  | .autoResyncStart _ => execAutoResyncStart_next
  | .xferPassEnd _ _ _ => execXferPassEnd_next
  | .xferCutTimeout _ _ => execXferCutTimeout_next
  | .xferCatchupDone _ => execXferCatchupDone_next
  | .catchupTimeout _ => execCatchupTimeout_next
  | .selftestPass _ _ => execSelftestPass_next
  | .selftestOverdue _ => execSelftestOverdue_next
  | .probationTimeout => execProbationTimeout_next
  | .blockLock _ _ _ => execBlockLock_next
  | .phaseRestoreStep _ => execPhaseRestoreStep_next
  | .recipeAbortInstant _ _ => execRecipeAbortInstant_next
  | .railRestored => execRailRestored_next

theorem exec_frames (c : Instr) (s : State) : Answers c s (unchangedBut (mayChange c) s) := by
  obtain ⟨t, ht, hm⟩ := exec_next s c
  exact ⟨t, ht, hm.frame⟩

/-- Settles O38, a case of `exec_frames`. -/
theorem timelineFrames : Obligations.TimelineFrames := fun c s _ => exec_frames c s

/-- Settles O39, a case of `exec_frames`. -/
theorem pointAndHostFrames : Obligations.PointAndHostFrames := fun c s _ => exec_frames c s

/-- Settles O40, a case of `exec_frames`. -/
theorem cycleAndHearthFrames : Obligations.CycleAndHearthFrames := fun c s _ => exec_frames c s

/-- Settles O41, a case of `exec_frames`. -/
theorem recipeAndLoopFrames : Obligations.RecipeAndLoopFrames := fun c s _ => exec_frames c s

/-- Settles O42, a case of `exec_frames`. -/
theorem converterAndCaptureFrames : Obligations.ConverterAndCaptureFrames := fun c s _ => exec_frames c s

/-- Settles O43, a case of `exec_frames`. -/
theorem motionAndFeedbackFrames : Obligations.MotionAndFeedbackFrames := fun c s _ => exec_frames c s

/-- Settles O44, a case of `exec_frames`. -/
theorem stationCanRecorderFrames : Obligations.StationCanRecorderFrames := fun c s _ => exec_frames c s

/-- Settles O45, a case of `exec_frames`. -/
theorem pairingFrames : Obligations.PairingFrames := fun c s _ => exec_frames c s

/-- Settles O46, a case of `exec_frames`. -/
theorem hendelAndPowerFrames : Obligations.HendelAndPowerFrames := fun c s _ => exec_frames c s

/-- Every step, the idle one among them, keeps the tables canonical and lets the OTP only grow. -/
theorem step_moves (s : State) : ∃ t, step s = .next t ∧ (canonical s → canonical t) ∧ otpGrows s.hdl.otp t.hdl.otp := by
  unfold step
  split
  · exact ⟨_, rfl, idle_moves.canon, idle_moves.otp⟩
  next c rest _ =>
    obtain ⟨t, ht, hm⟩ := exec_next { s with pending := rest } c
    exact ⟨t, ht, hm.canon, hm.otp⟩

/-- Settles O51, from the rules of the functions that every command is made of. -/
theorem tablesStayCanonical : Obligations.TablesStayCanonical := by
  intro s h
  obtain ⟨t, ht, hc, _⟩ := step_moves s
  exact ⟨t, ht, hc h⟩

/-- Settles O53: BILLET_CONFIRM raises levels and revokes keys, RTV_UNLOCK sets RETURNED, and nothing else writes the OTP. -/
theorem otpOnlyGrows : Obligations.OtpOnlyGrows := by
  intro s
  obtain ⟨t, ht, _, ho⟩ := step_moves s
  exact ⟨t, ht, ho⟩

end Sys2Proof.Machine
end

section
/-! What one axis, feedback channel or CAN FD controller does leaves the others alone (O47). -/
set_option Elab.async false
namespace Sys2Proof.Machine
open Sys2Proof

/-- The units of a table but one are unchanged. -/
def Apart {α : Type} (f : State → Nat → α) (n : Nat) (s t : State) : Prop := ∀ m, m ≠ n → f t m = f s m

variable {α : Type} {f : State → Nat → α} {n : Nat} {s t u : State}

theorem Apart.refl : Apart f n s s := fun _ _ => rfl

theorem Apart.trans (h : Apart f n s t) (g : Apart f n t u) : Apart f n s u := fun m hm => (g m hm).trans (h m hm)

theorem Apart.after (g : Apart f n t u) (h : Apart f n s t) : Apart f n s u := h.trans g

theorem Apart.ite {c : Prop} {_ : Decidable c} (h : Apart f n s t) (g : Apart f n s u) : Apart f n s (if c then t else u) := by
  split
  · exact h
  · exact g

theorem Apart.ite_fst {β : Type} {x y : State × β} {c : Prop} {_ : Decidable c} (h : Apart f n s x.1) (g : Apart f n s y.1) :
    Apart f n s (if c then x else y).1 := by
  split
  · exact h
  · exact g

theorem Apart.foldl {β : Type} {g : State → β → State} {xs : List β} (h : Apart f n s t) (hg : ∀ u x, Apart f n u (g u x)) :
    Apart f n s (xs.foldl g t) :=
  List.foldlRecOn xs g h fun u hu x _ => hu.trans (hg u x)

theorem Moves.axes {l : List Part} (h : Moves l s t) (hl : Part.mot ∉ l := by decide) : Apart axOf n s t := fun m _ =>
  congrArg (fun x : Mot => x.ax.get m) (h.frame .mot hl)

theorem Moves.chans {l : List Part} (h : Moves l s t) (hl : Part.fbk ∉ l := by decide) : Apart fbkCh n s t := fun m _ =>
  congrArg (fun x : Fbk => x.ch.get m) (h.frame .fbk hl)

theorem Moves.ctls {l : List Part} (h : Moves l s t) (hl : Part.can ∉ l := by decide) : Apart canC n s t := fun m _ =>
  congrArg (fun x : Can => x.ctl.get m) (h.frame .can hl)

/-- A command answers a next state that leaves the units of a table but one unchanged. -/
def NextApart (f : State → Nat → α) (n : Nat) (s : State) (r : Res) : Prop := ∃ t, r = .next t ∧ Apart f n s t

theorem NextApart.ok (h : Apart f n s t) : NextApart f n s (ok t) := ⟨t, rfl, h⟩

theorem NextApart.ite {x y : Res} {c : Prop} {_ : Decidable c} (h : NextApart f n s x) (g : NextApart f n s y) :
    NextApart f n s (if c then x else y) := by
  split
  · exact h
  · exact g

/-! ### Axes -/

theorem axUpd_axes {s : State} {n : Nat} {f : Axis → Axis} : Apart axOf n s (axUpd s n f) := fun _ hm => SMap.get_upd_ne _ _ hm

theorem axBring_axes {s : State} {n t : Nat} : Apart axOf n s (axBring s n t) :=
  axUpd_axes

theorem axStopsEnd_axes {s : State} {n : Nat} : Apart axOf n s (axStopsEnd s n) :=
  .foldl axUpd_axes fun _ _ => endCmd_moves.axes

theorem axFreeze_axes {s : State} {n : Nat} : Apart axOf n s (axFreeze s n) :=
  axUpd_axes.after axBring_axes

theorem homeEnds_axes {s : State} {n : Nat} {st : Status} : Apart axOf n s (homeEnds s n st) := by
  unfold homeEnds
  split
  · exact .refl
  · dsimp only
    split
    · exact endCmd_moves.axes.after axUpd_axes
    · exact axUpd_axes

theorem axFault_axes {s : State} {n cause : Nat} {k : EvKind} : Apart axOf n s (axFault s n cause k) :=
  axStopsEnd_axes.after (motEvent_moves.axes.after (homeEnds_axes.after (axUpd_axes.after axFreeze_axes)))

theorem homeFail_axes {s : State} {n : Nat} {st : Status} : Apart axOf n s (homeFail s n st) :=
  axFault_axes.after (bump_moves.axes.after (homeEnds_axes.after axFreeze_axes))

theorem axLinks_axes {s : State} {n : Nat} : Apart axOf n s (axLinks s n) :=
  .ite .refl (.ite axFault_axes (.ite (.ite axFault_axes .refl) .refl))

theorem axInpos_axes {s : State} {n t : Nat} : Apart axOf n s (axInpos s n t) :=
  .ite axUpd_axes axUpd_axes

theorem axChecks_axes {s : State} {n t : Nat} : Apart axOf n s (axChecks s n t) :=
  .ite (axInpos_axes.after (axPoint_moves.axes.after (axUpd_axes.after axActual_moves.axes)))
      (.ite (axFault_axes.after (bump_moves.axes.after (axPoint_moves.axes.after (axUpd_axes.after axActual_moves.axes))))
      (.ite (axFault_axes.after (bump_moves.axes.after (axPoint_moves.axes.after (axUpd_axes.after axActual_moves.axes))))
      (axInpos_axes.after (axLinks_axes.after (axPoint_moves.axes.after (axUpd_axes.after axActual_moves.axes))))))

theorem axToward_axes {s : State} {n : Nat} {vt : Rat} : Apart axOf n s (axToward s n vt) :=
  axUpd_axes

theorem homePhase2_axes {s : State} {n : Nat} {h : Homing} : Apart axOf n s (homePhase2 s n h) :=
  axUpd_axes.after axToward_axes

theorem homeReference_axes {s : State} {n : Nat} {h : Homing} {at' : Rat} : Apart axOf n s (homeReference s n h at') :=
  axUpd_axes.after axToward_axes

theorem homeEdge_axes {s : State} {n which : Nat} {active : Bool} {t : Nat} : Apart axOf n s (homeEdge s n which active t) := by
  unfold homeEdge
  split
  · exact .refl
  · exact .ite (.ite homePhase2_axes (.ite (homeReference_axes.after axPosAt_moves.axes) .refl)) (.ite homeFail_axes .refl)

theorem homeDone_axes {s : State} {n : Nat} {h : Homing} : Apart axOf n s (homeDone s n h) := by
  unfold homeDone
  dsimp only
  split
  · exact endCmd_moves.axes.after (motEvent_moves.axes.after axUpd_axes)
  · exact motEvent_moves.axes.after axUpd_axes

theorem homeHardStop_axes {s : State} {n : Nat} {h : Homing} : Apart axOf n s (homeHardStop s n h) :=
  .ite .refl (.ite (.ite homePhase2_axes axUpd_axes) (.ite homeReference_axes .refl))

theorem axSoft_axes {s : State} {n : Nat} : Apart axOf n s (axSoft s n) :=
  .ite .refl (axFault_axes.after (bump_moves.axes.after axUpd_axes))

theorem axEnd_axes {s : State} {n t : Nat} : Apart axOf n s (axEnd s n t) :=
  .ite .refl (by
    split
    · exact axUpd_axes
    · exact axStopsEnd_axes.after axUpd_axes
    · split
      · exact .ite homeDone_axes .refl
      · exact .refl
    · exact .refl)

theorem stepDir_axes {s : State} {n : Nat} : Apart axOf n s (stepDir s n) := by
  unfold stepDir
  dsimp only
  split
  · exact .ite .refl (pinDrive_moves.axes.after axUpd_axes)
  · exact .refl

theorem stepPlan_axes {s : State} {n a b : Nat} : Apart axOf n s (stepPlan s n a b) :=
  stepDir_axes.after axUpd_axes

theorem axReplan_axes {s : State} {n : Nat} : Apart axOf n s (axReplan s n) := by
  unfold axReplan
  dsimp only
  split
  · exact .ite (stepPlan_axes.after axUpd_axes) .refl
  · exact .refl

theorem axLevels_axes {s : State} {n lv : Nat} : Apart axOf n s (axLevels s n lv) :=
  axUpd_axes

theorem stepsBegin_axes {s : State} {n : Nat} {neg : Bool} : Apart axOf n s (stepsBegin s n neg) :=
  .ite .refl (.ite axUpd_axes (pinDrive_moves.axes.after (axUpd_axes.after axUpd_axes)))

theorem axStart_axes {s : State} {n : Nat} : Apart axOf n s (axStart s n).1 := by
  unfold axStart
  split
  · exact axUpd_axes.after (motEvent_moves.axes.after bump_moves.axes)
  · exact stepsBegin_axes.after (axUpd_axes.after bump_moves.axes)

theorem axStop_axes {s : State} {n : Nat} {now : Bool} {cmd : Option Nat} : Apart axOf n s (axStop s n now cmd) := by
  unfold axStop
  dsimp only
  split
  · exact .ite (axStopsEnd_axes.after (by
      split
      · exact axUpd_axes.after (axUpd_axes.after bump_moves.axes)
      · exact axUpd_axes.after bump_moves.axes)) (axStopsEnd_axes.after (by
      split
      · exact axUpd_axes
      · exact .refl))
  · exact .ite (axStopsEnd_axes.after (by
      split
      · exact axUpd_axes.after (axUpd_axes.after (axFreeze_axes.after (axUpd_axes.after (homeEnds_axes.after bump_moves.axes))))
      · exact axUpd_axes.after (axFreeze_axes.after (axUpd_axes.after (homeEnds_axes.after bump_moves.axes))))) (by
      split
      · exact axUpd_axes.after (axReplan_axes.after (axUpd_axes.after
            (axToward_axes.after (axBring_axes.after (axUpd_axes.after (homeEnds_axes.after bump_moves.axes))))))
      · exact axReplan_axes.after (axUpd_axes.after (axToward_axes.after
            (axBring_axes.after (axUpd_axes.after (homeEnds_axes.after bump_moves.axes))))))
  · exact .ite (axStopsEnd_axes.after (by
      split
      · exact axUpd_axes.after (axUpd_axes.after (axFreeze_axes.after (axUpd_axes.after (homeEnds_axes.after bump_moves.axes))))
      · exact axUpd_axes.after (axFreeze_axes.after (axUpd_axes.after (homeEnds_axes.after bump_moves.axes))))) (by
      split
      · exact axUpd_axes.after (axReplan_axes.after (axUpd_axes.after
            (axToward_axes.after (axBring_axes.after (axUpd_axes.after (homeEnds_axes.after bump_moves.axes))))))
      · exact axReplan_axes.after (axUpd_axes.after (axToward_axes.after
            (axBring_axes.after (axUpd_axes.after (homeEnds_axes.after bump_moves.axes))))))
  · exact .ite (axStopsEnd_axes.after (by
      split
      · exact axUpd_axes.after (axUpd_axes.after (axFreeze_axes.after (axUpd_axes.after (homeEnds_axes.after bump_moves.axes))))
      · exact axUpd_axes.after (axFreeze_axes.after (axUpd_axes.after (homeEnds_axes.after bump_moves.axes))))) (by
      split
      · exact axUpd_axes.after (axReplan_axes.after (axUpd_axes.after
            (axToward_axes.after (axBring_axes.after (axUpd_axes.after (homeEnds_axes.after bump_moves.axes))))))
      · exact axReplan_axes.after (axUpd_axes.after (axToward_axes.after
            (axBring_axes.after (axUpd_axes.after (homeEnds_axes.after bump_moves.axes))))))
  · exact axStopsEnd_axes.after (by
      split
      · exact axUpd_axes
      · exact .refl)

theorem axHome_axes {s : State} {n method : Nat} {cmd : Option Nat} : Apart axOf n s (axHome s n method cmd).1 :=
  .ite_fst .refl (.ite_fst .refl (.ite_fst (homeDone_axes.after (axUpd_axes.after (axPosAt_moves.axes.after (axUpd_axes.after bump_moves.axes))))
      (stepsBegin_axes.after (.ite (homePhase2_axes.after (axUpd_axes.after (axUpd_axes.after bump_moves.axes)))
      (axToward_axes.after (axUpd_axes.after (axUpd_axes.after bump_moves.axes)))))))

theorem motAct_axes {s : State} {n : Nat} {e : LqEntry} : Apart axOf n s (motAct s n e) := by
  unfold motAct
  split
  · exact endLaunch_moves.axes.after axStart_axes
  · exact axStop_axes
  · dsimp only
    split
    · exact endLaunch_moves.axes.after axHome_axes
    · exact axHome_axes

theorem motLaunch_axes {s : State} {a n lv : Nat} : Apart axOf n s (motLaunch a n lv s) := by
  unfold motLaunch
  split
  · exact .refl
  · exact .ite .refl (motAct_axes.after (axUpd_axes.after (axLevels_axes.after advance_moves.axes)))

theorem execMotStart_axes {s : State} {n lv : Nat} : NextApart axOf n s (execMotStart n lv s) :=
  .ok motLaunch_axes

theorem execMotStop_axes {s : State} {n lv : Nat} : NextApart axOf n s (execMotStop n lv s) :=
  .ok motLaunch_axes

theorem execMotHome_axes {s : State} {n lv : Nat} : NextApart axOf n s (execMotHome n lv s) :=
  .ok motLaunch_axes

theorem execStepperTick_axes {s : State} {n lv : Nat} : NextApart axOf n s (execStepperTick n lv s) := by
  unfold execStepperTick
  dsimp only
  split
  · exact .ok .refl
  · exact .ite (.ok .refl) (.ok (.ite (stepPlan_axes.after (axUpd_axes.after
        (axChecks_axes.after (axPoint_moves.axes.after (axPoint_moves.axes.after
        (axEnd_axes.after (axSoft_axes.after (axBring_axes.after (axLevels_axes.after advance_moves.axes)))))))))
        (axUpd_axes.after (axChecks_axes.after (axPoint_moves.axes.after
        (axPoint_moves.axes.after (axEnd_axes.after (axSoft_axes.after (axBring_axes.after (axLevels_axes.after advance_moves.axes))))))))))

theorem execStepPulse_axes {s : State} {n : Nat} : NextApart axOf n s (execStepPulse n s) := by
  unfold execStepPulse
  dsimp only
  split
  · exact .ok (pinDrive_moves.axes.after (axUpd_axes.after (bump_moves.axes.after
        (.ite (bump_moves.axes.after advance_moves.axes) advance_moves.axes))))
  · exact .ok .refl

theorem execStepPulseFall_axes {s : State} {n : Nat} : NextApart axOf n s (execStepPulseFall n s) := by
  unfold execStepPulseFall
  dsimp only
  split
  · exact .ok .refl
  · exact .ok (stepDir_axes.after (pinDrive_moves.axes.after (axUpd_axes.after advance_moves.axes)))

theorem execServoTick_axes {s : State} {n lv t : Nat} : NextApart axOf n s (execServoTick n lv t s) :=
  .ite (.ok .refl) (.ok (axLinks_axes.after (writeGroup_moves.axes.after (by
    split
    · exact homeHardStop_axes.after (axEnd_axes.after (axSoft_axes.after (axBring_axes.after (axLevels_axes.after advance_moves.axes))))
    · exact axEnd_axes.after (axSoft_axes.after (axBring_axes.after (axLevels_axes.after advance_moves.axes)))))))

theorem execLimitSwitchActive_axes {s : State} {n : Nat} {positive : Bool} {t : Nat} : NextApart axOf n s (execLimitSwitchActive n positive t s) :=
  .ite (.ok .refl) (.ite (.ok (axReplan_axes.after (homeEdge_axes.after (axUpd_axes.after advance_moves.axes))))
      (.ite (.ok (axFault_axes.after (bump_moves.axes.after (axUpd_axes.after advance_moves.axes)))) (.ok (axUpd_axes.after advance_moves.axes))))

theorem execHomeSwitchEdge_axes {s : State} {n which : Nat} {active : Bool} {t : Nat} : NextApart axOf n s (execHomeSwitchEdge n which active t s)
    :=
  .ite (.ok .refl) (.ok (axReplan_axes.after (homeEdge_axes.after (axUpd_axes.after advance_moves.axes))))

theorem execHomingTimeout_axes {s : State} {n : Nat} : NextApart axOf n s (execHomingTimeout n s) := by
  unfold execHomingTimeout
  split
  · exact .ok (homeFail_axes.after advance_moves.axes)
  · exact .ok .refl

theorem execPgoodLoss_axes {s : State} {n t : Nat} : NextApart axOf n s (execPgoodLoss n t s) :=
  .ite (.ok .refl) (.ok (axJournal_moves.axes.after (by
    split
    · exact endCmd_moves.axes.after (axUpd_axes.after (axFault_axes.after
          (bump_moves.axes.after (axUpd_axes.after (pinDrive_moves.axes.after advance_moves.axes)))))
    · exact axUpd_axes.after (axFault_axes.after (bump_moves.axes.after (axUpd_axes.after (pinDrive_moves.axes.after advance_moves.axes)))))))

theorem driveEnable_axes {s : State} {n : Nat} : Apart axOf n s (driveEnable s n) :=
  axUpd_axes.after pinDrive_moves.axes

theorem driveSettle_axes {s : State} {n : Nat} : Apart axOf n s (driveSettle s n) :=
  axUpd_axes

theorem execPgoodRise_axes {s : State} {n t : Nat} : NextApart axOf n s (execPgoodRise n t s) := by
  unfold execPgoodRise
  split
  · exact .ok (driveSettle_axes.after (axUpd_axes.after advance_moves.axes))
  · exact .ok .refl

theorem execDriveSettleEnd_axes {s : State} {n : Nat} : NextApart axOf n s (execDriveSettleEnd n s) := by
  unfold execDriveSettleEnd
  dsimp only
  split
  · exact .ite (.ok (axUpd_axes.after (pinDrive_moves.axes.after advance_moves.axes))) (.ok (driveEnable_axes.after advance_moves.axes))
  · exact .ok .refl

theorem execPhaseRestoreStep_axes {s : State} {n : Nat} : NextApart axOf n s (execPhaseRestoreStep n s) := by
  unfold execPhaseRestoreStep
  dsimp only
  split
  · exact .ok (.ite (driveEnable_axes.after (axUpd_axes.after (bump_moves.axes.after (pinDrive_moves.axes.after advance_moves.axes))))
        (axUpd_axes.after (bump_moves.axes.after (pinDrive_moves.axes.after advance_moves.axes))))
  · exact .ok .refl

theorem execDriveEnableDelay_axes {s : State} {n : Nat} : NextApart axOf n s (execDriveEnableDelay n s) := by
  unfold execDriveEnableDelay
  dsimp only
  split
  · exact .ok (by
      split
      · exact endCmd_moves.axes.after (motEvent_moves.axes.after (axUpd_axes.after advance_moves.axes))
      · exact motEvent_moves.axes.after (axUpd_axes.after advance_moves.axes))
  · exact .ok .refl

theorem execPgoodTimeout_axes {s : State} {n : Nat} : NextApart axOf n s (execPgoodTimeout n s) := by
  unfold execPgoodTimeout
  dsimp only
  split
  · exact .ok (by
      split
      · exact endCmd_moves.axes.after (axUpd_axes.after (pinDrive_moves.axes.after advance_moves.axes))
      · exact axUpd_axes.after (pinDrive_moves.axes.after advance_moves.axes))
  · exact .ok .refl

/-! ### Feedback channels -/

theorem fbkUpd_chans {s : State} {n : Nat} {f : FbkCh → FbkCh} : Apart fbkCh n s (fbkUpd s n f) := fun _ hm => SMap.get_upd_ne _ _ hm

theorem fbkLatch_chans {s : State} {n t : Nat} : Apart fbkCh n s (fbkLatch s n t).2 :=
  fbkUpd_chans.after fbkCut_moves.chans

theorem cmpArm_chans {n : Nat} : ∀ {es : List CmpEntry} {s : State}, Apart fbkCh n s (cmpArm n es s)
  | [], _ => fbkUpd_chans
  | _ :: _, _ => .ite (.trans (fbkUpd_chans.after (fbkEvent_moves.chans.after bump_moves.chans)) cmpArm_chans) fbkUpd_chans

theorem cmpJudge_chans {s : State} {n : Nat} : Apart fbkCh n s (cmpJudge s n) :=
  .ite .refl cmpArm_chans

theorem cmpFire_chans {s : State} {n : Nat} : Apart fbkCh n s (cmpFire s n) := by
  unfold cmpFire
  dsimp only
  split
  · exact fbkUpd_chans.after (bump_moves.chans.after bump_moves.chans)
  · exact pinDrive_moves.chans.after (fbkUpd_chans.after (.ite (bump_moves.chans.after (drawFree_moves.chans.after bump_moves.chans))
        (drawFree_moves.chans.after bump_moves.chans)))

theorem cmpMoved_chans {s : State} {n : Nat} : Apart fbkCh n s (cmpMoved s n) := by
  unfold cmpMoved
  dsimp only
  split
  · exact .refl
  · exact .ite (cmpArm_chans.after (fbkUpd_chans.after cmpFire_chans)) .refl

theorem fbkFollow_chans {s : State} {n : Nat} : Apart fbkCh n s (fbkFollow s n) :=
  .ite .refl (cmpMoved_chans.after fbkUpd_chans)

theorem fbkMove_chans {s : State} {n t : Nat} {dr : Int} : Apart fbkCh n s (fbkMove s n t dr) :=
  .ite .refl (fbkFollow_chans.after fbkUpd_chans)

theorem execComparePulseEnd_chans {s : State} {n : Nat} : NextApart fbkCh n s (execComparePulseEnd n s) := by
  unfold execComparePulseEnd
  dsimp only
  split
  · exact .ok .refl
  · exact .ite (.ok (pinDrive_moves.chans.after (fbkUpd_chans.after advance_moves.chans)))
        (.ok (pinDrive_moves.chans.after (fbkUpd_chans.after advance_moves.chans)))

theorem fbkBad_chans {s : State} {n : Nat} : Apart fbkCh n s (fbkBad s n) :=
  .ite .refl (axOnFbk_moves.chans.after (fbkEvent_moves.chans.after (bump_moves.chans.after fbkUpd_chans)))

theorem fbkError_chans {s : State} {n t : Nat} : Apart fbkCh n s (fbkError s n t) :=
  .ite (fbkBad_chans.after (fbkUpd_chans.after bump_moves.chans)) (fbkUpd_chans.after bump_moves.chans)

theorem fbkImplaus_chans {s : State} {n : Nat} : Apart fbkCh n s (fbkImplaus s n) :=
  axOnFbk_moves.chans.after (.foldl (fbkEvent_moves.chans.after (bump_moves.chans.after fbkUpd_chans)) fun _ _ => by
    split
    · exact .ite (axOnLoop_moves.chans.after loopImplaus_moves.chans) .refl
    · exact .refl)

theorem fbkMismatch_chans {s : State} {n : Nat} {d : Int} : Apart fbkCh n s (fbkMismatch s n d) :=
  .ite (fbkImplaus_chans.after (fbkUpd_chans.after fbkEvent_moves.chans)) (fbkUpd_chans.after fbkEvent_moves.chans)

theorem indexMissing_chans {s : State} {n : Nat} : Apart fbkCh n s (indexMissing s n) :=
  .ite (fbkMismatch_chans.after (bump_moves.chans.after fbkUpd_chans)) .refl

theorem execQuadEdge_chans {s : State} {n : Nat} {a b : Bool} {t : Nat} : NextApart fbkCh n s (execQuadEdge n a b t s) :=
  .ite (.ok .refl) (.ite (.ok .refl) (.ite (.ok (fbkError_chans.after (fbkPass_moves.chans.after (fbkUpd_chans.after advance_moves.chans))))
      (.ok (indexMissing_chans.after (fbkMove_chans.after (fbkPass_moves.chans.after (fbkUpd_chans.after advance_moves.chans)))))))

theorem execHallChange_chans {s : State} {n code t : Nat} : NextApart fbkCh n s (execHallChange n code t s) :=
  .ite (.ok .refl) (by
    dsimp only
    split
    · exact .ok (fbkError_chans.after (fbkPass_moves.chans.after (fbkUpd_chans.after advance_moves.chans)))
    · exact .ite (.ok (fbkUpd_chans.after (fbkPass_moves.chans.after (fbkUpd_chans.after advance_moves.chans))))
          (.ite (.ok (fbkMove_chans.after (fbkUpd_chans.after (fbkPass_moves.chans.after (fbkUpd_chans.after advance_moves.chans)))))
          (.ite (.ok (fbkMove_chans.after (fbkUpd_chans.after (fbkPass_moves.chans.after (fbkUpd_chans.after advance_moves.chans)))))
          (.ok (fbkError_chans.after (fbkUpd_chans.after (fbkPass_moves.chans.after (fbkUpd_chans.after advance_moves.chans))))))))

theorem execSsiFrameStart_chans {s : State} {n : Nat} : NextApart fbkCh n s (execSsiFrameStart n s) :=
  .ite (.ok .refl) (.ok (pinDrive_moves.chans.after (fbkUpd_chans.after advance_moves.chans)))

theorem execSsiFrameEnd_chans {s : State} {n : Nat} {high low : Bool} {data : Nat} : NextApart fbkCh n s (execSsiFrameEnd n high low data s) := by
  unfold execSsiFrameEnd
  dsimp only
  split
  · exact .ok .refl
  · exact .ite (.ok (.ite (fbkBad_chans.after (bump_moves.chans.after
        (fbkUpd_chans.after (pinDrive_moves.chans.after (bump_moves.chans.after (fbkUpd_chans.after advance_moves.chans))))))
        (bump_moves.chans.after (fbkUpd_chans.after (pinDrive_moves.chans.after
        (bump_moves.chans.after (fbkUpd_chans.after advance_moves.chans)))))))
        (.ok (.ite (fbkFollow_chans.after (fbkUpd_chans.after (fbkMove_chans.after
        (fbkUpd_chans.after (pinDrive_moves.chans.after (bump_moves.chans.after (fbkUpd_chans.after advance_moves.chans)))))))
        (fbkMove_chans.after (fbkUpd_chans.after (pinDrive_moves.chans.after (bump_moves.chans.after (fbkUpd_chans.after advance_moves.chans)))))))

theorem indexCorrect_chans {s : State} {n : Nat} {d : Int} : Apart fbkCh n s (indexCorrect s n d) :=
  cmpJudge_chans.after (fbkUpd_chans.after (fbkEvent_moves.chans.after bump_moves.chans))

theorem execIndexEdge_chans {s : State} {n t : Nat} : NextApart fbkCh n s (execIndexEdge n t s) :=
  .ite (.ok .refl) (.ok (homeIndex_moves.chans.after (by
    split
    · exact fbkUpd_chans.after (fbkUpd_chans.after (bump_moves.chans.after advance_moves.chans))
    · exact .ite (indexCorrect_chans.after (.ite (.ite (fbkEvent_moves.chans.after
          (fbkUpd_chans.after (fbkUpd_chans.after (fbkUpd_chans.after (bump_moves.chans.after advance_moves.chans)))))
          (fbkUpd_chans.after (fbkUpd_chans.after (bump_moves.chans.after advance_moves.chans))))
          (fbkMismatch_chans.after (bump_moves.chans.after (fbkUpd_chans.after
          (setFld_moves.chans.after (fbkUpd_chans.after (bump_moves.chans.after advance_moves.chans))))))))
          (.ite (.ite (fbkEvent_moves.chans.after (fbkUpd_chans.after
          (fbkUpd_chans.after (fbkUpd_chans.after (bump_moves.chans.after advance_moves.chans)))))
          (fbkUpd_chans.after (fbkUpd_chans.after (bump_moves.chans.after advance_moves.chans))))
          (fbkMismatch_chans.after (bump_moves.chans.after (fbkUpd_chans.after
          (setFld_moves.chans.after (fbkUpd_chans.after (bump_moves.chans.after advance_moves.chans))))))))))

theorem execFbkPublish_chans {s : State} {n t : Nat} : NextApart fbkCh n s (execFbkPublish n t s) :=
  .ite (.ok .refl) (.ok (bumpN_moves.chans.after (inputGroup_moves.chans.after (fbkLatch_chans.after advance_moves.chans))))

/-! ### CAN FD controllers -/

theorem canUpd_ctls {s : State} {c : Nat} {f : CanCtl → CanCtl} : Apart canC c s (canUpd s c f) := fun _ hm => SMap.get_upd_ne _ _ hm

theorem rxRecord_ctls {s : State} {c : Nat} {cons : Option Nat} {kind filter stamp : Nat} {f : Bytes} : Apart canC c s (rxRecord s c cons kind
    filter stamp f) :=
  .ite .refl (.ite (canUpd_ctls.after (.ite (bump_moves.ctls.after canUpd_ctls) (canEvent_moves.ctls.after (bump_moves.ctls.after canUpd_ctls))))
      (.ite (send_moves.ctls.after (canUpd_ctls.after (send_moves.ctls.after canUpd_ctls)))
      (canUpd_ctls.after (send_moves.ctls.after canUpd_ctls))))

theorem canDrop_ctls {s : State} {c h : Nat} : Apart canC c s (canDrop s c h) :=
  canUpd_ctls

theorem canEnds_ctls {s : State} {c : Nat} {cons : Option Nat} {f : CanFrame} {kind : Nat} : Apart canC c s (canEnds s c cons f kind) :=
  .ite (rxRecord_ctls.after (.ite canDrop_ctls (endLaunch_moves.ctls.after canDrop_ctls)))
      (.ite canDrop_ctls (endLaunch_moves.ctls.after canDrop_ctls))

theorem canAttemptFails_ctls {s : State} {c : Nat} {cons : Option Nat} {h : Nat} : Apart canC c s (canAttemptFails s c cons h) := by
  unfold canAttemptFails
  dsimp only
  split
  · exact canUpd_ctls
  · exact .ite canUpd_ctls (canEnds_ctls.after (canEvent_moves.ctls.after (bump_moves.ctls.after canUpd_ctls)))

theorem canBusOff_ctls {s : State} {c : Nat} {cons : Option Nat} : Apart canC c s (canBusOff s c cons) :=
  .ite (.foldl (canEvent_moves.ctls.after (bump_moves.ctls.after canUpd_ctls))
      fun _ _ => canEnds_ctls.after bump_moves.ctls) (canEvent_moves.ctls.after (bump_moves.ctls.after canUpd_ctls))

theorem canConfine_ctls {s : State} {c : Nat} {cons : Option Nat} : Apart canC c s (canConfine s c cons) := by
  unfold canConfine
  dsimp only
  split
  · exact .ite canBusOff_ctls (.ite (canEvent_moves.ctls.after canUpd_ctls) .refl)
  · exact .ite canBusOff_ctls (.ite (canEvent_moves.ctls.after canUpd_ctls) .refl)
  · exact .refl

theorem canError_ctls {s : State} {c : Nat} {cons : Option Nat} {code : Nat} {quiet : Bool} : Apart canC c s (canError s c cons code quiet) :=
  canConfine_ctls.after (by
    split
    · exact canAttemptFails_ctls.after (canUpd_ctls.after bump_moves.ctls)
    · exact canUpd_ctls.after bump_moves.ctls)

theorem canTake_ctls {s : State} {c : Nat} {d : Bytes} {h : Nat} : Apart canC c s (canTake s c d h) :=
  endCmd_moves.ctls.after (canEvent_moves.ctls.after canUpd_ctls)

theorem canTakeAll_ctls {s : State} {c : Nat} : Apart canC c s (canTakeAll s c) :=
  .foldl canUpd_ctls fun _ _ => canTake_ctls

theorem execCanConfigEffect_ctls {s : State} {c t : Nat} : NextApart canC c s (execCanConfigEffect c t s) :=
  .ite (.ok .refl) (.ok (canTakeAll_ctls.after advance_moves.ctls))

theorem execCanIntegrationDone_ctls {s : State} {c t : Nat} : NextApart canC c s (execCanIntegrationDone c t s) :=
  .ite (.ok .refl) (.ok (canUpd_ctls.after advance_moves.ctls))

theorem execCanSendLaunch_ctls {s : State} {c : Nat} : NextApart canC c s (execCanSendLaunch c s) := by
  unfold execCanSendLaunch
  split
  · exact .ok .refl
  · exact .ok (endLaunch_moves.ctls.after (.ite (canUpd_ctls.after (outward_moves.ctls.after advance_moves.ctls))
        (canDrop_ctls.after (outward_moves.ctls.after advance_moves.ctls))))

theorem execCanArbitration_ctls {s : State} {c sof : Nat} : NextApart canC c s (execCanArbitration c sof s) :=
  .ite (.ok .refl) (by
    split
    · exact .ok .refl
    · exact .ok (send_moves.ctls.after (canUpd_ctls.after advance_moves.ctls)))

theorem tdcMeasure_ctls {s : State} {c : Nat} {tdcv : Option Nat} : Apart canC c s (tdcMeasure s c tdcv).1 := by
  unfold tdcMeasure
  dsimp only
  split
  · exact .ite_fst (.ite_fst (bump_moves.ctls.after canUpd_ctls) canUpd_ctls) .refl
  · exact .refl

theorem execCanTxComplete_ctls {s : State} {c : Nat} {sent : Bool} {tdcv cons : Option Nat} {t : Nat} : NextApart canC c s (execCanTxComplete c sent
    tdcv cons t s) := by
  unfold execCanTxComplete
  split
  · exact .ok .refl
  · exact .ite (.ok (canAttemptFails_ctls.after (bump_moves.ctls.after advance_moves.ctls)))
        (.ite (.ok (canError_ctls.after (tdcMeasure_ctls.after advance_moves.ctls)))
        (.ok (canConfine_ctls.after (canEnds_ctls.after (canUpd_ctls.after (bump_moves.ctls.after (tdcMeasure_ctls.after advance_moves.ctls)))))))

theorem canAccept_ctls {s : State} {c sof : Nat} {f : Bytes} {cons : Option Nat} : Apart canC c s (canAccept s c sof f cons) := by
  unfold canAccept
  dsimp only
  split
  · exact .ite (rxRecord_ctls.after bump_moves.ctls) (bump_moves.ctls.after bump_moves.ctls)
  · exact .ite (rxRecord_ctls.after (.ite (.ite (bump_moves.ctls.after bump_moves.ctls) (writeGroup_moves.ctls.after bump_moves.ctls))
        bump_moves.ctls)) (.ite (.ite (bump_moves.ctls.after bump_moves.ctls) (writeGroup_moves.ctls.after bump_moves.ctls)) bump_moves.ctls)

theorem execCanFrameRx_ctls {s : State} {c sof : Nat} {f : Bytes} {cons : Option Nat} {t : Nat} : NextApart canC c s (execCanFrameRx c sof f cons t
    s) :=
  .ite (.ok .refl) (.ite (.ok (canUpd_ctls.after (bump_moves.ctls.after (canUpd_ctls.after advance_moves.ctls))))
      (.ite (.ok (canConfine_ctls.after (canUpd_ctls.after (drawFree_moves.ctls.after (canUpd_ctls.after advance_moves.ctls)))))
      (.ok (canAccept_ctls.after (mirrorInput_moves.ctls.after (canConfine_ctls.after
      (canUpd_ctls.after (drawFree_moves.ctls.after (canUpd_ctls.after advance_moves.ctls)))))))))

theorem execCanBusError_ctls {s : State} {c code : Nat} {quiet : Bool} {tdcv cons : Option Nat} {t : Nat} : NextApart canC c s (execCanBusError c
    code quiet tdcv cons t s) :=
  .ite (.ok .refl) (.ok (canError_ctls.after (tdcMeasure_ctls.after advance_moves.ctls)))

theorem canRecover_ctls {s : State} {c : Nat} : Apart canC c s (canRecover s c) :=
  .ite canUpd_ctls .refl

theorem execCanRecover_ctls {s : State} {c : Nat} : NextApart canC c s (execCanRecover c s) := by
  refine .ite (.ok .refl) ?_
  unfold regCmd
  exact .ok (.ite canRecover_ctls .refl)

theorem execCanRecoveryDone_ctls {s : State} {c t : Nat} : NextApart canC c s (execCanRecoveryDone c t s) :=
  .ite (.ok .refl) (.ok (canEvent_moves.ctls.after (canUpd_ctls.after advance_moves.ctls)))

theorem exec_axes (c : Instr) (n : Nat) (s : State) (hc : rowAxis c = some n) : Answers c s fun r => ∀ m, m ≠ n → axOf r m = axOf s m := by
  cases c <;> simp only [rowAxis, Option.some.injEq, reduceCtorEq] at hc <;> subst hc
  · exact execMotStart_axes
  · exact execMotStop_axes
  · exact execMotHome_axes
  · exact execStepperTick_axes
  · exact execStepPulse_axes
  · exact execStepPulseFall_axes
  · exact execServoTick_axes
  · exact execLimitSwitchActive_axes
  · exact execHomeSwitchEdge_axes
  · exact execHomingTimeout_axes
  · exact execPgoodLoss_axes
  · exact execPgoodRise_axes
  · exact execDriveSettleEnd_axes
  · exact execDriveEnableDelay_axes
  · exact execPgoodTimeout_axes
  · exact execPhaseRestoreStep_axes

theorem exec_chans (c : Instr) (n : Nat) (s : State) (hc : rowChannel c = some n) : Answers c s fun r => ∀ m, m ≠ n → fbkCh r m = fbkCh s m := by
  cases c <;> simp only [rowChannel, Option.some.injEq, reduceCtorEq] at hc <;> subst hc
  · exact execQuadEdge_chans
  · exact execHallChange_chans
  · exact execSsiFrameStart_chans
  · exact execSsiFrameEnd_chans
  · exact execIndexEdge_chans
  · exact execFbkPublish_chans
  · exact execComparePulseEnd_chans

theorem exec_ctls (c : Instr) (n : Nat) (s : State) (hc : rowController c = some n) : Answers c s fun r => ∀ m, m ≠ n → canC r m = canC s m := by
  cases c <;> simp only [rowController, Option.some.injEq, reduceCtorEq] at hc <;> subst hc
  · exact execCanRecover_ctls
  · exact execCanSendLaunch_ctls
  · exact execCanArbitration_ctls
  · exact execCanTxComplete_ctls
  · exact execCanFrameRx_ctls
  · exact execCanBusError_ctls
  · exact execCanRecoveryDone_ctls
  · exact execCanIntegrationDone_ctls
  · exact execCanConfigEffect_ctls

/-- Settles O47: every function these commands are made of writes the record of the unit it is given, and only that. -/
theorem unitsKeepApart : Obligations.UnitsKeepApart := ⟨exec_axes, exec_chans, exec_ctls⟩

end Sys2Proof.Machine
end

section
/-! How one record of a table stands, counters that do not fall, and the edges of a quadrature input (O57). -/
set_option Elab.async false
namespace Sys2Proof.Machine
open Sys2Proof

/-! ### How a record of a table stands -/

/-- Record `n` of a table satisfies `P`, and the table is canonical. -/
structure Stands {α : Type} [Inhabited α] [DecidableEq α] (tbl : State → SMap α) (s : State) (n : Nat) (P : α → Prop) : Prop where
  wf : (tbl s).wf = true
  holds : P ((tbl s).get n)

/-- The feedback channels. -/
def fbkTable (s : State) : SMap FbkCh := s.fbk.ch
/-- The axes. -/
def axTable (s : State) : SMap Axis := s.mot.ax
/-- The capture channels. -/
def capTable (s : State) : SMap CapCh := s.cap.ch
/-- The Quench pins. -/
def qchTable (s : State) : SMap QchPin := s.qch.pin
/-- The CAN FD controllers. -/
def canTable (s : State) : SMap CanCtl := s.can.ctl

section
variable {α : Type} [Inhabited α] [DecidableEq α] {tbl : State → SMap α} {s t : State} {n : Nat} {P Q : α → Prop}

theorem Stands.mono (h : Stands tbl s n P) (g : ∀ a, P a → Q a) : Stands tbl s n Q := ⟨h.wf, g _ h.holds⟩

theorem Stands.of_eq (h : Stands tbl s n P) (e : tbl t = tbl s) : Stands tbl t n P := ⟨e ▸ h.wf, e ▸ h.holds⟩

theorem Stands.ite {c : Prop} {_ : Decidable c} (h : Stands tbl s n P) (g : Stands tbl t n P) : Stands tbl (if c then s else t) n P := by
  split
  · exact h
  · exact g

theorem Stands.foldl {β : Type} {f : State → β → State} (h : Stands tbl s n P) (hf : ∀ u b, Stands tbl u n P → Stands tbl (f u b) n P)
    (l : List β) : Stands tbl (l.foldl f s) n P := List.foldlRecOn l f h fun u hu b _ => hf u b hu

end

section
variable {s t : State} {n : Nat} {l : List Part}

theorem Moves.now (g : Moves l s t) (hl : Part.tmb ∉ l := by decide) : t.tmb.now = s.tmb.now := congrArg Tmb.now (g.frame .tmb hl)

theorem Moves.cmds (g : Moves l s t) (hl : Part.hif ∉ l := by decide) : t.hif.cmds = s.hif.cmds := congrArg Hif.cmds (g.frame .hif hl)

section
variable {P Q : FbkCh → Prop}

theorem stands_fbk (h : canonical s) (n : Nat) : Stands fbkTable s n (· = fbkCh s n) := ⟨(canonical_iff s).1 h .fbk, rfl⟩

/-- What leaves the feedback channels leaves how one stands. -/
theorem Moves.fbkAt (g : Moves l s t) (h : Stands fbkTable s n P) (hl : Part.fbk ∉ l := by decide) : Stands fbkTable t n P :=
  h.of_eq (congrArg Fbk.ch (g.frame .fbk hl))

theorem Stands.fbkUpd (h : Stands fbkTable s n P) {f : FbkCh → FbkCh} (hf : ∀ a, P a → Q (f a)) : Stands fbkTable (fbkUpd s n f) n Q :=
  ⟨SMap.wf_upd _ n f h.wf, (SMap.get_upd_self _ n f h.wf).symm ▸ hf _ h.holds⟩
end

end

/-! ### Counters that only rise -/

/-- A counter is not lower than before. -/
def CountUp (a : Nat) (s t : State) : Prop := s.regs.wf = true → t.regs.wf = true ∧ (stored s a).toNat ≤ (stored t a).toNat

section
variable {a : Nat} {s t u : State}

theorem CountUp.refl : CountUp a s s := fun h => ⟨h, le_rfl⟩

theorem CountUp.trans (h : CountUp a s t) (g : CountUp a t u) : CountUp a s u := fun hs =>
  ⟨(g (h hs).1).1, (h hs).2.trans (g (h hs).1).2⟩

theorem CountUp.ite {c : Prop} {_ : Decidable c} (h : CountUp a s t) (g : CountUp a s u) : CountUp a s (if c then t else u) := by
  split
  · exact h
  · exact g

theorem CountUp.of_regs (h : CountUp a s t) (e : u.regs = t.regs) : CountUp a s u := by
  intro hs
  obtain ⟨hwf, hle⟩ := h hs
  exact ⟨e ▸ hwf, hle.trans (by simp only [stored, e, le_refl])⟩

theorem CountUp.past {l : List Part} (h : CountUp a s t) (g : Moves l t u) (hl : Part.regs ∉ l := by decide) : CountUp a s u :=
  h.of_regs (g.frame .regs hl)

/-- A counter that rises by `n`, short of its greatest value. -/
theorem stored_bumpN_self {b : Nat} (n : Nat) (h : s.regs.wf = true) : (stored (bumpN s b n) b).toNat = min ((stored s b).toNat + n) 0xFFFFFFFF :=
    by
  rw [bumpN, stored_setStored_self _ _ _ h, BitVec.toNat_ofNat]
  omega

theorem countUp_bumpN (s : State) (b n : Nat) : CountUp a s (bumpN s b n) := by
  refine fun h => ⟨setStored_wf h _ _, ?_⟩
  by_cases hb : a = b
  · subst hb
    rw [stored_bumpN_self n h]
    have := (stored s a).isLt
    omega
  · rw [bumpN, stored_setStored_ne _ _ hb]

theorem countUp_event (s : State) (k : EvKind) (l : List (Nat × Int)) : CountUp a s (event s k l) := by
  obtain hr | hr | hr := (event_recorded s k l).regs
  · exact CountUp.refl.of_regs hr
  · exact (countUp_bumpN s cRecFolded 1).of_regs hr
  · exact (countUp_bumpN s cRecEventsDropped 1).of_regs hr

theorem countUp_waligPut (s : State) (p cls : Nat) (m : Bytes) : CountUp a s (waligPut s p cls m) :=
  .ite .refl (.ite (countUp_bumpN s _ 1) (CountUp.past (CountUp.past (countUp_bumpN s cWlkTxMsg 1) wPortUpd_moves) send_moves))

theorem countUp_waligSend (s : State) (ports : List Nat) (cls typ dst : Nat) (ack : Bool) (b : Bytes) :
    CountUp a s (waligSend s ports cls typ dst ack b) :=
  List.foldlRecOn _ _ (CountUp.refl.of_regs rfl) fun u hu p _ => hu.trans (countUp_waligPut u p cls _)

theorem countUp_pinState (s : State) : CountUp a s (pinState s) := by
  refine .ite .refl (.ite .refl (.ite (CountUp.refl.of_regs rfl) (.trans ?_ (countUp_waligSend _ _ _ _ _ _ _))))
  exact .trans (CountUp.refl.of_regs rfl) (countUp_bumpN _ _ 1)

theorem countUp_tmb (s : State) (x : Tmb) : CountUp a s { s with tmb := x } := CountUp.refl.of_regs rfl

theorem countUp_tioDrive (s : State) (p : Nat) (l : Bool) : CountUp a s (tioDrive s p l) :=
  .ite .refl ((countUp_tmb s _).trans (countUp_pinState _))

theorem countUp_pinDrive (s : State) (p : Nat) (l : Bool) : CountUp a s (pinDrive s p l) :=
  .ite .refl (.ite (countUp_tmb s _) (countUp_tioDrive s p l))

theorem countUp_fbkPass (s : State) (n : Nat) : CountUp a s (fbkPass s n) :=
  .ite (List.foldlRecOn _ _ CountUp.refl fun u hu _ _ => hu.trans (countUp_pinDrive u _ _)) .refl

theorem countUp_axFault (s : State) (n cause : Nat) (k : EvKind) : CountUp a s (axFault s n cause k) := by
  refine CountUp.past (.trans (.past (.past (.past .refl axFreeze_moves) axUpd_moves) homeEnds_moves) (countUp_event _ _ _)) axStopsEnd_moves

theorem countUp_axLinks (s : State) (n : Nat) : CountUp a s (axLinks s n) :=
  .ite .refl (.ite (countUp_axFault s n _ _) (.ite (.ite (countUp_axFault s n _ _) .refl) .refl))

theorem countUp_axOnFbk (s : State) (ch : Nat) : CountUp a s (axOnFbk s ch) :=
  List.foldlRecOn _ _ CountUp.refl fun u hu n _ => hu.trans (.ite (countUp_axLinks u n) .refl)

theorem countUp_fbkBad (s : State) (n : Nat) : CountUp a s (fbkBad s n) := by
  refine .ite .refl (.trans ?_ (countUp_axOnFbk _ n))
  exact .trans (.trans (.past .refl fbkUpd_moves) (countUp_bumpN _ _ 1)) (countUp_event _ _ _)


end

/-! ### Edges of A and B -/

section
variable {s : State} {n : Nat} {v : Int}

/-- The raw count of a channel is `v`. -/
def RawAt (s : State) (n : Nat) (v : Int) : Prop := Stands fbkTable s n (·.r = v)

theorem Moves.rawAt {l : List Part} {t : State} (g : Moves l s t) (h : RawAt s n v) (hl : Part.fbk ∉ l := by decide) : RawAt t n v := g.fbkAt h hl

theorem rawAt_fbkUpd {f : FbkCh → FbkCh} (hf : ∀ c, (f c).r = c.r) (h : RawAt s n v) : RawAt (fbkUpd s n f) n v :=
  Stands.fbkUpd h fun c hc => (hf c).trans hc

theorem RawAt.ite {t : State} {c : Prop} {_ : Decidable c} (h : RawAt s n v) (g : RawAt t n v) : RawAt (if c then s else t) n v := Stands.ite h g

theorem RawAt.foldl {β : Type} {f : State → β → State} {l : List β} (h : RawAt s n v) (hf : ∀ u b, RawAt u n v → RawAt (f u b) n v) :
    RawAt (l.foldl f s) n v := Stands.foldl h hf l

theorem rawAt_cmpArm (es : List CmpEntry) (h : RawAt s n v) : RawAt (cmpArm n es s) n v := by
  induction es generalizing s with
  | nil => exact rawAt_fbkUpd (fun _ => rfl) h
  | cons e es ih =>
    exact .ite (ih (rawAt_fbkUpd (fun _ => rfl) (fbkEvent_moves.rawAt (bump_moves.rawAt h)))) (rawAt_fbkUpd (fun _ => rfl) h)

theorem rawAt_cmpFire (h : RawAt s n v) : RawAt (cmpFire s n) n v := by
  unfold cmpFire
  extract_lets counted c w
  have counts : RawAt counted n v := bump_moves.rawAt h
  split
  · exact rawAt_fbkUpd (fun _ => rfl) (bump_moves.rawAt counts)
  · have draws : RawAt (drawFree counted).2 n v := drawFree_moves.rawAt counts
    exact pinDrive_moves.rawAt (rawAt_fbkUpd (fun _ => rfl) (.ite (bump_moves.rawAt draws) draws))

theorem rawAt_cmpMoved (h : RawAt s n v) : RawAt (cmpMoved s n) n v := by
  unfold cmpMoved
  dsimp only
  split
  · exact h
  · exact .ite (rawAt_cmpArm _ (rawAt_fbkUpd (fun _ => rfl) (rawAt_cmpFire h))) h

theorem rawAt_fbkFollow (h : RawAt s n v) : RawAt (fbkFollow s n) n v := .ite h (rawAt_cmpMoved (rawAt_fbkUpd (fun _ => rfl) h))

/-- A count that changes is the old one and the change (R433). -/
theorem rawAt_fbkMove (t : Nat) {dr : Int} (hdr : dr ≠ 0) (h : RawAt s n v) : RawAt (fbkMove s n t dr) n (v + dr) := by
  have r : (fbkCh s n).r = v := h.holds
  unfold fbkMove
  rw [if_neg hdr]
  refine rawAt_fbkFollow (Stands.fbkUpd h fun c _ => ?_)
  rw [r]

theorem rawAt_fbkImplaus (h : RawAt s n v) : RawAt (fbkImplaus s n) n v := by
  refine axOnFbk_moves.rawAt (.foldl (fbkEvent_moves.rawAt (bump_moves.rawAt (rawAt_fbkUpd (fun _ => rfl) h))) fun u e hu => ?_)
  split
  · exact .ite (axOnLoop_moves.rawAt (loopImplaus_moves.rawAt hu)) hu
  · exact hu

theorem rawAt_fbkMismatch (d : Int) (h : RawAt s n v) : RawAt (fbkMismatch s n d) n v := by
  have noted : RawAt (fbkUpd (fbkEvent s evIndexMismatch n d 0 0) n fun c => { c with run := min (c.run + 1) 3, idxGood := 0, idxDev := d }) n v :=
    rawAt_fbkUpd (fun _ => rfl) (fbkEvent_moves.rawAt h)
  exact .ite (rawAt_fbkImplaus noted) noted

theorem rawAt_indexMissing (h : RawAt s n v) : RawAt (indexMissing s n) n v :=
  .ite (rawAt_fbkMismatch _ (bump_moves.rawAt (rawAt_fbkUpd (fun _ => rfl) h))) h

theorem rawAt_fbkBad (h : RawAt s n v) : RawAt (fbkBad s n) n v :=
  .ite h (axOnFbk_moves.rawAt (fbkEvent_moves.rawAt (bump_moves.rawAt (rawAt_fbkUpd (fun _ => rfl) h))))

theorem rawAt_fbkError (t : Nat) (h : RawAt s n v) : RawAt (fbkError s n t) n v := by
  unfold fbkError
  extract_lets counted noted c
  have notes : RawAt noted n v := rawAt_fbkUpd (fun _ => rfl) (bump_moves.rawAt h)
  exact .ite (rawAt_fbkBad notes) notes

/-- The lines as the filter has accepted them (R432). -/
def quadTaken (s : State) (n : Nat) (a b : Bool) (t : Nat) : State :=
  fbkPass (fbkUpd (advance s (t + fbFilter (fbkCh s n).desc)) n fun c => { c with lv := b2n a + 2 * b2n b + 4 * b2n (bit c.lv 2) }) n

theorem rawAt_quadTaken (hcan : canonical s) (a b : Bool) (t : Nat) : RawAt (quadTaken s n a b t) n (fbkCh s n).r := by
  have stood : RawAt s n (fbkCh s n).r := (stands_fbk hcan n).mono fun _ h => h ▸ rfl
  exact fbkPass_moves.rawAt (rawAt_fbkUpd (fun _ => rfl) (advance_moves.rawAt stood))

/-- A change of one line moves the count by one, up or down as the phase moves and DIR_INV says (R433). -/
theorem quadEdge_counts {a b : Bool} {t : Nat} (hcan : canonical s) (hquad : fbMode (fbkCh s n).desc = 1)
    (hone : (a ≠ bit (fbkCh s n).lv 0 ∧ b = bit (fbkCh s n).lv 1) ∨ (a = bit (fbkCh s n).lv 0 ∧ b ≠ bit (fbkCh s n).lv 1)) :
    Answers (.quadEdge n a b t) s fun r => (fbkCh r n).r = (fbkCh s n).r +
      (if ((quadPhase (bit (fbkCh s n).lv 0) (bit (fbkCh s n).lv 1) + 1) % 4 == quadPhase a b) != fbFlag (fbkCh s n).desc 0 then 1 else -1) := by
  refine ⟨_, ?_, (rawAt_indexMissing (rawAt_fbkMove t ?_ (rawAt_quadTaken hcan a b t))).holds⟩
  · show execQuadEdge n a b t s = _
    unfold execQuadEdge
    dsimp only
    rw [if_neg (not_not.2 hquad), if_neg (by tauto), if_neg (by tauto)]
    rfl
  · split <;> decide

/-- A change of both lines is counted as an error and moves nothing (R433). -/
theorem quadEdge_errs {a b : Bool} {t : Nat} (hcan : canonical s) (hquad : fbMode (fbkCh s n).desc = 1)
    (ha : a ≠ bit (fbkCh s n).lv 0) (hb : b ≠ bit (fbkCh s n).lv 1) :
    Answers (.quadEdge n a b t) s fun r => (fbkCh r n).r = (fbkCh s n).r ∧
      min ((stored s cFbkCountErrors).toNat + 1) 0xFFFFFFFF ≤ (stored r cFbkCountErrors).toNat := by
  refine ⟨fbkError (quadTaken s n a b t) n t, ?_, (rawAt_fbkError t (rawAt_quadTaken hcan a b t)).holds, ?_⟩
  · show execQuadEdge n a b t s = _
    unfold execQuadEdge
    dsimp only
    rw [if_neg (not_not.2 hquad), if_neg (by tauto), if_pos ⟨ha, hb⟩]
    rfl
  · have taken : CountUp cFbkCountErrors s (quadTaken s n a b t) :=
      .trans (.past (.past .refl advance_moves) fbkUpd_moves) (countUp_fbkPass _ n)
    have errs : CountUp cFbkCountErrors (bump (quadTaken s n a b t) cFbkCountErrors) (fbkError (quadTaken s n a b t) n t) :=
      .ite (.trans (.past .refl fbkUpd_moves) (countUp_fbkBad _ n)) (.past .refl fbkUpd_moves)
    obtain ⟨hwf, htaken⟩ := taken ((canonical_iff s).1 hcan .regs)
    have hle := (errs (setStored_wf hwf _ _)).2
    rw [bump, stored_bumpN_self 1 hwf] at hle
    omega

end

theorem quadPhase_a (a a0 b : Bool) (h : a ≠ a0) : ((quadPhase a0 b + 1) % 4 == quadPhase a b) = (a != b) := by
  cases a <;> cases a0 <;> cases b <;> simp_all [quadPhase]

theorem quadPhase_b (a b b0 : Bool) (h : b ≠ b0) : ((quadPhase a b0 + 1) % 4 == quadPhase a b) = (a == b) := by
  cases a <;> cases b0 <;> cases b <;> simp_all [quadPhase]

/-- Settles O57: the phase of the lines moves by one when one of them changes, forward when A leads. -/
theorem quadratureCounts : Obligations.QuadratureCounts := by
  unfold Obligations.QuadratureCounts
  refine ⟨fun n t a b s hcan hquad ha hb => ?_, fun n t a b s hcan hquad ha hb => ?_, fun n t a b s hcan hquad ha hb => ?_⟩
  · have counts := quadEdge_counts (t := t) hcan hquad (.inl ⟨ha, hb⟩)
    rwa [← hb, quadPhase_a _ _ _ ha] at counts
  · have counts := quadEdge_counts (t := t) hcan hquad (.inr ⟨ha, hb⟩)
    rwa [← ha, quadPhase_b _ _ _ hb] at counts
  · obtain ⟨r, hr, hraw, hcount⟩ := quadEdge_errs (t := t) hcan hquad ha hb
    exact ⟨r, hr, hraw, by have := (stored s cFbkCountErrors).isLt; omega, by omega⟩

end Sys2Proof.Machine
end

section
/-! What a change leaves as it was, part by part. -/
set_option Elab.async false
namespace Sys2Proof.Machine
open Sys2Proof

section
variable {s t : State} {l : List Part}

theorem Moves.regs (g : Moves l s t) (hl : Part.regs ∉ l := by decide) : t.regs = s.regs := g.frame .regs hl

theorem Moves.tmb (g : Moves l s t) (hl : Part.tmb ∉ l := by decide) : t.tmb = s.tmb := g.frame .tmb hl

theorem Moves.pst (g : Moves l s t) (hl : Part.pst ∉ l := by decide) : t.pst = s.pst := g.frame .pst hl

theorem Moves.hif (g : Moves l s t) (hl : Part.hif ∉ l := by decide) : t.hif = s.hif := g.frame .hif hl

theorem Moves.recd (g : Moves l s t) (hl : Part.recd ∉ l := by decide) : t.recd = s.recd := g.frame .recd hl

theorem Moves.cyc (g : Moves l s t) (hl : Part.cyc ∉ l := by decide) : t.cyc = s.cyc := g.frame .cyc hl

theorem Moves.hrt (g : Moves l s t) (hl : Part.hrt ∉ l := by decide) : t.hrt = s.hrt := g.frame .hrt hl

theorem Moves.ile (g : Moves l s t) (hl : Part.ile ∉ l := by decide) : t.ile = s.ile := g.frame .ile hl

theorem Moves.cnv (g : Moves l s t) (hl : Part.cnv ∉ l := by decide) : t.cnv = s.cnv := g.frame .cnv hl

theorem Moves.anv (g : Moves l s t) (hl : Part.anv ∉ l := by decide) : t.anv = s.anv := g.frame .anv hl

theorem Moves.cap (g : Moves l s t) (hl : Part.cap ∉ l := by decide) : t.cap = s.cap := g.frame .cap hl

theorem Moves.qch (g : Moves l s t) (hl : Part.qch ∉ l := by decide) : t.qch = s.qch := g.frame .qch hl

theorem Moves.fbk (g : Moves l s t) (hl : Part.fbk ∉ l := by decide) : t.fbk = s.fbk := g.frame .fbk hl

theorem Moves.mot (g : Moves l s t) (hl : Part.mot ∉ l := by decide) : t.mot = s.mot := g.frame .mot hl

theorem Moves.stn (g : Moves l s t) (hl : Part.stn ∉ l := by decide) : t.stn = s.stn := g.frame .stn hl

theorem Moves.seq (g : Moves l s t) (hl : Part.seq ∉ l := by decide) : t.seq = s.seq := g.frame .seq hl

theorem Moves.can (g : Moves l s t) (hl : Part.can ∉ l := by decide) : t.can = s.can := g.frame .can hl

theorem Moves.wlk (g : Moves l s t) (hl : Part.wlk ∉ l := by decide) : t.wlk = s.wlk := g.frame .wlk hl

theorem Moves.par (g : Moves l s t) (hl : Part.par ∉ l := by decide) : t.par = s.par := g.frame .par hl

theorem Moves.mram (g : Moves l s t) (hl : Part.mram ∉ l := by decide) : t.mram = s.mram := g.frame .mram hl

theorem Moves.aon (g : Moves l s t) (hl : Part.aon ∉ l := by decide) : t.aon = s.aon := g.frame .aon hl

theorem Moves.pwr (g : Moves l s t) (hl : Part.pwr ∉ l := by decide) : t.pwr = s.pwr := g.frame .pwr hl

theorem Moves.hdl (g : Moves l s t) (hl : Part.hdl ∉ l := by decide) : t.hdl = s.hdl := g.frame .hdl hl

theorem Moves.out (g : Moves l s t) (hl : Part.out ∉ l := by decide) : t.out = s.out := g.frame .out hl

end

section
variable {s t : State}

theorem stored_congr (e : t.regs = s.regs) (a : Nat) : stored t a = stored s a := by simp only [stored, e]

theorem fld_congr (e : t.regs = s.regs) (f : Fld) : fld t f = fld s f := by simp only [fld, stored, e]

/-- The Timeline moved on is the Timeline as it was but for its count. -/
theorem advance_tmb (s : State) (t : Nat) : ∃ n f r, (advance s t).tmb = { s.tmb with now := n, frac := f, resid := r } := by
  unfold advance
  split
  · exact ⟨_, _, _, rfl⟩
  · exact ⟨_, _, _, rfl⟩

theorem now_ite {c : Prop} {_ : Decidable c} {n : Nat} (h : s.tmb.now = n) (g : t.tmb.now = n) : (if c then s else t).tmb.now = n := by
  split <;> assumption

/-- A command that runs is found, and has not ended. -/
theorem found_of_running {h : Nat} (hrun : running s h = true) : ∃ c, cmdFind s h = some c ∧ c.started = true ∧ c.ended = none := by
  unfold running at hrun
  split at hrun
  next c hc => simp at hrun; exact ⟨c, hc, hrun⟩
  · cases hrun

theorem endStatus_endCmd_of_running {h : Nat} (st : Status) (r d : Nat) (hrun : running s h = true) : endStatus (endCmd s h st r d) h = some st :=
    by
  obtain ⟨c, hc, _, hopen⟩ := found_of_running hrun
  exact endStatus_endCmd st r d hc hopen

end

end Sys2Proof.Machine
end

section
/-! A step runs the command at the front of the queue (O1). -/
set_option Elab.async false
namespace Sys2Proof.Machine
open Sys2Proof

/-- Settles O1: a step with a command at the front of the queue is that command on the state with the rest. -/
theorem stepRunsTheFrontCommand : Obligations.StepRunsTheFrontCommand := by
  intro c rest s
  simp only [step]

end Sys2Proof.Machine
end

section
/-! The registers that set the module up, and a message of the Walig Link received. -/
set_option Elab.async false
namespace Sys2Proof.Machine
open Sys2Proof

/-! ### The registers that set the module up -/

/-- A register the module itself notes in: a counter of a block, or the interrupt bits. -/
def noted (a : Nat) : Bool :=
  (decide (0x100 ≤ a % 0x100000) && decide (a % 0x100000 < 0x200)) || (decide (0x818100 ≤ a) && decide (a < 0x818140)) || a == 0x28

/-- Every other register reads as before. -/
def Setup (s t : State) : Prop := ∀ a, noted a = false → stored t a = stored s a

section
variable {s t u : State}

theorem Setup.refl : Setup s s := fun _ _ => rfl

theorem Setup.trans (h : Setup s t) (g : Setup t u) : Setup s u := fun a ha => (g a ha).trans (h a ha)

theorem Setup.of_regs (h : Setup s t) (e : u.regs = t.regs) : Setup s u := fun a ha => (stored_congr e a).trans (h a ha)

theorem Moves.setup {l : List Part} (g : Moves l t u) (h : Setup s t) (hl : Part.regs ∉ l := by decide) : Setup s u := h.of_regs (g.regs hl)

theorem Setup.ite {c : Prop} {_ : Decidable c} (h : Setup s t) (g : Setup s u) : Setup s (if c then t else u) := by split <;> assumption

theorem Setup.foldl {β : Type} {f : State → β → State} {l : List β} (h : Setup s t) (hf : ∀ u b, Setup u (f u b)) : Setup s (l.foldl f t) :=
  List.foldlRecOn _ _ h fun _ hu _ _ => hu.trans (hf _ _)

theorem Setup.stored {a : Nat} (h : Setup s t) (ha : noted a = false := by decide) : stored t a = stored s a := h a ha

theorem Setup.fld {f : Fld} (h : Setup s t) (ha : noted f.addr = false := by decide) : fld t f = fld s f := by
  simp only [Sys2Proof.Machine.fld, h f.addr ha]

theorem Setup.flag {f : Fld} (h : Setup s t) (ha : noted f.addr = false := by decide) : flag t f = flag s f := by
  simp only [Sys2Proof.Machine.flag, h.fld ha]

theorem setup_setStored {a : Nat} {v : Word} (ha : noted a = true) (h : Setup s t) : Setup s (setStored t a v) := fun b hb => by
  rw [stored_setStored_ne t v (by rintro rfl; simp [ha] at hb), h b hb]

theorem setup_bumpN {a n : Nat} (h : Setup s t) (ha : noted a = true := by decide) : Setup s (bumpN t a n) := setup_setStored ha h

theorem setup_bump {a : Nat} (h : Setup s t) (ha : noted a = true := by decide) : Setup s (bump t a) := setup_bumpN h ha

theorem setup_event {k : EvKind} {l : List (Nat × Int)} (h : Setup s t) : Setup s (event t k l) := by
  obtain hr | hr | hr := (event_recorded t k l).regs
  · exact h.of_regs hr
  · exact (setup_bump (a := cRecFolded) h).of_regs hr
  · exact (setup_bump (a := cRecEventsDropped) h).of_regs hr

theorem setup_glbInt {f : Fld} {v : Nat} (h : Setup s t) (hf : noted f.addr = true := by decide) : Setup s (glbInt t f v) :=
  (setup_setStored hf h).of_regs rfl

theorem setup_statusChanged (h : Setup s t) : Setup s (statusChanged t) := setup_glbInt h

theorem setup_faultEdge {a : State} (h : Setup s t) : Setup s (faultEdge a t) := .ite (setup_statusChanged (setup_glbInt h)) h

theorem setup_assertFault {f : FaultSrc} (h : Setup s t) : Setup s (assertFault t f) := setup_faultEdge (h.of_regs rfl)

theorem setup_waligPut {p cls : Nat} {m : Bytes} (h : Setup s t) : Setup s (waligPut t p cls m) :=
  .ite h (.ite (setup_bump h) (send_moves.setup (wPortUpd_moves.setup (setup_bump h))))

theorem setup_waligSend {ports : List Nat} {cls typ dst : Nat} {ack : Bool} {b : Bytes} (h : Setup s t) :
    Setup s (waligSend t ports cls typ dst ack b) :=
  .foldl (h.of_regs rfl) fun _ _ => setup_waligPut .refl

theorem setup_mirrorSend {typ : Nat} {b : Bytes} (h : Setup s t) : Setup s (mirrorSend t typ b) := .ite h (setup_waligSend (setup_bump h))

theorem setup_wForward {p : Nat} {m : WMsg} (h : Setup s t) : Setup s (wForward t p m) := by
  unfold wForward
  extract_lets ports time
  refine .ite h (.ite (setup_bump h) (.foldl ?_ fun _ _ => setup_waligPut .refl))
  show Setup s (if time then drawFree t else (0, t)).2
  split
  · exact drawFree_moves.setup h
  · exact h

end

/-! ### A message received -/

/-- Of the Walig Link only the ports and the messages remembered have changed. -/
def LinkKept (s t : State) : Prop := ∃ port recent, t.wlk = { s.wlk with port := port, recent := recent }

section
variable {s t u : State}

theorem LinkKept.refl : LinkKept s s := ⟨_, _, rfl⟩

theorem LinkKept.trans (h : LinkKept s t) (g : LinkKept t u) : LinkKept s u := by
  obtain ⟨p, r, ht⟩ := h
  obtain ⟨p', r', hu⟩ := g
  exact ⟨p', r', by rw [hu, ht]⟩

theorem Moves.linkKept {l : List Part} (g : Moves l t u) (h : LinkKept s t) (hl : Part.wlk ∉ l := by decide) : LinkKept s u :=
  h.trans ⟨_, _, g.wlk hl⟩

theorem LinkKept.ite {c : Prop} {_ : Decidable c} (h : LinkKept s t) (g : LinkKept s u) : LinkKept s (if c then t else u) := by
  split <;> assumption

theorem linkKept_wPortUpd {p : Nat} {f : WPort → WPort} (h : LinkKept s t) : LinkKept s (wPortUpd t p f) := h.trans ⟨_, _, rfl⟩

theorem linkKept_waligPut {p cls : Nat} {m : Bytes} (h : LinkKept s t) : LinkKept s (waligPut t p cls m) :=
  .ite h (.ite (bump_moves.linkKept h) (send_moves.linkKept (linkKept_wPortUpd (bump_moves.linkKept h))))

/-- A message takes the next SEQ of its class (R520); the rest of the link is as it was. -/
theorem waligSend_wlk (s : State) (ports : List Nat) (cls typ dst : Nat) (ack : Bool) (b : Bytes) :
    ∃ port recent, (waligSend s ports cls typ dst ack b).wlk =
      { s.wlk with port := port, recent := recent, seq := s.wlk.seq.set cls ((s.wlk.seq.get cls + 1) % 2 ^ 32) } := by
  unfold waligSend
  extract_lets q msg link sent
  obtain ⟨port, recent, h⟩ : LinkKept sent (ports.foldl (fun s p => waligPut s p cls msg) sent) :=
    List.foldlRecOn _ _ .refl fun _ hu _ _ => linkKept_waligPut hu
  exact ⟨port, recent, h⟩

theorem waligSend_seq (s : State) (ports : List Nat) (cls typ dst : Nat) (ack : Bool) (b : Bytes) :
    (waligSend s ports cls typ dst ack b).wlk.seq = s.wlk.seq.set cls ((s.wlk.seq.get cls + 1) % 2 ^ 32) := by
  obtain ⟨_, _, h⟩ := waligSend_wlk s ports cls typ dst ack b
  rw [h]

theorem linkKept_wForward {p : Nat} {m : WMsg} (h : LinkKept s t) : LinkKept s (wForward t p m) := by
  unfold wForward
  extract_lets ports time
  refine .ite h (.ite (bump_moves.linkKept h) (List.foldlRecOn _ _ ?_ fun _ hu _ _ => linkKept_waligPut hu))
  show LinkKept s (if time then drawFree t else (0, t)).2
  split
  · exact drawFree_moves.linkKept h
  · exact h

end

theorem wForMe_congr {s t : State} (hs : Setup s t) (hpar : t.par = s.par) (p : Nat) (m : WMsg) : wForMe t p m = wForMe s p m := by
  simp only [wForMe, moduleNo, isPairPort, parEn, pairPort, hs.fld (f := fWlkCtrlModule), hs.flag (f := fParCtrlEn), hs.fld (f := fParCtrlPort),
      hpar]

/-- What the port, the check of repeats and the passing on leave of the state when a message comes that is for this module. -/
structure Taken (s u : State) (t : Nat) : Prop where
  moves : Moves [.regs, .tmb, .wlk, .out, .freeCtr] s u
  setup : Setup s u
  tmb : u.tmb = (advance s t).tmb
  link : LinkKept s u

theorem Taken.now {s u : State} {t : Nat} (h : Taken s u t) : u.tmb.now = max s.tmb.now t := by rw [h.tmb, advance_now]

/-- The port has counted a message. -/
def wNoticed (s : State) (p t : Nat) : State := wPortUpd (bump (advance s t) cWlkRxMsg) p fun x => { x with rx := (x.rx + 1) % 2 ^ 32 }

/-- The message is remembered where it is looked for again. -/
def wRemembered (s : State) (p : Nat) (m : WMsg) : State :=
  if isPairPort s p then s else { s with wlk := { s.wlk with
    recent := (m.src, m.cls, m.seq, s.tmb.now) :: s.wlk.recent.filter fun e => decide (s.tmb.now < e.2.2.2 + 1000000) } }

theorem taken_wNoticed (s : State) (p t : Nat) : Taken s (wNoticed s p t) t :=
  ⟨wPortUpd_moves.after (bump_moves.after advance_moves.mono), wPortUpd_moves.setup (setup_bump (advance_moves.setup .refl)), rfl,
    linkKept_wPortUpd (bump_moves.linkKept (advance_moves.linkKept .refl))⟩

theorem wRemembered_moves {s : State} {p : Nat} {m : WMsg} : Moves [.wlk] s (wRemembered s p m) := .ite .refl (.setWlk .refl)

theorem waligRx_of_receives {s : State} {p cls typ t : Nat} {b : Bytes} (h : Receives s p cls typ b t) :
    ∃ u, (∀ k, waligRx s p cls typ b t k = k u (wParse b)) ∧ Taken s u t := by
  obtain ⟨hp, hup, hgood, hcls, htyp, hon, hcrc, hnew, hme⟩ := h
  have hnow := (taken_wNoticed s p t).now
  obtain ⟨hmoves, hset, htmb, hlink⟩ := taken_wNoticed s p t
  have passed : Moves [.regs, .wlk, .out, .freeCtr] (wNoticed s p t) (wForward (wRemembered (wNoticed s p t) p (wParse b)) p (wParse b)) :=
    wForward_moves.after wRemembered_moves.mono
  have hset' : Setup s (wForward (wRemembered (wNoticed s p t) p (wParse b)) p (wParse b)) := setup_wForward (wRemembered_moves.setup hset)
  have hpair : isPairPort (wNoticed s p t) p = isPairPort s p := by
    simp only [isPairPort, parEn, pairPort, hset.flag (f := fParCtrlEn), hset.fld (f := fParCtrlPort)]
  have hrecent : (wNoticed s p t).wlk.recent = s.wlk.recent := by
    show (advance s t).wlk.recent = _
    rw [advance_moves.wlk]
  refine ⟨_, fun k => ?_, passed.after hmoves, hset', passed.tmb.trans htmb,
    linkKept_wForward (.ite hlink (hlink.trans ⟨_, _, rfl⟩))⟩
  refine (if_neg ?_).trans ((if_neg ?_).trans ((if_neg ?_).trans ((if_neg ?_).trans (if_pos ?_))))
  · simp [hup, hgood, hcls, htyp, hon]; omega
  · simp [hgood]
  · simp [hcrc]
  · show ¬ (!isPairPort (wNoticed s p t) p && (wNoticed s p t).wlk.recent.any fun e => e.1 == (wParse b).src && e.2.1 == (wParse b).cls &&
      e.2.2.1 == (wParse b).seq && decide ((wNoticed s p t).tmb.now < e.2.2.2 + 1000000)) = true
    rw [hpair, hrecent, hnow, hcls]
    cases hp : isPairPort s p
    · rw [hp, Bool.false_or, Bool.not_eq_true'] at hnew
      rw [hnew]; decide
    · simp
  · exact (wForMe_congr hset' (passed.after hmoves).par p (wParse b)).trans hme

theorem mirrorRx_of_receives {s : State} {typ t : Nat} {b : Bytes} (hen : parEn s = true) (h : Receives s (pairPort s) clsMIRROR typ b t) :
    ∃ u, (∀ k, mirrorRx s typ b t k = k u (wParse b).payload) ∧ Taken s u t := by
  obtain ⟨u, hrx, hu⟩ := waligRx_of_receives h
  refine ⟨bump u cParMirrorReceived, fun k => ?_, bump_moves.after hu.moves, setup_bump hu.setup, hu.tmb, bump_moves.linkKept hu.link⟩
  unfold mirrorRx
  rw [if_neg (by simp [hen]), hrx]

end Sys2Proof.Machine
end

section
/-! State transfers and self-tests (O34). -/
set_option Elab.async false
namespace Sys2Proof.Machine
open Sys2Proof

/-! ### State transfers -/

theorem wPortUp_congr {s t : State} (e : t.wlk = s.wlk) (p : Nat) : wPortUp t p = wPortUp s p := by simp only [wPortUp, wPort, e]

theorem autoResyncStart_answers {s : State} {t : Nat} (hact : s.par.state = .active) (hdue : s.par.resync ≠ none)
    (hauto : flag s fParCtrlAutoResync = true) (hup : wPortUp s (pairPort s) = true)
    (hpartner : s.par.partnerState = PairState.standbyUnsync.code) (hidle : s.par.xfer = .none) :
    Answers (.autoResyncStart t) s fun r =>
      r.par.xfer = .copying ∧ r.par.xferAt = max s.tmb.now t ∧ r.par.resync = none ∧ r.par.xferStatus = .inProgress ∧
        r.tmb.now = max s.tmb.now t := by
  have hflag : flag (advance s t) fParCtrlAutoResync = true := by rwa [flag_congr advance_moves.regs]
  have hport : wPortUp (advance s t) (pairPort (advance s t)) = true := by
    rwa [pairPort, fld_congr advance_moves.regs, wPortUp_congr advance_moves.wlk]
  show ∃ r, execAutoResyncStart t s = .next r ∧ _
  unfold execAutoResyncStart
  dsimp only
  rw [advance_moves.par, if_neg (by simp [hact, hdue, hflag, hport, hpartner, hidle])]
  exact ⟨_, rfl, rfl, advance_now s t, rfl, rfl, advance_now s t⟩

theorem xferFail_par (s : State) (st : Status) : (xferFail s st).par.xfer = .failed ∧ (xferFail s st).par.xferStatus = st := by
  unfold xferFail
  rw [parEvent_moves.par, bump_par]
  exact ⟨rfl, rfl⟩

theorem xferCut_par (s : State) (c : Nat) :
    (xferCut s c).par.xfer = .catchup ∧ (xferCut s c).par.cutFrom = some c ∧ (xferCut s c).par.follow = true := ⟨rfl, rfl, rfl⟩

/-- The mirror begins at the cut's instant, which is not earlier than the instant before (R546). -/
theorem xferCut_now (s : State) (c : Nat) : (xferCut s c).tmb.now = max s.tmb.now c := by
  have sent : Moves [.regs, .hif, .wlk, .par, .out, .freeCtr] (advance s c) (xferCut s c) := .setPar (by
    split
    · exact cmdUpd_moves.after (.foldl (xferFrags_moves.after (.setPar .refl)) fun _ _ => xferFrags_moves.after drawFree_moves.mono)
    · exact .foldl (xferFrags_moves.after (.setPar .refl)) fun _ _ => xferFrags_moves.after drawFree_moves.mono)
          (fun h => { h with acc := SMap.wf_empty })
  rw [sent.now, advance_now]

theorem xferPassEnd_answers {s : State} {left t : Nat} (hact : s.par.state = .active) (hcopy : s.par.xfer = .copying) (hleft : left ≤ 16777216) :
    Answers (.xferPassEnd left none t) s fun r =>
      r.par.xfer = .cut ∧ r.par.passes = s.par.passes + 1 ∧ r.par.dirty = (left + 1023) / 1024 ∧ r.tmb.now = max s.tmb.now t := by
  show ∃ r, execXferPassEnd left none t s = .next r ∧ _
  unfold execXferPassEnd
  dsimp only
  rw [if_neg (by simp [hact, hcopy]), if_pos hleft, advance_moves.par]
  exact ⟨_, rfl, rfl, rfl, rfl, advance_now s t⟩

theorem xferPassEnd_cuts {s : State} {left t c : Nat} (hact : s.par.state = .active) (hcopy : s.par.xfer = .copying) (hleft : left ≤ 16777216)
    (hidle : noItems s = true) :
    Answers (.xferPassEnd left (some c) t) s fun r =>
      r.par.xfer = .catchup ∧ r.par.cutFrom = some c ∧ r.par.follow = true ∧ r.tmb.now = max (max s.tmb.now t) c := by
  show ∃ r, execXferPassEnd left (some c) t s = .next r ∧ _
  unfold execXferPassEnd
  dsimp only
  rw [if_neg (by simp [hact, hcopy]), if_pos hleft, if_pos (by simpa only [noItems, (advance_moves (s := s) (t := t)).hrt] using hidle)]
  obtain ⟨hx, hcut, hfollow⟩ := xferCut_par _ c
  exact ⟨_, rfl, hx, hcut, hfollow, by rw [xferCut_now]; exact congrArg (max · c) (advance_now s t)⟩

theorem xferCutTimeout_answers {s : State} {t : Nat} (hact : s.par.state = .active) (hcut : s.par.xfer = .cut)
    (hlate : s.par.xferAt + 10000000000 ≤ t) :
    Answers (.xferCutTimeout none t) s fun r => r.par.xfer = .failed ∧ r.par.xferStatus = .timeout ∧ r.tmb.now = max s.tmb.now t := by
  show ∃ r, execXferCutTimeout none t s = .next r ∧ _
  unfold execXferCutTimeout
  rw [if_neg (by simp [hact, hcut])]
  dsimp only
  rw [if_neg (by omega)]
  obtain ⟨hx, hst⟩ := xferFail_par (advance s t) .timeout
  exact ⟨_, rfl, hx, hst, by rw [xferFail_moves.now, advance_now]⟩

theorem catchupTimeout_answers {s : State} {t : Nat} (hcatch : s.par.xfer = .catchup)
    (hlate : s.par.xferAt + fld s fParCtrlCatchupMs * 1000000 ≤ t) :
    Answers (.catchupTimeout t) s fun r => r.par.xfer = .failed ∧ r.par.xferStatus = .timeout ∧ r.tmb.now = max s.tmb.now t := by
  show ∃ r, execCatchupTimeout t s = .next r ∧ _
  unfold execCatchupTimeout
  rw [if_neg (by simp [hcatch]; omega)]
  obtain ⟨hx, hst⟩ := xferFail_par (advance s t) .timeout
  exact ⟨_, rfl, hx, hst, by rw [xferFail_moves.now, advance_now]⟩

theorem xferCatchupDone_standby {s : State} {t : Nat} (hunsync : s.par.state = .standbyUnsync) (hcatch : s.par.xfer = .catchup) :
    Answers (.xferCatchupDone t) s fun r => r.par.state = .standbyReady ∧ r.par.xfer = .done ∧ r.tmb.now = max s.tmb.now t := by
  show ∃ r, execXferCatchupDone t s = .next r ∧ _
  unfold execXferCatchupDone
  dsimp only
  rw [if_neg (by simp [hcatch]), if_pos (by rw [advance_moves.par, hunsync])]
  refine ⟨_, rfl, ?_, ?_, ?_⟩
  · rw [parEvent_moves.par, parEvent_moves.par]
  · rw [parEvent_moves.par, parEvent_moves.par]
  · rw [parEvent_moves.now, parEvent_moves.now]
    exact advance_now s t

theorem xferCatchupDone_active {s : State} {t h : Nat} (hact : s.par.state = .active) (hcatch : s.par.xfer = .catchup)
    (hcmd : s.par.xferCmd = some h) (hrun : running s h = true) :
    Answers (.xferCatchupDone t) s fun r =>
      r.par.partnerState = PairState.standbyReady.code ∧ r.par.xfer = .done ∧ r.par.xferCmd = none ∧ endStatus r h = some .ok ∧
        r.tmb.now = max s.tmb.now t := by
  have hrun' : running (advance s t) h = true := by rwa [running_congr advance_moves.cmds]
  show ∃ r, execXferCatchupDone t s = .next r ∧ _
  unfold execXferCatchupDone
  dsimp only
  rw [advance_moves.par, if_neg (by simp [hcatch]), if_neg (by simp [hact]), if_pos hact, hcmd]
  dsimp only
  refine ⟨_, rfl, ?_, ?_, ?_, ?_, ?_⟩
  · rw [parEvent_moves.par, parEvent_moves.par]
  · rw [parEvent_moves.par, parEvent_moves.par]
  · rw [parEvent_moves.par, parEvent_moves.par]
  · rw [endStatus_congr parEvent_moves.cmds, endStatus_congr parEvent_moves.cmds]
    exact endStatus_endCmd_of_running .ok _ _ hrun'
  · rw [parEvent_moves.now, parEvent_moves.now]
    exact endCmd_moves.now.trans (advance_now s t)

/-! ### Self-tests -/

theorem selftestPass_answers (s : State) (t : Nat) :
    Answers (.selftestPass 0 t) s fun r =>
      r.par.selfProgress = 100 ∧ r.par.overdue = false ∧ r.par.selfAt = max s.tmb.now t ∧ r.par.selfFails = min s.par.selfFails 255 ∧
        r.tmb.now = max s.tmb.now t := by
  show ∃ r, execSelftestPass 0 t s = .next r ∧ _
  unfold execSelftestPass
  dsimp only
  rw [if_pos rfl, advance_moves.par]
  exact ⟨_, rfl, rfl, rfl, advance_now s t, rfl, advance_now s t⟩

/-- A module that gives up control, or falls out of step, is neither ACTIVE nor STANDBY_READY, and its self-test stands (R538). -/
theorem pairGiveUp_par (s : State) (cause : Nat) :
    (pairGiveUp s cause).par.selfProgress = s.par.selfProgress ∧ (pairGiveUp s cause).par.selfFails = s.par.selfFails ∧
      (pairGiveUp s cause).par.state ≠ .active ∧ (pairGiveUp s cause).par.state ≠ .standbyReady := by
  unfold pairGiveUp
  split
  · rw [statusChanged_moves.par, parEvent_moves.par, bump_par, mirrorSend_moves.par]
    exact ⟨rfl, rfl, nofun, nofun⟩
  next hactive =>
    unfold parUnsync
    split
    next h => exact ⟨rfl, rfl, hactive, h.1⟩
    · dsimp only
      split <;> simp [parEvent_moves.par]

theorem mem_faults_assertFault (s : State) (f : FaultSrc) : f ∈ (assertFault s f).pwr.faults := by
  unfold assertFault
  rw [faultEdge_moves.pwr]
  dsimp only
  split
  next h => simpa using h
  · simp

theorem selftestPass_fails {s : State} {fails t : Nat} (hfail : 0 < fails) :
    Answers (.selftestPass fails t) s fun r =>
      r.par.selfProgress = 100 ∧ r.par.selfFails = min (s.par.selfFails + fails) 255 ∧ FaultSrc.selftest ∈ r.pwr.faults ∧
        r.par.state ≠ .active ∧ r.par.state ≠ .standbyReady ∧ r.tmb.now = max s.tmb.now t := by
  show ∃ r, execSelftestPass fails t s = .next r ∧ _
  unfold execSelftestPass
  dsimp only
  rw [if_neg (by omega), advance_moves.par]
  obtain ⟨hprogress, hfails, hactive, hready⟩ := pairGiveUp_par _ 8
  refine ⟨_, rfl, hprogress.trans ?_, hfails.trans ?_, ?_, hactive, hready, ?_⟩
  · rw [assertFault_moves.par, parEvent_moves.par]; rfl
  · rw [assertFault_moves.par, parEvent_moves.par]; rfl
  · rw [pairGiveUp_moves.pwr]; exact mem_faults_assertFault _ _
  · rw [pairGiveUp_moves.now, assertFault_moves.now, parEvent_moves.now]; exact advance_now s t

theorem selftestOverdue_answers {s : State} {t : Nat} (hfresh : s.par.overdue = false) (hlate : s.par.selfAt + 86400000000000 ≤ t) :
    Answers (.selftestOverdue t) s fun r => r.par.overdue = true ∧ r.tmb.now = max s.tmb.now t := by
  show ∃ r, execSelftestOverdue t s = .next r ∧ _
  unfold execSelftestOverdue
  rw [if_neg (by simp [hfresh]; omega)]
  exact ⟨_, rfl, by rw [parEvent_moves.par], by rw [parEvent_moves.now]; exact advance_now s t⟩

/-- Settles O34, one lemma for each clause: an event of the pair changes neither its record nor the commands in flight. -/
theorem transfersAndSelfTestsRun : Obligations.TransfersAndSelfTestsRun :=
  ⟨fun _ _ => autoResyncStart_answers, fun _ _ _ => xferPassEnd_answers, fun _ _ _ _ _ => xferPassEnd_cuts, fun _ _ => xferCutTimeout_answers,
    fun _ _ => xferCatchupDone_standby, fun _ _ _ => xferCatchupDone_active, fun _ _ => catchupTimeout_answers,
    fun t s => selftestPass_answers s t, fun _ _ _ => selftestPass_fails, fun _ _ => selftestOverdue_answers⟩

end Sys2Proof.Machine
end

section
/-! The mirror and the roles of a pair (O33). -/
set_option Elab.async false
namespace Sys2Proof.Machine
open Sys2Proof

/-! ### What the partner sends -/

theorem parUnsync_digestsIn (s : State) (cause : Nat) : (parUnsync s cause).par.digestsIn = s.par.digestsIn := by
  unfold parUnsync
  dsimp only
  split
  · rfl
  · split <;> rw [parEvent_moves.par]
    rfl

section
variable {s : State} {t : Nat} {b m : Bytes}

theorem mirrorInputRx_answers (hcan : canonical s) (hen : parEn s = true) (h : Receives s (pairPort s) clsMIRROR 1 b t) (hin : s.par.inStep = true)
    (hm : m = (wParse b).payload) (hkind : le m 0 1 = 8) :
    Answers (.mirrorInputRx b t) s fun r => mirrored r 8 (le m 2 2) (le m 4 8) = some (m.drop 12) ∧ r.tmb.now = max s.tmb.now t := by
  obtain ⟨u, hrx, hu⟩ := mirrorRx_of_receives hen h
  have hpar : u.par = s.par := hu.moves.par
  have htaken : mirrorTake u m = inputKeep u false 8 (le m 2 2) (le (m.drop 4) 0 8) ((m.drop 4).drop 8) := by
    unfold mirrorTake
    dsimp only
    rw [hpar, if_neg (by simp [hin]), hkind]
    rfl
  have hwf : u.par.inputs.wf = true := hpar ▸ ((canonical_iff s).1 hcan .par).inputs
  refine ⟨_, congrArg ok ((hrx _).trans ((congrArg _ hm.symm).trans htaken)), ?_, hu.now⟩
  have hrest : (m.drop 4).drop 8 = m.drop 12 := List.drop_drop ..
  have hkey : le (m.drop 4) 0 8 = le m 4 8 := by simp [le, slice]
  rw [hrest, hkey]
  show Option.map _ (List.find? _ ((u.par.inputs.upd ((8 * 65536 + le m 2 2) * 2 + 0) _).get _)) = _
  rw [Nat.add_zero, SMap.get_upd_self _ _ _ hwf]
  have hfirst (l : List (Nat × Bytes)) : (((le m 4 8, m.drop 12) :: l).take 8).find? (·.1 == le m 4 8) = some (le m 4 8, m.drop 12) := by simp
  rw [hfirst]
  rfl

theorem mirrorCommitOrderRx_answers (hen : parEn s = true) (h : Receives s (pairPort s) clsMIRROR 2 b t) (hin : s.par.inStep = true)
    (hm : m = (wParse b).payload) :
    Answers (.mirrorCommitOrderRx b t) s fun r => r.par.order = s.par.order ++ [(le m 0 8, le m 8 8)] ∧ r.tmb.now = max s.tmb.now t := by
  obtain ⟨u, hrx, hu⟩ := mirrorRx_of_receives hen h
  have hpar : u.par = s.par := hu.moves.par
  refine ⟨_, congrArg ok ((hrx _).trans (if_pos (by rw [hpar, hin]))), ?_, hu.now⟩
  rw [← hm, hpar]

theorem digMismatch_digestsIn (s : State) (d : Digest) : (digMismatch s d).par.digestsIn = s.par.digestsIn := by
  unfold digMismatch
  dsimp only
  split
  · rw [parUnsync_digestsIn, parEvent_moves.par]; rfl
  · rfl

theorem mirrorDigestRx_answers (hen : parEn s = true) (h : Receives s (pairPort s) clsMIRROR 3 b t)
    (hstate : s.par.state = .active ∨ s.par.state = .standbyReady) (hm : m = (wParse b).payload) :
    Answers (.mirrorDigestRx b t) s fun r =>
      r.par.digestsIn = (⟨le m 0 1, le m 2 2, le m 8 8, le m 16 8⟩ :: s.par.digestsIn).take 64 ∧ r.tmb.now = max s.tmb.now t := by
  obtain ⟨u, hrx, hu⟩ := mirrorRx_of_receives hen h
  have hpar : u.par = s.par := hu.moves.par
  refine ⟨_, congrArg ok (hrx _), ?_, digestTake_moves.now.trans hu.now⟩
  rw [← hm]
  unfold digestTake
  dsimp only
  rw [if_neg (by rw [hpar]; rintro ⟨h1, h2⟩; exact hstate.elim h1 h2), hpar]
  split
  · exact digMismatch_digestsIn _ _
  · rfl

theorem mirrorCommandRx_answers (hen : parEn s = true) (h : Receives s (pairPort s) clsMIRROR 4 b t) (hin : s.par.inStep = true)
    (hm : m = (wParse b).payload) (hflags : le m 5 1 = 3) (hofs : le m 8 8 = 0) :
    Answers (.mirrorCommandRx b t) s fun r =>
      r.hif.cmds.length = s.hif.cmds.length + 1 ∧
        r.hif.cmds.getLast?.map (fun c => (c.handle, c.sq, c.tag, c.data)) =
          some (s.hif.nextHandle, mirrorSq, le m 0 4, (slice m 16 (le m 6 2)).drop 64) ∧
        r.hif.nextHandle = s.hif.nextHandle + 1 ∧ r.tmb.now = max s.tmb.now t := by
  obtain ⟨u, hrx, hu⟩ := mirrorRx_of_receives hen h
  have hpar : u.par = s.par := hu.moves.par
  have hhif : u.hif = s.hif := hu.moves.hif
  have hfrag (f : Option Frags) (q : Nat) : fragNext f q m = some ⟨le m 0 4, q, le m 4 1, slice m 16 (le m 6 2)⟩ := by
    unfold fragNext
    dsimp only
    rw [hflags, hofs]
    rfl
  refine ⟨_, congrArg ok (hrx _), ?_⟩
  rw [← hm, if_neg (by simp [hpar, hin])]
  dsimp only
  rw [hfrag]
  dsimp only
  rw [hflags, if_pos (by decide)]
  unfold mirrorCommand
  simp [hhif, hu.now]

/-- The mark of an ACK at the command that waited for it. -/
theorem acked_cmdUpd (s : State) (h : Nat) :
    (cmdFind (cmdUpd s h fun c => { c with acked := true }) h).map (·.acked) = (cmdFind s h).map fun _ => true := by
  cases hc : cmdFind s h with
  | some c => rw [cmdFind_cmdUpd (fun c => { c with acked := true }) hc fun _ hx => hx]; rfl
  | none =>
    rw [Option.map_none, Option.map_eq_none_iff]
    simp only [cmdFind, List.find?_eq_none] at hc ⊢
    intro x hx
    obtain ⟨y, hy, rfl⟩ := List.mem_map.1 hx
    have := hc y hy
    split <;> exact this

theorem mirrorAckRx_answers {a : AckWait} (hen : parEn s = true) (h : Receives s (pairPort s) clsMIRROR 5 b t)
    (hwait : s.par.acks.find? (·.id == le (wParse b).payload 0 4) = some a) :
    Answers (.mirrorAckRx b t) s fun r =>
      r.par.acks = s.par.acks.erase a ∧ (cmdFind r a.cmd).map (·.acked) = (cmdFind s a.cmd).map (fun _ => true) ∧
        r.tmb.now = max s.tmb.now t := by
  obtain ⟨u, hrx, hu⟩ := mirrorRx_of_receives hen h
  have hpar : u.par = s.par := hu.moves.par
  refine ⟨_, congrArg ok (hrx _), ?_⟩
  rw [hpar, hwait]
  exact ⟨rfl, (acked_cmdUpd _ _).trans (congrArg _ (cmdFind_congr (s := s) hu.moves.cmds _)), hu.now⟩

end

/-! ### Control taken over -/

/-- The pair's record is the old one but for the level of its pins (R532). -/
def PinsOnly (s t : State) : Prop := ∃ p, t.par = { s.par with pins := p }

section
variable {s t u : State}

theorem PinsOnly.refl : PinsOnly s s := ⟨_, rfl⟩

theorem PinsOnly.trans (h : PinsOnly s t) (g : PinsOnly t u) : PinsOnly s u := by
  obtain ⟨p, hp⟩ := h
  obtain ⟨q, hq⟩ := g
  exact ⟨q, by rw [hq, hp]⟩

theorem Moves.pinsOnly {l : List Part} (g : Moves l t u) (h : PinsOnly s t) (hl : Part.par ∉ l := by decide) : PinsOnly s u :=
  h.trans ⟨t.par.pins, g.par hl⟩

theorem pinsOnly_pinState (h : PinsOnly s t) : PinsOnly s (pinState t) := by
  unfold pinState
  refine iteInduction (fun _ => h) fun _ => iteInduction (fun _ => h) fun _ => ?_
  exact mirrorSend_moves.pinsOnly (h.trans ⟨_, rfl⟩)

theorem pinsOnly_qchChange {n unit : Nat} {f : State → State} (hf : ∀ u, PinsOnly u (f u)) (h : PinsOnly s t) : PinsOnly s (qchChange t n unit f) :=
    by
  have driven : PinsOnly s (pinState (f t)) := pinsOnly_pinState (h.trans (hf t))
  unfold qchChange
  dsimp only
  split
  · split
    · exact driven
    · split
      · exact qchEvent_moves.pinsOnly (bump_moves.pinsOnly (driven.trans ⟨_, rfl⟩))
      · exact driven.trans ⟨_, rfl⟩
  · exact driven.trans ⟨_, rfl⟩

theorem pinsOnly_pinsTake (s : State) : PinsOnly s (pinsTake s) := by
  refine List.foldlRecOn _ _ ⟨_, rfl⟩ fun _ hu _ _ => pinsOnly_qchChange (fun u => qchUpd_moves.pinsOnly .refl) hu

end

/-- What a take-over leaves of the pair and of the instant (R532, R541). -/
theorem parTakeover_par (s : State) (from' cause : Nat) :
    (parTakeover s from' cause).par.state = .active ∧ (parTakeover s from' cause).par.actOut = true ∧
      (parTakeover s from' cause).par.takeCause = cause ∧ (parTakeover s from' cause).par.takeAt = s.tmb.now ∧
      (parTakeover s from' cause).par.actIn = s.par.actIn := by
  unfold parTakeover
  extract_lets a token par taken driven noted told
  obtain ⟨p, hp⟩ := pinsOnly_pinsTake taken
  have htold : told.par = { taken.par with pins := p } := by
    show (if cause = 3 then _ else _ : State).par = _
    split
    · rw [parEvent_moves.par, bump_par, parEvent_moves.par, bump_par, hp]
    · rw [parEvent_moves.par, bump_par, hp]
  rw [parStatus_moves.par, htold]
  exact ⟨rfl, rfl, rfl, rfl, rfl⟩

theorem pinsTake_now (s : State) : (pinsTake s).tmb.now = s.tmb.now := by
  refine List.foldlRecOn (motive := fun (u : State) => u.tmb.now = s.tmb.now) _ _ rfl fun u hu n _ => ?_
  exact (qchChange_moves (l := [.regs, .recd, .qch, .wlk, .par, .mram, .out, .freeCtr]) fun _ => qchUpd_moves.mono).now.trans hu

theorem parTakeover_now (s : State) (from' cause : Nat) : (parTakeover s from' cause).tmb.now = s.tmb.now := by
  unfold parTakeover
  extract_lets a token par taken driven noted told
  have hnoted : noted.tmb.now = s.tmb.now := parEvent_moves.now.trans (pinsTake_now taken)
  rw [parStatus_moves.now]
  show (if cause = 3 then _ else _ : State).tmb.now = _
  split
  · rw [parEvent_moves.now, bump_tmb, hnoted]
  · exact hnoted

section
variable {s : State} {t : Nat} {b m : Bytes}

theorem mirrorGiveUpRx_answers {planned : Bool} (hen : parEn s = true) (h : Receives s (pairPort s) clsMIRROR 6 b t)
    (hready : s.par.state = .standbyReady) :
    Answers (.mirrorGiveUpRx b planned t) s fun r =>
      r.par.state = .active ∧ r.par.actOut = true ∧ r.par.takeCause = (if planned then 3 else 1) ∧ r.par.takeAt = max s.tmb.now t ∧
        r.tmb.now = max s.tmb.now t := by
  obtain ⟨u, hrx, hu⟩ := mirrorRx_of_receives hen h
  refine ⟨_, congrArg ok ((hrx _).trans (if_pos (by rw [hu.moves.par, hready]))), ?_⟩
  obtain ⟨hstate, hout, hcause, hat, _⟩ := parTakeover_par { u with par := { u.par with
    partnerToken := max u.par.partnerToken (le (wParse b).payload 8 4) } } (le (wParse b).payload 0 8) (if planned then 3 else 1)
  exact ⟨hstate, hout, hcause, hat.trans hu.now, (parTakeover_now _ _ _).trans hu.now⟩

theorem pairActInLow_answers {planned : Bool} (hready : s.par.state = .standbyReady) :
    Answers (.pairActInLow planned t) s fun r =>
      r.par.state = .active ∧ r.par.actIn = false ∧ r.par.actOut = true ∧ r.par.takeCause = (if planned then 3 else 2) ∧
        r.tmb.now = max s.tmb.now t := by
  have hpar : (advance s t).par = s.par := advance_moves.par
  show ∃ r, execPairActInLow planned t s = .next r ∧ _
  refine ⟨_, if_pos (by rw [hpar, hready]), ?_⟩
  obtain ⟨hstate, hout, hcause, _, hin⟩ := parTakeover_par { advance s t with par := { (advance s t).par with actIn := false } } 0
      (if planned then 3 else 2)
  exact ⟨hstate, hin, hout, hcause, (parTakeover_now _ _ _).trans (advance_now s t)⟩

/-! ### State transfers received -/

theorem xferApply_state (s : State) (x : XferRegion) : (xferApply s x).par.state = s.par.state := by cases x <;> rfl

theorem mirrorXferRx_answers {regions : List XferRegion} (hen : parEn s = true) (h : Receives s (pairPort s) clsMIRROR 7 b t)
    (hunsync : s.par.state = .standbyUnsync) (hlo : 1 ≤ le (wParse b).payload 4 1) (hhi : le (wParse b).payload 4 1 ≤ 9)
    (hflags : le (wParse b).payload 5 1 = 3) (hofs : le (wParse b).payload 8 8 = 0) :
    Answers (.mirrorXferRx b regions true t) s fun r =>
      r.par.xfer = .catchup ∧ r.par.xferAt = max s.tmb.now t ∧ r.par.order = [] ∧ r.par.state = .standbyUnsync ∧
        r.tmb.now = max s.tmb.now t := by
  obtain ⟨u, hrx, hu⟩ := mirrorRx_of_receives hen h
  have hpar : u.par = s.par := hu.moves.par
  have hfrag (f : Option Frags) (q : Nat) : fragNext f q (wParse b).payload =
      some ⟨le (wParse b).payload 0 4, q, le (wParse b).payload 4 1, slice (wParse b).payload 16 (le (wParse b).payload 6 2)⟩ := by
    unfold fragNext
    dsimp only
    rw [hflags, hofs]
    rfl
  refine ⟨_, congrArg ok (hrx _), ?_⟩
  rw [if_neg (by simp [hpar, hunsync])]
  dsimp only
  rw [hfrag]
  dsimp only
  rw [if_neg (by simp; omega), hflags, if_neg (by decide), if_pos rfl]
  have hstate (v : State) : (regions.foldl xferApply v).par.state = v.par.state :=
    List.foldlRecOn (motive := fun (w : State) => w.par.state = v.par.state) _ _ rfl fun w hw x _ => (xferApply_state w x).trans hw
  have hnow (v : State) : (regions.foldl xferApply v).tmb.now = v.tmb.now :=
    List.foldlRecOn (motive := fun (w : State) => w.tmb.now = v.tmb.now) _ _ rfl fun w hw x _ => xferApply_moves.now.trans hw
  exact ⟨rfl, (hnow _).trans hu.now, rfl, (hstate _).trans (by rw [hpar]; exact hunsync), (hnow _).trans hu.now⟩

theorem mirrorPinStateRx_answers (hen : parEn s = true) (h : Receives s (pairPort s) clsMIRROR 8 b t) (hstandby : s.par.standby = true) :
    Answers (.mirrorPinStateRx b t) s fun r => r.par.pins = (wParse b).payload ∧ r.tmb.now = max s.tmb.now t := by
  obtain ⟨u, hrx, hu⟩ := mirrorRx_of_receives hen h
  exact ⟨_, congrArg ok ((hrx _).trans (if_pos (by rw [hu.moves.par, hstandby]))), rfl, hu.now⟩

/-! ### A partner that falls behind or is lost -/

theorem parLost_par (s : State) : (parLost s).par.acks = s.par.acks ∧ (parLost s).par.follow = false := by
  unfold parLost
  split <;> exact ⟨rfl, rfl⟩

theorem mirrorAckTimeout_answers {a : AckWait} {l : List AckWait} (hacks : s.par.acks = a :: l) :
    Answers .mirrorAckTimeout s fun r =>
      r.par.acks = l ∧ r.par.follow = false ∧ (cmdFind r a.cmd).map (·.acked) = (cmdFind s a.cmd).map (fun _ => true) ∧
        r.tmb.now = max s.tmb.now a.due := by
  show ∃ r, execMirrorAckTimeout s = .next r ∧ _
  unfold execMirrorAckTimeout
  rw [hacks]
  dsimp only
  obtain ⟨hl, hfollow⟩ := parLost_par (parEvent (bump (cmdUpd { advance s a.due with par := { (advance s a.due).par with acks := l } } a.cmd
    fun c => { c with acked := true }) cParCmdAckTimeout) evPairUnsync 5 0 (advance s a.due).mram.token 0 0)
  refine ⟨_, rfl, hl.trans ?_, hfollow, ?_, ?_⟩
  · rw [parEvent_moves.par]; rfl
  · rw [cmdFind_congr parLost_moves.cmds, cmdFind_congr parEvent_moves.cmds, cmdFind_congr bump_moves.cmds, acked_cmdUpd]
    exact congrArg _ (cmdFind_congr (s := s) advance_moves.cmds _)
  · rw [parLost_moves.now, parEvent_moves.now]; exact advance_now s a.due

theorem standbyLagExceeded_answers {us : Nat} (hready : s.par.state = .standbyReady) (hlag : 100 < us) :
    Answers (.standbyLagExceeded us t) s fun r => r.par.state = .standbyUnsync ∧ r.par.lag = min us 255 ∧ r.tmb.now = max s.tmb.now t := by
  show ∃ r, execStandbyLagExceeded us t s = .next r ∧ _
  unfold execStandbyLagExceeded
  dsimp only
  rw [if_neg (by simp [Par.standby, hready]; omega), advance_moves.par, if_pos hready]
  unfold parUnsync
  rw [if_neg (by simp [hready]), if_pos hready]
  exact ⟨_, rfl, by rw [parEvent_moves.par], by rw [parEvent_moves.par], parEvent_moves.now.trans (advance_now s t)⟩

/-! ### PAIR_HELLO -/

theorem pairHelloTx_answers (hcan : canonical s) (hen : parEn s = true) (hup : wPortUp s (pairPort s) = true) :
    Answers (.pairHelloTx t) s fun r =>
      r.wlk.seq.get clsMGMT = (s.wlk.seq.get clsMGMT + 1) % 2 ^ 32 ∧ r.tmb.now = max s.tmb.now t := by
  show ∃ r, execPairHelloTx t s = .next r ∧ _
  unfold execPairHelloTx
  rw [if_neg (by simp [hen, hup])]
  refine ⟨_, rfl, ?_, waligSend_moves.now.trans (advance_now s t)⟩
  have hwlk : (advance s t).wlk = s.wlk := advance_moves.wlk
  rw [waligSend_seq, hwlk, SMap.get_set_self _ _ _ ((canonical_iff s).1 hcan .wlk).seq]


/-- A partner that says it does not hold control makes the module in control ACTIVE (R531). -/
theorem parRoles_active {ps token : Nat} (hstate : s.par.state = .alone ∨ s.par.state = .active) (hps : ps = 4 ∨ ps = 5) :
    (parRoles s ps token).par = { s.par with state := .active, actOut := true, waitEnd := none } := by
  have hmine : codeHolds (parCode s) = true := by obtain h | h := hstate <;> rw [parCode, h] <;> rfl
  have htheirs : codeHolds ps = false := by obtain h | h := hps <;> rw [h] <;> rfl
  have hnot : ¬ (s.par.state = .gaveUp ∨ s.par.state = .disabled ∨ ps = 6 ∨ ps = 0) := by
    obtain h | h := hstate <;> rw [h] <;> simp <;> omega
  unfold parRoles
  extract_lets mine theirs formed up roles
  have hroles : roles.par = { s.par with state := .active, actOut := true, waitEnd := none } :=
    congrArg State.par ((if_neg hnot).trans ((if_neg (by simp [mine, theirs, htheirs])).trans (if_pos hmine)))
  split
  · rw [parEvent_moves.par, hroles]
  · exact hroles

theorem partnerSays_par (s : State) (st : Nat) :
    (partnerSays s st).par.state = s.par.state ∧ (partnerSays s st).par.partnerState = st ∧ (partnerSays s st).par.partnerSerial =
        s.par.partnerSerial := by
  unfold partnerSays parLost
  dsimp only
  split
  · split <;> exact ⟨rfl, rfl, rfl⟩
  · exact ⟨rfl, rfl, rfl⟩

theorem parRoles_now (s : State) (ps token : Nat) : (parRoles s ps token).tmb.now = s.tmb.now := by
  unfold parRoles
  extract_lets mine theirs formed up roles
  have hstands : (parStandby s).tmb.now = s.tmb.now := by unfold parStandby; dsimp only
  have hyield : (parYield s).tmb.now = s.tmb.now := by
    unfold parYield
    rw [parEvent_moves.now, bump_tmb, hstands]
  have hstandby : (if s.par.standby then s else parStandby s).tmb.now = s.tmb.now := now_ite rfl hstands
  have hroles : roles.tmb.now = s.tmb.now := by
    refine now_ite rfl (now_ite (now_ite ?_ hyield) (now_ite ?_ (now_ite hstandby (now_ite hstandby parControl_moves.now)))) <;> rfl
  exact now_ite (parEvent_moves.now.trans hroles) hroles

theorem pairHello_now (s : State) (b : Bytes) : (pairHello s b).tmb.now = s.tmb.now :=
  now_ite (now_ite rfl parEvent_moves.now) (parStatus_moves.now.trans (partnerSays_moves.now.trans (parRoles_now _ _ _)))

theorem pairHelloRx_answers (hen : parEn s = true) (h : Receives s (pairPort s) clsMGMT 3 b t) (hm : m = (wParse b).payload)
    (hid : bit (le m 0 1) 0 ≠ s.pwr.pairId) (hecn : le m 2 2 = fwEcn s) (hstate : s.par.state = .alone ∨ s.par.state = .active)
    (hps : le m 1 1 % 8 = 4 ∨ le m 1 1 % 8 = 5) :
    Answers (.pairHelloRx b t) s fun r =>
      r.par.state = .active ∧ r.par.partnerState = le m 1 1 % 8 ∧ r.par.partnerSerial = le m 8 8 ∧ r.tmb.now = max s.tmb.now t := by
  obtain ⟨u, hrx, hu⟩ := waligRx_of_receives h
  have hecn' : le m 2 2 = fwEcn u := by rw [hecn, fwEcn, runBank, fwEcn, runBank, hu.moves.hdl]
  have hid' : bit (le m 0 1) 0 ≠ u.pwr.pairId := by rwa [hu.moves.pwr]
  refine ⟨_, (if_neg (by simp [hen])).trans (congrArg ok (hrx _)), ?_, ?_, ?_, (pairHello_now _ _).trans hu.now⟩
  all_goals
    rw [← hm]
    unfold pairHello
    dsimp only
    rw [if_neg (by simp only [not_or, not_not]; exact ⟨hid', hecn'⟩), parStatus_moves.par]
  · rw [(partnerSays_par _ _).1, parRoles_active (by rw [hu.moves.par]; exact hstate) hps]
  · exact (partnerSays_par _ _).2.1
  · rw [(partnerSays_par _ _).2.2, parRoles_active (by rw [hu.moves.par]; exact hstate) hps]

theorem pairHelloRx_refuses (hen : parEn s = true) (h : Receives s (pairPort s) clsMGMT 3 b t) (hm : m = (wParse b).payload)
    (hecn : le m 2 2 ≠ fwEcn s) :
    Answers (.pairHelloRx b t) s fun r => r.par.state = s.par.state ∧ r.par.refusedNoted = true ∧ r.tmb.now = max s.tmb.now t := by
  obtain ⟨u, hrx, hu⟩ := waligRx_of_receives h
  have hecn' : le m 2 2 ≠ fwEcn u := by rwa [fwEcn, runBank, hu.moves.hdl]
  have hstate : u.par.state = s.par.state := congrArg Par.state hu.moves.par
  have hsays : (pairHello u m).par.state = s.par.state ∧ (pairHello u m).par.refusedNoted = true := by
    unfold pairHello
    dsimp only
    rw [if_pos (.inr hecn')]
    split
    next hnoted => exact ⟨hstate, hnoted⟩
    · rw [parEvent_moves.par]; exact ⟨hstate, rfl⟩
  rw [hm] at hsays
  exact ⟨_, (if_neg (by simp [hen])).trans (congrArg ok (hrx _)), hsays.1, hsays.2, (pairHello_now _ _).trans hu.now⟩

/-! ### A planned switch, and the wait for a partner -/

theorem pairActInRise_answers {i h : Nat} (hready : s.par.state = .standbyReady) (hswitch : s.par.switch = some (i, h))
    (hrun : running s h = true) :
    Answers (.pairActInRise t) s fun r =>
      r.par.actIn = true ∧ r.par.switch = none ∧ endStatus r h = some .ok ∧ r.tmb.now = max s.tmb.now t := by
  have hpar : (advance s t).par = s.par := advance_moves.par
  have hrun' : running (advance s t) h = true := by rwa [running_congr advance_moves.cmds]
  show ∃ r, execPairActInRise t s = .next r ∧ _
  unfold execPairActInRise
  dsimp only
  rw [hpar, hready]
  dsimp only
  rw [pinsRelease_moves.par]
  dsimp only
  rw [hswitch]
  exact ⟨_, rfl, by rw [endCmd_moves.par], by rw [endCmd_moves.par], endStatus_endCmd_of_running .ok _ _ hrun',
    endCmd_moves.now.trans (advance_now s t)⟩

theorem pairSwitch_answers {h : Nat} {c : Cmd} (hc : CanStart s h 0x68 c) (hact : s.par.state = .active)
    (hpartner : s.par.partnerState = PairState.standbyReady.code) (hinst : s.tmb.now + 1000000 ≤ c.instant) (hfree : s.par.switch = none) :
    Answers (.pairSwitch h) s fun r => r.par.switch = some (c.instant, h) ∧ r.par.state = .active ∧ running r h = true := by
  show ∃ r, execPairSwitch h s = .next r ∧ _
  unfold execPairSwitch
  rw [startCmd_of_canStart hc]
  have hcheck : ¬ (s.par.state ≠ .active ∨ s.par.partnerState ≠ PairState.standbyReady.code ∨ c.instant < s.tmb.now + 1000000 ∨ s.par.switch.isSome
      = true) := by
    simp [hact, hpartner, hfree]; omega
  exact ⟨_, congrArg ok (if_neg hcheck), rfl, hact, (running_congr rfl h).trans (running_startedIn hc [])⟩

theorem pairSwitchInstant_answers {i h : Nat} (hswitch : s.par.switch = some (i, h)) (hact : s.par.state = .active)
    (hpartner : s.par.partnerState = PairState.standbyReady.code) :
    Answers .pairSwitchInstant s fun r =>
      r.par.state = .standbyReady ∧ r.par.actOut = false ∧ r.par.gaveAt = some i ∧ r.tmb.now = max s.tmb.now i := by
  show ∃ r, execPairSwitchInstant s = .next r ∧ _
  unfold execPairSwitchInstant
  rw [hswitch]
  dsimp only
  rw [advance_moves.par, if_neg (by simp [hact, hpartner])]
  refine ⟨_, rfl, by rw [parStatus_moves.par], by rw [parStatus_moves.par], by rw [parStatus_moves.par], ?_⟩
  rw [parStatus_moves.now]
  exact parEvent_moves.now.trans (mirrorSend_moves.now.trans (advance_now s i))

theorem pairWaitEnd_answers (hwait : s.par.waitEnd = some t) (hforming : s.par.state = .forming) :
    Answers .pairWaitEnd s fun r => r.par.state = .alone ∧ r.par.actOut = true ∧ r.par.waitEnd = none ∧ r.tmb.now = max s.tmb.now t := by
  show ∃ r, execPairWaitEnd s = .next r ∧ _
  unfold execPairWaitEnd
  rw [hwait]
  dsimp only
  rw [advance_moves.par, if_pos hforming]
  exact ⟨_, rfl, by rw [parStatus_moves.par]; rfl, by rw [parStatus_moves.par]; rfl, by rw [parStatus_moves.par]; rfl,
    parStatus_moves.now.trans (parControl_moves.now.trans (advance_now s t))⟩

end

/-- Settles O33, one lemma for each clause: what a message brings passes the port, and an event leaves the pair's record. -/
theorem pairingRuns : Obligations.PairingRuns :=
  ⟨fun _ _ _ _ => mirrorInputRx_answers, fun _ _ _ _ _ => mirrorCommitOrderRx_answers, fun _ _ _ _ _ => mirrorDigestRx_answers,
    fun _ _ _ _ _ => mirrorCommandRx_answers, fun _ _ _ _ _ => mirrorAckRx_answers, fun _ _ _ _ _ => mirrorGiveUpRx_answers,
    fun _ _ _ _ _ => mirrorXferRx_answers, fun _ _ _ _ => mirrorPinStateRx_answers, fun _ _ _ => mirrorAckTimeout_answers,
    fun _ _ _ => standbyLagExceeded_answers, fun _ _ => pairHelloTx_answers, fun _ _ _ _ _ => pairHelloRx_answers,
    fun _ _ _ _ _ => pairHelloRx_refuses, fun _ _ _ => pairActInLow_answers, fun _ _ _ _ => pairActInRise_answers,
    fun _ _ _ => pairSwitch_answers, fun _ _ _ _ => pairSwitchInstant_answers, fun _ _ => pairWaitEnd_answers⟩

end Sys2Proof.Machine
end

section
/-! The Walig Link (O32). -/
set_option Elab.async false
namespace Sys2Proof.Machine
open Sys2Proof

/-! ### Ports and lanes -/

section
variable {s u : State} {p lane t : Nat}

theorem wPort_congr (e : u.wlk = s.wlk) (p : Nat) : wPort u p = wPort s p := by rw [wPort, e, wPort]

theorem wPort_wPortUpd (hwf : s.wlk.port.wf = true) (f : WPort → WPort) : wPort (wPortUpd s p f) p = f (wPort s p) := SMap.get_upd_self _ _ _ hwf

theorem wPortUpd_wf (h : s.wlk.port.wf = true) (f : WPort → WPort) : (wPortUpd s p f).wlk.port.wf = true := SMap.wf_upd _ _ _ h

theorem ports_wf (hcan : canonical s) : s.wlk.port.wf = true := ((canonical_iff s).1 hcan .wlk).port

theorem ports_wf_advance (hcan : canonical s) : (advance s t).wlk.port.wf = true := ports_wf (advance_moves.canon hcan)

theorem wPort_advance (s : State) (p t : Nat) : wPort (advance s t) p = wPort s p := wPort_congr advance_moves.wlk p

theorem wPortUp_advance (s : State) (p t : Nat) : wPortUp (advance s t) p = wPortUp s p := wPortUp_congr advance_moves.wlk p

theorem laneOf_laneUpd (hl : lane < 2) (x : WPort) (f : Lane → Lane) : laneOf (laneUpd x lane f) lane = f (laneOf x lane) := by
  obtain rfl | rfl : lane = 0 ∨ lane = 1 := by omega
  · rfl
  · rfl

/-- A lane changed leaves the rest of the port. -/
theorem laneUpd_port (x : WPort) (f : Lane → Lane) :
    (laneUpd x lane f).hbCount = x.hbCount ∧ (laneUpd x lane f).peer = x.peer ∧ (laneUpd x lane f).state = x.state ∧
      (laneUpd x lane f).retryAt = x.retryAt := by
  unfold laneUpd
  split <;> exact ⟨rfl, rfl, rfl, rfl⟩

theorem laneOf_state (x : WPort) (st : PortState) : laneOf { x with state := st } lane = laneOf x lane := rfl

theorem wlkHeartbeatTx_answers {b : Bytes} (hb : b = leBytes 1 0x4B ++ leBytes 1 (moduleNo s) ++ leBytes 1 (parCode s) ++ leBytes 2 s.wlk.hbSent) :
    Answers (.wlkHeartbeatTx t) s fun r =>
      r.wlk.hbSent = (s.wlk.hbSent + 1) % 65536 ∧
        r.out = s.out ++ (wPorts.filter (wPortEn s)).flatMap (fun p => [.heartbeat p 0 b, .heartbeat p 1 b]) ∧ r.tmb.now = max s.tmb.now t := by
  have hen : wPortEn (advance s t) = wPortEn s := funext fun p => flag_congr advance_moves.regs _
  have hmod : moduleNo (advance s t) = moduleNo s := fld_congr advance_moves.regs _
  show ∃ r, execWlkHeartbeatTx t s = .next r ∧ _
  unfold execWlkHeartbeatTx
  dsimp only
  rw [hen, hmod, parCode, advance_moves.par, advance_moves.wlk, ← parCode, ← hb]
  exact ⟨_, rfl, rfl, congrArg (· ++ _) advance_moves.out, advance_now s t⟩

/-- Port `p` is `x`, and the Timeline at `n`. -/
structure PortAt (p : Nat) (x : WPort) (n : Nat) (s : State) : Prop where
  port : wPort s p = x
  now : s.tmb.now = n

theorem PortAt.ite {c : Prop} {_ : Decidable c} {x : WPort} {n : Nat} (h : PortAt p x n s) (g : PortAt p x n u) : PortAt p x n (if c then s else u)
    := by
  split <;> assumption

theorem Moves.portAt {l : List Part} {x : WPort} {n : Nat} (g : Moves l s u) (h : PortAt p x n s) (hw : Part.wlk ∉ l := by decide)
    (ht : Part.tmb ∉ l := by decide) : PortAt p x n u :=
  ⟨(wPort_congr (g.wlk hw) p).trans h.port, (g.now ht).trans h.now⟩

/-- The port after a heartbeat by one of its lanes (R520). -/
def heartbeatPort (s : State) (p lane m n now : Nat) (x : WPort) : WPort :=
  let x := laneUpd { x with hbCount := n % 65536, peer := m % 64 } lane fun l => { l with
    hb := now
    works := l.works || wPortUp s p }
  if wPortUp s p then { x with state := lanesState x } else x

theorem heartbeatPort_eq (hlane : lane < 2) (m n now : Nat) (x : WPort) :
    (heartbeatPort s p lane m n now x).hbCount = n % 65536 ∧ (heartbeatPort s p lane m n now x).peer = m % 64 ∧
      (laneOf (heartbeatPort s p lane m n now x) lane).hb = now := by
  obtain ⟨hcount, hpeer, _, _⟩ := laneUpd_port (lane := lane) { x with hbCount := n % 65536, peer := m % 64 } fun l => { l with
    hb := now
    works := l.works || wPortUp s p }
  unfold heartbeatPort
  dsimp only
  split
  · rw [laneOf_state, laneOf_laneUpd hlane]; exact ⟨hcount, hpeer, rfl⟩
  · rw [laneOf_laneUpd hlane]; exact ⟨hcount, hpeer, rfl⟩

theorem wlkHeartbeatRx_answers {m st n : Nat} (hcan : canonical s) (hp : p < 4) (hlane : lane < 2) (hen : wPortEn s p = true)
    (hlock : (laneOf (wPort s p) lane).lock = true) :
    Answers (.wlkHeartbeatRx p lane m st n t) s fun r =>
      (wPort r p).hbCount = n % 65536 ∧ (wPort r p).peer = m % 64 ∧ (laneOf (wPort r p) lane).hb = max s.tmb.now t ∧
        r.tmb.now = max s.tmb.now t := by
  have beat : PortAt p (heartbeatPort (advance s t) p lane m n (max s.tmb.now t) (wPort s p)) (max s.tmb.now t)
      (wPortUpd (advance s t) p (heartbeatPort (advance s t) p lane m n (advance s t).tmb.now)) :=
    ⟨by rw [wPort_wPortUpd (ports_wf_advance hcan), wPort_advance, advance_now], advance_now s t⟩
  obtain ⟨hcount, hpeer, hhb⟩ := heartbeatPort_eq (s := advance s t) (p := p) hlane m n (max s.tmb.now t) (wPort s p)
  have hears : ∃ r, execWlkHeartbeatRx p lane m st n t s = .next r ∧
      PortAt p (heartbeatPort (advance s t) p lane m n (max s.tmb.now t) (wPort s p)) (max s.tmb.now t) r := by
    refine ⟨_, if_neg (by simp [hen, hlock]; omega), ?_⟩
    exact .ite (partnerSays_moves.portAt (.ite (wlkEvent_moves.portAt beat) beat)) (.ite (wlkEvent_moves.portAt beat) beat)
  obtain ⟨r, hr, hport, hnow⟩ := hears
  exact ⟨r, hr, by rw [hport, hcount], by rw [hport, hpeer], by rw [hport, hhb], hnow⟩

theorem wlkLaneLoss_answers (hcan : canonical s) (hp : p < 4) (hlane : lane < 2) (hup : wPortUp s p = true)
    (hworks : (laneOf (wPort s p) lane).works = true) :
    Answers (.wlkLaneLoss p lane true t) s fun r =>
      (laneOf (wPort r p) lane).works = false ∧ (laneOf (wPort r p) lane).lock = false ∧ (wPort r p).state = .degraded ∧
        r.tmb.now = max s.tmb.now t := by
  have htrain : (wPort s p).state ≠ .training := by
    intro h
    simp [wPortUp, h] at hup
  show ∃ r, execWlkLaneLoss p lane true t s = .next r ∧ _
  refine ⟨_, (if_neg (by simp [htrain])).trans (if_neg (by simp [hup, hworks]; omega)), ?_⟩
  have hport : wPort (laneLost (advance s t) p lane true) p = (let x := laneUpd (wPort s p) lane fun l => { l with works := false, lock := false }
      { x with state := lanesState x }) := by
    unfold laneLost
    rw [wPort_congr wlkEvent_moves.wlk, wPort_congr bump_moves.wlk, if_pos rfl, wPort_wPortUpd (ports_wf_advance hcan), wPort_advance]
    simp
  rw [hport, laneLost_moves.now, advance_now, laneOf_state, laneOf_laneUpd hlane]
  refine ⟨rfl, rfl, ?_, rfl⟩
  obtain rfl | rfl : lane = 0 ∨ lane = 1 := by omega
  · rfl
  · simp [lanesState, laneUpd]

theorem wPort_portDown (hwf : s.wlk.port.wf = true) :
    wPort (portDown s p) p = { wPort s p with
      state := .down
      lane0 := { (wPort s p).lane0 with works := false }
      lane1 := { (wPort s p).lane1 with works := false }
      stable := none
      hello := false } := by
  unfold portDown
  extract_lets down told
  have htold : wPort told p = wPort down p := wPort_congr wlkEvent_moves.wlk p
  have hdown := wPort_wPortUpd (p := p) hwf fun x => { x with
    state := .down
    lane0 := { x.lane0 with works := false }
    lane1 := { x.lane1 with works := false }
    stable := none
    hello := false }
  split
  · exact (wPort_congr pairPortDown_moves.wlk p).trans (htold.trans hdown)
  · exact htold.trans hdown

theorem portDown_wf (hwf : s.wlk.port.wf = true) : (portDown s p).wlk.port.wf = true := by
  unfold portDown
  extract_lets down told
  have htold : told.wlk.port.wf = true := by
    rw [show told.wlk = down.wlk from wlkEvent_moves.wlk]
    exact wPortUpd_wf hwf _
  split
  · rw [pairPortDown_moves.wlk]; exact htold
  · exact htold

theorem wlkPortDown_answers (hcan : canonical s) (hp : p < 4) (hup : wPortUp s p = true) (h0 : (wPort s p).lane0.hb + 6000 ≤ t)
    (h1 : (wPort s p).lane1.hb + 6000 ≤ t) :
    Answers (.wlkPortDown p t) s fun r =>
      (wPort r p).state = .down ∧ (wPort r p).lane0.works = false ∧ (wPort r p).lane1.works = false ∧ r.tmb.now = max s.tmb.now t := by
  show ∃ r, execWlkPortDown p t s = .next r ∧ _
  refine ⟨_, if_neg (by simp [hup]; omega), ?_⟩
  rw [wPort_portDown (s := bump (advance s t) cWlkHbMissed) (ports_wf_advance hcan)]
  exact ⟨rfl, rfl, rfl, portDown_moves.now.trans (advance_now s t)⟩

theorem wlkRetrainDone_answers {v : Nat} (hcan : canonical s) (hp : p < 4) (hstable : (wPort s p).stable = some v)
    (htrain : (wPort s p).state = .training) (hhello : (wPort s p).hello = true) (hlate : v + 10000000 ≤ t) :
    Answers (.wlkRetrainDone p t) s fun r =>
      (wPort r p).state = (if (wPort s p).lane0.lock && (wPort s p).lane1.lock then .up else .degraded) ∧
        (wPort r p).lane0.works = (wPort s p).lane0.lock ∧ (wPort r p).lane1.works = (wPort s p).lane1.lock ∧ r.tmb.now = max s.tmb.now t := by
  show ∃ r, execWlkRetrainDone p t s = .next r ∧ _
  unfold execWlkRetrainDone
  dsimp only
  rw [hstable]
  dsimp only
  rw [if_neg (by simp [htrain, hhello]; omega)]
  refine ⟨_, rfl, ?_⟩
  rw [wPort_congr wlkEvent_moves.wlk, wlkEvent_moves.now, wPort_wPortUpd (ports_wf_advance hcan), wPort_advance]
  exact ⟨rfl, rfl, rfl, advance_now s t⟩

theorem linkHelloRx_answers {v : Nat} {b : Bytes} (hcan : canonical s) (hp : p < 4) (hen : wPortEn s p = true)
    (hlock : ((wPort s p).lane0.lock || (wPort s p).lane1.lock) = true) (hgood : wMalformed b = false) (hcls : (wParse b).cls = clsMGMT)
    (htyp : (wParse b).typ = 1) (hcrc : wCrcOk b = true) (hv : v = le (wParse b).payload 0 2) (hmajor : v / 256 = 1) :
    Answers (.linkHelloRx p b t) s fun r =>
      (wPort r p).hello = true ∧ (wPort r p).ver = min v 0x0101 ∧ (wPort r p).peer = le (wParse b).payload 2 1 % 64 ∧
        r.tmb.now = max s.tmb.now t := by
  subst hv
  show ∃ r, execLinkHelloRx p b t s = .next r ∧ _
  refine ⟨_, (if_neg (by simp [hen, hlock, hcls, htyp]; omega)).trans
    ((if_neg (by simp [hgood])).trans ((if_neg (by simp [hcrc])).trans (if_neg (by simp [hmajor])))), ?_⟩
  have hwf : (wPortUpd (bump (advance s t) cWlkRxMsg) p fun x => { x with rx := (x.rx + 1) % 2 ^ 32 }).wlk.port.wf = true :=
    wPortUpd_wf (s := bump (advance s t) cWlkRxMsg) (ports_wf_advance hcan) _
  rw [wPort_wPortUpd (wPortUpd_wf hwf _), wPort_wPortUpd hwf]
  exact ⟨rfl, rfl, rfl, advance_now s t⟩

theorem linkHelloRx_refuses {v : Nat} {b : Bytes} (hcan : canonical s) (hp : p < 4) (hen : wPortEn s p = true)
    (hlock : ((wPort s p).lane0.lock || (wPort s p).lane1.lock) = true) (hgood : wMalformed b = false) (hcls : (wParse b).cls = clsMGMT)
    (htyp : (wParse b).typ = 1) (hcrc : wCrcOk b = true) (hv : v = le (wParse b).payload 0 2) (hmajor : v / 256 ≠ 1) :
    Answers (.linkHelloRx p b t) s fun r =>
      (wPort r p).state = .down ∧ (wPort r p).retryAt = some (max s.tmb.now t + 1000000000) ∧ r.tmb.now = max s.tmb.now t := by
  subst hv
  show ∃ r, execLinkHelloRx p b t s = .next r ∧ _
  refine ⟨_, (if_neg (by simp [hen, hlock, hcls, htyp]; omega)).trans
    ((if_neg (by simp [hgood])).trans ((if_neg (by simp [hcrc])).trans (if_pos hmajor))), ?_⟩
  generalize hheard : (wPortUpd (wPortUpd (bump (advance s t) cWlkRxMsg) p _) p _) = heard
  have hwf : heard.wlk.port.wf = true :=
    hheard ▸ wPortUpd_wf (wPortUpd_wf (s := bump (advance s t) cWlkRxMsg) (ports_wf_advance hcan) _) _
  have hnow : heard.tmb.now = max s.tmb.now t := hheard ▸ advance_now s t
  have hwf' : (if wPortUp heard p then portDown heard p else heard).wlk.port.wf = true := by
    split
    · exact portDown_wf hwf
    · exact hwf
  have hnow' : (if wPortUp heard p then portDown heard p else heard).tmb.now = max s.tmb.now t := now_ite (portDown_moves.now.trans hnow) hnow
  rw [wPort_congr wlkEvent_moves.wlk, wPort_congr bump_moves.wlk, wPort_wPortUpd hwf', wlkEvent_moves.now, hnow']
  exact ⟨rfl, rfl, hnow'⟩


/-! ### Training -/

theorem wPort_sendHello (hwf : s.wlk.port.wf = true) : wPort (sendHello s p) p = { wPort s p with tx := ((wPort s p).tx + 1) % 2 ^ 32 } :=
  SMap.get_upd_self _ _ _ hwf

theorem wPort_portTrain (hwf : s.wlk.port.wf = true) :
    wPort (portTrain s p) p = { wPort s p with
      state := .training
      stable := some s.tmb.now
      hello := false
      retryAt := none
      tx := ((wPort s p).tx + 1) % 2 ^ 32 } := by
  unfold portTrain
  rw [wPort_sendHello (wPortUpd_wf hwf _), wPort_wPortUpd hwf]

theorem wlkVersionRetry_answers (hcan : canonical s) (hp : p < 4) (hen : wPortEn s p = true) (hretry : (wPort s p).retryAt = some t) :
    Answers (.wlkVersionRetry p) s fun r =>
      (wPort r p).state = .training ∧ (wPort r p).stable = some (max s.tmb.now t) ∧ (wPort r p).retryAt = none ∧ r.tmb.now = max s.tmb.now t := by
  show ∃ r, execWlkVersionRetry p s = .next r ∧ _
  unfold execWlkVersionRetry
  rw [hretry]
  refine ⟨_, if_neg (by simp [hen]; omega), ?_⟩
  rw [wPort_portTrain (ports_wf_advance hcan), portTrain_moves.now, advance_now]
  exact ⟨rfl, rfl, rfl, rfl⟩

theorem blockLock_answers (hcan : canonical s) (hp : p < 4) (hlane : lane < 2) (hen : wPortEn s p = true) :
    Answers (.blockLock p lane t) s fun r =>
      (laneOf (wPort r p) lane).lock = true ∧ (laneOf (wPort r p) lane).hb = max s.tmb.now t ∧
        (wPort r p).state = (if (wPort s p).state = .down ∧ (wPort s p).retryAt = none then .training else (wPort s p).state) ∧
        r.tmb.now = max s.tmb.now t := by
  have hwf := ports_wf_advance (t := t) hcan
  let locked := wPortUpd (advance s t) p fun x => laneUpd x lane fun l => { l with lock := true, hb := (advance s t).tmb.now }
  have hport : wPort locked p = laneUpd (wPort s p) lane fun l => { l with lock := true, hb := max s.tmb.now t } := by
    rw [wPort_wPortUpd hwf, wPort_advance, advance_now]
  obtain ⟨_, _, hstate, hretry⟩ := laneUpd_port (lane := lane) (wPort s p) fun l => { l with lock := true, hb := max s.tmb.now t }
  show ∃ r, execBlockLock p lane t s = .next r ∧ _
  refine ⟨_, if_neg (by simp [hen]; omega), ?_⟩
  show (laneOf (wPort (if (wPort locked p).state = .down ∧ (wPort locked p).retryAt.isNone then portTrain locked p else locked) p) lane).lock = true
      ∧ _
  rw [hport, hstate, hretry]
  simp only [Option.isNone_iff_eq_none]
  by_cases hdown : (wPort s p).state = .down ∧ (wPort s p).retryAt = none
  · rw [if_pos hdown, if_pos hdown, wPort_portTrain (wPortUpd_wf hwf _), portTrain_moves.now, hport]
    refine ⟨?_, ?_, rfl, advance_now s t⟩
    · exact congrArg Lane.lock (laneOf_laneUpd hlane (wPort s p) _)
    · exact congrArg Lane.hb (laneOf_laneUpd hlane (wPort s p) _)
  · rw [if_neg hdown, if_neg hdown, hport, laneOf_laneUpd hlane]
    exact ⟨rfl, rfl, hstate, advance_now s t⟩

/-! ### Announcements and the master -/

theorem setSource_now (s : State) (c : Nat) : (setSource s c).tmb.now = s.tmb.now :=
  now_ite rfl (now_ite tmbEvent_moves.now (tmbEvent_moves.now.trans (Eq.trans rfl tmbEvent_moves.now)))

theorem reselect_now (s : State) : (reselect s).tmb.now = s.tmb.now := by
  unfold reselect
  refine now_ite ?_ (setSource_now _ _)
  split
  · exact setSource_now _ _
  · rfl

theorem sourceLost_now (s : State) (c : Nat) : (sourceLost s c).tmb.now = s.tmb.now := reselect_now _

/-- The master, the numbers of messages, the modules heard, and the instant. -/
structure ChosenAt (master : Option Nat) (seq : SMap Nat) (mods : SMap (Option ModInfo)) (n : Nat) (s : State) : Prop where
  master : s.wlk.master = master
  seq : s.wlk.seq = seq
  mods : s.wlk.mods = mods
  now : s.tmb.now = n

section
variable {a : Option Nat} {q : SMap Nat} {l : SMap (Option ModInfo)} {n : Nat}

theorem ChosenAt.ite {c : Prop} {_ : Decidable c} (h : ChosenAt a q l n s) (g : ChosenAt a q l n u) : ChosenAt a q l n (if c then s else u) := by
  split <;> assumption

theorem ChosenAt.of_wlk (h : ChosenAt a q l n s) (e : u.wlk = s.wlk) (hn : u.tmb.now = s.tmb.now) : ChosenAt a q l n u :=
  ⟨e ▸ h.master, e ▸ h.seq, e ▸ h.mods, hn.trans h.now⟩

end

/-- The module follows the best claim (R526), its numbers and what it has heard of the others as before. -/
theorem masterChoose_chosen (s : State) : ChosenAt (masterBest s) s.wlk.seq s.wlk.mods s.tmb.now (masterChoose s) := by
  have chosen : ChosenAt (masterBest s) s.wlk.seq s.wlk.mods s.tmb.now (if masterBest s = s.wlk.master then s else
      { wlkEvent (bump s cWlkMasterChanges) evMasterChange 0 0 ((masterBest s).getD 0) 0 with
        wlk := { (wlkEvent (bump s cWlkMasterChanges) evMasterChange 0 0 ((masterBest s).getD 0) 0).wlk with master := masterBest s, sync := none }
            }) := by
    split
    next h => exact ⟨h.symm, rfl, rfl, rfl⟩
    · rw [wlkEvent_moves.wlk]
      exact ⟨rfl, rfl, rfl, wlkEvent_moves.now⟩
  unfold masterChoose
  refine .ite (.ite (.of_wlk chosen (sourceLost_moves.wlk.trans rfl) (sourceLost_now _ _)) (.of_wlk chosen rfl rfl)) chosen

/-- A message to all leaves what the link knows of the others. -/
theorem waligAll_link (s : State) (cls typ dst : Nat) (ack : Bool) (b : Bytes) :
    (waligAll s cls typ dst ack b).wlk.master = s.wlk.master ∧ (waligAll s cls typ dst ack b).wlk.sync = s.wlk.sync ∧
      (waligAll s cls typ dst ack b).wlk.rep = s.wlk.rep := by
  obtain ⟨_, _, h⟩ := waligSend_wlk s wPorts cls typ dst ack b
  rw [waligAll, h]
  exact ⟨rfl, rfl, rfl⟩

theorem announceTx_answers (hcan : canonical s) (hany : wPorts.any (wPortEn s) = true) :
    Answers (.announceTx t) s fun r =>
      r.wlk.seq.get clsMGMT = (s.wlk.seq.get clsMGMT + 1) % 2 ^ 32 ∧ r.wlk.master = masterBest (advance s t) ∧ r.tmb.now = max s.tmb.now t := by
  obtain ⟨hmaster, hseq, _, hnow⟩ := masterChoose_chosen (advance s t)
  have hwf : (advance s t).wlk.seq.wf = true := ((canonical_iff _).1 (advance_moves.canon hcan) .wlk).seq
  refine ⟨_, if_neg (by simp [hany]), ?_, ?_, waligAll_moves.now.trans (hnow.trans (advance_now s t))⟩
  · rw [waligAll, waligSend_seq, hseq, SMap.get_set_self _ _ _ hwf, advance_moves.wlk]
  · exact (waligAll_link _ _ _ _ _ _).1.trans hmaster


theorem announceRx_answers {b m : Bytes} (hcan : canonical s) (h : Receives s p clsMGMT 2 b t) (hm : m = (wParse b).payload) :
    Answers (.announceRx p b t) s fun r =>
      r.wlk.mods.get (le m 0 1 % 64) = some ⟨le m 1 1, le m 2 8, le m 10 1, max s.tmb.now t⟩ ∧ r.tmb.now = max s.tmb.now t := by
  obtain ⟨u, hrx, hu⟩ := waligRx_of_receives h
  have noted : (numberConflict u (le m 0 1 % 64) (le m 2 8)).tmb.now = u.tmb.now := numberConflict_moves.now
  have hwf : (numberConflict u (le m 0 1 % 64) (le m 2 8)).wlk.mods.wf = true :=
    ((canonical_iff _).1 (numberConflict_moves.canon (hu.moves.canon hcan)) .wlk).mods
  refine ⟨_, congrArg ok (hrx _), ?_⟩
  rw [announceTake, ← hm]
  obtain ⟨_, _, hmods, hnow⟩ := masterChoose_chosen { numberConflict u (le m 0 1 % 64) (le m 2 8) with
    wlk := { (numberConflict u (le m 0 1 % 64) (le m 2 8)).wlk with
      mods := (numberConflict u (le m 0 1 % 64) (le m 2 8)).wlk.mods.set (le m 0 1 % 64)
        (some ⟨le m 1 1, le m 2 8, le m 10 1, (numberConflict u (le m 0 1 % 64) (le m 2 8)).tmb.now⟩) } }
  refine ⟨(congrArg (SMap.get · _) hmods).trans ((SMap.get_set_self _ _ _ hwf).trans ?_), hnow.trans (noted.trans hu.now)⟩
  rw [noted, hu.now]

theorem masterAnnounceTimeout_answers {m : Nat} {i : ModInfo} (hmaster : s.wlk.master = some m) (hheard : s.wlk.mods.get m = some i)
    (hother : m ≠ moduleNo s) (hlate : i.at' + 3000000 ≤ t) :
    Answers (.masterAnnounceTimeout t) s fun r => r.wlk.master = masterBest (advance s t) ∧ r.tmb.now = max s.tmb.now t := by
  obtain ⟨hchosen, _, _, hnow⟩ := masterChoose_chosen (advance s t)
  show ∃ r, execMasterAnnounceTimeout t s = .next r ∧ _
  unfold execMasterAnnounceTimeout
  rw [hmaster]
  dsimp only
  rw [hheard]
  exact ⟨_, if_neg (by simp [hother]; omega), hchosen, hnow.trans (advance_now s t)⟩

/-! ### Time of the domain -/

theorem seq_wf (hcan : canonical s) : s.wlk.seq.wf = true := ((canonical_iff s).1 hcan .wlk).seq

theorem syncReqTx_answers {t1 : Nat} (hcan : canonical s) (hmaster : s.wlk.master = some (moduleNo s)) :
    Answers (.syncReqTx t1 t) s fun r =>
      r.wlk.seq.get clsTIME = (s.wlk.seq.get clsTIME + 1) % 2 ^ 32 ∧ r.tmb.now = max s.tmb.now t := by
  refine ⟨_, if_neg (by simp [hmaster]), ?_, waligAll_moves.now.trans (advance_now s t)⟩
  rw [waligAll, waligSend_seq, SMap.get_set_self _ _ _ (seq_wf (advance_moves.canon hcan)), advance_moves.wlk]

theorem moduleNo_setup (h : Setup s u) : moduleNo u = moduleNo s := h.fld

theorem LinkKept.known (h : LinkKept s u) : u.wlk.master = s.wlk.master ∧ u.wlk.sync = s.wlk.sync ∧ u.wlk.seq = s.wlk.seq := by
  obtain ⟨_, _, e⟩ := h
  rw [e]
  exact ⟨rfl, rfl, rfl⟩

theorem syncReqRx_answers {t2 t3 : Nat} {b m : Bytes} (h : Receives s p clsTIME 1 b t) (hm : m = (wParse b).payload)
    (hmaster : s.wlk.master = some (wParse b).src) (hother : (wParse b).src ≠ moduleNo s) :
    Answers (.syncReqRx p b t2 t3 t) s fun r => r.wlk.sync = some ⟨le m 0 10, le m 10 10, t2, t3⟩ ∧ r.tmb.now = max s.tmb.now t := by
  obtain ⟨u, hrx, hu⟩ := waligRx_of_receives h
  obtain ⟨hm', _, _⟩ := hu.link.known
  refine ⟨_, congrArg ok ((hrx _).trans (if_neg ?_)), ?_, ?_⟩
  · rw [hm', moduleNo_setup hu.setup]
    simp [hmaster, hother]
  · rw [(waligAll_link _ _ _ _ _ _).2.1, ← hm]
  · rw [waligAll_moves.now]
    exact hu.now

theorem syncRespRx_answers {t4 : Nat} {b : Bytes} (hcan : canonical s) (h : Receives s p clsTIME 2 b t) (hmaster : s.wlk.master = some (moduleNo s))
    :
    Answers (.syncRespRx p b t4 t) s fun r =>
      r.wlk.seq.get clsTIME = (s.wlk.seq.get clsTIME + 1) % 2 ^ 32 ∧ r.tmb.now = max s.tmb.now t := by
  obtain ⟨u, hrx, hu⟩ := waligRx_of_receives h
  obtain ⟨hm', _, hseq⟩ := hu.link.known
  refine ⟨_, congrArg ok ((hrx _).trans (if_neg ?_)), ?_, waligAll_moves.now.trans hu.now⟩
  · rw [hm', moduleNo_setup hu.setup]
    simp [hmaster]
  · rw [waligAll, waligSend_seq, SMap.get_set_self _ _ _ (seq_wf (hu.moves.canon hcan)), hseq]

theorem syncDoneRx_answers {b m : Bytes} {mt : MasterTime} {x : SyncX} (hcan : canonical s) (h : Receives s p clsTIME 3 b t)
    (hm : m = (wParse b).payload) (hsync : s.wlk.sync = some x) (ht1 : x.t1 = le m 0 10) (hmaster : s.wlk.master = some (wParse b).src)
    (hjoined : s.tmb.joined = true) :
    Answers (.syncDoneRx p b mt t) s fun r =>
      r.wlk.sync = none ∧ (wPort r p).rtt = ((syncResid x s.tmb.domOff (le m 10 10) (le m 20 10)).2 / 65536).toNat % 65536 := by
  obtain ⟨u, hrx, hu⟩ := waligRx_of_receives h
  obtain ⟨hm', hs', _⟩ := hu.link.known
  refine ⟨_, congrArg ok (hrx _), ?_⟩
  obtain ⟨n, f, r, htmb⟩ := advance_tmb s t
  have hoff : (if u.tmb.joined then u.tmb.domOff else 0) = s.tmb.domOff := by rw [hu.tmb, htmb]; exact if_pos hjoined
  rw [hs', hsync]
  dsimp only
  rw [if_neg (by simp [ht1, hm, hm', hmaster]), domainMeasure_moves.wlk, wPort_congr domainMeasure_moves.wlk, hoff, ← hm]
  have hport := wPort_wPortUpd (p := p) (ports_wf (hu.moves.canon hcan)) fun y =>
    { y with rtt := ((syncResid x s.tmb.domOff (le m 10 10) (le m 20 10)).2 / 65536).toNat % 65536 }
  exact ⟨rfl, congrArg WPort.rtt hport⟩

/-- A module that follows no source holds the frequency it has estimated (R53). -/
theorem setSource_zero (h : s.tmb.source ≠ 0) :
    (setSource s 0).tmb = { s.tmb with
      source := 0
      lockRun := 0
      gathered := []
      lastF := none
      satSince := none
      state := .holdover
      rate := s.tmb.freqEst } := by
  unfold setSource
  rw [if_neg (Ne.symm h)]
  dsimp only
  rw [if_neg (by simp), tmbEvent_moves.tmb, bump_tmb]
  dsimp only
  rw [tmbEvent_moves.tmb]

theorem domainTimeLoss_answers (hcan : canonical s) (hsource : s.tmb.source = 3) (hlate : (s.tmb.sources.get 3).lastMeas + 300000 ≤ t) :
    Answers (.domainTimeLoss t) s fun r =>
      r.tmb.domLock = false ∧ r.tmb.source = 0 ∧ (r.tmb.sources.get 3).valid = false ∧ r.wlk.sync = none ∧ r.tmb.now = max s.tmb.now t := by
  obtain ⟨n, f, r, htmb⟩ := advance_tmb s t
  have hwf : (advance s t).tmb.sources.wf = true := ((canonical_iff _).1 (advance_moves.canon hcan) .tmb).sources
  refine ⟨_, if_neg (by simp [hsource]; omega), ?_⟩
  beta_reduce
  rw [setSource_zero (by rw [tmbEvent_moves.tmb, bump_tmb]; simp [htmb, hsource]), tmbEvent_moves.tmb, bump_tmb, setSource_moves.wlk,
    tmbEvent_moves.wlk]
  exact ⟨rfl, rfl, congrArg TimeSource.valid (SMap.get_upd_self _ 3 _ hwf), rfl, advance_now s t⟩

/-! ### Points sent and received -/

theorem replicationSend_answers {e id : Nat} (hcan : canonical s) (he : e < 256) (hdue : repDue (advance s t) e id = true)
    (hmute : s.par.mute = false) (hrun : s.pwr.stopped = false) :
    Answers (.replicationSend e [id] t) s fun r =>
      r.wlk.rep.get (e * 2 ^ 25 + id) = some ⟨max s.tmb.now t, (s.pst.points.get id).seq⟩ ∧
        r.wlk.seq.get clsPOINT = (s.wlk.seq.get clsPOINT + 1) % 2 ^ 32 ∧ r.tmb.now = max s.tmb.now t := by
  show ∃ r, execReplicationSend e [id] t s = .next r ∧ _
  unfold execReplicationSend
  dsimp only
  rw [List.filter_cons_of_pos hdue, List.filter_nil]
  refine ⟨_, if_neg (by simp [advance_moves.par, hmute, hrun, (advance_moves (s := s) (t := t)).pwr]; omega), ?_⟩
  have hpst : (advance s t).pst = s.pst := advance_moves.pst
  have hwf : (advance s t).wlk.rep.wf = true := ((canonical_iff _).1 (advance_moves.canon hcan) .wlk).rep
  have hwf' := seq_wf (repSent_moves (s := advance s t) (e := e) (id := id) |>.canon (advance_moves.canon hcan))
  have hseq : (repSent (advance s t) e id).wlk.seq = s.wlk.seq := by
    show (advance s t).wlk.seq = _
    rw [advance_moves.wlk]
  have hnow : (repSent (advance s t) e id).tmb.now = max s.tmb.now t := advance_now s t
  refine ⟨?_, ?_, waligAll_moves.now.trans hnow⟩
  · rw [(waligAll_link _ _ _ _ _ _).2.2]
    refine (SMap.get_set_self _ _ _ hwf).trans ?_
    rw [hpst]
    exact congrArg some (congrArg (RepPoint.mk · _) (advance_now s t))
  · rw [waligAll, waligSend_seq]
    show ((repSent (advance s t) e id).wlk.seq.set _ _).get _ = _
    refine (SMap.get_set_self _ _ _ hwf').trans ?_
    show ((repSent (advance s t) e id).wlk.seq.get clsPOINT + 1) % 2 ^ 32 = _
    rw [hseq]

theorem chunks_one {m : Bytes} (h : m.length = 36) : chunks 36 (m.length / 36) m = [m] := by
  rw [h]
  exact congrArg (· :: []) (List.take_of_length_le h.le)

theorem pst_commitPoint (s : State) (id : Nat) (r : PointRec) : (commitPoint s id r).pst.points = s.pst.points.set id r := by
  unfold commitPoint
  rw [histChange_moves.pst]
  split
  · split
    · exact congrArg Pst.points (capPointEdge_moves (s := { s with pst := _ })).pst
    · exact congrArg Pst.points (capPointEdge_moves (s := { s with pst := _ })).pst
  · exact congrArg Pst.points (capPointEdge_moves (s := { s with pst := _ })).pst

/-- A write that the map, the type, the stamp, the tile and the forces admit becomes the point's record (R80). -/
theorem writePoint_admitted {w : PWrite} {e : MapEntry} {q : Nat} (hid : w.id ≠ 0) (hmap : mapFind s.pst.map w.id = some e)
    (hwriter : e.writers.getLsbD w.cls = true) (hcls : w.cls ≠ wCYC) (htype : w.type = some e.type) (hstamp : w.stamp = some q)
    (hpast : q ≤ s.tmb.now) (htile : s.pst.badTiles.contains (tileOf w.id) = false) (hfree : forceFind s w.id = none)
    (hlater : (s.pst.points.get w.id).stamp ≤ q) :
    ∃ r, writePoint s w = (commitPoint s w.id r, ⟨.ok, true⟩) ∧ r.value = normVal e.type w.value ∧ r.stamp = q ∧
      r.seq = (s.pst.points.get w.id).seq + 1 := by
  unfold writePoint
  rw [if_neg hid, hmap]
  dsimp only
  rw [if_neg (by simp only [hwriter]; decide), if_neg (fun h => hcls h.1), htype, hstamp]
  dsimp only
  rw [if_neg (by simp), Option.getD_some, if_neg (by omega), if_neg (by simp only [htile]; decide), hfree]
  dsimp only
  rw [if_neg (by omega)]
  exact ⟨_, rfl, rfl, rfl, rfl⟩

theorem pointRecordsRx_answers {b m : Bytes} {e : MapEntry} (hcan : canonical s) (h : Receives s p clsPOINT 1 b t) (hm : m = (wParse b).payload)
    (hlen : m.length = 36) (hid : le m 0 4 ≠ 0) (hmap : mapFind s.pst.map (le m 0 4) = some e) (hwriter : e.writers.getLsbD wWALIG = true)
    (htype : PType.ofCode (le m 30 1) = some e.type) (hstamp : le m 20 8 ≤ max s.tmb.now t)
    (htile : s.pst.badTiles.contains (tileOf (le m 0 4)) = false) (hfree : forceFind s (le m 0 4) = none)
    (hlater : (s.pst.points.get (le m 0 4)).stamp ≤ le m 20 8) :
    Answers (.pointRecordsRx p b t) s fun r =>
      (r.pst.points.get (le m 0 4)).value = normVal e.type (BitVec.ofNat 64 (le m 12 8)) ∧ (r.pst.points.get (le m 0 4)).stamp = le m 20 8 ∧
        (r.pst.points.get (le m 0 4)).seq = (s.pst.points.get (le m 0 4)).seq + 1 ∧ r.tmb.now = max s.tmb.now t := by
  obtain ⟨u, hrx, hu⟩ := waligRx_of_receives h
  refine ⟨_, congrArg ok (hrx _), ?_⟩
  rw [← hm]
  generalize hheard : mirrorInput u (0x40 + clsPOINT) 1 _ = v
  have moved : Moves [.regs, .recd, .wlk, .par, .mram, .out] u v := hheard ▸ mirrorInput_moves.mono
  have hpst : v.pst = s.pst := moved.pst.trans hu.moves.pst
  have hnow : v.tmb.now = max s.tmb.now t := moved.now.trans hu.now
  have hwf : s.pst.points.wf = true := ((canonical_iff s).1 hcan .pst).points
  obtain ⟨r, hwrite, hvalue, hrstamp, hseq⟩ := writePoint_admitted (s := v) (e := e) (q := le m 20 8)
    (w := ⟨le m 0 4, BitVec.ofNat 64 (le m 12 8), PType.ofCode (le m 30 1), some (le m 20 8), BitVec.ofNat 16 (le m 28 2), wWALIG,
      (wParse b).src, false⟩)
    hid (by rw [hpst]; exact hmap) hwriter (show wWALIG ≠ wCYC by decide) htype rfl (by rw [hnow]; exact hstamp) (by rw [hpst]; exact htile)
    (by rw [forceFind, hpst]; exact hfree) (by rw [hpst]; exact hlater)
  have htake : repTake v (wParse b).src m = commitPoint v (le m 0 4) r := by
    rw [repTake, chunks_one hlen]
    show repWrite v (wParse b).src m = _
    unfold repWrite
    dsimp only
    rw [hwrite]
    rfl
  rw [htake, pst_commitPoint, hpst, SMap.get_set_self _ _ _ hwf]
  exact ⟨hvalue, hrstamp, by rw [hseq, hpst], commitPoint_moves.now.trans hnow⟩

end

/-- Settles O32, one lemma for each clause: a change of a port leaves the other parts of the link, and events leave it whole. -/
theorem waligLinkRuns : Obligations.WaligLinkRuns :=
  ⟨fun _ _ _ => wlkHeartbeatTx_answers, fun _ _ _ _ _ _ _ => wlkHeartbeatRx_answers, fun _ _ _ _ => wlkLaneLoss_answers,
    fun _ _ _ => wlkPortDown_answers, fun _ _ _ _ => wlkRetrainDone_answers, fun _ _ _ _ _ => linkHelloRx_answers,
    fun _ _ _ _ _ => linkHelloRx_refuses, fun _ _ _ => wlkVersionRetry_answers, fun _ _ _ _ => blockLock_answers,
    fun _ _ => announceTx_answers, fun _ _ _ _ _ => announceRx_answers, fun _ _ _ _ => masterAnnounceTimeout_answers,
    fun _ _ _ => syncReqTx_answers, fun _ _ _ _ _ _ _ _ => syncReqRx_answers, fun _ _ _ _ _ => syncRespRx_answers,
    fun _ _ _ _ _ _ _ => syncDoneRx_answers, fun _ _ => domainTimeLoss_answers,
    fun _ _ _ _ hcan he _ => replicationSend_answers hcan he, fun _ _ _ _ _ _ => pointRecordsRx_answers⟩

end Sys2Proof.Machine
end

section
/-! CAN FD controllers (O30). -/
set_option Elab.async false
namespace Sys2Proof.Machine
open Sys2Proof

/-! ### CAN FD controllers -/

/-- A frame of 8 bytes (R484) that asks for its echo where `echo` is 8. -/
def eightBytes (echo : BitVec 8) : Bytes := leBytes 4 0x123 ++ [8, echo, 0, 0] ++ leBytes 4 21 ++ zeros 68

/-- A controller in ERROR_ACTIVE whose TEC stands at 256 although it is not BUS_OFF, with a frame in its queue that asks for its echo. Its
descriptor (R478) is NORMAL with a ring of 64 records, accepts every frame and empties the queue at BUS_OFF. -/
def overdueBusOff : State :=
  { State.reset with can := ⟨(SMap.empty : SMap CanCtl).set 5 { (default : CanCtl) with
    desc := [1, 0x61] ++ zeros 22 ++ leBytes 4 64 ++ zeros 36
    state := .errorActive
    tec := 256
    q := [⟨⟨0, 0, false, 1, 0, none⟩, eightBytes 8, true, 0, none⟩] }⟩ }

/-- The frame that is received puts the controller on BUS_OFF first, and the queue's echo takes a place in the ring before it. -/
theorem canFrameRx_overdueBusOff : ∀ r, execCanFrameRx 5 1000500 (eightBytes 0) none 1000900 overdueBusOff = .next r → (canC r 5).prod = 2 := by
  intro r hr
  obtain rfl := Host.Outcome.next.inj hr
  decide +kernel

/-- Refutes O30: its clause of a received frame has the ring move on by one record in any state, and nothing says that TEC is below 256 while
the controller is not BUS_OFF. In `overdueBusOff` the frame's reception takes the controller to BUS_OFF, the frame in its queue leaves with an
echo, and the ring moves on by two. -/
theorem not_canControllersRun : ¬ Obligations.CanControllersRun := by
  unfold Obligations.CanControllersRun
  rintro ⟨-, -, -, -, -, -, -, -, -, -, -, hrx, -⟩
  obtain ⟨r, hexec, hprod, -⟩ := hrx 5 1000500 1000900 (eightBytes 0) overdueBusOff (by decide +kernel) (by decide) (by decide +kernel)
      (by decide +kernel)
    (by decide +kernel) (by decide +kernel) (by decide +kernel) (by decide +kernel) (by decide +kernel) (by decide +kernel) (by decide +kernel)
    (by decide +kernel) (by decide +kernel)
  rw [canFrameRx_overdueBusOff r hexec] at hprod
  revert hprod
  decide +kernel

end Sys2Proof.Machine
end

section
/-! The Capture Engine (O24). -/
set_option Elab.async false
namespace Sys2Proof.Machine
open Sys2Proof

/-! ### How a capture channel stands -/

section
variable {s t : State} {n q : Nat} {P Q : CapCh → Prop}

theorem stands_cap (h : canonical s) (n : Nat) : Stands capTable s n (· = capCh s n) := ⟨(canonical_iff s).1 h .cap, rfl⟩

/-- What leaves the capture channels leaves how one stands. -/
theorem Moves.capAt {l : List Part} (g : Moves l s t) (h : Stands capTable s n P) (hl : Part.cap ∉ l := by decide) : Stands capTable t n P :=
  h.of_eq (congrArg Cap.ch (g.frame .cap hl))

theorem Stands.capUpd (h : Stands capTable s n P) {f : CapCh → CapCh} (hf : ∀ a, P a → Q (f a)) : Stands capTable (capUpd s n f) n Q :=
  ⟨SMap.wf_upd _ n f h.wf, (SMap.get_upd_self _ n f h.wf).symm ▸ hf _ h.holds⟩

theorem Stands.capUpd_other {m : Nat} {f : CapCh → CapCh} (h : Stands capTable s n P) (hm : n ≠ m) : Stands capTable (Machine.capUpd s m f) n P :=
  ⟨SMap.wf_upd _ m f h.wf, by rw [show (capTable (Machine.capUpd s m f)).get n = (capTable s).get n from SMap.get_upd_ne _ f hm]; exact h.holds⟩

theorem capCh_congr (e : t.cap = s.cap) (n : Nat) : capCh t n = capCh s n := by rw [capCh, e, capCh]

/-- A condition on a channel that its envelopes do not touch. -/
def MaskFree (P : CapCh → Prop) : Prop := ∀ c m k, P c → P { c with mask := m, maskNext := k }

theorem stands_maskTakes (hP : MaskFree P) (a : Nat) (h : Stands capTable s n P) : Stands capTable (maskTakes s n a) n P := by
  unfold maskTakes
  split
  · exact .ite (endCmd_moves.capAt (h.capUpd fun c hc => hP c _ _ hc)) h
  · exact h

theorem stands_maskNow (hP : MaskFree P) (h : Stands capTable s n P) : Stands capTable (maskNow s n) n P := by
  unfold maskNow
  split
  · exact stands_maskTakes hP _ h
  · exact h

theorem maskNow_of_none (h : (capCh s n).maskNext = none) : maskNow s n = s := by
  unfold maskNow
  rw [h]

/-! ### CAP_CONFIG and MASK_LOAD -/

variable {h : Nat} {c : Cmd} {d : Bytes}

theorem startedIn_moves (s : State) (c : Cmd) (d : Bytes) : Moves [.hif] s (startedIn s c d) := sliceServed_moves.after cmdUpd_moves

theorem stands_started (hcan : canonical s) (c : Cmd) (d : Bytes) (n : Nat) : Stands capTable (startedIn s c d) n (· = capCh s n) :=
  (startedIn_moves s c d).capAt (stands_cap hcan n)

theorem capConfig_answers (hcan : canonical s) (hc : CanStart s h 0x4A c) (hcheck : capCheck s c.unit d = none) (hsource : (capParse d).source ≠ 0)
    :
    Answers (.capConfig h (some d)) s fun r =>
      (capCh r c.unit).desc = capParse d ∧ (capCh r c.unit).state = .disarmed ∧ (capCh r c.unit).held = [] ∧ endStatus r h = some .ok := by
  obtain rfl := handle_of_cmdFind hc.1
  have hcheck' : capCheck (startedIn s c d) (startedCmd c d).unit (startedCmd c d).data = none := hcheck
  show ∃ r, execCapConfig c.handle (some d) s = .next r ∧ _
  unfold execCapConfig
  rw [startCmd_of_canStart hc, capConfig, hcheck']
  have stands := (stands_started hcan c d c.unit).capUpd (f := fun old => { (default : CapCh) with
    state := if (capParse d).source = 0 then .idle else .disarmed
    desc := if (capParse d).source = 0 then default else capParse d
    lq := old.lq
    segStamp := old.segStamp
    violStamp := old.violStamp }) (Q := fun x => x.desc = capParse d ∧ x.state = .disarmed ∧ x.held = [])
    fun _ _ => ⟨if_neg hsource, if_neg hsource, rfl⟩
  obtain ⟨hdesc, hstate, hheld⟩ := (endCmd_moves.capAt (capEvent_moves.capAt stands)).holds
  refine ⟨_, rfl, hdesc, hstate, hheld, endStatus_endCmd_of_running .ok 0 0 ?_⟩
  rw [running_congr capEvent_moves.cmds]
  exact running_startedIn hc d

/-- The envelope of a MASK_LOAD (R391). -/
def maskIn (d : Bytes) : CapMask := ⟨le d 6 1, le d 7 1, maskPoints d, le d 12 4, le d 16 4⟩

/-- A MASK_LOAD that passes its checks has recorded its event when it looks at the channel (R393). -/
theorem maskLoad_of_check (hc : CanStart s h 0x4B c) (hcheck : maskCheck s c.unit d = none) (hnone : (capCh s c.unit).maskNext = none) :
    execMaskLoad h (some d) s = .next
      (let u := capEvent (startedIn s c d) evCapMaskLoaded c.unit 0 0 0
       let live : Bool := match (capCh u c.unit).state with | .armed | .post | .rearm => true | _ => false
       if live then capUpd u c.unit fun x => { x with maskNext := some (maskIn d, h, u.tmb.now) }
       else endCmd (capUpd u c.unit fun x => { x with mask := some (maskIn d) }) h .ok (maskIn d).points.length 0) := by
  obtain rfl := handle_of_cmdFind hc.1
  have hcheck' : maskCheck (startedIn s c d) (startedCmd c d).unit (startedCmd c d).data = none := hcheck
  have hnone' : maskNow (startedIn s c d) (startedCmd c d).unit = startedIn s c d := maskNow_of_none hnone
  unfold execMaskLoad
  rw [startCmd_of_canStart hc, maskLoad, hcheck']
  dsimp only
  rw [hnone']
  rfl

theorem capCh_maskLoading (s : State) (c : Cmd) (d : Bytes) (n : Nat) :
    capCh (capEvent (startedIn s c d) evCapMaskLoaded n 0 0 0) n = capCh s n :=
  (capCh_congr capEvent_moves.cap n).trans (capCh_congr (startedIn_moves s c d).cap n)

theorem maskLoad_answers (hcan : canonical s) (hc : CanStart s h 0x4B c) (hcheck : maskCheck s c.unit d = none)
    (hnone : (capCh s c.unit).maskNext = none)
    (hstate : (capCh s c.unit).state = .disarmed ∨ (capCh s c.unit).state = .full ∨ (capCh s c.unit).state = .stopped) :
    Answers (.maskLoad h (some d)) s fun r =>
      (capCh r c.unit).mask = some ⟨le d 6 1, le d 7 1, maskPoints d, le d 12 4, le d 16 4⟩ ∧ endStatus r h = some .ok := by
  refine ⟨_, maskLoad_of_check hc hcheck hnone, ?_⟩
  dsimp only
  rw [capCh_maskLoading, if_neg (by obtain e | e | e := hstate <;> simp [e])]
  have stands := ((capEvent_moves (k := evCapMaskLoaded) (n := c.unit) (index := 0) (module := 0) (off := 0)).capAt
    (stands_started hcan c d c.unit)).capUpd (f := fun x => { x with mask := some (maskIn d) }) (Q := fun x => x.mask = some (maskIn d)) fun _ _ =>
        rfl
  refine ⟨(endCmd_moves.capAt stands).holds, endStatus_endCmd_of_running .ok _ 0 ?_⟩
  rw [running_congr capUpd_moves.cmds, running_congr capEvent_moves.cmds]
  exact running_startedIn hc d

theorem maskLoad_waits (hcan : canonical s) (hc : CanStart s h 0x4B c) (hcheck : maskCheck s c.unit d = none)
    (hnone : (capCh s c.unit).maskNext = none)
    (hstate : (capCh s c.unit).state = .armed ∨ (capCh s c.unit).state = .post ∨ (capCh s c.unit).state = .rearm) :
    Answers (.maskLoad h (some d)) s fun r =>
      (capCh r c.unit).mask = (capCh s c.unit).mask ∧
        (capCh r c.unit).maskNext = some (⟨le d 6 1, le d 7 1, maskPoints d, le d 12 4, le d 16 4⟩, h, s.tmb.now) ∧ running r h = true := by
  refine ⟨_, maskLoad_of_check hc hcheck hnone, ?_⟩
  dsimp only
  rw [capCh_maskLoading, if_pos (by obtain e | e | e := hstate <;> simp [e]), capEvent_moves.now, startedIn_tmb]
  have stands := ((capEvent_moves (k := evCapMaskLoaded) (n := c.unit) (index := 0) (module := 0) (off := 0)).capAt
    (stands_started hcan c d c.unit)).capUpd (f := fun x => { x with maskNext := some (maskIn d, h, s.tmb.now) })
    (Q := fun x => x.mask = (capCh s c.unit).mask ∧ x.maskNext = some (maskIn d, h, s.tmb.now)) (by rintro _ rfl; exact ⟨rfl, rfl⟩)
  refine ⟨stands.holds.1, stands.holds.2, ?_⟩
  rw [running_congr capUpd_moves.cmds, running_congr capEvent_moves.cmds]
  exact running_startedIn hc d

/-! ### Arming, firing and stopping -/

/-- A channel is armed, empty, since `q` quarter ns (R383). -/
structure Armed (l : List LqEntry) (q : Nat) (c : CapCh) : Prop where
  state : c.state = .armed
  held : c.held = []
  next : c.next = 0
  since : c.since = q
  lq : c.lq = l

theorem stands_capArm {l : List LqEntry} (h : Stands capTable s n (·.lq = l)) : Stands capTable (capArm s n) n (Armed l (4 * s.tmb.now)) :=
  capEvent_moves.capAt (h.capUpd fun _ hc => ⟨rfl, rfl, rfl, Nat.mul_comm _ _, hc⟩)

theorem capArmable_congr (hcap : t.cap = s.cap) (hcnv : t.cnv = s.cnv) : capArmable t n = capArmable s n := by
  simp only [capArmable, burstOn, capCh_congr hcap, hcnv]

theorem capArm_answers (hcan : canonical s) (hc : CanStart s h 0x4C c) (hinst : c.instant = 0) (hsingle : (capCh s c.unit).desc.group = 0)
    (harm : capArmable s c.unit = true) :
    Answers (.capArm h) s fun r =>
      (capCh r c.unit).state = .armed ∧ (capCh r c.unit).held = [] ∧ (capCh r c.unit).next = 0 ∧ (capCh r c.unit).since = 4 * s.tmb.now ∧
        endStatus r h = some .ok := by
  obtain rfl := handle_of_cmdFind hc.1
  have hstate : ¬ ((capCh s c.unit).state = .idle ∨ (capCh s c.unit).desc.source = 2 ∨
      ((capCh s c.unit).desc.group ≠ 0 ∧ (!(capCh s c.unit).desc.master) = true)) := by
    simp only [capArmable, Bool.and_eq_true, beq_iff_eq] at harm
    obtain ⟨⟨⟨hs, hsource⟩, _⟩, _⟩ := harm
    rintro (e | e | ⟨e, _⟩)
    · simp [e] at hs
    · omega
    · exact e hsingle
  have harm' : capArmable (startedIn s c []) c.unit = true := harm
  have hcmd : execCapArm c.handle s = .next (endCmd (capArm (startedIn s c []) c.unit) c.handle .ok 0 0) := by
    unfold execCapArm
    rw [startCmd_of_canStart hc]
    exact congrArg ok ((if_neg hstate).trans ((if_pos hsingle).trans ((if_pos hinst).trans (if_pos harm'))))
  obtain ⟨hstate, hheld, hnext, hsince, _⟩ := (endCmd_moves.capAt (stands_capArm
      ((stands_started hcan c [] c.unit).mono fun _ e => congrArg CapCh.lq e))).holds
  refine ⟨_, hcmd, hstate, hheld, hnext, hsince, endStatus_endCmd_of_running .ok 0 0 ?_⟩
  rw [running_congr (capArm_moves (s := startedIn s c [])).cmds]
  exact running_startedIn hc []

/-- The state in which the front entry of a channel's queue acts (R383). -/
def launchedIn (s : State) (n : Nat) (e : LqEntry) (l : List LqEntry) : State := capUpd (advance s e.instant) n fun c => { c with lq := l }

theorem capLaunch_of_front {a : Nat} {e : LqEntry} {l : List LqEntry} (hfront : (capCh s n).lq = e :: l) (haction : e.action = a) :
    capLaunch a n s = capAct (launchedIn s n e l) n e := by
  unfold capLaunch
  rw [hfront]
  exact if_neg (by simp [haction])

theorem stands_launchedIn {e : LqEntry} {l : List LqEntry} (hcan : canonical s) :
    Stands capTable (launchedIn s n e l) n (· = { capCh s n with lq := l }) :=
  (advance_moves.capAt (stands_cap hcan n)).capUpd fun _ hc => by rw [hc]

theorem capArmLaunch_answers {e : LqEntry} {l : List LqEntry} (hcan : canonical s) (hfront : (capCh s n).lq = e :: l) (haction : e.action = 1)
    (harm : capArmable s n = true) :
    Answers (.capArmLaunch n) s fun r =>
      (capCh r n).state = .armed ∧ (capCh r n).held = [] ∧ (capCh r n).lq = l ∧ r.tmb.now = max s.tmb.now e.instant := by
  have stands := stands_launchedIn (n := n) (e := e) (l := l) hcan
  have hch : capCh (launchedIn s n e l) n = { capCh s n with lq := l } := stands.holds
  have harm' : capArmable (launchedIn s n e l) n = true := by
    rw [← harm]
    have hcnv : (launchedIn s n e l).cnv = s.cnv := advance_cnv s e.instant
    simp only [capArmable, burstOn, hch, hcnv]
  have hact : capAct (launchedIn s n e l) n e = endLaunch (capArm (launchedIn s n e l) n) e .ok 0 := by
    unfold capAct
    rw [haction]
    exact if_pos harm'
  obtain ⟨hstate, hheld, _, _, hlq⟩ := (endLaunch_moves.capAt (stands_capArm (stands.mono (Q := (·.lq = l)) fun _ hc => by rw [hc]))).holds
  exact ⟨_, congrArg ok ((capLaunch_of_front hfront haction).trans hact), hstate, hheld, hlq,
    endLaunch_moves.now.trans (capArm_moves.now.trans (advance_now s e.instant))⟩


/-! ### A trigger instant -/

/-- A channel has this descriptor, this queue and this latest trigger instant. -/
structure Fired (d : CapDesc) (l : List LqEntry) (q : Nat) (c : CapCh) : Prop where
  desc : c.desc = d
  lq : c.lq = l
  trig : c.lastTrig = q

theorem maskFree_fired (d : CapDesc) (l : List LqEntry) (q : Nat) : MaskFree (Fired d l q) := fun _ _ _ h => ⟨h.desc, h.lq, h.trig⟩

section
variable {d : CapDesc} {l : List LqEntry} {q : Nat}

theorem stands_capMissed {p reason module src : Nat} (h : Stands capTable s n (Fired d l q)) :
    Stands capTable (capMissed s n reason p module src) n (Fired d l q) :=
  .ite ((bump_moves.capAt h).capUpd fun _ hc => ⟨hc.desc, hc.lq, hc.trig⟩)
    ((Stands.ite (bump_moves.capAt h) (capEvent_moves.capAt (bump_moves.capAt h))).capUpd fun _ hc => ⟨hc.desc, hc.lq, hc.trig⟩)

theorem stands_capStore {g : CapSeg} (h : Stands capTable s n (Fired d l q)) : Stands capTable (capStore s n g) n (Fired d l q) := by
  have stored {c : Prop} {_ : Decidable c} {f : CapCh → CapCh} (hf : ∀ a, Fired d l q a → Fired d l q (f a)) :
      Stands capTable (capUpd (bump (if c then bump s cCapGapSegments else s) cCapSegments) n f) n (Fired d l q) :=
    (bump_moves.capAt (.ite (bump_moves.capAt h) h)).capUpd hf
  exact .ite (capEvent_moves.capAt (stands_maskNow (maskFree_fired d l q) (stored fun _ hc => ⟨hc.desc, hc.lq, hc.trig⟩)))
    (stored fun _ hc => ⟨hc.desc, hc.lq, hc.trig⟩)

theorem stands_capCheckDone (h : Stands capTable s n (Fired d l q)) : Stands capTable (capCheckDone s n) n (Fired d l q) := by
  unfold capCheckDone
  dsimp only
  split
  · exact .ite (stands_capStore h) h
  · exact h

theorem stands_capTake {src module spacing : Nat} {unlocked stop : Bool} (h : Stands capTable s n (Fired d l q)) :
    Stands capTable (capTake s n q src module unlocked stop spacing) n (Fired d l q) :=
  stands_capCheckDone ((stands_maskTakes (maskFree_fired d l q) 0 h).capUpd fun _ hc => ⟨hc.desc, hc.lq, rfl⟩)

/-- A trigger instant is the latest of its channel, whatever comes of it (R389). -/
theorem stands_capJudge {src module : Nat} {unlocked stop : Bool} (h : Stands capTable s n fun c : CapCh => c.desc = d ∧ c.lq = l) :
    Stands capTable (capJudge s n q src module unlocked stop) n (Fired d l q) := by
  have judged : Stands capTable (capUpd s n fun c => { c with lastTrig := q }) n (Fired d l q) := h.capUpd fun _ hc => ⟨hc.1, hc.2, rfl⟩
  unfold capJudge
  dsimp only
  split
  · exact .ite (stands_capTake judged) (stands_capMissed judged)
  · exact stands_capMissed judged
  · exact stands_capMissed judged
  all_goals exact bump_moves.capAt judged

end

theorem capFire_answers {e : LqEntry} {l : List LqEntry} (hcan : canonical s) (hfront : (capCh s n).lq = e :: l) (haction : e.action = 2)
    (hsingle : (capCh s n).desc.group = 0) :
    Answers (.capFire n) s fun r =>
      (capCh r n).lastTrig = 4 * max s.tmb.now e.instant ∧ (capCh r n).lq = l ∧ r.tmb.now = max s.tmb.now e.instant := by
  have stands := stands_launchedIn (n := n) (e := e) (l := l) hcan
  have hch : capCh (launchedIn s n e l) n = { capCh s n with lq := l } := stands.holds
  have hnow : (launchedIn s n e l).tmb.now = max s.tmb.now e.instant := advance_now s e.instant
  have hact : capAct (launchedIn s n e l) n e =
      endLaunch (capJudge (bump (launchedIn s n e l) cCapTriggers) n ((launchedIn s n e l).tmb.now * 4) 8 localModule false false) e .ok 0 := by
    unfold capAct
    rw [haction]
    exact congrArg (endLaunch · e .ok 0) (if_pos (.inl (by rw [hch]; exact hsingle)))
  have armed : Stands capTable (bump (launchedIn s n e l) cCapTriggers) n fun c : CapCh => c.desc = (capCh s n).desc ∧ c.lq = l :=
    bump_moves.capAt (stands.mono fun _ hc => by rw [hc]; exact ⟨rfl, rfl⟩)
  have judged : Stands capTable (endLaunch (capJudge (bump (launchedIn s n e l) cCapTriggers) n ((launchedIn s n e l).tmb.now * 4) 8 localModule
      false false) e .ok 0) n (Fired (capCh s n).desc l ((launchedIn s n e l).tmb.now * 4)) := endLaunch_moves.capAt (stands_capJudge armed)
  obtain ⟨_, hlq, htrig⟩ := judged.holds
  refine ⟨_, congrArg ok ((capLaunch_of_front hfront haction).trans hact), ?_, hlq, ?_⟩
  · exact htrig.trans (by rw [hnow, Nat.mul_comm])
  · exact endLaunch_moves.now.trans (capJudge_moves.now.trans hnow)

theorem capStop_answers {e : LqEntry} {l : List LqEntry} (hcan : canonical s) (hfront : (capCh s n).lq = e :: l) (haction : e.action = 3)
    (hstate : (capCh s n).state = .armed ∨ (capCh s n).state = .rearm) :
    Answers (.capStop n) s fun r => (capCh r n).state = .stopped ∧ (capCh r n).lq = l ∧ r.tmb.now = max s.tmb.now e.instant := by
  have stands := stands_launchedIn (n := n) (e := e) (l := l) hcan
  have hch : capCh (launchedIn s n e l) n = { capCh s n with lq := l } := stands.holds
  have stopped : Stands capTable (capUpd (launchedIn s n e l) n fun c => { c with state := .stopped }) n fun c : CapCh => c.state = .stopped ∧ c.lq
      = l :=
    stands.capUpd fun _ hc => by rw [hc]; exact ⟨rfl, rfl⟩
  have stops : Stands capTable (capStop (launchedIn s n e l) n) n fun c : CapCh => c.state = .stopped ∧ c.lq = l := by
    have := capEvent_moves (k := evCapStopped) (n := n) (index := (capCh (launchedIn s n e l) n).next - 1) (module := 0) (off := 0) |>.capAt
      (stands_maskNow (P := fun c : CapCh => c.state = .stopped ∧ c.lq = l) (fun _ _ _ h => h) stopped)
    unfold capStop
    rw [hch] at this ⊢
    obtain hs | hs := hstate <;> rw [hs] <;> exact this
  have hact : capAct (launchedIn s n e l) n e = endLaunch (capStop (launchedIn s n e l) n) e .ok 0 := by
    unfold capAct
    rw [haction]
    rfl
  have ended : Stands capTable (endLaunch (capStop (launchedIn s n e l) n) e .ok 0) n fun c : CapCh => c.state = .stopped ∧ c.lq = l :=
    endLaunch_moves.capAt stops
  obtain ⟨hstopped, hlq⟩ := ended.holds
  exact ⟨_, congrArg ok ((capLaunch_of_front hfront haction).trans hact), hstopped, hlq,
    endLaunch_moves.now.trans (capStop_moves.now.trans (advance_now s e.instant))⟩

/-! ### The end of a segment -/

theorem rearmEnd_arms (hcan : canonical s) (hstate : (capCh s n).state = .rearm) (hgo : (capCh s n).stopAfter = false)
    (hroom : (capCh s n).desc.ring = true ∨ (capCh s n).next < (capCh s n).desc.count) :
    Answers (.rearmEnd n) s fun r =>
      (capCh r n).state = .armed ∧ (capCh r n).since = (capCh s n).rearmAt ∧ r.tmb.now = max s.tmb.now (((capCh s n).rearmAt + 3) / 4) := by
  have full : ¬ ((!(capCh s n).desc.ring) = true ∧ (capCh s n).desc.count ≤ (capCh s n).next) := by
    rintro ⟨hring, hcount⟩
    obtain h | h := hroom
    · simp [h] at hring
    · omega
  have armed : Stands capTable (capUpd (advance s (((capCh s n).rearmAt + 3) / 4)) n fun c =>
      { c with state := .armed, since := c.rearmAt, first := true }) n fun c : CapCh => c.state = .armed ∧ c.since = (capCh s n).rearmAt :=
    (advance_moves.capAt (stands_cap hcan n)).capUpd (by rintro _ rfl; exact ⟨rfl, rfl⟩)
  refine ⟨_, (if_neg (by simp [hstate])).trans ((if_neg (by simp [hgo])).trans (if_neg full)), armed.holds.1, armed.holds.2, advance_now _ _⟩

theorem rearmEnd_full (hcan : canonical s) (hstate : (capCh s n).state = .rearm) (hgo : (capCh s n).stopAfter = false)
    (hring : (capCh s n).desc.ring = false) (hcount : (capCh s n).desc.count ≤ (capCh s n).next) :
    Answers (.rearmEnd n) s fun r => (capCh r n).state = .full ∧ r.tmb.now = max s.tmb.now (((capCh s n).rearmAt + 3) / 4) := by
  have full : Stands capTable (capUpd (advance s (((capCh s n).rearmAt + 3) / 4)) n
      fun c => { c with state := .full }) n (fun c : CapCh => c.state = .full) :=
    (advance_moves.capAt (stands_cap hcan n)).capUpd fun _ _ => rfl
  refine ⟨_, (if_neg (by simp [hstate])).trans ((if_neg (by simp [hgo])).trans (if_pos ⟨by simp [hring], hcount⟩)), ?_, ?_⟩
  · exact (capEvent_moves.capAt (stands_maskNow (P := (fun c : CapCh => c.state = .full)) (fun _ _ _ h => h) full)).holds
  · exact capEvent_moves.now.trans (maskNow_moves.now.trans (advance_now _ _))


/-- A segment that is stored leaves its channel without one, waiting or stopped (R386, R394). -/
theorem stands_capStore_ends {g : CapSeg} {k : Nat} (h : Stands capTable s n (·.next = k)) :
    Stands capTable (capStore s n g) n fun c : CapCh => c.cur = none ∧ c.next = k + 1 ∧ (c.state = .rearm ∨ c.state = .stopped) := by
  have stored {c : Prop} {_ : Decidable c} {f : CapCh → CapCh}
      (hf : ∀ a, a.next = k → (f a).cur = none ∧ (f a).next = k + 1 ∧ ((f a).state = .rearm ∨ (f a).state = .stopped)) :
      Stands capTable (capUpd (bump (if c then bump s cCapGapSegments else s) cCapSegments) n f) n fun c : CapCh =>
        c.cur = none ∧ c.next = k + 1 ∧ (c.state = .rearm ∨ c.state = .stopped) :=
    (bump_moves.capAt (.ite (bump_moves.capAt h) h)).capUpd hf
  have ends (a : CapCh) (stops : Bool) : (if stops then CapState.stopped else .rearm) = .rearm ∨ (if stops then CapState.stopped else .rearm) =
      .stopped := by
    cases stops
    · exact .inl rfl
    · exact .inr rfl
  exact .ite (capEvent_moves.capAt (stands_maskNow (fun _ _ _ h => h) (stored fun a ha => ⟨rfl, congrArg (· + 1) ha, ends a _⟩)))
    (stored fun a ha => ⟨rfl, congrArg (· + 1) ha, ends a _⟩)

theorem postWindowExpiry_answers {g : CapSeg} (hcan : canonical s) (hstate : (capCh s n).state = .post) (hcur : (capCh s n).cur = some g) :
    Answers (.postWindowExpiry n) s fun r =>
      (capCh r n).cur = none ∧ (capCh r n).next = (capCh s n).next + 1 ∧ (capCh r n).hist = [] ∧
        ((capCh r n).state = .rearm ∨ (capCh r n).state = .stopped) ∧
        r.tmb.now = max s.tmb.now ((g.trig * 250 + ((capCh s n).desc.seg - (capCh s n).desc.pre) * g.spacing + 999) / 1000) := by
  let i := (g.trig * 250 + ((capCh s n).desc.seg - (capCh s n).desc.pre) * g.spacing + 999) / 1000
  have hch : capCh (advance s i) n = capCh s n := capCh_congr advance_moves.cap n
  have hgap : capGap (advance s i) n = capUpd (capStore (advance s i) n { g with gap := true }) n fun c => { c with hist := [], prev := none } := by
    unfold capGap
    dsimp only
    rw [hch, hstate, hcur]
  have stored : Stands capTable (capGap (advance s i) n) n fun c : CapCh =>
      (c.cur = none ∧ c.next = (capCh s n).next + 1 ∧ (c.state = .rearm ∨ c.state = .stopped)) ∧ c.hist = [] := by
    rw [hgap]
    exact (stands_capStore_ends (advance_moves.capAt ((stands_cap hcan n).mono fun _ e => congrArg CapCh.next e))).capUpd fun _ hc => ⟨hc, rfl⟩
  have hexec : execPostWindowExpiry n s = .next (capGap (advance s i) n) := by
    unfold execPostWindowExpiry
    dsimp only
    rw [hstate, hcur]
    rfl
  obtain ⟨⟨hnone, hnext, hends⟩, hhist⟩ := stored.holds
  exact ⟨_, hexec, hnone, hnext, hhist, hends, capGap_moves.now.trans (advance_now s i)⟩

/-! ### Groups -/

theorem capGroupArmInstant_answers {members : List Nat} {a : GroupArm} (hfind : s.cap.arms.find? (·.channel == n) = some a) :
    Answers (.capGroupArmInstant n members) s fun r => r.cap.arms = s.cap.arms.erase a ∧ r.tmb.now = max s.tmb.now a.instant := by
  have hcap : (advance s a.instant).cap = s.cap := advance_moves.cap
  have told (l : List Nat) (u : State) : (l.foldl (fun s m => capEvent s evCapMemberLost n 0 m 0) u).cap = u.cap ∧
      (l.foldl (fun s m => capEvent s evCapMemberLost n 0 m 0) u).tmb.now = u.tmb.now := by
    have moves : Moves [.regs, .recd, .mram] u (l.foldl (fun s m => capEvent s evCapMemberLost n 0 m 0) u) := .foldl .refl fun _ _ => capEvent_moves
    exact ⟨moves.cap, moves.now⟩
  show ∃ r, execCapGroupArmInstant n members s = .next r ∧ _
  unfold execCapGroupArmInstant
  rw [hfind]
  refine ⟨_, rfl, ?_, ?_⟩
  · rw [endLaunch_moves.cap, (told _ _).1, hcap]
  · rw [endLaunch_moves.now, (told _ _).2]
    exact advance_now s a.instant


/-! ### What channels do apart from each other -/

theorem Moves.caps {l : List Part} (g : Moves l s t) (hl : Part.cap ∉ l := by decide) : Apart capCh n s t := fun m _ => capCh_congr (g.cap hl) m

theorem capUpd_caps {f : CapCh → CapCh} : Apart capCh n s (capUpd s n f) := fun _ hm => SMap.get_upd_ne _ _ hm

theorem maskTakes_caps {a : Nat} : Apart capCh n s (maskTakes s n a) := by
  unfold maskTakes
  split
  · exact .ite (endCmd_moves.caps.after capUpd_caps) .refl
  · exact .refl

theorem maskNow_caps : Apart capCh n s (maskNow s n) := by
  unfold maskNow
  split
  · exact maskTakes_caps
  · exact .refl

theorem capMissed_caps {reason p module src : Nat} : Apart capCh n s (capMissed s n reason p module src) :=
  .ite (capUpd_caps.after bump_moves.caps) (capUpd_caps.after (.ite bump_moves.caps (capEvent_moves.caps.after bump_moves.caps)))

theorem capStore_caps {g : CapSeg} : Apart capCh n s (capStore s n g) := by
  have stored {c : Prop} {_ : Decidable c} {f : CapCh → CapCh} :
      Apart capCh n s (capUpd (bump (if c then bump s cCapGapSegments else s) cCapSegments) n f) :=
    capUpd_caps.after (bump_moves.caps.after (.ite bump_moves.caps .refl))
  exact .ite (capEvent_moves.caps.after (maskNow_caps.after stored)) stored

theorem capCheckDone_caps : Apart capCh n s (capCheckDone s n) := by
  unfold capCheckDone
  dsimp only
  split
  · exact .ite capStore_caps .refl
  · exact .refl

theorem capJudge_caps {src module : Nat} {unlocked stop : Bool} : Apart capCh n s (capJudge s n q src module unlocked stop) := by
  unfold capJudge
  dsimp only
  split
  · exact .ite (capCheckDone_caps.after (capUpd_caps.after (maskTakes_caps.after capUpd_caps))) (capMissed_caps.after capUpd_caps)
  · exact capMissed_caps.after capUpd_caps
  · exact capMissed_caps.after capUpd_caps
  all_goals exact bump_moves.caps.after capUpd_caps

/-- Beside the channels, what the Capture Engine holds of groups is as before. -/
def SameGroups (s t : State) : Prop := { t.cap with ch := SMap.empty } = { s.cap with ch := SMap.empty }

theorem SameGroups.refl : SameGroups s s := rfl

theorem SameGroups.fires (h : SameGroups s t) : t.cap.fires = s.cap.fires := by
  unfold SameGroups at h
  have e := congrArg Cap.fires h
  exact e

theorem SameGroups.trans {u : State} (h : SameGroups s t) (g : SameGroups t u) : SameGroups s u := Eq.trans g h

theorem SameGroups.after {u : State} (g : SameGroups t u) (h : SameGroups s t) : SameGroups s u := Eq.trans g h

theorem SameGroups.ite {u : State} {c : Prop} {_ : Decidable c} (h : SameGroups s t) (g : SameGroups s u) : SameGroups s (if c then t else u) := by
  split <;> assumption

theorem Moves.sameGroups {l : List Part} (g : Moves l s t) (hl : Part.cap ∉ l := by decide) : SameGroups s t := by rw [SameGroups, g.cap hl]

theorem sameGroups_capUpd {f : CapCh → CapCh} : SameGroups s (capUpd s n f) := rfl

theorem sameGroups_maskTakes {a : Nat} : SameGroups s (maskTakes s n a) := by
  unfold maskTakes
  split
  · exact .ite (endCmd_moves.sameGroups.after sameGroups_capUpd) .refl
  · exact .refl

theorem sameGroups_maskNow : SameGroups s (maskNow s n) := by
  unfold maskNow
  split
  · exact sameGroups_maskTakes
  · exact .refl

theorem sameGroups_capMissed {reason p module src : Nat} : SameGroups s (capMissed s n reason p module src) :=
  .ite (sameGroups_capUpd.after bump_moves.sameGroups)
    (sameGroups_capUpd.after (.ite bump_moves.sameGroups (capEvent_moves.sameGroups.after bump_moves.sameGroups)))

theorem sameGroups_capStore {g : CapSeg} : SameGroups s (capStore s n g) := by
  have stored {c : Prop} {_ : Decidable c} {f : CapCh → CapCh} :
      SameGroups s (capUpd (bump (if c then bump s cCapGapSegments else s) cCapSegments) n f) :=
    sameGroups_capUpd.after (bump_moves.sameGroups.after (.ite bump_moves.sameGroups .refl))
  exact .ite (capEvent_moves.sameGroups.after (sameGroups_maskNow.after stored)) stored

theorem sameGroups_capCheckDone : SameGroups s (capCheckDone s n) := by
  unfold capCheckDone
  dsimp only
  split
  · exact .ite sameGroups_capStore .refl
  · exact .refl

theorem sameGroups_capJudge {src module : Nat} {unlocked stop : Bool} : SameGroups s (capJudge s n q src module unlocked stop) := by
  unfold capJudge
  dsimp only
  split
  · exact .ite (sameGroups_capCheckDone.after (sameGroups_capUpd.after (sameGroups_maskTakes.after sameGroups_capUpd)))
      (sameGroups_capMissed.after sameGroups_capUpd)
  · exact sameGroups_capMissed.after sameGroups_capUpd
  · exact sameGroups_capMissed.after sameGroups_capUpd
  all_goals exact bump_moves.sameGroups.after sameGroups_capUpd

/-- A fire on time is a trigger instant of its channel (R401). -/
theorem capFireOn_onTime (s : State) (n q src module : Nat) (stop : Bool) :
    ∃ u unlocked, Moves [.regs, .recd, .mram] s u ∧ capFireOn s n q src module false stop = capJudge u n q src module unlocked stop := by
  have heard : Moves [.regs, .recd, .mram] s (if s.tmb.joined && !s.tmb.domLock then
      capEvent (bump (bump s cCapFiresReceived) cCapUnlockedFires) evCapUnlockedFire n (capCh s n).next module 0 else bump s cCapFiresReceived) :=
    .ite (capEvent_moves.after (bump_moves.after bump_moves.mono)) bump_moves.mono
  exact ⟨_, s.tmb.joined && !s.tmb.domLock, heard, rfl⟩

theorem sameGroups_fire {src module : Nat} {stop : Bool} : SameGroups s (capFireOn s n q src module false stop) := by
  obtain ⟨u, unlocked, heard, hfire⟩ := capFireOn_onTime s n q src module stop
  rw [hfire]
  exact sameGroups_capJudge.after heard.sameGroups

end

section
variable {s : State} {n p t : Nat} {b m : Bytes}

/-- A message that reaches the partner too (R535). -/
theorem pairRx_of_receives {cls typ : Nat} (h : Receives s p cls typ b t) :
    ∃ u, Moves [.regs, .recd, .tmb, .wlk, .par, .mram, .out, .freeCtr] s u ∧
      (∀ k, pairRx s p cls typ b t k = k u (wParse b).src (wParse b).payload) ∧ u.tmb = (advance s t).tmb := by
  obtain ⟨u, hrx, hu⟩ := waligRx_of_receives h
  exact ⟨mirrorInput u (0x40 + cls) typ (leBytes 1 (wParse b).src ++ (wParse b).payload), mirrorInput_moves.after hu.moves.mono,
    fun k => hrx _, mirrorInput_moves.tmb.trans hu.tmb⟩

theorem joined_of_tmb {u : State} (h : u.tmb = (advance s t).tmb) : u.tmb.joined = s.tmb.joined := by
  obtain ⟨_, _, _, e⟩ := advance_tmb s t
  rw [h, e]

theorem domOff_of_tmb {u : State} (h : u.tmb = (advance s t).tmb) : u.tmb.domOff = s.tmb.domOff := by
  obtain ⟨_, _, _, e⟩ := advance_tmb s t
  rw [h, e]

/-- A channel that belongs to a group, its latest trigger at `q` where `fired` holds. -/
structure Member (k g q : Nat) (fired : Prop) (s : State) : Prop where
  canon : canonical s
  source : (capCh s k).desc.source = 1
  group : (capCh s k).desc.group = g
  trig : fired → (capCh s k).lastTrig = q

theorem Member.mono {k g q : Nat} {x y : Prop} (h : Member k g q x s) (hy : y → x) : Member k g q y s := ⟨h.canon, h.source, h.group, h.trig ∘ hy⟩

theorem member_fireStep {k g q src module : Nat} {fired : Prop} {u : State} (hu : Member k g q fired u) (n : Nat) :
    Member k g q (fired ∨ n = k) (if (capCh u n).desc.source = 1 ∧ (capCh u n).desc.group = g then
      capFireOn u n q src module false false else u) := by
  by_cases hn : n = k
  · subst hn
    rw [if_pos ⟨hu.source, hu.group⟩]
    obtain ⟨v, unlocked, heard, hfire⟩ := capFireOn_onTime u n q src module false
    have judged : Stands capTable (capJudge v n q src module unlocked false) n (Fired (capCh u n).desc (capCh u n).lq q) :=
      stands_capJudge (heard.capAt ((stands_cap hu.canon n).mono fun _ e => ⟨congrArg CapCh.desc e, congrArg CapCh.lq e⟩))
    obtain ⟨hdesc, _, htrig⟩ := judged.holds
    refine ⟨capFireOn_moves.canon hu.canon, ?_, ?_, fun _ => ?_⟩ <;> rw [hfire]
    · exact (congrArg CapDesc.source hdesc).trans hu.source
    · exact (congrArg CapDesc.group hdesc).trans hu.group
    · exact htrig
  · have other : capCh (if (capCh u n).desc.source = 1 ∧ (capCh u n).desc.group = g then capFireOn u n q src module false false else u) k = capCh u
        k := by
      split
      · obtain ⟨v, unlocked, heard, hfire⟩ := capFireOn_onTime u n q src module false
        rw [hfire]
        exact (heard.caps.trans capJudge_caps) k (Ne.symm hn)
      · rfl
    refine ⟨?_, by rw [other]; exact hu.source, by rw [other]; exact hu.group, fun h => ?_⟩
    · split
      · exact capFireOn_moves.canon hu.canon
      · exact hu.canon
    · rw [other]; exact hu.trig (h.resolve_right hn)

theorem trigFireRx_answers {k q : Nat} (hcan : canonical s) (h : Receives s p clsTRIG 2 b t) (hm : m = (wParse b).payload)
    (hjoined : s.tmb.joined = true) (hgroup : le m 0 1 ≠ 0) (hk : k < 16) (hsource : (capCh s k).desc.source = 1)
    (hmember : (capCh s k).desc.group = le m 0 1) (hq : q = localQ s (les m 1 8)) (honTime : 4 * max s.tmb.now t ≤ q + 4800) :
    Answers (.trigFireRx (some (p, b)) t) s fun r => (capCh r k).lastTrig = q ∧ r.tmb.now = max s.tmb.now t := by
  obtain ⟨u, heard, hrx, hu⟩ := pairRx_of_receives h
  have hcap : u.cap = s.cap := heard.cap
  have hjoined' : u.tmb.joined = true := by rw [joined_of_tmb hu]; exact hjoined
  have hq' : localQ u (les m 1 8) = q := by rw [hq]; simp only [localQ, joined_of_tmb hu, domOff_of_tmb hu]
  have hnow : u.tmb.now = max s.tmb.now t := by rw [hu, advance_now]
  have hlate : decide (q + 4800 < 4 * u.tmb.now) = false := by rw [hnow]; simp only [decide_eq_false_iff_not]; omega
  have fires : trigFire u (wParse b).src m = (List.range 16).foldl (fun s n =>
      if (capCh s n).desc.source = 1 ∧ (capCh s n).desc.group = le m 0 1 then capFireOn s n q 7 (wParse b).src false false else s) u := by
    unfold trigFire
    dsimp only
    rw [if_neg (by simp [hgroup, hjoined']), hq', hlate]
  have starts : Member k (le m 0 1) q False u :=
    ⟨heard.canon hcan, by rw [capCh_congr hcap, hsource], by rw [capCh_congr hcap, hmember], False.elim⟩
  have fired := foldl_establishes (A := Member k (le m 0 1) q False) (B := Member k (le m 0 1) q True)
    (fun v n hv => by simpa using (member_fireStep (src := 7) (module := (wParse b).src) hv n).mono False.elim)
    (fun v n hv => (member_fireStep (src := 7) (module := (wParse b).src) hv n).mono .inl)
    (fun v hv => (member_fireStep (src := 7) (module := (wParse b).src) hv k).mono fun _ => .inr rfl) (List.mem_range.2 hk) starts
  refine ⟨_, congrArg ok (hrx _), ?_, ?_⟩
  · rw [← hm, fires]; exact fired.trig trivial
  · exact trigFire_moves.now.trans hnow


theorem ownFire_answers {f : CapFire} {l : List CapFire} (hfires : s.cap.fires = f :: l) :
    Answers (.trigFireRx none t) s fun r => r.cap.fires = l ∧ r.tmb.now = max s.tmb.now ((localQ s f.q + 4800 + 3) / 4) := by
  have hadv : (advance { s with cap := { s.cap with fires := l } } ((localQ s f.q + 4800 + 3) / 4)).cap =
      { s.cap with fires := l } := advance_moves.cap
  show ∃ r, execTrigFireRx none t s = .next r ∧ _
  unfold execTrigFireRx
  dsimp only
  rw [hfires]
  refine ⟨_, rfl, ?_, ?_⟩
  · have same (r : State) (h : SameGroups (advance { s with cap := { s.cap with fires := l } } ((localQ s f.q + 4800 + 3) / 4)) r) :
        r.cap.fires = l := h.fires.trans (congrArg Cap.fires hadv)
    exact same _ (List.foldlRecOn _ _ .refl fun u hu n _ => hu.trans (.ite sameGroups_fire .refl))
  · refine (List.foldlRecOn (motive := fun u : State => u.tmb.now = max s.tmb.now ((localQ s f.q + 4800 + 3) / 4)) _ _ (advance_now _ _)
      fun u hu n _ => ?_)
    exact now_ite (capFireOn_moves.now.trans hu) hu

theorem trigAckRx_answers {a : GroupArm} (h : Receives s p clsTRIG 3 b t) (hm : m = (wParse b).payload) (harms : s.cap.arms = [a])
    (hgroup : (capCh s a.channel).desc.group = le m 0 1) (hearly : max s.tmb.now t < a.instant) :
    Answers (.trigAckRx p b t) s fun r =>
      r.cap.arms = [{ a with acked := a.acked ++ [(wParse b).src] }] ∧ r.tmb.now = max s.tmb.now t := by
  obtain ⟨u, heard, hrx, hu⟩ := pairRx_of_receives h
  have hcap : u.cap = s.cap := heard.cap
  have hnow : u.tmb.now = max s.tmb.now t := by rw [hu, advance_now]
  refine ⟨_, congrArg ok (hrx _), ?_, trigAck_moves.now.trans hnow⟩
  unfold trigAck
  dsimp only
  rw [hcap, harms, List.map_singleton, capCh_congr hcap, hnow, ← hm, if_pos ⟨hgroup, hearly⟩]

/-- An ARM that comes in time enters a queue with room (R57, R383). -/
theorem capEnqueue_onTime {i : Nat} (hearly : s.tmb.now + 200 ≤ i) :
    (capEnqueue s n ⟨i, 0, false, 1, 0, none⟩).1 =
      if 16 ≤ (capCh s n).lq.length then s else capUpd s n fun c => { c with lq := lqInsert ⟨i, 0, false, 1, 0, none⟩ c.lq } := by
  have honTime : arrival s 200 ⟨i, 0, false, 1, 0, none⟩ = .onTime := if_neg (by simp only; omega)
  unfold capEnqueue
  rw [if_neg (by simp)]
  dsimp only
  rw [honTime]
  exact apply_ite Prod.fst _ _ _

theorem capEnqueue_caps {i : Nat} (hearly : s.tmb.now + 200 ≤ i) : Apart capCh n s (capEnqueue s n ⟨i, 0, false, 1, 0, none⟩).1 := by
  rw [capEnqueue_onTime hearly]
  exact .ite .refl capUpd_caps

/-- A queue of ARMs to come: the channel's queue, and the instant not yet near. -/
structure Queued (k i : Nat) (q : List LqEntry) (s : State) : Prop where
  canon : canonical s
  early : s.tmb.now + 200 ≤ i
  lq : (capCh s k).lq = q

theorem queued_others {k i : Nat} {q : List LqEntry} {l : List Nat} {u : State} (hl : k ∉ l) (hu : Queued k i q u) :
    Queued k i q (l.foldl (fun s n => (capEnqueue s n ⟨i, 0, false, 1, 0, none⟩).1) u) := by
  refine List.foldlRecOn l _ hu fun v hv n hn => ⟨capEnqueue_moves.canon hv.canon, ?_, ?_⟩
  · rw [capEnqueue_moves.now]; exact hv.early
  · rw [capEnqueue_caps hv.early k (by rintro rfl; exact hl hn)]; exact hv.lq

theorem queued_members {k i : Nat} {q : List LqEntry} {l : List Nat} {u : State} (hk : k ∈ l) (hl : l.Nodup) (hq : q.length < 16)
    (hu : Queued k i q u) :
    Queued k i (lqInsert ⟨i, 0, false, 1, 0, none⟩ q) (l.foldl (fun s n => (capEnqueue s n ⟨i, 0, false, 1, 0, none⟩).1) u) := by
  obtain ⟨before, after, rfl⟩ := List.append_of_mem hk
  obtain ⟨hnot, _⟩ := List.nodup_cons.1 (List.nodup_middle.1 hl)
  rw [List.mem_append, not_or] at hnot
  rw [List.foldl_append, List.foldl_cons]
  refine queued_others hnot.2 ?_
  obtain ⟨hcan, hearly, hlq⟩ := queued_others hnot.1 hu
  refine ⟨capEnqueue_moves.canon hcan, by rw [capEnqueue_moves.now]; exact hearly, ?_⟩
  rw [capEnqueue_onTime hearly, hlq, if_neg (by omega)]
  exact ((stands_cap hcan k).capUpd (Q := fun c : CapCh => c.lq = lqInsert ⟨i, 0, false, 1, 0, none⟩ q) (by rintro _ rfl; rw [hlq])).holds

theorem trigArmRx_answers {k i : Nat} (hcan : canonical s) (h : Receives s p clsTRIG 1 b t) (hm : m = (wParse b).payload)
    (hjoined : s.tmb.joined = true) (hgroup : le m 0 1 ≠ 0) (hk : k ∈ groupMembers s (le m 0 1)) (hi : i = (les m 1 8 - s.tmb.domOff).toNat)
    (hearly : max s.tmb.now t + 200 ≤ i) (hroom : (capCh s k).lq.length < 16) :
    Answers (.trigArmRx p b t) s fun r =>
      (capCh r k).lq = lqInsert ⟨i, 0, false, 1, 0, none⟩ (capCh s k).lq ∧ r.tmb.now = max s.tmb.now t := by
  obtain ⟨u, heard, hrx, hu⟩ := pairRx_of_receives h
  have hcap : u.cap = s.cap := heard.cap
  have hnow : u.tmb.now = max s.tmb.now t := by rw [hu, advance_now]
  have hmembers : groupMembers u (le m 0 1) = groupMembers s (le m 0 1) := by simp only [groupMembers, capCh_congr hcap]
  have hi' : (les m 1 8 - u.tmb.domOff).toNat = i := by rw [domOff_of_tmb hu, hi]
  refine ⟨_, congrArg ok (hrx _), ?_, trigArm_moves.now.trans hnow⟩
  have queued := queued_members (i := i) hk (List.nodup_range.filter _) hroom ⟨heard.canon hcan, by rwa [hnow], by rw [capCh_congr hcap]⟩
  unfold trigArm
  dsimp only
  rw [← hm, if_neg (by simp [joined_of_tmb hu, hjoined]), hmembers, if_neg (by simp [hgroup]; exact List.ne_nil_of_mem hk), hi',
    capCh_congr waligAll_moves.cap]
  exact queued.lq

theorem capMissRead_answers {v : Word} {x : CapMiss} (hopen : windowOpen s 0x0C = true)
    (hx : (capCh s (bits v.toNat 3 0)).miss[bits v.toNat 25 16]? = some x) :
    Answers (.capMissRead v) s fun r => r.cap.missData = missBytes x := by
  refine ⟨_, congrArg ok (if_pos hopen), ?_⟩
  unfold capMissRead
  show (match (capCh s (bits v.toNat 3 0)).miss[bits v.toNat 25 16]? with | some x => missBytes x | none => []) = _
  rw [hx]

end

/-- Settles O24, one lemma for each clause: a channel's record stands through the events and envelopes that follow its change, and channels
change apart from each other. -/
theorem captureCommandsTakeEffect : Obligations.CaptureCommandsTakeEffect :=
  ⟨fun _ _ _ _ => capConfig_answers, fun _ _ _ _ => maskLoad_answers, fun _ _ _ _ => maskLoad_waits, fun _ _ _ => capArm_answers,
    fun _ _ _ _ => capArmLaunch_answers, fun _ _ _ _ => capFire_answers, fun _ _ _ _ => capStop_answers, fun _ _ => rearmEnd_arms,
    fun _ _ => rearmEnd_full, fun _ _ _ => postWindowExpiry_answers, fun _ _ _ _ => capGroupArmInstant_answers,
    fun _ _ _ _ _ _ _ => trigArmRx_answers, fun _ _ _ _ => ownFire_answers, fun _ _ _ _ _ _ _ => trigFireRx_answers,
    fun _ _ _ _ _ _ _ => trigAckRx_answers, fun _ _ _ => capMissRead_answers⟩

end Sys2Proof.Machine
end

section
/-! Quench pins (O25). -/
set_option Elab.async false
namespace Sys2Proof.Machine
open Sys2Proof

/-! ### How a Quench pin stands -/

section
variable {s t : State} {n : Nat} {P Q : QchPin → Prop}

theorem stands_qch (h : canonical s) (n : Nat) : Stands qchTable s n (· = s.qch.pin.get n) := ⟨(canonical_iff s).1 h .qch, rfl⟩

/-- What leaves the Quench pins leaves how one stands. -/
theorem Moves.qchAt {l : List Part} (g : Moves l s t) (h : Stands qchTable s n P) (hl : Part.qch ∉ l := by decide) : Stands qchTable t n P :=
  h.of_eq (congrArg Qch.pin (g.frame .qch hl))

theorem Stands.qchUpd (h : Stands qchTable s n P) {f : QchPin → QchPin} (hf : ∀ a, P a → Q (f a)) : Stands qchTable (qchUpd n f s) n Q :=
  ⟨SMap.wf_upd _ n f h.wf, (SMap.get_upd_self _ n f h.wf).symm ▸ hf _ h.holds⟩

/-! ### Who asserts a pin -/

theorem qchHost_congr (h : Setup s t) (n : Nat) : qchHost t n = qchHost s n := by rw [qchHost, h.fld, qchHost]

theorem qchAnv_congr (hanv : (t.qch.pin.get n).anv = (s.qch.pin.get n).anv) (hstandby : t.par.standby = s.par.standby) : qchAnv t n = qchAnv s n :=
    by
  rw [qchAnv, hanv, hstandby, qchAnv]

theorem standby_of_pinsOnly (h : PinsOnly s t) : t.par.standby = s.par.standby := by
  obtain ⟨p, h⟩ := h
  exact (congrArg Par.standby h :)

/-- A pin that nothing asserts is inactive. -/
theorem qchActive_of_none (hlatch : (s.qch.pin.get n).latch = false) (hanv : qchAnv s n = false) (hhost : qchHost s n = false) :
    qchActive s n = false := by rw [qchActive, hlatch, hanv, hhost]; rfl

theorem setup_pinState (h : Setup s t) : Setup s (pinState t) := .ite h (.ite h (setup_mirrorSend (h.of_regs rfl)))

theorem setup_qchEvent {k : EvKind} {unit : Nat} (h : Setup s t) : Setup s (qchEvent t k n unit) := setup_event (h.of_regs rfl)

theorem setup_qchChange {unit : Nat} {f : State → State} (h : Setup s (f t)) : Setup s (qchChange t n unit f) := by
  have driven : Setup s (pinState (f t)) := setup_pinState h
  unfold qchChange
  dsimp only
  refine .ite (.ite driven ?_) (driven.of_regs rfl)
  exact .ite (setup_qchEvent (setup_bump (driven.of_regs rfl))) (driven.of_regs rfl)

/-- A change that leaves a pin inactive has it inactive since no time (R395). -/
theorem qchChange_of_inactive {unit : Nat} {f : State → State} (h : qchActive (pinState (f s)) n = false) :
    qchChange s n unit f = qchUpd n (fun p => { p with activeSince := none }) (pinState (f s)) := by
  unfold qchChange
  dsimp only
  rw [h]
  rfl

/-! ### QCH_FORCE -/

/-- The lower `k` bits are those of `v`, the others those of `o`. -/
def spliced (k v o : Nat) : Nat := v % 2 ^ k + o / 2 ^ k * 2 ^ k

theorem setBits_spliced (k v o : Nat) : setBits (spliced k v o) k k (bits v k k) = spliced (k + 1) v o := by
  have hpow : 2 ^ (k + 1 - k) = 2 := by rw [Nat.add_sub_cancel_left]; rfl
  have hbit : spliced k v o / 2 ^ k = o / 2 ^ k := by
    rw [spliced, Nat.add_mul_div_right _ _ (Nat.two_pow_pos k), Nat.div_eq_of_lt (Nat.mod_lt _ (Nat.two_pow_pos k)), Nat.zero_add]
  have hsplit : o / 2 ^ k * 2 ^ k = o / 2 ^ (k + 1) * 2 ^ (k + 1) + o / 2 ^ k % 2 * 2 ^ k := by
    rw [pow_succ, ← Nat.div_div_eq_div_mul, mul_comm (2 ^ k) 2, ← mul_assoc, ← Nat.add_mul]
    congr 1
    omega
  simp only [setBits, bits, hpow, Nat.shiftRight_eq_div_pow, hbit, Nat.mod_mod]
  rw [spliced, spliced, hsplit, pow_succ, Nat.mod_mul]
  rw [mul_comm (2 ^ k) (v / 2 ^ k % 2)]
  omega

theorem fld_setFld_force (h : s.regs.wf = true) (x : Nat) : fld (setFld s fQchForceForce x) fQchForceForce = x % 65536 := by
  have := (stored s 0x1300004).isLt
  simp only [fld, setFld, fQchForceForce, stored_setStored_self _ _ _ h, BitVec.toNat_ofNat, setBits, bits, Nat.shiftRight_zero, Nat.reduceAdd,
    Nat.reduceSub, Nat.reducePow, pow_zero, mul_one]
  omega

/-- QCH_FORCE is written pin by pin (R395). -/
def forcePin (v : Word) (s : State) (n : Nat) : State :=
  qchChange s n 0 fun s => setFld s fQchForceForce (setBits (fld s fQchForceForce) n n (bits v.toNat n n))

theorem forcePin_moves (v : Word) (s : State) (n : Nat) : Moves [.regs, .recd, .qch, .wlk, .par, .mram, .out, .freeCtr] s (forcePin v s n) :=
  qchChange_moves fun _ => setFld_moves.mono

theorem fld_forcePin {v : Word} {o : Nat} (h : s.regs.wf = true) (ho : fld s fQchForceForce = spliced n v.toNat o) :
    fld (forcePin v s n) fQchForceForce = spliced (n + 1) v.toNat o % 65536 := by
  have written : Setup (setFld s fQchForceForce (setBits (fld s fQchForceForce) n n (bits v.toNat n n))) (forcePin v s n) := setup_qchChange .refl
  rw [written.fld, fld_setFld_force h, ho, setBits_spliced]

theorem fld_forcePins (v : Word) (hcan : canonical s) (k : Nat) (hk : k ≤ 16) :
    canonical ((List.range k).foldl (forcePin v) s) ∧
      fld ((List.range k).foldl (forcePin v) s) fQchForceForce = spliced k v.toNat (fld s fQchForceForce) := by
  induction k with
  | zero => exact ⟨hcan, by simp [spliced, Nat.mod_one]⟩
  | succ k ih =>
    obtain ⟨hc, hf⟩ := ih (by omega)
    rw [List.range_succ, List.foldl_append, List.foldl_cons, List.foldl_nil]
    refine ⟨(forcePin_moves v _ k).canon hc, (fld_forcePin ((canonical_iff _).1 hc .regs) hf).trans (Nat.mod_eq_of_lt ?_)⟩
    have hold : fld s fQchForceForce < 2 ^ 16 := Nat.mod_lt _ (Nat.two_pow_pos 16)
    have hv : v.toNat % 2 ^ (k + 1) < 2 ^ (k + 1) := Nat.mod_lt _ (Nat.two_pow_pos _)
    obtain ⟨q, hq⟩ : 2 ^ (k + 1) ∣ 2 ^ 16 := Nat.pow_dvd_pow 2 hk
    have hhigh : fld s fQchForceForce / 2 ^ (k + 1) < q := Nat.div_lt_of_lt_mul (hq ▸ hold)
    calc spliced (k + 1) v.toNat (fld s fQchForceForce)
      _ < 2 ^ (k + 1) + fld s fQchForceForce / 2 ^ (k + 1) * 2 ^ (k + 1) := Nat.add_lt_add_right hv _
      _ = (fld s fQchForceForce / 2 ^ (k + 1) + 1) * 2 ^ (k + 1) := by ring
      _ ≤ q * 2 ^ (k + 1) := Nat.mul_le_mul_right _ hhigh
      _ = 65536 := by rw [mul_comm, ← hq]

theorem qchForceWrite_answers (v : Word) (hcan : canonical s) (hopen : windowOpen s 0x13 = true) :
    Answers (.qchForceWrite v) s fun r => fld r fQchForceForce = bits v.toNat 15 0 := by
  refine ⟨_, congrArg ok (if_pos hopen), (fld_forcePins v hcan 16 le_rfl).2.trans ?_⟩
  have : fld s fQchForceForce / 2 ^ 16 = 0 := Nat.div_eq_of_lt (Nat.mod_lt _ (Nat.two_pow_pos 16))
  rw [spliced, this, zero_mul, add_zero]
  rfl

/-! ### QCH_RELEASE and the readback -/

theorem qchReleaseNow_of_asserted (h : (qchAnv s n || qchHost s n || (s.qch.pin.get n).fatal) = true) :
    qchReleaseNow s n =
      qchEvent (bump (qchUpd n (fun p => { p with relWait := false, relRefused := true }) s) cQchReleaseRefused) evQchReleaseRefused n 0 :=
  if_pos (by simpa [or_assoc] using h)

/-- The pin's sources are released (R397). -/
def qchReleased (s : State) (n : Nat) : State := pinState (qchUpd n (fun p => { p with latch := false, relWait := false, relRefused := false }) s)

theorem stands_qchReleased (hcan : canonical s) (n : Nat) :
    Stands qchTable (qchReleased s n) n fun p => p.latch = false ∧ p.relWait = false ∧ p.anv = (s.qch.pin.get n).anv :=
  pinState_moves.qchAt ((stands_qch hcan n).qchUpd (by rintro _ rfl; exact ⟨rfl, rfl, rfl⟩))

/-- A pin that nothing asserts is released: its latch is cleared, and no source holds it (R397). -/
theorem qchReleaseNow_releases (hcan : canonical s) (hanv : qchAnv s n = false) (hhost : qchHost s n = false)
    (hfatal : (s.qch.pin.get n).fatal = false) :
    ((qchReleaseNow s n).qch.pin.get n).latch = false ∧ ((qchReleaseNow s n).qch.pin.get n).relWait = false ∧
      qchActive (qchReleaseNow s n) n = false ∧ (qchReleaseNow s n).tmb.now = s.tmb.now := by
  have clear := stands_qchReleased hcan n
  have hset : Setup s (qchReleased s n) := setup_pinState (qchUpd_moves.setup .refl)
  have hstandby : (qchReleased s n).par.standby = s.par.standby := standby_of_pinsOnly (pinsOnly_pinState (qchUpd_moves.pinsOnly .refl))
  have hout : qchActive (qchReleased s n) n = false :=
    qchActive_of_none clear.holds.1 ((qchAnv_congr clear.holds.2.2 hstandby).trans hanv) ((qchHost_congr hset n).trans hhost)
  have e : qchReleaseNow s n = qchEvent (bump (qchUpd n (fun p => { p with activeSince := none }) (qchReleased s n)) cQchReleases) evQchReleased n 0
      := by
    unfold qchReleaseNow
    rw [if_neg (by simp [hanv, hhost, hfatal])]
    dsimp only
    rw [qchChange_of_inactive hout]
    rfl
  rw [e]
  obtain ⟨hlatch, hwait, hanv'⟩ := (qchEvent_moves (k := evQchReleased) (n := n) (unit := 0) |>.qchAt
    ((bump_moves (a := cQchReleases)).qchAt (clear.qchUpd (f := fun p => { p with activeSince := none })
      (Q := fun p => p.latch = false ∧ p.relWait = false ∧ p.anv = (s.qch.pin.get n).anv) fun _ h => h))).holds
  refine ⟨hlatch, hwait, qchActive_of_none hlatch ((qchAnv_congr hanv' ?_).trans hanv) ((qchHost_congr ?_ n).trans hhost), ?_⟩
  · rw [qchEvent_moves.par, bump_moves.par]
    exact hstandby
  · exact setup_qchEvent (setup_bump (qchUpd_moves.setup hset))
  · rw [qchEvent_moves.now, bump_moves.now]
    exact pinState_moves.now

theorem execQchRelease_of_open (hn : n < 16) (hopen : windowOpen s 0x13 = true) : execQchRelease n s = ok (qchRelease n s) :=
  (if_pos hn).trans (congrArg ok (if_pos hopen))

theorem qchRelease_answers (hcan : canonical s) (hn : n < 16) (hopen : windowOpen s 0x13 = true) (hanv : qchAnv s n = false)
    (hhost : qchHost s n = false) (hfatal : (s.qch.pin.get n).fatal = false) (hmin : qchMinAt s n ≤ s.tmb.now) :
    Answers (.qchRelease n) s fun r => (r.qch.pin.get n).latch = false ∧ (r.qch.pin.get n).relWait = false ∧ qchActive r n = false := by
  obtain ⟨hlatch, hwait, hout, -⟩ := qchReleaseNow_releases hcan hanv hhost hfatal
  exact ⟨_, (execQchRelease_of_open hn hopen).trans (congrArg ok (if_neg fun h => absurd hmin (Nat.not_le.2 h.1))), hlatch, hwait, hout⟩

theorem qchRelease_waits (hcan : canonical s) (hn : n < 16) (hopen : windowOpen s 0x13 = true) (hanv : qchAnv s n = false)
    (hhost : qchHost s n = false) (hfatal : (s.qch.pin.get n).fatal = false) (hmin : s.tmb.now < qchMinAt s n) :
    Answers (.qchRelease n) s fun r => (r.qch.pin.get n).relWait = true ∧ (r.qch.pin.get n).latch = (s.qch.pin.get n).latch :=
  ⟨_, (execQchRelease_of_open hn hopen).trans (congrArg ok (if_pos ⟨hmin, by simp [hanv, hhost, hfatal]⟩)),
    ((stands_qch hcan n).qchUpd (Q := fun p => p.relWait = true ∧ p.latch = (s.qch.pin.get n).latch) (by rintro _ rfl; exact ⟨rfl, rfl⟩)).holds⟩

theorem qchRelease_refused (hcan : canonical s) (hn : n < 16) (hopen : windowOpen s 0x13 = true)
    (h : (qchAnv s n || qchHost s n || (s.qch.pin.get n).fatal) = true) :
    Answers (.qchRelease n) s fun r => (r.qch.pin.get n).latch = (s.qch.pin.get n).latch ∧ (r.qch.pin.get n).relRefused = true := by
  refine ⟨_, (execQchRelease_of_open hn hopen).trans (congrArg ok ((if_neg fun g => ?_).trans (qchReleaseNow_of_asserted h))), ?_⟩
  · simp [h] at g
  · exact (qchEvent_moves.qchAt (bump_moves.qchAt ((stands_qch hcan n).qchUpd
      (Q := fun p => p.latch = (s.qch.pin.get n).latch ∧ p.relRefused = true) (by rintro _ rfl; exact ⟨rfl, rfl⟩)))).holds

theorem qchReleaseDeferred_answers (hcan : canonical s) (hwait : (s.qch.pin.get n).relWait = true) (hanv : qchAnv s n = false)
    (hhost : qchHost s n = false) (hfatal : (s.qch.pin.get n).fatal = false) :
    Answers (.qchReleaseDeferred n) s fun r =>
      (r.qch.pin.get n).latch = false ∧ (r.qch.pin.get n).relWait = false ∧ r.tmb.now = max s.tmb.now (qchMinAt s n) := by
  obtain ⟨hlatch, hrel, -, hnow⟩ := qchReleaseNow_releases (s := advance s (qchMinAt s n)) (n := n)
    (advance_moves.canon hcan) ((qchAnv_congr (by rw [advance_moves.qch]) (by rw [advance_moves.par])).trans hanv)
        ((qchHost_congr (advance_moves.setup .refl) n).trans hhost)
    ((congrArg (fun q => (q.pin.get n).fatal) advance_moves.qch).trans hfatal)
  exact ⟨_, if_pos hwait, hlatch, hrel, hnow.trans (advance_now _ _)⟩

theorem qchReadbackFault_answers (t : Nat) (hcan : canonical s) (hn : n < 16) (hen : flag s (fQchPinEn n) = true) :
    Answers (.qchReadbackFault n t) s fun r => (r.qch.pin.get n).mismatch = true ∧ r.tmb.now = max s.tmb.now t := by
  refine ⟨_, if_pos ⟨hn, (advance_flag s t _).trans hen⟩, ?_, ?_⟩
  · have marked : Stands qchTable (qchUpd n (fun p => { p with mismatch := true }) (advance s t)) n (·.mismatch = true) :=
      (advance_moves.qchAt (stands_qch hcan n)).qchUpd fun _ _ => rfl
    exact (qchEvent_moves.qchAt (bump_moves.qchAt (assertFault_moves.qchAt (setFld_moves.qchAt marked)))).holds
  · rw [qchEvent_moves.now, bump_moves.now, assertFault_moves.now, setFld_moves.now]
    exact advance_now s t

end

/-- Settles O25: a force is written bit by bit into its field; a release clears the latch of a pin that nothing asserts, now or after MIN_ACTIVE_US,
and is refused where something does; a mismatch stays in the pin's record through its fault and its event. -/
theorem quenchCommandsTakeEffect : Obligations.QuenchCommandsTakeEffect := by
  unfold Obligations.QuenchCommandsTakeEffect
  exact ⟨fun v _ => qchForceWrite_answers v, fun _ _ => qchRelease_answers, fun _ _ => qchRelease_waits, fun _ _ => qchRelease_refused,
    fun _ _ => qchReleaseDeferred_answers, fun _ t _ => qchReadbackFault_answers t⟩

end Sys2Proof.Machine
end

section
/-! How an axis stands: its pins and steps, the end of a homing, a stop, a fault. -/
set_option Elab.async false
namespace Sys2Proof.Machine
open Sys2Proof

/-! ### How an axis stands -/

section
variable {s t : State} {n : Nat} {P Q : Axis → Prop}

theorem stands_ax (h : canonical s) (n : Nat) : Stands axTable s n (· = axOf s n) := ⟨(canonical_iff s).1 h .mot, rfl⟩

/-- What leaves the axes leaves how one stands. -/
theorem Moves.axAt {l : List Part} (g : Moves l s t) (h : Stands axTable s n P) (hl : Part.mot ∉ l := by decide) : Stands axTable t n P :=
  h.of_eq (congrArg Mot.ax (g.frame .mot hl))

theorem Stands.axUpd (h : Stands axTable s n P) {f : Axis → Axis} (hf : ∀ a, P a → Q (f a)) : Stands axTable (axUpd s n f) n Q :=
  ⟨SMap.wf_upd _ n f h.wf, (SMap.get_upd_self _ n f h.wf).symm ▸ hf _ h.holds⟩

theorem Stands.axOf (h : Stands axTable s n P) : P (axOf s n) := h.holds

theorem stands_axSet (h : (axTable s).wf = true) (n : Nat) (x : Axis) :
    Stands axTable { s with mot := { s.mot with ax := s.mot.ax.set n x } } n (· = x) := ⟨SMap.wf_set _ _ _ h, SMap.get_set_self _ _ _ h⟩

theorem axOf_congr (e : t.mot = s.mot) (n : Nat) : axOf t n = axOf s n := by rw [Machine.axOf, e, Machine.axOf]

theorem Moves.running {l : List Part} (g : Moves l s t) (h : Nat) (hl : Part.hif ∉ l := by decide) : running t h = running s h :=
  running_congr (g.cmds hl) h

/-- A command that has ended stays as it is when another one ends. -/
theorem cmdFind_endCmd_of_ended {h : Nat} {c : Cmd} (k : Nat) (st : Status) (r d : Nat) (hc : cmdFind s h = some c) (hend : c.ended.isSome) :
    cmdFind (endCmd s k st r d) h = some c := by
  unfold endCmd
  split
  · exact hc
  · split
    · exact hc
    · refine (cmdFind_of_map (s := s) rfl h fun x => ?_).trans ?_
      · split
        · rfl
        · split
          · rfl
          · split <;> rfl
      · rw [hc, Option.map_some, if_pos hend]

theorem endStatus_endCmd_of_ended {h : Nat} {st : Status} (k : Nat) (st' : Status) (r d : Nat) (he : endStatus s h = some st) :
    endStatus (endCmd s k st' r d) h = some st := by
  obtain ⟨c, hc, hst⟩ := endStatus_iff.1 he
  have hend : c.ended.isSome := by
    rw [← Option.isSome_map (f := fun e => e.status), hst]
    rfl
  exact endStatus_iff.2 ⟨c, cmdFind_endCmd_of_ended k st' r d hc hend, hst⟩

/-! ### Pins and steps -/

theorem pinDrive_now (s : State) (p : Nat) (l : Bool) : (pinDrive s p l).tmb.now = s.tmb.now :=
  now_ite rfl (now_ite rfl (now_ite rfl pinState_moves.now))

theorem setup_pinDrive {u : State} {p : Nat} {l : Bool} (h : Setup u s) : Setup u (pinDrive s p l) :=
  .ite h (.ite (h.of_regs rfl) (.ite h (setup_pinState (h.of_regs rfl))))

/-- A condition on an axis that the schedule of its steps does not touch. -/
def StepFree (P : Axis → Prop) : Prop := ∀ x l d, P x → P { x with sched := l, dirNeg := d }

theorem stands_stepDir (hP : StepFree P) (h : Stands axTable s n P) : Stands axTable (stepDir s n) n P := by
  unfold stepDir
  dsimp only
  split
  · exact .ite h (pinDrive_moves.axAt (h.axUpd fun x hx => hP x _ _ hx))
  · exact h

theorem stands_stepPlan (hP : StepFree P) (a b : Nat) (h : Stands axTable s n P) : Stands axTable (stepPlan s n a b) n P :=
  stands_stepDir hP (h.axUpd fun x hx => hP x _ _ hx)

theorem stands_axReplan (hP : StepFree P) (h : Stands axTable s n P) : Stands axTable (axReplan s n) n P := by
  unfold axReplan
  dsimp only
  split
  · exact .ite (stands_stepPlan hP _ _ (h.axUpd fun x hx => hP x _ _ hx)) h
  · exact h

theorem stepDir_now (s : State) (n : Nat) : (stepDir s n).tmb.now = s.tmb.now := by
  unfold stepDir
  dsimp only
  split
  · exact now_ite rfl (pinDrive_now _ _ _)
  · rfl

theorem stepPlan_now (s : State) (n a b : Nat) : (stepPlan s n a b).tmb.now = s.tmb.now := stepDir_now _ _

theorem axReplan_now (s : State) (n : Nat) : (axReplan s n).tmb.now = s.tmb.now := by
  unfold axReplan
  dsimp only
  split
  · exact now_ite (stepPlan_now _ _ _ _) rfl
  · rfl

/-- A condition on an axis that the start of its steps does not touch. -/
def BeginFree (P : Axis → Prop) : Prop := ∀ x f l k d, P x → P { x with dirFree := f, sched := l, tickAt := k, dirNeg := d }

theorem stands_stepsBegin (hP : BeginFree P) (neg : Bool) (h : Stands axTable s n P) : Stands axTable (stepsBegin s n neg) n P := by
  have begun := h.axUpd fun x hx => hP x s.tmb.now [] (some s.tmb.now) x.dirNeg hx
  exact .ite h (.ite begun (pinDrive_moves.axAt (begun.axUpd fun x hx => hP x x.dirFree x.sched x.tickAt neg hx)))

theorem stepsBegin_now (s : State) (n : Nat) (neg : Bool) : (stepsBegin s n neg).tmb.now = s.tmb.now :=
  now_ite rfl (now_ite rfl (pinDrive_now _ _ _))

/-! ### Homings, stops and faults -/

theorem stands_axStopsEnd (hP : ∀ x, P x → Q { x with stopCmds := [] }) (h : Stands axTable s n P) : Stands axTable (axStopsEnd s n) n Q :=
  (h.axUpd hP).foldl (fun _ _ hu => endCmd_moves.axAt hu) _

/-- The commands that wait for rest end with OK, this one among them (R419). -/
theorem endStatus_axStopsEnd {h : Nat} (hrun : running s h = true) (hstop : (axOf s n).stopCmds = [h]) :
    endStatus (axStopsEnd s n) h = some .ok := by
  unfold axStopsEnd
  rw [hstop]
  exact endStatus_endCmd_of_running .ok 0 0 hrun

/-- A condition on an axis that the end of a homing does not touch. -/
def HomingFree (P : Axis → Prop) : Prop := ∀ x, P x → P { x with homing := none, homed := false }

theorem homeEnds_of_none {st : Status} (h : (axOf s n).homing = none) : homeEnds s n st = s := by
  unfold homeEnds
  rw [h]

theorem stands_homeEnds (hP : HomingFree P) (st : Status) (h : Stands axTable s n P) :
    Stands axTable (homeEnds s n st) n fun x => P x ∧ x.homing = none := by
  unfold homeEnds
  split
  next e => exact ⟨h.wf, h.holds, e⟩
  next hm _ =>
    have ended : Stands axTable (axUpd s n fun x => { x with homing := none, homed := false }) n fun x => P x ∧ x.homing = none :=
      h.axUpd fun x hx => ⟨hP x hx, rfl⟩
    dsimp only
    split
    · exact endCmd_moves.axAt ended
    · exact ended

/-- A condition on an axis that its motion does not touch. -/
def FreezeFree (P : Axis → Prop) : Prop := ∀ x p v k tr l r, P x → P { x with pos := p, vel := v, seg := k, traj := tr, sched := l, running := r }

/-- The axis has stopped where it is (R419). -/
structure Frozen (x : Axis) : Prop where
  vel : x.vel = 0
  traj : x.traj = .rest
  sched : x.sched = []
  running : x.running = none

theorem stands_axFreeze (hP : FreezeFree P) (h : Stands axTable s n P) : Stands axTable (axFreeze s n) n fun x => P x ∧ Frozen x :=
  (h.axUpd (Q := P) fun x hx => hP x _ _ _ x.traj x.sched x.running hx).axUpd fun x hx => ⟨hP x x.pos 0 x.seg .rest [] none hx, rfl, rfl, rfl, rfl⟩

/-- The axis is at fault with a cause, at rest and without a homing (R420, R427). -/
structure Faulted (cause : Nat) (x : Axis) : Prop where
  state : x.state = .fault
  cause : x.cause = cause
  vel : x.vel = 0
  sched : x.sched = []
  homing : x.homing = none

/-- A condition on an axis that a fault does not touch. -/
structure FaultFree (P : Axis → Prop) : Prop where
  freeze : FreezeFree P
  home : HomingFree P
  fault : ∀ x st c b, P x → P { x with state := st, cause := c, blk := b }
  stops : ∀ x l, P x → P { x with stopCmds := l }

theorem stands_axFault (hP : FaultFree P) (cause : Nat) (k : EvKind) (h : Stands axTable s n P) :
    Stands axTable (axFault s n cause k) n fun x => P x ∧ Faulted cause x := by
  have frozen := (stands_axFreeze hP.freeze h).axUpd
      (f := fun x => { x with state := .fault, cause := cause, blk := if x.blk = 1 then 0 else x.blk })
    (Q := fun x => P x ∧ x.state = .fault ∧ x.cause = cause ∧ x.vel = 0 ∧ x.sched = []) fun x ⟨hx, hf⟩ =>
      ⟨hP.fault x _ _ _ hx, rfl, rfl, hf.vel, hf.sched⟩
  refine stands_axStopsEnd ?_ (motEvent_moves.axAt (stands_homeEnds ?_ .faulted frozen))
  · rintro x ⟨⟨hx, hst, hc, hv, hl⟩, hh⟩
    exact ⟨hP.stops x [] hx, hst, hc, hv, hl, hh⟩
  · rintro x ⟨hx, hst, hc, hv, hl⟩
    exact ⟨hP.home x hx, hst, hc, hv, hl⟩

end
end Sys2Proof.Machine
end

section
/-! AXIS_CONFIG. -/
set_option Elab.async false
namespace Sys2Proof.Machine
open Sys2Proof

/-! ### AXIS_CONFIG -/

section
variable {s t : State} {n h : Nat} {c : Cmd} {d : Bytes} {P : Axis → Prop}

theorem stands_startedAx (hcan : canonical s) (c : Cmd) (d : Bytes) (n : Nat) : Stands axTable (startedIn s c d) n (· = axOf s n) :=
  (startedIn_moves s c d).axAt (stands_ax hcan n)

theorem foldTry_mram {e : EventIn} (h : foldTry s e = some t) : ∃ log, t.mram = { s.mram with log := log } := by
  unfold foldTry at h
  split at h
  · cases h
  · split at h
    · cases h
      exact ⟨_, rfl⟩
    · split at h
      · cases h
      · split at h
        · cases h
        · split at h <;> cases h <;> exact ⟨_, rfl⟩

/-- Of MRAM, an event writes the log only (R497, R498). -/
theorem event_mram (s : State) (k : EvKind) (l : List (Nat × Int)) : ∃ log, (event s k l).mram = { s.mram with log := log } := by
  unfold event recArrive
  split
  next ht => exact foldTry_mram ht
  next =>
    split
    · exact ⟨_, rfl⟩
    · split <;> exact ⟨_, rfl⟩

/-- The journal record that an axis takes over from its descriptor before (R425). -/
def journalTaken (s : State) (n : Nat) (d : Bytes) : Option AxisJournal :=
  match s.mram.axes.get n with
  | some j =>
    if j.crc = (crc32c d).toNat ∧ (if adKind d = 1 then j.off && !j.phaseLost else fbMode (fbkCh s (adFbk d)).desc == 2) then some j else none
  | none => none

/-- The axis that a descriptor gives (R410, R425). -/
def axisOfDesc (old : Axis) (d : Bytes) : Option AxisJournal → Axis
  | some j => { (default : Axis) with
      desc := d
      state := .disabled
      lq := old.lq
      lv := old.lv
      pos := j.pos
      phase := j.phase
      homed := j.homed
      steps := floorQ ((j.pos : Rat) / 65536 + 1 / 2) }
  | none => { (default : Axis) with
      desc := d
      state := .disabled
      lq := old.lq
      lv := old.lv }

/-- The state in which AXIS_CONFIG has put its axis in place, its pins claimed (R410). -/
def axisPlaced (s : State) (n : Nat) (d : Bytes) : State :=
  let u := claimPins s (claimOf 0x09 n) (axPins d)
  { u with mot := { u.mot with ax := u.mot.ax.set n (axisOfDesc (axOf u n) d (journalTaken u n d)) } }

/-- The pins a driver is fed by are inactive, and the configuration is noted (R410, R428). -/
def axisNoted (s : State) (n : Nat) (d : Bytes) (restored : Bool) : State :=
  let u := motEvent ([adPin d 0, adPin d 1, adPin d 2, adPin d 3].foldl (fun s p => pinDrive s p false) s) evAxisConfigured n 0 0 0
  if restored then motEvent (bump u cMotRestores) evAxisRestored n 0 0 0 else u

theorem axisConfig_of_check (hcheck : axCheck s c.unit c.data = none) (hkind : adKind c.data ≠ 0) :
    ∃ restored, axisConfig s c = endCmd (axisNoted (axisPlaced s c.unit c.data) c.unit c.data restored) c.handle .ok 0 0 := by
  refine ⟨(journalTaken (claimPins s (claimOf 0x09 c.unit) (axPins c.data)) c.unit c.data).isSome, ?_⟩
  rw [axisConfig, hcheck]
  dsimp only
  rw [if_neg hkind]
  unfold axisPlaced axisNoted
  dsimp only
  generalize claimPins s (claimOf 0x09 c.unit) (axPins c.data) = u
  unfold journalTaken
  cases u.mram.axes.get c.unit with
  | none => rfl
  | some j =>
    dsimp only
    by_cases hfits : j.crc = (crc32c c.data).toNat ∧
        (if adKind c.data = 1 then j.off && !j.phaseLost else fbMode (fbkCh u (adFbk c.data)).desc == 2) = true
    · simp only [if_pos hfits]
      rfl
    · simp only [if_neg hfits]
      rfl

theorem axisPlaced_moves : Moves [.tmb, .mot] s (axisPlaced s n d) := .setMot claimPins_moves.mono fun h => SMap.wf_set _ _ _ h

theorem axisNoted_moves {restored : Bool} : Moves [.regs, .tmb, .recd, .wlk, .par, .mram, .out] s (axisNoted s n d restored) := by
  have noted : Moves [.regs, .tmb, .recd, .wlk, .par, .mram, .out] s
      (motEvent ([adPin d 0, adPin d 1, adPin d 2, adPin d 3].foldl (fun s p => pinDrive s p false) s) evAxisConfigured n 0 0 0) :=
    motEvent_moves.after (.foldl .refl fun _ _ => pinDrive_moves.mono)
  exact .ite (motEvent_moves.after (bump_moves.after noted)) noted

theorem journalTaken_congr (hmram : t.mram = s.mram) (hfbk : t.fbk = s.fbk) (n : Nat) (d : Bytes) : journalTaken t n d = journalTaken s n d := by
  have hch : fbkCh t (adFbk d) = fbkCh s (adFbk d) := by rw [fbkCh, hfbk, fbkCh]
  rw [journalTaken, hmram, hch, journalTaken]

theorem axisConfig_answers (hcan : canonical s) (hc : CanStart s h 0x40 c) (hcheck : axCheck s c.unit d = none) (hkind : adKind d ≠ 0) :
    Answers (.axisConfig h (some d)) s fun r =>
      axOf r c.unit = axisOfDesc (axOf s c.unit) d (journalTaken s c.unit d) ∧ endStatus r h = some .ok := by
  obtain rfl := handle_of_cmdFind hc.1
  obtain ⟨restored, e⟩ := axisConfig_of_check (s := startedIn s c d) (c := startedCmd c d) hcheck hkind
  have claimed : Moves [.tmb] (startedIn s c d) (claimPins (startedIn s c d) (claimOf 0x09 c.unit) (axPins d)) := claimPins_moves
  refine ⟨_, congrArg ok ((startCmd_of_canStart hc d _).trans e), ?_, endStatus_endCmd_of_running .ok 0 0 ?_⟩
  · have placed : Stands axTable (axisPlaced (startedIn s c d) c.unit d) c.unit (· = axisOfDesc (axOf s c.unit) d (journalTaken s c.unit d)) := by
      refine (stands_axSet (claimed.axAt (stands_startedAx hcan c d c.unit)).wf _ _).mono fun x hx => hx.trans ?_
      rw [axOf_congr claimed.mot, journalTaken_congr claimed.mram claimed.fbk]
      rfl
    exact (endCmd_moves.axAt (axisNoted_moves.axAt placed)).holds
  · rw [axisNoted_moves.running, axisPlaced_moves.running]
    exact running_startedIn hc d

theorem axisConfig_new (hcan : canonical s) (hc : CanStart s h 0x40 c) (hcheck : axCheck s c.unit d = none) (hkind : adKind d ≠ 0)
    (hnone : s.mram.axes.get c.unit = none) :
    Answers (.axisConfig h (some d)) s fun r =>
      (axOf r c.unit).state = .disabled ∧ (axOf r c.unit).desc = d ∧ (axOf r c.unit).homed = false ∧ (axOf r c.unit).pos = 0 ∧
        endStatus r h = some .ok := by
  obtain ⟨r, hr, hx, hst⟩ := axisConfig_answers hcan hc hcheck hkind
  rw [journalTaken, hnone] at hx
  exact ⟨r, hr, congrArg Axis.state hx, congrArg Axis.desc hx, congrArg Axis.homed hx, congrArg Axis.pos hx, hst⟩

theorem axisConfig_restored {j : AxisJournal} (hcan : canonical s) (hc : CanStart s h 0x40 c) (hcheck : axCheck s c.unit d = none)
    (hkind : adKind d = 1) (hj : s.mram.axes.get c.unit = some j) (hcrc : j.crc = (crc32c d).toNat) (hoff : j.off = true)
        (hphase : j.phaseLost = false) :
    Answers (.axisConfig h (some d)) s fun r =>
      (axOf r c.unit).state = .disabled ∧ (axOf r c.unit).homed = j.homed ∧ (axOf r c.unit).pos = j.pos ∧ (axOf r c.unit).phase = j.phase ∧
        endStatus r h = some .ok := by
  obtain ⟨r, hr, hx, hst⟩ := axisConfig_answers hcan hc hcheck (by rw [hkind]; decide)
  have taken : journalTaken s c.unit d = some j := by
    rw [journalTaken, hj]
    exact if_pos ⟨hcrc, by simp [hkind, hoff, hphase]⟩
  rw [taken] at hx
  exact ⟨r, hr, congrArg Axis.state hx, congrArg Axis.homed hx, congrArg Axis.pos hx, congrArg Axis.phase hx, hst⟩

/-- The state in which AXIS_CONFIG has cleared its axis, its pins free (R410). -/
def axisCleared (s : State) (n : Nat) : State :=
  let u := claimPins s (claimOf 0x09 n) []
  { u with mot := { u.mot with ax := u.mot.ax.set n { (default : Axis) with lq := (axOf u n).lq } } }

theorem axisCleared_moves : Moves [.tmb, .mot] s (axisCleared s n) := .setMot claimPins_moves.mono fun h => SMap.wf_set _ _ _ h

theorem axisConfig_of_off (hcheck : axCheck s c.unit c.data = none) (hkind : adKind c.data = 0) :
    axisConfig s c = endCmd (motEvent (axisCleared s c.unit) evAxisConfigured c.unit 0 0 0) c.handle .ok 0 0 := by
  rw [axisConfig, hcheck]
  exact if_pos hkind

theorem axisConfig_off (hcan : canonical s) (hc : CanStart s h 0x40 c) (hstate : (axOf s c.unit).state = .disabled) (hkind : adKind d = 0) :
    Answers (.axisConfig h (some d)) s fun r =>
      (axOf r c.unit).state = .off ∧ (axOf r c.unit).desc = [] ∧ (axOf r c.unit).lq = (axOf s c.unit).lq ∧ endStatus r h = some .ok := by
  obtain rfl := handle_of_cmdFind hc.1
  have hcheck : axCheck (startedIn s c d) (startedCmd c d).unit (startedCmd c d).data = none := by
    have hkind' : adKind (startedCmd c d).data = 0 := hkind
    have hstate' : (axOf (startedIn s c d) (startedCmd c d).unit).state = .disabled := hstate
    simp [axCheck, hkind', hstate']
  have claimed : Moves [.tmb] (startedIn s c d) (claimPins (startedIn s c d) (claimOf 0x09 c.unit) []) := claimPins_moves
  have cleared : Stands axTable (axisCleared (startedIn s c d) c.unit) c.unit (· = { (default : Axis) with lq := (axOf s c.unit).lq }) := by
    refine (stands_axSet (claimed.axAt (stands_startedAx hcan c d c.unit)).wf _ _).mono fun x hx => hx.trans ?_
    rw [axOf_congr claimed.mot]
    rfl
  have hx := ((endCmd_moves (h := c.handle) (st := .ok) (result := 0) (done := 0)).axAt
    ((motEvent_moves (k := evAxisConfigured) (n := c.unit) (cause := 0) (knot := 0) (method := 0)).axAt cleared)).axOf
  refine ⟨_, congrArg ok ((startCmd_of_canStart hc d _).trans (axisConfig_of_off hcheck hkind)), congrArg Axis.state hx, congrArg Axis.desc hx,
    (congrArg Axis.lq hx :), endStatus_endCmd_of_running .ok 0 0 ?_⟩
  rw [motEvent_moves.running, axisCleared_moves.running]
  exact running_startedIn hc d

end
end Sys2Proof.Machine
end

section
/-! The motion commands (O26). -/
set_option Elab.async false
namespace Sys2Proof.Machine
open Sys2Proof

section
variable {s t : State} {n h lv : Nat} {c : Cmd} {d : Bytes} {P : Axis → Prop} {ks : List Knot} {e : LqEntry} {l : List LqEntry}

/-! ### AXIS_MOVE -/

theorem axStart_of_ok (h : startCheck s n = .ok ks) :
    axStart s n = (stepsBegin (axUpd (bump s cMotMoves) n fun x => { x with
      state := .moving
      traj := .profile s.tmb.now ks
      running := some x.newest
      seg := 0
      inpos := false
      inposSince := none }) n (decide (firstMotion ks < 0)), .ok) := by
  unfold axStart
  rw [h]

theorem motAct_start (he : e.action = 1) : motAct s n e = endLaunch (axStart s n).1 e (axStart s n).2 0 := by
  unfold motAct
  rw [he]
  rfl

/-- What a START gives its axis (R417). -/
structure Started (now : Nat) (ks : List Knot) (b : Bool) (l : List LqEntry) (x : Axis) : Prop where
  state : x.state = .moving
  traj : x.traj = .profile now ks
  running : x.running = some b
  lq : x.lq = l

theorem stands_axStart (hok : startCheck s n = .ok ks) {b : Bool} (h : Stands axTable s n fun x => x.newest = b ∧ x.lq = l) :
    Stands axTable (axStart s n).1 n (Started s.tmb.now ks b l) := by
  rw [axStart_of_ok hok]
  refine stands_stepsBegin (fun _ _ _ _ _ hx => ⟨hx.state, hx.traj, hx.running, hx.lq⟩) _ ?_
  exact (bump_moves.axAt h).axUpd fun x hx => ⟨rfl, rfl, congrArg some hx.1, hx.2⟩

theorem axStart_moves' (hok : startCheck s n = .ok ks) : Moves [.regs, .tmb, .mot, .wlk, .par, .out] s (axStart s n).1 := by
  rw [axStart_of_ok hok]
  exact stepsBegin_moves.after (axUpd_moves.after bump_moves.mono)

theorem axisMove_now (hcan : canonical s) (hc : CanStart s h 0x42 c) (hinst : c.instant = 0)
    (hcheck : (startCheck (axLevels s c.unit lv) c.unit).toOption = some ks) :
    Answers (.axisMove h lv) s fun r =>
      (axOf r c.unit).state = .moving ∧ (axOf r c.unit).traj = .profile s.tmb.now ks ∧ (axOf r c.unit).running = some (axOf s c.unit).newest ∧
        endStatus r h = some .ok := by
  obtain rfl := handle_of_cmdFind hc.1
  have hok : startCheck (axLevels (startedIn s c []) c.unit lv) c.unit = .ok ks := ok_of_toOption hcheck
  have old : Stands axTable (axLevels (startedIn s c []) c.unit lv) c.unit fun x => x.newest = (axOf s c.unit).newest ∧ x.lq = (axOf s c.unit).lq :=
    (stands_startedAx hcan c [] c.unit).axUpd (by rintro _ rfl; exact ⟨rfl, rfl⟩)
  have started := stands_axStart hok old
  have hx := ((endCmd_moves (h := c.handle) (st := .ok) (result := 0) (done := 0)).axAt started).axOf
  refine ⟨endCmd (axStart (axLevels (startedIn s c []) c.unit lv) c.unit).1 c.handle .ok 0 0, congrArg ok ((startCmd_of_canStart hc [] _).trans ?_),
    hx.state, hx.traj, hx.running, endStatus_endCmd_of_running .ok 0 0 ?_⟩
  · refine (if_pos hinst).trans ((motAct_start rfl).trans ?_)
    show endLaunch (axStart (axLevels (startedIn s c []) c.unit lv) c.unit).1 _ (axStart (axLevels (startedIn s c []) c.unit lv) c.unit).2 0 = _
    rw [axStart_of_ok hok]
    rfl
  · rw [(axStart_moves' hok).running, axLevels_moves.running]
    exact running_startedIn hc []

theorem axisMove_waits (hcan : canonical s) (hc : CanStart s h 0x42 c) (hinst : c.instant ≠ 0) (hunit : c.unit < 64)
    (htime : s.tmb.now + 200 ≤ c.instant) (hroom : (axOf s c.unit).lq.length < 16) :
    Answers (.axisMove h lv) s fun r =>
      (axOf r c.unit).lq = lqInsert ⟨c.instant, 0, false, 1, 0, some h⟩ (axOf s c.unit).lq ∧ (axOf r c.unit).state = (axOf s c.unit).state ∧
        running r h = true := by
  obtain rfl := handle_of_cmdFind hc.1
  have queued : motEnqueue (startedIn s c []) c.unit ⟨c.instant, 0, false, 1, 0, some c.handle⟩ =
      (axUpd (startedIn s c []) c.unit fun x => { x with lq := lqInsert ⟨c.instant, 0, false, 1, 0, some c.handle⟩ x.lq }, .ok) := by
    have onTime : arrival (startedIn s c []) 200 ⟨c.instant, 0, false, 1, 0, some c.handle⟩ = .onTime := if_neg (Nat.not_lt.2 htime)
    unfold motEnqueue
    dsimp only
    rw [if_neg (by simpa using hunit), onTime]
    exact if_neg (Nat.not_le.2 hroom)
  have stands := (stands_startedAx hcan c [] c.unit).axUpd (f := fun x => { x with lq := lqInsert ⟨c.instant, 0, false, 1, 0, some c.handle⟩ x.lq })
    (Q := fun x => x.lq = lqInsert ⟨c.instant, 0, false, 1, 0, some c.handle⟩ (axOf s c.unit).lq ∧ x.state = (axOf s c.unit).state)
    (by rintro _ rfl; exact ⟨rfl, rfl⟩)
  refine ⟨_, congrArg ok ((startCmd_of_canStart hc [] _).trans ((if_neg hinst).trans ?_)), stands.axOf.1, stands.axOf.2, ?_⟩
  · have queued' : motEnqueue (startedIn s c []) (startedCmd c []).unit ⟨(startedCmd c []).instant, 0, false, 1, 0, some (startedCmd c []).handle⟩ =
        _ := queued
    dsimp only
    rw [queued']
    rfl
  · rw [axUpd_moves.running]
    exact running_startedIn hc []

/-! ### AXIS_HOME -/

/-- The homing that a HOME begins (R421). -/
def homingOf (s : State) (n method : Nat) (cmd : Option Nat) : Homing := ⟨method, 1, 0, 0, s.tmb.now + 1000000 * le (axOf s n).desc 108 4, cmd⟩

/-- A homing of a method has begun (R421). -/
structure Homes (m : Homing) (l : List LqEntry) (x : Axis) : Prop where
  state : x.state = .homing
  homing : x.homing = some m
  homed : x.homed = false
  lq : x.lq = l

theorem homes_beginFree (m : Homing) (l : List LqEntry) : BeginFree (Homes m l) := fun _ _ _ _ _ h => ⟨h.state, h.homing, h.homed, h.lq⟩

/-- The inputs and the method of a homing that goes by a switch or an index are there (R421). -/
def homeFits (d : Bytes) (method : Nat) : Prop :=
  match method with
  | 1 | 2 => adPin d 7 ≠ 0xFF
  | 3 => adPin d 5 ≠ 0xFF
  | 4 => adPin d 6 ≠ 0xFF
  | 5 | 6 => adPin d 7 ≠ 0xFF ∧ adFbk d ≠ 0xFF
  | _ => False

/-- The reference of an axis that homes is given up (R421). -/
def unhomed (s : State) (n : Nat) : State := axUpd (bump s cMotHomings) n fun x => { x with homed := false, inpos := false, inposSince := none }

theorem stands_unhomed (hP : ∀ x i j, P x → P { x with homed := false, inpos := i, inposSince := j }) (h : Stands axTable s n P) :
    Stands axTable (unhomed s n) n fun x => P x ∧ x.homed = false :=
  (bump_moves.axAt h).axUpd fun x hx => ⟨hP x _ _ hx, rfl⟩

/-- The state in which a homing sets off (R421). -/
def homingSet (s : State) (n method : Nat) (cmd : Option Nat) : State :=
  axUpd (unhomed s n) n fun x =>
    { x with state := .homing, homing := some (homingOf s n method cmd) }

theorem homingSet_moves {method : Nat} {cmd : Option Nat} : Moves [.regs, .mot] s (homingSet s n method cmd) :=
  axUpd_moves.after (axUpd_moves.after bump_moves.mono)

/-- A HOME of an axis at STANDSTILL whose switch is not active yet heads for it (R421). -/
theorem axHome_heads {method i : Nat} {cmd : Option Nat} (hstate : (axOf s n).state = .standstill) (hfits : homeFits (axOf s n).desc method)
    (hinput : homeInput method = some i) (hlv : bit (axOf s n).lv i = false) :
    axHome s n method cmd = (stepsBegin (axToward (homingSet s n method cmd) n (homeVel (axOf s n).desc method)) n
      (decide (homeVel (axOf s n).desc method < 0)), none) := by
  have hne : method ≠ 8 := by rintro rfl; exact hfits
  unfold axHome
  dsimp only
  rw [if_neg (by rw [hstate]; decide), if_neg ?_, if_neg hne]
  · rw [hinput]
    dsimp only
    have ahead : ¬ bit (axOf s n).lv i = true := by simp [hlv]
    simp only [if_neg ahead]
    rfl
  · unfold homeFits at hfits
    split at hfits <;> simp_all

theorem stands_homingSet (method : Nat) (cmd : Option Nat) (h : Stands axTable s n (·.lq = l)) :
    Stands axTable (homingSet s n method cmd) n (Homes (homingOf s n method cmd) l) :=
  (stands_unhomed (fun _ _ _ hx => hx) h).axUpd fun _ hx => ⟨rfl, rfl, hx.2, hx.1⟩

theorem stands_axHome {method i : Nat} {cmd : Option Nat} (hwf : s.mot.ax.wf = true) (hstate : (axOf s n).state = .standstill)
    (hfits : homeFits (axOf s n).desc method) (hinput : homeInput method = some i) (hlv : bit (axOf s n).lv i = false) :
    Stands axTable (axHome s n method cmd).1 n (Homes (homingOf s n method cmd) (axOf s n).lq) ∧ (axHome s n method cmd).2 = none ∧
      (axHome s n method cmd).1.tmb.now = s.tmb.now ∧
      Moves [.regs, .tmb, .mot, .wlk, .par, .out] s (axHome s n method cmd).1 := by
  have set := stands_homingSet method cmd (⟨hwf, rfl⟩ : Stands axTable s n (·.lq = (axOf s n).lq))
  rw [axHome_heads hstate hfits hinput hlv]
  refine ⟨stands_stepsBegin (homes_beginFree _ _) _ (set.axUpd fun x hx => ⟨hx.state, hx.homing, hx.homed, hx.lq⟩), rfl,
    stepsBegin_now _ _ _, ?_⟩
  exact stepsBegin_moves.after (axToward_moves.after (homingSet_moves.mono))

/-- The four input levels of an axis are the lower bits of what its command brings. -/
theorem bit_levels (lv : Nat) {i : Nat} (hi : i < 4) : bit (lv % 16) i = bit lv i := by
  rw [bit, show (16 : Nat) = 2 ^ 4 from rfl, Nat.testBit_mod_two_pow, decide_eq_true hi, Bool.true_and, bit]

theorem axisHome_heads {i : Nat} (hcan : canonical s) (hc : CanStart s h 0x43 c) (hstate : (axOf s c.unit).state = .standstill)
    (hinput : homeInput c.arg = some i) (hlv : bit lv i = false) (hi : i < 3) (hfits : homeFits (axOf s c.unit).desc c.arg) :
    Answers (.axisHome h lv) s fun r =>
      (axOf r c.unit).state = .homing ∧
        (axOf r c.unit).homing = some ⟨c.arg, 1, 0, 0, s.tmb.now + 1000000 * le (axOf s c.unit).desc 108 4, some h⟩ ∧
          (axOf r c.unit).homed = false ∧ running r h = true := by
  obtain rfl := handle_of_cmdFind hc.1
  have levels : Stands axTable (axLevels (startedIn s c []) c.unit lv) c.unit fun x =>
      x.state = .standstill ∧ x.desc = (axOf s c.unit).desc ∧ x.lv = lv % 16 :=
    (stands_startedAx hcan c [] c.unit).axUpd (by rintro _ rfl; exact ⟨hstate, rfl, rfl⟩)
  obtain ⟨hx, hnone, -, hmoves⟩ := stands_axHome (cmd := some c.handle) levels.wf levels.axOf.1 (by rw [levels.axOf.2.1]; exact hfits) hinput (by
    rw [levels.axOf.2.2, bit_levels lv (by omega)]
    exact hlv)
  have hhoming := hx.axOf.homing
  rw [homingOf, levels.axOf.2.1] at hhoming
  refine ⟨_, congrArg ok ((startCmd_of_canStart hc [] _).trans ?_), hx.axOf.state, hhoming, hx.axOf.homed, ?_⟩
  · have hnone' : (axHome (axLevels (startedIn s c []) (startedCmd c []).unit lv) (startedCmd c []).unit (startedCmd c []).arg
        (some (startedCmd c []).handle)).2 = none := hnone
    dsimp only
    rw [hnone']
    rfl
  · rw [hmoves.running, axLevels_moves.running]
    exact running_startedIn hc []

theorem nearestQ_intCast (z : Int) : nearestQ (z : Rat) = z := by
  have round (k : Nat) : roundEven k 1 = k := by simp [roundEven, Nat.mod_one]
  unfold nearestQ
  rw [Rat.num_intCast, Rat.den_intCast, round]
  omega

/-- The state in which a HOME by SET_HERE has made the position HOME_POS (R421). -/
def hereSet (s : State) (n : Nat) (cmd : Option Nat) : State :=
  let dq := adHomePos (axOf s n).desc - (axOf s n).pos
  axUpd (unhomed s n) n fun x => { x with
    pos := x.pos + dq
    offs := x.offs + dq
    steps := floorQ (((x.pos + dq : Int) : Rat) / 65536 + 1 / 2)
    homing := some (homingOf s n 8 cmd) }

theorem axHome_here {cmd : Option Nat} (hwf : s.mot.ax.wf = true) (hstate : (axOf s n).state = .standstill) (hkind : adKind (axOf s n).desc ≠ 2)
    (hrest : (axOf s n).traj = .rest) : axHome s n 8 cmd = (homeDone (hereSet s n cmd) n (homingOf s n 8 cmd), none) := by
  have given : axOf (unhomed s n) n = { axOf s n with homed := false, inpos := false, inposSince := none } := axUpd_self _ _ _ hwf
  have here (q : Nat) : axPosAt (unhomed s n) n q = (((axOf s n).pos : Rat), unhomed s n) := by
    unfold axPosAt
    dsimp only
    rw [given, if_neg hkind]
    unfold axAt
    dsimp only
    rw [hrest]
  unfold axHome
  dsimp only
  rw [if_neg (by rw [hstate]; decide), if_neg (by exact Bool.false_ne_true), if_pos rfl, ← unhomed, here, nearestQ_intCast]
  rfl

theorem axisHome_here (hcan : canonical s) (hc : CanStart s h 0x43 c) (hstate : (axOf s c.unit).state = .standstill) (harg : c.arg = 8)
    (hkind : adKind (axOf s c.unit).desc ≠ 2) (hrest : (axOf s c.unit).traj = .rest) :
    Answers (.axisHome h lv) s fun r =>
      (axOf r c.unit).state = .standstill ∧ (axOf r c.unit).pos = adHomePos (axOf s c.unit).desc ∧ (axOf r c.unit).homed = true ∧
        endStatus r h = some .ok := by
  obtain rfl := handle_of_cmdFind hc.1
  have levels : Stands axTable (axLevels (startedIn s c []) c.unit lv) c.unit fun x =>
      x.state = .standstill ∧ x.desc = (axOf s c.unit).desc ∧ x.traj = .rest ∧ x.pos = (axOf s c.unit).pos :=
    (stands_startedAx hcan c [] c.unit).axUpd (by rintro _ rfl; exact ⟨hstate, rfl, hrest, rfl⟩)
  obtain ⟨hst, hdesc, htraj, hpos⟩ := levels.axOf
  have e := axHome_here (cmd := some c.handle) levels.wf hst (by rw [hdesc]; exact hkind) htraj
  have set : Stands axTable (hereSet (axLevels (startedIn s c []) c.unit lv) c.unit (some c.handle)) c.unit fun x =>
      x.pos = adHomePos (axOf s c.unit).desc := by
    refine (stands_unhomed (fun _ _ _ hx => hx) levels).axUpd fun x hx => ?_
    rw [hx.1.2.2.2, hdesc, hpos]
    dsimp only
    omega
  have done := ((endCmd_moves (h := c.handle) (st := .ok) (result := 0) (done := 0)).axAt ((motEvent_moves (k := evHomed) (n := c.unit)
    (cause := 0) (knot := 0) (method := 8)).axAt
        (set.axUpd (f := fun x => { x with homing := none, homed := true, state := .standstill, traj := .rest, vel := 0 })
    (Q := fun x => x.state = .standstill ∧ x.pos = adHomePos (axOf s c.unit).desc ∧ x.homed = true) fun _ hx => ⟨rfl, hx, rfl⟩))).axOf
  refine ⟨_, congrArg ok ((startCmd_of_canStart hc [] _).trans ?_), done.1, done.2.1, done.2.2, endStatus_endCmd_of_running .ok 0 0 ?_⟩
  · have e' : axHome (axLevels (startedIn s c []) (startedCmd c []).unit lv) (startedCmd c []).unit (startedCmd c []).arg
        (some (startedCmd c []).handle) =
        _ := (congrArg (fun a => axHome _ _ a _) harg).trans e
    dsimp only
    rw [e']
    rfl
  · rw [motEvent_moves.running, axUpd_moves.running]
    exact running_startedIn hc []

/-! ### AXIS_STOP -/

/-- A command waits for rest (R419). -/
def stopWaits (s : State) (n : Nat) : Option Nat → State
  | some h => axUpd s n fun x => { x with stopCmds := x.stopCmds ++ [h] }
  | none => s

theorem stands_stopWaits {cmd : Option Nat} (hP : ∀ x k, P x → P { x with stopCmds := k }) (h : Stands axTable s n P) :
    Stands axTable (stopWaits s n cmd) n P := by
  cases cmd with
  | none => exact h
  | some k => exact h.axUpd fun x hx => hP x _ hx

theorem stopWaits_moves {cmd : Option Nat} : Moves [.mot] s (stopWaits s n cmd) := by
  cases cmd with
  | none => exact .refl
  | some k => exact axUpd_moves

/-- A moving axis without a homing is told to stop (R419). -/
def stopTold (s : State) (n : Nat) : State := axUpd (bump s cMotStops) n fun x => { x with blk := if x.blk = 1 then 0 else x.blk }

/-- The axis decelerates (R419). -/
def stopping (s : State) (n : Nat) : State :=
  axReplan (axUpd (axToward (axBring s n s.tmb.now) n 0) n fun x => { x with state := .stopping, running := none, dirFree := s.tmb.now }) n

/-- The axis stands (R419). -/
def stopped (s : State) (n : Nat) : State := axUpd (axFreeze s n) n fun x => { x with state := .standstill }

theorem axStop_moving {cmd : Option Nat} (hstate : (axOf s n).state = .moving) (hhoming : (axOf s n).homing = none) (now : Bool) :
    axStop s n now cmd = if now then axStopsEnd (stopWaits (stopped (stopTold s n) n) n cmd) n else stopWaits (stopping (stopTold s n) n) n
        cmd := by
  have e : homeEnds (bump s cMotStops) n .aborted = bump s cMotStops := homeEnds_of_none hhoming
  unfold axStop
  dsimp only
  rw [hstate]
  dsimp only
  rw [e]
  cases cmd <;> rfl

theorem stopTold_moves : Moves [.regs, .mot] s (stopTold s n) := axUpd_moves.after bump_moves.mono

theorem stopping_moves : Moves [.regs, .tmb, .mot, .wlk, .par, .out] s (stopping s n) :=
  axReplan_moves.after (axUpd_moves.after (axToward_moves.after axBring_moves.mono))

theorem stopping_now (s : State) (n : Nat) : (stopping s n).tmb.now = s.tmb.now := axReplan_now _ _

theorem stopped_moves : Moves [.mot] s (stopped s n) := axUpd_moves.after axFreeze_moves

theorem stands_stopTold (hP : ∀ x b, P x → P { x with blk := b }) (h : Stands axTable s n P) : Stands axTable (stopTold s n) n P :=
  (bump_moves.axAt h).axUpd fun x hx => hP x _ hx

/-- An axis that decelerates keeps its queue and the commands that wait for rest (R419). -/
theorem stands_stopping {k : List Nat} (h : Stands axTable s n fun x => x.lq = l ∧ x.stopCmds = k) :
    Stands axTable (stopping s n) n fun x => x.state = .stopping ∧ x.running = none ∧ x.lq = l ∧ x.stopCmds = k := by
  refine stands_axReplan (fun _ _ _ hx => hx) (Stands.axUpd ?_ fun _ hx => ⟨rfl, rfl, hx⟩)
  exact (h.axUpd fun _ hx => hx).axUpd fun _ hx => hx

theorem stands_stopped {k : List Nat} (h : Stands axTable s n fun x => x.lq = l ∧ x.stopCmds = k) :
    Stands axTable (stopped s n) n fun x => x.state = .standstill ∧ Frozen x ∧ x.lq = l ∧ x.stopCmds = k :=
  (stands_axFreeze (fun _ _ _ _ _ _ _ hx => hx) h).axUpd fun _ hx => ⟨rfl, ⟨hx.2.vel, hx.2.traj, hx.2.sched, hx.2.running⟩, hx.1⟩

theorem stands_moving (hwf : s.mot.ax.wf = true) (n : Nat) :
    Stands axTable (stopTold s n) n fun x => x.lq = (axOf s n).lq ∧ x.stopCmds = (axOf s n).stopCmds :=
  stands_stopTold (fun _ _ hx => hx) ⟨hwf, rfl, rfl⟩

theorem argIs_of_canStart {op a : Nat} (hc : CanStart s h op c) (harg : c.arg = a) : argIs s h (· == 1) = (a == 1) := by
  rw [argIs, hc.1, ← harg]

theorem axisStop_controlled (hcan : canonical s) (hc : CanStart s h 0x44 c) (harg : c.arg = 0) (hstate : (axOf s c.unit).state = .moving)
    (hhoming : (axOf s c.unit).homing = none) :
    Answers (.axisStopControlled h) s fun r =>
      (axOf r c.unit).state = .stopping ∧ (axOf r c.unit).stopCmds = (axOf s c.unit).stopCmds ++ [h] ∧ running r h = true := by
  obtain rfl := handle_of_cmdFind hc.1
  have stands := (stands_stopping (stands_moving (stands_startedAx hcan c [] c.unit).wf c.unit)).axUpd
    (f := fun x => { x with stopCmds := x.stopCmds ++ [c.handle] })
    (Q := fun x => x.state = .stopping ∧ x.stopCmds = (axOf s c.unit).stopCmds ++ [c.handle]) fun _ hx =>
        ⟨hx.1, congrArg (· ++ [c.handle]) hx.2.2.2⟩
  have e : axStop (startedIn s c []) c.unit false (some c.handle) = _ := axStop_moving (s := startedIn s c []) hstate hhoming false
  refine ⟨_, (if_neg ?_).trans (congrArg ok ((startCmd_of_canStart hc [] _).trans ((if_pos harg).trans e))), stands.axOf.1, stands.axOf.2, ?_⟩
  · rw [argIs_of_canStart hc harg]
    decide
  · rw [if_neg Bool.false_ne_true, stopWaits_moves.running, stopping_moves.running, stopTold_moves.running]
    exact running_startedIn hc []

theorem axisStop_immediate (hcan : canonical s) (hc : CanStart s h 0x44 c) (harg : c.arg = 1) (hstate : (axOf s c.unit).state = .moving)
    (hhoming : (axOf s c.unit).homing = none) (hstops : (axOf s c.unit).stopCmds = []) :
    Answers (.axisStopImmediate h) s fun r =>
      (axOf r c.unit).state = .standstill ∧ (axOf r c.unit).vel = 0 ∧ (axOf r c.unit).traj = .rest ∧ (axOf r c.unit).sched = [] ∧
        endStatus r h = some .ok := by
  obtain rfl := handle_of_cmdFind hc.1
  have waits := (stands_stopped (stands_moving (stands_startedAx hcan c [] c.unit).wf c.unit)).axUpd
    (f := fun x => { x with stopCmds := x.stopCmds ++ [c.handle] })
    (Q := fun x => x.state = .standstill ∧ Frozen x ∧ x.stopCmds = [c.handle]) fun _ ⟨hst, hf, _, hk⟩ =>
      ⟨hst, ⟨hf.vel, hf.traj, hf.sched, hf.running⟩, (congrArg (· ++ [c.handle]) (hk.trans hstops))⟩
  have rests := (stands_axStopsEnd (Q := fun x => x.state = .standstill ∧ Frozen x)
    (fun _ hx => ⟨hx.1, hx.2.1.vel, hx.2.1.traj, hx.2.1.sched, hx.2.1.running⟩) waits).axOf
  have e : axStop (startedIn s c []) c.unit true (some c.handle) = _ := axStop_moving (s := startedIn s c []) hstate hhoming true
  refine ⟨_, (if_pos ?_).trans (congrArg ok ((startCmd_of_canStart hc [] _).trans e)), rests.1, rests.2.vel, rests.2.traj, rests.2.sched,
    endStatus_axStopsEnd ?_ waits.axOf.2.2⟩
  · rw [argIs_of_canStart hc harg]
    decide
  · rw [stopWaits_moves.running, stopped_moves.running, stopTold_moves.running]
    exact running_startedIn hc []

/-! ### AXIS_DRIVE -/

/-- The journal says of an axis that its driver was off (R423). -/
def JournalOff (s : State) (n : Nat) : Prop := (s.mram.axes.get n).map (·.off) = some true

theorem Moves.journalOff {k : List Part} (g : Moves k s t) (h : JournalOff s n) (hk : Part.mram ∉ k := by decide) : JournalOff t n := by
  rw [JournalOff, g.mram hk]
  exact h

theorem journalOff_motEvent {k : EvKind} {cause knot method : Nat} (h : JournalOff s n) : JournalOff (motEvent s k n cause knot method) n := by
  obtain ⟨log, e⟩ := event_mram s k [(2, n), (1, cause), (4, knot), (1, method)]
  rw [JournalOff, motEvent, e]
  exact h

theorem journalOff_axJournal (hcan : canonical s) (n : Nat) : JournalOff (axJournal s n true) n := by
  rw [JournalOff, axJournal, SMap.get_set_self _ _ _ ((canonical_iff s).1 hcan .mram).axes]
  rfl

/-- The state in which AXIS_DRIVE 0 has switched the driver off and journalled the axis (R423). -/
def driverOff (s : State) (n : Nat) : State := pinDrive (axJournal (pinDrive s (adPin (axOf s n).desc 2) false) n true) (adPin (axOf s n).desc 3)
    false

theorem driverOff_moves : Moves [.regs, .tmb, .wlk, .par, .mram, .out] s (driverOff s n) :=
  pinDrive_moves.after (axJournal_moves.after pinDrive_moves.mono)

theorem axisDrive_off (hcan : canonical s) (hc : CanStart s h 0x45 c) (harg : c.arg = 0)
    (hstate : (axOf s c.unit).state = .standstill ∨ (axOf s c.unit).state = .fault) :
    Answers (.axisDriveOff h) s fun r =>
      (axOf r c.unit).state = .disabled ∧ (axOf r c.unit).cause = 0 ∧ (axOf r c.unit).tickAt = none ∧
        (r.mram.axes.get c.unit).map (·.off) = some true ∧ endStatus r h = some .ok := by
  obtain rfl := handle_of_cmdFind hc.1
  have begun : canonical (startedIn s c []) := (startedIn_moves s c []).canon hcan
  have off : Stands axTable (endCmd (motEvent (axUpd (driverOff (startedIn s c []) c.unit) c.unit fun x =>
      { x with state := .disabled, cause := 0, tickAt := none }) evDriveOff c.unit 0 0 0) c.handle .ok 0 0) c.unit fun x =>
        x.state = .disabled ∧ x.cause = 0 ∧ x.tickAt = none :=
    endCmd_moves.axAt (motEvent_moves.axAt ((driverOff_moves.axAt (stands_startedAx hcan c [] c.unit)).axUpd fun _ _ => ⟨rfl, rfl, rfl⟩))
  have journal : JournalOff (driverOff (startedIn s c []) c.unit) c.unit :=
    pinDrive_moves.journalOff (journalOff_axJournal (pinDrive_moves.canon begun) c.unit)
  have hguard : ¬ ((axOf (startedIn s c []) c.unit).state ≠ .standstill ∧ (axOf (startedIn s c []) c.unit).state ≠ .fault) := by
    rintro ⟨h₁, h₂⟩
    exact hstate.elim h₁ h₂
  refine ⟨_, (if_neg ?_).trans (congrArg ok ((startCmd_of_canStart hc [] _).trans ((if_pos harg).trans (if_neg hguard)))), off.axOf.1, off.axOf.2.1,
    off.axOf.2.2, endCmd_moves.journalOff (journalOff_motEvent (axUpd_moves.journalOff journal)), endStatus_endCmd_of_running .ok 0 0 ?_⟩
  · rw [argIs_of_canStart hc harg]
    decide
  · rw [motEvent_moves.running, axUpd_moves.running, pinDrive_moves.running, axJournal_moves.running, pinDrive_moves.running]
    exact running_startedIn hc []

/-- Driver power has been switched on for a command (R423). -/
structure Powering (d : DriveWait) (h : Nat) (x : Axis) : Prop where
  state : x.state = .transition
  drive : x.drive = d
  driveCmd : x.driveCmd = some h

/-- The state in which AXIS_DRIVE 1 has switched on the supply (R423). -/
def driverFed (s : State) (n h : Nat) : State :=
  axUpd (pinDrive s (adPin (axOf s n).desc 3) true) n fun x => { x with state := .transition, cause := 0, driveCmd := some h, pgoodSeen := false }

theorem driverFed_moves : Moves [.regs, .tmb, .mot, .wlk, .par, .out] s (driverFed s n h) := axUpd_moves.after pinDrive_moves.mono

theorem stands_driverFed (hwf : s.mot.ax.wf = true) (n h : Nat) :
    Stands axTable (driverFed s n h) n fun x => x.state = .transition ∧ x.driveCmd = some h :=
  (pinDrive_moves.axAt (⟨hwf, trivial⟩ : Stands axTable s n fun _ => True)).axUpd fun _ _ => ⟨rfl, rfl⟩

theorem driveOn_of_disabled (hstate : (axOf s c.unit).state = .disabled) :
    driveOn s c = if adPin (axOf s c.unit).desc 4 = 0xFF then driveSettle (driverFed s c.unit c.handle) c.unit
      else axUpd (driverFed s c.unit c.handle) c.unit fun x => { x with drive := .pgood ((driverFed s c.unit c.handle).tmb.now + 1000000000) } :=
  if_neg fun g => g.1 hstate

theorem axisDrive_on (hcan : canonical s) (hc : CanStart s h 0x45 c) (harg : c.arg = 1) (hstate : (axOf s c.unit).state = .disabled) :
    Answers (.axisDriveOn h) s fun r =>
      Powering (if adPin (axOf s c.unit).desc 4 = 0xFF then .settle (s.tmb.now + 1000000 * fld s fMotCtrlSettleMs)
        else .pgood (s.tmb.now + 1000000000)) h (axOf r c.unit) ∧ running r h = true := by
  obtain rfl := handle_of_cmdFind hc.1
  have fed := stands_driverFed (stands_startedAx hcan c [] c.unit).wf c.unit c.handle
  have hnow : (driverFed (startedIn s c []) c.unit c.handle).tmb.now = s.tmb.now := pinDrive_now _ _ _
  have hsettle : fld (driverFed (startedIn s c []) c.unit c.handle) fMotCtrlSettleMs = fld s fMotCtrlSettleMs :=
    (axUpd_moves.setup (setup_pinDrive ((startedIn_moves s c []).setup .refl))).fld
  have hrun : running (driverFed (startedIn s c []) c.unit c.handle) c.handle = true := by
    rw [driverFed_moves.running]
    exact running_startedIn hc []
  have e : driveOn (startedIn s c []) (startedCmd c []) = _ := driveOn_of_disabled (s := startedIn s c []) (c := startedCmd c []) hstate
  refine ⟨_, (if_pos ?_).trans (congrArg ok ((startCmd_of_canStart hc [] _).trans e)), ?_⟩
  · rw [argIs_of_canStart hc harg]
    decide
  · show Powering _ _ (axOf (if adPin (axOf s c.unit).desc 4 = 0xFF then _ else _) c.unit) ∧ running
        (if adPin (axOf s c.unit).desc 4 = 0xFF then _ else _) _ = true
    split
    · refine ⟨(fed.axUpd fun x hx => ⟨hx.1, ?_, hx.2⟩).axOf, (axUpd_moves.running _).trans hrun⟩
      rw [← hnow, ← hsettle]
      rfl
    · refine ⟨(fed.axUpd fun x hx => ⟨hx.1, ?_, hx.2⟩).axOf, (axUpd_moves.running _).trans hrun⟩
      rw [← hnow]
      rfl

theorem axisDrive_on_pgood (hcan : canonical s) (hc : CanStart s h 0x45 c) (harg : c.arg = 1) (hstate : (axOf s c.unit).state = .disabled)
    (hpin : adPin (axOf s c.unit).desc 4 ≠ 0xFF) :
    Answers (.axisDriveOn h) s fun r =>
      (axOf r c.unit).state = .transition ∧ (axOf r c.unit).drive = .pgood (s.tmb.now + 1000000000) ∧ (axOf r c.unit).driveCmd = some h ∧
        running r h = true := by
  obtain ⟨r, hr, hx, hrun⟩ := axisDrive_on hcan hc harg hstate
  rw [if_neg hpin] at hx
  exact ⟨r, hr, hx.state, hx.drive, hx.driveCmd, hrun⟩

theorem axisDrive_on_settle (hcan : canonical s) (hc : CanStart s h 0x45 c) (harg : c.arg = 1) (hstate : (axOf s c.unit).state = .disabled)
    (hpin : adPin (axOf s c.unit).desc 4 = 0xFF) :
    Answers (.axisDriveOn h) s fun r =>
      (axOf r c.unit).state = .transition ∧ (axOf r c.unit).drive = .settle (s.tmb.now + 1000000 * fld s fMotCtrlSettleMs) ∧
        (axOf r c.unit).driveCmd = some h ∧ running r h = true := by
  obtain ⟨r, hr, hx, hrun⟩ := axisDrive_on hcan hc harg hstate
  rw [if_pos hpin] at hx
  exact ⟨r, hr, hx.state, hx.drive, hx.driveCmd, hrun⟩

end

/-- Settles O26: each motion command follows the branch its hypotheses name, and what the pins, steps and events do after it leaves the axis's
record as the command has set it. -/
theorem motionCommandsTakeEffect : Obligations.MotionCommandsTakeEffect := by
  unfold Obligations.MotionCommandsTakeEffect
  refine ⟨fun _ _ _ _ => axisConfig_new, fun _ _ _ _ _ => axisConfig_restored, fun _ _ _ _ => axisConfig_off, fun _ _ _ _ _ => axisMove_now,
    fun _ _ _ _ => axisMove_waits, ?_, fun _ _ _ _ => axisHome_here, fun _ _ _ => axisStop_controlled, fun _ _ _ => axisStop_immediate,
    fun _ _ _ => axisDrive_off, fun _ _ _ => axisDrive_on_pgood, fun _ _ _ => axisDrive_on_settle⟩
  intro h lv i c s hcan hc hstate hinput hlv hi h5 h6 h7 hfbk
  refine axisHome_heads hcan hc hstate hinput hlv hi ?_
  unfold homeInput at hinput
  unfold homeFits
  split <;> simp_all

end Sys2Proof.Machine
end

section
/-! Axes at their instants: launches, ticks, steps, switches and driver power (O27). -/
set_option Elab.async false
namespace Sys2Proof.Machine
open Sys2Proof

section
variable {s t : State} {n lv : Nat} {P : Axis → Prop} {ks : List Knot} {e : LqEntry} {l : List LqEntry}

/-! ### Launches from the queue -/

/-- The state in which the front entry of an axis's queue acts (R417). -/
def launched (s : State) (n lv : Nat) (e : LqEntry) (l : List LqEntry) : State :=
  axUpd (axLevels (advance s e.instant) n lv) n fun x => { x with lq := l }

theorem motLaunch_of_front {a : Nat} (hlq : (axOf s n).lq = e :: l) (ha : e.action = a) :
    motLaunch a n lv s = motAct (launched s n lv e l) n e := by
  unfold motLaunch
  rw [hlq]
  exact if_neg (not_not_intro ha)

theorem launched_now : (launched s n lv e l).tmb.now = max s.tmb.now e.instant := advance_now s e.instant

/-- The entry has left the queue, and the inputs are those of the launch; the axis is otherwise as it was. -/
theorem axOf_launched (hcan : canonical s) : axOf (launched s n lv e l) n = { axOf s n with lv := lv % 16, lq := l } := by
  have levels : axOf (axLevels (advance s e.instant) n lv) n = { axOf s n with lv := lv % 16 } :=
    (axUpd_self _ _ _ (stands_ax (advance_moves.canon hcan) n).wf).trans (by rw [axOf_congr advance_moves.mot])
  unfold launched
  rw [axUpd_self _ _ _ (stands_ax (axLevels_moves.canon (advance_moves.canon hcan)) n).wf, levels]

theorem launched_wf (hcan : canonical s) : (launched s n lv e l).mot.ax.wf = true :=
  (stands_ax (axUpd_moves.canon (axLevels_moves.canon (advance_moves.canon hcan))) n).wf

theorem startCheck_lq (hwf : s.mot.ax.wf = true) (l : List LqEntry) : startCheck (axUpd s n fun x => { x with lq := l }) n = startCheck s n := by
  unfold startCheck
  rw [axUpd_self s n _ hwf]
  rfl

theorem motStart_answers (hcan : canonical s) (hlq : (axOf s n).lq = e :: l) (haction : e.action = 1)
    (hcheck : (startCheck (axLevels (advance s e.instant) n lv) n).toOption = some ks) :
    Answers (.motStart n lv) s fun r =>
      (axOf r n).state = .moving ∧ (axOf r n).traj = .profile (max s.tmb.now e.instant) ks ∧ (axOf r n).lq = l ∧
        r.tmb.now = max s.tmb.now e.instant := by
  have hok : startCheck (launched s n lv e l) n = .ok ks :=
    (startCheck_lq (stands_ax (axLevels_moves.canon (advance_moves.canon hcan)) n).wf l).trans (ok_of_toOption hcheck)
  have started : Stands axTable (axStart (launched s n lv e l) n).1 n (Started _ ks (axOf s n).newest l) :=
    stands_axStart hok ⟨launched_wf hcan, by rw [show (axTable (launched s n lv e l)).get n = _ from axOf_launched hcan]; exact ⟨rfl, rfl⟩⟩
  have acted : Moves [.hif] (axStart (launched s n lv e l) n).1 (endLaunch (axStart (launched s n lv e l) n).1 e (axStart (launched s n lv e l) n).2
      0) :=
    endLaunch_moves
  have hx := (acted.axAt started).axOf
  refine ⟨_, congrArg ok ((motLaunch_of_front hlq haction).trans (motAct_start haction)), hx.state, ?_, hx.lq, ?_⟩
  · rw [hx.traj, launched_now]
  · rw [acted.now, axStart_of_ok hok]
    exact (stepsBegin_now _ _ _).trans (launched_now (n := n) (lv := lv) (l := l))

theorem motAct_stop (he : e.action = 2) : motAct s n e = axStop s n (e.tag == 1) e.cmd := by
  unfold motAct
  rw [he]
  rfl

theorem motStop_answers (hcan : canonical s) (hlq : (axOf s n).lq = e :: l) (haction : e.action = 2) (hstate : (axOf s n).state = .moving)
    (hhoming : (axOf s n).homing = none) :
    Answers (.motStop n lv) s fun r =>
      (axOf r n).state = (if e.tag = 1 then .standstill else .stopping) ∧ (axOf r n).running = none ∧ (axOf r n).lq = l ∧
        r.tmb.now = max s.tmb.now e.instant := by
  have hx := axOf_launched (n := n) (lv := lv) (e := e) (l := l) hcan
  have told := stands_moving (launched_wf (n := n) (lv := lv) (e := e) (l := l) hcan) n
  have hlq' : (axOf (launched s n lv e l) n).lq = l := by rw [hx]
  have acts : motAct (launched s n lv e l) n e = _ := (motAct_stop haction).trans
    (axStop_moving (s := launched s n lv e l) (n := n) (by rw [hx]; exact hstate) (by rw [hx]; exact hhoming) (e.tag == 1))
  refine ⟨_, congrArg ok ((motLaunch_of_front hlq haction).trans acts), ?_⟩
  by_cases htag : e.tag = 1
  · rw [if_pos (beq_iff_eq.2 htag), if_pos htag]
    have rests := (stands_axStopsEnd (Q := fun x => x.state = .standstill ∧ x.running = none ∧ x.lq = l) (fun _ hx => hx)
      (stands_stopWaits (cmd := e.cmd) (fun _ _ hx => hx) ((stands_stopped told).mono fun x hx =>
        (⟨hx.1, hx.2.1.running, hx.2.2.1.trans hlq'⟩ : x.state = .standstill ∧ x.running = none ∧ x.lq = l)))).axOf
    refine ⟨rests.1, rests.2.1, rests.2.2, ?_⟩
    rw [axStopsEnd_moves.now, stopWaits_moves.now, stopped_moves.now, stopTold_moves.now, launched_now]
  · rw [if_neg (by simpa using htag : ¬ (e.tag == 1) = true), if_neg htag]
    have waits := (stands_stopWaits (cmd := e.cmd) (fun _ _ hx => hx) ((stands_stopping told).mono fun x hx =>
        (⟨hx.1, hx.2.1, hx.2.2.1.trans hlq'⟩ : x.state = .stopping ∧ x.running = none ∧ x.lq = l))).axOf
    refine ⟨waits.1, waits.2.1, waits.2.2, ?_⟩
    rw [stopWaits_moves.now, stopping_now, stopTold_moves.now, launched_now]

theorem motAct_home (he : e.action = 3) (hnone : (axHome s n e.tag e.cmd).2 = none) : motAct s n e = (axHome s n e.tag e.cmd).1 := by
  unfold motAct
  rw [he]
  dsimp only
  rw [hnone]
  rfl

theorem motHome_answers (hcan : canonical s) (hlq : (axOf s n).lq = e :: l) (haction : e.action = 3) (htag : e.tag = 1 ∨ e.tag = 2)
    (hstate : (axOf s n).state = .standstill) (hpin : adPin (axOf s n).desc 7 ≠ 0xFF) (hlv : bit lv 2 = false) :
    Answers (.motHome n lv) s fun r =>
      (axOf r n).state = .homing ∧
        (axOf r n).homing = some ⟨e.tag, 1, 0, 0, max s.tmb.now e.instant + 1000000 * le (axOf s n).desc 108 4, e.cmd⟩ ∧ (axOf r n).lq = l ∧
          r.tmb.now = max s.tmb.now e.instant := by
  have hx := axOf_launched (n := n) (lv := lv) (e := e) (l := l) hcan
  obtain ⟨homes, hnone, hnow, -⟩ := stands_axHome (s := launched s n lv e l) (n := n) (method := e.tag) (i := 2) (cmd := e.cmd) (launched_wf hcan)
    (by rw [hx]; exact hstate) (by rw [hx]; obtain htag | htag := htag <;> rw [htag] <;> exact hpin)
    (by obtain htag | htag := htag <;> rw [htag] <;> rfl) (by rw [hx]; exact (bit_levels lv (by decide)).trans hlv)
  obtain ⟨hst, hhoming, -, hlq'⟩ := homes.axOf
  refine ⟨_, congrArg ok ((motLaunch_of_front hlq haction).trans (motAct_home haction hnone)), hst, ?_, ?_, hnow.trans launched_now⟩
  · rw [hhoming, homingOf, hx, launched_now]
  · rw [hlq', hx]

/-! ### Steps and driver power -/

theorem now_mono {k : List Part} (g :
    Moves k s t) {q : Nat} (h : s.tmb.now = q) (hk : Part.tmb ∉ k := by decide) : t.tmb.now = q := (g.now hk).trans h

theorem stepPulse_answers {q : Nat} {neg late : Bool} {r : List (Nat × Bool × Bool)} (hcan : canonical s) (hsched : (axOf s n).sched = (q, neg,
    late) :: r)
    (hlow : (axOf s n).pulseEnd = none) :
    Answers (.stepPulse n) s fun r' =>
      (axOf r' n).sched = r ∧ (axOf r' n).steps = (axOf s n).steps + (if neg then -1 else 1) ∧ (axOf r' n).lastRise = some q ∧
        (axOf r' n).pulseEnd = some (q + adWidth (axOf s n).desc) ∧ r'.tmb.now = max s.tmb.now q := by
  have noted : Moves [.regs] (advance s q) (if late then bump (advance s q) cMotStepDelayed else advance s q) := .ite bump_moves .refl
  have before : Stands axTable (bump (if late then bump (advance s q) cMotStepDelayed else advance s q) cMotSteps) n (· = axOf s n) :=
    bump_moves.axAt (noted.axAt (advance_moves.axAt (stands_ax hcan n)))
  show ∃ r', execStepPulse n s = .next r' ∧ _
  unfold execStepPulse
  dsimp only
  rw [hsched, hlow]
  obtain ⟨hs, hst, hrise, hend⟩ := (pinDrive_moves (p := adPin (axOf s n).desc 0) (level := true) |>.axAt (before.axUpd (f := fun x => { x with
      sched := r
      steps := if neg then x.steps - 1 else x.steps + 1
      phase := if neg then (x.phase + adCycle (axOf s n).desc - 1) % adCycle (axOf s n).desc else (x.phase + 1) % adCycle (axOf s n).desc
      lastRise := some q
      pulseEnd := some (q + adWidth x.desc) })
    (Q := fun x => x.sched = r ∧ x.steps = (axOf s n).steps + (if neg then -1 else 1) ∧ x.lastRise = some q ∧
      x.pulseEnd = some (q + adWidth (axOf s n).desc)) (by
        rintro _ rfl
        refine ⟨rfl, ?_, rfl, rfl⟩
        cases neg <;> rfl))).axOf
  exact ⟨_, rfl, hs, hst, hrise, hend, (pinDrive_now _ _ _).trans (now_mono axUpd_moves (now_mono bump_moves (now_mono noted (advance_now s q))))⟩

theorem stepPulseFall_answers {q : Nat} (hcan : canonical s) (hhigh : (axOf s n).pulseEnd = some q) :
    Answers (.stepPulseFall n) s fun r =>
      (axOf r n).pulseEnd = none ∧ (axOf r n).steps = (axOf s n).steps ∧ r.tmb.now = max s.tmb.now q := by
  show ∃ r, execStepPulseFall n s = .next r ∧ _
  unfold execStepPulseFall
  dsimp only
  rw [hhigh]
  have fell : Stands axTable (stepDir (pinDrive (axUpd (advance s q) n fun x => { x with pulseEnd := none }) (adPin (axOf s n).desc 0) false) n) n
      fun x => x.pulseEnd = none ∧ x.steps = (axOf s n).steps :=
    stands_stepDir (fun _ _ _ hx => hx) (pinDrive_moves.axAt ((advance_moves.axAt (stands_ax hcan n)).axUpd (by rintro _ rfl; exact ⟨rfl, rfl⟩)))
  refine ⟨_, rfl, fell.axOf.1, fell.axOf.2, ?_⟩
  rw [stepDir_now, pinDrive_now]
  exact advance_now s q

/-- The enable time of a driver begins (R423). -/
theorem stands_driveEnable (hP : ∀ x d, P x → P { x with drive := d }) (h : Stands axTable s n P) :
    Stands axTable (driveEnable s n) n fun x => P x ∧ x.drive = .enable (s.tmb.now + 1000000) :=
  (pinDrive_moves.axAt h).axUpd fun x hx => ⟨hP x _ hx, rfl⟩

theorem driveEnable_now (s : State) (n : Nat) : (driveEnable s n).tmb.now = s.tmb.now := pinDrive_now _ _ _

theorem pgoodRise_answers {u q : Nat} (hcan : canonical s) (hdrive : (axOf s n).drive = .pgood u) :
    Answers (.pgoodRise n q) s fun r =>
      (axOf r n).drive = .settle (max s.tmb.now q + 1000000 * fld s fMotCtrlSettleMs) ∧ (axOf r n).pgoodSeen = true ∧
        r.tmb.now = max s.tmb.now q := by
  show ∃ r, execPgoodRise n q s = .next r ∧ _
  unfold execPgoodRise
  rw [hdrive]
  have hnow : (axUpd (advance s q) n fun x => { x with pgoodSeen := true, lv := x.lv ||| 8 }).tmb.now = max s.tmb.now q := advance_now s q
  have settles : Stands axTable (driveSettle (axUpd (advance s q) n fun x => { x with pgoodSeen := true, lv := x.lv ||| 8 }) n) n fun x =>
      x.drive = .settle (max s.tmb.now q + 1000000 * fld s fMotCtrlSettleMs) ∧ x.pgoodSeen = true :=
    ((advance_moves.axAt (stands_ax hcan n)).axUpd (Q := fun x => x.pgoodSeen = true) fun _ _ => rfl).axUpd fun _ hx =>
      ⟨by rw [hnow, (axUpd_moves.setup (advance_moves.setup .refl)).fld], hx⟩
  exact ⟨_, rfl, settles.axOf.1, settles.axOf.2, hnow⟩

theorem driveSettleEnd_enables {q : Nat} (hcan : canonical s) (hdrive : (axOf s n).drive = .settle q)
    (h : (axOf s n).phase = 0 ∨ (axOf s n).phaseLost = true ∨ adKind (axOf s n).desc ≠ 1) :
    Answers (.driveSettleEnd n) s fun r => (axOf r n).drive = .enable (max s.tmb.now q + 1000000) ∧ r.tmb.now = max s.tmb.now q := by
  show ∃ r, execDriveSettleEnd n s = .next r ∧ _
  unfold execDriveSettleEnd
  dsimp only
  rw [hdrive]
  dsimp only
  have enables := (stands_driveEnable (P := fun _ => True) (fun _ _ _ => trivial)
    ((advance_moves (t := q)).axAt ((stands_ax hcan n).mono fun _ _ => trivial))).axOf.2
  rw [advance_now] at enables
  rw [if_neg (by rintro ⟨hkind, -, -, hlost, hphase⟩; simp_all)]
  exact ⟨_, rfl, enables, (driveEnable_now _ n).trans (advance_now s q)⟩

theorem driveSettleEnd_restores {q : Nat} (hcan : canonical s) (hdrive : (axOf s n).drive = .settle q) (hphase : (axOf s n).phase ≠ 0)
    (hlost : (axOf s n).phaseLost = false) (hkind : adKind (axOf s n).desc = 1) (hrestore : adFlag (axOf s n).desc 2 = true)
    (hpin : adPin (axOf s n).desc 3 ≠ 0xFF) :
    Answers (.driveSettleEnd n) s fun r =>
      (axOf r n).drive = .restore (axOf s n).phase (max s.tmb.now q) ∧ (axOf r n).dirNeg = false ∧ r.tmb.now = max s.tmb.now q := by
  have hnow : (pinDrive (advance s q) (adPin (axOf s n).desc 1) (adFlag (axOf s n).desc 0)).tmb.now = max s.tmb.now q :=
    (pinDrive_now _ _ _).trans (advance_now s q)
  show ∃ r, execDriveSettleEnd n s = .next r ∧ _
  unfold execDriveSettleEnd
  dsimp only
  rw [hdrive]
  dsimp only
  rw [if_pos ⟨hkind, hrestore, hpin, by simp [hlost], hphase⟩, hnow]
  have restores : Stands axTable (axUpd (pinDrive (advance s q) (adPin (axOf s n).desc 1) (adFlag (axOf s n).desc 0)) n fun x =>
      { x with dirNeg := false, drive := .restore x.phase (max s.tmb.now q) }) n fun x =>
        x.drive = .restore (axOf s n).phase (max s.tmb.now q) ∧ x.dirNeg = false :=
    (pinDrive_moves.axAt (advance_moves.axAt (stands_ax hcan n))).axUpd (by rintro _ rfl; exact ⟨rfl, rfl⟩)
  exact ⟨_, rfl, restores.axOf.1, restores.axOf.2, hnow⟩

/-- The state in which a restore step has been given (R423). -/
def restored (s : State) (n k q : Nat) : State :=
  axUpd (bump (pinDrive (advance s q) (adPin (axOf s n).desc 0) true) cMotPhaseRestores) n fun x => { x with
    lastRise := some q
    pulseEnd := some (q + adWidth x.desc)
    drive := .restore k (q + 1000000 / max 1 (fld s fMotCtrlRestoreKhz)) }

theorem stands_restored (hcan : canonical s) (n k q : Nat) :
    Stands axTable (restored s n k q) n fun x =>
      (x.steps = (axOf s n).steps ∧ x.pulseEnd = some (q + adWidth (axOf s n).desc)) ∧
        x.drive = .restore k (q + 1000000 / max 1 (fld s fMotCtrlRestoreKhz)) :=
  (bump_moves.axAt (pinDrive_moves.axAt (advance_moves.axAt (stands_ax hcan n)))).axUpd (by rintro _ rfl; exact ⟨⟨rfl, rfl⟩, rfl⟩)

theorem restored_now {k q : Nat} : (restored s n k q).tmb.now = max s.tmb.now q := by
  rw [restored, axUpd_moves.now, bump_moves.now, pinDrive_now, advance_now]

theorem phaseRestoreStep_of {k q : Nat} (hdrive : (axOf s n).drive = .restore (k + 1) q) :
    execPhaseRestoreStep n s = ok (if k = 0 then driveEnable (restored s n k q) n else restored s n k q) := by
  have hfld : fld (pinDrive (advance s q) (adPin (axOf s n).desc 0) true) fMotCtrlRestoreKhz = fld s fMotCtrlRestoreKhz :=
    (setup_pinDrive (advance_moves.setup .refl)).fld
  unfold execPhaseRestoreStep
  dsimp only
  rw [hdrive]
  dsimp only
  unfold restored
  rw [← hfld]

theorem phaseRestoreStep_goes {k q : Nat} (hcan : canonical s) (hdrive : (axOf s n).drive = .restore (k + 1) q) (hk : k ≠ 0) :
    Answers (.phaseRestoreStep n) s fun r =>
      (axOf r n).drive = .restore k (q + 1000000 / max 1 (fld s fMotCtrlRestoreKhz)) ∧ (axOf r n).steps = (axOf s n).steps ∧
        (axOf r n).pulseEnd = some (q + adWidth (axOf s n).desc) ∧ r.tmb.now = max s.tmb.now q := by
  obtain ⟨⟨hsteps, hend⟩, hd⟩ := (stands_restored hcan n k q).axOf
  exact ⟨_, (phaseRestoreStep_of hdrive).trans (congrArg ok (if_neg hk)), hd, hsteps, hend, restored_now⟩

theorem phaseRestoreStep_enables {q : Nat} (hcan : canonical s) (hdrive : (axOf s n).drive = .restore 1 q) :
    Answers (.phaseRestoreStep n) s fun r =>
      (axOf r n).drive = .enable (max s.tmb.now q + 1000000) ∧ (axOf r n).steps = (axOf s n).steps ∧ r.tmb.now = max s.tmb.now q := by
  have enables := (stands_driveEnable (fun _ _ hx => hx) ((stands_restored hcan n 0 q).mono fun _ hx => hx.1)).axOf
  rw [restored_now] at enables
  exact ⟨_, (phaseRestoreStep_of hdrive).trans (congrArg ok (if_pos rfl)), enables.2, enables.1.1, (driveEnable_now _ n).trans restored_now⟩

theorem driveEnableDelay_answers {q c : Nat} (hcan : canonical s) (hdrive : (axOf s n).drive = .enable q) (hcmd : (axOf s n).driveCmd = some c)
    (hrun : running s c = true) :
    Answers (.driveEnableDelay n) s fun r =>
      (axOf r n).state = .standstill ∧ (axOf r n).drive = .none ∧ endStatus r c = some .ok ∧ r.tmb.now = max s.tmb.now q := by
  show ∃ r, execDriveEnableDelay n s = .next r ∧ _
  unfold execDriveEnableDelay
  dsimp only
  rw [hdrive, hcmd]
  have on : Stands axTable (endCmd (motEvent (axUpd (advance s q) n fun x => { x with
      state := .standstill
      drive := .none
      driveCmd := none
      tickAt := if adKind x.desc = 1 then some (advance s q).tmb.now else none }) evDriveOn n 0 0 0) c .ok 0 0) n fun x =>
        x.state = .standstill ∧ x.drive = .none :=
    endCmd_moves.axAt (motEvent_moves.axAt ((advance_moves.axAt (stands_ax hcan n)).axUpd fun _ _ => ⟨rfl, rfl⟩))
  refine ⟨_, rfl, on.axOf.1, on.axOf.2, endStatus_endCmd_of_running .ok 0 0 ?_,
    now_mono endCmd_moves (now_mono motEvent_moves (now_mono axUpd_moves (advance_now s q)))⟩
  rw [motEvent_moves.running, axUpd_moves.running, advance_moves.running]
  exact hrun

theorem pgoodTimeout_answers {q c : Nat} (hcan : canonical s) (hdrive : (axOf s n).drive = .pgood q) (hcmd : (axOf s n).driveCmd = some c)
    (hrun : running s c = true) :
    Answers (.pgoodTimeout n) s fun r =>
      (axOf r n).state = .disabled ∧ (axOf r n).drive = .none ∧ endStatus r c = some .faulted ∧ r.tmb.now = max s.tmb.now q := by
  show ∃ r, execPgoodTimeout n s = .next r ∧ _
  unfold execPgoodTimeout
  dsimp only
  rw [hdrive, hcmd]
  have off : Stands axTable (endCmd (axUpd (pinDrive (advance s q) (adPin (axOf s n).desc 3) false) n fun x =>
      { x with state := .disabled, drive := .none, driveCmd := none }) c .faulted 0 0) n fun x => x.state = .disabled ∧ x.drive = .none :=
    endCmd_moves.axAt ((pinDrive_moves.axAt (advance_moves.axAt (stands_ax hcan n))).axUpd fun _ _ => ⟨rfl, rfl⟩)
  refine ⟨_, rfl, off.axOf.1, off.axOf.2, endStatus_endCmd_of_running .faulted 0 0 ?_,
    now_mono endCmd_moves (now_mono axUpd_moves ((pinDrive_now _ _ _).trans (advance_now s q)))⟩
  rw [axUpd_moves.running, pinDrive_moves.running, advance_moves.running]
  exact hrun

/-! ### Switches, faults and homings -/

theorem faultFree_true : FaultFree fun _ => True := ⟨fun _ _ _ _ _ _ _ _ => trivial, fun _ _ => trivial, fun _ _ _ _ _ => trivial, fun _ _ _ =>
    trivial⟩

theorem axAt_lv (x : Axis) (a q : Nat) : axAt { x with lv := a } q = axAt x q := rfl

theorem limitSwitchActive_answers {q : Nat} {positive : Bool} (hcan : canonical s) (hstate : (axOf s n).state = .moving)
    (hhoming : (axOf s n).homing = none) (hdesc : (axOf s n).desc ≠ []) (hpin : adPin (axOf s n).desc (if positive then 5 else 6) ≠ 0xFF)
    (hside : if positive then 0 < (axAt (axOf s n) (max s.tmb.now q)).2.1 else (axAt (axOf s n) (max s.tmb.now q)).2.1 < 0) :
    Answers (.limitSwitchActive n positive q) s fun r =>
      (axOf r n).state = .fault ∧ (axOf r n).cause = 2 ∧ (axOf r n).vel = 0 ∧ (axOf r n).sched = [] ∧ r.tmb.now = max s.tmb.now q := by
  have seen : Stands axTable (axUpd (advance s q) n fun x => { x with lv := if positive then x.lv ||| 1 else x.lv ||| 2 }) n fun x =>
      x = { axOf s n with lv := if positive then (axOf s n).lv ||| 1 else (axOf s n).lv ||| 2 } :=
    (advance_moves.axAt (stands_ax hcan n)).axUpd (by rintro _ rfl; rfl)
  have hv : axAt (axOf (axUpd (advance s q) n fun x => { x with lv := if positive then x.lv ||| 1 else x.lv ||| 2 }) n)
      (max s.tmb.now q) = axAt (axOf s n) (max s.tmb.now q) := by rw [seen.axOf, axAt_lv]
  have faulted := ((stands_axFault faultFree_true 2 evHardLimit ((bump_moves (a := cMotHardLimits)).axAt (seen.mono fun _ _ => trivial))).axOf).2
  refine ⟨_, (if_neg ?_).trans ((if_neg ?_).trans (if_pos ⟨?_, ?_⟩)), faulted.state, faulted.cause, faulted.vel, faulted.sched, ?_⟩
  · rintro (h | h)
    · exact hpin h
    · exact hdesc h
  · rw [hhoming]
    exact Bool.false_ne_true
  · exact now_mono axFault_moves (now_mono bump_moves (now_mono axUpd_moves (advance_now s q)))
  · unfold axMoving
    rw [hstate]
  · show if positive then 0 < (axAt _ (advance s q).tmb.now).2.1 else (axAt _ (advance s q).tmb.now).2.1 < 0
    rw [advance_now, hv]
    exact hside

/-- The edge of a switch has been seen (R421). -/
def edgeSeen (s : State) (n which : Nat) (active : Bool) (q : Nat) : State :=
  axUpd (advance s q) n fun x => { x with lv := if active then x.lv ||| 2 ^ which else x.lv &&& (15 - 2 ^ which) }

theorem edgeSeen_now {which q : Nat} {active : Bool} : (edgeSeen s n which active q).tmb.now = max s.tmb.now q := advance_now s q

theorem homeSwitchEdge_of {which q : Nat} {active : Bool} (hwhich : which < 3) (hdesc : (axOf s n).desc ≠ [])
    (hpin : adPin (axOf s n).desc (5 + which) ≠ 0xFF) :
    execHomeSwitchEdge n which active q s = ok (axReplan (homeEdge (edgeSeen s n which active q) n which active q) n) := by
  have hguard (pin : Nat) (e : pin = 5 + which) : ¬ (adPin (axOf s n).desc pin = 0xFF ∨ (axOf s n).desc = [] ∨ 2 < which) := by
    rintro (h | h | h)
    · exact hpin (e ▸ h)
    · exact hdesc h
    · omega
  refine if_neg (hguard _ ?_)
  obtain rfl | rfl | rfl : which = 0 ∨ which = 1 ∨ which = 2 := by omega
  all_goals rfl

/-- An axis homes, and this is its homing. -/
theorem stands_edgeSeen {which q : Nat} {active : Bool} (hcan : canonical s) {m : Homing} (hm : (axOf s n).homing = some m) :
    Stands axTable (edgeSeen s n which active q) n fun x => x.homing = some m :=
  (advance_moves.axAt (stands_ax hcan n)).axUpd (by rintro _ rfl; exact hm)

theorem homeEdge_ends_phase1 {which q : Nat} {m : Homing} (hm : (axOf s n).homing = some m) (hphase : m.phase = 1)
    (hinput : homeInput m.method = some which) : homeEdge s n which true q = homePhase2 s n m := by
  unfold homeEdge
  rw [hm]
  exact (if_pos hinput).trans (if_pos ⟨hphase, rfl⟩)

theorem homeEdge_references {which q : Nat} {m : Homing} (hm : (axOf s n).homing = some m) (hphase : m.phase = 2) (hmethod : m.method ≤ 4)
    (hinput : homeInput m.method = some which) :
    homeEdge s n which false q = homeReference (axPosAt s n q).2 n m (axPosAt s n q).1 := by
  unfold homeEdge
  rw [hm]
  exact (if_pos hinput).trans ((if_neg (by simp)).trans (if_pos ⟨hphase, rfl, hmethod⟩))

theorem homeSwitchEdge_ends_phase1 {which q : Nat} {m : Homing} (hcan : canonical s) (hm : (axOf s n).homing = some m) (hphase : m.phase = 1)
    (hinput : homeInput m.method = some which) (hwhich : which < 3) (hdesc : (axOf s n).desc ≠ []) (hpin : adPin (axOf s n).desc (5 + which) ≠ 0xFF)
        :
    Answers (.homeSwitchEdge n which true q) s fun r =>
      (axOf r n).homing.map (fun x => (x.method, x.phase, x.due, x.cmd)) = some (m.method, 2, m.due, m.cmd) ∧ r.tmb.now = max s.tmb.now q := by
  have seen := stands_edgeSeen (which := which) (q := q) (active := true) hcan hm
  have e := (homeSwitchEdge_of (active := true) (q := q) hwhich hdesc hpin).trans
    (congrArg (fun u => ok (axReplan u n)) (homeEdge_ends_phase1 (q := q) seen.axOf hphase hinput))
  have second : Stands axTable (homePhase2 (edgeSeen s n which true q) n m) n fun x =>
      x.homing.map (fun x => (x.method, x.phase, x.due, x.cmd)) = some (m.method, 2, m.due, m.cmd) :=
    (seen.axUpd (Q := fun _ => True) fun _ _ => trivial).axUpd fun _ _ => rfl
  refine ⟨_, e, (stands_axReplan (fun _ _ _ hx => hx) second).axOf, ?_⟩
  rw [axReplan_now, homePhase2_moves.now]
  exact edgeSeen_now

theorem homeSwitchEdge_references {which q : Nat} {m : Homing} (hcan : canonical s) (hm : (axOf s n).homing = some m) (hphase : m.phase = 2)
    (hmethod : m.method ≤ 4) (hinput : homeInput m.method = some which) (hwhich : which < 3) (hdesc : (axOf s n).desc ≠ [])
    (hpin : adPin (axOf s n).desc (5 + which) ≠ 0xFF) :
    Answers (.homeSwitchEdge n which false q) s fun r => (axOf r n).homing = some { m with phase := 3 } ∧ r.tmb.now = max s.tmb.now q := by
  have seen := stands_edgeSeen (which := which) (q := q) (active := false) hcan hm
  have e := (homeSwitchEdge_of (active := false) (q := q) hwhich hdesc hpin).trans
    (congrArg (fun u => ok (axReplan u n)) (homeEdge_references (q := q) seen.axOf hphase hmethod hinput))
  have refd : Stands axTable (homeReference (axPosAt (edgeSeen s n which false q) n q).2 n m (axPosAt (edgeSeen s n which false q) n q).1) n
      fun x =>
      x.homing = some { m with phase := 3 } :=
    ((axPosAt_moves.axAt seen).axUpd (Q := fun _ => True) fun _ _ => trivial).axUpd fun _ _ => rfl
  refine ⟨_, e, (stands_axReplan (fun _ _ _ hx => hx) refd).axOf, ?_⟩
  rw [axReplan_now, homeReference_moves.now, axPosAt_moves.now]
  exact edgeSeen_now

theorem Moves.endStatus {k : List Part} (g : Moves k s t) (h : Nat) (hk : Part.hif ∉ k := by decide) : endStatus t h = endStatus s h :=
  endStatus_congr (g.cmds hk) h

theorem endStatus_homeEnds_of_ended {c : Nat} {st st' : Status} (h : endStatus s c = some st) : endStatus (homeEnds s n st') c = some st := by
  unfold homeEnds
  split
  · exact h
  · dsimp only
    split
    · exact endStatus_endCmd_of_ended _ _ _ _ ((axUpd_moves.endStatus c).trans h)
    · exact (axUpd_moves.endStatus c).trans h

theorem endStatus_axFault_of_ended {c cause : Nat} {k : EvKind} {st : Status} (h : endStatus s c = some st) : endStatus (axFault s n cause k) c =
    some st := by
  refine List.foldlRecOn (motive := fun (u : State) => endStatus u c = some st) _ _ ?_ fun u hu _ _ => endStatus_endCmd_of_ended _ _ _ _ hu
  rw [axUpd_moves.endStatus, motEvent_moves.endStatus]
  refine endStatus_homeEnds_of_ended ?_
  rw [axUpd_moves.endStatus, axFreeze_moves.endStatus]
  exact h

theorem homeEnds_of_cmd {m : Homing} {c : Nat} {st : Status} (hm : (axOf s n).homing = some m) (hc : m.cmd = some c) :
    homeEnds s n st = endCmd (axUpd s n fun x => { x with homing := none, homed := false }) c st 0 0 := by
  unfold homeEnds
  rw [hm]
  dsimp only
  rw [hc]

theorem homingTimeout_answers {c : Nat} {m : Homing} (hcan : canonical s) (hm : (axOf s n).homing = some m) (hc : m.cmd = some c)
    (hrun : running s c = true) :
    Answers (.homingTimeout n) s fun r =>
      (axOf r n).state = .fault ∧ (axOf r n).cause = 6 ∧ (axOf r n).homing = none ∧ (axOf r n).homed = false ∧ endStatus r c = some .timeout ∧
        r.tmb.now = max s.tmb.now m.due := by
  show ∃ r, execHomingTimeout n s = .next r ∧ _
  unfold execHomingTimeout
  rw [hm]
  have frozen := stands_axFreeze (P := fun x => x.homing = some m) (fun _ _ _ _ _ _ _ hx => hx)
    ((advance_moves (t := m.due)).axAt ((stands_ax hcan n).mono fun x hx => (hx ▸ hm : x.homing = some m)))
  have ends := homeEnds_of_cmd (st := .timeout) frozen.axOf.1 hc
  have unhomed : Stands axTable (homeEnds (axFreeze (advance s m.due) n) n .timeout) n fun x => x.homed = false := by
    rw [ends]
    exact endCmd_moves.axAt (frozen.axUpd fun _ _ => rfl)
  have timed : endStatus (homeEnds (axFreeze (advance s m.due) n) n .timeout) c = some .timeout := by
    rw [ends]
    refine endStatus_endCmd_of_running .timeout 0 0 ?_
    rw [axUpd_moves.running, axFreeze_moves.running, advance_moves.running]
    exact hrun
  obtain ⟨hhomed, faulted⟩ :=
      (stands_axFault (P := fun x => x.homed = false) ⟨fun _ _ _ _ _ _ _ hx => hx, fun _ _ => rfl, fun _ _ _ _ hx => hx, fun _ _ hx => hx⟩ 6
    evHomingFailed ((bump_moves (a := cMotHomingFails)).axAt unhomed)).axOf
  exact ⟨_, rfl, faulted.state, faulted.cause, faulted.homing, hhomed, endStatus_axFault_of_ended ((bump_moves.endStatus c).trans timed),
    now_mono homeFail_moves (advance_now s m.due)⟩

/-- The state in which the loss of PGOOD has been taken (R424). -/
def pgoodLost (s : State) (n q : Nat) : State :=
  axUpd (axFault (bump (axUpd (pinDrive (advance s q) (adPin (axOf s n).desc 2) false) n fun x =>
    { x with phaseLost := true, homed := false, drive := .none, driveCmd := none, lv := x.lv &&& 7 }) cMotPhaseLosses) n 4 evPhaseLost) n fun x =>
    { x with homed := false }

theorem stands_pgoodLost (hcan : canonical s) (n q : Nat) :
    Stands axTable (pgoodLost s n q) n fun x => x.phaseLost = true ∧ x.state = .fault ∧ x.cause = 4 ∧ x.homed = false := by
  have lost : Stands axTable (axUpd (pinDrive (advance s q) (adPin (axOf s n).desc 2) false) n fun x =>
      { x with phaseLost := true, homed := false, drive := .none, driveCmd := none, lv := x.lv &&& 7 }) n fun x => x.phaseLost = true :=
    (pinDrive_moves.axAt (advance_moves.axAt (stands_ax hcan n))).axUpd fun _ _ => rfl
  exact (stands_axFault ⟨fun _ _ _ _ _ _ _ hx => hx, fun _ hx => hx, fun _ _ _ _ hx => hx, fun _ _ hx => hx⟩ 4 evPhaseLost
      (bump_moves.axAt lost)).axUpd
    fun _ hx => ⟨hx.1, hx.2.state, hx.2.cause, rfl⟩

theorem pgoodLost_now (s : State) (n q : Nat) : (pgoodLost s n q).tmb.now = max s.tmb.now q :=
  now_mono axUpd_moves (now_mono axFault_moves (now_mono bump_moves (now_mono axUpd_moves ((pinDrive_now _ _ _).trans (advance_now s q)))))

theorem pgoodLoss_answers {q : Nat} (hcan : canonical s) (hstate : (axOf s n).state = .standstill) (hdesc : (axOf s n).desc ≠ [])
    (hpin : adPin (axOf s n).desc 4 ≠ 0xFF) :
    Answers (.pgoodLoss n q) s fun r =>
      (axOf r n).state = .fault ∧ (axOf r n).cause = 4 ∧ (axOf r n).phaseLost = true ∧ (axOf r n).homed = false ∧ r.tmb.now = max s.tmb.now q := by
  have hlive : axLive (axOf s n) = true := by
    unfold axLive
    rw [hstate]
  have e : execPgoodLoss n q s = ok (axJournal (match (axOf s n).driveCmd with
      | some h => endCmd (pgoodLost s n q) h .faulted 0 0
      | none => pgoodLost s n q) n false) := if_neg (by simp [hlive, hdesc, hpin])
  have ended : Moves [.hif] (pgoodLost s n q) (match (axOf s n).driveCmd with
      | some h => endCmd (pgoodLost s n q) h .faulted 0 0
      | none => pgoodLost s n q) := by
    split
    · exact endCmd_moves
    · exact .refl
  obtain ⟨hlost, hst, hcause, hhomed⟩ := (axJournal_moves.axAt (ended.axAt (stands_pgoodLost hcan n q))).axOf
  exact ⟨_, e, hst, hcause, hlost, hhomed, now_mono axJournal_moves (now_mono ended (pgoodLost_now s n q))⟩

/-! ### Ticks -/

/-- The commanded position and velocity of an axis at `q`, with its segment (R414). -/
def brought (x : Axis) (q : Nat) : Axis := { x with
  pos := nearestQ (axAt x q).1
  vel := nearestQ (axAt x q).2.1
  seg := (axAt x q).2.2 }

theorem stands_axBring {x : Axis} (q : Nat) (h : Stands axTable s n (· = x)) : Stands axTable (axBring s n q) n (· = brought x q) := by
  obtain rfl : axOf s n = x := h.axOf
  exact h.axUpd fun _ hx => by rw [hx]; rfl

theorem axSoft_of_unhomed (h : (axOf s n).homed = false) : axSoft s n = s := if_pos (.inl (by rw [h]; rfl))

theorem axEnd_of_running {q : Nat} (h : axDone (axOf s n) q = false) : axEnd s n q = s := if_pos (by rw [h]; rfl)

/-- A stepper that does not look at its feedback has no loop or channel that could fail (R427). -/
theorem axLinks_of_stepper (hfbk : adUsesFbk (axOf s n).desc = false) (hkind : adKind (axOf s n).desc ≠ 2) : axLinks s n = s := by
  unfold axLinks
  dsimp only
  split
  · rfl
  · exact (if_neg (by rw [hfbk]; simp)).trans (if_neg fun h => hkind h.1)

theorem axMoving_of_moving {x : Axis} (h : x.state = .moving) : axMoving x = true := by
  unfold axMoving
  rw [h]

theorem axInpos_of_moving {q : Nat} (h : axMoving (axOf s n) = true) :
    axInpos s n q = axUpd s n fun x => { x with inpos := false, inposSince := none } := if_pos (by rw [h]; rfl)

/-- What a tick's checks leave of a stepper that moves away from its switches (R418, R427). -/
theorem stands_axChecks {q : Nat} {x : Axis} (hstate : x.state = .moving) (hkind : adKind x.desc = 1) (hfbk : adUsesFbk x.desc = false)
    (hlv : bit x.lv 0 = false ∧ bit x.lv 1 = false) (h : Stands axTable s n (· = x)) :
    Stands axTable (axChecks s n q) n
      (· = { x with act := x.steps * 65536, fe := x.pos - x.steps * 65536, inpos := false, inposSince := none }) := by
  have actual : axActual s n q = (x.steps * 65536, s) := by
    unfold axActual
    dsimp only
    rw [h.axOf, if_neg (by rw [hfbk]; exact Bool.false_ne_true)]
  have measured : Stands axTable (axPoint (axUpd s n fun y => { y with act := x.steps * 65536, fe := y.pos - x.steps * 65536 }) n (le x.desc 120 4)
      (x.steps * 65536) qVALID) n (· = { x with act := x.steps * 65536, fe := x.pos - x.steps * 65536 }) :=
    axPoint_moves.axAt (h.axUpd fun _ hx => by rw [hx])
  have e : axChecks s n q = axInpos (axLinks (axPoint (axUpd s n fun y => { y with act := x.steps * 65536, fe := y.pos - x.steps * 65536 }) n
      (le x.desc 120 4) (x.steps * 65536) qVALID) n) n q := by
    unfold axChecks
    dsimp only
    rw [actual]
    dsimp only
    rw [(h.axUpd (Q := (· = { x with act := x.steps * 65536, fe := x.pos - x.steps * 65536 })) fun _ hx => by rw [hx]).axOf]
    rw [if_neg (by unfold axLive; rw [hstate]; exact Bool.false_ne_true), if_neg fun g => by simp [hfbk] at g]
    exact if_neg fun g => by simp [hlv] at g
  rw [e, axLinks_of_stepper (by rw [measured.axOf]; exact hfbk) (by rw [measured.axOf, hkind]; decide),
    axInpos_of_moving (by rw [measured.axOf]; unfold axMoving; rw [hstate])]
  exact measured.axUpd fun _ hx => by rw [hx]

theorem axPoint_now {id : Nat} {v : Int} {q : BitVec 16} : (axPoint s n id v q).tmb.now = s.tmb.now := axPoint_moves.now

/-- The state in which a stepper's tick has published the commanded position and velocity (R414, R422). -/
def tickPublished (s : State) (n lv q : Nat) : State :=
  let u := axBring (axLevels (advance s q) n lv) n q
  let v := axPoint u n (le (axOf s n).desc 112 4) (axOf u n).pos qVALID
  axPoint v n (le (axOf s n).desc 116 4) (axOf v n).vel qVALID

/-- The next tick of a live axis (R422). -/
def nextTick (q : Nat) (x : Axis) : Axis := { x with tickAt := if x.state = .off ∨ x.state = .disabled then none else some q }

theorem stands_axLevels (hcan : canonical s) (n lv q : Nat) : Stands axTable (axLevels (advance s q) n lv) n (· = { axOf s n with lv := lv % 16 })
    :=
  (advance_moves.axAt (stands_ax hcan n)).axUpd fun _ hx => by rw [hx]

theorem stepperTick_answers {q : Nat} (hcan : canonical s) (htick : (axOf s n).tickAt = some q) (hkind : adKind (axOf s n).desc = 1)
    (hfbk : adUsesFbk (axOf s n).desc = false) (hstate : (axOf s n).state = .moving) (hhomed : (axOf s n).homed = false)
    (hdone : axDone (axOf s n) q = false) (hlv : lv % 4 = 0) :
    Answers (.stepperTick n lv) s fun r =>
      (axOf r n).state = .moving ∧ (axOf r n).pos = nearestQ (axAt (axOf s n) q).1 ∧ (axOf r n).vel = nearestQ (axAt (axOf s n) q).2.1 ∧
        (axOf r n).act = (axOf s n).steps * 65536 ∧ (axOf r n).tickAt = some (q + adTick (axOf s n).desc) ∧ r.tmb.now = max s.tmb.now q := by
  have bring := stands_axBring q (stands_axLevels hcan n lv q)
  have published : Stands axTable (tickPublished s n lv q) n (· = brought { axOf s n with lv := lv % 16 } q) :=
    axPoint_moves.axAt (axPoint_moves.axAt bring)
  have low : bit (lv % 16) 0 = false ∧ bit (lv % 16) 1 = false := by
    rw [bit_levels lv (by decide), bit_levels lv (by decide), bit, bit, Nat.testBit_eq_decide_div_mod_eq, Nat.testBit_eq_decide_div_mod_eq]
    simp only [decide_eq_false_iff_not]
    omega
  have checked := stands_axChecks (q := q) (x := brought { axOf s n with lv := lv % 16 } q) hstate hkind hfbk low published
  have e : execStepperTick n lv s = ok (stepPlan (axUpd (axChecks (tickPublished s n lv q) n q) n
      (nextTick (q + adTick (axOf s n).desc))) n q (q + adTick (axOf s n).desc)) := by
    unfold execStepperTick
    dsimp only
    rw [htick]
    dsimp only
    rw [if_neg (not_not_intro hkind), axSoft_of_unhomed (by rw [bring.axOf]; exact hhomed), axEnd_of_running (by rw [bring.axOf]; exact hdone)]
    refine congrArg ok (if_pos ?_)
    have moving := (checked.axUpd (f := nextTick (q + adTick (axOf s n).desc)) (Q := fun x => axMoving x = true) (by
      rintro _ rfl
      exact axMoving_of_moving hstate)).axOf
    exact moving
  have ticked := stands_stepPlan (n := n) (P := fun x => x.state = .moving ∧ x.pos = nearestQ (axAt (axOf s n) q).1 ∧
      x.vel = nearestQ (axAt (axOf s n) q).2.1 ∧ x.act = (axOf s n).steps * 65536 ∧ x.tickAt = some (q + adTick (axOf s n).desc))
          (fun _ _ _ hx => hx)
    q (q + adTick (axOf s n).desc) (checked.axUpd (f := nextTick (q + adTick (axOf s n).desc)) (by
      rintro _ rfl
      exact ⟨hstate, rfl, rfl, rfl, if_neg (by simp [brought, hstate])⟩))
  obtain ⟨hst, hpos, hvel, hact, hnext⟩ := ticked.axOf
  refine ⟨_, e, hst, hpos, hvel, hact, hnext, (stepPlan_now _ _ _ _).trans ?_⟩
  exact now_mono axUpd_moves (now_mono axChecks_moves (now_mono axPoint_moves
      (now_mono axPoint_moves (now_mono axBring_moves (now_mono axLevels_moves
    (advance_now s q))))))

theorem loopOf_congr (e : t.anv = s.anv) (n : Nat) : loopOf t n = loopOf s n := by rw [loopOf, e, loopOf]

theorem fbkCh_congr (e : t.fbk = s.fbk) (n : Nat) : fbkCh t n = fbkCh s n := by rw [fbkCh, e, fbkCh]

/-- Nothing that a servo's tick leaves alone fails the axis (R427). -/
theorem axLinks_of_servo (hbad : (fbkCh s (adFbk (axOf s n).desc)).bad = false)
    (himplaus : (fbkCh s (adFbk (axOf s n).desc)).implaus = false) (hdesc : (loopOf s (adLoop (axOf s n).desc)).desc ≠ none)
    (hhold : (loopOf s (adLoop (axOf s n).desc)).hold = false) (hmode : (loopOf s (adLoop (axOf s n).desc)).mode = .auto) : axLinks s n = s := by
  unfold axLinks
  dsimp only
  split
  · rfl
  · refine (if_neg (by simp [hbad, himplaus])).trans ?_
    split
    · exact if_neg (by simp [hhold, hmode, hdesc])
    · rfl

/-- The instant whose sample a servo's commit at `q` is for (R426). -/
def servoInstant (s : State) (n q : Nat) (d : Bytes) : Nat :=
  let l := loopOf s (adLoop (axOf s n).desc)
  if q + 1000 ≤ l.due then l.due else loopInstant d l.domOff (q + 1000)

theorem servoTick_answers {q u : Nat} {d : Bytes} (hcan : canonical s) (hkind : adKind (axOf s n).desc = 2)
    (hdesc : (loopOf s (adLoop (axOf s n).desc)).desc = some d) (hhold : (loopOf s (adLoop (axOf s n).desc)).hold = false)
    (hmode : (loopOf s (adLoop (axOf s n).desc)).mode = .auto) (hbad : (fbkCh s (adFbk (axOf s n).desc)).bad = false)
    (himplaus : (fbkCh s (adFbk (axOf s n).desc)).implaus = false) (hstate : (axOf s n).state = .moving) (hhomed : (axOf s n).homed = false)
    (hhoming : (axOf s n).homing = none) (hdone : axDone (axOf s n) (max s.tmb.now q) = false) (hu : u = servoInstant s n (max s.tmb.now q) d) :
    Answers (.servoTick n lv q) s fun r =>
      (axOf r n).state = .moving ∧ (axOf r n).pos = nearestQ (axAt (axOf s n) u).1 ∧ (axOf r n).vel = nearestQ (axAt (axOf s n) u).2.1 ∧
        r.tmb.now = max s.tmb.now q := by
  have bring := stands_axBring u (stands_axLevels hcan n lv q)
  have hnow : (axBring (axLevels (advance s q) n lv) n u).tmb.now = max s.tmb.now q := now_mono axBring_moves
      (now_mono axLevels_moves (advance_now s q))
  have hat : (if (axLevels (advance s q) n lv).tmb.now + 1000 ≤ (loopOf s (adLoop (axOf s n).desc)).due then (loopOf s (adLoop (axOf s n).desc)).due
      else loopInstant ((loopOf s (adLoop (axOf s n).desc)).desc.getD []) (loopOf s (adLoop (axOf s n).desc)).domOff
        ((axLevels (advance s q) n lv).tmb.now + 1000)) = u := by
    rw [hu, servoInstant, now_mono axLevels_moves (advance_now s q), hdesc]
    rfl
  show ∃ r, execServoTick n lv q s = .next r ∧ _
  unfold execServoTick
  dsimp only
  rw [if_neg (by simp [hkind, hdesc]), hat, axSoft_of_unhomed (by rw [bring.axOf]; exact hhomed),
    axEnd_of_running (by rw [bring.axOf, hnow]; exact hdone)]
  rw [show (axOf (axBring (axLevels (advance s q) n lv) n u) n).homing = none by rw [bring.axOf]; exact hhoming]
  dsimp only
  generalize [(112, _), (116, _)].filterMap _ = writes
  have written := (writeGroup_moves (l := writes)).axAt bring
  have moved : Moves [.regs, .tmb, .pst, .hif, .recd, .cap, .mot, .wlk, .mram, .out] s
      (writeGroup (axBring (axLevels (advance s q) n lv) n u) writes) :=
    writeGroup_moves.after (axBring_moves.after (axLevels_moves.after advance_moves.mono))
  refine ⟨_, congrArg ok (axLinks_of_servo ?_ ?_ ?_ ?_ ?_), ?_⟩
  all_goals simp only [written.axOf, fbkCh_congr moved.fbk, loopOf_congr moved.anv]
  · exact hbad
  · exact himplaus
  · exact fun h => by simp [brought, hdesc] at h
  · exact hhold
  · exact hmode
  · exact ⟨hstate, rfl, rfl, now_mono writeGroup_moves hnow⟩

end

/-- Settles O27: each event of an axis follows the branch its hypotheses name, and the events, pins and steps behind it leave the axis's record as
that branch has set it. -/
theorem axesMoveAsTheirRulesSay : Obligations.AxesMoveAsTheirRulesSay := by
  unfold Obligations.AxesMoveAsTheirRulesSay
  exact ⟨fun _ _ _ _ _ _ => motStart_answers, fun _ _ _ _ _ => motStop_answers, fun _ _ _ _ _ => motHome_answers,
    fun _ _ _ _ => stepperTick_answers, fun _ _ _ _ _ _ => stepPulse_answers, fun _ _ _ => stepPulseFall_answers,
    fun _ _ _ _ _ _ => servoTick_answers, fun _ _ _ _ => limitSwitchActive_answers, fun _ _ _ _ _ => homeSwitchEdge_ends_phase1,
    fun _ _ _ _ _ => homeSwitchEdge_references, fun _ _ _ _ => homingTimeout_answers, fun _ _ _ => pgoodLoss_answers,
    fun _ _ _ _ => pgoodRise_answers, fun _ _ _ => driveSettleEnd_enables, fun _ _ _ => driveSettleEnd_restores,
    fun _ _ _ _ => phaseRestoreStep_goes, fun _ _ _ => phaseRestoreStep_enables, fun _ _ _ _ => driveEnableDelay_answers,
    fun _ _ _ _ => pgoodTimeout_answers⟩

end Sys2Proof.Machine
end
